-- ==== Sys2Proof/Word.lean ====
section
/-!
DEFINITION. Bytes, big-endian fields, saturating counters and the time units every file of the model uses.
The T2040's fields are stored high byte first (spec/17 R440, spec/14 R384); its counters stop at their greatest value.
-/

namespace Sys2Proof

/-- One byte on a line, in a record or in a dictionary value. -/
abbrev Byte := BitVec 8

/-- `w` bytes of `n`, high byte first. -/
def beBytes : Nat → Nat → List Byte
  | 0, _ => []
  | w + 1, n => BitVec.ofNat 8 (n >>> (8 * w)) :: beBytes w n

/-- The number that bytes spell, high byte first. -/
def ofBytes (bs : List Byte) : Nat := bs.foldl (fun acc b => acc * 256 + b.toNat) 0

def u8 (n : Nat) : List Byte := beBytes 1 n
def u16 (n : Nat) : List Byte := beBytes 2 n
def u32 (n : Nat) : List Byte := beBytes 4 n
def u64 (n : Nat) : List Byte := beBytes 8 n

/-- A signed value as the unsigned number of its `bits`-bit two's complement. -/
def ofSigned (bits : Nat) (i : Int) : Nat := (i % (2 ^ bits : Int)).toNat

/-- The signed value of a `bits`-bit two's complement number. -/
def toSigned (bits n : Nat) : Int := if n < 2 ^ (bits - 1) then (n : Int) else (n : Int) - 2 ^ bits

def i16 (i : Int) : List Byte := u16 (ofSigned 16 i)
def i32 (i : Int) : List Byte := u32 (ofSigned 32 i)

/-- Bits `hi` down to `lo` of `n`. -/
def bits (n hi lo : Nat) : Nat := (n >>> lo) % 2 ^ (hi - lo + 1)

/-- `b` as bit `k` of a word under assembly. -/
def bitAt (b : Bool) (k : Nat) : Nat := if b then 2 ^ k else 0

/-- The bits a write of ones clears: the bits of `m` are removed from `n`. -/
def clearBits (n m : Nat) : Nat := n &&& (n ^^^ m)

/-- A count that stops at its greatest value `m` instead of wrapping. -/
def satAdd (m n k : Nat) : Nat := min m (n + k)

def max32 : Nat := 0xFFFFFFFF
def sat32 (n : Nat) : Nat := satAdd max32 n 1

/-- Clamp of a signed value. -/
def clampInt (lo hi v : Int) : Int := if v < lo then lo else if hi < v then hi else v

/-- The map of the indices below `n` that satisfy `p`, bit `k` for index `k`. -/
def mapBits (n : Nat) (p : Nat → Bool) : Nat := ((List.range n).map fun k => bitAt (p k) k).foldl (· + ·) 0

/-- Rounding to nearest, ties to even, of `a / b`. -/
def roundHalfEven (a : Int) (b : Nat) : Int :=
  let q := a / (b : Int)
  let r := a % (b : Int)
  if 2 * r < b then q else if (b : Int) < 2 * r then q + 1 else if q % 2 = 0 then q else q + 1

/-- Nanoseconds of a microsecond, a millisecond and a second. -/
def us (n : Nat) : Nat := n * 1000
def ms (n : Nat) : Nat := n * 1000000
def sec (n : Nat) : Nat := n * 1000000000

end Sys2Proof
end

