-- ==== Sys2Proof/Machine/Operands.lean ====
section
/-!
DEFINITION. The forms of the commands' operands: who sends a request (14 R378), a sealed request and its head (14 R392),
the outcomes a start meets (spec/03), and the causes and outcomes the plant and the gate channels report.
-/

namespace Sys2Proof

/-- Where a request comes from: interface code 0 to 5 and partner address (14 Table 14-1). -/
structure Src where
  iface : Fin 6
  addr : Nat
  deriving DecidableEq, Repr

/-- The head of a sealed request (14 Table 14-7) and its signature of 64 bytes. -/
structure SealHead where
  src : Src
  magic : Nat
  format : Nat
  slot : Nat
  counter : Nat
  serial : Nat
  sig : List Byte
  deriving DecidableEq, Repr

/-- One item of a sealed request (14 R392). -/
structure SealItem where
  index : Nat
  sub : Nat
  data : List Byte
  deriving DecidableEq, Repr

/-- A sealed request (14 Table 14-7). `count` is its ITEMS byte. -/
structure SealedReq where
  head : SealHead
  count : Nat
  items : List SealItem
  deriving DecidableEq, Repr

/-- The bytes of an item. -/
def SealItem.bytes (i : SealItem) : List Byte := u16 i.index ++ u16 i.sub ++ u16 i.data.length ++ i.data

/-- The signed bytes of a request: all that stands before its signature. -/
def SealedReq.message (r : SealedReq) : List Byte :=
  u8 r.head.magic ++ u8 r.head.format ++ u8 r.head.slot ++ u8 r.count ++ u64 r.head.counter ++ u64 r.head.serial ++
    (r.items.map SealItem.bytes).flatten

/-- The bytes of a request, its signature last (14 Table 14-7). -/
def SealedReq.bytes (r : SealedReq) : List Byte := r.message ++ r.head.sig

/-- First item of a request, for its reply and its record. -/
def SealedReq.first (r : SealedReq) : SealItem := r.items.headD ⟨0, 0, []⟩

/-- The request of one item. -/
def SealHead.one (h : SealHead) (index sub : Nat) (data : List Byte) : SealedReq :=
  { head := h, count := 1, items := [⟨index, sub, data⟩] }

/-- What a start meets in the module (03 R79 to R81, R101): the cores that pass their self-test (bit c), the failing SRAM
rows, the sensors at or above 115 degC (bit k for TS(k+1)), and whether the RTC capacitor has run down. -/
structure StartFindings where
  cores : Nat
  rows : List Nat
  hot : Nat
  rtcLost : Bool
  deriving DecidableEq, Repr

/-- Causes of a system reset (03 Table 3-5). -/
inductive SysCause where
  | thermal | sealed | escalated
  deriving DecidableEq, Repr

/-- Causes of a processor restart (03 Table 3-5). -/
inductive ProcCause where
  | sealed | watchdog | sram
  deriving DecidableEq, Repr

/-- Read-back faults of a gate channel (10 R269), and the release of the comparator. -/
inductive ReadbackCause where
  | on | open_ | off | restored
  deriving DecidableEq, Repr

/-- How a comparator self-test ends (10 R283, R284). -/
inductive SelfTestEnd where
  | passed | failedDidt | failedUvlo | failedRb | aborted
  deriving DecidableEq, Repr

/-- Where KS-PS comes to lie against the comparator's two thresholds (10 R271 to R273): below both, above the normal one, above the hard one. -/
inductive DidtLevel where
  | below | normal | hard
  deriving DecidableEq, Repr

/-- The two ends of a rope (01 R4): port A and port B. -/
inductive PortEnd where
  | a | b
  deriving DecidableEq, Repr

def PortEnd.other : PortEnd → PortEnd
  | .a => .b
  | .b => .a

/-- Bit of an end in a map of the two. -/
def PortEnd.bit : PortEnd → Nat
  | .a => 0
  | .b => 1

/-- Where an SRAM error lies (03 R89, 18 R474): the processor's own data, a string's part of the running traverse's buffer
(05 R167), a string's part of the slow buffer that is being filled (05 R168), the estimator's state (03 R91), or none of these. -/
inductive SramOwner where
  | processor
  | buffer (i : Fin 40)
  | slowBuffer (i : Fin 40)
  | estimator
  | other
  deriving DecidableEq, Repr

/-- Kinds of flash error (18 R476). -/
inductive FlashErrorKind where
  | corrected | failed
  deriving DecidableEq, Repr

/-- What a window of the SYS oscillator check shows (18 R477). -/
inductive OscFinding where
  | good | deviates | noEdge
  deriving DecidableEq, Repr

/-- A master frame as one node receives it (04 Table 4-2): the rope, the node's physical place counted from end A with the H1 at
place 0, the end it came from, and the bytes of the frame from its preamble to its CRC-16. -/
structure NodeRx where
  string : Fin 40
  place : Fin 33
  from_ : PortEnd
  bytes : List Byte
  deriving DecidableEq, Repr

/-- The sample a node holds from its last strobe (05 R143, 04 Table 4-4): 16 cell voltages of a C16, or the H1's values. In a history of the
filter output `iMean` is the integral of the anti-aliased string current up to that value, mA x us, from which a strobe forms `I_MEAN` (05 R149). -/
structure HeldSample where
  cells : List Nat
  iLatch : Int
  iMean : Int
  vString : Nat
  iCheck : Int
  shunt : Int
  deriving DecidableEq, Repr

/-- What a port engine's transaction is (04 Table 4-6, 05 R157): the traverse read, a far read or retry of it, `READ_TEMP`, `READ_HK`,
`CONTINUITY`, `HOP_ECHO`, `SET_BALANCE` and `OPEN_WIRE` with their mask, `SET_FILTER` with its code, and an addressed `SET_CONFIG`. -/
inductive ReadKind where
  | traverse | far | retry | temp | hk | continuity | echo | setBalance (mask : Nat) | setFilter (code : Nat) | setConfig
  | openWire (mask : Nat)
  deriving DecidableEq, Repr

/-- One node as a roll call finds it (04 R117): part code, serial number, `SRC`, `ACC` and `WAKE_PENDING` of its last reply, and the round-trip
times of its 16 `HOP_ECHO`, ns. -/
structure RollNode where
  part : Nat
  serial : Nat
  src : Nat
  acc : Nat
  wake : Bool
  echoes : List Nat
  deriving DecidableEq, Repr

/-- A whole number nearest to the mean of a list, halves up; 0 of none. -/
def meanNat (xs : List Nat) : Nat := (2 * xs.foldl (· + ·) 0 + xs.length) / (2 * xs.length)

/-- RTT_h: the mean of the echoes with 1 ns resolution (04 R117). -/
def RollNode.rtt (n : RollNode) : Nat := meanNat n.echoes

/-- What an Ethernet frame that is no dictionary request carries (19 R483, 14 R381): an ARP packet, an ICMP echo request, UDP for another
port, a dictionary datagram that is malformed, a frame the ports discard (tagged, IPv6, an IPv4 fragment, over 1,518 bytes, another
protocol), or a frame with a wrong check sequence. `own` is a request for the port's address. -/
inductive EthFrame where
  | arp (own : Bool) | icmpEcho | udpOther | badDatagram | foreign | badFcs
  deriving DecidableEq, Repr

/-- What the best master clock algorithm recommends on an Announce (19 R495; the algorithm of the standard is not in the spec). -/
inductive PtpAdvice where
  | master | passive | slave
  deriving DecidableEq, Repr

/-- A PTP message with what the clock takes from it (19 R493, R495); times are ns of the sender's clock. `offset` is `currentUtcOffset`
where it is valid, `leap` 0 none, 1 leap61, 2 leap59. -/
inductive PtpMsg where
  | announce (gm : Nat) (advice : PtpAdvice) (offset : Option Int) (leap : Nat)
  | sync (seq : Nat)
  | followUp (seq : Nat) (origin : Int)
  | delayReq (seq : Nat)
  | delayResp (seq : Nat) (received : Int)
  | pdelayReq (seq : Nat)
  | pdelayResp (seq : Nat) (received : Int)
  | pdelayRespFollowUp (seq : Nat) (origin : Int)
  | management
  deriving DecidableEq, Repr

/-- A received CAN frame (13 R351): identifier, extended format, FD format, `BRS`, `ESI`, remote frame, DLC and data. -/
structure CanFrame where
  id : Nat
  ext : Bool
  fd : Bool
  brs : Bool
  esi : Bool
  remote : Bool
  dlc : Nat
  data : List Byte
  deriving DecidableEq, Repr

/-- The bit errors and other errors a controller detects (13 Table 13-15, ISO 11898-1). -/
inductive CanErrorKind where
  | bit | stuff | form | crc | ack
  deriving DecidableEq, Repr

/-- How a transmission ends (13 R360). -/
inductive TransmitEnd where
  | success | lost | error
  deriving DecidableEq, Repr

end Sys2Proof
end

