-- ==== Sys2Proof/Syntax.lean ====
section
/-!
DEFINITION. The commands of the block: one constructor per row of spec/opcode_table.json, in the table's order, with the
operands the row's rule speaks of. A command is one event of the spec: a request of a partner, an event of the plant,
the end of an interval, or a step of an agent of the block (spec/95).
-/

namespace Sys2Proof

inductive Instr where
  /-- POWER_ON_START (R74): The supply input rising through 18.5 V starts a power-on, which runs the steps of Table 3-1 in order. -/
  | powerOnStart (f : StartFindings)
  /-- GATE_RAILS_UP (R78): The isolated gate rails pass UVLO, D1 to D4 are driven on and the S and C gates are held at -4 V. -/
  | gateRailsUp
  /-- STARTUP_COMPLETE (R75): Once every start condition is met, the block enters STANDBY and raises event 0xE001. -/
  | startupComplete
  /-- IMAGE_CONFIRM (R84): After 60 s in STANDBY or a later state without a restart, firmware confirms an unconfirmed image. -/
  | imageConfirm
  /-- SYSTEM_RESET (R90): A system reset opens the power path, discards hall passes and resumes the start at the 5 ms row. -/
  | systemReset (c : SysCause) (f : StartFindings)
  /-- PROCESSOR_RESTART (R91): The cores restart while the belay logic holds the power path and the fabric keeps running. -/
  | processorRestart (c : ProcCause)
  /-- WATCHDOG_WARNING (R92): The watchdog, unserviced for 75 ms, raises IRQ 115. -/
  | watchdogWarning
  /-- WATCHDOG_EXPIRY (R92): The watchdog, unserviced for 100 ms, starts a processor restart. -/
  | watchdogExpiry
  /-- RESET_REQUEST_RESTART (R94): A sealed RESET_REQUEST of 0x01 requests a processor restart, which begins 10 ms after the reply. -/
  | resetRequestRestart (h : SealHead)
  /-- RESET_REQUEST_SYSTEM (R94): A sealed RESET_REQUEST of 0x02 requests a system reset after the write-back and flush of a planned shutdown. -/
  | resetRequestSystem (h : SealHead)
  /-- POWER_FAIL_WARNING (R97): The input falling through 17.0 V sets PFW; hold-up takes the load and firmware flushes and writes back learned data. -/
  | powerFailWarning
  /-- POWER_FAIL_WITHDRAWN (R68): The input rising through 17.5 V clears PFW. -/
  | powerFailWithdrawn
  /-- BELAY_SUPPLY_WARNING (R70): At the end of hold-up the belay logic drives S and C off and D on, and the module holds itself in reset. -/
  | belaySupplyWarning
  /-- INPUT_OVERVOLTAGE (R68): Input above 33.0 V for 1 ms sets IN_OV_SEEN and raises event 0xD031. -/
  | inputOvervoltage
  /-- HOLDUP_RECHARGED (R71): The storage becomes full, HOLDUP_READY is set and the storage is measured. -/
  | holdupRecharged (e : Nat) (above20 : Bool)
  /-- HOLDUP_MEASUREMENT (R71): Every 24 h the storage is measured by a 5 ms calibrated load and HOLDUP_E is updated. -/
  | holdupMeasurement (e : Nat) (above20 : Bool)
  /-- VQ_LOSS (R57): VQ falling below 18.0 V clears VQ_PRESENT and treats every energised output as dropped. -/
  | vqLoss
  /-- VQ_RESTORED (R57): VQ at or above 20.0 V for 100 ms sets VQ_PRESENT again. -/
  | vqRestored
  /-- VQ_OVERCURRENT (R57): A total VQ current above 20 A for 100 ms sets VQ_OVER and raises event 0x7021. -/
  | vqOvercurrent
  /-- PROV_STRAP_CHANGE (R62): The PROV strap changes state after a steady 50 ms, raising IRQ 122 and event 0xE020. -/
  | provStrapChange
  /-- THERMAL_SHUTDOWN (R435): A 115 degC comparator tripped for 1 ms opens every string, clamps the links, drops outputs and discards passes. -/
  | thermalShutdown (sensors : Nat)
  /-- THERMAL_HOLD (R100): 50 ms after a thermal shutdown the belay logic holds SYS and CPU in reset and powers down the PHYs. -/
  | thermalHold
  /-- THERMAL_RESTART (R100): When every unfailed sensor reads below 90 degC the belay logic starts a system reset with cause THERMAL. -/
  | thermalRestart (f : StartFindings)
  /-- TRAVERSE_TRIGGER_ISSUE (R142): At the end of the announced period the sequencer starts TRIGGER on all ports and latches the link voltages. -/
  | traverseTriggerIssue (links : Vector (Option Nat) 4) (busy : List Nat) (bad : List (Nat × Nat))
  /-- REPLY_RECEIVED (R113): The port engine receives a node reply and accepts it or counts it as failed or stale. -/
  | replyReceived (i : Fin 40) (e : PortEnd) (kind : ReadKind) (p : Fin 33) (data : List Byte)
  /-- REPLY_TIMEOUT (R113): No sync by E_h + 4 us makes the reply missing and may queue a far read or retry. -/
  | replyTimeout (i : Fin 40) (e : PortEnd) (kind : ReadKind) (p : Fin 33) (noLock : Bool)
  /-- DISTRIBUTOR_DELIVER (R17): The port distributor moves bytes from port queues to the belay tap and the DMA staging queue. -/
  | distributorDeliver (stall : Bool)
  /-- BELAY_REPLY_EVAL (R114): The belay logic takes a frame from the tap, checks its CRC and acceptance, and judges it against the envelope. -/
  | belayReplyEval
  /-- ENVELOPE_TRIP (R296): A confirmation count reaching its value trips the string with the cause of its item. -/
  | envelopeTrip (i : Fin 40)
  /-- UNSEEN_LIMIT_REACHED (R131): A position unseen for more than the unseen limit opens and trips its string with UNSEEN. -/
  | unseenLimitReached (i : Fin 40)
  /-- MISSING_TRAVERSE_DETECT (R35): No tap entry for 2 x T_trav + 1 ms makes the belay logic add 2 to every unseen count. -/
  | missingTraverseDetect
  /-- MISSING_TRAVERSE_INTERVAL (R299): Each further announced period without a tap entry adds 1 to every unseen count. -/
  | missingTraverseInterval
  /-- TRAVERSE_COMPLETE (R167): Every served position accepted or missing marks the buffer COMPLETE and firmware publishes it. -/
  | traverseComplete
  /-- LINK_SENSE_LOST (R255): A link entry missing or failed for 3 traverses faults the bank or sets LINK_SENSE_LOST when LIVE. -/
  | linkSenseLost (b : Fin 4)
  /-- ROPE_MODE_CHANGE (R124): At a traverse boundary the rope changes mode, sending SET_SERVE to the positions concerned. -/
  | ropeModeChange (i : Fin 40)
  /-- PORT_TO_SPARE (R134): A port whose port class became lasting moves to its group's spare PHY at the traverse boundary. -/
  | portToSpare (port : Fin 80)
  /-- SLOW_ROUND_COMPLETE (R160): Every monitor read or found missing marks the slow buffer complete and raises IRQ 13. -/
  | slowRoundComplete
  /-- ROLL_CALL_REQUEST (R121): Writing 0x01 to ROLL_CALL starts a roll call of a string in SERVICE, or is refused. -/
  | rollCallRequest (src : Src) (i : Fin 40) (v : Nat)
  /-- ROLL_CALL_COMPLETE (R120): The end of roll call sets the rope mode and the string state and raises IRQ 8. -/
  | rollCallComplete (i : Fin 40) (a b : List RollNode)
  /-- PARTIAL_ROLL_CALL_COMPLETE (R125): The returning end passes or fails its partial roll call, and the rope becomes RING or the request is refused. -/
  | partialRollCallComplete (i : Fin 40) (nodes : List RollNode)
  /-- ROPE_MODE_REQ (R125): A rope mode request is stored and evaluated at the next traverse boundary. -/
  | ropeModeReq (src : Src) (i : Fin 40) (v : Nat)
  /-- STATS_CLEAR (R138): Writing bit 0 clears all counters of the string. -/
  | statsClear (src : Src) (i : Fin 40) (v : Nat)
  /-- ROLL_CALL_A (R117): A node takes the offered address as its position, replies and passes the frame on incremented. -/
  | rollCallA (f : NodeRx)
  /-- ROLL_CALL_B (R117): A node takes the offered value as its B-hop, replies and passes the frame on incremented. -/
  | rollCallB (f : NodeRx)
  /-- HOP_ECHO (R117): The addressed node replies at once with its identity for round-trip measurement. -/
  | hopEcho (f : NodeRx)
  /-- SET_SERVE (R143): Nodes take their serving end, deepest hop and hop delay, applied from the next TRIGGER. -/
  | setServe (f : NodeRx)
  /-- CONTINUITY (R123): The addressed node replies at once, confirming the path across the boundary. -/
  | continuity (f : NodeRx)
  /-- TRIGGER (R143): A node accepting TRIGGER schedules its latch strobe and recess from the payload. -/
  | trigger (f : NodeRx)
  /-- LATCH_STROBE (R143): At its strobe the node takes the hop-compensated look-back sample, sets LATCHED and TAG. -/
  | latchStrobe (i : Fin 40) (place : Fin 33) (history : List HeldSample) (temps : List Int) (hk : List Nat) (hot : Bool)
  /-- RECESS_START (R152): A C16 opens all balance switches t_rec + 2 us before the announced alignment instant. -/
  | recessStart (i : Fin 40) (place : Fin 33)
  /-- READ_HELD (R112): Nodes in the range reply in their slots with the held traverse sample. -/
  | readHeld (f : NodeRx)
  /-- READ_TEMP (R159): The monitor replies in its slot with its 32 slow-held temperatures. -/
  | readTemp (f : NodeRx)
  /-- READ_HK (R418): Monitors in the range reply in their slots with their 16 housekeeping channels. -/
  | readHk (f : NodeRx)
  /-- OPEN_WIRE (R179): The monitor acknowledges and tests the sense lines of the masked channel. -/
  | openWire (f : NodeRx) (open_ : Bool)
  /-- SET_BALANCE (R177): The monitor takes a new balance mask and clears BAL_STOPPED, or refuses it in base camp. -/
  | setBalance (f : NodeRx)
  /-- SET_FILTER (R156): The monitor sets its digital filter corner and acknowledges. -/
  | setFilter (f : NodeRx)
  /-- SET_CONFIG (R136): The node takes its communication-loss timeout and base-camp fields. -/
  | setConfig (f : NodeRx)
  /-- BASE_CAMP (R184): A C16 accepting BASE_CAMP with ENTER opens its switches and begins periodic base-camp wakes. -/
  | baseCamp (f : NodeRx)
  /-- NOP (R117): Every node clears its serving end so that no node stops any frame. -/
  | nop (f : NodeRx)
  /-- COMM_LOSS_TIMEOUT (R136): A C16 that accepted no command for the timeout opens its balance switches and sets BAL_STOPPED. -/
  | commLossTimeout (i : Fin 40) (place : Fin 33)
  /-- BASE_CAMP_WAKE_MEASURE (R184): At each wake period a monitor measures its cells and thermistors against the base-camp window. -/
  | baseCampWakeMeasure (i : Fin 40) (place : Fin 33) (cells : List Nat) (temps : List Int)
  /-- WAKE_TONE_SEND (R184): A confirmed violation sets WAKE_PENDING and sends a wake tone, repeated after 1 s and 2 s. -/
  | wakeToneSend (i : Fin 40) (place : Fin 33)
  /-- WAKE_TONE_REPEAT (R185): A node detecting a tone for 100 us repeats it on its other port. -/
  | wakeToneRepeat (i : Fin 40) (place : Fin 33) (e : PortEnd)
  /-- TRAV_PERIOD_WRITE (R150): A sealed TRAV_PERIOD write is checked and applies from the next trigger. -/
  | travPeriodWrite (r : SealedReq)
  /-- RECESS_WRITE (R154): A RECESS write is checked against its range and TRAV_PERIOD and applies from the next trigger. -/
  | recessWrite (src : Src) (v : Nat)
  /-- SLOW_PERIOD_WRITE (R159): A sealed SLOW_PERIOD write takes effect at the next slow-round boundary. -/
  | slowPeriodWrite (r : SealedReq)
  /-- BAL_MODE_WRITE (R172): A balancing mode write takes effect at the next traverse boundary and raises 0xE014. -/
  | balModeWrite (src : Src) (v : Nat)
  /-- BAL_MASK_REQ_WRITE (R176): A directed mask write is inhibited as needed and sent when it changes the mask. -/
  | balMaskReqWrite (src : Src) (i : Fin 40) (data : List Byte)
  /-- BAL_DIRECT_HOLD_EXPIRY (R176): No directed write for BAL_DIRECT_HOLD zeros the string's masks and raises 0x101B. -/
  | balDirectHoldExpiry (i : Fin 40)
  /-- OPEN_WIRE_TEST_DUE (R179): Each OW_PERIOD firmware tests every channel of every reached monitor and updates OW_MAP. -/
  | openWireTestDue
  /-- OW_DEFER_EXPIRY (R180): A test deferred for OW_DEFER_MAX clears a mask bit for one round and tests the channel. -/
  | owDeferExpiry (i : Fin 40) (p : Fin 33) (j : Fin 16)
  /-- BASE_CAMP_ENTER_REQ (R181): A write of 0x01 to BASE_CAMP_REQ is checked and runs the entry sequence of R182. -/
  | baseCampEnterReq (src : Src)
  /-- BASE_CAMP_LEAVE_REQ (R186): A write of 0x00 to BASE_CAMP_REQ wakes the block and starts the exit sequence. -/
  | baseCampLeaveReq (src : Src) (core : Bool) (gates : List (Nat × Nat))
  /-- WAKE_TONE_DETECTED (R186): A port detecting a wake tone wakes the block from base camp. -/
  | wakeToneDetected (i : Fin 40) (e : PortEnd) (core : Bool) (gates : List (Nat × Nat))
  /-- WAKE_IN_RISE (R186): WAKE_IN rising high in base camp wakes the block. -/
  | wakeInRise (core : Bool) (gates : List (Nat × Nat))
  /-- BASE_CAMP_EXIT_COMPLETE (R187): After roll call and the first full slow round, the block leaves base camp for STANDBY. -/
  | baseCampExitComplete
  /-- WAKE_OUT_ACK (R188): Writing 1 to WAKE_OUT_ACK releases the WAKE_OUT contact after its minimum 1 s. -/
  | wakeOutAck (src : Src) (v : Nat)
  /-- CORRELATION_UPDATE (R196): When buffer n is published or n + 2 complete, the engine updates the band filters and sums. -/
  | correlationUpdate
  /-- BATCH_HANDOVER (R197): At each batch end the engine hands the sums into the result area or holds or discards a batch. -/
  | batchHandover
  /-- RESULT_TAKEN (R198): Firmware sets TAKEN, letting the engine write the next batch. -/
  | resultTaken
  /-- CORR_ENABLE_WRITE (R200): CORR_ENABLE takes effect at the next batch end; 0 discards the partial batch. -/
  | corrEnableWrite (src : Src) (v : Nat)
  /-- SD_WINDOW_END (R205): At each SD_WINDOW end firmware computes relative self-discharge and sets ISC_LEVEL. -/
  | sdWindowEnd
  /-- ESTIMATOR_STEP (R216): An estimator step applies counting, anchors, capacity learning, SoC and current limits. -/
  | estimatorStep (erases : Vector Nat 3)
  /-- LEARN_WRITE_REQ (R233): Writing 0x01 requests an extra learned-data write-back at the next step. -/
  | learnWriteReq (src : Src) (v : Nat)
  /-- LEARN_WRITEBACK_PERIODIC (R233): Every 6 h from the start a learned-data write-back is made. -/
  | learnWritebackPeriodic
  /-- LEARNED_COPY_WRITTEN (R453): A completed learned-data copy raises IRQ 105 and the next copy or the history set follows. -/
  | learnedCopyWritten
  /-- CLOSE (R248): A sealed CLOSE creates a close pass, which firmware accepts into MATCHING or leaves to expire. -/
  | close (h : SealHead) (i : Fin 40) (v : Nat)
  /-- PRECHARGE (R256): A sealed PRECHARGE creates a close pass with PRECHARGE, which firmware checks and accepts or refuses. -/
  | precharge (h : SealHead) (b : Fin 4) (v : Nat)
  /-- UNLOCK (R246): A sealed UNLOCK creates an unlock pass that clears latches when every held cause is absent. -/
  | unlock (h : SealHead) (i : Fin 40) (v : Nat)
  /-- HALL_PASS_TAKEN (R26): The belay logic takes a pass from the privileged queue, checks it, and starts its 2 s validity. -/
  | hallPassTaken
  /-- HALL_PASS_EXPIRY (R27): An unconsumed pass expires after 2 s and is removed. -/
  | hallPassExpiry (t : Fin 56)
  /-- CLOSE_GRANT (R253): A close request visible to the belay logic is granted, waits or is discarded. -/
  | closeGrant (i : Fin 40)
  /-- STRING_CLOSED (R253): The S gate read-back on makes the string CLOSED, and the bank LIVE when it was the source. -/
  | stringClosed (i : Fin 40)
  /-- HOLDOFF_CLEAR (R253): The bank hold-off clears at the first evaluated traverse 1 ms after the grant, releasing waiting requests. -/
  | holdoffClear (b : Fin 4)
  /-- PRECHARGE_START (R256): Once Dn reads back off the modulator starts and the bank becomes PRECHARGING. -/
  | prechargeStart (b : Fin 4)
  /-- PRECHARGE_TARGET_REACHED (R258): The link reaching v_target stops the modulator. -/
  | prechargeTargetReached (b : Fin 4) (link : Nat)
  /-- PRECHARGE_TIMEOUT (R259): PC_TIME_MAX reached before the source closes ends the pre-charge and the bank discharges. -/
  | prechargeTimeout (b : Fin 4)
  /-- OPEN (R260): Writing 0x01 to OPEN opens a CLOSED string or withdraws a MATCHING one. -/
  | openString (src : Src) (i : Fin 40) (v : Nat)
  /-- BANK_OPEN (R260): Writing 0x01 to BANK_OPEN opens every string of the bank in one BEL cycle. -/
  | bankOpen (src : Src) (b : Fin 4) (v : Nat)
  /-- TRIP_CLEAR (R245): The belay logic clears the trip latch and S fault record when every held cause is absent. -/
  | tripClear (src : Src) (i : Fin 40) (v : Nat)
  /-- EXCLUDE_SET (R247): Writing 0x01 to EXCLUDE sets the exclusion latch of an ISOLATED, TRIPPED or LOCKED_OUT string. -/
  | excludeSet (src : Src) (i : Fin 40)
  /-- EXCLUDE_CLEAR (R247): Writing 0x00 to EXCLUDE in SERVICE starts a roll call that can return the string. -/
  | excludeClear (src : Src) (i : Fin 40)
  /-- FAULT_CLEAR (R255): FAULT_CLEAR returns a FAULTED bank to DARK when its conditions hold. -/
  | faultClear (src : Src) (b : Fin 4) (v : Nat)
  /-- DISCHARGE_TIMEOUT (R255): DISCH_TIME_MAX reached while DISCHARGING faults the bank. -/
  | dischargeTimeout (b : Fin 4)
  /-- GATE_CLEAR (R280): GATE_CLEAR asks the belay logic to clear its fault records of CnH, CnL and Dn. -/
  | gateClear (src : Src) (b : Fin 4) (v : Nat)
  /-- GATE_SELFTEST (R283): Writing 0x01 runs the comparator self-test of a channel. -/
  | gateSelftest (src : Src) (c : Fin 52) (v : Nat)
  /-- GATE_SELFTEST_COMPLETE (R283): The self-test ends passed, failed with a latched fault, or aborted, raising IRQ 43. -/
  | gateSelftestComplete (c : Fin 52) (e : SelfTestEnd)
  /-- GATE_RISING_EDGE (R279): A rising command edge drives the gate on, applies a pending GATE_CFG and may clear the latch. -/
  | gateRisingEdge (c : Fin 52)
  /-- GATE_FALLING_EDGE (R269): A falling command edge drives the gate to -4 V and disarms the di/dt comparators. -/
  | gateFallingEdge (c : Fin 52)
  /-- DIDT_DETECT (R273): KS-PS above a threshold latches a di/dt fault or is held during blanking; `below`, the voltage has fallen
  below the normal threshold again, which ends the condition R279 asks about. -/
  | didtDetect (c : Fin 52) (level : DidtLevel)
  /-- BLANKING_END (R273): At blanking end a held di/dt event is confirmed as DIDT_BLANK or discarded. -/
  | blankingEnd (c : Fin 52) (above : Bool)
  /-- UVLO_DETECT (R274): A rail below UVLO for 1 us latches a UVLO fault and turns the channel to its safe state; without `low`, a rail
  that was below is up again (log 128). -/
  | uvloDetect (c : Fin 52) (neg low : Bool)
  /-- READBACK_FAULT (R269): A failed read-back level or hold-current check latches RB_ON, RB_OFF or RB_OPEN. -/
  | readbackFault (c : Fin 52) (e : ReadbackCause) (reached : Bool)
  /-- GATE_FAULT_REPORT (R276): The belay logic sets its fault record and trips, faults or clamps the owner as the channel type requires. -/
  | gateFaultReport (c : Fin 52)
  /-- SOFT_OFF_END (R277): Soft-off ends at +2 V or 4 us and the gate is held low. -/
  | softOffEnd (c : Fin 52)
  /-- COINCIDENT_WINDOW_END (R281): The 1 us window closing records one coincident fault event 0x5008. -/
  | coincidentWindowEnd
  /-- ENVELOPE_RECORD (R306): The belay logic stages a record and commits or refuses the request once all records are held. -/
  | envelopeRecord
  /-- MIRROR_DIGEST_COMPARE (R311): The belay logic compares firmware's mirror digest with its own when commit counts agree. -/
  | mirrorDigestCompare
  /-- TEST_PULSE_OFF (R319): A test-pulse supply turns off for 200 us at its phase of the 20 ms cycle. -/
  | testPulseOff (k : Fin 4)
  /-- CROSS_SHORT_CHECK_SAMPLE (R327): A check sample 150 us into an off-pulse verifies each test-pulsed channel. -/
  | crossShortCheckSample (k : Fin 4) (before during : Nat)
  /-- TEST_PULSE_SUPPLY_FAULT (R320): A supply fault latches, switches the supply off and opens its channels. -/
  | testPulseSupplyFault (k : Fin 4) (cause : Fin 3)
  /-- TP_CLEAR (R320): Writing a TP_CLEAR bit restarts a supply free of faults for 100 ms. -/
  | tpClear (src : Src) (v : Nat)
  /-- INPUT_TICK (R323): At the end of each 1 ms tick the belay logic classifies, filters and evaluates every input. -/
  | inputTick (openA openB : Nat)
  /-- DISCREPANCY_FAULT (R325): A discrepancy count reaching DISC_TIME latches a discrepancy fault. -/
  | discrepancyFault (i : Fin 24)
  /-- Q_REQUEST (R335): A Q_REQUEST write energises or drops outputs without POWER_PATH. -/
  | qRequest (src : Src) (v : Nat)
  /-- Q_ENERGISE (R335): A sealed Q_ENERGISE creates an energise pass that firmware acts on or leaves to expire. -/
  | qEnergise (h : SealHead) (v : Nat)
  /-- Q_DROP (R335): Writing a Q_DROP bit drops that output and its pair. -/
  | qDrop (src : Src) (v : Nat)
  /-- Q_CLEAR (R339): Writing a Q_CLEAR bit clears the fault latch of an output and its pair when read back low. -/
  | qClear (src : Src) (v : Nat)
  /-- PULL_IN_END (R333): After 200 ms of pull-in the output enters hold and a waiting request may start. -/
  | pullInEnd (q : Fin 16)
  /-- OUTPUT_OFF_PULSE (R336): An output in hold is off-pulsed every 500 ms at its offset. -/
  | outputOffPulse (q : Fin 16) (fell vqLow : Bool)
  /-- OUTPUT_READBACK_FAULT (R338): A read-back fault latches and switches the output and its pair off. -/
  | outputReadbackFault (q : Fin 16) (code : Fin 4) (vqLow : Bool)
  /-- OPEN_LOAD (R338): A hold current below 20 mA for 100 ms sets OPEN_LOAD. -/
  | openLoad (q : Fin 16) (below : Bool)
  /-- SAFE_COPY_RECEIVED (R344): The belay logic takes a safe-message copy and pairs, accepts, discards or flags a mismatch. -/
  | safeCopyReceived (net : Fin 2) (id : Nat) (data : List Byte)
  /-- SM_WINDOW_EXPIRY (R345): SM_WINDOW expiring with one copy moves the stream to a degraded state. -/
  | smWindowExpiry (m : Fin 8)
  /-- SM_DEGRADED_EXPIRY (R345): A degraded state lasting SM_DEGRADED_TIME makes the stream EXPIRED. -/
  | smDegradedExpiry (m : Fin 8)
  /-- SM_RX_TIMEOUT (R345): SM_RX_TIMEOUT ticks since the last acceptance make the stream LOST. -/
  | smRxTimeout (m : Fin 8)
  /-- SAFE_STREAM_SEND (R368): Once per period firmware forms the device safe message and writes it to both objects. -/
  | safeStreamSend
  /-- CAN_FRAME_RECEIVED (R351): A received frame passes to the safe path, the dictionary path and the filter engine. -/
  | canFrameReceived (k : Fin 3) (f : CanFrame) (before : Nat) (own : Bool)
  /-- MO_TX_REQ (R359): Writing an object number makes an event-driven send object PENDING. -/
  | moTxReq (src : Src) (k : Fin 3) (v : Nat)
  /-- MO_CANCEL (R361): Writing an object number cancels its pending transmission. -/
  | moCancel (src : Src) (k : Fin 3) (v : Nat)
  /-- MO_DATA_WRITE (R359): A write to a send object's data replaces it now or after the transmission in progress. -/
  | moDataWrite (src : Src) (k : Fin 3) (o : Fin 128) (data : List Byte)
  /-- MO_CFG_WRITE (R355): A message object configuration write is checked and clears its status flags. -/
  | moCfgWrite (src : Src) (k : Fin 3) (o : Fin 128) (v : Nat)
  /-- BIT_TIMING_WRITE (R353): A checked bit-timing write is stored with CFG_PENDING until the next mode write. -/
  | bitTimingWrite (src : Src) (k : Fin 3) (fast : Bool) (v : Nat)
  /-- CAN_MODE (R374): A CAN_MODE write re-integrates the controller and applies pending bit timing. -/
  | canMode (src : Src) (k : Fin 3) (v : Nat) (busy : Bool)
  /-- CAN_TRANSMIT_END (R360): A transmission ends in success, lost arbitration or error, with retry or completion. -/
  | canTransmitEnd (k : Fin 3) (e : TransmitEnd)
  /-- CAN_ERROR (R369): An error changes the error counters and may set warning, error passive or bus-off. -/
  | canError (k : Fin 3) (kind : CanErrorKind) (tx rx : Nat) (clash : Option (Nat × Bool))
  /-- PROTOCOL_EXCEPTION (R350): A recessive res bit in an FD frame sends the controller to bus integration. -/
  | protocolException (k : Fin 3)
  /-- BUSOFF_RECOVER (R370): Writing 0x01 to BUSOFF_RECOVER starts recovery of a bus-off controller. -/
  | busoffRecover (src : Src) (k : Fin 3) (v : Nat)
  /-- BUSOFF_AUTO_EXPIRY (R370): After BUSOFF_AUTO seconds of bus-off firmware requests recovery. -/
  | busoffAutoExpiry (k : Fin 3)
  /-- BUSOFF_RECOVERED (R370): After 128 idle sequences the controller returns to error active. -/
  | busoffRecovered (k : Fin 3)
  /-- DUP_CLEAR (R372): Writing 0x01 clears DUP_NODE and every CLASH_OFF of the controller. -/
  | dupClear (src : Src) (k : Fin 3) (v : Nat)
  /-- REFERENCE_RECEIVED (R366): A reference message synchronises the cycle and may make a master a backup. -/
  | referenceReceived (k : Fin 3) (id cycle quality utc : Nat) (lost : Bool)
  /-- REFERENCE_SEND (R366): A master sends a reference when its cycle time reaches TT_CYCLE_LEN. -/
  | referenceSend (k : Fin 3)
  /-- BACKUP_TAKEOVER (R366): A backup that sees no reference in its time sends its own and becomes master. -/
  | backupTakeover (k : Fin 3)
  /-- TT_SYNC_LOSS (R366): A slave that sees no reference in time loses synchronisation. -/
  | ttSyncLoss (k : Fin 3)
  /-- TT_MARK (R364): At a time mark a slot sends, arbitrates, opens a free window or checks reception. -/
  | ttMark (k : Fin 3) (mark : Nat) (idle : Bool)
  /-- READ (R386): A READ takes or continues a consistent copy and replies with READ_REPLY. -/
  | read (src : Src) (index sub offset : Nat) (raw : List Byte)
  /-- WRITE (R385): A WRITE segment is checked and, on completing TOTAL, the value is applied and recorded. -/
  | write (src : Src) (index sub total offset : Nat) (data raw : List Byte)
  /-- HEARTBEAT (R403): A partner heartbeat records its period and is answered over UDP. -/
  | heartbeat (src : Src) (state period : Nat) (raw : List Byte)
  /-- TRANSFER_TIMEOUT (R387): An open transfer idle for 1 s is discarded with ABORT TIMEOUT. -/
  | transferTimeout (src : Src)
  /-- PARTNER_HEARTBEAT_TIMEOUT (R403): 1.5 or 3 heartbeat periods without a heartbeat make the partner late or lost. -/
  | partnerHeartbeatTimeout (src : Src)
  /-- PARTNER_AGE_EXPIRY (R402): A partner without heartbeat silent for PARTNER_AGE leaves the table. -/
  | partnerAgeExpiry (src : Src)
  /-- DEVICE_HEARTBEAT_SEND (R403): Every HB_PERIOD the device sends its heartbeat on each active controller. -/
  | deviceHeartbeatSend
  /-- SEALED_ENVELOPE_REQUEST (R305): A verified request of envelope records is range-checked and forwarded to the belay logic. -/
  | sealedEnvelopeRequest (r : SealedReq)
  /-- SEALED_SAFETY_IO_REQUEST (R317): A verified request of safety I/O records is forwarded to the belay logic for commit. -/
  | sealedSafetyIoRequest (r : SealedReq)
  /-- SEALED_TRUST_REQUEST (R398): A verified trust-list request enrols or revokes keys. -/
  | sealedTrustRequest (r : SealedReq)
  /-- SEALED_ITEMS_REQUEST (R397): A verified request of other RW or RWS items is checked and applied in one step. -/
  | sealedItemsRequest (r : SealedReq)
  /-- PROVISIONING_REQUEST (R399): With an empty list and the strap present, a self-signed request enrols the first key. -/
  | provisioningRequest (r : SealedReq)
  /-- COUNTER_STORED (R395): A consumed counter is stored to the configuration partition and COUNTER_STORE_PENDING clears. -/
  | counterStored
  /-- TRUST_ERASE (R400): Writing the serial to TRUST_ERASE over the service port with the strap arms an erasure. -/
  | trustErase (src : Src) (v : Nat)
  /-- TRUST_ERASURE (R400): After 300 s of unbroken strap with the block safe, every slot and counter is erased. -/
  | trustErasure
  /-- FW_OPEN (R401): A sealed FW_OPEN opens a firmware session for the submitting partner. -/
  | fwOpen (h : SealHead) (v : Nat)
  /-- FW_IMAGE (R401): A session segment of FW_IMAGE is written into the inactive partition. -/
  | fwImage (src : Src) (total offset : Nat) (data : List Byte)
  /-- FW_COMMIT (R401): A sealed FW_COMMIT compares the digest and verifies the image header. -/
  | fwCommit (h : SealHead) (digest : List Byte) (headerOk : Bool) (generation version : Nat)
  /-- FW_SESSION_TIMEOUT (R401): A firmware session ends after 60 s without a segment. -/
  | fwSessionTimeout
  /-- CFG_STORE (R451): Writing 0x01 stores the RW values into a new configuration copy. -/
  | cfgStore (src : Src) (v : Nat)
  /-- EVENT_OCCURRENCE (R444): The recorder takes an occurrence, applies its rate limit and stages a record. -/
  | eventOccurrence (code source item : Nat) (data : List Byte)
  /-- RECORDER_FLUSH (R445): Once per second or at 512 staged records, firmware writes staged records to flash. -/
  | recorderFlush
  /-- SUPPRESSION_SUMMARY (R447): A bucket regaining a token after suppression accepts the code's summary record. -/
  | suppressionSummary (code : Nat)
  /-- REC_WINDOW (R448): An offset-0 read of REC_WINDOW returns up to 64 records and advances the partner's cursor. -/
  | recWindow (src : Src)
  /-- REC_CLEAR (R450): A sealed REC_CLEAR removes every record and writes the clear record. -/
  | recClear (h : SealHead) (v : Nat)
  /-- RATE_LIMIT_WRITE (R446): A RATE_LIMIT write sets a code's bucket and clamps its tokens. -/
  | rateLimitWrite (src : Src) (code v : Nat)
  /-- HIST_READ (R458): An offset-0 read of HIST_READ returns the selected set header and string part. -/
  | histRead (src : Src)
  /-- WINDOW_COUNTER_LASTING (R463): N occurrences within W make a fault class lasting and take its action. -/
  | windowCounterLasting (cls : Fin 14) (item : Nat)
  /-- LOCKSTEP_COMMIT (R467): Every 100 us or when full, the pair saves its state, releases its buffer and clears the journal. -/
  | lockstepCommit
  /-- LOCKSTEP_MISMATCH (R468): A mismatch halts the pair, restores the journal and starts self-test of both members. -/
  | lockstepMismatch (parity : Nat)
  /-- PAIR_FORMING (R469): After self-test the pair is formed, with or without core C2, or a system reset is started. -/
  | pairForming (passA passB : Bool)
  /-- SWAP_RESUME (R470): At the first trigger after self-test, or 28 ms, the pair resumes and pending interrupts are delivered. -/
  | swapResume
  /-- SPARE_CORE_SELF_TEST (R472): Every 60 s core C2 runs logic self-test while it stands by. -/
  | spareCoreSelfTest (pass : Bool)
  /-- SRAM_SCRUB (R474): The scrubber reads every word once per SCRUB_PERIOD and writes back corrected words. -/
  | sramScrub (rows : List (Nat × Bool))
  /-- SRAM_ECC_ERROR (R474): A corrected or uncorrectable SRAM error is counted and may remap the row. -/
  | sramEccError (row : Nat) (corrected : Bool) (owner : SramOwner)
  /-- FLASH_ERROR (R476): A flash correction or program/erase failure is counted and may retire the block. -/
  | flashError (block : Nat) (kind : FlashErrorKind)
  /-- OSC_WINDOW (R477): Each 1 ms window the BEL domain measures the SYS clock and may fail over to X4. -/
  | oscWindow (w : OscFinding)
  /-- PHY_RESTORE (R473): Writing a port number returns that port to its own PHY at the next traverse boundary. -/
  | phyRestore (src : Src) (v : Nat)
  /-- HEALTH_CLEAR (R478): A sealed HEALTH_CLEAR clears BELAY_PATH_SUSPECT and the class 4 history. -/
  | healthClear (h : SealHead) (v : Nat)
  /-- DEVICE_TEMP_ROUND (R429): Every 100 ms firmware reads the six sensors, forms the summit and sets the throttle level. -/
  | deviceTempRound (t : Vector Int 6)
  /-- THROTTLE_EXIT_DWELL (R429): The summit below the exit threshold for 10 s lowers the throttle level by one. -/
  | throttleExitDwell
  /-- THROTTLE_SELECT (R434): A THROTTLE_SELECT write takes effect at the next 100 ms round. -/
  | throttleSelect (src : Src) (v : Nat)
  /-- ETH_APPLY (R484): Writing 0x01 checks and applies the addresses of both ports. -/
  | ethApply (src : Src) (v : Nat)
  /-- ADDRESS_CONFLICT (R485): An ARP claim of the port's address sets ADDR_CONFLICT. -/
  | addressConflict (k : Fin 2)
  /-- ETH_LINK_CHANGE (R484): An Ethernet link going up or down is announced and reassesses the stream. -/
  | ethLinkChange (k : Fin 2) (up fast : Bool)
  /-- STREAM_SET_SEND (R486): For a published traverse due under the divider, firmware sends the stream set. -/
  | streamSetSend (resolved : Bool) (count : Nat)
  /-- STREAM_SUSPENSION (R489): The recomputed stream rate above 60 % of a link suspends or resumes the stream. -/
  | streamSuspension
  /-- TIME_SOURCE_SELECTION (R492): Once per second firmware selects the time source and slews or steps the calendar. -/
  | timeSourceSelection
  /-- TIME_SET (R494): A sealed TIME_SET sets the calendar while the source is RTC. -/
  | timeSet (h : SealHead) (v : Nat)
  /-- RTC_ALARM (R494): The calendar reaching RTC_ALARM raises IRQ 95. -/
  | rtcAlarm
  /-- PTP_MESSAGE_RECEIVED (R495): A PTP message is timestamped and processed by the ordinary clock. -/
  | ptpMessageReceived (k : Fin 2) (domain : Nat) (m : PtpMsg)
  /-- ANNOUNCE_RECEIPT_TIMEOUT (R496): Announce intervals without an Announce lose the master. -/
  | announceReceiptTimeout
  /-- REQUEST_STANDBY (R501): A request for STANDBY opens every string from ARMED or RUN, or leaves SERVICE. -/
  | requestStandby (src : Src)
  /-- REQUEST_ARMED (R500): A request for ARMED from STANDBY is accepted while PFW is clear. -/
  | requestArmed (src : Src)
  /-- REQUEST_SERVICE (R500): A request for SERVICE is accepted while every bank is DARK and no power-path output is energised. -/
  | requestService (src : Src)
  /-- REGISTER_WRITE (R388): A write to an entry without a row of its own is checked by access code and applied. -/
  | registerWrite (src : Src) (index sub : Nat) (data : List Byte)
  /-- NODE_RESTART (R107): A C16 or H1 restarts of itself and runs its default configuration, with CONFIG_DEFAULT set, its serving end unassigned and its balancing and previous recovered instant lost. -/
  | nodeRestart (i : Fin 40) (place : Fin 33) (selfFail : Bool)
  /-- CAN_START_OF_FRAME (R360): A pending event-driven object wins the idle bus and sends its start of frame, becoming ACTIVE. -/
  | canStartOfFrame (k : Fin 3)
  /-- CAN_INTEGRATION_COMPLETE (R374): A controller in bus integration sees 11 consecutive recessive bits and joins the bus again. -/
  | canIntegrationComplete (k : Fin 3)
  /-- ETH_FRAME_RECEIVED (R483): A port receives an Ethernet frame that is not a dictionary request, answering ARP and ICMP echo and discarding and counting tagged, IPv6, fragmented or foreign frames. -/
  | ethFrameReceived (k : Fin 2) (f : EthFrame) (len : Nat)
  /-- PTP_MESSAGE_INTERVAL (R495): A PTP interval timer expires and the ordinary clock sends its Announce, Sync and Follow_Up as master, or its delay request as slave. -/
  | ptpMessageInterval (k : Fin 3)
  /-- LEAP_SECOND (R493): At the end of a UTC day flagged leap61 or leap59 the calendar holds or advances 1,000 ms and raises event 0xA015. -/
  | leapSecond
  /-- BEL_SENSOR_FAIL (R428): A belay comparator finds its sensor input open or shorted, leaves that sensor out of shutdown and restart, sets BEL_SENSOR_FAIL and raises IRQ 99. -/
  | belSensorFail (k : Fin 6)
  /-- WAKE_IN_FALL (R63): WAKE_IN falls to 5 V or below and, after its 10 ms filter, reads low in SUPPLY_STATUS. -/
  | wakeInFall
  deriving DecidableEq, Repr

end Sys2Proof
end

