-- ==== Sys2Proof/Decode.lean ====
section
/-!
DEFINITION. The commands a word spells by the bits of spec/opcode_table.json. The table gives no row a field, so no word
spells a command.
-/

namespace Sys2Proof

/-- The command that `w` of `nbits` bits spells: none, since no row of the table has bits. -/
def decodeTableWord (nbits w : Nat) : Option Instr :=
  match nbits, w with
  | _, _ => none

end Sys2Proof
end

