-- ==== Sys2Proof/Config.lean ====
section
/-!
DEFINITION. What the spec leaves open, as opaque constants: nothing can evaluate them, so a claim about them holds whatever they are.
`freeWord` is the value of a quantity the spec gives no number for, at the count of `State.free` (log 4); the others are a rounding and a
correction the spec does not give (logs 24, 31).
-/

namespace Sys2Proof.Config

/-- The n-th free value, a number below any bound its user takes it to (log 4). -/
opaque freeWord : Nat → Nat

/-- What an identity entry of the running image reads under recovery firmware (03 R88, 15 R411): a free value for the instant of the start and
the sub-index, the same until the next start. -/
opaque recoveryWord : Nat → Nat → Nat

/-- The F32 result of a filter section, from its exact value and the operands it is formed from (07 R193; log 24). -/
opaque filterRound : Rat → List Rat → Rat

/-- The rate correction in ppb firmware forms for a source from the difference in us, before its limit (19 R492; log 31). -/
opaque servo : Int → Int → Int

end Sys2Proof.Config
end

