-- ==== Sys2Proof/Machine/Events.lean ====
section
/-!
DEFINITION. The event codes the manual defines and their levels (spec/17 R461, R462, Tables 17-14 and 17-15; the levels of
class 0xA in spec/19 Table 19-8, of classes 0xD and 0xE in spec/18 Table 18-6 and spec/20 Table 20-13).
-/

namespace Sys2Proof.Machine

/-- Codes of classes 0x1 to 0x4 (04 Table 4-17, 05 Table 5-12, 06 Table 6-8, 07 Table 7-9, 08 Table 8-9, 09 Table 9-15). -/
def codesRope : List Nat :=
  [0x1001, 0x1002, 0x1004, 0x1005, 0x1006, 0x1007, 0x1008, 0x1009, 0x100A, 0x100B, 0x100C, 0x100D, 0x100E, 0x100F, 0x1010,
   0x1011, 0x1012, 0x1013, 0x1014, 0x1015, 0x1016, 0x1017, 0x1018, 0x1019, 0x101A, 0x101B]
def codesTraverse : List Nat :=
  [0x2001, 0x2002, 0x2003, 0x2004, 0x2005, 0x2006, 0x2007, 0x2008, 0x200A, 0x200B]
def codesEstimator : List Nat :=
  [0x3001, 0x3002, 0x3003, 0x3004, 0x3005, 0x3006, 0x3010, 0x3011, 0x3012, 0x3013, 0x3020, 0x3021, 0x3022, 0x3023, 0x3024,
   0x3025, 0x3026, 0x3027, 0x3028, 0x3029, 0x302A, 0x302C, 0x302D]
def codesString : List Nat :=
  [0x4001, 0x4002, 0x4003, 0x4004, 0x4005, 0x4006, 0x4007, 0x4008, 0x400A, 0x4010, 0x4011, 0x4012, 0x4013, 0x4014, 0x4020,
   0x4021, 0x4022, 0x4023, 0x4024, 0x4025, 0x4026, 0x4027, 0x4028, 0x4029, 0x402A]

/-- Codes of classes 0x5 to 0x8 (10 Table 10-12, 11 Table 11-12, 12 Table 12-20 and 02 R57, 13 Table 13-18). -/
def codesGate : List Nat :=
  [0x5001, 0x5002, 0x5003, 0x5004, 0x5005, 0x5006, 0x5007, 0x5008, 0x5009, 0x500A, 0x500B, 0x500C, 0x500D, 0x5020, 0x5030, 0x5031]
def codesBelay : List Nat :=
  [0x6001, 0x6002, 0x6003, 0x6004, 0x6005, 0x6006, 0x6007, 0x6010, 0x6011, 0x6012, 0x6020, 0x6021, 0x6030, 0x6031, 0x6032,
   0x6033, 0x6034, 0x6035, 0x6036]
def codesSafety : List Nat :=
  [0x7001, 0x7002, 0x7003, 0x7004, 0x7005, 0x7006, 0x7007, 0x7008, 0x7009, 0x7010, 0x7011, 0x7012, 0x7013, 0x7014, 0x7015,
   0x7016, 0x7020, 0x7021, 0x7030, 0x7031, 0x7032, 0x7033, 0x7034, 0x7035, 0x7040, 0x7041, 0x7042]
def codesCan : List Nat :=
  [0x8001, 0x8002, 0x8003, 0x8004, 0x8005, 0x8006, 0x8007, 0x8008, 0x8009, 0x800A, 0x800B, 0x800C, 0x800D, 0x8010, 0x8011,
   0x8012, 0x8013, 0x8014, 0x8015, 0x8016]

/-- Codes of classes 0x9 to 0xE (14 Table 14-13 and R425, 19 Table 19-8, 16 Table 16-6, 17 Table 17-13, 18 Table 18-6 with
R68, R71, R80 and Table 14-6, 06 Table 6-8 and 20 Table 20-13). -/
def codesDict : List Nat :=
  [0x9001, 0x9002, 0x9003, 0x9004, 0x9005, 0x9006, 0x9008, 0x9009, 0x900A, 0x900B, 0x9010, 0x9011, 0x9012, 0x9013, 0x9018,
   0x9019, 0x901A, 0x9020, 0x9021, 0x9022, 0x9023, 0x9024, 0x9030]
def codesEth : List Nat :=
  [0xA001, 0xA002, 0xA003, 0xA004, 0xA005, 0xA010, 0xA011, 0xA012, 0xA013, 0xA014, 0xA015, 0xA020, 0xA021, 0xA022]
def codesThermal : List Nat := [0xB001, 0xB002, 0xB003, 0xB004, 0xB005, 0xB006, 0xB008]
def codesStorage : List Nat :=
  [0xC001, 0xC002, 0xC003, 0xC004, 0xC010, 0xC011, 0xC020, 0xC021, 0xC022, 0xC024, 0xC030, 0xC031, 0xC032, 0xC033, 0xC034,
   0xC040, 0xC041, 0xC050, 0xC051]
def codesHealth : List Nat :=
  [0xD001, 0xD002, 0xD010, 0xD011, 0xD012, 0xD013, 0xD014, 0xD015, 0xD016, 0xD018, 0xD019, 0xD022, 0xD023, 0xD025, 0xD026,
   0xD027, 0xD030, 0xD031, 0xD032, 0xD033, 0xD040]
def codesMode : List Nat := [0xE001, 0xE002, 0xE003, 0xE010, 0xE011, 0xE012, 0xE013, 0xE014, 0xE015, 0xE020]

/-- Whether the manual defines a code (17 R461): the codes of its class's tables. -/
def codeDefined (code : Nat) : Bool :=
  match code / 0x1000 with
  | 1 => codesRope.contains code
  | 2 => codesTraverse.contains code
  | 3 => codesEstimator.contains code
  | 4 => codesString.contains code
  | 5 => codesGate.contains code
  | 6 => codesBelay.contains code
  | 7 => codesSafety.contains code
  | 8 => codesCan.contains code
  | 9 => codesDict.contains code
  | 0xA => codesEth.contains code
  | 0xB => codesThermal.contains code
  | 0xC => codesStorage.contains code
  | 0xD => codesHealth.contains code
  | 0xE => codesMode.contains code
  | _ => false

/-- Level 4, protective action (17 Table 17-15, 18 Table 18-6). -/
def level4 : List Nat :=
  [0x4002, 0x4003, 0x4028, 0x5001, 0x5002, 0x5003, 0x5005, 0x5006, 0x5008, 0x6001, 0x6002, 0x6003, 0x6004, 0x6005, 0x6006,
   0x6007, 0x6020, 0x6021, 0x7003, 0x7005, 0x7007, 0x7012, 0x7013, 0x7030, 0x7031, 0x7033, 0xB006, 0xD016]

/-- Level 3, fault (17 Table 17-15, 18 Table 18-6, 19 Table 19-8). -/
def level3 : List Nat :=
  [0x1002, 0x1004, 0x100C, 0x1010, 0x1011, 0x2002, 0x2003, 0x2004, 0x2005, 0x3001, 0x3003, 0x3012, 0x3027, 0x4024, 0x4027,
   0x5030, 0x6010, 0x6011, 0x6012, 0x6030, 0x6032, 0x6034, 0x6035, 0x7042, 0x8003, 0x8009, 0x800A, 0x8015, 0x9010, 0xB004,
   0xC001, 0xC004, 0xC010, 0xC033, 0xC050, 0xD010, 0xD040] ++
  [0xD011, 0xD013, 0xD014, 0xD015, 0xD018, 0xD023, 0xD025, 0xD026, 0xA005]

/-- Level 2, warning (17 Table 17-15, 18 Table 18-6, 19 Table 19-8, 20 Table 20-13). -/
def level2 : List Nat :=
  [0x1005, 0x1006, 0x1007, 0x1008, 0x1009, 0x100A, 0x1013, 0x1014, 0x1015, 0x1016, 0x1017, 0x1018, 0x3004, 0x3023, 0x3024,
   0x3029, 0x302A, 0x302D, 0x4006, 0x4007, 0x400A, 0x4011, 0x4012, 0x4014, 0x4022, 0x4025, 0x5004, 0x5009, 0x500A, 0x500C,
   0x500D, 0x5031, 0x6033, 0x7014, 0x7016, 0x7032, 0x7035, 0x7041] ++
  [0x8001, 0x8002, 0x8006, 0x8007, 0x8008, 0x800D, 0x8011, 0x8013, 0x8014, 0x8016, 0x9009, 0x900A, 0x900B, 0x901A, 0x9022,
   0x9023, 0x9024, 0xB001, 0xB002, 0xB003, 0xC002, 0xC003, 0xC022, 0xC024, 0xC031, 0xC032, 0xC034, 0xC041, 0xC051, 0xD030,
   0xD031, 0xE011] ++
  [0xD001, 0xD012, 0xD022, 0xD027, 0xD032, 0xA002, 0xA004, 0xA010, 0xA011, 0xA013, 0xA021, 0xA022, 0xE003, 0xE015]

/-- Codes of the write records, with their fixed rate limit (14 R404). -/
def writeCodes : List Nat := [0x9001, 0x9002, 0x9003, 0x9004, 0x9005, 0x9006, 0x9008]

/-- The level of a code (17 R462). -/
def eventLevel (code : Nat) : Nat :=
  if writeCodes.contains code then 0
  else if level4.contains code then 4
  else if level3.contains code then 3
  else if level2.contains code then 2
  else 1

end Sys2Proof.Machine
end

