-- ==== Sys2Proof/Machine/Sparse.lean ====
section
/-!
DEFINITION. Sparse tables: sorted lists of key and value, for the large indexed families of the block
(cells, thermistors, dictionary values, event codes). Keys rise strictly, so equal tables are equal data.
-/

namespace Sys2Proof

/-- A table from numeric keys, keys strictly rising. -/
abbrev Sparse (α : Type) := List (Nat × α)

/-- The entry at `k`, if any. -/
def Sparse.get? {α : Type} : Sparse α → Nat → Option α
  | [], _ => none
  | (j, v) :: t, k => if j = k then some v else Sparse.get? t k

/-- The entry at `k`, or `d`. -/
def Sparse.getD {α : Type} (t : Sparse α) (k : Nat) (d : α) : α := (Sparse.get? t k).getD d

/-- The table with `v` at `k`. -/
def Sparse.put {α : Type} : Sparse α → Nat → α → Sparse α
  | [], k, v => [(k, v)]
  | (j, w) :: t, k, v =>
    if k < j then (k, v) :: (j, w) :: t
    else if k = j then (k, v) :: t
    else (j, w) :: Sparse.put t k v

/-- The table without `k`. -/
def Sparse.del {α : Type} (t : Sparse α) (k : Nat) : Sparse α := t.filter fun p => p.1 != k

/-- Keys rise strictly: the canonical form. -/
def Sparse.wf {α : Type} : Sparse α → Bool
  | [] => true
  | [_] => true
  | (j, _) :: (k, w) :: t => decide (j < k) && Sparse.wf ((k, w) :: t)

/-- A set of numbers as a sorted list. -/
abbrev NatSet := List Nat

def NatSet.ins : NatSet → Nat → NatSet
  | [], k => [k]
  | j :: t, k => if k < j then k :: j :: t else if k = j then j :: t else j :: NatSet.ins t k

def NatSet.del (s : NatSet) (k : Nat) : NatSet := s.filter fun j => j != k

/-- `v` with `f` applied at `i`. -/
def upd {α : Type} {n : Nat} (v : Vector α n) (i : Fin n) (f : α → α) : Vector α n := v.set i (f v[i])

end Sys2Proof
end

