-- ==== Sys2Proof/Machine/CanState.lean ====
section
/-!
DEFINITION. State of the three CAN FD controllers (spec/13). Configuration words, filters and slot words are dictionary
values (`Dict.vals`); here stands what the controllers themselves hold.
Each field's line ends with the rule that names it and its reset value; "log n" is notes/assumptions/n.md.
-/

namespace Sys2Proof.Machine

/-- Bus states of a controller and their codes (13 Table 13-16). -/
inductive BusState where
  | active | passive | busOff | integrating
  deriving DecidableEq, Repr

def BusState.code : BusState → Nat
  | .active => 0 | .passive => 1 | .busOff => 2 | .integrating => 3

/-- One message object (13 R354 to R361, Table 13-17). -/
structure MsgObj where
  /-- `ND`, 1 bit (13 Table 13-17; reset 0b0) -/
  nd : Bool
  /-- `LOST`, 1 bit (13 Table 13-17; reset 0b0) -/
  lost : Bool
  /-- `PENDING`, 1 bit (13 Table 13-17; reset 0b0) -/
  pending : Bool
  /-- `ACTIVE`, 1 bit (13 Table 13-17; reset 0b0) -/
  active : Bool
  /-- `CANCELLED`, 1 bit (13 Table 13-17; reset 0b0) -/
  cancelled : Bool
  /-- `CLASH_OFF`, 1 bit (13 R372; reset 0b0) -/
  clashOff : Bool
  /-- `TT_MISSED`, 1 bit (13 Table 13-17; reset 0b0) -/
  ttMissed : Bool
  /-- `SENT`, 1 bit (13 Table 13-17; reset 0b0) -/
  sent : Bool
  /-- `MO_DATA`, 80 bytes; the empty list stands for zeros (13 Table 13-8; reset 0) -/
  data : List Byte
  /-- data written during a transmission, applied at its end (13 R359; reset none) -/
  next : Option (List Byte)
  /-- a cancel arrived while ACTIVE (13 R361; reset 0) -/
  cancelReq : Bool
  /-- the transmission in progress is single-shot, from a timetable slot (13 R364; reset 0) -/
  oneShot : Bool
  /-- frames stored in the object, for the receive check of R364 (13 R364; reset 0) -/
  stores : Nat
  /-- SYS tick of the last word stored: a clear of `ND` in that tick leaves it 1 (13 R358; reset none) -/
  storedTick : Option Nat
  deriving DecidableEq, Repr

def MsgObj.empty : MsgObj :=
  { nd := false, lost := false, pending := false, active := false, cancelled := false, clashOff := false, ttMissed := false,
    sent := false, data := [], next := none, cancelReq := false, oneShot := false, stores := 0, storedTick := none }

/-- The count of clash occurrences on one identifier (13 R371). -/
structure Clash where
  id : Nat
  count : Nat
  first : Nat
  own : Bool
  deriving DecidableEq, Repr

/-- A frame in a CAN receive queue with the SYS tick of its start of frame (01 Table 1-6, 13 R351). -/
structure CanRx where
  frame : CanFrame
  stamp : Nat
  own : Bool
  deriving DecidableEq, Repr

/-- One CAN controller (spec/13). -/
structure Can where
  /-- the controller is on the bus: configured by firmware and not held off it (20 Table 20-12 code 3; reset 0) -/
  onBus : Bool
  /-- `MODE_ACTIVE`, 0 NORMAL, 1 TIMETABLE, 2 LISTEN (13 Table 13-16; reset 0, log 6) -/
  mode : Nat
  /-- mode written while bus-off, applied at recovery (13 R374; reset none) -/
  modeNext : Option Nat
  /-- `NODE_ID` in force, 7 bits (13 Table 13-15; reset 1, log 6) -/
  node : Nat
  /-- `BIT_NOMINAL` in force, U32 (13 R353; reset 0x1E3E_1E01) -/
  nominal : Nat
  /-- `BIT_DATA` in force, U32 (13 R353; reset 0x9E48_2F00) -/
  dataRate : Nat
  /-- `CFG_PENDING`, 1 bit (13 R353; reset 0b0) -/
  cfgPending : Bool
  /-- `BUS_STATE`, 2 bits (13 Table 13-16; reset 3, integrating, log 6) -/
  bus : BusState
  /-- transmit error counter, 0 to 256 (13 R369; reset 0) -/
  tec : Nat
  /-- receive error counter (13 R369; reset 0) -/
  rec_ : Nat
  /-- instant of the entry to bus-off, ns (13 R370; reset 0) -/
  busOffAt : Nat
  /-- `RECOVER_PENDING`, 1 bit (13 R370; reset 0b0) -/
  recovering : Bool
  /-- `DUP_NODE`, 1 bit (13 R371; reset 0b0) -/
  dupNode : Bool
  /-- `TT_SYNC`, 1 bit (13 R366; reset 0b0) -/
  sync : Bool
  /-- `TT_MASTER`, 1 bit (13 R366; reset 0b0) -/
  master : Bool
  /-- a master that lost arbitration to another reference (13 R366; reset 0) -/
  backup : Bool
  /-- `TT_CYCLE_COUNT`, 6 bits (13 Table 13-15; reset 0, log 6) -/
  cycle : Nat
  /-- start of frame of the last reference, ns (13 R366; reset 0) -/
  refAt : Nat
  /-- last time mark acted on in this basic cycle (13 R364; reset 0) -/
  mark : Nat
  /-- `TT_MISSED_COUNT`, 32 x U32 (13 Table 13-15; reset 0) -/
  missed : Vector Nat 32
  /-- stores of the slot's object when the slot last acted (13 R364; reset 0) -/
  checked : Vector Nat 32
  /-- a free window is open (13 R364; reset 0) -/
  freeWindow : Bool
  /-- `OVERRUN_SEEN`, `PASSIVE_SEEN`, `BUSOFF_SEEN`, `CLASH_SEEN`, bits 3 to 0 (13 Table 13-16; reset 0b0000) -/
  seen : Nat
  /-- frames received, sent, error frames, bit, stuff, form, CRC, ACK errors, arbitration lost, receive overruns, bus-off
  entries, clashes, misrouted, 13 x U32; the entry has 12 elements (13 Table 13-15, log 20; reset 0) -/
  counts : Vector Nat 13
  /-- `CLASH_ID`, U32 (13 Table 13-15; reset 0) -/
  clashId : Nat
  /-- occurrence counts of the 8 identifiers most recently concerned, newest first (13 R371; reset none) -/
  clashes : List Clash
  /-- message objects that differ from an untouched one, by number (13 R354; reset none) -/
  objs : Sparse MsgObj
  /-- frames in the dictionary's transmit buffer, identifier and payload, oldest first (14 R383; reset none) -/
  dictOut : List (Nat × List Byte)
  /-- the frame on the bus is the first of the dictionary's buffer (14 R383; reset 0) -/
  dictActive : Bool
  /-- receive queue, at most 32 frames, oldest first (01 Table 1-6; reset none) -/
  rxQ : List CanRx
  /-- requests and cancels that cross to CANCLK, object number and command, at most 16; they are those written in `txTick` (01 Table 1-6,
  13 R361, log 181; reset none) -/
  txReqs : List (Bool × Nat)
  /-- SYS tick of the newest of them (01 Table 1-6, log 181; reset 0) -/
  txTick : Nat
  /-- cycle count of the device's own reference from its first start of frame until it is sent (13 R366; reset none) -/
  refOut : Option Nat
  /-- the device's own reference is on the bus (13 R366; reset 0) -/
  refActive : Bool
  /-- event 0x800C waits for the integration to end (13 R374; reset 0) -/
  announce : Bool
  deriving DecidableEq, Repr

def Can.reset : Can :=
  { onBus := false, mode := 0, modeNext := none, node := 1, nominal := 0x1E3E1E01, dataRate := 0x9E482F00, cfgPending := false,
    bus := .integrating, tec := 0, rec_ := 0, busOffAt := 0, recovering := false, dupNode := false, sync := false, master := false,
    backup := false, cycle := 0, refAt := 0, mark := 0, missed := Vector.replicate 32 0, checked := Vector.replicate 32 0, freeWindow := false,
    seen := 0, counts := Vector.replicate 13 0, clashId := 0, clashes := [], objs := [], dictOut := [], dictActive := false,
    rxQ := [], txReqs := [], txTick := 0, refOut := none, refActive := false, announce := false }

end Sys2Proof.Machine
end

