-- ==== Sys2Proof/Machine/CorrState.lean ====
section
/-!
DEFINITION. State of the correlation engine, its result area, the charge counters, the published impedances and the
self-discharge indicator (spec/07). Cells are keyed by string x 1,024 + element - 1, cell-bands by that x 4 + band,
string-bands by string x 4 + band; bands are 0 L, 1 M, 2 H.
Each field's line ends with the rule that names it and its reset value; "log n" is notes/assumptions/n.md.
-/

namespace Sys2Proof.Machine

/-- Two second-order sections in cascade (07 R193): the last two inputs, outputs of the first and outputs of the second section. -/
structure Filt where
  x1 : Rat
  x2 : Rat
  m1 : Rat
  m2 : Rat
  y1 : Rat
  y2 : Rat
  deriving DecidableEq, Repr

def Filt.empty : Filt := { x1 := 0, x2 := 0, m1 := 0, m2 := 0, y1 := 0, y2 := 0 }

/-- A string's current in one band (07 R193 to R199). -/
structure StrBand where
  filt : Filt
  now : Rat
  prev : Rat
  warm : Nat
  sii : Int
  sid : Int
  sdd : Int
  counted : Nat
  clamped : Bool
  /-- the last batch's S_ii / counted stood at or above `EXC_MIN` (07 R199) -/
  excited : Bool
  deriving DecidableEq, Repr

def StrBand.empty : StrBand :=
  { filt := Filt.empty, now := 0, prev := 0, warm := 0, sii := 0, sid := 0, sdd := 0, counted := 0, clamped := false, excited := false }

/-- A string's current input (07 R195). -/
structure StrIn where
  held : Int
  run : Nat
  seen1 : Bool
  seen2 : Bool
  heldBatch : Bool
  heldPrev : Bool
  resetBatch : Bool
  deriving DecidableEq, Repr

def StrIn.empty : StrIn := { held := 0, run := 0, seen1 := false, seen2 := false, heldBatch := false, heldPrev := false, resetBatch := false }

/-- A cell's voltage in one band. -/
structure CellBand where
  filt : Filt
  now : Rat
  warm : Nat
  svi : Int
  svd : Int
  svv : Int
  invalid : Bool
  deriving DecidableEq, Repr

def CellBand.empty : CellBand := { filt := Filt.empty, now := 0, warm := 0, svi := 0, svd := 0, svv := 0, invalid := false }

/-- A cell's voltage input. -/
structure CellIn where
  held : Nat
  run : Nat
  usable1 : Bool
  heldBatch : Bool
  heldPrev : Bool
  deriving DecidableEq, Repr

def CellIn.empty : CellIn := { held := 0, run := 0, usable1 := false, heldBatch := false, heldPrev := false }

/-- A batch as the result area holds it (07 Tables 7-2 to 7-4). -/
structure Batch where
  number : Nat
  periodChanged : Bool
  saturated : Bool
  gap : Bool
  active : List Bool
  first : Nat
  last : Nat
  count : Nat
  teff : Nat
  fhi : List Nat
  fref : List Nat
  tick : Nat
  discarded : Nat
  /-- S_ii, S_id, S_dd and traverses counted by string-band -/
  strs : Sparse (Int × Int × Int × Nat)
  /-- the flag word of a string's area, offset 0x4E -/
  flags : Sparse Nat
  /-- Q_DIS, Q_CHG and their tick by string -/
  charge : Sparse (Nat × Nat × Nat)
  /-- S_vi, S_vd, S_vv by cell-band of the active bands; S_vv -2^63 marks it invalid (07 R197) -/
  cells : Sparse (Int × Int × Int)
  /-- `EXC_MIN` of L, M, H, `COH_MIN` and `CORR_TAU` of L, M, H as it was written, for its solution (07 R207) -/
  figures : List Nat
  deriving DecidableEq, Repr

/-- The figures of a written batch. -/
def Batch.excMin (g : Batch) (b : Nat) : Nat := g.figures.getD b 0
def Batch.cohMin (g : Batch) : Nat := g.figures.getD 3 0
def Batch.tau (g : Batch) (b : Nat) : Nat := g.figures.getD (4 + b) 0

/-- Charge counters of a string (07 R201). -/
structure Charge where
  /-- `Q_DIS`, `Q_CHG`, U64, 1 mA us (07 Table 7-7; reset 0) -/
  dis : Nat
  chg : Nat
  /-- SYS tick of the alignment instant up to which they run (07 Table 7-3; reset 0) -/
  upTo : Nat
  /-- an `I_MEAN` has been accepted since the start or since base camp (07 R201; reset 0) -/
  counted : Bool
  /-- `CHARGE_GAP`s no estimator step has applied: alignment instant of the `I_MEAN` left out, ns, and the gap in us (07 R201, 08 R217; reset none) -/
  gaps : List (Nat × Nat)
  /-- `CHARGE_GAP` of the batch (07 Table 7-3; reset 0) -/
  gapBatch : Bool
  deriving DecidableEq, Repr

def Charge.empty : Charge := { dis := 0, chg := 0, upTo := 0, counted := false, gaps := [], gapBatch := false }

/-- Running sums and published impedance of a cell-band (07 R202 to R204). -/
structure Imped where
  /-- upper band edge in mHz, 0 with the band inactive, and corner code the sums were formed at; with f_lo fixed they give f_ref -/
  edge : Rat
  corner : Nat
  sii : Rat
  sid : Rat
  sdd : Rat
  svi : Rat
  svd : Rat
  svv : Rat
  w : Rat
  re : Int
  im : Int
  conf : Nat
  /-- instant of the last publication; none before the first -/
  at_ : Option Nat
  state : Nat
  deriving DecidableEq, Repr

def Imped.empty : Imped :=
  { edge := 0, corner := 0, sii := 0, sid := 0, sdd := 0, svi := 0, svd := 0, svv := 0, w := 0, re := 0, im := 0, conf := 0, at_ := none, state := 0 }

/-- The running sums at 0 (07 R202). -/
def Imped.restart (m : Imped) : Imped := { m with sii := 0, sid := 0, sdd := 0, svi := 0, svd := 0, svv := 0, w := 0 }

/-- Self-discharge and internal-short figures of a cell (07 R205, R206). -/
structure Selfd where
  x : Option Rat
  isd : Int
  prev : Int
  z : List Rat
  level : Nat
  clear : Nat
  deriving DecidableEq, Repr

def Selfd.empty : Selfd := { x := none, isd := 0, prev := 0, z := [], level := 0, clear := 0 }

/-- The correlation engine (spec/07). -/
structure Corr where
  /-- `CORR_ENABLE` in force (07 R200; reset 1) -/
  enabled : Bool
  /-- effective period of the filters, us; 0 before the first traverse (07 R193; reset 0) -/
  teff : Nat
  /-- number of the next traverse to update (07 R196; reset none) -/
  next : Option Nat
  /-- first traverse and number of traverses of the batch in progress (07 R197; reset none) -/
  first : Option Nat
  count : Nat
  /-- the batch in progress: period changed, saturated, gap (07 Table 7-2; reset 0) -/
  changed : Bool
  sat : Bool
  gap : Bool
  strIn : Sparse StrIn
  strBand : Sparse StrBand
  cellIn : Sparse CellIn
  cellBand : Sparse CellBand
  /-- the result area: `READY`, `TAKEN` and the batch it holds (07 R198; reset 0, 1, none) -/
  ready : Bool
  taken : Bool
  area : Option Batch
  /-- firmware has solved the batch in the area (07 R203; reset 0) -/
  solved : Bool
  /-- a batch held internally while the area is not taken (07 R198; reset none) -/
  heldBatch : Option Batch
  /-- number of the next batch (07 Table 7-2; reset 0) -/
  number : Nat
  /-- batches discarded since the previous written batch (07 Table 7-2; reset 0) -/
  discarded : Nat
  /-- `CORR_LOST_COUNT`, U32 (07 Table 7-7; reset 0) -/
  lost : Nat
  /-- `CORR_SAT_COUNT`, U32 (07 Table 7-7; reset 0) -/
  sats : Nat
  /-- bits 11 to 8 of `CORR_STATUS`, the W1C fields (07 Table 7-8; reset 0) -/
  seen : Nat
  charge : Sparse Charge
  imped : Sparse Imped
  /-- running S_ii and W by string-band, for `EXC` (07 Table 7-7; reset 0) -/
  exc : Sparse (Rat × Rat)
  /-- start of the SD window, ns, and its traverses (07 R205; reset 0) -/
  sdAt : Nat
  sdCount : Nat
  /-- traverses of the SD window in which a position was seen, by string x 64 + position (07 R205; reset 0) -/
  sdSeen : Sparse Nat
  selfd : Sparse Selfd
  deriving DecidableEq, Repr

def Corr.reset : Corr :=
  { enabled := true, teff := 0, next := none, first := none, count := 0, changed := false, sat := false, gap := false, strIn := [],
    strBand := [], cellIn := [], cellBand := [], ready := false, taken := true, area := none, solved := false, heldBatch := none, number := 0,
    discarded := 0, lost := 0, sats := 0, seen := 0, charge := [], imped := [], exc := [], sdAt := 0, sdCount := 0, sdSeen := [], selfd := [] }

end Sys2Proof.Machine
end

