-- ==== Sys2Proof/Machine/StringState.lean ====
section
/-!
DEFINITION. State of strings, banks, hall passes, gate channels and the belay logic's envelope
(spec/01 R26 to R30, spec/09, spec/10, spec/11).
Each field's line ends with the rule that names it and its reset value; "log n" is notes/assumptions/n.md.
-/

namespace Sys2Proof.Machine

/-- String states and codes (09 Table 9-1). -/
inductive StrState where
  | excluded | isolated | ready | matching | closed | tripped | lockedOut
  deriving DecidableEq, Repr

def StrState.code : StrState → Nat
  | .excluded => 0 | .isolated => 1 | .ready => 2 | .matching => 3 | .closed => 4 | .tripped => 5 | .lockedOut => 6

/-- Bank states and codes (09 Table 9-7). -/
inductive BankState where
  | dark | precharging | live | discharging | faulted
  deriving DecidableEq, Repr

def BankState.code : BankState → Nat
  | .dark => 0 | .precharging => 1 | .live => 2 | .discharging => 3 | .faulted => 4

/-- Kinds of hall pass (09 Table 9-5). -/
inductive PassKind where
  | close | energise | unlock
  deriving DecidableEq, Repr

def PassKind.code : PassKind → Nat
  | .close => 1 | .energise => 2 | .unlock => 3

/-- A hall pass (09 R249, Table 9-5). `target` 1 to 40 a string, 0x41 to 0x50 an output; `check` its CHECK field. -/
structure Pass where
  kind : PassKind
  target : Nat
  precharge : Bool
  slot : Nat
  bank : Nat
  counter : Nat
  check : Nat
  deriving DecidableEq, Repr

/-- A pass the belay logic holds: when it was taken (01 R26), whether firmware has decided on it (09 R248), and whether a processor restart
since then has left it without a close request (03 R91). -/
structure HeldPass where
  pass : Pass
  taken : Nat
  decided : Bool
  orphan : Bool
  deriving DecidableEq, Repr

/-- An envelope or safety I/O record (11 Table 11-5). `kind` 0x8 envelope, 0x9 safety I/O. -/
structure BelayRecord where
  kind : Nat
  index : Nat
  sub : Nat
  slot : Nat
  element : Nat
  replay : Bool
  value : Nat
  reqId : Nat
  num : Nat
  count : Nat
  check : Nat
  deriving DecidableEq, Repr

/-- An entry of the privileged queue (01 Table 1-6). -/
inductive PrivEntry where
  | pass (p : Pass)
  | record (r : BelayRecord)
  deriving DecidableEq, Repr

/-- One string's control state (spec/09). -/
structure StrCtl where
  /-- `STRING_STATE`, U8 (09 Table 9-11; reset 0, EXCLUDED, log 8) -/
  state : StrState
  /-- trip latch, 1 bit (09 R243; reset 0) -/
  trip : Bool
  /-- `TRIP_CAUSE`, U8 (09 Table 9-11; reset 0x00) -/
  tripCause : Nat
  /-- cause set of the trip latch, bit c for cause c (09 R243; reset empty) -/
  tripSet : Nat
  /-- lock-out latch, 1 bit (09 R243; reset 0, log 6) -/
  lockout : Bool
  /-- `LOCKOUT_CAUSE`, U8 (09 Table 9-11; reset 0x00, log 6) -/
  lockoutCause : Nat
  /-- cause set of the lock-out latch (09 R243; reset empty) -/
  lockoutSet : Nat
  /-- `LOCKOUT_STORED`, stored lock-out and its cause (09 R244; reset none) -/
  stored : Option Nat
  /-- exclusion latch, 1 bit (09 R247; reset 1, as not installed, log 8) -/
  exclusion : Bool
  /-- `INSTALLED` in force since the last start, 1 bit (09 R247, 15 R413; reset 0, log 8) -/
  installed : Bool
  /-- the close pass held, with its taken instant (09 R249; reset none) -/
  pass : Option HeldPass
  /-- `MATCH_OK`, 1 bit (09 R251; reset 0, log 6) -/
  matchOk : Bool
  /-- `MATCH_DV`, I32 in 10 mV (09 Table 9-11; reset 0, log 6) -/
  matchDv : Int
  /-- a close request waits in the belay logic, 1 bit (09 R253; reset 0) -/
  waiting : Bool
  /-- a close request in the belay request queue, not yet visible (09 R253; reset 0) -/
  requested : Bool
  /-- `HP_EXPIRED_SEEN`, `CLOSE_DISCARDED_SEEN`, bits 1 and 0 (09 Table 9-13; reset 0b00) -/
  seen : Nat
  /-- the roll call in progress was started by EXCLUDE 0x00 (09 R247; reset 0) -/
  excludeCall : Bool
  /-- `V_STRING` of the last accepted H1 reply, 10 mV (09 R251, 04 R106; reset none) -/
  vString : Option Nat
  deriving DecidableEq, Repr

def StrCtl.reset : StrCtl :=
  { state := .excluded, trip := false, tripCause := 0, tripSet := 0, lockout := false, lockoutCause := 0, lockoutSet := 0,
    stored := none, exclusion := true, installed := false, pass := none, matchOk := false, matchDv := 0, waiting := false,
    requested := false, seen := 0, excludeCall := false, vString := none }

/-- One bank's control state (spec/09). -/
structure BankCtl where
  /-- `BANK_STATE`, U8 (09 Table 9-12; reset 0, DARK, log 6) -/
  state : BankState
  /-- `BANK_FAULT_CAUSE`, U8 (09 Table 9-12; reset 0x00) -/
  faultCause : Nat
  /-- `V_LINK`, U32 in 10 mV, last traverse (09 Table 9-12; reset 0, log 6) -/
  vLink : Nat
  /-- the link entry of the current traverse was accepted (09 R251; reset 0) -/
  linkSeen : Bool
  /-- consecutive traverses without a link entry (09 Table 9-8; reset 0) -/
  linkMiss : Nat
  /-- `LINK_SENSE_LOST`, 1 bit (09 Table 9-14; reset 0b0) -/
  linkLost : Bool
  /-- hold-off: the instant of the grant that set it (09 R253; reset clear) -/
  holdoff : Option Nat
  /-- `MODULATOR_RUNNING`, 1 bit (09 R258; reset 0) -/
  modulator : Bool
  /-- v_target of the running pre-charge, 10 mV (09 R256; reset 0) -/
  target : Nat
  /-- `PC_SOURCE`, string index of the running or accepted pre-charge (09 Table 9-12; reset none) -/
  source : Option (Fin 40)
  /-- source of the last accepted pre-charge, for the overcharge test of Table 9-8 (09 R255; reset none) -/
  lastSource : Option (Fin 40)
  /-- running link value as the modulator last read it, 10 mV (09 R258; reset 0) -/
  linkRun : Nat
  /-- v_l with which the modulator began its present cycle, 10 mV (09 R258; reset 0) -/
  vCycle : Nat
  /-- t_on and t_off of the modulator's present cycle, ns (09 R258; reset 0) -/
  tOn : Nat
  tOff : Nat
  /-- instant the bank entered DISCHARGING, ns (09 R255; reset 0) -/
  dischSince : Nat
  /-- `PC_REFUSED_SEEN`, `PC_TIMEOUT_SEEN`, `DISCH_TIMEOUT_SEEN`, bits 2 to 0 (09 Table 9-14; reset 0b000) -/
  seen : Nat
  /-- both sides of the half-bridge held off after a conflict, 1 bit (10 R271; reset 0) -/
  conflict : Bool
  /-- instant at which `GATE_CLEAR` took the Dn command off for 10 us (10 R280; reset none) -/
  dnPulse : Option Nat
  /-- `HB_CONFLICT_COUNT`, U32 (10 Table 10-7; reset 0) -/
  conflicts : Nat
  /-- readiness of Gn at the last tick (12 R330; reset 0, log 6) -/
  groupReady : Bool
  /-- `GROUP_DROP_SEEN`, 1 bit (12 Table 12-8; reset 0b0) -/
  groupDropSeen : Bool
  deriving DecidableEq, Repr

def BankCtl.reset : BankCtl :=
  { state := .dark, faultCause := 0, vLink := 0, linkSeen := false, linkMiss := 0, linkLost := false, holdoff := none,
    modulator := false, target := 0, source := none, lastSource := none, linkRun := 0, vCycle := 0, tOn := 0, tOff := 0, dischSince := 0, seen := 0, conflict := false, dnPulse := none, conflicts := 0,
    groupReady := false, groupDropSeen := false }

/-- Fault causes of a gate channel and their codes (10 Table 10-10). -/
inductive GateCause where
  | didt | didtHard | didtBlank | uvloPos | uvloNeg | rbOn | rbOpen | rbOff | stDidt | stUvlo | stRb
  deriving DecidableEq, Repr

def GateCause.code : GateCause → Nat
  | .didt => 1 | .didtHard => 2 | .didtBlank => 3 | .uvloPos => 4 | .uvloNeg => 5 | .rbOn => 6 | .rbOpen => 7
  | .rbOff => 8 | .stDidt => 9 | .stUvlo => 10 | .stRb => 11

/-- What a channel does to its gate (10 R275, R277, Table 10-3). -/
inductive Drive where
  | undriven   -- no rail up: the gate falls through its resistor, a clamp conducts
  | off        -- driven to -4 V at SINK
  | on         -- driven to +18 V at SOURCE
  | softOff    -- sinking at SOFT_OFF
  | heldLow    -- stages disabled, gate held at -4 V through the hold-low path
  deriving DecidableEq, Repr

/-- One gate channel (spec/10). Channels 0 to 39 are S01 to S40, 40 to 47 C1H, C1L to C4H, C4L, 48 to 51 D1 to D4
(10 Table 10-11). -/
structure Gate where
  /-- command bit of the belay logic (10 R265; reset 0, D 1, 03 Table 3-1) -/
  cmd : Bool
  /-- `CMD`, the command as the channel has seen it (10 Table 10-9; reset 0) -/
  seenCmd : Bool
  /-- instant of the channel's last command edge, ns (10 R269, R279; reset 0) -/
  edgeAt : Nat
  /-- what the channel does to its gate (10 R275; reset undriven, 03 R78) -/
  drive : Drive
  /-- `GATE_ON`, read-back at the on level, 1 bit (10 Table 10-9; reset 0, log 6) -/
  gateOn : Bool
  /-- `GATE_OFF`, read-back at the off level, 1 bit (10 Table 10-9; reset 0, log 6) -/
  gateOff : Bool
  /-- `FAULT_LATCHED` with `GATE_FAULT_CAUSE` (10 R275, R287; reset none, 0x00) -/
  latch : Option GateCause
  /-- self-test condition present since a failed step (10 R279; reset none) -/
  stCond : Option GateCause
  /-- the voltage between KS and PS is above the normal threshold, 1 bit (10 R279; reset 0) -/
  didtAbove : Bool
  /-- a di/dt event is held during blanking, 1 bit (10 R273; reset 0) -/
  didtHeld : Bool
  /-- `RAIL_POS_OK`, 1 bit (10 Table 10-9; reset 0, log 6) -/
  railPos : Bool
  /-- `RAIL_NEG_OK`, 1 bit (10 Table 10-9; reset 0, log 6) -/
  railNeg : Bool
  /-- belay fault record of the channel, with its cause (10 R276; reset none) -/
  record : Option GateCause
  /-- a fault detected and not yet reported to the belay logic, with the command state at detection (10 R276; reset none) -/
  report : Option (GateCause × Bool)
  /-- faults detected after `report` and not yet reported, in order (10 R276; reset none) -/
  queued : List (GateCause × Bool)
  /-- a further cause detected during soft-off, named in the same event (10 Table 10-4; reset none) -/
  second : Option GateCause
  /-- the read-back comparator is tripped, 1 bit (10 R279; reset 0) -/
  rbBad : Bool
  /-- instant of the command edge before the last, ns (10 R269; reset 0) -/
  edgeBefore : Nat
  /-- the latch that the last rising edge cleared (10 R271, R279; reset none) -/
  cleared : Option GateCause
  /-- `GATE_SELFTEST`, U8, 0 to 5 (10 Table 10-8; reset 0) -/
  selftest : Nat
  /-- `GATE_CFG` in force, U32 (10 Table 10-7; reset 0x3BC6_AC0C, C channels 0x3BC6_AC8C) -/
  cfg : Nat
  /-- accepted `GATE_CFG` awaiting its rising edge, `CFG_PENDING` (10 R285; reset none) -/
  cfgNext : Option Nat
  /-- `INTERLOCK_HOLD`, 1 bit (10 Table 10-9; reset 0b0) -/
  hold : Bool
  /-- `DIDT_SEEN`, `RB_SEEN`, `UVLO_SEEN`, bits 2 to 0 (10 Table 10-9; reset 0b000) -/
  seen : Nat
  /-- `GATE_FAULT_COUNT`, 3 x U32: di/dt, UVLO, read-back (10 Table 10-7; reset 0) -/
  counts : Vector Nat 3
  /-- `GATE_CYCLES`, U32 (10 Table 10-7; reset 0) -/
  cycles : Nat
  deriving DecidableEq, Repr

def Gate.reset (d : Bool) (cfg : Nat) : Gate :=
  { cmd := d, seenCmd := false, edgeAt := 0, drive := .undriven, gateOn := false, gateOff := false, latch := none, stCond := none,
    didtAbove := false, didtHeld := false, railPos := false, railNeg := false, record := none, report := none,
    queued := [], second := none, rbBad := false, edgeBefore := 0, cleared := none, selftest := 0, cfg := cfg, cfgNext := none, hold := false, seen := 0, counts := Vector.replicate 3 0,
    cycles := 0 }

/-- Gate matters of the block object (10 R281, Table 10-7). -/
structure GateBlock where
  /-- channels reported within the open coincident window: channel, cause, command state at detection, second cause
  (10 R281, R289; reset none) -/
  window : List (Nat × GateCause × Bool × Option GateCause)
  /-- instant the open window began, ns (10 R281; reset none) -/
  windowAt : Option Nat
  /-- `COINCIDENT_MAP`, U64 (10 Table 10-7; reset 0) -/
  map : Nat
  /-- `COINCIDENT_COUNT`, U32 (10 Table 10-7; reset 0) -/
  count : Nat
  deriving DecidableEq, Repr

def GateBlock.reset : GateBlock := { window := [], windowAt := none, map := 0, count := 0 }

/-- Envelope items (11 Table 11-2). -/
inductive EnvItem where
  | ov | uv | ot | ut | rise | ocDis | ocChg
  deriving DecidableEq, Repr

def EnvItem.code : EnvItem → Nat
  | .ov => 0 | .uv => 1 | .ot => 2 | .ut => 3 | .rise => 4 | .ocDis => 5 | .ocChg => 6

/-- The belay logic's state of one string (spec/11). -/
structure BelayStr where
  /-- `BELAY_N`, n_B, U8 (11 R292; reset 0) -/
  nB : Nat
  /-- confirmation counts by item x 2,048 + element, thermistor or 0 (11 R296; reset 0) -/
  counts : Sparse Nat
  /-- items violated at their most recent evaluation, by the same key (11 R301; reset none) -/
  violated : NatSet
  /-- five snapshots per thermistor, newest first: reading and alignment instant in ms (11 R298; reset none) -/
  snaps : Sparse (List (Option Int × Nat))
  /-- unseen counts of positions 0 to 32 (04 R131; reset 0) -/
  unseen : Vector Nat 33
  /-- positions seen in the current traverse, bit p (04 R131; reset 0) -/
  seenNow : Nat
  /-- thermistor readings of the last slow round invalid somewhere, `THERM_INVALID` (11 Table 11-11; reset 0, log 6) -/
  thermInvalid : Bool
  /-- thermistor readings of the present slow round invalid somewhere so far (11 Table 11-11; reset 0) -/
  thermNow : Bool
  /-- highest and lowest accepted cell voltage of the current traverse, 100 uV (11 R293; reset none) -/
  extremes : Option (Nat × Nat)
  /-- `BEL_V_MAX`, U16 (11 Table 11-9; reset 0, log 6) -/
  vMax : Nat
  /-- `BEL_V_MIN`, U16 (11 Table 11-9; reset 0, log 6) -/
  vMin : Nat
  /-- `I_LATCH` accepted by the belay logic in the current traverse, mA (11 R293; reset 0) -/
  iLatch : Int
  /-- `TRIP_ELEMENT`, U16 (11 Table 11-9; reset 0xFFFF) -/
  tripElement : Nat
  /-- `TRIP_VALUE`, I32 (11 Table 11-9; reset 0) -/
  tripValue : Int
  /-- `N_MISMATCH`, 1 bit (11 Table 11-11; reset 0b0) -/
  nMismatch : Bool
  /-- `PENDING_SEEN`, 1 bit (11 Table 11-11; reset 0b0) -/
  pendingSeen : Bool
  /-- cell temperatures have been judged since the start (03 R77; reset 0) -/
  slowSeen : Bool
  /-- items that have reached their confirmation value in this BEL cycle: item, element or thermistor, value and limit
  (11 R296; reset none) -/
  due : List (EnvItem × Nat × Int × Int)
  /-- unseen counts of the `READ_TEMP` replies, positions 0 to 32, in slow rounds (04 R131; reset 0) -/
  slowUnseen : Vector Nat 33
  /-- positions whose `READ_TEMP` reply was seen in the current slow round, bit p (04 R131; reset 0) -/
  slowNow : Nat
  /-- positions above the unseen limit and not seen since, p for traverses and 64 + p for slow rounds (04 R131; reset none) -/
  beyond : NatSet
  /-- positions of `beyond` whose trip is due in this BEL cycle (04 R131; reset none) -/
  unseenDue : NatSet
  deriving DecidableEq, Repr

def BelayStr.reset : BelayStr :=
  { nB := 0, counts := [], violated := [], snaps := [], unseen := Vector.replicate 33 0, seenNow := 0, thermInvalid := false, thermNow := false,
    extremes := none, vMax := 0, vMin := 0, iLatch := 0, tripElement := 0xFFFF, tripValue := 0, nMismatch := false,
    pendingSeen := false, slowSeen := false, due := [], slowUnseen := Vector.replicate 33 0, slowNow := 0,
    beyond := [], unseenDue := [] }

/-- A report in the belay report queue (01 R20, 11 R293). -/
structure BelayReport where
  /-- string index -/
  str : Nat
  /-- 0 and 1 the bitmap of port A and of port B, 2 the report of a slow latch, 3 a changed n_B, 4 the outcome of a request of records -/
  kind : Nat
  /-- traverse number, low 16 bits -/
  number : Nat
  /-- accepted positions, or n_B -/
  map : Nat
  /-- highest and lowest accepted cell voltage, 100 uV -/
  extremes : Option (Nat × Nat)
  /-- `I_LATCH`, mA -/
  iLatch : Int
  /-- the last record of the request and, where it was refused, the failing record (11 R306, R307) -/
  verdict : Option (BelayRecord × Option Nat)
  deriving DecidableEq, Repr

/-- The belay logic's own state (spec/11, spec/01 R33, R35). -/
structure Belay where
  /-- released from its supply monitor, 1 bit (03 R77; reset 0) -/
  released : Bool
  /-- instant of the release: ticks and cycles count from it, ns (12 R319, R322; reset 0) -/
  releasedAt : Nat
  /-- privileged queue, oldest first; entries beyond 16 are held by the seal engine (01 Table 1-6; reset none) -/
  privQ : List PrivEntry
  /-- committed records by index x 2^32 + sub x 2^16 + element (11 R304, 12 R318; reset none) -/
  store : Sparse Nat
  /-- records whose copy 1, copy 2 or both fail their CHECK: bits 0 and 1 (11 R308; reset none) -/
  badCopies : Sparse Nat
  /-- records failed in both copies, degraded until written again (11 R308, 12 R318; reset none) -/
  degraded : NatSet
  /-- staged records of the request in progress (11 R306; reset none) -/
  staging : List BelayRecord
  /-- outcome of the last request: none yet, or its abort code and item (11 R306, R307; reset none) -/
  outcome : Option (Nat × Nat)
  /-- `ENV_COMMIT_COUNT`, U32 (11 Table 11-9; reset 0) -/
  commits : Nat
  /-- `ENV_DIGEST`, U32 (11 Table 11-9; reset 0, log 6) -/
  digest : Nat
  /-- commit count at the slow latch of that digest (11 R310; reset 0) -/
  digestCommits : Nat
  /-- firmware's mirror of the committed records (11 R310; reset none) -/
  mirror : Sparse Nat
  /-- firmware's commit count (11 R310; reset 0) -/
  mirrorCommits : Nat
  /-- digest and commit count of the mirror placed in the belay request queue (11 R310; reset none) -/
  mirrorPosted : Option (Nat × Nat)
  /-- `ENV_MIRROR_DIGEST`, U32 (11 Table 11-9; reset 0, log 6) -/
  mirrorDigest : Nat
  /-- `MIRROR_MISMATCH`, 1 bit (11 Table 11-10; reset 0b0) -/
  mirrorMismatch : Bool
  /-- a comparison differed while firmware did not act, which repairs its mirror when it acts again (11 R311; reset 0) -/
  mirrorDue : Bool
  /-- records awaiting a sealed rewrite, `REWRITE_REQUESTED` (11 R311; reset none) -/
  rewrite : NatSet
  /-- `TAP_DISAGREE_COUNT`, U32 (11 Table 11-9; reset 0) -/
  disagreeCount : Nat
  /-- `REPORT_LOSS_COUNT`, U32 (11 Table 11-9; reset 0) -/
  reportLoss : Nat
  /-- belay report queue, 64 entries, oldest first (01 Table 1-6; reset none) -/
  reports : List BelayReport
  /-- `MIRROR_MISMATCH_COUNT`, U32 (11 Table 11-9; reset 0) -/
  mismatchCount : Nat
  /-- `MISSING_TRAVERSE`, 1 bit (11 Table 11-10; reset 0, log 6) -/
  missing : Bool
  /-- the traverse in which the detection of R35 came into force; none without one (11 R299; reset none) -/
  missingFor : Option Nat
  /-- frames being put together from the tap's entries, by port number: the traverse window stood open at the sync, and the bytes so
  far (01 R16, 11 R291; reset none) -/
  rx : Sparse (Bool × List Byte)
  /-- instant of the last tap entry or counted missing interval, ns (01 R35, 11 R299; reset 0) -/
  lastTap : Nat
  /-- alignment instant of the last slow latch, ns (11 R298; reset 0) -/
  slowAt : Nat
  /-- a traverse has been seen since the release (03 R77; reset 0) -/
  traverseSeen : Bool
  /-- bits 5 to 0 of `BELAY_STATUS`, the W1C fields (11 Table 11-10; reset 0) -/
  seen : Nat
  deriving DecidableEq, Repr

def Belay.reset : Belay :=
  { released := false, releasedAt := 0, privQ := [], store := [], badCopies := [], degraded := [], staging := [], outcome := none,
    commits := 0, digest := 0, digestCommits := 0, mirrorDue := false, missingFor := none, mirror := [], mirrorCommits := 0, mirrorPosted := none, mirrorDigest := 0, mirrorMismatch := false,
    rewrite := [], disagreeCount := 0, reportLoss := 0, reports := [], mismatchCount := 0, missing := false, rx := [], lastTap := 0, slowAt := 0,
    traverseSeen := false, seen := 0 }

end Sys2Proof.Machine
end

