-- ==== Sys2Proof/Machine/DictState.lean ====
section
/-!
DEFINITION. State of the dictionary, the partners, the seal engine, the trust list and the configuration partition
(spec/14, spec/15, spec/17 R451).
Each field's line ends with the rule that names it and its reset value; "log n" is notes/assumptions/n.md.
-/

namespace Sys2Proof.Machine

/-- A message the device sends (14 Table 14-2, 13, 19). -/
inductive Message where
  | readReply (to_ : Src) (index sub total offset : Nat) (data : List Byte)
  | writeReply (to_ : Src) (index sub next : Nat)
  | abort (to_ : Src) (index sub code : Nat)
  | heartbeatReply (to_ : Src) (state period : Nat)
  | heartbeat (iface state period : Nat)
  /-- a CAN frame at its start of frame; bit 29 of `id` is an extended identifier -/
  | canFrame (net id : Nat) (fd brs esi : Bool) (data : List Byte)
  | rope (string port : Nat) (frame : List Byte)
  | streamDatagram (port ip dport : Nat) (data : List Byte)
  | arpReply (port : Nat)
  | gratuitousArp (port : Nat)
  | icmpReply (port : Nat)
  | ptp (port kind seq : Nat) (time : Int) (data : List Byte)
  deriving DecidableEq, Repr

/-- What the factory partition and the running image give the module (15 R411, 17 Table 17-1, 19 Table 19-5, 11 Table 11-9). -/
structure Identity where
  /-- `FW_VERSION` of images A and B, 2 x U32 (15 Table 15-3; reset 0, log 6) -/
  fwVersion : Vector Nat 2
  /-- `HW_ISSUE`, U8 (15 Table 15-2; reset 0x41, issue A, log 6) -/
  hwIssue : Nat
  /-- `BOOT_ROM_VERSION`, U32 (15 Table 15-2; reset 0, log 6) -/
  bootRom : Nat
  /-- `PART_NUMBER`, 24 bytes (15 Table 15-2; reset zeros, log 6) -/
  part : List Byte
  /-- `MFG_TIME`, U64, 1 ms UTC (15 Table 15-2; reset 0, log 6) -/
  mfgTime : Nat
  /-- `BELAY_ROM_ISSUE`, U32 (11 Table 11-9; reset 0, log 6) -/
  romIssue : Nat
  /-- `MAC_ADDR` of ETH1 and ETH2, 2 x 6 bytes (19 Table 19-5; reset zeros, log 6) -/
  mac : Vector (List Byte) 2
  deriving DecidableEq, Repr

def Identity.reset : Identity :=
  { fwVersion := Vector.replicate 2 0, hwIssue := 0x41, bootRom := 0, part := List.replicate 24 0x00#8, mfgTime := 0, romIssue := 0,
    mac := Vector.replicate 2 (List.replicate 6 0x00#8) }

/-- An entry of the partner table (14 R402, Table 14-8), with the partner's recorder cursor (17 R448) and history
selection (17 R458). -/
structure Partner where
  iface : Nat
  addr : Nat
  present : Bool
  hbState : Nat
  period : Nat
  first : Nat
  last : Nat
  lastMsg : Nat
  lastHb : Nat
  cursor : Nat
  histSelect : Nat
  deriving DecidableEq, Repr

def Partner.empty : Partner :=
  { iface := 0xFF, addr := 0, present := false, hbState := 0, period := 0, first := 0, last := 0, lastMsg := 0, lastHb := 0,
    cursor := 0, histSelect := 0 }

/-- An open transfer (14 R385 to R387). `write` tells a write from a read, `data` holds what a write has brought so far or
the copy a read is served from. -/
structure Transfer where
  src : Src
  write : Bool
  index : Nat
  sub : Nat
  total : Nat
  next : Nat
  data : List Byte
  at_ : Nat
  deriving DecidableEq, Repr

/-- A completed write, for the repeat rule of R387: its last message and when it completed. -/
structure LastWrite where
  src : Src
  index : Nat
  sub : Nat
  total : Nat
  offset : Nat
  data : List Byte
  at_ : Nat
  deriving DecidableEq, Repr

/-- A plain write that waits for a sealed request which holds its entry (14 R390): its value, its final message as `LastWrite` has it, and
its `TAG`. -/
structure WaitingWrite where
  src : Src
  index : Nat
  sub : Nat
  data : List Byte
  last : Nat × List Byte
  tag : Nat
  deriving DecidableEq, Repr

/-- A sealed request that waits at the seal engine (14 R394): its bytes and its arrival tick (R390). `orphan`, a processor restart has
come since, so that it is verified but neither applied nor answered (R378). -/
structure SealWait where
  src : Src
  bytes : List Byte
  tick : Nat
  orphan : Bool
  deriving DecidableEq, Repr

/-- A sealed request whose answer is outstanding: its bytes, the final message that brought it (14 R387) and the `TAG` of its reply
(R381). -/
structure Submitted where
  bytes : List Byte
  last : LastWrite
  tag : Nat
  deriving DecidableEq, Repr

/-- A slot of the trust list (14 R398). -/
structure TrustSlot where
  /-- `TRUST_KEY`, 32 bytes; none empty (14 Table 14-11; reset zeros, empty) -/
  key : Option (List Byte)
  /-- `TRUST_COUNTER`, U64 (14 Table 14-11; reset 0) -/
  counter : Nat
  /-- `TRUST_ENROLLED`, U64 (14 Table 14-11; reset 0) -/
  enrolled : Nat
  deriving DecidableEq, Repr

/-- A firmware session (14 R401). -/
structure FwSession where
  src : Src
  length : Nat
  written : List Byte
  at_ : Nat
  deriving DecidableEq, Repr

/-- The items of a configuration copy that the rules change by themselves, besides the sealed part that the seal engine holds
(17 R451, 03 Table 3-3). -/
structure CfgItems where
  /-- redirected SRAM rows (18 R474) -/
  rows : List Nat
  /-- retired flash blocks (18 R476) -/
  blocks : List Nat
  /-- on its group's spare PHY and out of service, by port 1 to 80 (04 R134) -/
  ports : List (Bool × Bool)
  /-- stored lock-outs by string (09 R244) -/
  lockouts : List (Option Nat)
  /-- the PLL runs on X4 (18 R477) -/
  oscSpare : Bool
  deriving DecidableEq, Repr

def CfgItems.empty : CfgItems := { rows := [], blocks := [], ports := [], lockouts := [], oscSpare := false }

/-- One configuration copy (17 R451). -/
structure CfgCopy where
  generation : Nat
  crcOk : Bool
  vals : Sparse Nat
  items : CfgItems
  deriving DecidableEq, Repr

/-- The seal engine and the trust list (spec/14). -/
structure Seal where
  /-- trust list, 8 slots (14 R398; reset empty, 14 R399) -/
  slots : Vector TrustSlot 8
  /-- requests waiting at the seal engine, at most 8, `SEAL_QUEUE` (14 R394; reset none) -/
  queue : List SealWait
  /-- `SEAL_RESULT`, U32 (14 Table 14-11; reset 0) -/
  result : Nat
  /-- `ERASE_ARMED`, the instant of the write that armed it (14 R400; reset 0b0) -/
  eraseArmed : Option Nat
  /-- consumed counters not yet stored, bit k for slot k, `COUNTER_STORE_PENDING` (14 R395; reset 0b0) -/
  storePending : Nat
  /-- counters held in the configuration partition, 8 x U64 (03 R86; reset 0) -/
  storedCounters : Vector Nat 8
  /-- firmware session, `FW_SESSION` (14 R401; reset 0b0) -/
  fw : Option FwSession
  /-- `FW_STATUS`, U8 (14 Table 14-11; reset 0) -/
  fwStatus : Nat
  /-- `REJECT_SEEN`, `CONTENDED_SEEN`, `BUSY_SEEN`, `TRUST_CHANGED_SEEN`, bits 3 to 0 (14 Table 14-12; reset 0b0000) -/
  seen : Nat
  /-- stored sealed requests as received, in the order committed (03 R85, 11 R309; reset none) -/
  stored : List SealedReq
  /-- accepted actuation requests whose pass waits for the belay logic and for firmware's decision, with that pass
  (09 R248, R246; reset none) -/
  actions : List (Pass × SealedReq)
  /-- verified requests whose records the belay logic holds and has not answered, in order (11 R305, 14 R397; reset none) -/
  forwarded : List SealedReq
  deriving DecidableEq, Repr

def Seal.reset : Seal :=
  { slots := Vector.replicate 8 ⟨none, 0, 0⟩, queue := [], result := 0, eraseArmed := none, storePending := 0,
    storedCounters := Vector.replicate 8 0, fw := none, fwStatus := 0, seen := 0, stored := [], actions := [], forwarded := [] }

/-- The dictionary: values, partners, transfers and counters (spec/14, spec/15). -/
structure Dict where
  /-- values of the RW and RWS entries that differ from their default, by index x 2^32 + sub x 2^16 + element
  (14 R388, Tables of every chapter; reset each entry's default, "cfg" 0, log 6) -/
  vals : Sparse Nat
  /-- values of the STR and BLOB entries that are written, by index x 2^32 + sub x 2^16 (14 Table 14-3; reset default) -/
  strs : Sparse (List Byte)
  /-- the two configuration copies (17 R451; reset none valid, log 7) -/
  copies : Vector CfgCopy 2
  /-- `CFG_GEN`, U32 (17 Table 17-9; reset 0, log 6) -/
  cfgGen : Nat
  /-- `LIST_ID` stored at the last start, U32, configuration partition (15 R422; reset 0, log 6) -/
  listId : Nat
  /-- `PARTNER`, 64 entries (14 R402; reset empty) -/
  partners : Vector Partner 64
  /-- open transfers, one per partner and interface (14 R387; reset none) -/
  transfers : List Transfer
  /-- last completed write per partner and interface (14 R387; reset none) -/
  lastWrites : List LastWrite
  /-- sealed requests whose answer is outstanding, oldest first (14 R381, R387, R397; reset none) -/
  submitted : List Submitted
  /-- writes of the present SYS tick, with the tick's count: index, sub-index, interface (14 R390; reset none) -/
  tickWrites : Nat × List (Nat × Nat × Nat)
  /-- `WRITE_COUNT`, 6 x U32 (14 Table 14-11; reset 0) -/
  writes : Vector Nat 6
  /-- `ABORT_COUNT`, 6 x U32 (14 Table 14-11; reset 0) -/
  aborts : Vector Nat 6
  /-- `CONTENDED_COUNT`, U32 (14 Table 14-11; reset 0) -/
  contended : Nat
  /-- `DISCARD_COUNT`, 6 x U32 (14 Table 14-11; reset 0) -/
  discards : Vector Nat 6
  /-- instant of the device's last heartbeat, ns (14 R403; reset 0) -/
  hbAt : Nat
  /-- messages handed to the transmit side, oldest first (14 Table 14-2; reset none) -/
  sent : List Message
  /-- those of them over UDP and the service port as bytes, the latter framed, oldest first (14 R381, R382; reset none) -/
  wire : List (List Byte)
  /-- bytes of the service port's stream that belong to no whole frame yet (14 R382; reset none) -/
  serviceRx : List Byte
  /-- `TAG` of the last message of each partner over UDP and the service port (14 Table 14-4; reset none) -/
  tags : List (Src × Nat)
  deriving DecidableEq, Repr

def Dict.reset : Dict :=
  { vals := [], strs := [], copies := Vector.replicate 2 ⟨0, false, [], CfgItems.empty⟩, cfgGen := 0, listId := 0, partners := Vector.replicate 64 Partner.empty,
    transfers := [], lastWrites := [], submitted := [], tickWrites := (0, []), writes := Vector.replicate 6 0, aborts := Vector.replicate 6 0,
    contended := 0, discards := Vector.replicate 6 0, hbAt := 0, sent := [], wire := [], serviceRx := [], tags := [] }

end Sys2Proof.Machine
end

