-- ==== Sys2Proof/Machine/EstState.lean ====
section
/-!
DEFINITION. State of the estimator, the learned data, their write-back and the cell history (spec/08, spec/17 R451 to R458).
Cells are keyed by string x 1,024 + element - 1. Quantities are exact rationals (log 23).
Each field's line ends with the rule that names it and its reset value; "log n" is notes/assumptions/n.md.
-/

namespace Sys2Proof.Machine

/-- One applied anchor (08 R224). -/
structure Anchor where
  soc : Rat
  sigma : Rat
  at_ : Nat
  q : Rat
  deriving DecidableEq, Repr

/-- Report card of a cell (08 Table 8-2): throughput in Ah, the time at or above 45 degC in ns. -/
structure Card where
  throughput : Rat
  capFirst : Nat
  vMax : Nat
  vMin : Nat
  tMax : Int
  hot : Nat
  iscMax : Nat
  deriving DecidableEq, Repr

def Card.empty : Card := { throughput := 0, capFirst := 0, vMax := 0, vMin := 0, tMax := -0x8000, hot := 0, iscMax := 0 }

/-- The estimator's figures of one cell (08 R217 to R225). -/
structure CellEst where
  /-- state of charge, % (08 R228; reset 50) -/
  soc : Rat
  /-- uncertainty, % (08 R228; reset 50) -/
  u : Rat
  /-- learned capacity, mAh (08 R228; reset `CAP_NOM`) -/
  cap : Rat
  /-- `R_LEARNED`, uOhm; none reads 0 (08 Table 8-7; reset 0) -/
  r : Option Rat
  /-- running net charge, mAh (08 R217; reset 0) -/
  q : Rat
  /-- cumulative balancing charge, mAh (07 R205; reset 0) -/
  qBal : Rat
  /-- ring of the four newest anchors, newest first (08 R224; reset none) -/
  ring : List Anchor
  /-- instant of the last anchor; none reads 0xFFFF_FFFF (08 Table 8-7; reset none) -/
  anchorAt : Option Nat
  /-- `OCV_EST`, V (08 Table 8-7; reset 0) -/
  ocv : Rat
  /-- `CAP_LEARN_COUNT`, U16 (08 Table 8-7; reset 0) -/
  learned : Nat
  /-- cell temperature, 0.1 degC, and whether it is of the last complete slow round (08 R213; reset 0, log 6) -/
  temp : Rat
  tempNow : Bool
  card : Card
  deriving DecidableEq, Repr

/-- The estimator's figures of one string (08 R223, R226, R232). -/
structure StrEst where
  /-- counter values of R201 at the previous step (08 R217; reset 0) -/
  qDis : Nat
  qChg : Nat
  /-- internal SoC, uncertainty, Q_d and Q_c (08 R226; reset 0, log 6) -/
  soc : Rat
  u : Rat
  qd : Rat
  qc : Rat
  /-- reported SoC (08 R227; reset 50) -/
  reported : Rat
  /-- `STRING_Q_AVAIL`, mAh (08 R226; reset 0, log 6) -/
  avail : Rat
  /-- limits published: discharge 2 s, 30 s, charge 2 s, 30 s, mA (08 R232; reset 0) -/
  lim : List Rat
  /-- `LIM_SOURCE`, U8 (08 Table 8-7; reset 0x00) -/
  source : Nat
  /-- the limits use learned resistance (08 R230; reset 0) -/
  fallback : Bool
  /-- instant since which every accepted I_MEAN is below 0.02C (08 R223; reset none) -/
  quietSince : Option Nat
  /-- alignment instant of the step at which the string came to rest; none while not at rest, `REST_STATE` (08 R223; reset none) -/
  rest : Option Nat
  /-- profile the cells were last set up for; kept through every reset, so that a change pending at one is not lost (08 R210; reset 1, log 6) -/
  profile : Nat
  deriving DecidableEq, Repr

def StrEst.empty : StrEst :=
  { qDis := 0, qChg := 0, soc := 0, u := 0, qd := 0, qc := 0, reported := 50, avail := 0, lim := [0, 0, 0, 0], source := 0,
    fallback := false, quietSince := none, rest := none, profile := 1 }

/-- One cell of a published traverse: its voltage, whether it was seen, and whether it was usable (07 R195). -/
structure CellSample where
  v : Nat
  seen : Bool
  usable : Bool
  deriving DecidableEq, Repr

/-- One published traverse, as the steps and windows of R215 to R222 and R234 need it: number, alignment instant in ns, `I_LATCH` and
`I_MEAN` of the accepted H1 replies by string, the cells, the charge counters as they stood at its `COMPLETE` (07 R201), the on-time by
cell (06 R177), the strings that were CLOSED, the effective period in us (R216), and the instant since which each quiet string was quiet
(R223). -/
structure Sample where
  number : Nat
  at_ : Nat
  iLatch : Sparse Int
  iMean : Sparse Int
  cells : Sparse CellSample
  charge : Sparse (Nat × Nat)
  on : Sparse Nat
  closed : NatSet
  period : Nat
  quiet : Sparse Nat
  deriving DecidableEq, Repr

/-- What a learned-data copy holds (17 Tables 17-3 and 17-4, 08 R233). Cell figures stand in the copy's own units: anchor ages
in seconds before the write in `at_`, anchor charges relative to the cell's own. -/
structure Learned where
  generation : Nat
  /-- a valid copy stands in the region: magic, format, length and CRC-32C hold (17 R452) -/
  crcOk : Bool
  serial : Nat
  writtenAt : Nat
  quality : Nat
  reason : Nat
  installed : Nat
  cells : Sparse CellEst
  /-- reported SoC of strings 1 to 40, banks 1 to 4 and the block -/
  reported : List Rat
  isd : Sparse Int
  levels : Sparse Nat
  onTime : Sparse Nat
  deriving DecidableEq, Repr

def Learned.empty : Learned :=
  { generation := 0, crcOk := false, serial := 0, writtenAt := 0, quality := 0, reason := 0, installed := 0, cells := [], reported := [],
    isd := [], levels := [], onTime := [] }

/-- A history set (17 R455, Table 17-7). `cells` holds the cells present, with I_sd and `ISC_LEVEL`. -/
structure HistSet where
  seq : Nat
  time : Nat
  quality : Nat
  reason : Nat
  generation : Nat
  installed : Nat
  excluded : Nat
  cells : Sparse (CellEst × Int × Nat)
  deriving DecidableEq, Repr

/-- The estimator (spec/08). -/
structure Est where
  /-- steps running (08 Table 8-8; reset 0, log 6) -/
  running : Bool
  /-- alignment instant of the previous step, ns (08 R216; reset none) -/
  last : Option Nat
  cells : Sparse CellEst
  strs : Vector StrEst 40
  /-- bank reported SoC (08 R227; reset 50) -/
  bankRep : Vector Rat 4
  /-- bank limits published, discharge short, long, charge short, long (08 R231; reset 0) -/
  bankLim : Vector (List Rat) 4
  /-- `LIM_SHARE_MAX`, % (08 R231; reset 0) -/
  share : Vector Rat 4
  /-- block reported SoC (08 R227; reset 50) -/
  blockRep : Rat
  /-- `CAP_NOM` and `R_DC_FACTOR` of profiles 1 to 4 in force since the last step (08 R212; reset 100,000 and 130, the defaults) -/
  force : Vector (Nat × Nat) 4
  /-- cells that stand at or above `U_WARN` (08 R219; reset none) -/
  warned : NatSet
  /-- published traverses not yet stepped and those of the last 60 s, newest first (08 R215, R216, R222; reset none) -/
  window : List Sample
  /-- bits 14 to 6 of `EST_STATUS` but for `LIM_FALLBACK` (08 Table 8-8; reset 0) -/
  status : Nat
  /-- the CRC of the estimator's state in SRAM holds (03 R91, 08 R235; reset 1) -/
  sramOk : Bool
  /-- an extra write-back is requested for the next step (08 R233; reset 0) -/
  writeReq : Bool
  deriving DecidableEq, Repr

def Est.reset : Est :=
  { running := false, last := none, cells := [], strs := Vector.replicate 40 StrEst.empty, bankRep := Vector.replicate 4 50,
    bankLim := Vector.replicate 4 [0, 0, 0, 0], share := Vector.replicate 4 0, blockRep := 50, force := Vector.replicate 4 (100000, 130), warned := [],
    window := [], status := 0, sramOk := true, writeReq := false }

/-- Learned data and cell history in flash (17 R452 to R458). -/
structure Store where
  /-- newest valid copy of each of the three regions, `LEARN_GEN` (17 R452; reset none valid, log 7) -/
  copies : Vector Learned 3
  /-- regions whose other slot holds a torn copy, bit r (17 R454; reset none) -/
  torn : Nat
  /-- instant the last copy of each region was completed; its other slot is erased within 2 s (17 R452; reset none) -/
  slotAt : Vector (Option Nat) 3
  /-- a write-back in progress: image, cause and the region being written, `WRITE_RUNNING` (17 R453; reset none) -/
  writing : Option (Learned × Nat × Nat)
  /-- cause of the further write-back that waits for the running one (17 R453; reset none) -/
  waiting : Option Nat
  /-- the learned data have changed since the last complete write-back (03 R97; reset 0) -/
  changed : Bool
  /-- `LEARN_WRITE_LAST`, U64 (08 Table 8-5; reset 0, log 6) -/
  lastWrite : Nat
  /-- instant of the last periodic write-back, ns (08 R233; reset 0) -/
  periodic : Nat
  /-- history sets by slot, 128 slots (17 R455; reset none) -/
  sets : Sparse HistSet
  /-- cause of a write-back whose history set was lost (17 R456; reset none) -/
  lostSet : Option Nat
  /-- `MERGED`, 1 bit (17 Table 17-12; reset 0, log 6) -/
  merged : Bool
  /-- `NONE_VALID`, 1 bit (17 Table 17-12; reset 0, log 6) -/
  noneValid : Bool
  /-- `REWRITE_PENDING`, 1 bit (17 Table 17-12; reset 0, log 6) -/
  rewrite : Bool
  /-- `COPY_INVALID_SEEN`, `MERGE_SEEN`, `CFG_INVALID_SEEN`, `HIST_DROPPED_SEEN`, bits 3 to 0 (17 Table 17-12; reset 0b0000) -/
  seen : Nat
  /-- `LEARN_SELECTED`, U32 (17 Table 17-9; reset 0, none) -/
  selected : Nat
  /-- `LEARN_WRITE_COUNT`, U32 (17 Table 17-9; reset 0) -/
  writes : Nat
  deriving DecidableEq, Repr

def Store.reset : Store :=
  { copies := Vector.replicate 3 Learned.empty, torn := 0, slotAt := Vector.replicate 3 none, writing := none, waiting := none,
    changed := false, lastWrite := 0, periodic := 0, sets := [], lostSet := none, merged := false, noneValid := false, rewrite := false,
    seen := 0, selected := 0, writes := 0 }

end Sys2Proof.Machine
end

