-- ==== Sys2Proof/Machine/NetState.lean ====
section
/-!
DEFINITION. State of the Ethernet ports, the cell stream, the calendar and the PTP clock (spec/19).
Each field's line ends with the rule that names it and its reset value; "log n" is notes/assumptions/n.md.
-/

namespace Sys2Proof.Machine

/-- One Ethernet port (19 R483 to R485, Tables 19-5 and 19-6). -/
structure Eth where
  /-- `LINK_UP`, 1 bit (19 Table 19-6; reset 0, log 6) -/
  up : Bool
  /-- `SPEED_1000`, 1 bit (19 Table 19-6; reset 0, log 6) -/
  fast : Bool
  /-- `ADDR_CONFLICT`, 1 bit (19 R485; reset 0b0) -/
  conflict : Bool
  /-- `LINK_DOWN_SEEN`, 1 bit (19 Table 19-6; reset 0b0) -/
  downSeen : Bool
  /-- `ETH_COUNTS`, 8 x U32 (19 Table 19-5; reset 0) -/
  counts : Vector Nat 8
  /-- `IP_IN_FORCE`: address, mask, gateway (19 R484; reset 0, log 6) -/
  ip : Nat
  mask : Nat
  gateway : Nat
  /-- receive queue, 16 KiB: frames that wait for firmware, with their bytes (01 Table 1-6, log 182; reset none) -/
  rxQ : List (EthFrame × Nat)
  deriving DecidableEq, Repr

def Eth.reset : Eth :=
  { up := false, fast := false, conflict := false, downSeen := false, counts := Vector.replicate 8 0, ip := 0, mask := 0, gateway := 0, rxQ := [] }

/-- The cell stream (19 R486 to R489). -/
structure CellStream where
  /-- `STREAM_RUNNING`, 1 bit (19 Table 19-6; reset 0, log 6) -/
  running : Bool
  /-- `STREAM_SUSPENDED`, 1 bit (19 R489; reset 0, log 6) -/
  suspended : Bool
  /-- `DEST_UNRESOLVED`, 1 bit (19 Table 19-6; reset 0, log 6) -/
  unresolved : Bool
  /-- `DROP_SEEN`, 1 bit (19 Table 19-6; reset 0b0) -/
  dropSeen : Bool
  /-- the last set is not sent complete yet (19 R486; reset 0) -/
  open_ : Bool
  /-- traverse of the last set (19 R486; reset none) -/
  last : Option Nat
  /-- `STREAM_RATE`, U32 in kbit/s (19 R489; reset 0) -/
  rate : Nat
  /-- `STREAM_SETS`, U32 (19 Table 19-5; reset 0) -/
  sets : Nat
  /-- `STREAM_DROPPED`, U32 (19 Table 19-5; reset 0) -/
  dropped : Nat
  deriving DecidableEq, Repr

def CellStream.reset : CellStream :=
  { running := false, suspended := false, unresolved := false, dropSeen := false, open_ := false, last := none, rate := 0, sets := 0, dropped := 0 }

/-- Time sources and the PTP clock (19 R490 to R496). -/
structure Clock where
  /-- `TIME_SOURCE`: 0 PTP, 1 CANTM, 2 RTC (19 Table 19-5; reset 2) -/
  source : Nat
  /-- instant of the last selection, ns (19 R492; reset 0) -/
  selectAt : Nat
  /-- a change of source that takes effect at T0 of the next trigger (19 R492; reset none) -/
  next : Option Nat
  /-- the calendar has been set since the backup registers were last valid (19 Table 19-4; reset 0) -/
  set_ : Bool
  /-- instants since which PTP and CANTM have been valid without a break (19 R492; reset none) -/
  ptpSince : Option Nat
  canSince : Option Nat
  /-- U at the last change of source or at `TIME_SET`, us, and its instant (19 Table 19-4; reset 0) -/
  unc : Nat
  uncAt : Nat
  /-- uncertainty stated by a TIME_SET is unknown: `TQ_UNC` 15 (19 R494; reset 0) -/
  uncUnknown : Bool
  /-- difference still to be slewed, us, and the instant it was last brought up to date (19 R492; reset 0) -/
  slew : Int
  slewAt : Nat
  /-- `TIME_STEP_COUNT`, U32 (19 Table 19-5; reset 0) -/
  steps : Nat
  /-- the last CAN time reference: quality byte, calendar ms and instant (13 R365; reset none) -/
  canRef : Option (Nat × Nat × Nat)
  /-- the alarm of `RTC_ALARM` has been raised, 1 bit (19 R494; reset 0) -/
  alarmed : Bool
  /-- `PTP_STATE`, 1 to 9 (19 Table 19-5; reset 3) -/
  ptp : Nat
  /-- `PTP_OFFSET`, I32 ns (19 Table 19-5; reset 0) -/
  offset : Int
  /-- `PTP_MEAN_DELAY`, I32 ns (19 Table 19-5; reset 0) -/
  delay : Int
  /-- `PTP_GM_ID`, U64 (19 Table 19-5; reset 0) -/
  gm : Nat
  /-- `PTP_RATE`, I32 ppb (19 Table 19-5; reset 0) -/
  rate : Int
  /-- last 16 Sync offsets, newest first, ns (19 Table 19-4; reset none) -/
  offsets : List Int
  /-- the PTP clock: the master's time less the model's time base, ns (19 R495, log 32; reset none) -/
  ptpBase : Option Int
  /-- origin of the last Sync less its reception, ns (19 R495; reset none) -/
  ptpDiff : Option Int
  /-- instant of the last Announce (19 R496; reset none) -/
  announceAt : Option Nat
  /-- `currentUtcOffset` where valid, and the leap flags of the last Announce: 0 none, 1 leap61, 2 leap59 (19 R493; reset none, 0) -/
  utcOffset : Option Int
  leap : Nat
  /-- sequence numbers of Announce, Sync and Delay_Req sent (19 R495; reset 0) -/
  seqs : Vector Nat 3
  /-- a Sync awaits its Follow_Up: its sequence and reception instant (19 R495; reset none) -/
  syncWait : Option (Nat × Nat)
  /-- a delay request awaits its response: its sequence, its sending instant, and the reception instant of a Pdelay_Resp with the
  receipt time it carries (19 R495; reset none) -/
  delayWait : Option (Nat × Nat × Option (Nat × Int))
  deriving DecidableEq, Repr

def Clock.reset : Clock :=
  { source := 2, selectAt := 0, next := none, set_ := false, ptpSince := none, canSince := none, unc := 0, uncAt := 0, uncUnknown := true, slew := 0,
    slewAt := 0, steps := 0, canRef := none, alarmed := false, ptp := 3, offset := 0, delay := 0, gm := 0, rate := 0, offsets := [],
    ptpBase := none, ptpDiff := none, announceAt := none, utcOffset := none, leap := 0, seqs := Vector.replicate 3 0, syncWait := none, delayWait := none }

end Sys2Proof.Machine
end

