-- ==== Sys2Proof/Machine/NodeState.lean ====
section
/-!
DEFINITION. State of the rope nodes: the H1 rope head at place 0 and the C16 monitors at places 1 to 32 of each rope
(spec/04, spec/05 R143 to R156, spec/06 R177 to R185).
Each field's line ends with the rule that names it and its reset value; "log n" is notes/assumptions/n.md. A node's reset
column in the spec is its state after its own restart.
-/

namespace Sys2Proof.Machine

/-- What `SET_SERVE` gives a node (04 Table 4-6). -/
structure Serve where
  end_ : PortEnd
  deep : Nat
  delay : Nat
  /-- first and last position named (04 Table 4-6) -/
  first : Nat
  last : Nat
  deriving DecidableEq, Repr

/-- A sample of zeros. -/
def HeldSample.empty : HeldSample := { cells := List.replicate 16 0, iLatch := 0, iMean := 0, vString := 0, iCheck := 0, shunt := 0 }

/-- A strobe a node has scheduled (05 R143), with the instant it fires. -/
structure Strobe where
  at_ : Nat
  number : Nat
  slow : Bool
  permit : Bool
  /-- look-back of the sample it takes, ns (05 R143) -/
  back : Nat
  deriving DecidableEq, Repr

/-- One node. -/
structure Node where
  /-- part code 0x41 H1, 0x42 C16, hardware issue, serial number and firmware version (04 R111; factory, reset 0, log 6) -/
  issue : Nat
  serial : Nat
  version : Nat
  /-- position taken from `ROLL_CALL_A` (04 R117; reset none) -/
  position : Option Nat
  /-- B-hop taken from `ROLL_CALL_B` (04 R117; reset none) -/
  bHop : Option Nat
  /-- serving end, deepest hop and hop delay in force, `SERVE_END` (04 R107; reset 0b00, not assigned) -/
  serve : Option Serve
  /-- a `SET_SERVE` taken, in force from the next accepted TRIGGER (05 R146; reset none) -/
  serveNext : Option Serve
  /-- `ACC`, accepted commands modulo 64 (04 R115; reset 0) -/
  acc : Nat
  /-- `FCNT` of the last CRC-valid frame from the A end and from the B end (04 R116; reset none) -/
  fcntA : Option Nat
  fcntB : Option Nat
  /-- `FRAME_GAP`, 1 bit (04 Table 4-5; reset 0b0) -/
  gap : Bool
  /-- `LATCHED`, 1 bit (04 Table 4-5; reset 0b0) -/
  latched : Bool
  /-- `TAG` of the held sample (05 R143; reset 0) -/
  tag : Nat
  /-- the held sample (05 R143; reset zeros) -/
  held : HeldSample
  /-- strobe scheduled by the last accepted TRIGGER (05 R143; reset none) -/
  strobe : Option Strobe
  /-- previous recovered instant, ns; none without one (05 R149; reset none) -/
  prevAt : Option Nat
  /-- integral of the string current at that instant, mA x us (05 R149; reset 0) -/
  prevSum : Int
  /-- slow hold: 32 temperatures in 0.1 degC, 16 housekeeping words and their tag (05 R159; reset zeros) -/
  temps : List Int
  hk : List Nat
  slowTag : Nat
  /-- balance mask, 16 bits (06 R177; reset 0) -/
  mask : Nat
  /-- `BAL_PERMIT` of the last accepted TRIGGER (05 R152; reset 0) -/
  permit : Bool
  /-- the balance switches follow the mask now (05 R152; reset 0) -/
  switched : Bool
  /-- a switch was on since the period began (04 Table 4-5; reset 0) -/
  wasOn : Bool
  /-- `BAL_ACTIVE`, 1 bit (04 Table 4-5; reset 0b0) -/
  balActive : Bool
  /-- `BAL_STOPPED`, 1 bit (04 R136; reset 0b0) -/
  balStopped : Bool
  /-- recess and announced next alignment instant of the last TRIGGER, 0.1 ms and ns (05 R152; reset 0) -/
  recess : Nat
  nextAt : Nat
  /-- digital corner, `FILTER`, 3 bits (04 Table 4-5; reset 0b000) -/
  filter : Nat
  /-- `OPEN_WIRE`, 1 bit (04 Table 4-5; reset 0b0) -/
  openWire : Bool
  /-- `MON_HOT`, 1 bit (04 Table 4-5; reset 0b0) -/
  hot : Bool
  /-- `SELFTEST_FAIL`, 1 bit (04 Table 4-5; reset 0b0) -/
  selfFail : Bool
  /-- `WAKE_PENDING`, 1 bit (04 Table 4-5; reset 0b0) -/
  wakePending : Bool
  /-- `CONFIG_DEFAULT`, 1 bit (04 Table 4-5; reset 0b1) -/
  configDefault : Bool
  /-- communication-loss timeout in 100 ms (04 R136; reset 20) -/
  commLoss : Nat
  /-- base-camp fields of `SET_CONFIG`, U32 (06 Table 6-3; reset 0) -/
  bcFields : Nat
  /-- upper thermistor temperature in base camp, 1 degC (06 Table 6-4; reset 0) -/
  bcTemp : Int
  /-- in base camp (06 R184; reset 0) -/
  camp : Bool
  /-- a violation awaits its confirming measurement 100 ms later, instant of the first (06 R184; reset none) -/
  suspect : Option Nat
  /-- tones sent for the held violation (06 R184; reset 0) -/
  tones : Nat
  /-- instant from which the next tone is due, ns (06 R184; reset none) -/
  toneDue : Option Nat
  /-- link ports that the last wake tone went out on, bit 0 toward A, bit 1 toward B (06 R185; reset none) -/
  tone : Nat
  /-- a frame was received since the last tone (06 R184; reset 0) -/
  heard : Bool
  /-- tones are ignored until this instant, ns (06 R185; reset 0) -/
  deafUntil : Nat
  /-- end of the last accepted frame, ns (04 R136; reset 0) -/
  acceptedAt : Nat
  /-- the last reply sent, whole frame (04 R105; reset none) -/
  reply : List Byte
  /-- the value passed on in a roll-call frame (04 R117; reset 0) -/
  passed : Nat
  /-- the frame sent on to the next node, none where the boundary stops it (04 R109, R117, R122; reset none) -/
  onward : List Byte
  /-- the last frame received was sent on to the next node (04 R122; reset 0b0) -/
  repeated : Bool
  deriving DecidableEq, Repr

/-- A node after its own restart (04 R107, Table 4-5). -/
def Node.reset : Node :=
  { issue := 0, serial := 0, version := 0, position := none, bHop := none, serve := none, serveNext := none, acc := 0,
    fcntA := none, fcntB := none, gap := false, latched := false, tag := 0, held := HeldSample.empty, strobe := none, prevAt := none, prevSum := 0,
    temps := List.replicate 32 0, hk := List.replicate 16 0, slowTag := 0, mask := 0, permit := false, switched := false, wasOn := false,
    balActive := false, balStopped := false, recess := 0, nextAt := 0, filter := 0, openWire := false, hot := false,
    selfFail := false, wakePending := false, configDefault := true, commLoss := 20, bcFields := 0, bcTemp := 0, camp := false,
    suspect := none, tones := 0, toneDue := none, tone := 0, heard := false, deafUntil := 0, acceptedAt := 0, reply := [], passed := 0, onward := [], repeated := false }

end Sys2Proof.Machine
end

