-- ==== Sys2Proof/Machine/PowerState.lean ====
section
/-!
DEFINITION. State of the supply, the starts and resets, the block state, the cores, spares and health
(spec/02 R56 to R73, spec/03, spec/18 R467 to R482, spec/20).
Each field's line ends with the rule that names it and its reset value; "log n" is notes/assumptions/n.md.
-/

namespace Sys2Proof.Machine

/-- Block states and their codes (20 Table 20-1). -/
inductive BlockState where
  | off | baseCamp | standby | armed | run | service | safeHold
  deriving DecidableEq, Repr

def BlockState.code : BlockState → Nat
  | .off => 0 | .baseCamp => 1 | .standby => 2 | .armed => 3 | .run => 4 | .service => 5 | .safeHold => 6

/-- What the processor runs (03 R88, R91; 14 R378). -/
inductive Firmware where
  | down      -- no supply, or the start has not reached the firmware row
  | recovery  -- boot ROM recovery firmware
  | running
  deriving DecidableEq, Repr

/-- The supply and its monitors (spec/02). -/
structure Supply where
  /-- the supply input is up and a start has begun, 1 bit (02 R68; reset 0) -/
  up : Bool
  /-- `PFW`, 1 bit (02 R73; reset 0, log 6) -/
  pfw : Bool
  /-- instant of the last power-fail warning, ns (03 R97; reset 0) -/
  pfwAt : Nat
  /-- `HOLDUP_ACTIVE`, 1 bit (02 R73; reset 0, log 6) -/
  holdupActive : Bool
  /-- `HOLDUP_READY`, 1 bit (02 R71; reset 0, log 6) -/
  holdupReady : Bool
  /-- `HOLDUP_DEGRADED`, 1 bit (02 R73; reset 0b0) -/
  holdupDegraded : Bool
  /-- `HOLDUP_E`, U16 in 1 mJ (02 Table 2-13; reset 0) -/
  holdupE : Nat
  /-- `VQ_PRESENT`, 1 bit (02 R57; reset 0, log 6) -/
  vqPresent : Bool
  /-- `VQ_OVER`, 1 bit (02 R57; reset 0, log 6) -/
  vqOver : Bool
  /-- `PROV`, strap present, 1 bit (02 R62; reset 0, log 6) -/
  prov : Bool
  /-- instant from which the strap has been in its present state, ns (14 R400; reset 0) -/
  provSince : Nat
  /-- `WAKE_IN`, 1 bit (02 R63; reset 0, log 6) -/
  wakeIn : Bool
  /-- `WAKE_OUT` contact closed, 1 bit (02 R63; reset 0: open while OFF) -/
  wakeOut : Bool
  /-- instant of the last storage measurement since the power-on, ns (02 R71; reset none) -/
  measuredAt : Option Nat
  /-- `BEL_SUPPLY_WARN`, 1 bit (02 R70; reset 0, log 6) -/
  belWarn : Bool
  /-- `PFW_SEEN`, `VQ_LOSS_SEEN`, `IN_OV_SEEN`, bits 2 to 0 (02 Table 2-14; reset 0b000) -/
  seen : Nat
  /-- instants at which bits 2 to 0 were last set, ns, by bit (02 R73; reset 0) -/
  seenAt : Vector Nat 3
  deriving DecidableEq, Repr

def Supply.reset : Supply :=
  { up := false, pfw := false, pfwAt := 0, holdupActive := false, holdupReady := false, holdupDegraded := false, holdupE := 0,
    vqPresent := false, vqOver := false, prov := false, provSince := 0, wakeIn := false, wakeOut := false, measuredAt := none,
    belWarn := false, seen := 0, seenAt := Vector.replicate 3 0 }

/-- The boot ROM's part of a start that has begun (03 Table 3-1): what it will meet, whether it belongs to a power-on, and whether R93
stops it at the 5 ms row. -/
structure Boot where
  findings : StartFindings
  powerOn : Bool
  stop : Bool
  deriving DecidableEq, Repr

/-- A firmware image partition (03 R83). `verifies`: digest and signature verify. -/
structure Image where
  generation : Nat
  confirmed : Bool
  verifies : Bool
  deriving DecidableEq, Repr

/-- Starts and resets (spec/03). -/
structure Start where
  /-- what the processor runs (03 R88, R91; reset: nothing) -/
  fw : Firmware
  /-- bits 15 to 7 of `RESET_CAUSE` (03 Table 3-5; reset 0, log 6) -/
  cause : Nat
  /-- `NEW_CAUSE`, 1 bit (03 Table 3-5; reset 0b1) -/
  newCause : Bool
  /-- the boot ROM's part of the start under way, not yet run (03 R74, Table 3-1; reset none) -/
  boot : Option Boot
  /-- stored requests still to be replayed in the start under way (03 R85; reset none) -/
  replay : List SealedReq
  /-- procedure of R97 that a core swap holds back: its reason, and whether the learned data are to be written (03 R97, R100, 18 R471;
  reset none) -/
  hurry : Option (Nat × Bool)
  /-- `STARTUP_STEP`, U8, 0 to 8 (03 R95; reset 0) -/
  step : Nat
  /-- `BOOT_IMAGE`, U8 (03 R94; reset 0x00: no image runs) -/
  bootImage : Nat
  /-- `STARTUP_TIME`, U32 in 1 ms (03 R94; reset 0, log 6) -/
  startupTime : Nat
  /-- instant the last start of any kind began, ns (03 R94; reset 0) -/
  began : Nat
  /-- the gate rails have passed UVLO since the power-on, 1 bit (03 R78; reset 0) -/
  gateRails : Bool
  /-- images A and B (03 R83; reset: generations 1 and 0, A confirmed, both verify, log 7) -/
  images : Vector Image 2
  /-- image-trial count, RTC backup register (03 R82, R83; reset 0) -/
  trialCount : Nat
  /-- record of retired cores, bit c for core c, RTC backup register (03 R80, R82; reset 0) -/
  retired : Nat
  /-- `SUPPLY_LOSS` latch, RTC backup register (03 R98; reset 0) -/
  supplyLoss : Bool
  /-- the module holds itself in reset until the input rises through 18.5 V, 1 bit (03 R98; reset 0) -/
  heldForSupply : Bool
  /-- the held state after a thermal shutdown, SYS and CPU in reset, 1 bit (03 R100; reset 0) -/
  thermalHold : Bool
  /-- that hold belongs to a power-on (03 R101; reset 0) -/
  holdPowerOn : Bool
  /-- sensors at or above 115 degC when that power-on began, bit k for TS(k+1) (03 R101; reset 0) -/
  holdSensors : Nat
  /-- instant of the block's entry to STANDBY without a processor restart since, ns (03 R84; reset none) -/
  steadySince : Option Nat
  /-- a requested reset that begins 10 ms after its reply: kind and due instant (03 R94; reset none) -/
  due : Option (Nat × Nat)
  /-- instant at which firmware resumes after a processor restart, ns (03 R91; reset 0, log 9) -/
  resumeAt : Nat
  /-- times of the system resets counted under R93 live in `FaultCounts.hist` of class 11; this is the count of starts
  that R93 has stopped since the last power-on (03 R93; reset 0) -/
  stopped : Nat
  /-- start records wait for STANDBY to be written (17 R443; reset 0) -/
  startRecords : Bool
  deriving DecidableEq, Repr

def Start.reset : Start :=
  { fw := .down, cause := 0, newCause := true, boot := none, replay := [], hurry := none, step := 0, bootImage := 0, startupTime := 0, began := 0, gateRails := false,
    images := #v[⟨1, true, true⟩, ⟨0, true, true⟩], trialCount := 0, retired := 0, supplyLoss := false,
    heldForSupply := false, thermalHold := false, holdPowerOn := false, holdSensors := 0, steadySince := none, due := none,
    resumeAt := 0, stopped := 0, startRecords := false }

/-- The block state and its requests (spec/20). -/
structure Mode where
  /-- `BLOCK_STATE`, U8 (20 Table 20-11; reset 0, OFF) -/
  block : BlockState
  /-- `STATE_SINCE`, U64, 1 ms UTC (20 Table 20-11; reset 0, log 6) -/
  since : Nat
  /-- `MODE_REFUSED`, U8 (20 Table 20-11; reset 0) -/
  refused : Nat
  deriving DecidableEq, Repr

def Mode.reset : Mode := { block := .off, since := 0, refused := 0 }

/-- Roles of a core (18 Table 18-4 `CORE_STATE`). -/
inductive CoreRole where
  | member | standby | retired | failed
  deriving DecidableEq, Repr

def CoreRole.code : CoreRole → Nat
  | .member => 0 | .standby => 1 | .retired => 2 | .failed => 3

/-- The core set (18 R467 to R472). -/
structure Cores where
  /-- `CORE_SET` SWAPPING, 1 bit (18 Table 18-4; reset 0, PAIR) -/
  swapping : Bool
  /-- `CORE_STATE`, 3 x U8 (18 Table 18-4; reset C0 and C1 members, C2 standing by, log 6) -/
  role : Vector CoreRole 3
  /-- parity flags of the members at the mismatch, bit c for core c (18 R469; reset 0) -/
  parity : Nat
  /-- class 0 became lasting with the mismatch (18 R469; reset 0) -/
  lasting : Bool
  /-- instant of the mismatch, ns (18 R470; reset 0) -/
  mismatchAt : Nat
  /-- the pair has been formed again and waits for its resume point, and when (18 R470; reset none) -/
  formed : Option Nat
  /-- bytes of writes held in the commit journal, 64 KiB (18 R467; reset 0) -/
  journal : Nat
  /-- outputs held in the release buffer, 256 entries (18 R467; reset 0) -/
  buffer : Nat
  /-- instant of the last commit, ns (18 R467; reset 0) -/
  commitAt : Nat
  /-- result of core C2's last self-test (18 R472; reset passed) -/
  sparePassed : Bool
  /-- instant of core C2's last self-test, ns (18 R472; reset 0) -/
  spareAt : Nat
  deriving DecidableEq, Repr

def Cores.reset : Cores :=
  { swapping := false, role := #v[.member, .member, .standby], parity := 0, lasting := false, mismatchAt := 0, formed := none,
    journal := 0, buffer := 0, commitAt := 0, sparePassed := true, spareAt := 0 }

/-- Spares, wear and health (18 R473 to R482). -/
structure Health where
  /-- SRAM rows redirected into spare rows, one entry for each spare row used, 2,048 rows, 64 spares (18 R474; reset none) -/
  rows : List Nat
  /-- flash blocks retired into spare blocks, one entry for each spare block used, 768 spares (18 R476; reset none) -/
  blocks : List Nat
  /-- learned-data regions and partitions that have stopped writing, bit r (18 R476; reset 0) -/
  stoppedParts : Nat
  /-- `OSC_SOURCE`, 0 X1, 1 X4 (18 Table 18-4; reset 0, log 6) -/
  oscSpare : Bool
  /-- the SYS domain has stopped, both crystals lost, 1 bit (18 R477; reset 0) -/
  sysStopped : Bool
  /-- `BELAY_PATH_SUSPECT`, 1 bit (18 R478; reset 0b0) -/
  suspect : Bool
  /-- `SWAP_SEEN`, `REMAP_SEEN`, `PHY_MOVE_SEEN`, `OSC_FAILOVER_SEEN`, `LASTING_SEEN`, bits 4 to 0 (18 Table 18-5; reset 0) -/
  seen : Nat
  /-- `SRAM_ECC_COUNT`, 2 x U32 (18 Table 18-4; reset 0) -/
  ecc : Vector Nat 2
  /-- `SPARE_USE`, 5 x U32 (18 Table 18-4; reset 0) -/
  spareUse : Vector Nat 5
  /-- `FLASH_ERASE`, 3 x U32: mean, highest, lowest (18 Table 18-4; reset 0, log 6) -/
  flashErase : Vector Nat 3
  /-- `WEAR_MAP`, U64 (18 Table 18-4; reset 0) -/
  wearMap : Nat
  /-- row remaps and the oscillator switch wait to be stored in the configuration partition (18 R474, R477; reset 0) -/
  storePending : Bool
  /-- instant of the scrubber's last pass, ns (18 R474; reset 0) -/
  scrubAt : Nat
  /-- instant of the last 1 ms window of the SYS clock against X2, ns (18 R477; reset 0) -/
  oscAt : Nat
  deriving DecidableEq, Repr

def Health.reset : Health :=
  { rows := [], blocks := [], stoppedParts := 0, oscSpare := false, sysStopped := false, suspect := false, seen := 0,
    ecc := Vector.replicate 2 0, spareUse := Vector.replicate 5 0, flashErase := Vector.replicate 3 0, wearMap := 0,
    storePending := false, scrubAt := 0, oscAt := 0 }

end Sys2Proof.Machine
end

