-- ==== Sys2Proof/Machine/RecorderState.lean ====
section
/-!
DEFINITION. State of the interrupt controller, the event recorder and the window counters
(spec/01 R38 to R40, spec/17 R439 to R450, spec/18 R463 to R466).
Each field's line ends with the rule that names it and its reset value; "log n" is notes/assumptions/n.md.
-/

namespace Sys2Proof.Machine

/-- The interrupt controller. -/
structure Irq where
  /-- `IRQ_COUNT`, 128 x U32, OD 2000.0080 + n (01 R40; reset 0) -/
  counts : Vector Nat 128
  /-- interrupts raised while SWAPPING and not delivered yet, oldest first (01 R39; reset none) -/
  held : List Nat
  deriving DecidableEq, Repr

def Irq.reset : Irq := { counts := Vector.replicate 128 0, held := [] }

/-- One record of the recorder (17 R440, Table 17-2). Its CRC-32C is computed when the record is read. -/
structure EventRecord where
  time : Nat
  code : Nat
  level : Nat
  source : Nat
  item : Nat
  tq : Nat
  seq : Nat
  data : List Byte
  deriving DecidableEq, Repr

/-- A code's token bucket (17 R446). `credit` counts 10^-11 tokens, `since` the nanosecond it was last brought up to date. -/
structure Bucket where
  credit : Nat
  since : Nat
  count : Nat
  firstTime : Nat
  firstItem : Nat
  lastTime : Nat
  lastItem : Nat
  lastSource : Nat
  deriving DecidableEq, Repr

/-- The event recorder (spec/17). -/
structure Recorder where
  /-- next sequence number, U32, RTC backup register (17 R441; reset 0, log 6) -/
  next : Nat
  /-- records in flash, ascending SEQ, 64 bytes each, ring of 8,388,608 (17 R439, R440; reset none) -/
  ring : List EventRecord
  /-- staged records in SRAM, at most 2,048 (17 R445; reset none) -/
  staged : List EventRecord
  /-- SYS tick in which the last occurrence was taken (17 R444; reset 0) -/
  tickAt : Nat
  /-- staged records taken in that tick, the last ones of `staged` (17 R444; reset 0) -/
  tickRecs : Nat
  /-- `REC_OLDEST`, U32 (17 R450; reset 0, log 6) -/
  oldest : Nat
  /-- instant of the last flush of each second, ns (17 R445; reset 0) -/
  flushAt : Nat
  /-- token buckets by code (17 R446; reset: every bucket full) -/
  buckets : Sparse Bucket
  /-- `REC_SUPPRESSED`, U32 (17 Table 17-8; reset 0) -/
  suppressed : Nat
  /-- `REC_LOST`, U32 (17 Table 17-8; reset 0) -/
  lost : Nat
  /-- `FLASH_WRITING`, 1 bit (17 Table 17-10; reset 0, log 6) -/
  flashWriting : Bool
  /-- `FILL_ABOVE`, 1 bit (17 R449; reset 0, log 6) -/
  fillAbove : Bool
  /-- `STAGING_FULL`, 1 bit (17 R445; reset 0, log 6) -/
  stagingFull : Bool
  /-- `LOST_SEEN`, `FILL_SEEN`, `SUPPRESS_SEEN`, `CLEARED_SEEN`, bits 3 to 0 (17 Table 17-10; reset 0b0000) -/
  seen : Nat
  /-- the ring has stopped writing for want of a spare block, 1 bit (18 R476; reset 0) -/
  stopped : Bool
  deriving DecidableEq, Repr

def Recorder.reset : Recorder :=
  { next := 0, ring := [], staged := [], tickAt := 0, tickRecs := 0, oldest := 0, flushAt := 0, buckets := [], suppressed := 0, lost := 0,
    flashWriting := false, fillAbove := false, stagingFull := false, seen := 0, stopped := false }

/-- Window counters (spec/18 R463 to R466). -/
structure FaultCounts where
  /-- times of the last occurrences, newest first, by class x 65,536 + number (18 R463; reset none) -/
  hist : Sparse (List Nat)
  /-- `FC_TOTAL`, 16 x U32 (18 Table 18-4; reset 0) -/
  total : Vector Nat 16
  /-- `FC_LASTING`, 16 x U32 (18 Table 18-4; reset 0) -/
  lasting : Vector Nat 16
  /-- `FC_LAST_INSTANCE`, 16 x U16 (18 Table 18-4; reset 0) -/
  lastItem : Vector Nat 16
  /-- `FC_LAST_TIME`, 16 x U64 (18 Table 18-4; reset 0) -/
  lastTime : Vector Nat 16
  deriving DecidableEq, Repr

def FaultCounts.reset : FaultCounts :=
  { hist := [], total := Vector.replicate 16 0, lasting := Vector.replicate 16 0,
    lastItem := Vector.replicate 16 0, lastTime := Vector.replicate 16 0 }

end Sys2Proof.Machine
end

