-- ==== Sys2Proof/Machine/RopeState.lean ====
section
/-!
DEFINITION. State of the ropes, the 80 port engines, the distributor, the traverse sequencer and its buffers
(spec/04, spec/05, spec/01 R17 to R20), with the published cell data (spec/15 Table 15-8).
Each field's line ends with the rule that names it and its reset value; "log n" is notes/assumptions/n.md.
-/

namespace Sys2Proof.Machine

/-- Rope modes and their codes (04 Table 4-13). -/
inductive RopeMode where
  | dark | ring | split | singleA | singleB
  deriving DecidableEq, Repr

def RopeMode.code : RopeMode → Nat
  | .dark => 0 | .ring => 1 | .split => 2 | .singleA => 3 | .singleB => 4

def RopeMode.ofCode : Nat → RopeMode
  | 1 => .ring | 2 => .split | 3 => .singleA | 4 => .singleB | _ => .dark

/-- A transaction on a port's line (04 R112, R113). -/
structure Txn where
  kind : ReadKind
  /-- positions whose replies are still due, each with its slot i -/
  due : List (Nat × Nat)
  /-- end of the master frame at the port, ns -/
  end_ : Nat
  /-- t_F, or the 1 us of an immediate reply, ns -/
  first : Nat
  deriving DecidableEq, Repr

/-- A command without a reply that waits for the line of a port: `SET_SERVE`, or a `SET_CONFIG` or `BASE_CAMP` to every node (04 Table 4-6,
05 R157). -/
structure Cast where
  far : Bool
  code : Nat
  payload : List Byte
  /-- positions of the nodes that count it (04 R115) -/
  nodes : List Nat
  deriving DecidableEq, Repr

/-- One port engine (04 R113, R134, Table 4-16). -/
structure Port where
  /-- frame counter of the sending port, 6 bits (04 R104; reset 0) -/
  fcnt : Nat
  /-- master frames sent since the boundary of the last trigger, whole, oldest first (04 R104; reset none) -/
  frames : List (List Byte)
  /-- the transaction whose replies the port awaits (04 R113; reset none) -/
  txn : Option Txn
  /-- commands without a reply that wait for the line, oldest first (05 R157; reset none) -/
  casts : List Cast
  /-- start of the last wake tone the port sent, ns (06 R187; reset none) -/
  toneAt : Option Nat
  /-- instant from which the line may carry the port's next frame, ns (04 Table 4-1; reset 0) -/
  free : Nat
  /-- the traverse window of the belay logic closes at this instant, ns; open while none (11 R291; reset none) -/
  windowEnd : Option Nat
  /-- on the spare PHY of its group, `PHY_A_SPARE` or `PHY_B_SPARE` (04 R134; reset 0, log 6) -/
  spare : Bool
  /-- out of service, `PORT_A_FAILED` or `PORT_B_FAILED` (04 R134; reset 0, log 6) -/
  failed : Bool
  /-- its port class is lasting: a move is due at the traverse boundary (04 R134; reset 0) -/
  moveDue : Bool
  /-- the class became lasting once on its own PHY while the spare was in use (04 R134; reset 0) -/
  strike : Bool
  /-- a return to its own PHY is due at the traverse boundary (18 R473; reset 0) -/
  restoreDue : Bool
  /-- RTT_h by hop, 33 x U32, 1 ns, `RTT_A` or `RTT_B` (04 R117; reset 0, log 6) -/
  rtt : Vector Nat 33
  /-- d_e, 1 ns, `HOP_DELAY_A` or `HOP_DELAY_B` (04 R119; reset 0, log 6) -/
  delay : Nat
  /-- hop delay last sent to its nodes (05 R146; reset 0) -/
  sent : Nat
  /-- round-trip times of the `HOP_ECHO` replies of the present slow round, ns (05 R146; reset none) -/
  echoes : List Nat
  /-- `HOP_ECHO` frames sent in the present slow round, at most 4 (05 R146; reset 4) -/
  echoSent : Nat
  /-- ten counters of Table 4-16, U32 (04 Table 4-16; reset 0) -/
  stats : Vector Nat 10
  /-- far read queued for the other end's positions, first and last position (04 R127; reset none) -/
  far : Option (Nat × Nat)
  /-- positions missing at this end in the traverse, bit p (04 R127; reset 0) -/
  missing : Nat
  /-- replies taken over this port in the traverse, bit p (04 R128; reset 0) -/
  accepted : Nat
  deriving DecidableEq, Repr

def Port.reset : Port :=
  { fcnt := 0, frames := [], txn := none, casts := [], toneAt := none, free := 0, windowEnd := none, echoSent := 4, spare := false, failed := false, moveDue := false, strike := false, restoreDue := false, rtt := Vector.replicate 33 0, delay := 0,
    sent := 0, echoes := [], stats := Vector.replicate 10 0, far := none, missing := 0, accepted := 0 }

/-- One rope (spec/04). -/
structure Rope where
  /-- `ROPE_MODE` (04 Table 4-13; reset DARK, log 6) -/
  mode : RopeMode
  /-- monitor count n in force since the last roll call, 0 to 32 (04 R102; reset 0, log 6) -/
  n : Nat
  /-- last position served from A; none when A serves none, `BOUNDARY` (04 R122; reset none) -/
  lastA : Option Nat
  /-- first position served from B (04 R122; reset none) -/
  firstB : Option Nat
  portA : Port
  portB : Port
  /-- a stored `ROPE_MODE_REQ`, taken at the next boundary (04 R125; reset none) -/
  req : Option Nat
  /-- mode a break or a failed port calls for at the next boundary, with its boundary (04 R124; reset none) -/
  due : Option (RopeMode × Option Nat × Option Nat)
  /-- mode a roll call of a running rope has found, in force at the next boundary (04 R120, R124; reset none) -/
  rollMode : Option RopeMode
  /-- partial roll call running toward RING (04 R125; reset 0) -/
  partial_ : Bool
  /-- `ROLL_CALL`: 0 idle, 1 running, 2 passed, 3 failed (04 Table 4-13; reset 0) -/
  rollCall : Nat
  /-- `ROLL_CALL_RESULT`, U32 (04 Table 4-15; reset 0, log 6) -/
  result : Nat
  /-- positions disqualified under R119, bit p (04 R119; reset none) -/
  disqualified : Nat
  /-- predicted `ACC` by position (04 R115; reset 0) -/
  predicted : Vector Nat 33
  /-- `RING_INTACT`, 1 bit (04 Table 4-14; reset 0, log 6) -/
  intact : Bool
  /-- consecutive slow rounds without a continuity reply (04 R123; reset 0) -/
  contMiss : Nat
  /-- consecutive slow rounds with a reply across the break (04 R126; reset 0) -/
  contGood : Nat
  /-- continuity checks sent from the A end, bit 0, and from the B end, bit 1, in the present slow round (04 R123, R126; reset both) -/
  contSent : Nat
  /-- outcome of the continuity check from the A end and from the B end in the present slow round (04 R123, R126; reset none) -/
  contA : Option Bool
  contB : Option Bool
  /-- `BREAK_PRESENT`, 1 bit (04 Table 4-14; reset 0, log 6) -/
  broken : Bool
  /-- `FAR_READ_LAST`, 1 bit (04 Table 4-14; reset 0, log 6) -/
  farLast : Bool
  /-- consecutive traverses without an accepted reply from either end (04 Table 4-11; reset 0) -/
  silent : Nat
  /-- a far read for the A end's, bit 0, and for the B end's positions, bit 1, has been queued in the present traverse (04 R127;
  reset 0) -/
  farSent : Nat
  /-- positions whose last accepted reply had `BAL_STOPPED` and `MON_HOT` set, bit p (04 R136, 06 R174; reset 0) -/
  stopped : Nat
  hot : Nat
  /-- positions whose last CRC-valid reply had `CONFIG_DEFAULT` set, bit p (04 R115; reset 0) -/
  defaults : Nat
  /-- positions retried in the present traverse, bit p (04 R127; reset 0) -/
  retried : Nat
  /-- a far read ran in the present traverse (05 Table 5-6; reset 0) -/
  farNow : Bool
  /-- a retry ran in the present traverse (05 Table 5-6; reset 0) -/
  retryNow : Bool
  /-- `RING_RESTORABLE`, 1 bit (04 R126; reset 0b0) -/
  restorable : Bool
  /-- `SHORT_PERIOD`, 1 bit (04 R137; reset 0b0) -/
  short : Bool
  /-- `NODE_RESTART_SEEN`, `COUNTER_SEEN`, `CRC_SEEN`, `BREAK_SEEN`, bits 4 to 1 (04 Table 4-14; reset 0b0000) -/
  seen : Nat
  /-- `UNSEEN_TRIP`, 1 bit (04 Table 4-14; reset 0b0) -/
  unseenTrip : Bool
  /-- `UNSEEN_MAP`, U64 (04 Table 4-13; reset 0) -/
  unseenMap : Nat
  /-- counts by position: lost, duplicated, desynchronised, CRC, timeout, by kind x 64 + position (04 Table 4-13; reset 0) -/
  byPos : Sparse Nat
  /-- positions accepted by firmware and port engine in the present traverse, bit p (04 R113; reset 0) -/
  acceptedNow : Nat
  /-- positions recovered by a far read in the present traverse, bit p (05 R166; reset 0) -/
  farGot : Nat
  /-- positions with a counter class other than in step in the present traverse, bit p (05 R166; reset 0) -/
  counterNow : Nat
  /-- monitors read by `READ_TEMP` and by `READ_HK` in the present slow round, bit p (05 R160; reset 0) -/
  tempNow : Nat
  hkNow : Nat
  /-- monitors whose `READ_TEMP` and whose `READ_HK` were found missing in the present slow round, bit p (05 R160; reset 0) -/
  tempMissing : Nat
  hkMissing : Nat
  /-- positions to be sent their balance mask, their filter and their configuration again, bit p (04 R115, R117, 06 R178; reset 0) -/
  resendMask : Nat
  resendFilter : Nat
  resendConfig : Nat
  /-- positions sent a `SET_FILTER` since the last trigger, bit p: one attempt in each (05 R156; reset 0) -/
  filterTried : Nat
  /-- positions whose newly formed mask has not been sent yet, bit p (06 R175; reset 0) -/
  maskDue : Nat
  /-- positions that reported `WAKE_PENDING` in the last roll call, bit p (06 R187; reset 0) -/
  wake : Nat
  /-- effective recess t_rec, 0.1 ms, `RECESS_EFF` (05 R153; reset 0, log 6) -/
  recess : Nat
  /-- the effective recess of the last TRIGGER exceeded `RECESS` (05 R153, Table 5-11; reset 0) -/
  lengthened : Bool
  /-- `BAL_PERMIT` of the last TRIGGER (05 Table 5-10; reset 0, log 6) -/
  permit : Bool
  /-- the rope's permit is withheld under R153 (05 Table 5-11; reset 0, log 6) -/
  withheld : Bool
  /-- `FILTER_ACTIVE`, 32 x U8 (05 R156; reset 0, log 6) -/
  filters : Vector Nat 32
  /-- position p settles from the acknowledgement of its corner until the settle time has passed, by position (05 R156; reset none) -/
  settle : Sparse (Nat × Nat)
  /-- H1 tag of its last accepted reply: traverse number and alignment instant in ns (05 R149; reset none) -/
  h1Last : Option (Nat × Nat)
  /-- `I_MEAN` of the present traverse covers no interval (05 R149; reset 0) -/
  h1First : Bool
  deriving DecidableEq, Repr

def Rope.reset : Rope :=
  { mode := .dark, n := 0, lastA := none, firstB := none, portA := Port.reset, portB := Port.reset, req := none, due := none,
    rollMode := none, partial_ := false, rollCall := 0, result := 0, disqualified := 0, predicted := Vector.replicate 33 0, intact := false,
    contMiss := 0, contGood := 0, contSent := 3, contA := none, contB := none, broken := false, farLast := false, silent := 0, farSent := 0, stopped := 0, hot := 0, defaults := 0, retried := 0, farNow := false, retryNow := false,
    restorable := false, short := false, seen := 0, unseenTrip := false, unseenMap := 0, byPos := [], acceptedNow := 0, farGot := 0,
    counterNow := 0, tempNow := 0, hkNow := 0, tempMissing := 0, hkMissing := 0, resendMask := 0, resendFilter := 0, resendConfig := 0, filterTried := 0, maskDue := 0, wake := 0, recess := 0, lengthened := false, permit := false, withheld := false,
    filters := Vector.replicate 32 0, settle := [], h1Last := none, h1First := true }

/-- What the port engine knows of a frame it receives, or of a link-sense entry (01 R16, R17, 05 R165, 09 R252). -/
structure RxHead where
  /-- string index 0 to 39 and end; for a link entry the bank index 0 to 3; for a safe message 4 CAN-A, 5 CAN-B -/
  owner : Nat
  end_ : PortEnd
  kind : ReadKind
  /-- the position the port engine expects in that reply time (05 R165) -/
  expected : Nat
  /-- SYS tick of the sync -/
  sync : Nat
  /-- the sync byte began in time (04 R113) -/
  inTime : Bool
  /-- the receive queue overflowed inside the frame (01 R19) -/
  cut : Bool
  /-- a link-sense entry (09 R252), or a safe message (12 R343) -/
  link : Bool
  deriving DecidableEq, Repr

/-- A frame in a port receive queue: the bytes that wait, and whether its first byte has left (01 Table 1-6). -/
structure RxFrame where
  head : RxHead
  bytes : List Byte
  begun : Bool
  deriving DecidableEq, Repr

/-- An entry of the belay tap or of the DMA staging queue: up to 8 bytes of one frame with the end-of-frame flag (01 Table 1-6, R18).
`dmaCut` marks the last bytes that DMA gets of a frame cut for DMA alone (01 R17). -/
structure Piece where
  head : RxHead
  bytes : List Byte
  first : Bool
  last : Bool
  dmaCut : Bool
  deriving DecidableEq, Repr

/-- A safe message's entry (12 R343). -/
def RxHead.safe (h : RxHead) : Bool := h.link && decide (4 ≤ h.owner)

/-- Number of a line: the port's by PRTnn, 81 to 84 for the link senses (09 R252), 85 and 86 for the safe messages (12 R343). -/
def RxHead.line (h : RxHead) : Nat := if h.link then 81 + h.owner else h.owner + (match h.end_ with | .a => 1 | .b => 41)

/-- Where DMA puts the frame a port is delivering: a raw slot of a traverse buffer, a slot of a slow buffer, or nowhere (05 R165, R168). -/
inductive Fill where
  | trav (k : Fin 8) (key : Nat)
  | slow (j : Fin 2) (key : Nat)
  | nowhere
  deriving DecidableEq, Repr

/-- One raw slot (05 R165). -/
structure RawSlot where
  bytes : List Byte
  flags : Nat
  port : Nat
  expected : Nat
  sync : Nat
  deriving DecidableEq, Repr

/-- One string block (05 Table 5-6). -/
structure StrBlock where
  iLatch : Int
  iMean : Int
  vString : Nat
  iCheck : Int
  seen : Nat
  shunt : Int
  recess : Nat
  flags : Nat
  deriving DecidableEq, Repr

def StrBlock.empty : StrBlock := { iLatch := 0, iMean := 0, vString := 0, iCheck := 0, seen := 0, shunt := 0, recess := 0, flags := 0 }

/-- What the port engines know of a string's traverse before firmware publishes it (05 R164, R166): the recess and `BAL_PERMIT` sent, whether a
far read and a retry ran, the positions recovered by a far read and those of a counter class other than in step. -/
structure StrNote where
  recess : Nat
  permit : Bool
  far : Bool
  retry : Bool
  farGot : Nat
  counter : Nat
  deriving DecidableEq, Repr

def StrNote.empty : StrNote := { recess := 0, permit := false, far := false, retry := false, farGot := 0, counter := 0 }

/-- One traverse buffer (05 R163, R164, Tables 5-5 and 5-7). -/
structure TravBuf where
  number : Nat
  /-- open, i.e. opened at a trigger since the start -/
  used : Bool
  complete : Bool
  published : Bool
  overrun : Bool
  dmaError : Bool
  alignError : Bool
  slowLatch : Bool
  farRead : Bool
  /-- alignment instant and completion, SYS ticks -/
  ticks : Nat
  done : Nat
  /-- the calendar at the alignment instant by the time base in force then: UTC in ms, ns within it, quality and source (05 R162) -/
  t0 : Nat × Nat × Nat × Nat
  /-- the fields firmware writes at publication (05 R164, R166) -/
  utc : Nat
  ns : Nat
  quality : Nat
  source : Nat
  /-- announced period, 1 us -/
  period : Nat
  /-- link voltages, 10 mV; none where the entry is missing -/
  links : List Nat
  modes : List Nat
  /-- what the port engines noted, by string (05 R164) -/
  notes : Sparse StrNote
  blocks : Sparse StrBlock
  /-- raw slots by string x 64 + slot -/
  slots : Sparse RawSlot
  /-- published cell voltages by string x 1,024 + element - 1 -/
  cells : Sparse Nat
  /-- position flags by string x 64 + position -/
  flags : Sparse Nat
  /-- strings whose data DMA cut or lost, bit s (05 R167) -/
  lost : Nat
  /-- `Q_DIS` and `Q_CHG` by string as they stood at `COMPLETE` (07 R201, 08 R217) -/
  charge : Sparse (Nat × Nat)
  deriving DecidableEq, Repr

def TravBuf.empty : TravBuf :=
  { number := 0, used := false, complete := false, published := false, overrun := false, dmaError := false, alignError := false,
    slowLatch := false, farRead := false, ticks := 0, done := 0, t0 := (0, 0, 0, 0), utc := 0, ns := 0, quality := 0, source := 0, period := 0,
    links := [0, 0, 0, 0], modes := [], notes := [], blocks := [], slots := [], cells := [], flags := [], lost := 0, charge := [] }

/-- One slow buffer (05 R168): its header as the first 48 bytes of Table 5-5, and the raw replies by (string x 64 + position) x 2 +
(0 `READ_TEMP`, 1 `READ_HK`). -/
structure SlowBuf where
  number : Nat
  complete : Bool
  published : Bool
  dmaError : Bool
  alignError : Bool
  /-- alignment instant of the slow latch and completion, SYS ticks -/
  ticks : Nat
  done : Nat
  /-- the calendar at the alignment instant, and the fields firmware writes from it -/
  t0 : Nat × Nat × Nat × Nat
  utc : Nat
  ns : Nat
  quality : Nat
  source : Nat
  /-- announced period, 1 us -/
  period : Nat
  slots : Sparse RawSlot
  /-- strings whose slow replies DMA cut or lost, bit s (05 R167, R168) -/
  lost : Nat
  deriving DecidableEq, Repr

def SlowBuf.empty : SlowBuf :=
  { number := 0, complete := false, published := false, dmaError := false, alignError := false, ticks := 0, done := 0, t0 := (0, 0, 0, 0),
    utc := 0, ns := 0, quality := 0, source := 0, period := 0, slots := [], lost := 0 }

/-- The traverse sequencer, the distributor and the buffers (spec/05, spec/01 R17 to R20). -/
structure Traverse where
  /-- triggers are being issued, `RUNNING` (05 Table 5-11; reset 0, log 6) -/
  running : Bool
  /-- `TRAV_NUMBER` of the last trigger; none before the first (05 R161; reset none) -/
  number : Option Nat
  /-- the number a later start or the end of base camp continues with (05 R161, 06 R187; reset 0) -/
  next : Nat
  /-- period announced by the last trigger, 1 us (05 R148; reset 0) -/
  period : Nat
  /-- effective period last announced, 1 us, for event 0x2001 (05 R150; reset 0) -/
  effLast : Nat
  /-- alignment instant of the last trigger, ns (05 R142; reset 0) -/
  t0 : Nat
  /-- next slow-round boundary, ns (05 R159; reset none) -/
  slowDue : Option Nat
  /-- `SLOW_PERIOD` in force, 1 ms (05 R159; reset 1,000) -/
  slowPeriod : Nat
  /-- `SLOW_NUMBER`; none before the first slow latch (05 R159; reset none) -/
  slowNumber : Option Nat
  /-- slow rounds since the start (05 R168; reset 0) -/
  slowCount : Nat
  /-- a slow round is in progress (05 R160; reset 0) -/
  slowOpen : Bool
  /-- the slow buffer of a completed round that firmware has not published (08 R213; reset none) -/
  slowPending : Option (Fin 2)
  /-- a full slow round has completed since the start or since base camp (03 R75, 06 R187; reset 0) -/
  slowDone : Bool
  /-- a full traverse has completed since the start (03 R75; reset 0) -/
  travDone : Bool
  /-- bits 13 to 9 of `TRAV_STATUS`, the W1C fields (05 Table 5-11; reset 0) -/
  seen : Nat
  /-- `OVERRUN_COUNT`, `LAPPED_COUNT`, `ALIGN_ERROR_COUNT`, `SLOW_INCOMPLETE_COUNT`, 4 x U32 (05 Table 5-10; reset 0) -/
  counts : Vector Nat 4
  /-- the eight traverse buffers (05 R163; reset empty) -/
  bufs : Vector TravBuf 8
  /-- the two slow buffers (05 R168; reset empty) -/
  slow : Vector SlowBuf 2
  /-- port receive queues, 80 x 256 bytes, and the link entries, each port's frames in arrival order (01 Table 1-6; reset none) -/
  portQ : List RxFrame
  /-- belay tap queue, 64 entries of 8 bytes (01 Table 1-6; reset none) -/
  tapQ : List Piece
  /-- DMA staging queue, 16 KiB (01 R17; reset none) -/
  dmaQ : List Piece
  /-- where DMA writes the frame in progress of each port, by `RxHead.line` (05 R165; reset none) -/
  fills : Sparse Fill
  /-- ports the rest of whose frame is discarded for DMA, by `RxHead.line` (01 R17; reset none) -/
  dmaDrop : NatSet
  /-- replies the belay logic accepted in the present traverse, by (string x 64 + position) x 2 + end (01 R20; reset none) -/
  belayGot : NatSet
  /-- last published string blocks by string, `STRING_MEAS` (15 Table 15-8; reset 0) -/
  meas : Sparse StrBlock
  /-- last published position flags by string x 64 + position, `POS_FLAGS` (15 Table 15-8; reset 0) -/
  posFlags : Sparse Nat
  /-- last published cell voltages by string x 1,024 + element - 1, `CELL_V` (15 Table 15-8; reset 0) -/
  cellV : Sparse Nat
  /-- `CELL_V_UNSEEN` of positions by string x 64 + position (15 Table 15-8; reset 0) -/
  unseenFor : Sparse Nat
  /-- last slow temperatures by string x 2,048 + thermistor index, `CELL_T_RAW` (15 Table 15-8; reset 0) -/
  tRaw : Sparse Int
  /-- housekeeping channels by string x 1,024 + 16 (p - 1) + h - 1, `MON_HK` (15 Table 15-8; reset 0) -/
  hk : Sparse Nat
  /-- `SLOW_FLAGS` by string x 64 + position (15 Table 15-8; reset 0) -/
  slowFlags : Sparse Nat
  /-- `SLOW_TRAV` (15 Table 15-8; reset 0, log 6) -/
  slowTrav : Nat
  /-- number of the last published traverse; none before one (15 `CELL_TRAV`; reset none) -/
  published : Option Nat
  deriving DecidableEq, Repr

def Traverse.reset : Traverse :=
  { running := false, number := none, next := 0, period := 0, effLast := 0, t0 := 0, slowDue := none, slowPeriod := 1000, slowNumber := none,
    slowCount := 0, slowOpen := false, slowPending := none, slowDone := false, travDone := false, seen := 0, counts := Vector.replicate 4 0,
    bufs := Vector.replicate 8 TravBuf.empty, slow := Vector.replicate 2 SlowBuf.empty, portQ := [], tapQ := [], dmaQ := [], fills := [], dmaDrop := [],
    belayGot := [], meas := [], posFlags := [], cellV := [], unseenFor := [], tRaw := [], hk := [], slowFlags := [], slowTrav := 0, published := none }

/-- Balancing and base camp (spec/06). -/
structure Balance where
  /-- balancing mode in force, 0 OFF, 1 AUTO, 2 DIRECTED (06 R172; reset 0, 03 R87) -/
  mode : Nat
  /-- mode written, taken at the next traverse boundary (06 R172; reset none) -/
  modeNext : Option Nat
  /-- balancing enabled again since the last processor restart (03 R91; reset 0) -/
  enabled : Bool
  /-- `BAL_MASK_ACTIVE` by string x 64 + position (06 R177; reset 0) -/
  active : Sparse Nat
  /-- mask last sent by string x 64 + position (06 R175; reset 0) -/
  sent : Sparse Nat
  /-- instant of the last write of a string's `BAL_MASK_REQ` by string (06 R176; reset none) -/
  wroteAt : Sparse Nat
  /-- `BAL_ONTIME` in us by string x 1,024 + element - 1; the entry counts 0.1 s (06 R177; reset 0) -/
  onTime : Sparse Nat
  /-- `OW_MAP` by string x 64 + position (06 R179; reset 0) -/
  owMap : Sparse Nat
  /-- channels whose test is due in the present `OW_PERIOD`, by string x 64 + position (06 R179; reset none) -/
  owDue : Sparse Nat
  /-- mask bits cleared for a test forced by deferral until the next mask computation, by string x 64 + position (06 R180; reset none) -/
  owHeld : Sparse Nat
  /-- the last test acknowledged and not yet reported, its channel mask by string x 64 + position (06 R179; reset none) -/
  owWait : Sparse Nat
  /-- instant since which a channel's test is deferred, by (string x 64 + position) x 16 + channel - 1 (06 R180; reset none) -/
  deferred : Sparse Nat
  /-- instant of the last open-wire round, ns (06 R179; reset 0) -/
  owAt : Nat
  /-- an accepted entry to base camp waits for its write-back to end (06 R182; reset 0) -/
  entering : Bool
  /-- the mode has changed, and every reached monitor is still to be sent its mask (06 R172; reset 0) -/
  allDue : Bool
  /-- exit from base camp under way (06 R187; reset 0) -/
  exiting : Bool
  /-- `WAKE_CAUSE`, U8 (06 Table 6-6; reset 0) -/
  wakeCause : Nat
  /-- `WAKE_OUT` held closed by a wake, `WAKE_OUT_ACK` reads 1, instant it closed (06 R188; reset none) -/
  wakeHeld : Option Nat
  /-- 1 was written to `WAKE_OUT_ACK` since it closed (06 R188; reset 0) -/
  wakeAck : Bool
  deriving DecidableEq, Repr

def Balance.reset : Balance :=
  { mode := 0, modeNext := none, enabled := false, active := [], sent := [], wroteAt := [], onTime := [], owMap := [], owDue := [], owHeld := [], owWait := [], deferred := [],
    owAt := 0, entering := false, allDue := false, exiting := false, wakeCause := 0, wakeHeld := none, wakeAck := false }

end Sys2Proof.Machine
end

