-- ==== Sys2Proof/Machine/SafetyState.lean ====
section
/-!
DEFINITION. State of the safety inputs, test-pulse supplies, outputs and safe-message streams (spec/12, spec/02 R56).
Each field's line ends with the rule that names it and its reset value; "log n" is notes/assumptions/n.md.
-/

namespace Sys2Proof.Machine

/-- One test-pulse supply (12 R319, R320, Table 12-12). -/
structure PulseSupply where
  /-- in regulation, `TP_STATUS` bit 7 (12 Table 12-12; reset 0, log 6) -/
  regulated : Bool
  /-- fault latched with its cause 1 to 3, `TP_STATUS` bits 6, 1:0 (12 Table 12-12; reset none) -/
  fault : Option Nat
  /-- instant the last fault condition ended, none while one is present (12 R320; reset free since 0) -/
  freeSince : Option Nat
  /-- start of the last off-pulse, whose 200 us the output is off, ns (12 R319; reset none) -/
  pulseAt : Option Nat
  /-- the check sample of that pulse has been taken (12 R327; reset 0) -/
  sampled : Bool
  deriving DecidableEq, Repr

def PulseSupply.reset : PulseSupply := { regulated := false, fault := none, freeSince := some 0, pulseAt := none, sampled := false }

/-- One channel, a or b, of a safety input (12 R322 to R328). -/
structure InChannel where
  /-- filtered state closed, 1 bit (12 R323; reset 0, open, log 6) -/
  closed : Bool
  /-- consecutive ticks classified against the filtered state (12 R323; reset 0) -/
  run : Nat
  /-- passed the check of R327 since release or since its supply's last fault (12 R324; reset 0) -/
  checked : Bool
  /-- used and good check samples in the running 20 ms cycle (12 R324; reset 0) -/
  good : Nat
  /-- consecutive passed cycles toward R328 (12 R328; reset 0) -/
  passes : Nat
  deriving DecidableEq, Repr

def InChannel.reset : InChannel := { closed := false, run := 0, checked := false, good := 0, passes := 0 }

/-- One dual-channel safety input (12 R324 to R332). -/
structure SafeInput where
  a : InChannel
  b : InChannel
  /-- `DISC_COUNT`, U16 (12 Table 12-5; reset 0) -/
  disc : Nat
  /-- `DISC_FAULT`, 1 bit (12 Table 12-7; reset 0, log 6) -/
  discFault : Bool
  /-- `XS_FAULT`, 1 bit (12 Table 12-7; reset 0, log 6) -/
  xsFault : Bool
  /-- start-up test awaited, `TEST_PENDING` (12 R326; reset 0, log 6) -/
  pendingTest : Bool
  /-- both channels have been open since the wait began, 1 bit (12 R326; reset 0) -/
  opened : Bool
  /-- the start-up test has passed since the cross-short fault (12 R328; reset 0) -/
  xsTested : Bool
  /-- readiness at the last tick, `READY` (12 R324; reset 0, log 6) -/
  ready : Bool
  /-- `DISC_SEEN`, `XS_SEEN`, `DEMAND_SEEN`, bits 2 to 0 (12 Table 12-7; reset 0b000) -/
  seen : Nat
  /-- `IN_FAULT_COUNT`, 2 x U32: discrepancy, cross-short (12 Table 12-5; reset 0) -/
  faults : Vector Nat 2
  deriving DecidableEq, Repr

def SafeInput.reset : SafeInput :=
  { a := InChannel.reset, b := InChannel.reset, disc := 0, discFault := false, xsFault := false, pendingTest := false, opened := false,
    xsTested := false, ready := false, seen := 0, faults := Vector.replicate 2 0 }

/-- What an output does (12 R333, Table 12-14). -/
inductive QState where
  | off | waiting | pullIn | hold
  deriving DecidableEq, Repr

/-- One safety output (12 R333 to R341). -/
structure Output where
  state : QState
  /-- fault latch with the code of Table 12-9, `FAULT_LATCHED` (12 R338; reset none) -/
  fault : Option Nat
  /-- `LAST_FAULT`, 4 bits (12 Table 12-14; reset 0x0) -/
  lastFault : Nat
  /-- `OPEN_LOAD`, 1 bit (12 R338; reset 0) -/
  openLoad : Bool
  /-- the energise pass held (12 R335; reset none) -/
  pass : Option HeldPass
  /-- `RB_SEEN`, `OC_SEEN`, `DROP_SEEN`, bits 2 to 0 (12 Table 12-14; reset 0b000) -/
  seen : Nat
  /-- instant the output last began to read at or below 2.0 V, none while above (12 R339; reset since 0) -/
  lowSince : Option Nat
  /-- instant of the pull-in start, ns (12 R333; reset 0) -/
  pullAt : Nat
  /-- an off-pulse under way: its start, ns, and whether its read-back is discarded (12 R336, 02 R57; reset none) -/
  pulse : Option (Nat × Bool)
  /-- `Q_OPERATIONS`, U32 (12 Table 12-12; reset 0) -/
  operations : Nat
  /-- `Q_FAULT_COUNT`, U32 (12 Table 12-12; reset 0) -/
  faults : Nat
  deriving DecidableEq, Repr

def Output.reset : Output :=
  { state := .off, fault := none, lastFault := 0, openLoad := false, pass := none, seen := 0,
    lowSince := some 0, pullAt := 0, pulse := none, operations := 0, faults := 0 }

/-- Stream states (12 Table 12-16). -/
inductive SmState where
  | wait | valid | degradedA | degradedB | lost | mismatch | expired | disabled
  deriving DecidableEq, Repr

def SmState.code : SmState → Nat
  | .wait => 0 | .valid => 1 | .degradedA => 2 | .degradedB => 3 | .lost => 4 | .mismatch => 5 | .expired => 6 | .disabled => 7

/-- A copy of a safe message pending within SM_WINDOW (12 R344). `net` 0 CAN-A, 1 CAN-B. -/
structure SmCopy where
  net : Nat
  seq : Nat
  bytes : List Byte
  since : Nat
  deriving DecidableEq, Repr

/-- One safe-message stream (12 R344 to R348). -/
structure Stream where
  /-- `STATE`, 3 bits (12 Table 12-19; reset 7, disabled as delivered, 12 R318) -/
  state : SmState
  /-- `PERMIT` of the last accepted message, 1 bit (12 Table 12-19; reset 0b0) -/
  permit : Bool
  /-- last accepted SEQ, U16 (12 R344; reset none) -/
  seq : Option Nat
  /-- copies pending within SM_WINDOW (12 R344; reset none) -/
  pending : List SmCopy
  /-- copies of the last 32 accepted SEQ values, newest first: SEQ, bytes, accepted alone by network, instant (12 R344; reset none) -/
  remembered : List SmCopy
  /-- ticks counted since the tick of the last acceptance (12 R345; reset 0) -/
  ticks : Nat
  /-- an acceptance occurred in the running tick (12 R345; reset 0) -/
  acceptedNow : Bool
  /-- instant the degraded state was entered, ns (12 R345; reset 0) -/
  degradedAt : Nat
  /-- `SM_COUNTS`, 4 x U32: pairs, singles, CRC failures, stale or gap (12 Table 12-17; reset 0) -/
  counts : Vector Nat 4
  /-- `GAP_SEEN`, `MISMATCH_SEEN`, `LOST_SEEN`, bits 2 to 0 (12 Table 12-19; reset 0b000) -/
  seen : Nat
  /-- the reaction was in force after the last change, 1 bit (12 R346; reset 0) -/
  reaction : Bool
  deriving DecidableEq, Repr

def Stream.reset : Stream :=
  { state := .disabled, permit := false, seq := none, pending := [], remembered := [], ticks := 0, acceptedNow := false,
    degradedAt := 0, counts := Vector.replicate 4 0, seen := 0, reaction := false }

/-- The safety I/O of the block (spec/12). -/
structure Safety where
  supplies : Vector PulseSupply 4
  inputs : Vector SafeInput 24
  outputs : Vector Output 16
  streams : Vector Stream 8
  /-- instant of the last 1 ms tick evaluated, ns (12 R322; reset 0) -/
  tickAt : Nat
  /-- `SM_TX_SEQ`, U16 (12 Table 12-17; reset 0, log 6) -/
  txSeq : Nat
  /-- the safe message last formed, 16 bytes (12 R347, 13 R368; reset none) -/
  txData : List Byte
  /-- instant the message was formed (13 R368; reset none) -/
  txAt : Option Nat
  deriving DecidableEq, Repr

def Safety.reset : Safety :=
  { supplies := Vector.replicate 4 PulseSupply.reset, inputs := Vector.replicate 24 SafeInput.reset,
    outputs := Vector.replicate 16 Output.reset, streams := Vector.replicate 8 Stream.reset, tickAt := 0, txSeq := 0, txData := [], txAt := none }

end Sys2Proof.Machine
end

