-- ==== Sys2Proof/Machine/ThermalState.lean ====
section
/-!
DEFINITION. State of the device temperatures and of throttling (spec/16).
Each field's line ends with the rule that names it and its reset value; "log n" is notes/assumptions/n.md.
-/

namespace Sys2Proof.Machine

/-- Throttle selections and states (16 Table 16-4). -/
inductive Throttle where
  | none_ | pause | divide
  deriving DecidableEq, Repr

def Throttle.code : Throttle → Nat
  | .none_ => 0 | .pause => 1 | .divide => 2

structure Thermal where
  /-- `DEVICE_TEMP`, 6 x I16 in 0.1 degC, the last readings (16 Table 16-4; reset 0, log 6) -/
  temp : Vector Int 6
  /-- converter readings in fault, 6 x 1 bit (16 R427; reset 0, log 6) -/
  fault : Vector Bool 6
  /-- consecutive readings within range while in fault (16 R427; reset 0) -/
  good : Vector Nat 6
  /-- `TEMP_MAX`, 6 x I16 (16 Table 16-4; reset 0, log 6) -/
  max : Vector Int 6
  /-- comparators failed, `BEL_SENSOR_FAIL`, bit k for TS(k+1) (16 R428; reset 0, log 6) -/
  compFailed : Nat
  /-- sensors whose comparator tripped at the last shutdown (16 R435; reset 0) -/
  tripped : Nat
  /-- `SUMMIT_TEMP`, I16 in 0.1 degC; none reads 0x7FFF (16 R427; reset 0, log 6) -/
  summit : Option Int
  /-- `SUMMIT_SENSOR`, U8 (16 Table 16-4; reset 0, log 6) -/
  sensor : Nat
  /-- `SUMMIT_RISE`, I16 in 0.1 degC/s (16 R430; reset 0, log 6) -/
  rise : Int
  /-- summits of the last 10 rounds, newest first (16 R430; reset none) -/
  last : List (Option Int)
  /-- the THROTTLE_SELECT value in force (16 R434; reset PAUSE, log 8) -/
  select : Throttle
  /-- base level, 0 to 4 (16 R430; reset 0) -/
  base : Nat
  /-- instant from which S has stayed below the base level's exit threshold (16 R429; reset none) -/
  belowSince : Option Nat
  /-- `THROTTLE_LEVEL`, U8, 0 to 4 (16 Table 16-4; reset 0) -/
  level : Nat
  /-- instant of the last round that met R430 or step down since (16 R430; reset none) -/
  riseAt : Option Nat
  /-- `THROTTLE_TIME` in ns at level 1 or above; the entry reads seconds, U32 (16 R436; reset 0) -/
  hotNs : Nat
  /-- instant of the last round, ns (16 R426; reset 0) -/
  roundAt : Nat
  /-- `SHUTDOWN_ACTIVE`, 1 bit (16 R435; reset 0, log 6) -/
  shutdown : Bool
  /-- instant of the shutdown, ns (03 R100; reset 0) -/
  shutdownAt : Nat
  /-- `SHUTDOWN_COUNT`, U32 (16 Table 16-4; reset 0) -/
  shutdowns : Nat
  /-- `SHUTDOWN_SEEN`, `RISE_SEEN`, `SENSOR_FAULT_SEEN`, `THROTTLE_SEEN`, bits 3 to 0 (16 Table 16-5; reset 0b0000) -/
  seen : Nat
  deriving DecidableEq, Repr

def Thermal.reset : Thermal :=
  { temp := Vector.replicate 6 0, fault := Vector.replicate 6 false, good := Vector.replicate 6 0, max := Vector.replicate 6 0,
    compFailed := 0, tripped := 0, summit := some 0, sensor := 0, rise := 0, last := [], select := .pause, base := 0, belowSince := none,
    level := 0, riseAt := none, hotNs := 0, roundAt := 0, shutdown := false, shutdownAt := 0, shutdowns := 0, seen := 0 }

end Sys2Proof.Machine
end

