-- ==== Sys2Proof/Machine/State.lean ====
section
/-!
DEFINITION. The state of the block, as plain data: every register, latch, queue, counter and mode the spec gives
the T2040, gathered by subsystem, with its value at reset. Reset is the block without supply, before a power-on:
block state OFF, power path safe (spec/20 Table 20-1, spec/03 R74; log 5).
-/

namespace Sys2Proof.Machine

/-- Why a step stops for good. The spec stops the block for good at no command, so nothing raises it (safe). -/
inductive Fault where
  | none_
  deriving DecidableEq, Repr

/-- Why a command has no meaning. `notModelled` is answered only by exec's arms without a meaning (safe). -/
inductive Refusal where
  | notModelled (mnemonic : String)
  deriving DecidableEq, Repr

structure State where
  /-- the model's time base, ns; one idle step is one SYS tick of 10 ns (log 1; reset 0) -/
  now : Nat
  /-- commands waiting, first in, first out (the model's own; reset none) -/
  pending : List Instr
  /-- number of free values taken so far (the model's own, log 4; reset 0) -/
  free : Nat
  /-- `SERIAL`, U64, factory (15 Table 15-2; reset 0, log 6) -/
  serial : Nat
  ident : Identity
  /-- calendar: UTC in ms at `utcAt` (19 R491; reset 0, log 6) -/
  utcBase : Nat
  /-- instant of the last setting of the calendar, ns (19 R491; reset 0) -/
  utcAt : Nat
  irq : Irq
  evlog : Recorder
  fc : FaultCounts
  supply : Supply
  start : Start
  mode : Mode
  cores : Cores
  health : Health
  strs : Vector StrCtl 40
  banks : Vector BankCtl 4
  gates : Vector Gate 52
  gateBlock : GateBlock
  bstr : Vector BelayStr 40
  belay : Belay
  io : Safety
  dict : Dict
  seng : Seal
  therm : Thermal
  cans : Vector Can 3
  ropes : Vector Rope 40
  /-- the rope nodes that differ from a node after its restart, by string x 64 + physical place counted from end A, H1 at 0
  (04 R102; reset none) -/
  nodes : Sparse Node
  trav : Traverse
  bal : Balance
  eths : Vector Eth 2
  stream : CellStream
  clock : Clock
  corr : Corr
  est : Est
  store : Store
  /-- requests of partners received while SWAPPING, answered after the resume (20 Table 20-7, log 21; reset none) -/
  heldReq : List Instr
  /-- plain writes that wait for a sealed request naming their entry (14 R390; reset none) -/
  waitingWrites : List WaitingWrite
  deriving DecidableEq, Repr

/-- Delivered `GATE_CFG` words: S and D channels, C channels (10 R285). -/
def gateCfgSD : Nat := 0x3BC6AC0C
def gateCfgC : Nat := 0x3BC6AC8C

def State.reset : State :=
  { now := 0, pending := [], free := 0, serial := 0, ident := Identity.reset, utcBase := 0, utcAt := 0,
    irq := Irq.reset, evlog := Recorder.reset, fc := FaultCounts.reset, supply := Supply.reset, start := Start.reset,
    mode := Mode.reset, cores := Cores.reset, health := Health.reset,
    strs := Vector.replicate 40 StrCtl.reset, banks := Vector.replicate 4 BankCtl.reset,
    gates := (Vector.replicate 40 (Gate.reset false gateCfgSD)) ++ (Vector.replicate 8 (Gate.reset false gateCfgC)) ++
      (Vector.replicate 4 (Gate.reset true gateCfgSD)),
    gateBlock := GateBlock.reset, bstr := Vector.replicate 40 BelayStr.reset, belay := Belay.reset, io := Safety.reset,
    dict := Dict.reset, seng := Seal.reset, therm := Thermal.reset,
    cans := Vector.replicate 3 Can.reset, ropes := Vector.replicate 40 Rope.reset, nodes := [], trav := Traverse.reset,
    bal := Balance.reset, eths := Vector.replicate 2 Eth.reset, stream := CellStream.reset, clock := Clock.reset, corr := Corr.reset,
    est := Est.reset, store := Store.reset, heldReq := [], waitingWrites := [] }

end Sys2Proof.Machine
end

