-- ==== Sys2Proof/Machine/DictTable.lean ====
section
/-!
DEFINITION. The dictionary's entries as the tables of the spec give them: object, sub-index, size, access code, range and
default, and the value store behind the RW and RWS entries (spec/14 R379, R380, R388; the entry tables of every chapter).
A default the spec leaves to the configuration partition ("cfg") is 0, or the least value of the entry's range (log 6).
-/

namespace Sys2Proof.Machine

/-- Value types of Table 14-3 as the wire sees them. -/
inductive Kind where
  | num | bool | str | blob
  deriving DecidableEq, Repr

/-- Access codes (00 R8, 14 R388). -/
inductive Access where
  | ro | w1cField | rw | rws | xs | w1c
  deriving DecidableEq, Repr

/-- One row of an entry table: `span` objects from `base`, `subs` sub-indices from `sub`, `count` elements of `width` bytes,
the range of each element and its default (the last of a list stands for the elements after it). -/
structure EntryRow where
  base : Nat
  span : Nat
  sub : Nat
  subs : Nat
  width : Nat
  count : Nat
  kind : Kind
  signed : Bool
  access : Access
  range : List (Int × Int)
  dflt : List Nat
  deriving DecidableEq, Repr

/-- Entries of the objects from 0x1000. -/
def entries1000 : List EntryRow := [
  ⟨0x1000, 1, 0x0001, 1, 1, 16, .str, false, .ro, [(0, 255)], [0]⟩,  -- VENDOR_NAME, spec/15
  ⟨0x1000, 1, 0x0002, 1, 1, 16, .str, false, .ro, [(0, 255)], [0]⟩,  -- PRODUCT_NAME, spec/15
  ⟨0x1000, 1, 0x0003, 1, 8, 1, .num, false, .ro, [(0, 18446744073709551615)], [0]⟩,  -- SERIAL, spec/15
  ⟨0x1000, 1, 0x0004, 1, 4, 1, .num, false, .ro, [(0, 4294967295)], [0]⟩,  -- FW_VERSION, spec/15
  ⟨0x1000, 1, 0x0005, 1, 1, 1, .num, false, .ro, [(0, 255)], [0]⟩,  -- HW_ISSUE, spec/15
  ⟨0x1000, 1, 0x0006, 1, 4, 1, .num, false, .ro, [(0, 4294967295)], [0]⟩,  -- BOOT_ROM_VERSION, spec/15
  ⟨0x1000, 1, 0x0007, 1, 2, 1, .num, false, .ro, [(0, 65535)], [1]⟩,  -- OD_LAYOUT, spec/15
  ⟨0x1000, 1, 0x0008, 1, 1, 24, .str, false, .ro, [(0, 255)], [0]⟩,  -- PART_NUMBER, spec/15
  ⟨0x1000, 1, 0x0009, 1, 8, 1, .num, false, .ro, [(0, 18446744073709551615)], [0]⟩,  -- MFG_TIME, spec/15
  ⟨0x1000, 1, 0x000A, 1, 4, 1, .num, false, .ro, [(0, 4294967295)], [0]⟩,  -- IMAGE_GENERATION, spec/15
  ⟨0x1000, 1, 0x000B, 1, 8, 1, .num, false, .ro, [(0, 18446744073709551615)], [0]⟩]  -- UPTIME, spec/15

/-- Entries of the objects from 0x1800. -/
def entries1800 : List EntryRow := [
  ⟨0x1800, 3, 0x0001, 1, 1, 1, .num, false, .rw, [(0, 2)], [0]⟩,  -- CAN_MODE, spec/13
  ⟨0x1800, 3, 0x0002, 1, 1, 1, .num, false, .rw, [(1, 127)], [1]⟩,  -- NODE_ID, spec/13
  ⟨0x1800, 3, 0x0003, 1, 4, 1, .num, false, .rw, [(0, 4294967295)], [507387393]⟩,  -- BIT_NOMINAL, spec/13
  ⟨0x1800, 3, 0x0004, 1, 4, 1, .num, false, .rw, [(0, 4294967295)], [2655530752]⟩,  -- BIT_DATA, spec/13
  ⟨0x1800, 3, 0x0005, 1, 2, 1, .num, false, .w1cField, [(0, 65535)], [0]⟩,  -- CAN_STATUS, spec/13
  ⟨0x1800, 3, 0x0006, 1, 2, 1, .num, false, .ro, [(0, 65535)], [0]⟩,  -- ERR_COUNTERS, spec/13
  ⟨0x1800, 3, 0x0007, 1, 1, 1, .num, false, .rw, [(1, 1)], [0]⟩,  -- BUSOFF_RECOVER, spec/13
  ⟨0x1800, 3, 0x0008, 1, 1, 1, .num, false, .rw, [(0, 60)], [0]⟩,  -- BUSOFF_AUTO, spec/13
  ⟨0x1800, 3, 0x0009, 1, 1, 1, .num, false, .rw, [(1, 1)], [0]⟩,  -- DUP_CLEAR, spec/13
  ⟨0x1800, 3, 0x000A, 1, 4, 12, .num, false, .ro, [(0, 4294967295)], [0]⟩,  -- CAN_COUNTS, spec/13
  ⟨0x1800, 3, 0x000B, 1, 4, 1, .num, false, .ro, [(0, 4294967295)], [0]⟩,  -- CLASH_ID, spec/13
  ⟨0x1800, 3, 0x000C, 1, 1, 1, .num, false, .rw, [(0, 127)], [0]⟩,  -- MO_TX_REQ, spec/13
  ⟨0x1800, 3, 0x000D, 1, 1, 1, .num, false, .rw, [(0, 127)], [0]⟩,  -- MO_CANCEL, spec/13
  ⟨0x1800, 3, 0x0010, 1, 2, 1, .num, false, .rw, [(256, 16383)], [5000]⟩,  -- TT_CYCLE_LEN, spec/13
  ⟨0x1800, 3, 0x0011, 1, 1, 1, .num, false, .rw, [(1, 64)], [1]⟩,  -- TT_CYCLES, spec/13
  ⟨0x1800, 3, 0x0012, 1, 1, 1, .num, false, .rw, [(0, 1)], [0]⟩,  -- TT_ROLE, spec/13
  ⟨0x1800, 3, 0x0013, 1, 4, 1, .num, false, .rw, [(0, 1073741823)], [16]⟩,  -- TT_REF_ID, spec/13
  ⟨0x1800, 3, 0x0014, 1, 1, 1, .num, false, .rw, [(1, 16)], [4]⟩,  -- TT_TXWIN, spec/13
  ⟨0x1800, 3, 0x0015, 1, 4, 32, .num, false, .rw, [(0, 4294967295)], [0]⟩,  -- TT_SLOT, spec/13
  ⟨0x1800, 3, 0x0016, 1, 1, 1, .num, false, .ro, [(0, 255)], [0]⟩,  -- TT_CYCLE_COUNT, spec/13
  ⟨0x1800, 3, 0x0017, 1, 4, 32, .num, false, .ro, [(0, 4294967295)], [0]⟩]  -- TT_MISSED_COUNT, spec/13

/-- Entries of the objects from 0x1810. -/
def entries1810 : List EntryRow := [
  ⟨0x1810, 3, 0x0001, 128, 8, 1, .num, false, .rw, [(0, 18446744073709551615)], [0]⟩]  -- MO_CFG, spec/13

/-- Entries of the objects from 0x1820. -/
def entries1820 : List EntryRow := [
  ⟨0x1820, 3, 0x0001, 128, 2, 1, .num, false, .w1cField, [(0, 65535)], [0]⟩]  -- MO_STATUS, spec/13

/-- Entries of the objects from 0x1830. -/
def entries1830 : List EntryRow := [
  ⟨0x1830, 3, 0x0001, 128, 1, 80, .blob, false, .rw, [(0, 255)], [0]⟩]  -- MO_DATA, spec/13

/-- Entries of the objects from 0x1840. -/
def entries1840 : List EntryRow := [
  ⟨0x1840, 3, 0x0001, 256, 4, 3, .num, false, .rw, [(0, 4294967295)], [0]⟩]  -- FILTER, spec/13

/-- Entries of the objects from 0x1A00. -/
def entries1A00 : List EntryRow := [
  ⟨0x1A00, 1, 0x0001, 1, 1, 1, .num, false, .rw, [(1, 1)], [0]⟩,  -- ETH_APPLY, spec/19
  ⟨0x1A00, 1, 0x0002, 1, 1, 1, .bool, false, .rw, [(0, 1)], [1]⟩,  -- ICMP_ECHO, spec/19
  ⟨0x1A00, 1, 0x0010, 1, 8, 1, .num, false, .ro, [(0, 18446744073709551615)], [0]⟩,  -- UTC_NOW, spec/19
  ⟨0x1A00, 1, 0x0011, 1, 1, 1, .num, false, .ro, [(0, 255)], [0]⟩,  -- TIME_QUALITY, spec/19
  ⟨0x1A00, 1, 0x0012, 1, 1, 1, .num, false, .ro, [(0, 255)], [2]⟩,  -- TIME_SOURCE, spec/19
  ⟨0x1A00, 1, 0x0013, 1, 1, 1, .num, false, .rw, [(0, 3)], [3]⟩,  -- TIME_SOURCE_EN, spec/19
  ⟨0x1A00, 1, 0x0014, 1, 2, 1, .num, true, .rw, [(0, 100)], [37]⟩,  -- UTC_OFFSET, spec/19
  ⟨0x1A00, 1, 0x0015, 1, 8, 1, .num, false, .xs, [(0, 18446744073709551615)], [0]⟩,  -- TIME_SET, spec/19
  ⟨0x1A00, 1, 0x0016, 1, 8, 1, .num, false, .rw, [(0, 18446744073709551615)], [0]⟩,  -- RTC_ALARM, spec/19
  ⟨0x1A00, 1, 0x0017, 1, 4, 1, .num, false, .ro, [(0, 4294967295)], [0]⟩,  -- TIME_STEP_COUNT, spec/19
  ⟨0x1A00, 1, 0x0020, 1, 1, 1, .num, false, .rw, [(0, 2)], [0]⟩,  -- PTP_ROLE, spec/19
  ⟨0x1A00, 1, 0x0021, 1, 1, 1, .num, false, .rw, [(1, 2)], [1]⟩,  -- PTP_PORT, spec/19
  ⟨0x1A00, 1, 0x0022, 1, 1, 1, .num, false, .rw, [(0, 1)], [0]⟩,  -- PTP_DELAY_MECH, spec/19
  ⟨0x1A00, 1, 0x0023, 1, 1, 1, .num, false, .rw, [(0, 127)], [0]⟩,  -- PTP_DOMAIN, spec/19
  ⟨0x1A00, 1, 0x0024, 1, 1, 2, .num, false, .rw, [(0, 255)], [128, 128]⟩,  -- PTP_PRIORITY, spec/19
  ⟨0x1A00, 1, 0x0025, 1, 2, 3, .num, true, .rw, [(0, 4), (-1, 1), (0, 5)], [1, 0, 0]⟩,  -- PTP_INTERVALS, spec/19
  ⟨0x1A00, 1, 0x0026, 1, 1, 1, .num, false, .ro, [(0, 255)], [3]⟩,  -- PTP_STATE, spec/19
  ⟨0x1A00, 1, 0x0027, 1, 4, 1, .num, true, .ro, [(-2147483648, 2147483647)], [0]⟩,  -- PTP_OFFSET, spec/19
  ⟨0x1A00, 1, 0x0028, 1, 4, 1, .num, true, .ro, [(-2147483648, 2147483647)], [0]⟩,  -- PTP_MEAN_DELAY, spec/19
  ⟨0x1A00, 1, 0x0029, 1, 8, 1, .num, false, .ro, [(0, 18446744073709551615)], [0]⟩,  -- PTP_GM_ID, spec/19
  ⟨0x1A00, 1, 0x002A, 1, 4, 1, .num, true, .ro, [(-2147483648, 2147483647)], [0]⟩,  -- PTP_RATE, spec/19
  ⟨0x1A00, 1, 0x0040, 1, 1, 1, .bool, false, .rw, [(0, 1)], [0]⟩,  -- STREAM_ENABLE, spec/19
  ⟨0x1A00, 1, 0x0041, 1, 1, 1, .num, false, .rw, [(1, 3)], [1]⟩,  -- STREAM_PORT, spec/19
  ⟨0x1A00, 1, 0x0042, 1, 4, 1, .num, false, .rw, [(0, 4294967295)], [0]⟩,  -- STREAM_DEST_IP, spec/19
  ⟨0x1A00, 1, 0x0043, 1, 2, 1, .num, false, .rw, [(1, 65535)], [50221]⟩,  -- STREAM_DEST_PORT, spec/19
  ⟨0x1A00, 1, 0x0044, 1, 2, 1, .num, false, .rw, [(1, 1000)], [1]⟩,  -- STREAM_DIVIDER, spec/19
  ⟨0x1A00, 1, 0x0045, 1, 8, 1, .num, false, .rw, [(0, 1099511627775)], [1099511627775]⟩,  -- STREAM_MAP, spec/19
  ⟨0x1A00, 1, 0x0046, 1, 4, 1, .num, false, .ro, [(0, 4294967295)], [0]⟩,  -- STREAM_RATE, spec/19
  ⟨0x1A00, 1, 0x0047, 1, 2, 1, .num, false, .w1cField, [(0, 65535)], [0]⟩,  -- STREAM_STATUS, spec/19
  ⟨0x1A00, 1, 0x0048, 1, 4, 1, .num, false, .ro, [(0, 4294967295)], [0]⟩,  -- STREAM_SETS, spec/19
  ⟨0x1A00, 1, 0x0049, 1, 4, 1, .num, false, .ro, [(0, 4294967295)], [0]⟩]  -- STREAM_DROPPED, spec/19

/-- Entries of the objects from 0x1A01. -/
def entries1A01 : List EntryRow := [
  ⟨0x1A01, 2, 0x0001, 1, 1, 6, .blob, false, .ro, [(0, 255)], [0]⟩,  -- MAC_ADDR, spec/19
  ⟨0x1A01, 2, 0x0002, 1, 4, 1, .num, false, .rw, [(0, 4294967295)], [0]⟩,  -- IP_ADDR, spec/19
  ⟨0x1A01, 2, 0x0003, 1, 4, 1, .num, false, .rw, [(0, 4294967295)], [0]⟩,  -- NETMASK, spec/19
  ⟨0x1A01, 2, 0x0004, 1, 4, 1, .num, false, .rw, [(0, 4294967295)], [0]⟩,  -- GATEWAY, spec/19
  ⟨0x1A01, 2, 0x0005, 1, 1, 1, .num, false, .rw, [(1, 3)], [3]⟩,  -- LINK_MODES, spec/19
  ⟨0x1A01, 2, 0x0006, 1, 2, 1, .num, false, .w1cField, [(0, 65535)], [0]⟩,  -- LINK_STATUS, spec/19
  ⟨0x1A01, 2, 0x0007, 1, 4, 8, .num, false, .ro, [(0, 4294967295)], [0]⟩,  -- ETH_COUNTS, spec/19
  ⟨0x1A01, 2, 0x0008, 1, 4, 3, .num, false, .ro, [(0, 4294967295)], [0]⟩]  -- IP_IN_FORCE, spec/19

/-- Entries of the objects from 0x1B00. -/
def entries1B00 : List EntryRow := [
  ⟨0x1B00, 1, 0x0001, 1, 2, 6, .num, true, .ro, [(-32768, 32767)], [0]⟩,  -- DEVICE_TEMP, spec/16
  ⟨0x1B00, 1, 0x0002, 1, 2, 1, .num, true, .ro, [(-32768, 32767)], [0]⟩,  -- SUMMIT_TEMP, spec/16
  ⟨0x1B00, 1, 0x0003, 1, 1, 1, .num, false, .ro, [(0, 255)], [0]⟩,  -- SUMMIT_SENSOR, spec/16
  ⟨0x1B00, 1, 0x0004, 1, 2, 1, .num, true, .ro, [(-32768, 32767)], [0]⟩,  -- SUMMIT_RISE, spec/16
  ⟨0x1B00, 1, 0x0005, 1, 1, 1, .num, false, .rw, [(1, 2)], [1]⟩,  -- THROTTLE_SELECT, spec/16
  ⟨0x1B00, 1, 0x0006, 1, 1, 1, .num, false, .ro, [(0, 255)], [0]⟩,  -- THROTTLE_STATE, spec/16
  ⟨0x1B00, 1, 0x0007, 1, 1, 1, .num, false, .ro, [(0, 255)], [0]⟩,  -- THROTTLE_LEVEL, spec/16
  ⟨0x1B00, 1, 0x0008, 1, 2, 1, .num, false, .w1cField, [(0, 65535)], [0]⟩,  -- THERMAL_STATUS, spec/16
  ⟨0x1B00, 1, 0x0009, 1, 2, 6, .num, true, .ro, [(-32768, 32767)], [0]⟩,  -- TEMP_MAX, spec/16
  ⟨0x1B00, 1, 0x000A, 1, 4, 1, .num, false, .ro, [(0, 4294967295)], [0]⟩,  -- THROTTLE_TIME, spec/16
  ⟨0x1B00, 1, 0x000B, 1, 4, 1, .num, false, .ro, [(0, 4294967295)], [0]⟩]  -- SHUTDOWN_COUNT, spec/16

/-- Entries of the objects from 0x1C00. -/
def entries1C00 : List EntryRow := [
  ⟨0x1C00, 1, 0x0001, 1, 2, 1, .num, false, .w1cField, [(0, 65535)], [0]⟩,  -- REC_STATUS, spec/17
  ⟨0x1C00, 1, 0x0002, 1, 4, 1, .num, false, .ro, [(0, 4294967295)], [0]⟩,  -- REC_NEWEST, spec/17
  ⟨0x1C00, 1, 0x0003, 1, 4, 1, .num, false, .ro, [(0, 4294967295)], [0]⟩,  -- REC_OLDEST, spec/17
  ⟨0x1C00, 1, 0x0004, 1, 4, 1, .num, false, .ro, [(0, 4294967295)], [0]⟩,  -- REC_COUNT, spec/17
  ⟨0x1C00, 1, 0x0005, 1, 4, 1, .num, false, .rw, [(0, 4294967295)], [0]⟩,  -- REC_MARK, spec/17
  ⟨0x1C00, 1, 0x0006, 1, 1, 1, .num, false, .rw, [(10, 100)], [90]⟩,  -- REC_FILL_THRESHOLD, spec/17
  ⟨0x1C00, 1, 0x0007, 1, 4, 1, .num, false, .rw, [(0, 4294967295)], [0]⟩,  -- REC_CURSOR, spec/17
  ⟨0x1C00, 1, 0x0008, 1, 1, 4096, .blob, false, .ro, [(0, 255)], [0]⟩,  -- REC_WINDOW, spec/17
  ⟨0x1C00, 1, 0x0009, 1, 1, 1, .num, false, .xs, [(1, 1)], [0]⟩,  -- REC_CLEAR, spec/17
  ⟨0x1C00, 1, 0x000A, 1, 4, 1, .num, false, .ro, [(0, 4294967295)], [0]⟩,  -- REC_SUPPRESSED, spec/17
  ⟨0x1C00, 1, 0x000B, 1, 2, 1, .num, false, .ro, [(0, 65535)], [0]⟩,  -- REC_STAGED, spec/17
  ⟨0x1C00, 1, 0x000C, 1, 4, 1, .num, false, .ro, [(0, 4294967295)], [0]⟩,  -- REC_LOST, spec/17
  ⟨0x1C00, 1, 0x1001, 57343, 4, 1, .num, false, .rw, [(0, 4294967295)], [285212772]⟩]  -- RATE_LIMIT, spec/17

/-- Entries of the objects from 0x1C01. -/
def entries1C01 : List EntryRow := [
  ⟨0x1C01, 1, 0x0001, 1, 4, 16, .num, false, .ro, [(0, 4294967295)], [0]⟩,  -- PARTITIONS, spec/17
  ⟨0x1C01, 1, 0x0002, 1, 2, 1, .num, false, .w1cField, [(0, 65535)], [0]⟩,  -- LEARN_STATUS, spec/17
  ⟨0x1C01, 1, 0x0003, 1, 4, 3, .num, false, .ro, [(0, 4294967295)], [0]⟩,  -- LEARN_GEN, spec/17
  ⟨0x1C01, 1, 0x0004, 1, 4, 1, .num, false, .ro, [(0, 4294967295)], [0]⟩,  -- LEARN_SELECTED, spec/17
  ⟨0x1C01, 1, 0x0005, 1, 4, 1, .num, false, .ro, [(0, 4294967295)], [0]⟩,  -- LEARN_WRITE_COUNT, spec/17
  ⟨0x1C01, 1, 0x0006, 1, 1, 1, .num, false, .rw, [(1, 1)], [0]⟩,  -- CFG_STORE, spec/17
  ⟨0x1C01, 1, 0x0007, 1, 4, 1, .num, false, .ro, [(0, 4294967295)], [0]⟩,  -- CFG_GEN, spec/17
  ⟨0x1C01, 1, 0x0008, 1, 4, 128, .num, false, .ro, [(0, 4294967295)], [0]⟩,  -- HIST_INDEX, spec/17
  ⟨0x1C01, 1, 0x0009, 1, 8, 128, .num, false, .ro, [(0, 18446744073709551615)], [0]⟩,  -- HIST_TIMES, spec/17
  ⟨0x1C01, 1, 0x000A, 1, 4, 1, .num, false, .rw, [(0, 4294967295)], [0]⟩,  -- HIST_SELECT, spec/17
  ⟨0x1C01, 1, 0x000B, 1, 1, 20548, .blob, false, .ro, [(0, 255)], [0]⟩]  -- HIST_READ, spec/17

/-- Entries of the objects from 0x1D00. -/
def entries1D00 : List EntryRow := [
  ⟨0x1D00, 1, 0x0001, 1, 2, 1, .num, false, .w1cField, [(0, 65535)], [0]⟩,  -- HEALTH_STATUS, spec/18
  ⟨0x1D00, 1, 0x0002, 1, 1, 1, .num, false, .ro, [(0, 255)], [0]⟩,  -- CORE_SET, spec/18
  ⟨0x1D00, 1, 0x0003, 1, 1, 3, .num, false, .ro, [(0, 255)], [0]⟩,  -- CORE_STATE, spec/18
  ⟨0x1D00, 1, 0x0004, 1, 1, 1, .num, false, .ro, [(0, 255)], [0]⟩,  -- OSC_SOURCE, spec/18
  ⟨0x1D00, 1, 0x0005, 1, 2, 1, .num, false, .rw, [(10, 3600)], [60]⟩,  -- SCRUB_PERIOD, spec/18
  ⟨0x1D00, 1, 0x0006, 1, 1, 1, .num, false, .xs, [(1, 1)], [0]⟩,  -- HEALTH_CLEAR, spec/18
  ⟨0x1D00, 1, 0x0007, 1, 1, 1, .num, false, .rw, [(1, 80)], [0]⟩,  -- PHY_RESTORE, spec/18
  ⟨0x1D00, 1, 0x0008, 1, 4, 2, .num, false, .ro, [(0, 4294967295)], [0]⟩,  -- SRAM_ECC_COUNT, spec/18
  ⟨0x1D00, 1, 0x0010, 1, 4, 16, .num, false, .rws, [(0, 4294967295)], [33558032, 134217738, 268435466, 50335248, 50335248, 50418048, 16777216, 67195264, 16777216, 50331649, 50332248, 50335248, 67108865, 67112464, 0, 0]⟩,  -- FC_CFG, spec/18
  ⟨0x1D00, 1, 0x0011, 1, 4, 16, .num, false, .ro, [(0, 4294967295)], [0]⟩,  -- FC_TOTAL, spec/18
  ⟨0x1D00, 1, 0x0012, 1, 4, 16, .num, false, .ro, [(0, 4294967295)], [0]⟩,  -- FC_LASTING, spec/18
  ⟨0x1D00, 1, 0x0013, 1, 1, 16, .num, false, .ro, [(0, 255)], [0]⟩,  -- FC_IN_WINDOW, spec/18
  ⟨0x1D00, 1, 0x0014, 1, 2, 16, .num, false, .ro, [(0, 65535)], [0]⟩,  -- FC_LAST_INSTANCE, spec/18
  ⟨0x1D00, 1, 0x0015, 1, 8, 16, .num, false, .ro, [(0, 18446744073709551615)], [0]⟩,  -- FC_LAST_TIME, spec/18
  ⟨0x1D00, 1, 0x0020, 1, 4, 5, .num, false, .ro, [(0, 4294967295)], [0]⟩,  -- SPARE_USE, spec/18
  ⟨0x1D00, 1, 0x0021, 1, 4, 3, .num, false, .ro, [(0, 4294967295)], [0]⟩,  -- FLASH_ERASE, spec/18
  ⟨0x1D00, 1, 0x0022, 1, 4, 1, .num, false, .rw, [(0, 4294967295)], [0]⟩,  -- WEAR_LIMIT_SWITCH, spec/18
  ⟨0x1D00, 1, 0x0023, 1, 4, 16, .num, false, .rw, [(0, 4294967295)], [0]⟩,  -- WEAR_LIMIT_Q, spec/18
  ⟨0x1D00, 1, 0x0024, 1, 1, 1, .num, false, .rw, [(50, 100)], [80]⟩,  -- WEAR_LIMIT_FLASH, spec/18
  ⟨0x1D00, 1, 0x0025, 1, 8, 1, .num, false, .ro, [(0, 18446744073709551615)], [0]⟩]  -- WEAR_MAP, spec/18

/-- Entries of the objects from 0x1E00. -/
def entries1E00 : List EntryRow := [
  ⟨0x1E00, 1, 0x0001, 1, 1, 4096, .blob, false, .rw, [(0, 255)], [0]⟩,  -- SEAL_SUBMIT, spec/14
  ⟨0x1E00, 1, 0x0002, 1, 4, 1, .num, false, .ro, [(0, 4294967295)], [0]⟩,  -- SEAL_RESULT, spec/14
  ⟨0x1E00, 1, 0x0003, 1, 2, 1, .num, false, .w1cField, [(0, 65535)], [0]⟩,  -- SEAL_STATUS, spec/14
  ⟨0x1E00, 1, 0x0004, 1, 1, 1, .num, false, .ro, [(0, 255)], [0]⟩,  -- SEAL_QUEUE, spec/14
  ⟨0x1E00, 1, 0x0010, 8, 1, 32, .blob, false, .rws, [(0, 255)], [0]⟩,  -- TRUST_KEY, spec/14
  ⟨0x1E00, 1, 0x0018, 8, 8, 1, .num, false, .ro, [(0, 18446744073709551615)], [0]⟩,  -- TRUST_COUNTER, spec/14
  ⟨0x1E00, 1, 0x0020, 8, 8, 1, .num, false, .ro, [(0, 18446744073709551615)], [0]⟩,  -- TRUST_ENROLLED, spec/14
  ⟨0x1E00, 1, 0x0028, 1, 1, 1, .num, false, .ro, [(0, 255)], [0]⟩,  -- TRUST_MAP, spec/14
  ⟨0x1E00, 1, 0x0029, 1, 8, 1, .num, false, .rw, [(0, 18446744073709551615)], [0]⟩,  -- TRUST_ERASE, spec/14
  ⟨0x1E00, 1, 0x0030, 1, 4, 1, .num, false, .xs, [(1, 16777216)], [0]⟩,  -- FW_OPEN, spec/14
  ⟨0x1E00, 1, 0x0031, 1, 1, 16777216, .blob, false, .rw, [(0, 255)], [0]⟩,  -- FW_IMAGE, spec/14
  ⟨0x1E00, 1, 0x0032, 1, 1, 64, .blob, false, .xs, [(0, 255)], [0]⟩,  -- FW_COMMIT, spec/14
  ⟨0x1E00, 1, 0x0033, 1, 1, 1, .num, false, .ro, [(0, 255)], [0]⟩,  -- FW_STATUS, spec/14
  ⟨0x1E00, 1, 0x0040, 1, 4, 6, .num, false, .ro, [(0, 4294967295)], [0]⟩,  -- WRITE_COUNT, spec/14
  ⟨0x1E00, 1, 0x0041, 1, 4, 6, .num, false, .ro, [(0, 4294967295)], [0]⟩,  -- ABORT_COUNT, spec/14
  ⟨0x1E00, 1, 0x0042, 1, 4, 1, .num, false, .ro, [(0, 4294967295)], [0]⟩,  -- CONTENDED_COUNT, spec/14
  ⟨0x1E00, 1, 0x0043, 1, 4, 6, .num, false, .ro, [(0, 4294967295)], [0]⟩]  -- DISCARD_COUNT, spec/14

/-- Entries of the objects from 0x1E01. -/
def entries1E01 : List EntryRow := [
  ⟨0x1E01, 1, 0x0001, 64, 1, 24, .blob, false, .ro, [(0, 255)], [0]⟩,  -- PARTNER, spec/14
  ⟨0x1E01, 1, 0x0041, 1, 2, 1, .num, false, .rw, [(0, 10000)], [1000]⟩,  -- HB_PERIOD, spec/14
  ⟨0x1E01, 1, 0x0042, 1, 2, 1, .num, false, .rw, [(10, 3600)], [600]⟩,  -- PARTNER_AGE, spec/14
  ⟨0x1E01, 1, 0x0043, 1, 1, 1, .num, false, .ro, [(0, 255)], [0]⟩]  -- PARTNER_COUNT, spec/14

/-- Entries of the objects from 0x2000. -/
def entries2000 : List EntryRow := [
  ⟨0x2000, 1, 0x0001, 1, 1, 1, .num, false, .ro, [(0, 255)], [0]⟩,  -- BLOCK_STATE, spec/20
  ⟨0x2000, 1, 0x0002, 1, 1, 1, .num, false, .rw, [(2, 5)], [0]⟩,  -- BLOCK_STATE_REQ, spec/20
  ⟨0x2000, 1, 0x0003, 1, 4, 1, .num, false, .ro, [(0, 4294967295)], [0]⟩,  -- MODE_VECTOR, spec/20
  ⟨0x2000, 1, 0x0004, 1, 1, 40, .num, false, .ro, [(0, 255)], [0]⟩,  -- ROPE_MODE_ALL, spec/20
  ⟨0x2000, 1, 0x0005, 1, 1, 4, .num, false, .ro, [(0, 255)], [0]⟩,  -- BANK_STATE_ALL, spec/20
  ⟨0x2000, 1, 0x0006, 1, 8, 1, .num, false, .ro, [(0, 18446744073709551615)], [0]⟩,  -- STATE_SINCE, spec/20
  ⟨0x2000, 1, 0x0007, 1, 1, 1, .num, false, .ro, [(0, 255)], [0]⟩,  -- MODE_REFUSED, spec/20
  ⟨0x2000, 1, 0x0010, 1, 8, 1, .num, false, .ro, [(0, 18446744073709551615)], [0]⟩,  -- INSTALLED_MAP, spec/15
  ⟨0x2000, 1, 0x0011, 1, 8, 1, .num, false, .ro, [(0, 18446744073709551615)], [0]⟩,  -- CLOSED_MAP, spec/15
  ⟨0x2000, 1, 0x0012, 1, 8, 1, .num, false, .ro, [(0, 18446744073709551615)], [0]⟩,  -- TRIPPED_MAP, spec/15
  ⟨0x2000, 1, 0x0013, 1, 8, 1, .num, false, .ro, [(0, 18446744073709551615)], [0]⟩,  -- LOCKED_OUT_MAP, spec/15
  ⟨0x2000, 1, 0x0014, 1, 8, 1, .num, false, .ro, [(0, 18446744073709551615)], [0]⟩,  -- EXCLUDED_MAP, spec/15
  ⟨0x2000, 1, 0x0015, 1, 8, 1, .num, false, .ro, [(0, 18446744073709551615)], [0]⟩,  -- UNSEEN_ANY_MAP, spec/15
  ⟨0x2000, 1, 0x0016, 1, 1, 40, .num, false, .ro, [(0, 255)], [0]⟩,  -- STRING_STATE_ALL, spec/15
  ⟨0x2000, 1, 0x0020, 1, 2, 1, .num, false, .w1cField, [(0, 65535)], [0]⟩,  -- RESET_CAUSE, spec/03
  ⟨0x2000, 1, 0x0021, 1, 1, 1, .num, false, .ro, [(0, 255)], [0]⟩,  -- STARTUP_STEP, spec/03
  ⟨0x2000, 1, 0x0022, 1, 1, 1, .num, false, .ro, [(0, 255)], [0]⟩,  -- BOOT_IMAGE, spec/03
  ⟨0x2000, 1, 0x0023, 1, 1, 1, .num, false, .xs, [(1, 2)], [0]⟩,  -- RESET_REQUEST, spec/03
  ⟨0x2000, 1, 0x0024, 1, 4, 1, .num, false, .ro, [(0, 4294967295)], [0]⟩,  -- STARTUP_TIME, spec/03
  ⟨0x2000, 1, 0x0040, 1, 2, 1, .num, false, .ro, [(0, 65535)], [0]⟩,  -- SUPPLY_V, spec/02
  ⟨0x2000, 1, 0x0041, 1, 2, 1, .num, false, .ro, [(0, 65535)], [0]⟩,  -- VQ_V, spec/02
  ⟨0x2000, 1, 0x0042, 1, 4, 1, .num, false, .ro, [(0, 4294967295)], [0]⟩,  -- VQ_I, spec/02
  ⟨0x2000, 1, 0x0043, 1, 2, 1, .num, false, .w1cField, [(0, 65535)], [0]⟩,  -- SUPPLY_STATUS, spec/02
  ⟨0x2000, 1, 0x0044, 1, 2, 1, .num, false, .ro, [(0, 65535)], [0]⟩,  -- INPUT_P, spec/02
  ⟨0x2000, 1, 0x0045, 1, 2, 1, .num, false, .ro, [(0, 65535)], [0]⟩,  -- HOLDUP_E, spec/02
  ⟨0x2000, 1, 0x0046, 1, 1, 1, .num, false, .rw, [(0, 7)], [0]⟩,  -- CAN_TERM, spec/02
  ⟨0x2000, 1, 0x0050, 1, 2, 1, .num, false, .rws, [(2, 1000)], [10]⟩,  -- TRAV_PERIOD, spec/05
  ⟨0x2000, 1, 0x0051, 1, 4, 1, .num, false, .ro, [(0, 4294967295)], [0]⟩,  -- TRAV_PERIOD_EFF, spec/05
  ⟨0x2000, 1, 0x0052, 1, 1, 1, .num, false, .rw, [(1, 20)], [5]⟩,  -- RECESS, spec/05
  ⟨0x2000, 1, 0x0053, 1, 2, 1, .num, false, .rws, [(100, 10000)], [1000]⟩,  -- SLOW_PERIOD, spec/05
  ⟨0x2000, 1, 0x0054, 1, 4, 1, .num, false, .ro, [(0, 4294967295)], [0]⟩,  -- TRAV_NUMBER, spec/05
  ⟨0x2000, 1, 0x0055, 1, 4, 1, .num, false, .ro, [(0, 4294967295)], [0]⟩,  -- SLOW_NUMBER, spec/05
  ⟨0x2000, 1, 0x0056, 1, 2, 1, .num, false, .w1cField, [(0, 65535)], [0]⟩,  -- TRAV_STATUS, spec/05
  ⟨0x2000, 1, 0x0057, 1, 8, 1, .num, false, .ro, [(0, 18446744073709551615)], [0]⟩,  -- ALIGN_UTC, spec/05
  ⟨0x2000, 1, 0x0058, 1, 4, 1, .num, false, .ro, [(0, 4294967295)], [0]⟩,  -- ALIGN_NS, spec/05
  ⟨0x2000, 1, 0x0059, 1, 4, 1, .num, false, .ro, [(0, 4294967295)], [5242880]⟩,  -- TRAV_BUF_BASE, spec/05
  ⟨0x2000, 1, 0x005A, 1, 4, 1, .num, false, .ro, [(0, 4294967295)], [6422528]⟩,  -- SLOW_BUF_BASE, spec/05
  ⟨0x2000, 1, 0x005B, 1, 4, 1, .num, false, .ro, [(0, 4294967295)], [0]⟩,  -- OVERRUN_COUNT, spec/05
  ⟨0x2000, 1, 0x005C, 1, 4, 1, .num, false, .ro, [(0, 4294967295)], [0]⟩,  -- LAPPED_COUNT, spec/05
  ⟨0x2000, 1, 0x005D, 1, 4, 1, .num, false, .ro, [(0, 4294967295)], [0]⟩,  -- ALIGN_ERROR_COUNT, spec/05
  ⟨0x2000, 1, 0x005E, 1, 4, 1, .num, false, .ro, [(0, 4294967295)], [0]⟩,  -- SLOW_INCOMPLETE_COUNT, spec/05
  ⟨0x2000, 1, 0x0060, 1, 1, 1, .num, false, .rw, [(0, 2)], [0]⟩,  -- BAL_MODE, spec/06
  ⟨0x2000, 1, 0x0061, 1, 1, 1, .num, false, .rw, [(0, 1)], [0]⟩,  -- BAL_DOMAIN, spec/06
  ⟨0x2000, 1, 0x0062, 1, 2, 1, .num, false, .rw, [(10, 1000)], [50]⟩,  -- BAL_DEADBAND, spec/06
  ⟨0x2000, 1, 0x0063, 1, 2, 1, .num, true, .rw, [(0, 700)], [500]⟩,  -- BAL_TEMP_MAX, spec/06
  ⟨0x2000, 1, 0x0064, 1, 2, 1, .num, false, .rw, [(0, 65535)], [30000]⟩,  -- BAL_V_MIN, spec/06
  ⟨0x2000, 1, 0x0065, 1, 2, 1, .num, false, .rw, [(1, 3600)], [60]⟩,  -- BAL_DIRECT_HOLD, spec/06
  ⟨0x2000, 1, 0x0066, 1, 2, 1, .num, false, .rw, [(10, 3600)], [60]⟩,  -- OW_PERIOD, spec/06
  ⟨0x2000, 1, 0x0067, 1, 2, 1, .num, false, .rw, [(60, 3600)], [600]⟩,  -- OW_DEFER_MAX, spec/06
  ⟨0x2000, 1, 0x0070, 1, 1, 1, .num, false, .rw, [(0, 1)], [0]⟩,  -- BASE_CAMP_REQ, spec/06
  ⟨0x2000, 1, 0x0071, 1, 2, 1, .num, false, .rw, [(1, 3600)], [60]⟩,  -- BC_WAKE_PERIOD, spec/06
  ⟨0x2000, 1, 0x0072, 1, 2, 1, .num, false, .rw, [(0, 65535)], [42000]⟩,  -- BC_V_HIGH, spec/06
  ⟨0x2000, 1, 0x0073, 1, 2, 1, .num, false, .rw, [(0, 65535)], [25000]⟩,  -- BC_V_LOW, spec/06
  ⟨0x2000, 1, 0x0074, 1, 2, 1, .num, true, .rw, [(-32768, 32767)], [550]⟩,  -- BC_T_HIGH, spec/06
  ⟨0x2000, 1, 0x0075, 1, 1, 1, .num, false, .ro, [(0, 255)], [0]⟩,  -- WAKE_CAUSE, spec/06
  ⟨0x2000, 1, 0x0076, 1, 1, 1, .num, false, .rw, [(0, 255)], [1]⟩,  -- WAKE_OUT_CFG, spec/06
  ⟨0x2000, 1, 0x0080, 128, 4, 1, .num, false, .ro, [(0, 4294967295)], [0]⟩,  -- IRQ_COUNT, spec/01
  ⟨0x2000, 1, 0x0100, 1, 1, 1, .bool, false, .rw, [(0, 1)], [1]⟩,  -- CORR_ENABLE, spec/07
  ⟨0x2000, 1, 0x0101, 1, 4, 3, .num, false, .rw, [(1, 1000000)], [2500, 400, 100]⟩,  -- EXC_MIN, spec/07
  ⟨0x2000, 1, 0x0102, 1, 1, 1, .num, false, .rw, [(10, 95)], [50]⟩]  -- COH_MIN, spec/07

/-- Entries of the objects from 0x2000. -/
def entries2000b : List EntryRow := [
  ⟨0x2000, 1, 0x0103, 1, 2, 3, .num, false, .rw, [(60, 7200), (10, 600), (2, 120)], [600, 60, 10]⟩,  -- CORR_TAU, spec/07
  ⟨0x2000, 1, 0x0104, 1, 2, 1, .num, false, .ro, [(0, 65535)], [0]⟩,  -- CORR_BATCH_LEN, spec/07
  ⟨0x2000, 1, 0x0105, 1, 4, 3, .num, false, .ro, [(0, 4294967295)], [0]⟩,  -- BAND_FREF, spec/07
  ⟨0x2000, 1, 0x0106, 1, 2, 1, .num, false, .w1cField, [(0, 65535)], [0]⟩,  -- CORR_STATUS, spec/07
  ⟨0x2000, 1, 0x0107, 1, 4, 1, .num, false, .ro, [(0, 4294967295)], [0]⟩,  -- CORR_BATCH_NUMBER, spec/07
  ⟨0x2000, 1, 0x0108, 1, 4, 1, .num, false, .ro, [(0, 4294967295)], [0]⟩,  -- CORR_LOST_COUNT, spec/07
  ⟨0x2000, 1, 0x0109, 1, 4, 1, .num, false, .ro, [(0, 4294967295)], [0]⟩,  -- CORR_SAT_COUNT, spec/07
  ⟨0x2000, 1, 0x010A, 1, 4, 1, .num, false, .ro, [(0, 4294967295)], [6815744]⟩,  -- CORR_RESULT_BASE, spec/07
  ⟨0x2000, 1, 0x010B, 1, 2, 1, .num, false, .rw, [(1, 168)], [24]⟩,  -- SD_WINDOW, spec/07
  ⟨0x2000, 1, 0x010C, 1, 2, 1, .num, false, .rw, [(10, 10000)], [200]⟩,  -- ISC_SD_MIN, spec/07
  ⟨0x2000, 1, 0x010D, 1, 2, 1, .num, false, .rw, [(10, 10000)], [100]⟩,  -- ISC_SD_RISE, spec/07
  ⟨0x2000, 1, 0x010E, 1, 1, 1, .num, false, .rw, [(10, 250)], [50]⟩,  -- ISC_ZL_DROP, spec/07
  ⟨0x2000, 1, 0x0110, 1, 2, 1, .num, false, .w1cField, [(0, 65535)], [0]⟩,  -- EST_STATUS, spec/08
  ⟨0x2000, 1, 0x0111, 1, 1, 1, .num, false, .rw, [(1, 100)], [10]⟩,  -- SOC_SLEW, spec/08
  ⟨0x2000, 1, 0x0112, 1, 2, 1, .num, false, .rw, [(50, 2000)], [300]⟩,  -- ANCHOR_SIGMA_MAX, spec/08
  ⟨0x2000, 1, 0x0113, 1, 2, 1, .num, false, .rw, [(10, 3600)], [300]⟩,  -- ANCHOR_INTERVAL, spec/08
  ⟨0x2000, 1, 0x0114, 1, 1, 1, .num, false, .rw, [(1, 60)], [10]⟩,  -- ANCHOR_WINDOW, spec/08
  ⟨0x2000, 1, 0x0115, 1, 2, 1, .num, false, .rw, [(10, 10000)], [330]⟩,  -- BAL_R, spec/08
  ⟨0x2000, 1, 0x0116, 1, 1, 1, .num, false, .rw, [(1, 100)], [20]⟩,  -- CAP_GAIN, spec/08
  ⟨0x2000, 1, 0x0117, 1, 2, 1, .num, false, .rw, [(50, 2000)], [500]⟩,  -- CAP_SIGMA_MAX, spec/08
  ⟨0x2000, 1, 0x0118, 1, 2, 1, .num, false, .rw, [(1, 720)], [72]⟩,  -- CAP_SPAN_MAX, spec/08
  ⟨0x2000, 1, 0x0119, 1, 2, 2, .num, false, .rw, [(0, 5000)], [2000, 1000]⟩,  -- LIM_V_MARGIN, spec/08
  ⟨0x2000, 1, 0x011A, 1, 2, 1, .num, false, .rw, [(10, 7200)], [600]⟩,  -- LIM_Z_AGE_MAX, spec/08
  ⟨0x2000, 1, 0x011B, 1, 4, 1, .num, false, .rw, [(1000, 10000000)], [50000]⟩,  -- LIM_RISE, spec/08
  ⟨0x2000, 1, 0x011C, 1, 2, 1, .num, false, .ro, [(0, 65535)], [0]⟩,  -- BLOCK_SOC, spec/08
  ⟨0x2000, 1, 0x011D, 1, 2, 1, .num, false, .ro, [(0, 65535)], [0]⟩,  -- BLOCK_SOC_INT, spec/08
  ⟨0x2000, 1, 0x011E, 1, 2, 1, .num, false, .ro, [(0, 65535)], [0]⟩,  -- BLOCK_SOC_U, spec/08
  ⟨0x2000, 1, 0x011F, 1, 8, 1, .num, false, .ro, [(0, 18446744073709551615)], [0]⟩,  -- LEARN_WRITE_LAST, spec/08
  ⟨0x2000, 1, 0x0120, 1, 1, 1, .num, false, .rw, [(1, 1)], [0]⟩,  -- LEARN_WRITE_REQ, spec/08
  ⟨0x2000, 1, 0x0121, 1, 2, 1, .num, false, .rw, [(100, 5000)], [1000]⟩,  -- U_WARN, spec/08
  ⟨0x2000, 1, 0x0123, 1, 1, 1, .num, false, .rw, [(50, 100)], [90]⟩,  -- LIM_OC_FRACTION, spec/08
  ⟨0x2000, 1, 0x0130, 1, 8, 1, .num, false, .ro, [(0, 18446744073709551615)], [0]⟩,  -- COINCIDENT_MAP, spec/10
  ⟨0x2000, 1, 0x0131, 1, 4, 1, .num, false, .ro, [(0, 4294967295)], [0]⟩,  -- COINCIDENT_COUNT, spec/10
  ⟨0x2000, 1, 0x0132, 1, 8, 1, .num, false, .ro, [(0, 18446744073709551615)], [0]⟩,  -- GATE_RAIL_MAP, spec/10
  ⟨0x2000, 1, 0x0140, 1, 2, 1, .num, false, .w1cField, [(0, 65535)], [0]⟩,  -- BELAY_STATUS, spec/11
  ⟨0x2000, 1, 0x0141, 1, 4, 1, .num, false, .ro, [(0, 4294967295)], [0]⟩,  -- ENV_DIGEST, spec/11
  ⟨0x2000, 1, 0x0142, 1, 4, 1, .num, false, .ro, [(0, 4294967295)], [0]⟩,  -- ENV_MIRROR_DIGEST, spec/11
  ⟨0x2000, 1, 0x0143, 1, 4, 1, .num, false, .ro, [(0, 4294967295)], [0]⟩,  -- TAP_DISAGREE_COUNT, spec/11
  ⟨0x2000, 1, 0x0144, 1, 4, 1, .num, false, .ro, [(0, 4294967295)], [0]⟩,  -- REPORT_LOSS_COUNT, spec/11
  ⟨0x2000, 1, 0x0145, 1, 4, 1, .num, false, .ro, [(0, 4294967295)], [0]⟩,  -- MIRROR_MISMATCH_COUNT, spec/11
  ⟨0x2000, 1, 0x0146, 1, 4, 1, .num, false, .ro, [(0, 4294967295)], [0]⟩,  -- BELAY_ROM_ISSUE, spec/11
  ⟨0x2000, 1, 0x0147, 1, 4, 1, .num, false, .ro, [(0, 4294967295)], [0]⟩,  -- ENV_COMMIT_COUNT, spec/11
  ⟨0x2000, 1, 0x0150, 1, 1, 4, .num, false, .ro, [(0, 255)], [0]⟩,  -- TP_STATUS, spec/12
  ⟨0x2000, 1, 0x0151, 1, 2, 4, .num, false, .ro, [(0, 65535)], [0]⟩,  -- TP_CURRENT, spec/12
  ⟨0x2000, 1, 0x0152, 1, 1, 1, .num, false, .rw, [(0, 15)], [0]⟩,  -- TP_CLEAR, spec/12
  ⟨0x2000, 1, 0x0158, 1, 4, 16, .num, false, .rws, [(0, 4294967295)], [2231369728]⟩,  -- Q_CFG, spec/12
  ⟨0x2000, 1, 0x0159, 1, 2, 16, .num, false, .w1cField, [(0, 65535)], [0]⟩,  -- Q_STATUS, spec/12
  ⟨0x2000, 1, 0x015A, 1, 1, 1, .num, false, .xs, [(1, 16)], [0]⟩,  -- Q_ENERGISE, spec/12
  ⟨0x2000, 1, 0x015B, 1, 2, 1, .num, false, .rw, [(0, 65535)], [0]⟩,  -- Q_REQUEST, spec/12
  ⟨0x2000, 1, 0x015C, 1, 2, 1, .num, false, .rw, [(0, 65535)], [0]⟩,  -- Q_DROP, spec/12
  ⟨0x2000, 1, 0x015D, 1, 2, 1, .num, false, .rw, [(0, 65535)], [0]⟩,  -- Q_CLEAR, spec/12
  ⟨0x2000, 1, 0x015E, 1, 2, 16, .num, false, .ro, [(0, 65535)], [0]⟩,  -- Q_CURRENT, spec/12
  ⟨0x2000, 1, 0x015F, 1, 4, 16, .num, false, .ro, [(0, 4294967295)], [0]⟩,  -- Q_OPERATIONS, spec/12
  ⟨0x2000, 1, 0x0160, 1, 4, 16, .num, false, .ro, [(0, 4294967295)], [0]⟩,  -- Q_FAULT_COUNT, spec/12
  ⟨0x2000, 1, 0x0168, 1, 4, 8, .num, false, .rws, [(0, 4294967295)], [0]⟩,  -- SM_RX_ID, spec/12
  ⟨0x2000, 1, 0x0169, 1, 4, 8, .num, false, .rws, [(0, 4294967295)], [0]⟩,  -- SM_RX_CFG, spec/12
  ⟨0x2000, 1, 0x016A, 1, 2, 8, .num, false, .rws, [(5, 5000)], [100]⟩,  -- SM_RX_TIMEOUT, spec/12
  ⟨0x2000, 1, 0x016B, 1, 1, 1, .num, false, .rws, [(2, 100)], [10]⟩,  -- SM_WINDOW, spec/12
  ⟨0x2000, 1, 0x016C, 1, 2, 1, .num, false, .rws, [(0, 600)], [60]⟩,  -- SM_DEGRADED_TIME, spec/12
  ⟨0x2000, 1, 0x016D, 1, 2, 8, .num, false, .w1cField, [(0, 65535)], [0]⟩]  -- SM_STATUS, spec/12

/-- Entries of the objects from 0x2000. -/
def entries2000c : List EntryRow := [
  ⟨0x2000, 1, 0x016E, 1, 4, 32, .num, false, .ro, [(0, 4294967295)], [0]⟩,  -- SM_COUNTS, spec/12
  ⟨0x2000, 1, 0x0170, 1, 4, 1, .num, false, .rw, [(0, 4294967295)], [0]⟩,  -- SM_TX_ID, spec/12
  ⟨0x2000, 1, 0x0171, 1, 2, 1, .num, false, .ro, [(0, 65535)], [0]⟩,  -- SM_TX_SEQ, spec/12
  ⟨0x2000, 1, 0x0172, 1, 2, 1, .num, false, .rw, [(5, 1000)], [20]⟩]  -- SM_TX_PERIOD, spec/13

/-- Entries of the objects from 0x2101. -/
def entries2101 : List EntryRow := [
  ⟨0x2101, 4, 0x0001, 1, 1, 1, .num, false, .ro, [(0, 255)], [0]⟩,  -- BANK_STATE, spec/09
  ⟨0x2101, 4, 0x0002, 1, 1, 1, .num, false, .ro, [(0, 255)], [0]⟩,  -- BANK_FAULT_CAUSE, spec/09
  ⟨0x2101, 4, 0x0003, 1, 1, 1, .num, false, .xs, [(1, 40)], [0]⟩,  -- PRECHARGE, spec/09
  ⟨0x2101, 4, 0x0004, 1, 1, 1, .num, false, .rw, [(1, 1)], [0]⟩,  -- BANK_OPEN, spec/09
  ⟨0x2101, 4, 0x0005, 1, 1, 1, .num, false, .rw, [(1, 1)], [0]⟩,  -- FAULT_CLEAR, spec/09
  ⟨0x2101, 4, 0x0006, 1, 4, 1, .num, false, .ro, [(0, 4294967295)], [0]⟩,  -- V_LINK, spec/09
  ⟨0x2101, 4, 0x0010, 1, 4, 1, .num, false, .rws, [(50, 2000)], [400]⟩,  -- MATCH_WINDOW, spec/09
  ⟨0x2101, 4, 0x0011, 1, 4, 1, .num, false, .rws, [(100, 1000000)], [100]⟩,  -- LINK_CAP, spec/09
  ⟨0x2101, 4, 0x0012, 1, 4, 1, .num, false, .rws, [(10, 100000)], [10]⟩,  -- PC_L, spec/09
  ⟨0x2101, 4, 0x0013, 1, 2, 1, .num, false, .rws, [(10, 1000)], [200]⟩,  -- PC_IPK, spec/09
  ⟨0x2101, 4, 0x0014, 1, 2, 1, .num, false, .rw, [(200, 1800)], [1500]⟩,  -- PC_TIME_MAX, spec/09
  ⟨0x2101, 4, 0x0015, 1, 4, 1, .num, false, .rw, [(500, 12000)], [6000]⟩,  -- DARK_V, spec/09
  ⟨0x2101, 4, 0x0016, 1, 2, 1, .num, false, .rw, [(1, 600)], [10]⟩,  -- DISCH_TIME_MAX, spec/09
  ⟨0x2101, 4, 0x0017, 1, 1, 1, .num, false, .rw, [(0, 16)], [0]⟩,  -- LINK_OUTPUT, spec/09
  ⟨0x2101, 4, 0x0018, 1, 2, 1, .num, false, .w1cField, [(0, 65535)], [0]⟩,  -- BANK_CTRL_STATUS, spec/09
  ⟨0x2101, 4, 0x0019, 1, 1, 1, .num, false, .ro, [(0, 255)], [0]⟩,  -- PC_SOURCE, spec/09
  ⟨0x2101, 4, 0x001A, 1, 2, 1, .num, false, .ro, [(0, 65535)], [0]⟩,  -- PC_ELAPSED, spec/09
  ⟨0x2101, 4, 0x001B, 1, 8, 1, .num, false, .ro, [(0, 18446744073709551615)], [0]⟩,  -- CLOSED_MAP, spec/09
  ⟨0x2101, 4, 0x0020, 1, 8, 1, .num, false, .ro, [(0, 18446744073709551615)], [0]⟩,  -- MEMBER_MAP, spec/15
  ⟨0x2101, 4, 0x0021, 1, 1, 1, .num, false, .ro, [(0, 255)], [0]⟩,  -- MEMBER_COUNT, spec/15
  ⟨0x2101, 4, 0x0030, 1, 2, 1, .num, false, .ro, [(0, 65535)], [0]⟩,  -- BANK_SOC, spec/08
  ⟨0x2101, 4, 0x0031, 1, 2, 1, .num, false, .ro, [(0, 65535)], [0]⟩,  -- BANK_SOC_INT, spec/08
  ⟨0x2101, 4, 0x0032, 1, 2, 1, .num, false, .ro, [(0, 65535)], [0]⟩,  -- BANK_SOC_U, spec/08
  ⟨0x2101, 4, 0x0033, 1, 4, 1, .num, false, .ro, [(0, 4294967295)], [0]⟩,  -- BANK_Q_AVAIL, spec/08
  ⟨0x2101, 4, 0x0034, 1, 4, 1, .num, true, .ro, [(-2147483648, 2147483647)], [0]⟩,  -- LIM_DIS_SHORT, spec/08
  ⟨0x2101, 4, 0x0035, 1, 4, 1, .num, true, .ro, [(-2147483648, 2147483647)], [0]⟩,  -- LIM_DIS_LONG, spec/08
  ⟨0x2101, 4, 0x0036, 1, 4, 1, .num, true, .ro, [(-2147483648, 2147483647)], [0]⟩,  -- LIM_CHG_SHORT, spec/08
  ⟨0x2101, 4, 0x0037, 1, 4, 1, .num, true, .ro, [(-2147483648, 2147483647)], [0]⟩,  -- LIM_CHG_LONG, spec/08
  ⟨0x2101, 4, 0x0038, 1, 2, 1, .num, false, .ro, [(0, 65535)], [0]⟩,  -- LIM_SHARE_MAX, spec/08
  ⟨0x2101, 4, 0x0040, 1, 4, 3, .num, false, .rws, [(0, 4294967295)], [1002876044, 1002876044, 1002875916]⟩,  -- GATE_CFG, spec/10
  ⟨0x2101, 4, 0x0041, 1, 2, 3, .num, false, .w1cField, [(0, 65535)], [0]⟩,  -- GATE_STATUS, spec/10
  ⟨0x2101, 4, 0x0042, 1, 1, 3, .num, false, .ro, [(0, 255)], [0]⟩,  -- GATE_FAULT_CAUSE, spec/10
  ⟨0x2101, 4, 0x0043, 1, 1, 3, .num, false, .rw, [(0, 1)], [0]⟩,  -- GATE_SELFTEST, spec/10
  ⟨0x2101, 4, 0x0044, 1, 1, 1, .num, false, .rw, [(1, 1)], [0]⟩,  -- GATE_CLEAR, spec/10
  ⟨0x2101, 4, 0x0045, 1, 4, 1, .num, false, .ro, [(0, 4294967295)], [0]⟩,  -- HB_CONFLICT_COUNT, spec/10
  ⟨0x2101, 4, 0x0046, 1, 4, 9, .num, false, .ro, [(0, 4294967295)], [0]⟩,  -- GATE_FAULT_COUNT, spec/10
  ⟨0x2101, 4, 0x0047, 1, 4, 3, .num, false, .ro, [(0, 4294967295)], [0]⟩,  -- GATE_CYCLES, spec/10
  ⟨0x2101, 4, 0x0050, 1, 4, 6, .num, false, .rws, [(0, 4294967295)], [25493504]⟩,  -- IN_CFG, spec/12
  ⟨0x2101, 4, 0x0051, 1, 2, 6, .num, false, .w1cField, [(0, 65535)], [0]⟩,  -- IN_STATUS, spec/12
  ⟨0x2101, 4, 0x0052, 1, 2, 1, .num, false, .w1cField, [(0, 65535)], [0]⟩,  -- GROUP_STATUS, spec/12
  ⟨0x2101, 4, 0x0053, 1, 2, 6, .num, false, .ro, [(0, 65535)], [0]⟩,  -- DISC_COUNT, spec/12
  ⟨0x2101, 4, 0x0054, 1, 4, 12, .num, false, .ro, [(0, 4294967295)], [0]⟩]  -- IN_FAULT_COUNT, spec/12

/-- Entries of the objects from 0x2201. -/
def entries2201 : List EntryRow := [
  ⟨0x2201, 40, 0x0001, 1, 1, 1, .num, false, .ro, [(0, 255)], [0]⟩,  -- STRING_STATE, spec/09
  ⟨0x2201, 40, 0x0002, 1, 1, 1, .num, false, .ro, [(0, 255)], [0]⟩,  -- TRIP_CAUSE, spec/09
  ⟨0x2201, 40, 0x0003, 1, 1, 1, .num, false, .xs, [(1, 1)], [0]⟩,  -- CLOSE, spec/09
  ⟨0x2201, 40, 0x0004, 1, 1, 1, .num, false, .rw, [(1, 1)], [0]⟩,  -- OPEN, spec/09
  ⟨0x2201, 40, 0x0005, 1, 1, 1, .num, false, .rw, [(1, 1)], [0]⟩,  -- TRIP_CLEAR, spec/09
  ⟨0x2201, 40, 0x0006, 1, 1, 1, .num, false, .xs, [(1, 1)], [0]⟩,  -- UNLOCK, spec/09
  ⟨0x2201, 40, 0x0007, 1, 1, 1, .bool, false, .rw, [(0, 1)], [0]⟩,  -- INSTALLED, spec/09
  ⟨0x2201, 40, 0x0008, 1, 1, 1, .num, false, .rws, [(1, 4)], [1]⟩,  -- BANK, spec/09
  ⟨0x2201, 40, 0x0009, 1, 1, 1, .num, false, .rw, [(0, 1)], [0]⟩,  -- EXCLUDE, spec/09
  ⟨0x2201, 40, 0x000A, 1, 2, 1, .num, false, .ro, [(0, 65535)], [0]⟩,  -- HP_REMAIN, spec/09
  ⟨0x2201, 40, 0x000B, 1, 8, 1, .num, false, .ro, [(0, 18446744073709551615)], [0]⟩,  -- HP_COUNTER, spec/09
  ⟨0x2201, 40, 0x000C, 1, 2, 1, .num, false, .w1cField, [(0, 65535)], [0]⟩,  -- STRING_CTRL_STATUS, spec/09
  ⟨0x2201, 40, 0x000E, 1, 4, 1, .num, true, .ro, [(-2147483648, 2147483647)], [0]⟩,  -- MATCH_DV, spec/09
  ⟨0x2201, 40, 0x000F, 1, 1, 1, .num, false, .ro, [(0, 255)], [0]⟩,  -- LOCKOUT_CAUSE, spec/09
  ⟨0x2201, 40, 0x0010, 1, 1, 1, .num, false, .ro, [(0, 255)], [0]⟩,  -- ROPE_MODE, spec/04
  ⟨0x2201, 40, 0x0011, 1, 1, 1, .num, false, .rw, [(0, 4)], [1]⟩,  -- ROPE_MODE_REQ, spec/04
  ⟨0x2201, 40, 0x0012, 1, 1, 1, .num, false, .rw, [(0, 32)], [0]⟩,  -- MONITOR_COUNT, spec/04
  ⟨0x2201, 40, 0x0013, 1, 1, 1, .num, false, .rw, [(1, 1)], [0]⟩,  -- ROLL_CALL, spec/04
  ⟨0x2201, 40, 0x0014, 1, 4, 1, .num, false, .ro, [(0, 4294967295)], [0]⟩,  -- ROLL_CALL_RESULT, spec/04
  ⟨0x2201, 40, 0x0015, 1, 2, 1, .num, false, .ro, [(0, 65535)], [0]⟩,  -- HOP_DELAY_A, spec/04
  ⟨0x2201, 40, 0x0016, 1, 2, 1, .num, false, .ro, [(0, 65535)], [0]⟩,  -- HOP_DELAY_B, spec/04
  ⟨0x2201, 40, 0x0017, 1, 4, 33, .num, false, .ro, [(0, 4294967295)], [0]⟩,  -- RTT_A, spec/04
  ⟨0x2201, 40, 0x0018, 1, 4, 33, .num, false, .ro, [(0, 4294967295)], [0]⟩,  -- RTT_B, spec/04
  ⟨0x2201, 40, 0x0019, 1, 1, 1, .num, false, .rws, [(1, 10)], [3]⟩,  -- UNSEEN_LIMIT, spec/04
  ⟨0x2201, 40, 0x001A, 1, 2, 1, .num, false, .rw, [(5, 600)], [20]⟩,  -- COMM_LOSS_TIMEOUT, spec/04
  ⟨0x2201, 40, 0x001B, 1, 2, 1, .num, false, .w1cField, [(0, 65535)], [0]⟩,  -- ROPE_STATUS, spec/04
  ⟨0x2201, 40, 0x001C, 1, 8, 1, .num, false, .ro, [(0, 18446744073709551615)], [0]⟩,  -- UNSEEN_MAP, spec/04
  ⟨0x2201, 40, 0x001D, 1, 1, 1, .num, false, .ro, [(0, 255)], [0]⟩,  -- UNSEEN_MAX, spec/04
  ⟨0x2201, 40, 0x001E, 1, 1, 1, .num, false, .ro, [(0, 255)], [0]⟩,  -- BOUNDARY, spec/04
  ⟨0x2201, 40, 0x0020, 1, 1, 32, .num, false, .rw, [(0, 4)], [0]⟩,  -- FILTER_CORNER, spec/05
  ⟨0x2201, 40, 0x0021, 1, 1, 32, .num, false, .ro, [(0, 255)], [0]⟩,  -- FILTER_ACTIVE, spec/05
  ⟨0x2201, 40, 0x0022, 1, 2, 1, .num, false, .ro, [(0, 65535)], [0]⟩,  -- RECESS_EFF, spec/05
  ⟨0x2201, 40, 0x0023, 1, 8, 1, .num, false, .ro, [(0, 18446744073709551615)], [0]⟩,  -- SETTLING_MAP, spec/05
  ⟨0x2201, 40, 0x0024, 1, 1, 1, .bool, false, .ro, [(0, 1)], [0]⟩,  -- BAL_PERMIT, spec/05
  ⟨0x2201, 40, 0x0030, 5, 4, 33, .num, false, .ro, [(0, 4294967295)], [0]⟩,  -- LOST_BY_POS, DUP_BY_POS, DESYNC_BY_POS, CRC_BY_POS, TIMEOUT_BY_POS, spec/04
  ⟨0x2201, 40, 0x0040, 10, 4, 1, .num, false, .ro, [(0, 4294967295)], [0]⟩,  -- port A statistics, spec/04
  ⟨0x2201, 40, 0x0050, 10, 4, 1, .num, false, .ro, [(0, 4294967295)], [0]⟩,  -- port B statistics, spec/04
  ⟨0x2201, 40, 0x005F, 1, 1, 1, .num, false, .w1c, [(0, 1)], [0]⟩,  -- STATS_CLEAR, spec/04
  ⟨0x2201, 40, 0x0060, 1, 1, 1, .bool, false, .rw, [(0, 1)], [1]⟩,  -- BAL_ENABLE, spec/06
  ⟨0x2201, 40, 0x0061, 1, 2, 32, .num, false, .rw, [(0, 65535)], [0]⟩,  -- BAL_MASK_REQ, spec/06
  ⟨0x2201, 40, 0x0062, 1, 2, 32, .num, false, .ro, [(0, 65535)], [0]⟩,  -- BAL_MASK_ACTIVE, spec/06
  ⟨0x2201, 40, 0x0063, 1, 4, 512, .num, false, .ro, [(0, 4294967295)], [0]⟩,  -- BAL_ONTIME, spec/06
  ⟨0x2201, 40, 0x0064, 1, 2, 32, .num, false, .ro, [(0, 65535)], [0]⟩,  -- OW_MAP, spec/06
  ⟨0x2201, 40, 0x0070, 3, 4, 1024, .num, true, .ro, [(-2147483648, 2147483647)], [0]⟩,  -- Z_L, Z_M, Z_H, spec/07
  ⟨0x2201, 40, 0x0073, 1, 1, 1536, .num, false, .ro, [(0, 255)], [0]⟩,  -- Z_CONF, spec/07
  ⟨0x2201, 40, 0x0074, 1, 2, 1536, .num, false, .ro, [(0, 65535)], [65535]⟩,  -- Z_AGE, spec/07
  ⟨0x2201, 40, 0x0075, 1, 1, 1536, .num, false, .ro, [(0, 255)], [0]⟩,  -- Z_STATE, spec/07
  ⟨0x2201, 40, 0x0076, 1, 4, 3, .num, false, .ro, [(0, 4294967295)], [0]⟩,  -- EXC, spec/07
  ⟨0x2201, 40, 0x0078, 1, 4, 512, .num, true, .ro, [(-2147483648, 2147483647)], [0]⟩,  -- I_SD, spec/07
  ⟨0x2201, 40, 0x0079, 1, 1, 512, .num, false, .ro, [(0, 255)], [0]⟩,  -- ISC_LEVEL, spec/07
  ⟨0x2201, 40, 0x007A, 1, 2, 1, .num, false, .ro, [(0, 65535)], [0]⟩,  -- ISC_COUNT, spec/07
  ⟨0x2201, 40, 0x007B, 1, 8, 1, .num, false, .ro, [(0, 18446744073709551615)], [0]⟩,  -- Q_DIS, spec/07
  ⟨0x2201, 40, 0x007C, 1, 8, 1, .num, false, .ro, [(0, 18446744073709551615)], [0]⟩,  -- Q_CHG, spec/07
  ⟨0x2201, 40, 0x0080, 1, 1, 1, .num, false, .rws, [(1, 4)], [1]⟩,  -- PROFILE, spec/08
  ⟨0x2201, 40, 0x0081, 1, 4, 1, .num, false, .rw, [(0, 1000000)], [2000]⟩,  -- R_PATH, spec/08
  ⟨0x2201, 40, 0x0082, 1, 2, 1, .num, false, .ro, [(0, 65535)], [0]⟩,  -- STRING_SOC, spec/08
  ⟨0x2201, 40, 0x0083, 1, 2, 1, .num, false, .ro, [(0, 65535)], [0]⟩,  -- STRING_SOC_INT, spec/08
  ⟨0x2201, 40, 0x0084, 1, 2, 1, .num, false, .ro, [(0, 65535)], [0]⟩,  -- STRING_SOC_U, spec/08
  ⟨0x2201, 40, 0x0085, 1, 4, 1, .num, true, .ro, [(-2147483648, 2147483647)], [0]⟩,  -- LIM_DIS_SHORT, spec/08
  ⟨0x2201, 40, 0x0086, 1, 4, 1, .num, true, .ro, [(-2147483648, 2147483647)], [0]⟩]  -- LIM_DIS_LONG, spec/08

/-- Entries of the objects from 0x2201. -/
def entries2201b : List EntryRow := [
  ⟨0x2201, 40, 0x0087, 1, 4, 1, .num, true, .ro, [(-2147483648, 2147483647)], [0]⟩,  -- LIM_CHG_SHORT, spec/08
  ⟨0x2201, 40, 0x0088, 1, 4, 1, .num, true, .ro, [(-2147483648, 2147483647)], [0]⟩,  -- LIM_CHG_LONG, spec/08
  ⟨0x2201, 40, 0x0089, 1, 1, 1, .num, false, .ro, [(0, 255)], [0]⟩,  -- LIM_SOURCE, spec/08
  ⟨0x2201, 40, 0x008A, 1, 4, 1, .num, false, .ro, [(0, 4294967295)], [0]⟩,  -- REST_STATE, spec/08
  ⟨0x2201, 40, 0x008B, 1, 2, 512, .num, false, .ro, [(0, 65535)], [0]⟩,  -- SOC_CELL, spec/08
  ⟨0x2201, 40, 0x008C, 1, 2, 512, .num, false, .ro, [(0, 65535)], [0]⟩,  -- SOC_U_CELL, spec/08
  ⟨0x2201, 40, 0x008D, 1, 4, 512, .num, false, .ro, [(0, 4294967295)], [0]⟩,  -- CAP_LEARNED, spec/08
  ⟨0x2201, 40, 0x008E, 1, 4, 512, .num, true, .ro, [(-2147483648, 2147483647)], [0]⟩,  -- R_LEARNED, spec/08
  ⟨0x2201, 40, 0x008F, 1, 2, 512, .num, false, .ro, [(0, 65535)], [0]⟩,  -- OCV_EST, spec/08
  ⟨0x2201, 40, 0x0090, 1, 4, 512, .num, false, .ro, [(0, 4294967295)], [4294967295]⟩,  -- ANCHOR_AGE, spec/08
  ⟨0x2201, 40, 0x0091, 1, 2, 512, .num, false, .ro, [(0, 65535)], [0]⟩,  -- CAP_LEARN_COUNT, spec/08
  ⟨0x2201, 40, 0x0092, 1, 4, 1, .num, false, .ro, [(0, 4294967295)], [0]⟩,  -- STRING_Q_AVAIL, spec/08
  ⟨0x2201, 40, 0x0098, 1, 4, 512, .num, false, .ro, [(0, 4294967295)], [0]⟩,  -- RC_THROUGHPUT, spec/08
  ⟨0x2201, 40, 0x0099, 1, 4, 512, .num, false, .ro, [(0, 4294967295)], [0]⟩,  -- RC_CAP_FIRST, spec/08
  ⟨0x2201, 40, 0x009A, 1, 2, 512, .num, false, .ro, [(0, 65535)], [0]⟩,  -- RC_V_MAX, spec/08
  ⟨0x2201, 40, 0x009B, 1, 2, 512, .num, false, .ro, [(0, 65535)], [0]⟩,  -- RC_V_MIN, spec/08
  ⟨0x2201, 40, 0x009C, 1, 2, 512, .num, true, .ro, [(-32768, 32767)], [0]⟩,  -- RC_T_MAX, spec/08
  ⟨0x2201, 40, 0x009D, 1, 4, 512, .num, false, .ro, [(0, 4294967295)], [0]⟩,  -- RC_HOT_TIME, spec/08
  ⟨0x2201, 40, 0x009E, 1, 1, 512, .num, false, .ro, [(0, 255)], [0]⟩,  -- RC_ISC_MAX, spec/08
  ⟨0x2201, 40, 0x00B0, 1, 4, 1, .num, false, .rws, [(0, 4294967295)], [1002875916]⟩,  -- GATE_CFG, spec/10
  ⟨0x2201, 40, 0x00B1, 1, 2, 1, .num, false, .w1cField, [(0, 65535)], [0]⟩,  -- GATE_STATUS, spec/10
  ⟨0x2201, 40, 0x00B2, 1, 1, 1, .num, false, .ro, [(0, 255)], [0]⟩,  -- GATE_FAULT_CAUSE, spec/10
  ⟨0x2201, 40, 0x00B3, 1, 1, 1, .num, false, .rw, [(1, 1)], [0]⟩,  -- GATE_SELFTEST, spec/10
  ⟨0x2201, 40, 0x00B4, 1, 4, 3, .num, false, .ro, [(0, 4294967295)], [0]⟩,  -- GATE_FAULT_COUNT, spec/10
  ⟨0x2201, 40, 0x00B5, 1, 4, 1, .num, false, .ro, [(0, 4294967295)], [0]⟩,  -- GATE_CYCLES, spec/10
  ⟨0x2201, 40, 0x00C0, 1, 2, 1, .num, false, .w1cField, [(0, 65535)], [0]⟩,  -- BELAY_STRING_STATUS, spec/11
  ⟨0x2201, 40, 0x00C1, 1, 1, 1, .num, false, .ro, [(0, 255)], [0]⟩,  -- BELAY_N, spec/11
  ⟨0x2201, 40, 0x00C2, 1, 2, 1, .num, false, .ro, [(0, 65535)], [0]⟩,  -- BEL_V_MAX, spec/11
  ⟨0x2201, 40, 0x00C3, 1, 2, 1, .num, false, .ro, [(0, 65535)], [0]⟩,  -- BEL_V_MIN, spec/11
  ⟨0x2201, 40, 0x00C4, 1, 2, 1, .num, false, .ro, [(0, 65535)], [65535]⟩,  -- TRIP_ELEMENT, spec/11
  ⟨0x2201, 40, 0x00C5, 1, 4, 1, .num, true, .ro, [(-2147483648, 2147483647)], [0]⟩,  -- TRIP_VALUE, spec/11
  ⟨0x2201, 40, 0x0100, 1, 4, 1, .num, false, .ro, [(0, 4294967295)], [0]⟩,  -- CELL_TRAV, spec/15
  ⟨0x2201, 40, 0x0101, 1, 2, 512, .num, false, .ro, [(0, 65535)], [0]⟩,  -- CELL_V, spec/15
  ⟨0x2201, 40, 0x0102, 1, 1, 33, .num, false, .ro, [(0, 255)], [0]⟩,  -- POS_FLAGS, spec/15
  ⟨0x2201, 40, 0x0103, 1, 1, 32, .blob, false, .ro, [(0, 255)], [0]⟩,  -- STRING_MEAS, spec/15
  ⟨0x2201, 40, 0x0104, 1, 1, 1094, .blob, false, .ro, [(0, 255)], [0]⟩,  -- STRING_SNAPSHOT, spec/15
  ⟨0x2201, 40, 0x0105, 1, 4, 1, .num, false, .ro, [(0, 4294967295)], [0]⟩,  -- SLOW_TRAV, spec/15
  ⟨0x2201, 40, 0x0106, 1, 2, 1024, .num, true, .ro, [(-32768, 32767)], [0]⟩,  -- CELL_T_RAW, spec/15
  ⟨0x2201, 40, 0x0107, 1, 2, 512, .num, true, .ro, [(-32768, 32767)], [0]⟩,  -- CELL_T, spec/15
  ⟨0x2201, 40, 0x0108, 1, 2, 512, .num, false, .ro, [(0, 65535)], [0]⟩,  -- MON_HK, spec/15
  ⟨0x2201, 40, 0x0109, 1, 1, 32, .num, false, .ro, [(0, 255)], [0]⟩,  -- SLOW_FLAGS, spec/15
  ⟨0x2201, 40, 0x010A, 1, 1, 512, .num, false, .ro, [(0, 255)], [0]⟩]  -- CELL_V_UNSEEN, spec/15

/-- Entries of the objects from 0x2301. -/
def entries2301 : List EntryRow := [
  ⟨0x2301, 4, 0x0001, 1, 1, 16, .str, false, .rw, [(0, 255)], [0]⟩,  -- PROFILE_NAME, spec/08
  ⟨0x2301, 4, 0x0002, 1, 4, 1, .num, false, .rws, [(1000, 10000000)], [100000]⟩,  -- CAP_NOM, spec/08
  ⟨0x2301, 4, 0x0003, 1, 2, 168, .num, false, .rws, [(0, 65535)], [0]⟩,  -- OCV_TABLE, spec/08
  ⟨0x2301, 4, 0x0004, 1, 2, 64, .num, false, .rws, [(100, 1200)], [1000]⟩,  -- DERATE_TABLE, spec/08
  ⟨0x2301, 4, 0x0005, 1, 2, 88, .num, false, .rws, [(0, 1000)], [0]⟩,  -- RATE_MAX_DIS, spec/08
  ⟨0x2301, 4, 0x0006, 1, 2, 88, .num, false, .rws, [(0, 1000)], [0]⟩,  -- RATE_MAX_CHG, spec/08
  ⟨0x2301, 4, 0x0007, 1, 2, 1, .num, false, .rws, [(1, 5000)], [50]⟩,  -- DRIFT, spec/08
  ⟨0x2301, 4, 0x0008, 1, 2, 1, .num, false, .rws, [(0, 1000)], [50]⟩,  -- OCV_HYST, spec/08
  ⟨0x2301, 4, 0x0009, 1, 2, 1, .num, false, .rws, [(1, 200)], [10]⟩,  -- V_SIGMA, spec/08
  ⟨0x2301, 4, 0x000A, 1, 2, 1, .num, false, .rws, [(100, 500)], [130]⟩,  -- R_DC_FACTOR, spec/08
  ⟨0x2301, 4, 0x000B, 1, 1, 1, .num, false, .rws, [(1, 100)], [10]⟩,  -- R_REL_SIGMA, spec/08
  ⟨0x2301, 4, 0x000C, 1, 2, 1, .num, false, .rws, [(100, 1000)], [120]⟩,  -- LIM_K_SHORT, spec/08
  ⟨0x2301, 4, 0x000D, 1, 2, 1, .num, false, .rws, [(100, 1000)], [250]⟩,  -- LIM_K_LONG, spec/08
  ⟨0x2301, 4, 0x000E, 1, 2, 1, .num, false, .rws, [(9000, 10000)], [9990]⟩,  -- ETA_CHG, spec/08
  ⟨0x2301, 4, 0x000F, 1, 2, 1, .num, false, .rws, [(10, 500)], [50]⟩]  -- U_FLOOR, spec/08

/-- Entries of the objects from 0x2401. -/
def entries2401 : List EntryRow := [
  ⟨0x2401, 4, 0x0001, 1, 1, 1, .num, false, .rws, [(1, 5)], [0]⟩,  -- ENV_CLASS, spec/11
  ⟨0x2401, 4, 0x0002, 1, 2, 1, .num, false, .rws, [(0, 65535)], [0]⟩,  -- CELL_OV, spec/11
  ⟨0x2401, 4, 0x0003, 1, 2, 1, .num, false, .rws, [(0, 65535)], [0]⟩,  -- CELL_UV, spec/11
  ⟨0x2401, 4, 0x0004, 1, 1, 1, .num, false, .rws, [(1, 4)], [2]⟩,  -- K_V, spec/11
  ⟨0x2401, 4, 0x0005, 1, 2, 1, .num, true, .rws, [(-32768, 32767)], [0]⟩,  -- CELL_OT, spec/11
  ⟨0x2401, 4, 0x0006, 1, 2, 1, .num, true, .rws, [(-32768, 32767)], [0]⟩,  -- CELL_UT, spec/11
  ⟨0x2401, 4, 0x0007, 1, 1, 1, .num, false, .rws, [(1, 4)], [2]⟩,  -- K_T, spec/11
  ⟨0x2401, 4, 0x0008, 1, 2, 1, .num, false, .rws, [(5, 100)], [0]⟩,  -- RISE_RATE, spec/11
  ⟨0x2401, 4, 0x0009, 1, 2, 1, .num, false, .rws, [(20, 600)], [60]⟩,  -- RISE_WINDOW, spec/11
  ⟨0x2401, 4, 0x000A, 1, 1, 1, .num, false, .rws, [(1, 4)], [2]⟩,  -- K_R, spec/11
  ⟨0x2401, 4, 0x000B, 1, 4, 1, .num, false, .rws, [(0, 4294967295)], [0]⟩,  -- OC_DIS, spec/11
  ⟨0x2401, 4, 0x000C, 1, 4, 1, .num, false, .rws, [(0, 4294967295)], [0]⟩,  -- OC_CHG, spec/11
  ⟨0x2401, 4, 0x000D, 1, 1, 1, .num, false, .rws, [(1, 4)], [1]⟩,  -- K_I, spec/11
  ⟨0x2401, 4, 0x0010, 1, 1, 1, .num, false, .ro, [(0, 255)], [0]⟩,  -- ENV_STATE, spec/11
  ⟨0x2401, 4, 0x0011, 1, 4, 24, .num, true, .ro, [(-2147483648, 2147483647)], [0]⟩]  -- ENV_BOUNDS, spec/11

/-- The entry rows of the object family that an index belongs to. -/
def rowsOf (index : Nat) : List EntryRow :=
  if index = 0x1000 then entries1000
  else if 0x1800 ≤ index ∧ index < 0x1803 then entries1800
  else if 0x1810 ≤ index ∧ index < 0x1813 then entries1810
  else if 0x1820 ≤ index ∧ index < 0x1823 then entries1820
  else if 0x1830 ≤ index ∧ index < 0x1833 then entries1830
  else if 0x1840 ≤ index ∧ index < 0x1843 then entries1840
  else if index = 0x1A00 then entries1A00
  else if 0x1A01 ≤ index ∧ index < 0x1A03 then entries1A01
  else if index = 0x1B00 then entries1B00
  else if index = 0x1C00 then entries1C00
  else if index = 0x1C01 then entries1C01
  else if index = 0x1D00 then entries1D00
  else if index = 0x1E00 then entries1E00
  else if index = 0x1E01 then entries1E01
  else if index = 0x2000 then entries2000 ++ entries2000b ++ entries2000c
  else if 0x2101 ≤ index ∧ index < 0x2105 then entries2101
  else if 0x2201 ≤ index ∧ index < 0x2229 then entries2201 ++ entries2201b
  else if 0x2301 ≤ index ∧ index < 0x2305 then entries2301
  else if 0x2401 ≤ index ∧ index < 0x2405 then entries2401
  else []

/-- Number of records of the capability list (15 R421, Table 15-12), at consecutive sub-indices from 0. -/
def capCount : Nat := 26

/-- Highest sub-index defined in an object, `MAX_SUB` (15 R409); `RATE_LIMIT` ends with the highest event code. -/
def maxSub (index : Nat) : Nat :=
  if index = 0x1C00 then 0xE020 else ((rowsOf index).map fun r => r.sub + r.subs - 1).foldl max 0

/-- The row of an entry, if the manual defines it (15 R408); `MAX_SUB` stands at sub-index 0 of every object but OD 1F00, whose
records are BLOBs of up to 256 bytes (15 R409, R419); `RATE_LIMIT` exists for the defined codes and is read only for the write
records (17 R459, 14 R404). -/
def entryOf (index sub : Nat) : Option EntryRow :=
  if index = 0x1F00 then (if sub < capCount then some ⟨0x1F00, 1, sub, 1, 1, 256, .blob, false, .ro, [(0, 255)], [0]⟩ else none)
  else if sub = 0 then
    (if rowsOf index = [] then none else some ⟨index, 1, 0, 1, 2, 1, .num, false, .ro, [(0, 65535)], [maxSub index]⟩)
  else
    match (rowsOf index).find? fun r => decide (r.sub ≤ sub ∧ sub < r.sub + r.subs) with
    | some r =>
      if index = 0x1C00 ∧ 0x1001 ≤ sub then
        (if codeDefined sub then some (if writeCodes.contains sub then { r with access := .ro } else r) else none)
      else some r
    | none => none

/-- Key of an element of an entry in the value store. -/
def dkey (index sub element : Nat) : Nat := index * 2 ^ 32 + sub * 2 ^ 16 + element

/-- The default of element `k` of a row. -/
def EntryRow.default (r : EntryRow) (k : Nat) : Nat := r.dflt.getD k (r.dflt.getLastD 0)

/-- The default of an element of an entry. The `BANK` of string s (OD 22ss.0008) puts ten strings into each
bank in order, the default of Table 0-1 (00 R1; which ten is DEDUCED, log 159). -/
def defaultOf (index sub element : Nat) : Nat :=
  if 0x2201 ≤ index ∧ index ≤ 0x2228 ∧ sub = 0x0008 then (index - 0x2201) / 10 + 1 else
  match entryOf index sub with
  | some r => r.default element
  | none => 0

/-- The range of element `k` of a row. -/
def EntryRow.rangeOf (r : EntryRow) (k : Nat) : Int × Int := r.range.getD k (r.range.getLastD (0, 0))

/-- The value in force of an element of an RW or RWS entry outside the belay store. -/
def State.val (s : State) (index sub : Nat) (element : Nat := 0) : Nat :=
  match Sparse.get? s.dict.vals (dkey index sub element) with
  | some v => v
  | none => defaultOf index sub element

/-- Sets an element of an RW or RWS entry. -/
def State.setVal (s : State) (index sub element v : Nat) : State :=
  { s with dict := { s.dict with vals := Sparse.put s.dict.vals (dkey index sub element) v } }

/-- The committed value of a belay record, if any (11 R304, 12 R318). -/
def State.committed (s : State) (index sub : Nat) (element : Nat := 0) : Option Nat :=
  Sparse.get? s.belay.store (dkey index sub element)

/-- The value of a belay record: the committed one, or the entry's default. -/
def State.bval (s : State) (index sub : Nat) (element : Nat := 0) : Nat :=
  (s.committed index sub element).getD (defaultOf index sub element)

end Sys2Proof.Machine
end

