-- ==== Sys2Proof/Machine/Flags.lean ====
section
/-!
DEFINITION. The check codes of the spec: CRC-16 of the Basholt link (04 R108) and CRC-32C (11 R310).
-/

namespace Sys2Proof.Machine

/-- One bit of the CRC-16 with polynomial 0x755B, high bit first (04 R108). -/
def crc16Bit (crc : Nat) (bit : Bool) : Nat :=
  let top := crc.testBit 15
  let sh := (crc * 2) % 0x10000
  if top != bit then sh ^^^ 0x755B else sh

/-- One byte of the CRC-16, high bit first. -/
def crc16Byte (crc : Nat) (b : Byte) : Nat :=
  [7, 6, 5, 4, 3, 2, 1, 0].foldl (fun c k => crc16Bit c (b.toNat.testBit k)) crc

/-- CRC-16 of R108: polynomial 0x755B, initial value 0xFFFF, high bit first, no final inversion. -/
def crc16 (bs : List Byte) : Nat := bs.foldl crc16Byte 0xFFFF

/-- One bit step of the reflected CRC-32C (polynomial 0x1EDC6F41, reflected 0x82F63B78). -/
def crc32cBit (crc : Nat) : Nat := if crc.testBit 0 then (crc >>> 1) ^^^ 0x82F63B78 else crc >>> 1

/-- One byte of the CRC-32C. -/
def crc32cByte (crc : Nat) (b : Byte) : Nat :=
  [0, 1, 2, 3, 4, 5, 6, 7].foldl (fun c _ => crc32cBit c) (crc ^^^ b.toNat)

/-- CRC-32C (Castagnoli): reflected, initial value 0xFFFF_FFFF, final XOR 0xFFFF_FFFF (11 R310). -/
def crc32c (bs : List Byte) : Nat := (bs.foldl crc32cByte 0xFFFFFFFF) ^^^ 0xFFFFFFFF

end Sys2Proof.Machine
end

