-- ==== Sys2Proof/Machine/Ops.lean ====
section
/-!
DEFINITION. Operations every family shares: the outcome of a command, time, interrupts (01 R38 to R40), the recorder
(17 R440 to R449), window counters (18 R463 to R466), the block state (20 R500) and the indices of objects and channels.
-/

namespace Sys2Proof.Machine

/-- The outcome of a command. -/
abbrev Out := Host.Outcome State Fault Refusal

/-- A command whose condition does not hold in the present state has no effect (log 2). -/
def when_ (c : Bool) (s t : State) : Out := .next (if c then t else s)

/-! ## Indices -/

/-- Object index of string index `i` (string number i + 1). -/
def strObj (i : Fin 40) : Nat := 0x2201 + i.val
/-- Object index of bank index `b` (bank number b + 1). -/
def bankObj (b : Fin 4) : Nat := 0x2101 + b.val
def blockObj : Nat := 0x2000

/-- Gate channel of a string switch, of the half-bridge and of the clamp of a bank (10 Table 10-11). -/
def chS (i : Fin 40) : Fin 52 := ⟨i.val, by omega⟩
def chH (b : Fin 4) : Fin 52 := ⟨40 + 2 * b.val, by omega⟩
def chL (b : Fin 4) : Fin 52 := ⟨41 + 2 * b.val, by omega⟩
def chD (b : Fin 4) : Fin 52 := ⟨48 + b.val, by omega⟩

/-- The owner of a channel (10 Table 10-1). -/
inductive Owner where
  | string (i : Fin 40)
  | high (b : Fin 4)
  | low (b : Fin 4)
  | clamp (b : Fin 4)
  deriving DecidableEq, Repr

def ownerOf (c : Fin 52) : Owner :=
  if h : c.val < 40 then .string ⟨c.val, h⟩
  else if h : c.val < 48 then
    (if c.val % 2 = 0 then .high ⟨(c.val - 40) / 2, by omega⟩ else .low ⟨(c.val - 40) / 2, by omega⟩)
  else .clamp ⟨c.val - 48, by omega⟩

/-- Object index of a channel's owner. -/
def Owner.obj : Owner → Nat
  | .string i => strObj i
  | .high b => bankObj b
  | .low b => bankObj b
  | .clamp b => bankObj b

/-- The bank index of a string: its committed `BANK` record (09 R262, 11 R304). -/
def State.bankOf (s : State) (i : Fin 40) : Fin 4 := Fin.ofNat 4 (s.bval (strObj i) 0x0008 - 1)

/-- All string, bank, channel and output indices, ascending. -/
def allStr : List (Fin 40) := List.finRange 40
def allBank : List (Fin 4) := List.finRange 4
def allQ : List (Fin 16) := List.finRange 16

/-- The strings of a bank, ascending. -/
def State.stringsOf (s : State) (b : Fin 4) : List (Fin 40) := allStr.filter fun i => s.bankOf i = b

/-! ## Time -/

/-- What is still to be slewed, us (19 R492): a slew runs at 1 ms/s. -/
def State.slewLeft (s : State) : Nat := s.clock.slew.natAbs - (s.now - s.clock.slewAt) / ms 1

/-- Calendar time in ns (19 R491, R492): the tick count with its offset, its rate correction in ppb and the slew done so far. While
`utcAt` lies ahead the calendar holds (19 R493). -/
def State.utcNs (s : State) : Int :=
  let done : Int := ((s.clock.slew.natAbs - s.slewLeft) * 1000 : Nat)
  (s.utcBase * 1000000 : Nat) + ((s.now - s.utcAt : Nat) : Int) * (1000000000 + s.clock.rate) / 1000000000 +
    (if s.clock.slew < 0 then -done else done)

/-- Calendar time in us. -/
def State.utcUs (s : State) : Int := s.utcNs / 1000

/-- SYS ticks of 10 ns since the start (05 R162). -/
def State.sysTicks (s : State) : Nat := (s.now - s.start.began) / 10

/-- Calendar time in ms (17 R442). -/
def State.utc (s : State) : Nat := (s.utcUs / 1000).toNat

/-- `TQ_UNC` of an uncertainty in us (19 Table 19-3). -/
def uncCode (u : Nat) : Nat := ((List.range 15).find? fun k => decide (u ≤ 2 ^ k)).getD 15

/-- Uncertainty of the calendar in us; none where it is unknown (19 Table 19-4, R492). -/
def State.uncertainty (s : State) : Option Nat :=
  let c := s.clock
  let own := match c.source with
    | 0 => some ((c.offsets.map fun (o : Int) => (o.natAbs + 999) / 1000).foldl max 0 + 1)
    | 1 => (match c.canRef with
      | some (q, _, _) => if q % 16 = 15 then none else some (2 ^ (q % 16) + 1000)
      | none => none)
    | _ => if c.uncUnknown then none else some (c.unc + 50 * ((s.now - c.uncAt) / sec 1))
  own.map (· + s.slewLeft)

/-- The time-quality byte (19 R490, Table 19-3). -/
def State.tq (s : State) : Nat :=
  let state := if s.clock.source = 2 then (if s.clock.set_ then 1 else 0) else 2
  state * 64 + s.clock.source % 4 * 16 + (match s.uncertainty with | some u => uncCode u | none => 15)

/-- Firmware runs and is not inside a processor restart (03 R91, 14 R378). -/
def State.fwUp (s : State) : Bool := s.start.fw = .running ∧ s.start.resumeAt ≤ s.now

/-- Firmware runs and acts: no core swap is in progress (18 R471, 20 R507). -/
def State.fwActs (s : State) : Bool := s.fwUp && !s.cores.swapping

/-! ## Interrupts -/

/-- Reserved sources are never raised (01 R38, Table 1-8). -/
def irqReserved (n : Nat) : Bool :=
  [21, 22, 23, 67, 106, 107, 118, 119, 124, 125, 126, 127].contains n || decide (128 ≤ n)

/-- Raises interrupt `n`: its counter stops at 0xFFFF_FFFF (01 R40); while SWAPPING it stays pending (01 R39). -/
def State.irqRaise (s : State) (n : Nat) : State :=
  if irqReserved n then s
  else if h : n < 128 then
    { s with irq := { counts := upd s.irq.counts ⟨n, h⟩ sat32,
                      held := if s.cores.swapping then s.irq.held ++ [n] else s.irq.held } }
  else s

/-! ## The recorder -/

def ringSize : Nat := 8388608
def stagingSize : Nat := 2048
/-- One token in units of a bucket's credit. -/
def token : Nat := 100000000000

/-- BURST and RATE of a code (17 R446; fixed for the write records, 14 R404). -/
def State.rateOf (s : State) (code : Nat) : Nat × Nat :=
  if writeCodes.contains code then (255, 10000)
  else let w := s.val 0x1C00 code; (bits w 27 20, bits w 13 0)

/-- The bucket of a code brought up to now: full when it was never used. -/
def State.bucket (s : State) (code : Nat) : Bucket :=
  let br := s.rateOf code
  match Sparse.get? s.evlog.buckets code with
  | none => { credit := br.1 * token, since := s.now, count := 0, firstTime := 0, firstItem := 0, lastTime := 0, lastItem := 0, lastSource := 0 }
  | some b => { b with credit := min (br.1 * token) (b.credit + br.2 * (s.now - b.since)), since := s.now }

def State.setBucket (s : State) (code : Nat) (b : Bucket) : State :=
  { s with evlog := { s.evlog with buckets := Sparse.put s.evlog.buckets code b } }

/-- Tokens a code has (14 R404, 17 R446). -/
def State.tokens (s : State) (code : Nat) : Nat := (s.bucket code).credit / token

/-- Sequence number `a` is `b` or comes before it: they compare modulo 2^32 (17 R441). -/
def seqLe (a b : Nat) : Bool := decide ((b + 0x100000000 - a % 0x100000000) % 0x100000000 < 0x80000000)

/-- The later of two sequence numbers. -/
def seqMax (a b : Nat) : Nat := if seqLe a b then b else a

/-- Numbers from `a` up to `b`; none when `b` comes before `a`. -/
def seqGap (a b : Nat) : Nat := if seqLe a b then (b + 0x100000000 - a % 0x100000000) % 0x100000000 else 0

/-- Newest SEQ held, REC_NEWEST (17 R441). -/
def State.recNewest (s : State) : Nat := (s.evlog.next + 0xFFFFFFFF) % 0x100000000

/-- Every record held, flash first, none below REC_OLDEST. -/
def State.records (s : State) : List EventRecord := s.evlog.ring ++ s.evlog.staged

/-- Fill of the ring in records since the archive mark (17 R449). -/
def State.recFill (s : State) : Nat := seqGap (seqMax (s.val 0x1C00 0x0005) s.evlog.oldest) s.evlog.next

/-- Whether fill has reached REC_FILL_THRESHOLD (17 R449). -/
def State.fillReached (s : State) : Bool := decide (s.val 0x1C00 0x0006 * ringSize ≤ s.recFill * 100)

/-- Writes the staged records to the ring, which overwrites its oldest when full (17 R445, R449): IRQ 100 (01 Table 1-8, log 129). -/
def State.flushRecords (s : State) : State :=
  if s.evlog.stopped || s.evlog.staged.isEmpty then s
  else
    let s := s.irqRaise 100
    let all := s.evlog.ring ++ s.evlog.staged
    let low := seqMax s.evlog.oldest ((s.evlog.next + 0x100000000 - ringSize) % 0x100000000)
    { s with evlog := { s.evlog with ring := all.filter (fun r => seqLe low r.seq), staged := [], oldest := low,
                                     flashWriting := false, stagingFull := false } }

/-- Occurrences of one SYS tick are taken in ascending code, then ascending number (17 R444). -/
def EventRecord.precedes (a b : EventRecord) : Bool := decide (a.code < b.code) || (a.code = b.code && decide (a.item < b.item))

/-- Puts a record among those of its tick; the last one takes the next sequence number, those ahead the ones before it (17 R441, R444). -/
def placeRecord (next : Nat) (tail : List EventRecord) (r : EventRecord) : List EventRecord :=
  let ahead := tail.takeWhile fun x => !r.precedes x
  (ahead ++ r :: tail.drop ahead.length).zipIdx.map fun p =>
    { p.1 with seq := if p.2 = tail.length then next else (next + 0x100000000 + p.2 - tail.length) % 0x100000000 }

/-- Stages one accepted record in the order of R444 under its sequence number, or counts it lost when staging is full (17 R441, R445).
`later`: it reaches the recorder after the tick. -/
def State.stage (s : State) (code source item : Nat) (data : List Byte) (later : Bool := false) : State :=
  if s.evlog.staged.length < stagingSize then
    let r : EventRecord := { time := s.utc, code := code, level := eventLevel code, source := source, item := item, tq := s.tq,
                             seq := s.evlog.next, data := data.take 40 }
    let k := if s.evlog.tickAt = s.sysTicks && !later then min s.evlog.tickRecs s.evlog.staged.length else 0
    let front := s.evlog.staged.take (s.evlog.staged.length - k)
    let tail := s.evlog.staged.drop (s.evlog.staged.length - k)
    { s with evlog := { s.evlog with
      staged := front ++ placeRecord s.evlog.next tail r, next := (s.evlog.next + 1) % 0x100000000,
      tickAt := s.sysTicks, tickRecs := if later then 0 else k + 1 } }
  else { s with evlog := { s.evlog with lost := sat32 s.evlog.lost, stagingFull := true, seen := s.evlog.seen ||| 8 } }

/-- The summary record of a code's suppressed occurrences (17 R447); it takes no token. -/
def State.summary (s : State) (code : Nat) : State :=
  let b := s.bucket code
  if b.count = 0 then s
  else
    let t := s.stage 0xC021 b.lastSource b.lastItem (u16 code ++ u32 b.count ++ u64 b.firstTime ++ u64 b.lastTime)
    t.setBucket code { b with count := 0 }

/-- A flush of R445: pending summaries are accepted first, whatever the tokens (17 R447). -/
def State.flushAll (s : State) : State := (s.evlog.buckets.foldl (fun t p => t.summary p.1) s).flushRecords

/-- Flush at 512 waiting records, once records may be written at all (17 R443, R445). -/
def State.flushIfDue (s : State) : State :=
  if 512 ≤ s.evlog.staged.length ∧ s.fwActs ∧ ¬ s.start.startRecords then s.flushAll else s

/-- FILL_ABOVE follows the fill; a rise over the threshold is reported once (17 R449), after the record that brought it about. -/
def State.noteFill (s : State) : State :=
  if s.fillReached then
    if s.evlog.fillAbove then s
    else
      let t := { s with evlog := { s.evlog with fillAbove := true, seen := s.evlog.seen ||| 4 } }
      (t.irqRaise 104).stage 0xC022 0x1C00 0 [] true
  else { s with evlog := { s.evlog with fillAbove := false } }

/-- One occurrence reaches the recorder: rate limit, then a record (17 R444, R446). -/
def State.event (s : State) (code source item : Nat) (data : List Byte := []) : State :=
  if code = 0xC020 ∨ code = 0xC021 then (s.stage code source item data).flushIfDue.noteFill
  else
    let s := if token ≤ (s.bucket code).credit then s.summary code else s
    let b := s.bucket code
    if token ≤ b.credit then
      (((s.setBucket code { b with credit := b.credit - token }).stage code source item data).flushIfDue).noteFill
    else
      let first := b.count = 0
      let b' := { b with count := sat32 b.count, firstTime := if first then s.utc else b.firstTime,
                         firstItem := if first then item else b.firstItem, lastTime := s.utc, lastItem := item, lastSource := source }
      let t := s.setBucket code b'
      { t with evlog := { t.evlog with suppressed := sat32 t.evlog.suppressed, seen := t.evlog.seen ||| 2 } }

/-! ## CAN events -/

/-- Interrupt of a CAN event, from the controller's receive IRQ: 0 receive, 1 transmit, 2 error and status, 3 timetable (13 R377). -/
def canIrq (code : Nat) : Nat :=
  if code = 0x8006 then 0 else if code = 0x8008 then 1 else if 0x8010 ≤ code ∧ code ≤ 0x8014 then 3 else 2

def canObj (k : Fin 3) : Nat := 0x1800 + k.val

/-- An event of a controller with its interrupt (13 R377); a loss in a receive object interrupts only under `IRQ_EN` (13 R357). -/
def State.canEvent (s : State) (k : Fin 3) (code : Nat) (item : Nat := 0) (data : List Byte := []) : State :=
  let t := s.event code (canObj k) item data
  if code = 0x8007 then t else t.irqRaise (68 + 4 * k.val + canIrq code)

/-! ## Window counters -/

/-- N and W of a class (18 R465); a class of one occurrence has no window. -/
def State.fcN (s : State) (k : Nat) : Nat := s.val 0x1D00 0x0010 k / 0x1000000
def State.fcW (s : State) (k : Nat) : Nat := s.val 0x1D00 0x0010 k % 0x1000000

def fcKey (k item : Nat) : Nat := k * 65536 + item

/-- Occurrences of the class on the numbered element within W up to now (18 R463). -/
def State.inWindow (s : State) (k item : Nat) : List Nat :=
  (Sparse.getD s.fc.hist (fcKey k item) []).filter fun t => decide (s.now ≤ t + sec (s.fcW k))

/-- Forgets the history of one class on one element. -/
def State.clearWindow (s : State) (k item : Nat) : State :=
  { s with fc := { s.fc with hist := Sparse.del s.fc.hist (fcKey k item) } }

/-- Counts one occurrence of class `k` on `item`; answers whether the class became lasting (18 R463). The lasting action
itself is taken by the caller. The history of class 11 is cleared only at power-on (18 R463). -/
def State.countFault (s : State) (k : Fin 16) (item : Nat) : State × Bool :=
  let times := (s.now :: s.inWindow k.val item).take 16
  let fc := { s.fc with total := upd s.fc.total k sat32, lastItem := s.fc.lastItem.set k item, lastTime := s.fc.lastTime.set k s.utc,
                        hist := Sparse.put s.fc.hist (fcKey k.val item) times }
  let t := { s with fc := fc }
  if s.fcN k.val ≤ times.length ∧ s.fcN k.val ≠ 0 then
    let t := if k.val = 11 then t else t.clearWindow k.val item
    let t := { t with fc := { t.fc with lasting := upd t.fc.lasting k sat32 }, health := { t.health with seen := t.health.seen ||| 1 } }
    (t.event 0xD001 0x1D00 k.val (u8 k.val ++ u16 item), true)
  else (t, false)

/-! ## Block state -/

/-- Changes the block state: IRQ 120 and event 0xE001, for BASE_CAMP 0xE010 in its place (20 R500). -/
def State.setBlock (s : State) (b : BlockState) (cause : Nat) : State :=
  if s.mode.block = b then s
  else
    let t := { s with mode := { s.mode with block := b, since := s.utc } }
    (t.irqRaise 120).event (if b = .baseCamp then 0xE010 else 0xE001) blockObj 0
      (u8 s.mode.block.code ++ u8 b.code ++ u8 cause)

/-- `ARMED` becomes `RUN` when a bank enters LIVE and `RUN` becomes `ARMED` when none is LIVE (20 Table 20-2). -/
def State.followBanks (s : State) : State :=
  let live := allBank.any fun b => s.banks[b].state = .live
  if s.mode.block = .armed ∧ live then s.setBlock .run 0
  else if s.mode.block = .run ∧ ¬ live then s.setBlock .armed 0
  else s

/-! ## Field updates of the indexed families -/

def State.modStr (s : State) (i : Fin 40) (f : StrCtl → StrCtl) : State := { s with strs := upd s.strs i f }
def State.modBank (s : State) (b : Fin 4) (f : BankCtl → BankCtl) : State := { s with banks := upd s.banks b f }
def State.modGate (s : State) (c : Fin 52) (f : Gate → Gate) : State := { s with gates := upd s.gates c f }
def State.modBStr (s : State) (i : Fin 40) (f : BelayStr → BelayStr) : State := { s with bstr := upd s.bstr i f }
def State.modBelay (s : State) (f : Belay → Belay) : State := { s with belay := f s.belay }
def State.modIn (s : State) (i : Fin 24) (f : SafeInput → SafeInput) : State := { s with io := { s.io with inputs := upd s.io.inputs i f } }
def State.modQ (s : State) (q : Fin 16) (f : Output → Output) : State := { s with io := { s.io with outputs := upd s.io.outputs q f } }
def State.modSm (s : State) (m : Fin 8) (f : Stream → Stream) : State := { s with io := { s.io with streams := upd s.io.streams m f } }
def State.modTp (s : State) (k : Fin 4) (f : PulseSupply → PulseSupply) : State := { s with io := { s.io with supplies := upd s.io.supplies k f } }
def State.modSupply (s : State) (f : Supply → Supply) : State := { s with supply := f s.supply }
def State.modStart (s : State) (f : Start → Start) : State := { s with start := f s.start }
def State.modHealth (s : State) (f : Health → Health) : State := { s with health := f s.health }
def State.modSeng (s : State) (f : Seal → Seal) : State := { s with seng := f s.seng }
def State.modDict (s : State) (f : Dict → Dict) : State := { s with dict := f s.dict }
def State.modCan (s : State) (k : Fin 3) (f : Can → Can) : State := { s with cans := upd s.cans k f }
/-- Sets a latched field of `SUPPLY_STATUS` (02 Table 2-14). -/
def Supply.see (p : Supply) (k : Fin 3) (now : Nat) : Supply := { p with seen := p.seen ||| 2 ^ k.val, seenAt := p.seenAt.set k now }

/-- A W1C write of `SUPPLY_STATUS`; a field set again in the same tick stays set (02 R73). -/
def Supply.clearSeen (p : Supply) (v now : Nat) : Supply :=
  { p with seen := clearBits p.seen (mapBits 3 fun k => v.testBit k && decide (p.seenAt.toList.getD k 0 / 10 ≠ now / 10)) }

def State.modRope (s : State) (i : Fin 40) (f : Rope → Rope) : State := { s with ropes := upd s.ropes i f }
def nodeKey (i : Fin 40) (place : Nat) : Nat := i.val * 64 + place
/-- The node at a physical place of a rope. -/
def State.node (s : State) (i : Fin 40) (place : Nat) : Node := Sparse.getD s.nodes (nodeKey i place) Node.reset
def State.setNode (s : State) (i : Fin 40) (place : Nat) (n : Node) : State := { s with nodes := Sparse.put s.nodes (nodeKey i place) n }
def State.modNode (s : State) (i : Fin 40) (place : Nat) (f : Node → Node) : State := s.setNode i place (f (s.node i place))
def State.modTrav (s : State) (f : Traverse → Traverse) : State := { s with trav := f s.trav }
def State.modBal (s : State) (f : Balance → Balance) : State := { s with bal := f s.bal }
def State.modEth (s : State) (k : Fin 2) (f : Eth → Eth) : State := { s with eths := upd s.eths k f }
def State.modStream (s : State) (f : CellStream → CellStream) : State := { s with stream := f s.stream }
def State.modClock (s : State) (f : Clock → Clock) : State := { s with clock := f s.clock }
def State.modCorr (s : State) (f : Corr → Corr) : State := { s with corr := f s.corr }
def State.modEst (s : State) (f : Est → Est) : State := { s with est := f s.est }
def State.modStore (s : State) (f : Store → Store) : State := { s with store := f s.store }
def State.modTherm (s : State) (f : Thermal → Thermal) : State := { s with therm := f s.therm }

/-- Applies `f` for every index of a list, in its order. -/
def State.forEach {α : Type} (s : State) (l : List α) (f : State → α → State) : State := l.foldl f s

/-! ## The configuration partition -/

/-- The newest valid configuration copy (17 R451). -/
def State.newestCfg (s : State) : Option (Fin 2) :=
  let a := s.dict.copies[0]
  let b := s.dict.copies[1]
  match a.crcOk, b.crcOk with
  | true, true => some (if a.generation < b.generation then 1 else 0)
  | true, false => some 0
  | false, true => some 1
  | false, false => none

/-- The configuration's own items as they stand (17 R451). -/
def State.cfgNow (s : State) : CfgItems :=
  { rows := s.health.rows, blocks := s.health.blocks,
    ports := (s.ropes.toList.map fun r => (r.portA.spare, r.portA.failed)) ++ (s.ropes.toList.map fun r => (r.portB.spare, r.portB.failed)),
    lockouts := s.strs.toList.map StrCtl.stored, oscSpare := s.health.oscSpare }

/-- Writes a new configuration copy at the next generation into the copy that does not hold the newest valid one (17 R451); not once the
partition has stopped writing (18 R476). -/
def State.writeCfg (s : State) (vals : Sparse Nat) : State :=
  if s.health.stoppedParts.testBit 4 then s
  else
    let to_ : Fin 2 := match s.newestCfg with | some k => 1 - k | none => 0
    let gen := s.dict.cfgGen + 1
    (s.irqRaise 100).modDict fun d => { d with copies := d.copies.set to_ ⟨gen, true, vals, s.cfgNow⟩, cfgGen := gen }

/-- Stores an item of the configuration other than the RW values, which stay as last stored (17 R451). -/
def State.storeCfg (s : State) : State :=
  s.writeCfg (match s.newestCfg with | some k => s.dict.copies[k].vals | none => [])

/-- Stores an item of the configuration that the running block changes; before `STANDBY` it waits for it (03 R82). -/
def State.storeItem (s : State) : State :=
  if s.start.startRecords then s.modHealth fun h => { h with storePending := true } else s.storeCfg

/-- Takes the next free value number (log 4). -/
def State.takeFree (s : State) : State × Nat := ({ s with free := s.free + 1 }, s.free)

end Sys2Proof.Machine
end

