-- ==== Sys2Proof/Machine/Capability.lean ====
section
/-!
DEFINITION. The capability list at OD 1F00 (spec/15 R419 to R424, Tables 15-11 to 15-13): its records at consecutive
sub-indices, their rectangles and parameters, and `LIST_ID`.
-/

namespace Sys2Proof.Machine

/-- A capability record: ID, rectangles (first and last index, first and last sub-index) and fixed parameters; every version is 1. -/
structure Capability where
  id : Nat
  rects : List (Nat × Nat × Nat × Nat)
  params : List Byte
  deriving DecidableEq, Repr

/-- The capabilities after the list head, in order (15 Table 15-12). The spare reserve's parameters are dynamic, and
`ROM_ISSUE` is the factory's. -/
def capabilities : List Capability := [
  ⟨0x0001, [(0x1000, 0x1000, 0x0000, 0xFFFF)], []⟩,
  ⟨0x0002, [(0x1E00, 0x1E00, 0x0000, 0xFFFF), (0x1E01, 0x1E01, 0x0000, 0xFFFF)], u8 8 ++ u8 8 ++ u16 4096 ++ u8 64⟩,
  ⟨0x0003, [(0x2000, 0x2000, 0x0080, 0x00FF)], u8 128⟩,
  ⟨0x0004, [(0x2000, 0x2000, 0x0020, 0x0024), (0x2000, 0x2000, 0x0040, 0x0046)], []⟩,
  ⟨0x0010, [(0x2000, 0x2000, 0x0050, 0x005E), (0x2201, 0x2228, 0x0010, 0x005F), (0x2201, 0x2228, 0x0020, 0x0024)], u8 40 ++ u8 32 ++ u8 2 ++ u8 4⟩,
  ⟨0x0011, [(0x2000, 0x2000, 0x0060, 0x0076), (0x2201, 0x2228, 0x0060, 0x0064)], []⟩,
  ⟨0x0012, [(0x2000, 0x2000, 0x0010, 0x0016), (0x2201, 0x2228, 0x0100, 0x010A)], []⟩,
  ⟨0x0020, [(0x2000, 0x2000, 0x0100, 0x010E), (0x2201, 0x2228, 0x0070, 0x007C)], u8 3⟩,
  ⟨0x0030, [(0x2000, 0x2000, 0x0110, 0x0123), (0x2101, 0x2104, 0x0030, 0x0038), (0x2201, 0x2228, 0x0080, 0x009E), (0x2301, 0x2304, 0x0000, 0xFFFF)], u8 4⟩,
  ⟨0x0040, [(0x2101, 0x2104, 0x0001, 0x0021), (0x2201, 0x2228, 0x0001, 0x000F)], u8 4⟩,
  ⟨0x0041, [(0x2000, 0x2000, 0x0130, 0x0132), (0x2101, 0x2104, 0x0040, 0x0047), (0x2201, 0x2228, 0x00B0, 0x00B5)], u8 52⟩,
  ⟨0x0050, [(0x2000, 0x2000, 0x0140, 0x0147), (0x2201, 0x2228, 0x00C0, 0x00C5), (0x2401, 0x2404, 0x0000, 0xFFFF)], u32 0 ++ u8 0x1F⟩,
  ⟨0x0051, [(0x2000, 0x2000, 0x0150, 0x0160), (0x2101, 0x2104, 0x0050, 0x0054)], u8 24 ++ u8 16⟩,
  ⟨0x0052, [(0x2000, 0x2000, 0x0168, 0x0172)], u8 8⟩,
  ⟨0x0060, [(0x1800, 0x1802, 0x0000, 0x000F), (0x1810, 0x1842, 0x0000, 0xFFFF)], u8 3 ++ u8 128 ++ u16 256⟩,
  ⟨0x0061, [(0x1800, 0x1802, 0x0010, 0x0017)], u8 32 ++ u8 64⟩,
  ⟨0x0070, [(0x1A00, 0x1A00, 0x0001, 0x000F), (0x1A01, 0x1A01, 0x0000, 0xFFFF), (0x1A02, 0x1A02, 0x0000, 0xFFFF)], u8 2 ++ u16 50220⟩,
  ⟨0x0071, [(0x1A00, 0x1A00, 0x0010, 0x002F)], []⟩,
  ⟨0x0072, [(0x1A00, 0x1A00, 0x0040, 0x004F)], []⟩,
  ⟨0x0080, [(0x1B00, 0x1B00, 0x0000, 0xFFFF)], u8 6⟩,
  ⟨0x0090, [(0x1C00, 0x1C00, 0x0000, 0xFFFF)], u8 64 ++ u16 512⟩,
  ⟨0x0091, [(0x1C01, 0x1C01, 0x0000, 0xFFFF)], u8 3⟩,
  ⟨0x00A0, [(0x1D00, 0x1D00, 0x0000, 0xFFFF)], []⟩,
  ⟨0x00A1, [], []⟩,
  ⟨0x00B0, [(0x2000, 0x2000, 0x0001, 0x000F)], []⟩]

/-- Bytes of a record up to the end of its rectangles (15 Table 15-11). -/
def capHead (id : Nat) (rects : List (Nat × Nat × Nat × Nat)) (params next : Nat) : List Byte :=
  u16 id ++ u8 1 ++ u8 rects.length ++ u16 (8 + 8 * rects.length + params) ++ u16 next ++
    (rects.map fun t => u16 t.1 ++ u16 t.2.1 ++ u16 t.2.2.1 ++ u16 t.2.2.2).flatten

/-- Length of a record's parameters; the head has 8 bytes, the spare reserve 16 (15 R421, Table 15-13). -/
def capParams (k : Nat) : Nat :=
  if k = 0 then 8 else match capabilities[k - 1]? with | some c => if c.id = 0xA1 then 16 else c.params.length | none => 0

/-- Bytes of record `k` up to the end of its rectangles. -/
def capHeadOf (k : Nat) : List Byte :=
  let next := if k + 1 = capCount then 0xFFFF else k + 1
  if k = 0 then capHead 0 [(0x1F00, 0x1F00, 0, 0xFFFF)] 8 next
  else match capabilities[k - 1]? with | some c => capHead c.id c.rects (capParams k) next | none => []

/-- `LIST_ID` (15 R421): CRC-32C over every record up to the end of its rectangles. -/
def listId : Nat := crc32c ((List.range capCount).map capHeadOf).flatten

/-- Spare PHYs free, bit m - 1 for SPm: each serves ten ports of one side (15 Table 15-13, 04 R134). -/
def State.phySpares (s : State) : Nat :=
  mapBits 8 fun m => (List.range 10).all fun k =>
    let r := s.ropes[Fin.ofNat 40 (m % 4 * 10 + k)]
    !(if m < 4 then r.portA.spare else r.portB.spare)

/-- Parameters of the spare reserve record (15 Table 15-13). -/
def State.spareReserve (s : State) : List Byte :=
  u8 (if s.cores.role[2] = .standby then 1 else 0) ++ u8 (if s.health.oscSpare then 0 else 1) ++ u8 s.phySpares ++ u8 0 ++
    u16 (64 - s.health.rows.length) ++ u16 64 ++ u32 (768 - s.health.blocks.length) ++ u32 768

/-- The value of a capability record (15 R419 to R424); none past the last record. -/
def State.capRecord (s : State) (k : Nat) : Option (List Byte) :=
  if k = 0 then some (capHeadOf 0 ++ u16 capCount ++ u16 0 ++ u32 listId)
  else (capabilities[k - 1]?).map fun c => capHeadOf k ++ (if c.id = 0xA1 then s.spareReserve else if c.id = 0x50 then u32 s.ident.romIssue ++ u8 0x1F else c.params)

end Sys2Proof.Machine
end

