-- ==== Sys2Proof/Machine/Crypto.lean ====
section
/-!
DEFINITION. The arithmetic of the seal engine (spec/14 R393): SHA-512 (FIPS 180-4), and the verification of a pure Ed25519 signature
(RFC 8032), as spec/00_scope.md names the two standards. The standards' own values, which the spec does not print, are PRESUMED (log 10).
-/

namespace Sys2Proof.Machine

/-! ## SHA-512 -/

/-- The 80 constants of the rounds: the first 64 bits of the fractions of the cube roots of the first 80 primes. -/
def shaRound : List (BitVec 64) :=
  [0x428A2F98D728AE22, 0x7137449123EF65CD, 0xB5C0FBCFEC4D3B2F, 0xE9B5DBA58189DBBC, 0x3956C25BF348B538] ++
    [0x59F111F1B605D019, 0x923F82A4AF194F9B, 0xAB1C5ED5DA6D8118, 0xD807AA98A3030242, 0x12835B0145706FBE] ++
    [0x243185BE4EE4B28C, 0x550C7DC3D5FFB4E2, 0x72BE5D74F27B896F, 0x80DEB1FE3B1696B1, 0x9BDC06A725C71235] ++
    [0xC19BF174CF692694, 0xE49B69C19EF14AD2, 0xEFBE4786384F25E3, 0x0FC19DC68B8CD5B5, 0x240CA1CC77AC9C65] ++
    [0x2DE92C6F592B0275, 0x4A7484AA6EA6E483, 0x5CB0A9DCBD41FBD4, 0x76F988DA831153B5, 0x983E5152EE66DFAB] ++
    [0xA831C66D2DB43210, 0xB00327C898FB213F, 0xBF597FC7BEEF0EE4, 0xC6E00BF33DA88FC2, 0xD5A79147930AA725] ++
    [0x06CA6351E003826F, 0x142929670A0E6E70, 0x27B70A8546D22FFC, 0x2E1B21385C26C926, 0x4D2C6DFC5AC42AED] ++
    [0x53380D139D95B3DF, 0x650A73548BAF63DE, 0x766A0ABB3C77B2A8, 0x81C2C92E47EDAEE6, 0x92722C851482353B] ++
    [0xA2BFE8A14CF10364, 0xA81A664BBC423001, 0xC24B8B70D0F89791, 0xC76C51A30654BE30, 0xD192E819D6EF5218] ++
    [0xD69906245565A910, 0xF40E35855771202A, 0x106AA07032BBD1B8, 0x19A4C116B8D2D0C8, 0x1E376C085141AB53] ++
    [0x2748774CDF8EEB99, 0x34B0BCB5E19B48A8, 0x391C0CB3C5C95A63, 0x4ED8AA4AE3418ACB, 0x5B9CCA4F7763E373] ++
    [0x682E6FF3D6B2B8A3, 0x748F82EE5DEFB2FC, 0x78A5636F43172F60, 0x84C87814A1F0AB72, 0x8CC702081A6439EC] ++
    [0x90BEFFFA23631E28, 0xA4506CEBDE82BDE9, 0xBEF9A3F7B2C67915, 0xC67178F2E372532B, 0xCA273ECEEA26619C] ++
    [0xD186B8C721C0C207, 0xEADA7DD6CDE0EB1E, 0xF57D4F7FEE6ED178, 0x06F067AA72176FBA, 0x0A637DC5A2C898A6] ++
    [0x113F9804BEF90DAE, 0x1B710B35131C471B, 0x28DB77F523047D84, 0x32CAAB7B40C72493, 0x3C9EBE0A15C9BEBC] ++
    [0x431D67C49C100D4C, 0x4CC5D4BECB3E42B6, 0x597F299CFC657E2A, 0x5FCB6FAB3AD6FAEC, 0x6C44198C4A475817]

/-- The initial digest: the first 64 bits of the fractions of the square roots of the first eight primes. -/
def shaStart : List (BitVec 64) :=
  [0x6A09E667F3BCC908, 0xBB67AE8584CAA73B, 0x3C6EF372FE94F82B, 0xA54FF53A5F1D36F1] ++
    [0x510E527FADE682D1, 0x9B05688C2B3E6C1F, 0x1F83D9ABFB41BD6B, 0x5BE0CD19137E2179]

/-- A message with its padding: 0x80, zeros, and its length in bits as 16 bytes, to whole blocks of 128 bytes. -/
def shaPad (m : List Byte) : List Byte :=
  m ++ [0x80#8] ++ List.replicate ((239 - m.length % 128) % 128) 0x00#8 ++ beBytes 16 (8 * m.length)

/-- Word `k` of a list of words. -/
def wordAt (ws : List (BitVec 64)) (k : Nat) : BitVec 64 := ws.getD k 0

/-- The next word of the message schedule from the sixteen before it, oldest first. -/
def shaNext (w : List (BitVec 64)) : BitVec 64 :=
  let a := wordAt w 14
  let b := wordAt w 1
  (a.rotateRight 19 ^^^ a.rotateRight 61 ^^^ a >>> 6) + wordAt w 9 + (b.rotateRight 1 ^^^ b.rotateRight 8 ^^^ b >>> 7) + wordAt w 0

/-- One round with constant `k` on the working words a to h, with word `w` of the schedule. -/
def shaStep (v : List (BitVec 64)) (k w : BitVec 64) : List (BitVec 64) :=
  let a := wordAt v 0
  let e := wordAt v 4
  let ch := (e &&& wordAt v 5) ^^^ (~~~e &&& wordAt v 6)
  let maj := (a &&& wordAt v 1) ^^^ (a &&& wordAt v 2) ^^^ (wordAt v 1 &&& wordAt v 2)
  let t1 := wordAt v 7 + (e.rotateRight 14 ^^^ e.rotateRight 18 ^^^ e.rotateRight 41) + ch + k + w
  let t2 := (a.rotateRight 28 ^^^ a.rotateRight 34 ^^^ a.rotateRight 39) + maj
  [t1 + t2, a, wordAt v 1, wordAt v 2, wordAt v 3 + t1, e, wordAt v 5, wordAt v 6]

/-- The rounds of one block: the constants that are left, the sixteen words of the schedule that come next, the working words. -/
def shaRounds : List (BitVec 64) → List (BitVec 64) → List (BitVec 64) → List (BitVec 64)
  | [], _, v => v
  | k :: ks, w, v => shaRounds ks (w.tail ++ [shaNext w]) (shaStep v k (wordAt w 0))

/-- The digest after one more block. -/
def shaBlock (h : List (BitVec 64)) (block : List Byte) : List (BitVec 64) :=
  let w := (List.range 16).map fun k => BitVec.ofNat 64 (ofBytes ((block.drop (8 * k)).take 8))
  List.zipWith (· + ·) h (shaRounds shaRound w h)

/-- SHA-512 of a message: 64 bytes. -/
def sha512 (m : List Byte) : List Byte :=
  let p := shaPad m
  let h := (List.range (p.length / 128)).foldl (fun h k => shaBlock h ((p.drop (128 * k)).take 128)) shaStart
  (h.map fun w => beBytes 8 w.toNat).flatten

/-! ## The curve (RFC 8032, section 5.1) -/

/-- The prime of the field. -/
def edPrime : Nat := 2 ^ 255 - 19

/-- The order of the group. -/
def edOrder : Nat := 2 ^ 252 + 27742317777372353535851937790883648493

/-- The constant d of the curve. -/
def edD : Nat := 0x52036CEE2B6FFE738CC740797779E89800700A4D4141D8AB75EB4DCA135978A3

/-- A power in the field; `n` turns serve an exponent below 2^n. -/
def edPow (n : Nat) (b e : Nat) : Nat :=
  match n with
  | 0 => 1
  | n + 1 =>
    let h := edPow n (b * b % edPrime) (e / 2)
    if e % 2 = 1 then b * h % edPrime else h

/-- A point in extended coordinates: x = X / Z, y = Y / Z, x y = T / Z. -/
structure EdPoint where
  x : Nat
  y : Nat
  z : Nat
  t : Nat
  deriving DecidableEq, Repr

/-- The neutral element. -/
def EdPoint.zero : EdPoint := ⟨0, 1, 1, 0⟩

/-- The base point B. -/
def EdPoint.base : EdPoint :=
  let x := 0x216936D3CD6E53FEC0A4E231FDD6DC5C692CC7609525A7B2C9562D608F25D51A
  let y := 0x6666666666666666666666666666666666666666666666666666666666666658
  ⟨x, y, 1, x * y % edPrime⟩

/-- The sum of two points. -/
def EdPoint.add (p q : EdPoint) : EdPoint :=
  let a := (p.y + edPrime - p.x) * (q.y + edPrime - q.x) % edPrime
  let b := (p.y + p.x) * (q.y + q.x) % edPrime
  let c := p.t * 2 * edD * q.t % edPrime
  let d := p.z * 2 * q.z % edPrime
  let e := b + edPrime - a
  let f := d + edPrime - c
  let g := d + c
  let h := b + a
  ⟨e * f % edPrime, g * h % edPrime, f * g % edPrime, e * h % edPrime⟩

/-- The multiple of a point by a scalar; `n` turns serve a scalar below 2^n. -/
def EdPoint.mul (n : Nat) (k : Nat) (p : EdPoint) : EdPoint :=
  match n with
  | 0 => .zero
  | n + 1 =>
    let h := EdPoint.mul n (k / 2) (p.add p)
    if k % 2 = 1 then p.add h else h

/-- Two points are one point. -/
def EdPoint.same (p q : EdPoint) : Bool :=
  p.x * q.z % edPrime = q.x * p.z % edPrime && p.y * q.z % edPrime = q.y * p.z % edPrime

/-- The number that bytes spell low byte first. -/
def leNat (bs : List Byte) : Nat := ofBytes bs.reverse

/-- Decodes 32 bytes to a point (RFC 8032, section 5.1.3), or none where they spell none. -/
def EdPoint.decode (bs : List Byte) : Option EdPoint :=
  let sign := leNat bs / 2 ^ 255
  let y := leNat bs % 2 ^ 255
  let u := (y * y + edPrime - 1) % edPrime
  let v := (edD * y * y + 1) % edPrime
  let c := u * edPow 2 v 3 * edPow 255 (u * edPow 3 v 7 % edPrime) ((edPrime - 5) / 8) % edPrime
  let root : Option Nat :=
    if v * c * c % edPrime = u then some c
    else if v * c * c % edPrime = (edPrime - u) % edPrime then some (c * edPow 255 2 ((edPrime - 1) / 4) % edPrime) else none
  if bs.length ≠ 32 || edPrime ≤ y then none
  else match root with
    | none => none
    | some x =>
      if x = 0 && sign = 1 then none
      else
        let x := if x % 2 = sign then x else edPrime - x
        some ⟨x, y, 1, x * y % edPrime⟩

/-- The point is of small order: eight times it is the neutral element. -/
def EdPoint.small (p : EdPoint) : Bool := (p.mul 4 8).same .zero

/-- A 32-byte value is a key that may be enrolled (14 R398): it decodes to a point, and the point is not of small order. -/
def keyGood (key : List Byte) : Bool :=
  match EdPoint.decode key with
  | some p => !p.small
  | none => false

/-- Pure Ed25519 (14 R393, RFC 8032, section 5.1.7): the scalar is below the group order, and eight times both sides of the verification
equation agree (log 192). -/
def edVerifies (key m sig : List Byte) : Bool :=
  let scalar := leNat (sig.drop 32)
  match EdPoint.decode key, EdPoint.decode (sig.take 32) with
  | some a, some r =>
    let k := leNat (sha512 (sig.take 32 ++ key ++ m)) % edOrder
    sig.length = 64 && decide (scalar < edOrder) &&
      ((EdPoint.base.mul 256 scalar).mul 4 8).same ((r.add (a.mul 256 k)).mul 4 8)
  | _, _ => false

end Sys2Proof.Machine
end

