-- ==== Sys2Proof/Machine/PathOps.lean ====
section
/-!
DEFINITION. Operations on the power path that several families share: what the belay logic judges a string, a bank and an
output by (01 R22 to R30, 09 R242, R257, 11 R301, 12 R330, R334, R346), trips and lock-outs (09 R243, R244), opening and
discharge (09 R259, R260), hall passes (09 R250), outputs and their pull-in queue (02 R56, 12 R333, R334).
-/

namespace Sys2Proof.Machine

/-! ## What the belay logic judges by -/

def passLife : Nat := sec 2

/-- The close pass of a string while its 2 s validity runs (01 R26, R27). -/
def State.closePass (s : State) (i : Fin 40) : Option HeldPass :=
  s.strs[i].pass.filter fun p => decide (s.now < p.taken + passLife)

/-- The energise pass of an output while its 2 s validity runs. -/
def State.qPass (s : State) (q : Fin 16) : Option HeldPass :=
  s.io.outputs[q].pass.filter fun p => decide (s.now < p.taken + passLife)

/-- Remaining validity in ms, `HP_REMAIN` (09 R249). -/
def State.hpRemain (s : State) (i : Fin 40) : Nat :=
  match s.closePass i with
  | some p => (p.taken + passLife - s.now) / ms 1
  | none => 0

/-- A stream's state puts its reaction in force (12 Table 12-16). -/
def Stream.reacts (m : Stream) : Bool :=
  match m.state with
  | .wait | .lost | .mismatch | .expired => true
  | .valid | .degradedA | .degradedB => !m.permit
  | .disabled => false

/-- A record of the stream failed in both copies: its reaction is permanently in force (12 R318). -/
def State.smDegraded (s : State) (m : Fin 8) : Bool :=
  [0x168, 0x169, 0x16A].any fun sub => s.belay.degraded.contains (dkey blockObj sub m.val)

def State.smReaction (s : State) (m : Fin 8) : Bool := s.smDegraded m || s.io.streams[m].reacts

def State.smCfg (s : State) (m : Fin 8) : Nat := s.bval blockObj 0x0169 m.val

/-- A stream whose `BANK_MASK` includes the bank has its reaction in force (12 R346). -/
def State.smTrip (s : State) (b : Fin 4) : Bool :=
  (List.finRange 8).any fun m => s.smReaction m && (s.smCfg m).testBit (20 + b.val)

/-- A belay trip is asserted for the bank (12 R330, R346). -/
def State.bankTrip (s : State) (b : Fin 4) : Bool := !s.banks[b].groupReady || s.smTrip b

/-- A string that is not EXCLUDED has its trip or lock-out latch set (09 R256, R257). -/
def State.latchedIn (s : State) (b : Fin 4) : Bool :=
  (s.stringsOf b).any fun i => s.strs[i].state ≠ .excluded && (s.strs[i].trip || s.strs[i].lockout)

/-- The string whose `PRECHARGE` pass for the bank is held (01 R24, 09 R257). -/
def State.pcHolder (s : State) (b : Fin 4) : Option (Fin 40) :=
  (s.stringsOf b).find? fun i =>
    match s.closePass i with
    | some p => p.pass.precharge && p.pass.bank = b.val
    | none => false

/-- The half-bridge of the bank is permitted (01 R24, 09 R257). -/
def State.hbPermitted (s : State) (b : Fin 4) : Bool :=
  (s.pcHolder b).isSome && !s.latchedIn b && !s.bankTrip b &&
    (s.gates[chH b].record.isNone && s.gates[chL b].record.isNone)

/-- Some S command of the bank is on (09 R260). -/
def State.anySOn (s : State) (b : Fin 4) : Bool := (s.stringsOf b).any fun i => s.gates[chS i].cmd

/-- Limits a set needs to be complete besides its class (11 R301). -/
def envLimits : List Nat := [2, 3, 5, 6, 8, 0xB, 0xC]

/-- Envelope set `e` (1 to 4) is complete (11 R301); a class failed in both copies makes it incomplete (11 R308). -/
def State.envComplete (s : State) (e : Nat) : Bool :=
  ((s.committed (0x2400 + e) 1).isSome && s.bval (0x2400 + e) 1 ≠ 0 && !s.belay.degraded.contains (dkey (0x2400 + e) 1 0)) &&
    envLimits.all fun k => (s.committed (0x2400 + e) k).isSome

/-- A record of the set failed in both copies (11 R308). -/
def State.envDegraded (s : State) (e : Nat) : Bool :=
  s.belay.degraded.any fun k => k / 2 ^ 32 = 0x2400 + e

/-- The envelope set of a string: its committed `PROFILE` (11 R300). -/
def State.profileOf (s : State) (i : Fin 40) : Nat := s.bval (strObj i) 0x0080

/-- The envelope is clear for a string (11 R301); before the first traverse and slow round it is not (03 R77). -/
def State.envClear (s : State) (i : Fin 40) : Bool :=
  s.envComplete (s.profileOf i) && s.bstr[i].violated.isEmpty && s.belay.traverseSeen && s.bstr[i].slowSeen

/-- An assigned set of a string that is not EXCLUDED is incomplete (11 R301). -/
def State.envIncomplete (s : State) : Bool :=
  allStr.any fun i => s.strs[i].state ≠ .excluded && !s.envComplete (s.profileOf i)

/-- A fault condition of the channel is present (10 R279); a disarmed di/dt comparator reports none. -/
def Gate.present (g : Gate) : Bool := !g.railPos || !g.railNeg || (g.didtAbove && g.seenCmd) || g.stCond.isSome || g.rbBad

/-- The gate is driven to +18 V from the positive rail, a rising edge where it was not on (10 R266, R286); without that rail the
channel is undriven (10 R274). -/
def Gate.driveOn (g : Gate) : Gate :=
  if g.railPos then { g with drive := .on, gateOn := true, gateOff := false, cycles := if g.gateOn then g.cycles else sat32 g.cycles }
  else { g with drive := .undriven, gateOn := false, gateOff := false }

/-- The gate is held low, to KS without the negative rail; undriven without both (10 R274, R275). -/
def Gate.holdLow (g : Gate) : Gate :=
  { g with drive := if g.railPos || g.railNeg then .heldLow else .undriven, gateOn := false, gateOff := g.railNeg }

/-- Fault summary IRQ of a channel's group (01 Table 1-8). -/
def summaryIrq (c : Fin 52) : Nat :=
  if c.val < 40 then 34 + c.val / 10 else if c.val < 48 then 38 + (c.val - 40) / 2 else 42

/-- A gate event with the IRQ of its channel's group (10 R289, log 115). -/
def State.gateEvent (s : State) (code : Nat) (c : Fin 52) (data : List Byte := []) : State :=
  (s.event code (ownerOf c).obj c.val data).irqRaise (summaryIrq c)

/-- The belay logic commands Dn on or off; a change is an action on the clamp, IRQ 42 (01 Table 1-8). -/
def State.setDn (s : State) (b : Fin 4) (on : Bool) : State :=
  let t := s.modGate (chD b) fun g => { g with cmd := on }
  if s.gates[chD b].cmd = on then t else t.irqRaise 42

/-- A command of a half-bridge goes off; one that the interlock ignored ends with it (10 R270). -/
def Gate.cmdOff (g : Gate) (now : Nat) : Gate :=
  if g.cmd && !g.seenCmd then { g with cmd := false, hold := false, edgeAt := now } else { g with cmd := false }

/-! ## Outputs -/

/-- `Q_CFG` in force; a record failed in both copies takes its most restrictive form (12 R318). -/
def State.qCfg (s : State) (q : Fin 16) : Nat :=
  if s.belay.degraded.contains (dkey blockObj 0x0158 q.val) then 0x85000000 else s.bval blockObj 0x0158 q.val

def State.qPowerPath (s : State) (q : Fin 16) : Bool := (s.qCfg q).testBit 31
def State.qBank (s : State) (q : Fin 16) : Nat := bits (s.qCfg q) 29 27

/-- The other pole of a pair: outputs 2k - 1 and 2k when `PAIR` is set on the odd one (12 R335). -/
def State.pairOf (s : State) (q : Fin 16) : Option (Fin 16) :=
  if q.val % 2 = 0 then (if (s.qCfg q).testBit 30 then some (Fin.ofNat 16 (q.val + 1)) else none)
  else (let p := Fin.ofNat 16 (q.val - 1); if (s.qCfg p).testBit 30 then some p else none)

/-- The even pole of a pair, which no request may name (12 R335). -/
def State.isEvenPole (s : State) (q : Fin 16) : Bool := q.val % 2 = 1 && (s.pairOf q).isSome

/-- `OUT_MASK` of an input; failed in both copies, every output (12 R318). -/
def inKey (i : Fin 24) : Nat × Nat := (0x2101 + i.val / 6, i.val % 6)

def State.inCfg (s : State) (i : Fin 24) : Nat :=
  let k := inKey i
  if s.belay.degraded.contains (dkey k.1 0x0050 k.2) then 0x40000000 + 0x20000000 + 0x10000000 + 20 * 0x800000 + 0x10000 + 0xFFFF
  else s.bval k.1 0x0050 k.2

def State.inUse (s : State) (i : Fin 24) : Nat := bits (s.inCfg i) 31 30

/-- The bank trip, inputs and streams allow the output (12 R334), its own latches aside. -/
def State.qClear (s : State) (q : Fin 16) : Bool :=
  s.supply.vqPresent &&
  (s.qBank q = 0 || (if h : s.qBank q - 1 < 4 then !s.bankTrip ⟨s.qBank q - 1, h⟩ else true)) &&
  ((List.finRange 24).all fun i => s.inUse i = 0 || !(s.inCfg i).testBit q.val || s.io.inputs[i].ready) &&
  ((List.finRange 8).all fun m => !(s.smReaction m && (s.smCfg m).testBit q.val))

/-- R334 holds for the output: `PERMITTED` (12 R334, Table 12-14). -/
def State.qPermitted (s : State) (q : Fin 16) : Bool :=
  s.io.outputs[q].fault.isNone &&
  (match s.pairOf q with | some p => s.io.outputs[p].fault.isNone | none => true) && s.qClear q

/-- The output, and the other pole of its pair, may be energised (12 R334, R335). -/
def State.qMayStart (s : State) (q : Fin 16) : Bool :=
  s.qPermitted q && (match s.pairOf q with | some p => s.qPermitted p | none => true)

def QState.energised : QState → Bool
  | .pullIn | .hold => true
  | .off | .waiting => false

/-- Turns one pole off: event 0x7011 and IRQ 64 when it was energised (12 R333); a waiting request is discarded with event 0x4012 and
IRQ 33, once for a pair (01 R28). -/
def State.dropPole (s : State) (q : Fin 16) (byRule : Bool) : State :=
  let o := s.io.outputs[q]
  if o.state = .off then s
  else if o.state = .waiting then
    let t := s.modQ q fun o => { o with state := .off }
    if s.isEvenPole q then t else (t.irqRaise 33).event 0x4012 blockObj (q.val + 1)
  else
    let t := s.modQ q fun o => { o with state := .off, openLoad := false, pulse := none, lowSince := some s.now,
                                        seen := if byRule then o.seen ||| 1 else o.seen }
    (t.irqRaise 64).event 0x7011 blockObj (q.val + 1)

/-- Takes a pole's waiting request out of the queue. -/
def State.unwaitPole (s : State) (q : Fin 16) : State :=
  s.modQ q fun o => { o with state := if o.state = .waiting then .off else o.state }

/-- Discards a waiting request whose pass has ended, as on expiry (02 R56). -/
def State.unwaitQ (s : State) (q : Fin 16) : State :=
  let t := s.unwaitPole q
  match s.pairOf q with
  | some p => t.unwaitPole p
  | none => t

/-- Drops an output and its pair (12 R335). -/
def State.dropQ (s : State) (q : Fin 16) (byRule : Bool := false) : State :=
  let t := s.dropPole q byRule
  match s.pairOf q with
  | some p => t.dropPole p byRule
  | none => t

/-- Outputs in pull-in (02 R56). -/
def State.pullIns (s : State) : Nat := (allQ.filter fun q => s.io.outputs[q].state = .pullIn).length

/-- Starts the pull-in of one pole (12 R333): the hall pass of a power-path output is consumed (02 R56). -/
def State.startPole (s : State) (q : Fin 16) : State :=
  let t := s.modQ q fun o => { o with state := .pullIn, pullAt := s.now, pulse := none, operations := sat32 o.operations, openLoad := false, lowSince := none }
  (t.irqRaise 64).event 0x7010 blockObj (q.val + 1)

/-- Consumes the energise pass of an output (01 R27): IRQ 26. -/
def State.consumeQPass (s : State) (q : Fin 16) : State :=
  match s.io.outputs[q].pass with
  | some _ => (s.modQ q fun o => { o with pass := none }).irqRaise 26
  | none => s

/-- Starts waiting requests in strict ascending order while slots are free (02 R56); a power-path output needs its valid pass still
(01 R23), else its request is discarded. `n` bounds the requests served. -/
def State.serveQ : Nat → State → State
  | 0, s => s
  | n + 1, s =>
    match allQ.find? fun q => s.io.outputs[q].state = .waiting && !(s.isEvenPole q) with
    | none => s
    | some q =>
      let pair := s.pairOf q
      if s.qPowerPath q && (s.qPass q).isNone then State.serveQ n (s.unwaitQ q)
      else if s.pullIns + (if pair.isSome then 2 else 1) ≤ 4 then
        let t := (if s.qPowerPath q then s.consumeQPass q else s).startPole q
        State.serveQ n (match pair with | some p => t.startPole p | none => t)
      else s

/-- Puts a request to energise in the queue and serves the queue (02 R56, 12 R335). -/
def State.requestQ (s : State) (q : Fin 16) : State :=
  let t := s.modQ q fun o => { o with state := .waiting }
  let t := match s.pairOf q with
    | some p => t.modQ p fun o => { o with state := .waiting }
    | none => t
  State.serveQ 16 t

/-- Drops every output whose permission has lapsed and serves the queue (12 R334). -/
def State.enforceOutputs (s : State) : State :=
  State.serveQ 16 (s.forEach allQ fun s q => if s.io.outputs[q].state ≠ .off && !s.qPermitted q then s.dropQ q true else s)

/-! ## String and bank states -/

/-- Changes a string's state: IRQ 24 and event 0x4001 (09 R240). -/
def State.setStr (s : State) (i : Fin 40) (st : StrState) (cause : Nat := 0) : State :=
  let old := s.strs[i].state
  if old = st then s
  else ((s.modStr i fun c => { c with state := st }).irqRaise 24).event 0x4001 (strObj i) 0 (u8 old.code ++ u8 st.code ++ u8 cause)

/-- Changes a bank's state: event 0x4020 (09 R255); the output of `LINK_OUTPUT` is dropped on entry to DARK (09 R261);
the block follows between ARMED and RUN (20 Table 20-2). -/
def State.setBank (s : State) (b : Fin 4) (st : BankState) : State :=
  let old := s.banks[b].state
  if old = st then s
  else
    let t := (s.modBank b fun c => { c with state := st }).event 0x4020 (bankObj b) 0 (u8 old.code ++ u8 st.code)
    let out := s.val (bankObj b) 0x0017
    let t := if st = .dark ∧ 1 ≤ out then State.serveQ 16 (t.dropQ (Fin.ofNat 16 (out - 1))) else t
    t.followBanks

/-- Discards a close request waiting in the belay logic (01 R28): event 0x4012, IRQ 33. -/
def State.discardClose (s : State) (i : Fin 40) : State :=
  if s.strs[i].waiting || s.strs[i].requested then
    ((s.modStr i fun c => { c with waiting := false, requested := false, seen := c.seen ||| 1 }).irqRaise 33).event 0x4012 (strObj i) 0
  else s

/-- Turns a string's S command off (01 R21). -/
def State.sOff (s : State) (i : Fin 40) : State := s.modGate (chS i) fun g => { g with cmd := false }

/-- An open cause for a string: S command off, waiting close requests discarded (01 R28). -/
def State.openS (s : State) (i : Fin 40) : State := (s.sOff i).discardClose i

/-- Turns both half-bridge commands of a bank off. -/
def State.hbOff (s : State) (b : Fin 4) : State :=
  (s.modGate (chH b) fun g => g.cmdOff s.now).modGate (chL b) fun g => g.cmdOff s.now

/-- Drives Dn on, only in a cycle in which every S command of the bank is off (09 R260). -/
def State.dnOn (s : State) (b : Fin 4) : State :=
  if s.anySOn b then s else s.setDn b true

/-- The bank goes to DISCHARGING: half-bridge off, Dn on (09 Table 9-8). -/
def State.discharge (s : State) (b : Fin 4) : State :=
  (((s.hbOff b).modBank b fun c => { c with dischSince := s.now, modulator := false }).dnOn b).setBank b .discharging

/-- Ends a pre-charge without the source's close (09 R259): the source goes to ISOLATED, the bank discharges. A source that
has been accepted but whose Dn has not read back off yet leaves the bank DARK with Dn on. -/
def State.endPrecharge (s : State) (b : Fin 4) (code : Nat) (cause : Nat) : State :=
  let src := s.banks[b].source
  let t := s.modBank b fun c => { c with modulator := false, source := none }
  let t := match src with
    | some i => let t := t.openS i; if t.strs[i].state = StrState.matching then t.setStr i .isolated cause else t
    | none => t
  let t := (t.event code (bankObj b) 0 (u8 cause)).irqRaise (28 + b.val)
  if s.banks[b].state = .precharging then t.discharge b else (t.hbOff b).dnOn b

/-- A pre-charge has been accepted and has not ended (09 R256, R259). -/
def State.pcActive (s : State) (b : Fin 4) : Bool :=
  s.banks[b].state = .precharging || (s.banks[b].state = .dark && s.banks[b].source.isSome)

/-- What follows from the strings and trips of a bank (09 R257, R259, Table 9-8): a pre-charge whose permission has lapsed
ends, and a LIVE bank without an S command on discharges. -/
def State.settleBank (s : State) (b : Fin 4) : State :=
  let s := if s.pcActive b && !s.hbPermitted b && !s.anySOn b then s.endPrecharge b 0x4025 3 else s
  if s.banks[b].state = .live && !s.anySOn b then s.discharge b else s

def State.settleBanks (s : State) : State := s.forEach allBank State.settleBank

/-! ## Trips and lock-outs -/

/-- Causes of class L (09 Table 9-3). -/
def causeIsL (c : Nat) : Bool := [0x01, 0x02, 0x03, 0x05, 0x0A, 0x10].contains c

def causeMask (cs : List Nat) : Nat := cs.foldl (fun m c => m ||| 2 ^ c) 0
def leastCause (cs : List Nat) : Nat := cs.foldl min 0xFF

/-- Sets or extends the latches of a string for the causes of one BEL cycle (09 R243), with the string's new state,
its events, and the stored lock-out (09 R244). The switch opens. -/
def State.latchCauses (s : State) (i : Fin 40) (causes : List Nat) : State :=
  let c := s.strs[i]
  let m := causeMask causes
  let ts := causes.filter fun c => !causeIsL c
  let ls := causes.filter causeIsL
  if causes = [] then s
  else
    let s := s.openS i
    if c.lockout then
      let t := s.modStr i fun c => { c with lockoutSet := c.lockoutSet ||| m }
      let t := if ts ≠ [] then t.event 0x4002 (strObj i) 0 (u32 m) else t
      if ls ≠ [] then t.event 0x4003 (strObj i) 0 (u32 m) else t
    else
      let tripNew := ts ≠ [] ∧ ¬ c.trip
      let lockNew := ls ≠ []
      let t := s.modStr i fun c => { c with
        trip := c.trip || decide (ts ≠ []),
        tripCause := if tripNew then leastCause ts else c.tripCause,
        tripSet := if tripNew then m else if c.trip then c.tripSet ||| m else c.tripSet,
        lockout := decide lockNew,
        lockoutCause := if lockNew then leastCause ls else c.lockoutCause,
        lockoutSet := if lockNew then m else c.lockoutSet,
        stored := if lockNew then some (leastCause ls) else c.stored }
      let t := if lockNew then t.storeItem else t
      let t := if lockNew then t.event 0x4003 (strObj i) 0 (u32 m) else t.event 0x4002 (strObj i) 0 (u32 m)
      if c.exclusion then t
      else if lockNew then t.setStr i .lockedOut (leastCause ls)
      else if tripNew then t.setStr i .tripped (leastCause ts)
      else t

/-- Trips a string with the causes of one BEL cycle; a trip that sets a latch counts in class 3, and at the lasting one the
string is locked out with TRIPS_LASTING (09 R243, 18 Table 18-1; log 14). The bank follows. -/
def State.tripStr (s : State) (i : Fin 40) (causes : List Nat) : State :=
  let c := s.strs[i]
  let sets := (causes.any fun k => !causeIsL k) && !c.trip || (causes.any causeIsL)
  let t := s.latchCauses i causes
  let t := if sets && !c.lockout then
      let r := t.countFault 3 (i.val + 1)
      if r.2 then r.1.latchCauses i [0x10] else r.1
    else t
  t.settleBank (s.bankOf i)

/-- Trips every string of a bank whose switch is commanded on, all in one BEL cycle (09 R260, 12 R330, R346); the close requests of the
bank's other strings that wait are discarded (01 R28). -/
def State.tripClosed (s : State) (b : Fin 4) (cause : Nat) : State :=
  let closed := (s.stringsOf b).filter fun i => s.gates[chS i].cmd
  let t := s.forEach closed State.sOff
  let t := t.forEach closed fun t i => t.tripStr i [cause]
  t.forEach (s.stringsOf b) State.discardClose

/-- Every bank whose trip is asserted opens its closed strings with the trip's cause (12 R330, R346); outputs follow. -/
def State.enforceTrips (s : State) : State :=
  let t := s.forEach allBank fun s b =>
    let t := if !s.banks[b].groupReady then s.tripClosed b 0x0C else s
    let t := if t.smTrip b then t.tripClosed b 0x0D else t
    t.settleBank b
  t.enforceOutputs

/-! ## Hall passes -/

/-- CHECK of a pass: CRC-16 over bits 127:16 taken as 14 bytes (09 Table 9-5). -/
def Pass.checkOf (p : Pass) : Nat :=
  crc16 (u16 (p.kind.code * 0x1000 + p.target * 0x10 + (if p.precharge then 8 else 0) + p.slot) ++ u16 (p.bank * 0x4000) ++
    u64 p.counter ++ u16 0)

/-- Removes the close pass of a string; MATCH_OK clears with it, silently (09 R251), and a waiting request ends (09 R253). -/
def State.dropClosePass (s : State) (i : Fin 40) : State :=
  s.modStr i fun c => { c with pass := none, matchOk := false, waiting := false, requested := false }

/-- Discards every held pass and every pass in the privileged queue, with event 0x4014 each (09 R250). -/
def State.discardPasses (s : State) : State :=
  let t := s.forEach allStr fun s i => if s.strs[i].pass.isSome then (s.dropClosePass i).event 0x4014 (strObj i) 0 else s
  let t := t.forEach allQ fun s q =>
    if s.io.outputs[q].pass.isSome then ((s.modQ q fun o => { o with pass := none }).unwaitQ q).event 0x4014 blockObj (q.val + 1) else s
  let t := t.forEach s.belay.privQ fun t e => match e with
    | .pass p => t.event 0x4014 blockObj p.target
    | .record _ => t
  t.modBelay fun b => { b with privQ := b.privQ.filter fun e => match e with | .pass _ => false | .record _ => true }

/-- Opens every string switch, turns every C channel off and every clamp on (03 R90, 02 R70). -/
def State.safePath (s : State) : State :=
  let t := s.forEach allStr State.openS
  t.forEach allBank fun t b =>
    ((t.hbOff b).modBank b fun c => { c with modulator := false, source := none }).setDn b true

/-- Every path opened outside a trip (09 Table 9-9, R260): a running pre-charge ends, CLOSED and MATCHING strings become ISOLATED, and a
LIVE bank discharges. -/
def State.openAll (s : State) : State :=
  let t := s.forEach allBank fun t b => if t.pcActive b then t.endPrecharge b 0x4025 8 else t
  let t := t.safePath
  let t := t.forEach allStr fun t i =>
    if t.strs[i].state = .closed ∨ t.strs[i].state = .matching then t.setStr i .isolated else t
  t.forEach allBank State.settleBank

/-- Drops every safety output at once and discards waiting requests. -/
def State.dropAllQ (s : State) : State := s.forEach allQ fun s q => s.dropPole q true

end Sys2Proof.Machine
end

