-- ==== Sys2Proof/Machine/ServicePort.lean ====
section
/-!
DEFINITION. Dictionary messages as bytes over UDP and the service port (spec/14 R381, R382, Table 14-4): the 16-byte header, the framing of
the service port's byte stream, and its receiver.
-/

namespace Sys2Proof.Machine

/-- A message of Table 14-4 as its header and data spell it. -/
structure WireMessage where
  op : Nat
  tag : Nat
  index : Nat
  sub : Nat
  total : Nat
  offset : Nat
  data : List Byte
  deriving DecidableEq, Repr

/-- The bytes of a message (14 Table 14-4). -/
def WireMessage.bytes (m : WireMessage) : List Byte :=
  u8 0x01 ++ u8 m.op ++ u16 m.tag ++ u16 m.index ++ u16 m.sub ++ u32 m.total ++ u32 m.offset ++ m.data

/-- Reads a message; none of fewer than 16 bytes or of another version (14 R381). -/
def WireMessage.parse (bs : List Byte) : Option WireMessage :=
  let num (k n : Nat) : Nat := ofBytes ((bs.drop k).take n)
  if bs.length < 16 || num 0 1 ≠ 0x01 then none
  else some { op := num 1 1, tag := num 2 2, index := num 4 2, sub := num 6 2, total := num 8 4, offset := num 12 4, data := bs.drop 16 }

/-- A message framed for the service port (14 R382): 0xA5, 0x5A, the length, the message, and a CRC-32C over the length and the message. -/
def serviceFrame (bs : List Byte) : List Byte :=
  let body := u16 bs.length ++ bs
  u8 0xA5 ++ u8 0x5A ++ body ++ u32 (crc32c body)

/-- What the receiver of the service port finds in a byte stream: the messages of its sound frames, the bytes of a frame that is not whole
yet, and the number of frames whose CRC fails (14 R382). -/
structure Scan where
  found : List (List Byte)
  rest : List Byte
  bad : Nat
  deriving DecidableEq, Repr

/-- The receiver (14 R382): bytes are discarded until 0xA5 0x5A; a frame whose CRC fails is discarded. Every turn takes a byte at least, so
as many turns as bytes are enough. -/
def scanService : Nat → List Byte → Scan
  | 0, bs => ⟨[], bs, 0⟩
  | k + 1, bs =>
    match bs with
    | [] => ⟨[], [], 0⟩
    | a :: t =>
      if a ≠ 0xA5#8 then scanService k t
      else match t with
        | [] => ⟨[], [a], 0⟩
        | b :: u =>
          if b ≠ 0x5A#8 then scanService k t
          else
            let len := ofBytes (u.take 2)
            if u.length < 2 || u.length < len + 6 then ⟨[], bs, 0⟩
            else
              let q := scanService k (u.drop (len + 6))
              if crc32c (u.take (len + 2)) = ofBytes ((u.drop (len + 2)).take 4) then { q with found := (u.drop 2).take len :: q.found }
              else { q with bad := q.bad + 1 }

end Sys2Proof.Machine
end

