-- ==== Sys2Proof/Machine/DictOps.lean ====
section
/-!
DEFINITION. Operations of the dictionary (spec/14): service of a request by interface and state (R378), partners (R402),
checks of a value (R380, R388), contention (R390), write records (R404), replies and aborts (R379, R389), and the seal
engine's verification (R393 to R396).
-/

namespace Sys2Proof.Machine

/-! ## Abort codes -/

/-- Abort codes of Table 14-6. -/
inductive Abort where
  | noEntry | readOnly | sealRequired | length | range | state | contended | busy | timeout | segment | format | keySlot
  | serial | counter | signature | belayRefused | notPermitted | recovery | baseCamp | internal
  deriving DecidableEq, Repr

def Abort.code : Abort → Nat
  | .noEntry => 1 | .readOnly => 2 | .sealRequired => 3 | .length => 4 | .range => 5 | .state => 6 | .contended => 7 | .busy => 8
  | .timeout => 9 | .segment => 0xA | .format => 0xB | .keySlot => 0xC | .serial => 0xD | .counter => 0xE | .signature => 0xF
  | .belayRefused => 0x10 | .notPermitted => 0x11 | .recovery => 0x12 | .baseCamp => 0x13 | .internal => 0x15

/-- The abort word with its item number, 0xFF for none (14 R389). -/
def abortWord (a : Abort) (item : Nat := 0xFF) : Nat := item * 0x1000000 + a.code

/-- The outcome of applying a write: the new state, or the code that refuses it with the state its refusal leaves. -/
abbrev Applied := Except (Abort × State) State

/-! ## Interfaces and service -/

/-- The CAN controller of an interface code (14 Table 14-1). -/
def canOf (i : Fin 6) : Option (Fin 3) :=
  if i = 0 then some 0 else if i = 1 then some 1 else if i = 4 then some 2 else none

def isService (src : Src) : Bool := src.iface = 5

/-- The controller serves dictionary traffic: on the bus, not LISTEN, not bus-off (14 R378, 13 R369, 20 Table 20-4). -/
def State.canServes (s : State) (k : Fin 3) : Bool :=
  let c := s.cans[k]
  c.onBus && c.mode ≠ 2 && (c.bus = .active || c.bus = .passive) && !(k = 2 && s.mode.block = .baseCamp)

/-- The interface receives requests at all. -/
def State.ifaceHears (s : State) (i : Fin 6) : Bool :=
  match canOf i with
  | some k => s.canServes k
  | none => true

/-- The entries recovery firmware serves for reading (03 R88). -/
def recoveryReads (index sub : Nat) : Bool :=
  (index = 0x2000 && (decide (0x20 ≤ sub ∧ sub ≤ 0x24) || decide (0x40 ≤ sub ∧ sub ≤ 0x46))) || index = 0x1000 || index = 0x1E00

/-- The entries recovery firmware takes writes to (03 R88). -/
def recoveryWrites (index sub : Nat) : Bool := index = 0x1E00 && (sub = 0x0001 || sub = 0x0031)

/-- What becomes of a request before its entry is looked at (14 R378): discarded without a reply, refused, or served. -/
inductive Service where
  | discard
  | refuse (a : Abort)
  | serve
  deriving DecidableEq, Repr

/-- Service by interface and by the state of the device (14 R378, 03 R88, R91, 06 R186). In base camp a sealed request still goes to the seal
engine (06 R182, 14 R399), which settles what becomes of it. -/
def State.service (s : State) (src : Src) (write : Bool) (index sub : Nat) (data : List Byte) : Service :=
  match s.start.fw with
  | .down => .discard
  | .recovery =>
    if !isService src then .discard
    else if write then (if recoveryWrites index sub then .serve else .refuse .recovery)
    else if recoveryReads index sub then .serve else .refuse .recovery
  | .running =>
    if !s.fwUp || !s.ifaceHears src.iface then .discard
    else if s.mode.block = .baseCamp then
      if src.iface = 2 || src.iface = 3 || src.iface = 4 then .discard
      else if write && !(index = 0x2000 && sub = 0x0070 && data = [0x00#8]) && !(index = 0x1E00 && sub = 0x0001) then .refuse .baseCamp
      else .serve
    else .serve

/-- Requests arriving while SWAPPING, or behind one that arrived then, are held (20 Table 20-7; log 21). -/
def State.holding (s : State) : Bool := s.cores.swapping || !s.heldReq.isEmpty

def State.hold (s : State) (c : Instr) : State := { s with heldReq := s.heldReq ++ [c] }

/-- Runs a request now, or holds it for the resume of a core swap. -/
def State.unlessSwapping (s : State) (c : Instr) (f : State → State) : State := if s.holding then s.hold c else f s

/-- IRQ of a request received, by its transport (14 R406, Table 1-8). -/
def requestIrq (src : Src) : Nat :=
  if src.iface = 5 then 82 else if src.iface = 2 ∨ src.iface = 3 then 83 else 84

/-! ## Partners -/

/-- The table entry of a partner that is present. -/
def State.partnerAt (s : State) (src : Src) : Option (Fin 64) :=
  (List.finRange 64).find? fun k =>
    s.dict.partners[k].present && s.dict.partners[k].iface = src.iface.val && s.dict.partners[k].addr = src.addr

/-- An empty entry, else that of the departed partner with the oldest last-seen time (14 R402). -/
def State.partnerRoom (s : State) : Option (Fin 64) :=
  match (List.finRange 64).find? fun k => s.dict.partners[k].iface = 0xFF with
  | some k => some k
  | none =>
    ((List.finRange 64).filter fun k => !s.dict.partners[k].present).foldl (fun best k =>
      match best with
      | none => some k
      | some b => if s.dict.partners[k].last < s.dict.partners[b].last then some k else some b) none

def State.modPartner (s : State) (k : Fin 64) (f : Partner → Partner) : State :=
  s.modDict fun d => { d with partners := upd d.partners k f }

/-- Notes a message of a partner: it joins the table or its last-seen time moves (14 R402). -/
def State.notePartner (s : State) (src : Src) : State :=
  match s.partnerAt src with
  | some k => s.modPartner k fun p => { p with last := s.utc, lastMsg := s.now }
  | none =>
    match s.partnerRoom with
    | some k =>
      (s.modPartner k fun _ => { Partner.empty with iface := src.iface.val, addr := src.addr, present := true, first := s.utc,
                                                    last := s.utc, lastMsg := s.now, cursor := s.evlog.oldest }).event
        0x9020 0x1E01 (k.val + 1) (u8 src.iface.val ++ u32 src.addr)
    | none => s.event 0x9024 0x1E01 0 (u8 src.iface.val ++ u32 src.addr)

/-- A frame received on an Ethernet port: its counter and its interrupt (19 Table 19-5, 01 Table 1-8; log 33). -/
def State.ethIn (s : State) (k : Fin 2) : State :=
  (s.modEth k fun e => { e with counts := upd e.counts 0 sat32 }).irqRaise (86 + 4 * k.val)

/-- The port of an Ethernet interface. -/
def ethOf (i : Fin 6) : Option (Fin 2) := if i = 2 then some 0 else if i = 3 then some 1 else none

/-- Receives a message of a partner: its frame, its IRQ and its partner (14 R402, R406, 19 Table 19-5). -/
def State.receive (s : State) (src : Src) : State :=
  let t := match ethOf src.iface with
    | some k => (s.ethIn k).modEth k fun e => { e with counts := upd e.counts 6 sat32 }
    | none => s
  (t.irqRaise (requestIrq src)).notePartner src

/-- Ends the open transfer of a partner, without a reply (14 R387). -/
def State.dropTransfer (s : State) (src : Src) : State := s.modDict fun d => { d with transfers := d.transfers.filter fun t => t.src ≠ src }

/-- Receives a new request, which discards the partner's open transfer (14 R387). -/
def State.newRequest (s : State) (src : Src) : State := (s.receive src).dropTransfer src

/-- The partner's open transfer. -/
def State.transferOf (s : State) (src : Src) : Option Transfer := s.dict.transfers.find? fun t => t.src = src

/-- Opens a transfer, or moves the open one on. -/
def State.keepTransfer (s : State) (t : Transfer) : State :=
  s.modDict fun d => { d with transfers := (d.transfers.filter fun x => x.src ≠ t.src) ++ [{ t with at_ := s.now }] }

/-! ## Values -/

/-- The elements of a value's bytes, signed as the entry has them. -/
def EntryRow.elements (r : EntryRow) (data : List Byte) : List Int :=
  (List.range (data.length / r.width)).map fun k =>
    let n := ofBytes ((data.drop (k * r.width)).take r.width)
    if r.signed then toSigned (8 * r.width) n else n

/-- Size of an entry's value in bytes. -/
def EntryRow.size (r : EntryRow) : Nat := r.width * r.count

/-- `LENGTH` check (14 R380). -/
def State.lengthOk (s : State) (r : EntryRow) (index sub : Nat) (data : List Byte) : Bool :=
  if r.kind = .str then decide (1 ≤ data.length ∧ data.length ≤ r.size)
  else if index = 0x1E00 ∧ sub = 0x0001 then decide (1 ≤ data.length ∧ data.length ≤ 4096)
  else if index = 0x1E00 ∧ sub = 0x0031 then
    (match s.seng.fw with | some f => decide (data.length = f.length) | none => true)
  else data.length = r.size

/-- `RANGE` check by type and by the entry's stated range (14 R380, R405). -/
def EntryRow.rangeOk (r : EntryRow) (data : List Byte) : Bool :=
  match r.kind with
  | .str =>
    let body := data.takeWhile fun b => b ≠ 0x00#8
    (body.all fun b => decide (0x20 ≤ b.toNat ∧ b.toNat ≤ 0x7E)) && ((data.drop body.length).all fun b => b = 0x00#8)
  | .blob => true
  | _ => (List.range r.count).all fun k =>
      let v := (r.elements data).getD k 0
      decide ((r.rangeOf k).1 ≤ v ∧ v ≤ (r.rangeOf k).2)

/-- The one value of an entry that is not an array. -/
def valueOf (data : List Byte) : Nat := ofBytes data

/-- Stores a value into the entry's place in the dictionary (14 R391: whole). -/
def State.storeValue (s : State) (r : EntryRow) (index sub : Nat) (data : List Byte) : State :=
  match r.kind with
  | .num | .bool => s.forEach (List.range r.count) fun s k =>
      s.setVal index sub k (ofBytes ((data.drop (k * r.width)).take r.width))
  | .str => s.modDict fun d => { d with strs := Sparse.put d.strs (dkey index sub 0) (data ++ List.replicate (r.size - data.length) 0x00#8) }
  | .blob => s.modDict fun d => { d with strs := Sparse.put d.strs (dkey index sub 0) data }

/-! ## Write records and replies -/

/-- The address bytes of a partner (14 Table 14-8, bytes 4 to 7). -/
def addrBytes (src : Src) : List Byte := if src.iface = 5 then u32 0 else u32 src.addr

/-- The 40 bytes of a write record (14 Table 14-9). -/
def writeRecord (src : Src) (index sub : Nat) (data : List Byte) (slot item code counter : Nat) : List Byte :=
  u8 src.iface.val ++ u8 0 ++ addrBytes src ++ u16 index ++ u16 sub ++ u16 data.length ++ u8 slot ++ u8 item ++ u16 code ++
    u64 counter ++ (data.take 16 ++ List.replicate (16 - (data.take 16).length) 0x00#8)

/-- Identifier of a dictionary frame (14 R383). -/
def dictId (func source dest : Nat) : Nat := 0x1C000000 + func * 0x10000 + source * 0x100 + dest

/-- The CAN frame of a dictionary message: its controller, identifier and payload (14 Table 14-5). -/
def canFrameOf (s : State) (m : Message) : Option (Fin 3 × Nat × List Byte) :=
  let frame (a : Src) (func : Nat) (d : List Byte) : Option (Fin 3 × Nat × List Byte) :=
    (canOf a.iface).map fun k => (k, dictId func s.cans[k].node a.addr, d)
  match m with
  | .readReply a index sub total offset d =>
    if total ≤ 60 then frame a 0x81 (u16 index ++ u16 sub ++ d) else frame a 0x83 (u16 index ++ u16 sub ++ u32 total ++ u32 offset ++ d)
  | .writeReply a index sub next => frame a 0x82 (u16 index ++ u16 sub ++ u32 next)
  | .abort a index sub code => frame a 0xFF (u16 index ++ u16 sub ++ u32 code)
  | .heartbeat iface state period => frame ⟨Fin.ofNat 6 iface, 0⟩ 0x70 (u8 state ++ u16 period)
  | _ => none

/-- The partner a reply goes to. -/
def Message.to? : Message → Option Src
  | .readReply a .. | .writeReply a .. | .abort a .. | .heartbeatReply a .. => some a
  | _ => none

/-- The Ethernet port a message leaves by: 0 ETH1, 1 ETH2. -/
def Message.eth : Message → Option (Fin 2)
  | .streamDatagram p .. | .arpReply p | .gratuitousArp p | .icmpReply p | .ptp p .. => some (Fin.ofNat 2 p)
  | m => match m.to? with
    | some a => ethOf a.iface
    | none => none

/-- `TAG` of a partner's last message, which its reply echoes (14 Table 14-4). -/
def State.tagOf (s : State) (src : Src) : Nat := ((s.dict.tags.find? fun t => t.1 = src).map Prod.snd).getD 0

/-- Keeps the `TAG` that the partner's next reply echoes. -/
def State.setTag (s : State) (src : Src) (tag : Nat) : State :=
  s.modDict fun d => { d with tags := (d.tags.filter fun t => t.1 ≠ src) ++ [(src, tag)] }

/-- A reply as the message of Table 14-4; the code of an `ABORT` is its data. -/
def wireOf (tag : Nat) : Message → Option WireMessage
  | .readReply _ index sub total offset d => some ⟨0x81, tag, index, sub, total, offset, d⟩
  | .writeReply _ index sub next => some ⟨0x82, tag, index, sub, 0, next, []⟩
  | .abort _ index sub code => some ⟨0xFF, tag, index, sub, 0, 0, u32 code⟩
  | .heartbeatReply _ state period => some ⟨0x85, tag, 0, 0, 0, 0, u8 state ++ u16 period⟩
  | _ => none

/-- The bytes a reply takes over UDP, or framed over the service port (14 R381, R382). -/
def State.wireBytes (s : State) (m : Message) : List (List Byte) :=
  match m.to? with
  | none => []
  | some a =>
    if (ethOf a.iface).isNone && a.iface ≠ 5 then []
    else ((wireOf (s.tagOf a) m).map fun w => if a.iface = 5 then serviceFrame w.bytes else w.bytes).toList

/-- Hands a message to the transmit side (14 R381 to R383): a message over Ethernet counts as a frame sent, one over CAN waits in its
controller's transmit buffer. -/
def State.send (s : State) (m : Message) : State :=
  let t := s.modDict fun d => { d with sent := d.sent ++ [m], wire := d.wire ++ s.wireBytes m }
  match m.eth with
  | some k => (t.modEth k fun e => { e with counts := upd e.counts 1 sat32 }).irqRaise (87 + 4 * k.val)
  | none => match canFrameOf s m with
    | some f => t.modCan f.1 fun c => { c with dictOut := c.dictOut ++ [f.2] }
    | none => t

/-- Answers with `ABORT` and counts it (14 R379, Table 14-11). -/
def State.abort (s : State) (src : Src) (index sub : Nat) (word : Nat) : State :=
  (s.modDict fun d => { d with aborts := upd d.aborts src.iface sat32 }).send (.abort src index sub word)

/-- Refuses a plain write (14 R404): event 0x900A, `BUSY_SEEN` where it was busy. -/
def State.refuseWrite (s : State) (src : Src) (index sub : Nat) (data : List Byte) (a : Abort) : State :=
  let t := s.event 0x900A index sub (writeRecord src index sub data 0xFF 0xFF a.code 0)
  let t := if a = .busy then t.modSeng fun g => { g with seen := g.seen ||| 2 } else t
  t.abort src index sub (abortWord a)

/-- Refuses a write that the state of the device leaves unserved (14 R378). In base camp a request to enter it fails its first condition: IRQ 123
and event 0xE011 (06 R181). -/
def State.refuseService (s : State) (src : Src) (index sub : Nat) (data : List Byte) (a : Abort) : State :=
  let t := if a = .baseCamp ∧ index = 0x2000 ∧ sub = 0x0070 ∧ data = [0x01#8] then (s.event 0xE011 0x2000 0 (u8 1)).irqRaise 123 else s
  t.refuseWrite src index sub data a

/-- Entries of the CAN controllers (13 Table 13-15). -/
def isCan (index : Nat) : Bool := decide (0x1800 ≤ index ∧ index ≤ 0x1842)

/-- Events the spec names for a plain write refused with `RANGE`: `RECESS` (05 R154), the CAN entries (13 R375). -/
def State.rangeEvent (s : State) (index sub : Nat) (data : List Byte) (a : Abort) : State :=
  if a ≠ .range then s
  else if index = 0x2000 ∧ sub = 0x0052 then s.event 0x200A index 0 (u16 (ofBytes data))
  else if isCan index then s.canEvent (Fin.ofNat 3 (index % 16)) 0x800D sub
  else if index = 0x2000 ∧ sub = 0x0172 then s.event 0x800D index sub
  else s

/-- Refuses the loser of a same-tick contention (14 R390): IRQ 85, event 0x900B. -/
def State.refuseContended (s : State) (src : Src) (index sub : Nat) (data : List Byte) : State :=
  let t := ((s.irqRaise 85).modDict fun d => { d with contended := sat32 d.contended }).modSeng fun g => { g with seen := g.seen ||| 4 }
  (t.event 0x900B index sub (writeRecord src index sub data 0xFF 0xFF Abort.contended.code 0)).abort src index sub (abortWord .contended)

/-- The entry that a command writes plainly and whole, with its sender; none of a command that writes no entry. -/
def plainTarget : Instr → Option (Src × Nat × Nat)
  | .write src index sub total offset data _ => if offset + data.length = total then some (src, index, sub) else none
  | .registerWrite src index sub _ => some (src, index, sub)
  | .cfgStore src _ => some (src, 0x1C01, 0x0006)
  | .trustErase src _ => some (src, 0x1E00, 0x0029)
  | .requestStandby src | .requestArmed src | .requestService src => some (src, 0x2000, 0x0002)
  | .recessWrite src _ => some (src, 0x2000, 0x0052)
  | .balModeWrite src _ => some (src, 0x2000, 0x0060)
  | .baseCampEnterReq src | .baseCampLeaveReq src _ _ => some (src, 0x2000, 0x0070)
  | .wakeOutAck src _ => some (src, 0x2000, 0x0076)
  | .corrEnableWrite src _ => some (src, 0x2000, 0x0100)
  | .learnWriteReq src _ => some (src, 0x2000, 0x0120)
  | .tpClear src _ => some (src, 0x2000, 0x0152)
  | .qRequest src _ => some (src, 0x2000, 0x015B)
  | .qDrop src _ => some (src, 0x2000, 0x015C)
  | .qClear src _ => some (src, 0x2000, 0x015D)
  | .bankOpen src b _ => some (src, 0x2101 + b.val, 0x0004)
  | .faultClear src b _ => some (src, 0x2101 + b.val, 0x0005)
  | .gateClear src b _ => some (src, 0x2101 + b.val, 0x0044)
  | .openString src i _ => some (src, 0x2201 + i.val, 0x0004)
  | .tripClear src i _ => some (src, 0x2201 + i.val, 0x0005)
  | .excludeSet src i | .excludeClear src i => some (src, 0x2201 + i.val, 0x0009)
  | .ropeModeReq src i _ => some (src, 0x2201 + i.val, 0x0011)
  | .rollCallRequest src i _ => some (src, 0x2201 + i.val, 0x0013)
  | .statsClear src i _ => some (src, 0x2201 + i.val, 0x005F)
  | .balMaskReqWrite src i _ => some (src, 0x2201 + i.val, 0x0061)
  | .canMode src k _ _ => some (src, 0x1800 + k.val, 0x0001)
  | .bitTimingWrite src k fast _ => some (src, 0x1800 + k.val, if fast then 4 else 3)
  | .busoffRecover src k _ => some (src, 0x1800 + k.val, 0x0007)
  | .dupClear src k _ => some (src, 0x1800 + k.val, 0x0009)
  | .moTxReq src k _ => some (src, 0x1800 + k.val, 0x000C)
  | .moCancel src k _ => some (src, 0x1800 + k.val, 0x000D)
  | .moCfgWrite src k o _ => some (src, 0x1810 + k.val, o.val + 1)
  | .moDataWrite src k o _ => some (src, 0x1830 + k.val, o.val + 1)
  | .ethApply src _ => some (src, 0x1A00, 0x0001)
  | .throttleSelect src _ => some (src, 0x1B00, 0x0005)
  | .rateLimitWrite src code _ => some (src, 0x1C00, code)
  | .phyRestore src _ => some (src, 0x1D00, 0x0007)
  | _ => none

/-- A write to the entry in the present SYS tick comes from an interface of lower code: it has been taken, or it is still among the commands
of the tick (14 R390; log 22). -/
def State.contendedBy (s : State) (src : Src) (index sub : Nat) : Bool :=
  (s.dict.tickWrites.1 = s.sysTicks && s.dict.tickWrites.2.any fun w => w.1 = index && w.2.1 = sub && decide (w.2.2 < src.iface.val)) ||
    s.pending.any fun c => match plainTarget c with
      | some w => decide (w.1.iface.val < src.iface.val) && s.ifaceHears w.1.iface && w.2.1 = index && w.2.2 = sub
      | none => false

def State.noteTickWrite (s : State) (src : Src) (index sub : Nat) : State :=
  s.modDict fun d => { d with tickWrites := (s.sysTicks, (if d.tickWrites.1 = s.sysTicks then d.tickWrites.2 else []) ++ [(index, sub, src.iface.val)]) }

/-! ## Repeats and waiting writes (14 R387, R390) -/

/-- Notes a partner's last completed write by its final message. -/
def State.noteLast (s : State) (w : LastWrite) : State :=
  s.modDict fun d => { d with lastWrites := (d.lastWrites.filter fun x => x.src ≠ w.src) ++ [{ w with at_ := s.now }] }

/-- The message repeats the final message of the partner's last completed write, within 1 s of its completion (14 R387). -/
def State.repeats (s : State) (src : Src) (index sub total offset : Nat) (data : List Byte) : Bool :=
  s.dict.lastWrites.any fun w => w.src = src && w.index = index && w.sub = sub && w.total = total && w.offset = offset &&
    w.data = data && decide (s.now ≤ w.at_ + sec 1)

/-- The items of a sealed request, when they fill it exactly (14 R392). -/
def parseItems : Nat → List Byte → Option (List SealItem)
  | 0, bs => if bs = [] then some [] else none
  | n + 1, bs =>
    let len := ofBytes ((bs.drop 4).take 2)
    let rest := bs.drop 6
    if bs.length < 6 ∨ rest.length < len then none
    else (parseItems n (rest.drop len)).map fun l => ⟨ofBytes (bs.take 2), ofBytes ((bs.drop 2).take 2), rest.take len⟩ :: l

/-- The head that bytes written to `SEAL_SUBMIT` spell (14 Table 14-7). -/
def parseHead (src : Src) (bs : List Byte) : SealHead :=
  let num (k n : Nat) : Nat := ofBytes ((bs.drop k).take n)
  { src := src, magic := num 0 1, format := num 1 1, slot := num 2 1, counter := num 4 8, serial := num 12 8, sig := bs.drop (bs.length - 64) }

/-- The request that bytes written to `SEAL_SUBMIT` spell (14 Table 14-7); none where its items do not fill it exactly. -/
def parseSealed (src : Src) (bs : List Byte) : Option SealedReq :=
  let n := ofBytes ((bs.drop 3).take 1)
  if bs.length < 84 then none
  else (parseItems n ((bs.take (bs.length - 64)).drop 20)).map fun items => { head := parseHead src bs, count := n, items := items }

def reqNames (r : SealedReq) (index sub : Nat) : Bool := r.items.any fun i => i.index = index && i.sub = sub

/-- A waiting request names the entry. -/
def SealWait.names (w : SealWait) (index sub : Nat) : Bool :=
  match parseSealed w.src w.bytes with
  | some r => reqNames r index sub
  | none => false

/-- A sealed request that is still being verified or applied names the entry (14 R390). -/
def State.sealHolds (s : State) (index sub : Nat) : Bool :=
  s.seng.forwarded.any (fun r => reqNames r index sub) || s.seng.actions.any (fun a => reqNames a.2 index sub) ||
    s.seng.queue.any (fun w => w.names index sub)

/-- A sealed request holds the entry, or a write to it waits already (14 R390). -/
def State.entryHeld (s : State) (index sub : Nat) : Bool :=
  s.sealHolds index sub || s.waitingWrites.any fun w => w.index = index && w.sub = sub

/-- Records and answers an applied plain write (14 R404): one token, event 0x9001 + interface, `WRITE_COUNT`, reply. -/
def State.answerWrite (s : State) (src : Src) (index sub : Nat) (data : List Byte) : State :=
  let t := s.modDict fun d => { d with writes := upd d.writes src.iface sat32 }
  (t.event (0x9001 + src.iface.val) index sub (writeRecord src index sub data 0xFF 0xFF 0 0)).send (.writeReply src index sub data.length)

/-- The checks of a plain write before it is applied, in the order of Table 14-6 (14 R380, R388, R404, R408). -/
def State.writeCheck (s : State) (src : Src) (index sub : Nat) (data : List Byte) : Except Abort EntryRow :=
  match entryOf index sub with
  | none => .error .noEntry
  | some r =>
    if r.access = .ro then .error .readOnly
    else if r.access = .rws ∨ r.access = .xs then .error .sealRequired
    else if !s.lengthOk r index sub data then .error .length
    else if !r.rangeOk data then .error .range
    else if s.tokens (0x9001 + src.iface.val) = 0 || decide (stagingSize ≤ s.evlog.staged.length) then .error .busy
    else .ok r

/-- Carries out a plain write that has been received: contention, checks, effect, record and reply. `apply` is the entry's own effect,
`after` what follows its reply, `last` the offset and data of the final message. -/
def State.writeNow (s : State) (src : Src) (index sub : Nat) (data : List Byte) (apply : EntryRow → State → Applied)
    (after : State → State) (last : Nat × List Byte) : State :=
  if s.contendedBy src index sub then s.refuseContended src index sub data
  else
    let s := s.noteTickWrite src index sub
    match s.writeCheck src index sub data with
    | .error a => (s.rangeEvent index sub data a).refuseWrite src index sub data a
    | .ok r =>
      match apply r s with
      | .error e => (e.2.rangeEvent index sub data e.1).refuseWrite src index sub data e.1
      | .ok t => (after (t.answerWrite src index sub data)).noteLast
          { src := src, index := index, sub := sub, total := data.length, offset := last.1, data := last.2, at_ := 0 }

/-- Takes a plain write through: service, partner, repeat and wait, then the write itself. `fin` is the offset and data of the final message
of a segmented write. -/
def State.writeVia (s : State) (src : Src) (index sub : Nat) (data : List Byte) (apply : EntryRow → State → Applied)
    (after : State → State := id) (fin : Option (Nat × List Byte) := none) : State :=
  let last := fin.getD (0, data)
  match s.service src true index sub data with
  | .discard => s
  | .refuse a => (s.newRequest src).refuseService src index sub data a
  | .serve =>
    if s.repeats src index sub data.length last.1 last.2 then (s.newRequest src).send (.writeReply src index sub data.length)
    else if s.entryHeld index sub then
      let t := s.newRequest src
      { t with waitingWrites := t.waitingWrites ++ [⟨src, index, sub, data, last, t.tagOf src⟩] }
    else (s.newRequest src).writeNow src index sub data apply after last

/-! ## Sealed requests -/

def State.slotUsed (s : State) (k : Nat) : Bool := if h : k < 8 then s.seng.slots[k].key.isSome else false

/-- Every slot is empty, `TRUST_EMPTY` (14 R399). -/
def State.trustEmpty (s : State) : Bool := (List.range 8).all fun k => !s.slotUsed k

/-- The key of a slot. -/
def State.keyOf (s : State) (k : Nat) : Option (List Byte) := if h : k < 8 then s.seng.slots[k].key else none

/-- The entry is an envelope record of Table 11-4 (11 R304). -/
def isEnvelope (index sub : Nat) : Bool :=
  (decide (0x2401 ≤ index ∧ index ≤ 0x2404) && decide (1 ≤ sub ∧ sub ≤ 0xD)) ||
  (decide (0x2201 ≤ index ∧ index ≤ 0x2228) && (sub = 0x0008 || sub = 0x0080 || sub = 0x0019)) ||
  (decide (0x2101 ≤ index ∧ index ≤ 0x2104) && decide (0x10 ≤ sub ∧ sub ≤ 0x13))

/-- The entry is a safety I/O record (12 R317). -/
def isSafetyIo (index sub : Nat) : Bool :=
  (decide (0x2101 ≤ index ∧ index ≤ 0x2104) && sub = 0x0050) ||
  (index = 0x2000 && (sub = 0x0158 || decide (0x0168 ≤ sub ∧ sub ≤ 0x016C)))

def isTrustKey (index sub : Nat) : Bool := index = 0x1E00 && decide (0x10 ≤ sub ∧ sub ≤ 0x17)

/-- Access of an item's entry; entries that do not exist are left to R397. -/
def accessOf (index sub : Nat) : Option Access := (entryOf index sub).map EntryRow.access

/-- Records an item forwards to the belay logic: one per element (11 R305). -/
def itemRecords (i : SealItem) : Nat :=
  if isEnvelope i.index i.sub || isSafetyIo i.index i.sub then
    (match entryOf i.index i.sub with | some r => r.count | none => 0)
  else 0

/-- Composition of a request (14 R396). -/
def compositionOk (items : List SealItem) : Bool :=
  let env := items.any fun i => isEnvelope i.index i.sub
  let io := items.any fun i => isSafetyIo i.index i.sub
  let trust := items.any fun i => isTrustKey i.index i.sub
  let xs := items.any fun i => accessOf i.index i.sub = some .xs
  let ro := items.any fun i => accessOf i.index i.sub = some .ro
  !ro && (if xs then items.length = 1 else if trust then items.all fun i => isTrustKey i.index i.sub else !(env && io)) &&
    decide ((items.map itemRecords).foldl (· + ·) 0 ≤ 64)

/-- `FORMAT` of R394: magic, format, slot bits, item count and composition. -/
def sealFormatOk (r : SealedReq) : Bool :=
  r.head.magic = 0x5E && r.head.format = 1 && decide (r.head.slot < 8) && decide (1 ≤ r.count ∧ r.count ≤ 64) &&
    r.count = r.items.length && decide (r.message.length + 64 ≤ 4096) && compositionOk r.items

/-- The signature of a request verifies under a key (14 R393). -/
def signedBy (r : SealedReq) (key : List Byte) : Bool := edVerifies key r.message r.head.sig

/-- The checks of R394 in their order. -/
def State.sealCheck (s : State) (r : SealedReq) : Option Abort :=
  if !sealFormatOk r then some .format
  else if !s.slotUsed r.head.slot then some .keySlot
  else if r.head.serial ≠ s.serial then some .serial
  else if (if h : r.head.slot < 8 then decide (r.head.counter ≤ s.seng.slots[r.head.slot].counter) else true) then some .counter
  else if !signedBy r ((s.keyOf r.head.slot).getD []) then some .signature
  else none

/-- The outstanding submission is that of the request. -/
def Submitted.of (r : SealedReq) (w : Submitted) : Bool := w.last.src = r.head.src && w.bytes = r.bytes

/-- Notes a sealed request that is received, with the final message that brought it and its `TAG`. -/
def State.noteSubmitted (s : State) (src : Src) (bytes : List Byte) (last : Nat × List Byte) : State :=
  let w : LastWrite := { src := src, index := 0x1E00, sub := 1, total := bytes.length, offset := last.1, data := last.2, at_ := 0 }
  s.modDict fun d => { d with submitted := d.submitted ++ [⟨bytes, w, s.tagOf src⟩] }

/-- Ends the submission of a request that is about to be answered, whose reply echoes its own `TAG` (14 R381). -/
def State.closeSubmitted (s : State) (r : SealedReq) : State :=
  match s.dict.submitted.find? (Submitted.of r) with
  | some w => (s.modDict fun d => { d with submitted := d.submitted.erase w }).setTag r.head.src w.tag
  | none => s

/-- Refuses a sealed request: IRQ 81, event 0x9009, `REJECT_SEEN`, `SEAL_RESULT` and the abort (14 R394, R404); no reply to one that a
processor restart has orphaned (R378). -/
def State.refuseSealed (s : State) (r : SealedReq) (a : Abort) (item : Nat := 0xFF) (verdict : Bool := false) (orphan : Bool := false) : State :=
  let t := if verdict then s.irqRaise 81 else s
  let i := r.items.getD item r.first
  let t := t.event 0x9009 0x1E00 item (writeRecord r.head.src i.index i.sub i.data r.head.slot item a.code r.head.counter)
  let t := t.modSeng fun g => { g with seen := g.seen ||| (8 + if a = .busy then 2 else 0), result := abortWord a item }
  if orphan then t else (t.closeSubmitted r).abort r.head.src 0x1E00 1 (abortWord a item)

/-- Refuses the sealed request that loses a same-tick contention (14 R390, R397): IRQ 85, event 0x900B, `SEAL_RESULT`; no counter is consumed. -/
def State.refuseSealedContended (s : State) (r : SealedReq) : State :=
  let t := ((s.irqRaise 85).modDict fun d => { d with contended := sat32 d.contended }).modSeng fun g => { g with
    seen := g.seen ||| 4, result := abortWord .contended }
  let t := t.event 0x900B r.first.index r.first.sub
    (writeRecord r.head.src r.first.index r.first.sub r.first.data r.head.slot 0xFF Abort.contended.code r.head.counter)
  (t.closeSubmitted r).abort r.head.src 0x1E00 1 (abortWord .contended)

/-- Consumes the counter of a verified request (14 R395). -/
def State.consumeCounter (s : State) (r : SealedReq) : State :=
  if h : r.head.slot < 8 then
    s.modSeng fun g => { g with
      slots := upd g.slots ⟨r.head.slot, h⟩ fun k => { k with counter := r.head.counter },
      storePending := g.storePending ||| 2 ^ r.head.slot }
  else s

/-- The front of the seal engine's queue, when the request stands there: its write of `SEAL_SUBMIT` has been accepted already. -/
def State.atEngine (s : State) (r : SealedReq) : Option SealWait :=
  s.seng.queue.head?.filter fun w => w.src = r.head.src && w.bytes = r.bytes

/-- Takes the front out of the seal engine's queue. -/
def State.unqueue (s : State) : State := s.modSeng fun g => { g with queue := g.queue.tail }

/-- A request of which only the head can be read. -/
def SealWait.headless (w : SealWait) : SealedReq := { head := parseHead w.src w.bytes, count := 0, items := [] }

/-- Requests without a form that have come to the front of the queue are refused there (14 R394). -/
def State.dropShapeless : List SealWait → State → State
  | [], s => s
  | w :: rest, s => match parseSealed w.src w.bytes with
    | some _ => s
    | none => State.dropShapeless rest (s.unqueue.refuseSealed w.headless .format 0xFF true w.orphan)

/-- Records every item of an applied request (14 R404) and answers it: `SEAL_RESULT` 0, `WRITE_REPLY`. -/
def State.answerSealed (s : State) (r : SealedReq) : State :=
  let t := s.forEach r.items.zipIdx fun s p =>
    s.event 0x9008 p.1.index p.1.sub (writeRecord r.head.src p.1.index p.1.sub p.1.data r.head.slot p.2 0 r.head.counter)
  let t := t.modSeng fun g => { g with result := 0 }
  let whole : LastWrite := { src := r.head.src, index := 0x1E00, sub := 1, total := r.bytes.length, offset := 0, data := r.bytes, at_ := 0 }
  let t := t.noteLast (((t.dict.submitted.find? (Submitted.of r)).map Submitted.last).getD whole)
  let t := t.modDict fun d => { d with writes := upd d.writes r.head.src.iface sat32 }
  (t.closeSubmitted r).send (.writeReply r.head.src 0x1E00 1 r.bytes.length)

/-- A write of the same tick, from an interface of lower code, names an entry of the request (14 R390). -/
def State.sealContended (s : State) (r : SealedReq) : Bool := r.items.any fun i => s.contendedBy r.head.src i.index i.sub

/-- The request repeats one that its partner has had answered within 1 s (14 R387). -/
def State.repeatsSealed (s : State) (r : SealedReq) : Bool := s.repeats r.head.src 0x1E00 1 r.bytes.length 0 r.bytes

/-- The waiting requests that arrived in the present tick and name an entry of `r` (14 R390). -/
def State.tickRivals (s : State) (r : SealedReq) : List SealWait :=
  s.seng.queue.filter fun w => w.tick = s.sysTicks && w.src.iface ≠ r.head.src.iface && r.items.any fun i => w.names i.index i.sub

/-- The request may not join the queue (14 R394, R404): 8 wait already, or its records would find no token or no room. -/
def State.sealFull (s : State) (r : SealedReq) : Bool :=
  decide (8 ≤ s.seng.queue.length) || decide (s.tokens 0x9008 < r.items.length) || decide (stagingSize < s.evlog.staged.length + r.items.length)

/-- Bytes handed to the seal engine (14 R390, R394): of two requests of one tick that name a common entry the one from the interface of lower
code stays, a ninth waiting is refused, and one without a form is refused once it stands at the front. -/
def State.submit (s : State) (src : Src) (data : List Byte) : State :=
  let w : SealWait := { src := src, bytes := data, tick := s.sysTicks, orphan := false }
  let r := (parseSealed src data).getD w.headless
  let rivals := s.tickRivals r
  if s.mode.block = .off then s.refuseSealed r .state
  else if s.sealFull r then s.refuseSealed r .busy
  else if rivals.any fun q => decide (q.src.iface.val < src.iface.val) then s.refuseSealedContended r
  else
    let t := s.forEach rivals fun t q =>
      (t.modSeng fun g => { g with queue := g.queue.erase q }).refuseSealedContended ((parseSealed q.src q.bytes).getD q.headless)
    let t := t.modSeng fun g => { g with queue := g.queue ++ [w] }
    State.dropShapeless t.seng.queue t

/-- What recovery firmware accepts inside a sealed request: firmware transfers and `RESET_REQUEST` (03 R88). -/
def recoverySealed (r : SealedReq) : Bool :=
  r.items.all fun i => (i.index = 0x1E00 && (i.sub = 0x0030 || i.sub = 0x0032)) || (i.index = 0x2000 && i.sub = 0x0023)

/-- What firmware does with the verified items of a request: refuses it (`item` 0xFF for none), applies it, or decides later,
when the belay logic has taken the pass or committed the records (09 R248, 11 R305). -/
inductive SealEnd where
  | refused (a : Abort) (item : Nat) (t : State)
  | applied (t : State)
  | awaits (t : State)

/-- The end of a request that is applied whole or not at all. -/
def SealEnd.of (s : State) : Except (Abort × Nat) State → SealEnd
  | .error e => .refused e.1 e.2 s
  | .ok t => .applied t

/-- The request has the form of a provisioning request (14 R399): one item, `TRUST_KEY` of the slot its `KEY_SLOT` names, `COUNTER` at
least 1. -/
def provShape (r : SealedReq) : Bool :=
  match r.items with
  | [i] => i.index = 0x1E00 && i.sub = 0x0010 + r.head.slot && decide (1 ≤ r.head.counter)
  | _ => false

/-- The checks of a provisioning request (14 R394, R399); its signature is judged under the key it carries. -/
def State.provCheck (s : State) (r : SealedReq) : Option Abort :=
  if !sealFormatOk r then some .format
  else if !isService r.head.src || !s.supply.prov then some .notPermitted
  else if r.head.serial ≠ s.serial then some .serial
  else if !signedBy r r.first.data then some .signature
  else none

/-- What base camp admits of a verified request (06 R186, 14 R399): provisioning, and `BASE_CAMP_REQ` written 0x00. -/
def campSealed (r : SealedReq) (prov : Bool) : Bool :=
  prov || r.items.all fun i => i.index = 0x2000 && i.sub = 0x0070 && i.data = [0x00#8]

/-- The seal engine's verdict on a request (14 R394, R395, R404): refused, or verified and handed on with its counter consumed. `act` is what
firmware does with the verified items; `prov`, the request is a provisioning request; `orphan`, it is neither applied nor answered (R378). -/
def State.sealJudge (s : State) (r : SealedReq) (prov orphan : Bool) (act : State → SealEnd) : State :=
  if s.tokens 0x9008 < r.items.length || decide (stagingSize < s.evlog.staged.length + r.items.length) then s.refuseSealed r .busy 0xFF false orphan
  else if s.mode.block = .off then s.refuseSealed r .state 0xFF false orphan
  else
    match (if prov then s.provCheck r else s.sealCheck r) with
    | some a => s.refuseSealed r a 0xFF true orphan
    | none =>
      let s := (if prov then s else s.consumeCounter r).irqRaise 80
      let s := s.forEach r.items fun s i => s.noteTickWrite r.head.src i.index i.sub
      if orphan || (!s.fwUp && s.start.fw ≠ .recovery) then s
      else if s.start.fw = .recovery && !(prov || recoverySealed r) then s.refuseSealed r .recovery
      else if s.mode.block = .baseCamp && !campSealed r prov then s.refuseSealed r .baseCamp
      else
        match act s with
        | .refused a item t => t.refuseSealed r a item
        | .applied t => t.answerSealed r
        | .awaits t => t

/-- Takes a sealed request through the seal engine (14 R390, R394): the one at the front of the queue is judged, and a new one too when none
waits; else it joins the queue. -/
def State.sealedThrough (s : State) (r : SealedReq) (prov : Bool) (act : State → SealEnd) : State :=
  let src := r.head.src
  match s.atEngine r with
  | some w =>
    let t := s.unqueue.sealJudge r prov w.orphan act
    State.dropShapeless t.seng.queue t
  | none =>
    match s.service src true 0x1E00 1 [] with
    | .discard => s
    | .refuse a => (s.newRequest src).refuseSealed r a
    | .serve =>
      let t := s.newRequest src
      if s.repeatsSealed r then t.send (.writeReply src 0x1E00 1 r.bytes.length)
      else
        let t := t.noteSubmitted src r.bytes (0, r.bytes)
        if !t.seng.queue.isEmpty then t.submit src r.bytes
        else if t.sealContended r then t.refuseSealedContended r
        else t.sealJudge r prov false act

/-- A sealed request under a key of the trust list. -/
def State.sealedVia (s : State) (r : SealedReq) (act : State → SealEnd) : State := s.sealedThrough r false act

/-- Checks of one item against its entry (14 R397): `NO_ENTRY`, `LENGTH`, `RANGE`. -/
def State.itemCheck (s : State) (i : SealItem) : Option Abort :=
  match entryOf i.index i.sub with
  | none => some .noEntry
  | some r => if !s.lengthOk r i.index i.sub i.data then some .length else if !r.rangeOk i.data then some .range else none

/-- First item that fails its check, with its number. -/
def State.firstBad (s : State) (items : List SealItem) : Option (Abort × Nat) :=
  (items.zipIdx.filterMap fun p => (s.itemCheck p.1).map fun a => (a, p.2)).head?

/-- Creates the hall pass of an actuation command (09 R248, Table 9-4): the value must lie in range, and no pass is created in
base camp. While `PFW` is set the request is refused and its pass left to expire (03 R96). -/
def State.createPass (s : State) (r : SealedReq) (p : Pass) : SealEnd :=
  match s.firstBad r.items with
  | some e => .refused e.1 e.2 s
  | none =>
    if s.mode.block = .baseCamp then .refused .state 0 s
    else
      let p := { p with check := p.checkOf }
      let t := s.modBelay fun b => { b with privQ := b.privQ ++ [.pass p] }
      if s.supply.pfw then .refused .state 0 t
      else .awaits (t.modSeng fun g => { g with actions := g.actions ++ [(p, r)] })

/-- Answers the request whose pass the belay logic has taken: `WRITE_REPLY` when firmware acts on it, else `STATE` (14 R397). -/
def State.finishAction (s : State) (p : Pass) (acted : Bool) : State :=
  match s.seng.actions.find? fun a => a.1 = p with
  | none => s
  | some a =>
    let t := s.modSeng fun g => { g with actions := g.actions.erase a }
    if acted then t.answerSealed a.2 else t.refuseSealed a.2 .state 0

end Sys2Proof.Machine
end

