-- ==== Sys2Proof/Machine/Frames.lean ====
section
/-!
DEFINITION. Master frames of the Basholt link as bytes (spec/04 R104, R108, Tables 4-2 and 4-6): how a port forms one and what a node
reads from the bytes it receives, with the payloads of the commands (05 Table 5-2, 06 Tables 6-3 and 6-4).
-/

namespace Sys2Proof

/-- A master frame (04 Table 4-2): preamble, sync, `CMD`, `ADDR`, `FCNT` and `LEN`, payload, and the CRC-16 over bytes 2 to its end. -/
def masterFrame (far : Bool) (code addr fcnt : Nat) (payload : List Byte) : List Byte :=
  let body := u8 (bitAt far 7 + code % 128) ++ u16 (addr % 64 * 1024 + fcnt % 64 * 16 + payload.length / 2 % 16) ++ payload
  u8 0x55 ++ u8 0x5D ++ body ++ u16 (Machine.crc16 body)

namespace NodeRx

/-- `CMD` as received. -/
def cmd (f : NodeRx) : Nat := ofBytes ((f.bytes.drop 2).take 1)

/-- `FAR`: the frame may cross the boundary (04 R122). -/
def far (f : NodeRx) : Bool := f.cmd.testBit 7

/-- The command code, `CMD` bits 6 to 0. -/
def code (f : NodeRx) : Nat := f.cmd % 128

/-- Bytes 3 and 4: `ADDR`, `FCNT`, `LEN`. -/
def word (f : NodeRx) : Nat := ofBytes ((f.bytes.drop 3).take 2)

def addr (f : NodeRx) : Nat := f.word / 1024 % 64

def fcnt (f : NodeRx) : Nat := f.word / 16 % 64

/-- Payload length in units of 2 bytes. -/
def len (f : NodeRx) : Nat := f.word % 16

def payload (f : NodeRx) : List Byte := (f.bytes.drop 5).take (2 * f.len)

/-- `n` payload bytes from payload byte `k` on, as a number. -/
def field (f : NodeRx) (k n : Nat) : Nat := ofBytes ((f.payload.drop k).take n)

/-- A whole frame of a master whose CRC-16, computed over bytes 2 to the end of the payload, is the transmitted value (04 R104, R108). -/
def crcOk (f : NodeRx) : Bool :=
  f.bytes.take 2 = u8 0x55 ++ u8 0x5D && f.bytes.length = 7 + 2 * f.len &&
    Machine.crc16 ((f.bytes.drop 2).take (3 + 2 * f.len)) = ofBytes (f.bytes.drop (5 + 2 * f.len))

/-- The first and the last hop a range command names (04 R110). -/
def firstHop (f : NodeRx) : Nat := f.field 0 1
def lastHop (f : NodeRx) : Nat := f.field 1 1

end NodeRx

/-! ## Payloads (04 Table 4-6) -/

/-- A range of hops, and the two bytes of `SET_FILTER` and of the roll-call frames. -/
def pairPayload (a b : Nat) : List Byte := u8 a ++ u8 b

/-- `SET_SERVE`: first and last position, end 0x01 A or 0x02 B, deepest hop H, hop delay d in 1 ns. -/
def servePayload (first last : Nat) (toB : Bool) (deep delay : Nat) : List Byte :=
  u8 first ++ u8 last ++ u8 (if toB then 2 else 1) ++ u8 deep ++ u16 delay

/-- `TRIGGER` (05 Table 5-2): low 16 bits of the traverse number, recess in 0.1 ms, flags, period in 1 ms. -/
def triggerPayload (number recess flags period : Nat) : List Byte :=
  u16 (number % 65536) ++ u8 (min 255 recess) ++ u8 flags ++ u16 period

/-- `SET_CONFIG`: communication-loss timeout in 100 ms and the base-camp fields of 06 Table 6-3. -/
def configPayload (timeout fields : Nat) : List Byte := u16 timeout ++ u32 fields

/-- `BASE_CAMP` (06 Table 6-4): `BC_TEMP` as I8 and the flags. -/
def campPayload (temp : Int) (flags : Nat) : List Byte := u8 (ofSigned 8 temp) ++ u8 flags

end Sys2Proof
end

