-- ==== Sys2Proof/Machine/PortOps.lean ====
section
/-!
DEFINITION. The ports of the ropes (spec/04 R104, R115, R117, R140, R141, Tables 4-13 and 4-16): an end's port, its statistics and events,
the frames it sends, and the start of a roll call.
-/

namespace Sys2Proof.Machine

/-! ## Ports -/

def Rope.port (r : Rope) : PortEnd → Port
  | .a => r.portA
  | .b => r.portB

def Rope.modPort (r : Rope) (e : PortEnd) (f : Port → Port) : Rope :=
  match e with
  | .a => { r with portA := f r.portA }
  | .b => { r with portB := f r.portB }

def State.modEnd (s : State) (i : Fin 40) (e : PortEnd) (f : Port → Port) : State := s.modRope i fun r => r.modPort e f

/-- PRTnn number of a string's port (01 Table 1-5). -/
def portNo (i : Fin 40) : PortEnd → Nat
  | .a => i.val + 1
  | .b => i.val + 41

/-- Counts in entry `k` of Table 4-16. -/
def State.portStat (s : State) (i : Fin 40) (e : PortEnd) (k : Fin 10) (by_ : Nat := 1) : State :=
  s.modEnd i e fun p => { p with stats := upd p.stats k fun n => satAdd max32 n by_ }

/-- Sends a master frame: it is counted, and `FCNT` of the port moves on (04 R104). -/
def State.sendFrame (s : State) (i : Fin 40) (e : PortEnd) (far : Bool) (code addr : Nat) (payload : List Byte) : State :=
  (s.portStat i e 0).modEnd i e fun p => { p with
    fcnt := (p.fcnt + 1) % 64, frames := p.frames ++ [masterFrame far code addr p.fcnt payload] }

/-- One more command for each of the nodes named, in the prediction of the port engine (04 R115). -/
def State.predict (s : State) (i : Fin 40) (ps : List Nat) : State :=
  s.modRope i fun r => { r with
    predicted := Vector.ofFn fun k : Fin 33 => if ps.contains k.val then (r.predicted[k] + 1) % 64 else r.predicted[k] }

/-- A rope event with the interrupt of its port's group (04 R140). -/
def State.portEvent (s : State) (i : Fin 40) (e : PortEnd) (code item : Nat) (data : List Byte := []) : State :=
  (s.irqRaise ((portNo i e - 1) / 10)).event code (strObj i) item data

/-- The data of events 0x1005, 0x1006 and 0x1013: port, position, traverse number (04 R141). -/
def State.whereBytes (s : State) (i : Fin 40) (e : PortEnd) (p : Nat) : List Byte :=
  u8 (portNo i e) ++ u8 p ++ u32 (s.trav.number.getD 0)

/-- Counts by position: 0 lost, 1 duplicated, 2 desynchronised, 3 CRC, 4 timeout (04 Table 4-13). -/
def State.countPos (s : State) (i : Fin 40) (kind p : Nat) : State :=
  s.modRope i fun r => { r with byPos := Sparse.put r.byPos (kind * 64 + p) (sat32 (Sparse.getD r.byPos (kind * 64 + p) 0)) }

/-- A command without a reply waits for a port's line (05 R157). -/
def State.addCast (s : State) (i : Fin 40) (e : PortEnd) (c : Cast) : State := s.modEnd i e fun q => { q with casts := q.casts ++ [c] }

/-- The casts of a port that `which` names go out one after the other, and the nodes count them (04 R115). -/
def State.flushCasts (s : State) (i : Fin 40) (e : PortEnd) (which : Cast → Bool) : State :=
  s.forEach ((s.ropes[i].port e).casts.filter which) fun t c =>
    ((t.modEnd i e fun q => { q with casts := q.casts.erase c }).sendFrame i e c.far c.code 0x3F c.payload).predict i c.nodes

/-- `ROLL_CALL_A` or `ROLL_CALL_B`, by the end that sends it (04 Table 4-6). -/
def rollCode : PortEnd → Nat
  | .a => 0x01
  | .b => 0x02

/-- A port takes its part in a roll call's start: its wake tone of 2 ms (06 R187), then `NOP` (04 R117). -/
def Port.beginRoll (q : Port) (now : Nat) : Port :=
  { q with txn := none, casts := [], far := none, toneAt := some now, free := now + ms 2 + us 8 }

/-- Starts a roll call of a string (04 R117, R121, 06 R187): each port in service sends its wake tone and `NOP`, and port A `ROLL_CALL_A` with
the value 0 offered. What the nodes answer comes with the roll call's end, and with it the frames of steps 3 to 5 in their order (log 172). -/
def State.startRollCall (s : State) (i : Fin 40) : State :=
  let t := s.modRope i fun r => { r with
    rollCall := 1, result := 0, rollMode := none, n := s.val (strObj i) 0x0012, portA := { r.portA with txn := none, casts := [] },
    portB := { r.portB with txn := none, casts := [] } }
  let use := [PortEnd.a, PortEnd.b].filter fun e => !(s.ropes[i].port e).failed
  let t := t.forEach use fun t e => (t.modEnd i e fun q => q.beginRoll s.now).sendFrame i e false 0x7F 0x3F []
  if use.contains .a then t.sendFrame i .a false (rollCode .a) 0x3F (pairPayload 0 0) else t

end Sys2Proof.Machine
end

