-- ==== Sys2Proof/Machine/Strings.lean ====
section
/-!
DEFINITION. Meanings of the string and bank commands (spec/09): the sealed actuation commands and their hall passes, the
grant and the end of a close, pre-charge, opening, clearing, exclusion, and the timers of a bank.
-/

namespace Sys2Proof.Machine

/-! ## Sealed actuation commands -/

/-- `CLOSE` (09 R248): a sealed 0x01 creates a close pass for the string. -/
def execClose (h : SealHead) (i : Fin 40) (v : Nat) (s : State) : Out :=
  .next (s.unlessSwapping (.close h i v) fun s =>
    let r := h.one (strObj i) 0x0003 (u8 v)
    s.sealedVia r fun s => s.createPass r
      { kind := .close, target := i.val + 1, precharge := false, slot := h.slot, bank := 0, counter := h.counter, check := 0 })

/-- `PRECHARGE` (09 R248, R256): a sealed string number creates a close pass with `PRECHARGE` for the bank. -/
def execPrecharge (h : SealHead) (b : Fin 4) (v : Nat) (s : State) : Out :=
  .next (s.unlessSwapping (.precharge h b v) fun s =>
    let r := h.one (bankObj b) 0x0003 (u8 v)
    s.sealedVia r fun s => s.createPass r
      { kind := .close, target := v, precharge := true, slot := h.slot, bank := b.val, counter := h.counter, check := 0 })

/-- `UNLOCK` (09 R246): a sealed 0x01 creates an unlock pass for the string. -/
def execUnlock (h : SealHead) (i : Fin 40) (v : Nat) (s : State) : Out :=
  .next (s.unlessSwapping (.unlock h i v) fun s =>
    let r := h.one (strObj i) 0x0006 (u8 v)
    s.sealedVia r fun s => s.createPass r
      { kind := .unlock, target := i.val + 1, precharge := false, slot := h.slot, bank := 0, counter := h.counter, check := 0 })

/-! ## Causes and their tests -/

/-- Envelope item of a cause (09 Table 9-3). -/
def itemOfCause : Nat → Option EnvItem
  | 1 => some .ov | 2 => some .uv | 3 => some .ot | 4 => some .ut | 5 => some .rise | 6 => some .ocDis | 7 => some .ocChg
  | _ => none

/-- The item is clear for the string: evaluated since the start (03 R77) and violated nowhere at its most recent evaluation
(11 R301). -/
def State.itemClear (s : State) (i : Fin 40) (e : EnvItem) : Bool :=
  let evaluated := match e with
    | .ot | .ut | .rise => s.bstr[i].slowSeen
    | _ => s.belay.traverseSeen
  evaluated && !(s.bstr[i].violated.any fun k => k / 2048 = e.code)

/-- The test of R245 that a cause is absent. -/
def State.causeAbsent (s : State) (i : Fin 40) (c : Nat) : Bool :=
  let b := s.bankOf i
  match itemOfCause c with
  | some e => s.itemClear i e
  | none =>
    if c = 0x08 then s.strs[i].exclusion || (s.bstr[i].unseen.toList.all (· = 0) && s.bstr[i].slowUnseen.toList.all (· = 0))
    else if c = 0x0C then s.banks[b].groupReady
    else if c = 0x0D then !s.smTrip b
    else if c = 0x0A ∨ c = 0x0B then !s.gates[chS i].present
    else if c = 0x0F then s.banks[b].state ≠ .faulted
    else true

/-- The causes 1 to 16 of a cause set that are still present, ascending; a fault record whose condition is present stands as
`GATE_FAULT` (09 R242). -/
def State.causesPresent (s : State) (i : Fin 40) (set_ : Nat) : List Nat :=
  let recorded := s.gates[chS i].record.isSome && s.gates[chS i].present
  ((List.range 17).filter fun c => set_.testBit c && !s.causeAbsent i c) ++ (if recorded then [0x0B] else [])

/-- Clears the trip latch and the belay fault record of the S channel (09 R245). -/
def State.clearTrip (s : State) (i : Fin 40) : State :=
  (s.modStr i fun c => { c with trip := false, tripCause := 0, tripSet := 0 }).modGate (chS i) fun g => { g with record := none }

/-- `TRIP_CLEAR` (09 R245). -/
def State.applyTripClear (s : State) (i : Fin 40) : Applied :=
  if !s.strs[i].trip then .ok s
  else
    match s.causesPresent i s.strs[i].tripSet with
    | c :: _ => .ok (s.event 0x4006 (strObj i) 0 (u8 c))
    | [] =>
      let t := (s.clearTrip i).event 0x4004 (strObj i) 0
      .ok (if t.strs[i].state = .tripped then t.setStr i .isolated else t)

/-- The belay logic acts on an unlock pass (09 R246). -/
def State.unlockStr (s : State) (i : Fin 40) : State :=
  match s.causesPresent i (s.strs[i].tripSet ||| s.strs[i].lockoutSet) with
  | c :: _ => s.event 0x4006 (strObj i) 0 (u8 c)
  | [] =>
    let t := (s.clearTrip i).modStr i fun c => { c with lockout := false, lockoutCause := 0, lockoutSet := 0, stored := none }
    let t := if s.strs[i].stored.isSome then t.storeItem else t
    let t := t.event 0x4005 (strObj i) 0
    if t.strs[i].state = .lockedOut ∨ t.strs[i].state = .tripped then t.setStr i .isolated else t

/-! ## Firmware's decision on a close pass -/

/-- Conditions of Table 9-4 for a close: string READY, or MATCHING with a replaced pass; bank PRECHARGING or LIVE. -/
def State.closeRefused (s : State) (i : Fin 40) : Bool :=
  let st := s.strs[i].state
  let b := s.banks[s.bankOf i].state
  s.supply.pfw || !(st = .ready || st = .matching) || !(b = .precharging || b = .live)

/-- v_target of R256, 10 mV. -/
def State.pcTarget (s : State) (i : Fin 40) : Nat := (s.strs[i].vString.getD 0) - s.bval (bankObj (s.bankOf i)) 0x0010 / 2

/-- Effective traverse period in ns: the announced period of the last trigger (05 R148). -/
def State.tEff (s : State) : Nat := us s.trav.period

/-- t_est of R256 in ns: 2 x LINK_CAP x (v_target - V_link) / PC_IPK + 10 ms + 2 x T_eff. -/
def State.pcEstimate (s : State) (i : Fin 40) : Nat :=
  let b := s.bankOf i
  200 * s.bval (bankObj b) 0x0011 * (s.pcTarget i - s.banks[b].vLink) / s.bval (bankObj b) 0x0013 + ms 10 + 2 * s.tEff

/-- The first condition of R256 that fails, 1 to 5; 6 while `PFW` is set (03 R96); none where the pass is accepted. -/
def State.pcRefusal (s : State) (i : Fin 40) : Option Nat :=
  let b := s.bankOf i
  let out := s.val (bankObj b) 0x0017
  let left := (s.val (bankObj b) 0x0014 : Int) - (2000 - (s.hpRemain i : Int))
  if s.supply.pfw then some 6
  else if s.banks[b].state ≠ .dark || s.gates[chH b].record.isSome || s.gates[chL b].record.isSome || s.strs[i].state ≠ .ready then some 1
  else if s.latchedIn b then some 2
  else if out ≠ 0 && !(s.io.outputs[Fin.ofNat 16 (out - 1)].state.energised) then some 3
  else if s.pcTarget i ≤ s.banks[b].vLink then some 4
  else if left * 1000000 < s.pcEstimate i then some 5
  else none

/-- Accepts a `PRECHARGE` pass: the source matches, and Dn is requested off (09 R256, R257). -/
def State.acceptPrecharge (s : State) (i : Fin 40) : State :=
  let b := s.bankOf i
  let t := (s.setStr i .matching).modBank b fun c => { c with source := some i, lastSource := some i, target := s.pcTarget i }
  (if t.hbPermitted b then t.setDn b false else t).settleBank b

/-- Firmware has decided on the close pass held. -/
def State.markDecided (s : State) (i : Fin 40) : State :=
  s.modStr i fun c => { c with pass := c.pass.map fun h => { h with decided := true } }

/-- A close pass that firmware does not accept (09 R250, R259): a pre-charge that ran under the pass it replaced ends, and a MATCHING
string goes to READY. -/
def State.unmatch (s : State) (i : Fin 40) : State :=
  let s := s.markDecided i
  let b := s.bankOf i
  if s.pcActive b && s.banks[b].source = some i then s.endPrecharge b 0x4025 1
  else if s.strs[i].state = .matching then s.setStr i .ready
  else s

/-- Firmware does not act on a close pass: event 0x4007 with the reason (09 R248). -/
def State.refuseClose (s : State) (i : Fin 40) (why : Nat) : State := (s.unmatch i).event 0x4007 (strObj i) 0 (u8 why)

/-- Firmware decides on a close pass that the belay logic holds (09 R248, R250, R256, R259); answers whether it acts. -/
def State.decideClose (s : State) (i : Fin 40) (p : Pass) : State × Bool :=
  let b := s.bankOf i
  if s.health.suspect then (s.refuseClose i 8, false)
  else if s.pcActive b && s.banks[b].source = some i then (s.refuseClose i 7, false)
  else if p.precharge then
    match s.pcRefusal i with
    | some why =>
      let t := ((s.modBank b fun c => { c with seen := c.seen ||| 4 }).irqRaise (28 + b.val)).event 0x4022 (bankObj b) 0 (u8 why)
      (t.refuseClose i 2, false)
    | none => ((s.markDecided i).acceptPrecharge i, true)
  else if s.closeRefused i then (s.refuseClose i 1, false)
  else ((s.markDecided i).setStr i .matching, true)

/-- Firmware still holds the request of a pass: a request handed over before a processor restart is applied no more (14 R378). -/
def State.actionOpen (s : State) (p : Pass) : Bool := s.seng.actions.any fun a => a.1 = p

/-- The belay logic takes a close pass (09 R249, R250, 01 R26): a pass held is replaced and the request made under it ends. Firmware decides
on it at once; inside a core swap at its resume, and after a processor restart at the first completion of a traverse. A pass whose sealed request firmware has refused (03 R96) or dropped in a processor
restart (14 R378) is not acted on. -/
def State.takeClosePass (s : State) (i : Fin 40) (p : Pass) : State :=
  let t := if (s.closePass i).isSome then s.event 0x4013 (strObj i) 0 else s
  let t := t.modStr i fun c => { c with pass := some ⟨p, s.now, false, false⟩, waiting := false, requested := false }
  let t :=
    if t.fwActs then
      (if t.actionOpen p then (let d := t.decideClose i p; d.1.finishAction p d.2) else t.refuseClose i 9)
    else t
  t.settleBank (t.bankOf i)

/-- Firmware does not act on an energise pass: event 0x4007 with the reason (09 R248). -/
def State.refuseQ (s : State) (q : Fin 16) (why : Nat) : State :=
  (s.modQ q fun o => { o with pass := o.pass.map fun h => { h with decided := true } }).event 0x4007 blockObj (q.val + 1) (u8 why)

/-- Conditions under which firmware energises a power-path output on its pass (12 R334, R335, Table 9-4). -/
def State.decideEnergise (s : State) (q : Fin 16) : State × Bool :=
  if s.supply.pfw || !s.qPowerPath q || s.isEvenPole q || !s.qMayStart q || s.io.outputs[q].state ≠ .off then (s.refuseQ q 1, false)
  else ((s.modQ q fun o => { o with pass := o.pass.map fun h => { h with decided := true } }).requestQ q, true)

/-- The belay logic takes an energise pass. -/
def State.takeQPass (s : State) (q : Fin 16) (p : Pass) : State :=
  let t := if (s.qPass q).isSome then s.event 0x4013 blockObj (q.val + 1) else s
  let t := t.modQ q fun o => { o with pass := some ⟨p, s.now, false, false⟩ }
  if t.fwActs then
    (if t.actionOpen p then (let d := t.decideEnergise q; d.1.finishAction p d.2)
     else t.refuseQ q 9)
  else t

/-- Firmware decides on the passes taken while it did not act: during a swap (18 R471) or a processor restart (03 R91, 09 R248). -/
def State.decideHeld (s : State) : State :=
  let t := s.forEach allStr fun t i =>
    match t.closePass i with
    | some p =>
      if p.decided then t
      else if t.actionOpen p.pass then (let d := t.decideClose i p.pass; (d.1.finishAction p.pass d.2).settleBank (t.bankOf i))
      else (t.refuseClose i 9).settleBank (t.bankOf i)
    | none => t
  t.forEach allQ fun t q =>
    match t.qPass q with
    | some p =>
      if p.decided then t
      else if t.actionOpen p.pass then (let d := t.decideEnergise q; d.1.finishAction p.pass d.2)
      else t.refuseQ q 9
    | none => t

/-- `HALL_PASS_TAKEN` (01 R26, 09 R249): the pass at the front of the privileged queue is taken or discarded.
DEDUCED (log 146): the belay logic acts on an unlock pass as it takes it (09 R246) also while `PFW` is set, though the request was
answered STATE (03 R96): only a pass that waits to be used can expire. -/
def execHallPassTaken (s : State) : Out :=
  .next (match s.belay.released, s.belay.privQ with
  | true, .pass p :: rest =>
    let t := s.modBelay fun b => { b with privQ := rest }
    if p.check ≠ p.checkOf then (t.event 0x4014 blockObj p.target).finishAction p false
    else if h : p.kind = .energise then
      if hq : 0x41 ≤ p.target ∧ p.target ≤ 0x50 then
        ((t.irqRaise 25).event 0x4010 blockObj (p.target - 0x40)).takeQPass ⟨p.target - 0x41, by omega⟩ p
      else (t.event 0x4014 blockObj p.target).finishAction p false
    else if hi : 1 ≤ p.target ∧ p.target ≤ 40 then
      let i : Fin 40 := ⟨p.target - 1, by omega⟩
      if p.precharge && (s.bankOf i).val ≠ p.bank then (t.event 0x4014 (strObj i) 0).finishAction p false
      else
        let t := (t.irqRaise 25).event 0x4010 (strObj i) 0
        if p.kind = .unlock then (((t.unlockStr i).irqRaise 26).finishAction p true) else t.takeClosePass i p
    else (t.event 0x4014 blockObj p.target).finishAction p false
  | _, _ => s)

/-- The passes the belay logic expires: strings are targets 0 to 39, outputs 40 to 55. -/
def State.expireClose (s : State) (i : Fin 40) : State :=
  match s.strs[i].pass with
  | none => s
  | some h =>
    if h.taken + passLife ≤ s.now then
      let b := s.bankOf i
      let t := ((s.dropClosePass i).modStr i fun c => { c with seen := c.seen ||| 2 }).irqRaise 26
      let t := (t.event 0x4011 (strObj i) 0).finishAction h.pass false
      if t.pcActive b && t.banks[b].source = some i && !t.gates[chS i].cmd then (t.endPrecharge b 0x4025 2)
      else if t.strs[i].state = .matching && !t.gates[chS i].cmd then t.setStr i .ready
      else t
    else s

/-- An energise pass expires; a request still waiting for its pull-in ends with it (02 R56, 12 R335). -/
def State.expireQ (s : State) (q : Fin 16) : State :=
  match s.io.outputs[q].pass with
  | none => s
  | some h =>
    if h.taken + passLife ≤ s.now then
      let t := ((s.modQ q fun o => { o with pass := none }).irqRaise 26).event 0x4011 blockObj (q.val + 1)
      let t := t.finishAction h.pass false
      if t.io.outputs[q].state = .waiting && t.qPowerPath q then State.serveQ 16 (t.unwaitQ q) else t
    else s

/-- `HALL_PASS_EXPIRY` (01 R27, 09 R250): a pass not consumed within 2 s is removed. -/
def execHallPassExpiry (t : Fin 56) (s : State) : Out :=
  .next (if h : t.val < 40 then s.expireClose ⟨t.val, h⟩ else s.expireQ ⟨t.val - 40, by omega⟩)

/-! ## Grant and close -/

/-- R22, R242, R251, R254, 03 R77 and 11 R308 hold for a waiting request of the string. -/
def State.grantable (s : State) (i : Fin 40) : Bool :=
  let b := s.bankOf i
  let c := s.strs[i]
  match s.closePass i with
  | none => false
  | some p =>
    c.waiting && c.matchOk && s.envClear i && !s.envDegraded (s.profileOf i) && s.bstr[i].due.isEmpty && s.bstr[i].unseenDue.isEmpty && !c.trip && !c.lockout && !c.exclusion && s.gates[chS i].record.isNone &&
      s.gates[chS i].report.isNone && s.banks[b].groupReady && !s.bankTrip b && !s.gates[chD b].cmd && s.gates[chS i].selftest ≠ 1 && s.start.fw = .running &&
      s.banks[b].holdoff.isNone && (p.pass.precharge || !s.hbPermitted b)

/-- The grant (09 R253): S command on, pass consumed, hold-off set; the half-bridge permission ends with the pass (01 R24). -/
def State.grant (s : State) (i : Fin 40) : State :=
  let b := s.bankOf i
  let t := s.modGate (chS i) fun g => { g with cmd := true }
  let t := ((t.dropClosePass i).irqRaise 27).irqRaise 26
  (t.hbOff b).modBank b fun c => { c with holdoff := some s.now, modulator := false }

/-- Grants the lowest-numbered grantable request of a bank; the hold-off then lets the others wait (01 R30, 09 R253). A channel whose own
fault reaction coincides keeps its switch open and its request is discarded (01 R29). -/
def State.grantLowest (s : State) (b : Fin 4) : State :=
  let s := s.forEach ((s.stringsOf b).filter fun i => s.gates[chS i].report.isSome) State.discardClose
  match (s.stringsOf b).find? fun i => s.grantable i with
  | some i => s.grant i
  | none => s

/-- `CLOSE_GRANT` (09 R253): a close request becomes visible to the belay logic, or one that waits there is looked at again in a later
cycle. -/
def execCloseGrant (i : Fin 40) (s : State) : Out :=
  .next (if s.strs[i].requested || s.strs[i].waiting then
    (s.modStr i fun c => { c with requested := false, waiting := (s.closePass i).isSome }).grantLowest (s.bankOf i)
  else s)

/-- `STRING_CLOSED` (09 R253): the S gate reads back on after the grant. -/
def execStringClosed (i : Fin 40) (s : State) : Out :=
  .next (if s.gates[chS i].cmd && s.gates[chS i].gateOn && s.strs[i].state = .matching then
    let b := s.bankOf i
    let t := (s.setStr i .closed).event 0x4008 (strObj i) 0
    if t.banks[b].state = .precharging then
      (t.modBank b fun c => { c with source := none, modulator := false }).setBank b .live
    else t
  else s)

/-- The match of the present traverse has been evaluated for the bank (09 R251): its values have come, or the traverse has ended. -/
def State.matchEvaluated (s : State) (b : Fin 4) : Bool :=
  (match s.trav.number with | some n => s.trav.bufs[Fin.ofNat 8 n].complete | none => false) ||
    (s.banks[b].linkSeen && (s.stringsOf b).all fun i => (s.closePass i).isNone || s.bstr[i].seenNow.testBit 0)

/-- The hold-off of a bank may clear: the current traverse's T0 is at least 1 ms after the grant and its match is evaluated
(09 R253). -/
def State.holdoffDue (s : State) (b : Fin 4) : Bool :=
  match s.banks[b].holdoff with
  | some g => decide (g + ms 1 ≤ s.trav.t0) && s.matchEvaluated b
  | none => false

/-- `HOLDOFF_CLEAR` (09 R253): the hold-off clears and the lowest waiting request may be granted. -/
def execHoldoffClear (b : Fin 4) (s : State) : Out :=
  .next (if s.holdoffDue b then (s.modBank b fun c => { c with holdoff := none }).grantLowest b else s)

/-! ## Pre-charge -/

/-- `PRECHARGE_START` (09 R256, Table 9-8): Dn reads back off and the modulator starts. -/
def execPrechargeStart (b : Fin 4) (s : State) : Out :=
  .next (match s.banks[b].source with
  | some i =>
    if s.banks[b].state = .dark && s.gates[chD b].gateOff && !s.gates[chD b].cmd && s.strs[i].state = .matching && s.hbPermitted b && !s.supply.pfw then
      let t := (s.modBank b fun c => { c with modulator := true, linkRun := c.vLink, vCycle := 0, tOn := 0, tOff := 0 }).setBank b .precharging
      (t.irqRaise (28 + b.val)).event 0x4021 (bankObj b) 0 (u8 (i.val + 1))
    else s
  | none => s)

/-- v_in of R258, 10 mV: the highest `V_STRING` of the bank's strings that are not EXCLUDED. -/
def State.pcInput (s : State) (b : Fin 4) : Nat :=
  ((s.stringsOf b).filter fun i => s.strs[i].state ≠ .excluded).foldl (fun m i => max m (s.strs[i].vString.getD 0)) 0

/-- PC_L x PC_IPK over a voltage in 10 mV, ns. -/
def State.pcTime (s : State) (b : Fin 4) (v : Nat) : Nat :=
  10000 * s.bval (bankObj b) 0x0012 * s.bval (bankObj b) 0x0013 / v

/-- The modulator begins a cycle with its running link value: t_on and t_off (09 R258). -/
def State.beginCycle (s : State) (b : Fin 4) : State :=
  let v := s.banks[b].linkRun
  s.modBank b fun c => { c with vCycle := v, tOn := s.pcTime b (max (s.pcInput b - v) 100), tOff := s.pcTime b (max v 200) }

/-- The modulator stands inside a cycle (09 R258): a side is on, or t_off has not passed since CnH went off. -/
def State.inCycle (s : State) (b : Fin 4) : Bool :=
  s.gates[chH b].cmd || s.gates[chH b].seenCmd || s.gates[chL b].cmd || s.gates[chL b].seenCmd || decide (s.now < s.gates[chH b].edgeAt + s.banks[b].tOff)

/-- `PRECHARGE_TARGET_REACHED` (09 R258): the modulator's running link value `link`, 10 mV, refreshed every 10 us. At v_target CnH goes off,
and the modulator stops when it stands at the head of its loop. -/
def execPrechargeTargetReached (b : Fin 4) (link : Nat) (s : State) : Out :=
  .next (if s.banks[b].state = .precharging && s.banks[b].modulator then
    let s := s.modBank b fun c => { c with linkRun := link }
    if s.banks[b].target ≤ link && s.gates[chH b].cmd then s.modGate (chH b) fun g => g.cmdOff s.now
    else if s.banks[b].target ≤ link && !s.inCycle b then
      let t := (s.hbOff b).modBank b fun c => { c with modulator := false }
      (t.irqRaise (28 + b.val)).event 0x4023 (bankObj b) 0
    else s
  else s)

/-- `PRECHARGE_TIMEOUT` (09 R259): `PC_TIME_MAX` after the source's pass was taken, the source not CLOSED. -/
def execPrechargeTimeout (b : Fin 4) (s : State) : Out :=
  .next (match s.banks[b].source with
  | some i =>
    match s.strs[i].pass with
    | some h =>
      if s.pcActive b && !s.gates[chS i].cmd && decide (h.taken + ms (s.val (bankObj b) 0x0014) ≤ s.now) then
        (s.modBank b fun c => { c with seen := c.seen ||| 2 }).endPrecharge b 0x4024 0
      else s
    | none => s
  | none => s)

/-! ## Opening -/

/-- `OPEN` (09 R260, Table 9-9). -/
def State.applyOpen (s : State) (i : Fin 40) : Applied :=
  let b := s.bankOf i
  if s.strs[i].state = .closed then .ok (((s.openS i).setStr i .isolated).settleBank b)
  else if s.strs[i].state = .matching then
    (if s.pcActive b && s.banks[b].source = some i then .ok (s.endPrecharge b 0x4025 4)
     else .ok ((s.openS i).setStr i .ready))
  else .ok s

def execOpenString (src : Src) (i : Fin 40) (v : Nat) (s : State) : Out :=
  .next (s.unlessSwapping (.openString src i v) fun s => s.writeVia src (strObj i) 0x0004 (u8 v) fun _ s => s.applyOpen i)

/-- Opens every string of a bank in one BEL cycle (09 R260): a running pre-charge ends, CLOSED and MATCHING become ISOLATED. -/
def State.openBank (s : State) (b : Fin 4) (why : Nat) : State :=
  let t := s.forEach (s.stringsOf b) State.sOff
  let t := t.forEach (s.stringsOf b) State.discardClose
  let t := if t.pcActive b then t.endPrecharge b 0x4025 why else t
  let t := t.forEach (s.stringsOf b) fun t i =>
    if t.strs[i].state = .closed ∨ t.strs[i].state = .matching then t.setStr i .isolated else t
  t.settleBank b

def execBankOpen (src : Src) (b : Fin 4) (v : Nat) (s : State) : Out :=
  .next (s.unlessSwapping (.bankOpen src b v) fun s =>
    s.writeVia src (bankObj b) 0x0004 (u8 v) fun _ s => .ok (s.openBank b 5))

/-- `TRIP_CLEAR` (09 R245). -/
def execTripClear (src : Src) (i : Fin 40) (v : Nat) (s : State) : Out :=
  .next (s.unlessSwapping (.tripClear src i v) fun s => s.writeVia src (strObj i) 0x0005 (u8 v) fun _ s => s.applyTripClear i)

/-! ## Exclusion -/

/-- A refused exclusion request (09 R247): event 0x400A and IRQ 123. -/
def State.excludeRefused (s : State) (i : Fin 40) : State := (s.event 0x400A (strObj i) 0).irqRaise 123

/-- `EXCLUDE` written 0x01 (09 R247): accepted in ISOLATED, TRIPPED and LOCKED_OUT. -/
def State.setExclusion (s : State) (i : Fin 40) : State :=
  let t := (s.modStr i fun c => { c with exclusion := true, waiting := false, requested := false }).setVal (strObj i) 0x0009 0 1
  (t.setStr i .excluded).settleBank (s.bankOf i)

/-- `EXCLUDE` (09 R247), of a string that is installed: `INSTALLED` takes effect at a start (15 R410). -/
def State.applyExclude (s : State) (i : Fin 40) (v : Nat) : Applied :=
  let st := s.strs[i].state
  let refuse : Applied := .error (.state, s.excludeRefused i)
  if !s.strs[i].installed then refuse
  else if v = 1 then
    (if st = .isolated ∨ st = .tripped ∨ st = .lockedOut then .ok (s.setExclusion i) else refuse)
  else if s.mode.block = .service && st = .excluded then
    .ok ((s.modStr i fun c => { c with excludeCall := true }).startRollCall i)
  else refuse

/-- `EXCLUDE_SET` (09 R247). -/
def execExcludeSet (src : Src) (i : Fin 40) (s : State) : Out :=
  .next (s.unlessSwapping (.excludeSet src i) fun s => s.writeVia src (strObj i) 0x0009 [0x01#8] fun _ s => s.applyExclude i 1)

/-- `EXCLUDE_CLEAR` (09 R247). -/
def execExcludeClear (src : Src) (i : Fin 40) (s : State) : Out :=
  .next (s.unlessSwapping (.excludeClear src i) fun s => s.writeVia src (strObj i) 0x0009 [0x00#8] fun _ s => s.applyExclude i 0)

/-! ## Bank faults -/

/-- `FAULT_CLEAR` (09 R255, Table 9-8): the condition still present, 1 to 3. -/
def State.faultClearRefusal (s : State) (b : Fin 4) : Option Nat :=
  if s.val (bankObj b) 0x0015 ≤ s.banks[b].vLink then some 1
  else if !s.gates[chD b].gateOn then some 2
  else if s.gates[chH b].record.isSome || s.gates[chL b].record.isSome || s.gates[chD b].record.isSome then some 3
  else none

def State.applyFaultClear (s : State) (b : Fin 4) : Applied :=
  if s.banks[b].state ≠ .faulted then .ok s
  else
    match s.faultClearRefusal b with
    | some c => .ok (s.event 0x4029 (bankObj b) 0 (u8 c))
    | none => .ok (((s.modBank b fun c => { c with faultCause := 0 }).event 0x4029 (bankObj b) 0 (u8 0)).setBank b .dark)

def execFaultClear (src : Src) (b : Fin 4) (v : Nat) (s : State) : Out :=
  .next (s.unlessSwapping (.faultClear src b v) fun s => s.writeVia src (bankObj b) 0x0005 (u8 v) fun _ s => s.applyFaultClear b)

/-- Entry of a bank to FAULTED (09 R255): a pre-charge's source goes to ISOLATED and the half-bridge goes off. -/
def State.faultBank (s : State) (b : Fin 4) (cause : Nat) : State :=
  let src := s.banks[b].source
  let t := (s.hbOff b).modBank b fun c => { c with modulator := false, source := none, faultCause := cause }
  let t := match src with
    | some i => let t := t.openS i; if t.strs[i].state = StrState.matching then t.setStr i .isolated else t
    | none => t
  ((t.dnOn b).setBank b .faulted).event 0x4028 (bankObj b) 0 (u8 cause)

/-- `DISCHARGE_TIMEOUT` (09 R255): `DISCH_TIME_MAX` reached while DISCHARGING. -/
def execDischargeTimeout (b : Fin 4) (s : State) : Out :=
  .next (if s.banks[b].state = .discharging && decide (s.banks[b].dischSince + sec (s.val (bankObj b) 0x0016) ≤ s.now) then
    ((s.modBank b fun c => { c with seen := c.seen ||| 1 }).event 0x4027 (bankObj b) 0).faultBank b 0x04
  else s)

end Sys2Proof.Machine
end

