-- ==== Sys2Proof/Machine/Gates.lean ====
section
/-!
DEFINITION. Meanings of the gate channel commands (spec/10): command edges, faults and their reports, self-tests, the
coincident window, and the clearing of a bank's fault records.
-/

namespace Sys2Proof.Machine

/-! ## Fields of a channel -/

/-- Blanking time of the word in force, ns (10 Table 10-5). -/
def Gate.blankNs (g : Gate) : Nat := 500 + 500 * bits g.cfg 12 10

/-- Dead time of the word in force, ns. -/
def Gate.deadNs (g : Gate) : Nat := (bits g.cfg 9 5 + 1) * 100

/-- Both rails above UVLO. -/
def Gate.rails (g : Gate) : Bool := g.railPos && g.railNeg

/-- A C channel, with its bank and its partner (10 R270). -/
def partnerGate (c : Fin 52) : Option (Fin 4 × Fin 52) :=
  match ownerOf c with
  | .high b => some (b, chL b)
  | .low b => some (b, chH b)
  | _ => none

def isClamp (c : Fin 52) : Bool := decide (48 ≤ c.val)

/-- A `GATE_CFG` word that R285 accepts for the channel. -/
def gateCfgOk (c : Fin 52) (w : Nat) : Bool :=
  decide (bits w 21 17 ≤ bits w 26 22) && decide (bits w 9 5 ≤ 19) && (bits w 1 0 = 0) &&
    ((partnerGate c).isSome || bits w 9 5 = 0) && decide (w < 2 ^ 32)

/-- A sealed write of a channel's `GATE_CFG` (10 R285). -/
def State.applyGateCfg (s : State) (c : Fin 52) (w : Nat) : Applied :=
  if gateCfgOk c w then .ok ((s.modGate c fun g => { g with cfgNext := some w }).gateEvent 0x500B c)
  else .error (.range, s.gateEvent 0x500C c)

/-! ## Edges -/

/-- Turns a channel on: the gate goes to its on level, with the rails up (10 R269, R274). -/
def Gate.turnOn (g : Gate) : Gate :=
  { g.driveOn with didtHeld := false, didtAbove := false }

/-- Turns a channel off at `SINK` (10 R274); without its negative rail to KS. -/
def Gate.turnOff (g : Gate) : Gate :=
  { g with drive := if g.railPos || g.railNeg then .off else .undriven, gateOn := false, gateOff := g.railNeg }

/-- Takes back an on command taken in this same cycle, with the latch that its edge cleared (10 R271, R279). -/
def Gate.takeBack (g : Gate) : Gate :=
  let g := { g with seenCmd := false, hold := false, latch := g.latch.or g.cleared, cleared := none }
  if g.drive ≠ .on then { g with gateOn := false }
  else
    let g := { g with cycles := g.cycles - 1 }
    if g.latch.isSome then g.holdLow else g.turnOff

/-- A fault goes to the belay logic with the command state at detection, behind those not yet reported (10 R276, R289). -/
def Gate.addReport (g : Gate) (cause : GateCause) : Gate :=
  if g.report.isSome then { g with queued := g.queued ++ [(cause, g.seenCmd)] } else { g with report := some (cause, g.seenCmd) }

/-- A latched channel's condition at a rising edge (10 R279): off for at least 10 us, no condition present, and for an S channel
no belay record. -/
def State.edgeClears (s : State) (c : Fin 52) : Bool :=
  let g := s.gates[c]
  decide (g.edgeAt + us 10 ≤ s.now) && !g.present && (decide (40 ≤ c.val) || g.record.isNone)

/-- The channel sees an on command: a pending word applies, and a latch clears or holds (10 R279, R285, Table 10-4). -/
def State.seeOn (s : State) (c : Fin 52) : State :=
  let clears := s.edgeClears c
  let g := s.gates[c]
  let t := s.modGate c fun g => { g with
    seenCmd := true, edgeBefore := g.edgeAt, edgeAt := s.now, cfg := g.cfgNext.getD g.cfg, cfgNext := none, hold := false,
    cleared := if clears then g.latch else none }
  match g.latch with
  | none => t.modGate c Gate.turnOn
  | some cause =>
    if clears then
      let t := t.modGate c fun g => Gate.turnOn { g with latch := none }
      t.gateEvent 0x5007 c (u8 c.val ++ u8 cause.code)
    else
      let t := if isClamp c then t.modGate c Gate.driveOn else t
      if !g.railPos then (t.modGate c fun g => g.addReport .uvloPos).irqRaise 44
      else if !g.railNeg then (t.modGate c fun g => g.addReport .uvloNeg).irqRaise 44
      else t

/-- A running self-test ends aborted at an on command (10 R284): code 4, event 0x5031 and IRQ 43. -/
def State.abortTest (s : State) (c : Fin 52) : State :=
  if s.gates[c].selftest = 1 then
    ((s.modGate c fun g => { g with selftest := 4 }).gateEvent 0x5031 c (u8 c.val)).irqRaise 43
  else s

/-- The interlock passes an on command to a side of a half-bridge (10 R270). -/
def State.interlockPasses (s : State) (c other : Fin 52) : Bool :=
  let o := s.gates[other]
  !o.cmd && o.gateOff && decide (o.edgeAt + s.gates[c].deadNs ≤ s.now)

/-- The modulator's program raises this side now (09 R258): CnH opens a cycle once t_off has passed since it went off; CnL follows CnH once
in a cycle begun at 20 V or more. Both sides raised in one cycle are a fault of the modulator, which R271 meets. -/
def State.modulatorRises (s : State) (b : Fin 4) (c other : Fin 52) : Bool :=
  (s.gates[other].cmd && s.gates[other].edgeAt = s.now) ||
    (if c = chH b then decide (s.gates[c].edgeAt + s.banks[b].tOff ≤ s.now) && decide (s.banks[b].linkRun < s.banks[b].target)
     else !s.gates[other].cmd && decide (2000 ≤ s.banks[b].vCycle) && decide (s.gates[c].edgeAt ≤ s.gates[other].edgeAt))

/-- The modulator's program lowers this side now (09 R258): CnH after t_on or at the target, CnL after 0.9 t_off less the dead time. A
command that the belay logic holds off falls at once. -/
def State.modulatorFalls (s : State) (b : Fin 4) (c : Fin 52) : Bool :=
  !s.gates[c].cmd || !s.banks[b].modulator ||
    (if c = chH b then decide (s.gates[c].edgeAt + s.banks[b].tOn ≤ s.now) || decide (s.banks[b].target ≤ s.banks[b].linkRun)
     else decide (s.gates[c].edgeAt * 10 + 9 * s.banks[b].tOff ≤ (s.now + s.gates[c].deadNs) * 10))

/-- A conflict holds both sides off until both commands have been off for a BEL cycle (10 R271). -/
def State.conflictHolds (s : State) (b : Fin 4) : Bool :=
  s.banks[b].conflict && [chH b, chL b].any fun c =>
    s.gates[c].cmd || s.gates[c].seenCmd || decide (s.now < s.gates[c].edgeAt + 20)

/-- A rising command of the modulator at one side of a half-bridge (09 R258, 10 R270, R271). -/
def State.risePair (s : State) (b : Fin 4) (c other : Fin 52) : State :=
  let t := s.modGate c fun g => { g with cmd := true }
  let t := if c = chH b then t.beginCycle b else t
  if s.conflictHolds b then t
  else
    let t := t.modBank b fun k => { k with conflict := false }
    if s.gates[other].cmd && s.gates[other].edgeAt = s.now then
      let t := t.modGate other Gate.takeBack
      let t := t.modBank b fun k => { k with conflict := true, conflicts := sat32 k.conflicts }
      t.gateEvent 0x500A c
    else if s.interlockPasses c other then (t.abortTest c).seeOn c
    else (t.modGate c fun g => { g with hold := true, edgeAt := s.now }).gateEvent 0x5009 c

/-- Dn comes back on 10 us after `GATE_CLEAR` took its command off (10 R280). -/
def State.endDnPulse (s : State) (c : Fin 52) : State :=
  match ownerOf c with
  | .clamp b =>
    match s.banks[b].dnPulse with
    | some t0 =>
      if t0 + us 10 ≤ s.now then (s.modBank b fun k => { k with dnPulse := none }).setDn b true else s
    | none => s
  | _ => s

/-- `GATE_RISING_EDGE` (10 R269, R279): the command of the channel rises. -/
def execGateRisingEdge (c : Fin 52) (s : State) : Out :=
  .next (match partnerGate c with
  | some (b, other) =>
    if s.banks[b].modulator && s.hbPermitted b && !s.gates[c].cmd && s.modulatorRises b c other then s.risePair b c other else s
  | none =>
    let t := s.endDnPulse c
    if t.gates[c].cmd && !t.gates[c].seenCmd then (t.abortTest c).seeOn c else s)

/-- The channel sees its command fall: off at `SINK`, comparators disarmed; a latched channel stays where its fault put it
(10 R269, R272, R275). -/
def State.seeOff (s : State) (c : Fin 52) : State :=
  s.modGate c fun g =>
    let g' := { g with seenCmd := false, edgeBefore := g.edgeAt, edgeAt := s.now, hold := false, didtHeld := false, didtAbove := false }
    if g.latch.isSome then g' else g'.turnOff

/-- `GATE_FALLING_EDGE` (10 R269): the command of the channel falls; for a C channel by the modulator or the belay logic. -/
def execGateFallingEdge (c : Fin 52) (s : State) : Out :=
  .next (match partnerGate c with
  | some (b, _) =>
    if (s.gates[c].cmd || s.gates[c].seenCmd) && s.modulatorFalls b c then (s.modGate c fun g => { g with cmd := false }).seeOff c else s
  | none => if !s.gates[c].cmd && s.gates[c].seenCmd then s.seeOff c else s)

/-! ## Faults -/

/-- `SEEN` bit and counter of a cause: 0 di/dt, 1 UVLO, 2 read-back (10 Tables 10-7 and 10-9). -/
def GateCause.group : GateCause → Option (Fin 3)
  | .didt | .didtHard | .didtBlank => some 0
  | .uvloPos | .uvloNeg => some 1
  | .rbOn | .rbOpen | .rbOff => some 2
  | .stDidt | .stUvlo | .stRb => none

def seenBit : Fin 3 → Nat
  | 0 => 4 | 1 => 1 | 2 => 2

/-- The drive a fault reaction leaves (10 Table 10-3, R274); a soft-off that runs goes on from the rail that remains (Table 10-4). -/
def Gate.react (g : Gate) (clamp : Bool) (cause : GateCause) : Gate :=
  match cause.group with
  | none => if clamp then g else g.holdLow
  | some 0 =>
    if clamp then g.driveOn
    else if g.drive = .on || g.drive = .off then (if g.railPos || g.railNeg then { g with drive := .softOff, gateOn := false } else g.holdLow)
    else g
  | some 1 =>
    if clamp then g.driveOn
    else if g.drive = .softOff && (g.railPos || g.railNeg) then g
    else g.holdLow
  | some _ =>
    if clamp then (let g := g.driveOn; { g with gateOn := g.gateOn && cause ≠ .rbOn, rbBad := cause ≠ .rbOff })
    else (let g := if g.drive = .softOff then g else g.holdLow; { g with gateOff := g.gateOff && cause ≠ .rbOff, rbBad := cause = .rbOff })

/-- Counts a fault (10 Tables 10-7 and 10-9). -/
def Gate.countFault (g : Gate) (cause : GateCause) : Gate :=
  match cause.group with
  | some k => { g with seen := g.seen ||| seenBit k, counts := upd g.counts k sat32 }
  | none => g

/-- A fault of the channel (10 R275): it latches, acts, is counted and goes to the belay logic. On a latched channel the latch keeps its
first cause (log 167), but for a failed step of a self-test, which latches its own (10 R283). -/
def State.gateFault (s : State) (c : Fin 52) (cause : GateCause) : State :=
  s.modGate c fun g =>
    let g := (g.addReport cause).countFault cause
    let g := { g with latch := if cause.group.isNone then some cause else some (g.latch.getD cause), didtHeld := false,
                         didtAbove := g.didtAbove || decide (cause.group = some 0) }
    g.react (isClamp c) cause

/-- The di/dt comparators are armed (10 R272). -/
def Gate.armed (g : Gate) : Bool := g.seenCmd && g.selftest ≠ 1

/-- `DIDT_DETECT` (10 R273, R279): the voltage between KS and PS comes to lie at a level of the thresholds. An armed comparator faults
or holds the event; the level is the condition R279 asks about. -/
def execDidtDetect (c : Fin 52) (level : DidtLevel) (s : State) : Out :=
  .next (let g := s.gates[c]
  if !g.armed then s
  else match level with
    | .below => s.modGate c fun g => { g with didtAbove := false }
    | _ =>
      if level = .hard then s.gateFault c .didtHard
      else if s.now < g.edgeAt + g.blankNs then s.modGate c fun g => { g with didtHeld := true, didtAbove := true }
      else s.gateFault c .didt)

/-- `BLANKING_END` (10 R273): a held event is confirmed or discarded. -/
def execBlankingEnd (c : Fin 52) (above : Bool) (s : State) : Out :=
  .next (let g := s.gates[c]
  if g.armed && g.didtHeld && decide (g.edgeAt + g.blankNs ≤ s.now) then
    (if above then s.gateFault c .didtBlank
     else (s.modGate c fun g => { g with didtHeld := false, didtAbove := false }).gateEvent 0x5004 c (u8 c.val ++ u8 1))
  else s)

/-- A rail is above its UVLO threshold again (10 R266, R274): the output is driven again as the fault reaction holds it. -/
def State.railBack (s : State) (c : Fin 52) (neg : Bool) : State :=
  s.modGate c fun g =>
    let g := if neg then { g with railNeg := true } else { g with railPos := true }
    if g.drive = Drive.softOff then g
    else if isClamp c then (if g.railPos && g.latch.isSome then g.driveOn else g)
    else if g.latch.isSome then g.holdLow
    else g

/-- A UVLO during soft-off (10 Table 10-4): it is counted and named beside the first cause, in the event that is still to come; when
that has been raised, the fault has its own report. -/
def State.secondFault (s : State) (c : Fin 52) (cause : GateCause) : State :=
  if s.gates[c].report.isSome then
    s.modGate c fun g => Gate.react { g.countFault cause with second := some (g.second.getD cause) } false cause
  else if s.gateBlock.window.any fun e => e.1 = c.val then
    let t := s.modGate c fun g => (g.countFault cause).react false cause
    { t with gateBlock := { t.gateBlock with window := t.gateBlock.window.map fun e =>
      if e.1 = c.val then (e.1, e.2.1, e.2.2.1, some (e.2.2.2.getD cause)) else e } }
  else s.gateFault c cause

/-- `UVLO_DETECT` (10 R274): with `low` a rail has been below its threshold for the filter time; without, a rail that was below is above
its rising threshold again (log 128). -/
def execUvloDetect (c : Fin 52) (neg low : Bool) (s : State) : Out :=
  .next (let g := s.gates[c]
  let cause := if neg then GateCause.uvloNeg else GateCause.uvloPos
  if (if neg then g.railNeg else g.railPos) ≠ low || (!low && !s.start.gateRails) then s
  else if !low then s.railBack c neg
  else
    let t := s.modGate c fun g => if neg then { g with railNeg := false } else { g with railPos := false }
    let t := if g.drive = Drive.softOff then t.secondFault c cause else t.gateFault c cause
    t.irqRaise 44)

/-- `RB_TIME` of the word in force, ns (10 Table 10-5). -/
def Gate.rbNs (g : Gate) : Nat := us 5 * 2 ^ bits g.cfg 4 2

/-- A level check of the channel's command state `on` falls now (10 R269): a level once reached is checked from 2 us on; one not reached,
`RB_TIME` after the edge, or at the next edge where the state was shorter and lasted 2 us. -/
def Gate.levelCheck (g : Gate) (on reached : Bool) (now : Nat) : Bool :=
  if reached then (g.seenCmd = on) && decide (g.edgeAt + us 2 ≤ now)
  else ((g.seenCmd = on) && decide (g.edgeAt + g.rbNs ≤ now)) ||
    ((g.seenCmd ≠ on) && g.edgeAt = now && decide (g.edgeBefore + us 2 ≤ now) && decide (now < g.edgeBefore + g.rbNs))

/-- `READBACK_FAULT` (10 R269): a level or the hold current fails its check; `reached`: the level had been reached since the edge. A gate
that its fault reaction holds is checked against that state. With `restored` the comparator releases (log 168). -/
def execReadbackFault (c : Fin 52) (e : ReadbackCause) (reached : Bool) (s : State) : Out :=
  .next (let g := s.gates[c]
  let driven := g.drive = .on || g.drive = .off
  if g.selftest = 1 then s
  else
    match e with
    | .restored => s.modGate c fun g => { g with rbBad := false }
    | .on => if (g.latch.isNone && driven && g.levelCheck true reached s.now) || (g.latch.isSome && g.drive = .on) then s.gateFault c .rbOn else s
    | .open_ => if g.drive = .on && g.gateOn && decide (g.edgeAt + us 10 ≤ s.now) then s.gateFault c .rbOpen else s
    | .off =>
      if (g.latch.isNone && driven && g.levelCheck false reached s.now) || (g.latch.isSome && (g.drive = .off || g.drive = .heldLow)) then
        s.gateFault c .rbOff
      else s)

/-- `SOFT_OFF_END` (10 R277): the gate is below +2 V, or 4 us have passed, and the hold-low path takes it. -/
def execSoftOffEnd (c : Fin 52) (s : State) : Out :=
  .next (if s.gates[c].drive = Drive.softOff then
    s.modGate c Gate.holdLow
  else s)

/-! ## Reports -/

/-- Trip cause of an S channel's fault (10 Table 10-10). -/
def GateCause.trip (g : GateCause) : Nat := if g.group = some 0 then 0x0A else 0x0B

/-- Event of a single fault (10 Table 10-12). -/
def GateCause.event : GateCause → Option Nat
  | .didt => some 0x5001 | .didtHard => some 0x5002 | .didtBlank => some 0x5003
  | .uvloPos | .uvloNeg => some 0x5005
  | .rbOn | .rbOpen | .rbOff => some 0x5006
  | .stDidt | .stUvlo | .stRb => none

/-- The 40 bytes of event 0x5008 (10 R281, log 169): the cause of each channel in four bits, channel 0 first, then the maps of the
channels whose second cause is `UVLO_POS` and `UVLO_NEG`. -/
def coincidentData (w : List (Nat × GateCause × Bool × Option GateCause)) : List Byte :=
  let code (c : Nat) : Nat := match w.find? fun e => e.1 = c with | some e => e.2.1.code | none => 0
  let seconds (k : GateCause) : Nat := (w.filter fun e => e.2.2.2 = some k).foldl (fun m e => m ||| 2 ^ e.1) 0
  ((List.range 26).map fun k => u8 (16 * code (2 * k) + code (2 * k + 1))).flatten ++
    (u64 (seconds .uvloPos)).drop 1 ++ (u64 (seconds .uvloNeg)).drop 1

/-- Closes the coincident window: the individual events of one channel, or one event 0x5008 for all channels (10 R281). -/
def State.closeWindow (s : State) : State :=
  let w := s.gateBlock.window
  let t := { s with gateBlock := { s.gateBlock with window := [], windowAt := none } }
  if w.all fun e => (w.head?.map (·.1)) = some e.1 then
    t.forEach w fun t e =>
      match e.2.1.event with
      | some code => t.event code (ownerOf (Fin.ofNat 52 e.1)).obj e.1 (u8 e.1 ++ u8 (if e.2.2.1 then 1 else 0) ++ u8 e.2.1.code ++
          u8 (match e.2.2.2 with | some k => k.code | none => 0))
      | none => t
  else
    let map := w.foldl (fun m e => m ||| 2 ^ e.1) 0
    let t := { t with gateBlock := { t.gateBlock with map := map, count := sat32 t.gateBlock.count } }
    (t.event 0x5008 blockObj 0 (coincidentData w)).irqRaise 45

/-- Adds a report to the window, opening one where none is open (10 R281). -/
def State.openWindow (s : State) (c : Fin 52) (cause : GateCause) (on : Bool) (second : Option GateCause) : State :=
  let t := match s.gateBlock.windowAt with
    | some w => if w + us 1 < s.now then s.closeWindow else s
    | none => s
  { t with gateBlock := { t.gateBlock with
      window := t.gateBlock.window ++ [(c.val, cause, on, second)],
      windowAt := match t.gateBlock.windowAt with | some w => some w | none => some s.now } }

/-- The belay logic acts on a fault of Dn (09 R260, 10 R276): every string of the bank opens with BANK_FAULT, Dn on, FAULTED. -/
def State.clampFault (s : State) (b : Fin 4) : State :=
  let members := (s.stringsOf b).filter fun i => s.strs[i].state ≠ .excluded
  let t := s.forEach (s.stringsOf b) State.sOff
  let t := if t.banks[b].state = .faulted then t else t.faultBank b 0x02
  t.forEach members fun t i => t.tripStr i [0x0F]

/-- The belay logic acts on a fault of CnH or CnL (10 R276). -/
def State.bridgeFault (s : State) (b : Fin 4) : State :=
  let t := (s.hbOff b).modBank b fun k => { k with modulator := false }
  if t.banks[b].state = .live || t.banks[b].state = .faulted then t else t.faultBank b 0x01

/-- `GATE_FAULT_REPORT` (10 R276): the belay logic sets its record of the channel and acts on the owner. -/
def execGateFaultReport (c : Fin 52) (s : State) : Out :=
  .next (match s.gates[c].report with
  | none => s
  | some (cause, on) =>
    let second := s.gates[c].second
    let t := (s.modGate c fun g => { g with record := some cause, report := g.queued.head?, queued := g.queued.drop 1, second := none }).irqRaise
      (summaryIrq c)
    let t := if cause.group.isSome then t.openWindow c cause on second else t
    let t := (t.countFault 13 c.val).1
    match ownerOf c with
    | .string i => t.tripStr i [cause.trip]
    | .high b => t.bridgeFault b
    | .low b => t.bridgeFault b
    | .clamp b => t.clampFault b)

/-- `COINCIDENT_WINDOW_END` (10 R281): 1 us after the first fault of the window. -/
def execCoincidentWindowEnd (s : State) : Out :=
  .next (match s.gateBlock.windowAt with
  | some w => if w + us 1 ≤ s.now then s.closeWindow else s
  | none => s)

/-! ## Self-test and clearing -/

/-- A start of a self-test that R283 refuses. -/
def State.selfTestRefused (s : State) (c : Fin 52) : Bool :=
  let g := s.gates[c]
  g.cmd || g.selftest = 1 ||
    (match partnerGate c with | some (b, _) => s.banks[b].state = .precharging | none => false)

/-- Starts the comparator self-test of a channel (10 R283). -/
def State.applySelfTest (s : State) (c : Fin 52) : Applied :=
  if s.selfTestRefused c then
    .error (.state, (s.modGate c fun g => { g with selftest := if g.selftest = 1 then 1 else 5 }).gateEvent 0x5031 c (u8 c.val))
  else .ok (s.modGate c fun g => { g with selftest := 1 })

/-- The entry, element and bytes of a channel's `GATE_SELFTEST` (10 Table 10-7). -/
def selfTestWrite (c : Fin 52) (v : Nat) : Nat × Nat × List Byte :=
  match ownerOf c with
  | .string i => (strObj i, 0x00B3, u8 v)
  | .high b => (bankObj b, 0x0043, u8 v ++ u8 0 ++ u8 0)
  | .low b => (bankObj b, 0x0043, u8 0 ++ u8 v ++ u8 0)
  | .clamp b => (bankObj b, 0x0043, u8 0 ++ u8 0 ++ u8 v)

/-- `GATE_SELFTEST` (10 R283). -/
def execGateSelftest (src : Src) (c : Fin 52) (v : Nat) (s : State) : Out :=
  .next (s.unlessSwapping (.gateSelftest src c v) fun s =>
    let w := selfTestWrite c v
    s.writeVia src w.1 w.2.1 w.2.2 fun _ s => if v = 0 then .ok s else s.applySelfTest c)

/-- The condition of a failed step (10 R283). -/
def SelfTestEnd.cause : SelfTestEnd → Option GateCause
  | .failedDidt => some .stDidt | .failedUvlo => some .stUvlo | .failedRb => some .stRb | _ => none

/-- A running self-test of a channel ends (10 R283, R284). -/
def State.endSelfTest (s : State) (c : Fin 52) (e : SelfTestEnd) : State :=
  if s.gates[c].selftest ≠ 1 then s
  else
    match e with
    | .passed =>
      ((s.modGate c fun g => { g with selftest := 2, stCond := none }).event 0x5020 (ownerOf c).obj c.val (u8 c.val)).irqRaise 43
    | .aborted => s.abortTest c
    | .failedDidt | .failedUvlo | .failedRb =>
      let cause := (SelfTestEnd.cause e).getD .stRb
      let on := s.gates[c].seenCmd
      let t := (s.modGate c fun g => { g with selftest := 3, stCond := some cause }).gateFault c cause
      (t.event 0x5030 (ownerOf c).obj c.val (u8 c.val ++ u8 (if on then 1 else 0) ++ u8 cause.code)).irqRaise 43

/-- `GATE_CLEAR` of a bank (10 R280): records without a condition present clear; a latched Dn gets its 10 us pulse. -/
def State.applyGateClear (s : State) (b : Fin 4) : Applied :=
  let refused (t : State) (c : Fin 52) : State :=
    match t.gates[c].record with
    | some k => t.gateEvent 0x500D c (u8 c.val ++ u8 k.code)
    | none => t
  let chans := [chH b, chL b, chD b]
  if s.banks[b].state = .precharging then
    .error (.state, if (chans.any fun c => s.gates[c].record.isSome) then s.forEach chans refused else s.gateEvent 0x500D (chH b))
  else
    let t := s.forEach chans fun t c => if t.gates[c].present then t else t.modGate c fun g => { g with record := none }
    let d := chD b
    let t := if t.gates[d].latch.isSome && t.gates[d].cmd then
        ((t.setDn b false).modBank b fun k => { k with dnPulse := some s.now }).seeOff d
      else t
    .ok (t.forEach chans refused)

def execGateClear (src : Src) (b : Fin 4) (v : Nat) (s : State) : Out :=
  .next (s.unlessSwapping (.gateClear src b v) fun s => s.writeVia src (bankObj b) 0x0044 (u8 v) fun _ s => s.applyGateClear b)

end Sys2Proof.Machine
end

