-- ==== Sys2Proof/Machine/Belay.lean ====
section
/-!
DEFINITION. The belay logic's judgement of the envelope (spec/11, 04 R131): limits and bounds, confirmation counts, trips,
unseen counts, the committing of records, and the digest comparison.
-/

namespace Sys2Proof.Machine

/-! ## Bound tables (11 Table 11-3) -/

/-- Bounds of one chemistry class: `CELL_OV`, `CELL_UV` in 100 uV, `CELL_OT`, `CELL_UT` in 0.1 degC, greatest `RISE_RATE`. -/
structure ClassBound where
  ov : Int × Int
  uv : Int × Int
  ot : Int × Int
  ut : Int × Int
  rise : Int
  deriving DecidableEq, Repr

def classBound : Nat → Option ClassBound
  | 1 => some ⟨(33000, 38000), (20000, 30000), (300, 650), (-300, 50), 100⟩
  | 2 => some ⟨(39000, 43000), (25000, 34000), (300, 600), (-300, 50), 50⟩
  | 3 => some ⟨(39000, 42500), (25000, 34000), (300, 600), (-300, 50), 50⟩
  | 4 => some ⟨(25000, 29000), (14000, 21000), (300, 650), (-400, 50), 100⟩
  | 5 => some ⟨(37000, 41000), (10000, 25000), (300, 600), (-300, 50), 100⟩
  | _ => none

/-- Bounds that hold for every class (11 R302); none for the entries bounded by class alone. -/
def commonBound : Nat → Option (Int × Int)
  | 4 | 7 | 0xA | 0xD => some (1, 4)
  | 8 => some (5, 100)
  | 9 => some (20, 600)
  | 0xB | 0xC => some (1000, 2500000)
  | _ => none

/-- Bounds of an item in a class. -/
def ClassBound.of (c : ClassBound) : Nat → Option (Int × Int)
  | 2 => some c.ov | 3 => some c.uv | 5 => some c.ot | 6 => some c.ut | 8 => some (5, c.rise)
  | k => commonBound k

/-! ## Limits in force -/

/-- Object of an envelope set. -/
def envObj (e : Nat) : Nat := 0x2400 + e

/-- A committed value of a set, sign-extended. -/
def State.envVal (s : State) (e sub : Nat) : Option Int :=
  (s.committed (envObj e) sub).map fun v => if sub = 5 ∨ sub = 6 then toSigned 32 v else (v : Int)

/-- The limit of an item in force for a set: the committed value, the most restrictive bound of the class where both copies have
failed (11 R308), and the default of a confirmation value or window (11 R301). -/
def State.limit (s : State) (e sub : Nat) : Option Int :=
  if s.belay.degraded.contains (dkey (envObj e) sub 0) then
    let cls := (classBound (s.bval (envObj e) 1)).getD ⟨(33000, 38000), (20000, 30000), (300, 650), (-300, 50), 100⟩
    match sub with
    | 2 => some cls.ov.1 | 3 => some cls.uv.2 | 5 => some cls.ot.1 | 6 => some cls.ut.2 | 8 => some 5
    | 4 | 7 | 0xA | 0xD => some 1
    | _ => s.envVal e sub
  else
    match s.envVal e sub with
    | some v => some v
    | none => if envLimits.contains sub then none else some (s.bval (envObj e) sub : Int)

/-- The confirmation value of an item (11 Table 11-2). -/
def EnvItem.confirmSub : EnvItem → Nat
  | .ov | .uv => 4 | .ot | .ut => 7 | .rise => 0xA | .ocDis | .ocChg => 0xD

def EnvItem.limitSub : EnvItem → Nat
  | .ov => 2 | .uv => 3 | .ot => 5 | .ut => 6 | .rise => 8 | .ocDis => 0xB | .ocChg => 0xC

/-! ## Judging (11 R295 to R298) -/

/-- One evaluation of an item (11 R296): the count rises or returns to 0; at its confirmation value the trip falls due. -/
def BelayStr.evaluate (b : BelayStr) (e : EnvItem) (el : Nat) (violated : Bool) (k : Nat) (value limit : Int) : BelayStr :=
  let key := e.code * 2048 + el
  let b := { b with violated := if violated then NatSet.ins b.violated key else NatSet.del b.violated key }
  if !violated then { b with counts := Sparse.del b.counts key }
  else
    let n := Sparse.getD b.counts key 0 + 1
    if k ≤ n then { b with counts := Sparse.del b.counts key, due := b.due ++ [(e, el, value, limit)] }
    else { b with counts := Sparse.put b.counts key n, pendingSeen := true }

/-- Evaluates an item of a string where its limit is in force. -/
def State.evalItem (s : State) (i : Fin 40) (e : EnvItem) (el : Nat) (value : Int) (violates : Int → Bool) : State :=
  let set_ := s.profileOf i
  match s.limit set_ e.limitSub with
  | none => s
  | some l => s.modBStr i fun b => b.evaluate e el (violates l) ((s.limit set_ e.confirmSub).getD 1).toNat value l

/-- The belay logic evaluates no envelope item of an excluded string (09 Table 9-1). -/
def State.judges (s : State) (i : Fin 40) : Bool := !s.strs[i].exclusion

/-- An accepted cell voltage of element `el`, 100 uV (11 Table 11-2). -/
def State.judgeCell (s : State) (i : Fin 40) (el v : Nat) : State :=
  let s := s.modBStr i fun b => { b with extremes := match b.extremes with
    | none => some (v, v)
    | some x => some (max x.1 v, min x.2 v) }
  if !s.judges i then s
  else (s.evalItem i .ov el v fun l => decide (l < (v : Int))).evalItem i .uv el v fun l => decide ((v : Int) < l)

/-- An accepted H1 reply: `I_LATCH` and `I_CHECK`, mA. -/
def State.judgeCurrent (s : State) (i : Fin 40) (iLatch iCheck : Int) : State :=
  let s := s.modBStr i fun b => { b with iLatch := iLatch }
  if !s.judges i then s
  else
    let hi := max iLatch iCheck
    let lo := min iLatch iCheck
    (s.evalItem i .ocDis 0 hi fun l => decide (l < hi)).evalItem i .ocChg 0 lo fun l => decide (lo < -l)

/-- A thermistor reading is valid (11 R297). -/
def thermOk (t : Int) : Bool := t ≠ 0x7FFF && t ≠ -0x8000

/-- The rise item of one thermistor and its snapshots (11 R298), `at_` the alignment instant of the slow latch in ms. The item's value is the rise
in 0.1 degC/min, to the nearest (log 177). -/
def State.judgeRise (s : State) (i : Fin 40) (th : Nat) (t : Int) (at_ : Nat) : State :=
  let snaps := Sparse.getD s.bstr[i].snaps th []
  let window := ((s.limit (s.profileOf i) 9).getD 60).toNat
  let stored := match snaps with
    | [] => true
    | n :: _ => decide (n.2 * 4 + window * 1000 ≤ at_ * 4)
  let s' := match (snaps.drop 4).head? with
    | some (some ref, tRef) =>
      if thermOk t && s.judges i then
        s.evalItem i .rise th (roundHalfEven ((t - ref) * 60000) (at_ - tRef)) fun l => decide (l * ((at_ : Int) - ((tRef : Nat) : Int)) < (t - ref) * 60000)
      else s
    | _ => s
  if stored then
    s'.modBStr i fun b => { b with snaps := Sparse.put b.snaps th (((if thermOk t then some t else none), at_) :: snaps.take 4) }
  else s'

/-- An accepted temperature reply of the monitor at position `p`: 32 readings, two for each element (11 R292, R297). -/
def State.judgeTemps (s : State) (i : Fin 40) (p : Nat) (ts : List Int) : State :=
  let s := s.modBStr i fun b => { b with slowNow := b.slowNow ||| 2 ^ p, thermNow := b.thermNow || ts.any fun t => !thermOk t }
  let at_ := s.belay.slowAt / ms 1
  s.forEach (List.range 16) fun s j =>
    let el := 16 * (p - 1) + j
    let a := ts.getD (2 * j) 0x7FFF
    let b := ts.getD (2 * j + 1) 0x7FFF
    let valid := [a, b].filter thermOk
    let s :=
      if !s.judges i then s
      else match valid with
        | [] => s.evalItem i .ut el a fun _ => true
        | _ =>
          let hi := valid.foldl max (valid.headD 0)
          let lo := valid.foldl min (valid.headD 0)
          (s.evalItem i .ot el hi fun l => decide (l < hi)).evalItem i .ut el lo fun l => decide (lo < l)
    (s.judgeRise i (2 * el) a at_).judgeRise i (2 * el + 1) b at_

/-! ## Trips -/

/-- Trip cause, IRQ and event of an item (11 Table 11-2, R296). -/
def EnvItem.trip : EnvItem → Nat × Nat × Nat
  | .ov => (1, 46, 0x6001) | .uv => (2, 46, 0x6002) | .ot => (3, 47, 0x6003) | .ut => (4, 47, 0x6004)
  | .rise => (5, 49, 0x6005) | .ocDis => (6, 48, 0x6006) | .ocChg => (7, 48, 0x6007)

/-- Element shown at `TRIP_ELEMENT` (11 Table 11-9); elements and thermistors count from 1. -/
def EnvItem.shown (e : EnvItem) (el : Nat) : Nat := if e = .ocDis ∨ e = .ocChg then 0xFFFF else el + 1

/-- `ENVELOPE_TRIP` (11 R296): the items that have reached their confirmation value trip the string in one BEL cycle. -/
def execEnvelopeTrip (i : Fin 40) (s : State) : Out :=
  .next (match s.bstr[i].due with
  | [] => s
  | due =>
    let t := s.modBStr i fun b => { b with due := [] }
    let t := t.tripStr i (due.map fun d => d.1.trip.1)
    t.forEach due fun t d =>
      let t := (t.irqRaise d.1.trip.2.1).event d.1.trip.2.2 (strObj i) (d.1.shown d.2.1) (u16 (d.1.shown d.2.1) ++ i32 d.2.2.1 ++ i32 d.2.2.2)
      t.modBStr i fun b => { b with tripElement := d.1.shown d.2.1, tripValue := d.2.2.1 })

/-! ## Unseen counts (04 R131, 11 R299) -/

/-- Unseen limit of a string; failed in both copies, 1 (11 R308). -/
def State.unseenLimit (s : State) (i : Fin 40) : Nat :=
  if s.belay.degraded.contains (dkey (strObj i) 0x0019 0) then 1 else s.bval (strObj i) 0x0019

/-- One step of the unseen counts: positions `lo` to n_B not in `seen` count up by `add`, the others return to 0; a count that
comes to stand above the limit falls due once. `key` is 0 for traverses, 64 for slow rounds. -/
def unseenStep (counts : Vector Nat 33) (lo nB seen add limit key : Nat) (beyond due : NatSet) : Vector Nat 33 × NatSet × NatSet :=
  let runs (p : Nat) : Bool := decide (lo ≤ p) && decide (p ≤ nB) && !seen.testBit p
  let new := Vector.ofFn fun p : Fin 33 => if runs p.val then counts[p] + add else 0
  let above := (List.range 33).filter fun p => runs p && decide (limit < (new.toList.getD p 0))
  (new, (above.map (key + ·)).foldl NatSet.ins (beyond.filter fun k => k / 64 ≠ key / 64 || above.contains (k - key)),
    ((above.map (key + ·)).filter fun k => !beyond.contains k).foldl NatSet.ins due)

/-- The traverse counts of a string that is not EXCLUDED. -/
def State.countUnseen (s : State) (i : Fin 40) (seen add : Nat) : State :=
  if s.strs[i].exclusion then s
  else s.modBStr i fun b =>
    let r := unseenStep b.unseen 0 b.nB seen add (s.unseenLimit i) 0 b.beyond b.unseenDue
    { b with unseen := r.1, beyond := r.2.1, unseenDue := r.2.2 }

/-- The slow-round counts of a string that is not EXCLUDED. -/
def State.countSlow (s : State) (i : Fin 40) (seen add : Nat) : State :=
  if s.strs[i].exclusion then s
  else s.modBStr i fun b =>
    let r := unseenStep b.slowUnseen 1 b.nB seen add (s.unseenLimit i) 64 b.beyond b.unseenDue
    { b with slowUnseen := r.1, beyond := r.2.1, unseenDue := r.2.2 }

/-- The slow-round counts of a string at the end of a slow round, and its `THERM_INVALID` (11 Table 11-11). -/
def State.countSlowUnseen (s : State) (i : Fin 40) : State :=
  (s.countSlow i s.bstr[i].slowNow 1).modBStr i fun b => { b with thermInvalid := b.thermNow }

/-- Every unseen count of a string, of traverses and of slow rounds, rises by `n` (11 R299). -/
def State.countMissing (s : State) (i : Fin 40) (n : Nat) : State := (s.countUnseen i 0 n).countSlow i 0 n

/-- `UNSEEN_LIMIT_REACHED` (04 R131): the string opens and trips with UNSEEN; IRQ 51 and event 0x6020 name each position. -/
def execUnseenLimitReached (i : Fin 40) (s : State) : Out :=
  .next (match s.bstr[i].unseenDue with
  | [] => s
  | due =>
    let t := s.modBStr i fun b => { b with unseenDue := [] }
    let t := (t.tripStr i [0x08]).modRope i fun r => { r with unseenTrip := true }
    t.forEach due fun t k => (t.irqRaise 51).event 0x6020 (strObj i) (k % 64) (u8 (k % 64) ++ u8 (k / 64)))

/-- `MISSING_TRAVERSE_DETECT` (01 R35, 11 R299): no tap entry for 2 x T_trav + 1 ms. The model's choice: nothing is detected before the first
traverse of a start has ended, when no period has been announced (log 175). -/
def execMissingTraverseDetect (s : State) : Out :=
  .next (if s.belay.released && s.belay.traverseSeen && !s.belay.missing && s.mode.block ≠ .baseCamp &&
      decide (s.belay.lastTap + 2 * s.tEff + ms 1 ≤ s.now) then
    let t := s.modBelay fun b => { b with missing := true, missingFor := s.trav.number, lastTap := s.now }
    ((t.forEach allStr fun t i => t.countMissing i 2).irqRaise 52).event 0x6021 blockObj 0
  else s)

/-- `MISSING_TRAVERSE_INTERVAL` (11 R299): one more announced period without a tap entry. -/
def execMissingTraverseInterval (s : State) : Out :=
  .next (if s.belay.missing && s.mode.block ≠ .baseCamp && decide (s.belay.lastTap + s.tEff ≤ s.now) then
    (s.modBelay fun b => { b with lastTap := s.now }).forEach allStr fun t i => t.countMissing i 1
  else s)

/-! ## Match evaluation (09 R251) -/

/-- Changes MATCH_OK at an evaluation: IRQ 32 and event 0x402A. -/
def State.setMatch (s : State) (i : Fin 40) (ok : Bool) : State :=
  if s.strs[i].matchOk = ok then s
  else ((s.modStr i fun c => { c with matchOk := ok }).irqRaise 32).event 0x402A (strObj i) 0 (u8 (if ok then 1 else 0))

/-- Evaluates the match of a string once its H1 value and its bank's link value of the traverse are both accepted. -/
def State.evalMatch (s : State) (i : Fin 40) : State :=
  let b := s.bankOf i
  match s.strs[i].vString, s.closePass i with
  | some v, some _ =>
    if s.bstr[i].seenNow.testBit 0 && s.banks[b].linkSeen then
      let dv : Int := (v : Int) - s.banks[b].vLink
      (s.modStr i fun c => { c with matchDv := dv }).setMatch i (decide (dv.natAbs ≤ s.bval (bankObj b) 0x0010))
    else s
  | _, _ => s

/-- A traverse ends in which one of the two values is missing: MATCH_OK clears. -/
def State.endMatch (s : State) (i : Fin 40) : State :=
  if (s.closePass i).isSome && !(s.bstr[i].seenNow.testBit 0 && s.banks[s.bankOf i].linkSeen) then s.setMatch i false else s

/-! ## Reports (01 R33, Table 1-6, 11 R293) -/

/-- A report enters the belay report queue (01 Table 1-6): firmware that does not act leaves 64 waiting, and the others are lost, counted
and reported by IRQ 54 (01 R33). -/
def State.postReport (s : State) (r : BelayReport) : State :=
  if s.fwActs || decide (s.belay.reports.length < 64) then s.modBelay fun b => { b with reports := b.reports ++ [r] }
  else ((s.irqRaise 54).event 0x6035 blockObj 0).modBelay fun b => { b with reportLoss := sat32 b.reportLoss, seen := b.seen ||| 0x10 }

/-- A changed n_B of a string is posted (11 R293). -/
def State.setCount (s : State) (i : Fin 40) (n : Nat) : State :=
  if n = s.bstr[i].nB then s
  else (s.modBStr i fun b => { b with nB := n }).postReport ⟨i.val, 3, s.trav.number.getD 0 % 65536, n, none, 0, none⟩

/-- n_B of a string follows its highest `SRC` (11 R292). -/
def State.noteCount (s : State) (i : Fin 40) (src : Nat) : State := s.setCount i (max s.bstr[i].nB src)

/-! ## Records (11 R304 to R308, 12 R317, R318) -/

/-- CHECK of a record: CRC-16 over bits 127:16 taken as 14 bytes (11 Table 11-5). -/
def BelayRecord.checkOf (r : BelayRecord) : Nat :=
  crc16 (beBytes 14 (r.kind * 2 ^ 108 + r.index * 2 ^ 92 + r.sub * 2 ^ 76 + r.slot * 2 ^ 73 + r.element * 2 ^ 68 +
    (if r.replay then 2 ^ 67 else 0) + r.value * 2 ^ 32 + r.reqId * 2 ^ 16 + r.num * 2 ^ 8 + r.count))

def BelayRecord.key (r : BelayRecord) : Nat := dkey r.index r.sub r.element

/-- The records of one item: one for each element (11 R305). -/
def recordsOf (head : SealHead) (replay : Bool) (i : SealItem) : List BelayRecord :=
  match entryOf i.index i.sub with
  | none => []
  | some r =>
    (List.range r.count).map fun k =>
      let n := ofBytes ((i.data.drop (k * r.width)).take r.width)
      { kind := if isSafetyIo i.index i.sub then 9 else 8, index := i.index, sub := i.sub, slot := head.slot, element := k, replay := replay,
        value := if r.signed then ofSigned 32 (toSigned (8 * r.width) n) else n, reqId := head.counter % 65536, num := 0, count := 0, check := 0 }

/-- The records of a request, numbered and with their check codes. -/
def requestRecords (r : SealedReq) (replay : Bool) : List BelayRecord :=
  let rs := ((r.items.filter fun i => isEnvelope i.index i.sub || (!replay && isSafetyIo i.index i.sub)).map (recordsOf r.head replay)).flatten
  rs.zipIdx.map fun p => let q := { p.1 with num := p.2, count := rs.length }; { q with check := q.checkOf }

/-- The value a record keeps: the reserved bits of `IN_CFG` (12 Table 12-6) and of `SM_RX_CFG` (12 Table 12-18) read 0. -/
def BelayRecord.kept (r : BelayRecord) : Nat :=
  if 0x2101 ≤ r.index ∧ r.index ≤ 0x2104 ∧ r.sub = 0x0050 then r.value &&& 0xFFBFFFFF
  else if r.index = 0x2000 ∧ r.sub = 0x0169 then r.value &&& 0xFFF0FFFF
  else r.value

/-- The store with the staged records written. -/
def stagedStore (store : Sparse Nat) (rs : List BelayRecord) : Sparse Nat := rs.foldl (fun t r => Sparse.put t r.key r.kept) store

/-- The string of an object, the bank of an object. -/
def strOf (index : Nat) : Fin 40 := Fin.ofNat 40 (index - 0x2201)
def bankOfObj (index : Nat) : Fin 4 := Fin.ofNat 4 (index - 0x2101)

/-- Every S and C command of the block is off (03 R85). -/
def State.pathOff (s : State) : Bool := (List.finRange 52).all fun c => decide (48 ≤ c.val) || !s.gates[c].cmd

/-- The check of one envelope record besides the bounds of its class (11 Table 11-4). -/
def State.recordOk (s : State) (r : BelayRecord) : Bool :=
  if 0x2401 ≤ r.index ∧ r.index ≤ 0x2404 then
    (if r.sub = 1 then (classBound r.value).isSome
     else match commonBound r.sub with
       | some b => decide (b.1 ≤ (r.value : Int) ∧ (r.value : Int) ≤ b.2)
       | none => true) && (!r.replay || s.pathOff)
  else
    let ranged := match entryOf r.index r.sub with
      | some e => decide ((e.rangeOf r.element).1 ≤ (r.value : Int) ∧ (r.value : Int) ≤ (e.rangeOf r.element).2)
      | none => false
    let state :=
      if r.replay then s.pathOff
      else if r.sub = 0x0080 then !s.gates[chS (strOf r.index)].cmd
      else if r.sub = 0x0008 then s.strs[strOf r.index].exclusion
      else if r.sub = 0x0019 then true
      else !s.anySOn (bankOfObj r.index) && !s.hbPermitted (bankOfObj r.index)
    ranged && state

/-- A set of a store obeys its class and the two rules of R303. -/
def setOk (store : Sparse Nat) (e : Nat) : Bool :=
  let get (sub : Nat) : Option Int := (Sparse.get? store (dkey (envObj e) sub 0)).map fun v => if sub = 5 ∨ sub = 6 then toSigned 32 v else (v : Int)
  let inClass := match (get 1).bind fun c => classBound c.toNat with
    | none => true
    | some cls => (List.range 0xE).all fun sub =>
      match get sub, cls.of sub with
      | some v, some b => decide (b.1 ≤ v ∧ v ≤ b.2)
      | _, _ => true
  let apart (hi lo : Nat) (d : Int) : Bool := match get hi, get lo with
    | some a, some b => decide (b + d ≤ a)
    | _, _ => true
  inClass && apart 2 3 5000 && apart 5 6 200

/-- Why one record of a set fails in the staged state: 5 a bound of its class, for the class record one that a value it leaves standing exceeds,
6 the distance of R303. -/
def setFailure (store : Sparse Nat) (staged : List Nat) (r : BelayRecord) : Option Nat :=
  let e := r.index - 0x2400
  let get (sub : Nat) : Option Int := (Sparse.get? store (dkey (envObj e) sub 0)).map fun v => if sub = 5 ∨ sub = 6 then toSigned 32 v else (v : Int)
  let bad (sub : Nat) : Bool := match get sub, ((get 1).bind fun c => classBound c.toNat).bind fun c => c.of sub with
    | some v, some b => !decide (b.1 ≤ v ∧ v ≤ b.2)
    | _, _ => false
  let near (hi lo : Nat) (d : Int) : Bool := (r.sub = hi || r.sub = lo) && match get hi, get lo with
    | some a, some b => decide (a < b + d)
    | _, _ => false
  if (if r.sub = 1 then (List.range 0xE).any fun k => bad k && !staged.contains (dkey (envObj e) k 0) else bad r.sub) then some 5
  else if near 2 3 5000 || near 5 6 200 then some 6
  else none

/-- Why a record fails the checks of the staged state (11 R306, R307): 2 an entry outside Table 11-4, 4 its own range or condition, 5 and 6 its
set; none where it passes. -/
def State.recordFailure (s : State) (store : Sparse Nat) (staged : List Nat) (r : BelayRecord) : Option Nat :=
  if !isEnvelope r.index r.sub then some 2
  else if !s.recordOk r then some 4
  else if 0x2401 ≤ r.index ∧ r.index ≤ 0x2404 then setFailure store staged r
  else none

/-- The first envelope record that fails the checks of the staged state as a whole, with its reason (11 R306, R307). -/
def State.envRefusal (s : State) (rs : List BelayRecord) : Option (Nat × Nat) :=
  let store := stagedStore s.belay.store rs
  let keys := rs.map BelayRecord.key
  (rs.find? fun r => (s.recordFailure store keys r).isSome).map fun r => (r.num, (s.recordFailure store keys r).getD 0)

/-- Commits staged records in one BEL cycle (11 R306): the degraded state of a rewritten record ends, a requested rewrite may
complete (11 R308, R311), and a changed `RISE_WINDOW` starts its snapshots again (11 R298). -/
def State.commitRecords (s : State) (rs : List BelayRecord) (code : Nat) : State :=
  let window (s : State) (i : Fin 40) : Option Int := s.limit (s.profileOf i) 9
  let keys := rs.map BelayRecord.key
  let t := s.modBelay fun b => { b with
    store := stagedStore b.store rs, degraded := b.degraded.filter fun k => !keys.contains k,
    badCopies := b.badCopies.filter fun p => !keys.contains p.1, commits := sat32 b.commits,
    rewrite := b.rewrite.filter fun k => !keys.contains k, staging := [] }
  let t := t.forEach allStr fun t i => if window s i = window t i then t else t.modBStr i fun b => { b with snaps := [] }
  let t := t.event code blockObj 0 (u8 rs.length)
  if !s.belay.rewrite.isEmpty && t.belay.rewrite.isEmpty then t.event 0x6036 blockObj 0 else t

/-- Refuses the records of a request (11 R307): event with the failing record and its reason, 1 its CHECK, 2 an entry outside the table, 3 a record
of another request, 4 to 6 the checks of R306 (log 176); `ENV_REFUSED_SEEN`; its other records leave the queue. -/
def State.refuseRecords (s : State) (r : BelayRecord) (num why : Nat) : State :=
  let t := s.modBelay fun b => { b with staging := [], seen := b.seen ||| 4, privQ := b.privQ.filter fun e => match e with
    | .record q => q.reqId ≠ r.reqId || q.slot ≠ r.slot || q.kind ≠ r.kind
    | .pass _ => true }
  t.event (if r.kind = 8 then 0x6032 else 0x7041) blockObj 0 (u8 num ++ u16 r.reqId ++ u8 why)

/-- Most restrictive forms and events where both copies of a record fail (11 R308, 12 R318); a single bad copy is restored from
the other. Done once in every slow round. -/
def State.checkCopies (s : State) : State :=
  let t := s.forEach s.belay.badCopies fun t p =>
    let safety := isSafetyIo (p.1 / 2 ^ 32) (p.1 / 2 ^ 16 % 2 ^ 16)
    if p.2 % 4 = 3 then
      (t.modBelay fun b => { b with degraded := NatSet.ins b.degraded p.1 }).event (if safety then 0x7042 else 0x6034) blockObj 0 (u64 p.1)
    else if p.2 % 4 = 0 then t
    else (t.modBelay fun b => { b with seen := b.seen ||| 2 }).event 0x6033 blockObj 0 (u64 p.1)
  t.modBelay fun b => { b with badCopies := [] }

/-! ## The mirror (11 R310, R311) -/

/-- Digest over a store in ascending order of index, sub-index and element. -/
def digestOf (store : Sparse Nat) : Nat :=
  crc32c ((store.map fun p => u16 (p.1 / 2 ^ 32) ++ u16 (p.1 / 2 ^ 16 % 2 ^ 16) ++ u8 (p.1 % 2 ^ 16) ++ u32 p.2).flatten)

/-- Keys whose values differ between two stores. -/
def differing (a b : Sparse Nat) : NatSet :=
  ((a.map (·.1)) ++ (b.map (·.1))).foldl (fun m k => if Sparse.get? a k = Sparse.get? b k then m else NatSet.ins m k) []

/-- Firmware's part after a comparison that differed (11 R311): it takes the belay values into its mirror and asks for a sealed rewrite; while it
does not act this waits. -/
def State.repairMirror (s : State) : State :=
  if !s.belay.mirrorDue || !s.fwActs then s
  else
    let diff := differing s.belay.store s.belay.mirror
    let t := s.modBelay fun b => { b with mirrorDue := false, mirror := b.store, rewrite := diff.foldl NatSet.ins b.rewrite }
    t.event 0x6030 blockObj 0 (((diff.take 4).map u64).flatten)

/-- `MIRROR_DIGEST_COMPARE` (11 R311): the digests of the last slow latch and of the mirror, where they belong to one commit count. -/
def execMirrorDigestCompare (s : State) : Out :=
  .next (match s.belay.mirrorPosted with
  | none => s
  | some (d, n) =>
    let t := s.modBelay fun b => { b with mirrorPosted := none }
    if n ≠ t.belay.digestCommits then t
    else
      let t := t.modBelay fun b => { b with mirrorDigest := d }
      if d = t.belay.digest then t.modBelay fun b => { b with mirrorMismatch := false }
      else
        let t := (t.irqRaise 50).modBelay fun b => { b with
          mirrorMismatch := true, mirrorDue := true, mismatchCount := sat32 b.mismatchCount, seen := b.seen ||| 8 }
        t.repairMirror)

end Sys2Proof.Machine
end

