-- ==== Sys2Proof/Machine/LearnOps.lean ====
section
/-!
DEFINITION. The learned data and the cell history in flash (spec/17 R452 to R458, spec/08 R228, R233): the copies, their
write-back, their selection at a start, and the history sets.
-/

namespace Sys2Proof.Machine

/-! ## Cells of the estimator -/

/-- Key of series element `e` (counted from 0) of a string. -/
def cellKey (i : Fin 40) (e : Nat) : Nat := i.val * 1024 + e

/-- Monitors of a string in force since its last roll call (04 R102). -/
def State.monitors (s : State) (i : Fin 40) : Nat := s.ropes[i].n

/-- A cell without learned data (08 R228): 50 % SoC and uncertainty, the profile's `CAP_NOM`. -/
def CellEst.fresh (cap : Nat) : CellEst :=
  { soc := 50, u := 50, cap := cap, r := none, q := 0, qBal := 0, ring := [], anchorAt := none, ocv := 0, learned := 0, temp := 0,
    tempNow := false, card := Card.empty }

/-- `CAP_NOM` of the string's profile, mAh (08 R210). -/
def State.capNom (s : State) (i : Fin 40) : Nat := s.val (0x2300 + s.profileOf i) 2

/-- `CAP_NOM` and `R_DC_FACTOR` of the string's profile as the last estimator step took them (08 R210, R212). -/
def State.inForce (s : State) (i : Fin 40) : Nat × Nat := s.est.force[Fin.ofNat 4 (s.est.strs[i].profile + 3)]

/-- The profile tables as they stand are taken into force (08 R212). -/
def State.takeTables (s : State) : State :=
  s.modEst fun x => { x with force := Vector.ofFn fun p : Fin 4 => (s.val (0x2301 + p.val) 2, s.val (0x2301 + p.val) 0x000A) }

def State.cellEst (s : State) (i : Fin 40) (e : Nat) : CellEst := Sparse.getD s.est.cells (cellKey i e) (CellEst.fresh (s.inForce i).1)

/-- `DRIFT` of the string's profile, % per hour (08 Table 8-1). -/
def State.drift (s : State) (i : Fin 40) : Rat := (s.val (0x2300 + s.profileOf i) 7 : Rat) / 1000

/-- A rational to the nearest whole number (log 25). -/
def ratRound (q : Rat) : Int := roundHalfEven q.num q.den

/-- A figure in units of `1 / per`, to the nearest (17 Table 17-4). -/
def inUnits (q : Rat) (per : Nat) : Rat := (ratRound (q * per) : Rat) / per

def ratMax (a b : Rat) : Rat := if a ≤ b then b else a
def ratMin (a b : Rat) : Rat := if a ≤ b then a else b
def ratAbs (a : Rat) : Rat := if a < 0 then -a else a

/-! ## Copies -/

/-- The cell entry of a copy (17 Table 17-4). -/
def CellEst.toCopy (c : CellEst) (now : Nat) : CellEst :=
  { CellEst.fresh 0 with
    soc := inUnits c.soc 100, u := inUnits c.u 100, cap := inUnits c.cap 1, r := (c.r.map (inUnits · 1)).filter (· ≠ 0), learned := c.learned,
    card := { c.card with throughput := inUnits c.card.throughput 1, hot := c.card.hot / sec 60 * sec 60 },
    ring := c.ring.map fun a => { soc := inUnits a.soc 100, sigma := inUnits a.sigma 100, at_ := (now - a.at_) / sec 1, q := inUnits (a.q - c.q) 1 } }

/-- A cell taken from a copy written `since` ns ago. -/
def CellEst.ofCopy (c : CellEst) (now since : Nat) : CellEst :=
  let ring := c.ring.map fun a => { a with at_ := now - (sec a.at_ + since) }
  { c with ring := ring, anchorAt := ring.head?.map Anchor.at_ }

/-- Strings installed since the last start, bit s - 1 (15 R413). -/
def State.installedMap (s : State) : Nat := mapBits 40 fun k => s.strs[Fin.ofNat 40 k].installed
def State.excludedMap (s : State) : Nat := mapBits 40 fun k => s.strs[Fin.ofNat 40 k].state = .excluded

/-- The snapshot of a write-back at generation `gen` (17 R453). -/
def State.learnedImage (s : State) (gen reason : Nat) : Learned :=
  { generation := gen, crcOk := true, serial := s.serial, writtenAt := s.utc, quality := s.tq, reason := reason, installed := s.installedMap,
    cells := s.est.cells.map fun p => (p.1, p.2.toCopy s.now),
    reported := ((s.est.strs.toList.map StrEst.reported) ++ s.est.bankRep.toList ++ [s.est.blockRep]).map (inUnits · 1000000),
    isd := s.corr.selfd.map fun p => (p.1, p.2.isd),
    levels := s.corr.selfd.map fun p => (p.1, p.2.level),
    onTime := s.bal.onTime.map fun p => (p.1, p.2 / 100000) }

/-- Newest generation among the regions (17 R454). -/
def State.learnGen (s : State) : Nat := (s.store.copies.toList.map fun c => if c.crcOk then c.generation else 0).foldl max 0

/-- The procedure of R97 or R100 is in force: `PFW` or a thermal shutdown. -/
def State.hurried (s : State) : Bool := s.supply.pfw || s.therm.shutdown

/-- The target slot of a region stands erased (17 R452: within 2 s of its last write). -/
def State.slotErased (s : State) (r : Fin 3) : Bool :=
  match s.store.slotAt[r] with
  | some t => decide (t + sec 2 ≤ s.now)
  | none => true

/-- Ends a write-back without its remaining copies: the learned data stay unwritten, and under R97 or R100 the history set is lost
(17 R456). -/
def State.abandonWrite (s : State) : State :=
  match s.store.writing with
  | none => s
  | some (_, reason, _) =>
    s.modStore fun g => { g with writing := none, waiting := none, changed := true, lostSet := if s.hurried then some reason else g.lostSet }

/-! ## Cell history -/

/-- The slot a new set takes, and whether it replaces one (17 R455, R457). -/
def historySlot (sets : Sparse HistSet) : Nat × Bool :=
  match (List.range 128).find? fun k => (Sparse.get? sets k).isNone with
  | some k => (k, false)
  | none =>
    let byAge := sets.foldl (fun acc p =>
      (acc.takeWhile fun q => q.2.seq < p.2.seq) ++ p :: (acc.dropWhile fun q => q.2.seq < p.2.seq)) ([] : List (Nat × HistSet))
    let older := byAge.take 100
    match (older.zip (older.drop 1)).find? fun p => decide (p.2.2.time < p.1.2.time + 7 * 86400000) with
    | some p => (p.2.1, true)
    | none => ((older.head?.map (·.1)).getD 0, true)

/-- Appends the history set of a write-back (17 R455); none once the partition has stopped writing (18 R476). -/
def State.appendHistory (s : State) (img : Learned) (reason : Nat) : State :=
  if s.health.stoppedParts.testBit 3 then s
  else
  let cells := (allStr.map fun i => (List.range (16 * s.val (strObj i) 0x0012)).map fun e =>
    let k := cellKey i e
    (k, (Sparse.getD img.cells k (CellEst.fresh (s.capNom i)), Sparse.getD img.isd k 0, Sparse.getD img.levels k 0))).flatten
  let at_ := historySlot s.store.sets
  let seq := (s.store.sets.map fun p => p.2.seq).foldl max 0 + 1
  let set_ : HistSet := { seq := seq, time := img.writtenAt, quality := img.quality, reason := reason, generation := img.generation,
                          installed := img.installed, excluded := s.excludedMap, cells := cells }
  let t := s.modStore fun g => { g with sets := Sparse.put g.sets at_.1 set_ }
  if at_.2 then t.event 0xC040 0x1C01 at_.1 else t

/-! ## Write-back -/

/-- Takes the snapshot of a write-back and begins region 1 (17 R453); a write-back in progress makes it wait. -/
def State.beginWrite (s : State) (reason : Nat) : State :=
  match s.store.writing with
  | some _ => s.modStore fun g => { g with waiting := some (g.waiting.getD reason) }
  | none => s.modStore fun g => { g with writing := some (s.learnedImage (s.learnGen + 1) reason, reason, 0), changed := false }

/-- A copy of the learned data may begin: under `PFW` or after a thermal shutdown, no later than 40 ms after it (03 R97, R100). -/
def State.copyMayStart (s : State) : Bool :=
  (!s.supply.pfw || decide (s.now ≤ s.supply.pfwAt + ms 40)) && (!s.therm.shutdown || decide (s.now ≤ s.therm.shutdownAt + ms 40))

/-- Moves a write-back on to its next region, past regions it skips or after the last to its end (17 R453). `n` bounds the moves. -/
def State.nextCopy : Nat → State → State
  | 0, s => s
  | n + 1, s =>
    match s.store.writing with
    | none => s
    | some (img, reason, k) =>
      if h : k < 3 then
        if s.health.stoppedParts.testBit k then State.nextCopy n (s.modStore fun g => { g with writing := some (img, reason, k + 1) })
        else if !s.copyMayStart then s.abandonWrite
        else if s.hurried && !s.slotErased ⟨k, h⟩ then
          State.nextCopy n (((s.modStore fun g => { g with writing := some (img, reason, k + 1), seen := g.seen ||| 8 })).event 0xC034 0x1C01 (k + 1))
        else s
      else
        let whole := s.store.copies.toList.all fun c => c.crcOk && c.generation = img.generation
        let t := s.modStore fun g => { g with
          writing := none, waiting := none, rewrite := g.rewrite && !whole,
          lastWrite := if whole then s.utc else g.lastWrite, writes := if whole then sat32 g.writes else g.writes, changed := g.changed || !whole }
        let t := t.appendHistory img reason
        match s.store.waiting with
        | some r => t.beginWrite r
        | none => t

/-- Begins a write-back and passes over what it must skip. -/
def State.writeBack (s : State) (reason : Nat) : State := State.nextCopy 4 (s.beginWrite reason)

/-- The copy in progress of region `k` is complete (17 R453). -/
def State.copyWritten (s : State) (img : Learned) (reason : Nat) (k : Fin 3) : State :=
  let t := s.modStore fun g => { g with
    copies := g.copies.set k img, slotAt := g.slotAt.set k (some s.now), torn := clearBits g.torn (2 ^ k.val), writing := some (img, reason, k.val + 1) }
  State.nextCopy 4 (((t.irqRaise 105).irqRaise 100).event 0xC030 0x1C01 (k.val + 1))

/-- `LEARN_WRITEBACK_PERIODIC` (08 R233): 6 h have passed since the start or since the last periodic write-back. -/
def execLearnWritebackPeriodic (s : State) : Out :=
  .next (if s.fwActs && s.est.running && decide (s.store.periodic + sec 21600 ≤ s.now) then
    (s.modStore fun g => { g with periodic := g.periodic + sec 21600 }).writeBack 1
  else s)

/-- `LEARN_WRITE_REQ` (08 R233): an extra write-back at the next estimator step. -/
def State.applyLearnWriteReq (s : State) : Applied := .ok (s.modEst fun e => { e with writeReq := true })

def execLearnWriteReq (src : Src) (v : Nat) (s : State) : Out :=
  .next (s.unlessSwapping (.learnWriteReq src v) fun s => s.writeVia src blockObj 0x0120 (u8 v) fun _ s => s.applyLearnWriteReq)

/-! ## Selection at a start (17 R454) -/

/-- Median of three, mean of two (17 Table 17-5). -/
def middle : List Rat → Rat
  | [a] => a
  | [a, b] => (a + b) / 2
  | [a, b, c] => ratMax (ratMin a b) (ratMin (ratMax a b) c)
  | _ => 0

def ratMaxOf (l : List Rat) : Rat := l.foldl ratMax (l.headD 0)
def ratMinOf (l : List Rat) : Rat := l.foldl ratMin (l.headD 0)
def natMaxOf (l : List Nat) : Nat := l.foldl max 0
def intMaxOf (l : List Int) : Int := l.foldl max (l.headD 0)

/-- One cell merged field by field, the copies by ascending region; `R_LEARNED` 0 is none (08 Table 8-7). -/
def mergeCell (cs : List CellEst) : CellEst :=
  let first := cs.headD (CellEst.fresh 0)
  let card (f : Card → Nat) : List Nat := cs.map fun c => f c.card
  let r := ratMaxOf (cs.map fun c => c.r.getD 0)
  { first with
    soc := middle (cs.map CellEst.soc), u := ratMaxOf (cs.map CellEst.u), cap := ratMinOf (cs.map CellEst.cap),
    r := if r = 0 then none else some r, ring := [],
    card := { throughput := ratMaxOf (cs.map fun c => c.card.throughput), capFirst := first.card.capFirst, vMax := natMaxOf (card Card.vMax),
              vMin := (card Card.vMin).foldl min first.card.vMin, tMax := intMaxOf (cs.map fun c => c.card.tMax),
              hot := natMaxOf (card Card.hot), iscMax := natMaxOf (card Card.iscMax) } }

/-- The keys of several tables, ascending. -/
def keysOf {α : Type} (ts : List (Sparse α)) : NatSet := (ts.map fun t => t.map (·.1)).flatten.foldl NatSet.ins []

/-- The merge of two or three copies (17 Table 17-5). -/
def mergeCopies (cs : List Learned) : Learned :=
  let first := cs.headD Learned.empty
  { first with
    cells := (keysOf (cs.map Learned.cells)).map fun k => (k, mergeCell (cs.map fun c => Sparse.getD c.cells k (CellEst.fresh 0))),
    reported := (List.range 45).map fun j => middle (cs.map fun c => c.reported.getD j 50),
    isd := (keysOf (cs.map Learned.isd)).map fun k => (k, intMaxOf (cs.map fun c => Sparse.getD c.isd k 0)),
    levels := (keysOf (cs.map Learned.levels)).map fun k => (k, natMaxOf (cs.map fun c => Sparse.getD c.levels k 0)),
    onTime := (keysOf (cs.map Learned.onTime)).map fun k => (k, natMaxOf (cs.map fun c => Sparse.getD c.onTime k 0)) }

/-- Two copies are identical byte for byte. -/
def sameCopy (a b : Learned) : Bool := decide (a = b)

/-- The copy selected among those at the highest generation, and whether it was merged. -/
def chooseCopy : List Learned → Option (Learned × Bool)
  | [] => none
  | [a] => some (a, false)
  | [a, b] => if sameCopy a b then some (a, false) else some (mergeCopies [a, b], true)
  | a :: b :: c :: _ =>
    if sameCopy a b || sameCopy a c then some (a, false) else if sameCopy b c then some (b, false) else some (mergeCopies [a, b, c], true)

/-- The string of a cell key. -/
def strOfCell (k : Nat) : Fin 40 := Fin.ofNat 40 (k / 1024)

/-- A cell that takes new figures keeps the temperature of the last complete slow round (08 R213). -/
def State.keepTemp (s : State) (k : Nat) (c : CellEst) : CellEst :=
  match Sparse.get? s.est.cells k with
  | some o => { c with temp := o.temp, tempNow := o.tempNow }
  | none => c

/-- No learned data can be selected (08 R228): fresh cells, every reported value at its internal value of 50 %; `CALENDAR_GAP` where the time
quality is invalid. -/
def State.loadNothing (s : State) : State :=
  let t := s.modEst fun e => { e with
    cells := s.est.cells.map fun p => (p.1, s.keepTemp p.1 (CellEst.fresh (s.inForce (strOfCell p.1)).1)), sramOk := true,
    strs := e.strs.map fun x => { x with reported := 50 }, bankRep := Vector.replicate 4 50, blockRep := 50,
    status := if s.tq / 64 = 0 then e.status ||| 4096 else e.status }
  if s.tq / 64 = 0 then t.event 0x3028 blockObj 0 else t

/-- Takes the estimator's figures from a copy (08 R228): uncertainties grow by `DRIFT` over the calendar time since the write,
or stand at 50 % where the calendar does not give it. `BAL_ONTIME` is kept through every reset (06 Table 6-6; log 127). -/
def State.loadLearned (s : State) (c : Learned) : State :=
  let known := s.tq / 64 ≠ 0 && decide (c.writtenAt ≤ s.utc)
  let since := if known then ms (s.utc - c.writtenAt) else 0
  let hours : Rat := (since : Rat) / (sec 3600 : Nat)
  let load (k : Nat) (e : CellEst) : CellEst :=
    let e := e.ofCopy s.now since
    { e with u := if known then ratMin 50 (e.u + s.drift (strOfCell k) * hours) else 50 }
  let cell (k : Nat) : CellEst := match Sparse.get? c.cells k with
    | some e => load k e
    | none => CellEst.fresh (s.inForce (strOfCell k)).1
  let t := s.modEst fun e => { e with
    cells := (keysOf [c.cells, s.est.cells]).map fun k => (k, s.keepTemp k (cell k)), sramOk := true,
    strs := Vector.ofFn fun i : Fin 40 => { e.strs[i] with reported := c.reported.getD i.val 50 },
    bankRep := Vector.ofFn fun b : Fin 4 => c.reported.getD (40 + b.val) 50,
    blockRep := c.reported.getD 44 50, status := if known then e.status else e.status ||| 4096 }
  let t := t.modCorr fun r => { r with
    selfd := (keysOf [c.isd]).map fun k => (k, { Selfd.empty with isd := Sparse.getD c.isd k 0, level := Sparse.getD c.levels k 0 }) }
  let t := t.modBal fun b => { b with
    onTime := c.onTime.foldl (fun o p => Sparse.put o p.1 (max (Sparse.getD o p.1 0) (p.2 * 100000))) b.onTime }
  if known then t else t.event 0x3028 blockObj 0

/-- The selection of R454 at a start. -/
def State.selectLearned (s : State) : State :=
  let valid := s.store.copies.toList.filter fun c => c.crcOk && c.serial = s.serial
  let gen := (valid.map Learned.generation).foldl max 0
  let top := valid.filter fun c => c.generation = gen
  let t := s.forEach (List.range 3) fun t r =>
    if t.store.torn.testBit r then (t.modStore fun g => { g with seen := g.seen ||| 8 }).event 0xC031 0x1C01 (r + 1) else t
  let identical := top.length = 3 && (match top with | [a, b, c] => sameCopy a b && sameCopy a c | _ => false)
  match chooseCopy top with
  | none =>
    ((t.modStore fun g => { g with merged := false, noneValid := true, selected := 0, rewrite := true, changed := true }).event 0xC033 0x1C01
      0).loadNothing
  | some (c, merged) =>
    let t := t.modStore fun g => { g with
      merged := merged, noneValid := false, selected := gen, rewrite := !identical, seen := if merged then g.seen ||| 4 else g.seen }
    let t := if merged then t.event 0xC032 0x1C01 0 else t
    t.loadLearned c

/-- What firmware does with the learned data at entry to `STANDBY` (17 R454, R456): a lost history set is built from the selected
data, and the copies are written again unless three identical ones were found. -/
def State.settleLearned (s : State) : State :=
  let t := match s.store.lostSet with
    | some reason =>
      let img := { s.learnedImage s.store.selected reason with generation := s.store.selected }
      ((s.appendHistory img reason).modStore fun g => { g with lostSet := none, seen := g.seen ||| 1 }).event 0xC041 0x1C01 0
    | none => s
  if t.store.rewrite then t.writeBack 6 else t

/-- Series elements of a string by index, 0 first. -/
def State.elements (s : State) (i : Fin 40) : List Nat := List.range (16 * s.monitors i)

/-- Cells without figures take those of R228 before new tables come into force. -/
def State.settleCells (s : State) : State :=
  let all := (allStr.filter fun i => s.strs[i].installed).flatMap fun i => (s.elements i).map fun e => (cellKey i e, s.cellEst i e)
  s.modEst fun x => { x with cells := all.foldl (fun m p => Sparse.put m p.1 p.2) x.cells }

/-- Cells that reach `U_WARN` are named, and `U_WARN_ACTIVE` stands while one is at or above it (08 R219). -/
def State.markWarn (s : State) : State :=
  let warn : Rat := (s.val blockObj 0x0121 : Rat) / 100
  let high : NatSet := (allStr.filter fun i => s.strs[i].installed).flatMap fun i =>
    ((s.elements i).filter fun e => decide (warn ≤ (s.cellEst i e).u)).map (cellKey i)
  let t := s.forEach (high.filter fun k => !s.est.warned.contains k) fun t k =>
    t.event 0x3024 (strObj (strOfCell k)) (k % 1024 + 1) (u16 (ratRound ((t.cellEst (strOfCell k) (k % 1024)).u * 100)).toNat)
  t.modEst fun x => { x with warned := high, status := if high.isEmpty then clearBits x.status 0x800 else x.status ||| 0x800 }

/-- x of R205, mAh: the charge a cell holds and the balancing charge taken from it. -/
def CellEst.held (c : CellEst) : Rat := c.soc * c.cap / 100 + c.qBal

/-- A self-discharge window begins (07 R205). -/
def State.openSdWindow (s : State) : State :=
  let cells := (allStr.filter fun i => s.strs[i].installed).flatMap fun i => (s.elements i).map fun e => (cellKey i e, (s.cellEst i e).held)
  s.modCorr fun r => { r with
    sdAt := s.now, sdCount := 0, sdSeen := [],
    selfd := cells.foldl (fun m p => Sparse.put m p.1 { Sparse.getD m p.1 Selfd.empty with x := some p.2 }) r.selfd }

/-- A write under way is torn by the loss of the processor or of the supply (17 R454, R456). -/
def State.tearWrite (s : State) : State :=
  match s.store.writing with
  | some (_, _, k) => (s.modStore fun g => { g with torn := g.torn ||| 2 ^ k }).abandonWrite
  | none => s

end Sys2Proof.Machine
end

