-- ==== Sys2Proof/Machine/SafetyIO.lean ====
section
/-!
DEFINITION. Meanings of the safety input, test-pulse, output and safe-message commands (spec/12, spec/02 R56), and the checks of
safety I/O records (12 Table 12-1). Commands that report a reading of the plant carry it as an operand.
-/

namespace Sys2Proof.Machine

/-! ## Inputs -/

/-- Group of an input: bank index (12 R332). -/
def groupOf (i : Fin 24) : Fin 4 := ⟨i.val / 6, by omega⟩

def allIn : List (Fin 24) := List.finRange 24

/-- Supplies of the a and b channels of a group (02 Table 2-8). -/
def supplyA (i : Fin 24) : Fin 4 := groupOf i
def supplyB (i : Fin 24) : Fin 4 := Fin.ofNat 4 (i.val / 6 + 1)

def State.inFilter (s : State) (i : Fin 24) : Nat := bits (s.inCfg i) 27 23
def State.discTime (s : State) (i : Fin 24) : Nat := bits (s.inCfg i) 21 16 * 10
def State.inTested (s : State) (i : Fin 24) : Bool := s.inUse i = 1
def State.supplyFault (s : State) (k : Fin 4) : Bool := s.io.supplies[k].fault.isSome

/-- One tick of a channel's filter (12 R323). -/
def InChannel.tick (c : InChannel) (isOpen : Bool) (n : Nat) : InChannel :=
  if isOpen = !c.closed then { c with run := 0 }
  else if n ≤ c.run + 1 then { c with closed := !isOpen, run := 0 }
  else { c with run := c.run + 1 }

/-- Channel readings of a tick, filters, discrepancy count and start-up test of one input (12 R323, R325, R326). A channel of a
supply in fault reads open (12 R320). -/
def State.tickInput (s : State) (i : Fin 24) (openA openB : Bool) : State :=
  if s.inUse i = 0 then s
  else
    let oa := openA || (s.inTested i && s.supplyFault (supplyA i))
    let ob := openB || (s.inTested i && s.supplyFault (supplyB i))
    let n := s.inFilter i
    let t := s.modIn i fun c => { c with a := c.a.tick oa n, b := c.b.tick ob n }
    let t := t.modIn i fun c =>
      { c with disc := if c.a.closed = c.b.closed then 0 else if c.disc < s.discTime i then c.disc + 1 else c.disc }
    let c := t.io.inputs[i]
    if !c.pendingTest then t
    else if !c.a.closed && !c.b.closed then t.modIn i fun c => { c with opened := true }
    else if c.opened && c.a.closed && c.b.closed then
      let t := t.modIn i fun c => { c with
        pendingTest := false, opened := false, discFault := false, xsTested := c.xsTested || c.xsFault,
        a := if c.xsFault then { c.a with passes := 0 } else c.a, b := if c.xsFault then { c.b with passes := 0 } else c.b }
      (t.irqRaise 65).event 0x7004 (bankObj (groupOf i)) (i.val + 1)
    else t

/-- Readiness of a used input (12 R324). -/
def State.inputReady (s : State) (i : Fin 24) : Bool :=
  let c := s.io.inputs[i]
  s.inUse i ≠ 0 && c.a.closed && c.b.closed && !c.discFault && !c.xsFault && !c.pendingTest &&
    (!s.inTested i || (!s.supplyFault (supplyA i) && !s.supplyFault (supplyB i) && c.a.checked && c.b.checked))

/-- Brings an input's readiness up to date: event 0x7001 or 0x7002 and the input-change IRQ of its group (12 R330, R349, 01 Table 1-8). -/
def State.noteReady (s : State) (i : Fin 24) : State :=
  let r := s.inputReady i
  if s.inUse i = 0 ∨ s.io.inputs[i].ready = r then s
  else
    let t := s.modIn i fun c => { c with ready := r, seen := if r then c.seen else c.seen ||| 1 }
    (t.irqRaise (56 + (groupOf i).val)).event (if r then 0x7002 else 0x7001) (bankObj (groupOf i)) (i.val + 1)

/-- Group readiness (12 R330): every used member is ready. -/
def State.groupIsReady (s : State) (b : Fin 4) : Bool :=
  allIn.all fun i => groupOf i ≠ b || s.inUse i = 0 || !(s.inCfg i).testBit 28 || s.io.inputs[i].ready

def State.noteGroup (s : State) (b : Fin 4) : State :=
  let r := s.groupIsReady b
  if s.banks[b].groupReady = r then s
  else
    let t := s.modBank b fun c => { c with groupReady := r, groupDropSeen := c.groupDropSeen || !r }
    (t.irqRaise (56 + b.val)).event 0x7009 (bankObj b) 0 (u8 (if r then 1 else 0))

/-- Input and group readiness, and what follows from them (12 R330). -/
def State.noteInputs (s : State) : State :=
  let t := s.forEach allIn State.noteReady
  (t.forEach allBank State.noteGroup).enforceTrips

/-- A discrepancy count that has reached `DISC_TIME` and is not latched (12 R325). -/
def State.discDue (s : State) (i : Fin 24) : Bool :=
  let c := s.io.inputs[i]
  s.inUse i ≠ 0 && c.a.closed ≠ c.b.closed && !c.discFault && decide (0 < s.discTime i ∧ s.discTime i ≤ c.disc)

/-- Latches a discrepancy fault (12 R325, R326). -/
def State.latchDisc (s : State) (i : Fin 24) : State :=
  if s.discDue i then
    let t := s.modIn i fun c => { c with
      discFault := true, seen := c.seen ||| 4, faults := upd c.faults 0 sat32, pendingTest := true, opened := false }
    (t.irqRaise 60).event 0x7003 (bankObj (groupOf i)) (i.val + 1)
  else s

/-- `DISCREPANCY_FAULT` (12 R325). -/
def execDiscrepancyFault (i : Fin 24) (s : State) : Out := .next ((s.latchDisc i).noteInputs)

/-! ## Streams -/

/-- `SM_RX_CFG` enables the stream; one whose record failed in both copies is enabled (12 R318). -/
def State.smEnabled (s : State) (m : Fin 8) : Bool := (s.smCfg m).testBit 31 || s.smDegraded m
def State.smWindow (s : State) : Nat := ms (s.bval blockObj 0x016B)

/-- The event of an entry to a state (12 Table 12-16). -/
def SmState.entryEvent : SmState → Option Nat
  | .valid => some 0x7034 | .degradedA | .degradedB => some 0x7032 | .lost => some 0x7031 | .mismatch => some 0x7030
  | .expired => some 0x7033 | .wait | .disabled => none

/-- Enters a stream state. -/
def State.enterSm (s : State) (m : Fin 8) (st : SmState) : State :=
  if s.io.streams[m].state = st then s
  else
    let t := s.modSm m fun c => { c with
      state := st, degradedAt := s.now,
      seen := c.seen ||| (match st with | .mismatch => 2 | .lost | .expired => 1 | _ => 0) }
    match st.entryEvent with
    | some e => t.event e blockObj (m.val + 1)
    | none => t

/-- Follows a change of the stream's reaction: IRQ 66 at its start, trips and outputs (12 R346). -/
def State.followSm (s : State) (m : Fin 8) : State :=
  let r := s.smReaction m
  let t := if r && !s.io.streams[m].reaction then s.irqRaise 66 else s
  (t.modSm m fun c => { c with reaction := r }).enforceTrips

/-- The timeout of a stream has been reached in VALID or a degraded state (12 R345). -/
def State.smOverdue (s : State) (m : Fin 8) : Bool :=
  let c := s.io.streams[m]
  (c.state = .valid || c.state = .degradedA || c.state = .degradedB) && decide (s.bval blockObj 0x016A m.val ≤ c.ticks)

/-- A stream past its timeout becomes LOST. -/
def State.loseSm (s : State) (m : Fin 8) : State := if s.smOverdue m then (s.enterSm m .lost).followSm m else s

/-- `SM_RX_TIMEOUT` (12 R345). -/
def execSmRxTimeout (m : Fin 8) (s : State) : Out := .next (s.loseSm m)

/-- One tick of a stream's timeout, from the end of the tick of its last acceptance (12 R345). -/
def Stream.tick (c : Stream) : Stream := if c.acceptedNow then { c with ticks := 0, acceptedNow := false } else { c with ticks := c.ticks + 1 }

/-- After a commit of stream records, a stream starts in WAIT when it is enabled, and is disabled when `ENABLE` is 0
(12 Table 12-16). -/
def State.settleStreams (s : State) : State :=
  s.forEach (List.finRange 8) fun s m =>
    if s.smEnabled m then (if s.io.streams[m].state = .disabled then (s.enterSm m .wait).followSm m else s.followSm m)
    else
      let t := s.modSm m fun c => { c with pending := [], remembered := [], seq := none, permit := false, ticks := 0, acceptedNow := false }
      (t.enterSm m .disabled).followSm m

/-- One channel at the end of a 20 ms test-pulse cycle: a pass with four good samples, else no pass (12 R324, R328). -/
def InChannel.endCycle (c : InChannel) : InChannel :=
  if c.good = 4 then { c with good := 0, checked := true, passes := c.passes + 1 } else { c with good := 0, passes := 0 }

/-- A cross-short fault clears after the start-up test and three passed cycles of both channels (12 R328). -/
def State.clearXs (s : State) (i : Fin 24) : State :=
  let c := s.io.inputs[i]
  if c.xsFault && c.xsTested && decide (3 ≤ c.a.passes ∧ 3 ≤ c.b.passes) then
    (s.modIn i fun c => { c with xsFault := false, xsTested := false }).event 0x7006 (bankObj (groupOf i)) (i.val + 1)
  else s

/-- The end of a test-pulse cycle, which is that of its twentieth tick (12 R322, R324). -/
def State.endCycles (s : State) : State :=
  if (s.now - s.belay.releasedAt) % ms 20 ≠ 0 then s
  else s.forEach allIn fun t i =>
    if !t.inTested i then t else (t.modIn i fun c => { c with a := c.a.endCycle, b := c.b.endCycle }).clearXs i

/-- `INPUT_TICK` (12 R323): the end of a 1 ms tick of the belay logic. Bit i of `openA` and `openB`: that channel of input i read
open in every kept sample. Faults that fell due at the last tick latch first. The forms of records that failed in both copies are in force
from here on (R318, log 160). -/
def execInputTick (openA openB : Nat) (s : State) : Out :=
  .next (if s.belay.released && decide (s.io.tickAt < s.now) && decide (s.belay.releasedAt < s.now) &&
      (s.now - s.belay.releasedAt) % ms 1 = 0 then
    let t := s.forEach allIn State.latchDisc
    let t := t.forEach (List.finRange 8) State.loseSm
    let t := { t with io := { t.io with tickAt := s.now } }
    let t := t.forEach allIn fun t i => t.tickInput i (openA.testBit i.val) (openB.testBit i.val)
    let t := t.forEach (List.finRange 8) fun t m => t.modSm m Stream.tick
    let t := if t.belay.degraded.isEmpty then t else t.settleStreams
    t.endCycles.noteInputs
  else s)

/-! ## Test-pulse supplies -/

/-- The 20 ms cycle stands at the off-pulse of supply k (12 R319). -/
def State.pulsePhase (s : State) (k : Fin 4) : Bool := (s.now - s.belay.releasedAt) % ms 20 = k.val * ms 5

/-- The 20 ms cycle stands 150 us into the off-pulse of supply k (12 R327). -/
def State.checkPhase (s : State) (k : Fin 4) : Bool := (s.now - s.belay.releasedAt) % ms 20 = k.val * ms 5 + us 150

/-- The output of a supply is in its off-pulse, pulled to 0 V (12 R319). -/
def State.inPulse (s : State) (k : Fin 4) : Bool := match s.io.supplies[k].pulseAt with
  | some t => decide (s.now < t + us 200)
  | none => false

/-- The pulse contacts of an input carry 24 V, a and b: those of an input that is external-pulsed or unused are held at 0 V, the others
follow their supply (12 R319, 02 Table 2-8). -/
def State.pulseContacts (s : State) (i : Fin 24) : Bool × Bool :=
  let live (k : Fin 4) : Bool := s.inTested i && s.belay.released && !s.supplyFault k && !s.inPulse k
  (live (supplyA i), live (supplyB i))

/-- `TEST_PULSE_OFF` (12 R319): the output is off from here for 200 us. -/
def execTestPulseOff (k : Fin 4) (s : State) : Out :=
  .next (if s.belay.released && !s.supplyFault k && s.pulsePhase k then s.modTp k fun p => { p with pulseAt := some s.now, sampled := false } else s)

/-- What a check sample shows of a channel (12 R327): not used, good or failed. -/
def checkSample (before during own : Bool) : Option Bool := if before then some (if own then !during else during) else none

/-- One channel after a check sample. -/
def InChannel.sample (c : InChannel) (r : Option Bool) : InChannel := if r = some true then { c with good := c.good + 1 } else c

/-- A cross-short fault or a new occurrence of one (12 R327). -/
def State.latchXs (s : State) (i : Fin 24) : State :=
  let t := s.modIn i fun c => { c with
    xsFault := true, seen := c.seen ||| 2, faults := upd c.faults 1 sat32, pendingTest := true, opened := false, xsTested := false,
    a := { c.a with passes := 0, good := 0 }, b := { c.b with passes := 0, good := 0 } }
  (t.irqRaise 61).event 0x7005 (bankObj (groupOf i)) (i.val + 1)

/-- `CROSS_SHORT_CHECK_SAMPLE` (12 R327): 150 us into an off-pulse. Bits 0 to 23 of the operands are the a channels, bits 24 to
47 the b channels; a set bit read closed, `before` at the last kept sample before the pulse. A channel whose supply is in fault reads open
(R320). -/
def execCrossShortCheckSample (k : Fin 4) (before during : Nat) (s : State) : Out :=
  .next (if !s.inPulse k || s.io.supplies[k].sampled || !s.checkPhase k then s
  else
    let t := s.modTp k fun p => { p with sampled := true }
    t.forEach allIn fun t i =>
      if !t.inTested i then t
      else
        let ra := checkSample (before.testBit i.val && !t.supplyFault (supplyA i)) (during.testBit i.val) (supplyA i = k)
        let rb := checkSample (before.testBit (24 + i.val) && !t.supplyFault (supplyB i)) (during.testBit (24 + i.val)) (supplyB i = k)
        let t := t.modIn i fun c => { c with a := c.a.sample ra, b := c.b.sample rb }
        if ra = some false ∨ rb = some false then t.latchXs i else t)

/-- `TEST_PULSE_SUPPLY_FAULT` (12 R320): cause code 1 to 3 of Table 12-12. The running cycle is no pass of a channel it feeds (R324); at a
supply whose fault is latched, the 100 ms without a fault condition start again. -/
def execTestPulseSupplyFault (k : Fin 4) (cause : Fin 3) (s : State) : Out :=
  .next (if !s.belay.released then s
  else if s.supplyFault k then s.modTp k fun p => { p with freeSince := some s.now }
  else
    let t := s.modTp k fun p => { p with fault := some (cause.val + 1), regulated := false, pulseAt := none, freeSince := some s.now }
    let t := t.forEach allIn fun t i => t.modIn i fun c => { c with
      a := if supplyA i = k then { c.a with checked := false, good := 0 } else c.a,
      b := if supplyB i = k then { c.b with checked := false, good := 0 } else c.b }
    (t.irqRaise 62).event 0x7007 blockObj (k.val + 1) (u8 (cause.val + 1)))

/-- `TP_CLEAR` (12 R320): restarts each named supply that has been free of fault conditions for 100 ms. -/
def State.applyTpClear (s : State) (v : Nat) : Applied :=
  .ok (s.forEach (List.finRange 4) fun s k =>
    match s.io.supplies[k].freeSince with
    | some f =>
      if v.testBit k.val && s.supplyFault k && decide (f + ms 100 ≤ s.now) then
        (s.modTp k fun p => { p with fault := none, regulated := true }).event 0x7008 blockObj (k.val + 1)
      else s
    | none => s)

def execTpClear (src : Src) (v : Nat) (s : State) : Out :=
  .next (s.unlessSwapping (.tpClear src v) fun s => s.writeVia src blockObj 0x0152 (u8 v) fun _ s => s.applyTpClear v)

/-! ## Outputs -/

/-- `Q_REQUEST` (12 R335). -/
def State.applyQRequest (s : State) (v : Nat) : Applied :=
  .ok ((s.setVal blockObj 0x015B 0 v).forEach allQ fun s q =>
    let on := v.testBit q.val
    if s.qPowerPath q || s.isEvenPole q then (if on then s.event 0x7016 blockObj (q.val + 1) else s)
    else if !on then (s.dropQ q).enforceOutputs
    else if s.io.outputs[q].state ≠ .off then s
    else if s.qMayStart q then s.requestQ q
    else s.event 0x7016 blockObj (q.val + 1))

def execQRequest (src : Src) (v : Nat) (s : State) : Out :=
  .next (s.unlessSwapping (.qRequest src v) fun s => s.writeVia src blockObj 0x015B (u16 v) fun _ s => s.applyQRequest v)

/-- `Q_ENERGISE` (12 R335, 09 R248): a sealed output number creates an energise pass. -/
def execQEnergise (h : SealHead) (v : Nat) (s : State) : Out :=
  .next (s.unlessSwapping (.qEnergise h v) fun s =>
    let r := h.one blockObj 0x015A (u8 v)
    s.sealedVia r fun s => s.createPass r
      { kind := .energise, target := 0x40 + v, precharge := false, slot := h.slot, bank := 0, counter := h.counter, check := 0 })

/-- `Q_DROP` (12 R335). -/
def State.applyQDrop (s : State) (v : Nat) : Applied :=
  .ok ((s.forEach allQ fun s q => if v.testBit q.val then s.dropQ q else s).enforceOutputs)

def execQDrop (src : Src) (v : Nat) (s : State) : Out :=
  .next (s.unlessSwapping (.qDrop src v) fun s => s.writeVia src blockObj 0x015C (u16 v) fun _ s => s.applyQDrop v)

/-- The output has read back at or below 2.0 V for the last 1 ms (12 R339). -/
def State.readsLow (s : State) (q : Fin 16) : Bool :=
  match s.io.outputs[q].lowSince with
  | some f => decide (f + ms 1 ≤ s.now)
  | none => false

/-- `Q_CLEAR` (12 R339). -/
def State.applyQClear (s : State) (v : Nat) : Applied :=
  .ok (s.forEach allQ fun s q =>
    let pair := s.pairOf q
    let latched := s.io.outputs[q].fault.isSome || (match pair with | some p => s.io.outputs[p].fault.isSome | none => false)
    if v.testBit q.val && latched && s.readsLow q && (match pair with | some p => s.readsLow p | none => true) then
      let t := s.modQ q fun o => { o with fault := none }
      let t := match pair with | some p => t.modQ p fun o => { o with fault := none } | none => t
      t.event 0x7015 blockObj (q.val + 1)
    else s)

def execQClear (src : Src) (v : Nat) (s : State) : Out :=
  .next (s.unlessSwapping (.qClear src v) fun s => s.writeVia src blockObj 0x015D (u16 v) fun _ s => s.applyQClear v)

/-- `PULL_IN_END` (12 R333, 02 R56): after 200 ms the output is in hold, and waiting requests may start. -/
def execPullInEnd (q : Fin 16) (s : State) : Out :=
  .next (let o := s.io.outputs[q]
  if o.state = .pullIn && decide (o.pullAt + ms 200 ≤ s.now) then State.serveQ 16 (s.modQ q fun o => { o with state := .hold }) else s)

/-- Latches a read-back fault: off, and the other pole of a pair with code PAIR (12 R338). -/
def State.faultQ (s : State) (q : Fin 16) (code : Nat) : State :=
  let latch (t : State) (q : Fin 16) (code seen : Nat) : State :=
    t.modQ q fun o => { o with fault := some code, lastFault := code, faults := sat32 o.faults, seen := o.seen ||| seen }
  let t := latch s q code (if code = 4 then 2 else 4)
  let t := match s.pairOf q with
    | some p => if t.io.outputs[p].fault.isNone then latch t p 5 0 else t
    | none => t
  let t := (t.irqRaise 63).event (if code = 4 then 0x7013 else 0x7012) blockObj (q.val + 1) (u8 code)
  let t := t.dropQ q
  (t.modQ q fun o => { o with lowSince := some s.now }).enforceOutputs

/-- The 500 ms cycle stands at the off-pulse of output q (12 R336). -/
def State.offPulsePhase (s : State) (q : Fin 16) : Bool := (s.now - s.belay.releasedAt) % ms 500 = q.val * 31250000

/-- The output is driven: energised and not in an off-pulse (12 R336). -/
def Output.driven (o : Output) : Bool := o.state.energised && o.pulse.isNone

/-- `OUTPUT_OFF_PULSE` (12 R336, R338): at its phase the pulse of an output in hold begins. Within it the command brings the read-back: the
pulse ends when it `fell` below 5.0 V, or after 300 us, with `RB_PULSE` where it did not fall; VQ below 18.0 V, `vqLow`, discards the
read-back (02 R57). -/
def execOutputOffPulse (q : Fin 16) (fell vqLow : Bool) (s : State) : Out :=
  .next (let o := s.io.outputs[q]
  if o.state ≠ .hold then s
  else match o.pulse with
    | none => if s.offPulsePhase q then s.modQ q fun o => { o with pulse := some (s.now, false) } else s
    | some (t0, bad) =>
      let bad := bad || vqLow
      if fell && !vqLow then s.modQ q fun o => { o with pulse := none }
      else if s.now < t0 + us 300 then s.modQ q fun o => { o with pulse := some (t0, bad) }
      else if bad then s.modQ q fun o => { o with pulse := none }
      else s.faultQ q 3)

/-- `OUTPUT_READBACK_FAULT` (12 R338): fault code 1 to 4 of Table 12-9; discarded where `vqLow`, VQ below 18.0 V (02 R57). -/
def execOutputReadbackFault (q : Fin 16) (code : Fin 4) (vqLow : Bool) (s : State) : Out :=
  .next (let o := s.io.outputs[q]
  let meets := match code.val with
    | 0 => !o.state.energised
    | 1 => o.driven && decide (o.pullAt + ms 1 ≤ s.now)
    | 2 => (match o.pulse with | some (t0, bad) => !bad && decide (t0 + us 300 ≤ s.now) | none => false)
    | _ => o.state.energised
  if !meets || vqLow then s
  else if o.fault.isNone then s.faultQ q (code.val + 1)
  else if code.val = 0 then s.modQ q fun o => { o with lowSince := some s.now }
  else s)

/-- `OPEN_LOAD` (12 R338): the hold current has been below 20 mA for 100 ms, or recovers. -/
def execOpenLoad (q : Fin 16) (below : Bool) (s : State) : Out :=
  .next (let o := s.io.outputs[q]
  if o.state ≠ .hold then s
  else if below then
    (if o.openLoad then s else (s.modQ q fun o => { o with openLoad := true }).event 0x7014 blockObj (q.val + 1))
  else s.modQ q fun o => { o with openLoad := false })

/-! ## Safe messages -/

/-- A word as big-endian bytes of a safe message. -/
def smSeq (data : List Byte) : Nat := ofBytes ((data.drop 8).take 2)
def smNode (data : List Byte) : Nat := ofBytes ((data.drop 10).take 1)

/-- The CRC-32C of a safe message (12 Table 12-15). -/
def smCrc (id : Nat) (data : List Byte) : Nat := crc32c (u32 (id % 2 ^ 30) ++ data.take 12)

/-- Steps by which `seq` lies ahead of the last accepted one, modulo 65,536. -/
def Stream.ahead (c : Stream) (seq : Nat) : Nat :=
  match c.seq with
  | some l => (seq + 65536 - l) % 65536
  | none => 1

/-- States after which any `SEQ` is accepted (12 R344). -/
def Stream.restarts (c : Stream) : Bool := c.state = .wait || c.state = .lost || c.state = .mismatch || c.state = .expired

def Stream.acceptable (c : Stream) (seq : Nat) : Bool := c.restarts || decide (1 ≤ c.ahead seq ∧ c.ahead seq ≤ 32767)

/-- Accepts a message (12 R344, R345): `net` 2 for a pair, else the network that delivered it alone, `since` the instant its copy came. -/
def State.acceptSm (s : State) (m : Fin 8) (seq : Nat) (bytes : List Byte) (net since : Nat) (st : SmState) : State :=
  let c := s.io.streams[m]
  let gap := !c.restarts && decide (1 < c.ahead seq)
  let permit := bytes.headD 0 &&& 1 = 1#8
  let t := s.modSm m fun c => { c with
    permit := permit, seq := some seq, acceptedNow := true, ticks := 0,
    pending := c.pending.filter fun p => p.seq ≠ seq,
    remembered := (⟨net, seq, bytes, since⟩ :: c.remembered).take 32,
    counts := (let k := upd c.counts (if net = 2 then 0 else 1) sat32; if gap then upd k 3 sat32 else k),
    seen := if gap then c.seen ||| 4 else c.seen }
  let t := t.enterSm m st
  if permit then t else t.event 0x7035 blockObj (m.val + 1)

def State.staleSm (s : State) (m : Fin 8) : State := s.modSm m fun c => { c with counts := upd c.counts 3 sat32 }

/-- The degraded state of a network (12 Table 12-16). -/
def degradedOf (net : Nat) : SmState := if net = 0 then .degradedA else .degradedB

/-- A copy differs from the remembered bytes of its `SEQ`, which is not ahead of the last accepted one (12 R344). -/
def Stream.contradicts (c : Stream) (seq : Nat) (data : List Byte) : Bool :=
  !decide (1 ≤ c.ahead seq ∧ c.ahead seq ≤ 32767) && c.remembered.any fun p => p.seq = seq && p.bytes ≠ data

/-- One copy of a stream's message (12 R344, R345). -/
def State.takeCopy (s : State) (m : Fin 8) (net : Fin 2) (data : List Byte) : State :=
  let c := s.io.streams[m]
  let seq := smSeq data
  if c.contradicts seq data then s.enterSm m .mismatch
  else match c.pending.find? fun p => p.seq = seq with
  | some p =>
    if p.bytes ≠ data then s.enterSm m .mismatch
    else if p.net = net.val then s
    else if c.acceptable seq then s.acceptSm m seq data 2 s.now .valid
    else (s.modSm m fun c => { c with pending := c.pending.filter fun p => p.seq ≠ seq }).staleSm m
  | none =>
    if c.acceptable seq then
      if c.state = degradedOf net.val then s.acceptSm m seq data net.val s.now c.state
      else s.modSm m fun c => { c with pending := c.pending ++ [⟨net.val, seq, data, s.now⟩] }
    else
      match c.remembered.find? fun p => p.seq = seq with
      | none => s.staleSm m
      | some p =>
        if (c.state = .degradedA || c.state = .degradedB) && p.net = 1 - net.val && decide (s.now ≤ p.since + s.smWindow) then
          (s.modSm m fun c => { c with
            counts := upd c.counts 0 sat32,
            remembered := c.remembered.map fun q => if q.seq = seq then { q with net := 2 } else q }).enterSm m .valid
        else s.staleSm m

/-- A copy whose `SM_WINDOW` has passed with the other network silent (12 R345). -/
def State.endWindow (s : State) (m : Fin 8) (p : SmCopy) : State :=
  let s := (s.modSm m fun c => { c with pending := c.pending.erase p }).loseSm m
  if s.io.streams[m].state = .valid && s.bval blockObj 0x016C ≠ 0 && s.io.streams[m].acceptable p.seq then
    (s.acceptSm m p.seq p.bytes p.net p.since (degradedOf p.net)).followSm m
  else s

/-- The copies whose window has passed before a new copy comes. -/
def State.endWindows (s : State) (m : Fin 8) : State :=
  s.forEach (s.io.streams[m].pending.filter fun p => decide (p.since + s.smWindow < s.now)) fun t p => t.endWindow m p

/-- The stream's identifier word, bits 29:0 (12 Table 12-17). -/
def State.smId (s : State) (m : Fin 8) : Nat := s.bval blockObj 0x0168 m.val % 2 ^ 30

/-- A safe message at the belay logic (12 R344): the identifier and the 16 data bytes of its three tap entries. -/
def State.safeTaken (s : State) (net : Fin 2) (id : Nat) (data : List Byte) : State :=
  if data.length ≠ 16 || !s.belay.released then s
  else
    s.forEach (List.finRange 8) fun s m =>
      if !s.smEnabled m || s.smId m ≠ id || s.io.streams[m].state = .disabled then s
      else
        let s := (s.loseSm m).endWindows m
        if smCrc id data ≠ ofBytes (data.drop 12) then s.modSm m fun c => { c with counts := upd c.counts 2 sat32 }
        else if smNode data ≠ bits (s.smCfg m) 30 24 then s
        else (s.takeCopy m net data).followSm m

/-- The controller delivers frames to the safe-message path: it is error active or passive (12 R343). -/
def State.safeLive (s : State) (net : Fin 2) : Bool :=
  let c := s.cans[(⟨net.val, by omega⟩ : Fin 3)]
  c.onBus && (c.bus = .active || c.bus = .passive)

/-- A copy that reaches the belay logic from a controller on the bus. -/
def State.safeCopy (s : State) (net : Fin 2) (id : Nat) (data : List Byte) : State :=
  if s.safeLive net then s.safeTaken net id data else s

/-- `SAFE_COPY_RECEIVED` (12 R343, R344): the frame reaches the belay logic. -/
def execSafeCopyReceived (net : Fin 2) (id : Nat) (data : List Byte) (s : State) : Out := .next (s.safeCopy net id data)

/-- `SM_WINDOW_EXPIRY` (12 R345): `SM_WINDOW` has passed with a copy from one network only. -/
def execSmWindowExpiry (m : Fin 8) (s : State) : Out :=
  .next (match s.io.streams[m].pending.find? fun p => decide (p.since + s.smWindow ≤ s.now) with
  | none => s
  | some p => s.endWindow m p)

/-- `SM_DEGRADED_EXPIRY` (12 R345): the degraded state has lasted `SM_DEGRADED_TIME`. -/
def execSmDegradedExpiry (m : Fin 8) (s : State) : Out :=
  .next (let s := s.loseSm m
  let c := s.io.streams[m]
  if (c.state = .degradedA || c.state = .degradedB) && decide (c.degradedAt + sec (s.bval blockObj 0x016C) ≤ s.now) then
    (s.enterSm m .expired).followSm m
  else s)

/-- A controller goes bus-off (12 R345): every stream in VALID degrades to the other network. -/
def State.smBusOff (s : State) (net : Fin 2) : State :=
  s.forEach (List.finRange 8) fun s m =>
    if s.io.streams[m].state = .valid then (s.enterSm m (degradedOf (1 - net.val))).followSm m else s

/-! ## Checks on safety I/O records (12 Table 12-1) -/

/-- Every S command of the banks in a mask is off, and no output in a mask is energised. -/
def State.quiet (s : State) (bankMask outMask : Nat) : Bool :=
  (allBank.all fun b => !bankMask.testBit b.val || !s.anySOn b) &&
    (allQ.all fun q => !outMask.testBit q.val || !s.io.outputs[q].state.energised)

/-- A staged value of a record, or the value in force. -/
def stagedVal (store : Sparse Nat) (index sub el : Nat) : Nat :=
  (Sparse.get? store (dkey index sub el)).getD (defaultOf index sub el)

/-- `IN_CFG`: its values, and the state a record needs that loosens a used input. -/
def State.inCfgCheck (s : State) (r : BelayRecord) : Option Abort :=
  let w := r.value
  let old := s.bval r.index r.sub r.element
  let use := bits w 31 30
  let wasUsed := bits old 31 30 ≠ 0
  let removed := if use = 0 then old % 65536 else clearBits (old % 65536) (w % 65536)
  let loosens := wasUsed && (use = 0 || (old.testBit 28 && !w.testBit 28) || removed ≠ 0)
  if !(use ≠ 3 && decide (1 ≤ bits w 27 23 ∧ bits w 27 23 ≤ 20) && decide (1 ≤ bits w 21 16 ∧ bits w 21 16 ≤ 50)) then some .range
  else if loosens && !s.quiet (2 ^ (bankOfObj r.index).val) removed then some .state
  else none

/-- `Q_CFG`: its values, and the outputs a change needs off. -/
def State.qCfgCheck (s : State) (store : Sparse Nat) (r : BelayRecord) : Option Abort :=
  let w := r.value
  let q : Fin 16 := Fin.ofNat 16 r.element
  let odd : Fin 16 := Fin.ofNat 16 (r.element / 2 * 2)
  let other : Fin 16 := Fin.ofNat 16 (if r.element % 2 = 0 then r.element + 1 else r.element - 1)
  let paired := (stagedVal store blockObj 0x0158 odd.val).testBit 30 || (s.bval blockObj 0x0158 odd.val).testBit 30
  let off (q : Fin 16) : Bool := s.io.outputs[q].state = .off
  if !(bits w 22 0 = 0 && decide (1 ≤ bits w 26 23 ∧ bits w 26 23 ≤ 10) && decide (bits w 29 27 ≤ 4) && (r.element % 2 = 0 || !w.testBit 30)) then
    some .range
  else if !(s.bval blockObj 0x0158 r.element = w || (off q && (!paired || off other))) then some .state
  else none

/-- A stream of a store: enabled streams have their timeout above the window (12 Table 12-1). -/
def streamOk (store : Sparse Nat) (m : Nat) : Bool :=
  !(stagedVal store blockObj 0x0169 m).testBit 31 ||
    decide (stagedVal store blockObj 0x016B 0 < stagedVal store blockObj 0x016A m)

/-- The stream records: their values, and the state a record needs that loosens an enabled stream. -/
def State.smCheck (s : State) (store : Sparse Nat) (r : BelayRecord) : Option Abort :=
  let range (ok : Bool) : Option Abort := if ok then none else some .range
  if r.sub = 0x0169 then
    let old := s.bval blockObj 0x0169 r.element
    let gone := old.testBit 31 && !r.value.testBit 31
    let banks := if gone then bits old 23 20 else clearBits (bits old 23 20) (bits r.value 23 20)
    let outs := if gone then bits old 15 0 else clearBits (bits old 15 0) (bits r.value 15 0)
    if !streamOk store r.element then some .range
    else if old.testBit 31 && !s.quiet banks outs then some .state
    else none
  else if r.sub = 0x016A then range (decide (5 ≤ r.value ∧ r.value ≤ 5000) && streamOk store r.element)
  else if r.sub = 0x016B then range (decide (2 ≤ r.value ∧ r.value ≤ 100) && (List.range 8).all fun m => streamOk store m)
  else if r.sub = 0x016C then range (decide (r.value ≤ 600))
  else none

/-- The check of one safety I/O record on a staged store (12 Table 12-1). -/
def State.safetyCheck (s : State) (store : Sparse Nat) (r : BelayRecord) : Option Abort :=
  if r.sub = 0x0050 then s.inCfgCheck r else if r.sub = 0x0158 then s.qCfgCheck store r else s.smCheck store r

/-- The first safety I/O record that fails its check on the staged state as a whole (12 R317). -/
def State.safetyRefusal (s : State) (rs : List BelayRecord) : Option Nat :=
  let store := stagedStore s.belay.store rs
  (rs.find? fun r => !isSafetyIo r.index r.sub || (s.safetyCheck store r).isSome).map BelayRecord.num

end Sys2Proof.Machine
end

