-- ==== Sys2Proof/Machine/Items.lean ====
section
/-!
DEFINITION. The sealed configuration items that firmware holds (the RWS entries other than belay records and trust keys):
their checks and effects (05 R150, R159, 08 R210 to R212, 10 R285, 18 R465), and the replay of stored requests at a start
(03 R85, 11 R309).
-/

namespace Sys2Proof.Machine

/-- Element `k` of an item's value. -/
def itemEl (i : SealItem) (width k : Nat) : Nat := ofBytes ((i.data.drop (k * width)).take width)

/-- Gate channel and element of a `GATE_CFG` entry (10 Table 10-7). -/
def gateCfgChannels (index sub : Nat) : List (Fin 52) :=
  if 0x2201 ≤ index ∧ index ≤ 0x2228 ∧ sub = 0x00B0 then [chS (Fin.ofNat 40 (index - 0x2201))]
  else if 0x2101 ≤ index ∧ index ≤ 0x2104 ∧ sub = 0x0040 then
    (let b : Fin 4 := Fin.ofNat 4 (index - 0x2101); [chH b, chL b, chD b])
  else []

/-- Classes whose counters are fixed or reserved (18 Table 18-1). -/
def fcFixed : List Nat := [6, 8, 10, 11, 12, 14, 15]

/-- A value of `FC_CFG` that R465 accepts. -/
def State.fcCfgOk (s : State) (i : SealItem) : Bool :=
  (List.range 16).all fun k =>
    let v := itemEl i 4 k
    if fcFixed.contains k then v = s.val 0x1D00 0x0010 k
    else decide (1 ≤ v / 0x1000000 ∧ v / 0x1000000 ≤ 16) && decide (1 ≤ v % 0x1000000 ∧ v % 0x1000000 ≤ 604800)

/-- Every temperature row of an `OCV_TABLE` rises by at least 1 count (08 R212); 21 points by 8 temperatures. -/
def ocvOk (i : SealItem) : Bool :=
  (List.range 8).all fun t => (List.range 20).all fun k => decide (itemEl i 2 (t * 21 + k) < itemEl i 2 (t * 21 + k + 1))

def isProfile (index sub : Nat) : Bool := decide (0x2301 ≤ index ∧ index ≤ 0x2304) && decide (2 ≤ sub ∧ sub ≤ 0xF)

/-- The entry's range holds (14 R397) with what its own rule adds to it. -/
def State.rwsRangeOk (s : State) (i : SealItem) : Bool :=
  match entryOf i.index i.sub with
  | none => false
  | some r =>
    s.lengthOk r i.index i.sub i.data && r.rangeOk i.data &&
      ((gateCfgChannels i.index i.sub).zipIdx.all fun p => gateCfgOk p.1 (itemEl i 4 p.2)) &&
      (if i.index = 0x1D00 ∧ i.sub = 0x0010 then s.fcCfgOk i else true) &&
      (if isProfile i.index i.sub ∧ i.sub = 3 then ocvOk i else true)

/-- The item meets the state condition of its rule: the period exceeds `RECESS` (05 R150). -/
def State.rwsStateOk (s : State) (i : SealItem) : Bool :=
  !(i.index = 0x2000 && i.sub = 0x0050) || decide (s.val 0x2000 0x0052 < 10 * itemEl i 2 0)

/-- What a refused item raises: event 0x200A, 0x3026 or 0x500C (05 R150, 08 R212, 10 R285). -/
def State.rwsRefused (s : State) (i : SealItem) : State :=
  if i.index = 0x2000 ∧ i.sub = 0x0050 then s.event 0x200A blockObj 0
  else if isProfile i.index i.sub then
    (s.modEst fun e => { e with status := e.status ||| 512 }).event 0x3026 i.index i.sub
  else match gateCfgChannels i.index i.sub with
    | c :: _ => s.gateEvent 0x500C c
    | [] => s

/-- Puts an accepted item in force (10 R285; the others are read where they act). -/
def State.setRws (s : State) (i : SealItem) : State :=
  match entryOf i.index i.sub with
  | none => s
  | some r => (s.storeValue r i.index i.sub i.data).forEach (gateCfgChannels i.index i.sub).zipIdx fun t p =>
      t.modGate p.1 fun g => { g with cfgNext := some (itemEl i 4 p.2) }

/-- Effect of a sealed write with its event (10 R285, 18 R465, 08 R212). -/
def State.putRws (s : State) (i : SealItem) : State :=
  let t := (s.setRws i).forEach (gateCfgChannels i.index i.sub) fun t c => t.gateEvent 0x500B c
  if i.index = 0x1D00 ∧ i.sub = 0x0010 then t.event 0xD002 0x1D00 0
  else if isProfile i.index i.sub then t.event 0x3025 i.index i.sub
  else t

/-- An RWS item that firmware applies itself. -/
def isFwRws (i : SealItem) : Bool :=
  accessOf i.index i.sub = some .rws && !isEnvelope i.index i.sub && !isSafetyIo i.index i.sub && !isTrustKey i.index i.sub

/-- A request that R85 has stored: it carries an RWS item other than trust keys and safety I/O records. -/
def isStored (r : SealedReq) : Bool := r.items.any fun i => isFwRws i || isEnvelope i.index i.sub

/-- The RWS items of a stored request that R309 counts. -/
def storedItems (r : SealedReq) : List (Nat × Nat) :=
  (r.items.filter fun i => isFwRws i || isEnvelope i.index i.sub).map fun i => (i.index, i.sub)

/-- Stores a committed request as received; requests whose RWS items have all been rewritten go (11 R309). -/
def State.storeRequest (s : State) (r : SealedReq) : State :=
  if !isStored r then s
  else
    let later := storedItems r
    let all := s.seng.stored ++ [r]
    let n := s.seng.stored.length
    let keep := all.zipIdx.filter fun p =>
      p.2 = n || (storedItems p.1).any fun k => !later.contains k &&
        !((all.drop (p.2 + 1)).any fun q => (storedItems q).contains k)
    (s.modSeng fun g => { g with stored := keep.map (·.1) }).storeCfg

/-- A stored request still verifies (03 R85): its signature under the key of its slot, and its serial is the module's. -/
def State.stillVerifies (s : State) (r : SealedReq) : Bool :=
  (match s.keyOf r.head.slot with | some key => signedBy r key | none => false) && r.head.serial = s.serial

/-- A stored request is not applied at all (03 R85): event 0x9010. -/
def State.replayRefused (s : State) (r : SealedReq) : State := s.event 0x9010 0x1E00 r.head.slot (u8 r.head.slot ++ u64 r.head.counter)

/-- The envelope records of a stored request, marked `REPLAY`, and the items of it that firmware applies. -/
def replayRecords (r : SealedReq) : List BelayRecord := (requestRecords r true).filter fun e => isEnvelope e.index e.sub
def replayItems (r : SealedReq) : List SealItem := r.items.filter isFwRws

/-- Replays stored requests in the order they were committed (03 R85): one whose records go to the belay logic waits for its verdict. -/
def State.replayFrom : List SealedReq → State → State
  | [], s => s.modStart fun a => { a with replay := [] }
  | p :: ps, s =>
    if !(s.stillVerifies p && (replayItems p).all s.rwsRangeOk) then State.replayFrom ps (s.replayRefused p)
    else if replayRecords p = [] then State.replayFrom ps (s.forEach (replayItems p) State.setRws)
    else (s.modStart fun a => { a with replay := p :: ps }).modBelay fun b => { b with
      privQ := b.privQ ++ (replayRecords p).map PrivEntry.record }

end Sys2Proof.Machine
end

