-- ==== Sys2Proof/Machine/Power.lean ====
section
/-!
DEFINITION. Meanings of the supply, start and reset commands (spec/02 R56 to R73, spec/03). The boot ROM's rows of Table 3-1 run at the
command that lets them begin (log 26); the replayed records, the comparator self-tests, the roll calls, the first trigger, the first
traverse and the first slow round are commands of their own, and `STARTUP_COMPLETE` enters `STANDBY`.
-/

namespace Sys2Proof.Machine

/-! ## What a reset leaves of each part -/

/-- A belay record of the safety I/O, by its key (12 R318). -/
def safetyKey (k : Nat) : Bool := isSafetyIo (k / 2 ^ 32) (k / 2 ^ 16 % 2 ^ 16)

/-- The belay logic after its release or when it re-enters R77: the envelope is gone, the safety I/O records stand (12 R318). -/
def Belay.restart (b : Belay) (releasedAt now : Nat) : Belay :=
  let keep := b.store.filter fun p => safetyKey p.1
  { Belay.reset with
    released := true, releasedAt := releasedAt, store := keep, badCopies := b.badCopies.filter (fun p => safetyKey p.1),
    degraded := b.degraded.filter safetyKey, mirror := keep, lastTap := now }

/-- A gate channel at a power-on (03 R78, Table 3-3): undriven, latches cleared, `GATE_CYCLES` kept. -/
def Gate.powerOn (g : Gate) (c : Fin 52) (now : Nat) : Gate :=
  { Gate.reset (isClamp c) (if (partnerGate c).isSome then gateCfgC else gateCfgSD) with cycles := g.cycles, edgeAt := now }

/-- A gate channel at a system reset (03 R90, Table 3-3, 10 Table 10-7): latches and drive kept, counters and W1C fields cleared. -/
def Gate.sysReset (g : Gate) (c : Fin 52) : Gate :=
  { g with seen := 0, counts := Vector.replicate 3 0, hold := false, selftest := 0, cfgNext := none,
           cfg := if (partnerGate c).isSome then gateCfgC else gateCfgSD }

/-- A string's control state before its roll call (03 R87; log 8): only the stored lock-out survives (09 R244). -/
def StrCtl.restart (c : StrCtl) (installed excluded : Bool) : StrCtl :=
  { StrCtl.reset with stored := c.stored, installed := installed, exclusion := !installed || excluded }

/-- A rope before its roll call: spare PHYs and failed ports stay as the configuration has them (03 Table 3-3, 04 Table 4-14). -/
def Rope.restart (r : Rope) : Rope :=
  { Rope.reset with portA := { Port.reset with spare := r.portA.spare, failed := r.portA.failed },
                    portB := { Port.reset with spare := r.portB.spare, failed := r.portB.failed } }

/-- Safety I/O at a power-on (03 Table 3-1, 12 R326): outputs off, supplies in regulation, guard inputs await their test. -/
def Safety.powerOn (io : Safety) (guard : Nat → Bool) (now : Nat) : Safety :=
  { Safety.reset with
    supplies := Vector.replicate 4 { PulseSupply.reset with regulated := true, freeSince := some now },
    inputs := Vector.ofFn fun i : Fin 24 => { SafeInput.reset with pendingTest := guard i.val },
    outputs := io.outputs.map fun o => { Output.reset with operations := o.operations, lowSince := some now },
    tickAt := now }

/-- Safety I/O at a system reset (03 Table 3-3, 12 Table 12-5): readiness and tests kept, counters and W1C fields cleared. -/
def Safety.sysReset (io : Safety) : Safety :=
  { io with
    inputs := io.inputs.map fun c => { c with seen := 0, faults := Vector.replicate 2 0 },
    outputs := io.outputs.map fun o => { o with seen := 0, faults := 0 },
    streams := io.streams.map fun m => { m with seen := 0, counts := Vector.replicate 4 0 },
    txSeq := 0, txData := [], txAt := none }

/-- An RW entry whose value the configuration holds (17 R451): its Default column reads "cfg". -/
def isCfgEntry (index sub : Nat) : Bool :=
  (index = 0x2000 && (sub = 0x0046 || sub = 0x0060 || sub = 0x0076)) ||
  (decide (0x2201 ≤ index ∧ index ≤ 0x2228) && (sub = 0x0007 || sub = 0x0009 || sub = 0x0012)) ||
  (decide (0x1800 ≤ index ∧ index ≤ 0x1802) && (decide (1 ≤ sub ∧ sub ≤ 4) || sub = 0x0015)) ||
  decide (0x1810 ≤ index ∧ index ≤ 0x1812) || decide (0x1840 ≤ index ∧ index ≤ 0x1842) ||
  (index = 0x1B00 && sub = 0x0005) || (index = 0x1C00 && (sub = 0x0005 || decide (0x1001 ≤ sub))) ||
  (decide (0x1A01 ≤ index ∧ index ≤ 0x1A02) && decide (2 ≤ sub ∧ sub ≤ 4))

def cfgKey (k : Nat) : Bool := isCfgEntry (k / 2 ^ 32) (k / 2 ^ 16 % 2 ^ 16)

/-- The dictionary after a power-on or system reset: every value not in the configuration takes its default, and tables, transfers
and counters start afresh (03 Table 3-3, 14 R402, R405). -/
def Dict.restart (d : Dict) : Dict :=
  { Dict.reset with copies := d.copies, cfgGen := d.cfgGen, listId := d.listId }

/-- The seal engine after a reset: the trust list, the counters and the stored requests stand (14 R405, 03 R86). -/
def Seal.restart (g : Seal) : Seal :=
  { Seal.reset with slots := g.slots, storedCounters := Vector.ofFn fun k : Fin 8 => g.slots[k].counter, stored := g.stored }

def Thermal.restart (t : Thermal) : Thermal :=
  { Thermal.reset with max := t.max, compFailed := t.compFailed, shutdowns := t.shutdowns, tripped := t.tripped }

/-- A thermal shutdown whose 50 ms still run goes on through another system reset (03 R99, R100). -/
def Thermal.carry (t : Thermal) (goesOn : Bool) : Thermal :=
  if goesOn then { t.restart with shutdown := t.shutdown, shutdownAt := t.shutdownAt } else t.restart

/-- The calendar side at a start (03 Table 3-3, 20 Table 20-4): the RTC keeps the calendar, the source is RTC. -/
def Clock.restart (c : Clock) (unc : Option Nat) (now : Nat) : Clock :=
  { Clock.reset with set_ := c.set_, unc := unc.getD 0, uncAt := now, uncUnknown := unc.isNone, slewAt := now }

/-- Flash and RTC records of the storage at a start: what SRAM held of a write-back is gone (17 R452 to R456). -/
def Store.restart (g : Store) (now : Nat) (powerOn : Bool) : Store :=
  { g with writing := none, waiting := none, changed := false, periodic := now, merged := false, noneValid := false, rewrite := false,
           selected := 0, seen := if powerOn then 0 else g.seen }

/-- The fault histories that a start clears: all but class 11's, which only a power-on clears (18 R463). -/
def FaultCounts.restart (f : FaultCounts) (powerOn : Bool) : FaultCounts :=
  { f with hist := if powerOn then [] else f.hist.filter fun p => p.1 / 65536 = 11 }

/-- Health after a start (18 R479, R480): counts of spares and wear are kept, the W1C fields and the suspicion are not. -/
def Health.restart (h : Health) (powerOn : Bool) : Health :=
  { h with seen := 0, suspect := false, storePending := false, ecc := Vector.replicate 2 0, sysStopped := if powerOn then false else h.sysStopped }

/-! ## The parts of a start -/

/-- The calendar carried over to now: what a slew had still to do is dropped (19 R492); a calendar that holds goes on holding. -/
def State.settleCalendar (s : State) : State :=
  if s.now < s.utcAt then s
  else
    let u := s.utcNs.toNat
    { s with utcBase := u / 1000000, utcAt := s.now - u % 1000000 }

/-- The domains a system reset covers, reset (03 R89, Table 3-3). -/
def State.resetSys (s : State) (powerOn : Bool) : State :=
  let t := s.tearWrite.settleCalendar
  { t with
    irq := { t.irq with held := [] },
    evlog := { t.evlog with staged := [], buckets := [] },
    fc := t.fc.restart powerOn, health := t.health.restart powerOn, cores := Cores.reset, heldReq := [], waitingWrites := [],
    supply := { t.supply with wakeOut := false },
    start := { t.start with startRecords := true, due := none, steadySince := none, boot := none, replay := [], hurry := none },
    banks := t.banks.map fun b => { BankCtl.reset with groupReady := b.groupReady },
    strs := t.strs.map fun c => c.restart false false,
    bstr := Vector.replicate 40 BelayStr.reset, gateBlock := GateBlock.reset,
    dict := t.dict.restart, seng := t.seng.restart, therm := t.therm.carry (!powerOn && t.therm.shutdown && !t.start.thermalHold),
    cans := Vector.replicate 3 Can.reset, ropes := t.ropes.map Rope.restart, trav := Traverse.reset,
    bal := { Balance.reset with onTime := t.bal.onTime },
    eths := t.eths.map fun e => { Eth.reset with up := e.up, fast := e.fast },
    stream := CellStream.reset, clock := t.clock.restart t.uncertainty t.now, corr := Corr.reset,
    est := { Est.reset with strs := t.est.strs.map fun e => { StrEst.empty with profile := e.profile } },
    store := t.store.restart t.now powerOn }

/-- Block `OFF` without power (03 R74): IRQ 120 and event 0xE001 belong to a change of state, which a power-on finds made. -/
def State.blockOff (s : State) : State := { s with mode := { s.mode with block := .off, since := s.utc } }

/-- `SAFE_HOLD` under the recovery firmware (03 R88); without a passing core nothing runs. -/
def State.safeHold (s : State) : State :=
  let t := s.modStart fun a => { a with fw := if s.cores.role.toList.any (fun r => r = .member || r = .standby) then .recovery else .down,
                                        step := 0, bootImage := 0 }
  t.setBlock .safeHold 0

/-- Core self-test and pair forming (03 R80): the two lowest-numbered tested cores that pass. DESIGN CHOICE (log 144): a core that fails
raises 0xD010 and stands in `CORE_SET`, and no class of Table 18-1 counts it, since none names it. -/
def State.formCores (s : State) (f : StartFindings) (powerOn : Bool) : State :=
  let retired := if powerOn then 0 else s.start.retired
  let tested := (List.range 3).filter fun c => !retired.testBit c
  let good := tested.filter fun c => f.cores.testBit c
  let role := Vector.ofFn fun c : Fin 3 =>
    if retired.testBit c.val then CoreRole.retired
    else if !good.contains c.val then .failed
    else if (good.take 2).contains c.val then .member else .standby
  let t := ({ s with cores := { s.cores with role := role, sparePassed := true } }).modStart fun a => { a with retired := retired }
  t.forEach (tested.filter fun c => !good.contains c) fun t c => t.event 0xD010 0x1D00 c (u8 c)

/-- Two cores or more are members. -/
def State.paired (s : State) : Bool := decide (2 ≤ (s.cores.role.toList.filter fun r => r = .member).length)

/-- SRAM test and row remap (03 R81); answers whether every failing row has a spare. -/
def State.remapAtStart (s : State) (rows : List Nat) : State × Bool :=
  rows.foldl (fun r row =>
    if r.1.health.rows.length < 64 then
      (r.1.modHealth fun h => { h with rows := h.rows ++ [row], spareUse := upd h.spareUse 2 sat32, storePending := true }, r.2)
    else (r.1, false)) (s, true)

/-- Image selection (03 R83). DESIGN CHOICE (log 145): of two verifying images with the same generation image A is the pick. -/
def State.pickImage (s : State) : State × Option (Fin 2) :=
  let im := s.start.images
  let t := s.forEach ([0, 1] : List (Fin 2)) fun t k => if im[k].verifies then t else t.event 0xC001 blockObj k.val (u8 (0x0A + k.val))
  let best : Fin 2 := if im[0].generation < im[1].generation then 1 else 0
  let pick : Option (Fin 2) := if im[best].verifies then some best else if im[1 - best].verifies then some (1 - best) else none
  match pick with
  | none => (t, none)
  | some k =>
    let late := !im[k].confirmed && decide (2 ≤ s.start.trialCount)
    let final : Option (Fin 2) := if late then (if k = best && im[1 - k].verifies then some (1 - k) else none) else some k
    match final with
    | none => (t, none)
    | some j =>
      let t := if late then t.event 0xC002 blockObj j.val (u8 (0x0A + j.val)) else t
      (t.modStart fun a => { a with
        bootImage := 0x0A + j.val + (if im[j].confirmed then 0 else 0x80),
        trialCount := if im[j].confirmed then a.trialCount else a.trialCount + 1,
        cause := if j = best then a.cause else a.cause ||| 0x80 }, some j)

/-- The items of the newest valid configuration copy. -/
def State.cfgItems (s : State) : CfgItems := match s.newestCfg with
  | some k => s.dict.copies[k].items
  | none => CfgItems.empty

/-- The boot ROM applies the row remap table of the configuration (03 R81, Table 3-3). -/
def State.takeRows (s : State) : State := s.modHealth fun h => { h with rows := s.cfgItems.rows }

/-- Spare PHYs, ports out of service, retired blocks, stored lock-outs and the oscillator as the configuration has them (03 Table 3-3). -/
def State.takeItems (s : State) : State :=
  let c := s.cfgItems
  let t := s.modHealth fun h => { h with blocks := c.blocks, oscSpare := c.oscSpare }
  t.forEach allStr fun t i =>
    let a := c.ports.getD i.val (false, false)
    let b := c.ports.getD (40 + i.val) (false, false)
    (t.modStr i fun x => { x with stored := c.lockouts.getD i.val none }).modRope i fun r =>
      { r with portA := { r.portA with spare := a.1, failed := a.2 }, portB := { r.portB with spare := b.1, failed := b.2 } }

/-- Loads the configuration (17 R451): the newest valid copy's values; neither valid, defaults and an empty trust list. -/
def State.loadConfig (s : State) : State :=
  let t := s.forEach ([0, 1] : List (Fin 2)) fun t k =>
    if s.dict.copies[k].crcOk then t else (t.modStore fun g => { g with seen := g.seen ||| 2 }).event 0xC003 0x1C01 k.val
  let t := match s.newestCfg with
    | some k => t.modDict fun d => { d with vals := s.dict.copies[k].vals.filter fun p => cfgKey p.1 }
    | none =>
      let t := t.modSeng fun g => { g with slots := Vector.replicate 8 ⟨none, 0, 0⟩, storedCounters := Vector.replicate 8 0, stored := [] }
      let t := t.modDict fun d => { d with listId := 0 }
      t.event 0xC004 0x1C01 0
  t.takeItems.forEach allStr fun t i => t.modStr i fun c => c.restart (t.val (strObj i) 0x0007 = 1) (t.val (strObj i) 0x0009 = 1)

/-- Configures the CAN controllers and the Ethernet ports (20 Table 20-4, 13 R353, 19 R484). -/
def State.configureNets (s : State) : State :=
  let t := s.forEach (List.finRange 3) fun t k => t.modCan k fun _ =>
    let o := 0x1800 + k.val
    { Can.reset with onBus := true, mode := s.val o 1, node := s.val o 2, nominal := s.val o 3, dataRate := s.val o 4 }
  t.forEach (List.finRange 2) fun t k => t.modEth k fun e =>
    let o := 0x1A01 + k.val
    { e with ip := s.val o 2, mask := s.val o 3, gateway := s.val o 4 }

/-- Takes `next` as the next sequence number where the records held end before `held`: a gap is counted, event 0xC024 (17 R441, R443). -/
def State.closeGap (s : State) (held next : Nat) : State :=
  let t := { s with evlog := { s.evlog with next := next } }
  if held ≠ next then
    ({ t with evlog := { t.evlog with lost := satAdd max32 t.evlog.lost (seqGap held next), seen := t.evlog.seen ||| 8 } }).event
      0xC024 0x1C00 0 (u32 held ++ u32 (seqGap held next))
  else t

/-- The sequence gap of a start (17 R441): records accepted and never written. -/
def State.sequenceGap (s : State) : State :=
  let held := match s.evlog.ring.getLast? with
    | some r => (r.seq + 1) % 0x100000000
    | none => s.evlog.oldest
  s.closeGap held (seqMax held s.evlog.next)

/-- The gate rails pass UVLO (03 R78): D1 to D4 are driven on, S and C gates held at -4 V. -/
def State.railsUp (s : State) : State :=
  let t := s.modStart fun a => { a with gateRails := true }
  t.forEach (List.finRange 52) fun t c => t.modGate c fun g =>
    let g := { g with railPos := true, railNeg := true, seenCmd := g.cmd, edgeAt := t.now }
    if isClamp c && g.cmd then g.driveOn
    else { g with drive := if g.latch.isSome then .heldLow else .off, gateOn := false, gateOff := true }

/-- The gate supplies go off in base camp (02 R67): every gate is undriven, and the clamps conduct by themselves (03 R78). -/
def State.railsDown (s : State) : State :=
  let t := s.modStart fun a => { a with gateRails := false }
  t.forEach (List.finRange 52) fun t c => t.modGate c fun g =>
    { g with railPos := false, railNeg := false, drive := .undriven, gateOn := false, gateOff := false }

/-- Comparator self-test of every S and C channel (03 R79); `found` names the channels that fail with causes 0x09 to 0x0B. -/
def State.selfTestAll (s : State) (found : List (Nat × Nat)) : State :=
  s.forEach ((List.finRange 52).filter fun c => decide (c.val < 48)) fun t c =>
    let t := t.modGate c fun g => { g with selftest := 1 }
    t.endSelfTest c (match found.find? fun p => p.1 = c.val with
      | some (_, 9) => .failedDidt
      | some (_, 10) => .failedUvlo
      | some _ => .failedRb
      | none => .passed)

/-- Roll call starts on every installed rope (03 R87, 06 R187). -/
def State.rollCallAll (s : State) : State :=
  s.forEach allStr fun t i =>
    if t.strs[i].installed then t.startRollCall i else t

/-- The S and C channels begin their comparator self-test (03 R79), which `GATE_SELFTEST_COMPLETE` ends. -/
def State.beginSelfTests (s : State) : State :=
  s.forEach ((List.finRange 52).filter fun c => decide (c.val < 48)) fun t c => t.modGate c fun g => { g with selftest := 1 }

/-- The configuration is loaded and the stored envelope replayed (03 Table 3-1, 371 ms row): the mirror takes what stands (11 R310), what
follows from the records does, and the comparator self-tests begin. `STARTUP_STEP` 2. -/
def State.endReplay (s : State) : State :=
  if s.start.replay.isEmpty && s.start.fw = .running && s.start.step = 1 then
    let t := s.modBelay fun b => { b with mirror := b.store, mirrorCommits := b.commits }
    let t := t.modTrav fun v => { v with slowPeriod := t.val 0x2000 0x0053 }
    let t := t.settleStreams.settleBanks.enforceTrips
    t.beginSelfTests.modStart fun a => { a with step := 2 }
  else s

/-- The belay logic's verdict on the stored request whose records it has judged; the next ones follow (03 R85). -/
def State.replayOutcome (s : State) (ok : Bool) : State :=
  match s.start.replay with
  | [] => s
  | p :: ps => (State.replayFrom ps (if ok then s.forEach (replayItems p) State.setRws else s.replayRefused p)).endReplay

/-- Roll calls begin once no S or C channel is under the start's self-test any more (03 Table 3-1, R79, R87): `STARTUP_STEP` 3, or 4 where
no rope is installed. -/
def State.noteSelfTests (s : State) : State :=
  if s.start.step = 2 && s.start.fw = .running && (List.finRange 52).all fun c => s.gates[c].selftest ≠ 1 then
    s.rollCallAll.modStart fun a => { a with step := if (allStr.any fun i => s.strs[i].installed) then 3 else 4 }
  else s

/-- `GATE_SELFTEST_COMPLETE` (10 R283, R284); the last one of a start lets the roll calls begin. -/
def execGateSelftestComplete (c : Fin 52) (e : SelfTestEnd) (s : State) : Out := .next (s.endSelfTest c e).noteSelfTests

/-- The wait of a power-on that found sensors hot is recorded once firmware runs: event 0xB006, `SHUTDOWN_SEEN`, `SHUTDOWN_COUNT` (03 R101). -/
def State.reportHotStart (s : State) : State :=
  let hot := s.start.holdSensors
  if hot = 0 then s
  else
    let t := (s.modStart fun a => { a with holdSensors := 0 }).modTherm fun h =>
      { h with shutdowns := sat32 h.shutdowns, seen := h.seen ||| 8, tripped := hot }
    t.event 0xB006 0x1B00 0 (u8 hot)

/-- Firmware's part of a start from the 330 ms row up to the replay of the stored requests (03 Table 3-1, R85). -/
def State.startFirmware (s : State) : State :=
  let t := s.modStart fun a => { a with fw := .running, resumeAt := 0, step := 1 }
  let t := t.sequenceGap.loadConfig.configureNets
  let t := t.setVal blockObj 0x0014 0 t.excludedMap
  let t := { t with cores := { t.cores with commitAt := t.now } }
  let t := t.modTherm fun h => { h with select := if t.val 0x1B00 0x0005 = 2 then .divide else .pause, roundAt := t.now }
  let t := t.reportHotStart
  (State.replayFrom t.seng.stored t).endReplay

/-- The start from the 5 ms row (03 Table 3-1): boot ROM, image, firmware. -/
def State.startFrom5ms (s : State) (b : Boot) : State :=
  let t := s.formCores b.findings b.powerOn
  if b.stop || !t.paired then t.safeHold
  else
    let r := t.takeRows.remapAtStart b.findings.rows
    if !r.2 then r.1.safeHold
    else
      match r.1.pickImage with
      | (t, none) => t.safeHold
      | (t, some _) => t.startFirmware

/-- The boot ROM's rows run once SYS and CPU are out of reset and the gate rails have passed UVLO, the 8 ms row (03 Table 3-1, R98, R100). -/
def State.runBoot (s : State) : State :=
  match s.start.boot with
  | some b =>
    if s.start.gateRails && !s.start.thermalHold && !s.start.heldForSupply then (s.modStart fun a => { a with boot := none }).startFrom5ms b
    else s
  | none => s

/-- Begins the boot ROM's part of a start. -/
def State.bootWith (s : State) (f : StartFindings) (powerOn stop : Bool) : State :=
  (s.modStart fun a => { a with boot := some ⟨f, powerOn, stop⟩ }).runBoot

/-- `GATE_RAILS_UP` (03 R78): a start that waits for this row goes on. -/
def execGateRailsUp (s : State) : Out :=
  .next (if s.supply.up && !s.start.gateRails && s.mode.block ≠ .baseCamp then s.railsUp.runBoot else s)

/-! ## Power-on -/

/-- The RTC capacitor has run down (03 R82): backup registers read zero and the calendar restarts. -/
def State.loseRtc (s : State) : State :=
  let t := s.modStart fun a => { a with trialCount := 0, retired := 0, supplyLoss := false }
  { t with utcBase := 0, utcAt := t.now, clock := Clock.reset, evlog := { t.evlog with next := 0 } }

/-- Sensors of a findings map whose comparator has not failed (16 R428). -/
def State.hotSensors (s : State) (f : StartFindings) : Nat := mapBits 6 fun k => f.hot.testBit k && !s.therm.compFailed.testBit k

/-- What a power-on sets beside what every system reset does: the supply, the start, the belay logic and the gate channels. -/
def State.powerUp (t : State) : State :=
  { t with
    irq := Irq.reset, evlog := { t.evlog with seen := 0 },
    supply := { t.supply with up := true, pfw := false, holdupActive := false, holdupReady := false, holdupDegraded := false, holdupE := 0,
                              vqPresent := false, vqOver := false, prov := false, provSince := t.now, measuredAt := none, belWarn := false, seen := 0 },
    start := { t.start with
      cause := 0x8000 + (if t.start.supplyLoss then 0x4000 else 0), newCause := true, began := t.now, gateRails := false, supplyLoss := false,
      heldForSupply := false, thermalHold := false, holdPowerOn := false, stopped := 0, fw := .down, step := 0, bootImage := 0 },
    belay := t.belay.restart t.now t.now,
    gates := Vector.ofFn fun c : Fin 52 => (t.gates[c]).powerOn c t.now }

/-- The safety inputs and outputs and the banks at a power-on. -/
def State.powerUpPath (t : State) : State :=
  let guard (k : Nat) : Bool := (t.inCfg (Fin.ofNat 24 k)).testBit 29 && t.inUse (Fin.ofNat 24 k) ≠ 0
  let t : State := { t with io := t.io.powerOn guard t.now }
  let t : State := { t with banks := Vector.replicate 4 BankCtl.reset }
  (t.blockOff).settleStreams

/-- A power-on from its first row (03 R74, R77, R101, Table 3-3): with sensors at 115 degC it is held, the Ethernet PHYs powered down as in R100. -/
def State.powerOn (s : State) (f : StartFindings) : State :=
  let s := if f.rtcLost then s.loseRtc else s
  let t := (s.resetSys true).powerUp.powerUpPath
  let hot := t.hotSensors f
  let t := t.modStart fun a => { a with holdSensors := hot }
  if hot ≠ 0 then
    ({ t with eths := t.eths.map fun e => { e with up := false, fast := false } } : State).modStart fun a => { a with
      thermalHold := true, holdPowerOn := true }
  else t.bootWith f true false

/-- `POWER_ON_START` (03 R74): the input rises through 18.5 V, from no supply or after the end of hold-up (03 R98). -/
def execPowerOnStart (f : StartFindings) (s : State) : Out :=
  .next (if !s.supply.up || s.start.heldForSupply then s.powerOn f else s)

/-! ## Completion of a start -/

/-- Every rope that is installed has finished its roll call. -/
def State.rollCallsDone (s : State) : Bool := allStr.all fun i => !s.strs[i].installed || s.ropes[i].rollCall ≠ 1

/-- The conditions of R75. -/
def State.startComplete (s : State) : Bool :=
  s.mode.block = .off && s.fwActs && !s.start.thermalHold && !s.therm.shutdown && s.start.step = 7 && s.rollCallsDone && s.trav.travDone &&
    s.trav.slowDone

/-- The value of `RESET_CAUSE` (03 Table 3-5). -/
def State.resetCause (s : State) : Nat :=
  s.start.cause / 0x80 * 0x80 + bitAt s.envIncomplete 6 + bitAt s.start.newCause 0

/-- Sets the lock-out of every string that has a stored one (09 R244). -/
def State.restoreLockouts (s : State) : State :=
  s.forEach allStr fun t i =>
    match t.strs[i].stored with
    | none => t
    | some c =>
      if t.strs[i].lockout then t
      else
        let u := t.modStr i fun k => { k with lockout := true, lockoutCause := c, lockoutSet := 2 ^ c }
        if u.strs[i].state = .excluded || !u.strs[i].installed then u else u.setStr i .lockedOut c

/-- Firmware compares `LIST_ID` with the stored one (15 R422). -/
def State.compareListId (s : State) : State :=
  if s.dict.listId = listId then s
  else ((s.modDict fun d => { d with listId := listId }).storeCfg).event 0x9030 0x1F00 0 (u32 s.dict.listId ++ u32 listId)

/-- Entry to `STANDBY` at the end of a start (03 R75, R81, R87, R94, R443). -/
def State.finishStart (s : State) : State :=
  let t := s.restoreLockouts.setBlock .standby 1
  let t := t.modStart fun a => { a with startRecords := false, step := 8, startupTime := (t.now - a.began) / ms 1, steadySince := some t.now }
  let t := (t.event 0xE002 blockObj 0 (u16 t.resetCause)).flushAll
  let t := t.compareListId
  let t := if t.health.storePending then (t.modHealth fun h => { h with storePending := false }).storeCfg else t
  let t := t.modBal fun b => { b with enabled := true, modeNext := some (t.val 0x2000 0x0060) }
  t.settleLearned

/-- `STARTUP_COMPLETE` (03 R75). -/
def execStartupComplete (s : State) : Out := .next (if s.startComplete then s.finishStart else s)

/-- Index of the running image. -/
def State.runningImage (s : State) : Option (Fin 2) :=
  if s.start.bootImage % 0x80 = 0x0A then some 0 else if s.start.bootImage % 0x80 = 0x0B then some 1 else none

/-- `IMAGE_CONFIRM` (03 R84). DESIGN CHOICE: `BASE_CAMP` counts as a state later than `STANDBY` (log 185). -/
def execImageConfirm (s : State) : Out :=
  .next (match s.runningImage, s.start.steadySince with
  | some k, some t0 =>
    if s.fwActs && s.mode.block ≠ .off && s.mode.block ≠ .safeHold && !s.therm.shutdown && decide (t0 + sec 60 ≤ s.now) &&
        !s.start.images[k].confirmed then
      s.modStart fun a => { a with images := upd a.images k fun i => { i with confirmed := true }, trialCount := 0, bootImage := a.bootImage % 0x80 }
    else s
  | _, _ => s)

/-! ## System reset -/

/-- The cause bit of a system reset (03 Table 3-5). -/
def sysCauseBit : SysCause → Nat
  | .thermal => 0x2000 | .sealed => 0x1000 | .escalated => 0x0800

/-- A system reset up to the 5 ms row (03 R90, Table 3-3); answers whether R93 stops the start there. -/
def State.beginSystemReset (s : State) (c : SysCause) : State × Bool :=
  let t := s.openAll.dropAllQ.discardPasses
  let r := if c = .sealed then (t, false) else t.countFault 11 0
  let t := r.1.setBlock .off (sysCauseBit c / 0x100)
  let t := if c = .sealed ∧ ¬ t.start.startRecords then t.flushAll else t
  let t := t.resetSys false
  let t : State := { t with
    start := { t.start with cause := sysCauseBit c ||| (if r.2 then 0x0800 else 0), newCause := true, began := t.now, fw := .down, step := 0, bootImage := 0,
                            thermalHold := false, holdPowerOn := false, stopped := t.start.stopped + (if r.2 then 1 else 0) },
    belay := t.belay.restart t.belay.releasedAt t.now,
    gates := Vector.ofFn fun k : Fin 52 => (t.gates[k]).sysReset k,
    io := t.io.sysReset }
  (t, r.2)

/-- A system reset that an escalation begins: the boot ROM then runs (03 R93, 18 R469; `SYSTEM_RESET` brings its findings). -/
def State.escalate (s : State) : State :=
  let r := s.beginSystemReset .escalated
  r.1.modStart fun a => { a with due := some (if r.2 then 5 else 4, r.1.now) }

/-- The boot ROM's part of a system reset. -/
def State.systemReset (s : State) (c : SysCause) (f : StartFindings) : State :=
  let r := s.beginSystemReset c
  r.1.bootWith f false r.2

/-- The hold of R100 ends: every unfailed sensor reads below 90 degC. A power-on held by R101 goes on. -/
def State.endThermalHold (s : State) (f : StartFindings) : State :=
  if s.start.holdPowerOn then (s.modStart fun a => { a with thermalHold := false, holdPowerOn := false }).bootWith f true false
  else s.systemReset .thermal f

/-- `SYSTEM_RESET` (03 R89, R90): a sealed request's reset once its reply is 10 ms old and its write-back is done, an escalated one
as soon as it has begun, and the thermal one out of the held state. -/
def execSystemReset (c : SysCause) (f : StartFindings) (s : State) : Out :=
  .next (match c with
  | .thermal => if s.start.thermalHold && !s.start.heldForSupply then s.endThermalHold f else s
  | .sealed =>
    (match s.start.due with
    | some (2, t) => if t ≤ s.now ∧ s.store.writing.isNone then s.systemReset .sealed f else s
    | _ => s)
  | .escalated =>
    (match s.start.due with
    | some (4, _) => (s.modStart fun a => { a with due := none }).bootWith f false false
    | some (5, _) => (s.modStart fun a => { a with due := none }).bootWith f false true
    | _ => s))

/-! ## Processor restart -/

def procCauseBit : ProcCause → Nat
  | .sealed => 0x0400 | .watchdog => 0x0200 | .sram => 0x0100

/-- The cause of a processor restart; a fallback image stays in use (03 Table 3-5). -/
def State.procCause (s : State) (c : ProcCause) : Nat := procCauseBit c + bitAt (s.start.cause.testBit 7) 7

/-- The estimator's state after a processor restart (03 R91, 08 R235): from SRAM where its CRC holds, else the learned data again. -/
def State.resumeEstimator (s : State) : State :=
  if s.est.sramOk then s.modEst fun e => { e with status := clearBits e.status 0x2000 ||| 0x4000 }
  else
    let t := (s.modEst fun e => { e with status := clearBits e.status 0x4000 ||| 0x2000 }).selectLearned.markWarn
    t.event 0x3027 blockObj 0

/-- A processor restart (03 R91), or the system reset that a third one within 600 s becomes (03 R93). -/
def State.processorRestart (s : State) (c : ProcCause) : State :=
  let r := s.countFault 10 0
  if r.2 then r.1.escalate
  else
    let t := r.1.modStart fun a => { a with
      cause := s.procCause c, newCause := true, resumeAt := r.1.now + ms 150, due := none, steadySince := a.steadySince.map fun _ => r.1.now }
    let t := t.modBal fun b => { b with enabled := false, entering := false }
    let t := t.forEach allStr fun t i => t.modStr i fun c => { c with
      waiting := false, requested := false, pass := c.pass.map fun h => { h with orphan := true } }
    let t := if t.est.running then t.resumeEstimator else t
    let t : State := { t.modDict (fun d => { d with transfers := [], submitted := [] }) with heldReq := [], waitingWrites := [] }
    let t := t.modSeng fun g => { g with forwarded := [], actions := [], queue := g.queue.map fun w => { w with orphan := true } }
    t.event 0xE002 blockObj 0 (u16 t.resetCause)

/-- The processor runs and may be restarted. -/
def State.restartable (s : State) : Bool := s.fwUp && !s.start.thermalHold

/-- `PROCESSOR_RESTART` (03 R91): a sealed request's restart 10 ms after its reply, or a cause of the processor itself. -/
def execProcessorRestart (c : ProcCause) (s : State) : Out :=
  .next (match c with
  | .sealed =>
    (match s.start.due with
    | some (1, t) =>
      if t ≤ s.now then
        (if s.start.fw = .running then s.processorRestart .sealed
         else
          let r := s.countFault 10 0
          if r.2 then r.1.escalate else r.1.modStart fun a => { a with due := none, cause := s.procCause .sealed, newCause := true, resumeAt := r.1.now + ms 150 })
      else s
    | _ => s)
  | .watchdog => if s.restartable && !s.cores.swapping then s.processorRestart .watchdog else s
  | .sram => if s.restartable then s.processorRestart .sram else s)

/-- `WATCHDOG_WARNING` (03 R92); the watchdog is paused during a core swap (18 R471). -/
def execWatchdogWarning (s : State) : Out := .next (if s.restartable && !s.cores.swapping then s.irqRaise 115 else s)

/-- `WATCHDOG_EXPIRY` (03 R92). -/
def execWatchdogExpiry (s : State) : Out :=
  .next (if s.restartable && !s.cores.swapping then s.processorRestart .watchdog else s)

/-! ## Reset requests -/

/-- An accepted `RESET_REQUEST` (03 R94): the reset begins 10 ms after the reply; a system reset is a planned shutdown (08 R233). -/
def State.applyResetRequest (s : State) (v : Nat) : State :=
  let t := s.modStart fun a => { a with due := some (v, s.now + ms 10) }
  if v = 2 ∧ s.fwActs ∧ ¬ s.start.startRecords then t.writeBack 2 else t

/-- A sealed write of `RESET_REQUEST`. -/
def State.sealedReset (s : State) (h : SealHead) (v : Nat) : State :=
  s.sealedVia (h.one 0x2000 0x0023 (u8 v)) fun s => .applied (s.applyResetRequest v)

def execResetRequestRestart (h : SealHead) (s : State) : Out :=
  .next (s.unlessSwapping (.resetRequestRestart h) fun s => s.sealedReset h 1)

def execResetRequestSystem (h : SealHead) (s : State) : Out :=
  .next (s.unlessSwapping (.resetRequestSystem h) fun s => s.sealedReset h 2)

/-! ## The supply -/

/-- Completes a pending counter store (14 R395). -/
def State.storeCounters (s : State) : State :=
  if s.seng.storePending = 0 then s
  else (s.modSeng fun g => { g with storePending := 0, storedCounters := g.slots.map TrustSlot.counter }).storeCfg

/-- Flash may be written: firmware acts and the start is over (03 R82). -/
def State.mayFlash (s : State) : Bool := s.fwActs && !s.start.startRecords

/-- The procedure of R97 and R100: firmware stores counters, flushes, and with `write` writes back learned data that have changed. A core
swap holds it back until its resume (18 R471). -/
def State.hurryOut (s : State) (reason : Nat) (write : Bool) : State :=
  if s.mayFlash then
    let t := s.storeCounters.flushAll
    if write && t.store.changed then t.writeBack reason else t
  else if s.cores.swapping then s.modStart fun a => { a with hurry := some (reason, write) }
  else s

/-- `POWER_FAIL_WARNING` (02 R68, 03 R96, R97, 09 R259): hold-up takes the load, every pre-charge ends, and firmware makes what it holds
safe; the learned data are written when the storage was full. -/
def execPowerFailWarning (s : State) : Out :=
  .next (if s.supply.up && !s.supply.pfw then
    let ready := s.supply.holdupReady
    let t := s.modSupply fun p => ({ p with pfw := true, pfwAt := s.now, holdupActive := true, holdupReady := false } : Supply).see 2 s.now
    let t := (t.irqRaise 103).event 0xC010 blockObj 0
    let t := t.forEach allBank fun t b => if t.pcActive b then t.endPrecharge b 0x4025 7 else t
    t.hurryOut 4 ready
  else s)

/-- `POWER_FAIL_WITHDRAWN` (02 R68, 03 R98). -/
def execPowerFailWithdrawn (s : State) : Out :=
  .next (if s.supply.pfw && !s.start.heldForSupply then
    let t := s.modSupply fun p => { p with pfw := false, holdupActive := false }
    if s.supply.holdupActive then t.event 0xC011 blockObj 0 else t
  else s)

/-- `BELAY_SUPPLY_WARNING` (02 R70, 03 R98): the power path goes safe and the module holds itself in reset. -/
def execBelaySupplyWarning (s : State) : Out :=
  .next (if s.supply.up && s.supply.pfw && !s.start.heldForSupply then
    let t := (s.irqRaise 53).openAll.dropAllQ.discardPasses.tearWrite
    let t := (t.irqRaise 116).modSupply fun p => { p with belWarn := true }
    let t := t.modBelay fun b => { b with released := false }
    let t : State := { t with cores := { t.cores with swapping := false, formed := none } }
    t.modStart fun a => { a with supplyLoss := true, heldForSupply := true, fw := .down, due := none, boot := none, replay := [], hurry := none }
  else s)

/-- `INPUT_OVERVOLTAGE` (02 R68). -/
def execInputOvervoltage (s : State) : Out :=
  .next (if s.supply.up then (s.modSupply fun p => p.see 0 s.now).event 0xD031 blockObj 0 else s)

/-- Stores the result of a storage measurement, mJ (02 R71). -/
def State.measureHoldup (s : State) (e : Nat) : State :=
  let t := s.modSupply fun p => { p with holdupE := min e 0xFFFF, holdupDegraded := decide (e < 1100), measuredAt := some s.now }
  if e < 1100 then t.event 0xD030 blockObj 0 (u16 (min e 0xFFFF)) else t

/-- A measurement is due: at power-up and then every 24 h, with the input at or above 20 V (02 R71). -/
def State.measureDue (s : State) (above20 : Bool) : Bool :=
  above20 && (match s.supply.measuredAt with | some t => decide (t + sec 86400 ≤ s.now) | none => true)

/-- `HOLDUP_RECHARGED` (02 R71): the storage is full, and at power-up it is measured, `e` mJ. -/
def execHoldupRecharged (e : Nat) (above20 : Bool) (s : State) : Out :=
  .next (if s.supply.up && !s.supply.pfw && !s.supply.holdupReady then
    let t := s.modSupply fun p => { p with holdupReady := true }
    if s.supply.measuredAt.isNone && above20 then t.measureHoldup e else t
  else s)

/-- `HOLDUP_MEASUREMENT` (02 R71): the measurement of each 24 h, or the first one where the input was too low for it; one that `PFW` meets
is abandoned. -/
def execHoldupMeasurement (e : Nat) (above20 : Bool) (s : State) : Out :=
  .next (if s.supply.up && !s.supply.pfw && s.supply.holdupReady && s.measureDue above20 then s.measureHoldup e else s)

/-! ## The output supply and the strap -/

/-- `VQ_LOSS` (02 R57): VQ falls below 18.0 V, from `VQ_PRESENT` or from the band below 20.0 V. -/
def execVqLoss (s : State) : Out :=
  .next (if s.supply.up then
    let t := s.modSupply fun p => ({ p with vqPresent := false } : Supply).see 1 s.now
    (t.event 0x7020 blockObj 0).enforceOutputs
  else s)

/-- `VQ_RESTORED` (02 R57). -/
def execVqRestored (s : State) : Out :=
  .next (if s.supply.up then s.modSupply fun p => { p with vqPresent := true } else s)

/-- `VQ_OVERCURRENT` (02 R57): nothing is shed. -/
def execVqOvercurrent (s : State) : Out :=
  .next (if s.supply.up then (s.modSupply fun p => { p with vqOver := true }).event 0x7021 blockObj 0 else s)

/-- `PROV_STRAP_CHANGE` (02 R62): removal also cancels an armed erasure (14 R400). -/
def execProvStrapChange (s : State) : Out :=
  .next (if s.supply.up then
    let t := s.modSupply fun p => { p with prov := !p.prov, provSince := s.now }
    let t := if s.supply.prov then t.modSeng fun g => { g with eraseArmed := none } else t
    (t.irqRaise 122).event 0xE020 blockObj 0 (u8 (if s.supply.prov then 0 else 1))
  else s)

/-! ## Thermal shutdown -/

/-- `THERMAL_SHUTDOWN` (16 R435, 03 R99): `sensors` names the tripped comparators, bit k for TS(k+1). -/
def execThermalShutdown (sensors : Nat) (s : State) : Out :=
  .next (
    let live := mapBits 6 fun k => sensors.testBit k && !s.therm.compFailed.testBit k
    if s.belay.released && s.supply.up && live ≠ 0 && !s.therm.shutdown && !s.start.thermalHold then
      let t := (s.safePath.dropAllQ).irqRaise 55
      let t := t.forEach allStr fun t i => t.tripStr i [0x0E]
      let t := t.discardPasses
      let t := t.modTherm fun h => { h with shutdown := true, shutdownAt := s.now, tripped := live, shutdowns := sat32 h.shutdowns, seen := h.seen ||| 8 }
      ((t.event 0xB006 0x1B00 0 (u8 live)).setBlock .off 3).hurryOut 5 true
    else s)

/-- `THERMAL_HOLD` (03 R100): 50 ms after the shutdown SYS and CPU are held in reset and the PHYs are powered down. -/
def execThermalHold (s : State) : Out :=
  .next (if s.therm.shutdown && !s.start.thermalHold && decide (s.therm.shutdownAt + ms 50 ≤ s.now) then
    let t := s.tearWrite.modStart fun a => { a with thermalHold := true, fw := .down, due := none, boot := none, replay := [], hurry := none }
    let t : State := { t with cores := { t.cores with swapping := false, formed := none } }
    let t := t.forEach (List.finRange 3) fun t k => t.modCan k fun c => { c with onBus := false }
    let t := t.forEach (List.finRange 2) fun t k => t.modEth k fun e => { e with up := false }
    t.modTrav fun v => { v with running := false }
  else s)

/-- `THERMAL_RESTART` (03 R100, R101). -/
def execThermalRestart (f : StartFindings) (s : State) : Out := .next (if s.start.thermalHold && !s.start.heldForSupply then s.endThermalHold f else s)

end Sys2Proof.Machine
end

