-- ==== Sys2Proof/Machine/Health.lean ====
section
/-!
DEFINITION. Meanings of the fault-counting, core, spare and wear commands (spec/18 R463 to R478), and the lasting actions of the
fault classes. What the pair computes between two commits stands as done at its command (log 28).
-/

namespace Sys2Proof.Machine

/-- The port of a number 1 to 80, A01 to A40 then B01 to B40 (01 Table 1-5, 18 R473). -/
def State.modPort (s : State) (n : Nat) (f : Port → Port) : State :=
  let i : Fin 40 := Fin.ofNat 40 (n - 1)
  s.modRope i fun r => if n ≤ 40 then { r with portA := f r.portA } else { r with portB := f r.portB }

def State.portAt (s : State) (n : Nat) : Port :=
  let r := s.ropes[Fin.ofNat 40 (n - 1)]
  if n ≤ 40 then r.portA else r.portB

/-! ## Spares -/

/-- Stores an item that a running block changes, or leaves it to `STANDBY` (03 R82, 18 R474). -/
def State.storeLater (s : State) : State :=
  if s.mayFlash then s.storeCfg else s.modHealth fun h => { h with storePending := true }

/-- Redirects a lasting row into a free spare row (18 R474, R475). -/
def State.remapRow (s : State) (row : Nat) : State :=
  if s.health.rows.length < 64 then
    let t := s.modHealth fun h => { h with rows := h.rows ++ [row], spareUse := upd h.spareUse 2 sat32, seen := h.seen ||| 8 }
    ((t.irqRaise 110).event 0xD022 0x1D00 row).storeLater
  else s.event 0xD023 0x1D00 row

/-- The partition of an erase block of 256 KiB: 0 to 2 a learned-data region, 3 history, 4 configuration, 5 recorder (17 Table 17-1). -/
def partitionOf (block : Nat) : Option Nat :=
  let mib := block / 4
  if 44 ≤ mib ∧ mib < 68 then some ((mib - 44) / 8)
  else if 76 ≤ mib ∧ mib < 204 then some 3
  else if 36 ≤ mib ∧ mib < 44 then some 4
  else if 204 ≤ mib ∧ mib < 716 then some 5
  else none

/-- Retires a lasting block (18 R476); with no spare block its partition stops writing. -/
def State.retireBlock (s : State) (block : Nat) : State :=
  if s.health.blocks.length < 768 then
    let t := s.modHealth fun h => { h with blocks := h.blocks ++ [block], spareUse := upd h.spareUse 3 sat32 }
    (t.irqRaise 102).event 0xC051 0x1D00 (block % 65536) (u32 block)
  else
    let t := s.event 0xD025 0x1D00 (block % 65536) (u32 block)
    match partitionOf block with
    | some 5 => { t with evlog := { t.evlog with stopped := true } }
    | some p => t.modHealth fun h => { h with stoppedParts := h.stoppedParts ||| 2 ^ p }
    | none => t

/-- Class 9 lasting: the PLL moves to X4; when X4 fails too the SYS domain stops (18 R477). -/
def State.oscFailover (s : State) : State :=
  if s.health.oscSpare then
    ((s.modHealth fun h => { h with sysStopped := true }).modStart fun a => { a with fw := .down }).modTrav fun v => { v with running := false }
  else
    let t := s.modHealth fun h => { h with oscSpare := true, spareUse := upd h.spareUse 4 sat32, seen := h.seen ||| 2 }
    ((t.irqRaise 114).event 0xD026 0x1D00 0).storeLater

/-- The lasting action of a class on an element (18 Table 18-1). Class 11 acts in the start it stops, class 12 in its controller. -/
def State.lastingAction (s : State) (k : Fin 16) (item : Nat) : State :=
  match k.val with
  | 0 => if s.cores.swapping then { s with cores := { s.cores with lasting := true } } else s
  | 1 => if 1 ≤ item ∧ item ≤ 80 then s.modPort item fun p => { p with moveDue := true } else s
  | 3 => if 1 ≤ item ∧ item ≤ 40 then (let i : Fin 40 := Fin.ofNat 40 (item - 1); (s.latchCauses i [0x10]).settleBank (s.bankOf i)) else s
  | 4 => (s.modHealth fun h => { h with suspect := true }).event 0xD018 0x1D00 0
  | 5 | 6 => s.remapRow item
  | 7 | 8 => s.retireBlock item
  | 9 => s.oscFailover
  | 10 => s.escalate
  | _ => s

/-- Counts one occurrence and takes the action of a class that becomes lasting (18 R463). -/
def State.occurrence (s : State) (k : Fin 16) (item : Nat) : State :=
  let r := s.countFault k item
  if r.2 then r.1.lastingAction k item else r.1

/-- `WINDOW_COUNTER_LASTING` (18 R463): an occurrence of a class on an element reaches its counter, which takes the action when the
class becomes lasting with it. -/
def execWindowCounterLasting (cls : Fin 14) (item : Nat) (s : State) : Out :=
  .next (if s.start.fw ≠ .down then s.occurrence ⟨cls.val, by omega⟩ item else s)

/-! ## The core pair -/

/-- `LOCKSTEP_COMMIT` (18 R467). -/
def execLockstepCommit (s : State) : Out :=
  .next (if s.start.fw ≠ .down && !s.cores.swapping then
    { s with cores := { s.cores with journal := 0, buffer := 0, commitAt := s.now } }
  else s)

/-- `LOCKSTEP_MISMATCH` (18 R468): the pair halts, the journal is restored and both members begin their self-test. `parity` holds
the members' parity flags, bit c for core c. -/
def execLockstepMismatch (parity : Nat) (s : State) : Out :=
  .next (if s.start.fw ≠ .down && !s.cores.swapping && s.paired then
    let t : State := { s with cores := { s.cores with
      swapping := true, parity := parity, mismatchAt := s.now, formed := none, lasting := false, journal := 0, buffer := 0 } }
    ((t.irqRaise 111).irqRaise 112).occurrence 0 0
  else s)

/-- Core C2 stands by and may be taken into the pair (18 R469, R472, 20 Table 20-4). -/
def State.spareCore (s : State) : Option (Fin 3) :=
  if s.mode.block = .baseCamp || !s.cores.sparePassed then none
  else (List.finRange 3).find? fun c => s.cores.role[c] = .standby

/-- The members, ascending. -/
def State.members (s : State) : List (Fin 3) := (List.finRange 3).filter fun c => s.cores.role[c] = .member

/-- Keeps the same members (18 Table 18-2). -/
def State.formSame (s : State) : State :=
  let t : State := { s with cores := { s.cores with formed := some s.now } }
  t.event 0xD012 0x1D00 0

/-- Takes `spare` in for `out` (18 R469): a core swap. -/
def State.swapCore (s : State) (spare out : Fin 3) : State :=
  let t : State := { s with cores := { s.cores with
    role := (s.cores.role.set out .retired).set spare .member, formed := some s.now, lasting := false } }
  let t := t.modStart fun a => { a with retired := a.retired ||| 2 ^ out.val }
  let t := t.modHealth fun h => { h with spareUse := upd h.spareUse 0 sat32, seen := h.seen ||| 16 }
  (t.clearWindow 0 0).event 0xD013 0x1D00 out.val (u8 out.val)

/-- `PAIR_FORMING` (18 R469, Table 18-2): the two members' self-tests, the lower-numbered first. -/
def execPairForming (passA passB : Bool) (s : State) : Out :=
  .next (
    match s.members with
    | [a, b] =>
      if s.cores.swapping && s.cores.formed.isNone && s.start.fw ≠ .down then
        let t := s.event 0xD011 0x1D00 0
        match passA, passB, s.spareCore with
        | true, true, some c =>
          if s.cores.lasting then t.swapCore c (if s.cores.parity.testBit a.val && !s.cores.parity.testBit b.val then a else b)
          else t.formSame
        | true, true, none => if s.cores.lasting then t.formSame.event 0xD014 0x1D00 0 else t.formSame
        | true, false, some c => t.swapCore c b
        | false, true, some c => t.swapCore c a
        | true, false, none | false, true, none => ((t.event 0xD014 0x1D00 0).event 0xD016 0x1D00 0).escalate
        | false, false, _ => (t.event 0xD016 0x1D00 0).escalate
      else s
    | _ => s)

/-- The resume point has come (18 R470): a trigger since the pair was formed, or 28 ms since the mismatch. -/
def State.resumeDue (s : State) : Bool :=
  match s.cores.formed with
  | some f => decide (f ≤ s.trav.t0 ∧ s.trav.number.isSome) || decide (s.cores.mismatchAt + ms 28 ≤ s.now)
  | none => false

/-- `SPARE_CORE_SELF_TEST` (18 R472): every 60 s while core C2 stands by. -/
def execSpareCoreSelfTest (pass : Bool) (s : State) : Out :=
  .next (if s.cores.role[2] = .standby && !s.cores.swapping && s.mode.block ≠ .baseCamp && s.start.fw ≠ .down &&
      decide (s.cores.spareAt + sec 60 ≤ s.now) then
    (if pass then { s with cores := { s.cores with sparePassed := true, spareAt := s.now } }
     else ({ s with cores := { s.cores with role := s.cores.role.set 2 .failed, sparePassed := false, spareAt := s.now } } : State).event
       0xD015 0x1D00 2)
  else s)

/-! ## SRAM, flash, oscillator -/

/-- A `DMA_ERROR` on the buffer of the running traverse (05 R167): the strings of `lost` are unseen in it. -/
def State.dmaError (s : State) (lost : Nat) : State :=
  let k : Fin 8 := Fin.ofNat 8 (s.trav.number.getD 0)
  let t := s.modTrav fun v => { v with bufs := upd v.bufs k fun b => { b with dmaError := true, lost := b.lost ||| lost } }
  (t.irqRaise 16).event 0x2005 blockObj 0

/-- A `DMA_ERROR` on the slow buffer that is being filled (05 R167, R168): the slow values of the strings of `lost` are not taken from it. -/
def State.slowDmaError (s : State) (lost : Nat) : State :=
  let k : Fin 2 := Fin.ofNat 2 (s.trav.slowCount + 1)
  let t := s.modTrav fun v => { v with slow := upd v.slow k fun b => { b with dmaError := true, lost := b.lost ||| lost } }
  (t.irqRaise 16).event 0x2005 blockObj 0

/-- An SRAM error in a row (18 R474); the owner of the data then acts. -/
def State.sramError (s : State) (row : Nat) (corrected : Bool) (owner : SramOwner) : State :=
  if corrected then
    (({ s with health := { s.health with ecc := upd s.health.ecc 0 sat32 } } : State).irqRaise 108).occurrence 5 row
  else
    let t := (({ s with health := { s.health with ecc := upd s.health.ecc 1 sat32 } } : State).irqRaise 109).occurrence 6 row
    match owner with
    | .processor => if t.restartable then t.processorRestart .sram else t
    | .buffer i => (t.modTrav fun v => { v with seen := v.seen ||| 0x400 }).dmaError (2 ^ i.val)
    | .slowBuffer i => (t.modTrav fun v => { v with seen := v.seen ||| 0x400 }).slowDmaError (2 ^ i.val)
    | .estimator => t.modEst fun e => { e with sramOk := false }
    | .other => t

/-- `SRAM_ECC_ERROR` (18 R474). -/
def execSramEccError (row : Nat) (corrected : Bool) (owner : SramOwner) (s : State) : Out :=
  .next (if s.start.fw ≠ .down then s.sramError row corrected owner else s)

/-- `SRAM_SCRUB` (18 R474): one pass of the scrubber, once per `SCRUB_PERIOD`, with the errors it meets, by row. -/
def execSramScrub (rows : List (Nat × Bool)) (s : State) : Out :=
  .next (if s.start.fw ≠ .down && decide (s.health.scrubAt + sec (s.val 0x1D00 0x0005) ≤ s.now) then
    rows.foldl (fun t r => t.sramError r.1 r.2 .other) (s.modHealth fun h => { h with scrubAt := s.now })
  else s)

/-- `FLASH_ERROR` (18 R476): IRQ 101 (01 Table 1-8, log 129); a read past 8 corrected bits, or a program or erase that fails. A failed program of a learned copy is
abandoned as torn during the procedures of R97 and R100. -/
def execFlashError (block : Nat) (kind : FlashErrorKind) (s : State) : Out :=
  .next (if s.start.fw = .down then s
  else
    let s := s.irqRaise 101
    match kind with
    | .corrected => s.occurrence 7 block
    | .failed =>
      let t := if partitionOf block = some 5 then s.event 0xC050 0x1C00 0 (u32 block) else s
      let t := t.occurrence 8 block
      match t.store.writing with
      | some (_, _, k) => if t.hurried ∧ partitionOf block = some k then t.tearWrite else t
      | none => t)

/-- Class 9 lasting at once (18 R477): no SYS edge for 100 ns. -/
def State.oscLost (s : State) : State :=
  let fc := s.fc
  let t : State := { s with fc := { fc with total := upd fc.total 9 sat32, lasting := upd fc.lasting 9 sat32, lastItem := fc.lastItem.set 9 0,
                                            lastTime := fc.lastTime.set 9 s.utc } }
  let t := ((t.clearWindow 9 0).modHealth fun h => { h with seen := h.seen ||| 1 }).event 0xD001 0x1D00 9 (u8 9 ++ u16 0)
  t.oscFailover

/-- `OSC_WINDOW` (18 R477): the windows follow each other every 1 ms; the loss of the SYS edges waits for none. -/
def execOscWindow (w : OscFinding) (s : State) : Out :=
  .next (if s.belay.released && !s.health.sysStopped && !s.start.thermalHold then
    let due := decide (s.health.oscAt + ms 1 ≤ s.now)
    let t := if due then s.modHealth fun h => { h with oscAt := s.now } else s
    match w with
    | .good => t
    | .deviates => if due then (t.event 0xD027 0x1D00 0).occurrence 9 0 else t
    | .noEdge => t.oscLost
  else s)

/-! ## Restores -/

/-- `PHY_RESTORE` (18 R473): the port returns to its own PHY at the next traverse boundary. -/
def State.applyPhyRestore (s : State) (v : Nat) : Applied :=
  let i : Fin 40 := Fin.ofNat 40 (v - 1)
  let st := s.strs[i].state
  if s.mode.block = .service && (st = .isolated || st = .tripped || st = .lockedOut || st = .excluded) then
    .ok (((s.modPort v fun p => { p with restoreDue := true }).clearWindow 1 v).event 0xD033 0x1D00 v)
  else .error (.state, s)

def execPhyRestore (src : Src) (v : Nat) (s : State) : Out :=
  .next (s.unlessSwapping (.phyRestore src v) fun s => s.writeVia src 0x1D00 0x0007 (u8 v) fun _ s => s.applyPhyRestore v)

/-- `HEALTH_CLEAR` (18 R478). -/
def State.applyHealthClear (s : State) : State :=
  ((s.modHealth fun h => { h with suspect := false }).clearWindow 4 0).event 0xD019 0x1D00 0

def execHealthClear (h : SealHead) (v : Nat) (s : State) : Out :=
  .next (s.unlessSwapping (.healthClear h v) fun s =>
    s.sealedVia (h.one 0x1D00 0x0006 (u8 v)) fun s =>
      match s.itemCheck ⟨0x1D00, 0x0006, u8 v⟩ with
      | some a => .refused a 0 s
      | none => .applied s.applyHealthClear)

end Sys2Proof.Machine
end

