-- ==== Sys2Proof/Machine/Modes.lean ====
section
/-!
DEFINITION. Meanings of the block-state requests (spec/20 R500, R501, R510).
-/

namespace Sys2Proof.Machine

/-- A refused block-state request (20 R500): IRQ 123, event 0xE003, the reason in `MODE_REFUSED`. -/
def State.modeRefused (s : State) (v why : Nat) : Applied :=
  let t : State := { s with mode := { s.mode with refused := why } }
  .error (.state, (t.irqRaise 123).event 0xE003 blockObj 0 (u8 s.mode.block.code ++ u8 v ++ u8 why))

/-- `STANDBY` from `ARMED` or `RUN` (20 R501): every S command off in one BEL cycle, each bank opens as by `BANK_OPEN`. -/
def State.disarm (s : State) : State :=
  let t := s.forEach allStr State.sOff
  (t.setBlock .standby 2).forEach allBank fun t b => t.openBank b 5

/-- A power-path output is energised. -/
def State.powerPathOn (s : State) : Bool := allQ.any fun q => s.qPowerPath q && s.io.outputs[q].state.energised

/-- `BLOCK_STATE_REQ` (20 R500, Table 20-2). -/
def State.applyBlockState (s : State) (v : Nat) : Applied :=
  let b := s.mode.block
  if v = 2 then
    match b with
    | .standby => .ok s
    | .armed | .run => .ok s.disarm
    | .service => .ok (s.setBlock .standby 2)
    | .off | .baseCamp | .safeHold => s.modeRefused v 4
  else if v = 3 then
    match b with
    | .armed | .run => .ok s
    | .standby => if s.supply.pfw then s.modeRefused v 1 else .ok (s.setBlock .armed 2)
    | .off | .baseCamp | .service | .safeHold => s.modeRefused v 4
  else if v = 5 then
    match b with
    | .service => .ok s
    | .standby =>
      if allBank.any (fun n => s.banks[n].state ≠ .dark) then s.modeRefused v 2
      else if s.powerPathOn then s.modeRefused v 3
      else .ok (s.setBlock .service 2)
    | .off | .baseCamp | .armed | .run | .safeHold => s.modeRefused v 4
  else .error (.range, s)

def State.requestBlock (s : State) (src : Src) (v : Nat) : State :=
  s.writeVia src blockObj 0x0002 (u8 v) fun _ s => s.applyBlockState v

/-- `REQUEST_STANDBY` (20 R501). -/
def execRequestStandby (src : Src) (s : State) : Out :=
  .next (s.unlessSwapping (.requestStandby src) fun s => s.requestBlock src 2)

/-- `REQUEST_ARMED` (20 R500). -/
def execRequestArmed (src : Src) (s : State) : Out :=
  .next (s.unlessSwapping (.requestArmed src) fun s => s.requestBlock src 3)

/-- `REQUEST_SERVICE` (20 R500). -/
def execRequestService (src : Src) (s : State) : Out :=
  .next (s.unlessSwapping (.requestService src) fun s => s.requestBlock src 5)

end Sys2Proof.Machine
end

