-- ==== Sys2Proof/Machine/RopeOps.lean ====
section
/-!
DEFINITION. Operations of the port engines and the ropes (spec/04, spec/05): served positions, statistics and events of a port,
replies and their acceptance, command counters, missing positions and far reads, hop delays, recess, and rope modes.
-/

namespace Sys2Proof.Machine

/-- Next trigger, ns. -/
def State.nextDue (s : State) : Nat := s.trav.t0 + us s.trav.period

/-! ## Serving -/

/-- Position at hop `h` of an end, and the hop of a position: the same arithmetic (04 R102, R118). -/
def Rope.hop (r : Rope) (e : PortEnd) (p : Nat) : Nat := match e with | .a => p | .b => r.n - p

/-- Positions an end serves, in hop order (04 Table 4-10); a port out of service and a rope in roll call serve none. -/
def Rope.served (r : Rope) (e : PortEnd) : List Nat :=
  if r.rollCall = 1 || (r.port e).failed then []
  else match e with
    | .a => (match r.lastA with | some k => List.range (k + 1) | none => [])
    | .b => (match r.firstB with | some f => ((List.range (r.n + 1)).filter fun p => decide (f ≤ p)).reverse | none => [])

/-- The end that serves a position. -/
def Rope.serverOf (r : Rope) (p : Nat) : Option PortEnd :=
  if (r.served .a).contains p then some .a else if (r.served .b).contains p then some .b else none

/-- Bits of a set of positions. -/
def posBits (ps : List Nat) : Nat := ps.foldl (fun m p => m ||| 2 ^ p) 0

/-- Positions 0 to n of a bit map. -/
def Rope.positions (r : Rope) (m : Nat) : List Nat := (List.range (r.n + 1)).filter fun p => m.testBit p

/-! ## Hop delays (04 R119, 05 R146) -/

/-- d_e = RTT_H / (2 x (H + 1)), rounded to 1 ns. -/
def hopDelay (rtt : Vector Nat 33) (deep : Nat) : Nat :=
  let d := 2 * (deep + 1)
  ((rtt.toList.getD deep 0) * 2 + d) / (2 * d)

/-- Alignment criterion of a hop: |RTT_h / 2 - (h + 1) x d_e| at most 200 ns. -/
def aligned (rtt : Vector Nat 33) (d h : Nat) : Bool :=
  let x : Int := (rtt.toList.getD h 0 : Int) - 2 * ((h + 1) * d : Nat)
  decide (x.natAbs ≤ 400)

/-- Hop delay of one hop: half the difference of the round-trip times of two successive hops lies within 0.3 to 1.0 us (04 R118). -/
def hopInRange (rtt : Vector Nat 33) (h : Nat) : Bool :=
  let before := if h = 0 then 0 else rtt.toList.getD (h - 1) 0
  let x : Int := (rtt.toList.getD h 0 : Int) - before
  decide (600 ≤ x ∧ x ≤ 2000)

/-! ## Replies (04 R105, R113) -/

def replyKind (bs : List Byte) : Nat := ofBytes ((bs.drop 2).take 1) % 4
def replySrc (bs : List Byte) : Nat := ofBytes ((bs.drop 2).take 1) / 4
def replyTag (bs : List Byte) : Nat := ofBytes ((bs.drop 3).take 1)
/-- Data bytes by `KIND` (04 Table 4-3). -/
def dataLen : Nat → Nat
  | 0 => 32 | 1 => 64 | _ => 8
def replyData (bs : List Byte) : List Byte := (bs.drop 4).take (dataLen (replyKind bs))
def replyStatus (bs : List Byte) : Nat := ofBytes ((bs.drop (4 + dataLen (replyKind bs))).take 2)
def replyAcc (bs : List Byte) : Nat := ofBytes ((bs.drop (6 + dataLen (replyKind bs))).take 1) % 64

/-- A whole reply whose CRC-16 holds (04 R105, R108). -/
def replyCrcOk (bs : List Byte) : Bool :=
  bs.length = dataLen (replyKind bs) + 9 && replyKind bs ≠ 3 && bs.take 2 = [0x55#8, 0xA2#8] &&
    crc16 ((bs.drop 2).take (dataLen (replyKind bs) + 5)) = ofBytes (bs.drop (dataLen (replyKind bs) + 7))

/-- `KIND` a transaction's reply has (04 Table 4-6). -/
def kindOf : ReadKind → Nat
  | .traverse | .far | .retry | .hk => 0
  | .temp => 1
  | _ => 2

def isTraverseRead : ReadKind → Bool
  | .traverse | .far | .retry => true
  | _ => false

def isSlowRead : ReadKind → Bool
  | .temp | .hk => true
  | _ => false

/-- The `TAG` a reply must carry; none where it carries no number (04 R113). -/
def State.expectTag (s : State) (kind : ReadKind) : Option Nat :=
  if isTraverseRead kind then some (s.trav.number.getD 0 % 256)
  else if isSlowRead kind then some (s.trav.slowNumber.getD 0 % 256)
  else none

/-- What the port engine finds of a reply (04 R113, R119). -/
inductive Verdict where
  | crc | other | stale | ok
  deriving DecidableEq, Repr

def State.judgeReply (s : State) (i : Fin 40) (kind : ReadKind) (p : Nat) (bs : List Byte) : Verdict :=
  if !replyCrcOk bs then .crc
  else if replySrc bs ≠ p || replyKind bs ≠ kindOf kind then .other
  else if s.ropes[i].disqualified.testBit p then .stale
  else match s.expectTag kind with
    | some t => if replyTag bs = t && (replyStatus bs).testBit 15 then .ok else .stale
    | none => .ok

/-! ## Missing positions -/

/-- Failures count against the port at hop 0 and on a loss of line signal, else against the rope (04 R133). -/
def State.countFailure (s : State) (i : Fin 40) (e : PortEnd) (p : Nat) (line : Bool) : State :=
  if line || s.ropes[i].hop e p = 0 then s.occurrence 1 (portNo i e) else s.occurrence 2 (i.val + 1)

/-- A port can carry a far read. -/
def Port.usable (p : Port) : Bool := !p.failed

/-- Queues the far read for the positions of end `e` from hop h(p) on, behind the other port's own set (04 R127): IRQ 14. -/
def State.queueFar (s : State) (i : Fin 40) (e : PortEnd) (p : Nat) : State :=
  let r := s.ropes[i]
  let range := match e with | .a => (p, r.lastA.getD p) | .b => (r.firstB.getD p, p)
  (s.modRope i fun r => ({ r with farSent := r.farSent ||| 2 ^ e.bit }).modPort e.other fun q => { q with far := some range }).irqRaise 14

/-- A position of the traverse read is missing at its end: in RING a far read is queued once for each end (04 R127). -/
def State.noteMissing (s : State) (i : Fin 40) (e : PortEnd) (p : Nat) : State :=
  let t := s.modEnd i e fun q => { q with missing := q.missing ||| 2 ^ p }
  let r := t.ropes[i]
  if r.mode = .ring && !(r.farSent.testBit e.bit) && (r.port e.other).usable then t.queueFar i e p else t

/-! ## Recess (05 R153) -/

/-- Settle time of a corner, 0.1 ms (05 Table 5-3). -/
def settleTime : Nat → Nat
  | 0 => 4 | 1 => 13 | 2 => 48 | 3 => 189 | _ => 750

/-- Effective recess of a rope, 0.1 ms: `RECESS` or the settle time of the lowest corner in force on any monitor. -/
def State.recessOf (s : State) (i : Fin 40) : Nat :=
  ((List.range s.ropes[i].n).map fun p => settleTime (s.ropes[i].filters.toList.getD p 0)).foldl max (s.val blockObj 0x0052)

/-- Effective traverse period, us: `TRAV_PERIOD` stretched by `PAUSE` (05 R150, 16 R431, Table 16-2). -/
def State.effPeriod (s : State) : Nat :=
  let t := s.val blockObj 0x0050
  let ms_ := if s.therm.select ≠ .pause then t
    else match s.therm.level with | 0 => t | 1 => (3 * t + 1) / 2 | 2 => 2 * t | 3 => 3 * t | _ => 4 * t
  ms_ * 1000

/-- The rope is single-ended below 4 ms (04 R137): `SHORT_PERIOD`, event 0x1018. -/
def State.noteShort (s : State) (i : Fin 40) : State :=
  let r := s.ropes[i]
  let short := (r.mode = .singleA || r.mode = .singleB) && decide (s.effPeriod < 4000)
  let t := s.modRope i fun r => { r with short := short }
  if short && !r.short then t.portEvent i (if r.mode = .singleA then .a else .b) 0x1018 0 else t

/-! ## Rope modes (04 R122 to R126) -/

/-- Positions served in a mode, from A and from B, for n monitors; those of SPLIT are given (04 Table 4-10). -/
def RopeMode.serves (m : RopeMode) (n : Nat) (a b : Option Nat) : Option Nat × Option Nat :=
  match m with
  | .dark => (none, none)
  | .ring => (some (n / 2), if n / 2 + 1 ≤ n then some (n / 2 + 1) else none)
  | .split => (a, b)
  | .singleA => (some n, none)
  | .singleB => (none, some 0)

/-- Deepest hop an end serves. -/
def Rope.deepest (r : Rope) : PortEnd → Option Nat
  | .a => r.lastA
  | .b => r.firstB.map fun f => r.n - f

/-- `SET_SERVE` from an end to the positions named, with the deepest hop and the hop delay (04 Table 4-6, R115). `far` where a node
named is still served from the other end, beyond the boundary (log 130). The frame waits for the line (05 R157). -/
def State.sendServe (s : State) (i : Fin 40) (e : PortEnd) (far : Bool) (ps : List Nat) : State :=
  match ps with
  | [] => s
  | p :: rest =>
    let r := s.ropes[i]
    let load := servePayload (rest.foldl min p) (rest.foldl max p) (e = .b) ((r.deepest e).getD 0) (r.port e).delay
    (s.addCast i e ⟨far, 0x04, load, ps⟩).modEnd i e fun q => { q with sent := q.delay }

/-- New hop delays from the stored round-trip times; a node that then fails the criterion is disqualified (04 R119). -/
def State.realign (s : State) (i : Fin 40) : State :=
  s.forEach [PortEnd.a, PortEnd.b] fun s e =>
    match s.ropes[i].deepest e with
    | none => s
    | some h =>
      let rtt := (s.ropes[i].port e).rtt
      let d := hopDelay rtt h
      let t := s.modEnd i e fun p => { p with delay := d }
      let bad := (t.ropes[i].served e).filter fun p => !aligned rtt d (t.ropes[i].hop e p) && !t.ropes[i].disqualified.testBit p
      t.forEach bad fun t p =>
        (t.modRope i fun r => { r with disqualified := r.disqualified ||| 2 ^ p }).portEvent i e 0x1004 p

/-- Puts a mode in force (04 R124): `SET_SERVE` from each end to the positions whose serving end or deepest hop changes. -/
def State.serveMode (s : State) (i : Fin 40) (m : RopeMode) (a b : Option Nat) : State :=
  let old := s.ropes[i]
  let v := m.serves old.n a b
  let t := s.modRope i fun r => { r with
    mode := m, lastA := v.1, firstB := v.2, due := none, partial_ := false, restorable := false, contGood := 0, contMiss := 0, contA := none,
    contB := none, intact := false, broken := r.broken && m ≠ .ring, silent := 0 }
  let t := t.realign i
  t.forEach [PortEnd.a, PortEnd.b] fun t e =>
    let now := t.ropes[i].served e
    let new := now.filter fun p => !(old.served e).contains p
    t.sendServe i e (!new.isEmpty) (if old.deepest e = t.ropes[i].deepest e then new else now)

/-- A mode change is reported (04 R124, R137): event 0x100E with the old mode, the new mode and the boundary. The model's choice: events
0x100E, 0x1012 and 0x1017, which no port of the rope is named for, raise the interrupt of port A's group (04 R140; log 137). -/
def State.noteMode (s : State) (i : Fin 40) (old : Rope) : State :=
  let r := s.ropes[i]
  (s.noteShort i).portEvent i .a 0x100E 0 (u8 old.mode.code ++ u8 r.mode.code ++ u8 (r.lastA.getD 0xFF))

/-- A mode change at a traverse boundary (04 R124). -/
def State.setRopeMode (s : State) (i : Fin 40) (m : RopeMode) (a b : Option Nat) : State := (s.serveMode i m a b).noteMode i s.ropes[i]

/-- A rope request is refused: event 0x1014 and IRQ 123 (04 R121, R125). -/
def State.refuseRope (s : State) (i : Fin 40) (what : Nat) : State := (s.event 0x1014 (strObj i) 0 (u8 what)).irqRaise 123

/-- Marks a break: `BREAK_PRESENT`, `BREAK_SEEN` and event 0x100C with the positions on either side (04 R128). -/
def State.noteBreak (s : State) (i : Fin 40) (e : PortEnd) (near far : Option Nat) : State :=
  (s.modRope i fun r => { r with broken := true, seen := r.seen ||| 2 }).portEvent i e 0x100C 0 (u8 (near.getD 0xFF) ++ u8 (far.getD 0xFF))

/-! ## Continuity (04 R123, R126) -/

/-- The position an end checks: the first beyond its last served one (04 R123, R126). -/
def Rope.checkTarget (r : Rope) : PortEnd → Option Nat
  | .a => r.lastA.map (· + 1)
  | .b => r.firstB.map (· - 1)

/-- The ends that check continuity in the rope's mode: in RING the A end, in SPLIT the end nearer to the break, A where both are as near,
and both where positions between them are served by neither (04 R123, R126). -/
def Rope.checkers (r : Rope) : List PortEnd :=
  match r.mode, r.lastA, r.firstB with
  | .ring, some _, some _ => [.a]
  | .split, some a, some b => if a + 1 < b then [.a, .b] else if a + 1 ≤ r.n + 1 - b then [.a] else [.b]
  | _, _, _ => []

/-- A continuity check of a slow round has ended; when all of the round's have, the outcome counts. In SPLIT a reply also gives the
round-trip time of the healed hop (04 Table 4-11). -/
def State.continuityDone (s : State) (i : Fin 40) (e : PortEnd) (ok : Bool) : State :=
  let s := s.modRope i fun r => match e with | .a => { r with contA := some ok } | .b => { r with contB := some ok }
  let r := s.ropes[i]
  let outcome := match r.checkers with
    | [_] => (match e with | .a => r.contA | .b => r.contB)
    | [_, _] => (match r.contA, r.contB with | some x, some y => some (x && y) | _, _ => none)
    | _ => none
  match outcome with
  | none => s
  | some ok =>
    if r.mode = .ring then
      if ok then (s.modRope i fun r => { r with intact := true, contMiss := 0 })
      else if r.contMiss = 0 then (s.modRope i fun r => { r with intact := false, contMiss := 1 })
      else
        let t := s.modRope i fun r => { r with intact := false, contMiss := 0, broken := true, seen := r.seen ||| 2,
                                               due := some (.split, r.lastA, r.firstB) }
        t.portEvent i .a 0x1017 0 (u8 (r.lastA.getD 0xFF))
    else if !ok then (s.modRope i fun r => { r with contGood := 0, restorable := false })
    else
      let t := s.modRope i fun r => { r with contGood := r.contGood + 1 }
      if r.contGood + 1 = 10 then (t.modRope i fun r => { r with restorable := true }).portEvent i .a 0x1012 0 else t

/-- A `HOP_ECHO` reply of the deepest hop: after the four of a slow round the hop delay is formed from their mean, and sent when it moved
by 1 ns or more (05 R146). The model's choice where an echo is lost: no mean is formed in that round (log 131). Event 0x200B raises no
interrupt: neither R146 nor Table 1-8 names one (05 R171). -/
def State.echoReply (s : State) (i : Fin 40) (e : PortEnd) (p rtt : Nat) : State :=
  if s.ropes[i].deepest e ≠ some (s.ropes[i].hop e p) then s
  else
    let es := rtt :: (s.ropes[i].port e).echoes
    if es.length < 4 then (s.modEnd i e fun q => { q with echoes := es })
    else
      let h := s.ropes[i].hop e p
      let mean := meanNat es
      let d := (mean * 2 + 2 * (h + 1)) / (4 * (h + 1))
      let t := s.modEnd i e fun q => { q with echoes := es, delay := d }
      if d = (s.ropes[i].port e).sent then t
      else (t.sendServe i e false (t.ropes[i].served e)).event 0x200B (strObj i) 0 (u8 (portNo i e) ++ u16 d)

end Sys2Proof.Machine
end

