-- ==== Sys2Proof/Machine/TimeOps.lean ====
section
/-!
DEFINITION. The calendar under its sources (spec/19 R491 to R494): setting it afresh, the calendar of each source, and a change of
source at a trigger.
-/

namespace Sys2Proof.Machine

/-- The calendar counted from now on: what a slew has still to do goes on from here. -/
def State.rebase (s : State) : State :=
  if s.now < s.utcAt then s
  else
    let left : Int := (s.slewLeft : Nat)
    s.settleCalendar.modClock fun c => { c with slew := if c.slew < 0 then -left else left, slewAt := s.now }

/-- The calendar set to a time in us, with nothing left to slew. -/
def State.setCalendar (s : State) (u : Nat) : State :=
  ({ s with utcBase := u / 1000, utcAt := s.now - u % 1000 * 1000 } : State).modClock fun c => { c with slew := 0, slewAt := s.now }

/-- Seconds from the PTP timescale to UTC (19 R493): of the Announce where it is valid, else `UTC_OFFSET`. -/
def State.utcOffset (s : State) : Int := s.clock.utcOffset.getD ((s.val 0x1A00 0x0014 : Nat) : Int)

/-- Calendar time by a source, us (19 Table 19-4); the RTC carries the calendar in force (19 R494). -/
def State.sourceUs (s : State) (src : Nat) : Int :=
  match src with
  | 0 => (match s.clock.ptpBase with | some b => (b + (s.now : Int)) / 1000 - s.utcOffset * 1000000 | none => s.utcUs)
  | 1 => (match s.clock.canRef with | some (_, u, at_) => ((u * 1000 + (s.now - at_) / 1000 : Nat) : Int) | none => s.utcUs)
  | _ => s.utcUs

/-- The source becomes the RTC without a trigger (20 Table 20-4): it carries the calendar on with the uncertainty it has. -/
def State.toRtc (s : State) : State :=
  if s.clock.source = 2 then s.modClock fun c => { c with next := none, ptpSince := none, canSince := none }
  else
    let u := s.uncertainty
    (s.rebase.modClock fun c => { c with source := 2, next := none, ptpSince := none, canSince := none, set_ := true, unc := u.getD 0,
                                         uncUnknown := u.isNone, uncAt := s.now }).event 0xA010 0x1A00 0 (u8 s.clock.source ++ u8 2)

/-- A change of source takes effect at T0 (19 R492): slewed up to 10 ms, stepped beyond. -/
def State.takeSource (s : State) : State :=
  match s.clock.next with
  | none => s
  | some n =>
    let diff := s.sourceUs n - s.utcUs
    let u := s.uncertainty
    let t := s.rebase.modClock fun c => { c with
      source := n, next := none, set_ := c.set_ || decide (n ≠ 2), unc := u.getD 0, uncUnknown := u.isNone, uncAt := s.now }
    let t := if diff.natAbs ≤ 10000 then t.modClock fun c => { c with slew := diff, slewAt := s.now }
      else ((t.setCalendar (s.sourceUs n).toNat).modClock fun c => { c with steps := sat32 c.steps }).event
        0xA011 0x1A00 0 (u64 (ofSigned 64 (diff / 1000)))
    t.event 0xA010 0x1A00 0 (u8 s.clock.source ++ u8 n)

end Sys2Proof.Machine
end

