-- ==== Sys2Proof/Machine/NetOps.lean ====
section
/-!
DEFINITION. Operations of the Ethernet ports, the cell stream and the time sources (spec/19): the check and the apply of the addresses
(R484), the rate of the stream and its suspension (R489), the header and the datagrams of a set (R487, R488), the validity of the time
sources and their selection (R491, R492), and the state of the PTP port (R495, R496).
-/

namespace Sys2Proof.Machine

def ethObj : Nat := 0x1A00
def portObj (k : Fin 2) : Nat := 0x1A01 + k.val

/-! ## Addresses (19 R484) -/

/-- A mask of ones followed by zeros. -/
def maskOk (m : Nat) : Bool := (List.range 33).any fun k => m = 2 ^ 32 - 2 ^ k

/-- An address a port may have: no 0.0.0.0, 127.0.0.0/8, multicast or broadcast address, nor its subnet's first or last. -/
def addrOk (a m : Nat) : Bool :=
  decide (a ≠ 0 ∧ a / 0x1000000 ≠ 127 ∧ ¬ (0xE0 ≤ a / 0x1000000 ∧ a / 0x1000000 ≤ 0xEF) ∧ a ≠ max32) &&
    decide (a ≠ a &&& m ∧ a ≠ (a &&& m) ||| (max32 ^^^ m))

/-- The written addresses of both ports may be applied. -/
def State.ethApplyOk (s : State) : Bool :=
  let a (k : Fin 2) : Nat := s.val (portObj k) 2
  let m (k : Fin 2) : Nat := s.val (portObj k) 3
  let g (k : Fin 2) : Nat := s.val (portObj k) 4
  (List.finRange 2).all (fun k => addrOk (a k) (m k) && maskOk (m k) && (g k = 0 || (g k &&& m k) = (a k &&& m k))) &&
    (a 0 &&& m 0 &&& m 1) ≠ (a 1 &&& m 0 &&& m 1)

/-- One gratuitous ARP of a port whose link is up. -/
def State.announcePort (s : State) (k : Fin 2) : State := if s.eths[k].up then s.send (.gratuitousArp k.val) else s

/-- Puts the written addresses in force: open transfers of the ports go, event 0xA003, each port announces itself. -/
def State.ethApply (s : State) : State :=
  let t := s.modDict fun d => { d with transfers := d.transfers.filter fun x => (ethOf x.src.iface).isNone }
  let t := t.forEach (List.finRange 2) fun t k => t.modEth k fun e =>
    { e with ip := t.val (portObj k) 2, mask := t.val (portObj k) 3, gateway := t.val (portObj k) 4, conflict := false }
  (t.event 0xA003 ethObj 0).forEach (List.finRange 2) State.announcePort

/-! ## The cell stream (19 R486 to R489) -/

def State.streamOn (s : State) : Bool := s.val ethObj 0x0040 = 1

/-- Ports named in `STREAM_PORT`. -/
def State.streamPorts (s : State) : List (Fin 2) := (List.finRange 2).filter fun k => (s.val ethObj 0x0041).testBit k.val

/-- Strings of a set: installed and set in `STREAM_MAP`. -/
def State.streamStrings (s : State) : List (Fin 40) := allStr.filter fun i => s.strs[i].installed && (s.val ethObj 0x0045).testBit i.val

/-- Bytes of one set on the wire: each datagram's UDP length and 66 bytes. -/
def State.setBytes (s : State) : Nat := (s.streamStrings.map fun i => 98 + 32 * s.val (strObj i) 0x0012 + 66).foldl (· + ·) (96 + 66)

/-- Effective period times divider, us. -/
def State.setPeriod (s : State) : Nat := s.effPeriod * s.val ethObj 0x0044

/-- The rate exceeds 60 % of a link named, or such a link is down (19 R489). -/
def State.streamBlocked (s : State) : Bool :=
  s.streamPorts.any fun k => !s.eths[k].up || decide ((if s.eths[k].fast then 600 else 60) * s.setPeriod < 8 * s.setBytes)

/-- Computes the stream's rate again and suspends the stream or lets it resume (19 R489). -/
def State.noteStream (s : State) : State :=
  let t := s.modStream fun x => { x with rate := 8 * s.setBytes * 1000 / s.setPeriod }
  let block := s.streamOn && s.streamBlocked
  let t := if block && !s.stream.suspended then t.event 0xA021 ethObj 0 (u32 t.stream.rate) else t
  t.modStream fun x => { x with suspended := block, running := x.running && s.streamOn && !block, open_ := x.open_ && s.streamOn && !block }

/-- `BUF_FLAGS` of a buffer (05 Table 5-7). -/
def TravBuf.flagWord (b : TravBuf) : Nat :=
  bitAt b.complete 31 + bitAt b.published 30 + bitAt b.overrun 29 + bitAt b.dmaError 28 + bitAt b.alignError 27 + bitAt b.slowLatch 26 + bitAt b.farRead 25

/-- A string block (05 Table 5-6). -/
def StrBlock.bytes (b : StrBlock) : List Byte :=
  i32 b.iLatch ++ i32 b.iMean ++ u32 b.vString ++ i32 b.iCheck ++ u64 b.seen ++ i16 b.shunt ++ u8 b.recess ++ u8 b.flags ++ u32 0

/-- Header of a stream datagram (19 Table 19-1). -/
def streamHeader (b : TravBuf) (kind part parts divider : Nat) : List Byte :=
  u8 1 ++ u8 kind ++ u8 part ++ u8 parts ++ u32 b.number ++ u64 b.utc ++ u32 b.ns ++ u8 b.quality ++ u8 b.source ++ u16 divider ++
    u32 b.period ++ u32 b.flagWord

/-- The datagrams of the set of a buffer, head first (19 R488). -/
def State.streamSet (s : State) (b : TravBuf) : List (List Byte) :=
  let strs := s.streamStrings
  let parts := 1 + strs.length
  let div := s.val ethObj 0x0044
  let head := streamHeader b 1 0 parts div ++ (b.links.map u32).flatten ++ (b.modes.map u8).flatten ++ u64 (strs.foldl (fun m i => m + 2 ^ i.val) 0)
  head :: strs.map fun i =>
    streamHeader b 2 (i.val + 1) parts div ++ (Sparse.getD b.blocks i.val StrBlock.empty).bytes ++
      ((List.range 33).map fun p => u8 (Sparse.getD b.flags (nodeKey i p) 0)).flatten ++ u8 0 ++
      ((List.range (16 * s.val (strObj i) 0x0012)).map fun e => u16 (Sparse.getD b.cells (i.val * 1024 + e) 0)).flatten

/-! ## Time sources (19 R491, R492) -/

/-- The time sources are selected in these states; in the others the source is the RTC (20 Table 20-4). -/
def State.timeOn (s : State) : Bool :=
  s.mode.block = .standby || s.mode.block = .armed || s.mode.block = .run || s.mode.block = .service

/-- The last 16 Sync offsets all lie within 100 us. -/
def Clock.settled (c : Clock) : Bool := c.offsets.length = 16 && c.offsets.all fun o => decide (o.natAbs ≤ 100000)

def State.ptpValid (s : State) : Bool := (s.val ethObj 0x0020 ≠ 0) && s.clock.ptp = 9 && s.clock.settled

/-- A controller in `TIMETABLE` is synchronised as slave and the references carry a state other than invalid. -/
def State.canTimeValid (s : State) : Bool :=
  (s.cans.toList.any fun c => c.onBus && c.mode = 1 && c.sync && !c.master) &&
    (match s.clock.canRef with | some r => decide (r.1 / 64 ≠ 0) | none => false)

/-- Enabled and valid for the last 10 s without a break. -/
def State.sourceReady (s : State) (k : Nat) : Bool :=
  (s.val ethObj 0x0013).testBit k &&
    (match (if k = 0 then s.clock.ptpSince else s.clock.canSince) with | some t => decide (t + sec 10 ≤ s.now) | none => false)

/-- The source R492 selects. -/
def State.bestSource (s : State) : Nat := if s.sourceReady 0 then 0 else if s.sourceReady 1 then 1 else 2

/-- Selects the source: a change waits for T0 of the next trigger. -/
def State.selectSource (s : State) : State :=
  if s.timeOn && s.fwActs then s.modClock fun c => { c with next := if s.bestSource = c.source then none else some s.bestSource } else s

/-- Follows the validity of the sources; the loss of the source in force is acted on at once (19 R492). -/
def State.noteSources (s : State) : State :=
  let t := s.modClock fun c => { c with
    ptpSince := if s.ptpValid then some (c.ptpSince.getD s.now) else none,
    canSince := if s.canTimeValid then some (c.canSince.getD s.now) else none }
  if t.clock.source ≠ 2 && !t.sourceReady t.clock.source then t.selectSource else t

/-- The correction of the source in force, as a rate of at most 500 ppm (19 R492; log 31). -/
def State.steer (s : State) : State :=
  if s.clock.source = 2 then s
  else
    let diff := s.sourceUs s.clock.source - s.utcUs
    s.rebase.modClock fun c => { c with rate := clampInt (-500000) 500000 (Config.servo c.rate diff) }

/-! ## The PTP port (19 R495, R496) -/

def State.ptpRole (s : State) : Nat := s.val ethObj 0x0020
/-- The port named in `PTP_PORT`. -/
def State.ptpPort (s : State) : Fin 2 := Fin.ofNat 2 (s.val ethObj 0x0021 - 1)
def State.peerDelay (s : State) : Bool := s.val ethObj 0x0022 = 1
/-- Log2 of an interval of `PTP_INTERVALS`, signed. -/
def State.ptpLog (s : State) (k : Nat) : Int := toSigned 16 (s.val ethObj 0x0025 k)
/-- Interval in ns. -/
def State.ptpInterval (s : State) (k : Nat) : Nat :=
  let l := s.ptpLog k
  if l < 0 then sec 1 / 2 ^ l.natAbs else sec 1 * 2 ^ l.natAbs

/-- A timestamp at the MAC, ns at 8 ns resolution. -/
def macTime (t : Nat) : Nat := t / 8 * 8

/-- A timestamped message raises the port's PTP timestamp IRQ. -/
def State.stamp (s : State) : State := s.irqRaise (88 + 4 * s.ptpPort.val)

/-- The time served as master: the calendar on the PTP timescale, ns. -/
def State.ptpServed (s : State) : Int := s.utcNs + s.utcOffset * 1000000000

/-- The clock's own identity: EUI-64 of the port's MAC address (IEEE 1588). -/
def State.ptpOwn (s : State) : Nat :=
  let mac := s.ident.mac[s.ptpPort]
  ofBytes (mac.take 3 ++ u16 0xFFFE ++ mac.drop 3)

/-- Enters a state of the PTP port; what was learned of a master goes with `SLAVE` and `UNCALIBRATED`. -/
def State.ptpEnter (s : State) (st : Nat) : State :=
  if s.clock.ptp = st then s
  else
    let t := s.modClock fun c => { c with ptp := st }
    let t := if st = 9 then t
      else t.modClock fun c => { c with offsets := [], ptpBase := none, ptpDiff := none, syncWait := none, delayWait := none }
    let t := if st = 6 then (t.modClock fun c => { c with gm := s.ptpOwn, utcOffset := none, leap := 0 }).event 0xA014 ethObj 0
      else if st = 9 then t.event 0xA012 ethObj 0 else t
    t.noteSources

/-- The port starts to listen, or is off (19 R496): `PTP_ROLE`, `PTP_PORT`, `PTP_DOMAIN` or `PTP_DELAY_MECH` was written. -/
def State.ptpRestart (s : State) : State :=
  (s.ptpEnter (if s.ptpRole = 0 then 3 else 4)).modClock fun c => { c with announceAt := some s.now, gm := 0, utcOffset := none, leap := 0 }

end Sys2Proof.Machine
end

