-- ==== Sys2Proof/Machine/CanOps.lean ====
section
/-!
DEFINITION. Operations of the CAN FD controllers (spec/13): the words of the entries as the controllers read them, bit timing (R352), the
room a frame takes (R362), the timetable's conditions (R363, R367), arbitration among the objects (R360), changes of an object
(R359, R361), bus-off (R369), and entering a mode (R374).
-/

namespace Sys2Proof.Machine

/-! ## Message objects -/

/-- `MO_CFG` of object `o` (13 Table 13-5). -/
def State.moCfg (s : State) (k : Fin 3) (o : Nat) : Nat := s.val (0x1810 + k.val) (o + 1)
def State.mo (s : State) (k : Fin 3) (o : Nat) : MsgObj := Sparse.getD s.cans[k].objs o MsgObj.empty
def State.modMo (s : State) (k : Fin 3) (o : Nat) (f : MsgObj → MsgObj) : State :=
  s.modCan k fun c => { c with objs := Sparse.put c.objs o (f (Sparse.getD c.objs o MsgObj.empty)) }

def moValid (w : Nat) : Bool := w.testBit 63
def moSend (w : Nat) : Bool := w.testBit 62
def moTt (w : Nat) : Bool := w.testBit 61
def moExt (w : Nat) : Bool := w.testBit 60
def moFd (w : Nat) : Bool := w.testBit 59
def moBrs (w : Nat) : Bool := w.testBit 58
def moDlc (w : Nat) : Nat := bits w 57 54
def moIrq (w : Nat) : Bool := w.testBit 52
def moSafe (w : Nat) : Bool := w.testBit 51
def moId (w : Nat) : Nat := bits w 28 0

/-- All object numbers. -/
def allMo : List Nat := List.range 128

/-- Data length of a DLC (13 R354). -/
def dlcLen (fd : Bool) (dlc : Nat) : Nat :=
  if dlc ≤ 8 then dlc
  else if fd then (match dlc with | 9 => 12 | 10 => 16 | 11 => 20 | 12 => 24 | 13 => 32 | 14 => 48 | _ => 64)
  else 8

/-- Identifier word of a frame, as `MO_DATA` bytes 0 to 3 (13 Table 13-8). -/
def idWord (id : Nat) (ext fd brs : Bool) : Nat := id + bitAt ext 29 + bitAt fd 30 + bitAt brs 31

/-- Rank of an identifier in arbitration, lowest first: the 11 base bits, then a base frame before an extended one, then the extension. -/
def arbKey (id : Nat) (ext : Bool) : Nat := if ext then id / 2 ^ 18 * 2 ^ 19 + 2 ^ 18 + id % 2 ^ 18 else id % 2 ^ 11 * 2 ^ 19

/-! ## Bit timing and room (13 R352, R362) -/

/-- CANCLK cycles of a nominal and of a data bit. -/
def nomBit (w : Nat) : Nat := (bits w 8 0 + 1) * (bits w 24 16 + bits w 15 9 + 3)
def dataBit (w : Nat) : Nat := (bits w 18 14 + 1) * (bits w 27 23 + bits w 22 19 + 3)

/-- The checks of R352 on a pair of timings: rates from 50 kbit/s to 1 Mbit/s and to 8 Mbit/s, jump widths, quanta, reserved bits. -/
def timingOk (n d : Nat) : Bool :=
  decide (80 ≤ nomBit n ∧ nomBit n ≤ 1600) && decide (10 ≤ dataBit d ∧ dataBit d ≤ nomBit n) &&
    decide (bits n 31 25 ≤ bits n 15 9) && decide (bits d 31 28 ≤ bits d 22 19) && decide (8 ≤ bits d 27 23 + bits d 22 19 + 3) &&
    decide (1 ≤ bits n 24 16 ∧ bits n 24 16 ≤ 255) && bits d 6 0 = 0

/-- Nominal and data bits a frame reserves: K_a and K_d (13 R362). -/
def frameRoom (fd brs ext : Bool) (len : Nat) : Nat × Nat :=
  let up (n : Nat) : Nat := (5 * n + 3) / 4
  if !fd then (up ((if ext then 54 else 34) + 8 * len) + 13, 0)
  else
    let a := if ext then 58 else 36
    let d := up (5 + 8 * len) + 35
    if brs then (a, d) else (a + d, 0)

/-- Room in nominal bit times, rounded up. -/
def roomBits (nominal data : Nat) (r : Nat × Nat) : Nat := r.1 + (r.2 * dataBit data + nomBit nominal - 1) / nomBit nominal

/-- Room of an object's frame in nominal bit times. -/
def moRoom (nominal data w : Nat) : Nat := roomBits nominal data (frameRoom (moFd w) (moBrs w) (moExt w) (dlcLen (moFd w) (moDlc w)))

/-- `n` nominal bit times of a controller in ns, to the next whole one. -/
def State.bitTimes (s : State) (k : Fin 3) (n : Nat) : Nat := (n * nomBit s.cans[k].nominal * 25 + 1) / 2

/-! ## The timetable (13 R363, R364, R367) -/

def State.ttSlot (s : State) (k : Fin 3) (j : Nat) : Nat := s.val (canObj k) 0x0015 j
def slotMark (w : Nat) : Nat := bits w 31 18
def slotKind (w : Nat) : Nat := bits w 17 16
def slotObj (w : Nat) : Nat := bits w 15 9
def slotRepeat (w : Nat) : Nat := 2 ^ bits w 8 6
def slotOffset (w : Nat) : Nat := bits w 5 0
def slotActs (w cycle : Nat) : Bool := cycle % slotRepeat w = slotOffset w
/-- Exclusive and arbitrating slots send. -/
def slotSends (w : Nat) : Bool := slotKind w = 0 || slotKind w = 1

def State.ttLen (s : State) (k : Fin 3) : Nat := s.val (canObj k) 0x0010
def State.ttCycles (s : State) (k : Fin 3) : Nat := s.val (canObj k) 0x0011
def State.ttWin (s : State) (k : Fin 3) : Nat := s.val (canObj k) 0x0014
def State.refId (s : State) (k : Fin 3) : Nat := s.val (canObj k) 0x0013

/-- Used slots with their numbers. -/
def State.usedSlots (s : State) (k : Fin 3) : List (Nat × Nat) :=
  ((List.range 32).map fun j => (j, s.ttSlot k j)).filter fun p => p.2 ≠ 0

/-- A used slot names a valid object of the right direction and meets R363. -/
def State.slotOk (s : State) (k : Fin 3) (w : Nat) : Bool :=
  let c := s.moCfg k (slotObj w)
  decide (1 ≤ slotMark w) && decide (slotOffset w < slotRepeat w ∧ slotRepeat w ≤ s.ttCycles k) &&
    (slotKind w = 2 || (moValid c && (moSend c == slotSends w)))

/-- Two slots that act in a common basic cycle. -/
def State.slotsMeet (s : State) (k : Fin 3) (v w : Nat) : Bool := (List.range (s.ttCycles k)).any fun c => slotActs v c && slotActs w c

/-- The conditions of R367 for a write of `TIMETABLE`, with the bit timing the write puts in force. -/
def State.ttOk (s : State) (k : Fin 3) : Bool :=
  let n := s.val (canObj k) 3
  let d := s.val (canObj k) 4
  let slots := s.usedSlots k
  let room (w : Nat) : Nat := s.ttWin k + moRoom n d (s.moCfg k (slotObj w))
  ([1, 2, 4, 8, 16, 32, 64].contains (s.ttCycles k)) && decide (256 ≤ s.ttLen k ∧ s.ttLen k ≤ 16383) &&
    (slots.all fun p => s.slotOk k p.2) &&
    (allMo.all fun o => let c := s.moCfg k o
      !(moValid c && moSend c && moTt c) || slots.any fun p => slotSends p.2 && slotObj p.2 = o) &&
    (slots.all fun p => !slotSends p.2 || (decide (slotMark p.2 + room p.2 ≤ s.ttLen k) &&
      slots.all fun q => !(decide (slotMark p.2 < slotMark q.2) && s.slotsMeet k p.2 q.2) || decide (slotMark p.2 + room p.2 ≤ slotMark q.2))) &&
    (slots.all fun p => decide (roomBits n d (frameRoom false false ((s.refId k).testBit 29) 8) + s.ttWin k ≤ slotMark p.2)) &&
    (slots.all fun p => slots.all fun q => p.1 = q.1 || slotMark p.2 ≠ slotMark q.2 || !s.slotsMeet k p.2 q.2 ||
      (slotKind p.2 = 1 && slotKind q.2 = 1))

/-- The controller runs its timetable: none in base camp (20 Table 20-4). -/
def State.ttRuns (s : State) (k : Fin 3) : Bool :=
  let c := s.cans[k]
  c.onBus && c.mode = 1 && (c.bus = .active || c.bus = .passive) && s.mode.block ≠ .baseCamp

/-- Next mark of the basic cycle after the last one acted on; the cycle's length where none is left. -/
def State.nextMark (s : State) (k : Fin 3) : Nat :=
  let c := s.cans[k]
  (((s.usedSlots k).filter fun p => slotActs p.2 c.cycle && decide (c.mark < slotMark p.2)).map fun p => slotMark p.2).foldl min (s.ttLen k)

/-! ## Sending (13 R359 to R361) -/

/-- The object on the bus, 128 for the dictionary's buffer, 129 for the device's own reference. -/
def State.onWire (s : State) (k : Fin 3) : Option Nat :=
  if s.cans[k].dictActive then some 128 else if s.cans[k].refActive then some 129 else allMo.find? fun o => (s.mo k o).active

/-- Sets a send object's data and DLC (13 R359). -/
def State.setMoData (s : State) (k : Fin 3) (o : Nat) (d : List Byte) : State :=
  let w := s.moCfg k o
  let dlc := ((d.getD 4 0x00#8).toNat) % 16
  (s.modMo k o fun m => { m with data := d, next := none }).setVal (0x1810 + k.val) (o + 1) 0 (w - moDlc w * 2 ^ 54 + dlc * 2 ^ 54)

/-- Writes a send object's data, at once or when the transmission in progress ends (13 R359). -/
def State.writeMo (s : State) (k : Fin 3) (o : Nat) (d : List Byte) : State :=
  if (s.mo k o).active then s.modMo k o fun m => { m with next := some d } else s.setMoData k o d

/-- Data that waited for the end of a transmission take their place. -/
def State.settleMo (s : State) (k : Fin 3) (o : Nat) : State :=
  match (s.mo k o).next with
  | some d => s.setMoData k o d
  | none => s

/-- Ends an object as cancelled (13 R361): event 0x8008. -/
def State.cancelled (s : State) (k : Fin 3) (o : Nat) : State :=
  (s.modMo k o fun m => { m with pending := false, cancelReq := false, cancelled := true }).canEvent k 0x8008 o

/-- Cancels a pending transmission (13 R361): at once, or at the end of the frame on the bus. -/
def State.cancelMo (s : State) (k : Fin 3) (o : Nat) : State :=
  let m := s.mo k o
  if m.active then s.modMo k o fun m => { m with cancelReq := true }
  else if m.pending then s.cancelled k o
  else s

/-- Makes an event-driven object pending (13 R359, R372). -/
def State.requestMo (s : State) (k : Fin 3) (o : Nat) : State :=
  if (s.mo k o).clashOff then s else s.modMo k o fun m => { m with pending := true }

/-- Identifier and format of an offered frame: an object's, or the dictionary's next one. -/
def State.offerKey (s : State) (k : Fin 3) (o : Nat) : Nat :=
  if o = 128 then (match s.cans[k].dictOut with | f :: _ => arbKey f.1 true | [] => 2 ^ 32) else arbKey (moId (s.moCfg k o)) (moExt (s.moCfg k o))

/-- Room of an offered frame in nominal bit times, under the timing in force. -/
def State.offerRoom (s : State) (k : Fin 3) (o : Nat) : Nat :=
  let c := s.cans[k]
  if o = 128 then
    (match c.dictOut with
    | f :: _ => roomBits c.nominal c.dataRate (frameRoom true true true
        (dlcLen true (((List.range 16).find? fun d => decide (f.2.length ≤ dlcLen true d)).getD 15)))
    | [] => 0)
  else moRoom c.nominal c.dataRate (s.moCfg k o)

/-- The frame that wins among several: the best identifier, the lower number where two are equal. -/
def State.winner (s : State) (k : Fin 3) (os : List Nat) : Option Nat :=
  os.foldl (fun best o => match best with
    | none => some o
    | some b => if s.offerKey k o < s.offerKey k b then some o else some b) none

/-! ## Counters and states (13 R366, R369, R370, R374) -/

/-- The timetable stops (13 R369, R374). -/
def State.stopTimetable (s : State) (k : Fin 3) : State :=
  (s.modCan k fun c => { c with sync := false, master := false, backup := false, freeWindow := false, refOut := none, refActive := false }).noteSources

/-- The bus state that the error counters call for. -/
def Can.byCounters (c : Can) : BusState := if 128 ≤ c.tec || 128 ≤ c.rec_ then .passive else .active

/-- Enters bus-off (13 R369): an object on the bus, a slot's too, goes back to pending unless it was cancelled, and the safe-message path sees it (12 R345). -/
def State.enterBusOff (s : State) (k : Fin 3) : State :=
  let t := s.forEach (allMo.filter fun o => (s.mo k o).active) fun t o =>
    let m := t.mo k o
    let t := (t.modMo k o fun m => { m with active := false, oneShot := false, pending := !m.cancelReq }).settleMo k o
    if m.cancelReq then t.cancelled k o else t
  let t := t.modCan k fun c => { c with bus := .busOff, busOffAt := s.now, dictActive := false, seen := c.seen ||| 2, counts := upd c.counts 10 sat32 }
  let t := (t.stopTimetable k).canEvent k 0x8003
  if h : k.val < 2 then t.smBusOff ⟨k.val, h⟩ else t

/-- Enters a mode (13 R374): off the bus, pending bit timing and node number in force, `CFG_PENDING` cleared, then integration,
whose end raises event 0x800C. -/
def State.enterMode (s : State) (k : Fin 3) (mode : Nat) : State :=
  let t := s.stopTimetable k
  t.modCan k fun c => { c with
    onBus := true, mode := mode, modeNext := none, node := t.val (canObj k) 2, nominal := t.val (canObj k) 3, dataRate := t.val (canObj k) 4,
    cfgPending := false, bus := .integrating, mark := 0, refAt := 0, announce := true }

/-- Applies a mode that waited for the end of the frame in progress; a mode written while bus-off waits for the recovery (13 R374). -/
def State.takeMode (s : State) (k : Fin 3) : State :=
  match s.cans[k].modeNext with
  | some m => if s.cans[k].bus = .busOff || (s.onWire k).isSome then s else s.enterMode k m
  | none => s

end Sys2Proof.Machine
end

