-- ==== Sys2Proof/Machine/LinkOps.lean ====
section
/-!
DEFINITION. The port engines' use of their line (spec/04 R112, R113, R115, R126, R127, R129, spec/05 R146, R157, R160, spec/06 R175 to R180):
what each end has to send, in the order of priority of R157, when a transaction may start, and the frames of the commands without a reply.
Decisions fall where a port's transaction ends and where a far read is queued (log 132).
-/

namespace Sys2Proof.Machine

/-! ## Settings the nodes are sent -/

/-- Base-camp fields of `SET_CONFIG` (06 Table 6-3): voltages in 5 mV units, the upper rounded down, the lower up. -/
def State.campFields (s : State) : Nat :=
  s.val blockObj 0x0071 % 4096 * 2 ^ 20 + s.val blockObj 0x0072 / 50 % 1024 * 2 ^ 10 + (s.val blockObj 0x0073 + 49) / 50 % 1024

/-- Communication-loss timeout sent to the monitors, 100 ms: the larger of 22ss.001A and twice the effective period (04 R136). -/
def State.commTimeout (s : State) (i : Fin 40) : Nat := max (s.val (strObj i) 0x001A) ((2 * s.effPeriod + 99999) / 100000)

/-- A broadcast without a reply from every serving end, for the nodes it serves; it waits for the line (05 R157). -/
def State.broadcast (s : State) (i : Fin 40) (code : Nat) (payload : List Byte) : State :=
  s.forEach [PortEnd.a, PortEnd.b] fun t e =>
    let ps := t.ropes[i].served e
    if ps.isEmpty then t else t.addCast i e ⟨false, code, payload, ps⟩

/-- `SET_CONFIG` to every node of a rope (04 R136, 06 R182). -/
def State.broadcastConfig (s : State) (i : Fin 40) : State := s.broadcast i 0x32 (configPayload (s.commTimeout i) s.campFields)

/-- `BASE_CAMP` with `ENTER` (06 Table 6-4): `BC_T_HIGH` rounded down to 1 degC. -/
def State.broadcastCamp (s : State) (i : Fin 40) : State := s.broadcast i 0x40 (campPayload (toSigned 16 (s.val blockObj 0x0074) / 10) 1)

/-! ## Masks and marks (06 R175, R177, R179) -/

def State.monitorsOf (s : State) (i : Fin 40) : List Nat := (List.range s.ropes[i].n).map (· + 1)

/-- Mask last formed for a monitor, and the one in force. -/
def State.sentMask (s : State) (i : Fin 40) (p : Nat) : Nat := Sparse.getD s.bal.sent (nodeKey i p) 0
def State.activeMask (s : State) (i : Fin 40) (p : Nat) : Nat := Sparse.getD s.bal.active (nodeKey i p) 0

/-- A channel (0 to 15) whose test is deferred: it and a neighbour balance (06 R180). -/
def deferredBy (mask j : Nat) : Bool := mask.testBit j && ((decide (1 ≤ j) && mask.testBit (j - 1)) || (decide (j < 15) && mask.testBit (j + 1)))

/-- Notes since when the tests that are due at a position are deferred by the masks in force, and ends the notes of the others (06 R180). -/
def State.noteDeferred (s : State) (i : Fin 40) (p : Nat) : State :=
  let due := Sparse.getD s.bal.owDue (nodeKey i p) 0
  s.forEach (List.range 16) fun t j =>
    let key := nodeKey i p * 16 + j
    if due.testBit j && deferredBy (t.activeMask i p) j then
      (if (Sparse.get? t.bal.deferred key).isSome then t else t.modBal fun b => { b with deferred := Sparse.put b.deferred key s.now })
    else t.modBal fun b => { b with deferred := Sparse.del b.deferred key }

/-! ## Transactions (04 Table 4-6) -/

/-- A transaction a port may start: its frame, and the positions it awaits in slot order; a `quiet` one has no reply, and its positions are
those of the nodes that count it. -/
structure Job where
  kind : ReadKind
  far : Bool
  code : Nat
  addr : Nat
  payload : List Byte
  ps : List Nat
  quiet : Bool
  deriving DecidableEq, Repr

/-- A command addressed to one position. -/
def Job.at_ (kind : ReadKind) (code p : Nat) (payload : List Byte) (far : Bool := false) : Job := ⟨kind, far, code, p, payload, [p], false⟩

/-- A range command to the positions named, in hop order from the sending end. -/
def Rope.rangeJob (r : Rope) (e : PortEnd) (kind : ReadKind) (far : Bool) (code : Nat) (ps : List Nat) : Job :=
  ⟨kind, far, code, 0x3F, pairPayload (r.hop e (ps.headD 0)) (r.hop e (ps.getLastD 0)), ps, false⟩

/-- A waiting command without a reply as a job of its port. -/
def Cast.job (c : Cast) : Job := ⟨.setConfig, c.far, c.code, 0x3F, c.payload, c.nodes, true⟩

/-- Positions `a` to `b` in the hop order of an end. -/
def inHopOrder (e : PortEnd) (a b : Nat) : List Nat :=
  let ps := (List.range (b + 1)).filter fun p => decide (a ≤ p)
  match e with | .a => ps | .b => ps.reverse

/-- t_F of a slotted command, 1 us of an immediate one (04 R112). -/
def firstDelay : ReadKind → Nat
  | .continuity | .echo => us 1
  | _ => us 10

/-- Bytes of a reply (04 Table 4-3), 1 us each. -/
def replyLen (kind : ReadKind) : Nat := dataLen (kindOf kind) + 9

/-- Round-trip time to a position from an end, as stored (04 R117). -/
def Rope.rttTo (r : Rope) (e : PortEnd) (p : Nat) : Nat := (r.port e).rtt.toList.getD (r.hop e p) 0

/-- Expected end of a transaction that starts at `start`, with 4 us of margin where a reply is due (04 R113, 05 R157). -/
def Rope.jobEnd (r : Rope) (e : PortEnd) (j : Job) (start : Nat) : Nat :=
  if j.quiet then start + us (7 + j.payload.length)
  else start + us (7 + j.payload.length) + firstDelay j.kind + us (42 * (j.ps.length - 1)) + us (replyLen j.kind) +
    (j.ps.map (r.rttTo e)).foldl max 0 + us 4

/-- Start of the recess before the next alignment instant. -/
def State.recessAt (s : State) (i : Fin 40) : Nat := s.nextDue - (s.ropes[i].recess * 100000 + us 2)

/-- A transaction may start: it ends 20 us before the next alignment instant (05 R157), and an `OPEN_WIRE` is acknowledged 300 us before
the next recess (06 R179). -/
def State.jobFits (s : State) (i : Fin 40) (e : PortEnd) (start : Nat) (j : Job) : Bool :=
  let ends := s.ropes[i].jobEnd e j start
  (!s.trav.running || decide (ends + us 20 ≤ s.nextDue)) && (match j.kind with | .openWire _ => decide (ends + us 300 ≤ s.recessAt i) | _ => true)

/-! ## What an end has to send, by priority (05 R157) -/

/-- Positions of an end whose retry is still due: isolated, on a rope that takes retries, with no far read queued (04 R127, R137). -/
def Rope.retriesDue (r : Rope) (e : PortEnd) : List Nat :=
  let m := (r.port e).missing
  if r.short || r.farSent.testBit e.bit then []
  else (r.served e).filter fun p => m.testBit p && !r.retried.testBit p && !m.testBit (p + 1) && !(decide (1 ≤ p) && m.testBit (p - 1))

/-- 1: the far read queued on the port, then retries. -/
def Rope.farJobs (r : Rope) (e : PortEnd) : List Job :=
  match (r.port e).far with
  | some g => [r.rangeJob e .far true 0x11 (inHopOrder e g.1 g.2)]
  | none => (r.retriesDue e).map fun p => r.rangeJob e .retry false 0x11 [p]

/-- A mask may be sent to a position: its serving end reached it in the last traverse where a break awaits its new serving ends
(06 R178), and the rope is not dark. -/
def Rope.maskable (r : Rope) (e : PortEnd) (p : Nat) : Bool := decide (1 ≤ p) && (r.due.isNone || (r.port e).accepted.testBit p) && r.mode ≠ .dark

/-- Requested corner of a position (05 R156). -/
def State.cornerOf (s : State) (i : Fin 40) (p : Nat) : Nat := s.val (strObj i) 0x0020 (p - 1)

/-- The mask a monitor is sent again: one that still waits to be sent, else the mask in force, 0 in OFF (04 R115, 06 R178). -/
def State.maskAgain (s : State) (i : Fin 40) (p : Nat) : Nat :=
  if s.ropes[i].maskDue.testBit p then s.sentMask i p else if s.bal.mode = 0 then 0 else s.activeMask i p

/-- 3: the settings of a node that was classified, and of every node after a roll call (04 R115, R117, 06 R178). -/
def State.resendJobs (s : State) (i : Fin 40) (e : PortEnd) : List Job :=
  let r := s.ropes[i]
  (r.served e).flatMap fun p =>
    (if r.resendMask.testBit p && r.maskable e p then
      [Job.at_ (.setBalance (s.maskAgain i p)) 0x30 p (u16 (s.maskAgain i p))] else []) ++
    (if r.resendFilter.testBit p then [Job.at_ (.setFilter (s.cornerOf i p)) 0x31 p (pairPayload (s.cornerOf i p) 0)] else []) ++
    (if r.resendConfig.testBit p then [Job.at_ .setConfig 0x32 p (configPayload (s.commTimeout i) s.campFields)] else [])

/-- 4: masks formed and not yet sent. -/
def State.maskJobs (s : State) (i : Fin 40) (e : PortEnd) : List Job :=
  let r := s.ropes[i]
  ((r.served e).filter fun p => r.maskDue.testBit p && r.maskable e p).map fun p =>
    Job.at_ (.setBalance (s.sentMask i p)) 0x30 p (u16 (s.sentMask i p))

/-- 5: the slow-round reads, `READ_TEMP` hop by hop and then `READ_HK` (05 R160). -/
def Rope.slowJobs (r : Rope) (e : PortEnd) : List Job :=
  let mine := (r.served e).filter fun p => decide (1 ≤ p)
  ((mine.filter fun p => !r.tempNow.testBit p && !r.tempMissing.testBit p).map fun p => r.rangeJob e .temp false 0x20 [p]) ++
    (match mine.filter fun p => !r.hkNow.testBit p && !r.hkMissing.testBit p with | [] => [] | ps => [r.rangeJob e .hk false 0x21 ps])

/-- 6: `CONTINUITY` and the four `HOP_ECHO` of the slow round (04 R123, R126, 05 R146, R160). -/
def Rope.checkJobs (r : Rope) (e : PortEnd) : List Job :=
  (match r.checkTarget e with
    | some p => if r.checkers.contains e && !r.contSent.testBit e.bit then [Job.at_ .continuity 0x05 p [] true] else []
    | none => []) ++
  (if (r.port e).echoSent < 4 then ((r.served e).getLast?.toList).map fun p => Job.at_ .echo 0x03 p [] else [])

/-- 7: corners that differ from the one in force (05 R156), and open-wire tests of channels that are due and not deferred (06 R179, R180). -/
def State.lastJobs (s : State) (i : Fin 40) (e : PortEnd) : List Job :=
  let r := s.ropes[i]
  let mine := (r.served e).filter fun p => decide (1 ≤ p)
  ((mine.filter fun p => s.cornerOf i p ≠ r.filters.toList.getD (p - 1) 0 && !r.filterTried.testBit p).map fun p =>
      Job.at_ (.setFilter (s.cornerOf i p)) 0x31 p (pairPayload (s.cornerOf i p) 0)) ++
    mine.flatMap fun p =>
      let due := Sparse.getD s.bal.owDue (nodeKey i p) 0
      ((List.range 16).filter fun j => due.testBit j && !deferredBy (s.activeMask i p) j).map fun j => Job.at_ (.openWire (2 ^ j)) 0x22 p (u16 (2 ^ j))

/-- 2 and 7: the waiting `SET_SERVE`, and the other waiting commands without a reply. -/
def Rope.castJobs (r : Rope) (e : PortEnd) (serve : Bool) : List Job :=
  ((r.port e).casts.filter fun c => decide (c.code = 0x04) = serve).map Cast.job

/-- What an end has to send, the first of each priority first; with no traverse running only commands without a reply. Firmware's own
commands wait while it does not act. -/
def State.jobs (s : State) (i : Fin 40) (e : PortEnd) : List Job :=
  let r := s.ropes[i]
  if !s.trav.running then r.castJobs e true ++ r.castJobs e false
  else
    r.farJobs e ++ r.castJobs e true ++ (if s.fwActs then s.resendJobs i e ++ s.maskJobs i e else []) ++
      (if s.trav.slowNumber.isSome then r.slowJobs e ++ r.checkJobs e else []) ++ r.castJobs e false ++ (if s.fwActs then s.lastJobs i e else [])

/-- A `READ_HK` range is cut where the full range would not fit (05 R157). -/
def State.cutJob (s : State) (i : Fin 40) (e : PortEnd) (start : Nat) (j : Job) : Job :=
  if j.kind = .hk then
    let r := s.ropes[i]
    match ((List.range j.ps.length).reverse.map fun k => r.rangeJob e .hk false 0x21 (j.ps.take (k + 1))).find? (s.jobFits i e start) with
    | some c => c
    | none => j
  else j

/-! ## Starting (04 R113, R115) -/

/-- What sending a transaction's command leaves noted, by its kind. -/
def State.noteSent (s : State) (i : Fin 40) (e : PortEnd) (j : Job) : State :=
  let p := j.ps.headD 0
  let off (m : Nat) : Nat := clearBits m (2 ^ p)
  if j.quiet then s.modEnd i e fun q => { q with casts := q.casts.erase ⟨j.far, j.code, j.payload, j.ps⟩ }
  else match j.kind with
  | .far =>
    let t := s.modRope i fun r => { r with farNow := true }
    let t := t.modTrav fun v => { v with bufs := upd v.bufs (Fin.ofNat 8 (v.number.getD 0)) fun b => { b with farRead := true } }
    (t.modEnd i e fun q => { q with far := none }).portStat i e 7
  | .retry => s.modRope i fun r => { r with retried := r.retried ||| 2 ^ p, retryNow := true }
  | .setBalance _ => s.modRope i fun r => { r with resendMask := off r.resendMask, maskDue := off r.maskDue }
  | .setFilter _ => s.modRope i fun r => { r with resendFilter := off r.resendFilter, filterTried := r.filterTried ||| 2 ^ p }
  | .setConfig => s.modRope i fun r => { r with resendConfig := off r.resendConfig }
  | .continuity => s.modRope i fun r => { r with contSent := r.contSent ||| 2 ^ e.bit }
  | .echo => s.modEnd i e fun q => { q with echoSent := q.echoSent + 1 }
  | .openWire m => s.modBal fun b => { b with owDue := Sparse.put b.owDue (nodeKey i p) (clearBits (Sparse.getD b.owDue (nodeKey i p) 0) m) }
  | .traverse | .temp | .hk => s

/-- A transaction closes the belay logic's traverse window 5 us after it starts, far reads and retries aside (11 R291). -/
def Port.closeWindow (q : Port) (kind : ReadKind) (start : Nat) : Port :=
  if isTraverseRead kind || q.windowEnd.isSome then q else { q with windowEnd := some (start + us 5) }

/-- Starts a transaction: its frame goes out, its nodes count one command, and its replies are expected (04 R113, R115, Table 4-16); after a
command without a reply the line is free 1 us later (04 Table 4-1). -/
def State.startJob (s : State) (i : Fin 40) (e : PortEnd) (start : Nat) (j : Job) : State :=
  let t := ((s.noteSent i e j).sendFrame i e j.far j.code j.addr j.payload).predict i j.ps
  if j.quiet then t.modEnd i e fun q => ({ q with free := start + us (8 + j.payload.length) } : Port).closeWindow j.kind start
  else (t.portStat i e 1 j.ps.length).modEnd i e fun q =>
    ({ q with txn := some { kind := j.kind, due := j.ps.zip (List.range j.ps.length), end_ := start + us (7 + j.payload.length),
                            first := firstDelay j.kind } } : Port).closeWindow j.kind start

/-- The port starts its next transaction where its line is free (05 R157): the first in priority, where it fits before the next trigger.
A far read that does not fit is given up (04 R129), and a retry is passed over. Commands without a reply go out in turn, `n` bounds them. -/
def State.runLine (i : Fin 40) (e : PortEnd) : Nat → State → State
  | 0, s => s
  | n + 1, s =>
  let q := s.ropes[i].port e
  let start := max q.free s.now
  if q.txn.isSome || q.failed || s.ropes[i].rollCall = 1 then s
  else
    let s := match s.ropes[i].farJobs e with
      | j :: _ => if j.kind = .far && !s.jobFits i e start j then (s.modEnd i e fun q => { q with far := none }) else s
      | [] => s
    match (s.jobs i e).filter fun j => j.kind ≠ .retry || s.jobFits i e start j with
    | [] => s
    | j :: _ =>
      let j := s.cutJob i e start j
      if !s.jobFits i e start j then s
      else if j.quiet then State.runLine i e n (s.startJob i e start j)
      else s.startJob i e start j

def State.runPort (s : State) (i : Fin 40) (e : PortEnd) : State := State.runLine i e ((s.ropes[i].port e).casts.length + 1) s

/-- The ports of a rope take up what they have to send. -/
def State.runRope (s : State) (i : Fin 40) : State := (s.runPort i .a).runPort i .b

/-! ## Replies due (04 R113) -/

/-- The latest instant at which the sync byte of a position's reply may begin: E_h + 4 us. -/
def State.deadline (s : State) (i : Fin 40) (e : PortEnd) (p : Nat) : Nat :=
  match (s.ropes[i].port e).txn with
  | some t => t.end_ + t.first + us (42 * ((t.due.find? fun d => d.1 = p).map Prod.snd).getD 0) + s.ropes[i].rttTo e p + us 4
  | none => 0

/-- The ports take frames: in base camp they only detect wake tones, until the exit begins (02 R67, 06 R187). -/
def State.portsOn (s : State) : Bool := s.mode.block ≠ .baseCamp || s.bal.exiting

/-- The port awaits this reply. Far reads and retries stop 20 us before the next trigger (04 R129). -/
def State.expects (s : State) (i : Fin 40) (e : PortEnd) (kind : ReadKind) (p : Nat) : Bool :=
  let r := s.ropes[i]
  let q := r.port e
  s.portsOn && s.strs[i].installed && !q.failed && r.rollCall ≠ 1 &&
  match q.txn with
  | some t => t.kind = kind && (t.due.any fun d => d.1 = p) && (!(kind = .far || kind = .retry) || decide (s.now + us 20 < s.nextDue))
  | none => false

/-- A reply has come or is missing: with the last one the line is free 1 us later (04 Table 4-1). -/
def State.endReply (s : State) (i : Fin 40) (e : PortEnd) (p free : Nat) : State :=
  s.modEnd i e fun q =>
    match q.txn with
    | none => q
    | some t =>
      match t.due.filter fun d => d.1 ≠ p with
      | [] => { q with txn := none, free := free }
      | ds => { q with txn := some { t with due := ds } }

end Sys2Proof.Machine
end

