-- ==== Sys2Proof/Machine/RollCall.lean ====
section
/-!
DEFINITION. Meanings of the rope commands of the master (spec/04 R117 to R125, R134, R135, R138): roll call, rope modes, spare PHYs,
and the counters' clear.
-/

namespace Sys2Proof.Machine

/-! ## Outcome of an end (04 R118) -/

/-- Part code of hop `h` of an end (04 R118). -/
def partAt (n : Nat) (e : PortEnd) (h : Nat) : Nat := if (match e with | .a => h | .b => n - h) = 0 then 0x41 else 0x42

/-- Why a hop fails a roll call, in the order of Table 4-15; 0 where it does not. A hop without a node, and a node beyond hop n, fail the
count; the alignment is judged where every node replied. -/
def hopFailure (n : Nat) (e : PortEnd) (nodes : List RollNode) (rtt : Vector Nat 33) (h : Nat) : Nat :=
  if n < h then 1
  else
    match nodes[h]? with
    | none => 1
    | some x =>
      if x.part ≠ partAt n e h then 2
      else if !hopInRange rtt h then 3
      else if n < nodes.length && !aligned rtt (hopDelay rtt n) h then 4
      else 0

/-- How an end ends its roll call: first failing hop and cause (04 R118, Table 4-15); none on a pass. The model's choice: a port out of
service has hop 0 (log 173). -/
def rollOutcome (n : Nat) (failed : Bool) (e : PortEnd) (nodes : List RollNode) (rtt : Vector Nat 33) : Option (Nat × Nat) :=
  if failed then some (0, 6)
  else
    ((List.range (max (n + 1) (min nodes.length (n + 2)))).find? fun h => hopFailure n e nodes rtt h ≠ 0).map fun h =>
      (h, hopFailure n e nodes rtt h)

/-- Round-trip times of an end's nodes in hop order. -/
def rttOf (nodes : List RollNode) : Vector Nat 33 := Vector.ofFn fun h : Fin 33 => (nodes.map RollNode.rtt).getD h.val 0

/-- The highest `SRC` of the replies of a roll call (11 R292). -/
def highestSrc (nodes : List RollNode) : Nat := (nodes.map fun x => min 32 x.src).foldl max 0

/-- The cross-check of R118: both ends report the same serial numbers in reverse order, and every node's position and B-hop add up to n. -/
def serialsAgree (a b : List RollNode) : Bool :=
  a.map RollNode.serial = (b.map RollNode.serial).reverse && b.zipIdx.all fun x => x.1.src + x.2 + 1 = b.length

/-- A string at the end of its start-up roll call (03 R87, 09 R244): ISOLATED, or TRIPPED with cause ROLL_CALL; an excluded one stays. -/
def State.placeString (s : State) (i : Fin 40) (pass : Bool) : State :=
  if s.strs[i].exclusion then s
  else if pass then
    (if s.strs[i].lockout then s.setStr i .lockedOut s.strs[i].lockoutCause
     else if s.strs[i].trip then s.setStr i .tripped s.strs[i].tripCause else s.setStr i .isolated)
  else s.tripStr i [0x09]

/-- A string leaves EXCLUDED after the roll call its `EXCLUDE` 0x00 started (09 R247, Table 9-2). -/
def State.endExclusion (s : State) (i : Fin 40) (pass : Bool) : State :=
  let t := s.modStr i fun c => { c with excludeCall := false }
  if !pass then t
  else
    let t := ((t.modStr i fun c => { c with exclusion := false }).setVal (strObj i) 0x0009 0 0).setCount i 0
    match t.strs[i].stored with
    | some c =>
      (t.modStr i fun x => { x with lockout := true, lockoutCause := c, lockoutSet := x.lockoutSet ||| 2 ^ c }).setStr i .lockedOut c
    | none => if t.strs[i].trip then t.setStr i .tripped else t.setStr i .isolated

/-- What a roll call leaves in the rope, its mode aside: results, round-trip times, counts and predictions; disqualification ends
with it (04 R117 to R120). `NOP` has unassigned every node, and each is to be sent `SET_FILTER` and `SET_CONFIG` (step 7; log 136). -/
def Rope.afterRoll (r : Rope) (a b : List RollNode) (pass : Bool) (fail : Option (Nat × Nat)) (mode : RopeMode) : Rope :=
  let byPos (p : Nat) : Option RollNode := (a[p]? <|> (if p ≤ r.n then b[r.n - p]? else none))
  let lastAcc (p : Nat) : Nat := match (if p ≤ r.n then b[r.n - p]? else none) with
    | some x => x.acc
    | none => match a[p]? with | some x => x.acc | none => 0
  { r with
    rollCall := if pass then 2 else 3, rollMode := some mode,
    result := min a.length 255 * 0x1000000 + min b.length 255 * 0x10000 + (match fail with | some f => f.1 * 256 + f.2 | none => 0xFF00),
    portA := { r.portA with rtt := rttOf a, echoes := [], far := none }, portB := { r.portB with rtt := rttOf b, echoes := [], far := none },
    lastA := none, firstB := none, disqualified := 0, due := none, partial_ := false, contMiss := 0, contGood := 0, broken := false, silent := 0,
    resendMask := 0, resendFilter := posBits (List.range (r.n + 1)), resendConfig := posBits (List.range (r.n + 1)),
    stopped := 0, hot := 0, predicted := Vector.ofFn fun p : Fin 33 => lastAcc p.val,
    wake := posBits ((List.range (r.n + 1)).filter fun p => (byPos p).any RollNode.wake),
    h1First := true, settle := [] }

/-- 16 `HOP_ECHO` to each node that answered, in hop order (04 R117). -/
def State.sendEchoes (s : State) (i : Fin 40) (e : PortEnd) (far : Bool) (count : Nat) : State :=
  s.forEach (List.range count) fun t h => t.forEach (List.range 16) fun t _ => t.sendFrame i e far 0x03 (t.ropes[i].hop e h) []

/-- An end's part of a roll call (04 R117, Table 4-16): with `frame` its `ROLL_CALL_A` or `ROLL_CALL_B` goes out first, then the echoes of each
node that answered; one reply is due from each of n + 1 nodes and one to each echo. -/
def State.rollEnd (s : State) (i : Fin 40) (e : PortEnd) (frame far : Bool) (nodes : List RollNode) : State :=
  if (s.ropes[i].port e).failed then s
  else
    let k := 16 * nodes.length
    let t := if frame then s.sendFrame i e far (rollCode e) 0x3F (pairPayload 0 0) else s
    let t := ((t.sendEchoes i e far nodes.length).portStat i e 1 (s.ropes[i].n + 1 + k)).portStat i e 2 (nodes.length + k)
    (t.portStat i e 4 (s.ropes[i].n + 1 - nodes.length)).modEnd i e fun q => { q with free := max q.free (s.now + us 1) }

/-- After the current traverse buffer is complete and before the next trigger (04 R124); also while no traverse runs. -/
def State.atBoundary (s : State) : Bool :=
  !s.trav.running ||
  match s.trav.number with
  | none => true
  | some n => s.trav.bufs[Fin.ofNat 8 n].complete

/-- The mode a roll call has found comes into force (04 R120, R124). -/
def State.takeRoll (s : State) (i : Fin 40) : State :=
  match s.ropes[i].rollMode with
  | none => s
  | some m =>
    let t := (s.modRope i fun r => { r with rollMode := none }).serveMode i m none none
    (if s.ropes[i].mode = m then t else t.noteMode i s.ropes[i]).runRope i

/-- `ROLL_CALL_COMPLETE` (04 R117 to R120, 03 R87, 06 R187, 09 R247): `a` and `b` are the nodes that replied to each end, in hop order. The
mode comes into force at a traverse boundary (04 R124). The model's choice: where both ends fail, `FAIL_HOP` and `CAUSE` are those of the A end,
and those of one failing end stand also where the other one passes (log 173). -/
def State.rollCallEnds (s : State) (i : Fin 40) (a b : List RollNode) : State :=
  let r := s.ropes[i]
  let fa := rollOutcome r.n r.portA.failed .a a (rttOf a)
  let fb := rollOutcome r.n r.portB.failed .b b (rttOf b)
  let both := fa.isNone && fb.isNone
  let mode : RopeMode := if both then (if serialsAgree a b then .ring else .dark) else if fa.isNone then .singleA else if fb.isNone then .singleB else .dark
  let fail : Option (Nat × Nat) := if both then (if serialsAgree a b then none else some (0xFF, 5)) else if fa.isSome then fa else fb
  let pass := mode ≠ .dark
  let t := (((s.rollEnd i .a false false a).rollEnd i .b true false b).modRope i fun r => r.afterRoll a b pass fail mode).irqRaise 8
  let t := if both && !pass then t.event 0x1002 (strObj i) 0 (u8 0 ++ u8 0xFF ++ u8 5) else t
  let t := match fa with | some f => t.event 0x1002 (strObj i) 0 (u8 1 ++ u8 f.1 ++ u8 f.2) | none => t
  let t := match fb with | some f => t.event 0x1002 (strObj i) 0 (u8 2 ++ u8 f.1 ++ u8 f.2) | none => t
  let t := if pass then t.event 0x1001 (strObj i) 0 (u8 mode.code) else t
  let t := if t.atBoundary then t.takeRoll i else t
  let t := t.noteCount i (highestSrc (a ++ b))
  let t := t.forEach (r.positions t.ropes[i].wake) fun t p => t.event 0xE015 (strObj i) p
  if s.mode.block = .off || s.mode.block = .baseCamp then t.placeString i pass
  else if s.strs[i].excludeCall then t.endExclusion i pass
  else t

def execRollCallComplete (i : Fin 40) (a b : List RollNode) (s : State) : Out :=
  .next (if s.ropes[i].rollCall = 1 && s.start.fw = .running then
    let t := s.rollCallEnds i a b
    if t.rollCallsDone && t.start.step = 3 then t.modStart fun x => { x with step := 4 } else t
  else s)

/-! ## Requests -/

/-- `ROLL_CALL` (04 R121). -/
def State.applyRollCall (s : State) (i : Fin 40) : Applied :=
  let st := s.strs[i].state
  if s.ropes[i].rollCall = 1 then .ok s
  else if s.mode.block = .service && (st = .isolated || st = .tripped || st = .lockedOut || st = .excluded) then .ok (s.startRollCall i)
  else .error (.state, s.refuseRope i 0xFF)

def execRollCallRequest (src : Src) (i : Fin 40) (v : Nat) (s : State) : Out :=
  .next (s.unlessSwapping (.rollCallRequest src i v) fun s => s.writeVia src (strObj i) 0x0013 (u8 v) fun _ s => s.applyRollCall i)

/-- `ROPE_MODE_REQ` (04 R125): stored for the next boundary; a request other than RING abandons a partial roll call. -/
def State.applyRopeModeReq (s : State) (i : Fin 40) (v : Nat) : Applied :=
  .ok ((s.modRope i fun r => { r with req := some v, partial_ := r.partial_ && v = 1 }).setVal (strObj i) 0x0011 0 v)

def execRopeModeReq (src : Src) (i : Fin 40) (v : Nat) (s : State) : Out :=
  .next (s.unlessSwapping (.ropeModeReq src i v) fun s => s.writeVia src (strObj i) 0x0011 (u8 v) fun _ s => s.applyRopeModeReq i v)

/-- `STATS_CLEAR` (04 R138): bit 0 clears every counter of the string. -/
def State.applyStatsClear (s : State) (i : Fin 40) (v : Nat) : Applied :=
  .ok (if v.testBit 0 then
    s.modRope i fun r => { r with byPos := [], portA := { r.portA with stats := Vector.replicate 10 0 },
                                   portB := { r.portB with stats := Vector.replicate 10 0 } }
  else s)

def execStatsClear (src : Src) (i : Fin 40) (v : Nat) (s : State) : Out :=
  .next (s.unlessSwapping (.statsClear src i v) fun s => s.writeVia src (strObj i) 0x005F (u8 v) fun _ s => s.applyStatsClear i v)

/-- `RECESS` (05 R154): shorter than `TRAV_PERIOD`, else refused with `STATE` and event 0x200A. -/
def State.applyRecess (s : State) (v : Nat) : Applied :=
  if s.val blockObj 0x0050 * 10 ≤ v then .error (.state, s.event 0x200A blockObj 0 (u16 v))
  else .ok (s.setVal blockObj 0x0052 0 v)

def execRecessWrite (src : Src) (v : Nat) (s : State) : Out :=
  .next (s.unlessSwapping (.recessWrite src v) fun s => s.writeVia src blockObj 0x0052 (u8 v) fun _ s => s.applyRecess v)

/-! ## Boundary of a traverse -/

/-- The healed hop meets R118 and R119 (04 Table 4-11), by the round-trip time of the continuity reply across it and the hop delay in force
of the end that checks it (log 174). -/
def Rope.healed (r : Rope) : Bool :=
  r.checkers.all fun e =>
    match r.checkTarget e with
    | none => false
    | some p => hopInRange (r.port e).rtt (r.hop e p) && aligned (r.port e).rtt (r.port e).delay (r.hop e p)

/-- A stored request, evaluated against the mode in force or the mode a break produces (04 R125, Table 4-11). -/
def State.takeRequest (s : State) (i : Fin 40) (want : RopeMode) : State :=
  let r := s.ropes[i]
  let st := s.strs[i].state
  let busy := st = .ready || st = .matching || st = .closed
  if want = r.mode then s
  else match want with
    | .split => s.refuseRope i want.code
    | .dark => if busy then s.refuseRope i want.code else s.setRopeMode i .dark none none
    | .singleA | .singleB => if busy || r.mode ≠ .ring then s.refuseRope i want.code else s.setRopeMode i want none none
    | .ring =>
      if r.mode = .split then (if r.restorable && r.healed then s.setRopeMode i .ring none none else s.refuseRope i want.code)
      else if r.mode = .dark then s.refuseRope i want.code
      else s.modRope i fun r => { r with partial_ := true }

/-- The mode that a break or a failed port calls for (04 R124). -/
def State.takeDue (s : State) (i : Fin 40) : State :=
  match s.ropes[i].due with
  | some d => if d.1 = s.ropes[i].mode && d.1 ≠ RopeMode.split then (s.modRope i fun r => { r with due := none }) else s.setRopeMode i d.1 d.2.1 d.2.2
  | none => s

/-- A rope at a boundary (04 R124, R125): the mode a roll call has found, then the one that a break or a failed port calls for, then a stored
request; the `SET_SERVE` of a change go out where the line is free. -/
def State.boundaryRope (s : State) (i : Fin 40) : State :=
  if s.start.fw = .running && s.atBoundary && s.ropes[i].rollCall ≠ 1 then
    let t := (s.takeRoll i).takeDue i
    let t := match t.ropes[i].req with
      | some v => (t.modRope i fun r => { r with req := none }).takeRequest i (RopeMode.ofCode v)
      | none => t
    t.runRope i
  else s

/-- `ROPE_MODE_CHANGE` (04 R124, R125). -/
def execRopeModeChange (i : Fin 40) (s : State) : Out := .next (s.boundaryRope i)

/-- `PARTIAL_ROLL_CALL_COMPLETE` (04 R125): the returning end passes and the rope becomes RING at the next boundary, or the request is
refused. `nodes` are those that replied to it, in hop order; its frames, with `FAR` set, are counted at this command (log 172), and the nodes'
`ACC` is what the port engine predicts from (04 R115). -/
def execPartialRollCallComplete (i : Fin 40) (nodes : List RollNode) (s : State) : Out :=
  .next (if s.ropes[i].partial_ then
    let r := s.ropes[i]
    let e : PortEnd := if r.mode = .singleA then .b else .a
    let t := ((s.rollEnd i e true true nodes).noteCount i (highestSrc nodes)).modRope i fun r => { r with
      partial_ := false, predicted := Vector.ofFn fun p : Fin 33 => ((nodes[r.hop e p.val]?).filter fun _ => decide (p.val ≤ r.n)).elim r.predicted[p] RollNode.acc }
    match rollOutcome r.n (r.port e).failed e nodes (rttOf nodes) with
    | some _ => t.refuseRope i RopeMode.ring.code
    | none => (t.modEnd i e fun p => { p with rtt := rttOf nodes }).modRope i fun r => { r with due := some (.ring, none, none) }
  else s)

/-! ## Spare PHYs (04 R134, R135) -/

/-- The ports of a port's group, 1 to 80 (01 Table 1-1: ten ports of one end each). -/
def portGroup (n : Nat) : List Nat := (List.range 10).map fun k => (n - 1) / 10 * 10 + k + 1

/-- The mode a failed port calls for (04 Table 4-11). -/
def State.modeOfFailed (s : State) (i : Fin 40) : Option RopeMode :=
  let r := s.ropes[i]
  if r.portA.failed && r.portB.failed then (if r.mode = .dark then none else some .dark)
  else if r.mode ≠ .ring then none
  else if r.portB.failed then some .singleA
  else if r.portA.failed then some .singleB
  else none

/-- Takes a port out of service: event 0x1011, and the rope changes mode. -/
def State.failPort (s : State) (i : Fin 40) (e : PortEnd) : State :=
  let t := ((s.modEnd i e fun p => { p with failed := true }).portEvent i e 0x1011 (portNo i e)).storeLater
  match t.modeOfFailed i with
  | some m => t.modRope i fun r => { r with due := some (m, none, none) }
  | none => t

/-- A port at a boundary (04 R134, R135, 18 R473): one whose class became lasting moves to its group's spare; the lower-numbered port of
a group comes first. A port to be restored returns to its own PHY. -/
def State.boundaryPort (s : State) (port : Fin 80) : State :=
  let n := port.val + 1
  let i : Fin 40 := Fin.ofNat 40 port.val
  let e : PortEnd := if n ≤ 40 then .a else .b
  let p := s.portAt n
  if !s.atBoundary || s.start.fw ≠ .running then s
  else if p.restoreDue then
    (s.modPort n fun p => { p with restoreDue := false, spare := false, failed := false, strike := false, moveDue := false }).storeLater
  else if !p.moveDue || (portGroup n).any (fun m => decide (m < n) && (s.portAt m).moveDue) then s
  else
    let t := s.modPort n fun p => { p with moveDue := false }
    let taken := (portGroup n).any fun m => (s.portAt m).spare
    if p.spare then t.failPort i e
    else if !taken then
      let t := (t.modPort n fun p => { p with spare := true, strike := false }).irqRaise 9
      let t := t.event 0x100F (strObj i) n
      (t.modHealth fun h => { h with spareUse := upd h.spareUse 1 sat32, seen := h.seen ||| 4 }).storeLater
    else if p.strike then t.failPort i e
    else ((t.modPort n fun p => { p with strike := true }).clearWindow 1 n).portEvent i e 0x1010 n

/-- `PORT_TO_SPARE` (04 R134, R135). -/
def execPortToSpare (port : Fin 80) (s : State) : Out := .next (s.boundaryPort port)

/-- The boundary that ends at a trigger: port moves, then mode changes (04 R124, R134). -/
def State.boundary (s : State) : State :=
  (s.forEach (List.finRange 80) State.boundaryPort).forEach (allStr.filter fun i => s.strs[i].installed) State.boundaryRope

end Sys2Proof.Machine
end

