-- ==== Sys2Proof/Machine/Balance.lean ====
section
/-!
DEFINITION. Balancing, open-wire tests and base camp (spec/06): masks and their inhibits, and the meanings of the chapter's commands.
-/

namespace Sys2Proof.Machine

/-! ## Permission (06 R173, Table 6-2) -/

/-- The mode that acts on a string: `AUTO` acts as `OFF` in SERVICE, and Table 6-2 by block and string state. -/
def State.balModeOf (s : State) (i : Fin 40) : Nat :=
  let st := s.strs[i].state
  let inService := st = .isolated || st = .ready || st = .matching || st = .closed
  match s.mode.block with
  | .standby | .armed | .run => if inService then s.bal.mode else 0
  | .service => if s.bal.mode = 2 && st ≠ .excluded then 2 else 0
  | .off | .baseCamp | .safeHold => 0

/-- R173 admits balancing on the string's rope, the recess of R153 aside. -/
def State.balAdmits (s : State) (i : Fin 40) : Bool :=
  s.balModeOf i ≠ 0 && s.val (strObj i) 0x0060 = 1 && s.fwUp && s.bal.enabled && !s.bal.entering

/-! ## Inhibits and masks (06 R174 to R176) -/

/-- The position was seen in the last published traverse (05 R166). -/
def State.seenLast (s : State) (i : Fin 40) (p : Nat) : Bool :=
  (Sparse.getD s.trav.posFlags (nodeKey i p) 0).testBit 0

/-- An open-wire mark of channel `j` (0 to 15) of the monitor at position `p`. -/
def State.owMarked (s : State) (i : Fin 40) (p j : Nat) : Bool := (Sparse.getD s.bal.owMap (nodeKey i p) 0).testBit j

/-- The cell's mask bit is forced to 0 (06 R174). The model's choice: a thermistor code outside the valid range does not count as a reading at
or above `BAL_TEMP_MAX` (log 141). -/
def State.inhibited (s : State) (i : Fin 40) (p j : Nat) : Bool :=
  let el := 16 * (p - 1) + j
  let hot (k : Nat) : Bool :=
    let t := Sparse.getD s.trav.tRaw (i.val * 2048 + 2 * el + k) 0x7FFF
    thermOk t && decide (toSigned 16 (s.val blockObj 0x0063) ≤ t)
  hot 0 || hot 1 || decide (Sparse.getD s.trav.cellV (cellKey i el) 0 < s.val blockObj 0x0064) || s.ropes[i].hot.testBit p ||
    s.owMarked i p j || (decide (1 ≤ j) && s.owMarked i p (j - 1)) || (decide (j < 15) && s.owMarked i p (j + 1))

/-- A mask with R174 applied. -/
def State.masked (s : State) (i : Fin 40) (p m : Nat) : Nat := mapBits 16 fun j => m.testBit j && !s.inhibited i p j

/-- Has a monitor sent a mask where it differs from the one last sent (06 R175), and a reached one in any case after a change of mode
(06 R172): its serving end sends it in the link time of R157. Nothing is sent in DARK (06 R178). -/
def State.sendMask (s : State) (i : Fin 40) (p m : Nat) : State :=
  if s.ropes[i].mode = .dark || (s.sentMask i p = m && !(s.bal.allDue && (s.ropes[i].serverOf p).isSome)) then s
  else
    (s.modBal fun b => { b with sent := if m = 0 then Sparse.del b.sent (nodeKey i p) else Sparse.put b.sent (nodeKey i p) m }).modRope i fun r =>
      { r with maskDue := r.maskDue ||| 2 ^ p }

/-- Strings of the balancing domain of a string (06 R175). -/
def State.domainOf (s : State) (i : Fin 40) : List (Fin 40) :=
  if s.val blockObj 0x0061 = 0 then [i] else (s.stringsOf (s.bankOf i)).filter fun k => s.strs[k].state ≠ .excluded

/-- Internal SoC of the cells of a string that are seen and not marked. -/
def State.poolOf (s : State) (i : Fin 40) : List Rat :=
  ((s.monitorsOf i).filter fun p => s.seenLast i p).flatMap fun p =>
    ((List.range 16).filter fun j => !s.owMarked i p j).map fun j => (s.cellEst i (16 * (p - 1) + j)).soc

/-- The target rule for one string (06 R175). A bit that R180 cleared for a test counts as sent in the hysteresis band. -/
def State.autoString (s : State) (i : Fin 40) : State :=
  let pool := (s.domainOf i).flatMap s.poolOf
  let band : Rat := (s.val blockObj 0x0062 : Rat) / 100
  match pool with
  | [] => s.forEach (s.monitorsOf i) fun t p => t.sendMask i p 0
  | x :: xs =>
    let target := xs.foldl ratMin x
    s.forEach ((s.monitorsOf i).filter fun p => s.seenLast i p) fun t p =>
      let m := mapBits 16 fun j =>
        let d := (s.cellEst i (16 * (p - 1) + j)).soc - target
        if band < d then true else if d ≤ band / 2 then false else (s.sentMask i p ||| Sparse.getD s.bal.owHeld (nodeKey i p) 0).testBit j
      t.sendMask i p (s.masked i p m)

/-- The masks of `DIRECTED` for one string (06 R176). -/
def State.directString (s : State) (i : Fin 40) : State :=
  s.forEach (s.monitorsOf i) fun t p => t.sendMask i p (s.masked i p (s.val (strObj i) 0x0061 (p - 1)))

/-- Zero masks for one string: after balancing was stopped (06 R173), and in OFF (06 R172). -/
def State.zeroString (s : State) (i : Fin 40) : State := s.forEach (s.monitorsOf i) fun t p => t.sendMask i p 0

/-- The masks formed at a slow-round completion (06 R172 to R176); a rope that R153 withholds balancing from is not admitted (06 R173).
Firmware that forms masks again after a processor restart has enabled balancing again (03 R91; log 142). -/
def State.formMasks (s : State) : State :=
  let s := s.modBal fun b => { b with enabled := true }
  let t := s.forEach allStr fun t i =>
    if !t.strs[i].installed then t
    else if !t.balAdmits i || t.ropes[i].withheld then t.zeroString i
    else if t.balModeOf i = 1 then t.autoString i
    else t.directString i
  t.modBal fun b => { b with owHeld := [], allDue := false }

/-! ## Writes (06 R172, R176) -/

/-- `BAL_MODE` (06 R172): in force at the next traverse boundary. -/
def State.applyBalMode (s : State) (v : Nat) : Applied :=
  .ok (((s.modBal fun b => { b with modeNext := some v }).setVal blockObj 0x0060 0 v).event 0xE014 blockObj 0 (u8 s.bal.mode ++ u8 v))

def execBalModeWrite (src : Src) (v : Nat) (s : State) : Out :=
  .next (s.unlessSwapping (.balModeWrite src v) fun s => s.writeVia src blockObj 0x0060 (u8 v) fun _ s => s.applyBalMode v)

/-- `BAL_MASK_REQ` of a string (06 R176), whole (14 R391). -/
def State.applyBalMask (s : State) (i : Fin 40) (r : EntryRow) (data : List Byte) : Applied :=
  let t := (s.storeValue r (strObj i) 0x0061 data).modBal fun b => { b with wroteAt := Sparse.put b.wroteAt i.val s.now }
  .ok (if t.balAdmits i && !t.ropes[i].withheld && t.balModeOf i = 2 then t.directString i else t)

def execBalMaskReqWrite (src : Src) (i : Fin 40) (data : List Byte) (s : State) : Out :=
  .next (s.unlessSwapping (.balMaskReqWrite src i data) fun s =>
    s.writeVia src (strObj i) 0x0061 data fun r s => s.applyBalMask i r data)

/-- `BAL_DIRECT_HOLD_EXPIRY` (06 R176): no element written for the hold time in DIRECTED. The model's choice: event 0x101B, which no port is named
for, raises the interrupt of port A's group (log 137). -/
def execBalDirectHoldExpiry (i : Fin 40) (s : State) : Out :=
  .next (match Sparse.get? s.bal.wroteAt i.val with
  | none => s
  | some t0 =>
    if s.fwActs && s.bal.mode = 2 && decide (t0 + sec (s.val blockObj 0x0065) ≤ s.now) then
      let t := s.modBal fun b => { b with wroteAt := Sparse.del b.wroteAt i.val }
      let t := t.forEach (List.range 32) fun t k => t.setVal (strObj i) 0x0061 k 0
      (t.zeroString i).portEvent i .a 0x101B 0
    else s)

/-! ## Open-wire tests (06 R179, R180) -/

/-- `OPEN_WIRE_TEST_DUE` (06 R179): the test of every channel of every reached monitor is due; the channels it must defer are noted. Each
test is an `OPEN_WIRE` transaction of the port (05 R157). -/
def execOpenWireTestDue (s : State) : Out :=
  .next (if s.fwActs && s.trav.running && decide (s.bal.owAt + sec (s.val blockObj 0x0066) ≤ s.now) then
    let t := s.modBal fun b => { b with owAt := s.now }
    t.forEach (allStr.filter fun i => s.strs[i].installed) fun t i =>
      t.forEach ((t.monitorsOf i).filter fun p => (t.ropes[i].serverOf p).isSome) fun t p =>
        (t.modBal fun b => { b with owDue := Sparse.put b.owDue (nodeKey i p) 0xFFFF }).noteDeferred i p
  else s)

/-- The mask bits that clear for a test of channel `j` (06 R180): the upper bit of each pair of balancing neighbours it belongs to. -/
def pairsAbove (m j : Nat) : Nat :=
  (if j < 15 && m.testBit j && m.testBit (j + 1) then 2 ^ (j + 1) else 0) ||| (if 1 ≤ j && m.testBit j && m.testBit (j - 1) then 2 ^ j else 0)

/-- `OW_DEFER_EXPIRY` (06 R180): the upper mask bit of each pair that defers the channel's test clears until the next mask computation, and the
test is due; event 0x101A. -/
def execOwDeferExpiry (i : Fin 40) (p : Fin 33) (j : Fin 16) (s : State) : Out :=
  let key := nodeKey i p.val * 16 + j.val
  .next (match Sparse.get? s.bal.deferred key with
  | none => s
  | some t0 =>
    if s.fwActs && decide (t0 + sec (s.val blockObj 0x0067) ≤ s.now) then
      let m := s.sentMask i p.val
      let up := pairsAbove (m ||| s.activeMask i p.val) j.val
      let node := nodeKey i p.val
      let t := s.modBal fun b => { b with
        deferred := Sparse.del b.deferred key, owHeld := Sparse.put b.owHeld node (Sparse.getD b.owHeld node 0 ||| (m &&& up)),
        owDue := Sparse.put b.owDue node (Sparse.getD b.owDue node 0 ||| 2 ^ j.val) }
      let t := t.sendMask i p.val (clearBits m up)
      t.portEvent i ((t.ropes[i].serverOf p.val).getD .a) 0x101A p.val (u8 (j.val + 1))
    else s)

/-! ## Base camp (06 R181 to R188) -/

/-- The base-camp window lies inside the envelope in force of every string that is not excluded (06 R183). -/
def State.campWindowOk (s : State) (high low : Nat) (temp : Int) : Bool :=
  allStr.all fun i =>
    s.strs[i].exclusion ||
    (let e := s.profileOf i
     (match s.limit e 2 with | some l => decide ((high : Int) ≤ l) | none => true) &&
     (match s.limit e 3 with | some l => decide (l ≤ (low : Int)) | none => true) &&
     (match s.limit e 5 with | some l => decide (temp ≤ l) | none => true))

/-- `BC_V_HIGH`, `BC_V_LOW`, `BC_T_HIGH` (06 R183): 100 mV apart and inside the envelope. -/
def State.applyCampWindow (s : State) (sub v : Nat) : Applied :=
  let high := if sub = 0x72 then v else s.val blockObj 0x0072
  let low := if sub = 0x73 then v else s.val blockObj 0x0073
  let temp := toSigned 16 (if sub = 0x74 then v else s.val blockObj 0x0074)
  if low + 1000 ≤ high && s.campWindowOk high low temp then .ok (s.setVal blockObj sub 0 v) else .error (.state, s)

/-- First condition of R181 that fails, 1 to 7. -/
def State.campRefusal (s : State) : Option Nat :=
  if s.mode.block ≠ .standby then some 1
  else if allBank.any (fun b => s.banks[b].state ≠ .dark) then some 2
  else if allStr.any (fun i => s.strs[i].state = .ready || s.strs[i].state = .matching || s.strs[i].state = .closed) then some 3
  else if s.powerPathOn then some 4
  else if s.supply.pfw then some 5
  else if s.supply.wakeIn then some 6
  else if !s.campWindowOk (s.val blockObj 0x0072) (s.val blockObj 0x0073) (toSigned 16 (s.val blockObj 0x0074)) then some 7
  else none

/-- A port powers down for base camp: nothing waits and nothing is awaited on its line (02 R67). -/
def Port.quiet (q : Port) : Port := { q with txn := none, casts := [], far := none, echoSent := 4 }

/-- Steps 3 to 5 of R182, once the write-back has ended: `SET_CONFIG` and `BASE_CAMP` broadcast, block state BASE_CAMP, power down (02 R67).
Hall passes are discarded (09 R250), and an output that waits for its pull-in takes the place of one that goes (02 R56); CAN-C, the timetables
and the time sources stop and throttling ends (20 Table 20-4). -/
def State.enterCamp (s : State) : State :=
  let t := s.forEach (allStr.filter fun i => s.strs[i].installed) fun t i =>
    let t := (t.broadcastConfig i).broadcastCamp i
    (t.flushCasts i .a fun _ => true).flushCasts i .b fun _ => true
  let t := t.forEach allStr fun t i => t.modRope i fun r => { r with
    permit := false, maskDue := 0, resendMask := 0, rollCall := if r.rollCall = 1 then 3 else r.rollCall, rollMode := none, partial_ := false,
    contSent := 3, portA := r.portA.quiet, portB := r.portB.quiet }
  let t := t.modTrav fun v => { v with running := false, slowDue := none, slowDone := false, slowOpen := false }
  let t := t.modBal fun b => { b with sent := [], active := [], owDue := [], owHeld := [], owWait := [], entering := false, exiting := false }
  let t := State.serveQ 16 (t.setBlock .baseCamp 2).discardPasses
  let t := t.forEach allStr fun t i => t.modBStr i fun b => { b with unseen := Vector.replicate 33 0, slowUnseen := Vector.replicate 33 0, beyond := [], unseenDue := [] }
  let t := t.modBelay fun b => { b with missing := false }
  let t := t.modTherm fun h => { h with level := 0, base := 0, belowSince := none, riseAt := none, last := [] }
  let t := (t.forEach (List.finRange 3) State.stopTimetable).toRtc
  let t := t.modCan 2 fun c => { c with onBus := false }
  let t := t.forEach ([0, 1] : List (Fin 2)) fun t k => t.modEth k fun e => { e with up := false }
  t.railsDown

/-- An accepted entry goes on once its write-back has ended (06 R182). The model's choice: one that a supply fail or a change of block state meets
before that is given up (log 178). -/
def State.campNext (s : State) : State :=
  if !s.bal.entering || s.store.writing.isSome then s
  else if s.mode.block = .standby && !s.supply.pfw && s.fwActs then s.enterCamp
  else s.modBal fun b => { b with entering := false }

/-- Steps 1 and 2 of R182: `BAL_PERMIT` cleared on every rope, and the learned data written back as for a planned shutdown. -/
def State.beginCamp (s : State) : State :=
  let t := s.forEach allStr fun t i => t.modRope i fun r => { r with permit := false, maskDue := 0, resendMask := 0 }
  let t := t.modBal fun b => { b with entering := true }
  (t.flushAll.writeBack 2).campNext

/-- `LEARNED_COPY_WRITTEN` (17 R453): the copy in progress is complete; with the last one an entry to base camp goes on (06 R182). -/
def execLearnedCopyWritten (s : State) : Out :=
  .next (match s.store.writing with
  | none => s
  | some (img, reason, k) => if h : k < 3 then (s.copyWritten img reason ⟨k, h⟩).campNext else s)

/-- `BASE_CAMP_REQ` (06 R181, R186): 0x01 enters; any other request than one that can be granted is refused with IRQ 123 and event
0xE011. Outside base camp 0x00 has no effect. -/
def State.applyCampEnter (s : State) : Applied :=
  match s.campRefusal with
  | some k => .error (.state, (s.event 0xE011 blockObj 0 (u8 k)).irqRaise 123)
  | none => .ok (if s.bal.entering then s else s.beginCamp)

def execBaseCampEnterReq (src : Src) (s : State) : Out :=
  .next (s.unlessSwapping (.baseCampEnterReq src) fun s => s.writeVia src blockObj 0x0070 (u8 1) fun _ s => s.applyCampEnter)

/-- The contact of `WAKE_OUT` is closed: held by a wake until its acknowledgement and for at least 1 s (06 R188). It is open in `OFF`,
without supply (02 R63) and while hold-up carries the load (02 R69). -/
def State.wakeOutClosed (s : State) : Bool :=
  s.supply.up && !s.supply.holdupActive && !s.start.heldForSupply && s.mode.block ≠ .off &&
  match s.bal.wakeHeld with
  | some t0 => s.supply.wakeOut && !(s.bal.wakeAck && decide (t0 + sec 1 ≤ s.now))
  | none => false

/-- `WAKE_OUT` closes on a cause enabled in `WAKE_OUT_CFG` (06 R188): event 0xE013. -/
def State.closeWakeOut (s : State) (cause : Nat) : State :=
  if !(s.val blockObj 0x0076).testBit (cause - 1) || s.wakeOutClosed then s
  else
    ((s.modSupply fun p => { p with wakeOut := true }).modBal fun b => { b with wakeHeld := some s.now, wakeAck := false }).event
      0xE013 blockObj 0 (u8 cause)

/-- A wake cause ends base camp and the exit sequence runs up to its roll calls (06 R186, R187): every port sends a wake tone; supplies, core C2 with its self-test,
the comparator self-test, roll call on every installed rope, unseen counts from 0. -/
def State.wake (s : State) (cause : Nat) (core : Bool) (gates : List (Nat × Nat)) : State :=
  if s.mode.block ≠ .baseCamp || s.bal.exiting then s
  else
    let t := if cause = 3 then s else s.irqRaise 121
    let t := (t.modBal fun b => { b with exiting := true, wakeCause := cause }).event 0xE012 blockObj 0 (u8 cause)
    let t := t.closeWakeOut cause
    let t := if t.cores.role[2] = .standby then
        (if core then { t with cores := { t.cores with sparePassed := true } }
         else ({ t with cores := { t.cores with role := t.cores.role.set 2 .failed, sparePassed := false } } : State).event 0xD015 0x1D00 2)
      else t
    let t := t.forEach allStr fun t i => t.modRope i fun r => { r with
      portA := { r.portA with toneAt := some s.now }, portB := { r.portB with toneAt := some s.now } }
    let t := (t.railsUp.selfTestAll gates).rollCallAll
    let t := t.forEach allStr fun t i => t.modBStr i fun b => { b with unseen := Vector.replicate 33 0, slowUnseen := Vector.replicate 33 0, beyond := [], unseenDue := [] }
    let t := t.modBelay fun b => { b with lastTap := s.now }
    t.modCorr fun c => { c with charge := c.charge.map fun p => (p.1, { p.2 with counted := false }) }

/-- `WAKE_TONE_DETECTED` (06 R186): `core` and `gates` are what the self-tests of the exit find. -/
def execWakeToneDetected (i : Fin 40) (e : PortEnd) (core : Bool) (gates : List (Nat × Nat)) (s : State) : Out :=
  .next (if s.strs[i].installed && !(s.ropes[i].port e).failed then s.wake 1 core gates else s)

/-- `WAKE_IN_RISE` (06 R186, 02 R63). -/
def execWakeInRise (core : Bool) (gates : List (Nat × Nat)) (s : State) : Out :=
  .next ((s.modSupply fun p => { p with wakeIn := true }).wake 2 core gates)

/-- `WAKE_IN_FALL` (02 R63). -/
def execWakeInFall (s : State) : Out := .next (s.modSupply fun p => { p with wakeIn := false })

/-- `BASE_CAMP_LEAVE_REQ` (06 R186). -/
def execBaseCampLeaveReq (src : Src) (core : Bool) (gates : List (Nat × Nat)) (s : State) : Out :=
  .next (s.unlessSwapping (.baseCampLeaveReq src core gates) fun s =>
    s.writeVia src blockObj 0x0070 (u8 0) fun _ s => .ok (s.wake 3 core gates))

/-- `BASE_CAMP_EXIT_COMPLETE` (06 R187): after roll call and the first full slow round the block is in STANDBY; each controller enters
its `CAN_MODE` again (20 R503). -/
def execBaseCampExitComplete (s : State) : Out :=
  .next (if s.mode.block = .baseCamp && s.bal.exiting && s.fwActs && s.rollCallsDone && s.trav.slowDone then
    ((s.modBal fun b => { b with exiting := false }).setBlock .standby 3).forEach (List.finRange 3) fun t k =>
      (t.modCan k fun c => { c with modeNext := some (t.val (canObj k) 1) }).takeMode k
  else s)

/-- `WAKE_OUT_CFG` (06 Table 6-7): bits 2 to 0 are set; a 1 in bit 7 acknowledges. -/
def State.applyWakeOutCfg (s : State) (v : Nat) : Applied :=
  let t := s.setVal blockObj 0x0076 0 (v % 8)
  .ok (if v.testBit 7 && t.bal.wakeHeld.isSome then t.modBal fun b => { b with wakeAck := true } else t)

def execWakeOutAck (src : Src) (v : Nat) (s : State) : Out :=
  .next (s.unlessSwapping (.wakeOutAck src v) fun s => s.writeVia src blockObj 0x0076 (u8 v) fun _ s => s.applyWakeOutCfg v)

end Sys2Proof.Machine
end

