-- ==== Sys2Proof/Machine/Can.lean ====
section
/-!
DEFINITION. Meanings of the CAN commands (spec/13 R350 to R377). A reception reaches the dictionary as well; that command stands with the
dictionary's.
-/

namespace Sys2Proof.Machine

/-! ## Entries of the controllers -/

/-- A refusal of `STATE` with event 0x800D (13 R355, R359, R367). -/
def State.refuseCan (s : State) (k : Fin 3) (item : Nat) : Applied := .error (.state, s.canEvent k 0x800D item)

/-- Entries of the transmit request queue that have not crossed (01 Table 1-6, 13 R361). DESIGN CHOICE (log 181): an entry crosses within
the SYS tick of its write. -/
def State.crossing (s : State) (k : Fin 3) : List (Bool × Nat) := if s.cans[k].txTick = s.sysTicks then s.cans[k].txReqs else []

/-- Puts a request or a cancel into the transmit request queue; a full queue refuses the write (01 Table 1-6, 13 R361). -/
def State.queueMo (s : State) (k : Fin 3) (cancel : Bool) (o : Nat) (act : State → State) : Applied :=
  if 16 ≤ (s.crossing k).length then .error (.busy, s)
  else .ok (act (s.modCan k fun c => { c with txReqs := s.crossing k ++ [(cancel, o)], txTick := s.sysTicks }))

/-- `MO_TX_REQ` (13 R359): an event-driven send object becomes pending. -/
def State.applyTxReq (s : State) (k : Fin 3) (o : Nat) : Applied :=
  let w := s.moCfg k o
  if !moValid w || !moSend w || moTt w then s.refuseCan k o else s.queueMo k false o fun t => t.requestMo k o

def execMoTxReq (src : Src) (k : Fin 3) (v : Nat) (s : State) : Out :=
  .next (s.unlessSwapping (.moTxReq src k v) fun s => s.writeVia src (canObj k) 0x000C (u8 v) fun _ s => s.applyTxReq k v)

/-- `MO_CANCEL` (13 R361). -/
def State.applyCancel (s : State) (k : Fin 3) (o : Nat) : Applied := s.queueMo k true o fun t => t.cancelMo k o

def execMoCancel (src : Src) (k : Fin 3) (v : Nat) (s : State) : Out :=
  .next (s.unlessSwapping (.moCancel src k v) fun s => s.writeVia src (canObj k) 0x000D (u8 v) fun _ s => s.applyCancel k v)

/-- `MO_DATA` (13 R359, Table 13-15): RW for send objects, RO for receive objects; a DLC is at most 15. -/
def State.applyMoData (s : State) (k : Fin 3) (o : Nat) (d : List Byte) : Applied :=
  if !moSend (s.moCfg k o) then .error (.readOnly, s)
  else if 15 < (d.getD 4 0x00#8).toNat then .error (.range, s)
  else .ok (s.writeMo k o d)

def execMoDataWrite (src : Src) (k : Fin 3) (o : Fin 128) (data : List Byte) (s : State) : Out :=
  .next (s.unlessSwapping (.moDataWrite src k o data) fun s =>
    s.writeVia src (0x1830 + k.val) (o.val + 1) data fun _ s => s.applyMoData k o.val data)

/-- `MO_CFG` (13 R355). -/
def State.applyMoCfg (s : State) (k : Fin 3) (o : Nat) (w : Nat) : Applied :=
  let m := s.mo k o
  if m.pending || m.active then s.refuseCan k o
  else if (moBrs w && !moFd w) || bits w 50 29 ≠ 0 ||
      (moSafe w && (k = 2 || !moSend w || allMo.any fun q => q ≠ o && moSafe (s.moCfg k q))) then .error (.range, s)
  else .ok ((s.setVal (0x1810 + k.val) (o + 1) 0 w).modMo k o fun m =>
    { m with nd := false, lost := false, sent := false, cancelled := false, ttMissed := false })

def execMoCfgWrite (src : Src) (k : Fin 3) (o : Fin 128) (v : Nat) (s : State) : Out :=
  .next (s.unlessSwapping (.moCfgWrite src k o v) fun s =>
    s.writeVia src (0x1810 + k.val) (o.val + 1) (u64 v) fun _ s => s.applyMoCfg k o.val v)

/-- `BIT_NOMINAL` and `BIT_DATA` (13 R352, R353). -/
def State.applyTiming (s : State) (k : Fin 3) (fast : Bool) (w : Nat) : Applied :=
  let o := canObj k
  if timingOk (if fast then s.val o 3 else w) (if fast then w else s.val o 4) then
    .ok ((s.setVal o (if fast then 4 else 3) 0 w).modCan k fun c => { c with cfgPending := true })
  else .error (.range, s)

def execBitTimingWrite (src : Src) (k : Fin 3) (fast : Bool) (v : Nat) (s : State) : Out :=
  .next (s.unlessSwapping (.bitTimingWrite src k fast v) fun s =>
    s.writeVia src (canObj k) (if fast then 4 else 3) (u32 v) fun _ s => s.applyTiming k fast v)

/-- `CAN_MODE` (13 R367, R374): at once on an idle bus, at the end of the frame in progress, or when a bus-off is over. `busy`: a frame of
another node is in progress. -/
def State.applyCanMode (s : State) (k : Fin 3) (m : Nat) (busy : Bool) : Applied :=
  if m = 1 && !s.ttOk k then s.refuseCan k 1
  else
    let t := (s.setVal (canObj k) 1 0 m).modCan k fun c => { c with modeNext := some m }
    .ok (if busy then t else t.takeMode k)

def execCanMode (src : Src) (k : Fin 3) (v : Nat) (busy : Bool) (s : State) : Out :=
  .next (s.unlessSwapping (.canMode src k v busy) fun s => s.writeVia src (canObj k) 1 (u8 v) fun _ s => s.applyCanMode k v busy)

/-- `NODE_ID` (13 Table 13-15, 12 R347): takes effect at the next mode write; CAN-A and CAN-B stay equal while the safe stream is on. -/
def State.applyNodeId (s : State) (k : Fin 3) (v : Nat) : Applied :=
  if k ≠ 2 && (s.val blockObj 0x0170).testBit 31 && s.val (canObj (if k = 0 then 1 else 0)) 2 ≠ v then s.refuseCan k 2
  else .ok (s.setVal (canObj k) 2 0 v)

/-- `TT_ROLE` (13 R366): only CAN-A may be master. `TT_CYCLES` is a power of two. -/
def State.applyTtRole (s : State) (k : Fin 3) (v : Nat) : Applied :=
  if v = 1 && k ≠ 0 then .error (.range, s) else .ok (s.setVal (canObj k) 0x0012 0 v)

def State.applyTtCycles (s : State) (k : Fin 3) (v : Nat) : Applied :=
  if [1, 2, 4, 8, 16, 32, 64].contains v then .ok (s.setVal (canObj k) 0x0011 0 v) else .error (.range, s)

/-! ## Bus-off and the duplicate-node fault -/

/-- A request for recovery from bus-off (13 R370); without effect otherwise. -/
def State.recoverCan (s : State) (k : Fin 3) : State :=
  if s.cans[k].bus = .busOff && !s.cans[k].recovering then (s.modCan k fun c => { c with recovering := true }).canEvent k 0x8004 else s

/-- `BUSOFF_RECOVER` (13 R370). -/
def execBusoffRecover (src : Src) (k : Fin 3) (v : Nat) (s : State) : Out :=
  .next (s.unlessSwapping (.busoffRecover src k v) fun s =>
    s.writeVia src (canObj k) 7 (u8 v) fun _ s => .ok (s.recoverCan k))

/-- `BUSOFF_AUTO_EXPIRY` (13 R370): firmware requests recovery after `BUSOFF_AUTO` seconds. -/
def execBusoffAutoExpiry (k : Fin 3) (s : State) : Out :=
  .next (
    let auto := s.val (canObj k) 8
    if auto ≠ 0 && s.fwActs && decide (s.cans[k].busOffAt + sec auto ≤ s.now) then s.recoverCan k else s)

/-- `BUSOFF_RECOVERED` (13 R370, R374): 128 occurrences of 11 recessive bits; a mode written meanwhile is applied. -/
def execBusoffRecovered (k : Fin 3) (s : State) : Out :=
  .next (if s.cans[k].bus = .busOff && s.cans[k].recovering then
    ((s.modCan k fun c => { c with bus := .active, tec := 0, rec_ := 0, recovering := false }).canEvent k 0x8005).takeMode k
  else s)

/-- Clears the duplicate-node fault (13 R372): event 0x800B. -/
def State.clearDup (s : State) (k : Fin 3) : State :=
  (s.modCan k fun c => { c with dupNode := false, objs := c.objs.map fun p => (p.1, { p.2 with clashOff := false }) }).canEvent k 0x800B

/-- `DUP_CLEAR` (13 R372). -/
def execDupClear (src : Src) (k : Fin 3) (v : Nat) (s : State) : Out :=
  .next (s.unlessSwapping (.dupClear src k v) fun s => s.writeVia src (canObj k) 9 (u8 v) fun _ s => .ok (s.clearDup k))

/-! ## Sending -/

/-- The device transmits: firmware has not stopped for a restart (03 R91), and the controller is on the bus, neither bus-off nor
integrating nor in `LISTEN` (13 R369, Table 13-11). -/
def State.canSends (s : State) (k : Fin 3) : Bool :=
  let c := s.cans[k]
  s.fwUp && c.onBus && c.mode ≠ 2 && (c.bus = .active || c.bus = .passive)

/-- Event-driven frames the controller offers (13 R360, R364, Table 13-11): pending objects and the dictionary's next frame; in a
timetable only in a free window and with room before the next mark, in base camp only the dictionary's. -/
def State.offers (s : State) (k : Fin 3) : List Nat :=
  let c := s.cans[k]
  let mos := if s.mode.block = .baseCamp then [] else allMo.filter fun o => (s.mo k o).pending && !(s.mo k o).clashOff && !moTt (s.moCfg k o)
  let all := mos ++ (if c.dictOut.isEmpty then [] else [128])
  if s.ttRuns k then
    (if c.freeWindow then
      all.filter fun o => decide (s.now + s.bitTimes k (s.offerRoom k o) ≤ c.refAt + s.bitTimes k (s.nextMark k))
    else [])
  else if c.mode = 1 && s.mode.block ≠ .baseCamp then []
  else all

/-- `ESI` of a CAN FD frame the controller sends: its error state (13 Table 13-1). -/
def Can.esi (c : Can) : Bool := c.bus = .passive

/-- The bytes of a send object's frame: its data at its DLC (13 R354, Table 13-8). -/
def State.moBytes (s : State) (k : Fin 3) (o : Nat) : List Byte :=
  let w := s.moCfg k o
  let n := dlcLen (moFd w) (moDlc w)
  let d := ((s.mo k o).data.drop 16).take n
  d ++ List.replicate (n - d.length) 0x00#8

/-- A frame goes out on a bus. -/
def State.emit (s : State) (m : Message) : State := s.modDict fun d => { d with sent := d.sent ++ [m] }

/-- Puts an object, or the dictionary's frame, on the bus. -/
def State.startFrame (s : State) (k : Fin 3) (o : Nat) (single : Bool) : State :=
  let c := s.cans[k]
  if o = 128 then
    let t := s.modCan k fun c => { c with dictActive := true }
    (match c.dictOut with
    | f :: _ => t.emit (.canFrame k.val (f.1 + 2 ^ 29) true true c.esi f.2)
    | [] => t)
  else
    let w := s.moCfg k o
    (s.modMo k o fun m => { m with active := true, oneShot := single }).emit
      (.canFrame k.val (moId w + bitAt (moExt w) 29) (moFd w) (moBrs w) (moFd w && c.esi) (s.moBytes k o))

/-- `CAN_START_OF_FRAME` (13 R360): the pending object that wins arbitration among them starts its frame. -/
def execCanStartOfFrame (k : Fin 3) (s : State) : Out :=
  .next (if !s.canSends k || (s.onWire k).isSome then s
  else match s.winner k (s.offers k) with
    | some o => s.startFrame k o false
    | none => s)

/-- A transmission ends well (13 R360, R369): one less in the transmit error counter, as ISO 11898-1 has it. -/
def State.canSent (s : State) (k : Fin 3) : State :=
  s.modCan k fun c =>
    let c := { c with tec := c.tec - 1, counts := upd c.counts 1 sat32 }
    { c with bus := c.byCounters }

/-- The device's own reference has been sent (13 R366): it is the time master; a backup has become one with event 0x8012. -/
def State.referenceSent (s : State) (k : Fin 3) : State :=
  let t := s.modCan k fun c => { c with refOut := none, refActive := false, master := true, backup := false, sync := true }
  (if s.cans[k].backup then t.canEvent k 0x8012 else t).noteSources

/-- `CAN_TRANSMIT_END` (13 R359 to R361, R364, R366): success, or lost arbitration or an error with a retry unless the frame was single-shot
or cancelled; a reference is retried until it is sent. -/
def execCanTransmitEnd (k : Fin 3) (e : TransmitEnd) (s : State) : Out :=
  .next (match s.onWire k with
  | none => s
  | some o =>
    let t := match e with
      | .success => s.canSent k
      | .lost => s.modCan k fun c => { c with counts := upd c.counts 8 sat32 }
      | .error => s
    let t := if o = 128 then
        t.modCan k fun c => { c with dictActive := false, dictOut := if e = .success then c.dictOut.drop 1 else c.dictOut }
      else if o = 129 then
        (if e = .success then t.referenceSent k else t.modCan k fun c => { c with refActive := false })
      else
        let m := t.mo k o
        let t := (t.modMo k o fun m => { m with active := false, oneShot := false, pending := m.pending && !m.oneShot }).settleMo k o
        if e = .success then
          let t := t.modMo k o fun m => { m with pending := false, cancelReq := false, sent := true }
          if moIrq (s.moCfg k o) then t.irqRaise (69 + 4 * k.val) else t
        else if m.cancelReq then t.cancelled k o
        else t
    t.takeMode k)

/-- Clash occurrences on an identifier (13 R371): the counts of the 8 identifiers most recently concerned, and the fourth within 1 s. -/
def State.noteClash (s : State) (k : Fin 3) (id : Nat) (own : Bool) : State :=
  let c := s.cans[k]
  let old := (c.clashes.find? fun x => x.id % 2 ^ 30 = id % 2 ^ 30).filter fun x => decide (s.now ≤ x.first + sec 1)
  let x : Clash := match old with
    | some x => { x with id := id, count := x.count + 1, own := x.own || own }
    | none => { id := id, count := 1, first := s.now, own := own }
  let others := c.clashes.filter fun y => y.id % 2 ^ 30 ≠ id % 2 ^ 30
  if x.count < 4 then s.modCan k fun c => { c with clashes := (x :: others).take 8 }
  else
    let t := (s.modCan k fun c => { c with clashes := others, clashId := id, seen := c.seen ||| 1, counts := upd c.counts 11 sat32 }).canEvent k
      0x8009 0 (u32 id)
    if !x.own then t
    else
      let mine := allMo.filter fun o => let w := s.moCfg k o
        moValid w && moSend w && idWord (moId w) (moExt w) false false = id % 2 ^ 30
      let t := t.forEach mine fun t o => (t.cancelMo k o).modMo k o fun m => { m with clashOff := true }
      (t.modCan k fun c => { c with dupNode := true }).canEvent k 0x800A 0 (u32 id)

/-- `CAN_ERROR` (13 R369, R371): an error of a kind; `tx` and `rx` are what ISO 11898-1 adds to the counters for it, `clash` the identifier
of the frame it ends and whether the device's own recessive bit was read dominant. -/
def execCanError (k : Fin 3) (kind : CanErrorKind) (tx rx : Nat) (clash : Option (Nat × Bool)) (s : State) : Out :=
  .next (
    let c := s.cans[k]
    if !c.onBus || !(c.bus = .active || c.bus = .passive) then s
    else
      let at_ : Fin 13 := match kind with | .bit => 3 | .stuff => 4 | .form => 5 | .crc => 6 | .ack => 7
      let t := s.modCan k fun c => { c with counts := upd (upd c.counts 2 sat32) at_ sat32 }
      let t := match clash with
        | some x => t.noteClash k x.1 (x.2 && c.mode ≠ 2)
        | none => t
      if c.mode = 2 then t.takeMode k
      else
        let tec := c.tec + tx
        let rec_ := min 255 (c.rec_ + rx)
        let t := t.modCan k fun c => { c with tec := tec, rec_ := rec_ }
        let t := if (c.tec < 96 && decide (96 ≤ tec)) || (c.rec_ < 96 && decide (96 ≤ rec_)) then t.canEvent k 0x8001 else t
        if 255 < tec then t.enterBusOff k
        else
          let t := if c.bus = .active && (decide (128 ≤ tec) || decide (128 ≤ rec_)) then
              (t.modCan k fun c => { c with bus := .passive, seen := c.seen ||| 4 }).canEvent k 0x8002
            else t
          t.takeMode k)

/-- `PROTOCOL_EXCEPTION` (13 Table 13-1): bus integration, event 0x8015, no error frame. -/
def execProtocolException (k : Fin 3) (s : State) : Out :=
  .next (
    let c := s.cans[k]
    if c.onBus && (c.bus = .active || c.bus = .passive) then ((s.modCan k fun c => { c with bus := .integrating }).canEvent k 0x8015).takeMode k else s)

/-- `CAN_INTEGRATION_COMPLETE` (13 R374): 11 consecutive recessive bits; event 0x800C where a mode write began the integration. -/
def execCanIntegrationComplete (k : Fin 3) (s : State) : Out :=
  .next (if s.cans[k].onBus && s.cans[k].bus = .integrating then
    let t := s.modCan k fun c => { c with bus := c.byCounters, announce := false }
    if s.cans[k].announce then t.canEvent k 0x800C 0 (u8 s.cans[k].mode) else t
  else s)

/-! ## The timetable -/

/-- Starts the basic cycle of a reference. -/
def State.startCycle (s : State) (k : Fin 3) (cycle : Nat) : State :=
  s.modCan k fun c => { c with cycle := cycle, refAt := s.now, mark := 0, freeWindow := false }

/-- The start of frame of the device's own reference (13 R365, R366), which starts the cycle. -/
def State.sendReference (s : State) (k : Fin 3) (cycle : Nat) : State :=
  ((s.startCycle k cycle).modCan k fun c => { c with refOut := some cycle, refActive := true }).emit
    (.canFrame k.val (s.refId k) false false false (u8 cycle ++ u8 s.tq ++ beBytes 6 s.utc))

/-- Cycle count after the present one. -/
def State.nextCycle (s : State) (k : Fin 3) : Nat := (s.cans[k].cycle + 1) % max 1 (s.ttCycles k)

/-- `REFERENCE_RECEIVED` (13 R365, R366): a reference message starts the cycle; `lost` tells that the device's own reference lost
arbitration to it. -/
def execReferenceReceived (k : Fin 3) (id cycle quality utc : Nat) (lost : Bool) (s : State) : Out :=
  .next (if !s.ttRuns k || id / 8 ≠ s.refId k / 8 then s
  else
    let c := s.cans[k]
    let t := (s.startCycle k (cycle % 64)).modClock fun x => { x with canRef := some (quality, utc, s.now) }
    let t := if s.val (canObj k) 0x0012 = 1 then
        (if lost then t.modCan k fun x => { x with
            master := false, backup := true, sync := true, refOut := none, refActive := false,
            counts := if c.refActive then upd x.counts 8 sat32 else x.counts }
          else t)
      else if c.sync then t
      else (t.modCan k fun c => { c with sync := true }).canEvent k 0x8010
    t.noteSources.takeMode k)

/-- `REFERENCE_SEND` (13 R366, R370): at entry to `TIMETABLE` and after a bus-off, then each time the cycle time reaches `TT_CYCLE_LEN`; a
reference that met an error or lost arbitration goes out again. -/
def execReferenceSend (k : Fin 3) (s : State) : Out :=
  .next (
    let c := s.cans[k]
    if !s.ttRuns k || !s.canSends k || s.val (canObj k) 0x0012 ≠ 1 || (s.onWire k).isSome then s
    else match c.refOut with
      | some cycle => s.sendReference k cycle
      | none =>
        if !c.backup && (!c.master || decide (c.refAt + s.bitTimes k (s.ttLen k) ≤ s.now)) then
          s.sendReference k (if c.refAt = 0 then 0 else s.nextCycle k)
        else s)

/-- `BACKUP_TAKEOVER` (13 R366): no reference for the cycle's length and (p + 1) x 64 bit times; the backup starts its own. -/
def execBackupTakeover (k : Fin 3) (s : State) : Out :=
  .next (
    let c := s.cans[k]
    if s.ttRuns k && s.canSends k && c.backup && c.refOut.isNone && (s.onWire k).isNone && decide (c.refAt + s.bitTimes k (s.ttLen k + (s.refId k % 8 + 1) * 64) ≤ s.now) then
      s.sendReference k (s.nextCycle k)
    else s)

/-- `TT_SYNC_LOSS` (13 R366): a slave sees no reference for the cycle's length and 512 bit times. -/
def execTtSyncLoss (k : Fin 3) (s : State) : Out :=
  .next (
    let c := s.cans[k]
    if s.ttRuns k && s.val (canObj k) 0x0012 = 0 && c.sync && decide (c.refAt + s.bitTimes k (s.ttLen k + 512) ≤ s.now) then
      ((s.modCan k fun c => { c with sync := false, freeWindow := false }).canEvent k 0x8011).noteSources
    else s)

/-- A slot is missed (13 R364): `TT_MISSED`, its counter, event 0x8013. -/
def State.missSlot (s : State) (k : Fin 3) (p : Nat × Nat) : State :=
  let t := s.modMo k (slotObj p.2) fun m => { m with ttMissed := true }
  (t.modCan k fun c => { c with missed := upd c.missed (Fin.ofNat 32 p.1) sat32 }).canEvent k 0x8013 (p.1 + 1)

/-- A receive check (13 R364). -/
def State.checkSlot (s : State) (k : Fin 3) (p : Nat × Nat) : State :=
  let j := Fin.ofNat 32 p.1
  let n := (s.mo k (slotObj p.2)).stores
  let t := if n = s.cans[k].checked[j] then (s.modCan k fun c => { c with missed := upd c.missed j sat32 }).canEvent k 0x8014 (p.1 + 1) else s
  t.modCan k fun c => { c with checked := c.checked.set j n }

/-- `TT_MARK` (13 R364): the slots at a time mark act; `idle`, the bus has been idle since the mark. A start of frame more than `TT_TXWIN` bit
times behind the mark is no longer sent. -/
def execTtMark (k : Fin 3) (mark : Nat) (idle : Bool) (s : State) : Out :=
  .next (
    let c := s.cans[k]
    let here := (s.usedSlots k).filter fun p => slotMark p.2 = mark && slotActs p.2 c.cycle
    if !s.ttRuns k || !c.sync || here.isEmpty || decide (mark ≤ c.mark) || decide (s.now < c.refAt + s.bitTimes k mark) then s
    else
      let t := s.modCan k fun c => { c with mark := mark, freeWindow := here.any fun p => slotKind p.2 = 2 }
      let t := t.forEach (here.filter fun p => slotKind p.2 = 3) fun t p => t.checkSlot k p
      let sends := here.filter fun p => slotSends p.2
      let able := sends.filter fun p => let w := s.moCfg k (slotObj p.2)
        moValid w && moSend w && !(s.mo k (slotObj p.2)).clashOff
      let inWin := decide (s.now ≤ c.refAt + s.bitTimes k (mark + s.ttWin k))
      let win := if idle && inWin && s.canSends k && (s.onWire k).isNone then s.winner k (able.map fun p => slotObj p.2) else none
      let t := match win with
        | some o => t.startFrame k o true
        | none => t
      t.forEach (sends.filter fun p => win ≠ some (slotObj p.2)) fun t p => t.missSlot k p)

/-! ## The safe stream (13 R368, 12 R347) -/

/-- The object that carries the safe stream on a controller. -/
def State.safeMo (s : State) (k : Fin 3) : Option Nat := allMo.find? fun o => let w := s.moCfg k o
  moValid w && moSend w && moSafe w

/-- The exclusive slot of the safe stream's object on a controller in `TIMETABLE`. -/
def State.safeSlot (s : State) (k : Fin 3) : Option Nat :=
  if s.cans[k].mode ≠ 1 then none
  else match s.safeMo k with
    | some o => ((s.usedSlots k).find? fun p => slotKind p.2 = 0 && slotObj p.2 = o).map fun p => p.2
    | none => none

/-- The message is due on a controller's timetable: at the reference of a cycle in which the slot acts, or after the slot's interval while
no reference comes. -/
def State.safeDueTt (s : State) (k : Fin 3) (w : Nat) : Bool :=
  let c := s.cans[k]
  match s.io.txAt with
  | none => true
  | some t => if c.sync then slotActs w c.cycle && decide (t < c.refAt) else decide (t + s.bitTimes k (slotRepeat w * s.ttLen k) ≤ s.now)

def State.safeDue (s : State) : Bool :=
  match s.safeSlot 0, s.safeSlot 1 with
  | some w, _ => s.safeDueTt 0 w
  | none, some w => s.safeDueTt 1 w
  | none, none => match s.io.txAt with | some t => decide (t + ms (s.val blockObj 0x0172) ≤ s.now) | none => true

/-- The device's safe message (12 R342, R347). -/
def State.safeMessage (s : State) (seq : Nat) : List Byte :=
  let trips := mapBits 4 fun b => s.bankTrip (Fin.ofNat 4 b)
  let body := u8 (if trips = 0 then 1 else 0) ++ u8 (trips * 16 + mapBits 4 fun b => s.banks[Fin.ofNat 4 b].groupReady) ++
    u16 (mapBits 16 fun q => s.io.outputs[Fin.ofNat 16 q].state.energised) ++ u32 0 ++ u16 seq ++ u8 s.cans[(0 : Fin 3)].node ++ u8 0
  body ++ u32 (smCrc (s.val blockObj 0x0170) body)

/-- `SAFE_STREAM_SEND` (13 R368): identical bytes to both objects, and a request where the object is event-driven. -/
def execSafeStreamSend (s : State) : Out :=
  .next (if !(s.val blockObj 0x0170).testBit 31 || s.cans[(0 : Fin 3)].node ≠ s.cans[(1 : Fin 3)].node || !s.fwActs || s.mode.block = .baseCamp || !s.safeDue then s
  else
    let seq := (s.io.txSeq + 1) % 65536
    let d := s.safeMessage seq
    let t : State := { s with io := { s.io with txSeq := seq, txData := d, txAt := some s.now } }
    t.forEach ([0, 1] : List (Fin 3)) fun t k =>
      match t.safeMo k with
      | none => t
      | some o =>
        let w := t.moCfg k o
        let block := u32 (idWord (moId w) (moExt w) (moFd w) (moBrs w)) ++ u8 10 ++ u8 0 ++ u16 0 ++ u64 0 ++ d ++ List.replicate 48 0x00#8
        let t := t.writeMo k o block
        if moTt w then t else t.requestMo k o)

/-! ## Reception (13 R351, R356 to R358) -/

/-- A filter element matches a frame (13 R356, Tables 13-6 and 13-7). -/
def State.filterHits (s : State) (k : Fin 3) (n : Nat) (f : CanFrame) : Bool :=
  let o := 0x1840 + k.val
  let w := s.val o n
  let a := s.val o n 1 % 2 ^ 29
  let b := s.val o n 2 % 2 ^ 29
  bits w 31 30 ≠ 0 && (w.testBit 29 == f.ext) && (match bits w 31 30 with
    | 1 => decide (a ≤ f.id ∧ f.id ≤ b)
    | 2 => f.id = a || f.id = b
    | _ => ((f.id ^^^ a) &&& b) = 0)

/-- The `MO_DATA` block of a received frame (13 Table 13-8). -/
def CanRx.block (x : CanRx) : List Byte :=
  let f := x.frame
  let d := f.data.take (dlcLen f.fd f.dlc)
  u32 (idWord f.id f.ext f.fd f.brs) ++ u8 f.dlc ++ u8 (bitAt f.esi 0) ++ u16 0 ++ u64 x.stamp ++ d ++ List.replicate (64 - d.length) 0x00#8

/-- Stores a frame in a receive object (13 R357). -/
def State.storeFrame (s : State) (k : Fin 3) (o : Nat) (x : CanRx) : State :=
  let w := s.moCfg k o
  if !moValid w || moSend w then (s.modCan k fun c => { c with counts := upd c.counts 12 sat32 }).canEvent k 0x8016 o
  else
    let had := (s.mo k o).nd
    let t := if had && !w.testBit 53 then s
      else s.modMo k o fun m => { m with data := x.block, nd := true, stores := m.stores + 1, storedTick := some s.sysTicks }
    let t := if had then (t.modMo k o fun m => { m with lost := true }).canEvent k 0x8007 o else t
    if moIrq w then t.irqRaise (68 + 4 * k.val) else t

/-- The filter engine (13 R356): the first enabled element that matches decides. Remote frames are not stored (13 Table 13-1). -/
def State.filterFrame (s : State) (k : Fin 3) (x : CanRx) : State :=
  let f := x.frame
  if f.remote then s
  else match (List.range 256).find? fun n => s.filterHits k (n + 1) f with
    | none => s
    | some n =>
      let w := s.val (0x1840 + k.val) (n + 1)
      if w.testBit 28 then s else s.storeFrame k (bits w 6 0) x

/-- A frame received without error lowers the receive error counter as ISO 11898-1 has it: by one, from above 127 to a value between 119
and 127 (log 34). -/
def State.canGood (s : State) (k : Fin 3) : State :=
  let c := s.cans[k]
  if c.mode = 2 || c.rec_ = 0 then s
  else if c.rec_ ≤ 127 then s.modCan k fun c => (let c := { c with rec_ := c.rec_ - 1 }; { c with bus := c.byCounters })
  else
    let r := s.takeFree
    r.1.modCan k fun c => (let c := { c with rec_ := 119 + Config.freeWord r.2 % 9 }; { c with bus := c.byCounters })

end Sys2Proof.Machine
end

