-- ==== Sys2Proof/Machine/Reals.lean ====
section
/-!
DEFINITION. The real functions the rules of firmware and of the correlation engine name: square root, e^x, sine and tangent. Their values
are rational approximations, cut to multiples of 2^-96. DESIGN CHOICE (log 23): the spec gives no rounding of them.
-/

namespace Sys2Proof.Machine

/-- Greatest number whose square is at most `n`, by its bits from `k` down. -/
def rootBits (n : Nat) : Nat → Nat → Nat
  | 0, r => r
  | k + 1, r => rootBits n k (if (r + 2 ^ k) * (r + 2 ^ k) ≤ n then r + 2 ^ k else r)

/-- A number cut to a multiple of 2^-96. -/
def cutRat (x : Rat) : Rat := ((x * 2 ^ 96).floor : Rat) / 2 ^ 96

/-- Square root; 0 of a negative number. -/
def realSqrt (x : Rat) : Rat := (rootBits (x * 2 ^ 192).floor.toNat 192 0 : Rat) / 2 ^ 96

/-- The terms of a series from `t` on, each the one before it times `x`, divided by `(n + 1)` for e^x and by `(n + 1) (n + 2)` for the sine. -/
def series (x : Rat) (two : Bool) : Nat → Nat → Rat → Rat
  | 0, _, _ => 0
  | k + 1, n, t => t + series x two k (if two then n + 2 else n + 1) (cutRat (t * x / (if two then (n + 1) * (n + 2) else n + 1 : Nat)))

/-- `k` times squared. -/
def squared : Nat → Rat → Rat
  | 0, x => x
  | k + 1, x => squared k (cutRat (x * x))

/-- e^x, by the series of e^(x / 1,024). -/
def realExp (x : Rat) : Rat := squared 10 (series (x / 1024) false 30 0 1)

/-- 2 pi. -/
def twoPi : Rat := 628318530717958647692528676655900576839 / 10 ^ 38

/-- sin(2 pi x). -/
def sinTurns (x : Rat) : Rat :=
  let y := twoPi * (x - ratRoundHalf x)
  series (-(y * y)) true 24 1 y
where
  /-- nearest whole number -/
  ratRoundHalf (x : Rat) : Rat := ((x + 1 / 2).floor : Rat)

/-- tan(pi x). -/
def tanHalfTurns (x : Rat) : Rat := sinTurns (x / 2) / sinTurns (x / 2 + 1 / 4)

end Sys2Proof.Machine
end

