-- ==== Sys2Proof/Machine/Replies.lean ====
section
/-!
DEFINITION. Meanings of the commands that carry replies from the ports to the two consumers (spec/01 R16 to R20, spec/04 R113 to R116,
R127, spec/05 R156, R165, spec/11 R291 to R295, spec/09 R251, R252).
-/

namespace Sys2Proof.Machine

/-! ## Command counters (04 R115, R116) -/

/-- Classifies D of a CRC-valid reply and takes `ACC` as the prediction; a class other than in step asks for the node's settings to
be sent again. -/
def State.classify (s : State) (i : Fin 40) (e : PortEnd) (p : Fin 33) (bs : List Byte) : State :=
  let acc := replyAcc bs
  let d := (acc + 64 - s.ropes[i].predicted[p]) % 64
  let restart := (replyStatus bs).testBit 2
  let fresh := restart && !s.ropes[i].defaults.testBit p.val
  let t := s.modRope i fun r => { r with
    predicted := r.predicted.set p acc,
    defaults := if restart then r.defaults ||| 2 ^ p.val else clearBits r.defaults (2 ^ p.val),
    h1First := r.h1First || (fresh && p.val = 0) }
  let note (t : State) (seen : Nat) : State := t.modRope i fun r => { r with
    seen := r.seen ||| seen, counterNow := r.counterNow ||| 2 ^ p.val, resendMask := r.resendMask ||| 2 ^ p.val,
    resendFilter := r.resendFilter ||| 2 ^ p.val, resendConfig := r.resendConfig ||| 2 ^ p.val }
  if restart then (note t 0x18).portEvent i e 0x100B p.val
  else if d = 0 then t
  else if d = 63 then ((note t 8).countPos i 0 p.val).portEvent i e 0x1008 p.val
  else if d = 1 then ((note t 8).countPos i 1 p.val).portEvent i e 0x1009 p.val
  else ((note t 8).countPos i 2 p.val).portEvent i e 0x100A p.val (u8 d)

/-- A change of a monitor's corner in force (05 R156): the running sums of its cell-bands restart (07 R202). -/
def State.noteCorner (s : State) (i : Fin 40) (p code : Nat) (old : Vector Nat 32) : State :=
  if old[Fin.ofNat 32 (p - 1)] = code then s
  else s.modCorr fun c => { c with imped := c.imped.map fun q => (q.1, if q.1 / 64 = i.val * 64 + (p - 1) then q.2.restart else q.2) }

/-- What the status bytes of a reply report besides: a frame gap (04 R116), the corner in force (05 R156), the first `BAL_STOPPED`
(04 R136), `MON_HOT` (06 R174), and the result of an open-wire test acknowledged before it (06 R179). -/
def State.readStatus (s : State) (i : Fin 40) (e : PortEnd) (p : Nat) (st : Nat) : State :=
  let bit := 2 ^ p
  let t := if st.testBit 12 then s.portEvent i e 0x1016 p else s
  if p = 0 then t
  else
    let stopped := st.testBit 13
    let t := if stopped && !t.ropes[i].stopped.testBit p then t.portEvent i e 0x1015 p else t
    let t := t.modRope i fun r => { r with
      filters := r.filters.set (Fin.ofNat 32 (p - 1)) (bits st 9 7),
      stopped := if stopped then r.stopped ||| bit else clearBits r.stopped bit,
      resendMask := if stopped then r.resendMask ||| bit else r.resendMask,
      hot := if st.testBit 5 then r.hot ||| bit else clearBits r.hot bit }
    let t := t.noteCorner i p (bits st 9 7) s.ropes[i].filters
    let key := nodeKey i p
    match Sparse.get? t.bal.owWait key with
    | none => t
    | some m =>
      let t := t.modBal fun b => { b with owWait := Sparse.del b.owWait key }
      let map := Sparse.getD t.bal.owMap key 0
      if st.testBit 6 then
        (t.modBal fun b => { b with owMap := Sparse.put b.owMap key (map ||| m) }).portEvent i e 0x1019 p (u16 m)
      else t.modBal fun b => { b with owMap := Sparse.put b.owMap key (clearBits map m) }

/-! ## The port engine (04 R113) -/

/-- The present traverse's buffer is complete. -/
def State.atCompletion (s : State) : Bool := match s.trav.number with
  | some n => s.trav.bufs[Fin.ofNat 8 n].complete
  | none => true

/-- A reply that is not accepted, by its transaction. A far read that is queued may start at once on the other port. -/
def State.replyLost (s : State) (i : Fin 40) (e : PortEnd) (kind : ReadKind) (p : Fin 33) : State :=
  match kind with
  | .traverse => s.noteMissing i e p.val
  | .temp => s.modRope i fun r => { r with tempMissing := r.tempMissing ||| 2 ^ p.val }
  | .hk => s.modRope i fun r => { r with hkMissing := r.hkMissing ||| 2 ^ p.val }
  | .continuity => s.continuityDone i e false
  | _ => s

/-- Round-trip time of an immediate reply whose sync begins now (04 R112, R117). -/
def State.measured (s : State) (t : Option Txn) : Nat := match t with
  | some t => s.now - (t.end_ + t.first)
  | none => 0

/-- An accepted reply, by its transaction. `rtt` is the round-trip time of an immediate reply. -/
def State.replyTaken (s : State) (i : Fin 40) (e : PortEnd) (kind : ReadKind) (p : Fin 33) (rtt : Nat) (bs : List Byte) : State :=
  let bit := 2 ^ p.val
  let accepted := ofBytes ((replyData bs).drop 1 |>.take 1) = 0
  let key := nodeKey i p.val
  let got (t : State) : State := (t.modRope i fun r => { r with acceptedNow := r.acceptedNow ||| bit }).modEnd i e fun q => { q with accepted := q.accepted ||| bit }
  match kind with
  | .traverse | .retry => got s
  | .far =>
    if s.ropes[i].acceptedNow.testBit p.val then s
    else ((got s).modRope i fun r => { r with farGot := r.farGot ||| bit }).portStat i e 8
  | .temp => s.modRope i fun r => { r with tempNow := r.tempNow ||| bit }
  | .hk => s.modRope i fun r => { r with hkNow := r.hkNow ||| bit }
  | .continuity =>
    let h := s.ropes[i].hop e p.val
    let t := if s.ropes[i].mode = .split then s.modEnd i e fun q => { q with rtt := q.rtt.set (Fin.ofNat 33 h) rtt } else s
    t.continuityDone i e true
  | .echo => s.echoReply i e p.val rtt
  | .setBalance mask =>
    if accepted then (s.modBal fun b => { b with active := Sparse.put b.active key mask }).noteDeferred i p.val
    else s
  | .setFilter code =>
    if accepted && 1 ≤ p.val then
      s.modRope i fun r => { r with settle := Sparse.put r.settle p.val (s.now, s.now + settleTime code * 100000) }
    else s
  | .setConfig => s
  | .openWire mask =>
    if accepted then s.modBal fun b => { b with
      owWait := Sparse.put b.owWait key mask,
      deferred := (List.range 16).foldl (fun d j => if mask.testBit j then Sparse.del d (key * 16 + j) else d) b.deferred }
    else s

/-- A missing reply is counted (04 R113, R133, R141); one that a receive overrun cut counts against the port. -/
def State.noteTimeout (s : State) (i : Fin 40) (e : PortEnd) (p : Fin 33) (noLock : Bool) (cut : Bool := false) : State :=
  let t := (s.portStat i e 4).countPos i 4 p.val
  let t := if noLock then t.portStat i e 9 else t
  (t.portEvent i e 0x1006 p.val (s.whereBytes i e p.val)).countFailure i e p.val (noLock || cut)

/-- A reply that is missing: it is counted, and its transaction goes on without it (04 R113, R127). -/
def State.replyMissing (s : State) (i : Fin 40) (e : PortEnd) (kind : ReadKind) (p : Fin 33) (noLock : Bool) (cut : Bool := false) : State :=
  (s.noteTimeout i e p noLock cut).replyLost i e kind p

/-- Bytes that wait in a port's receive queue (01 Table 1-6). -/
def State.portFill (s : State) (i : Fin 40) (e : PortEnd) : Nat :=
  ((s.trav.portQ.filter fun f => !f.head.link && f.head.owner = i.val && f.head.end_ = e).map fun f => f.bytes.length).foldl (· + ·) 0

/-- `REPLY_RECEIVED` (04 R113, R115, R116, R119, R133, 01 R19), at the instant of its sync: the bytes go to the port receive queue, which
discards what its 256 bytes do not hold, and the port engine accepts the reply or counts it; one that begins late is missing. -/
def execReplyReceived (i : Fin 40) (e : PortEnd) (kind : ReadKind) (p : Fin 33) (data : List Byte) (s : State) : Out :=
  .next (if !s.expects i e kind p.val then s
  else
    let inTime := decide (s.now ≤ s.deadline i e p.val)
    let rtt := s.measured (s.ropes[i].port e).txn
    let bs := data.take (256 - s.portFill i e)
    let cut := decide (bs.length < data.length)
    let t := s.endReply i e p.val (s.now + us (data.length + 1))
    let t := if cut then (t.portStat i e 6).portEvent i e 0x1007 p.val (s.whereBytes i e p.val) else t
    let head : RxHead := { owner := i.val, end_ := e, kind := kind, expected := p.val, sync := s.sysTicks, inTime := inTime, cut := cut, link := false }
    let t := t.modTrav fun v => { v with portQ := v.portQ ++ [{ head := head, bytes := bs, begun := false }] }
    let u :=
      if !inTime then t.replyMissing i e kind p false cut
      else
        let v := s.judgeReply i kind p.val bs
        let t := if v ≠ .crc && replySrc bs = p.val then (t.classify i e p bs).readStatus i e p.val (replyStatus bs) else t
        match v with
        | .ok => (t.portStat i e 2).replyTaken i e kind p rtt bs
        | .stale => ((t.portStat i e 5).portEvent i e 0x1013 p.val (s.whereBytes i e p.val)).replyLost i e kind p
        | .other => t.replyLost i e kind p
        | .crc =>
          let t := ((t.portStat i e 3).countPos i 3 p.val).modRope i fun r => { r with seen := r.seen ||| 4 }
          let t := (t.portEvent i e 0x1005 p.val (s.whereBytes i e p.val)).countFailure i e p.val cut
          t.replyLost i e kind p
    u.runRope i)

/-- `REPLY_TIMEOUT` (04 R113, R127, R133): no sync by E_h + 4 us; `noLock` where no receiver lock was found either. -/
def execReplyTimeout (i : Fin 40) (e : PortEnd) (kind : ReadKind) (p : Fin 33) (noLock : Bool) (s : State) : Out :=
  .next (if !s.expects i e kind p.val || decide (s.now < s.deadline i e p.val) then s
  else ((s.endReply i e p.val s.now).replyMissing i e kind p noLock).runRope i)

/-! ## The distributor (01 R16 to R18) -/

/-- Slot flags of a frame (05 R165). -/
def slotFlags (h : RxHead) (overflow : Bool) : Nat :=
  bitAt h.inTime 0 + bitAt (h.end_ = .b) 1 + bitAt (h.kind = .far) 2 + bitAt (h.kind = .retry) 3 + bitAt h.cut 4 + bitAt overflow 5

/-- A slot as its first byte finds it. -/
def RawSlot.open_ (h : RxHead) (overflow : Bool) : RawSlot :=
  { bytes := [], flags := slotFlags h overflow, port := h.line, expected := h.expected, sync := h.sync }

/-- A slot with more bytes of its frame; bit 6 marks a frame cut for DMA alone (01 R17). -/
def RawSlot.add (w : RawSlot) (p : Piece) : RawSlot :=
  { w with bytes := w.bytes ++ p.bytes, flags := if p.dmaCut then w.flags ||| 64 else w.flags }

/-- The slot a frame's bytes go to: its position's, or an overflow slot, or none; a slow reply's own (05 R165, R168). -/
def State.openSlot (s : State) (h : RxHead) : State :=
  let k : Fin 8 := Fin.ofNat 8 (s.trav.number.getD 0)
  let base := h.owner * 64
  let fill (t : State) (x : Fill) : State := t.modTrav fun v => { v with fills := Sparse.put v.fills h.line x }
  if isTraverseRead h.kind then
    let b := s.trav.bufs[k]
    let put (j : Nat) (overflow : Bool) : State :=
      fill (s.modTrav fun v => { v with bufs := upd v.bufs k fun b => { b with slots := Sparse.put b.slots (base + j) (RawSlot.open_ h overflow) } })
        (.trav k (base + j))
    if (Sparse.get? b.slots (base + h.expected)).isNone then put h.expected false
    else if (Sparse.get? b.slots (base + 33)).isNone then put 33 true
    else if (Sparse.get? b.slots (base + 34)).isNone then put 34 true
    else fill (s.portStat (Fin.ofNat 40 h.owner) h.end_ 6) .nowhere
  else if isSlowRead h.kind then
    let j : Fin 2 := Fin.ofNat 2 (s.trav.slowCount + 1)
    let key := (base + h.expected) * 2 + (if h.kind = .temp then 0 else 1)
    fill (s.modTrav fun v => { v with slow := upd v.slow j fun b => { b with slots := Sparse.put b.slots key (RawSlot.open_ h false) } }) (.slow j key)
  else fill s .nowhere

/-- DMA writes one staged entry: a link value into the header, the bytes of a reply into its slot, a safe message nowhere (05 R163 to R168,
09 R252, 12 R343). -/
def State.dmaWrite (s : State) (p : Piece) : State :=
  let h := p.head
  if h.link then
    if p.dmaCut || h.safe then s
    else s.modTrav fun v => { v with
      bufs := upd v.bufs (Fin.ofNat 8 (v.number.getD 0)) fun b => { b with links := b.links.set h.owner (ofBytes (p.bytes.take 4)) } }
  else
    let s := if p.first then s.openSlot h else s
    let add (m : Sparse RawSlot) (key : Nat) : Sparse RawSlot := match Sparse.get? m key with
      | some w => Sparse.put m key (w.add p)
      | none => m
    match Sparse.getD s.trav.fills h.line .nowhere with
    | .trav k key => s.modTrav fun v => { v with bufs := upd v.bufs k fun b => { b with slots := add b.slots key } }
    | .slow j key => s.modTrav fun v => { v with slow := upd v.slow j fun b => { b with slots := add b.slots key } }
    | .nowhere => s

/-- DMA empties its staging queue. -/
def State.dmaDrain (s : State) : State := (s.forEach s.trav.dmaQ State.dmaWrite).modTrav fun v => { v with dmaQ := [] }

/-- Bytes in the DMA staging queue. -/
def State.dmaFill (s : State) : Nat := (s.trav.dmaQ.map fun p => p.bytes.length).foldl (· + ·) 0

/-- The staging queue takes an entry as far as its 16 KiB hold it; the rest of the frame is then discarded for DMA alone: IRQ 16, event
0x2005, `DMA_ERROR` (01 R17, 05 R167). -/
def State.stageDma (s : State) (p : Piece) : State :=
  let line := p.head.line
  let room := 16384 - s.dmaFill
  let done (t : State) : State := if p.last then t.modTrav fun v => { v with dmaDrop := NatSet.del v.dmaDrop line } else t
  if s.trav.dmaDrop.contains line then done s
  else if p.bytes.length ≤ room then s.modTrav fun v => { v with dmaQ := v.dmaQ ++ [p] }
  else
    let t := s.modTrav fun v => { v with
      dmaQ := v.dmaQ ++ [{ p with bytes := p.bytes.take room, dmaCut := true }], dmaDrop := NatSet.ins v.dmaDrop line, seen := v.seen ||| 0x400 }
    let lost := if p.head.link then 0 else 2 ^ p.head.owner
    done (if !p.head.link && isSlowRead p.head.kind then t.slowDmaError lost else t.dmaError lost)

/-- One service of a port (01 R18): up to 8 bytes of its oldest frame go to the tap and to DMA in the same cycle, unless the tap is full. -/
def State.servicePort (s : State) (line : Nat) : State :=
  if 64 ≤ s.trav.tapQ.length then s
  else
    match s.trav.portQ.find? fun f => f.head.line = line with
    | none => s
    | some f =>
      let p : Piece := { head := f.head, bytes := f.bytes.take 8, first := !f.begun, last := decide (f.bytes.length ≤ 8), dmaCut := false }
      let rest : RxFrame := { f with bytes := f.bytes.drop 8, begun := true }
      let t := s.modTrav fun v => { v with
        portQ := if p.last then v.portQ.erase f else v.portQ.replace f rest, tapQ := v.tapQ ++ [p] }
      t.stageDma p

/-- One service of every queue that is not empty (01 R17, R18). `stall` is a DMA stall: what is staged waits. -/
def State.serviceAll (s : State) (stall : Bool) : State :=
  let t := s.forEach ((List.range 86).map (· + 1)) State.servicePort
  if stall then t else t.dmaDrain

/-! ## The belay logic (11 R291 to R295) -/

/-- A link entry at the belay logic (09 R251, R252). -/
def State.belayLink (s : State) (owner : Nat) (bs : List Byte) : State :=
  let b : Fin 4 := Fin.ofNat 4 owner
  if bs.length ≠ 8 || crc16 (bs.take 6) ≠ ofBytes (bs.drop 6) || ofBytes ((bs.drop 4).take 2) ≠ s.trav.number.getD 0 % 65536 then s
  else
    let t := s.modBank b fun c => { c with vLink := ofBytes (bs.take 4), linkSeen := true, linkLost := false }
    t.forEach (t.stringsOf b) State.evalMatch

/-- An accepted traverse reply: position 0 supplies the currents and the string voltage, a monitor its 16 cells. -/
def State.belayTake (s : State) (i : Fin 40) (e : PortEnd) (src : Nat) (data : List Byte) : State :=
  let s := (s.modBStr i fun b => { b with seenNow := b.seenNow ||| 2 ^ src }).modTrav fun v => { v with
    belayGot := NatSet.ins v.belayGot (nodeKey i src * 2 + bitAt (e = .b) 0) }
  let i32At (k : Nat) : Int := toSigned 32 (ofBytes ((data.drop k).take 4))
  if src = 0 then
    let t := s.judgeCurrent i (i32At 0) (i32At 12)
    (t.modStr i fun c => { c with vString := some (ofBytes ((data.drop 8).take 4)) }).evalMatch i
  else s.forEach (List.range 16) fun s j => s.judgeCell i (16 * (src - 1) + j) (ofBytes ((data.drop (2 * j)).take 2))

/-- A frame the belay logic has put together (04 R114, 11 R291, R292): `window` is whether the port's traverse window stood open at its
sync. A `KIND` 0b00 outside the window is housekeeping. The expected-position test is `SRC` at most n_B, which the frame's own `SRC` raises
first (11 R292). -/
def State.belayFrame (s : State) (i : Fin 40) (e : PortEnd) (window inTime : Bool) (bs : List Byte) : State :=
  let src := replySrc bs
  if !replyCrcOk bs || 32 < src then s
  else
    let s := s.noteCount i src
    let good (tag : Nat) : Bool :=
      inTime && replyTag bs = tag && (replyStatus bs).testBit 15 && !s.ropes[i].disqualified.testBit src && decide (src ≤ s.bstr[i].nB)
    if replyKind bs = 0 then
      if window && good (s.trav.number.getD 0 % 256) && !s.bstr[i].seenNow.testBit src then s.belayTake i e src (replyData bs) else s
    else if replyKind bs = 1 then
      if good (s.trav.slowNumber.getD 0 % 256) && 1 ≤ src && !s.bstr[i].slowNow.testBit src then
        s.judgeTemps i src ((List.range 32).map fun k => toSigned 16 (ofBytes (((replyData bs).drop (2 * k)).take 2)))
      else s
    else s

/-- The traverse window of a port stands open (11 R291). -/
def State.windowOpen (s : State) (i : Fin 40) (e : PortEnd) : Bool := match (s.ropes[i].port e).windowEnd with
  | some t => decide (s.now < t)
  | none => true

/-- A tap entry belongs to a traverse triggered since the detection of R35: its sync came no earlier than that trigger (11 R299). -/
def State.newTraverseEntry (s : State) (h : RxHead) : Bool :=
  s.trav.number ≠ s.belay.missingFor && match s.trav.number with
    | some n => decide (s.trav.bufs[Fin.ofNat 8 n].ticks ≤ h.sync)
    | none => false

/-- The belay logic takes one entry from the tap (11 R291, R299, 12 R343): the bytes join those of its port's frame, which the end-of-frame
flag completes; the first entry of a new traverse ends the detection of R35. DEDUCED (log 143): a safe message is no tap entry of R35. -/
def State.belayPiece (s : State) (p : Piece) : State :=
  let h := p.head
  let i : Fin 40 := Fin.ofNat 40 h.owner
  let begun : Bool × List Byte := if p.first then (s.windowOpen i h.end_, []) else Sparse.getD s.belay.rx h.line (false, [])
  let bs := begun.2 ++ p.bytes
  let s := s.modBelay fun b => { b with
    lastTap := if h.safe then b.lastTap else s.now, missing := b.missing && (h.safe || !s.newTraverseEntry h), rx := if p.last then Sparse.del b.rx h.line else Sparse.put b.rx h.line (begun.1, bs) }
  if !p.last then s
  else if h.safe then s.safeTaken (Fin.ofNat 2 h.owner) (ofBytes (bs.take 4)) (bs.drop 4)
  else if h.link then s.belayLink h.owner bs
  else s.belayFrame i h.end_ begun.1 h.inTime bs

/-- The entries of the tap up to the first that ends a frame, and those behind it. -/
def splitTap : List Piece → List Piece × List Piece
  | [] => ([], [])
  | p :: rest => if p.last then ([p], rest) else let q := splitTap rest; (p :: q.1, q.2)

/-- `BELAY_REPLY_EVAL` (04 R114, 11 R291, R292): the belay logic takes the tap's entries up to the next end of a frame. -/
def execBelayReplyEval (s : State) : Out :=
  .next (
    let q := splitTap s.trav.tapQ
    let t := s.modTrav fun v => { v with tapQ := q.2 }
    if t.belay.released then t.forEach q.1 State.belayPiece else t)

end Sys2Proof.Machine
end

