-- ==== Sys2Proof/Machine/Traverse.lean ====
section
/-!
DEFINITION. Meanings of the traverse sequencer's commands (spec/05): the trigger, the end of a traverse and of a slow round with what
firmware and the belay logic do at it, and the loss of a link entry. A buffer completes at the next trigger at the latest (log 30).
-/

namespace Sys2Proof.Machine

def bufOf (n : Nat) : Fin 8 := Fin.ofNat 8 n
def State.curBuf (s : State) : Fin 8 := bufOf (s.trav.number.getD 0)
def State.modBuf (s : State) (k : Fin 8) (f : TravBuf → TravBuf) : State := s.modTrav fun v => { v with bufs := upd v.bufs k f }
def State.installed (s : State) : List (Fin 40) := allStr.filter fun i => s.strs[i].installed
/-- Alignment instant of a buffer, ns. -/
def State.bufAt (s : State) (b : TravBuf) : Nat := s.start.began + b.ticks * 10

/-! ## What firmware accepts (05 R165, R166, 04 R114) -/

/-- A slot that holds an accepted reply of position `p` in traverse `n`. -/
def State.slotGood (s : State) (i : Fin 40) (n p : Nat) (w : RawSlot) : Bool :=
  w.flags.testBit 0 && !w.flags.testBit 4 && !w.flags.testBit 6 && replyCrcOk w.bytes && replySrc w.bytes = p && replyKind w.bytes = 0 &&
    w.expected = p && replyTag w.bytes = n % 256 && (replyStatus w.bytes).testBit 15 && !s.ropes[i].disqualified.testBit p

/-- The first accepted reply of a position among its slot and the overflow slots, in arrival order. -/
def State.slotIn (s : State) (i : Fin 40) (b : TravBuf) (p : Nat) : Option RawSlot :=
  ([p, 33, 34].filterMap fun j => Sparse.get? b.slots (nodeKey i j)).find? fun w => s.slotGood i b.number p w

/-- The reply firmware uses for a position; none of a string that is unseen in the buffer (05 R167). -/
def State.slotOf (s : State) (i : Fin 40) (b : TravBuf) (p : Nat) : Option RawSlot :=
  if b.lost.testBit i.val then none else s.slotIn i b p

/-- A slot of the position was cut for DMA alone. -/
def slotCut (i : Fin 40) (b : TravBuf) (p : Nat) : Bool :=
  [p, 33, 34].any fun j => match Sparse.get? b.slots (nodeKey i j) with
    | some w => w.flags.testBit 6 && w.expected = p
    | none => false

/-! ## Publication (05 R162, R166, R167, R177) -/

def dataI32 (d : List Byte) (k : Nat) : Int := toSigned 32 (ofBytes ((d.drop k).take 4))

/-- The string block of an accepted H1 reply (05 Table 5-6); the recess and the flags stand since the trigger. -/
def StrBlock.take (b : StrBlock) (d : List Byte) : StrBlock :=
  { b with iLatch := dataI32 d 0, iMean := dataI32 d 4, vString := ofBytes ((d.drop 8).take 4), iCheck := dataI32 d 12,
           shunt := toSigned 16 (ofBytes ((d.drop 16).take 2)) }

/-- One cell of the estimator. -/
def State.modCell (s : State) (i : Fin 40) (e : Nat) (f : CellEst → CellEst) : State :=
  s.modEst fun x => { x with cells := Sparse.put x.cells (cellKey i e) (f (s.cellEst i e)) }

/-- On-time of a traverse, us (06 R177): T_eff - t_rec - 26 us where the trigger carried `BAL_PERMIT`. -/
def onTimeOf (b : TravBuf) (blk : StrBlock) : Nat := if blk.flags.testBit 2 then b.period - blk.recess * 100 - 26 else 0

/-- On-times of a traverse by cell (06 R177): the active channels of each monitor of the string. -/
def State.onTimes (s : State) (k : Fin 8) (i : Fin 40) : List (Nat × Nat) :=
  let b := s.trav.bufs[k]
  let on := onTimeOf b (Sparse.getD b.blocks i.val StrBlock.empty)
  if on = 0 then []
  else (s.monitorsOf i).flatMap fun p =>
    ((List.range 16).filter fun j => (Sparse.getD s.bal.active (nodeKey i p) 0).testBit j).map fun j => (cellKey i (16 * (p - 1) + j), on)

/-- Rest of a string (08 R223): the instant since which every accepted `I_MEAN` is below 0.02C, 1C as in force (08 R212). -/
def State.noteQuiet (s : State) (i : Fin 40) (iMean : Int) (at_ : Nat) : State :=
  let quiet := decide (50 * iMean.natAbs < (s.inForce i).1)
  s.modEst fun x => { x with strs := upd x.strs i fun e => { e with quietSince := if quiet then some (e.quietSince.getD at_) else none } }

/-- The position settles at an instant: it falls within the settle time after the acknowledgement of its corner (05 R156). -/
def Rope.settling (r : Rope) (p at_ : Nat) : Bool := match Sparse.get? r.settle p with
  | some w => decide (w.1 ≤ at_ ∧ at_ < w.2)
  | none => false

/-- Publishes one string of a buffer: flags, values, the string block with what the port engines noted (05 R164, R166), and `UNSEEN_MAP`
(04 Table 4-13; log 179). -/
def State.publishStr (s : State) (k : Fin 8) (i : Fin 40) : State :=
  let b := s.trav.bufs[k]
  let r := s.ropes[i]
  let ps := List.range (r.n + 1)
  let note := Sparse.getD b.notes i.val StrNote.empty
  let seen := ps.filter fun p => (s.slotOf i b p).isSome
  let flag (p : Nat) : Nat :=
    bitAt (seen.contains p) 0 + bitAt (!seen.contains p) 1 + bitAt (r.settling p (s.bufAt b)) 2 + bitAt (note.farGot.testBit p) 3 +
      bitAt (note.counter.testBit p) 4
  let old := Sparse.getD s.trav.meas i.val StrBlock.empty
  let base := { old with
    recess := note.recess, flags := bitAt note.far 0 + bitAt note.retry 1 + bitAt note.permit 2, seen := posBits seen }
  let blk := match s.slotOf i b 0 with | some w => base.take (replyData w.bytes) | none => base
  let t := s.modTrav fun v => { v with meas := Sparse.put v.meas i.val blk }
  let t := t.modRope i fun r => { r with unseenMap := posBits (ps.filter fun p => !seen.contains p) }
  let t := t.modBuf k fun b => { b with blocks := Sparse.put b.blocks i.val blk }
  let t := t.forEach ps fun t p =>
    let key := nodeKey i p
    (t.modTrav fun v => { v with
      posFlags := Sparse.put v.posFlags key (flag p),
      unseenFor := if seen.contains p then Sparse.del v.unseenFor key else Sparse.put v.unseenFor key (satAdd 255 (Sparse.getD v.unseenFor key 0) 1) }).modBuf k
      fun b => { b with flags := Sparse.put b.flags key (flag p) }
  let t := t.forEach (seen.filter fun p => 1 ≤ p) fun t p =>
    let d := match s.slotOf i b p with | some w => replyData w.bytes | none => []
    t.forEach (List.range 16) fun t j =>
      t.modTrav fun v => { v with cellV := Sparse.put v.cellV (cellKey i (16 * (p - 1) + j)) (ofBytes ((d.drop (2 * j)).take 2)) }
  let t := t.forEach (List.range (16 * r.n)) fun t e =>
    t.modBuf k fun b => { b with cells := Sparse.put b.cells (cellKey i e) (Sparse.getD t.trav.cellV (cellKey i e) 0) }
  let t := t.modBal fun x => { x with onTime := (t.onTimes k i).foldl (fun m q => Sparse.put m q.1 (Sparse.getD m q.1 0 + q.2)) x.onTime }
  if seen.contains 0 then t.noteQuiet i blk.iMean (s.bufAt b) else t

/-- The sample of a published traverse that the estimator needs (08 R215 to R222, R234). -/
def State.sampleOf (s : State) (k : Fin 8) : Sample :=
  let b := s.trav.bufs[k]
  let flags (i : Fin 40) (p : Nat) : Nat := Sparse.getD b.flags (nodeKey i p) 0
  let strs := s.installed.filter fun i => (flags i 0).testBit 0
  let cell (i : Fin 40) (e : Nat) : CellSample :=
    let p := e / 16 + 1
    { v := Sparse.getD b.cells (cellKey i e) 0, seen := (flags i p).testBit 0,
      usable := (flags i p).testBit 0 && !(flags i p).testBit 2 && !s.owMarked i p (e % 16) }
  { number := b.number, at_ := s.bufAt b,
    iLatch := strs.map fun i => (i.val, (Sparse.getD b.blocks i.val StrBlock.empty).iLatch),
    iMean := strs.map fun i => (i.val, (Sparse.getD b.blocks i.val StrBlock.empty).iMean),
    cells := s.installed.flatMap fun i => (List.range (16 * s.ropes[i].n)).map fun e => (cellKey i e, cell i e),
    charge := b.charge, on := s.installed.flatMap (s.onTimes k),
    closed := (s.installed.filter fun i => s.strs[i].state = .closed).map Fin.val, period := b.period,
    quiet := s.installed.filterMap fun i => (s.est.strs[i].quietSince).map fun t => (i.val, t) }

/-- The fields firmware writes into a buffer after the string blocks: the calendar at T0, and `PUBLISHED` (05 R162, R164, R166). -/
def TravBuf.publish (b : TravBuf) : TravBuf :=
  { b with published := true, utc := b.t0.1, ns := b.t0.2.1, quality := b.t0.2.2.1, source := b.t0.2.2.2 }

/-- Publishes a complete buffer: cells, flags, string blocks, time fields, `PUBLISHED` (05 R166). Samples stay until their step and 60 s after (08 R216). -/
def State.publish (s : State) (k : Fin 8) : State :=
  let t := s.forEach s.installed fun t i => t.publishStr k i
  let t := t.modBuf k TravBuf.publish
  let t := t.modTrav fun v => { v with published := some v.bufs[k].number }
  let p := t.sampleOf k
  let seen := s.installed.flatMap fun i => ((List.range (s.ropes[i].n + 1)).filter fun p => (Sparse.getD t.trav.posFlags (nodeKey i p) 0).testBit 0).map (nodeKey i)
  let t := t.modCorr fun c => { c with
    sdCount := c.sdCount + 1, sdSeen := seen.foldl (fun m k => Sparse.put m k (Sparse.getD m k 0 + 1)) c.sdSeen }
  t.modEst fun x =>
    let from_ := if x.running then min p.at_ (x.last.getD 0) else p.at_
    { x with window := p :: x.window.filter fun q => decide (from_ ≤ q.at_ + sec 61) }

/-- Complete buffers that wait for publication, oldest first; several only after a restart or a core swap (20 R507). -/
def State.unpublished (s : State) : List (Fin 8) :=
  let n := s.trav.number.getD 0
  (List.range 8).filterMap fun d =>
    let k := bufOf (n + d + 1)
    let b := s.trav.bufs[k]
    if b.used && b.complete && !b.published then some k else none

/-! ## The end of a traverse -/

/-- An end has nothing outstanding: its replies, its far read and its retries have ended or been stopped (05 R167, 04 R129). -/
def State.endDone (s : State) (i : Fin 40) (e : PortEnd) : Bool :=
  let r := s.ropes[i]
  let q := r.port e
  let stopped := decide (s.nextDue ≤ s.now + us 20)
  (r.served e).all (fun p => r.acceptedNow.testBit p || q.missing.testBit p) &&
    (stopped || q.far.isNone && !(q.txn.any fun t => isTraverseRead t.kind) &&
      (r.retriesDue e).all fun p => !s.jobFits i e (max q.free s.now) (r.rangeJob e .retry false 0x11 [p]))

/-- No reply and no link value waits between the ports and the belay logic. -/
def State.pathEmpty (s : State) : Bool := (s.trav.portQ.all fun f => f.head.safe) && s.trav.tapQ.all fun p => p.head.safe

/-- The buffer may complete. -/
def State.readsDone (s : State) : Bool :=
  s.pathEmpty && s.installed.all fun i => s.endDone i .a && s.endDone i .b

/-- The suffix of an end's positions, in hop order, from which on no reply came (04 R128): the positions before it and in it. -/
def Rope.cutOf (r : Rope) (e : PortEnd) : List Nat × List Nat :=
  let gone (p : Nat) : Bool := (r.port e).missing.testBit p && !(r.port e).accepted.testBit p
  let back := (r.served e).reverse
  ((back.dropWhile gone).reverse, (back.takeWhile gone).reverse)

/-- A break at an end (04 R128): the last position the end reached and the nearest one the far read returned. -/
def Rope.breakAt (r : Rope) (e : PortEnd) : Option (Option Nat × Option Nat) :=
  let c := r.cutOf e
  let back := c.2.filter fun p => r.farGot.testBit p
  let both := r.portA.missing ≠ 0 && r.portB.missing ≠ 0
  let sent := r.farSent.testBit e.bit
  if sent && !c.2.isEmpty && (both || !back.isEmpty) then some (c.1.getLast?, back.head?) else none

/-- The mode the breaks of a traverse call for (04 Table 4-11, R128). -/
def Rope.modeAfter (r : Rope) : Option (RopeMode × Option Nat × Option Nat) :=
  let hi := (r.positions r.portA.accepted).getLast?
  let lo := (r.positions r.portB.accepted).head?
  match r.breakAt .a, r.breakAt .b with
  | none, none => none
  | some (none, _), some (none, _) => none
  | some (none, _), _ => some (.singleB, none, none)
  | _, some (none, _) => some (.singleA, none, none)
  | _, _ =>
    match hi, lo with
    | some a, some b => some (.split, some a, some b)
    | some _, none => some (.singleA, none, none)
    | none, some _ => some (.singleB, none, none)
    | none, none => none

/-- Breaks and silence of one rope at the end of a traverse (04 R124, R128, Table 4-11). -/
def State.endRope (s : State) (i : Fin 40) : State :=
  let r := s.ropes[i]
  let t := s.modRope i fun r => { r with farLast := r.farNow, portA := { r.portA with far := none }, portB := { r.portB with far := none },
                                         silent := if r.acceptedNow = 0 then r.silent + 1 else 0 }
  let t := t.forEach [PortEnd.a, PortEnd.b] fun t e =>
    if r.farSent.testBit e.bit then
      let got := (r.served e).filter fun p => r.farGot.testBit p
      t.portEvent i e 0x100D 0 (u64 (posBits got))
    else t
  let t := if r.mode ≠ .ring then t else t.forEach [PortEnd.a, PortEnd.b] fun t e =>
    match r.breakAt e with
    | some x => t.noteBreak i e x.1 x.2
    | none => t
  let due := if r.mode = .ring then r.modeAfter else none
  let t := match due with | some d => t.modRope i fun r => { r with due := some d } | none => t
  if t.ropes[i].mode ≠ .dark && decide (s.unseenLimit i < t.ropes[i].silent) then t.modRope i fun r => { r with due := some (.dark, none, none) } else t

/-- The reports of a string at the end of a traverse: the bitmap of each port (01 R20), and with `SLOW_LATCH` the extremes and `I_LATCH`
(11 R293). -/
def State.reportsOf (s : State) (slow : Bool) (i : Fin 40) : List BelayReport :=
  let n := s.trav.number.getD 0 % 65536
  let map (side : Nat) : Nat := posBits ((List.range 33).filter fun p => s.trav.belayGot.contains (nodeKey i p * 2 + side))
  [⟨i.val, 0, n, map 0, none, 0, none⟩, ⟨i.val, 1, n, map 1, none, 0, none⟩] ++
    (if slow then [⟨i.val, 2, n, 0, s.bstr[i].extremes, s.bstr[i].iLatch, none⟩] else [])

/-- `BEL_V_MAX` and `BEL_V_MIN` follow the last report, which a slow latch's traverse posts (11 R293, Table 11-9). -/
def BelayStr.reported (slow : Bool) (b : BelayStr) : BelayStr :=
  match slow, b.extremes with
  | true, some x => { b with vMax := x.1, vMin := x.2 }
  | _, _ => b

/-- The belay logic's end of a traverse: unseen counts, the matches with a value missing, the extremes (04 R131, 09 R251, 11 R293). -/
def State.belayEnd (s : State) : State :=
  if !s.belay.released then s
  else
    let slow := s.trav.bufs[s.curBuf].slowLatch
    let t := s.forEach allStr fun t i => ((t.countUnseen i t.bstr[i].seenNow 1).endMatch i).modBStr i (BelayStr.reported slow)
    let t := t.modBelay fun b => { b with traverseSeen := true }
    t.forEach (t.installed.flatMap (t.reportsOf slow)) State.postReport

/-- Charge counters of one string at `COMPLETE` (07 R201). -/
def State.countCharge (s : State) (i : Fin 40) : State :=
  let b := s.trav.bufs[s.curBuf]
  let at_ := s.bufAt b
  match (Sparse.get? b.slots (nodeKey i 0)).filter (s.slotGood i b.number 0) with
  | none => s
  | some w =>
    let mean := dataI32 (replyData w.bytes) 4
    let c := Sparse.getD s.corr.charge i.val Charge.empty
    let put (t : State) (c : Charge) : State := t.modCorr fun x => { x with charge := Sparse.put x.charge i.val c }
    let t := s.modRope i fun r => { r with h1First := false, h1Last := some (b.number, at_) }
    match s.ropes[i].h1First, s.ropes[i].h1Last with
    | false, some (_, last) =>
      let q := mean.natAbs * ((at_ - last) / 1000)
      put t { c with upTo := b.ticks, counted := true,
                     dis := if 0 < mean then (c.dis + q) % 2 ^ 64 else c.dis, chg := if mean < 0 then (c.chg + q) % 2 ^ 64 else c.chg }
    | _, _ =>
      if c.counted then
        (put t { c with upTo := b.ticks, gaps := c.gaps ++ [(at_, (b.ticks - c.upTo) / 100)], gapBatch := true }).event 0x3005 (strObj i) 0
      else put t { c with upTo := b.ticks, counted := true }

/-! ## What firmware does at a traverse completion -/

/-- The belay-path window counter, its count and flag (01 R20, 11 R293). -/
def State.disagree (s : State) (code : Nat) (i : Fin 40) (data : List Byte) : State :=
  ((s.event code (strObj i) 0 data).modBelay fun b => { b with disagreeCount := sat32 b.disagreeCount, seen := b.seen ||| 0x20 }).occurrence 4 0

/-- The comparison of a port's bitmap with firmware's acceptance of the same replies (01 R20); positions with a slot cut for DMA alone
are left out. -/
def State.compareBitmap (s : State) (i : Fin 40) (b : TravBuf) (r : BelayReport) : State :=
  let own (p : Nat) : Bool := match s.slotIn i b p with
    | some w => w.flags.testBit 1 = decide (r.kind = 1)
    | none => false
  match (List.range 33).filter fun p => own p != r.map.testBit p && !slotCut i b p with
  | [] => s
  | ps => s.disagree 0x6010 i (u8 (portNo i (if r.kind = 1 then .b else .a)) ++ u64 (posBits ps))

/-- The comparison of n_B with `MONITOR_COUNT` (11 R293). -/
def State.compareCount (s : State) (i : Fin 40) : State :=
  let wrong := decide (s.bstr[i].nB ≠ s.val (strObj i) 0x0012)
  let t := s.modBStr i fun x => { x with nMismatch := wrong }
  if wrong && !s.bstr[i].nMismatch then
    (t.modBelay fun x => { x with seen := x.seen ||| 1 }).event 0x6012 (strObj i) 0 (u8 s.bstr[i].nB ++ u8 (s.val (strObj i) 0x0012))
  else t

/-- The comparison of a string's report with its published values of the same traverse (11 R293); a string that is unseen or has a slot
cut for DMA alone is left out. -/
def State.compareExtremes (s : State) (i : Fin 40) (b : TravBuf) (r : BelayReport) : State :=
  let blk := Sparse.getD b.blocks i.val StrBlock.empty
  let seen := (s.monitorsOf i).filter fun p => blk.seen.testBit p
  let vs := seen.flatMap fun p => (List.range 16).map fun j => Sparse.getD b.cells (cellKey i (16 * (p - 1) + j)) 0
  let own : Option (Nat × Nat) := match vs with | [] => none | v :: rest => some (rest.foldl max v, rest.foldl min v)
  let cut := (List.range 33).any fun p => slotCut i b p
  let theirs := r.extremes.getD (0, 0)
  if b.lost.testBit i.val || cut || (r.extremes = own && (!blk.seen.testBit 0 || r.iLatch = blk.iLatch)) then s
  else s.disagree 0x6011 i (u16 (own.getD (0, 0)).1 ++ u16 (own.getD (0, 0)).2 ++ u16 theirs.1 ++ u16 theirs.2)

/-- Firmware takes one report; a traverse whose buffer has been opened again cannot be compared any more. -/
def State.takeReport (s : State) (r : BelayReport) : State :=
  let i : Fin 40 := Fin.ofNat 40 r.str
  let b := s.trav.bufs[bufOf r.number]
  if r.kind = 4 then s
  else if r.kind = 3 then s.compareCount i
  else if !b.published || b.number % 65536 ≠ r.number then s
  else if r.kind = 2 then (s.compareExtremes i b r).compareCount i
  else s.compareBitmap i b r

/-- Firmware takes every report that waits. -/
def State.takeReports (s : State) : State :=
  (s.modBelay fun b => { b with reports := [] }).forEach s.belay.reports State.takeReport

/-- The conditions of R241. -/
def State.readyOk (s : State) (i : Fin 40) : Bool :=
  let b := s.bankOf i
  let bs := s.banks[b].state
  (s.mode.block = .armed || s.mode.block = .run) && s.ropes[i].mode ≠ .dark &&
    (List.range (s.ropes[i].n + 1)).all (fun p => (Sparse.getD s.trav.posFlags (nodeKey i p) 0).testBit 0) &&
    s.envClear i && !s.strs[i].trip && !s.strs[i].lockout && s.gates[chS i].record.isNone && s.banks[b].groupReady &&
    (bs = .dark || bs = .precharging || bs = .live) && !s.supply.pfw

/-- Moves a string between ISOLATED, READY and MATCHING (09 R241); a pre-charge whose source leaves MATCHING ends (09 R259). -/
def State.updateReady (s : State) (i : Fin 40) : State :=
  let st := s.strs[i].state
  let ok := s.readyOk i
  if st = .isolated && ok then s.setStr i .ready
  else if (st = .ready || st = .matching) && !ok then
    let b := s.bankOf i
    if s.pcActive b && s.banks[b].source = some i then s.endPrecharge b 0x4025 6
    else (s.openS i).setStr i .isolated
  else s

/-- Places the close request of a MATCHING string with `MATCH_OK` set (09 R253, R254, 03 R96) in the belay request queue of 32 entries; a
full queue refuses it, and firmware tries again at the next completion (01 Table 1-6). After a processor restart no request comes under a
pass taken before it, which expires (03 R91). -/
def State.placeRequest (s : State) (i : Fin 40) : State :=
  let b := s.bankOf i
  let c := s.strs[i]
  let turn := if s.banks[b].state = .precharging then s.banks[b].source = some i else s.banks[b].state = .live
  let room := decide ((allStr.filter fun k => s.strs[k].requested).length < 32)
  if c.state = .matching && c.matchOk && (s.closePass i).any (fun p => !p.orphan) && !c.waiting && !c.requested && turn && room && !s.health.suspect && !s.supply.pfw then
    s.modStr i fun c => { c with requested := true }
  else s

/-- A bank at a traverse completion: DISCHARGING becomes DARK below `DARK_V`, and an overcharged link faults (09 Table 9-8). -/
def State.updateBank (s : State) (b : Fin 4) : State :=
  let c := s.banks[b]
  let beyond := match c.lastSource with
    | some i => decide ((s.strs[i].vString.getD 0) + s.bval (bankObj b) 0x0010 < c.vLink) && s.strs[i].vString.isSome
    | none => false
  if !c.linkSeen then s
  else if c.state = .discharging && decide (c.vLink < s.val (bankObj b) 0x0015) then (s.event 0x4026 (bankObj b) 0).setBank b .dark
  else if (c.state = .precharging || c.state = .discharging || c.state = .dark) && beyond then s.faultBank b 3
  else s

/-- The block summary maps (15 R413). -/
def State.summarise (s : State) : State :=
  let of (p : Fin 40 → Bool) : Nat := mapBits 40 fun k => p (Fin.ofNat 40 k)
  let is (st : StrState) : Nat := of fun i => s.strs[i].state = st
  let t := (((s.setVal blockObj 0x0011 0 (is .closed)).setVal blockObj 0x0012 0 (is .tripped)).setVal blockObj 0x0013 0 (is .lockedOut)).setVal
    blockObj 0x0014 0 (is .excluded)
  let t := t.setVal blockObj 0x0015 0 (of fun i => s.strs[i].installed && (List.range (s.ropes[i].n + 1)).any fun p =>
    (Sparse.getD s.trav.posFlags (nodeKey i p) 0).testBit 1)
  t.forEach allStr fun t i => t.setVal blockObj 0x0016 i.val s.strs[i].state.code

/-- Firmware at a traverse completion (05 R166, 01 R20, 11 R293, 09 R241, R253, R255, 15 R413). -/
def State.firmwareEnd (s : State) : State :=
  let t := (s.forEach s.unpublished State.publish).takeReports.decideHeld.repairMirror
  let t := t.forEach (t.installed.filter fun i => !t.strs[i].exclusion) State.updateReady
  let t := t.forEach allBank State.updateBank
  let t := t.forEach allStr State.placeRequest
  t.summarise

/-- The learned data are selected and loaded after the first traverse of a start, and the estimator starts from them (03 Table 3-1, R75,
R87, 17 R454): `STARTUP_STEP` 6. -/
def State.startLearned (s : State) : State :=
  if s.start.step = 5 then
    let t := s.takeTables.selectLearned.markWarn
    let t := ((t.modEst fun e => { e with running := true }).openSdWindow).modCorr fun r => { r with sdAt := t.start.began }
    t.modStart fun a => { a with step := if t.trav.slowDone then 7 else 6 }
  else s

/-- An accepted slow reply in the slow buffer. -/
def slowReply (w : Option RawSlot) (p kind tag : Nat) : Option (List Byte) :=
  match w with
  | some w => if replyCrcOk w.bytes && replySrc w.bytes = p && replyKind w.bytes = kind && replyTag w.bytes = tag % 256 &&
      (replyStatus w.bytes).testBit 15 && !w.flags.testBit 6 then some (replyData w.bytes) else none
  | none => none

/-- Publishes the slow values of one monitor (15 R416), and the temperatures of its cells (08 R213). -/
def State.publishSlow (s : State) (b : SlowBuf) (i : Fin 40) (p : Nat) : State :=
  let slot (k : Nat) : Option RawSlot := if b.lost.testBit i.val then none else Sparse.get? b.slots (nodeKey i p * 2 + k)
  let temp := slowReply (slot 0) p 1 b.number
  let hk := slowReply (slot 1) p 0 b.number
  let t := s.modTrav fun v => { v with slowFlags := Sparse.put v.slowFlags (nodeKey i p) (bitAt temp.isSome 0 + bitAt hk.isSome 1) }
  let t := match hk with
    | none => t
    | some d => t.forEach (List.range 16) fun t h =>
        t.modTrav fun v => { v with hk := Sparse.put v.hk (cellKey i (16 * (p - 1) + h)) (ofBytes ((d.drop (2 * h)).take 2)) }
  let read (k : Nat) : Option Int := temp.map fun d => toSigned 16 (ofBytes ((d.drop (2 * k)).take 2))
  let t := if temp.isNone then t else t.forEach (List.range 32) fun t k =>
    t.modTrav fun v => { v with tRaw := Sparse.put v.tRaw (i.val * 2048 + 32 * (p - 1) + k) ((read k).getD 0) }
  t.forEach (List.range 16) fun t j =>
    match [read (2 * j), read (2 * j + 1)].filterMap fun x => x.filter thermOk with
    | [] => t.modCell i (16 * (p - 1) + j) fun c => { c with tempNow := false }
    | v :: rest => t.modCell i (16 * (p - 1) + j) fun c => { c with
        temp := ((rest.foldl (· + ·) v : Int) : Rat) / ((1 + rest.length : Nat) : Rat), tempNow := true }

/-- Firmware on a completed slow round: slow values, masks (06 R174 to R176), and the mirror's digest (11 R310). -/
def State.firmwareSlow (s : State) (k : Fin 2) : State :=
  let b := s.trav.slow[k]
  let t := s.forEach s.installed fun t i => t.forEach (t.monitorsOf i) fun t p => t.publishSlow b i p
  let t := t.modTrav fun v => { v with
    slowTrav := b.number, slowPending := none,
    slow := upd v.slow k fun b => { b with published := true, utc := b.t0.1, ns := b.t0.2.1, quality := b.t0.2.2.1, source := b.t0.2.2.2 } }
  let t := t.formMasks
  t.modBelay fun x => { x with mirrorPosted := some (digestOf x.mirror, x.mirrorCommits) }

/-- The last complete slow round, once firmware acts (08 R213). -/
def State.takeSlow (s : State) : State :=
  match s.trav.slowPending with
  | some k => if s.fwActs then s.firmwareSlow k else s
  | none => s

/-- Completes the traverse buffer (05 R167); firmware that acts again after a restart or a core swap takes up the slow round that completed
meanwhile (08 R213, 20 R507). -/
def State.complete (s : State) : State :=
  let k := s.curBuf
  let t := s.dmaDrain
  let t := t.forEach t.installed fun t i =>
    let r := t.ropes[i]
    t.modBuf k fun b =>
      let n := Sparse.getD b.notes i.val StrNote.empty
      { b with notes := Sparse.put b.notes i.val { n with far := r.farNow, retry := r.retryNow, farGot := r.farGot, counter := r.counterNow } }
  let t := (t.modBuf k fun b => { b with complete := true, done := t.sysTicks }).irqRaise 11
  let t := t.modTrav fun v => { v with travDone := true }
  let t := t.forEach t.installed State.endRope
  let t := t.belayEnd
  let t := t.forEach allBank fun t b => t.modBank b fun c => { c with linkMiss := if c.linkSeen then 0 else c.linkMiss + 1 }
  let t := t.forEach t.installed State.countCharge
  let t := t.modBuf k fun b => { b with charge := t.installed.map fun i =>
    let c := Sparse.getD t.corr.charge i.val Charge.empty
    (i.val, (c.dis, c.chg)) }
  if t.fwActs then t.takeSlow.firmwareEnd.startLearned else t

/-- `TRAVERSE_COMPLETE` (05 R167). -/
def execTraverseComplete (s : State) : Out :=
  .next (if s.trav.number.isSome && s.trav.bufs[s.curBuf].used && !s.trav.bufs[s.curBuf].complete && s.readsDone then s.complete else s)

/-! ## The trigger -/

/-- The traverse sequencer may issue a trigger (05 R148, 03 Table 3-1, 20 Table 20-4). -/
def State.mayTrigger (s : State) : Bool :=
  s.start.fw = .running && !s.start.thermalHold && s.mode.block ≠ .safeHold && (s.mode.block ≠ .baseCamp || s.bal.exiting) &&
    (s.trav.running || (s.rollCallsDone && decide (4 ≤ s.start.step))) && (s.trav.number.isNone || decide (s.nextDue ≤ s.now))

/-- The frames still under way belong to the old traverse: reception and far reads stop, the rest is missing (04 R129, 05 R158). -/
def State.cutShort (s : State) : State :=
  let t := s.forEach s.installed fun t i => t.forEach [PortEnd.a, PortEnd.b] fun t e =>
    let r := t.ropes[i]
    t.modEnd i e fun p => { p with far := none, missing := p.missing ||| posBits ((r.served e).filter fun q => !r.acceptedNow.testBit q) }
  t.complete

/-- A traverse still open when its successor is due ends late (05 R167): `OVERRUN`, IRQ 12, event 0x2002. -/
def State.overrun (s : State) : State :=
  if s.trav.number.isNone || !s.trav.bufs[s.curBuf].used || s.trav.bufs[s.curBuf].complete then s
  else
    let t := (s.modBuf s.curBuf fun b => { b with overrun := true }).cutShort
    ((t.modTrav fun v => { v with counts := upd v.counts 0 sat32, seen := v.seen ||| 0x2000 }).irqRaise 12).event 0x2002 blockObj 0
      (u32 (s.trav.number.getD 0))

/-- The effective period changed (05 R150): event 0x2001, and the communication-loss timeout goes out again (04 R136). -/
def State.notePeriod (s : State) : State :=
  let p := s.effPeriod
  let t := s.modTrav fun v => { v with effLast := p, period := p }
  if s.trav.effLast = 0 || s.trav.effLast = p then t
  else (t.event 0x2001 blockObj 0 (u32 p)).forEach s.installed State.broadcastConfig

/-- A monitor's `READ_TEMP` and `READ_HK` have been read or found missing in the present slow round (05 R160). -/
def Rope.slowEnded (r : Rope) (p : Nat) : Bool :=
  (r.tempNow.testBit p || r.tempMissing.testBit p) && (r.hkNow.testBit p || r.hkMissing.testBit p)

/-- Monitors the slow round has not read by the next slow latch (05 R160). -/
def State.missedSlow (s : State) : State :=
  if !s.trav.slowOpen then s
  else
    let t := s.forEach s.installed fun t i =>
      t.forEach ((t.monitorsOf i).filter fun p =>
          !t.ropes[i].slowEnded p && (t.ropes[i].serverOf p).isSome) fun t p =>
        (t.modTrav fun v => { v with counts := upd v.counts 3 sat32, seen := v.seen ||| 0x200 }).event 0x2006 (strObj i) p (u8 (i.val + 1) ++ u8 p)
    t.forEach allStr State.countSlowUnseen

/-- The calendar of this instant: UTC in ms, ns within it, time quality and source (05 R162). -/
def State.calendar (s : State) : Nat × Nat × Nat × Nat := (s.utc, (s.utcNs % 1000000).toNat, s.tq, s.clock.source)

/-- What a rope begins a slow round with: nothing read, its checks to be sent. `RING_INTACT` stands for the round that ends (04 R123,
Table 4-14). -/
def Rope.newRound (r : Rope) : Rope :=
  { r with tempNow := 0, hkNow := 0, tempMissing := 0, hkMissing := 0, contSent := 0, contA := none, contB := none,
           intact := r.intact && r.contA = some true,
           portA := { r.portA with echoes := [], echoSent := 0 }, portB := { r.portB with echoes := [], echoSent := 0 } }

/-- A slow latch (05 R159, R168, 11 R298, R308, R310). The model's choice: the slow-round count of R168 is that before the round latched, so
the first round after a start takes buffer 0 (log 134). -/
def State.slowLatch (s : State) (tn : Nat) (align : Bool) : State :=
  let t := s.missedSlow
  let p := ms (t.val blockObj 0x0053)
  let due := t.trav.slowDue.getD t.now
  let n := t.trav.slowCount + 1
  let t := t.modTrav fun v => { v with
    slowNumber := some tn, slowCount := n, slowPeriod := t.val blockObj 0x0053, slowDue := some (due + ((t.now - due) / p + 1) * p), slowOpen := true,
    slowPending := v.slowPending.filter fun k => k ≠ Fin.ofNat 2 (n + 1),
    slow := v.slow.set (Fin.ofNat 2 (n + 1)) { SlowBuf.empty with
      number := tn, alignError := align, ticks := t.sysTicks, t0 := t.calendar, period := v.period } }
  let t := t.forEach allStr fun t i => (t.modRope i Rope.newRound).modBStr i fun b => { b with slowNow := 0, thermNow := false }
  let t := t.checkCopies
  t.modBelay fun b => { b with digest := digestOf b.store, digestCommits := b.commits, slowAt := t.now }

/-- Slow-round boundaries (05 R159): the first lies one period after the first trigger, which carries no latch. -/
def State.slowBoundary (s : State) (tn : Nat) (align : Bool) : State × Bool :=
  match s.trav.slowDue with
  | none => (s.modTrav fun v => { v with slowDue := some (s.now + ms (s.val blockObj 0x0053)), slowPeriod := s.val blockObj 0x0053 }, false)
  | some d => if d ≤ s.now then (s.slowLatch tn align, true) else (s, false)

/-- Opens buffer TN (05 R162 to R164); an unpublished traverse it overwrites is lapped. -/
def State.openBuf (s : State) (tn : Nat) (slow align : Bool) : State :=
  let k := bufOf tn
  let old := s.trav.bufs[k]
  let t := if old.used && !old.published then
      (s.modTrav fun v => { v with counts := upd v.counts 1 sat32, seen := v.seen ||| 0x1000 }).event 0x2003 blockObj 0 (u32 old.number)
    else s
  t.modBuf k fun _ => { TravBuf.empty with
    number := tn, used := true, alignError := align, slowLatch := slow, ticks := t.sysTicks, t0 := t.calendar, period := t.trav.period, modes := allStr.map fun i => t.ropes[i].mode.code }

/-- A port at T0: nothing missing and nothing awaited, its line free 1 us after the trigger's end, its traverse window open (11 R291). -/
def Port.newTraverse (q : Port) (t0 : Nat) : Port :=
  { q with missing := 0, accepted := 0, far := none, txn := none, free := t0 + us 14, windowEnd := none }

/-- The `TRIGGER` of one rope (05 R147, R153, 06 R173): its replies are expected in the slots of the traverse read (04 R112). -/
def State.triggerRope (s : State) (k : Fin 8) (tn : Nat) (slow : Bool) (i : Fin 40) : State :=
  let r := s.ropes[i]
  let base := s.val blockObj 0x0052
  let rec_ := s.recessOf i
  let withheld := decide (255 < rec_) || decide (s.trav.period < (rec_ + 1) * 100)
  let permit := s.balAdmits i && !withheld
  let t := s.modRope i fun r => { r with
    acceptedNow := 0, farGot := 0, counterNow := 0, farNow := false, retryNow := false, retried := 0, farSent := 0,
    filterTried := 0, portA := r.portA.newTraverse s.trav.t0, portB := r.portB.newTraverse s.trav.t0,
    recess := rec_, lengthened := decide (base < rec_), withheld := withheld, permit := permit }
  let t := if base < rec_ && (!r.lengthened || r.recess ≠ rec_) then t.event 0x2007 (strObj i) 0 (u16 rec_) else t
  let t := if withheld && !r.withheld then t.event 0x2008 (strObj i) 0 (u16 rec_) else t
  let t := if r.permit && !permit then t.zeroString i else t
  let t := t.noteShort i
  let t := t.modBuf k fun b => { b with notes := Sparse.put b.notes i.val { StrNote.empty with recess := min 255 rec_, permit := permit } }
  let carries (e : PortEnd) : Bool := !(r.port e).failed
  t.forEach ([PortEnd.a, PortEnd.b].filter carries) fun t e =>
    let ps := t.ropes[i].served e
    let t := (t.sendFrame i e false 0x10 0x3F (triggerPayload tn rec_ (bitAt permit 0 + bitAt slow 1) (s.trav.period / 1000))).predict i ps
    (t.portStat i e 1 ps.length).modEnd i e fun q =>
      if ps.isEmpty then q
      else { q with txn := some { kind := .traverse, due := ps.zip (List.range ps.length), end_ := s.trav.t0 + us 13,
                                  first := us 10 + (ps.length - 1) * q.sent } }

/-- The link-voltage entries of the instant T0 (09 R252). -/
def State.linkEntries (s : State) (tn : Nat) (links : Vector (Option Nat) 4) : State :=
  s.forEach allBank fun t b =>
    let t := t.modBank b fun c => { c with linkSeen := false }
    match links[b] with
    | none => t
    | some v =>
      let d := u32 v ++ u16 (tn % 65536)
      let head : RxHead := { owner := b.val, end_ := .a, kind := .traverse, expected := 0, sync := t.sysTicks, inTime := true, cut := false, link := true }
      t.modTrav fun x => { x with portQ := x.portQ ++ [{ head := head, bytes := d ++ u16 (crc16 d), begun := false }] }

/-- A reception a busy line carries at T0 is abandoned and counted as missing (05 R158); no far read follows in the ended traverse. -/
def State.abandon (s : State) (n : Nat) : State :=
  let i : Fin 40 := Fin.ofNat 40 (n - 1)
  let e : PortEnd := if n ≤ 40 then .a else .b
  match (s.ropes[i].port e).txn with
  | none => s
  | some t =>
    match t.due with
    | [] => s
    | d :: _ =>
      let p : Fin 33 := Fin.ofNat 33 d.1
      if isTraverseRead t.kind then (s.noteTimeout i e p false).modEnd i e fun q => { q with missing := q.missing ||| 2 ^ d.1 }
      else s.replyMissing i e t.kind p false

/-- The ports begin a new list of frames. -/
def State.clearFrames (s : State) : State :=
  s.forEach allStr fun t i => t.modRope i fun r => { r with portA := { r.portA with frames := [] }, portB := { r.portB with frames := [] } }

/-- Copies of committed records whose CHECK has come to fail (11 R308). -/
def State.spoilCopies (s : State) (bad : List (Nat × Nat)) : State :=
  s.modBelay fun b => { b with badCopies := (bad.filter fun p => (Sparse.get? b.store p.1).isSome).foldl (fun m p =>
    Sparse.put m p.1 (Sparse.getD m p.1 0 ||| p.2)) b.badCopies }

/-- `TRAVERSE_TRIGGER_ISSUE` (05 R142 to R163): `links` are the link voltages at T0, none where the sense posts no entry; `busy` are the
ports whose line has not been idle for 1 us; however many they are, the model counts one occurrence and its event names the first (05 R158;
log 135). `SET_SERVE` of a change at this very boundary go out ahead of the `TRIGGER` (log 180). `bad` are the copies of belay records whose CHECK
has come to fail, by record: bit 0 copy 1, bit 1 copy 2; the next slow latch finds them (11 R308, 12 R318). -/
def execTraverseTriggerIssue (links : Vector (Option Nat) 4) (busy : List Nat) (bad : List (Nat × Nat)) (s : State) : Out :=
  .next (if !s.mayTrigger then s
  else
    let s := s.spoilCopies bad
    let t := (s.clearFrames.forEach busy State.abandon).overrun.boundary
    let t := t.forEach t.installed fun t i =>
      (t.flushCasts i .a fun c => decide (c.code = 0x04)).flushCasts i .b fun c => decide (c.code = 0x04)
    let t := match t.bal.modeNext with
      | some m => t.modBal fun b => { b with mode := m, modeNext := none, allDue := true }
      | none => t
    let t := t.takeSource
    let tn := t.trav.next
    let t := t.modTrav fun v => { v with number := some tn, next := (tn + 1) % 2 ^ 32, t0 := t.now, running := true, belayGot := [] }
    let t := t.modCorr fun c => { c with next := some (c.next.getD tn) }
    let t := t.notePeriod
    let align := !busy.isEmpty
    let r := t.slowBoundary tn align
    let t := r.1.openBuf tn r.2 align
    let t := t.forEach t.installed (fun t i => t.triggerRope (bufOf tn) tn r.2 i)
    let t := t.forEach allStr fun t i => t.modBStr i fun b => { b with seenNow := 0, extremes := none }
    let t := t.linkEntries tn links
    let t := if align then ((t.modTrav fun v => { v with counts := upd v.counts 2 sat32, seen := v.seen ||| 0x800 }).irqRaise 15).event 0x2004 blockObj 0
        (u32 tn ++ u8 (busy.headD 0))
      else t
    let t := t.irqRaise 10
    if t.start.step = 4 then t.modStart fun a => { a with step := 5 } else t)

/-! ## Loss of the link sense (09 Table 9-8) -/

/-- `LINK_SENSE_LOST`: no accepted link entry in three consecutive traverses. -/
def execLinkSenseLost (b : Fin 4) (s : State) : Out :=
  .next (if s.banks[b].linkMiss < 3 then s
  else if s.banks[b].state = .live then s.modBank b fun c => { c with linkLost := true }
  else if s.banks[b].state = .faulted then s
  else s.faultBank b 5)

/-! ## The slow round (05 R160, R168) -/

/-- Every served monitor of every installed rope is read or missing. -/
def State.slowReadsDone (s : State) : Bool :=
  s.pathEmpty && s.installed.all fun i =>
    let r := s.ropes[i]
    (s.monitorsOf i).all fun p => (r.serverOf p).isNone || r.slowEnded p

/-- `SLOW_ROUND_COMPLETE` (05 R160): the slow buffer is complete, IRQ 13. -/
def execSlowRoundComplete (s : State) : Out :=
  .next (if s.trav.slowOpen && s.slowReadsDone then
    let k : Fin 2 := Fin.ofNat 2 (s.trav.slowCount + 1)
    let t := s.dmaDrain
    let t := (t.modTrav fun v => { v with slow := upd v.slow k fun b => { b with complete := true, done := t.sysTicks }, slowOpen := false, slowDone := true, slowPending := some k }).irqRaise 13
    let t := t.forEach allStr fun t i => (t.countSlowUnseen i).modBStr i fun b => { b with slowSeen := true }
    let t := if t.start.step = 6 then t.modStart fun a => { a with step := 7 } else t
    t.takeSlow
  else s)

end Sys2Proof.Machine
end

