-- ==== Sys2Proof/Machine/Corr.lean ====
section
/-!
DEFINITION. Meanings of the correlation engine's commands (spec/07): bands and filters, the sums of a traverse, the batches and their
hand-over, firmware's solution, and the self-discharge window.
-/

namespace Sys2Proof.Machine

/-! ## Bands (07 R192) -/

/-- Lower edge, nominal upper edge of a band, mHz (07 Table 7-1). -/
def bandLo : Nat → Nat
  | 0 => 50 | 1 => 2000 | _ => 20000
def bandNom : Nat → Nat
  | 0 => 2000 | 1 => 20000 | _ => 200000

/-- Upper edge in force, mHz: the nominal one or 0.4 / T_eff, `teff` in us. -/
def bandHi (teff b : Nat) : Rat := if bandNom b * teff ≤ 400000000 then bandNom b else (400000000 : Rat) / teff

/-- A band is active while f_hi is at least 2 f_lo. -/
def bandActive (teff b : Nat) : Bool := teff ≠ 0 && decide ((2 * bandLo b : Nat) ≤ bandHi teff b)

/-- Upper edge of an active band, 0 of an inactive one: with f_lo fixed, f_ref or the activity changes exactly when it does. -/
def bandEdge (teff b : Nat) : Rat := if bandActive teff b then bandHi teff b else 0

/-- Reference frequency of a band, 1 mHz to the nearest; 0 inactive. -/
def bandRef (teff b : Nat) : Nat :=
  if bandActive teff b then (rootBits (4 * bandLo b * bandHi teff b).floor.toNat 20 0 + 1) / 2 else 0

/-- f_ref in Hz, not rounded. -/
def refHz (teff b : Nat) : Rat := realSqrt (bandLo b * bandHi teff b) / 1000

def activeBands (teff : Nat) : List Nat := [0, 1, 2].filter (bandActive teff)

/-- Traverses of warm-up: 2 / (f_lo x T_eff), rounded up (07 R196). -/
def warmLen (teff b : Nat) : Nat := (2000000000 + bandLo b * teff - 1) / (bandLo b * teff)

/-- Traverses of a batch (07 R197). DESIGN CHOICE (log 190): the rule does not say how a tie of its rounding falls (`T_eff` of 16, 80 or
400 ms); the even number is taken. -/
def batchLen (teff : Nat) : Nat := max 1 (roundHalfEven 1000000 teff).toNat

/-! ## Filters (07 R193) -/

/-- A second-order Butterworth section by the bilinear transform with prewarping, K = tan(pi f T): its output from the present and the
last two inputs and the last two outputs. -/
def section2 (high : Bool) (k x x1 x2 y1 y2 : Rat) : Rat :=
  let r2 := realSqrt 2
  let d := 1 + r2 * k + k * k
  let b0 := if high then 1 else k * k
  let b1 := if high then -2 else 2 * k * k
  Config.filterRound ((b0 * x + b1 * x1 + b0 * x2 - 2 * (k * k - 1) * y1 - (1 - r2 * k + k * k) * y2) / d) [k, x, x1, x2, y1, y2]

/-- The band filter: high-pass at f_lo, then low-pass at f_hi. -/
def Filt.step (f : Filt) (teff b : Nat) (x : Rat) : Filt :=
  let lo := tanHalfTurns ((bandLo b * teff : Nat) / 1000000000)
  let hi := tanHalfTurns (bandHi teff b * teff / 1000000000)
  let m := section2 true lo x f.x1 f.x2 f.m1 f.m2
  let y := section2 false hi m f.m1 f.m2 f.y1 f.y2
  { x1 := x, x2 := f.x1, m1 := m, m2 := f.m1, y1 := y, y2 := f.y1 }

/-! ## Sums (07 R194, R199) -/

/-- A sum in its LSB with a product added; whether it left the I64 range and was clamped. -/
def addSum (sum : Int) (product : Rat) (per : Nat) : Int × Bool :=
  let v := sum + ratRound (product * per)
  (clampInt (-(2 ^ 63)) (2 ^ 63 - 1) v, decide (v < -(2 ^ 63) ∨ 2 ^ 63 - 1 < v))

def bandKey (owner b : Nat) : Nat := owner * 4 + b

/-- What one traverse gives a string: position 0 seen, `I_LATCH`, and the usable cells with their voltages. -/
structure CorrIn where
  seen0 : Bool
  i : Int
  v : Nat → Option Nat

/-- A saturated sum (07 R199): counted, IRQ 19, event 0x3001. -/
def State.noteSat (s : State) (i : Fin 40) (b : Nat) : State :=
  ((s.modCorr fun c => { c with sat := true, sats := sat32 c.sats, seen := c.seen ||| 0x800 }).irqRaise 19).event 0x3001 (strObj i) 0 (u8 b)

/-- The current of a string in one band at a traverse: its filter, and its sums where the pair is valid. -/
def State.strBandStep (s : State) (i : Fin 40) (b : Nat) (x : Rat) (pairSeen reset : Bool) : State × Bool × Rat × Rat :=
  let key := bandKey i.val b
  let c := Sparse.getD s.corr.strBand key StrBand.empty
  let c := if reset then { c with filt := Filt.empty, warm := 0 } else c
  let f := c.filt.step s.corr.teff b x
  let pair := pairSeen && s.corr.enabled && decide (warmLen s.corr.teff b ≤ c.warm)
  let prev := c.now
  let d := (f.y1 - c.prev) / 2
  let ii := addSum c.sii (prev * prev) 1
  let id_ := addSum c.sid (prev * d) 1
  let dd := addSum c.sdd (d * d) 1
  let beyond := pair && (ii.2 || id_.2 || dd.2)
  let c := { c with filt := f, prev := c.now, now := f.y1, warm := c.warm + 1,
                    sii := if pair then ii.1 else c.sii, sid := if pair then id_.1 else c.sid, sdd := if pair then dd.1 else c.sdd,
                    counted := if pair then c.counted + 1 else c.counted, clamped := c.clamped || beyond }
  let t := s.modCorr fun x => { x with strBand := Sparse.put x.strBand key c }
  (if beyond then t.noteSat i b else t, pair, prev, d)

/-- A cell's voltage in one band at a traverse. -/
def State.cellBandStep (s : State) (i : Fin 40) (e b : Nat) (x : Rat) (pair usable1 reset : Bool) (iPrev d : Rat) : State :=
  let key := bandKey (cellKey i e) b
  let c := Sparse.getD s.corr.cellBand key CellBand.empty
  let c := if reset then { c with filt := Filt.empty, warm := 0 } else c
  let f := c.filt.step s.corr.teff b x
  let good := usable1 && decide (warmLen s.corr.teff b ≤ c.warm)
  let vp := c.now
  let vi := addSum c.svi (vp * iPrev) 256
  let vd := addSum c.svd (vp * d) 256
  let vv := addSum c.svv (vp * vp) 65536
  let add := pair && good
  let beyond := add && (vi.2 || vd.2 || vv.2)
  let c := { c with filt := f, now := f.y1, warm := c.warm + 1,
                    svi := if add then vi.1 else c.svi, svd := if add then vd.1 else c.svd, svv := if add then vv.1 else c.svv,
                    invalid := c.invalid || (pair && !good) || beyond }
  let t := s.modCorr fun x => { x with cellBand := Sparse.put x.cellBand key c }
  if beyond then t.noteSat i b else t

/-- An EXCLUDED string at a traverse: its filters do not run, and what R195 asks of the traverses before a pair is remembered. -/
def State.corrSkip (s : State) (i : Fin 40) (n : CorrIn) : State :=
  s.modCorr fun x => { x with
    strIn := let c := Sparse.getD x.strIn i.val StrIn.empty
             Sparse.put x.strIn i.val { c with seen1 := n.seen0, seen2 := c.seen1 },
    cellIn := (s.elements i).foldl (fun m e =>
      Sparse.put m (cellKey i e) { Sparse.getD m (cellKey i e) CellIn.empty with usable1 := (n.v e).isSome }) x.cellIn }

/-- One string at a traverse (07 R195, R196). -/
def State.corrString (s : State) (i : Fin 40) (n : CorrIn) : State :=
  let c := Sparse.getD s.corr.strIn i.val StrIn.empty
  let run := if n.seen0 then 0 else c.run + 1
  let reset := decide (2 < run)
  let held := if n.seen0 then n.i else c.held
  let pairSeen := n.seen0 && c.seen1 && c.seen2
  let c' := { c with held := held, run := run, seen1 := n.seen0, seen2 := c.seen1, heldBatch := c.heldBatch || !n.seen0, resetBatch := c.resetBatch || reset }
  let t := s.modCorr fun x => { x with strIn := Sparse.put x.strIn i.val c' }
  let bands := activeBands s.corr.teff
  let r := bands.foldl (fun (a : State × List (Nat × Bool × Rat × Rat)) b =>
    let q := a.1.strBandStep i b held pairSeen reset
    (q.1, a.2 ++ [(b, q.2)])) (t, [])
  r.1.forEach (s.elements i) fun t e =>
    let key := cellKey i e
    let u := Sparse.getD t.corr.cellIn key CellIn.empty
    let usable := (n.v e).isSome
    let run := if usable then 0 else u.run + 1
    let x := (n.v e).getD u.held
    let u' : CellIn := { u with held := x, run := run, usable1 := usable, heldBatch := u.heldBatch || !usable }
    let t := t.modCorr fun y => { y with cellIn := Sparse.put y.cellIn key u' }
    t.forEach r.2 fun t q => t.cellBandStep i e q.1 x q.2.1 u.usable1 (reset || decide (2 < run)) q.2.2.1 q.2.2.2

/-! ## Batches (07 R197 to R200) -/

/-- S_ii / counted of a string band stands at or above `EXC_MIN`, 0.01 A² (07 R199). -/
def State.excitedNow (s : State) (c : StrBand) (b : Nat) : Bool :=
  c.counted ≠ 0 && decide ((s.val blockObj 0x0101 b * 10000 * c.counted : Nat) ≤ c.sii)

/-- The strings the engine works on. -/
def State.corrStrings (s : State) : List (Fin 40) := s.installed.filter fun i => s.strs[i].state ≠ .excluded

/-- S_vv of an invalid cell-band (07 R197). -/
def invalidMark : Int := -(2 ^ 63)

/-- The batch in progress as the result area holds it (07 Tables 7-2 to 7-4): the sums of every installed string, those an EXCLUDED string
counted before it was excluded too. -/
def State.formBatch (s : State) : Batch :=
  let c := s.corr
  let bands := activeBands c.teff
  let sb (i : Fin 40) (b : Nat) : StrBand := Sparse.getD c.strBand (bandKey i.val b) StrBand.empty
  let si (i : Fin 40) : StrIn := Sparse.getD c.strIn i.val StrIn.empty
  let q (i : Fin 40) : Charge := Sparse.getD c.charge i.val Charge.empty
  let valid (i : Fin 40) (e b : Nat) : Bool :=
    let u := Sparse.getD c.cellIn (cellKey i e) CellIn.empty
    let x := si i
    !(Sparse.getD c.cellBand (bandKey (cellKey i e) b) CellBand.empty).invalid && !(sb i b).clamped &&
      !u.heldBatch && !u.heldPrev && !x.heldBatch && !x.heldPrev
  { number := c.number, periodChanged := c.changed, saturated := c.sat, gap := c.gap, active := [0, 1, 2].map (bandActive c.teff),
    first := c.first.getD 0, last := (c.first.getD 0 + c.count + 2 ^ 32 - 1) % 2 ^ 32, count := c.count, teff := c.teff,
    fhi := [0, 1, 2].map fun b => if bandActive c.teff b then (ratRound (bandHi c.teff b)).toNat else 0, fref := [0, 1, 2].map (bandRef c.teff),
    tick := s.sysTicks, discarded := c.discarded,
    strs := s.installed.flatMap fun i => bands.map fun b => (bandKey i.val b, ((sb i b).sii, (sb i b).sid, (sb i b).sdd, (sb i b).counted)),
    flags := s.installed.map fun i => (i.val, bitAt (si i).heldBatch 0 + bitAt (si i).resetBatch 1 + bitAt (q i).gapBatch 2 +
      (bands.map fun b => bitAt (s.excitedNow (sb i b) b) (4 + b)).foldl (· + ·) 0),
    charge := s.installed.map fun i => (i.val, ((q i).dis, (q i).chg, (q i).upTo)),
    figures := [],
    cells := s.installed.flatMap fun i => (s.elements i).flatMap fun e => bands.map fun b =>
      let x := Sparse.getD c.cellBand (bandKey (cellKey i e) b) CellBand.empty
      (bandKey (cellKey i e) b, (x.svi, x.svd, if valid i e b then x.svv else invalidMark)) }

/-- Excitation that crosses `EXC_MIN` from one batch to the next (07 R199); a string band that counted nothing has no figure. DESIGN CHOICE
(log 191): a first batch with a figure counts as one after a batch below `EXC_MIN`. -/
def State.noteExcitation (s : State) : State :=
  s.forEach s.installed fun t i => t.forEach (activeBands s.corr.teff) fun t b =>
    let key := bandKey i.val b
    let c := Sparse.getD t.corr.strBand key StrBand.empty
    let now := t.excitedNow c b
    let t' := t.modCorr fun x => { x with strBand := Sparse.put x.strBand key { c with excited := now } }
    if c.counted = 0 then t
    else if now = c.excited then t' else (t'.irqRaise 20).event 0x3006 (strObj i) 0 (u8 b ++ u8 (if now then 1 else 0))

/-- Every sum set to 0 after a batch; what was held in it is remembered for the next. -/
def State.clearSums (s : State) : State :=
  s.modCorr fun c => { c with
    first := none, count := 0, changed := false, sat := false, gap := false,
    strBand := c.strBand.map fun p => (p.1, { p.2 with sii := 0, sid := 0, sdd := 0, counted := 0, clamped := false }),
    cellBand := c.cellBand.map fun p => (p.1, { p.2 with svi := 0, svd := 0, svv := 0, invalid := false }),
    strIn := c.strIn.map fun p => (p.1, { p.2 with heldPrev := p.2.heldBatch, heldBatch := false, resetBatch := false }),
    cellIn := c.cellIn.map fun p => (p.1, { p.2 with heldPrev := p.2.heldBatch, heldBatch := false }),
    charge := c.charge.map fun p => (p.1, { p.2 with gapBatch := false }) }

/-! ## From sums to published impedance (07 R202 to R204) -/

/-- Corner of a filter code, 0.01 Hz (05 Table 5-3). -/
def cornerHz : Nat → Rat
  | 0 => 2600 | 1 => 650 | 2 => 160 | 3 => 40 | _ => 10

/-- The running sums after a batch, `lam` the decay over it and the batches lost before it. -/
def Imped.decay (m : Imped) (lam : Rat) (str : Int × Int × Int × Nat) (cell : Option (Int × Int × Int)) : Imped :=
  let a := if cell.isSome then 1 else 0
  let c := cell.getD (0, 0, 0)
  { m with sii := lam * m.sii + a * str.1, sid := lam * m.sid + a * str.2.1, sdd := lam * m.sdd + a * str.2.2.1,
           svi := lam * m.svi + c.1 / 256, svd := lam * m.svd + c.2.1 / 256, svv := lam * m.svv + c.2.2 / 65536, w := lam * m.w + a * str.2.2.2 }

/-- What the solution of a cell-band gives: impedance in uOhm, gamma2, and the criteria of R204 but for the band's activity: the
excitation, then weight, conditioning and coherence. -/
structure Solved where
  re : Rat
  im : Rat
  gamma2 : Rat
  exc : Bool
  rest : Bool

/-- Solves a cell-band (07 R203). -/
def solve (g : Batch) (m : Imped) (b corner : Nat) : Solved :=
  let teff := g.teff
  let det := m.sii * m.sdd - m.sid * m.sid
  let r := (m.svi * m.sdd - m.svd * m.sid) / det
  let k := (m.svd * m.sii - m.svi * m.sid) / det
  let f := refHz teff b
  let zr := 100000 * r
  let zi := 100000 * k * sinTurns (f * teff / 1000000)
  let x := f / cornerHz corner
  let y := f / 2600
  let cr := (1 + x * y) / (1 + y * y)
  let ci := (x - y) / (1 + y * y)
  let gamma2 := (r * m.svi + k * m.svd) / m.svv
  { re := zr * cr - zi * ci, im := zr * ci + zi * cr, gamma2 := gamma2,
    exc := decide ((g.excMin b : Rat) * 10000 * m.w ≤ m.sii) && decide (0 < m.w),
    rest := decide ((g.tau b : Rat) * 1000000 / (2 * teff) ≤ m.w) && decide (m.sii * m.sdd ≤ 4 * det) &&
      decide ((g.cohMin : Rat) ≤ 100 * gamma2) }

/-- `R_LEARNED` follows a publication of band L (08 R225), with the factor in force (08 R212). -/
def State.learnR (s : State) (i : Fin 40) (e : Nat) (re : Int) : State :=
  let x : Rat := re * (s.inForce i).2 / 100
  s.modCell i e fun c => { c with r := some (match c.r with | some r => r + (x - r) / 10 | none => x) }

/-- One cell-band after a written batch. -/
def State.solveCell (s : State) (g : Batch) (lam : Rat) (i : Fin 40) (e b : Nat) : State :=
  let key := bandKey (cellKey i e) b
  let m := Sparse.getD s.corr.imped key Imped.empty
  let corner := s.ropes[i].filters.toList.getD (e / 16) 0
  let edge := bandEdge g.teff b
  let m := if m.edge = edge && m.corner = corner then m
    else { m.restart with edge := edge, corner := corner }
  let put (t : State) (m : Imped) : State := t.modCorr fun c => { c with imped := Sparse.put c.imped key m }
  let hold (m : Imped) (code : Nat) : State := put s { m with state := if m.at_.isNone then 0 else code }
  if edge = 0 then hold m 5
  else
    let cell := (Sparse.get? g.cells key).filter fun x => x.2.2 ≠ invalidMark
    let m := m.decay lam (Sparse.getD g.strs (bandKey i.val b) (0, 0, 0, 0)) cell
    let z := solve g m b corner
    if z.exc && z.rest then
      let re := ratRound z.re
      let t := put s { m with re := re, im := ratRound z.im, conf := (100 * z.gamma2).floor.toNat, at_ := some s.now, state := 1 }
      if b = 0 then t.learnR i e re else t
    else hold m (if cell.isNone then 4 else if !z.exc then 2 else 3)

/-- Firmware's work on a written batch (07 R202, R204), k batches lost before it. -/
def State.solveBatch (s : State) (g : Batch) : State :=
  let lam (b : Nat) : Rat := (realExp (-((batchLen g.teff * g.teff : Nat) : Rat) / (g.tau b * 1000000 : Nat))) ^ (g.discarded + 1)
  let t := s.forEach s.installed fun t i => t.forEach [0, 1, 2] fun t b =>
    let key := bandKey i.val b
    let x := Sparse.getD g.strs key (0, 0, 0, 0)
    let t := t.modCorr fun c =>
      let old := Sparse.getD c.exc key (0, 0)
      { c with exc := Sparse.put c.exc key (lam b * old.1 + x.1, lam b * old.2 + x.2.2.2) }
    t.forEach (s.elements i) fun t e => t.solveCell g (lam b) i e b
  t.modCorr fun c => { c with solved := true }

/-- `EXC_MIN`, `COH_MIN` and `CORR_TAU` in force at a written batch (07 R207). -/
def State.corrFigures (s : State) : List Nat :=
  ([0, 1, 2].map fun b => s.val blockObj 0x0101 b) ++ [s.val blockObj 0x0102] ++ [0, 1, 2].map fun b => s.val blockObj 0x0103 b

/-- Writes a batch to the result area (07 R198): `READY`, `TAKEN` cleared, IRQ 18; firmware solves it when it acts. -/
def State.writeArea (s : State) (g : Batch) : State :=
  let g := { g with discarded := s.corr.discarded, figures := s.corrFigures }
  let t := (s.modCorr fun c => { c with area := some g, ready := true, taken := false, solved := false, discarded := 0 }).irqRaise 18
  if t.fwActs then t.solveBatch g else t

/-- The end of a batch (07 R197, R198): written, held, or in place of an older held one, which is discarded. With `CORR_ENABLE` 0 in
force from here the batch is discarded (07 R200). -/
def State.endBatch (s : State) : State :=
  let on := s.val blockObj 0x0100 = 1
  let t := if s.corr.enabled && on then s.noteExcitation else s
  let g := t.formBatch
  let t := t.clearSums.modCorr fun c => { c with enabled := on }
  if !s.corr.enabled || !on then t
  else
    let t := t.modCorr fun c => { c with number := (c.number + 1) % 2 ^ 32 }
    if t.corr.taken then t.writeArea g
    else if t.corr.heldBatch.isNone then t.modCorr fun c => { c with heldBatch := some g }
    else (t.modCorr fun c => { c with heldBatch := some g, lost := sat32 c.lost, discarded := sat32 c.discarded, seen := c.seen ||| 0x400 }).event
      0x3003 blockObj 0

/-- The batch in progress is full. -/
def State.batchFull (s : State) : Bool := s.corr.teff ≠ 0 && decide (batchLen s.corr.teff ≤ s.corr.count)

/-- `BATCH_HANDOVER` (07 R197). -/
def execBatchHandover (s : State) : Out := .next (if s.batchFull then s.endBatch else s)

/-- `RESULT_TAKEN` (07 R198): firmware has finished with the area; a batch held internally is written. -/
def execResultTaken (s : State) : Out :=
  .next (if s.fwActs && s.corr.ready && !s.corr.taken then
    let t := match s.corr.area with | some g => (if s.corr.solved then s else s.solveBatch g) | none => s
    let t := t.modCorr fun c => { c with taken := true }
    match t.corr.heldBatch with
    | some g => (t.modCorr fun c => { c with heldBatch := none }).writeArea g
    | none => t
  else s)

/-- `CORR_ENABLE` (07 R200): in force at the next batch end. -/
def execCorrEnableWrite (src : Src) (v : Nat) (s : State) : Out :=
  .next (s.unlessSwapping (.corrEnableWrite src v) fun s => s.writeVia src blockObj 0x0100 (u8 v) fun _ s => .ok (s.setVal blockObj 0x0100 0 v))

/-! ## The update of a traverse (07 R196) -/

/-- A new effective period (07 R200): the batch ends early, the filters start again, and bands whose activity or reference changes are
reported and their running sums restart (07 R202). -/
def State.newPeriod (s : State) (teff : Nat) : State :=
  let old := s.corr.teff
  let t := if old ≠ 0 && s.corr.count ≠ 0 then (s.modCorr fun c => { c with changed := true }).endBatch else s
  let t := t.modCorr fun c => { c with
    teff := teff, seen := if old ≠ 0 then c.seen ||| 0x100 else c.seen,
    strIn := if old = 0 then c.strIn else c.strIn.map fun p => (p.1, { p.2 with resetBatch := true }),
    strBand := c.strBand.map fun p => (p.1, { p.2 with filt := Filt.empty, warm := 0, now := 0, prev := 0 }),
    cellBand := c.cellBand.map fun p => (p.1, { p.2 with filt := Filt.empty, warm := 0, now := 0 }),
    imped := c.imped.map fun p => (p.1, if bandEdge old (p.1 % 4) = bandEdge teff (p.1 % 4) then p.2 else p.2.restart) }
  if old = 0 then t
  else t.forEach [0, 1, 2] fun t b => if bandEdge old b = bandEdge teff b then t else t.event 0x3002 blockObj 0 (u8 b ++ u32 (bandRef teff b))

/-- What traverse n gives a string; nothing is seen where it is not published. -/
def State.corrIn (s : State) (n : Nat) (live : Bool) (i : Fin 40) : CorrIn :=
  let b := s.trav.bufs[bufOf n]
  let flags (p : Nat) : Nat := Sparse.getD b.flags (nodeKey i p) 0
  { seen0 := live && (flags 0).testBit 0, i := (Sparse.getD b.blocks i.val StrBlock.empty).iLatch,
    v := fun e =>
      let p := e / 16 + 1
      if live && (flags p).testBit 0 && !(flags p).testBit 2 && !s.owMarked i p (e % 16) then some (Sparse.getD b.cells (cellKey i e) 0) else none }

/-- `CORRELATION_UPDATE` (07 R196): traverse n, once it is published or once n + 2, or a later traverse, is complete. -/
def execCorrelationUpdate (s : State) : Out :=
  let n := s.corr.next.getD 0
  let b := s.trav.bufs[bufOf n]
  let here := b.used && b.number = n
  let live := here && b.published
  let late := s.trav.bufs.toList.any fun x => x.used && x.complete && decide (2 ≤ (x.number + 2 ^ 32 - n) % 2 ^ 32) && decide ((x.number + 2 ^ 32 - n) % 2 ^ 32 < 2 ^ 31)
  .next (if s.start.fw = .down || s.corr.next.isNone || !(live || late) then s
  else
    let t := if s.batchFull then s.endBatch else s
    let teff := if here then b.period else t.corr.teff
    let t := if teff = t.corr.teff then t else t.newPeriod teff
    let t := if live then t
      else (t.modCorr fun c => { c with gap := true, seen := c.seen ||| 0x200 }).event 0x3004 blockObj 0 (u32 n)
    let t := t.forEach t.installed fun t i =>
      if t.strs[i].state = .excluded then t.corrSkip i (t.corrIn n live i) else t.corrString i (t.corrIn n live i)
    t.modCorr fun c => { c with next := some ((n + 1) % 2 ^ 32), first := some (c.first.getD n), count := c.count + 1 })

/-! ## Self-discharge (07 R205, R206) -/

/-- A value placed into an ascending list. -/
def insertRat (x : Rat) : List Rat → List Rat
  | [] => [x]
  | y :: l => if x ≤ y then x :: y :: l else y :: insertRat x l

/-- The median; of an even number of values the mean of the two in the middle. -/
def median (l : List Rat) : Rat :=
  let m := l.foldr insertRat []
  let n := m.length
  if n % 2 = 1 then m.getD (n / 2) 0 else (m.getD (n / 2 - 1) 0 + m.getD (n / 2) 0) / 2

/-- The next level of the indicator (07 Table 7-5), with the count of window ends without either condition at level 3. -/
def nextLevel (level clear : Nat) (sd zl : Bool) : Nat × Nat :=
  match level with
  | 0 | 1 => (if sd && zl then 2 else if sd then 1 else 0, 0)
  | 2 => (if sd && !zl then 1 else if !sd && !zl then 0 else 3, 0)
  | _ => if sd || zl then (3, 0) else if 7 ≤ clear + 1 then (0, 0) else (3, clear + 1)

/-- |Z_L| of a cell published within the window. DESIGN CHOICE (log 183): the median of the string is taken over these cells. -/
def State.zlOf (s : State) (i : Fin 40) (e : Nat) : Option Rat :=
  let m := Sparse.getD s.corr.imped (bandKey (cellKey i e) 0) Imped.empty
  match m.at_ with
  | some t => if s.corr.sdAt ≤ t then some (realSqrt (((m.re * m.re + m.im * m.im : Int)) : Rat)) else none
  | none => none

/-- The window end for one string. DESIGN CHOICE (log 183): the preceding window ends of z are those at which the cell had a value. -/
def State.sdString (s : State) (i : Fin 40) : State :=
  let old (e : Nat) : Selfd := Sparse.getD s.corr.selfd (cellKey i e) Selfd.empty
  let x (e : Nat) : Rat := (s.cellEst i e).held
  let often (e : Nat) : Bool := decide (s.corr.sdCount * 9 ≤ 10 * Sparse.getD s.corr.sdSeen (nodeKey i (e / 16 + 1)) 0) && s.corr.sdCount ≠ 0
  let part := (s.elements i).filter fun e => often e && (old e).x.isSome
  let delta (e : Nat) : Rat := x e - (old e).x.getD 0
  let mid := median (part.map delta)
  let hours : Rat := ((s.now - s.corr.sdAt : Nat) : Rat) / (sec 3600 : Nat)
  let zMid := median ((s.elements i).filterMap (s.zlOf i))
  s.forEach (s.elements i) fun t e =>
    let o := old e
    let z := (s.zlOf i e).map (· / zMid)
    let put (t : State) (n : Selfd) : State := t.modCorr fun c => { c with selfd := Sparse.put c.selfd (cellKey i e) { n with x := some (x e) } }
    let zs := match z with | some v => (v :: o.z).take 7 | none => o.z
    if !part.contains e then put t { o with z := zs }
    else
      let isd := ratRound (-(delta e - mid) / hours * 10)
      let sd := decide ((s.val blockObj 0x010C : Int) ≤ isd) && decide ((s.val blockObj 0x010D : Int) ≤ isd - o.isd)
      let mean : Rat := (o.z.foldl (· + ·) (0 : Rat)) / ((o.z.length : Nat) : Rat)
      let zl := match z with
        | some v => decide (3 ≤ o.z.length) && decide (1000 * v ≤ mean * (1000 - (s.val blockObj 0x010E : Rat)))
        | none => false
      let n := nextLevel o.level o.clear sd zl
      let t := put t { o with isd := isd, prev := o.isd, z := zs, level := n.1, clear := n.2 }
      if n.1 = o.level then t else t.event (if n.1 = 0 then 0x3013 else 0x300F + n.1) (strObj i) (e + 1) (i32 isd)

/-- `SD_WINDOW_END` (07 R205, R206). -/
def execSdWindowEnd (s : State) : Out :=
  .next (if s.fwActs && decide (s.corr.sdAt + sec (3600 * s.val blockObj 0x010B) ≤ s.now) then
    (s.forEach s.installed State.sdString).modCorr fun c => { c with sdAt := s.now, sdCount := 0, sdSeen := [] }
  else s)

end Sys2Proof.Machine
end

