-- ==== Sys2Proof/Machine/Est.lean ====
section
/-!
DEFINITION. The estimator step (spec/08 R210 to R237, spec/18 R479): tables, counting, anchors, capacity learning, states of charge,
current limits, the report card and the wear check. Quantities are exact but for roots and exponentials (log 23).
-/

namespace Sys2Proof.Machine

/-! ## Tables (08 R213 to R215) -/

def clampRat (lo hi x : Rat) : Rat := if x < lo then lo else if hi < x then hi else x

/-- Segment and part of it of a place on an axis of `n` points, clamped at its ends. -/
def axis (x : Rat) (n : Nat) : Nat × Rat :=
  let y := clampRat 0 ((n - 1 : Nat) : Rat) x
  let i := min (n - 2) y.floor.toNat
  (i, y - i)

def lerp (a b f : Rat) : Rat := a + (b - a) * f

/-- Object of a string's profile. -/
def State.profObj (s : State) (i : Fin 40) : Nat := 0x2300 + s.profileOf i

/-- Place of a temperature in 0.1 degC on the table axis, -20 to 50 degC. -/
def tempAxis (t : Rat) : Nat × Rat := axis ((t + 200) / 100) 8

/-- The OCV column at a temperature, counts of 100 uV at 0 to 100 % in steps of 5 %. -/
def State.ocvColumn (s : State) (i : Fin 40) (t : Rat) : List Rat :=
  let a := tempAxis t
  (List.range 21).map fun k => lerp (s.val (s.profObj i) 3 (21 * a.1 + k)) (s.val (s.profObj i) 3 (21 * (a.1 + 1) + k)) a.2

/-- OCV at a state of charge, counts. -/
def ocvAt (col : List Rat) (soc : Rat) : Rat :=
  let a := axis (soc / 5) 21
  lerp (col.getD a.1 0) (col.getD (a.1 + 1) 0) a.2

/-- The inverse look-up (08 R214): state of charge, slope in counts per percent, and whether the value was clamped. -/
def socAt (col : List Rat) (v : Rat) : Rat × Rat × Bool :=
  let seg := ((List.range 20).find? fun k => decide (col.getD k 0 ≤ v ∧ v < col.getD (k + 1) 0))
  match seg with
  | some k =>
    let a := col.getD k 0
    let d := col.getD (k + 1) 0 - a
    (5 * (k + (v - a) / d), d / 5, false)
  | none => (if v < col.getD 0 0 then 0 else 100, 1, true)

/-- A bilinear table of `n` columns by temperature. -/
def State.bilinear (s : State) (i : Fin 40) (sub n : Nat) (x : Nat × Rat) (t : Rat) : Rat :=
  let a := tempAxis t
  let at_ (r k : Nat) : Rat := s.val (s.profObj i) sub (n * r + k)
  lerp (lerp (at_ a.1 x.1) (at_ a.1 (x.1 + 1)) x.2) (lerp (at_ (a.1 + 1) x.1) (at_ (a.1 + 1) (x.1 + 1)) x.2) a.2

/-- Rates of the derating table, in C (08 R211). -/
def derateRates : List Rat := [1 / 20, 1 / 10, 1 / 5, 3 / 10, 1 / 2, 1, 3 / 2, 2]

/-- Place of a rate on the axis of the derating table. -/
def rateAxis (q : Rat) : Nat × Rat :=
  let y := clampRat (1 / 20) 2 q
  let k := ((List.range 7).find? fun k => decide (y ≤ derateRates.getD (k + 1) 2)).getD 6
  let a := derateRates.getD k 0
  (k, (y - a) / (derateRates.getD (k + 1) 2 - a))

/-! ## Windows (08 R215, R220, R222) -/

def meanOf (l : List Rat) : Rat := (l.foldl (· + ·) (0 : Rat)) / ((l.length : Nat) : Rat)

/-- Standard deviation. -/
def devOf (l : List Rat) : Rat := let m := meanOf l; realSqrt (meanOf (l.map fun x => (x - m) * (x - m)))

/-- Samples of the last `span` ns up to a step. -/
def State.samples (s : State) (at_ span : Nat) : List Sample := s.est.window.filter fun p => decide (p.at_ ≤ at_ ∧ at_ ≤ p.at_ + span)

/-- The samples of the present step's window, and the string's rate in C over the last 60 s. -/
def State.rateOfStr (s : State) (i : Fin 40) (at_ : Nat) : Rat :=
  let l := (s.samples at_ (sec 60)).filterMap fun p => (Sparse.get? p.iMean i.val).map fun (x : Int) => (x : Rat)
  if l.isEmpty then 0 else ratAbs (meanOf l) / s.capNom i

/-! ## Counting (08 R217) -/

/-- What one string's counting gives every cell: the string's charge and the charge passed, mAh; the step in hours; the
uncertainty charge of each gap in mAh. -/
structure StepIn where
  dq : Rat
  passed : Rat
  hours : Rat
  gaps : List Rat

/-- Balancing charge of a cell in mAh, `v` its published voltage in counts, `on` its on-time since the last step in us. -/
def balCharge (on v balR : Nat) : Rat := 1000 * on * ((v : Rat) / 10000) / ((balR : Rat) / 10) / 3600000000

/-- Counting of one cell with its balancing charge; answers whether its state of charge was clamped. -/
def CellEst.count (c : CellEst) (n : StepIn) (dqb drift floor_ : Rat) : CellEst × Bool :=
  let soc := c.soc - 100 * (n.dq + dqb) / c.cap
  let u := c.u + drift * n.hours
  let u := n.gaps.foldl (fun u g => let e := 100 * g / c.cap; realSqrt (u * u + e * e)) u
  ({ c with soc := clampRat 0 100 soc, q := c.q + n.dq + dqb, qBal := c.qBal + dqb, u := clampRat floor_ 50 u },
    decide (soc < 0 ∨ 100 < soc))

/-! ## Anchors and capacity (08 R220 to R225) -/

/-- The compensation resistance, uOhm (08 R221). -/
def State.compR (s : State) (i : Fin 40) (e : Nat) (c : CellEst) : Option Rat :=
  let m := Sparse.getD s.corr.imped (bandKey (cellKey i e) 0) Imped.empty
  match m.at_ with
  | some t => if s.now ≤ t + sec 3600 then some ((s.val (s.profObj i) 0x000A : Rat) / 100 * m.re) else c.r
  | none => c.r

/-- The first and second conditions of R220; the window must reach back over the whole of `ANCHOR_WINDOW`. -/
def State.anchorable (s : State) (i : Fin 40) (e : Nat) (c : CellEst) (w : List Sample) : Bool :=
  let p := e / 16 + 1
  let j := e % 16
  !w.isEmpty && w.all (fun x => ((Sparse.get? x.cells (cellKey i e)).map CellSample.usable).getD false) && !s.owMarked i p j &&
    !(decide (1 ≤ j) && s.owMarked i p (j - 1)) && !(decide (j < 15) && s.owMarked i p (j + 1)) &&
    c.tempNow && decide (-200 ≤ c.temp ∧ c.temp ≤ 500)

/-- A capacity measurement of a new anchor with the oldest fitting entry of the ring (08 R224): the measured capacity, and whether
its uncertainty and its sign pass. -/
def State.measureCap (s : State) (i : Fin 40) (c : CellEst) (a : Anchor) : Option (Rat × Bool) :=
  let span (o : Anchor) : Rat := ((a.at_ - o.at_ : Nat) : Rat) / (sec 3600 : Nat)
  match c.ring.reverse.find? fun o => decide (span o ≤ s.val blockObj 0x0118) && decide (40 ≤ ratAbs (o.soc - a.soc)) with
  | none => none
  | some o =>
    let d := o.soc - a.soc
    let m := 100 * (a.q - o.q) / d
    let sigma := (realSqrt (o.sigma * o.sigma + a.sigma * a.sigma) + s.drift i * span o) / ratAbs d
    some (m, decide (0 < m) && decide (10000 * sigma ≤ s.val blockObj 0x0117))

/-- Takes a new anchor into the ring and learns the capacity (08 R224). -/
def State.learnCap (s : State) (i : Fin 40) (e : Nat) (c : CellEst) (a : Anchor) : State × CellEst :=
  let kept := { c with ring := (a :: c.ring).take 4 }
  match s.measureCap i c a with
  | none => (s, kept)
  | some (m, ok) =>
    if !ok then (s, kept)
    else if ratAbs (m / c.cap - 1) ≤ 1 / 5 then
      let cap := c.cap + (s.val blockObj 0x0116 : Rat) / 100 * (m - c.cap)
      (s.event 0x3022 (strObj i) (e + 1) (u32 (ratRound cap).toNat),
        { c with cap := cap, ring := [a], learned := satAdd 0xFFFF c.learned 1,
                 card := { c.card with capFirst := if c.card.capFirst = 0 then (ratRound m).toNat else c.card.capFirst } })
    else ((s.modEst fun x => { x with status := x.status ||| 0x100 }).event 0x3023 (strObj i) (e + 1) (u32 (ratRound m).toNat), kept)

/-- The anchor of a cell at a step (08 R222): its estimated OCV is published whether or not the anchor is applied. -/
def State.anchor (s : State) (i : Fin 40) (e at_ : Nat) (w : List Sample) (r : Rat) (c : CellEst) : State × CellEst :=
  let p := s.profObj i
  let vs := w.filterMap fun x => (Sparse.get? x.cells (cellKey i e)).map fun c => (c.v : Rat) / 10000
  let is := w.filterMap fun x => (Sparse.get? x.iLatch i.val).map fun (y : Int) => (y : Rat) / 1000
  if is.isEmpty then (s, c)
  else
    let rOhm := r / 1000000
    let mean := meanOf is
    let ocv := meanOf vs + mean * rOhm
    let x := socAt (s.ocvColumn i c.temp) (ocv * 10000)
    let t1 := (s.val p 9 : Rat) / 10000
    let t2 := ratAbs mean * rOhm * ((s.val p 0x000B : Rat) / 100)
    let t3 := devOf is * rOhm
    let t4 := (s.val p 8 : Rat) / 10000
    let sigma := realSqrt (t1 * t1 + t2 * t2 + t3 * t3 + t4 * t4) / (x.2.1 / 10000)
    let c := { c with ocv := ocv }
    if x.2.2 || !decide (100 * sigma ≤ s.val blockObj 0x0112) then (s, c)
    else
      let k := c.u * c.u / (c.u * c.u + sigma * sigma)
      let c := { c with soc := c.soc + k * (x.1 - c.soc), u := ratMax ((s.val p 0x000F : Rat) / 100) (realSqrt ((1 - k) * (c.u * c.u))), anchorAt := some at_ }
      s.learnCap i e c { soc := x.1, sigma := sigma, at_ := at_, q := c.q }

/-- The anchor a cell takes at a step, if R220 or R223 admits one; `rest` says the string is at rest, `entry` that it came to rest at
this step. -/
def State.maybeAnchor (s : State) (i : Fin 40) (e at_ : Nat) (w : List Sample) (rest entry : Bool) (c : CellEst) : State × CellEst :=
  let due := match c.anchorAt with
    | some t => decide (t + sec (s.val blockObj 0x0113) ≤ at_)
    | none => true
  if !(s.anchorable i e c w) || !(due || entry) then (s, c)
  else match s.compR i e c with
    | some r => s.anchor i e at_ w r c
    | none => if rest then s.anchor i e at_ w 0 c else (s, c)

/-! ## The report card (08 R234) -/

/-- A step of `ns` with the charge passed in mAh, the seen voltages of its traverses and whether the string was CLOSED in each. -/
def Card.update (d : Card) (passed : Rat) (ns level : Nat) (vs : List (Nat × Bool)) (temp : Rat) (known : Bool) : Card :=
  { d with throughput := d.throughput + passed / 1000,
           vMax := vs.foldl (fun m v => max m v.1) d.vMax,
           vMin := (vs.filter Prod.snd).foldl (fun m v => if m = 0 then v.1 else min m v.1) d.vMin,
           tMax := if known then max d.tMax (ratRound temp) else d.tMax,
           hot := if 450 ≤ temp then d.hot + ns else d.hot,
           iscMax := max d.iscMax level }

/-! ## One string -/

/-- A change of profile (08 R210). -/
def State.takeProfile (s : State) (i : Fin 40) : State :=
  if s.est.strs[i].profile = s.profileOf i then s
  else
    let t := s.forEach (s.elements i) fun t e => t.modCell i e fun c => { c with cap := t.capNom i, r := none, ring := [], u := 50 }
    (t.modEst fun x => { x with strs := upd x.strs i fun y => { y with profile := s.profileOf i } }).event 0x302C (strObj i) 0 (u8 (s.profileOf i))

/-- The counters of R201 at a step's traverse. -/
def State.countersAt (s : State) (i : Fin 40) (p : Sample) : Nat × Nat := Sparse.getD p.charge i.val (s.est.strs[i].qDis, s.est.strs[i].qChg)

/-- The charge gaps up to a step's traverse: their us. -/
def Charge.gapsAt (c : Charge) (at_ : Nat) : List Nat := (c.gaps.filter fun g => decide (g.1 ≤ at_)).map Prod.snd

/-- `I_LATCH` of a string at a step's traverse: that of its last accepted H1 reply, mA. -/
def State.latchAt (s : State) (i : Fin 40) (at_ : Nat) : Int :=
  (s.est.window.findSome? fun q => if q.at_ ≤ at_ then Sparse.get? q.iLatch i.val else none).getD 0

/-- What the charge counters give the step of traverse `p` (08 R217). -/
def State.stepIn (s : State) (i : Fin 40) (p : Sample) (hours : Rat) : StepIn :=
  let c := s.countersAt i p
  let e := s.est.strs[i]
  let dqd : Rat := (((c.1 + 2 ^ 64 - e.qDis) % 2 ^ 64 : Nat) : Rat)
  let dqc : Rat := (((c.2 + 2 ^ 64 - e.qChg) % 2 ^ 64 : Nat) : Rat)
  let eta : Rat := (s.val (s.profObj i) 0x000E : Rat) / 10000
  { dq := (dqd - eta * dqc) / 3600000000, passed := (dqd + dqc) / 3600000000, hours := hours,
    gaps := ((Sparse.getD s.corr.charge i.val Charge.empty).gapsAt p.at_).map fun g => ((s.latchAt i p.at_).natAbs * g : Nat) / 3600000000 }

/-- The counters are read and a charge gap is applied once. -/
def State.takeCharge (s : State) (i : Fin 40) (p : Sample) : State :=
  let c := Sparse.getD s.corr.charge i.val Charge.empty
  let q := s.countersAt i p
  if (c.gapsAt p.at_).isEmpty then s.modEst fun x => { x with strs := upd x.strs i fun e => { e with qDis := q.1, qChg := q.2 } }
  else (s.modEst fun x => { x with strs := upd x.strs i fun e => { e with qDis := q.1, qChg := q.2 }, status := x.status ||| 0x80 }).modCorr
    fun x => { x with charge := Sparse.put x.charge i.val { c with gaps := c.gaps.filter fun g => decide (p.at_ < g.1) } }

/-- Rest of a string at the step of traverse `p` (08 R223): events on entry and on leaving; answers rest and entry. -/
def State.takeRest (s : State) (i : Fin 40) (p : Sample) : State × Bool × Bool :=
  let at_ := p.at_
  let e := s.est.strs[i]
  let rest := match Sparse.get? p.quiet i.val with | some t => decide (t + sec 60 ≤ at_) | none => false
  match rest, e.rest with
  | true, none => ((s.modEst fun x => { x with strs := upd x.strs i fun y => { y with rest := some at_ } }).event 0x3020 (strObj i) 0, true, true)
  | false, some _ => ((s.modEst fun x => { x with strs := upd x.strs i fun y => { y with rest := none } }).event 0x3021 (strObj i) 0, false, false)
  | r, _ => (s, r, false)

/-- What the traverses since the last step, newest first, and the step's own give a step: the voltages a cell was seen at, whether
its string was CLOSED then, and the on-time of the cell. -/
def seenVolts (i : Fin 40) (e : Nat) (new : List Sample) : List (Nat × Bool) :=
  new.filterMap fun q => match Sparse.get? q.cells (cellKey i e) with
    | some c => if c.seen then some (c.v, q.closed.contains i.val) else none
    | none => none

def onTimeSince (i : Fin 40) (e : Nat) (new : List Sample) : Nat := new.foldl (fun a q => a + Sparse.getD q.on (cellKey i e) 0) 0

/-- The report card of a cell at a step (08 R234). -/
def State.stepCard (s : State) (i : Fin 40) (e ns : Nat) (new : List Sample) (passed : Rat) (c : CellEst) : CellEst :=
  { c with card := c.card.update passed ns (Sparse.getD s.corr.selfd (cellKey i e) Selfd.empty).level (seenVolts i e new) c.temp c.tempNow }

/-- One cell at a step. -/
def State.stepCell (s : State) (i : Fin 40) (q : Sample) (ns : Nat) (new : List Sample) (n : StepIn) (w : List Sample) (rest entry : Bool)
    (e : Nat) : State :=
  let p := s.profObj i
  let c := s.cellEst i e
  let v := ((Sparse.get? q.cells (cellKey i e)).map CellSample.v).getD 0
  let dqb := balCharge (onTimeSince i e new) v (s.val blockObj 0x0115)
  let k := c.count n dqb (s.drift i) ((s.val p 0x000F : Rat) / 100)
  let t := if k.2 then s.event 0x302D (strObj i) (e + 1) else s
  let r := t.maybeAnchor i e q.at_ w rest entry k.1
  r.1.modCell i e fun _ => r.1.stepCard i e ns new (n.passed + dqb) r.2

def minRat (l : List Rat) : Rat := l.foldl ratMin (l.headD 0)

/-- Charge figures of a string (08 R226). -/
def State.stepCharge (s : State) (i : Fin 40) (at_ : Nat) : State :=
  let cs := (s.elements i).map (s.cellEst i)
  let qd := minRat (cs.map fun c => c.soc * c.cap / 100)
  let qc := minRat (cs.map fun c => (100 - c.soc) * c.cap / 100)
  let factor := s.bilinear i 4 8 (rateAxis (s.rateOfStr i at_)) (minRat (cs.map CellEst.temp)) / 1000
  s.modEst fun x => { x with strs := upd x.strs i fun e => { e with
    qd := qd, qc := qc, soc := 100 * qd / (qd + qc), u := ratMaxOf (cs.map CellEst.u), avail := qd * factor } }

/-! ## Current limits (08 R229 to R232) -/

/-- R_h of a cell in uOhm by horizon, 0 short, 1 long, and whether it is from `R_LEARNED` (08 R230). -/
def State.rOfCell (s : State) (i : Fin 40) (e h : Nat) : Option Rat × Bool :=
  let m := Sparse.getD s.corr.imped (bandKey (cellKey i e) 2) Imped.empty
  let k : Rat := (s.val (s.profObj i) (0x000C + h) : Rat) / 100
  let fresh := match m.at_ with
    | some t => decide (s.now ≤ t + sec (s.val blockObj 0x011A))
    | none => false
  if fresh then (some (k * m.re), false) else ((s.cellEst i e).r.map (k * ·), true)

/-- Limit of a cell in mA for a horizon and a direction with the term that sets it: 1 voltage, 2 rate, 3 over-current (08 R229). -/
def State.cellLimit (s : State) (i : Fin 40) (h : Nat) (charge : Bool) (e : Nat) : Rat × Nat :=
  let c := s.cellEst i e
  let set_ := s.profileOf i
  let ocv := ocvAt (s.ocvColumn i c.temp) c.soc
  let room : Rat := match s.limit set_ (if charge then 2 else 3) with
    | some (l : Int) => if charge then l - s.val blockObj 0x0119 1 - ocv else ocv - (l + s.val blockObj 0x0119 0)
    | none => 0
  let volt : Rat := match (s.rOfCell i e h).1 with
    | some r => ratMax 0 (room * 100000 / r)
    | none => 0
  let th (k : Nat) : Rat := let x := Sparse.getD s.trav.tRaw (i.val * 2048 + 2 * e + k) 0x7FFF; if thermOk x then x else c.temp
  let rate1 (t : Rat) : Rat := s.bilinear i (if charge then 6 else 5) 11 (axis (c.soc / 10) 11) t
  let rate := ratMin (rate1 (th 0)) (rate1 (th 1)) / 100 * s.capNom i
  let oc : Rat := match s.limit set_ (if charge then 0x000C else 0x000B) with
    | some (l : Int) => l * s.val blockObj 0x0123 / 100
    | none => 0
  if volt ≤ rate && volt ≤ oc then (volt, 1) else if rate ≤ oc then (rate, 2) else (oc, 3)

/-- The least of several limits, the first of equals. -/
def leastLimit (l : List (Rat × Nat)) : Rat × Nat := l.foldl (fun a b => if b.1 < a.1 then b else a) (l.headD (0, 0))

/-- The four limits, order of Table 8-7. -/
def limitKinds : List (Nat × Bool) := [(0, false), (1, false), (0, true), (1, true)]

/-- A limit as it is published: down at once, up by at most `rise` (08 R232). -/
def slewLimit (old new rise : Rat) : Rat := if new < old then new else ratMin new (old + rise)

/-- The limits of a string. -/
def State.stepLimits (s : State) (i : Fin 40) (dt : Rat) : State :=
  let closed := s.strs[i].state = .closed
  let e := s.est.strs[i]
  let own := limitKinds.map fun k => leastLimit ((s.elements i).map (s.cellLimit i k.1 k.2))
  let rise : Rat := s.val blockObj 0x011B * dt
  let fall := (s.elements i).any fun c => (s.rOfCell i c 0).2
  let lim := (List.range 4).map fun k => if closed then slewLimit (e.lim.getD k 0) (own.getD k (0, 0)).1 rise else 0
  let src := if closed then own.foldl (fun n x => n * 4 + (if x.1 = 0 && x.2 = 0 then 0 else x.2)) 0 else 0
  let t := s.modEst fun x => { x with strs := upd x.strs i fun y => { y with lim := lim, source := src, fallback := fall } }
  if fall && !e.fallback then t.event 0x302A (strObj i) 0 else t

/-- 1 / (sum of R_h + `R_PATH`) of a string for a horizon (08 R231). -/
def State.conductance (s : State) (i : Fin 40) (h : Nat) : Rat :=
  1 / (((s.elements i).foldl (fun a e => a + ((s.rOfCell i e h).1.getD 0)) (0 : Rat)) + s.val (strObj i) 0x0081)

/-- Shares of the CLOSED strings of a bank for a horizon. -/
def State.shares (s : State) (b : Fin 4) (h : Nat) : List (Fin 40 × Rat) :=
  let cs := (s.stringsOf b).filter fun i => s.strs[i].state = .closed
  let total := cs.foldl (fun a i => a + s.conductance i h) (0 : Rat)
  cs.map fun i => (i, s.conductance i h / total)

/-- The limits of a bank from the published limits of its CLOSED strings, so that none exceeds their sum (08 R231, R232; log 113). -/
def State.bankLimits (s : State) (b : Fin 4) (dt : Rat) : State :=
  let live := s.banks[b].state = .live
  let n := ((s.shares b 0).length : Nat)
  let rise : Rat := s.val blockObj 0x011B * dt * n
  let lim := limitKinds.zipIdx.map fun k =>
    let own := minRat ((s.shares b k.1.1).map fun x => (s.est.strs[x.1].lim.getD k.2 0) / x.2)
    if live then slewLimit ((s.est.bankLim[b]).getD k.2 0) own rise else 0
  let top := ratMaxOf ((s.shares b 0 ++ s.shares b 1).map (·.2))
  s.modEst fun x => { x with bankLim := x.bankLim.set b lim, share := x.share.set b (if n = 0 then 0 else 100 * top) }

/-! ## Reported states of charge (08 R227) -/

def slewSoc (old new step : Rat) : Rat := if old < new then ratMin new (old + step) else ratMax new (old - step)

/-- Internal state of charge of a set of strings; none without one. -/
def State.socOf (s : State) (l : List (Fin 40)) : Option Rat :=
  if l.isEmpty then none
  else
    let qd := l.foldl (fun a i => a + s.est.strs[i].qd) (0 : Rat)
    let qc := l.foldl (fun a i => a + s.est.strs[i].qc) (0 : Rat)
    some (100 * qd / (qd + qc))

/-- The internal value of a string has been formed since the start. -/
def State.formed (s : State) (i : Fin 40) : Bool := s.est.strs[i].qd + s.est.strs[i].qc ≠ 0

def State.stepReported (s : State) (dt : Rat) : State :=
  let step : Rat := (s.val blockObj 0x0111 : Rat) / 10 * dt / 60
  let act := s.corrStrings
  let t := s.forEach (s.installed.filter s.formed) fun t i => t.modEst fun x => { x with strs := upd x.strs i fun e => { e with reported := slewSoc e.reported e.soc step } }
  let t := t.forEach allBank fun t b => match s.socOf (act.filter fun i => s.bankOf i = b) with
    | some v => t.modEst fun x => { x with bankRep := upd x.bankRep b fun r => slewSoc r v step }
    | none => t
  match s.socOf act with
  | some v => t.modEst fun x => { x with blockRep := slewSoc x.blockRep v step }
  | none => t

/-! ## Wear (18 R479) -/

/-- A wear figure with its limit and its bit of `WEAR_MAP`: S channels, outputs, flash. -/
def State.wearFigures (s : State) : List (Nat × Nat × Nat) :=
  (allStr.map fun i => (i.val, s.gates[chS i].cycles, s.val 0x1D00 0x0022)) ++
  (allQ.map fun q => (40 + q.val, s.io.outputs[q].operations, s.val 0x1D00 0x0023 q.val)) ++
  [(56, s.health.flashErase[1], s.val 0x1D00 0x0024 * 100)]

/-- A figure reaching its limit sets its bit, once. -/
def State.checkWear (s : State) : State :=
  s.forEach s.wearFigures fun t f =>
    if f.2.2 ≠ 0 && decide (f.2.2 ≤ f.2.1) && !t.health.wearMap.testBit f.1 then
      ((t.modHealth fun h => { h with wearMap := h.wearMap ||| 2 ^ f.1 }).irqRaise 117).event 0xD032 0x1D00 0 (u8 f.1 ++ u32 f.2.1)
    else t

/-- Writing a limit above a figure clears its bit. -/
def State.clearWear (s : State) : State :=
  s.modHealth fun h => { h with wearMap := clearBits h.wearMap (posBits ((s.wearFigures.filter fun f => decide (f.2.1 < f.2.2)).map (·.1))) }

/-! ## The step (08 R216) -/

/-- The published traverse of the next step: the oldest not yet stepped that lies 100 ms or more after the last step. -/
def State.nextStep (s : State) : Option Sample :=
  s.est.window.reverse.find? fun p => match s.est.last with
    | some t => decide (t < p.at_) && (decide (t + ms 100 ≤ p.at_) || decide (100000 ≤ p.period))
    | none => true

/-- Samples, newest first, of traverses that follow one another without one missing. -/
def unbroken : List Sample → Bool
  | a :: b :: l => decide ((b.number + 1) % 2 ^ 32 = a.number) && unbroken (b :: l)
  | _ => true

/-- The window of the anchors (08 R220): the last `span` ns up to a step; empty where the record does not reach back over all of it or
a traverse in it was never published. -/
def State.anchorWindow (s : State) (at_ span : Nat) : List Sample :=
  let past := s.est.window.filter fun p => decide (p.at_ ≤ at_)
  let w := past.takeWhile fun p => decide (at_ ≤ p.at_ + span)
  let before := (past.drop w.length).take 1
  if (past.any fun p => decide (p.at_ + span ≤ at_)) && unbroken (w ++ before) then w else []

/-- One string that is not EXCLUDED at the step of traverse `p`. -/
def State.stepString (s : State) (p : Sample) (ns : Nat) (new : List Sample) (i : Fin 40) : State :=
  let n := s.stepIn i p ((ns : Rat) / (sec 3600 : Nat))
  let t := s.takeCharge i p
  let r := t.takeRest i p
  let w := t.anchorWindow p.at_ (sec (t.val blockObj 0x0114))
  let t := r.1.forEach (r.1.elements i) fun t e => t.stepCell i p ns new n w r.2.1 r.2.2 e
  (t.stepCharge i p.at_).stepLimits i ((ns : Rat) / 1000000000)

/-- An EXCLUDED string at a step: no limits (08 R232), and the report cards (08 R234). -/
def State.stepExcluded (s : State) (ns : Nat) (new : List Sample) (i : Fin 40) : State :=
  let t := s.forEach (s.elements i) fun t e => t.modCell i e fun c => t.stepCard i e ns new 0 c
  t.modEst fun x => { x with strs := upd x.strs i fun e => { e with lim := [0, 0, 0, 0], source := 0, fallback := false } }

/-- `ESTIMATOR_STEP` (08 R216, 18 R479); `erases` are the erase counts of the flash controller: mean, highest, lowest. -/
def execEstimatorStep (erases : Vector Nat 3) (s : State) : Out :=
  .next (if !(s.fwActs && s.est.running) then s
  else match s.nextStep with
  | none => s
  | some p =>
    let at_ := p.at_
    let ns := at_ - s.est.last.getD at_
    let dt : Rat := (ns : Rat) / 1000000000
    let new := s.est.window.filter fun q => decide (q.at_ ≤ at_) && (match s.est.last with | some t => decide (t < q.at_) | none => true)
    let t := s.modEst fun x => { x with last := some at_ }
    let t := (t.settleCells.takeTables).forEach t.installed State.takeProfile
    let t := t.forEach t.corrStrings fun t i => t.stepString p ns new i
    let t := (t.forEach (allStr.filter fun i => t.strs[i].state = .excluded) fun t i => t.stepExcluded ns new i).markWarn
    let t := (t.forEach allBank fun t b => t.bankLimits b dt).stepReported dt
    let t := t.modStore fun g => { g with changed := true }
    let t := (t.modHealth fun h => { h with flashErase := Vector.ofFn fun k : Fin 3 => max h.flashErase[k] erases[k] }).checkWear
    let t := if at_ + sec 1 < s.now then (t.modEst fun x => { x with status := x.status ||| 0x40 }).event 0x3029 blockObj 0 else t
    if t.est.writeReq then (t.modEst fun x => { x with writeReq := false }).writeBack 3 else t)

end Sys2Proof.Machine
end

