-- ==== Sys2Proof/Machine/Net.lean ====
section
/-!
DEFINITION. Meanings of the Ethernet, cell-stream and time commands (spec/19 R483 to R496).
-/

namespace Sys2Proof.Machine

/-! ## Ports -/

/-- The check of `ETH_APPLY` (19 R484): `RANGE` with event 0xA004. -/
def State.applyEthApply (s : State) : Applied := if s.ethApplyOk then .ok s else .error (.range, s.event 0xA004 ethObj 0)

/-- `ETH_APPLY` (19 R484): the addresses change after the reply. -/
def execEthApply (src : Src) (v : Nat) (s : State) : Out :=
  .next (s.unlessSwapping (.ethApply src v) fun s => s.writeVia src ethObj 0x0001 (u8 v) (fun _ s => s.applyEthApply) State.ethApply)

/-- `ADDRESS_CONFLICT` (19 R485): an ARP packet of another MAC address claims the port's address. -/
def execAddressConflict (k : Fin 2) (s : State) : Out :=
  .next (if s.eths[k].up && s.fwUp && s.eths[k].ip ≠ 0 then
    ((s.ethIn k).modEth k fun e => { e with conflict := true, counts := upd e.counts 4 sat32 }).event 0xA005 (portObj k) 0
  else s)

/-- `ETH_LINK_CHANGE` (19 R484, R489, R498): the link goes up in a mode enabled in `LINK_MODES`, or goes down. -/
def execEthLinkChange (k : Fin 2) (up fast : Bool) (s : State) : Out :=
  .next (
    let e := s.eths[k]
    if s.start.fw = .down || (s.mode.block = .baseCamp && !s.bal.exiting) || (e.up = up && (!up || e.fast = fast)) ||
        (up && !(s.val (portObj k) 0x0005).testBit (if fast then 0 else 1)) then s
    else
      let t := (s.modEth k fun e => { e with up := up, fast := up && fast, downSeen := e.downSeen || !up }).irqRaise (89 + 4 * k.val)
      let t := if up then (t.event 0xA001 (portObj k) 0 (u16 (if fast then 1000 else 100))).announcePort k else t.event 0xA002 (portObj k) 0
      t.noteStream)

/-- A frame that is no dictionary request, taken from the receive queue (19 R483, 14 R381). -/
def State.takeEth (s : State) (k : Fin 2) (f : EthFrame) : State :=
  let count (t : State) (c : Fin 8) : State := t.modEth k fun e => { e with counts := upd e.counts c sat32 }
  match f with
  | .badFcs => count s 2
  | .foreign => count (s.ethIn k) 3
  | .udpOther => s.ethIn k
  | .badDatagram => (s.ethIn k).modDict fun d => { d with discards := upd d.discards (Fin.ofNat 6 (2 + k.val)) sat32 }
  | .arp own => let t := count (s.ethIn k) 4
                if own && s.start.fw = .running then t.send (.arpReply k.val) else t
  | .icmpEcho => let t := count (s.ethIn k) 5
                 if s.val ethObj 0x0002 = 1 && s.start.fw = .running then t.send (.icmpReply k.val) else t

/-- `ETH_FRAME_RECEIVED` (19 R483, 14 R381, 01 Table 1-6): a frame of `len` bytes that is no dictionary request. While firmware is suspended
in `SWAPPING` the frames wait in the 16 KiB receive queue; one that finds no room is dropped and counted (log 182). -/
def execEthFrameReceived (k : Fin 2) (f : EthFrame) (len : Nat) (s : State) : Out :=
  .next (
    if !s.eths[k].up then s
    else if f = .badFcs || !s.cores.swapping then s.takeEth k f
    else if 16384 < ((s.eths[k].rxQ.map Prod.snd).foldl (· + ·) 0) + len then s.modEth k fun e => { e with counts := upd e.counts 7 sat32 }
    else s.modEth k fun e => { e with rxQ := e.rxQ ++ [(f, len)] })

/-- Firmware takes the frames that waited for it. -/
def State.takeEths (s : State) : State :=
  s.forEach ([0, 1] : List (Fin 2)) fun s k =>
    s.eths[k].rxQ.foldl (fun t f => t.takeEth k f.1) (s.modEth k fun e => { e with rxQ := [] })

/-! ## The cell stream -/

/-- Sends a set (19 R486): `resolved`, the ARP for a unicast destination is answered; `count`, the datagrams that leave each port before
the next set is due. -/
def State.sendSet (s : State) (b : TravBuf) (resolved : Bool) (count : Nat) : State :=
  let t := if s.stream.open_ then
      (s.modStream fun x => { x with dropped := sat32 x.dropped, dropSeen := true }).event 0xA022 ethObj 0 (u32 (s.stream.last.getD 0))
    else s
  let ip := t.val ethObj 0x0042
  let multicast := decide (0xE0 ≤ ip / 0x1000000 ∧ ip / 0x1000000 ≤ 0xEF)
  let parts := t.streamSet b
  let out := if multicast || resolved then parts.take count else []
  let t := if t.stream.running then t else t.event 0xA020 ethObj 0
  let t := t.forEach t.streamPorts fun t k => t.forEach out fun t d => t.send (.streamDatagram k.val ip (t.val ethObj 0x0043) d)
  let whole := decide (out.length = parts.length)
  t.modStream fun x => { x with running := true, unresolved := !multicast && !resolved, last := some b.number, open_ := !whole,
                                sets := if whole then sat32 x.sets else x.sets }

/-- `STREAM_SET_SEND` (19 R486): the published traverse is divisible by the divider and has no set yet. -/
def execStreamSetSend (resolved : Bool) (count : Nat) (s : State) : Out :=
  .next (match s.trav.published with
  | none => s
  | some n =>
    let b := s.trav.bufs[Fin.ofNat 8 n]
    if s.fwActs && s.streamOn && !s.stream.suspended && !s.streamBlocked && n % s.val ethObj 0x0044 = 0 && s.stream.last ≠ some n &&
        b.published && b.number = n then s.sendSet b resolved count
    else s)

/-- `STREAM_SUSPENSION` (19 R489): the stream's rate is computed again. -/
def execStreamSuspension (s : State) : Out := .next (if s.fwActs then s.noteStream else s)

/-! ## The calendar -/

/-- `TIME_SOURCE_SELECTION` (19 R492, R496): the selection of each second, with the corrections of the source in force and its second
boundary. -/
def execTimeSourceSelection (s : State) : Out :=
  .next (if s.fwActs && s.timeOn && decide (s.clock.selectAt + sec 1 ≤ s.now) then
    let t := (s.noteSources.selectSource.steer).modClock fun c => { c with selectAt := s.now }
    if t.clock.source = 0 then t.irqRaise 94 else t
  else s)

/-- `TIME_SET` (19 R494): while the source in force is RTC and no change of source is waiting. -/
def execTimeSet (h : SealHead) (v : Nat) (s : State) : Out :=
  .next (s.unlessSwapping (.timeSet h v) fun s =>
    s.sealedVia (h.one ethObj 0x0015 (u64 v)) fun s =>
      match s.itemCheck ⟨ethObj, 0x0015, u64 v⟩ with
      | some a => .refused a 0 s
      | none =>
        if s.clock.source ≠ 2 || s.clock.next.isSome then .refused .state 0 s
        else .applied ((s.setCalendar (v * 1000)).modClock fun c => { c with set_ := true, uncUnknown := true, unc := 0, uncAt := s.now }))

/-- `RTC_ALARM` (19 R494): the calendar reaches the alarm; IRQ 95 once. -/
def execRtcAlarm (s : State) : Out :=
  .next (if s.val ethObj 0x0016 ≠ 0 && !s.clock.alarmed && decide (s.val ethObj 0x0016 ≤ s.utc) && s.start.fw ≠ .down then
    (s.modClock fun c => { c with alarmed := true }).irqRaise 95
  else s)

/-- `LEAP_SECOND` (19 R493): at the end of the UTC day of a flagged Announce, while PTP is in force. -/
def execLeapSecond (s : State) : Out :=
  .next (
    let inDay := s.utc % 86400000
    if s.clock.source ≠ 0 || !s.fwActs then s
    else if s.clock.leap = 1 && inDay = 86399999 then
      let t := s.rebase
      (({ t with utcAt := t.utcAt + sec 1 } : State).modClock fun c => { c with leap := 0 }).event 0xA015 ethObj 0 (u8 1)
    else if s.clock.leap = 2 && decide (86399000 ≤ inDay) then
      let t := s.rebase
      (({ t with utcBase := t.utcBase + 1000 } : State).modClock fun c => { c with leap := 0 }).event 0xA015 ethObj 0 (u8 2)
    else s)

/-! ## PTP -/

/-- An Announce (19 R493, R495, R496) with what the best master clock algorithm recommends on it. -/
def State.ptpAnnounce (s : State) (gm : Nat) (advice : PtpAdvice) (offset : Option Int) (leap : Nat) : State :=
  let t := s.modClock fun c => { c with announceAt := some s.now }
  match advice with
  | .slave =>
    let t := if t.clock.gm = gm then t else t.ptpEnter 4
    let t := if t.clock.ptp = 9 then t else t.ptpEnter 8
    t.modClock fun c => { c with gm := gm, utcOffset := offset, leap := leap }
  | .passive => if s.ptpRole = 2 then t.ptpEnter 7 else t
  | .master => if s.ptpRole = 2 then t.ptpEnter 6 else t

/-- The Follow_Up of a Sync: the offset from the master and the PTP clock set by it (19 R491, R495; log 32). -/
def State.ptpFollow (s : State) (seq : Nat) (origin : Int) : State :=
  match s.clock.syncWait with
  | some (q, rx) =>
    if q ≠ seq then s
    else
      let base := origin - (rx : Int) + s.clock.delay
      let t := s.modClock fun c => { c with
        syncWait := none, ptpBase := some base, ptpDiff := some (origin - (rx : Int)),
        offset := match c.ptpBase with | some b => clampInt (-2147483648) 2147483647 (b - base) | none => c.offset,
        offsets := match c.ptpBase with | some b => ((b - base) :: c.offsets).take 16 | none => c.offsets }
      if t.clock.ptp = 8 && t.clock.settled then t.ptpEnter 9 else t.noteSources
  | none => s

/-- The mean path delay as a signed 32-bit number. -/
def State.ptpSetDelay (s : State) (twice : Int) : State :=
  s.modClock fun c => { c with delay := clampInt (-2147483648) 2147483647 (twice / 2), delayWait := none }

/-- A PTP message at the clock's port (19 R495). Management messages are discarded. -/
def State.ptpMessage (s : State) (m : PtpMsg) : State :=
  let rx := macTime s.now
  let bound := s.clock.ptp = 8 || s.clock.ptp = 9
  match m with
  | .announce gm advice offset leap => s.ptpAnnounce gm advice offset leap
  | .sync seq => let t := s.stamp
                 if bound then t.modClock fun c => { c with syncWait := some (seq, rx) } else t
  | .followUp seq origin => if bound then s.ptpFollow seq origin else s
  | .delayReq seq => let t := s.stamp
                     if s.clock.ptp = 6 && !s.peerDelay then t.send (.ptp s.ptpPort.val 9 seq t.ptpServed []) else t
  | .delayResp seq received =>
    match s.clock.delayWait, s.clock.ptpDiff with
    | some (q, tx, none), some d => if q = seq && bound && !s.peerDelay then s.ptpSetDelay ((received - (tx : Int)) - d) else s
    | _, _ => s
  | .pdelayReq seq =>
    let t := s.stamp
    if !s.peerDelay then t
    else ((t.send (.ptp s.ptpPort.val 3 seq t.ptpServed [])).stamp).send (.ptp s.ptpPort.val 0xA seq t.ptpServed [])
  | .pdelayResp seq received =>
    let t := s.stamp
    (match s.clock.delayWait with
    | some (q, tx, none) => if q = seq && s.peerDelay then t.modClock fun c => { c with delayWait := some (q, tx, some (rx, received)) } else t
    | _ => t)
  | .pdelayRespFollowUp seq origin =>
    (match s.clock.delayWait with
    | some (q, tx, some (at_, received)) =>
      if q = seq && s.peerDelay then s.ptpSetDelay (((at_ : Int) - (tx : Int)) - (origin - received)) else s
    | _ => s)
  | .management => s

/-- The ordinary clock runs: it has a role, its port a link, and firmware runs. -/
def State.ptpRuns (s : State) : Bool := s.ptpRole ≠ 0 && s.eths[s.ptpPort].up && s.fwUp

/-- `PTP_MESSAGE_RECEIVED` (19 R495): messages of other ports and other domains are not the clock's. -/
def execPtpMessageReceived (k : Fin 2) (domain : Nat) (m : PtpMsg) (s : State) : Out :=
  .next (if !s.eths[k].up then s
  else
    let t := s.ethIn k
    if s.ptpRuns && k = s.ptpPort && domain = s.val ethObj 0x0023 then t.ptpMessage m else t)

/-- `PTP_MESSAGE_INTERVAL` (19 R495, R496): timer 0 Announce, 1 Sync with its Follow_Up, 2 the delay request. -/
def execPtpMessageInterval (k : Fin 3) (s : State) : Out :=
  .next (
    let seq := s.clock.seqs[k]
    let port := s.ptpPort.val
    let t := s.modClock fun c => { c with seqs := c.seqs.set k ((seq + 1) % 65536) }
    if !s.ptpRuns then s
    else if k = 0 then
      (if s.clock.ptp = 6 then
        t.send (.ptp port 0xB seq s.ptpServed (u8 (s.val ethObj 0x0024 0) ++ u8 248 ++ u8 0xFE ++ u8 (s.val ethObj 0x0024 1) ++ u8 0xA0))
      else s)
    else if k = 1 then
      (if s.clock.ptp = 6 then ((t.send (.ptp port 0 seq 0 [])).stamp).send (.ptp port 8 seq s.ptpServed []) else s)
    else if s.peerDelay then
      ((t.send (.ptp port 2 seq 0 [])).stamp).modClock fun c => { c with delayWait := some (seq, macTime s.now, none) }
    else if s.clock.ptp = 8 || s.clock.ptp = 9 then
      ((t.send (.ptp port 1 seq 0 [])).stamp).modClock fun c => { c with delayWait := some (seq, macTime s.now, none) }
    else s)

/-- `ANNOUNCE_RECEIPT_TIMEOUT` (19 R496): three Announce intervals, the default profile's announceReceiptTimeout, without an Announce
(log 33). -/
def execAnnounceReceiptTimeout (s : State) : Out :=
  .next (match s.clock.announceAt with
  | none => s
  | some t0 =>
    if !s.ptpRuns || s.clock.ptp = 6 || decide (s.now < t0 + 3 * s.ptpInterval 0) then s
    else
      let had := s.clock.ptp = 8 || s.clock.ptp = 9
      let t := if had then (s.event 0xA013 ethObj 0).modClock fun c => { c with gm := 0, utcOffset := none, leap := 0 } else s
      let t := t.modClock fun c => { c with announceAt := some s.now }
      t.ptpEnter (if s.ptpRole = 2 then 6 else 4))

end Sys2Proof.Machine
end

