-- ==== Sys2Proof/Machine/ReadDevice.lean ====
section
/-!
DEFINITION. What a read of the device objects gives, indices below 0x2000: the value of one element as the unsigned number of its
bytes (14 R380, R386; Tables 13-15, 14-11, 15-2, 16-4, 17-8, 17-9, 18-4, 19-5). An entry not named here reads the value written to
it, or its default.
-/

namespace Sys2Proof.Machine

/-- Identity (15 Table 15-2). -/
def State.readIdentity (s : State) (sub : Nat) : Nat :=
  match sub with
  | 0x3 => s.serial
  | 0x4 => (s.runningImage.map fun k => s.ident.fwVersion[k]).getD (Config.recoveryWord s.start.began sub)
  | 0x5 => s.ident.hwIssue
  | 0x6 => s.ident.bootRom
  | 0x9 => s.ident.mfgTime
  | 0xA => (s.runningImage.map fun k => s.start.images[k].generation).getD (Config.recoveryWord s.start.began sub)
  | 0xB => (s.now - max s.start.began (s.start.resumeAt - ms 150)) / ms 1
  | _ => s.val 0x1000 sub

/-- `CAN_STATUS` (13 Table 13-16). -/
def Can.statusWord (c : Can) : Nat :=
  c.bus.code * 0x4000 + bitAt (decide (96 ≤ c.tec ∨ 96 ≤ c.rec_)) 13 + bitAt c.dupNode 12 + c.mode % 4 * 0x400 + bitAt c.sync 9 +
    bitAt c.master 8 + bitAt c.recovering 7 + bitAt c.cfgPending 6 + c.seen % 16

/-- Entries of a controller (13 Table 13-15). -/
def State.readCan (s : State) (k : Fin 3) (sub el : Nat) : Nat :=
  let c := s.cans[k]
  match sub with
  | 0x05 => c.statusWord
  | 0x06 => min c.tec 255 * 256 + min c.rec_ 127
  | 0x0A => c.counts.toList.getD el 0
  | 0x0B => c.clashId
  | 0x16 => c.cycle
  | 0x17 => c.missed.toList.getD el 0
  | _ => s.val (canObj k) sub el

/-- `MO_STATUS` (13 Table 13-17). -/
def MsgObj.statusWord (m : MsgObj) : Nat :=
  bitAt m.nd 15 + bitAt m.lost 14 + bitAt m.pending 13 + bitAt m.active 12 + bitAt m.cancelled 11 + bitAt m.clashOff 10 +
    bitAt m.ttMissed 9 + bitAt m.sent 8

/-- Ethernet common, time and stream (19 Table 19-5). -/
def State.readEth (s : State) (sub el : Nat) : Nat :=
  match sub with
  | 0x10 => s.utc
  | 0x11 => s.tq
  | 0x12 => s.clock.source
  | 0x17 => s.clock.steps
  | 0x26 => s.clock.ptp
  | 0x27 => ofSigned 32 s.clock.offset
  | 0x28 => ofSigned 32 s.clock.delay
  | 0x29 => s.clock.gm
  | 0x2A => ofSigned 32 s.clock.rate
  | 0x46 => s.stream.rate
  | 0x47 => bitAt s.stream.running 7 + bitAt s.stream.suspended 6 + bitAt s.stream.unresolved 5 + bitAt s.stream.dropSeen 0
  | 0x48 => s.stream.sets
  | 0x49 => s.stream.dropped
  | _ => s.val ethObj sub el

/-- One Ethernet port (19 Tables 19-5 and 19-6). -/
def State.readPort (s : State) (k : Fin 2) (sub el : Nat) : Nat :=
  let e := s.eths[k]
  match sub with
  | 0x6 => bitAt e.up 15 + bitAt e.fast 14 + bitAt e.conflict 13 + bitAt e.downSeen 8
  | 0x7 => e.counts.toList.getD el 0
  | 0x8 => [e.ip, e.mask, e.gateway].getD el 0
  | _ => s.val (portObj k) sub el

/-- `THERMAL_STATUS` (16 Table 16-5). -/
def Thermal.statusWord (t : Thermal) : Nat :=
  bitAt (t.level ≠ 0) 15 + bitAt t.riseAt.isSome 14 + bitAt (t.fault.toList.any id) 13 + bitAt (t.compFailed ≠ 0) 12 +
    bitAt t.shutdown 11 + t.seen % 16

/-- Device temperatures and throttling (16 Table 16-4). -/
def State.readThermal (s : State) (sub el : Nat) : Nat :=
  let t := s.therm
  match sub with
  | 0x1 => if t.fault.toList.getD el false then 0x7FFF else ofSigned 16 (t.temp.toList.getD el 0)
  | 0x2 => match t.summit with | some v => ofSigned 16 v | none => 0x7FFF
  | 0x3 => t.sensor
  | 0x4 => ofSigned 16 t.rise
  | 0x6 => if t.level = 0 then 0 else t.select.code
  | 0x7 => t.level
  | 0x8 => t.statusWord
  | 0x9 => ofSigned 16 (t.max.toList.getD el 0)
  | 0xA => min max32 (t.hotNs / sec 1)
  | 0xB => t.shutdowns
  | _ => s.val 0x1B00 sub el

/-- `REC_STATUS` (17 Table 17-10). -/
def Recorder.statusWord (r : Recorder) : Nat :=
  bitAt r.flashWriting 15 + bitAt r.fillAbove 14 + bitAt (r.buckets.any fun p => p.2.count ≠ 0) 13 + bitAt r.stagingFull 12 + r.seen % 16

/-- The recorder (17 Table 17-8); `cursor` is the reading partner's (17 R448). -/
def State.readRecorder (s : State) (cursor sub el : Nat) : Nat :=
  if 0x1001 ≤ sub then
    let br := s.rateOf sub
    eventLevel sub * 2 ^ 28 + br.1 * 2 ^ 20 + br.2
  else match sub with
    | 0x1 => s.evlog.statusWord
    | 0x2 => s.recNewest
    | 0x3 => s.evlog.oldest
    | 0x4 => s.evlog.ring.length + s.evlog.staged.length
    | 0x7 => cursor
    | 0xA => s.evlog.suppressed
    | 0xB => s.evlog.staged.length
    | 0xC => s.evlog.lost
    | _ => s.val 0x1C00 sub el

/-- Offset and size of the partitions in MiB (17 Table 17-1). -/
def partitions : List Nat := [0, 4, 4, 16, 20, 16, 36, 8, 44, 32, 76, 128, 204, 512, 716, 52]

/-- `LEARN_STATUS` (17 Table 17-12). -/
def Store.statusWord (g : Store) : Nat :=
  bitAt g.writing.isSome 15 + bitAt g.merged 14 + bitAt g.noneValid 13 + bitAt g.rewrite 12 + g.seen % 16

/-- Flash partitions, learned data and history (17 Table 17-9); `sel` is the reading partner's selection (17 R458). -/
def State.readStore (s : State) (sel sub el : Nat) : Nat :=
  match sub with
  | 0x1 => partitions.getD el 0 * 0x100000
  | 0x2 => s.store.statusWord
  | 0x3 => (s.store.copies.toList.map fun c => if c.crcOk then c.generation else 0).getD el 0
  | 0x4 => s.store.selected
  | 0x5 => s.store.writes
  | 0x7 => s.dict.cfgGen
  | 0x8 => ((Sparse.get? s.store.sets el).map HistSet.seq).getD 0
  | 0x9 => ((Sparse.get? s.store.sets el).map HistSet.time).getD 0
  | 0xA => sel
  | _ => s.val 0x1C01 sub el

/-- `HEALTH_STATUS` (18 Table 18-5). -/
def State.healthWord (s : State) : Nat :=
  bitAt (s.cores.role[2] = .standby) 15 + bitAt s.cores.swapping 14 + bitAt s.health.oscSpare 13 +
    bitAt (decide (56 < s.health.rows.length)) 12 + bitAt (decide (691 < s.health.blocks.length)) 11 + bitAt s.health.suspect 10 +
    bitAt (s.health.wearMap ≠ 0) 9 + s.health.seen % 32

/-- Highest count within W over the items of a class, `FC_IN_WINDOW` (18 Table 18-4). -/
def State.fcHighest (s : State) (k : Nat) : Nat :=
  ((s.fc.hist.filter fun p => p.1 / 65536 = k).map fun p => (s.inWindow k (p.1 % 65536)).length).foldl max 0

/-- Fault counting, spares and wear (18 Table 18-4). -/
def State.readHealth (s : State) (sub el : Nat) : Nat :=
  match sub with
  | 0x01 => s.healthWord
  | 0x02 => if s.cores.swapping then 1 else 0
  | 0x03 => (s.cores.role.toList.map CoreRole.code).getD el 0
  | 0x04 => if s.health.oscSpare then 1 else 0
  | 0x08 => s.health.ecc.toList.getD el 0
  | 0x11 => s.fc.total.toList.getD el 0
  | 0x12 => s.fc.lasting.toList.getD el 0
  | 0x13 => s.fcHighest el
  | 0x14 => s.fc.lastItem.toList.getD el 0
  | 0x15 => s.fc.lastTime.toList.getD el 0
  | 0x20 => s.health.spareUse.toList.getD el 0
  | 0x21 => s.health.flashErase.toList.getD el 0
  | 0x25 => s.health.wearMap
  | _ => s.val 0x1D00 sub el

/-- `SEAL_STATUS` (14 Table 14-12). -/
def State.sealWord (s : State) : Nat :=
  bitAt (decide (s.seng.queue.length < 8)) 15 + bitAt s.trustEmpty 14 + bitAt (s.trustEmpty && s.supply.prov) 13 +
    bitAt s.seng.eraseArmed.isSome 12 + bitAt (s.seng.storePending ≠ 0) 11 + bitAt s.seng.fw.isSome 10 + s.seng.seen % 16

/-- Seal engine, trust list and firmware transfer (14 Table 14-11). -/
def State.readSeal (s : State) (sub el : Nat) : Nat :=
  if 0x18 ≤ sub ∧ sub ≤ 0x1F then (s.seng.slots.toList.map TrustSlot.counter).getD (sub - 0x18) 0
  else if 0x20 ≤ sub ∧ sub ≤ 0x27 then (s.seng.slots.toList.map TrustSlot.enrolled).getD (sub - 0x20) 0
  else match sub with
    | 0x02 => s.seng.result
    | 0x03 => s.sealWord
    | 0x04 => s.seng.queue.length
    | 0x28 => mapBits 8 s.slotUsed
    | 0x33 => s.seng.fwStatus
    | 0x40 => s.dict.writes.toList.getD el 0
    | 0x41 => s.dict.aborts.toList.getD el 0
    | 0x42 => s.dict.contended
    | 0x43 => s.dict.discards.toList.getD el 0
    | _ => s.val 0x1E00 sub el

/-- Partners that are present. -/
def State.partnerCount (s : State) : Nat := (s.dict.partners.toList.filter Partner.present).length

/-- Partner table and heartbeat (14 Table 14-11). -/
def State.readPartner (s : State) (sub el : Nat) : Nat := if sub = 0x43 then s.partnerCount else s.val 0x1E01 sub el

/-- A partner's entry (14 Table 14-8). -/
def Partner.bytes (p : Partner) : List Byte :=
  u8 p.iface ++ u8 (bitAt p.present 7 + p.hbState % 4) ++ u16 p.period ++
    (if p.iface = 5 ∨ p.iface = 0xFF then u32 0 else u32 p.addr) ++ u64 p.first ++ u64 p.last

end Sys2Proof.Machine
end

