-- ==== Sys2Proof/Machine/ReadBlock.lean ====
section
/-!
DEFINITION. What a read of the block object and of the bank objects gives (14 R380, R386; Tables 2-13, 3-4, 5-10, 6-6, 7-7, 8-5,
9-12, 10-7, 11-9, 12-5, 12-12, 12-17, 15-5, 15-6, 20-11), one element as the unsigned number of its bytes.
-/

namespace Sys2Proof.Machine

/-- `MODE_VECTOR` (20 Table 20-12). -/
def State.modeVector (s : State) : Nat :=
  let can (k : Fin 3) : Nat := if s.cans[k].onBus && !(k = 2 && s.mode.block = .baseCamp) then s.cans[k].mode else 3
  s.mode.block.code * 2 ^ 28 + (if s.therm.level = 0 then 0 else s.therm.select.code) * 2 ^ 26 + s.therm.level * 2 ^ 23 +
    s.bal.mode * 2 ^ 21 + bitAt s.cores.swapping 20 + s.clock.source * 2 ^ 18 + can 0 * 2 ^ 16 + can 1 * 2 ^ 14 + can 2 * 2 ^ 12

/-- `SUPPLY_STATUS` (02 Table 2-14); `wakeOut` is the contact as it stands (06 R188). -/
def Supply.statusWord (p : Supply) (wakeOut : Bool) : Nat :=
  bitAt p.pfw 15 + bitAt p.holdupActive 14 + bitAt p.holdupReady 13 + bitAt p.holdupDegraded 12 + bitAt p.vqPresent 11 +
    bitAt p.vqOver 10 + bitAt p.prov 9 + bitAt p.wakeIn 8 + bitAt wakeOut 7 + bitAt p.belWarn 6 + p.seen % 8

/-- Block state, summary, reset and supply, sub-indices up to 0x004F. -/
def State.readBlock0 (s : State) (sub el : Nat) : Nat :=
  match sub with
  | 0x01 => s.mode.block.code
  | 0x03 => s.modeVector
  | 0x04 => (s.ropes.toList.map fun r => r.mode.code).getD el 0
  | 0x05 => (s.banks.toList.map fun b => b.state.code).getD el 0
  | 0x06 => s.mode.since
  | 0x07 => s.mode.refused
  | 0x10 => s.installedMap
  | 0x20 => s.resetCause
  | 0x21 => s.start.step
  | 0x22 => s.start.bootImage
  | 0x24 => s.start.startupTime
  | 0x43 => s.supply.statusWord s.wakeOutClosed
  | 0x45 => s.supply.holdupE
  | _ => s.val blockObj sub el

/-- `TRAV_STATUS` (05 Table 5-11). -/
def State.travWord (s : State) : Nat :=
  bitAt s.trav.running 15 + bitAt (s.effPeriod ≠ s.val blockObj 0x0050 * 1000) 14 + s.trav.seen +
    bitAt (s.ropes.toList.any Rope.lengthened) 8 + bitAt (s.ropes.toList.any Rope.withheld) 7

/-- The latest complete buffer, empty before one (05 R162). -/
def State.lastComplete (s : State) : TravBuf :=
  let n := s.trav.number.getD 0
  match ([n, n + 7].map fun k => s.trav.bufs[bufOf k]).find? fun b => b.used && b.complete with
  | some b => b
  | none => TravBuf.empty

/-- Traverse, balancing, base camp and interrupt counters, sub-indices 0x0050 to 0x00FF. -/
def State.readBlock1 (s : State) (sub el : Nat) : Nat :=
  let b := s.lastComplete
  if 0x80 ≤ sub then s.irq.counts.toList.getD (sub - 0x80) 0
  else match sub with
    | 0x51 => s.effPeriod
    | 0x54 => s.trav.number.getD 0
    | 0x55 => s.trav.slowNumber.getD 0
    | 0x56 => s.travWord
    | 0x57 => b.utc
    | 0x58 => b.ns
    | 0x5B => s.trav.counts[0]
    | 0x5C => s.trav.counts[1]
    | 0x5D => s.trav.counts[2]
    | 0x5E => s.trav.counts[3]
    | 0x60 => s.bal.mode
    | 0x75 => s.bal.wakeCause
    | 0x76 => s.val blockObj 0x0076 % 8 + bitAt s.wakeOutClosed 7
    | _ => s.val blockObj sub el

/-- `CORR_STATUS` (07 Table 7-8). -/
def State.corrWord (s : State) : Nat :=
  let c := s.corr
  bitAt (c.enabled && c.teff ≠ 0) 15 + bitAt (bandActive c.teff 0) 14 + bitAt (bandActive c.teff 1) 13 + bitAt (bandActive c.teff 2) 12 + c.seen

/-- A rational figure as an unsigned number, rounded and limited to `top` (log 25). -/
def figure (q : Rat) (top : Nat) : Nat := min top (ratRound q).toNat

/-- 0.01 % of a percentage, 0xFFFF where there is none (08 R226). -/
def socFigure : Option Rat → Nat
  | some q => figure (q * 100) 0xFFFF
  | none => 0xFFFF

/-- Largest uncertainty of a set of strings; none without one (08 R226). -/
def State.uOf (s : State) (l : List (Fin 40)) : Option Rat := if l.isEmpty then none else some (ratMaxOf (l.map fun i => s.est.strs[i].u))

/-- `EST_STATUS` (08 Table 8-8). -/
def State.estWord (s : State) : Nat :=
  bitAt s.est.running 15 + s.est.status + bitAt (s.est.strs.toList.any StrEst.fallback) 10

/-- Correlation, estimator and gate maps, sub-indices 0x0100 to 0x013F. -/
def State.readBlock2 (s : State) (sub el : Nat) : Nat :=
  let act := s.corrStrings
  match sub with
  | 0x104 => if s.corr.teff = 0 then 0 else batchLen s.corr.teff
  | 0x105 => if bandActive s.corr.teff el then bandRef s.corr.teff el else 0
  | 0x106 => s.corrWord
  | 0x107 => match s.corr.area with | some b => b.number | none => 0
  | 0x108 => s.corr.lost
  | 0x109 => s.corr.sats
  | 0x110 => s.estWord
  | 0x11C => if act.isEmpty then 0xFFFF else figure (s.est.blockRep * 100) 0xFFFF
  | 0x11D => socFigure (s.socOf act)
  | 0x11E => socFigure (s.uOf act)
  | 0x11F => s.store.lastWrite
  | 0x130 => s.gateBlock.map
  | 0x131 => s.gateBlock.count
  | 0x132 => mapBits 52 fun c => (s.gates[Fin.ofNat 52 c]).railPos && (s.gates[Fin.ofNat 52 c]).railNeg
  | _ => s.val blockObj sub el

/-- `BELAY_STATUS` (11 Table 11-10). -/
def State.belayWord (s : State) : Nat :=
  bitAt s.envIncomplete 15 + bitAt s.belay.mirrorMismatch 14 + bitAt (!s.belay.rewrite.isEmpty) 13 + bitAt (!s.belay.degraded.isEmpty) 12 +
    bitAt s.belay.missing 11 + s.belay.seen % 64

/-- `TP_STATUS` (12 Table 12-12). -/
def PulseSupply.statusByte (p : PulseSupply) : Nat := bitAt p.regulated 7 + bitAt p.fault.isSome 6 + p.fault.getD 0

/-- `Q_STATUS` (12 Table 12-14). -/
def State.qWord (s : State) (q : Fin 16) : Nat :=
  let o := s.io.outputs[q]
  bitAt o.state.energised 15 + bitAt (o.state = .pullIn) 14 + bitAt (o.state = .hold) 13 + bitAt o.fault.isSome 12 +
    bitAt (o.state = .waiting) 11 + bitAt (s.qPermitted q) 10 + bitAt o.openLoad 9 + bitAt (s.qPass q).isSome 8 +
    o.lastFault * 16 + o.seen % 8

/-- `SM_STATUS` (12 Table 12-19). -/
def State.smWord (s : State) (m : Fin 8) : Nat :=
  let c := s.io.streams[m]
  c.state.code * 0x2000 + bitAt c.permit 12 + bitAt (s.smReaction m) 11 + c.seen % 8

/-- Belay logic and safety I/O, sub-indices from 0x0140. -/
def State.readBlock3 (s : State) (sub el : Nat) : Nat :=
  match sub with
  | 0x140 => s.belayWord
  | 0x141 => s.belay.digest
  | 0x142 => s.belay.mirrorDigest
  | 0x143 => s.belay.disagreeCount
  | 0x144 => s.belay.reportLoss
  | 0x145 => s.belay.mismatchCount
  | 0x146 => s.ident.romIssue
  | 0x147 => s.belay.commits
  | 0x150 => (s.io.supplies.toList.map PulseSupply.statusByte).getD el 0
  | 0x159 => s.qWord (Fin.ofNat 16 el)
  | 0x15F => (s.io.outputs.toList.map Output.operations).getD el 0
  | 0x160 => (s.io.outputs.toList.map Output.faults).getD el 0
  | 0x16D => s.smWord (Fin.ofNat 8 el)
  | 0x16E => (s.io.streams[Fin.ofNat 8 (el / 4)]).counts[Fin.ofNat 4 el]
  | 0x171 => s.io.txSeq
  | _ => s.val blockObj sub el

/-- The block object. -/
def State.readBlock (s : State) (sub el : Nat) : Nat :=
  if sub < 0x50 then s.readBlock0 sub el
  else if sub < 0x100 then s.readBlock1 sub el
  else if sub < 0x140 then s.readBlock2 sub el
  else s.readBlock3 sub el

/-! ## Bank objects -/

/-- `GATE_STATUS` (10 Table 10-9). -/
def Gate.statusWord (g : Gate) : Nat :=
  bitAt g.seenCmd 15 + bitAt g.gateOn 14 + bitAt g.gateOff 13 + bitAt g.latch.isSome 12 + bitAt g.present 11 + bitAt g.record.isSome 10 +
    bitAt g.railPos 9 + bitAt g.railNeg 8 + bitAt (g.selftest = 1) 7 + bitAt g.cfgNext.isSome 6 + bitAt g.hold 5 + g.seen % 8

/-- `BANK_CTRL_STATUS` (09 Table 9-14). -/
def State.bankWord (s : State) (b : Fin 4) : Nat :=
  let c := s.banks[b]
  let out := s.val (bankObj b) 0x0017
  bitAt (s.hbPermitted b) 15 + bitAt c.modulator 14 + bitAt s.gates[chD b].gateOn 13 + bitAt s.gates[chD b].record.isSome 12 +
    bitAt (s.gates[chH b].record.isSome || s.gates[chL b].record.isSome) 11 + bitAt (s.bankTrip b) 10 + bitAt c.groupReady 9 +
    bitAt (out ≠ 0 && (s.io.outputs[Fin.ofNat 16 (out - 1)]).state.energised) 8 + bitAt c.holdoff.isSome 7 + bitAt c.linkLost 6 + c.seen % 8

/-- `PC_ELAPSED`: 1 ms since the source pass was taken (09 Table 9-12). -/
def State.pcElapsed (s : State) (b : Fin 4) : Nat :=
  match s.banks[b].source.bind s.closePass with
  | some p => (s.now - p.taken) / ms 1
  | none => 0

/-- `IN_STATUS` (12 Table 12-7). -/
def State.inWord (s : State) (i : Fin 24) : Nat :=
  let c := s.io.inputs[i]
  bitAt c.ready 15 + bitAt c.a.closed 14 + bitAt c.b.closed 13 + bitAt c.discFault 12 + bitAt c.xsFault 11 + bitAt c.pendingTest 10 +
    bitAt (s.inTested i && (s.supplyFault (supplyA i) || s.supplyFault (supplyB i))) 9 +
    bitAt (!(c.a.checked && c.b.checked)) 8 + c.seen % 8

/-- `GROUP_STATUS` (12 Table 12-8). -/
def State.groupWord (s : State) (b : Fin 4) : Nat :=
  let input (j : Nat) : Fin 24 := Fin.ofNat 24 (b.val * 6 + j)
  bitAt s.banks[b].groupReady 15 + ((List.range 6).map fun j => bitAt s.io.inputs[input j].ready (9 + j)).foldl (· + ·) 0 +
    bitAt (!s.supplyFault (supplyA (input 0))) 8 + bitAt (!s.supplyFault (supplyB (input 0))) 7 + bitAt s.banks[b].groupDropSeen 0

/-- The three channels of a bank: CnH, CnL, Dn (10 Table 10-7). -/
def State.bankGate (s : State) (b : Fin 4) (k : Nat) : Gate := s.gates[[chH b, chL b, chD b].getD k (chD b)]

/-- Bank control, membership, charge and limits, sub-indices up to 0x003F (09 Table 9-12, 15 R414, 08 Table 8-6). -/
def State.readBank0 (s : State) (b : Fin 4) (sub el : Nat) : Nat :=
  let c := s.banks[b]
  let act := s.corrStrings.filter fun i => s.bankOf i = b
  match sub with
  | 0x01 => c.state.code
  | 0x02 => c.faultCause
  | 0x06 => c.vLink
  | 0x18 => s.bankWord b
  | 0x19 => match c.source with | some i => i.val + 1 | none => 0
  | 0x1A => s.pcElapsed b
  | 0x1B => mapBits 40 fun k => s.bankOf (Fin.ofNat 40 k) = b && (s.strs[Fin.ofNat 40 k]).state = .closed
  | 0x20 => mapBits 40 fun k => s.bankOf (Fin.ofNat 40 k) = b
  | 0x21 => ((s.stringsOf b).filter fun i => s.strs[i].state ≠ .excluded).length
  | 0x30 => if act.isEmpty then 0xFFFF else figure (s.est.bankRep[b] * 100) 0xFFFF
  | 0x31 => socFigure (s.socOf act)
  | 0x32 => socFigure (s.uOf act)
  | 0x33 => (act.map fun i => figure s.est.strs[i].avail max32).foldl (· + ·) 0
  | 0x34 => ofSigned 32 (ratRound (s.est.bankLim[b].getD 0 0))
  | 0x35 => ofSigned 32 (ratRound (s.est.bankLim[b].getD 1 0))
  | 0x36 => ofSigned 32 (ratRound (s.est.bankLim[b].getD 2 0))
  | 0x37 => ofSigned 32 (ratRound (s.est.bankLim[b].getD 3 0))
  | 0x38 => figure (s.est.share[b] * 100) 0xFFFF
  | _ => s.val (bankObj b) sub el

/-- Gates and inputs of a bank, sub-indices from 0x0040 (10 Table 10-7, 12 Table 12-5). -/
def State.readBank1 (s : State) (b : Fin 4) (sub el : Nat) : Nat :=
  let input (j : Nat) : Fin 24 := Fin.ofNat 24 (b.val * 6 + j)
  match sub with
  | 0x41 => (s.bankGate b el).statusWord
  | 0x42 => ((s.bankGate b el).latch.map GateCause.code).getD 0
  | 0x43 => (s.bankGate b el).selftest
  | 0x45 => s.banks[b].conflicts
  | 0x46 => (s.bankGate b (el / 3)).counts[Fin.ofNat 3 el]
  | 0x47 => (s.bankGate b el).cycles
  | 0x51 => s.inWord (input el)
  | 0x52 => s.groupWord b
  | 0x53 => s.io.inputs[input el].disc
  | 0x54 => (s.io.inputs[input (el / 2)]).faults[Fin.ofNat 2 el]
  | _ => s.val (bankObj b) sub el

/-- A bank object. -/
def State.readBank (s : State) (b : Fin 4) (sub el : Nat) : Nat := if sub < 0x40 then s.readBank0 b sub el else s.readBank1 b sub el

end Sys2Proof.Machine
end

