-- ==== Sys2Proof/Machine/ReadString.lean ====
section
/-!
DEFINITION. What a read of the string objects and of the envelope sets gives (14 R380, R386, 15 R410, R415 to R417; Tables 4-13, 5-10,
6-6, 7-7, 8-7, 9-11, 10-7, 11-9, 15-8), one element as the unsigned number of its bytes, and the string's BLOB entries.
-/

namespace Sys2Proof.Machine

/-- `STRING_CTRL_STATUS` (09 Table 9-13). -/
def State.strWord (s : State) (i : Fin 40) : Nat :=
  let c := s.strs[i]
  let p := s.closePass i
  bitAt p.isSome 15 + bitAt (p.any fun h => h.pass.precharge) 14 + bitAt c.matchOk 13 + bitAt (s.envClear i) 12 +
    bitAt s.banks[s.bankOf i].groupReady 11 + bitAt s.gates[chS i].record.isSome 10 + bitAt c.trip 9 + bitAt c.lockout 8 +
    bitAt c.exclusion 7 + bitAt s.gates[chS i].gateOn 6 + bitAt c.waiting 5 + bitAt c.stored.isSome 4 + c.seen % 4

/-- `ROPE_STATUS` (04 Table 4-14); `unseen`: the string is TRIPPED under R131. -/
def Rope.statusWord (r : Rope) (unseen : Bool) : Nat :=
  bitAt r.intact 15 + bitAt r.broken 14 + bitAt r.farLast 13 + bitAt (r.unseenMap ≠ 0) 12 + bitAt (r.rollCall = 1) 11 +
    bitAt r.portA.spare 10 + bitAt r.portB.spare 9 + bitAt r.portA.failed 8 + bitAt r.portB.failed 7 + bitAt r.restorable 6 +
    bitAt r.short 5 + r.seen + bitAt (r.unseenTrip && unseen) 0

/-- Highest running unseen count, `UNSEEN_MAX` (04 Table 4-13). -/
def BelayStr.unseenMax (b : BelayStr) : Nat := min 255 (natMaxOf (b.unseen.toList ++ b.slowUnseen.toList))

/-- Entries that read 0 for a string that is not installed: measured values and flags (15 R410; log 35). -/
def measuredOrFlag (sub : Nat) : Bool :=
  [0x0C, 0x0E, 0xB1, 0xC0, 0xC2, 0xC3].contains sub || decide (0x15 ≤ sub ∧ sub ≤ 0x18) || decide (0x1B ≤ sub ∧ sub ≤ 0x1D) ||
    decide (0x21 ≤ sub ∧ sub ≤ 0x24) || decide (0x100 ≤ sub ∧ sub ≤ 0x10A)

/-- String control, rope, recess and link counters, sub-indices up to 0x005F. -/
def State.readString0 (s : State) (i : Fin 40) (sub el : Nat) : Nat :=
  let c := s.strs[i]
  let r := s.ropes[i]
  if 0x30 ≤ sub ∧ sub ≤ 0x34 then Sparse.getD r.byPos ((sub - 0x30) * 64 + el) 0
  else if 0x40 ≤ sub ∧ sub ≤ 0x49 then r.portA.stats.toList.getD (sub - 0x40) 0
  else if 0x50 ≤ sub ∧ sub ≤ 0x59 then r.portB.stats.toList.getD (sub - 0x50) 0
  else match sub with
    | 0x01 => c.state.code
    | 0x02 => c.tripCause
    | 0x0A => s.hpRemain i
    | 0x0B => ((s.closePass i).map fun h => h.pass.counter).getD 0
    | 0x0C => s.strWord i
    | 0x0E => ofSigned 32 c.matchDv
    | 0x0F => c.lockoutCause
    | 0x10 => r.mode.code
    | 0x13 => r.rollCall
    | 0x14 => r.result
    | 0x15 => r.portA.delay
    | 0x16 => r.portB.delay
    | 0x17 => r.portA.rtt.toList.getD el 0
    | 0x18 => r.portB.rtt.toList.getD el 0
    | 0x1B => r.statusWord (c.state = .tripped && c.tripSet.testBit 8)
    | 0x1C => r.unseenMap
    | 0x1D => s.bstr[i].unseenMax
    | 0x1E => r.lastA.getD 0xFF
    | 0x21 => r.filters.toList.getD el 0
    | 0x22 => r.recess
    | 0x23 => mapBits 33 fun p => (Sparse.getD s.trav.posFlags (nodeKey i p) 0).testBit 2
    | 0x24 => if r.permit then 1 else 0
    | 0x5F => 0
    | _ => s.val (strObj i) sub el

/-- Published impedance of cell `e` in band `b`. -/
def State.impedOf (s : State) (i : Fin 40) (e b : Nat) : Imped := Sparse.getD s.corr.imped (bandKey (cellKey i e) b) Imped.empty

/-- Age of a published impedance in seconds (07 Table 7-7). -/
def State.zAge (s : State) (m : Imped) : Nat :=
  match m.at_ with
  | some t => min 0xFFFF ((s.now - t) / sec 1)
  | none => 0xFFFF

/-- Balancing, impedance, self-discharge and charge, sub-indices 0x0060 to 0x007F. -/
def State.readString1 (s : State) (i : Fin 40) (sub el : Nat) : Nat :=
  let sd (e : Nat) : Selfd := Sparse.getD s.corr.selfd (cellKey i e) Selfd.empty
  let ch := Sparse.getD s.corr.charge i.val Charge.empty
  if 0x70 ≤ sub ∧ sub ≤ 0x72 then
    let m := s.impedOf i (el / 2) (sub - 0x70)
    ofSigned 32 (if el % 2 = 0 then m.re else m.im)
  else match sub with
    | 0x62 => Sparse.getD s.bal.active (nodeKey i (el + 1)) 0
    | 0x63 => min max32 (Sparse.getD s.bal.onTime (cellKey i el) 0 / 100000)
    | 0x64 => Sparse.getD s.bal.owMap (nodeKey i (el + 1)) 0
    | 0x73 => (s.impedOf i (el / 3) (el % 3)).conf
    | 0x74 => s.zAge (s.impedOf i (el / 3) (el % 3))
    | 0x75 => (s.impedOf i (el / 3) (el % 3)).state
    | 0x76 => (let x := Sparse.getD s.corr.exc (bandKey i.val el) ((0 : Rat), (0 : Rat))
               if x.2 = 0 then 0 else figure (x.1 / x.2 / 10000) max32)
    | 0x78 => ofSigned 32 (sd el).isd
    | 0x79 => (sd el).level
    | 0x7A => ((List.range 512).filter fun e => 2 ≤ (sd e).level).length
    | 0x7B => ch.dis
    | 0x7C => ch.chg
    | _ => s.val (strObj i) sub el

/-- Estimator figures and report card, sub-indices 0x0080 to 0x00AF. -/
def State.readString2 (s : State) (i : Fin 40) (sub el : Nat) : Nat :=
  let e := s.est.strs[i]
  let c := s.cellEst i el
  match sub with
  | 0x82 => figure (e.reported * 100) 0xFFFF
  | 0x83 => figure (e.soc * 100) 0xFFFF
  | 0x84 => figure (e.u * 100) 0xFFFF
  | 0x85 => ofSigned 32 (ratRound (e.lim.getD 0 0))
  | 0x86 => ofSigned 32 (ratRound (e.lim.getD 1 0))
  | 0x87 => ofSigned 32 (ratRound (e.lim.getD 2 0))
  | 0x88 => ofSigned 32 (ratRound (e.lim.getD 3 0))
  | 0x89 => e.source
  | 0x8A => match e.rest with | some t => min max32 ((s.now - t) / sec 1) | none => 0
  | 0x8B => figure (c.soc * 100) 0xFFFF
  | 0x8C => figure (c.u * 100) 0xFFFF
  | 0x8D => figure c.cap max32
  | 0x8E => ofSigned 32 ((c.r.map ratRound).getD 0)
  | 0x8F => figure (c.ocv * 10000) 0xFFFF
  | 0x90 => match c.anchorAt with | some t => min (max32 - 1) ((s.now - t) / sec 1) | none => max32
  | 0x91 => c.learned
  | 0x92 => figure e.avail max32
  | 0x98 => figure c.card.throughput max32
  | 0x99 => c.card.capFirst
  | 0x9A => c.card.vMax
  | 0x9B => c.card.vMin
  | 0x9C => ofSigned 16 c.card.tMax
  | 0x9D => min max32 (c.card.hot / sec 60)
  | 0x9E => c.card.iscMax
  | _ => s.val (strObj i) sub el

/-- A count of an item stands above 0 for the string (11 Table 11-11). -/
def BelayStr.pendingItem (b : BelayStr) (code : Nat) : Bool := b.counts.any fun p => p.1 / 2048 = code && p.2 ≠ 0

/-- `BELAY_STRING_STATUS` (11 Table 11-11). -/
def State.belayStrWord (s : State) (i : Fin 40) : Nat :=
  let b := s.bstr[i]
  let e := s.profileOf i
  bitAt (s.envClear i) 15 + bitAt (b.pendingItem 0) 14 + bitAt (b.pendingItem 1) 13 + bitAt (b.pendingItem 2) 12 +
    bitAt (b.pendingItem 3) 11 + bitAt (b.pendingItem 4) 10 + bitAt (b.pendingItem 5 || b.pendingItem 6) 9 +
    bitAt (!s.envComplete e || s.envDegraded e) 8 + bitAt b.nMismatch 7 + bitAt b.thermInvalid 6 + bitAt b.pendingSeen 0

/-- S channel and the belay logic's view, sub-indices 0x00B0 to 0x00FF. -/
def State.readString3 (s : State) (i : Fin 40) (sub el : Nat) : Nat :=
  let g := s.gates[chS i]
  let b := s.bstr[i]
  match sub with
  | 0xB1 => g.statusWord
  | 0xB2 => (g.latch.map GateCause.code).getD 0
  | 0xB3 => g.selftest
  | 0xB4 => g.counts.toList.getD el 0
  | 0xB5 => g.cycles
  | 0xC0 => s.belayStrWord i
  | 0xC1 => b.nB
  | 0xC2 => b.vMax
  | 0xC3 => b.vMin
  | 0xC4 => b.tripElement
  | 0xC5 => ofSigned 32 b.tripValue
  | _ => s.val (strObj i) sub el

/-- Published cell voltage of element index `e`; 0 beyond the string's monitors (15 R416). -/
def State.cellVRead (s : State) (i : Fin 40) (e : Nat) : Nat :=
  if e < 16 * s.monitors i then Sparse.getD s.trav.cellV (cellKey i e) 0 else 0

/-- Published flags of position `p`; 0 beyond the string's monitors (15 R416). -/
def State.posFlagsRead (s : State) (i : Fin 40) (p : Nat) : Nat :=
  if p ≤ s.monitors i then Sparse.getD s.trav.posFlags (nodeKey i p) 0 else 0

/-- Cell data, sub-indices from 0x0100 (15 Table 15-8). -/
def State.readString4 (s : State) (i : Fin 40) (sub el : Nat) : Nat :=
  let n := s.monitors i
  match sub with
  | 0x100 => s.trav.published.getD 0
  | 0x101 => s.cellVRead i el
  | 0x102 => s.posFlagsRead i el
  | 0x105 => s.trav.slowTrav
  | 0x106 => if el < 32 * n then ofSigned 16 (Sparse.getD s.trav.tRaw (i.val * 2048 + el) 0) else 0
  | 0x107 => if el < 16 * n then ofSigned 16 (ratRound (s.cellEst i el).temp) else 0
  | 0x108 => if el < 16 * n then Sparse.getD s.trav.hk (i.val * 1024 + el) 0 else 0
  | 0x109 => if el < n then Sparse.getD s.trav.slowFlags (nodeKey i (el + 1)) 0 else 0
  | 0x10A => if el < 16 * n then min 255 (Sparse.getD s.trav.unseenFor (nodeKey i (el / 16 + 1)) 0) else 0
  | _ => s.val (strObj i) sub el

/-- A string object. -/
def State.readString (s : State) (i : Fin 40) (sub el : Nat) : Nat :=
  if !s.strs[i].installed && measuredOrFlag sub then 0
  else if sub < 0x60 then s.readString0 i sub el
  else if sub < 0x80 then s.readString1 i sub el
  else if sub < 0xB0 then s.readString2 i sub el
  else if sub < 0x100 then s.readString3 i sub el
  else s.readString4 i sub el

/-- The string's BLOB entries (15 Tables 15-8 and 15-9): `STRING_MEAS` and `STRING_SNAPSHOT`. -/
def State.readStringBlob (s : State) (i : Fin 40) (sub : Nat) : List Byte :=
  let meas : List Byte := (Sparse.getD s.trav.meas i.val StrBlock.empty).bytes
  if !s.strs[i].installed then List.replicate (if sub = 0x103 then 32 else 1094) 0x00#8
  else if sub = 0x103 then meas
  else u32 (s.trav.published.getD 0) ++ meas ++ ((List.range 33).map fun p => u8 (s.posFlagsRead i p)).flatten ++ u8 0 ++
    ((List.range 512).map fun e => u16 (s.cellVRead i e)).flatten

/-- `ENV_STATE` of a set (11 Table 11-9). -/
def State.envState (s : State) (e : Nat) : Nat := if s.envDegraded e then 2 else if s.envComplete e then 1 else 0

/-- `ENV_BOUNDS`: minimum and maximum of entries 0002 to 000D in the set's class (11 R302, Table 11-9); 0 while it has none. -/
def State.envBound (s : State) (e el : Nat) : Int :=
  let sub := el / 2 + 2
  let b := match classBound (s.bval (envObj e) 1) with
    | some c => c.of sub
    | none => commonBound sub
  match b with
  | some x => if el % 2 = 0 then x.1 else x.2
  | none => 0

/-- An envelope set; a value never committed reads 0 (11 R314). -/
def State.readEnv (s : State) (e sub el : Nat) : Nat :=
  match sub with
  | 0x10 => s.envState e
  | 0x11 => ofSigned 32 (s.envBound e el)
  | _ => (s.committed (envObj e) sub el).getD 0

end Sys2Proof.Machine
end

