-- ==== Sys2Proof/Machine/Recorder.lean ====
section
/-!
DEFINITION. Meanings of the recorder commands (spec/17 R444 to R450) and the bytes of its records. The commands that read the
recorder stand with the other reads.
-/

namespace Sys2Proof.Machine

/-- The 64 bytes of a record (17 Table 17-2). -/
def EventRecord.bytes (r : EventRecord) : List Byte :=
  let body := u64 r.time ++ u16 r.code ++ u8 r.level ++ u16 r.source ++ u16 r.item ++ u8 r.tq ++ u32 r.seq ++
    (r.data ++ List.replicate (40 - r.data.length) 0x00#8)
  body ++ u32 (crc32c body)

/-- `EVENT_OCCURRENCE` (17 R444): an occurrence of a defined code reaches the recorder. The records of writes, of a clear and of
suppressed occurrences are the recorder's own (14 R404, 17 R447, R450). -/
def execEventOccurrence (code source item : Nat) (data : List Byte) (s : State) : Out :=
  .next (if codeDefined code && !writeCodes.contains code && !(code = 0xC020 || code = 0xC021) && s.start.fw ≠ .down then
    s.event code source item data
  else s)

/-- `RECORDER_FLUSH` (17 R445): the flush of each second. Records of a start wait for `STANDBY` (17 R443). -/
def execRecorderFlush (s : State) : Out :=
  .next (if s.fwActs && !s.start.startRecords && decide (s.evlog.flushAt + sec 1 ≤ s.now) then
    { s.flushAll with evlog := { s.flushAll.evlog with flushAt := s.now } }
  else s)

/-- `SUPPRESSION_SUMMARY` (17 R447): a bucket with suppressions pending has regained a token. -/
def execSuppressionSummary (code : Nat) (s : State) : Out :=
  .next (if (s.bucket code).count ≠ 0 && decide (token ≤ (s.bucket code).credit) then (s.summary code).flushIfDue.noteFill else s)

/-- Clears the recorder (17 R450): every record goes, the clear record N opens the new ring and is flushed, and `REC_OLDEST` is
stored in the configuration partition. -/
def State.clearRecorder (s : State) (h : SealHead) : State :=
  let removed := s.evlog.ring.length + s.evlog.staged.length
  let data := u8 h.slot ++ u8 0 ++ u64 h.counter ++ u32 removed ++ u32 s.evlog.oldest ++ u32 s.recNewest
  let n := s.evlog.next
  let t := { s with evlog := { s.evlog with ring := [], staged := [], oldest := n, seen := s.evlog.seen ||| 1 } }
  ((t.stage 0xC020 0x1C00 0 data).flushRecords.storeCfg).noteFill

/-- `REC_CLEAR` (17 R450): a sealed 0x01. -/
def execRecClear (h : SealHead) (v : Nat) (s : State) : Out :=
  .next (s.unlessSwapping (.recClear h v) fun s =>
    s.sealedVia (h.one 0x1C00 0x0009 (u8 v)) fun s =>
      match s.itemCheck ⟨0x1C00, 0x0009, u8 v⟩ with
      | some a => .refused a 0 s
      | none => .applied (s.clearRecorder h))

/-- A write of a code's `RATE_LIMIT` (17 R446, Table 17-11): `BURST` 1 to 255 and `RATE` 1 to 10,000; tokens held above the new
`BURST` go. -/
def State.applyRateLimit (s : State) (code v : Nat) : Applied :=
  if bits v 27 20 = 0 ∨ bits v 13 0 = 0 ∨ 10000 < bits v 13 0 then .error (.range, s)
  else
    let b := s.bucket code
    let t := s.setVal 0x1C00 code 0 (eventLevel code * 2 ^ 28 + bits v 27 20 * 2 ^ 20 + bits v 13 0)
    .ok (t.setBucket code { b with credit := min b.credit (bits v 27 20 * token) })

/-- `RATE_LIMIT_WRITE` (17 R446). -/
def execRateLimitWrite (src : Src) (code v : Nat) (s : State) : Out :=
  .next (s.unlessSwapping (.rateLimitWrite src code v) fun s =>
    s.writeVia src 0x1C00 code (u32 v) fun _ s => s.applyRateLimit code v)

end Sys2Proof.Machine
end

