-- ==== Sys2Proof/Machine/Reads.lean ====
section
/-!
DEFINITION. The value a read takes of any entry of the dictionary (14 R379, R380, R386): the elements of numeric entries, the STR and BLOB
entries (15 Table 15-2, 13 Table 13-15, 14 Table 14-8, 15 R419), the recorder's window (17 R448) and the history's set (17 R458).
An XS entry and a command entry give the zero value of their type (14 R386; log 36).
-/

namespace Sys2Proof.Machine

/-! ## Numbers -/

/-- One element of a numeric entry; `p` is the reading partner's place in the table. -/
def State.readElement (s : State) (p : Option (Fin 64)) (index sub el : Nat) : Nat :=
  let partner : Partner := match p with | some k => s.dict.partners[k] | none => Partner.empty
  if sub = 0 then maxSub index
  else if 0x2401 ≤ index ∧ index ≤ 0x2404 then s.readEnv (index - 0x2400) sub el
  else if isEnvelope index sub || isSafetyIo index sub then s.bval index sub el
  else if index = 0x1000 then s.readIdentity sub
  else if 0x1800 ≤ index ∧ index ≤ 0x1802 then s.readCan (Fin.ofNat 3 (index - 0x1800)) sub el
  else if 0x1820 ≤ index ∧ index ≤ 0x1822 then (s.mo (Fin.ofNat 3 (index - 0x1820)) (sub - 1)).statusWord
  else if index = 0x1A00 then s.readEth sub el
  else if index = 0x1A01 ∨ index = 0x1A02 then s.readPort (Fin.ofNat 2 (index - 0x1A01)) sub el
  else if index = 0x1B00 then s.readThermal sub el
  else if index = 0x1C00 then s.readRecorder partner.cursor sub el
  else if index = 0x1C01 then s.readStore partner.histSelect sub el
  else if index = 0x1D00 then s.readHealth sub el
  else if index = 0x1E00 then s.readSeal sub el
  else if index = 0x1E01 then s.readPartner sub el
  else if index = 0x2000 then s.readBlock sub el
  else if 0x2101 ≤ index ∧ index ≤ 0x2104 then s.readBank (bankOfObj index) sub el
  else if 0x2201 ≤ index ∧ index ≤ 0x2228 then s.readString (strOf index) sub el
  else s.val index sub el

/-! ## Strings and blobs -/

/-- The ASCII bytes of a text, zeros to `n` bytes. -/
def textBytes (t : String) (n : Nat) : List Byte :=
  let body := t.toList.map fun c => BitVec.ofNat 8 c.toNat
  body ++ List.replicate (n - body.length) 0x00#8

/-- A STR or BLOB entry that is written, or its default. -/
def State.textOf (s : State) (index sub : Nat) (dflt : List Byte) : List Byte := (Sparse.get? s.dict.strs (dkey index sub 0)).getD dflt

/-- The value of a STR or BLOB entry of `size` bytes. -/
def State.readBlob (s : State) (index sub size : Nat) : List Byte :=
  let zeros := List.replicate size 0x00#8
  if index = 0x1000 then
    (if sub = 1 then textBytes "Valquel Systems" size else if sub = 2 then textBytes "Terausar T2040" size else s.ident.part)
  else if 0x1830 ≤ index ∧ index ≤ 0x1832 then
    (let d := (s.mo (Fin.ofNat 3 (index - 0x1830)) (sub - 1)).data; if d = [] then zeros else d)
  else if index = 0x1A01 ∨ index = 0x1A02 then s.ident.mac[Fin.ofNat 2 (index - 0x1A01)]
  else if index = 0x1E00 ∧ 0x10 ≤ sub ∧ sub ≤ 0x17 then (s.keyOf (sub - 0x10)).getD zeros
  else if index = 0x1E01 then (s.dict.partners[Fin.ofNat 64 (sub - 1)]).bytes
  else if index = 0x1F00 then (s.capRecord sub).getD []
  else if 0x2201 ≤ index ∧ index ≤ 0x2228 then s.readStringBlob (strOf index) sub
  else if 0x2301 ≤ index ∧ index ≤ 0x2304 then
    s.textOf index sub (textBytes "PROFILE " 8 ++ [BitVec.ofNat 8 (0x30 + (index - 0x2300))] ++ List.replicate (size - 9) 0x00#8)
  else s.textOf index sub zeros

/-- The value of an entry that follows from the state. -/
def State.readBytes (s : State) (p : Option (Fin 64)) (r : EntryRow) (index sub : Nat) : List Byte :=
  if r.access = .xs then List.replicate r.size 0x00#8
  else match r.kind with
    | .str | .blob => s.readBlob index sub r.size
    | _ => ((List.range r.count).map fun k => beBytes r.width (s.readElement p index sub k)).flatten

/-! ## Measured values no command brings, and values the spec leaves open (log 4) -/

/-- The entry's value is free: the supply's figures and the currents read at the pins, and what was last submitted or transferred. -/
def freeEntry (index sub : Nat) : Bool :=
  (index = 0x2000 && [0x40, 0x41, 0x42, 0x44, 0x151, 0x15E].contains sub) || (index = 0x1E00 && (sub = 0x01 || sub = 0x31))

/-- `len` bytes of the free value `n`. -/
def freeBytes (n len : Nat) : List Byte := (List.range len).map fun k => BitVec.ofNat 8 (Config.freeWord n / 256 ^ k)

/-! ## The recorder's window and the history (17 R448, R458) -/

/-- Records a partner's `REC_WINDOW` returns: up to 64 from its cursor. -/
def State.window (s : State) (cursor : Nat) : List EventRecord :=
  (s.records.filter fun r => seqLe (seqMax cursor s.evlog.oldest) r.seq).take 64

/-- An offset-0 read of `REC_WINDOW`: the records and the state with the cursor moved on. -/
def State.readWindow (s : State) (k : Fin 64) : State × List Byte :=
  let rs := s.window s.dict.partners[k].cursor
  let t := match rs.getLast? with
    | some r => s.modPartner k fun p => { p with cursor := (r.seq + 1) % 0x100000000 }
    | none => s
  (t, (rs.map EventRecord.bytes).flatten)

/-- The 64-byte header of a history set (17 R455). -/
def HistSet.header (h : HistSet) : List Byte :=
  let body := u32 h.seq ++ u64 h.time ++ u8 h.quality ++ u8 h.reason ++ u32 h.generation ++ u64 h.installed
  let body := body ++ List.replicate (60 - body.length) 0x00#8
  body ++ u32 (crc32c body)

/-- A cell's history record (17 Table 17-7); the cell, its I_sd and `ISC_LEVEL`. -/
def histRecord (c : CellEst × Int × Nat) (excluded : Bool) : List Byte :=
  let e := c.1
  u32 (figure e.card.throughput max32) ++ u32 e.card.capFirst ++ u32 (figure e.cap max32) ++ i32 ((e.r.map ratRound).getD 0) ++ i32 c.2.1 ++
    u16 e.card.vMax ++ u16 e.card.vMin ++ i16 e.card.tMax ++ u32 (e.card.hot / sec 60) ++ u8 e.card.iscMax ++ u8 c.2.2 ++
    u16 (figure (e.soc * 100) 0xFFFF) ++ u16 (figure (e.u * 100) 0xFFFF) ++ u16 e.learned ++ u8 (1 + bitAt excluded 1) ++ u8 0

/-- The string part of a set (17 R455): 512 records and their CRC-32C; a cell the set does not hold reads 0. -/
def HistSet.part (h : HistSet) (i : Fin 40) : List Byte :=
  let body := ((List.range 512).map fun e => match Sparse.get? h.cells (cellKey i e) with
    | some c => histRecord c (h.excluded.testBit i.val)
    | none => List.replicate 40 0x00#8).flatten
  body ++ u32 (crc32c body)

/-- The set and the string that a selection names (17 R458). -/
def State.selectedSet (s : State) (sel : Nat) : Option (HistSet × Fin 40) :=
  let string := sel % 256
  if 1 ≤ string ∧ string ≤ 40 then
    ((s.store.sets.find? fun p => p.2.seq = sel / 256).map fun p => (p.2, Fin.ofNat 40 (string - 1)))
  else none

/-! ## The read -/

/-- The copy an offset-0 `READ` takes, with the state that taking it leaves, or the code that refuses it. Firmware clears `ND` of a
receive object as it copies it (13 R358). -/
def State.readCopy (s : State) (src : Src) (index sub : Nat) : Except Abort (State × List Byte) :=
  let p := s.partnerAt src
  match entryOf index sub with
  | none => .error .noEntry
  | some r =>
    if index = 0x1C00 ∧ sub = 0x0008 then
      match p with
      | some k => .ok (s.readWindow k)
      | none => .error .state
    else if index = 0x1C01 ∧ sub = 0x000B then
      match p with
      | none => .error .state
      | some k =>
        match s.selectedSet s.dict.partners[k].histSelect with
        | some x => .ok (s, x.1.header ++ x.1.part x.2)
        | none => .error .range
    else if freeEntry index sub then
      let f := s.takeFree
      .ok (f.1, freeBytes f.2 r.size)
    else if 0x1830 ≤ index ∧ index ≤ 0x1832 then
      let k : Fin 3 := Fin.ofNat 3 (index - 0x1830)
      .ok (if moSend (s.moCfg k (sub - 1)) then s else s.modMo k (sub - 1) fun m => { m with nd := false }, s.readBytes p r index sub)
    else .ok (s, s.readBytes p r index sub)

end Sys2Proof.Machine
end

