-- ==== Sys2Proof/Machine/ThermalOps.lean ====
section
/-!
DEFINITION. Meanings of the device temperature commands (spec/16 R426 to R434).
-/

namespace Sys2Proof.Machine

/-- Entry and exit thresholds of a level, 0.1 degC (16 Table 16-2). -/
def levelEntry : Nat → Int
  | 1 => 950 | 2 => 1000 | 3 => 1040 | _ => 1080
def levelExit : Nat → Int
  | 1 => 920 | 2 => 970 | 3 => 1010 | _ => 1050

/-- The highest level whose entry threshold S has reached. -/
def levelFor (t : Int) : Nat :=
  if levelEntry 4 ≤ t then 4 else if levelEntry 3 ≤ t then 3 else if levelEntry 2 ≤ t then 2 else if levelEntry 1 ≤ t then 1 else 0

/-- One converter reading (16 R427): a fault at once, recovery after 10 good readings. -/
def State.readSensor (s : State) (k : Fin 6) (v : Int) : State :=
  let h := s.therm
  let bad := v < -500 || 1500 < v
  let s := s.modTherm fun h => { h with temp := h.temp.set k v, max := if bad then h.max else h.max.set k (max h.max[k] v) }
  if bad then
    let t := s.modTherm fun h => { h with good := h.good.set k 0 }
    if h.fault[k] then t
    else (((t.modTherm fun h => { h with fault := h.fault.set k true, seen := h.seen ||| 2 }).irqRaise 99).event 0xB004 0x1B00 (k.val + 1))
  else if h.fault[k] then
    if h.good[k] + 1 < 10 then s.modTherm fun h => { h with good := h.good.set k (h.good[k] + 1) }
    else (s.modTherm fun h => { h with good := h.good.set k 0, fault := h.fault.set k false }).event 0xB005 0x1B00 (k.val + 1)
  else s

/-- The summit: the highest reading of the sensors not in fault, and its sensor number (16 R427). -/
def Thermal.top (h : Thermal) : Option (Int × Nat) :=
  (List.finRange 6).foldl (fun best k =>
    if h.fault[k] then best
    else match best with
      | none => some (h.temp[k], k.val + 1)
      | some b => if b.1 < h.temp[k] then some (h.temp[k], k.val + 1) else best) none

/-- Level that the sensor faults alone call for (16 R429). -/
def Thermal.floor (h : Thermal) : Nat := if h.summit.isNone then 4 else if h.fault.toList.any id then 1 else 0

/-- Puts a throttle level in force: IRQ 96 and event 0xB001 at a change (16 R429). -/
def State.setLevel (s : State) (l : Nat) : State :=
  if s.therm.level = l then s
  else
    let t := s.modTherm fun h => { h with level := l, seen := if l = 0 then h.seen else h.seen ||| 1 }
    (t.irqRaise 96).event 0xB001 0x1B00 0 (u8 s.therm.level ++ u8 l)

/-- The rise rate condition of R430 holds. -/
def Thermal.rising (h : Thermal) : Bool :=
  decide (20 < h.rise) && (match h.summit with | some t => decide (850 ≤ t) | none => false)

/-- The rounds run (20 Tables 20-4 and 20-7): firmware acts, not in base camp, not in the held state. -/
def State.thermRuns (s : State) : Bool := s.fwActs && s.mode.block ≠ .baseCamp && s.mode.block ≠ .safeHold && !s.start.thermalHold

/-- One round (16 R426 to R430, R434). -/
def State.tempRound (s : State) (temps : Vector Int 6) : State :=
  let before := s.therm
  let t := (s.irqRaise 17).forEach (List.finRange 6) fun t k => t.readSensor k temps[k]
  let t := t.modTherm fun h =>
    let top : Option (Int × Nat) := h.top
    let summit : Option Int := match top with | some p => some p.1 | none => none
    let num : Nat := match top with | some p => p.2 | none => 0
    let rise := match summit, h.last.getD 9 none with | some a, some b => a - b | _, _ => 0
    let h := { h with summit := summit, sensor := num, rise := rise, last := (summit :: h.last).take 10,
                      hotNs := if h.level = 0 then h.hotNs else min (max32 * sec 1) (h.hotNs + (s.now - h.roundAt)), roundAt := s.now,
                      select := if s.val 0x1B00 0x0005 = 2 then .divide else .pause }
    let base := max h.base (max h.floor (match summit with | some v => levelFor v | none => 4))
    let below := match summit with | some v => base ≠ 0 && decide (v < levelExit base) | none => false
    { h with base := base, belowSince := if below then some (if base = h.base then h.belowSince.getD s.now else s.now) else none }
  let h := t.therm
  let t := match h.summit, before.last.head? with
    | some v, some (some u) => if 950 ≤ v ∧ u < 950 then (t.irqRaise 97).event 0xB002 0x1B00 h.sensor else t
    | _, _ => t
  if h.rising then
    let l := min 4 (h.base + 1)
    let t := t.modTherm fun h => { h with riseAt := some s.now }
    let t := if before.level < l then ((t.modTherm fun h => { h with seen := h.seen ||| 4 }).irqRaise 98).event 0xB003 0x1B00 0 (u8 l) else t
    t.setLevel l
  else if h.riseAt.isSome && decide (h.base < h.level) then t
  else (t.modTherm fun h => { h with riseAt := none }).setLevel h.base

/-- `DEVICE_TEMP_ROUND` (16 R426, R429): every 100 ms, the six converter readings in 0.1 degC. -/
def execDeviceTempRound (t : Vector Int 6) (s : State) : Out :=
  .next (if s.thermRuns && decide (s.therm.roundAt + ms 100 ≤ s.now) then s.tempRound t else s)

/-- `THROTTLE_EXIT_DWELL` (16 R429, R430): 10 s below the exit threshold lower the base level by one, not below what a sensor fault
holds; 10 s after the last fast rise lower a raised level by one. -/
def execThrottleExitDwell (s : State) : Out :=
  .next (if !s.thermRuns then s
  else
    let h := s.therm
    let fall := h.base ≠ 0 && decide (h.floor < h.base) && (match h.belowSince with | some a => decide (a + sec 10 ≤ s.now) | none => false)
    let base := if fall then h.base - 1 else h.base
    let below := match h.summit with | some v => base ≠ 0 && decide (v < levelExit base) | none => false
    let t := if fall then s.modTherm fun h => { h with base := base, belowSince := if below then some s.now else none } else s
    match h.riseAt with
    | some a =>
      if base < h.level then
        (if a + sec 10 ≤ s.now then
          (t.modTherm fun h => { h with riseAt := if base < h.level - 1 then some s.now else none }).setLevel (h.level - 1)
        else t)
      else t.setLevel base
    | none => t.setLevel base)

/-- `THROTTLE_SELECT` written (16 R434): event 0xB008; it takes effect at the next round. -/
def State.applyThrottleSelect (s : State) (v : Nat) : Applied :=
  .ok ((s.setVal 0x1B00 0x0005 0 v).event 0xB008 0x1B00 0 (u8 v))

def execThrottleSelect (src : Src) (v : Nat) (s : State) : Out :=
  .next (s.unlessSwapping (.throttleSelect src v) fun s => s.writeVia src 0x1B00 0x0005 (u8 v) fun _ s => s.applyThrottleSelect v)

/-- `BEL_SENSOR_FAIL` (16 R428). -/
def execBelSensorFail (k : Fin 6) (s : State) : Out :=
  .next (if s.belay.released && !s.therm.compFailed.testBit k.val then
    (s.modTherm fun h => { h with compFailed := h.compFailed ||| 2 ^ k.val }).irqRaise 99
  else s)

end Sys2Proof.Machine
end

