-- ==== Sys2Proof/Machine/Apply.lean ====
section
/-!
DEFINITION. The effect of a write of any RW or W1C entry (14 R388, R391, R405): the entry's own rule where it has one, the clearing of its
W1C fields, or the value stored. The commands that are writes of one entry call the same effects.
-/

namespace Sys2Proof.Machine

/-- Element `k` of a written value. -/
def EntryRow.element (r : EntryRow) (data : List Byte) (k : Nat) : Nat := ofBytes ((data.drop (k * r.width)).take r.width)

/-- Clears W1C fields: the bits of `v` that lie in `fields` leave `seen`. -/
def clearSeen (seen v fields : Nat) : Nat := clearBits seen (v &&& fields)

/-! ## W1C fields (00 R8, 20 R513) -/

/-- W1C fields of the block object (Tables 2-14, 3-5, 5-11, 7-8, 8-8, 11-10, 12-14, 12-19). -/
def State.clearBlock (s : State) (r : EntryRow) (sub : Nat) (data : List Byte) : State :=
  let v := r.element data 0
  match sub with
  | 0x0020 => s.modStart fun a => { a with newCause := a.newCause && !v.testBit 0 }
  | 0x0043 => s.modSupply fun p => p.clearSeen v s.now
  | 0x0056 => s.modTrav fun t => { t with seen := clearSeen t.seen v 0x3E00 }
  | 0x0106 => s.modCorr fun c => { c with seen := clearSeen c.seen v 0xF00 }
  | 0x0110 => s.modEst fun e => { e with status := clearSeen e.status v 0x3C0 }
  | 0x0140 => s.modBelay fun b => { b with seen := clearSeen b.seen v 0x3F }
  | 0x0159 => s.forEach allQ fun s q => s.modQ q fun o => { o with seen := clearSeen o.seen (r.element data q.val) 0x7 }
  | 0x016D => s.forEach (List.finRange 8) fun s m => s.modSm m fun c => { c with seen := clearSeen c.seen (r.element data m.val) 0x7 }
  | _ => s

/-- W1C fields of a bank (Tables 9-14, 10-9, 12-7, 12-8). -/
def State.clearBank (s : State) (b : Fin 4) (r : EntryRow) (sub : Nat) (data : List Byte) : State :=
  let v := r.element data 0
  match sub with
  | 0x0018 => s.modBank b fun c => { c with seen := clearSeen c.seen v 0x7 }
  | 0x0041 => s.forEach [chH b, chL b, chD b].zipIdx fun s p => s.modGate p.1 fun g => { g with seen := clearSeen g.seen (r.element data p.2) 0x7 }
  | 0x0051 => s.forEach (List.range 6) fun s j =>
      s.modIn (Fin.ofNat 24 (6 * b.val + j)) fun c => { c with seen := clearSeen c.seen (r.element data j) 0x7 }
  | 0x0052 => if v.testBit 0 then s.modBank b fun c => { c with groupDropSeen := false } else s
  | _ => s

/-- W1C fields of a string (Tables 4-14, 9-13, 10-9, 11-11). -/
def State.clearString (s : State) (i : Fin 40) (r : EntryRow) (sub : Nat) (data : List Byte) : State :=
  let v := r.element data 0
  match sub with
  | 0x000C => s.modStr i fun c => { c with seen := clearSeen c.seen v 0x3 }
  | 0x001B => s.modRope i fun x => { x with seen := clearSeen x.seen v 0x1E }
  | 0x00B1 => s.modGate (chS i) fun g => { g with seen := clearSeen g.seen v 0x7 }
  | 0x00C0 => if v.testBit 0 then s.modBStr i fun b => { b with pendingSeen := false } else s
  | _ => s

/-- W1C fields of the device objects (Tables 13-16, 13-17, 14-12, 16-5, 17-10, 17-12, 18-5, 19-6). -/
def State.clearDevice (s : State) (r : EntryRow) (index sub : Nat) (data : List Byte) : State :=
  let v := r.element data 0
  if 0x1800 ≤ index ∧ index ≤ 0x1802 then s.modCan (Fin.ofNat 3 (index - 0x1800)) fun c => { c with seen := clearSeen c.seen v 0xF }
  else if 0x1820 ≤ index ∧ index ≤ 0x1822 then
    s.modMo (Fin.ofNat 3 (index - 0x1820)) (sub - 1) fun m => { m with
      nd := m.nd && (!v.testBit 15 || m.storedTick = some s.sysTicks), lost := m.lost && !v.testBit 14, cancelled := m.cancelled && !v.testBit 11,
      ttMissed := m.ttMissed && !v.testBit 9, sent := m.sent && !v.testBit 8 }
  else if index = 0x1A00 then (if v.testBit 0 then s.modStream fun x => { x with dropSeen := false } else s)
  else if index = 0x1A01 ∨ index = 0x1A02 then
    (if v.testBit 8 then s.modEth (Fin.ofNat 2 (index - 0x1A01)) fun e => { e with downSeen := false } else s)
  else if index = 0x1B00 then s.modTherm fun t => { t with seen := clearSeen t.seen v 0xF }
  else if index = 0x1C00 then { s with evlog := { s.evlog with seen := clearSeen s.evlog.seen v 0xF } }
  else if index = 0x1C01 then s.modStore fun g => { g with seen := clearSeen g.seen v 0xF }
  else if index = 0x1D00 then s.modHealth fun h => { h with seen := clearSeen h.seen v 0x1F }
  else if index = 0x1E00 then s.modSeng fun g => { g with seen := clearSeen g.seen v 0xF }
  else s

/-- The W1C fields of an entry, cleared as a written value says; its other fields stay (14 R388). -/
def State.clearFields (s : State) (r : EntryRow) (index sub : Nat) (data : List Byte) : State :=
  if index = 0x2000 then s.clearBlock r sub data
  else if 0x2101 ≤ index ∧ index ≤ 0x2104 then s.clearBank (bankOfObj index) r sub data
  else if 0x2201 ≤ index ∧ index ≤ 0x2228 then s.clearString (strOf index) r sub data
  else s.clearDevice r index sub data

/-! ## Entries with a rule of their own -/

/-- Writes of the block object. A `BASE_CAMP_REQ` of 0x00 that comes as a plain `WRITE` meets self-tests that pass (log 39). -/
def State.applyBlock (s : State) (r : EntryRow) (sub : Nat) (data : List Byte) : Applied :=
  let v := r.element data 0
  match sub with
  | 0x0002 => s.applyBlockState v
  | 0x0052 => s.applyRecess v
  | 0x0060 => s.applyBalMode v
  | 0x0070 => if v = 1 then s.applyCampEnter else .ok (s.wake 3 true [])
  | 0x0072 | 0x0073 | 0x0074 => s.applyCampWindow sub v
  | 0x0076 => s.applyWakeOutCfg v
  | 0x0120 => s.applyLearnWriteReq
  | 0x0152 => s.applyTpClear v
  | 0x015B => s.applyQRequest v
  | 0x015C => s.applyQDrop v
  | 0x015D => s.applyQClear v
  | 0x0170 =>
    if v.testBit 31 && s.val (canObj 0) 2 ≠ s.val (canObj 1) 2 then .error (.state, s) else .ok (s.setVal blockObj 0x0170 0 v)
  | _ => .ok (s.storeValue r blockObj sub data)

/-- Starts the self-tests that the elements of a bank's `GATE_SELFTEST` ask for, or none where one is refused (10 R283, 14 R391). -/
def State.applyBankTests (s : State) (b : Fin 4) (r : EntryRow) (data : List Byte) : Applied :=
  let asked := ([chH b, chL b, chD b].zipIdx.filter fun p => r.element data p.2 ≠ 0).map (·.1)
  match asked.find? fun c => s.selfTestRefused c with
  | some c => s.applySelfTest c
  | none => .ok (s.forEach asked fun t c => t.modGate c fun g => { g with selftest := 1 })

/-- Writes of a bank object. -/
def State.applyBank (s : State) (b : Fin 4) (r : EntryRow) (sub : Nat) (data : List Byte) : Applied :=
  match sub with
  | 0x0004 => .ok (s.openBank b 5)
  | 0x0005 => s.applyFaultClear b
  | 0x0043 => s.applyBankTests b r data
  | 0x0044 => s.applyGateClear b
  | _ => .ok (s.storeValue r (bankObj b) sub data)

/-- Writes of a string object. -/
def State.applyString (s : State) (i : Fin 40) (r : EntryRow) (sub : Nat) (data : List Byte) : Applied :=
  let v := r.element data 0
  match sub with
  | 0x0004 => s.applyOpen i
  | 0x0005 => s.applyTripClear i
  | 0x0009 => s.applyExclude i v
  | 0x0011 => s.applyRopeModeReq i v
  | 0x001A => .ok (((s.setVal (strObj i) 0x001A 0 v).broadcastConfig i).runRope i)
  | 0x0013 => s.applyRollCall i
  | 0x005F => s.applyStatsClear i v
  | 0x0061 => s.applyBalMask i r data
  | 0x00B3 => s.applySelfTest (chS i)
  | _ => .ok (s.storeValue r (strObj i) sub data)

/-- Writes of a controller object; a generic write finds the transmit request queue with room (log 39). -/
def State.applyCan (s : State) (k : Fin 3) (r : EntryRow) (sub : Nat) (data : List Byte) : Applied :=
  let v := r.element data 0
  match sub with
  | 0x0001 => s.applyCanMode k v false
  | 0x0002 => s.applyNodeId k v
  | 0x0003 => s.applyTiming k false v
  | 0x0004 => s.applyTiming k true v
  | 0x0007 => .ok (s.recoverCan k)
  | 0x0009 => .ok (s.clearDup k)
  | 0x000C => s.applyTxReq k v
  | 0x000D => s.applyCancel k v
  | 0x0011 => s.applyTtCycles k v
  | 0x0012 => s.applyTtRole k v
  | _ => .ok (s.storeValue r (canObj k) sub data)

/-- A filter element; the reserved bits 27 to 7 of word 0 and 31 to 29 of words 1 and 2 read 0 (13 Tables 13-6 and 13-7). -/
def State.applyFilter (s : State) (r : EntryRow) (index sub : Nat) (data : List Byte) : Applied :=
  let w := r.element data 0
  .ok (((s.setVal index sub 0 (w / 2 ^ 28 * 2 ^ 28 + w % 128)).setVal index sub 1 (r.element data 1 % 2 ^ 29)).setVal index sub 2 (r.element data 2 % 2 ^ 29))

/-- Writes of the Ethernet, time and stream entries (19 R484, R489, R492, R494, R496). -/
def State.applyEth (s : State) (r : EntryRow) (sub : Nat) (data : List Byte) : Applied :=
  let v := r.element data 0
  let t := s.storeValue r ethObj sub data
  match sub with
  | 0x0001 => s.applyEthApply
  | 0x0013 => .ok t.noteSources
  | 0x0016 => .ok (t.modClock fun c => { c with alarmed := decide (v < s.utc) })
  | 0x0020 | 0x0021 | 0x0022 | 0x0023 => .ok t.ptpRestart
  | 0x0042 => if v = 0xFFFFFFFF then .error (.range, s) else .ok t
  | 0x0040 | 0x0041 | 0x0044 | 0x0045 => .ok t.noteStream
  | _ => .ok t

/-- Writes of the recorder's entries (17 R446, R448, R449). A cursor is kept for a partner of the table alone. -/
def State.applyRecorder (s : State) (src : Src) (r : EntryRow) (sub : Nat) (data : List Byte) : Applied :=
  let v := r.element data 0
  if 0x1001 ≤ sub then s.applyRateLimit sub v
  else match sub with
    | 0x0005 | 0x0006 => .ok (s.storeValue r 0x1C00 sub data).noteFill
    | 0x0007 => (match s.partnerAt src with
      | some k => .ok (s.modPartner k fun p => { p with cursor := v })
      | none => .error (.state, s))
    | _ => .ok (s.storeValue r 0x1C00 sub data)

/-- Stores the RW values of the configuration into a new copy (17 R451). -/
def State.storeConfig (s : State) : State := s.writeCfg (s.dict.vals.filter fun p => cfgKey p.1)

/-- Writes of the persistent-data entries (17 R451, R458). A selection names a stored set and a string. DESIGN CHOICE: a partner's `CFG_STORE`
that is served while the block is still in `OFF` writes at once; R82 speaks of the steps of a start alone (log 186). -/
def State.applyStore (s : State) (src : Src) (r : EntryRow) (sub : Nat) (data : List Byte) : Applied :=
  let v := r.element data 0
  match sub with
  | 0x0006 => .ok s.storeConfig
  | 0x000A =>
    if (s.selectedSet v).isNone then .error (.range, s)
    else (match s.partnerAt src with
      | some k => .ok (s.modPartner k fun p => { p with histSelect := v })
      | none => .error (.state, s))
  | _ => .ok (s.storeValue r 0x1C01 sub data)

/-- Writes of the health entries (18 R473, R479). -/
def State.applyHealth (s : State) (r : EntryRow) (sub : Nat) (data : List Byte) : Applied :=
  match sub with
  | 0x0007 => s.applyPhyRestore (r.element data 0)
  | 0x0022 | 0x0023 | 0x0024 => .ok (s.storeValue r 0x1D00 sub data).clearWear
  | _ => .ok (s.storeValue r 0x1D00 sub data)

/-- `TRUST_ERASE` (14 R400, R405), which holds the value written: the serial number arms an erasure, over the service port and with the strap; any
other value cancels it. -/
def State.applyErase (s : State) (src : Src) (v : Nat) : Applied :=
  let t := s.setVal 0x1E00 0x0029 0 v
  if v ≠ s.serial then .ok (t.modSeng fun g => { g with eraseArmed := none })
  else if !isService src || !s.supply.prov then .error (.notPermitted, s)
  else .ok (t.modSeng fun g => { g with eraseArmed := some s.now })

/-- `HB_PERIOD` is 0 or 50 to 10,000 (14 Table 14-11). -/
def State.applyPartner (s : State) (r : EntryRow) (sub : Nat) (data : List Byte) : Applied :=
  let v := r.element data 0
  if sub = 0x0041 && 1 ≤ v && v < 50 then .error (.range, s) else .ok (s.storeValue r 0x1E01 sub data)

/-! ## Firmware image (14 R401) -/

/-- The partition of the image not running: under the recovery firmware the first that does not verify, A before B (log 38). -/
def State.fwTarget (s : State) : Fin 2 :=
  match s.runningImage with
  | some k => 1 - k
  | none => if !s.start.images[0].verifies then 0 else 1

/-- Writes image bytes into the partition: at the first of them it stops holding an image. -/
def State.writeImage (s : State) (f : FwSession) (written : List Byte) : State :=
  let t := s.modSeng fun g => { g with fw := some { f with written := written, at_ := s.now } }
  t.modStart fun a => { a with images := upd a.images s.fwTarget fun m => { m with verifies := false } }

/-- `FW_IMAGE` as one value (14 R401): of the session's partner, at the opened length. -/
def State.applyImage (s : State) (src : Src) (data : List Byte) : Applied :=
  match s.seng.fw with
  | none => .error (.state, s)
  | some f =>
    if f.src ≠ src then .error (.state, s)
    else if data.length ≠ f.length then .error (.length, s)
    else .ok (s.writeImage f data)

/-! ## Any entry -/

/-- The effect of a write of an RW or W1C entry. -/
def State.applyEntry (s : State) (src : Src) (index sub : Nat) (data : List Byte) (r : EntryRow) : Applied :=
  if r.access = .w1cField then .ok (s.clearFields r index sub data)
  else if 0x1800 ≤ index ∧ index ≤ 0x1802 then s.applyCan (Fin.ofNat 3 (index - 0x1800)) r sub data
  else if 0x1810 ≤ index ∧ index ≤ 0x1812 then s.applyMoCfg (Fin.ofNat 3 (index - 0x1810)) (sub - 1) (r.element data 0)
  else if 0x1830 ≤ index ∧ index ≤ 0x1832 then s.applyMoData (Fin.ofNat 3 (index - 0x1830)) (sub - 1) data
  else if 0x1840 ≤ index ∧ index ≤ 0x1842 then s.applyFilter r index sub data
  else if index = 0x1A00 then s.applyEth r sub data
  else if index = 0x1B00 then s.applyThrottleSelect (r.element data 0)
  else if index = 0x1C00 then s.applyRecorder src r sub data
  else if index = 0x1C01 then s.applyStore src r sub data
  else if index = 0x1D00 then s.applyHealth r sub data
  else if index = 0x1E00 then
    (if sub = 0x0001 then .ok (s.submit src data)
     else if sub = 0x0029 then s.applyErase src (r.element data 0)
     else if sub = 0x0031 then s.applyImage src data
     else .ok s)
  else if index = 0x1E01 then s.applyPartner r sub data
  else if index = 0x2000 then s.applyBlock r sub data
  else if 0x2101 ≤ index ∧ index ≤ 0x2104 then s.applyBank (bankOfObj index) r sub data
  else if 0x2201 ≤ index ∧ index ≤ 0x2228 then s.applyString (strOf index) r sub data
  else .ok (s.storeValue r index sub data)

/-- What follows the reply to a write: the addresses of `ETH_APPLY` (19 R484). -/
def entryAfter (index sub : Nat) (s : State) : State := if index = 0x1A00 ∧ sub = 0x0001 then s.ethApply else s

/-- A plain write of any entry, taken through from its request to its reply; `fin` is the final message of a segmented one. -/
def State.plainWrite (s : State) (src : Src) (index sub : Nat) (data : List Byte) (fin : Option (Nat × List Byte) := none) : State :=
  s.writeVia src index sub data (fun r s => s.applyEntry src index sub data r) (entryAfter index sub) fin

/-- The first waiting write whose entry no sealed request holds any longer is carried out (14 R390), and its reply echoes its own `TAG`. -/
def State.releaseWrite (s : State) : Option State :=
  (s.waitingWrites.find? fun w => !s.sealHolds w.index w.sub).map fun w =>
    (({ s with waitingWrites := s.waitingWrites.erase w }).setTag w.src w.tag).writeNow w.src w.index w.sub w.data
      (fun r s => s.applyEntry w.src w.index w.sub w.data r) (entryAfter w.index w.sub) w.last

end Sys2Proof.Machine
end

