-- ==== Sys2Proof/Machine/Transfers.lean ====
section
/-!
DEFINITION. Meanings of the plain dictionary requests (spec/14 R378 to R391, R402, R403, 17 R448, R458): reads and writes in one message
or in segments, transfers that time out, partners and heartbeats.
-/

namespace Sys2Proof.Machine

/-- Firmware serves requests: the running image outside a restart or a core swap, or the recovery firmware (14 R378). -/
def State.serves (s : State) : Bool := s.fwActs || s.start.fw = .recovery

/-! ## Reading (14 R384, R386) -/

/-- Bytes of a value one message carries, or one segment where the value is longer (14 R384): over UDP and the service port the limit is that
of the message with its header of 16 bytes (14 Table 14-4, the section's example). -/
def chunkSize (i : Fin 6) (total : Nat) : Nat :=
  match canOf i with
  | some _ => if total ≤ 60 then total else 52
  | none => if i = 5 then 4096 - 16 else 1400 - 16

/-- Sends the next bytes of a read, and keeps its copy while bytes are left. -/
def State.sendChunk (s : State) (src : Src) (index sub offset : Nat) (copy : List Byte) : State :=
  let d := (copy.drop offset).take (chunkSize src.iface copy.length)
  let t := s.send (.readReply src index sub copy.length offset d)
  if offset + d.length < copy.length then
    t.keepTransfer { src := src, write := false, index := index, sub := sub, total := copy.length, next := offset + d.length, data := copy, at_ := 0 }
  else t.dropTransfer src

/-- An offset-0 `READ`: it takes its copy. -/
def State.startRead (s : State) (src : Src) (index sub : Nat) : State :=
  let s := s.newRequest src
  match s.readCopy src index sub with
  | .error a => s.abort src index sub (abortWord a)
  | .ok c => c.1.sendChunk src index sub 0 c.2

/-- A later `READ` of a transfer is served from the copy; any other offset ends it. -/
def State.continueRead (s : State) (src : Src) (index sub offset : Nat) : State :=
  let s := s.receive src
  match s.transferOf src with
  | some t =>
    if !t.write && t.index = index && t.sub = sub && t.next = offset then s.sendChunk src index sub offset t.data
    else (s.dropTransfer src).abort src index sub (abortWord .segment)
  | none => s.abort src index sub (abortWord .segment)

/-- A read request, as its interface and the device's state have it served (14 R378). -/
def State.readVia (s : State) (src : Src) (index sub offset : Nat) : State :=
  match s.service src false index sub [] with
  | .discard => s
  | .refuse a => (s.newRequest src).abort src index sub (abortWord a)
  | .serve => if offset = 0 then s.startRead src index sub else s.continueRead src index sub offset

/-! ## Writing (14 R385, R387, R388) -/

/-- A whole write of `SEAL_SUBMIT` (14 R380, R394): the request goes to the seal engine, whose verdict answers it. -/
def State.submitVia (s : State) (src : Src) (data : List Byte) (fin : Option (Nat × List Byte)) : State :=
  let s := s.newRequest src
  if data.length < 1 ∨ 4096 < data.length then s.refuseWrite src 0x1E00 1 data .length
  else (s.noteSubmitted src data (fin.getD (0, data))).submit src data

/-- A value that stands complete is applied (14 R385). -/
def State.completeWrite (s : State) (src : Src) (index sub : Nat) (data : List Byte) (fin : Option (Nat × List Byte)) : State :=
  if index = 0x1E00 ∧ sub = 0x0001 then s.submitVia src data fin else s.plainWrite src index sub data fin

/-- The reply to a segment that leaves its value incomplete; the data are held aside. -/
def State.keepSegment (s : State) (src : Src) (index sub total : Nat) (data : List Byte) : State :=
  (s.keepTransfer { src := src, write := true, index := index, sub := sub, total := total, next := data.length, data := data, at_ := 0 }).send
    (.writeReply src index sub data.length)

/-- The data a `WRITE` message brings its value to, or the code that ends its transfer. -/
def State.joinSegment (s : State) (src : Src) (index sub total offset : Nat) (data : List Byte) : Except Abort (List Byte) :=
  let joined : Except Abort (List Byte) :=
    if offset = 0 then .ok data
    else match s.transferOf src with
      | some t => if t.write && t.index = index && t.sub = sub && t.total = total && t.next = offset then .ok (t.data ++ data) else .error .segment
      | none => .error .segment
  match joined with
  | .error a => .error a
  | .ok d => if total < d.length then .error .length else .ok d

/-- A segment of `FW_IMAGE` (14 R401): written to flash as it arrives, the last one answered as an applied write. -/
def State.imageSegment (s : State) (src : Src) (total offset : Nat) (data : List Byte) : State :=
  let s := s.receive src
  let refuse (a : Abort) : State := (s.dropTransfer src).refuseWrite src 0x1E00 0x31 data a
  match s.seng.fw with
  | none => refuse .state
  | some f =>
    if f.src ≠ src then refuse .state
    else if total ≠ f.length then refuse .length
    else
      let next := match s.transferOf src with
        | some t => if t.write && t.index = 0x1E00 && t.sub = 0x31 then t.next else 0
        | none => 0
      if offset ≠ 0 ∧ offset ≠ next then refuse .segment
      else
        let written := (if offset = 0 then [] else f.written) ++ data
        if total < written.length then refuse .length
        else if written.length < total then
          ((s.writeImage f written).keepTransfer { src := src, write := true, index := 0x1E00, sub := 0x31, total := total, next := written.length,
                                                   data := [], at_ := 0 }).send (.writeReply src 0x1E00 0x31 written.length)
        else if s.tokens (0x9001 + src.iface.val) = 0 || decide (stagingSize ≤ s.evlog.staged.length) then refuse .busy
        else
          (((s.dropTransfer src).writeImage f written).answerWrite src 0x1E00 0x31 written).noteLast
            { src := src, index := 0x1E00, sub := 0x31, total := total, offset := offset, data := data, at_ := 0 }

/-- A `WRITE` message, as its interface and the device's state have it served. -/
def State.writeMessage (s : State) (src : Src) (index sub total offset : Nat) (data : List Byte) : State :=
  match s.service src true index sub data with
  | .discard => s
  | .refuse a => (s.newRequest src).refuseService src index sub data a
  | .serve =>
    if s.repeats src index sub total offset data then (s.receive src).send (.writeReply src index sub total)
    else if index = 0x1E00 ∧ sub = 0x0031 then s.imageSegment src total offset data
    else
      match s.joinSegment src index sub total offset data with
      | .error a => ((s.receive src).dropTransfer src).refuseWrite src index sub data a
      | .ok value =>
        if value.length = total then (s.dropTransfer src).completeWrite src index sub value (if offset = 0 then none else some (offset, data))
        else (s.receive src).keepSegment src index sub total value

/-- `REGISTER_WRITE` (14 R388): a write in one message. -/
def execRegisterWrite (src : Src) (index sub : Nat) (data : List Byte) (s : State) : Out :=
  .next (s.unlessSwapping (.registerWrite src index sub data) fun s => s.writeMessage src index sub data.length 0 data)

/-- `FW_IMAGE` (14 R401): a segment of the image. -/
def execFwImage (src : Src) (total offset : Nat) (data : List Byte) (s : State) : Out :=
  .next (s.unlessSwapping (.fwImage src total offset data) fun s => s.writeMessage src 0x1E00 0x0031 total offset data)

/-- `CFG_STORE` (17 R451). -/
def execCfgStore (src : Src) (v : Nat) (s : State) : Out :=
  .next (s.unlessSwapping (.cfgStore src v) fun s => s.plainWrite src 0x1C01 0x0006 (u8 v))

/-- `TRUST_ERASE` (14 R400). -/
def execTrustErase (src : Src) (v : Nat) (s : State) : Out :=
  .next (s.unlessSwapping (.trustErase src v) fun s => s.plainWrite src 0x1E00 0x0029 (u64 v))

/-- `TRANSFER_TIMEOUT` (14 R387): 1 s without a message from the partner. -/
def execTransferTimeout (src : Src) (s : State) : Out :=
  .next (match s.transferOf src with
  | none => s
  | some t =>
    if s.serves && decide (t.at_ + sec 1 ≤ s.now) then (s.dropTransfer src).abort src t.index t.sub (abortWord .timeout) else s)

/-! ## Partners (14 R402, R403) -/

/-- Takes a partner's heartbeat (14 R403): it announces its period of 50 ms to 10,000 ms; over UDP it is answered. -/
def State.takeHeartbeat (s : State) (src : Src) (period : Nat) : State :=
  if s.service src false 0 0 [] ≠ .serve then s
  else
    let t := s.receive src
    let t := t.modDict fun d => { d with transfers := d.transfers.map fun x => if x.src = src then { x with at_ := s.now } else x }
    let t := match t.partnerAt src with
      | some k => if 50 ≤ period ∧ period ≤ 10000 then t.modPartner k fun p => { p with hbState := 1, period := period, lastHb := s.now } else t
      | none => t
    if (ethOf src.iface).isSome then t.send (.heartbeatReply src t.mode.block.code (t.val 0x1E01 0x0041)) else t

/-! ## Messages as they are received (14 R381 to R383) -/

/-- The command that a message of the service port is (14 R379), carried by its own frame and by `rest` behind it. -/
def commandOf (src : Src) (m : WireMessage) (rest : List Byte) : Option Instr :=
  let raw := serviceFrame m.bytes ++ rest
  if m.op = 0x01 then some (.read src m.index m.sub m.offset raw)
  else if m.op = 0x02 then some (.write src m.index m.sub m.total m.offset m.data raw)
  else if m.op = 0x05 ∧ m.data.length = 3 then some (.heartbeat src (ofBytes (m.data.take 1)) (ofBytes (m.data.drop 1)) raw)
  else none

/-- The messages that the bytes carry to the device over the partner's interface: over UDP a datagram, over the service port those of the sound
frames that its receiver finds. A malformed datagram or frame is discarded and counted (14 R381, R382, Table 14-11). -/
def State.receiveWire (s : State) (src : Src) (raw : List Byte) : State × List WireMessage :=
  let count (s : State) (k : Nat) : State := s.modDict fun d => { d with discards := upd d.discards src.iface fun n => satAdd max32 n k }
  if src.iface = 5 then
    let bs := s.dict.serviceRx ++ raw
    let q := scanService bs.length bs
    let ms := q.found.filterMap WireMessage.parse
    ((count s (q.bad + (q.found.length - ms.length))).modDict fun d => { d with serviceRx := q.rest }, ms)
  else match WireMessage.parse raw with
    | some m => (s, [m])
    | none => (count s 1, [])

/-- Serves a command that its bytes carry: over UDP and the service port where the message received is the command's. Over CAN the frame itself is
the command (14 R383). Where the service port's bytes bring several sound frames, each becomes a request of its own, in their order. -/
def State.whenCarried (s : State) (src : Src) (raw : List Byte) (is : WireMessage → Bool) (f : State → State) : State :=
  if (canOf src.iface).isSome then f s
  else
    let r := s.receiveWire src raw
    match r.2 with
    | [] => r.1
    | [m] => if is m then f (r.1.setTag src m.tag) else r.1
    | ms =>
      let rest := r.1.dict.serviceRx
      (r.1.modDict fun d => { d with serviceRx := [] }).forEach ms.zipIdx fun s p =>
        match commandOf src p.1 (if p.2 + 1 = ms.length then rest else []) with
        | some c => s.hold c
        | none => s

/-- `READ` (14 R386). -/
def execRead (src : Src) (index sub offset : Nat) (raw : List Byte) (s : State) : Out :=
  .next (s.unlessSwapping (.read src index sub offset raw) fun s =>
    s.whenCarried src raw (fun m => m.op = 0x01 && m.index = index && m.sub = sub && m.offset = offset) fun s => s.readVia src index sub offset)

/-- `REC_WINDOW` (17 R448): an offset-0 read of the entry. -/
def execRecWindow (src : Src) (s : State) : Out := .next (s.unlessSwapping (.recWindow src) fun s => s.readVia src 0x1C00 0x0008 0)

/-- `HIST_READ` (17 R458): an offset-0 read of the entry. -/
def execHistRead (src : Src) (s : State) : Out := .next (s.unlessSwapping (.histRead src) fun s => s.readVia src 0x1C01 0x000B 0)

/-- `WRITE` (14 R385). -/
def execWrite (src : Src) (index sub total offset : Nat) (data raw : List Byte) (s : State) : Out :=
  .next (s.unlessSwapping (.write src index sub total offset data raw) fun s =>
    s.whenCarried src raw (fun m => m.op = 0x02 && m.index = index && m.sub = sub && m.total = total && m.offset = offset && m.data = data) fun s =>
      s.writeMessage src index sub total offset data)

/-- `HEARTBEAT` (14 R403). -/
def execHeartbeat (src : Src) (state period : Nat) (raw : List Byte) (s : State) : Out :=
  .next (s.unlessSwapping (.heartbeat src state period raw) fun s =>
    s.whenCarried src raw (fun m => m.op = 0x05 && m.data = u8 state ++ u16 period) fun s => s.takeHeartbeat src period)

/-- A partner leaves the table (14 R402). -/
def State.partnerLeaves (s : State) (k : Fin 64) (src : Src) : State :=
  (s.modPartner k fun p => { p with present := false }).event 0x9021 0x1E01 (k.val + 1) (u8 src.iface.val ++ u32 src.addr)

/-- `PARTNER_HEARTBEAT_TIMEOUT` (14 R403): late after 1.5 periods, lost after 3, and then it leaves. -/
def execPartnerHeartbeatTimeout (src : Src) (s : State) : Out :=
  .next (match s.partnerAt src with
  | none => s
  | some k =>
    let p := s.dict.partners[k]
    let who := u8 src.iface.val ++ u32 src.addr
    if !s.fwActs || p.period = 0 then s
    else
      let late := p.hbState = 1 && decide (3 * ms p.period ≤ 2 * (s.now - p.lastHb))
      let t := if late then (s.modPartner k fun p => { p with hbState := 2 }).event 0x9022 0x1E01 (k.val + 1) who else s
      if 3 * ms p.period ≤ s.now - p.lastHb then
        ((t.modPartner k fun p => { p with hbState := 3 }).event 0x9023 0x1E01 (k.val + 1) who).partnerLeaves k src
      else t)

/-- `PARTNER_AGE_EXPIRY` (14 R402): no heartbeat, and no message for `PARTNER_AGE`. -/
def execPartnerAgeExpiry (src : Src) (s : State) : Out :=
  .next (match s.partnerAt src with
  | none => s
  | some k =>
    let p := s.dict.partners[k]
    if s.fwActs && p.period = 0 && decide (p.lastMsg + sec (s.val 0x1E01 0x0042) ≤ s.now) then s.partnerLeaves k src else s)

/-- The controller carries the device's heartbeat (14 R403, 20 Table 20-4). -/
def State.canBeats (s : State) (k : Fin 3) : Bool :=
  let c := s.cans[k]
  s.canServes k && (c.mode = 0 || c.mode = 1)

/-- Interface code of a controller. -/
def ifaceOfCan (k : Fin 3) : Nat := if k = 2 then 4 else k.val

/-- `DEVICE_HEARTBEAT_SEND` (14 R403): every `HB_PERIOD`, with destination 0. -/
def execDeviceHeartbeatSend (s : State) : Out :=
  .next (
    let p := s.val 0x1E01 0x0041
    if s.fwActs && p ≠ 0 && s.mode.block ≠ .baseCamp && decide (s.dict.hbAt + ms p ≤ s.now) then
      (s.modDict fun d => { d with hbAt := s.now }).forEach ((List.finRange 3).filter s.canBeats) fun t k =>
        t.send (.heartbeat (ifaceOfCan k) t.mode.block.code p)
    else s)

end Sys2Proof.Machine
end

