-- ==== Sys2Proof/Machine/CanReceive.lean ====
section
/-!
DEFINITION. A frame received by a CAN controller (spec/13 R351, R356 to R358, spec/12 R343, spec/14 R383): the receive queue, the
safe-message path, the dictionary path and the filter engine, with the port distributor that the safe messages go through.
-/

namespace Sys2Proof.Machine

/-- Payload of a frame: as many bytes as its DLC denotes. -/
def framePayload (f : CanFrame) : List Byte :=
  let n := dlcLen f.fd f.dlc
  f.data.take n ++ List.replicate (n - f.data.length) 0x00#8

/-- A dictionary message in a CAN frame (14 Table 14-5). -/
inductive CanMessage where
  | read (index sub offset : Nat)
  | write (index sub : Nat) (data : List Byte)
  | segment (index sub total offset : Nat) (data : List Byte)
  | heartbeat (state period : Nat)
  deriving DecidableEq, Repr

/-- The message a payload spells for a `FUNC`; none where the frame is too short for it, or `FUNC` is no request (14 R383). -/
def parseCan (func : Nat) (d : List Byte) : Option CanMessage :=
  let num (k n : Nat) : Nat := ofBytes ((d.drop k).take n)
  let index := num 0 2
  let sub := num 2 2
  match func with
  | 0x01 => if d.length < 8 then none else some (.read index sub (num 4 4))
  | 0x02 =>
    let size := match entryOf index sub with
      | some r => if r.size ≤ 60 then r.size else d.length - 4
      | none => d.length - 4
    if d.length < 4 + size then none else some (.write index sub ((d.drop 4).take size))
  | 0x03 =>
    let left := num 4 4 - num 8 4
    if d.length < 13 then none else some (.segment index sub (num 4 4) (num 8 4) ((d.drop 12).take left))
  | 0x70 => if d.length < 3 then none else some (.heartbeat (num 0 1) (num 1 2))
  | _ => none

/-- Interface of a controller. -/
def canIface (k : Fin 3) : Fin 6 := if k = 2 then 4 else if k = 1 then 1 else 0

/-- Serves a dictionary message. -/
def State.serveCan (s : State) (src : Src) (m : CanMessage) : State :=
  match m with
  | .read index sub offset => s.unlessSwapping (.read src index sub offset []) fun s => s.readVia src index sub offset
  | .write index sub data => s.unlessSwapping (.registerWrite src index sub data) fun s => s.writeMessage src index sub data.length 0 data
  | .segment index sub total offset data =>
    s.unlessSwapping (.write src index sub total offset data []) fun s => s.writeMessage src index sub total offset data
  | .heartbeat state period => s.unlessSwapping (.heartbeat src state period []) fun s => s.takeHeartbeat src period

/-- The dictionary path (14 R383): an extended CAN FD frame addressed to the device's node, or a heartbeat to all nodes, from another
sender's node 1 to 127. -/
def State.dictFrame (s : State) (k : Fin 3) (f : CanFrame) (own : Bool) : State :=
  let func := f.id / 0x10000 % 0x100
  let source := f.id / 0x100 % 0x100
  let dest := f.id % 0x100
  if own || !f.ext || !f.fd || f.id / 0x1000000 ≠ 0x1C || source = 0 || 127 < source then s
  else if dest ≠ (if func = 0x70 then 0 else s.cans[k].node) then s
  else match parseCan func (framePayload f) with
    | some m => s.serveCan ⟨canIface k, source⟩ m
    | none => s

/-- Firmware reads a receive object whose interrupt it takes (13 R358), which clears `ND`. -/
def State.readAtIrq (s : State) (k : Fin 3) : State :=
  if !s.fwActs then s
  else s.forEach (allMo.filter fun o => let w := s.moCfg k o
    moValid w && !moSend w && moIrq w && (s.mo k o).nd) fun t o => t.modMo k o fun m => { m with nd := false }

/-- The safe-message path wants a frame (12 R343): a CAN FD frame of 16 bytes on CAN-A or CAN-B whose identifier an enabled `SM_RX_ID`
names. -/
def State.safeWants (s : State) (k : Fin 3) (f : CanFrame) : Bool :=
  decide (k.val < 2) && f.fd && !f.remote && (framePayload f).length = 16 &&
    (List.finRange 8).any fun m => s.smEnabled m && s.smId m = f.id + bitAt f.ext 29

/-- The safe-message path gives a frame to the port distributor: the identifier and the 16 data bytes, three tap entries (12 R343). -/
def State.safeEnter (s : State) (k : Fin 3) (f : CanFrame) : State :=
  let head : RxHead := { owner := 4 + k.val, end_ := .a, kind := .traverse, expected := 0, sync := s.sysTicks, inTime := true, cut := false, link := true }
  s.modTrav fun v => { v with portQ := v.portQ ++ [{ head := head, bytes := u32 (f.id + bitAt f.ext 29) ++ framePayload f, begun := false }] }

/-- A frame of the receive queue (13 R351): the safe-message path first, then the dictionary path and the filter engine. -/
def State.passFrame (s : State) (k : Fin 3) (x : CanRx) : State :=
  let t := if s.safeWants k x.frame then s.safeEnter k x.frame else s
  ((t.dictFrame k x.frame x.own).filterFrame k x).readAtIrq k

/-- The head of a receive queue waits: the distributor has not taken the controller's last safe message yet (01 R17, 13 R351). -/
def State.safeWaits (s : State) (k : Fin 3) (x : CanRx) : Bool :=
  s.safeWants k x.frame && s.trav.portQ.any fun f => f.head.safe && f.head.owner = 4 + k.val

/-- Passes on the frames of a receive queue up to one that waits. -/
def State.passQueue (s : State) (k : Fin 3) : List CanRx → State
  | [] => s.modCan k fun c => { c with rxQ := [] }
  | x :: rest => if s.safeWaits k x then s.modCan k fun c => { c with rxQ := x :: rest } else (s.passFrame k x).passQueue k rest

/-- `CAN_FRAME_RECEIVED` (01 Table 1-6, 13 R351): `before` is the time since the start of frame in SYS ticks; `own`, the controller sent the
frame itself. A 33rd frame finds the queue full. -/
def execCanFrameReceived (k : Fin 3) (f : CanFrame) (before : Nat) (own : Bool) (s : State) : Out :=
  .next (
    let c := s.cans[k]
    if !(c.onBus && (c.bus = .active || c.bus = .passive)) then s
    else
      let t := if own then s else s.canGood k
      let t := if 32 ≤ c.rxQ.length then
          (t.modCan k fun c => { c with counts := upd c.counts 9 sat32, seen := c.seen ||| 8 }).canEvent k 0x8006 0
        else (t.modCan k fun c => { c with counts := upd c.counts 0 sat32 }).passQueue k (c.rxQ ++ [⟨f, s.sysTicks - before, own⟩])
      t.takeMode k)

/-- `DISTRIBUTOR_DELIVER` (01 R17, R18): one service of every queue that is not empty, after which the CAN queues behind it move on. -/
def execDistributorDeliver (stall : Bool) (s : State) : Out :=
  .next ((s.serviceAll stall).forEach ([0, 1, 2] : List (Fin 3)) fun t k => t.passQueue k t.cans[k].rxQ)

end Sys2Proof.Machine
end

