-- ==== Sys2Proof/Machine/Nodes.lean ====
section
/-!
DEFINITION. Meanings of the rope nodes' commands (spec/04 R104 to R117, R136, spec/05 R143 to R159, spec/06 R177 to R185):
what a C16 or an H1 does with each master frame, with its strobe and with its own timers. The node at place 0 is the H1.
-/

namespace Sys2Proof.Machine

/-! ## Acceptance and replies -/

/-- The serving end in force for acceptance: that of the last `SET_SERVE` taken (04 R115, 05 R146). -/
def Node.serving (n : Node) : Option Serve := n.serveNext <|> n.serve

/-- A node's own hop from an end (04 R110). -/
def Node.hopFrom (n : Node) : PortEnd → Option Nat
  | .a => n.position
  | .b => n.bHop

/-- The frame is addressed to the node or is a broadcast (04 R104). -/
def Node.addressed (n : Node) (f : NodeRx) : Bool := f.addr = 0x3F || n.position = some f.addr

/-- A range command includes the node (04 R110). -/
def Node.inRange (n : Node) (f : NodeRx) : Bool :=
  f.addr = 0x3F && (match n.hopFrom f.from_ with | some h => decide (f.firstHop ≤ h ∧ h ≤ f.lastHop) | none => false)

/-- The node is the one the frame is addressed to. -/
def Node.target (n : Node) (f : NodeRx) : Bool := f.addr ≠ 0x3F && n.addressed f

/-- R110, R115: the code and the payload length are the command's, the CRC is correct, the node is included, and the frame comes from its
serving end or has `FAR` set; an unassigned node accepts from either end. Any other code is not accepted. -/
def Node.accepts (n : Node) (f : NodeRx) (code len : Nat) (included : Bool) : Bool :=
  f.crcOk && f.code = code && f.len = len && included && (f.far || (match n.serving with | some v => v.end_ = f.from_ | none => true))

/-- The node stands next to the boundary on the far side of the frame's way (04 R122). The model's choice: in a single-ended mode, where
no boundary exists, the last node served stops such a frame too (log 138). -/
def Node.atBoundary (n : Node) (f : NodeRx) : Bool :=
  match n.serving with
  | some v => v.end_ = f.from_ && n.position = some (if v.end_ = .a then v.last else v.first)
  | none => false

/-- What a node does with every frame it receives: it tracks `FCNT` of each end and marks a gap in that of its serving end (04 R116, Table 4-5), notes that a frame came (06 R184), and sends the
frame on unless the boundary stops it (04 R109, R122). -/
def Node.hear (n : Node) (f : NodeRx) : Node :=
  let on := f.far || !n.atBoundary f
  let n := { n with repeated := on, onward := if on then f.bytes else [] }
  if !f.crcOk then n
  else
    let last := match f.from_ with | .a => n.fcntA | .b => n.fcntB
    let n := { n with heard := true, gap := n.gap || ((n.serving.any fun v : Serve => decide (v.end_ = f.from_)) && match last with | some k => f.fcnt % 64 ≠ (k + 1) % 64 | none => false) }
    match f.from_ with
    | .a => { n with fcntA := some (f.fcnt % 64) }
    | .b => { n with fcntB := some (f.fcnt % 64) }

/-- A switch of the node is on: its switches follow a mask that is not zero (05 R152, 06 R177). -/
def Node.onNow (n : Node) : Bool := n.switched && n.mask ≠ 0

/-- Notes for `BAL_ACTIVE` what was on before the switches or the mask change (04 Table 4-5). -/
def Node.noteOn (n : Node) : Node := { n with wasOn := n.wasOn || n.onNow }

/-- The communication-loss timeout acts where it has expired: a C16 outside base camp opens its switches (04 R136). -/
def Node.expire (n : Node) (place : Fin 33) (now : Nat) : Node :=
  if place.val ≠ 0 && !n.camp && decide (n.acceptedAt + ms (100 * n.commLoss) ≤ now) then { n.noteOn with switched := false, balStopped := true } else n

/-- An accepted command: an expiry of the communication-loss timeout is applied first, `ACC` rises by 1 modulo 64, and the timeout
starts again (04 R115, R136). -/
def Node.take (n : Node) (place : Fin 33) (now : Nat) : Node := { n.expire place now with acc := (n.acc + 1) % 64, acceptedAt := now }

/-- The status bytes (04 Table 4-5); an H1 reports bits 14, 13, 9:7, 6, 5 and 3 as 0. -/
def Node.status (n : Node) (h1 : Bool) : Nat :=
  let own := bitAt n.latched 15 + bitAt n.gap 12 +
    (match n.serving with | some v => (match v.end_ with | .a => 0x400 | .b => 0x800) | none => 0) +
    bitAt n.selfFail 4 + bitAt n.configDefault 2
  if h1 then own
  else own + bitAt n.balActive 14 + bitAt n.balStopped 13 + n.filter % 8 * 128 + bitAt n.openWire 6 + bitAt n.hot 5 + bitAt n.wakePending 3

/-- The node's part code (04 R111). -/
def partOf (place : Fin 33) : Nat := if place.val = 0 then 0x41 else 0x42

/-- Sends a reply (04 Table 4-3). A node without a position sends `SRC` 0 (the model's choice; log 170). `FRAME_GAP` and `WAKE_PENDING` clear with the reply that reports them (04 R116, 06 R187). -/
def Node.send (n : Node) (place : Fin 33) (kind tag : Nat) (data : List Byte) : Node :=
  let body := u8 (n.position.getD 0 * 4 + kind) ++ u8 tag ++ data ++ u16 (n.status (place.val = 0)) ++ u8 n.acc
  { n with reply := u8 0x55 ++ u8 0xA2 ++ body ++ u16 (crc16 body), gap := false, wakePending := false }

/-- The identity data of a roll-call, echo or continuity reply (04 R111). -/
def Node.identity (n : Node) (place : Fin 33) : List Byte := u8 (partOf place) ++ u8 n.issue ++ u32 n.serial ++ u16 n.version

/-- An acknowledgement: the command byte, a result and 6 reserved bytes (04 R111). -/
def Node.ack (n : Node) (place : Fin 33) (f : NodeRx) (result : Nat) : Node :=
  n.send place 2 0 (u8 f.cmd ++ u8 result ++ beBytes 6 0)

/-- The 32 data bytes of a traverse reply (04 Table 4-4). -/
def heldBytes (h : HeldSample) (h1 : Bool) : List Byte :=
  if h1 then i32 h.iLatch ++ i32 h.iMean ++ u32 h.vString ++ i32 h.iCheck ++ i16 h.shunt ++ List.replicate 14 0
  else ((List.range 16).map fun j => u16 (h.cells.getD j 0)).flatten

/-- A frame reaches a node: every node hears it, and `act` is what the node does with it when it accepts it. -/
def State.nodeFrame (s : State) (f : NodeRx) (code len : Nat) (included : Node → Bool) (act : Node → Node) : State :=
  s.modNode f.string f.place.val fun n =>
    let n := n.hear f
    if n.accepts f code len (included n) then act (n.take f.place s.now) else n

/-! ## Roll call (04 R117) -/

/-- A roll-call frame goes on with the offered value plus 1, under a CRC of its own. -/
def Node.passOn (n : Node) (f : NodeRx) (value : Nat) : Node :=
  { n with passed := value, onward := masterFrame f.far f.code f.addr f.fcnt (pairPayload value (f.field 1 1)), repeated := true }

/-- `ROLL_CALL_A`: the offered value becomes the position. -/
def execRollCallA (f : NodeRx) (s : State) : Out :=
  .next (s.nodeFrame f 0x01 1 (fun n => n.addressed f) fun n =>
    let n := ({ n with position := some (f.field 0 1) } : Node).passOn f (f.field 0 1 + 1)
    n.send f.place 2 0 (n.identity f.place))

/-- `ROLL_CALL_B`: the offered value becomes the B-hop. -/
def execRollCallB (f : NodeRx) (s : State) : Out :=
  .next (s.nodeFrame f 0x02 1 (fun n => n.addressed f) fun n =>
    let n := ({ n with bHop := some (f.field 0 1) } : Node).passOn f (f.field 0 1 + 1)
    n.send f.place 2 0 (n.identity f.place))

/-- `HOP_ECHO`: the addressed node replies at once. -/
def execHopEcho (f : NodeRx) (s : State) : Out :=
  .next (s.nodeFrame f 0x03 0 (fun n => n.target f) fun n => n.send f.place 2 0 (n.identity f.place))

/-- `CONTINUITY` (04 R123). -/
def execContinuity (f : NodeRx) (s : State) : Out :=
  .next (s.nodeFrame f 0x05 0 (fun n => n.target f) fun n => n.send f.place 2 0 (n.identity f.place))

/-- `NOP` (04 R117): the node clears its serving end, and with it its previous recovered instant (05 R149); an unassigned node strobes
nothing and reports `LATCHED` 0 (05 R144). -/
def execNop (f : NodeRx) (s : State) : Out :=
  .next (s.nodeFrame f 0x7F 0 (fun n => n.addressed f) fun n =>
    { n with serve := none, serveNext := none, prevAt := none, prevSum := 0, strobe := none, latched := false })

/-- The assignment a `SET_SERVE` carries; an end other than 0x02 is A. -/
def serveOf (f : NodeRx) : Serve :=
  { end_ := if f.field 2 1 = 2 then .b else .a, deep := f.field 3 1, delay := f.field 4 2, first := f.field 0 1, last := f.field 1 1 }

/-- `SET_SERVE` (04 Table 4-6, 05 R146): a node among the positions named takes its serving end, deepest hop and hop delay, in force
for strobes from its next accepted `TRIGGER`. The model's choice: a node outside the positions named does not count the command (log 139). -/
def execSetServe (f : NodeRx) (s : State) : Out :=
  .next (s.nodeFrame f 0x04 3 (fun n => n.addressed f && n.position.any fun p => decide ((serveOf f).first ≤ p ∧ p ≤ (serveOf f).last)) fun n =>
    { n with serveNext := some (serveOf f) })

/-! ## The trigger and the strobe (05 R143 to R152) -/

/-- `TRIGGER` (05 R143, Table 5-2): flags bit 0 `BAL_PERMIT`, bit 1 `SLOW_LATCH`; the strobe fires (H - h) x d after the frame's end, h
being the node's hop from its serving end. A node without a serving end strobes nothing and answers with `LATCHED` 0 (05 R144). -/
def execTrigger (f : NodeRx) (s : State) : Out :=
  .next (s.nodeFrame f 0x10 3 (fun n => n.addressed f) fun n =>
    let flags := f.field 3 1
    let n := { n with serve := n.serving, serveNext := none, latched := false, permit := flags.testBit 0, recess := f.field 2 1, strobe := none }
    match n.serve with
    | none => n.send f.place 0 n.tag (heldBytes n.held (f.place.val = 0))
    | some v =>
      match n.hopFrom v.end_ with
      | none => n.send f.place 0 n.tag (heldBytes n.held (f.place.val = 0))
      | some h =>
        { n with nextAt := s.now + ms (f.field 4 2) - us 13 - (h + 1) * v.delay,
                 strobe := some { at_ := s.now + (v.deep - h) * v.delay, number := f.field 0 2, slow := flags.testBit 1,
                                  permit := flags.testBit 0, back := us 13 + (v.deep + 1) * v.delay } })

/-- The switches of the node may follow its mask (04 R136, 05 R152, 06 R184). -/
def Node.mayBalance (n : Node) : Bool := n.permit && !n.balStopped && !n.camp

/-- A value between two neighbours of the history, `k` sixteenths of 1 us back from the newer (05 R143). -/
def between (newer older : Int) (k : Nat) : Int := roundHalfEven (newer * ((16 - k : Nat) : Int) + older * (k : Int)) 16

/-- The sample the filter output had `back` ns ago, from a history of 64 values 1 us apart, newest first, at a resolution of 62.5 ns
(05 R143), with the integral of the string current at that instant. The shunt temperature is the newest. -/
def recover (history : List HeldSample) (back : Nat) : HeldSample :=
  let q := (2 * back + 62) / 125
  let x := history.getD (q / 16) HeldSample.empty
  let y := history.getD (q / 16 + 1) x
  let now := history.headD HeldSample.empty
  let k := q % 16
  { cells := (List.range 16).map fun j => (between (x.cells.getD j 0) (y.cells.getD j 0) k).toNat, iLatch := between x.iLatch y.iLatch k,
    iMean := between x.iMean y.iMean k, vString := (between x.vString y.vString k).toNat, iCheck := between x.iCheck y.iCheck k, shunt := now.shunt }

/-- `I_MEAN` of a recovered sample: the mean current from the previous recovered instant to this one, the nearest mA, or the `I_LATCH` of the
strobe where there is no previous instant (05 R149; log 171). -/
def Node.meanOf (n : Node) (sample : HeldSample) (at_ : Nat) : Int :=
  match n.prevAt with
  | none => sample.iLatch
  | some t => roundHalfEven ((sample.iMean - n.prevSum) * 1000) (at_ - t)

/-- `LATCH_STROBE` (05 R143, R149, R152, R159): the node recovers its sample from the history of its filter output, holds it under its tag,
and sends its traverse reply; with `SLOW_LATCH` a C16 copies its conversions; its switches return to their masks where permitted. `hot` is
whether its own die is above its limit (04 Table 4-5). -/
def execLatchStrobe (i : Fin 40) (place : Fin 33) (history : List HeldSample) (temps : List Int) (hk : List Nat) (hot : Bool) (s : State) : Out :=
  .next (s.modNode i place.val fun n =>
    match n.strobe with
    | none => n
    | some k =>
      if s.now < k.at_ then n
      else
        let sample := recover history k.back
        let at_ := k.at_ - k.back
        let n := { n with held := { sample with iMean := n.meanOf sample at_ }, latched := true, tag := k.number % 256, prevAt := some at_,
                          prevSum := sample.iMean, strobe := none, switched := n.mayBalance, hot := hot }
        let n := if k.slow && place.val ≠ 0 then { n with temps := temps.take 32, hk := hk.take 16, slowTag := k.number % 256 } else n
        n.send place 0 n.tag (heldBytes n.held (place.val = 0)))

/-- `RECESS_START` (05 R152): t_rec + 2 us before the announced alignment instant a C16 opens its switches; `BAL_ACTIVE` then tells
whether one was on in the period. -/
def execRecessStart (i : Fin 40) (place : Fin 33) (s : State) : Out :=
  .next (s.modNode i place.val fun n =>
    if place.val ≠ 0 && decide (n.nextAt ≤ s.now + n.recess * 100000 + us 2) then
      { n with balActive := n.noteOn.wasOn, wasOn := false, switched := false }
    else n)

/-! ## Reads -/

/-- `READ_HELD`: the nodes in the range reply with the held sample. -/
def execReadHeld (f : NodeRx) (s : State) : Out :=
  .next (s.nodeFrame f 0x11 1 (fun n => n.inRange f) fun n => n.send f.place 0 n.tag (heldBytes n.held (f.place.val = 0)))

/-- `READ_TEMP`: a monitor in the range replies with its slow-held temperatures; the H1 sends none (04 R111). -/
def execReadTemp (f : NodeRx) (s : State) : Out :=
  .next (s.nodeFrame f 0x20 1 (fun n => f.place.val ≠ 0 && n.inRange f) fun n =>
    n.send f.place 1 n.slowTag ((List.range 32).map fun j => i16 (n.temps.getD j 0)).flatten)

/-- `READ_HK`: the monitors in the range reply with their housekeeping channels. -/
def execReadHk (f : NodeRx) (s : State) : Out :=
  .next (s.nodeFrame f 0x21 1 (fun n => f.place.val ≠ 0 && n.inRange f) fun n =>
    n.send f.place 0 n.slowTag ((List.range 16).map fun j => u16 (n.hk.getD j 0)).flatten)

/-! ## Settings -/

/-- `OPEN_WIRE` (06 R179): the monitor acknowledges and tests; `open_` is what its test finds. A mask without exactly one bit is out of
range. The H1 refuses it (log 29). -/
def execOpenWire (f : NodeRx) (open_ : Bool) (s : State) : Out :=
  .next (s.nodeFrame f 0x22 1 (fun n => n.target f) fun n =>
    if f.place.val = 0 then n.ack f.place f 2
    else if (List.range 16).all fun j => f.field 0 2 ≠ 2 ^ j then n.ack f.place f 1
    else { (n.ack f.place f 0) with openWire := open_ })

/-- `SET_BALANCE` (06 R177, R184, 04 R136): refused in base camp; a new mask clears `BAL_STOPPED`. The H1 refuses it (log 29). -/
def execSetBalance (f : NodeRx) (s : State) : Out :=
  .next (s.nodeFrame f 0x30 1 (fun n => n.target f) fun n =>
    if f.place.val = 0 || n.camp then n.ack f.place f 2
    else ({ n.noteOn with mask := f.field 0 2, balStopped := false } : Node).ack f.place f 0)

/-- `SET_FILTER` (05 R155, R156): position 0 answers with result 2, a code beyond Table 5-3 with result 1. -/
def execSetFilter (f : NodeRx) (s : State) : Out :=
  .next (s.nodeFrame f 0x31 1 (fun n => n.target f) fun n =>
    if f.place.val = 0 then n.ack f.place f 2
    else if 4 < f.field 0 1 then n.ack f.place f 1
    else ({ n with filter := f.field 0 1 } : Node).ack f.place f 0)

/-- `SET_CONFIG` (04 Table 4-6): communication-loss timeout in 100 ms and base-camp fields; it ends the default configuration. A
reply is sent where it is addressed. -/
def execSetConfig (f : NodeRx) (s : State) : Out :=
  .next (s.nodeFrame f 0x32 3 (fun n => n.addressed f) fun n =>
    let n := { n with commLoss := f.field 0 2, bcFields := f.field 2 4, configDefault := false }
    if f.addr = 0x3F then n else n.ack f.place f 0)

/-- `BASE_CAMP` (06 R184): with `ENTER` a C16 opens its switches, discards its mask and begins its wakes. -/
def execBaseCamp (f : NodeRx) (s : State) : Out :=
  .next (s.nodeFrame f 0x40 1 (fun n => n.addressed f) fun n =>
    if f.place.val ≠ 0 && (f.field 1 1).testBit 0 then
      { n.noteOn with
        switched := false, mask := 0, camp := true, bcTemp := toSigned 8 (f.field 0 1), suspect := none, tones := 0, toneDue := none,
        heard := false, strobe := none }
    else n)

/-- `COMM_LOSS_TIMEOUT` (04 R136): a C16 outside base camp that has accepted no command for the timeout stops balancing. -/
def execCommLossTimeout (i : Fin 40) (place : Fin 33) (s : State) : Out := .next (s.modNode i place.val fun n => n.expire place s.now)

/-! ## Base camp (06 R184, R185) -/

/-- The base-camp window of a node (06 Tables 6-3 and 6-4). The model's choice: a thermistor code outside the valid range counts as at or above
`BC_TEMP` where its number is (log 141). -/
def Node.violates (n : Node) (cells : List Nat) (temps : List Int) : Bool :=
  (cells.any fun v => v < bits n.bcFields 9 0 * 50 || bits n.bcFields 19 10 * 50 < v) || temps.any fun t => decide (n.bcTemp * 10 ≤ t)

/-- `BASE_CAMP_WAKE_MEASURE` (06 R184): a violation is measured again after 100 ms; confirmed, `WAKE_PENDING` is set and the first tone is
due; after three tones each later wake that still finds the violation makes one more due, and a wake that finds none ends it. -/
def execBaseCampWakeMeasure (i : Fin 40) (place : Fin 33) (cells : List Nat) (temps : List Int) (s : State) : Out :=
  .next (s.modNode i place.val fun n =>
    if place.val = 0 || !n.camp then n
    else
      let bad := n.violates cells temps
      if 3 ≤ n.tones then (if bad then { n with toneDue := some s.now } else { n with tones := 0, toneDue := none })
      else
        match n.suspect with
        | none => if bad && n.toneDue.isNone then { n with suspect := some s.now } else n
        | some t0 =>
          if s.now < t0 + ms 100 then n
          else if bad then { n with suspect := none, wakePending := true, tones := 0, toneDue := some s.now, heard := false }
          else { n with suspect := none })

/-- `WAKE_TONE_SEND` (06 R184): the tone due goes out on both ports; it is repeated after 1 s and 2 s unless a frame came meanwhile. -/
def execWakeToneSend (i : Fin 40) (place : Fin 33) (s : State) : Out :=
  .next (s.modNode i place.val fun n =>
    match n.toneDue with
    | none => n
    | some due =>
      if !n.camp || s.now < due then n
      else if 1 ≤ n.tones && n.tones < 3 && n.heard then { n with tones := 3, toneDue := none }
      else { n with tones := n.tones + 1, tone := 3, heard := if n.tones = 0 then false else n.heard,
                    toneDue := if n.tones < 2 then some (s.now + sec 1) else none })

/-- `WAKE_TONE_REPEAT` (06 R185, R187): a tone detected on the port toward `e` for 100 us is repeated on the other one and brings the node out of base camp; tones are then
ignored for 50 ms from the end of the repeat, the tone being 2 ms long. The model's choice: a tone starts the communication-loss timeout
again, as an accepted command does (log 140). -/
def execWakeToneRepeat (i : Fin 40) (place : Fin 33) (e : PortEnd) (s : State) : Out :=
  .next (s.modNode i place.val fun n =>
    if s.now < n.deafUntil then n
    else { n with camp := false, suspect := none, toneDue := none, tones := 0, tone := 2 ^ e.other.bit, deafUntil := s.now + us 1900 + ms 50, acceptedAt := s.now })

/-- `NODE_RESTART` (04 R107, Table 4-5): the node runs its default configuration; what it was made with stays. `selfFail` is what its
internal self-test finds. -/
def execNodeRestart (i : Fin 40) (place : Fin 33) (selfFail : Bool) (s : State) : Out :=
  .next (s.modNode i place.val fun n =>
    { Node.reset with issue := n.issue, serial := n.serial, version := n.version, acceptedAt := s.now, selfFail := selfFail })

end Sys2Proof.Machine
end

