-- ==== Sys2Proof/Machine/SealedItems.lean ====
section
/-!
DEFINITION. Sealed requests of items (spec/14 R396, R397, 11 R305 to R307, 12 R317): firmware's checks, the records it hands to the belay
logic, their commit or refusal there, and the items it applies itself.
-/

namespace Sys2Proof.Machine

/-! ## Firmware's checks (11 R305, 14 R397) -/

/-- State condition of an envelope item: 08 R210 for `PROFILE`, 09 R262 for `BANK`, Table 11-4 for the bank's records. -/
def State.envStateOk (s : State) (i : SealItem) : Bool :=
  if 0x2201 ≤ i.index ∧ i.index ≤ 0x2228 then
    (let k := strOf i.index
     if i.sub = 0x0080 then
       (match s.strs[k].state with | .isolated | .tripped | .lockedOut | .excluded => true | _ => false)
     else if i.sub = 0x0008 then
       s.strs[k].state = .excluded && s.banks[s.bankOf k].state = .dark && s.banks[Fin.ofNat 4 (itemEl i 1 0 - 1)].state = .dark
     else true)
  else if 0x2101 ≤ i.index ∧ i.index ≤ 0x2104 then !s.anySOn (bankOfObj i.index) && !s.hbPermitted (bankOfObj i.index)
  else true

/-- State check of an item that becomes belay records; a safety I/O record is checked on the mirror with the request's records staged. -/
def State.belayItemCheck (s : State) (r : SealedReq) (i : SealItem) : Option Abort :=
  if isEnvelope i.index i.sub then (if s.envStateOk i then none else some .state)
  else
    let store := stagedStore s.belay.mirror (requestRecords r false)
    (recordsOf r.head false i).findSome? fun q => s.safetyCheck store q

def isBelayItem (i : SealItem) : Bool := isEnvelope i.index i.sub || isSafetyIo i.index i.sub

/-- Checks one item of a request and applies it where firmware holds its entry; the belay logic holds the records. -/
def State.applyOne (s : State) (r : SealedReq) (i : SealItem) : Applied :=
  match entryOf i.index i.sub with
  | none => .error (.noEntry, s)
  | some e =>
    if !s.lengthOk e i.index i.sub i.data then .error (.length, s)
    else if isBelayItem i then
      (if !e.rangeOk i.data then .error (.range, s)
       else match s.belayItemCheck r i with
         | some a => .error (a, s)
         | none => .ok s)
    else if isFwRws i then
      (if !s.rwsRangeOk i then .error (.range, s.rwsRefused i)
       else if !s.rwsStateOk i then .error (.state, s.rwsRefused i)
       else .ok (s.putRws i))
    else if !e.rangeOk i.data then .error (.range, s.rangeEvent i.index i.sub i.data .range)
    else match s.applyEntry r.head.src i.index i.sub i.data e with
      | .error x => .error (x.1, x.2.rangeEvent i.index i.sub i.data x.1)
      | .ok t => .ok t

/-- What the refusal of an item leaves on the state before its request: its event and nothing else. -/
def State.itemRefused (s : State) (r : SealedReq) (i : SealItem) : State :=
  match s.applyOne r i with
  | .error x => x.2
  | .ok _ => if isFwRws i then s.rwsRefused i else s

/-- Applies numbered items one after another to `t`; the first that fails ends it. -/
def applyItems (r : SealedReq) : List (SealItem × Nat) → State → Except (Abort × SealItem × Nat) State
  | [], t => .ok t
  | p :: ps, t => match t.applyOne r p.1 with
    | .error x => .error (x.1, p.1, p.2)
    | .ok t' => applyItems r ps t'

/-! ## Requests that firmware applies itself -/

/-- The answer to an applied request, and what follows its reply (11 R309, 14 R397). -/
def State.concludeSealed (s : State) (r : SealedReq) : State :=
  ((s.storeRequest r).answerSealed r).forEach r.items fun t i => entryAfter i.index i.sub t

/-- Every item checked; all applied in one step, or none (14 R397). -/
def State.applyRequest (s : State) (r : SealedReq) : SealEnd :=
  match applyItems r r.items.zipIdx s with
  | .error e => .refused e.1 e.2.2 (s.itemRefused r e.2.1)
  | .ok t => .awaits (t.concludeSealed r)

/-- The request is malformed (14 R394), so that its composition says nothing. -/
def sealMalformed (r : SealedReq) : Bool := !sealFormatOk r

/-- Compositions of R396 that no row of its own takes: RW and RWS items without records of the belay logic. -/
def isPlainRequest (r : SealedReq) : Bool :=
  sealFormatOk r && r.items.all fun i => !isBelayItem i && !isTrustKey i.index i.sub && accessOf i.index i.sub ≠ some .xs

/-- An XS entry alone whose value has not the entry's length (14 R380, R397), which no row of its own can carry. -/
def State.badXsLength (s : State) (r : SealedReq) : Bool :=
  sealFormatOk r && r.items.any fun i => match entryOf i.index i.sub with
    | some e => e.access = .xs && !s.lengthOk e i.index i.sub i.data
    | none => false

/-- `SEALED_ITEMS_REQUEST` (14 R397); every malformed request comes this way too, and one whose XS value has the wrong length. -/
def execSealedItemsRequest (r : SealedReq) (s : State) : Out :=
  .next (if isPlainRequest r || sealMalformed r || s.badXsLength r then s.unlessSwapping (.sealedItemsRequest r) fun s => s.sealedVia r fun s => s.applyRequest r
  else s)

/-- `TRAV_PERIOD_WRITE` (05 R150): a sealed request that names the entry. -/
def execTravPeriodWrite (r : SealedReq) (s : State) : Out :=
  .next (if isPlainRequest r && reqNames r blockObj 0x0050 then
    s.unlessSwapping (.travPeriodWrite r) fun s => s.sealedVia r fun s => s.applyRequest r
  else s)

/-- `SLOW_PERIOD_WRITE` (05 R159): a sealed request that names the entry. -/
def execSlowPeriodWrite (r : SealedReq) (s : State) : Out :=
  .next (if isPlainRequest r && reqNames r blockObj 0x0053 then
    s.unlessSwapping (.slowPeriodWrite r) fun s => s.sealedVia r fun s => s.applyRequest r
  else s)

/-! ## Requests of belay records (11 R305, 12 R317) -/

/-- Forwards the records of a request that firmware has checked; its other items wait for the belay logic. -/
def State.forwardRequest (s : State) (r : SealedReq) : SealEnd :=
  match applyItems r r.items.zipIdx s with
  | .error e => .refused e.1 e.2.2 (s.itemRefused r e.2.1)
  | .ok _ =>
    .awaits ((s.modBelay fun b => { b with privQ := b.privQ ++ (requestRecords r false).map PrivEntry.record }).modSeng fun g =>
      { g with forwarded := g.forwarded ++ [r] })

/-- `SEALED_ENVELOPE_REQUEST` (11 R305). -/
def execSealedEnvelopeRequest (r : SealedReq) (s : State) : Out :=
  .next (if sealFormatOk r && r.items.any (fun i => isEnvelope i.index i.sub) then
    s.unlessSwapping (.sealedEnvelopeRequest r) fun s => s.sealedVia r fun s => s.forwardRequest r
  else s)

/-- `SEALED_SAFETY_IO_REQUEST` (12 R317). -/
def execSealedSafetyIoRequest (r : SealedReq) (s : State) : Out :=
  .next (if sealFormatOk r && r.items.any (fun i => isSafetyIo i.index i.sub) then
    s.unlessSwapping (.sealedSafetyIoRequest r) fun s => s.sealedVia r fun s => s.forwardRequest r
  else s)

/-! ## The belay logic's side (11 R306, R307) -/

/-- The forwarded request that a record belongs to: by `REQ_ID` and `KEY_SLOT`. -/
def BelayRecord.of (q : BelayRecord) (r : SealedReq) : Bool := r.head.counter % 65536 = q.reqId && r.head.slot = q.slot

/-- The item that gave record `n` of a request (14 R389). -/
def itemOfRecord (r : SealedReq) (n : Nat) : Nat :=
  ((r.items.zipIdx.map fun p => List.replicate (itemRecords p.1) p.2).flatten).getD n 0

/-- Applies the items of a committed request that firmware holds (14 R397): those whose conditions still hold. -/
def State.applyOthers (s : State) (r : SealedReq) : State :=
  s.forEach (r.items.filter fun i => !isBelayItem i) fun t i => match t.applyOne r i with
    | .ok t' => t'
    | .error _ => t

/-- Firmware takes the outcome the belay logic posted to the request that waits for it; none where a restart has ended its wait. -/
def State.takeOutcome (s : State) (q : BelayRecord) (failed : Option Nat) : State :=
  match s.seng.forwarded.find? q.of with
  | none => s
  | some r =>
    let t := s.modSeng fun g => { g with forwarded := g.forwarded.erase r }
    match failed with
    | some n => t.refuseSealed r .belayRefused (itemOfRecord r n)
    | none =>
      let t := t.modBelay fun b => { b with mirror := b.store, mirrorCommits := b.commits }
      (t.applyOthers r).concludeSealed r

/-- The belay logic posts the outcome of a request to the report queue (11 R306): firmware takes it at once where it acts, else when it acts again,
and an outcome that the full queue loses is never answered (01 R33). Those of a start are replayed on (03 R85). -/
def State.postOutcome (s : State) (q : BelayRecord) (failed : Option Nat) : State :=
  if q.replay then s.replayOutcome failed.isNone
  else
    let t := s.modBelay fun b => { b with outcome := some (match failed with | none => (0, 0xFF) | some n => (Abort.belayRefused.code, n)) }
    if t.fwActs then t.takeOutcome q failed else t.postReport ⟨0, 4, q.reqId, 0, none, 0, some (q, failed)⟩

/-- Firmware that acts again takes the outcomes that wait in the report queue. -/
def State.takeOutcomes (s : State) : State :=
  (s.modBelay fun b => { b with reports := b.reports.filter fun r => r.kind ≠ 4 }).forEach (s.belay.reports.filterMap BelayReport.verdict) fun t v =>
    t.takeOutcome v.1 v.2

/-- Inputs whose `USE` a commit changed between unused and used start afresh: channels open and unchecked, not ready (12 R324). -/
def State.settleInputs (old s : State) : State :=
  s.forEach allIn fun t i =>
    if (old.inUse i = 0) = (t.inUse i = 0) then t
    else t.modIn i fun c => { c with a := InChannel.reset, b := InChannel.reset, disc := 0, ready := false }

/-- Commits the staged records, or refuses them. -/
def State.judgeRecords (s : State) (q : BelayRecord) (rs : List BelayRecord) : State :=
  if q.kind = 8 then
    match s.envRefusal rs with
    | some n => (s.refuseRecords q n.1 n.2).postOutcome q (some n.1)
    | none => (s.commitRecords rs 0x6031).postOutcome q none
  else
    match s.safetyRefusal rs with
    | some n => (s.refuseRecords q n 4).postOutcome q (some n)
    | none => ((s.settleInputs (s.commitRecords rs 0x7040)).settleStreams.settleBanks.enforceTrips).postOutcome q none

/-- A record arrives behind staged records of another request: that request is refused (11 R307). -/
def State.dropOtherStaged (s : State) (q : BelayRecord) : State :=
  match s.belay.staging with
  | [] => s
  | p :: _ =>
    if p.reqId = q.reqId && p.slot = q.slot && p.kind = q.kind then s
    else (s.refuseRecords p s.belay.staging.length 3).postOutcome p (some s.belay.staging.length)

/-- Takes one record from the queue (11 R306): staged, and judged once `REC_COUNT` are held. -/
def State.takeRecord (s : State) (q : BelayRecord) : State :=
  let s := s.dropOtherStaged q
  if q.check ≠ q.checkOf || !(if q.kind = 8 then isEnvelope q.index q.sub else isSafetyIo q.index q.sub) then
    (s.refuseRecords q q.num (if q.check ≠ q.checkOf then 1 else 2)).postOutcome q (some q.num)
  else
    let rs := s.belay.staging ++ [q]
    if rs.length < q.count then s.modBelay fun b => { b with staging := rs } else s.judgeRecords q rs

/-- `ENVELOPE_RECORD` (11 R306, R307, 12 R317): the record at the front of the privileged queue. -/
def execEnvelopeRecord (s : State) : Out :=
  .next (match s.belay.released, s.belay.privQ with
  | true, .record q :: rest => (s.modBelay fun b => { b with privQ := rest }).takeRecord q
  | _, _ => s)

end Sys2Proof.Machine
end

