-- ==== Sys2Proof/Machine/Resume.lean ====
section
/-!
DEFINITION. The end of a core swap (spec/18 R470): what waited for firmware is taken up.
-/

namespace Sys2Proof.Machine

/-- Firmware takes the receive interrupts that waited for it (13 R358, 01 R39). -/
def State.readHeld (s : State) (held : List Nat) : State :=
  s.forEach (([0, 1, 2] : List (Fin 3)).filter fun k => held.contains (68 + 4 * k.val)) fun t k => t.readAtIrq k

/-- `SWAP_RESUME` (18 R470): `PAIR`, IRQ 113, pending interrupts delivered, held passes decided. -/
def execSwapResume (s : State) : Out :=
  .next (if s.cores.swapping && s.resumeDue && s.start.fw ≠ .down then
    let t : State := { s with cores := { s.cores with swapping := false, formed := none, commitAt := s.now }, irq := { s.irq with held := [] } }
    let t := t.irqRaise 113
    if !t.fwActs then t
    else
      let t := match t.start.hurry with
        | some h => (t.modStart fun a => { a with hurry := none }).hurryOut h.1 h.2
        | none => t
      ((t.takeEths.readHeld s.irq.held).takeOutcomes).repairMirror.decideHeld
  else s)

end Sys2Proof.Machine
end

