-- ==== Sys2Proof/Machine/Trust.lean ====
section
/-!
DEFINITION. The trust list (spec/14 R395, R398 to R400, 03 R86) and the sealed steps of a firmware transfer (14 R401).
-/

namespace Sys2Proof.Machine

/-! ## The trust list -/

/-- Slot of a `TRUST_KEY` entry. -/
def keySlotOf (i : SealItem) : Fin 8 := Fin.ofNat 8 (i.sub - 0x0010)

def isRevocation (i : SealItem) : Bool := i.data.all fun b => b = 0x00#8

/-- Puts one `TRUST_KEY` item in force (14 R398): a key with the last accepted counter `n`, or none. Event 0x9011, or 0x9012 for
a provisioned key. -/
def State.putKey (s : State) (i : SealItem) (n code : Nat) : State :=
  let k := keySlotOf i
  let t := s.modSeng fun g => { g with
    slots := upd g.slots k fun v => if isRevocation i then { v with key := none } else { key := some i.data, counter := n, enrolled := s.utc }
    seen := g.seen ||| 1 }
  let t := t.modSeng fun g => { g with storedCounters := g.storedCounters.set k g.slots[k].counter, storePending := clearBits g.storePending (2 ^ k.val) }
  t.storeCfg.event code 0x1E00 i.sub (u8 k.val)

/-- Some slot stays occupied once the items are in force. -/
def State.keepsKey (s : State) (r : SealedReq) : Bool :=
  (List.finRange 8).any fun k =>
    match (r.items.filter fun i => keySlotOf i = k).getLast? with
    | some i => !isRevocation i
    | none => s.seng.slots[k].key.isSome

/-- The item revokes its slot, or its key decodes to a curve point that is not of small order (14 R398). -/
def trustItemOk (i : SealItem) : Bool := isRevocation i || keyGood i.data

/-- Trust-list items alone (14 R398): they take effect once the reply has been sent. -/
def State.trustRequest (s : State) (r : SealedReq) : SealEnd :=
  match s.firstBad r.items with
  | some e => .refused e.1 e.2 s
  | none => match r.items.findIdx? fun i => !trustItemOk i with
  | some n => .refused .range n s
  | none =>
    if !s.keepsKey r then .refused .state 0xFF s
    else .awaits ((s.answerSealed r).forEach r.items fun t i => t.putKey i 0 0x9011)

/-- A provisioning request while every slot is empty (14 R399). -/
def State.provision (s : State) (r : SealedReq) : SealEnd :=
  match s.firstBad r.items with
  | some e => .refused e.1 e.2 s
  | none =>
    if !trustItemOk r.first then .refused .range 0 s
    else if isRevocation r.first then .refused .state 0 s
    else .awaits ((s.answerSealed r).putKey r.first r.head.counter 0x9012)

/-- A request of trust-list items, by the list as it stands. -/
def State.trustVia (s : State) (r : SealedReq) : State :=
  if s.trustEmpty && provShape r then s.sealedThrough r true fun s => s.provision r
  else s.sealedVia r fun s => s.trustRequest r

def isTrustRequest (r : SealedReq) : Bool := sealFormatOk r && r.items.any fun i => isTrustKey i.index i.sub

/-- `SEALED_TRUST_REQUEST` (14 R398). -/
def execSealedTrustRequest (r : SealedReq) (s : State) : Out :=
  .next (if isTrustRequest r then s.unlessSwapping (.sealedTrustRequest r) fun s => s.trustVia r else s)

/-- `PROVISIONING_REQUEST` (14 R399). -/
def execProvisioningRequest (r : SealedReq) (s : State) : Out :=
  .next (if isTrustRequest r && provShape r then s.unlessSwapping (.provisioningRequest r) fun s => s.trustVia r else s)

/-- `COUNTER_STORED` (14 R395, 03 R86). -/
def execCounterStored (s : State) : Out := .next s.storeCounters

/-- `TRUST_ERASURE` (14 R400). -/
def execTrustErasure (s : State) : Out :=
  .next (match s.seng.eraseArmed with
  | none => s
  | some t0 =>
    if s.fwActs && s.supply.prov && decide (t0 + sec 300 ≤ s.now) && (allBank.all fun b => s.banks[b].state = .dark) && !s.powerPathOn &&
        (s.mode.block = .standby || s.mode.block = .service) then
      let t := s.modSeng fun g => { g with
        slots := Vector.replicate 8 ⟨none, 0, 0⟩, storePending := 0, storedCounters := Vector.replicate 8 0, eraseArmed := none, seen := g.seen ||| 1 }
      t.storeCfg.event 0x9013 0x1E00 0
    else s)

/-! ## Firmware transfer (14 R401) -/

/-- `FW_OPEN`: opens a session for the partner and interface of the request. -/
def execFwOpen (h : SealHead) (v : Nat) (s : State) : Out :=
  .next (s.unlessSwapping (.fwOpen h v) fun s =>
    let r := h.one 0x1E00 0x0030 (u32 v)
    s.sealedVia r fun s =>
      match s.firstBad r.items with
      | some e => .refused e.1 e.2 s
      | none => .applied ((s.modSeng fun g => { g with fw := some ⟨h.src, v, [], s.now⟩, fwStatus := 1 }).event 0x9018 0x1E00 0 (u32 v)))

/-- Ends the session with its commit: the image becomes a candidate, or its partition is marked invalid. -/
def State.commitImage (s : State) (ok : Bool) (generation version : Nat) : State :=
  let k := s.fwTarget
  let t := s.modSeng fun g => { g with fw := none, fwStatus := if ok then 2 else 3 }
  if ok then
    let t := t.modStart fun a => { a with images := a.images.set k ⟨generation, false, true⟩ }
    ({ t with ident := { t.ident with fwVersion := t.ident.fwVersion.set k version } }).event 0x9019 0x1E00 0 (u32 generation)
  else (t.modStart fun a => { a with images := upd a.images k fun m => { m with verifies := false } }).event 0x901A 0x1E00 0

/-- `FW_COMMIT`: the digest must be that of the written bytes; `headerOk`, the header verifies under 03 R83, with the generation
and version it states (log 193). -/
def execFwCommit (h : SealHead) (digest : List Byte) (headerOk : Bool) (generation version : Nat) (s : State) : Out :=
  .next (s.unlessSwapping (.fwCommit h digest headerOk generation version) fun s =>
    let r := h.one 0x1E00 0x0032 digest
    s.sealedVia r fun s =>
      match s.firstBad r.items with
      | some e => .refused e.1 e.2 s
      | none =>
        match s.seng.fw with
        | none => .refused .state 0 s
        | some f =>
          if sha512 f.written = digest && headerOk && f.written.length = f.length then .applied (s.commitImage true generation version)
          else .refused .signature 0 (s.commitImage false generation version))

/-- `FW_SESSION_TIMEOUT`: 60 s without a segment. -/
def execFwSessionTimeout (s : State) : Out :=
  .next (match s.seng.fw with
  | none => s
  | some f => if s.serves && decide (f.at_ + sec 60 ≤ s.now) then s.modSeng fun g => { g with fw := none, fwStatus := 0 } else s)

end Sys2Proof.Machine
end

