-- ==== Sys2Proof/Machine/Dispatch.lean ====
section
/-!
DEFINITION. The dispatch of the commands: one arm per constructor, each one call of the command's meaning.
-/

namespace Sys2Proof.Machine

def exec (i : Instr) (s : State) : Host.Outcome State Fault Refusal :=
  match i with
  | .powerOnStart f => Sys2Proof.Machine.execPowerOnStart f s
  | .gateRailsUp => Sys2Proof.Machine.execGateRailsUp s
  | .startupComplete => Sys2Proof.Machine.execStartupComplete s
  | .imageConfirm => Sys2Proof.Machine.execImageConfirm s
  | .systemReset c f => Sys2Proof.Machine.execSystemReset c f s
  | .processorRestart c => Sys2Proof.Machine.execProcessorRestart c s
  | .watchdogWarning => Sys2Proof.Machine.execWatchdogWarning s
  | .watchdogExpiry => Sys2Proof.Machine.execWatchdogExpiry s
  | .resetRequestRestart h => Sys2Proof.Machine.execResetRequestRestart h s
  | .resetRequestSystem h => Sys2Proof.Machine.execResetRequestSystem h s
  | .powerFailWarning => Sys2Proof.Machine.execPowerFailWarning s
  | .powerFailWithdrawn => Sys2Proof.Machine.execPowerFailWithdrawn s
  | .belaySupplyWarning => Sys2Proof.Machine.execBelaySupplyWarning s
  | .inputOvervoltage => Sys2Proof.Machine.execInputOvervoltage s
  | .holdupRecharged e above20 => Sys2Proof.Machine.execHoldupRecharged e above20 s
  | .holdupMeasurement e above20 => Sys2Proof.Machine.execHoldupMeasurement e above20 s
  | .vqLoss => Sys2Proof.Machine.execVqLoss s
  | .vqRestored => Sys2Proof.Machine.execVqRestored s
  | .vqOvercurrent => Sys2Proof.Machine.execVqOvercurrent s
  | .provStrapChange => Sys2Proof.Machine.execProvStrapChange s
  | .thermalShutdown sensors => Sys2Proof.Machine.execThermalShutdown sensors s
  | .thermalHold => Sys2Proof.Machine.execThermalHold s
  | .thermalRestart f => Sys2Proof.Machine.execThermalRestart f s
  | .traverseTriggerIssue links busy bad => Sys2Proof.Machine.execTraverseTriggerIssue links busy bad s
  | .replyReceived a0 e kind p data => Sys2Proof.Machine.execReplyReceived a0 e kind p data s
  | .replyTimeout a0 e kind p noLock => Sys2Proof.Machine.execReplyTimeout a0 e kind p noLock s
  | .distributorDeliver stall => Sys2Proof.Machine.execDistributorDeliver stall s
  | .belayReplyEval => Sys2Proof.Machine.execBelayReplyEval s
  | .envelopeTrip a0 => Sys2Proof.Machine.execEnvelopeTrip a0 s
  | .unseenLimitReached a0 => Sys2Proof.Machine.execUnseenLimitReached a0 s
  | .missingTraverseDetect => Sys2Proof.Machine.execMissingTraverseDetect s
  | .missingTraverseInterval => Sys2Proof.Machine.execMissingTraverseInterval s
  | .traverseComplete => Sys2Proof.Machine.execTraverseComplete s
  | .linkSenseLost b => Sys2Proof.Machine.execLinkSenseLost b s
  | .ropeModeChange a0 => Sys2Proof.Machine.execRopeModeChange a0 s
  | .portToSpare port => Sys2Proof.Machine.execPortToSpare port s
  | .slowRoundComplete => Sys2Proof.Machine.execSlowRoundComplete s
  | .rollCallRequest src a1 v => Sys2Proof.Machine.execRollCallRequest src a1 v s
  | .rollCallComplete a0 a b => Sys2Proof.Machine.execRollCallComplete a0 a b s
  | .partialRollCallComplete a0 nodes => Sys2Proof.Machine.execPartialRollCallComplete a0 nodes s
  | .ropeModeReq src a1 v => Sys2Proof.Machine.execRopeModeReq src a1 v s
  | .statsClear src a1 v => Sys2Proof.Machine.execStatsClear src a1 v s
  | .rollCallA f => Sys2Proof.Machine.execRollCallA f s
  | .rollCallB f => Sys2Proof.Machine.execRollCallB f s
  | .hopEcho f => Sys2Proof.Machine.execHopEcho f s
  | .setServe f => Sys2Proof.Machine.execSetServe f s
  | .continuity f => Sys2Proof.Machine.execContinuity f s
  | .trigger f => Sys2Proof.Machine.execTrigger f s
  | .latchStrobe a0 place history temps hk hot => Sys2Proof.Machine.execLatchStrobe a0 place history temps hk hot s
  | .recessStart a0 place => Sys2Proof.Machine.execRecessStart a0 place s
  | .readHeld f => Sys2Proof.Machine.execReadHeld f s
  | .readTemp f => Sys2Proof.Machine.execReadTemp f s
  | .readHk f => Sys2Proof.Machine.execReadHk f s
  | .openWire f open_ => Sys2Proof.Machine.execOpenWire f open_ s
  | .setBalance f => Sys2Proof.Machine.execSetBalance f s
  | .setFilter f => Sys2Proof.Machine.execSetFilter f s
  | .setConfig f => Sys2Proof.Machine.execSetConfig f s
  | .baseCamp f => Sys2Proof.Machine.execBaseCamp f s
  | .nop f => Sys2Proof.Machine.execNop f s
  | .commLossTimeout a0 place => Sys2Proof.Machine.execCommLossTimeout a0 place s
  | .baseCampWakeMeasure a0 place cells temps => Sys2Proof.Machine.execBaseCampWakeMeasure a0 place cells temps s
  | .wakeToneSend a0 place => Sys2Proof.Machine.execWakeToneSend a0 place s
  | .wakeToneRepeat a0 place e => Sys2Proof.Machine.execWakeToneRepeat a0 place e s
  | .travPeriodWrite r => Sys2Proof.Machine.execTravPeriodWrite r s
  | .recessWrite src v => Sys2Proof.Machine.execRecessWrite src v s
  | .slowPeriodWrite r => Sys2Proof.Machine.execSlowPeriodWrite r s
  | .balModeWrite src v => Sys2Proof.Machine.execBalModeWrite src v s
  | .balMaskReqWrite src a1 data => Sys2Proof.Machine.execBalMaskReqWrite src a1 data s
  | .balDirectHoldExpiry a0 => Sys2Proof.Machine.execBalDirectHoldExpiry a0 s
  | .openWireTestDue => Sys2Proof.Machine.execOpenWireTestDue s
  | .owDeferExpiry a0 p j => Sys2Proof.Machine.execOwDeferExpiry a0 p j s
  | .baseCampEnterReq src => Sys2Proof.Machine.execBaseCampEnterReq src s
  | .baseCampLeaveReq src core gates => Sys2Proof.Machine.execBaseCampLeaveReq src core gates s
  | .wakeToneDetected a0 e core gates => Sys2Proof.Machine.execWakeToneDetected a0 e core gates s
  | .wakeInRise core gates => Sys2Proof.Machine.execWakeInRise core gates s
  | .baseCampExitComplete => Sys2Proof.Machine.execBaseCampExitComplete s
  | .wakeOutAck src v => Sys2Proof.Machine.execWakeOutAck src v s
  | .correlationUpdate => Sys2Proof.Machine.execCorrelationUpdate s
  | .batchHandover => Sys2Proof.Machine.execBatchHandover s
  | .resultTaken => Sys2Proof.Machine.execResultTaken s
  | .corrEnableWrite src v => Sys2Proof.Machine.execCorrEnableWrite src v s
  | .sdWindowEnd => Sys2Proof.Machine.execSdWindowEnd s
  | .estimatorStep erases => Sys2Proof.Machine.execEstimatorStep erases s
  | .learnWriteReq src v => Sys2Proof.Machine.execLearnWriteReq src v s
  | .learnWritebackPeriodic => Sys2Proof.Machine.execLearnWritebackPeriodic s
  | .learnedCopyWritten => Sys2Proof.Machine.execLearnedCopyWritten s
  | .close h a1 v => Sys2Proof.Machine.execClose h a1 v s
  | .precharge h b v => Sys2Proof.Machine.execPrecharge h b v s
  | .unlock h a1 v => Sys2Proof.Machine.execUnlock h a1 v s
  | .hallPassTaken => Sys2Proof.Machine.execHallPassTaken s
  | .hallPassExpiry t => Sys2Proof.Machine.execHallPassExpiry t s
  | .closeGrant a0 => Sys2Proof.Machine.execCloseGrant a0 s
  | .stringClosed a0 => Sys2Proof.Machine.execStringClosed a0 s
  | .holdoffClear b => Sys2Proof.Machine.execHoldoffClear b s
  | .prechargeStart b => Sys2Proof.Machine.execPrechargeStart b s
  | .prechargeTargetReached b link => Sys2Proof.Machine.execPrechargeTargetReached b link s
  | .prechargeTimeout b => Sys2Proof.Machine.execPrechargeTimeout b s
  | .openString src a1 v => Sys2Proof.Machine.execOpenString src a1 v s
  | .bankOpen src b v => Sys2Proof.Machine.execBankOpen src b v s
  | .tripClear src a1 v => Sys2Proof.Machine.execTripClear src a1 v s
  | .excludeSet src a1 => Sys2Proof.Machine.execExcludeSet src a1 s
  | .excludeClear src a1 => Sys2Proof.Machine.execExcludeClear src a1 s
  | .faultClear src b v => Sys2Proof.Machine.execFaultClear src b v s
  | .dischargeTimeout b => Sys2Proof.Machine.execDischargeTimeout b s
  | .gateClear src b v => Sys2Proof.Machine.execGateClear src b v s
  | .gateSelftest src c v => Sys2Proof.Machine.execGateSelftest src c v s
  | .gateSelftestComplete c e => Sys2Proof.Machine.execGateSelftestComplete c e s
  | .gateRisingEdge c => Sys2Proof.Machine.execGateRisingEdge c s
  | .gateFallingEdge c => Sys2Proof.Machine.execGateFallingEdge c s
  | .didtDetect c level => Sys2Proof.Machine.execDidtDetect c level s
  | .blankingEnd c above => Sys2Proof.Machine.execBlankingEnd c above s
  | .uvloDetect c neg low => Sys2Proof.Machine.execUvloDetect c neg low s
  | .readbackFault c e reached => Sys2Proof.Machine.execReadbackFault c e reached s
  | .gateFaultReport c => Sys2Proof.Machine.execGateFaultReport c s
  | .softOffEnd c => Sys2Proof.Machine.execSoftOffEnd c s
  | .coincidentWindowEnd => Sys2Proof.Machine.execCoincidentWindowEnd s
  | .envelopeRecord => Sys2Proof.Machine.execEnvelopeRecord s
  | .mirrorDigestCompare => Sys2Proof.Machine.execMirrorDigestCompare s
  | .testPulseOff k => Sys2Proof.Machine.execTestPulseOff k s
  | .crossShortCheckSample k before during => Sys2Proof.Machine.execCrossShortCheckSample k before during s
  | .testPulseSupplyFault k cause => Sys2Proof.Machine.execTestPulseSupplyFault k cause s
  | .tpClear src v => Sys2Proof.Machine.execTpClear src v s
  | .inputTick openA openB => Sys2Proof.Machine.execInputTick openA openB s
  | .discrepancyFault a0 => Sys2Proof.Machine.execDiscrepancyFault a0 s
  | .qRequest src v => Sys2Proof.Machine.execQRequest src v s
  | .qEnergise h v => Sys2Proof.Machine.execQEnergise h v s
  | .qDrop src v => Sys2Proof.Machine.execQDrop src v s
  | .qClear src v => Sys2Proof.Machine.execQClear src v s
  | .pullInEnd q => Sys2Proof.Machine.execPullInEnd q s
  | .outputOffPulse q fell vqLow => Sys2Proof.Machine.execOutputOffPulse q fell vqLow s
  | .outputReadbackFault q code vqLow => Sys2Proof.Machine.execOutputReadbackFault q code vqLow s
  | .openLoad q below => Sys2Proof.Machine.execOpenLoad q below s
  | .safeCopyReceived net id data => Sys2Proof.Machine.execSafeCopyReceived net id data s
  | .smWindowExpiry m => Sys2Proof.Machine.execSmWindowExpiry m s
  | .smDegradedExpiry m => Sys2Proof.Machine.execSmDegradedExpiry m s
  | .smRxTimeout m => Sys2Proof.Machine.execSmRxTimeout m s
  | .safeStreamSend => Sys2Proof.Machine.execSafeStreamSend s
  | .canFrameReceived k f before own => Sys2Proof.Machine.execCanFrameReceived k f before own s
  | .moTxReq src k v => Sys2Proof.Machine.execMoTxReq src k v s
  | .moCancel src k v => Sys2Proof.Machine.execMoCancel src k v s
  | .moDataWrite src k o data => Sys2Proof.Machine.execMoDataWrite src k o data s
  | .moCfgWrite src k o v => Sys2Proof.Machine.execMoCfgWrite src k o v s
  | .bitTimingWrite src k fast v => Sys2Proof.Machine.execBitTimingWrite src k fast v s
  | .canMode src k v busy => Sys2Proof.Machine.execCanMode src k v busy s
  | .canTransmitEnd k e => Sys2Proof.Machine.execCanTransmitEnd k e s
  | .canError k kind tx rx clash => Sys2Proof.Machine.execCanError k kind tx rx clash s
  | .protocolException k => Sys2Proof.Machine.execProtocolException k s
  | .busoffRecover src k v => Sys2Proof.Machine.execBusoffRecover src k v s
  | .busoffAutoExpiry k => Sys2Proof.Machine.execBusoffAutoExpiry k s
  | .busoffRecovered k => Sys2Proof.Machine.execBusoffRecovered k s
  | .dupClear src k v => Sys2Proof.Machine.execDupClear src k v s
  | .referenceReceived k id cycle quality utc lost => Sys2Proof.Machine.execReferenceReceived k id cycle quality utc lost s
  | .referenceSend k => Sys2Proof.Machine.execReferenceSend k s
  | .backupTakeover k => Sys2Proof.Machine.execBackupTakeover k s
  | .ttSyncLoss k => Sys2Proof.Machine.execTtSyncLoss k s
  | .ttMark k mark idle => Sys2Proof.Machine.execTtMark k mark idle s
  | .read src index sub offset raw => Sys2Proof.Machine.execRead src index sub offset raw s
  | .write src index sub total offset data raw => Sys2Proof.Machine.execWrite src index sub total offset data raw s
  | .heartbeat src state period raw => Sys2Proof.Machine.execHeartbeat src state period raw s
  | .transferTimeout src => Sys2Proof.Machine.execTransferTimeout src s
  | .partnerHeartbeatTimeout src => Sys2Proof.Machine.execPartnerHeartbeatTimeout src s
  | .partnerAgeExpiry src => Sys2Proof.Machine.execPartnerAgeExpiry src s
  | .deviceHeartbeatSend => Sys2Proof.Machine.execDeviceHeartbeatSend s
  | .sealedEnvelopeRequest r => Sys2Proof.Machine.execSealedEnvelopeRequest r s
  | .sealedSafetyIoRequest r => Sys2Proof.Machine.execSealedSafetyIoRequest r s
  | .sealedTrustRequest r => Sys2Proof.Machine.execSealedTrustRequest r s
  | .sealedItemsRequest r => Sys2Proof.Machine.execSealedItemsRequest r s
  | .provisioningRequest r => Sys2Proof.Machine.execProvisioningRequest r s
  | .counterStored => Sys2Proof.Machine.execCounterStored s
  | .trustErase src v => Sys2Proof.Machine.execTrustErase src v s
  | .trustErasure => Sys2Proof.Machine.execTrustErasure s
  | .fwOpen h v => Sys2Proof.Machine.execFwOpen h v s
  | .fwImage src total offset data => Sys2Proof.Machine.execFwImage src total offset data s
  | .fwCommit h digest headerOk generation version => Sys2Proof.Machine.execFwCommit h digest headerOk generation version s
  | .fwSessionTimeout => Sys2Proof.Machine.execFwSessionTimeout s
  | .cfgStore src v => Sys2Proof.Machine.execCfgStore src v s
  | .eventOccurrence code source item data => Sys2Proof.Machine.execEventOccurrence code source item data s
  | .recorderFlush => Sys2Proof.Machine.execRecorderFlush s
  | .suppressionSummary code => Sys2Proof.Machine.execSuppressionSummary code s
  | .recWindow src => Sys2Proof.Machine.execRecWindow src s
  | .recClear h v => Sys2Proof.Machine.execRecClear h v s
  | .rateLimitWrite src code v => Sys2Proof.Machine.execRateLimitWrite src code v s
  | .histRead src => Sys2Proof.Machine.execHistRead src s
  | .windowCounterLasting cls item => Sys2Proof.Machine.execWindowCounterLasting cls item s
  | .lockstepCommit => Sys2Proof.Machine.execLockstepCommit s
  | .lockstepMismatch parity => Sys2Proof.Machine.execLockstepMismatch parity s
  | .pairForming passA passB => Sys2Proof.Machine.execPairForming passA passB s
  | .swapResume => Sys2Proof.Machine.execSwapResume s
  | .spareCoreSelfTest pass => Sys2Proof.Machine.execSpareCoreSelfTest pass s
  | .sramScrub rows => Sys2Proof.Machine.execSramScrub rows s
  | .sramEccError row corrected owner => Sys2Proof.Machine.execSramEccError row corrected owner s
  | .flashError block kind => Sys2Proof.Machine.execFlashError block kind s
  | .oscWindow w => Sys2Proof.Machine.execOscWindow w s
  | .phyRestore src v => Sys2Proof.Machine.execPhyRestore src v s
  | .healthClear h v => Sys2Proof.Machine.execHealthClear h v s
  | .deviceTempRound t => Sys2Proof.Machine.execDeviceTempRound t s
  | .throttleExitDwell => Sys2Proof.Machine.execThrottleExitDwell s
  | .throttleSelect src v => Sys2Proof.Machine.execThrottleSelect src v s
  | .ethApply src v => Sys2Proof.Machine.execEthApply src v s
  | .addressConflict k => Sys2Proof.Machine.execAddressConflict k s
  | .ethLinkChange k up fast => Sys2Proof.Machine.execEthLinkChange k up fast s
  | .streamSetSend resolved count => Sys2Proof.Machine.execStreamSetSend resolved count s
  | .streamSuspension => Sys2Proof.Machine.execStreamSuspension s
  | .timeSourceSelection => Sys2Proof.Machine.execTimeSourceSelection s
  | .timeSet h v => Sys2Proof.Machine.execTimeSet h v s
  | .rtcAlarm => Sys2Proof.Machine.execRtcAlarm s
  | .ptpMessageReceived k domain m => Sys2Proof.Machine.execPtpMessageReceived k domain m s
  | .announceReceiptTimeout => Sys2Proof.Machine.execAnnounceReceiptTimeout s
  | .requestStandby src => Sys2Proof.Machine.execRequestStandby src s
  | .requestArmed src => Sys2Proof.Machine.execRequestArmed src s
  | .requestService src => Sys2Proof.Machine.execRequestService src s
  | .registerWrite src index sub data => Sys2Proof.Machine.execRegisterWrite src index sub data s
  | .nodeRestart a0 place selfFail => Sys2Proof.Machine.execNodeRestart a0 place selfFail s
  | .canStartOfFrame k => Sys2Proof.Machine.execCanStartOfFrame k s
  | .canIntegrationComplete k => Sys2Proof.Machine.execCanIntegrationComplete k s
  | .ethFrameReceived k f len => Sys2Proof.Machine.execEthFrameReceived k f len s
  | .ptpMessageInterval k => Sys2Proof.Machine.execPtpMessageInterval k s
  | .leapSecond => Sys2Proof.Machine.execLeapSecond s
  | .belSensorFail k => Sys2Proof.Machine.execBelSensorFail k s
  | .wakeInFall => Sys2Proof.Machine.execWakeInFall s

end Sys2Proof.Machine
end

