-- ==== Sys2Proof/Machine/Step.lean ====
section
/-!
DEFINITION. One step of the block: the command at the front of the queue, or on an empty queue one SYS tick of time.
-/

namespace Sys2Proof.Machine

/-- What the block does on an empty queue (log 1, log 21): requests held during a core swap come up for service once it has
ended, and so do plain writes that waited for a sealed request (14 R390); else one SYS tick of 10 ns passes (00 R7, 01 R15). -/
def State.idle (s : State) : State :=
  match s.cores.swapping, s.heldReq with
  | false, c :: rest => { s with pending := c :: rest, heldReq := [] }
  | _, _ =>
    match (if s.fwActs then s.releaseWrite else none) with
    | some t => t
    | none => { s with now := s.now + 10 }

/-- One step: exec on the front command with the queue's rest, or the idle block. -/
def step (s : State) : Host.Outcome State Fault Refusal :=
  match s.pending with
  | c :: rest => exec c { s with pending := rest }
  | [] => .next s.idle

/-- The state with the command a word spells at the front of its queue; unchanged where the word spells none. -/
def State.withFetchWord (s : State) (nbits w : Nat) : State :=
  match Sys2Proof.decodeTableWord nbits w with
  | some c => { s with pending := c :: s.pending }
  | none => s

end Sys2Proof.Machine
end

