-- ==== Sys2Proof/WellFormed.lean ====
section
/-!
DEFINITION. Well-formed commands: every operand within the field that carries it. Interface and width checks only; whether a value is
accepted is the command's own meaning.
-/

namespace Sys2Proof

/-- `n` fits a field of `w` bits. -/
def within (w n : Nat) : Bool := decide (n < 2 ^ w)

/-- A partner's address: nothing on the service port, a node 1 to 127 on CAN, an IPv4 address over UDP (14 Tables 14-1 and 14-8). -/
def srcOk (a : Src) : Bool :=
  if a.iface = 5 then a.addr = 0
  else if a.iface = 2 ∨ a.iface = 3 then within 32 a.addr
  else decide (1 ≤ a.addr ∧ a.addr ≤ 127)

/-- The head of a sealed request (14 Table 14-7). -/
def headOk (h : SealHead) : Bool :=
  srcOk h.src && within 8 h.magic && within 8 h.format && within 8 h.slot && within 64 h.counter && within 64 h.serial &&
    decide (h.sig.length = 64)

/-- A sealed request: what its bytes can spell (14 R392). -/
def requestOk (r : SealedReq) : Bool :=
  headOk r.head && within 8 r.count && r.items.all fun i => within 16 i.index && within 16 i.sub && within 16 i.data.length

/-- A comparator self-test's finding names an S or C channel and cause 0x09 to 0x0B (03 R79). -/
def gateFindingOk (p : Nat × Nat) : Bool := decide (p.1 < 48) && decide (9 ≤ p.2 ∧ p.2 ≤ 11)

/-- What a start meets: three cores, 2,048 SRAM rows, six sensors (18 R474, 16 R428). -/
def findingsOk (f : StartFindings) : Bool :=
  within 3 f.cores && f.rows.all (fun n => decide (n < 2048)) && within 6 f.hot

/-- The command codes of 04 Table 4-6. -/
def linkCodes : List Nat := [0x01, 0x02, 0x03, 0x04, 0x05, 0x10, 0x11, 0x20, 0x21, 0x22, 0x30, 0x31, 0x32, 0x40, 0x7F]

/-- A rope frame as a node receives it (04 Table 4-2): at most 37 bytes, with the command's own code or one that Table 4-6 does not have. -/
def frameOk (code : Nat) (f : NodeRx) : Bool := decide (f.bytes.length ≤ 37) && (decide (f.code = code) || !linkCodes.contains f.code)

/-- A held sample (05 R143): 16 cells of 16 bits. -/
def sampleOk (x : HeldSample) : Bool := decide (x.cells.length ≤ 16) && x.cells.all (within 16) && within 32 x.vString

/-- A received CAN frame (13 R351): 11 or 29 identifier bits, a DLC of 4 bits, at most 64 bytes. -/
def canOk (f : CanFrame) : Bool := within (if f.ext then 29 else 11) f.id && within 4 f.dlc && decide (f.data.length ≤ 64)

/-- A port engine's transaction (04 Table 4-6). -/
def kindOk : ReadKind → Bool
  | .setBalance mask | .openWire mask => within 16 mask
  | .setFilter code => within 8 code
  | .traverse | .far | .retry | .temp | .hk | .continuity | .echo | .setConfig => true

/-- A roll call's node (04 R117). -/
def nodeOk (n : RollNode) : Bool := within 8 n.part && within 32 n.serial && within 6 n.src && within 6 n.acc && decide (n.echoes.length = 16)

/-- A PTP message: sequence numbers of 16 bits (19 R495). -/
def ptpOk : PtpMsg → Bool
  | .announce gm _ _ leap => within 64 gm && decide (leap ≤ 2)
  | .sync seq | .followUp seq _ | .delayReq seq | .delayResp seq _ | .pdelayReq seq | .pdelayResp seq _ | .pdelayRespFollowUp seq _ => within 16 seq
  | .management => true

/-- Every operand of a command fits its field. -/
def Instr.wf : Instr → Bool
  | .powerOnStart f => findingsOk f
  | .gateRailsUp => true
  | .startupComplete => true
  | .imageConfirm => true
  | .systemReset _ f => findingsOk f
  | .processorRestart _ => true
  | .watchdogWarning => true
  | .watchdogExpiry => true
  | .resetRequestRestart h => headOk h
  | .resetRequestSystem h => headOk h
  | .powerFailWarning => true
  | .powerFailWithdrawn => true
  | .belaySupplyWarning => true
  | .inputOvervoltage => true
  | .holdupRecharged e _ => within 32 e
  | .holdupMeasurement e _ => within 32 e
  | .vqLoss => true
  | .vqRestored => true
  | .vqOvercurrent => true
  | .provStrapChange => true
  | .thermalShutdown sensors => within 6 sensors
  | .thermalHold => true
  | .thermalRestart f => findingsOk f
  | .traverseTriggerIssue links busy bad => (links.toList.all fun x => within 32 (x.getD 0)) && (busy.all fun p => decide (1 ≤ p ∧ p ≤ 80)) &&
    (bad.all fun p => within 64 p.1 && decide (1 ≤ p.2 ∧ p.2 ≤ 3))
  | .replyReceived _ _ kind _ data => kindOk kind && (decide (data.length ≤ 255))
  | .replyTimeout _ _ kind _ _ => kindOk kind
  | .distributorDeliver _ => true
  | .belayReplyEval => true
  | .envelopeTrip _ => true
  | .unseenLimitReached _ => true
  | .missingTraverseDetect => true
  | .missingTraverseInterval => true
  | .traverseComplete => true
  | .linkSenseLost _ => true
  | .ropeModeChange _ => true
  | .portToSpare _ => true
  | .slowRoundComplete => true
  | .rollCallRequest src _ v => srcOk src && within 8 v
  | .rollCallComplete _ a b => (a.all nodeOk) && (b.all nodeOk)
  | .partialRollCallComplete _ nodes => (nodes.all nodeOk)
  | .ropeModeReq src _ v => srcOk src && within 8 v
  | .statsClear src _ v => srcOk src && within 8 v
  | .rollCallA f => frameOk 0x01 f
  | .rollCallB f => frameOk 0x02 f
  | .hopEcho f => frameOk 0x03 f
  | .setServe f => frameOk 0x04 f
  | .continuity f => frameOk 0x05 f
  | .trigger f => frameOk 0x10 f
  | .latchStrobe _ _ history temps hk _ => decide (history.length = 64) && history.all sampleOk && (decide (temps.length ≤ 32)) && (decide (hk.length ≤ 16))
  | .recessStart _ _ => true
  | .readHeld f => frameOk 0x11 f
  | .readTemp f => frameOk 0x20 f
  | .readHk f => frameOk 0x21 f
  | .openWire f _ => frameOk 0x22 f
  | .setBalance f => frameOk 0x30 f
  | .setFilter f => frameOk 0x31 f
  | .setConfig f => frameOk 0x32 f
  | .baseCamp f => frameOk 0x40 f
  | .nop f => frameOk 0x7F f
  | .commLossTimeout _ _ => true
  | .baseCampWakeMeasure _ _ cells temps => (cells.all (within 16)) && (decide (temps.length ≤ 32))
  | .wakeToneSend _ _ => true
  | .wakeToneRepeat _ _ _ => true
  | .travPeriodWrite r => requestOk r
  | .recessWrite src v => srcOk src && within 8 v
  | .slowPeriodWrite r => requestOk r
  | .balModeWrite src v => srcOk src && within 8 v
  | .balMaskReqWrite src _ data => srcOk src && (decide (data.length < 65536))
  | .balDirectHoldExpiry _ => true
  | .openWireTestDue => true
  | .owDeferExpiry _ _ _ => true
  | .baseCampEnterReq src => srcOk src
  | .baseCampLeaveReq src _ gates => srcOk src && (gates.all gateFindingOk)
  | .wakeToneDetected _ _ _ gates => (gates.all gateFindingOk)
  | .wakeInRise _ gates => (gates.all gateFindingOk)
  | .baseCampExitComplete => true
  | .wakeOutAck src v => srcOk src && within 8 v
  | .correlationUpdate => true
  | .batchHandover => true
  | .resultTaken => true
  | .corrEnableWrite src v => srcOk src && within 8 v
  | .sdWindowEnd => true
  | .estimatorStep erases => (erases.toList.all (within 32))
  | .learnWriteReq src v => srcOk src && within 8 v
  | .learnWritebackPeriodic => true
  | .learnedCopyWritten => true
  | .close h _ v => headOk h && within 8 v
  | .precharge h _ v => headOk h && within 8 v
  | .unlock h _ v => headOk h && within 8 v
  | .hallPassTaken => true
  | .hallPassExpiry _ => true
  | .closeGrant _ => true
  | .stringClosed _ => true
  | .holdoffClear _ => true
  | .prechargeStart _ => true
  | .prechargeTargetReached _ link => within 32 link
  | .prechargeTimeout _ => true
  | .openString src _ v => srcOk src && within 8 v
  | .bankOpen src _ v => srcOk src && within 8 v
  | .tripClear src _ v => srcOk src && within 8 v
  | .excludeSet src _ => srcOk src
  | .excludeClear src _ => srcOk src
  | .faultClear src _ v => srcOk src && within 8 v
  | .dischargeTimeout _ => true
  | .gateClear src _ v => srcOk src && within 8 v
  | .gateSelftest src _ v => srcOk src && within 8 v
  | .gateSelftestComplete _ _ => true
  | .gateRisingEdge _ => true
  | .gateFallingEdge _ => true
  | .didtDetect _ _ => true
  | .blankingEnd _ _ => true
  | .uvloDetect _ _ _ => true
  | .readbackFault _ _ _ => true
  | .gateFaultReport _ => true
  | .softOffEnd _ => true
  | .coincidentWindowEnd => true
  | .envelopeRecord => true
  | .mirrorDigestCompare => true
  | .testPulseOff _ => true
  | .crossShortCheckSample _ before during => within 48 before && within 48 during
  | .testPulseSupplyFault _ _ => true
  | .tpClear src v => srcOk src && within 8 v
  | .inputTick openA openB => within 24 openA && within 24 openB
  | .discrepancyFault _ => true
  | .qRequest src v => srcOk src && within 16 v
  | .qEnergise h v => headOk h && within 8 v
  | .qDrop src v => srcOk src && within 16 v
  | .qClear src v => srcOk src && within 16 v
  | .pullInEnd _ => true
  | .outputOffPulse _ _ _ => true
  | .outputReadbackFault _ _ _ => true
  | .openLoad _ _ => true
  | .safeCopyReceived _ id data => within 30 id && (decide (data.length ≤ 64))
  | .smWindowExpiry _ => true
  | .smDegradedExpiry _ => true
  | .smRxTimeout _ => true
  | .safeStreamSend => true
  | .canFrameReceived _ f before _ => canOk f && within 64 before
  | .moTxReq src _ v => srcOk src && within 8 v
  | .moCancel src _ v => srcOk src && within 8 v
  | .moDataWrite src _ _ data => srcOk src && (decide (data.length < 65536))
  | .moCfgWrite src _ _ v => srcOk src && within 64 v
  | .bitTimingWrite src _ _ v => srcOk src && within 32 v
  | .canMode src _ v _ => srcOk src && within 8 v
  | .canTransmitEnd _ _ => true
  | .canError _ _ tx rx clash => within 8 tx && within 8 rx && (within 30 ((clash.getD (0, false)).1))
  | .protocolException _ => true
  | .busoffRecover src _ v => srcOk src && within 8 v
  | .busoffAutoExpiry _ => true
  | .busoffRecovered _ => true
  | .dupClear src _ v => srcOk src && within 8 v
  | .referenceReceived _ id cycle quality utc _ => within 30 id && within 6 cycle && within 8 quality && within 64 utc
  | .referenceSend _ => true
  | .backupTakeover _ => true
  | .ttSyncLoss _ => true
  | .ttMark _ mark _ => within 14 mark
  | .read src index sub offset _ => srcOk src && within 16 index && within 16 sub && within 32 offset
  | .write src index sub total offset data _ => srcOk src && within 16 index && within 16 sub && within 32 total && within 32 offset && (decide (data.length < 65536))
  | .heartbeat src state period _ => srcOk src && within 8 state && within 16 period
  | .transferTimeout src => srcOk src
  | .partnerHeartbeatTimeout src => srcOk src
  | .partnerAgeExpiry src => srcOk src
  | .deviceHeartbeatSend => true
  | .sealedEnvelopeRequest r => requestOk r
  | .sealedSafetyIoRequest r => requestOk r
  | .sealedTrustRequest r => requestOk r
  | .sealedItemsRequest r => requestOk r
  | .provisioningRequest r => requestOk r
  | .counterStored => true
  | .trustErase src v => srcOk src && within 64 v
  | .trustErasure => true
  | .fwOpen h v => headOk h && within 32 v
  | .fwImage src total offset data => srcOk src && within 32 total && within 32 offset && (decide (data.length < 65536))
  | .fwCommit h digest _ generation version => headOk h && (decide (digest.length < 65536)) && within 32 generation && within 32 version
  | .fwSessionTimeout => true
  | .cfgStore src v => srcOk src && within 8 v
  | .eventOccurrence code source item data => within 16 code && within 16 source && within 16 item && (decide (data.length ≤ 40))
  | .recorderFlush => true
  | .suppressionSummary code => within 16 code
  | .recWindow src => srcOk src
  | .recClear h v => headOk h && within 8 v
  | .rateLimitWrite src code v => srcOk src && within 16 code && within 32 v
  | .histRead src => srcOk src
  | .windowCounterLasting _ item => within 32 item
  | .lockstepCommit => true
  | .lockstepMismatch parity => within 3 parity
  | .pairForming _ _ => true
  | .swapResume => true
  | .spareCoreSelfTest _ => true
  | .sramScrub rows => (rows.all fun p => decide (p.1 < 2048))
  | .sramEccError row _ _ => within 11 row
  | .flashError block _ => within 32 block
  | .oscWindow _ => true
  | .phyRestore src v => srcOk src && within 8 v
  | .healthClear h v => headOk h && within 8 v
  | .deviceTempRound t => (t.toList.all fun v => decide (-32768 ≤ v ∧ v ≤ 32767))
  | .throttleExitDwell => true
  | .throttleSelect src v => srcOk src && within 8 v
  | .ethApply src v => srcOk src && within 8 v
  | .addressConflict _ => true
  | .ethLinkChange _ _ _ => true
  | .streamSetSend _ count => within 32 count
  | .streamSuspension => true
  | .timeSourceSelection => true
  | .timeSet h v => headOk h && within 64 v
  | .rtcAlarm => true
  | .ptpMessageReceived _ domain m => within 8 domain && ptpOk m
  | .announceReceiptTimeout => true
  | .requestStandby src => srcOk src
  | .requestArmed src => srcOk src
  | .requestService src => srcOk src
  | .registerWrite src index sub data => srcOk src && within 16 index && within 16 sub && (decide (data.length < 65536))
  | .nodeRestart _ _ _ => true
  | .canStartOfFrame _ => true
  | .canIntegrationComplete _ => true
  | .ethFrameReceived _ _ len => within 16 len
  | .ptpMessageInterval _ => true
  | .leapSecond => true
  | .belSensorFail _ => true
  | .wakeInFall => true

end Sys2Proof
end

