-- ==== Sys2Proof/Safety.lean ====
section
/-!
DEFINITION. The terms claims are stated in: the parts of the state and what it is to leave one unchanged.
-/

namespace Sys2Proof.Machine

/-- The parts of the state that commands change: its fields, with the committed records of the belay store (11 R306) and the values of the
dictionary (14 R388) as parts of their own beside what else `belay` and `dict` hold. -/
inductive Part where
  | free | ident | utcBase | utcAt | irq | evlog | fc | supply | start | mode | cores | health | strs | banks | gates | gateBlock | bstr | belay
  | records | io | dict | values | seng | therm | cans | ropes | nodes | trav | bal | eths | stream | clock | corr | est | store | heldReq | waitingWrites
  deriving DecidableEq, Repr

/-- The part reads the same in two states. -/
def same (s t : State) : Part → Prop
  | .free => t.free = s.free
  | .ident => t.ident = s.ident
  | .utcBase => t.utcBase = s.utcBase
  | .utcAt => t.utcAt = s.utcAt
  | .irq => t.irq = s.irq
  | .evlog => t.evlog = s.evlog
  | .fc => t.fc = s.fc
  | .supply => t.supply = s.supply
  | .start => t.start = s.start
  | .mode => t.mode = s.mode
  | .cores => t.cores = s.cores
  | .health => t.health = s.health
  | .strs => t.strs = s.strs
  | .banks => t.banks = s.banks
  | .gates => t.gates = s.gates
  | .gateBlock => t.gateBlock = s.gateBlock
  | .bstr => t.bstr = s.bstr
  | .belay => { t.belay with store := [] } = { s.belay with store := [] }
  | .records => t.belay.store = s.belay.store
  | .io => t.io = s.io
  | .dict => { t.dict with vals := [] } = { s.dict with vals := [] }
  | .values => t.dict.vals = s.dict.vals
  | .seng => t.seng = s.seng
  | .therm => t.therm = s.therm
  | .cans => t.cans = s.cans
  | .ropes => t.ropes = s.ropes
  | .nodes => t.nodes = s.nodes
  | .trav => t.trav = s.trav
  | .bal => t.bal = s.bal
  | .eths => t.eths = s.eths
  | .stream => t.stream = s.stream
  | .clock => t.clock = s.clock
  | .corr => t.corr = s.corr
  | .est => t.est = s.est
  | .store => t.store = s.store
  | .heldReq => t.heldReq = s.heldReq
  | .waitingWrites => t.waitingWrites = s.waitingWrites

/-! ## What a command may change -/

/-- Every part but those named. -/
def allBut (ps : List Part) : List Part :=
  [.free, .ident, .utcBase, .utcAt, .irq, .evlog, .fc, .supply, .start, .mode, .cores, .health, .strs, .banks, .gates,
   .gateBlock, .bstr, .belay, .records, .io, .dict, .values, .seng, .therm, .cans, .ropes, .nodes, .trav, .bal, .eths,
   .stream, .clock, .corr, .est, .store, .heldReq, .waitingWrites].filter fun p => !ps.contains p

/-- The parts a command may change; the statement of it is the model's, over all states. A part not listed reads as before. -/
def mayChange : Instr → List Part
  | .watchdogWarning => [.irq]
  | .vqRestored | .wakeInFall => [.supply]
  | .imageConfirm => [.start]
  | .lockstepCommit => [.cores]
  | .gateFallingEdge .. | .didtDetect .. | .readbackFault .. | .softOffEnd .. => [.gates]
  | .testPulseOff .. => [.io]
  | .fwSessionTimeout => [.seng]
  | .canStartOfFrame .. | .referenceSend .. | .backupTakeover .. => [.dict, .cans]
  | .canIntegrationComplete .. | .busoffAutoExpiry .. => [.irq, .evlog, .cans]
  | .rollCallA .. | .rollCallB .. | .hopEcho .. | .setServe .. | .continuity .. | .trigger .. | .latchStrobe ..
    | .recessStart .. | .readHeld .. | .readTemp .. | .readHk .. | .openWire .. | .setBalance .. | .setFilter ..
    | .setConfig .. | .baseCamp .. | .nop .. | .commLossTimeout .. | .baseCampWakeMeasure .. | .wakeToneSend ..
    | .wakeToneRepeat .. | .nodeRestart .. => [.nodes]
  | .openWireTestDue => [.bal]
  | .eventOccurrence .. | .suppressionSummary .. | .recorderFlush => [.irq, .evlog]
  | .uvloDetect .. => [.irq, .gates, .gateBlock]
  | .belSensorFail .. => [.irq, .therm]
  | .rtcAlarm => [.irq, .clock]
  | .missingTraverseInterval => [.bstr, .belay]
  | .counterStored => [.irq, .dict, .seng]
  | .powerFailWithdrawn | .inputOvervoltage | .holdupRecharged .. | .holdupMeasurement .. | .vqOvercurrent => [.irq, .evlog, .supply]
  | .spareCoreSelfTest .. => [.irq, .evlog, .cores]
  | .gateSelftestComplete .. => [.irq, .evlog, .start, .gates, .ropes]
  | .blankingEnd .. => [.irq, .evlog, .gates]
  | .coincidentWindowEnd => [.irq, .evlog, .gateBlock]
  | .mirrorDigestCompare => [.irq, .evlog, .belay]
  | .crossShortCheckSample .. | .testPulseSupplyFault .. | .pullInEnd .. | .outputOffPulse ..
    | .outputReadbackFault .. | .openLoad .. => [.irq, .evlog, .io]
  | .partnerHeartbeatTimeout .. | .partnerAgeExpiry .. => [.irq, .evlog, .dict]
  | .deviceTempRound .. | .throttleExitDwell => [.irq, .evlog, .therm]
  | .protocolException .. | .busoffRecovered .. | .referenceReceived .. | .ttSyncLoss .. => [.irq, .evlog, .cans, .clock]
  | .ttMark .. => [.irq, .evlog, .dict, .cans]
  | .ropeModeChange .. => [.irq, .evlog, .ropes, .trav, .bal]
  | .partialRollCallComplete .. => [.irq, .evlog, .bstr, .belay, .ropes]
  | .owDeferExpiry .. => [.irq, .evlog, .ropes, .bal]
  | .addressConflict .. => [.irq, .evlog, .eths]
  | .streamSuspension => [.irq, .evlog, .stream]
  | .announceReceiptTimeout => [.irq, .evlog, .clock]
  | .sdWindowEnd => [.irq, .evlog, .corr]
  | .learnWritebackPeriodic => [.irq, .evlog, .store]
  | .learnedCopyWritten =>
    allBut [.free, .ident, .fc, .supply, .cores, .health, .banks, .gateBlock, .records, .dict, .values, .seng, .nodes, .stream, .corr, .est, .heldReq, .waitingWrites]
  | .resultTaken => [.irq, .corr, .est]
  | .timeSourceSelection => [.utcBase, .utcAt, .irq, .clock]
  | .vqLoss => [.irq, .evlog, .supply, .io]
  | .provStrapChange => [.irq, .evlog, .supply, .seng]
  | .prechargeTargetReached .. | .gateRisingEdge .. => [.irq, .evlog, .banks, .gates]
  | .missingTraverseDetect => [.irq, .evlog, .bstr, .belay]
  | .trustErasure => [.irq, .evlog, .dict, .seng]
  | .distributorDeliver .. | .canFrameReceived .. => allBut [.ident, .gateBlock, .records, .nodes]
  | .correlationUpdate | .batchHandover => [.irq, .evlog, .corr, .est]
  | .closeGrant .. | .holdoffClear .. => [.irq, .evlog, .strs, .banks, .gates]
  | .transferTimeout .. | .deviceHeartbeatSend | .ethFrameReceived .. => [.irq, .dict, .cans, .eths]
  | .safeStreamSend => [.io, .dict, .values, .cans]
  | .leapSecond => [.utcBase, .utcAt, .irq, .evlog, .clock]
  | .prechargeStart .. => [.irq, .evlog, .mode, .banks, .io]
  | .balDirectHoldExpiry .. => [.irq, .evlog, .dict, .values, .ropes, .bal]
  | .ptpMessageInterval .. => [.irq, .dict, .cans, .eths, .clock]
  | .thermalHold => [.start, .cores, .cans, .trav, .eths, .store]
  | .portToSpare .. => [.irq, .evlog, .fc, .health, .dict, .ropes]
  | .powerFailWarning => [.irq, .evlog, .supply, .start, .mode, .strs, .banks, .gates, .io, .dict, .seng, .store]
  | .stringClosed .. => [.irq, .evlog, .mode, .strs, .banks, .io]
  | .baseCampExitComplete => [.irq, .evlog, .mode, .cans, .bal, .clock]
  | .estimatorStep .. => [.irq, .evlog, .health, .corr, .est, .store]
  | .canTransmitEnd .. => [.irq, .evlog, .dict, .values, .cans, .clock]
  | .ethLinkChange .. | .streamSetSend .. => [.irq, .evlog, .dict, .cans, .eths, .stream]
  | .ptpMessageReceived .. => [.irq, .evlog, .dict, .cans, .eths, .clock]
  | .heartbeat .. => [.irq, .evlog, .dict, .cans, .eths, .heldReq]
  | .read .. | .recWindow .. | .histRead .. => [.free, .irq, .evlog, .dict, .cans, .eths, .heldReq]
  | .linkSenseLost .. | .prechargeTimeout .. | .dischargeTimeout .. => [.irq, .evlog, .mode, .strs, .banks, .gates, .io]
  | .belayReplyEval => [.irq, .evlog, .fc, .mode, .health, .strs, .banks, .gates, .bstr, .belay, .io, .dict, .trav]
  | .sealedTrustRequest .. | .provisioningRequest .. | .fwOpen .. | .recClear .. => [.irq, .evlog, .dict, .seng, .cans, .eths, .heldReq]
  | .belaySupplyWarning => [.irq, .evlog, .supply, .start, .mode, .cores, .strs, .banks, .gates, .belay, .io, .store]
  | .close .. | .precharge .. | .unlock .. | .qEnergise .. => [.irq, .evlog, .belay, .dict, .seng, .cans, .eths, .heldReq]
  | .moTxReq .. | .moCancel .. | .busoffRecover .. | .dupClear .. | .ethApply .. =>
    [.irq, .evlog, .dict, .seng, .cans, .eths, .heldReq, .waitingWrites]
  | .slowRoundComplete => [.irq, .start, .bstr, .belay, .ropes, .trav, .bal, .est]
  | .fwCommit .. => [.ident, .irq, .evlog, .start, .dict, .seng, .cans, .eths, .heldReq]
  | .healthClear .. => [.irq, .evlog, .fc, .health, .dict, .seng, .cans, .eths, .heldReq]
  | .startupComplete => [.irq, .evlog, .start, .mode, .health, .strs, .dict, .bal, .store]
  | .resetRequestRestart .. | .resetRequestSystem .. => [.irq, .evlog, .start, .dict, .seng, .cans, .eths, .store, .heldReq]
  | .gateSelftest .. => [.irq, .evlog, .gates, .dict, .seng, .cans, .eths, .heldReq, .waitingWrites]
  | .tpClear .. | .qDrop .. | .qClear .. => [.irq, .evlog, .io, .dict, .seng, .cans, .eths, .heldReq, .waitingWrites]
  | .recessWrite .. | .corrEnableWrite .. | .moDataWrite .. | .moCfgWrite .. | .bitTimingWrite .. | .rateLimitWrite ..
    | .throttleSelect .. => [.irq, .evlog, .dict, .values, .seng, .cans, .eths, .heldReq, .waitingWrites]
  | .rollCallRequest .. | .statsClear .. => [.irq, .evlog, .dict, .seng, .cans, .ropes, .eths, .heldReq, .waitingWrites]
  | .learnWriteReq .. => [.irq, .evlog, .dict, .seng, .cans, .eths, .est, .heldReq, .waitingWrites]
  | .timeSet .. => [.utcBase, .utcAt, .irq, .evlog, .dict, .seng, .cans, .eths, .clock, .heldReq]
  | .inputTick .. | .discrepancyFault .. | .safeCopyReceived .. | .smWindowExpiry .. | .smDegradedExpiry ..
    | .smRxTimeout .. => [.irq, .evlog, .fc, .mode, .health, .strs, .banks, .gates, .io, .dict]
  | .phyRestore .. => [.irq, .evlog, .fc, .dict, .seng, .cans, .ropes, .eths, .heldReq, .waitingWrites]
  | .tripClear .. => [.irq, .evlog, .strs, .gates, .dict, .seng, .cans, .eths, .heldReq, .waitingWrites]
  | .gateClear .. => [.irq, .evlog, .banks, .gates, .dict, .seng, .cans, .eths, .heldReq, .waitingWrites]
  | .qRequest .. => [.irq, .evlog, .io, .dict, .values, .seng, .cans, .eths, .heldReq, .waitingWrites]
  | .ropeModeReq .. => [.irq, .evlog, .dict, .values, .seng, .cans, .ropes, .eths, .heldReq, .waitingWrites]
  | .balModeWrite .. | .wakeOutAck .. => [.irq, .evlog, .dict, .values, .seng, .cans, .bal, .eths, .heldReq, .waitingWrites]
  | .balMaskReqWrite .. => [.irq, .evlog, .dict, .values, .seng, .cans, .ropes, .bal, .eths, .heldReq, .waitingWrites]
  | .canMode .. => [.irq, .evlog, .dict, .values, .seng, .cans, .eths, .clock, .heldReq, .waitingWrites]
  | .gateFaultReport .. => [.irq, .evlog, .fc, .mode, .health, .strs, .banks, .gates, .gateBlock, .io, .dict]
  | .envelopeTrip .. => [.irq, .evlog, .fc, .mode, .health, .strs, .banks, .gates, .bstr, .io, .dict]
  | .wakeToneDetected .. | .wakeInRise .. => [.irq, .evlog, .supply, .start, .cores, .gates, .bstr, .belay, .ropes, .bal, .corr]
  | .hallPassExpiry .. => [.irq, .evlog, .mode, .strs, .banks, .gates, .io, .dict, .seng, .cans, .eths]
  | .faultClear .. => [.irq, .evlog, .mode, .banks, .io, .dict, .seng, .cans, .eths, .heldReq, .waitingWrites]
  | .unseenLimitReached .. => [.irq, .evlog, .fc, .mode, .health, .strs, .banks, .gates, .bstr, .io, .dict, .ropes]
  | .swapResume => allBut [.free, .ident, .gateBlock, .records, .nodes, .heldReq, .waitingWrites]
  | .hallPassTaken => [.irq, .evlog, .mode, .health, .strs, .banks, .gates, .belay, .io, .dict, .seng, .cans, .eths]
  | .canError .. => [.irq, .evlog, .fc, .mode, .health, .strs, .banks, .gates, .io, .dict, .values, .cans, .clock]
  | .openString .. | .bankOpen .. | .requestStandby .. | .requestArmed .. | .requestService .. =>
    [.irq, .evlog, .mode, .strs, .banks, .gates, .io, .dict, .seng, .cans, .eths, .heldReq, .waitingWrites]
  | .gateRailsUp =>
    allBut [.free, .ident, .utcBase, .utcAt, .supply, .gateBlock, .bstr, .records, .nodes, .bal, .stream, .clock, .corr, .est, .heldReq, .waitingWrites]
  | .rollCallComplete .. =>
    [.irq, .evlog, .fc, .start, .mode, .health, .strs, .banks, .gates, .bstr, .belay, .io, .dict, .values, .ropes, .trav, .bal]
  | .thermalShutdown .. => [.irq, .evlog, .fc, .start, .mode, .health, .strs, .banks, .gates, .belay, .io, .dict, .seng, .therm, .store]
  | .excludeSet .. | .excludeClear .. =>
    [.irq, .evlog, .mode, .strs, .banks, .gates, .io, .dict, .values, .seng, .cans, .ropes, .eths, .heldReq, .waitingWrites]
  | .baseCampLeaveReq .. =>
    [.irq, .evlog, .supply, .start, .cores, .gates, .bstr, .belay, .dict, .seng, .cans, .ropes, .bal, .eths, .corr, .heldReq, .waitingWrites]
  | .baseCampEnterReq .. =>
    allBut [.free, .ident, .fc, .supply, .cores, .health, .banks, .gateBlock, .records, .values, .nodes, .stream, .corr, .est]
  | .envelopeRecord => allBut [.free, .ident, .gateBlock, .nodes, .heldReq, .waitingWrites]
  | .travPeriodWrite .. | .slowPeriodWrite .. | .sealedEnvelopeRequest .. | .sealedSafetyIoRequest ..
    | .sealedItemsRequest .. => allBut [.free, .ident, .gateBlock, .records, .nodes, .waitingWrites]
  | .write .. | .trustErase .. | .fwImage .. | .cfgStore .. | .registerWrite .. => allBut [.free, .ident, .gateBlock, .records, .nodes]
  | .powerOnStart .. | .systemReset .. | .processorRestart .. | .watchdogExpiry | .thermalRestart ..
    | .traverseTriggerIssue .. | .replyReceived .. | .replyTimeout .. | .traverseComplete | .windowCounterLasting ..
    | .lockstepMismatch .. | .pairForming .. | .sramScrub .. | .sramEccError .. | .flashError .. | .oscWindow .. =>
    allBut [.free, .ident, .nodes]

/-! ## Requests that reach their entry -/

/-- The state a plain write's checks run in: the request received (14 R387, R402), its place in the tick noted (14 R390). -/
def State.taken (s : State) (src : Src) (index sub : Nat) : State := (s.newRequest src).noteTickWrite src index sub

/-- A plain write that reaches its entry (14 R378, R380, R387, R390, R404): the interface is served, the write repeats none, no sealed
request names its entry, it loses no contention of its tick, and it passes the checks of Table 14-6. -/
def State.admits (s : State) (src : Src) (index sub : Nat) (data : List Byte) : Prop :=
  s.holding = false ∧ s.service src true index sub data = .serve ∧ s.repeats src index sub data.length 0 data = false ∧
  s.entryHeld index sub = false ∧ (s.newRequest src).contendedBy src index sub = false ∧
  ∃ r, (s.taken src index sub).writeCheck src index sub data = .ok r

/-- The state a sealed request is judged in (14 R387, R402): received, its submission noted. -/
def State.sealTaken (s : State) (r : SealedReq) : State := (s.newRequest r.head.src).noteSubmitted r.head.src r.bytes (0, r.bytes)

/-- The state firmware acts on a verified request in (14 R390, R394, R395): its counter consumed. -/
def State.verified (s : State) (r : SealedReq) : State :=
  ((s.sealTaken r).consumeCounter r |>.irqRaise 80).forEach r.items fun s i =>
    s.noteTickWrite r.head.src i.index i.sub

/-- A sealed request that reaches firmware (14 R378, R387, R390, R394, R404): served, no request waits at the engine, no repeat, in no
contention, with tokens and room for its records, outside `OFF` and base camp, and it passes every check of the seal engine. -/
def State.admitsSealed (s : State) (r : SealedReq) : Prop :=
  let u := s.sealTaken r
  s.holding = false ∧ s.seng.queue = [] ∧ s.service r.head.src true 0x1E00 1 [] = .serve ∧ s.repeatsSealed r = false ∧
  u.sealContended r = false ∧ r.items.length ≤ u.tokens 0x9008 ∧ u.evlog.staged.length + r.items.length ≤ stagingSize ∧
  s.mode.block ≠ .off ∧ s.mode.block ≠ .baseCamp ∧ u.sealCheck r = none ∧ s.fwUp = true

/-- A provisioning request that reaches firmware (14 R394, R399): as `admitsSealed`, judged by the checks of R399 in place of the slot's. -/
def State.admitsProvisioning (s : State) (r : SealedReq) : Prop :=
  let u := s.sealTaken r
  s.holding = false ∧ s.seng.queue = [] ∧ s.service r.head.src true 0x1E00 1 [] = .serve ∧ s.repeatsSealed r = false ∧
  u.sealContended r = false ∧ r.items.length ≤ u.tokens 0x9008 ∧ u.evlog.staged.length + r.items.length ≤ stagingSize ∧
  s.mode.block ≠ .off ∧ s.trustEmpty = true ∧ u.provCheck r = none ∧ s.fwUp = true

/-- `raw` brings the device a message `is` describes, and `v` is the state that serves it (14 R381 to R383): over CAN the frame itself is the
command; over UDP the datagram, and over the service port a sound frame, spells it, and the `TAG` is kept for its reply. -/
def State.brings (s : State) (src : Src) (raw : List Byte) (is : WireMessage → Bool) (v : State) : Prop :=
  ((canOf src.iface).isSome = true ∧ v = s) ∨
  ((canOf src.iface).isSome = false ∧ ∃ u m, s.receiveWire src raw = (u, [m]) ∧ is m = true ∧
    v = u.setTag src m.tag)

/-- The last message handed to the transmit side. -/
def State.lastSent (s : State) : Option Message := s.dict.sent.getLast?

/-! ## The invariant -/

/-- What every step keeps: time stands on the grid of SYS ticks (00 R7; log 1), and the table of nodes is in its canonical form, each
node at most once. -/
def State.Inv (s : State) : Prop := s.now % 10 = 0 ∧ Sparse.wf s.nodes = true

/-! ## Rope nodes -/

/-- R108, R110, R115: the frame is sound, its code and its payload length in units of 2 bytes are those named, and it is from the node's
serving end or has `FAR` set; an unassigned node takes it from either end. -/
def heardByNode (n : Node) (f : NodeRx) (code len : Nat) : Prop :=
  f.crcOk = true ∧ f.code = code ∧ f.len = len ∧ (f.far = true ∨ ∀ v, n.serving = some v → v.end_ = f.from_)

end Sys2Proof.Machine
end

