-- ==== Sys2Proof/Certificates/Slice0/Obligations.lean ====
section
/-!
DEFINITION. The statements for the provers. "log n" is notes/assumptions/n.md.
-/

section

open Sys2Proof Sys2Proof.Machine

/-! ## Starts, resets and the supply (02, 03) -/

/-- Each supply event completes where its condition holds, with the flags the spec gives it (02 R57, R62, R68, R70, R71, 03 R97, R98). -/
def Obligations.SupplyEvents : Prop := ∀ s : State,
  (s.supply.up = true → s.supply.pfw = false → ∃ t, exec .powerFailWarning s = .next t ∧
    t.supply = { s.supply with
      pfw := true, pfwAt := s.now, holdupActive := true, holdupReady := false, seen := s.supply.seen ||| 4, seenAt := s.supply.seenAt.set 2 s.now }) ∧
  (s.supply.pfw = true → s.start.heldForSupply = false → ∃ t, exec .powerFailWithdrawn s = .next t ∧
    t.supply = { s.supply with pfw := false, holdupActive := false }) ∧
  (s.supply.up = true → s.supply.pfw = true → s.start.heldForSupply = false → ∃ t, exec .belaySupplyWarning s = .next t ∧
    t.supply = { s.supply with belWarn := true } ∧
    t.start = { s.start with supplyLoss := true, heldForSupply := true, fw := .down, due := none, boot := none, replay := [], hurry := none }) ∧
  (s.supply.up = true → ∃ t, exec .inputOvervoltage s = .next t ∧
    t.supply = { s.supply with seen := s.supply.seen ||| 1, seenAt := s.supply.seenAt.set 0 s.now }) ∧
  (∀ e above, s.supply.up = true → s.supply.pfw = false → s.supply.holdupReady = false → ∃ t, exec (.holdupRecharged e above) s = .next t ∧
    t.supply = (if s.supply.measuredAt = none ∧ above = true then { s.supply with
        holdupReady := true, holdupE := min e 0xFFFF, holdupDegraded := decide (e < 1100), measuredAt := some s.now }
      else { s.supply with holdupReady := true })) ∧
  (∀ e above, s.supply.up = true → s.supply.pfw = false → s.supply.holdupReady = true → ∃ t, exec (.holdupMeasurement e above) s = .next t ∧
    (s.measureDue above = true → t.supply = { s.supply with
      holdupE := min e 0xFFFF, holdupDegraded := decide (e < 1100), measuredAt := some s.now }) ∧
    (s.measureDue above = false → t = s)) ∧
  (s.supply.up = true → ∃ t, exec .vqLoss s = .next t ∧
    t.supply = { s.supply with vqPresent := false, seen := s.supply.seen ||| 2, seenAt := s.supply.seenAt.set 1 s.now }) ∧
  (s.supply.up = true → ∃ t, exec .vqRestored s = .next t ∧ t = { s with supply := { s.supply with vqPresent := true } }) ∧
  (s.supply.up = true → s.supply.vqPresent = true → ∃ t, exec .vqOvercurrent s = .next t ∧
    t.supply = { s.supply with vqOver := true } ∧ t.io = s.io) ∧
  (s.supply.up = true → ∃ t, exec .provStrapChange s = .next t ∧
    t.supply = { s.supply with prov := !s.supply.prov, provSince := s.now } ∧
    t.seng = (if s.supply.prov then { s.seng with eraseArmed := none } else s.seng))

/-- A start completes and says what it found (03 R74, R81, R77, R83, R101): the supply is up, the belay logic is released; sensors at 115 degC
hold it in reset; else the start waits for the gate rails (8 ms row), and once they are up, with two passing cores, rows within the spares
and a confirmed image of the highest generation that verifies, that image runs. -/
def Obligations.PowerOnStart : Prop := ∀ (s : State) (f : StartFindings), (s.supply.up = false ∨ s.start.heldForSupply = true) →
  ∃ t, exec (.powerOnStart f) s = .next t ∧ t.supply.up = true ∧ t.supply.vqPresent = false ∧ t.supply.seen = 0 ∧
    t.start.newCause = true ∧ t.start.began = s.now ∧ t.start.heldForSupply = false ∧
    (s.hotSensors f ≠ 0 → t.start.thermalHold = true ∧ t.start.fw = .down ∧ t.mode.block = .off ∧
      t.start.cause = 0x8000 + (if s.start.supplyLoss ∧ f.rtcLost = false then 0x4000 else 0)) ∧
    (s.hotSensors f = 0 → t.start.boot = some ⟨f, true, false⟩ ∧ t.start.fw = .down ∧ t.start.gateRails = false) ∧
    (∀ k : Fin 2, s.hotSensors f = 0 → 2 ≤ ((List.range 3).filter fun c => f.cores.testBit c).length →
      s.cfgItems.rows.length + f.rows.length ≤ 64 → (∀ j : Fin 2, j < k → s.start.images[j].generation < s.start.images[k].generation) →
      (∀ j : Fin 2, s.start.images[j].generation ≤ s.start.images[k].generation) →
      s.start.images[k].verifies = true → s.start.images[k].confirmed = true →
      ∃ u, exec .gateRailsUp t = .next u ∧ u.start.fw = .running ∧ u.start.bootImage = 0x0A + k.val)

/-- The parts of a start (03 R74, R75, R78, R84): the power-on, the gate rails, the entry to `STANDBY`, the confirmation of an image. -/
def Obligations.StartEvents : Prop := ∀ s : State,
  (∀ f : StartFindings, s.supply.up = false → ∃ t, exec (.powerOnStart f) s = .next t ∧ t.supply.up = true ∧ t.supply.pfw = false ∧
    t.mode.block = .off ∧ t.start.began = s.now ∧ t.start.newCause = true ∧ t.start.gateRails = false) ∧
  (s.supply.up = true → s.start.gateRails = false → s.mode.block ≠ .baseCamp → s.start.boot = none → ∃ t, exec .gateRailsUp s = .next t ∧
    t.start = { s.start with gateRails := true } ∧ ∀ c : Fin 52, t.gates[c].railPos = true ∧ t.gates[c].railNeg = true ∧
      t.gates[c].gateOn = (isClamp c && s.gates[c].cmd) ∧ t.gates[c].cmd = s.gates[c].cmd ∧ t.gates[c].latch = s.gates[c].latch) ∧
  (s.startComplete = true → ∃ t, exec .startupComplete s = .next t ∧ t.mode.block = .standby ∧ t.mode.since = s.utc ∧
    t.start.step = 8 ∧ t.start.steadySince = some s.now ∧ t.start.startRecords = false ∧ t.start.fw = s.start.fw) ∧
  (∀ k t0, s.runningImage = some k → s.start.steadySince = some t0 → s.fwActs = true → t0 + sec 60 ≤ s.now →
    s.mode.block ≠ .off → s.mode.block ≠ .safeHold → s.therm.shutdown = false → s.start.images[k].confirmed = false →
    ∃ t, exec .imageConfirm s = .next t ∧ t.start.images[k].confirmed = true ∧
      t.start.trialCount = 0 ∧ t.start.bootImage = s.start.bootImage % 0x80 ∧ t.start.images[1 - k] = s.start.images[1 - k])

/-- Resets (03 R89 to R94): when each begins, and what it leaves. -/
def Obligations.Resets : Prop := ∀ s : State,
  (∀ f, s.start.thermalHold = true → s.start.heldForSupply = false →
    ∃ t, exec (.systemReset .thermal f) s = .next t ∧ t.start.thermalHold = false) ∧
  (∀ f t0, s.start.due = some (2, t0) → t0 ≤ s.now → s.store.writing = none → ∃ t, exec (.systemReset .sealed f) s = .next t ∧
    t.start.due = none ∧ t.start.began = s.now ∧ t.start.newCause = true ∧ t.supply.wakeOut = false ∧ t.heldReq = [] ∧ t.waitingWrites = []) ∧
  (∀ f t0, s.start.due = some (4, t0) → ∃ t, exec (.systemReset .escalated f) s = .next t ∧ t.start.due = none) ∧
  (∀ f t0, s.start.due = some (5, t0) → ∃ t, exec (.systemReset .escalated f) s = .next t ∧ t.start.due = none ∧
    (s.start.gateRails = true → s.start.thermalHold = false → s.start.heldForSupply = false →
      t.mode.block = .safeHold ∧ t.start.fw ≠ .running) ∧
    (s.start.gateRails = false → t.start.boot = some ⟨f, false, true⟩ ∧ t.start.fw = s.start.fw)) ∧
  (∀ c, (c = .sealed ∧ (∃ t0, s.start.due = some (1, t0) ∧ t0 ≤ s.now) ∧ s.start.fw = .running ∨
      c = .watchdog ∧ s.restartable = true ∧ s.cores.swapping = false ∨ c = .sram ∧ s.restartable = true) →
    ∃ t, exec (.processorRestart c) s = .next t ∧ (if (s.countFault 10 0).2 then t.start.due.isSome = true ∧ t.start.fw = .down
      else t.start.resumeAt = s.now + ms 150 ∧ t.start.cause = s.procCause c ∧ t.start.newCause = true ∧ t.start.due = none ∧
        t.heldReq = [] ∧ t.waitingWrites = [] ∧ t.dict.transfers = [] ∧ t.seng.forwarded = [] ∧ t.gates = s.gates ∧ ∀ i : Fin 40,
          t.strs[i] = { s.strs[i] with waiting := false, requested := false, pass := s.strs[i].pass.map fun h => { h with orphan := true } })) ∧
  (∀ t0, s.start.due = some (1, t0) → t0 ≤ s.now → s.start.fw ≠ .running → (s.countFault 10 0).2 = false →
    ∃ t, exec (.processorRestart .sealed) s = .next t ∧ t.start.due = none ∧ t.start.newCause = true ∧
    t.start.cause = procCauseBit .sealed + (if s.start.cause.testBit 7 then 0x80 else 0) ∧ t.start.fw = s.start.fw ∧
    t.fc.total = upd s.fc.total 10 sat32) ∧
  (s.restartable = true → s.cores.swapping = false → exec .watchdogWarning s = .next (s.irqRaise 115)) ∧
  (s.restartable = true → s.cores.swapping = false → (s.countFault 10 0).2 = false → ∃ t, exec .watchdogExpiry s = .next t ∧
    t.start.resumeAt = s.now + ms 150 ∧ t.start.cause = 0x0200 + (if s.start.cause.testBit 7 then 0x80 else 0) ∧ t.gates = s.gates ∧
    ∀ i : Fin 40, t.strs[i].state = s.strs[i].state ∧ t.strs[i].trip = s.strs[i].trip ∧ t.strs[i].lockout = s.strs[i].lockout) ∧
  (∀ h, s.admitsSealed (h.one 0x2000 0x0023 (u8 1)) → ∃ t, exec (.resetRequestRestart h) s = .next t ∧
    t.start.due = some (1, s.now + ms 10) ∧ t.lastSent = some (.writeReply h.src 0x1E00 1 91)) ∧
  (∀ h, s.admitsSealed (h.one 0x2000 0x0023 (u8 2)) → ∃ t, exec (.resetRequestSystem h) s = .next t ∧
    t.start.due = some (2, s.now + ms 10) ∧ t.lastSent = some (.writeReply h.src 0x1E00 1 91))

/-- Thermal shutdown, the hold in reset after it and its end (16 R435, 03 R99 to R101). -/
def Obligations.ThermalShutdown : Prop := ∀ s : State,
  (∀ m, (mapBits 6 fun k => m.testBit k && !s.therm.compFailed.testBit k) ≠ 0 → s.belay.released = true → s.supply.up = true →
    s.therm.shutdown = false → s.start.thermalHold = false → ∃ t, exec (.thermalShutdown m) s = .next t ∧ t.mode.block = .off ∧ t.therm = { s.therm with
      shutdown := true, shutdownAt := s.now, tripped := mapBits 6 fun k => m.testBit k && !s.therm.compFailed.testBit k,
      shutdowns := sat32 s.therm.shutdowns, seen := s.therm.seen ||| 8 }) ∧
  (s.therm.shutdown = true → s.start.thermalHold = false → s.therm.shutdownAt + ms 50 ≤ s.now → ∃ t, exec .thermalHold s = .next t ∧
    t.start = { s.start with thermalHold := true, fw := .down, due := none, boot := none, replay := [], hurry := none } ∧ (∀ k : Fin 3, t.cans[k].onBus = false) ∧
    (∀ k : Fin 2, t.eths[k].up = false) ∧ t.trav.running = false) ∧
  (∀ f, s.start.thermalHold = true → s.start.heldForSupply = false → ∃ t, exec (.thermalRestart f) s = .next t ∧ t.start.thermalHold = false)

/-- The belay supply warning opens the power path in the one command: every string switch off, every clamp on (02 R70, 03 R98). -/
def Obligations.SupplyWarningOpensPath : Prop := ∀ s t : State, s.supply.up = true → s.supply.pfw = true →
  s.start.heldForSupply = false → exec .belaySupplyWarning s = .next t →
  (∀ i : Fin 40, t.gates[chS i].cmd = false) ∧ (∀ b : Fin 4, t.gates[chD b].cmd = true ∧ t.banks[b].modulator = false ∧ t.banks[b].source = none)

/-! ## Gate channels (10) -/

/-- Command edges of a channel (10 R269, R270, R271, R279, R285): what the channel takes up at its rising and falling edge, and
that no other channel changes; and its fault commands complete with what they count or end (10 R269, R273, R274, R276, R277, R281). -/
def Obligations.GateEdges : Prop := ∀ (s : State) (c : Fin 52),
  (partnerGate c = none → s.gates[c].cmd = true → s.gates[c].seenCmd = false → s.gates[c].latch = none →
    ∃ t, exec (.gateRisingEdge c) s = .next t ∧ t.gates[c].seenCmd = true ∧ t.gates[c].edgeAt = s.now ∧
      t.gates[c].cfg = s.gates[c].cfgNext.getD s.gates[c].cfg ∧ t.gates[c].cfgNext = none ∧
      (s.gates[c].railPos = true → t.gates[c].drive = .on ∧ t.gates[c].gateOn = true ∧
        t.gates[c].cycles = (if s.gates[c].gateOn = true then s.gates[c].cycles else sat32 s.gates[c].cycles)) ∧
      ∀ d, d ≠ c → t.gates[d] = s.gates[d]) ∧
  (∀ b other, partnerGate c = some (b, other) → s.banks[b].modulator = true → s.hbPermitted b = true → s.gates[c].cmd = false →
    s.banks[b].conflict = false → s.modulatorRises b c other = true → ∃ t, exec (.gateRisingEdge c) s = .next t ∧ t.gates[c].cmd = true ∧
      (s.interlockPasses c other = true → s.gates[c].latch = none → t.gates[c].seenCmd = true ∧ t.gates[c].hold = false ∧
        ∀ d, d ≠ c → t.gates[d] = s.gates[d]) ∧
      (s.gates[other].cmd = true → s.gates[other].edgeAt = s.now → t.banks[b].conflict = true ∧ t.gates[other].gateOn = false ∧
        t.gates[c].seenCmd = s.gates[c].seenCmd ∧ t.banks[b].conflicts = sat32 s.banks[b].conflicts) ∧
      (s.interlockPasses c other = false → ¬ (s.gates[other].cmd = true ∧ s.gates[other].edgeAt = s.now) →
        t.gates[c].hold = true ∧ t.gates[c].seenCmd = s.gates[c].seenCmd)) ∧
  (s.gates[c].seenCmd = true → (partnerGate c = none → s.gates[c].cmd = false) →
    (∀ b other, partnerGate c = some (b, other) → s.modulatorFalls b c = true) → ∃ t, exec (.gateFallingEdge c) s = .next t ∧
    t.gates[c].cmd = false ∧ t.gates[c].seenCmd = false ∧ t.gates[c].edgeAt = s.now ∧ t.gates[c].hold = false ∧
    t.gates[c].latch = s.gates[c].latch ∧ (s.gates[c].latch = none → t.gates[c].gateOn = false ∧ t.gates[c].gateOff = s.gates[c].railNeg) ∧
    ∀ d, d ≠ c → t.gates[d] = s.gates[d]) ∧
  (s.gates[c].seenCmd = true → s.gates[c].selftest ≠ 1 → ∃ t, exec (.didtDetect c .hard) s = .next t ∧
    t.gates[c].latch.isSome = true ∧ t.gates[c].counts[0] = sat32 s.gates[c].counts[0]) ∧
  (s.gates[c].seenCmd = true → s.gates[c].selftest ≠ 1 → s.gates[c].didtHeld = true → s.gates[c].edgeAt + s.gates[c].blankNs ≤ s.now →
    ∃ t, exec (.blankingEnd c true) s = .next t ∧ t.gates[c].latch.isSome = true ∧ t.gates[c].counts[0] = sat32 s.gates[c].counts[0]) ∧
  (s.gates[c].railPos = true → ∃ t, exec (.uvloDetect c false true) s = .next t ∧ t.gates[c].railPos = false ∧
    t.gates[c].counts[1] = sat32 s.gates[c].counts[1]) ∧
  (s.gates[c].selftest ≠ 1 → s.gates[c].drive = .on → s.gates[c].gateOn = true → s.gates[c].edgeAt + us 10 ≤ s.now →
    ∃ t, exec (.readbackFault c .open_ true) s = .next t ∧ t.gates[c].latch.isSome = true ∧ t.gates[c].counts[2] = sat32 s.gates[c].counts[2]) ∧
  (s.gates[c].drive = .softOff → ∃ t, exec (.softOffEnd c) s = .next t ∧ t.gates[c].drive ≠ .softOff ∧ t.gates[c].gateOn = false) ∧
  (∀ cause on, s.gates[c].report = some (cause, on) → ∃ t, exec (.gateFaultReport c) s = .next t ∧ t.gates[c].record = some cause) ∧
  (∀ w, s.gateBlock.windowAt = some w → w + us 1 ≤ s.now → ∃ t, exec .coincidentWindowEnd s = .next t ∧ t.gateBlock.window = [])

/-- Faults of a channel (10 R269, R273 to R277): when each latches, what it counts, and that no other channel changes. -/
def Obligations.GateFaults : Prop := ∀ (s : State) (c : Fin 52),
  (∀ level, s.gates[c].armed = true → ∃ t, exec (.didtDetect c level) s = .next t ∧
    (if level = .below then t.gates[c] = { s.gates[c] with didtAbove := false }
     else if level = .normal ∧ s.now < s.gates[c].edgeAt + s.gates[c].blankNs then
       t.gates[c] = { s.gates[c] with didtHeld := true, didtAbove := true }
     else t.gates[c].latch = some (s.gates[c].latch.getD (if level = .hard then .didtHard else .didt)) ∧
       t.gates[c].counts[0] = sat32 s.gates[c].counts[0] ∧ t.gates[c].didtAbove = true ∧
       (s.gates[c].report = none → t.gates[c].report = some (if level = .hard then .didtHard else .didt, true))) ∧
    ∀ d, d ≠ c → t.gates[d] = s.gates[d]) ∧
  (∀ above, s.gates[c].armed = true → s.gates[c].didtHeld = true → s.gates[c].edgeAt + s.gates[c].blankNs ≤ s.now →
    ∃ t, exec (.blankingEnd c above) s = .next t ∧ t.gates[c].didtHeld = false ∧
      t.gates[c].latch = (if above then some (s.gates[c].latch.getD .didtBlank) else s.gates[c].latch) ∧ ∀ d, d ≠ c → t.gates[d] = s.gates[d]) ∧
  (∀ neg, (if neg then s.gates[c].railNeg else s.gates[c].railPos) = true → ∃ t, exec (.uvloDetect c neg true) s = .next t ∧
    (if neg then t.gates[c].railNeg else t.gates[c].railPos) = false ∧ t.gates[c].cmd = s.gates[c].cmd ∧
    t.gates[c].counts[1] = sat32 s.gates[c].counts[1] ∧
    (s.gates[c].drive ≠ .softOff → t.gates[c].latch = some (s.gates[c].latch.getD (if neg then .uvloNeg else .uvloPos))) ∧
    (∀ k, s.gates[c].latch = some k → t.gates[c].latch = some k) ∧ ∀ d, d ≠ c → t.gates[d] = s.gates[d]) ∧
  (∀ neg, s.start.gateRails = true → (if neg then s.gates[c].railNeg else s.gates[c].railPos) = false →
    ∃ t, exec (.uvloDetect c neg false) s = .next t ∧ (if neg then t.gates[c].railNeg else t.gates[c].railPos) = true ∧
    t.gates[c].cmd = s.gates[c].cmd ∧ t.gates[c].latch = s.gates[c].latch ∧ t.gates[c].record = s.gates[c].record ∧
    ∀ d, d ≠ c → t.gates[d] = s.gates[d]) ∧
  (∀ e reached cause, s.gates[c].selftest ≠ 1 → (match e with
      | .on => cause = GateCause.rbOn ∧ (s.gates[c].latch = none ∧ (s.gates[c].drive = .on ∨ s.gates[c].drive = .off) ∧
          s.gates[c].levelCheck true reached s.now = true ∨ s.gates[c].latch.isSome = true ∧ s.gates[c].drive = .on)
      | .open_ => cause = GateCause.rbOpen ∧ s.gates[c].drive = .on ∧ s.gates[c].gateOn = true ∧ s.gates[c].edgeAt + us 10 ≤ s.now
      | .off => cause = GateCause.rbOff ∧ (s.gates[c].latch = none ∧ (s.gates[c].drive = .on ∨ s.gates[c].drive = .off) ∧
          s.gates[c].levelCheck false reached s.now = true ∨ s.gates[c].latch.isSome = true ∧ (s.gates[c].drive = .off ∨ s.gates[c].drive = .heldLow))
      | .restored => False) →
    ∃ t, exec (.readbackFault c e reached) s = .next t ∧ t.gates[c].counts[2] = sat32 s.gates[c].counts[2] ∧
      t.gates[c].latch = some (s.gates[c].latch.getD cause) ∧ ∀ d, d ≠ c → t.gates[d] = s.gates[d]) ∧
  (∀ reached, s.gates[c].selftest ≠ 1 → exec (.readbackFault c .restored reached) s = .next (s.modGate c fun g => { g with rbBad := false })) ∧
  (s.gates[c].drive = .softOff → ∃ t, exec (.softOffEnd c) s = .next t ∧ t.gates[c].gateOn = false ∧
    t.gates[c].drive = (if s.gates[c].railPos || s.gates[c].railNeg then .heldLow else .undriven) ∧
    t.gates[c].latch = s.gates[c].latch ∧ ∀ d, d ≠ c → t.gates[d] = s.gates[d]) ∧
  (∀ cause on, s.gates[c].report = some (cause, on) → ∃ t, exec (.gateFaultReport c) s = .next t ∧ t.gates[c].record = some cause ∧
    t.gates[c].report = s.gates[c].queued.head? ∧ t.gates[c].latch = s.gates[c].latch ∧ (∀ i, ownerOf c = .string i → t.gates[c].cmd = false ∧
      (t.strs[i].lockout = true ∨ cause.trip ≠ 0x0A ∧ t.strs[i].trip = true)) ∧
    (∀ b, ownerOf c = .high b ∨ ownerOf c = .low b → t.gates[chH b].cmd = false ∧ t.gates[chL b].cmd = false ∧
      t.banks[b].modulator = false)) ∧
  (∀ w, s.gateBlock.windowAt = some w → w + us 1 ≤ s.now → ∃ t, exec .coincidentWindowEnd s = .next t ∧ t.gateBlock.window = [] ∧
    t.gateBlock.windowAt = none ∧ t.gates = s.gates)

/-- Self-tests and the clearing of a bank's records (10 R280, R283, R284). -/
def Obligations.GateTests : Prop := ∀ (s : State) (src : Src),
  (∀ c, let w := selfTestWrite c 1
    s.admits src w.1 w.2.1 w.2.2 → s.selfTestRefused c = false → ∃ t, exec (.gateSelftest src c 1) s = .next t ∧
      t.gates[c] = { s.gates[c] with selftest := 1 } ∧ t.lastSent = some (.writeReply src w.1 w.2.1 w.2.2.length) ∧
      ∀ d, d ≠ c → t.gates[d] = s.gates[d]) ∧
  (∀ c e, s.gates[c].selftest = 1 → ∃ t, exec (.gateSelftestComplete c e) s = .next t ∧
    t.gates[c].selftest = (match e with | .passed => 2 | .aborted => 4 | _ => 3) ∧
    (e = .failedDidt ∨ e = .failedUvlo ∨ e = .failedRb → t.gates[c].latch = SelfTestEnd.cause e ∧ t.gates[c].stCond = SelfTestEnd.cause e) ∧
    ∀ d, d ≠ c → t.gates[d] = s.gates[d]) ∧
  (∀ b, s.admits src (bankObj b) 0x0044 (u8 1) → s.banks[b].state ≠ .precharging → ∃ t, exec (.gateClear src b 1) s = .next t ∧
    (∀ c ∈ [chH b, chL b, chD b], s.gates[c].present = false → t.gates[c].record = none) ∧
    (s.gates[chD b].latch.isSome = true → s.gates[chD b].cmd = true → t.gates[chD b].cmd = false ∧ t.banks[b].dnPulse = some s.now) ∧
    t.lastSent = some (.writeReply src (bankObj b) 0x0044 1))

/-! ## Strings and banks (01, 09) -/

/-- A sealed `CLOSE`, `PRECHARGE` or `UNLOCK` that firmware accepts puts one pass at the end of the belay logic's privileged queue, with its
target, counter and CRC, and changes no string, bank or gate (09 R246, R248, R256). -/
def Obligations.PassRequests : Prop := ∀ (s : State) (h : SealHead), s.mode.block ≠ .baseCamp → s.supply.pfw = false →
  (∀ i, s.admitsSealed (h.one (strObj i) 0x0003 (u8 1)) → ∃ t p, exec (.close h i 1) s = .next t ∧
    t.belay.privQ = s.belay.privQ ++ [.pass p] ∧ p.kind = .close ∧ p.target = i.val + 1 ∧ p.precharge = false ∧ p.counter = h.counter ∧
    p.slot = h.slot ∧ p.check = p.checkOf ∧ t.strs = s.strs ∧ t.banks = s.banks ∧ t.gates = s.gates) ∧
  (∀ b v, 1 ≤ v → v ≤ 40 → s.admitsSealed (h.one (bankObj b) 0x0003 (u8 v)) → ∃ t p, exec (.precharge h b v) s = .next t ∧
    t.belay.privQ = s.belay.privQ ++ [.pass p] ∧ p.kind = .close ∧ p.target = v ∧ p.precharge = true ∧ p.bank = b.val ∧
    p.counter = h.counter ∧ p.check = p.checkOf ∧ t.strs = s.strs ∧ t.banks = s.banks ∧ t.gates = s.gates) ∧
  (∀ i, s.admitsSealed (h.one (strObj i) 0x0006 (u8 1)) → ∃ t p, exec (.unlock h i 1) s = .next t ∧
    t.belay.privQ = s.belay.privQ ++ [.pass p] ∧ p.kind = .unlock ∧ p.target = i.val + 1 ∧ p.counter = h.counter ∧
    p.check = p.checkOf ∧ t.strs = s.strs ∧ t.banks = s.banks ∧ t.gates = s.gates)

/-- The belay logic takes the pass at the front of its queue, or discards one whose CRC fails, and removes a pass after 2 s
(01 R26, R27, 09 R246, R249, R250); what a pass leads to completes: the grant, the closing, the pre-charge (01 R30, 09 R253, R256 to R259). -/
def Obligations.PassesTaken : Prop := ∀ (s : State) (p : Pass) (rest : List PrivEntry),
  (s.belay.released = true → s.belay.privQ = .pass p :: rest → p.check ≠ p.checkOf → ∃ t, exec .hallPassTaken s = .next t ∧
    t.belay.privQ = rest ∧ t.strs = s.strs ∧ t.io = s.io ∧ t.gates = s.gates) ∧
  (∀ i : Fin 40, s.belay.released = true → s.belay.privQ = .pass p :: rest → p.check = p.checkOf → p.kind = .close →
    p.target = i.val + 1 → (p.precharge = true → (s.bankOf i).val = p.bank) → ∃ t, exec .hallPassTaken s = .next t ∧
    t.belay.privQ = rest ∧ (s.fwActs = false ∨ s.actionOpen p = false → s.pcActive (s.bankOf i) = false →
      s.banks[s.bankOf i].state ≠ .live → (∃ d, t.strs[i].pass = some ⟨p, s.now, d, false⟩) ∧ t.gates = s.gates)) ∧
  (∀ i : Fin 40, s.belay.released = true → s.belay.privQ = .pass p :: rest → p.check = p.checkOf → p.kind = .unlock →
    p.target = i.val + 1 → p.precharge = false → s.causesPresent i (s.strs[i].tripSet ||| s.strs[i].lockoutSet) = [] →
    ∃ t, exec .hallPassTaken s = .next t ∧ t.belay.privQ = rest ∧ t.strs[i].trip = false ∧ t.strs[i].lockout = false ∧
      t.strs[i].stored = none ∧ t.gates[chS i].record = none) ∧
  (∀ q : Fin 16, s.belay.released = true → s.belay.privQ = .pass p :: rest → p.check = p.checkOf → p.kind = .energise →
    p.target = q.val + 0x41 → ∃ t, exec .hallPassTaken s = .next t ∧ t.belay.privQ = rest ∧
    (s.fwActs = false ∨ s.actionOpen p = false → ∃ d, t.io.outputs[q].pass = some ⟨p, s.now, d, false⟩)) ∧
  (∀ (i : Fin 40) (k : Fin 56) h, k.val = i.val → s.strs[i].pass = some h → h.taken + sec 2 ≤ s.now →
    ∃ t, exec (.hallPassExpiry k) s = .next t ∧ t.strs[i].pass = none ∧ t.strs[i].matchOk = false) ∧
  (∀ (q : Fin 16) (k : Fin 56) h, k.val = q.val + 40 → s.io.outputs[q].pass = some h → h.taken + sec 2 ≤ s.now →
    ∃ t, exec (.hallPassExpiry k) s = .next t ∧ t.io.outputs[q].pass = none) ∧
  (∀ (i : Fin 40) b, b = s.bankOf i → s.strs[i].waiting = true → s.strs[i].requested = false → s.grantable i = true →
    (s.stringsOf b).find? (fun j => s.grantable j) = some i → (∀ j ∈ s.stringsOf b, s.gates[chS j].report = none) →
    ∃ t, exec (.closeGrant i) s = .next t ∧ t.gates[chS i].cmd = true ∧ t.strs[i].pass = none ∧ t.banks[b].holdoff = some s.now) ∧
  (∀ i : Fin 40, s.gates[chS i].cmd = true → s.gates[chS i].gateOn = true → s.strs[i].state = .matching →
    ∃ t, exec (.stringClosed i) s = .next t ∧ t.strs[i].state = .closed ∧ t.gates = s.gates) ∧
  (∀ b : Fin 4, s.holdoffDue b = true → s.strs.all (fun c => !c.waiting) = true →
    ∃ t, exec (.holdoffClear b) s = .next t ∧ t.banks[b].holdoff = none) ∧
  (∀ (b : Fin 4) i, s.banks[b].source = some i → s.banks[b].state = .dark → s.gates[chD b].gateOff = true → s.gates[chD b].cmd = false →
    s.strs[i].state = .matching → s.hbPermitted b = true → s.supply.pfw = false →
    ∃ t, exec (.prechargeStart b) s = .next t ∧ t.banks[b].state = .precharging ∧ t.banks[b].modulator = true) ∧
  (∀ (b : Fin 4) link, s.banks[b].state = .precharging → s.banks[b].modulator = true → s.banks[b].target ≤ link → s.inCycle b = false →
    ∃ t, exec (.prechargeTargetReached b link) s = .next t ∧ t.banks[b].modulator = false) ∧
  (∀ (b : Fin 4) i h, s.banks[b].source = some i → s.strs[i].pass = some h → s.pcActive b = true → s.gates[chS i].cmd = false →
    h.taken + ms (s.val (bankObj b) 0x0014) ≤ s.now → ∃ t, exec (.prechargeTimeout b) s = .next t ∧ t.banks[b].source = none ∧
    t.banks[b].modulator = false)

/-- Grant, closing and pre-charge (01 R30, 09 R253, R256, R258, R259). -/
def Obligations.CloseAndPrecharge : Prop := ∀ (s : State) (i : Fin 40) (b : Fin 4),
  (∀ u, s.strs[i].requested = true → b = s.bankOf i →
    u = s.modStr i (fun c => { c with requested := false, waiting := (s.closePass i).isSome }) →
    (u.stringsOf b).find? (fun j => u.grantable j) = some i → (∀ j ∈ u.stringsOf b, u.gates[chS j].report = none) →
    ∃ t, exec (.closeGrant i) s = .next t ∧ t.gates[chS i].cmd = true ∧ t.strs[i].pass = none ∧ t.strs[i].matchOk = false ∧
      t.strs[i].waiting = false ∧ t.banks[b].holdoff = some s.now ∧ t.gates[chH b].cmd = false ∧ t.gates[chL b].cmd = false) ∧
  (s.strs[i].requested = true ∨ s.strs[i].waiting = true → s.gates[chS i].report.isSome = true → ∃ t, exec (.closeGrant i) s = .next t ∧
    t.strs[i].waiting = false ∧ t.strs[i].requested = false ∧ t.gates[chS i].cmd = s.gates[chS i].cmd) ∧
  (s.gates[chS i].cmd = true → s.gates[chS i].gateOn = true → s.strs[i].state = .matching → ∃ t, exec (.stringClosed i) s = .next t ∧
    t.strs[i].state = .closed ∧ (∀ j, j ≠ i → t.strs[j] = s.strs[j]) ∧ (b = s.bankOf i → s.banks[b].state = .precharging →
      t.banks[b].state = .live ∧ t.banks[b].source = none ∧ t.banks[b].modulator = false)) ∧
  (s.holdoffDue b = true → ∃ t, exec (.holdoffClear b) s = .next t ∧ (t.banks[b].holdoff = none ∨ t.banks[b].holdoff = some s.now) ∧
    (s.strs.all (fun c => !c.waiting) = true → t.banks[b] = { s.banks[b] with holdoff := none } ∧ t.gates = s.gates)) ∧
  (s.banks[b].source = some i → s.banks[b].state = .dark → s.gates[chD b].gateOff = true → s.gates[chD b].cmd = false →
    s.strs[i].state = .matching → s.hbPermitted b = true → s.supply.pfw = false → ∃ t, exec (.prechargeStart b) s = .next t ∧
    t.banks[b].state = .precharging ∧ t.banks[b].modulator = true ∧ t.gates = s.gates) ∧
  (∀ link, s.banks[b].state = .precharging → s.banks[b].modulator = true → ∃ t, exec (.prechargeTargetReached b link) s = .next t ∧
    (s.banks[b].target ≤ link → s.gates[chH b].cmd = true → t.gates[chH b].cmd = false ∧
      t.banks[b] = { s.banks[b] with linkRun := link } ∧ t.strs = s.strs) ∧
    (s.banks[b].target ≤ link → s.inCycle b = false → t.banks[b] = { s.banks[b] with modulator := false, linkRun := link } ∧
      t.gates[chH b].cmd = false ∧ t.gates[chL b].cmd = false ∧ t.strs = s.strs) ∧
    (link < s.banks[b].target → t = s.modBank b fun c => { c with linkRun := link })) ∧
  (∀ h, s.banks[b].source = some i → s.strs[i].pass = some h → s.pcActive b = true → s.gates[chS i].cmd = false →
    h.taken + ms (s.val (bankObj b) 0x0014) ≤ s.now → ∃ t, exec (.prechargeTimeout b) s = .next t ∧ t.banks[b].source = none ∧
    t.banks[b].modulator = false ∧ (s.banks[b].state = .precharging → t.banks[b].state = .discharging) ∧
    t.gates[chH b].cmd = false ∧ t.gates[chL b].cmd = false)

/-- Opening, clearing, exclusion and bank faults (09 R245, R247, R255, R260). -/
def Obligations.OpenAndClear : Prop := ∀ (s : State) (src : Src) (i : Fin 40) (b : Fin 4),
  (s.admits src (strObj i) 0x0004 (u8 1) → s.strs[i].state = .closed ∨ s.strs[i].state = .matching →
    ∃ t, exec (.openString src i 1) s = .next t ∧ (s.strs[i].state = .closed → t.strs[i].state = .isolated ∧ t.gates[chS i].cmd = false) ∧
      (t.strs[i].state = .isolated ∨ t.strs[i].state = .ready) ∧ t.lastSent = some (.writeReply src (strObj i) 0x0004 1)) ∧
  (s.admits src (bankObj b) 0x0004 (u8 1) → ∃ t, exec (.bankOpen src b 1) s = .next t ∧
    (∀ j ∈ s.stringsOf b, t.gates[chS j].cmd = false ∧ t.strs[j].state ≠ .closed ∧ t.strs[j].state ≠ .matching) ∧
    t.banks[b].state ≠ .live ∧ t.lastSent = some (.writeReply src (bankObj b) 0x0004 1)) ∧
  (s.admits src (strObj i) 0x0005 (u8 1) → s.strs[i].trip = true → s.causesPresent i s.strs[i].tripSet = [] →
    ∃ t, exec (.tripClear src i 1) s = .next t ∧ t.strs[i].trip = false ∧ t.strs[i].tripCause = 0 ∧ t.gates[chS i].record = none ∧
      t.strs[i].lockout = s.strs[i].lockout ∧ (s.strs[i].state = .tripped → t.strs[i].state = .isolated) ∧
      ∀ j, j ≠ i → t.strs[j] = s.strs[j]) ∧
  (s.admits src (strObj i) 0x0009 [0x01#8] → s.strs[i].installed = true →
    s.strs[i].state = .isolated ∨ s.strs[i].state = .tripped ∨ s.strs[i].state = .lockedOut →
    ∃ t, exec (.excludeSet src i) s = .next t ∧ t.strs[i].exclusion = true ∧ t.strs[i].state = .excluded ∧ t.val (strObj i) 0x0009 = 1) ∧
  (s.admits src (strObj i) 0x0009 [0x00#8] → s.strs[i].installed = true → s.mode.block = .service → s.strs[i].state = .excluded →
    ∃ t, exec (.excludeClear src i) s = .next t ∧ t.strs[i] = { s.strs[i] with excludeCall := true } ∧ t.ropes[i].rollCall = 1) ∧
  (s.admits src (bankObj b) 0x0005 (u8 1) → s.banks[b].state = .faulted → s.faultClearRefusal b = none →
    ∃ t, exec (.faultClear src b 1) s = .next t ∧ t.banks[b].state = .dark ∧ t.banks[b].faultCause = 0 ∧ ∀ c, c ≠ b → t.banks[c] = s.banks[c]) ∧
  (s.banks[b].state = .discharging → s.banks[b].dischSince + sec (s.val (bankObj b) 0x0016) ≤ s.now →
    ∃ t, exec (.dischargeTimeout b) s = .next t ∧ t.banks[b].state = .faulted ∧ t.banks[b].faultCause = 4 ∧ t.banks[b].modulator = false)

/-! ## Safety inputs, outputs and streams (12) -/

/-- Safety inputs and their test-pulse supplies (12 R319, R320, R323, R325 to R327). -/
def Obligations.SafetyInputs : Prop := ∀ s : State,
  (∀ i, s.discDue i = true → ∃ t, exec (.discrepancyFault i) s = .next t ∧ t.io.inputs[i].discFault = true ∧
    t.io.inputs[i].pendingTest = true ∧ t.io.inputs[i].ready = false ∧ t.io.inputs[i].faults[0] = sat32 s.io.inputs[i].faults[0] ∧
    t.io.supplies = s.io.supplies ∧ t.io.streams = s.io.streams) ∧
  (∀ a b, s.belay.released = true → s.io.tickAt < s.now → s.belay.releasedAt < s.now → (s.now - s.belay.releasedAt) % ms 1 = 0 →
    ∃ t, exec (.inputTick a b) s = .next t ∧ t.io.tickAt = s.now ∧ t.io.supplies = s.io.supplies ∧
    ∀ i, s.inUse i ≠ 0 → s.inFilter i = 1 → s.supplyFault (supplyA i) = false → s.supplyFault (supplyB i) = false →
      t.io.inputs[i].a.closed = !a.testBit i.val ∧ t.io.inputs[i].b.closed = !b.testBit i.val) ∧
  (∀ k, s.belay.released = true → s.supplyFault k = false → s.pulsePhase k = true → ∃ t, exec (.testPulseOff k) s = .next t ∧
    t.io.supplies[k] = { s.io.supplies[k] with pulseAt := some s.now, sampled := false } ∧ t.io.outputs = s.io.outputs ∧ t.io.streams = s.io.streams) ∧
  (∀ (k : Fin 4) before during, s.inPulse k = true → s.io.supplies[k].sampled = false → s.checkPhase k = true →
    ∃ t, exec (.crossShortCheckSample k before during) s = .next t ∧
    t.io.supplies[k] = { s.io.supplies[k] with sampled := true } ∧ t.io.outputs = s.io.outputs ∧
    ∀ i, s.inTested i = true → supplyA i = k → s.supplyFault k = false → before.testBit i.val = true → during.testBit i.val = true →
      t.io.inputs[i].xsFault = true ∧ t.io.inputs[i].pendingTest = true ∧ t.io.inputs[i].faults[1] = sat32 s.io.inputs[i].faults[1]) ∧
  (∀ k cause, s.belay.released = true → s.supplyFault k = false → ∃ t, exec (.testPulseSupplyFault k cause) s = .next t ∧
    t.io.supplies[k] = { s.io.supplies[k] with fault := some (cause.val + 1), regulated := false, pulseAt := none, freeSince := some s.now } ∧
    (∀ i, (supplyA i = k → t.io.inputs[i].a.checked = false) ∧ (supplyB i = k → t.io.inputs[i].b.checked = false)) ∧
    ∀ j, j ≠ k → t.io.supplies[j] = s.io.supplies[j]) ∧
  (∀ src v, s.admits src blockObj 0x0152 (u8 v) → ∃ t, exec (.tpClear src v) s = .next t ∧
    t.lastSent = some (.writeReply src blockObj 0x0152 1) ∧ t.io.inputs = s.io.inputs ∧
    ∀ k f, v.testBit k.val = true → s.supplyFault k = true → s.io.supplies[k].freeSince = some f → f + ms 100 ≤ s.now →
      t.io.supplies[k] = { s.io.supplies[k] with fault := none, regulated := true })

/-- Safety outputs (02 R56, 12 R333 to R339). -/
def Obligations.SafetyOutputs : Prop := ∀ s : State,
  (∀ src v, s.admits src blockObj 0x015B (u16 v) → ∃ t, exec (.qRequest src v) s = .next t ∧
    t.lastSent = some (.writeReply src blockObj 0x015B 2) ∧ ∀ q, s.qPowerPath q = false → s.isEvenPole q = false →
      (v.testBit q.val = false → t.io.outputs[q].state = .off) ∧
      (v.testBit q.val = true → s.io.outputs[q].state = .off → s.qMayStart q = true → t.io.outputs[q].state ≠ .off)) ∧
  (∀ (h : SealHead) v, 1 ≤ v → v ≤ 16 → s.mode.block ≠ .baseCamp → s.supply.pfw = false → s.admitsSealed (h.one blockObj 0x015A (u8 v)) →
    ∃ t p, exec (.qEnergise h v) s = .next t ∧ t.belay.privQ = s.belay.privQ ++ [.pass p] ∧ p.kind = .energise ∧
      p.target = 0x40 + v ∧ p.counter = h.counter ∧ p.check = p.checkOf ∧ t.io = s.io) ∧
  (∀ src v, s.admits src blockObj 0x015C (u16 v) → ∃ t, exec (.qDrop src v) s = .next t ∧
    t.lastSent = some (.writeReply src blockObj 0x015C 2) ∧ ∀ q : Fin 16, v.testBit q.val = true → t.io.outputs[q].state = .off) ∧
  (∀ src v, s.admits src blockObj 0x015D (u16 v) → ∃ t, exec (.qClear src v) s = .next t ∧
    t.lastSent = some (.writeReply src blockObj 0x015D 2) ∧ ∀ q : Fin 16, v.testBit q.val = true → s.pairOf q = none → s.readsLow q = true →
      t.io.outputs[q].fault = none) ∧
  (∀ q : Fin 16, s.io.outputs[q].state = .pullIn → s.io.outputs[q].pullAt + ms 200 ≤ s.now → ∃ t, exec (.pullInEnd q) s = .next t ∧
    t.io.outputs[q].state.energised = true ∧ (s.pairOf q = none → t.io.outputs[q].state = .hold) ∧ t.io.inputs = s.io.inputs) ∧
  (∀ (q : Fin 16) fell vq, s.io.outputs[q].state = .hold → s.io.outputs[q].pulse = none → s.offPulsePhase q = true →
    exec (.outputOffPulse q fell vq) s = .next (s.modQ q fun o => { o with pulse := some (s.now, false) })) ∧
  (∀ (q : Fin 16) t0 bad, s.io.outputs[q].state = .hold → s.io.outputs[q].pulse = some (t0, bad) →
    exec (.outputOffPulse q true false) s = .next (s.modQ q fun o => { o with pulse := none }) ∧
    (∀ fell, s.now < t0 + us 300 → exec (.outputOffPulse q fell true) s = .next (s.modQ q fun o => { o with pulse := some (t0, true) })) ∧
    (bad = false → t0 + us 300 ≤ s.now → ∃ t, exec (.outputOffPulse q false false) s = .next t ∧ t.io.outputs[q].fault = some 3 ∧
      t.io.outputs[q].state = .off ∧ t.io.inputs = s.io.inputs)) ∧
  (∀ (q : Fin 16) (code : Fin 4), exec (.outputReadbackFault q code true) s = .next s) ∧
  (∀ (q : Fin 16) (code : Fin 4), (match code.val with
      | 0 => s.io.outputs[q].state.energised = false
      | 1 => s.io.outputs[q].state.energised = true ∧ s.io.outputs[q].pulse = none ∧ s.io.outputs[q].pullAt + ms 1 ≤ s.now
      | 2 => ∃ t0, s.io.outputs[q].pulse = some (t0, false) ∧ t0 + us 300 ≤ s.now
      | _ => s.io.outputs[q].state.energised = true) → s.io.outputs[q].fault = none →
    ∃ t, exec (.outputReadbackFault q code false) s = .next t ∧ t.io.outputs[q].fault = some (code.val + 1) ∧
      t.io.outputs[q].lastFault = code.val + 1 ∧ t.io.outputs[q].state = .off) ∧
  (∀ (q : Fin 16) below, s.io.outputs[q].state = .hold → ∃ t, exec (.openLoad q below) s = .next t ∧
    t.io.outputs[q] = { s.io.outputs[q] with openLoad := below } ∧ ∀ p, p ≠ q → t.io.outputs[p] = s.io.outputs[p])

/-- Safe messages (12 R343 to R345): a copy that fails its CRC only counts; a first copy waits for its pair; the pair is accepted;
what the window, the degraded time and the timeout do. -/
def Obligations.SafeStreams : Prop := ∀ (s : State) (m : Fin 8),
  (∀ net id data, s.cans[Fin.ofNat 3 (net : Fin 2).val].onBus = true → (s.cans[Fin.ofNat 3 net.val].bus = .active ∨ s.cans[Fin.ofNat 3 net.val].bus = .passive) →
    data.length = 16 → s.belay.released = true → s.smEnabled m = true → s.smId m = id → s.io.streams[m].state ≠ .disabled →
    s.smOverdue m = false → (∀ p ∈ s.io.streams[m].pending, s.now ≤ p.since + s.smWindow) → ∃ t, exec (.safeCopyReceived net id data) s = .next t ∧
    (smCrc id data ≠ ofBytes (data.drop 12) → t.io.streams[m] = { s.io.streams[m] with counts := upd s.io.streams[m].counts 2 sat32 }) ∧
    (smCrc id data = ofBytes (data.drop 12) → smNode data = bits (s.smCfg m) 30 24 →
      s.io.streams[m].acceptable (smSeq data) = true → s.io.streams[m].contradicts (smSeq data) data = false →
      ((s.io.streams[m].pending.find? fun p => p.seq = smSeq data) = none → s.io.streams[m].state ≠ degradedOf net.val →
        t.io.streams[m].pending = s.io.streams[m].pending ++ [⟨net.val, smSeq data, data, s.now⟩] ∧
        t.io.streams[m].state = s.io.streams[m].state) ∧
      (∀ p, (s.io.streams[m].pending.find? fun p => p.seq = smSeq data) = some p → p.bytes = data → p.net ≠ net.val →
        t.io.streams[m].state = .valid ∧ t.io.streams[m].seq = some (smSeq data) ∧
        t.io.streams[m].counts[0] = sat32 s.io.streams[m].counts[0] ∧ t.io.streams[m].permit = decide (data.headD 0 &&& 1 = 1#8)))) ∧
  (∀ p, (s.io.streams[m].pending.find? fun p => decide (p.since + s.smWindow ≤ s.now)) = some p → s.smOverdue m = false →
    s.io.streams[m].state = .valid → s.bval blockObj 0x016C ≠ 0 → s.io.streams[m].acceptable p.seq = true →
    ∃ t, exec (.smWindowExpiry m) s = .next t ∧ t.io.streams[m].state = degradedOf p.net ∧ t.io.streams[m].seq = some p.seq) ∧
  (s.io.streams[m].state = .degradedA ∨ s.io.streams[m].state = .degradedB → s.smOverdue m = false →
    s.io.streams[m].degradedAt + sec (s.bval blockObj 0x016C) ≤ s.now → ∃ t, exec (.smDegradedExpiry m) s = .next t ∧
    t.io.streams[m].state = .expired ∧ ∀ k, k ≠ m → t.io.streams[k] = s.io.streams[k]) ∧
  (s.smOverdue m = true → ∃ t, exec (.smRxTimeout m) s = .next t ∧ t.io.streams[m].state = .lost ∧
    (∀ b : Fin 4, (s.smCfg m).testBit (20 + b.val) = true → ∀ i ∈ s.stringsOf b, t.gates[chS i].cmd = false) ∧
    ∀ k, k ≠ m → t.io.streams[k] = s.io.streams[k]) ∧
  ((s.val blockObj 0x0170).testBit 31 = true → s.cans[0].node = s.cans[1].node → s.fwActs = true → s.mode.block ≠ .baseCamp →
    s.safeDue = true → ∃ t, exec .safeStreamSend s = .next t ∧ t.io.txSeq = (s.io.txSeq + 1) % 65536 ∧ t.io.txAt = some s.now ∧
      t.io.txData = s.safeMessage ((s.io.txSeq + 1) % 65536) ∧ t.io.streams = s.io.streams)

/-! ## The envelope and the belay store (04, 11) -/

/-- Trips of the belay logic (01 R35, 04 R131, 11 R296, R299): a confirmed item or a count above its limit opens the string and latches it
in the one command; missing traverses count every used position. -/
def Obligations.EnvelopeTrips : Prop := ∀ s : State,
  (∀ i : Fin 40, s.bstr[i].due ≠ [] → ∃ t, exec (.envelopeTrip i) s = .next t ∧ t.bstr[i].due = [] ∧ t.gates[chS i].cmd = false ∧
    (t.strs[i].trip = true ∨ t.strs[i].lockout = true) ∧ ∀ j, j ≠ i → t.bstr[j] = s.bstr[j]) ∧
  (∀ i : Fin 40, s.bstr[i].unseenDue ≠ [] → ∃ t, exec (.unseenLimitReached i) s = .next t ∧ t.bstr[i].unseenDue = [] ∧ t.gates[chS i].cmd = false ∧
    (t.strs[i].trip = true ∨ t.strs[i].lockout = true) ∧ t.ropes[i].unseenTrip = true ∧ ∀ j, j ≠ i → t.bstr[j] = s.bstr[j]) ∧
  (s.belay.released = true → s.belay.traverseSeen = true → s.belay.missing = false → s.mode.block ≠ .baseCamp →
    s.belay.lastTap + 2 * s.tEff + ms 1 ≤ s.now → ∃ t, exec .missingTraverseDetect s = .next t ∧ t.belay.missing = true ∧
    t.belay.lastTap = s.now ∧ ∀ (i : Fin 40) (p : Fin 33), s.strs[i].exclusion = false → p.val ≤ s.bstr[i].nB →
      t.bstr[i].unseen[p] = s.bstr[i].unseen[p] + 2 ∧ (p ≠ 0 → t.bstr[i].slowUnseen[p] = s.bstr[i].slowUnseen[p] + 2)) ∧
  (s.belay.missing = true → s.mode.block ≠ .baseCamp → s.belay.lastTap + s.tEff ≤ s.now →
    ∃ t, exec .missingTraverseInterval s = .next t ∧ t.belay = { s.belay with lastTap := s.now } ∧
    ∀ (i : Fin 40) (p : Fin 33), s.strs[i].exclusion = false → p.val ≤ s.bstr[i].nB →
      t.bstr[i].unseen[p] = s.bstr[i].unseen[p] + 1 ∧ (p ≠ 0 → t.bstr[i].slowUnseen[p] = s.bstr[i].slowUnseen[p] + 1))

/-- Records reach the belay store whole or not at all (11 R306, R307): below `REC_COUNT` a record is only staged; the last one of a
request whose records stand commits them all; one that fails its check empties the staging and leaves the store. -/
def Obligations.RecordsCommitWhole : Prop := ∀ (s : State) (q : BelayRecord) (rest : List PrivEntry),
  s.belay.released = true → s.belay.privQ = .record q :: rest →
  (∀ p ∈ s.belay.staging, p.reqId = q.reqId ∧ p.slot = q.slot ∧ p.kind = q.kind) →
  ∃ t, exec .envelopeRecord s = .next t ∧
    (q.check = q.checkOf → (if q.kind = 8 then isEnvelope q.index q.sub else isSafetyIo q.index q.sub) = true →
      s.belay.staging.length + 1 < q.count →
      t.belay = { s.belay with privQ := rest, staging := s.belay.staging ++ [q] } ∧ t.strs = s.strs ∧ t.io = s.io) ∧
    (q.check = q.checkOf → q.kind = 8 → isEnvelope q.index q.sub = true → q.count ≤ s.belay.staging.length + 1 →
      t.belay.store = (if s.envRefusal (s.belay.staging ++ [q]) = none then stagedStore s.belay.store (s.belay.staging ++ [q])
        else s.belay.store)) ∧
    (q.check ≠ q.checkOf → t.belay.store = s.belay.store)

/-- The mirror's digest (11 R311): compared only with a digest of the store at the same commit count; a difference counts, and firmware, once it
acts, copies the store into the mirror and asks for the rewrite of every differing record. -/
def Obligations.MirrorCompared : Prop := ∀ (s : State) (d n : Nat), s.belay.mirrorPosted = some (d, n) →
  ∃ t, exec .mirrorDigestCompare s = .next t ∧ t.belay.mirrorPosted = none ∧ t.belay.store = s.belay.store ∧
    (n ≠ s.belay.digestCommits → t = { s with belay := { s.belay with mirrorPosted := none } }) ∧
    (n = s.belay.digestCommits → d = s.belay.digest → t.belay.mirrorMismatch = false ∧ t.belay.mirror = s.belay.mirror) ∧
    (n = s.belay.digestCommits → d ≠ s.belay.digest → t.belay.mirrorMismatch = true ∧ t.belay.mismatchCount = sat32 s.belay.mismatchCount ∧
      (s.fwActs = true → t.belay.mirror = s.belay.store ∧
        t.belay.rewrite = (differing s.belay.store s.belay.mirror).foldl NatSet.ins s.belay.rewrite) ∧
      (s.fwActs = false → t.belay.mirrorDue = true ∧ t.belay.mirror = s.belay.mirror ∧ t.belay.rewrite = s.belay.rewrite))

/-! ## Traverses, replies and the two readers (01, 05) -/

/-- The trigger (05 R142 to R148, R156): an open traverse is cut short first, and what waited for the boundary takes effect; the number, the
instant and the buffer are the new traverse's. `TRAVERSE_COMPLETE`, `SLOW_ROUND_COMPLETE` and the loss of the link sense (05 R160, R167, 09 R255). -/
def Obligations.Traverses : Prop := ∀ s : State,
  (∀ links busy bad, s.mayTrigger = true → ∃ t n, exec (.traverseTriggerIssue links busy bad) s = .next t ∧
    n = ((s.spoilCopies bad).clearFrames.forEach busy State.abandon).overrun.boundary.trav.next ∧
    t.trav.number = some n ∧ t.trav.next = (n + 1) % 2 ^ 32 ∧ t.trav.t0 = s.now ∧ t.trav.running = true ∧
    t.trav.bufs[bufOf n].number = n ∧ t.trav.bufs[bufOf n].used = true ∧ t.trav.bufs[bufOf n].complete = false ∧
    ∀ i : Fin 40, t.bstr[i].seenNow = 0) ∧
  (s.trav.number.isSome = true → s.trav.bufs[s.curBuf].used = true → s.trav.bufs[s.curBuf].complete = false → s.readsDone = true →
    ∃ t, exec .traverseComplete s = .next t ∧ t.trav.bufs[s.curBuf].complete = true ∧ t.trav.number = s.trav.number ∧
      (s.belay.released = true → t.belay.traverseSeen = true)) ∧
  (∀ b : Fin 4, 3 ≤ s.banks[b].linkMiss → ∃ t, exec (.linkSenseLost b) s = .next t ∧
    (s.banks[b].state = .live → t = s.modBank b fun c => { c with linkLost := true }) ∧
    (s.banks[b].state ≠ .live → s.banks[b].state ≠ .faulted → t.banks[b].state = .faulted ∧ t.banks[b].faultCause = 5 ∧
      t.banks[b].modulator = false)) ∧
  (s.trav.slowOpen = true → s.slowReadsDone = true → ∃ t, exec .slowRoundComplete s = .next t ∧ t.trav.slowOpen = false ∧
    t.trav.slowDone = true ∧ ∀ i : Fin 40, t.bstr[i].slowSeen = true)

/-- A reply on its way (01 R16 to R19, 04 R113 to R116, 11 R291, R292): the port's receive queue takes the bytes its 256 hold and marks a
frame it cuts; a service of the distributor moves up to 8 bytes of a port's oldest frame to the tap and to DMA, and none while the tap is
full; the belay logic gathers a frame and takes the first acceptable reply of a position. That the belay logic too leaves out a reply that
comes late is the model's choice (log 133). The commands that begin and end what replies belong to complete (05 R142, R160, R167, 09 R255). -/
def Obligations.Replies : Prop := ∀ (s : State) (i : Fin 40) (e : PortEnd) (p : Fin 33),
  (∀ kind data kept, kept = data.take (256 - s.portFill i e) → s.expects i e kind p.val = true →
    ∃ t, exec (.replyReceived i e kind p data) s = .next t ∧
    t.trav.portQ = s.trav.portQ ++ [⟨⟨i.val, e, kind, p.val, s.sysTicks, decide (s.now ≤ s.deadline i e p.val), decide (kept.length < data.length),
      false⟩, kept, false⟩] ∧
    (kind = .traverse → s.now ≤ s.deadline i e p.val → s.judgeReply i kind p.val kept = .ok → t.ropes[i].acceptedNow.testBit p.val = true) ∧
    ∀ j, j ≠ i → t.ropes[j] = s.ropes[j]) ∧
  (∀ noLock, s.expects i e .traverse p.val = true → s.deadline i e p.val ≤ s.now →
    ∃ t, exec (.replyTimeout i e .traverse p noLock) s = .next t ∧
    (t.ropes[i].port e).stats[4] = satAdd max32 (s.ropes[i].port e).stats[4] 1 ∧ (t.ropes[i].port e).missing.testBit p.val = true ∧
    t.trav.portQ = s.trav.portQ) ∧
  (∀ stall, (∀ k : Fin 3, s.cans[k].rxQ = []) → ∃ t, exec (.distributorDeliver stall) s = .next t ∧ (stall = false → t.trav.dmaQ = []) ∧
    (64 ≤ s.trav.tapQ.length → t.trav.tapQ = s.trav.tapQ ∧ t.trav.portQ = s.trav.portQ) ∧
    (∀ f : RxFrame, s.trav.portQ = [f] → 1 ≤ f.head.line → f.head.line ≤ 86 → s.trav.tapQ.length < 64 →
      t.trav.tapQ = s.trav.tapQ ++ [⟨f.head, f.bytes.take 8, !f.begun, decide (f.bytes.length ≤ 8), false⟩] ∧
      t.trav.portQ = (if f.bytes.length ≤ 8 then [] else [{ f with bytes := f.bytes.drop 8, begun := true }]) ∧
      (stall = true → s.trav.dmaDrop.contains f.head.line = false → s.dmaFill + 8 ≤ 16384 →
        t.trav.dmaQ = s.trav.dmaQ ++ [⟨f.head, f.bytes.take 8, !f.begun, decide (f.bytes.length ≤ 8), false⟩]))) ∧
  (∃ t, exec .belayReplyEval s = .next t ∧ t.trav.tapQ = (splitTap s.trav.tapQ).2 ∧ t.trav.portQ = s.trav.portQ ∧
    ∀ x begun rest, s.belay.released = true → s.trav.tapQ = x :: rest →
      begun = (if x.first then (s.windowOpen (Fin.ofNat 40 x.head.owner) x.head.end_, []) else Sparse.getD s.belay.rx x.head.line (false, [])) →
      (x.last = true ∨ rest = []) → (x.head.safe = false → t.belay.lastTap = s.now ∧
        t.belay.missing = (s.belay.missing && !s.newTraverseEntry x.head)) ∧
      (x.last = false → Sparse.get? t.belay.rx x.head.line = some (begun.1, begun.2 ++ x.bytes) ∧ t.bstr = s.bstr) ∧
      (∀ (o : Fin 40) bs, x.last = true → o = Fin.ofNat 40 x.head.owner → bs = begun.2 ++ x.bytes → x.head.link = false → begun.1 = true →
        x.head.inTime = true → replyCrcOk bs = true → replySrc bs ≤ 32 → replyKind bs = 0 →
        replyTag bs = s.trav.number.getD 0 % 256 → (replyStatus bs).testBit 15 = true → s.ropes[o].disqualified.testBit (replySrc bs) = false →
        t.bstr[o].seenNow.testBit (replySrc bs) = true)) ∧
  (∀ links, s.mayTrigger = true → ∃ t n, exec (.traverseTriggerIssue links [] []) s = .next t ∧ t.trav.number = some n ∧ t.trav.t0 = s.now) ∧
  (s.trav.number.isSome = true → s.trav.bufs[s.curBuf].used = true → s.trav.bufs[s.curBuf].complete = false → s.readsDone = true →
    ∃ t, exec .traverseComplete s = .next t ∧ t.trav.bufs[s.curBuf].complete = true) ∧
  (∀ b : Fin 4, 3 ≤ s.banks[b].linkMiss → s.banks[b].state = .dark → ∃ t, exec (.linkSenseLost b) s = .next t ∧
    t.banks[b].state = .faulted ∧ t.banks[b].faultCause = 5) ∧
  (s.trav.slowOpen = true → s.slowReadsDone = true → ∃ t, exec .slowRoundComplete s = .next t ∧ t.trav.slowDone = true)

/-- Rope commands (04 R118 to R125, R134, R135, R138): roll calls, modes at a boundary, spares and statistics. -/
def Obligations.RopeCommands : Prop := ∀ (s : State) (i : Fin 40) (src : Src),
  (s.admits src (strObj i) 0x0013 (u8 1) → s.ropes[i].rollCall ≠ 1 → s.mode.block = .service → s.strs[i].state = .isolated ∨
    s.strs[i].state = .tripped ∨ s.strs[i].state = .lockedOut ∨ s.strs[i].state = .excluded →
    ∃ t, exec (.rollCallRequest src i 1) s = .next t ∧ t.ropes[i].rollCall = 1 ∧ t.ropes[i].result = 0 ∧
      ∀ j, j ≠ i → t.ropes[j] = s.ropes[j]) ∧
  (∀ a b, s.ropes[i].rollCall = 1 → s.start.fw = .running → ∃ t, exec (.rollCallComplete i a b) s = .next t ∧
    (∀ fa fb m, fa = rollOutcome s.ropes[i].n s.ropes[i].portA.failed .a a (rttOf a) →
      fb = rollOutcome s.ropes[i].n s.ropes[i].portB.failed .b b (rttOf b) →
      m = (if fa = none ∧ fb = none then (if serialsAgree a b then RopeMode.ring else .dark)
        else if fa = none then .singleA else if fb = none then .singleB else .dark) →
      t.ropes[i].rollCall = (if m = .dark then 3 else 2) ∧ (s.atBoundary = true → t.ropes[i].mode = m) ∧
      (s.atBoundary = false → t.ropes[i].mode = s.ropes[i].mode ∧ t.ropes[i].rollMode = some m)) ∧ ∀ j, j ≠ i → t.ropes[j] = s.ropes[j]) ∧
  (∀ nodes, s.ropes[i].partial_ = true → ∃ t, exec (.partialRollCallComplete i nodes) s = .next t ∧ t.ropes[i].partial_ = false ∧
    (∀ e, e = (if s.ropes[i].mode = .singleA then PortEnd.b else .a) →
      t.ropes[i].due = (if rollOutcome s.ropes[i].n (s.ropes[i].port e).failed e nodes (rttOf nodes) = none then some (.ring, none, none)
        else s.ropes[i].due)) ∧ t.ropes[i].mode = s.ropes[i].mode) ∧
  (∀ v, s.admits src (strObj i) 0x0011 (u8 v) → ∃ t, exec (.ropeModeReq src i v) s = .next t ∧ t.ropes[i].req = some v ∧
    t.val (strObj i) 0x0011 = v ∧ t.ropes[i].mode = s.ropes[i].mode ∧ t.lastSent = some (.writeReply src (strObj i) 0x0011 1)) ∧
  (s.admits src (strObj i) 0x005F (u8 1) → ∃ t, exec (.statsClear src i 1) s = .next t ∧ t.ropes[i].byPos = [] ∧
    t.ropes[i].portA.stats = Vector.replicate 10 0 ∧ t.ropes[i].portB.stats = Vector.replicate 10 0 ∧ ∀ j, j ≠ i → t.ropes[j] = s.ropes[j]) ∧
  (∀ m a b, s.start.fw = .running → s.atBoundary = true → s.ropes[i].rollCall ≠ 1 → s.ropes[i].rollMode = none → s.ropes[i].due = some (m, a, b) →
    m ≠ s.ropes[i].mode → s.ropes[i].req = none → ∃ t, exec (.ropeModeChange i) s = .next t ∧ t.ropes[i].mode = m ∧
    t.ropes[i].due = none ∧ t.ropes[i].lastA = (m.serves s.ropes[i].n a b).1 ∧ t.ropes[i].firstB = (m.serves s.ropes[i].n a b).2) ∧
  (∀ port : Fin 80, s.atBoundary = true → s.start.fw = .running → (s.portAt (port.val + 1)).restoreDue = false →
    (s.portAt (port.val + 1)).moveDue = true → ((portGroup (port.val + 1)).any fun m => decide (m < port.val + 1) && (s.portAt m).moveDue) = false →
    ∃ t, exec (.portToSpare port) s = .next t ∧ (t.portAt (port.val + 1)).moveDue = false ∧
      (((portGroup (port.val + 1)).any fun m => (s.portAt m).spare) = false → (t.portAt (port.val + 1)).spare = true ∧
        t.health.spareUse[1] = sat32 s.health.spareUse[1]) ∧
      ((s.portAt (port.val + 1)).spare = true → (t.portAt (port.val + 1)).failed = true))

/-- The periods (05 R150, R154, R159): `RECESS` by a plain write, `TRAV_PERIOD` and `SLOW_PERIOD` inside a sealed request. -/
def Obligations.Periods : Prop := ∀ s : State,
  (∀ src v, s.admits src blockObj 0x0052 (u8 v) → v < s.val blockObj 0x0050 * 10 → ∃ t, exec (.recessWrite src v) s = .next t ∧
    t.val blockObj 0x0052 = v ∧ t.lastSent = some (.writeReply src blockObj 0x0052 1)) ∧
  (∀ (h : SealHead) v, 2 ≤ v → v ≤ 1000 → s.val blockObj 0x0052 < 10 * v → s.admitsSealed (h.one blockObj 0x0050 (u16 v)) →
    ∃ t, exec (.travPeriodWrite (h.one blockObj 0x0050 (u16 v))) s = .next t ∧ t.val blockObj 0x0050 = v ∧
      t.lastSent = some (.writeReply h.src 0x1E00 1 92)) ∧
  (∀ (h : SealHead) v, 100 ≤ v → v ≤ 10000 → s.admitsSealed (h.one blockObj 0x0053 (u16 v)) →
    ∃ t, exec (.slowPeriodWrite (h.one blockObj 0x0053 (u16 v))) s = .next t ∧ t.val blockObj 0x0053 = v ∧
      t.lastSent = some (.writeReply h.src 0x1E00 1 92))

/-! ## Rope nodes (04, 05, 06) -/

/-- Roll calls, serving ends, settings and the plain answers (04 R104, R110, R115, R117, R136, Table 4-6, 05 R155, 06 R177, R179, R184):
a whole frame with the command's code and length, a correct CRC and the node's serving end or `FAR` counts in `ACC` and changes nothing but
its node; the H1's refusals of `OPEN_WIRE` and `SET_BALANCE` are log 29. -/
def Obligations.NodeCommands : Prop := ∀ (s : State) (f : NodeRx) (n : Node), n = s.node f.string f.place.val →
  (heardByNode n f 0x01 1 → n.addressed f = true → ∃ m, exec (.rollCallA f) s = .next (s.setNode f.string f.place.val m) ∧
    m.position = some (f.field 0 1) ∧ m.passed = f.field 0 1 + 1 ∧
    m.onward = masterFrame f.far 0x01 f.addr f.fcnt (u8 (f.field 0 1 + 1) ++ u8 (f.field 1 1)) ∧ m.bHop = n.bHop ∧
    m.acc = (n.acc + 1) % 64 ∧ m.acceptedAt = s.now ∧ m.held = n.held ∧ (m.reply.drop 4).take 8 = n.identity f.place) ∧
  (heardByNode n f 0x02 1 → n.addressed f = true → ∃ m, exec (.rollCallB f) s = .next (s.setNode f.string f.place.val m) ∧
    m.bHop = some (f.field 0 1) ∧ m.passed = f.field 0 1 + 1 ∧
    m.onward = masterFrame f.far 0x02 f.addr f.fcnt (u8 (f.field 0 1 + 1) ++ u8 (f.field 1 1)) ∧ m.position = n.position ∧
    m.acc = (n.acc + 1) % 64 ∧ m.held = n.held ∧ (m.reply.drop 4).take 8 = n.identity f.place) ∧
  (heardByNode n f 0x03 0 → n.position = some f.addr → f.addr ≠ 0x3F → ∃ m, exec (.hopEcho f) s = .next (s.setNode f.string f.place.val m) ∧
    m.position = n.position ∧ m.bHop = n.bHop ∧ m.acc = (n.acc + 1) % 64 ∧ (m.reply.drop 4).take 8 = n.identity f.place) ∧
  (heardByNode n f 0x05 0 → n.position = some f.addr → f.addr ≠ 0x3F → ∃ m, exec (.continuity f) s = .next (s.setNode f.string f.place.val m) ∧
    m.position = n.position ∧ m.bHop = n.bHop ∧ m.acc = (n.acc + 1) % 64 ∧ (m.reply.drop 4).take 8 = n.identity f.place) ∧
  (heardByNode n f 0x7F 0 → n.addressed f = true → ∃ m, exec (.nop f) s = .next (s.setNode f.string f.place.val m) ∧ m.serve = none ∧
    m.serveNext = none ∧ m.prevAt = none ∧ m.strobe = none ∧ m.latched = false ∧ m.position = n.position ∧ m.acc = (n.acc + 1) % 64 ∧
    m.reply = n.reply) ∧
  (∀ p, heardByNode n f 0x04 3 → n.addressed f = true → n.position = some p → f.field 0 1 ≤ p → p ≤ f.field 1 1 →
    ∃ m, exec (.setServe f) s = .next (s.setNode f.string f.place.val m) ∧
    m.serveNext = some ⟨if f.field 2 1 = 2 then .b else .a, f.field 3 1, f.field 4 2, f.field 0 1, f.field 1 1⟩ ∧ m.serve = n.serve ∧
    m.acc = (n.acc + 1) % 64 ∧ m.reply = n.reply) ∧
  (∀ opn, heardByNode n f 0x22 1 → n.position = some f.addr → f.addr ≠ 0x3F → ∃ m, exec (.openWire f opn) s = .next (s.setNode f.string f.place.val m) ∧
    (∀ oneBit, oneBit = ((List.range 16).any fun j => decide (f.field 0 2 = 2 ^ j)) →
      m.openWire = (if f.place = 0 ∨ oneBit = false then n.openWire else opn) ∧
      (m.reply.drop 4).take 2 = u8 f.cmd ++ u8 (if f.place = 0 then 2 else if oneBit = false then 1 else 0)) ∧
    m.mask = n.mask ∧ m.acc = (n.acc + 1) % 64) ∧
  (heardByNode n f 0x30 1 → n.position = some f.addr → f.addr ≠ 0x3F → ∃ m, exec (.setBalance f) s = .next (s.setNode f.string f.place.val m) ∧
    m.mask = (if f.place = 0 ∨ n.camp = true then n.mask else f.field 0 2) ∧
    m.balStopped = (if f.place = 0 ∨ n.camp = true then n.balStopped else false) ∧ m.filter = n.filter ∧ m.acc = (n.acc + 1) % 64 ∧
    (m.reply.drop 4).take 2 = u8 f.cmd ++ u8 (if f.place = 0 ∨ n.camp = true then 2 else 0)) ∧
  (heardByNode n f 0x31 1 → n.position = some f.addr → f.addr ≠ 0x3F → ∃ m, exec (.setFilter f) s = .next (s.setNode f.string f.place.val m) ∧
    m.filter = (if f.place = 0 ∨ 4 < f.field 0 1 then n.filter else f.field 0 1) ∧ m.mask = n.mask ∧ m.acc = (n.acc + 1) % 64 ∧
    (m.reply.drop 4).take 2 = u8 f.cmd ++ u8 (if f.place = 0 then 2 else if 4 < f.field 0 1 then 1 else 0)) ∧
  (heardByNode n f 0x32 3 → n.addressed f = true → ∃ m, exec (.setConfig f) s = .next (s.setNode f.string f.place.val m) ∧
    m.commLoss = f.field 0 2 ∧ m.bcFields = f.field 2 4 ∧ m.configDefault = false ∧ m.mask = n.mask ∧ m.acc = (n.acc + 1) % 64 ∧
    (if f.addr = 0x3F then m.reply = n.reply else (m.reply.drop 4).take 2 = u8 f.cmd ++ u8 0)) ∧
  (heardByNode n f 0x40 1 → n.addressed f = true → f.place ≠ 0 → (f.field 1 1).testBit 0 = true →
    ∃ m, exec (.baseCamp f) s = .next (s.setNode f.string f.place.val m) ∧ m.camp = true ∧ m.switched = false ∧ m.mask = 0 ∧
    m.bcTemp = toSigned 8 (f.field 0 1) ∧ m.tones = 0 ∧ m.acc = (n.acc + 1) % 64 ∧ m.reply = n.reply)

/-- The trigger, the strobe, the recess and the reads (05 R143, R144, R149, R152, R155, R159, 04 R110, R111). -/
def Obligations.NodeTraverse : Prop := ∀ (s : State) (f : NodeRx) (n : Node), n = s.node f.string f.place.val →
  (heardByNode n f 0x10 3 → n.addressed f = true →
    ∃ m, exec (.trigger f) s = .next (s.setNode f.string f.place.val m) ∧
    m.serve = n.serving ∧ m.serveNext = none ∧ m.latched = false ∧ m.permit = (f.field 3 1).testBit 0 ∧ m.recess = f.field 2 1 ∧ m.held = n.held ∧
    (∀ v h, n.serving = some v → n.hopFrom v.end_ = some h → m.reply = n.reply ∧
      m.strobe = some { at_ := s.now + (v.deep - h) * v.delay, number := f.field 0 2, slow := (f.field 3 1).testBit 1,
                        permit := (f.field 3 1).testBit 0, back := 13000 + (v.deep + 1) * v.delay }) ∧
    (n.serving = none → m.strobe = none ∧ m.tag = n.tag ∧ (m.reply.drop 4).take 32 = heldBytes n.held (f.place.val = 0))) ∧
  (∀ history temps hk hot k, n.strobe = some k → k.at_ ≤ s.now →
    ∃ m, exec (.latchStrobe f.string f.place history temps hk hot) s = .next (s.setNode f.string f.place.val m) ∧
    (∀ sample, sample = recover history k.back →
      m.held = { sample with iMean := n.meanOf sample (k.at_ - k.back) } ∧ (n.prevAt = none → m.held.iMean = sample.iLatch)) ∧
    m.latched = true ∧ m.tag = k.number % 256 ∧ m.prevAt = some (k.at_ - k.back) ∧ m.strobe = none ∧ m.switched = (n.permit && !n.balStopped && !n.camp) ∧ m.mask = n.mask ∧ m.hot = hot ∧
    (k.slow = true → f.place ≠ 0 → m.temps = temps.take 32 ∧ m.hk = hk.take 16 ∧ m.slowTag = k.number % 256) ∧
    (k.slow = false ∨ f.place = 0 → m.temps = n.temps ∧ m.hk = n.hk ∧ m.slowTag = n.slowTag)) ∧
  (f.place ≠ 0 → n.nextAt ≤ s.now + n.recess * 100000 + us 2 → exec (.recessStart f.string f.place) s =
    .next (s.setNode f.string f.place.val { n with balActive := n.wasOn || (n.switched && n.mask ≠ 0), wasOn := false, switched := false })) ∧
  (heardByNode n f 0x11 1 → n.inRange f = true →
    ∃ m, exec (.readHeld f) s = .next (s.setNode f.string f.place.val m) ∧ m.held = n.held ∧ m.acc = (n.acc + 1) % 64 ∧
    (m.reply.drop 3).take 33 = u8 n.tag ++ heldBytes n.held (f.place.val = 0)) ∧
  (heardByNode n f 0x20 1 → n.inRange f = true → f.place ≠ 0 →
    ∃ m, exec (.readTemp f) s = .next (s.setNode f.string f.place.val m) ∧ m.temps = n.temps ∧ m.acc = (n.acc + 1) % 64 ∧
    (m.reply.drop 3).take 65 = u8 n.slowTag ++ ((List.range 32).map fun j => i16 (n.temps.getD j 0)).flatten) ∧
  (heardByNode n f 0x21 1 → n.inRange f = true → f.place ≠ 0 →
    ∃ m, exec (.readHk f) s = .next (s.setNode f.string f.place.val m) ∧ m.hk = n.hk ∧ m.acc = (n.acc + 1) % 64 ∧
    (m.reply.drop 3).take 33 = u8 n.slowTag ++ ((List.range 16).map fun j => u16 (n.hk.getD j 0)).flatten)

/-- A node on its own: the communication-loss timeout, the wakes of base camp, the tones and a restart (04 R107, R136, 06 R184, R185; that
a tone starts the communication-loss timeout again is the model's choice, log 140); and nodes are apart: what one becomes leaves every
other as it was. -/
def Obligations.NodeOnItsOwn : Prop := ∀ (s : State) (i : Fin 40) (p : Fin 33) (n : Node), n = s.node i p.val →
  (p ≠ 0 → n.camp = false → n.acceptedAt + ms (100 * n.commLoss) ≤ s.now →
    exec (.commLossTimeout i p) s = .next (s.setNode i p.val
      { n with wasOn := n.wasOn || (n.switched && n.mask ≠ 0), switched := false, balStopped := true })) ∧
  (∀ cells temps, p ≠ 0 → n.camp = true → n.tones < 3 → n.toneDue = none → n.violates cells temps = true →
    ∃ m, exec (.baseCampWakeMeasure i p cells temps) s = .next (s.setNode i p.val m) ∧ m.camp = true ∧
    (n.suspect = none → m = { n with suspect := some s.now }) ∧
    (∀ t0, n.suspect = some t0 → s.now < t0 + ms 100 → m = n) ∧
    (∀ t0, n.suspect = some t0 → t0 + ms 100 ≤ s.now → m.wakePending = true ∧ m.toneDue = some s.now ∧ m.tones = 0 ∧ m.suspect = none)) ∧
  (∀ cells temps, p ≠ 0 → n.camp = true → 3 ≤ n.tones → exec (.baseCampWakeMeasure i p cells temps) s = .next (s.setNode i p.val
    (if n.violates cells temps then { n with toneDue := some s.now } else { n with tones := 0, toneDue := none }))) ∧
  (∀ due, n.toneDue = some due → due ≤ s.now → n.camp = true → ∃ m, exec (.wakeToneSend i p) s = .next (s.setNode i p.val m) ∧
    (n.tones = 0 → m = { n with tones := 1, tone := 3, heard := false, toneDue := some (s.now + sec 1) }) ∧
    (1 ≤ n.tones → n.tones < 3 → n.heard = true → m = { n with tones := 3, toneDue := none }) ∧
    (n.tones = 1 → n.heard = false → m = { n with tones := 2, tone := 3, toneDue := some (s.now + sec 1) }) ∧
    (n.tones = 2 → n.heard = false → m = { n with tones := 3, tone := 3, toneDue := none })) ∧
  (∀ e : PortEnd, n.deafUntil ≤ s.now → ∃ m, exec (.wakeToneRepeat i p e) s = .next (s.setNode i p.val m) ∧ m.camp = false ∧ m.tones = 0 ∧
    m.toneDue = none ∧ m.tone = 2 ^ e.other.bit ∧ m.deafUntil = s.now + us 1900 + ms 50 ∧ m.held = n.held) ∧
  (∀ selfFail, exec (.nodeRestart i p selfFail) s = .next (s.setNode i p.val
    { Node.reset with issue := n.issue, serial := n.serial, version := n.version, acceptedAt := s.now, selfFail := selfFail })) ∧
  (∀ m, (s.setNode i p.val m).node i p.val = m ∧
    ∀ (j : Fin 40) (q : Fin 33), j ≠ i ∨ q ≠ p → (s.setNode i p.val m).node j q.val = s.node j q.val)

/-! ## Balancing and base camp (06) -/

/-- The balancing writes, the hold of `DIRECTED` and the open-wire tests (06 R172, R176, R179, R180); the commands of base camp complete with
what each sets first (06 R181, R182, R186 to R188, 02 R63). -/
def Obligations.Balancing : Prop := ∀ s : State,
  (∀ src v, s.admits src blockObj 0x0060 (u8 v) → ∃ t, exec (.balModeWrite src v) s = .next t ∧ t.bal.modeNext = some v ∧
    t.bal.mode = s.bal.mode ∧ t.bal.sent = s.bal.sent ∧ t.val blockObj 0x0060 = v ∧ t.lastSent = some (.writeReply src blockObj 0x0060 1)) ∧
  (∀ src (i : Fin 40) data, s.admits src (strObj i) 0x0061 data → ∃ t, exec (.balMaskReqWrite src i data) s = .next t ∧
    (∀ k : Fin 32, t.val (strObj i) 0x0061 k.val = ofBytes ((data.drop (k.val * 2)).take 2)) ∧
    Sparse.get? t.bal.wroteAt i.val = some s.now ∧ (s.bal.mode ≠ 2 → t.bal.sent = s.bal.sent) ∧
    t.lastSent = some (.writeReply src (strObj i) 0x0061 data.length)) ∧
  (∀ (i : Fin 40) t0, s.fwActs = true → s.bal.mode = 2 → Sparse.get? s.bal.wroteAt i.val = some t0 → t0 + sec (s.val blockObj 0x0065) ≤ s.now →
    ∃ t, exec (.balDirectHoldExpiry i) s = .next t ∧ Sparse.get? t.bal.wroteAt i.val = none ∧
    (∀ k : Fin 32, t.val (strObj i) 0x0061 k.val = 0) ∧ (s.ropes[i].mode ≠ .dark → ∀ p ∈ s.monitorsOf i, t.sentMask i p = 0)) ∧
  (s.fwActs = true → s.trav.running = true → s.bal.owAt + sec (s.val blockObj 0x0066) ≤ s.now →
    ∃ t, exec .openWireTestDue s = .next t ∧ t.bal.owAt = s.now ∧ t.bal.sent = s.bal.sent ∧ t.bal.owMap = s.bal.owMap ∧
    ∀ x, (Sparse.get? t.bal.deferred x).isSome = true →
      Sparse.get? t.bal.deferred x = Sparse.get? s.bal.deferred x ∨ Sparse.get? t.bal.deferred x = some s.now) ∧
  (∀ (i : Fin 40) (p : Fin 33) (j : Fin 16) t0 key m, key = nodeKey i p.val * 16 + j.val → m = s.sentMask i p.val → s.fwActs = true →
    Sparse.get? s.bal.deferred key = some t0 → t0 + sec (s.val blockObj 0x0067) ≤ s.now →
    ∃ t, exec (.owDeferExpiry i p j) s = .next t ∧ Sparse.get? t.bal.deferred key = none ∧
    (Sparse.getD t.bal.owDue (nodeKey i p.val) 0).testBit j.val = true ∧
    (s.ropes[i].mode ≠ .dark →
      t.sentMask i p.val = clearBits m (pairsAbove (m ||| s.activeMask i p.val) j.val))) ∧
  (∀ src, s.admits src blockObj 0x0070 (u8 1) → s.campRefusal = none → s.bal.entering = false → ∃ t, exec (.baseCampEnterReq src) s = .next t ∧
    ∀ i : Fin 40, t.ropes[i].permit = false) ∧
  (∀ src core gates, s.admits src blockObj 0x0070 (u8 0) → s.mode.block = .baseCamp → s.bal.exiting = false →
    ∃ t, exec (.baseCampLeaveReq src core gates) s = .next t ∧ t.bal.exiting = true ∧ t.bal.wakeCause = 3) ∧
  (∀ (i : Fin 40) e core gates, s.strs[i].installed = true → (s.ropes[i].port e).failed = false → s.mode.block = .baseCamp →
    s.bal.exiting = false → ∃ t, exec (.wakeToneDetected i e core gates) s = .next t ∧ t.bal.exiting = true ∧ t.bal.wakeCause = 1) ∧
  (∀ core gates, ∃ t, exec (.wakeInRise core gates) s = .next t ∧ t.supply.wakeIn = true) ∧
  (exec .wakeInFall s = .next (s.modSupply fun p => { p with wakeIn := false })) ∧
  (s.mode.block = .baseCamp → s.bal.exiting = true → s.fwActs = true → s.rollCallsDone = true → s.trav.slowDone = true →
    ∃ t, exec .baseCampExitComplete s = .next t ∧ t.mode.block = .standby ∧ t.bal.exiting = false) ∧
  (∀ src v, s.admits src blockObj 0x0076 (u8 v) → ∃ t, exec (.wakeOutAck src v) s = .next t ∧ t.val blockObj 0x0076 = v % 8)

/-- Into base camp and out of it (06 R181, R182, R186 to R188; 20 Table 20-4). -/
def Obligations.BaseCampPasses : Prop := ∀ s : State,
  (∀ src, s.admits src blockObj 0x0070 (u8 1) → s.campRefusal = none → s.bal.entering = false → s.fwActs = true →
    ∃ t, exec (.baseCampEnterReq src) s = .next t ∧ (∀ i : Fin 40, t.ropes[i].permit = false) ∧
    t.lastSent = some (.writeReply src blockObj 0x0070 1) ∧
    (t.store.writing.isSome = true → t.bal.entering = true ∧ t.mode.block = .standby ∧ t.strs = s.strs) ∧
    (t.store.writing = none → t.mode.block = .baseCamp ∧ t.start.gateRails = false ∧ t.trav.running = false ∧ t.bal.sent = [] ∧
      t.therm.level = 0 ∧ (∀ i : Fin 40, t.strs[i].pass = none) ∧ t.cans[2].onBus = false ∧ ∀ k : Fin 2, t.eths[k].up = false)) ∧
  (∀ img reason (k : Nat) (h : k < 3), s.store.writing = some (img, reason, k) → s.bal.entering = true → s.mode.block = .standby → s.supply.pfw = false →
    s.fwActs = true → ∃ t, exec .learnedCopyWritten s = .next t ∧ t.store.copies[k] = img ∧ (t.store.writing = none → t.mode.block = .baseCamp)) ∧
  (∀ src core gates, s.admits src blockObj 0x0070 (u8 0) → s.mode.block = .baseCamp → s.bal.exiting = false →
    ∃ t, exec (.baseCampLeaveReq src core gates) s = .next t ∧ t.mode.block = .baseCamp ∧ t.bal.exiting = true ∧ t.bal.wakeCause = 3 ∧
    t.start.gateRails = true ∧ (∀ i : Fin 40, s.strs[i].installed = true → t.ropes[i].rollCall = 1) ∧
    t.lastSent = some (.writeReply src blockObj 0x0070 1)) ∧
  (∀ (i : Fin 40) e core gates, s.strs[i].installed = true → (s.ropes[i].port e).failed = false → s.mode.block = .baseCamp →
    s.bal.exiting = false → ∃ t, exec (.wakeToneDetected i e core gates) s = .next t ∧ t.mode.block = .baseCamp ∧ t.bal.exiting = true ∧
    t.bal.wakeCause = 1 ∧ t.start.gateRails = true ∧ ∀ j : Fin 40, s.strs[j].installed = true → t.ropes[j].rollCall = 1) ∧
  (∀ core gates, ∃ t, exec (.wakeInRise core gates) s = .next t ∧ t.supply.wakeIn = true ∧ t.mode.block = s.mode.block ∧
    (s.mode.block = .baseCamp → s.bal.exiting = false → t.bal.exiting = true ∧ t.bal.wakeCause = 2 ∧ t.start.gateRails = true) ∧
    (s.mode.block ≠ .baseCamp → t.bal = s.bal ∧ t.ropes = s.ropes ∧ t.gates = s.gates)) ∧
  (∃ t, exec .wakeInFall s = .next t ∧ t.supply.wakeIn = false ∧ t.mode = s.mode ∧ t.bal = s.bal) ∧
  (s.mode.block = .baseCamp → s.bal.exiting = true → s.fwActs = true → s.rollCallsDone = true → s.trav.slowDone = true →
    ∃ t, exec .baseCampExitComplete s = .next t ∧ t.mode.block = .standby ∧ t.bal.exiting = false ∧ t.strs = s.strs) ∧
  (∀ src v, s.admits src blockObj 0x0076 (u8 v) → ∃ t, exec (.wakeOutAck src v) s = .next t ∧ t.val blockObj 0x0076 = v % 8 ∧
    (v.testBit 7 = true → s.bal.wakeHeld.isSome = true → t.bal.wakeAck = true) ∧ (v.testBit 7 = false → t.bal = s.bal) ∧
    t.supply.wakeOut = s.supply.wakeOut ∧ t.lastSent = some (.writeReply src blockObj 0x0076 1))

/-! ## Ripple, estimation and the learned copies (07, 08, 17) -/

/-- The correlation engine's batches and the self-discharge window (07 R196 to R200, R205). -/
def Obligations.Batches : Prop := ∀ s : State,
  (∀ n, s.corr.next = some n → s.start.fw ≠ .down →
    s.trav.bufs[bufOf n].used = true → s.trav.bufs[bufOf n].number = n → s.trav.bufs[bufOf n].published = true →
    ∃ t, exec .correlationUpdate s = .next t ∧ t.corr.next = some ((n + 1) % 2 ^ 32) ∧ t.corr.teff = s.trav.bufs[bufOf n].period ∧
      (s.batchFull = false → s.trav.bufs[bufOf n].period = s.corr.teff →
        t.corr.count = s.corr.count + 1 ∧ t.corr.first = some (s.corr.first.getD n) ∧ t.corr.area = s.corr.area)) ∧
  (s.batchFull = true → ∃ t, exec .batchHandover s = .next t ∧ t.corr.count = 0 ∧ t.corr.first = none ∧
    t.corr.enabled = (s.val blockObj 0x0100 == 1) ∧
    (s.corr.enabled = true → s.val blockObj 0x0100 = 1 → t.corr.number = (s.corr.number + 1) % 2 ^ 32 ∧
      (s.corr.taken = true → t.corr.ready = true ∧ t.corr.taken = false ∧ t.corr.discarded = 0 ∧
        ∃ g, t.corr.area = some g ∧ g.number = s.corr.number ∧ g.count = s.corr.count ∧ g.discarded = s.corr.discarded) ∧
      (s.corr.taken = false → t.corr.area = s.corr.area ∧ t.corr.lost = (if s.corr.heldBatch.isNone then s.corr.lost else sat32 s.corr.lost) ∧
        ∃ g, t.corr.heldBatch = some g ∧ g.number = s.corr.number)) ∧
    (s.corr.enabled = false ∨ s.val blockObj 0x0100 ≠ 1 → t.corr.number = s.corr.number ∧ t.corr.area = s.corr.area)) ∧
  (s.fwActs = true → s.corr.ready = true → s.corr.taken = false → ∃ t, exec .resultTaken s = .next t ∧ t.corr.heldBatch = none ∧
    (s.corr.heldBatch = none → t.corr.taken = true ∧ t.corr.area = s.corr.area) ∧
    (∀ g, s.corr.heldBatch = some g → t.corr.taken = false ∧ t.corr.ready = true ∧ ∃ a, t.corr.area = some a ∧ a.number = g.number ∧
      a.count = g.count ∧ a.strs = g.strs ∧ a.cells = g.cells ∧ a.charge = g.charge ∧ a.discarded = s.corr.discarded)) ∧
  (∀ src v, s.admits src blockObj 0x0100 (u8 v) → ∃ t, exec (.corrEnableWrite src v) s = .next t ∧ t.val blockObj 0x0100 = v ∧
    t.corr = s.corr ∧ t.lastSent = some (.writeReply src blockObj 0x0100 1)) ∧
  (s.fwActs = true → s.corr.sdAt + sec (3600 * s.val blockObj 0x010B) ≤ s.now → ∃ t, exec .sdWindowEnd s = .next t ∧ t.corr.sdAt = s.now ∧
    t.corr.sdCount = 0 ∧ t.corr.sdSeen = [] ∧ t.corr.area = s.corr.area ∧ t.est = s.est)

/-- The estimator's step and the write-back of what it learned (08 R216, R233, 17 R453). -/
def Obligations.EstimatorAndLearned : Prop := ∀ s : State,
  (∀ erases p, s.fwActs = true → s.est.running = true → s.nextStep = some p → ∃ t, exec (.estimatorStep erases) s = .next t ∧
    t.est.last = some p.at_ ∧ t.est.writeReq = false ∧
    (∀ k : Fin 3, t.health.flashErase[k] = max s.health.flashErase[k] erases[k]) ∧
    (∀ i : Fin 40, s.strs[i].state = .excluded → t.est.strs[i].lim = [0, 0, 0, 0]) ∧ t.strs = s.strs ∧ t.gates = s.gates) ∧
  (∀ src v, s.admits src blockObj 0x0120 (u8 v) → ∃ t, exec (.learnWriteReq src v) s = .next t ∧ t.est.writeReq = true ∧
    t.store.copies = s.store.copies ∧ t.lastSent = some (.writeReply src blockObj 0x0120 1)) ∧
  (s.fwActs = true → s.est.running = true → s.store.periodic + sec 21600 ≤ s.now → ∃ t, exec .learnWritebackPeriodic s = .next t ∧
    t.store.periodic = s.store.periodic + sec 21600 ∧ t.store.copies = s.store.copies ∧ t.est = s.est) ∧
  (∀ img reason k (h : k < 3), s.store.writing = some (img, reason, k) → ∃ t, exec .learnedCopyWritten s = .next t ∧ t.store.copies[k] = img ∧
    t.store.slotAt[k] = some s.now ∧ (∀ j (_ : j < 3), j ≠ k → t.store.copies[j] = s.store.copies[j]))

/-! ## The CAN FD controllers (13) -/

/-- Writes to message objects, bit timing, mode and the fault commands (13 R353, R355, R359, R361, R367, R370, R372, R374), and when the bus
commands that answer them complete (13 R360, R369, R370, R374). -/
def Obligations.CanWrites : Prop := ∀ (s : State) (src : Src) (k : Fin 3),
  (∀ v, s.admits src (canObj k) 0x000C (u8 v) → moValid (s.moCfg k v) = true → moSend (s.moCfg k v) = true → moTt (s.moCfg k v) = false →
    (s.crossing k).length < 16 → ∃ t, exec (.moTxReq src k v) s = .next t ∧
    t.mo k v = (if (s.mo k v).clashOff = true then s.mo k v else { s.mo k v with pending := true }) ∧
    (∀ o, o ≠ v → t.mo k o = s.mo k o) ∧ t.lastSent = some (.writeReply src (canObj k) 0x000C 1)) ∧
  (∀ v, s.admits src (canObj k) 0x000D (u8 v) → (s.crossing k).length < 16 → ∃ t, exec (.moCancel src k v) s = .next t ∧
    t.mo k v = (if (s.mo k v).active = true then { s.mo k v with cancelReq := true }
      else if (s.mo k v).pending = true then { s.mo k v with pending := false, cancelReq := false, cancelled := true } else s.mo k v) ∧
    (∀ o, o ≠ v → t.mo k o = s.mo k o) ∧ t.lastSent = some (.writeReply src (canObj k) 0x000D 1)) ∧
  (∀ (o : Fin 128) data, s.admits src (0x1830 + k.val) (o.val + 1) data → moSend (s.moCfg k o.val) = true → (data.getD 4 0x00#8).toNat ≤ 15 →
    ∃ t, exec (.moDataWrite src k o data) s = .next t ∧ (∀ q, q ≠ o.val → t.mo k q = s.mo k q) ∧
    ((s.mo k o.val).active = false → (t.mo k o.val).data = data ∧ moDlc (t.moCfg k o.val) = (data.getD 4 0x00#8).toNat) ∧
    ((s.mo k o.val).active = true → t.mo k o.val = { s.mo k o.val with next := some data })) ∧
  (∀ (o : Fin 128) w, s.admits src (0x1810 + k.val) (o.val + 1) (u64 w) → (s.mo k o.val).pending = false → (s.mo k o.val).active = false →
    (moBrs w = true → moFd w = true) → bits w 50 29 = 0 →
    (moSafe w = true → k ≠ 2 ∧ moSend w = true ∧ ∀ q < 128, q ≠ o.val → moSafe (s.moCfg k q) = false) →
    ∃ t, exec (.moCfgWrite src k o w) s = .next t ∧ t.moCfg k o.val = w ∧ (∀ q, q ≠ o.val → t.mo k q = s.mo k q) ∧
    t.mo k o.val = { s.mo k o.val with nd := false, lost := false, sent := false, cancelled := false, ttMissed := false }) ∧
  (∀ fast w, s.admits src (canObj k) (if fast then 4 else 3) (u32 w) →
    timingOk (if fast then s.val (canObj k) 3 else w) (if fast then w else s.val (canObj k) 4) = true →
    ∃ t, exec (.bitTimingWrite src k fast w) s = .next t ∧ t.val (canObj k) (if fast then 4 else 3) = w ∧ t.cans[k].cfgPending = true ∧
    t.cans[k].nominal = s.cans[k].nominal ∧ t.cans[k].dataRate = s.cans[k].dataRate ∧ t.cans[k].mode = s.cans[k].mode) ∧
  (∀ m, s.admits src (canObj k) 1 (u8 m) → (m = 1 → s.ttOk k = true) → ∀ busy, ∃ t, exec (.canMode src k m busy) s = .next t ∧ t.val (canObj k) 1 = m ∧
    (s.cans[k].bus ≠ .busOff → s.onWire k = none → busy = false → t.cans[k].mode = m ∧ t.cans[k].modeNext = none ∧ t.cans[k].onBus = true ∧
      t.cans[k].bus = .integrating ∧ t.cans[k].cfgPending = false ∧ t.cans[k].nominal = s.val (canObj k) 3 ∧
      t.cans[k].dataRate = s.val (canObj k) 4 ∧ t.cans[k].node = s.val (canObj k) 2) ∧
    (s.cans[k].bus = .busOff ∨ s.onWire k ≠ none ∨ busy = true → t.cans[k].mode = s.cans[k].mode ∧ t.cans[k].modeNext = some m ∧
      t.cans[k].bus = s.cans[k].bus)) ∧
  (∀ v, s.admits src (canObj k) 7 (u8 v) → s.cans[k].bus = .busOff → ∃ t, exec (.busoffRecover src k v) s = .next t ∧
    t.cans[k].recovering = true ∧ t.cans[k].bus = .busOff ∧ t.cans[k].tec = s.cans[k].tec) ∧
  (∀ v, s.admits src (canObj k) 9 (u8 v) → ∃ t, exec (.dupClear src k v) s = .next t ∧ t.cans[k].dupNode = false ∧
    ∀ o, t.mo k o = { s.mo k o with clashOff := false }) ∧
  (∀ o < 128, s.canSends k = true → s.onWire k = none → s.winner k (s.offers k) = some o → ∃ t, exec (.canStartOfFrame k) s = .next t ∧
    (t.mo k o).active = true) ∧
  (∀ o < 128, s.onWire k = some o → ∃ t, exec (.canTransmitEnd k .success) s = .next t ∧ (t.mo k o).sent = true) ∧
  (∀ kind tx rx, s.cans[k].onBus = true → s.cans[k].bus = .active → s.cans[k].mode ≠ 2 → ∃ t, exec (.canError k kind tx rx none) s = .next t ∧
    t.cans[k].tec = s.cans[k].tec + tx) ∧
  (s.cans[k].onBus = true → s.cans[k].bus = .active → s.cans[k].modeNext = none → ∃ t, exec (.protocolException k) s = .next t ∧
    t.cans[k].bus = .integrating) ∧
  (s.cans[k].onBus = true → s.cans[k].bus = .integrating → ∃ t, exec (.canIntegrationComplete k) s = .next t ∧ t.cans[k].bus ≠ .integrating) ∧
  (s.val (canObj k) 8 ≠ 0 → s.fwActs = true → s.cans[k].busOffAt + sec (s.val (canObj k) 8) ≤ s.now → s.cans[k].bus = .busOff →
    ∃ t, exec (.busoffAutoExpiry k) s = .next t ∧ t.cans[k].recovering = true) ∧
  (s.cans[k].bus = .busOff → s.cans[k].recovering = true → ∃ t, exec (.busoffRecovered k) s = .next t ∧ t.cans[k].bus ≠ .busOff)

/-- What a controller does on its bus (13 R351, R356 to R361, R369, R370, R374, Table 13-1); the ISO increments are operands (log 9). -/
def Obligations.CanBus : Prop := ∀ (s : State) (k : Fin 3),
  (∀ o, s.canSends k = true → s.onWire k = none → s.winner k (s.offers k) = some o → ∃ t, exec (.canStartOfFrame k) s = .next t ∧
    (o = 128 → t.cans = upd s.cans k (fun c => { c with dictActive := true }) ∧ ∀ f rest, s.cans[k].dictOut = f :: rest →
      t.lastSent = some (.canFrame k.val (f.1 + 2 ^ 29) true true s.cans[k].esi f.2)) ∧
    (o ≠ 128 → t.cans = (s.modMo k o fun m => { m with active := true, oneShot := false }).cans ∧
      t.lastSent = some (.canFrame k.val (moId (s.moCfg k o) + bitAt (moExt (s.moCfg k o)) 29) (moFd (s.moCfg k o)) (moBrs (s.moCfg k o))
        (moFd (s.moCfg k o) && decide (s.cans[k].bus = .passive)) (s.moBytes k o)))) ∧
  (∀ e o, s.onWire k = some o → ∃ t, exec (.canTransmitEnd k e) s = .next t ∧
    (e = .success → t.cans[k].counts[1] = sat32 s.cans[k].counts[1] ∧ t.cans[k].tec = s.cans[k].tec - 1 ∧
      (s.cans[k].modeNext = none → t.cans[k].bus = (if 128 ≤ s.cans[k].tec - 1 ∨ 128 ≤ s.cans[k].rec_ then .passive else .active))) ∧
    (e = .lost → t.cans[k].counts[8] = sat32 s.cans[k].counts[8] ∧ t.cans[k].tec = s.cans[k].tec) ∧
    (o = 128 → t.cans[k].dictActive = false ∧ t.cans[k].dictOut = (if e = .success then s.cans[k].dictOut.drop 1 else s.cans[k].dictOut)) ∧
    (o = 129 → t.cans[k].refActive = false ∧ (s.cans[k].modeNext = none → (e = .success → t.cans[k].refOut = none ∧ t.cans[k].master = true ∧
      t.cans[k].backup = false ∧ t.cans[k].sync = true) ∧ (e ≠ .success → t.cans[k].refOut = s.cans[k].refOut))) ∧
    (o < 128 → (t.mo k o).active = false ∧ (e = .success → (t.mo k o).pending = false ∧ (t.mo k o).sent = true) ∧
      (e ≠ .success → (s.mo k o).cancelReq = true → (t.mo k o).pending = false ∧ (t.mo k o).cancelled = true) ∧
      (e ≠ .success → (s.mo k o).cancelReq = false → (t.mo k o).pending = ((s.mo k o).pending && !(s.mo k o).oneShot)))) ∧
  (∀ kind tx rx clash, s.cans[k].onBus = true → s.cans[k].bus = .active ∨ s.cans[k].bus = .passive →
    ∃ t, exec (.canError k kind tx rx clash) s = .next t ∧ t.cans[k].counts[2] = sat32 s.cans[k].counts[2] ∧
    (s.cans[k].mode = 2 → t.cans[k].tec = s.cans[k].tec ∧ t.cans[k].rec_ = s.cans[k].rec_ ∧
      (s.cans[k].modeNext = none → t.cans[k].bus = s.cans[k].bus)) ∧
    (s.cans[k].mode ≠ 2 → t.cans[k].tec = s.cans[k].tec + tx ∧ t.cans[k].rec_ = min 255 (s.cans[k].rec_ + rx) ∧
      (255 < s.cans[k].tec + tx → t.cans[k].bus = .busOff ∧ t.cans[k].busOffAt = s.now ∧ t.cans[k].sync = false) ∧
      (s.cans[k].modeNext = none → s.cans[k].tec + tx ≤ 255 → 128 ≤ s.cans[k].tec + tx ∨ 128 ≤ s.cans[k].rec_ + rx → t.cans[k].bus = .passive) ∧
      (s.cans[k].modeNext = none → s.cans[k].tec + tx < 128 → s.cans[k].rec_ + rx < 128 → t.cans[k].bus = s.cans[k].bus))) ∧
  (s.cans[k].onBus = true → s.cans[k].bus = .active ∨ s.cans[k].bus = .passive → s.cans[k].modeNext = none →
    ∃ t, exec (.protocolException k) s = .next t ∧ t.cans = upd s.cans k fun c => { c with bus := .integrating }) ∧
  (s.cans[k].onBus = true → s.cans[k].bus = .integrating → ∃ u : State,
    u = s.modCan k (fun c => { c with bus := if 128 ≤ c.tec ∨ 128 ≤ c.rec_ then .passive else .active, announce := false }) ∧
    exec (.canIntegrationComplete k) s = .next (if s.cans[k].announce = true then u.canEvent k 0x800C 0 (u8 s.cans[k].mode) else u)) ∧
  (s.val (canObj k) 8 ≠ 0 → s.fwActs = true → s.cans[k].busOffAt + sec (s.val (canObj k) 8) ≤ s.now → s.cans[k].bus = .busOff →
    ∃ t, exec (.busoffAutoExpiry k) s = .next t ∧ t.cans = upd s.cans k fun c => { c with recovering := true }) ∧
  (s.cans[k].bus = .busOff → s.cans[k].recovering = true → ∃ t, exec (.busoffRecovered k) s = .next t ∧ t.cans[k].tec = 0 ∧
    t.cans[k].rec_ = 0 ∧ t.cans[k].recovering = false ∧ (s.cans[k].modeNext = none → t.cans[k].bus = .active ∧ t.cans[k].mode = s.cans[k].mode) ∧
    (∀ m, s.cans[k].modeNext = some m → s.onWire k = none → t.cans[k].bus = .integrating ∧ t.cans[k].mode = m))

/-- A frame received (01 Table 1-6, 12 R343, 13 R351, R356, R357, R358): a full queue counts it only; behind a frame that waits it queues; else
the safe-message path takes it where it wants it, and the first enabled element that matches names the object that stores it. Frames that are
no dictionary message (base identifier) are spoken of; `CanRx.block` is the block of Table 13-8 with the tick of the start of frame. -/
def Obligations.CanFrames : Prop := ∀ (s : State) (k : Fin 3) (f : CanFrame), s.cans[k].onBus = true →
  s.cans[k].bus = .active ∨ s.cans[k].bus = .passive →
  (∀ before own, 32 ≤ s.cans[k].rxQ.length → ∃ t, exec (.canFrameReceived k f before own) s = .next t ∧
    t.cans[k].counts[9] = sat32 s.cans[k].counts[9] ∧ t.cans[k].objs = s.cans[k].objs ∧ t.cans[k].counts[0] = s.cans[k].counts[0] ∧
    t.cans[k].rxQ = s.cans[k].rxQ) ∧
  (∀ before own x rest, s.cans[k].rxQ = x :: rest → rest.length < 31 → s.safeWaits k x = true →
    ∃ t, exec (.canFrameReceived k f before own) s = .next t ∧ t.cans[k].counts[0] = sat32 s.cans[k].counts[0] ∧
    t.cans[k].objs = s.cans[k].objs ∧ t.cans[k].rxQ = s.cans[k].rxQ ++ [⟨f, s.sysTicks - before, own⟩]) ∧
  (∀ before own, s.cans[k].rxQ = [] → f.ext = false → s.safeWants k f = true → s.safeWaits k ⟨f, s.sysTicks - before, own⟩ = false →
    ∃ t, exec (.canFrameReceived k f before own) s = .next t ∧ t.cans[k].rxQ = [] ∧ ∃ fr, t.trav.portQ = s.trav.portQ ++ [fr] ∧
    fr.bytes = u32 f.id ++ framePayload f ∧ fr.head.owner = 4 + k.val) ∧
  (∀ before own n o, s.cans[k].rxQ = [] → s.safeWaits k ⟨f, s.sysTicks - before, own⟩ = false → f.ext = false → f.remote = false → ((List.range 256).find? fun n => s.filterHits k (n + 1) f) = some n →
    (s.val (0x1840 + k.val) (n + 1)).testBit 28 = false → o = bits (s.val (0x1840 + k.val) (n + 1)) 6 0 →
    moValid (s.moCfg k o) = true → moSend (s.moCfg k o) = false → ∃ t, exec (.canFrameReceived k f before own) s = .next t ∧
    t.cans[k].counts[0] = sat32 s.cans[k].counts[0] ∧ (t.mo k o).nd = !(moIrq (s.moCfg k o) && s.fwActs) ∧
    ((s.mo k o).nd = false → (t.mo k o).data = CanRx.block ⟨f, s.sysTicks - before, own⟩ ∧ (t.mo k o).lost = (s.mo k o).lost) ∧
    ((s.mo k o).nd = true → (t.mo k o).lost = true ∧
      (t.mo k o).data = (if (s.moCfg k o).testBit 53 = true then CanRx.block ⟨f, s.sysTicks - before, own⟩ else (s.mo k o).data)))

/-- The timetable (13 R364 to R366): references, the masters, loss of the reference and the marks. -/
def Obligations.Timetable : Prop := ∀ (s : State) (k : Fin 3), s.ttRuns k = true →
  (∀ id cycle quality utc lost, id / 8 = s.refId k / 8 → s.cans[k].modeNext = none → ∃ t, exec (.referenceReceived k id cycle quality utc lost) s = .next t ∧
    t.cans[k].cycle = cycle % 64 ∧ t.cans[k].refAt = s.now ∧ t.cans[k].mark = 0 ∧ (s.val (canObj k) 0x0012 ≠ 1 → t.cans[k].sync = true) ∧
    (s.val (canObj k) 0x0012 = 1 → lost = true → t.cans[k].master = false ∧ t.cans[k].backup = true ∧ t.cans[k].sync = true ∧
      t.cans[k].refOut = none ∧ t.cans[k].refActive = false ∧
      t.cans[k].counts[8] = (if s.cans[k].refActive = true then sat32 s.cans[k].counts[8] else s.cans[k].counts[8])) ∧
    (s.val (canObj k) 0x0012 = 1 → lost = false → t.cans[k].master = s.cans[k].master)) ∧
  (s.canSends k = true → s.val (canObj k) 0x0012 = 1 → s.cans[k].backup = false → s.onWire k = none → s.cans[k].refOut = none →
    s.cans[k].master = false ∨ s.cans[k].refAt + s.bitTimes k (s.ttLen k) ≤ s.now → ∃ t, exec (.referenceSend k) s = .next t ∧
    t.cans[k].refActive = true ∧ t.cans[k].refAt = s.now ∧ t.cans[k].mark = 0 ∧ t.cans[k].master = s.cans[k].master ∧
    t.cans[k].cycle = (if s.cans[k].refAt = 0 then 0 else (s.cans[k].cycle + 1) % max 1 (s.ttCycles k)) ∧
    t.cans[k].refOut = some t.cans[k].cycle ∧ t.lastSent = some (.canFrame k.val (s.refId k) false false false
      (u8 t.cans[k].cycle ++ u8 s.tq ++ beBytes 6 s.utc))) ∧
  (∀ c, s.canSends k = true → s.val (canObj k) 0x0012 = 1 → s.onWire k = none → s.cans[k].refOut = some c → ∃ t,
    exec (.referenceSend k) s = .next t ∧ t.cans[k].refActive = true ∧ t.cans[k].refAt = s.now ∧ t.cans[k].cycle = c ∧
    t.cans[k].refOut = some c) ∧
  (s.canSends k = true → s.cans[k].backup = true → s.cans[k].refOut = none → s.onWire k = none → s.cans[k].refAt + s.bitTimes k (s.ttLen k + (s.refId k % 8 + 1) * 64) ≤ s.now →
    ∃ t, exec (.backupTakeover k) s = .next t ∧ t.cans[k].refActive = true ∧ t.cans[k].backup = true ∧
    t.cans[k].refOut = some t.cans[k].cycle ∧ t.cans[k].refAt = s.now ∧ t.cans[k].cycle = (s.cans[k].cycle + 1) % max 1 (s.ttCycles k)) ∧
  (s.val (canObj k) 0x0012 = 0 → s.cans[k].sync = true → s.cans[k].refAt + s.bitTimes k (s.ttLen k + 512) ≤ s.now →
    ∃ t, exec (.ttSyncLoss k) s = .next t ∧ t.cans = upd s.cans k fun c => { c with sync := false, freeWindow := false }) ∧
  (∀ mark idle j w, s.cans[k].sync = true → s.cans[k].mark < mark → s.cans[k].refAt + s.bitTimes k mark ≤ s.now →
    ((s.usedSlots k).filter fun p => slotMark p.2 = mark && slotActs p.2 s.cans[k].cycle) = [(j, w)] →
    ∃ t, exec (.ttMark k mark idle) s = .next t ∧ t.cans[k].mark = mark ∧ t.cans[k].freeWindow = (slotKind w == 2) ∧
    (slotSends w = true → idle = true → s.canSends k = true → s.onWire k = none → moValid (s.moCfg k (slotObj w)) = true →
      moSend (s.moCfg k (slotObj w)) = true → (s.mo k (slotObj w)).clashOff = false → s.now ≤ s.cans[k].refAt + s.bitTimes k (mark + s.ttWin k) →
      (t.mo k (slotObj w)).active = true ∧ (t.mo k (slotObj w)).oneShot = true ∧ t.cans[k].missed = s.cans[k].missed) ∧
    (slotSends w = true → idle = false ∨ s.cans[k].refAt + s.bitTimes k (mark + s.ttWin k) < s.now → (t.mo k (slotObj w)).ttMissed = true ∧
      t.cans[k].missed = upd s.cans[k].missed (Fin.ofNat 32 j) sat32))

/-! ## The dictionary (14) -/

/-- Reads (14 R381 to R384, R386, 17 R448, R458): the first answer carries the value's first bytes, a later one the next of the same copy;
the bytes of the service port are framed and checked, and a frame that is not sound brings nothing. -/
def Obligations.Reads : Prop := ∀ (s : State) (src : Src), s.holding = false →
  (∀ index sub raw v c, s.brings src raw (fun m => m.op = 0x01 && m.index = index && m.sub = sub && m.offset = 0) v →
    v.service src false index sub [] = .serve → (v.newRequest src).readCopy src index sub = .ok c →
    ∃ t, exec (.read src index sub 0 raw) s = .next t ∧
    t.lastSent = some (.readReply src index sub c.2.length 0 (c.2.take (chunkSize src.iface c.2.length))) ∧
    (c.2.length ≤ chunkSize src.iface c.2.length → t.transferOf src = none)) ∧
  (∀ index sub offset raw v tr, s.brings src raw (fun m => m.op = 0x01 && m.index = index && m.sub = sub && m.offset = offset) v →
    offset ≠ 0 → v.service src false index sub [] = .serve → v.transferOf src = some tr → tr.write = false →
    tr.index = index → tr.sub = sub → tr.next = offset → ∃ t, exec (.read src index sub offset raw) s = .next t ∧
    t.lastSent = some (.readReply src index sub tr.data.length offset ((tr.data.drop offset).take (chunkSize src.iface tr.data.length)))) ∧
  (∀ k c, s.service src false 0x1C00 8 [] = .serve → (s.newRequest src).partnerAt src = some k → c = (s.newRequest src).readWindow k →
    ∃ t, exec (.recWindow src) s = .next t ∧
    t.lastSent = some (.readReply src 0x1C00 8 c.2.length 0 (c.2.take (chunkSize src.iface c.2.length)))) ∧
  (∀ k x b, s.service src false 0x1C01 0xB [] = .serve → (s.newRequest src).partnerAt src = some k →
    s.selectedSet (s.newRequest src).dict.partners[k].histSelect = some x → b = x.1.header ++ x.1.part x.2 →
    ∃ t, exec (.histRead src) s = .next t ∧
    t.lastSent = some (.readReply src 0x1C01 0xB b.length 0 (b.take (chunkSize src.iface b.length))))

/-- Writes (14 R385, R387, R388, R400, R401, 17 R451): balancing parameters stand for the entries that only hold their value; a W1C entry
loses the bits written 1; segments gather; the image's segments go to flash; a configuration copy; the arming of an erasure. -/
def Obligations.Writes : Prop := ∀ (s : State) (src : Src),
  (∀ sub ∈ [0x0061, 0x0062, 0x0063, 0x0064, 0x0065, 0x0066, 0x0067], ∀ data, s.admits src blockObj sub data →
    ∃ t, exec (.registerWrite src blockObj sub data) s = .next t ∧ t.val blockObj sub = ofBytes data ∧
    (∀ u, u ≠ sub → t.val blockObj u = s.val blockObj u) ∧ t.lastSent = some (.writeReply src blockObj sub data.length)) ∧
  (∀ data, s.admits src blockObj 0x0043 data → ∃ t, exec (.registerWrite src blockObj 0x0043 data) s = .next t ∧
    t.supply = { s.supply with seen := clearBits s.supply.seen (ofBytes data &&& 7) }) ∧
  (∀ index sub total data raw v, s.holding = false →
    s.brings src raw (fun m => m.op = 0x02 && m.index = index && m.sub = sub && m.total = total && m.offset = 0 && m.data = data) v →
    v.service src true index sub data = .serve → v.repeats src index sub total 0 data = false →
    ¬ (index = 0x1E00 ∧ sub = 0x0031) → data.length < total → ∃ t, exec (.write src index sub total 0 data raw) s = .next t ∧
    t.lastSent = some (.writeReply src index sub data.length) ∧ t.dict.vals = s.dict.vals ∧
    ∃ tr, t.transferOf src = some tr ∧ tr.write = true ∧ tr.data = data ∧ tr.next = data.length ∧ tr.total = total) ∧
  (∀ index sub total offset data raw v tr, s.holding = false →
    s.brings src raw (fun m => m.op = 0x02 && m.index = index && m.sub = sub && m.total = total && m.offset = offset && m.data = data) v →
    v.service src true index sub data = .serve →
    v.repeats src index sub total offset data = false → ¬ (index = 0x1E00 ∧ sub = 0x0031) → offset ≠ 0 → v.transferOf src = some tr →
    tr.write = true → tr.index = index → tr.sub = sub → tr.total = total → tr.next = offset → (tr.data ++ data).length < total →
    ∃ t, exec (.write src index sub total offset data raw) s = .next t ∧ t.lastSent = some (.writeReply src index sub (tr.data ++ data).length) ∧
    ∃ tr', t.transferOf src = some tr' ∧ tr'.data = tr.data ++ data) ∧
  (∀ total offset data f written, s.holding = false → s.service src true 0x1E00 0x31 data = .serve →
    s.repeats src 0x1E00 0x31 total offset data = false → s.seng.fw = some f → f.src = src → total = f.length →
    (offset = 0 ∨ ∃ tr, s.transferOf src = some tr ∧ tr.write = true ∧ tr.index = 0x1E00 ∧ tr.sub = 0x31 ∧ tr.next = offset) →
    written = (if offset = 0 then [] else f.written) ++ data → written.length < total →
    ∃ t, exec (.fwImage src total offset data) s = .next t ∧ t.seng.fw = some { f with written := written, at_ := s.now } ∧
    t.start.images[s.fwTarget].verifies = false ∧ t.lastSent = some (.writeReply src 0x1E00 0x31 written.length)) ∧
  (∀ v, s.admits src 0x1C01 6 (u8 v) → ∃ t, exec (.cfgStore src v) s = .next t ∧ t.dict.vals = s.dict.vals ∧
    (s.health.stoppedParts.testBit 4 = true → t.dict.copies = s.dict.copies) ∧
    (s.health.stoppedParts.testBit 4 = false → ∃ k : Fin 2, s.newestCfg ≠ some k ∧
      t.dict.copies[k] = ⟨s.dict.cfgGen + 1, true, s.dict.vals.filter fun p => cfgKey p.1, s.cfgNow⟩ ∧
      ∀ j : Fin 2, j ≠ k → t.dict.copies[j] = s.dict.copies[j])) ∧
  (∀ v, v < 2 ^ 64 → s.admits src 0x1E00 0x29 (u64 v) →
    (v ≠ s.serial → ∃ t, exec (.trustErase src v) s = .next t ∧ t.seng.eraseArmed = none ∧ t.seng.slots = s.seng.slots) ∧
    (v = s.serial → src.iface = 5 → s.supply.prov = true → ∃ t, exec (.trustErase src v) s = .next t ∧
      t.seng.eraseArmed = some s.now ∧ t.seng.slots = s.seng.slots))

/-- Partners, heartbeats and transfers that end by time (14 R387, R402, R403). -/
def Obligations.Partners : Prop := ∀ (s : State) (src : Src),
  (∀ tr, s.transferOf src = some tr → s.serves = true → tr.at_ + sec 1 ≤ s.now → ∃ t, exec (.transferTimeout src) s = .next t ∧
    t.transferOf src = none ∧ t.lastSent = some (.abort src tr.index tr.sub (abortWord .timeout)) ∧ t.dict.vals = s.dict.vals) ∧
  (∀ state period (k : Fin 64) raw v, s.holding = false → s.brings src raw (fun m => m.op = 0x05 && m.data = u8 state ++ u16 period) v →
    v.service src false 0 0 [] = .serve → s.partnerAt src = some k → 50 ≤ period →
    period ≤ 10000 → ∃ t, exec (.heartbeat src state period raw) s = .next t ∧ t.dict.partners[k].hbState = 1 ∧
    t.dict.partners[k].period = period ∧ t.dict.partners[k].lastHb = s.now ∧ t.dict.partners[k].lastMsg = s.now ∧
    (src.iface = 2 ∨ src.iface = 3 → t.lastSent = some (.heartbeatReply src s.mode.block.code (s.val 0x1E01 0x0041)))) ∧
  (∀ k : Fin 64, s.partnerAt src = some k → s.fwActs = true → s.dict.partners[k].period ≠ 0 →
    (3 * ms s.dict.partners[k].period ≤ s.now - s.dict.partners[k].lastHb → ∃ t, exec (.partnerHeartbeatTimeout src) s = .next t ∧
      t.dict.partners[k].present = false ∧ t.dict.partners[k].hbState = 3 ∧
      ∀ j : Fin 64, j ≠ k → t.dict.partners[j] = s.dict.partners[j]) ∧
    (s.dict.partners[k].hbState = 1 → 3 * ms s.dict.partners[k].period ≤ 2 * (s.now - s.dict.partners[k].lastHb) →
      s.now - s.dict.partners[k].lastHb < 3 * ms s.dict.partners[k].period → ∃ t, exec (.partnerHeartbeatTimeout src) s = .next t ∧
      t.dict.partners = upd s.dict.partners k fun p => { p with hbState := 2 })) ∧
  (∀ k : Fin 64, s.partnerAt src = some k → s.fwActs = true → s.dict.partners[k].period = 0 →
    s.dict.partners[k].lastMsg + sec (s.val 0x1E01 0x0042) ≤ s.now → ∃ t, exec (.partnerAgeExpiry src) s = .next t ∧
    t.dict.partners = upd s.dict.partners k fun p => { p with present := false }) ∧
  (s.fwActs = true → s.val 0x1E01 0x0041 ≠ 0 → s.mode.block ≠ .baseCamp → s.dict.hbAt + ms (s.val 0x1E01 0x0041) ≤ s.now →
    ∃ t, exec .deviceHeartbeatSend s = .next t ∧ t.dict.hbAt = s.now ∧
    t.dict.sent = s.dict.sent ++ ((List.finRange 3).filter fun k => s.canBeats k).map
      fun k => .heartbeat (ifaceOfCan k) s.mode.block.code (s.val 0x1E01 0x0041))

/-! ## Sealed requests (14 R392 to R401, 11 R305, 12 R317) -/

/-- Requests of items: applied whole (14 R397), or handed to the belay logic as records (11 R305, 12 R317); a refused item answers with its
number. A request completes where every item passes its checks: one of any RWS entry that firmware holds takes its value; one of envelope
or of safety I/O records leaves all its records, in order, in the belay logic's queue and waits for their commit. -/
def Obligations.SealedItems : Prop := ∀ s : State,
  (∀ r u, s.admitsSealed r → isPlainRequest r = true → applyItems r r.items.zipIdx (s.verified r) = .ok u →
    ∃ t, exec (.sealedItemsRequest r) s = .next t ∧ t.dict.vals = u.dict.vals ∧ t.seng.result = 0 ∧
    Message.writeReply r.head.src 0x1E00 1 r.bytes.length ∈ t.dict.sent ∧
    ((∀ i ∈ r.items, ¬ (i.index = ethObj ∧ i.sub = 1)) →
      t.lastSent = some (.writeReply r.head.src 0x1E00 1 r.bytes.length))) ∧
  (∀ (h : SealHead) index sub data e, entryOf index sub = some e → e.kind = .num → e.count = 1 → isFwRws ⟨index, sub, data⟩ = true →
    s.rwsRangeOk ⟨index, sub, data⟩ = true → s.rwsStateOk ⟨index, sub, data⟩ = true → s.admitsSealed (h.one index sub data) →
    ∃ t, exec (.sealedItemsRequest (h.one index sub data)) s = .next t ∧ t.val index sub = e.element data 0 ∧ t.seng.result = 0 ∧
    t.lastSent = some (.writeReply h.src 0x1E00 1 (h.one index sub data).bytes.length)) ∧
  (∀ r, s.admitsSealed r → r.items ≠ [] →
    (∀ i ∈ r.items, isEnvelope i.index i.sub = true ∧ s.itemCheck i = none ∧ s.envStateOk i = true) →
    ∃ t, exec (.sealedEnvelopeRequest r) s = .next t ∧
    t.belay = { s.belay with privQ := s.belay.privQ ++ (requestRecords r false).map PrivEntry.record } ∧
    t.seng.forwarded = s.seng.forwarded ++ [r] ∧ t.dict.vals = s.dict.vals) ∧
  (∀ r, s.admitsSealed r → r.items ≠ [] →
    (∀ i ∈ r.items, isSafetyIo i.index i.sub = true ∧ s.itemCheck i = none ∧ s.belayItemCheck r i = none) →
    ∃ t, exec (.sealedSafetyIoRequest r) s = .next t ∧
    t.belay = { s.belay with privQ := s.belay.privQ ++ (requestRecords r false).map PrivEntry.record } ∧
    t.seng.forwarded = s.seng.forwarded ++ [r] ∧ t.dict.vals = s.dict.vals) ∧
  (∀ (h : SealHead) v (k : Fin 8), k.val = h.slot → v ≤ 1 → s.admitsSealed (h.one blockObj 0x0061 (u8 v)) →
    ∃ t, exec (.sealedItemsRequest (h.one blockObj 0x0061 (u8 v))) s = .next t ∧ t.val blockObj 0x0061 = v ∧ t.seng.result = 0 ∧
    t.seng.slots[k].counter = h.counter ∧ t.lastSent = some (.writeReply h.src 0x1E00 1 91)) ∧
  (∀ r e, s.admitsSealed r → isPlainRequest r = true → applyItems r r.items.zipIdx (s.verified r) = .error e →
    ∃ t, exec (.sealedItemsRequest r) s = .next t ∧ t.lastSent = some (.abort r.head.src 0x1E00 1 (abortWord e.1 e.2.2)) ∧
    t.seng.result = abortWord e.1 e.2.2) ∧
  (∀ r u, s.admitsSealed r → (r.items.any fun i => isEnvelope i.index i.sub) = true → applyItems r r.items.zipIdx (s.verified r) = .ok u →
    ∃ t, exec (.sealedEnvelopeRequest r) s = .next t ∧
    t.belay = { s.belay with privQ := s.belay.privQ ++ (requestRecords r false).map PrivEntry.record } ∧
    t.seng.forwarded = s.seng.forwarded ++ [r] ∧ t.dict.vals = s.dict.vals) ∧
  (∀ r u, s.admitsSealed r → (r.items.any fun i => isSafetyIo i.index i.sub) = true → applyItems r r.items.zipIdx (s.verified r) = .ok u →
    ∃ t, exec (.sealedSafetyIoRequest r) s = .next t ∧
    t.belay = { s.belay with privQ := s.belay.privQ ++ (requestRecords r false).map PrivEntry.record } ∧
    t.seng.forwarded = s.seng.forwarded ++ [r] ∧ t.dict.vals = s.dict.vals)

/-- The trust list (14 R395, R398 to R400, 03 R86). -/
def Obligations.TrustList : Prop := ∀ s : State,
  (∀ (h : SealHead) (k : Fin 8) key, key.length = 32 → (∃ b ∈ key, b ≠ 0x00#8) → keyGood key = true → s.trustEmpty = false →
    s.admitsSealed (h.one 0x1E00 (0x10 + k.val) key) → ∃ t, exec (.sealedTrustRequest (h.one 0x1E00 (0x10 + k.val) key)) s = .next t ∧
    t.seng.slots[k].key = some key ∧ t.seng.slots[k].counter = 0 ∧ t.seng.storedCounters[k] = 0 ∧
    (∀ j : Fin 8, j ≠ k → t.seng.slots[j].key = s.seng.slots[j].key) ∧ t.lastSent = some (.writeReply h.src 0x1E00 1 122)) ∧
  (∀ (h : SealHead) (k : Fin 8) key, h.slot = k.val → key.length = 32 → (∃ b ∈ key, b ≠ 0x00#8) → keyGood key = true → 1 ≤ h.counter →
    s.admitsProvisioning (h.one 0x1E00 (0x10 + k.val) key) → ∃ t, exec (.provisioningRequest (h.one 0x1E00 (0x10 + k.val) key)) s = .next t ∧
    t.seng.slots[k].key = some key ∧ t.seng.slots[k].counter = h.counter ∧ t.trustEmpty = false ∧
    (∀ j : Fin 8, j ≠ k → t.seng.slots[j] = s.seng.slots[j]) ∧ t.lastSent = some (.writeReply h.src 0x1E00 1 122)) ∧
  (s.seng.storePending ≠ 0 → ∃ t, exec .counterStored s = .next t ∧ t.seng.storePending = 0 ∧ t.seng.slots = s.seng.slots ∧
    (∀ k : Fin 8, t.seng.storedCounters[k] = s.seng.slots[k].counter) ∧ t.dict.cfgGen = s.dict.cfgGen + 1) ∧
  (∀ t0, s.seng.eraseArmed = some t0 → s.fwActs = true → s.supply.prov = true → t0 + sec 300 ≤ s.now →
    (∀ b : Fin 4, s.banks[b].state = .dark) → s.powerPathOn = false → s.mode.block = .standby ∨ s.mode.block = .service →
    ∃ t, exec .trustErasure s = .next t ∧ t.trustEmpty = true ∧ t.seng.eraseArmed = none ∧ ∀ k : Fin 8, t.seng.slots[k].counter = 0)

/-- Firmware transfer (14 R401): opened, committed or refused, or ended by time. -/
def Obligations.FirmwareTransfer : Prop := ∀ s : State,
  (∀ (h : SealHead) v, 1 ≤ v → v ≤ 16777216 → s.admitsSealed (h.one 0x1E00 0x30 (u32 v)) → ∃ t, exec (.fwOpen h v) s = .next t ∧
    t.seng.fw = some ⟨h.src, v, [], s.now⟩ ∧ t.seng.fwStatus = 1 ∧ t.lastSent = some (.writeReply h.src 0x1E00 1 94)) ∧
  (∀ (h : SealHead) digest header generation version f, digest.length = 64 → s.seng.fw = some f →
    s.admitsSealed (h.one 0x1E00 0x32 digest) → ∃ t, exec (.fwCommit h digest header generation version) s = .next t ∧ t.seng.fw = none ∧
    (sha512 f.written = digest → header = true → f.written.length = f.length → t.seng.fwStatus = 2 ∧
      t.start.images[s.fwTarget] = ⟨generation, false, true⟩ ∧ t.lastSent = some (.writeReply h.src 0x1E00 1 154)) ∧
    (sha512 f.written ≠ digest ∨ header = false ∨ f.written.length ≠ f.length → t.seng.fwStatus = 3 ∧ t.start.images[s.fwTarget].verifies = false ∧
      t.lastSent = some (.abort h.src 0x1E00 1 (abortWord .signature 0)))) ∧
  (∀ f, s.seng.fw = some f → s.serves = true → f.at_ + sec 60 ≤ s.now →
    exec .fwSessionTimeout s = .next (s.modSeng fun g => { g with fw := none, fwStatus := 0 }))

/-! ## The recorder (17) -/

/-- Occurrences, flushes, summaries, the clear and the rates (17 R440, R441, R444 to R447, R450). -/
def Obligations.Recorder : Prop := ∀ s : State,
  (∀ code source item data, codeDefined code = true → writeCodes.contains code = false → code ≠ 0xC020 → code ≠ 0xC021 → s.start.fw ≠ .down →
    (token ≤ (s.bucket code).credit → (s.bucket code).count = 0 → s.evlog.staged.length < 511 →
      ∃ t, exec (.eventOccurrence code source item data) s = .next t ∧ t.evlog.ring = s.evlog.ring ∧ ∃ r ∈ t.evlog.staged,
      r.code = code ∧ r.source = source ∧ r.item = item ∧ r.time = s.utc ∧ r.level = eventLevel code ∧ r.data = data.take 40 ∧
      (s.evlog.tickAt ≠ s.sysTicks → r.seq = s.evlog.next ∧ ∃ more, t.evlog.staged = s.evlog.staged ++ r :: more)) ∧
    ((s.bucket code).credit < token → ∃ t, exec (.eventOccurrence code source item data) s = .next t ∧ t.evlog.staged = s.evlog.staged ∧
      t.evlog.next = s.evlog.next ∧ t.evlog.suppressed = sat32 s.evlog.suppressed ∧
      (t.bucket code).count = sat32 (s.bucket code).count)) ∧
  (s.fwActs = true → s.start.startRecords = false → s.evlog.flushAt + sec 1 ≤ s.now → ∃ t, exec .recorderFlush s = .next t ∧ t.dict = s.dict ∧
    (s.evlog.stopped = false → t.evlog.staged = [])) ∧
  (∀ code, (s.bucket code).count ≠ 0 → token ≤ (s.bucket code).credit → s.evlog.staged.length < 511 →
    ∃ t, exec (.suppressionSummary code) s = .next t ∧ (t.bucket code).count = 0 ∧ (t.bucket code).credit = (s.bucket code).credit ∧
    ∃ r ∈ t.evlog.staged, r.code = 0xC021 ∧ r.source = (s.bucket code).lastSource ∧
      (s.evlog.tickAt ≠ s.sysTicks → ∃ more, t.evlog.staged = s.evlog.staged ++ r :: more) ∧
      r.data = u16 code ++ u32 (s.bucket code).count ++ u64 (s.bucket code).firstTime ++ u64 (s.bucket code).lastTime) ∧
  (∀ h : SealHead, s.admitsSealed (h.one 0x1C00 9 (u8 1)) → ∃ t, exec (.recClear h 1) s = .next t ∧
    t.lastSent = some (.writeReply h.src 0x1E00 1 91) ∧ ∃ r more, t.records = r :: more ∧ r.code = 0xC020 ∧ r.seq = t.evlog.oldest) ∧
  (∀ src code v, s.admits src 0x1C00 code (u32 v) → bits v 27 20 ≠ 0 → bits v 13 0 ≠ 0 → bits v 13 0 ≤ 10000 →
    ∃ t, exec (.rateLimitWrite src code v) s = .next t ∧
    t.val 0x1C00 code = eventLevel code * 2 ^ 28 + bits v 27 20 * 2 ^ 20 + bits v 13 0 ∧
    t.lastSent = some (.writeReply src 0x1C00 code 4))

/-! ## Fault counting, cores and spares (18) -/

/-- Window counters and memory faults (18 R463, R473, R474, R476 to R478, 16 R428). -/
def Obligations.FaultCounting : Prop := ∀ s : State,
  (∀ (cls : Fin 14) item (k : Fin 16), k.val = cls.val → s.start.fw ≠ .down →
    (s.fcN k.val = 0 ∨ ((s.inWindow k.val item).length + 1 < s.fcN k.val) → ∃ t, exec (.windowCounterLasting cls item) s = .next t ∧
      t.fc.total = upd s.fc.total k sat32 ∧ t.fc.lastItem = s.fc.lastItem.set k item ∧ t.fc.lasting = s.fc.lasting ∧
      t.inWindow k.val item = (s.now :: s.inWindow k.val item).take 16 ∧ t.ropes = s.ropes ∧ t.health = s.health) ∧
    (s.fcN k.val ≠ 0 → s.fcN k.val ≤ 16 → s.fcN k.val ≤ (s.inWindow k.val item).length + 1 →
      ∃ t, exec (.windowCounterLasting cls item) s = .next t ∧
      (cls = 1 → 1 ≤ item → item ≤ 80 → (t.portAt item).moveDue = true ∧ t.fc.lasting = upd s.fc.lasting k sat32) ∧
      (cls = 4 → t.health.suspect = true ∧ t.fc.lasting = upd s.fc.lasting k sat32))) ∧
  (∀ row c, s.start.fw ≠ .down → s.health.scrubAt + sec (s.val 0x1D00 5) ≤ s.now → ∃ t, exec (.sramScrub [(row, c)]) s = .next t ∧
    t.health.scrubAt = s.now ∧ t.health.ecc = upd s.health.ecc (if c then 0 else 1) sat32 ∧ t.start = s.start) ∧
  (∀ row, s.start.fw ≠ .down → ∃ t, exec (.sramEccError row true .other) s = .next t ∧ t.health.ecc = upd s.health.ecc 0 sat32 ∧
    t.fc.total = upd s.fc.total 5 sat32 ∧ t.trav = s.trav) ∧
  (∀ row (i : Fin 40), s.start.fw ≠ .down → ∃ t, exec (.sramEccError row false (.buffer i)) s = .next t ∧ t.health.ecc = upd s.health.ecc 1 sat32 ∧
    t.fc.total = upd s.fc.total 6 sat32 ∧ t.trav.seen = s.trav.seen ||| 0x400 ∧ t.trav.bufs[s.curBuf].dmaError = true ∧
    t.trav.bufs[s.curBuf].lost = s.trav.bufs[s.curBuf].lost ||| 2 ^ i.val) ∧
  (∀ row, s.start.fw ≠ .down → ∃ t, exec (.sramEccError row false .estimator) s = .next t ∧ t.est.sramOk = false ∧
    t.health.ecc = upd s.health.ecc 1 sat32 ∧ t.start = s.start) ∧
  (∀ block kind, s.start.fw ≠ .down → ∃ t, exec (.flashError block kind) s = .next t ∧
    t.fc.total = upd s.fc.total (if kind = .corrected then 7 else 8) sat32) ∧
  (s.belay.released = true → s.health.sysStopped = false → s.start.thermalHold = false →
    (s.health.oscAt + ms 1 ≤ s.now → exec (.oscWindow .good) s = .next { s with health := { s.health with oscAt := s.now } }) ∧
    (s.health.oscAt + ms 1 ≤ s.now → ∃ t, exec (.oscWindow .deviates) s = .next t ∧ t.fc.total = upd s.fc.total 9 sat32) ∧
    (∃ t, exec (.oscWindow .noEdge) s = .next t ∧ t.fc.lasting = upd s.fc.lasting 9 sat32 ∧
      (s.health.oscSpare = false → t.health.oscSpare = true ∧ t.health.sysStopped = false ∧ t.start = s.start) ∧
      (s.health.oscSpare = true → t.health.sysStopped = true ∧ t.start.fw = .down))) ∧
  (∀ src v, 1 ≤ v → v ≤ 80 → s.admits src 0x1D00 7 (u8 v) → s.mode.block = .service →
    s.strs[Fin.ofNat 40 (v - 1)].state = .isolated ∨ s.strs[Fin.ofNat 40 (v - 1)].state = .tripped ∨
      s.strs[Fin.ofNat 40 (v - 1)].state = .lockedOut ∨ s.strs[Fin.ofNat 40 (v - 1)].state = .excluded →
    ∃ t, exec (.phyRestore src v) s = .next t ∧ (t.portAt v).restoreDue = true ∧ t.inWindow 1 v = [] ∧
    t.lastSent = some (.writeReply src 0x1D00 7 1)) ∧
  (∀ h : SealHead, s.admitsSealed (h.one 0x1D00 6 (u8 1)) → ∃ t, exec (.healthClear h 1) s = .next t ∧ t.health.suspect = false ∧
    t.inWindow 4 0 = [] ∧ t.lastSent = some (.writeReply h.src 0x1E00 1 91)) ∧
  (∀ k : Fin 6, s.belay.released = true → s.therm.compFailed.testBit k.val = false → ∃ t, exec (.belSensorFail k) s = .next t ∧
    t.therm = { s.therm with compFailed := s.therm.compFailed ||| 2 ^ k.val })

/-- The core pair (18 R467 to R472, Table 18-2). -/
def Obligations.CorePair : Prop := ∀ s : State,
  (s.start.fw ≠ .down → s.cores.swapping = false → exec .lockstepCommit s =
    .next { s with cores := { s.cores with journal := 0, buffer := 0, commitAt := s.now } }) ∧
  (∀ parity, s.start.fw ≠ .down → s.cores.swapping = false → s.paired = true → ∃ t, exec (.lockstepMismatch parity) s = .next t ∧
    t.cores.swapping = true ∧ t.cores.parity = parity ∧ t.cores.mismatchAt = s.now ∧ t.cores.formed = none ∧ t.cores.role = s.cores.role ∧
    t.cores.journal = 0 ∧ t.fc.total = upd s.fc.total 0 sat32) ∧
  (∀ a b passA passB, s.members = [a, b] → s.cores.swapping = true → s.cores.formed = none → s.start.fw ≠ .down → passA = true ∨ passB = true →
    ∃ t, exec (.pairForming passA passB) s = .next t ∧
    (passA = true → passB = true → s.cores.lasting = false → t.cores = { s.cores with formed := some s.now }) ∧
    (∀ c out, s.spareCore = some c → passA = false ∧ out = a ∨ passB = false ∧ out = b → t.cores.formed = some s.now ∧
      t.cores.role = (s.cores.role.set out .retired).set c .member ∧ t.start.retired = s.start.retired ||| 2 ^ out.val)) ∧
  (s.cores.swapping = true → s.resumeDue = true → s.start.fw ≠ .down → s.seng.forwarded = [] → ∃ t, exec .swapResume s = .next t ∧
    t.cores.swapping = false ∧ t.cores.formed = none ∧ t.irq.held = [] ∧ t.cores.role = s.cores.role) ∧
  (s.cores.swapping = true → s.resumeDue = true → s.start.fw ≠ .down → ∃ t, exec .swapResume s = .next t ∧ t.cores.swapping = false) ∧
  (∀ pass, s.cores.role[2] = .standby → s.cores.swapping = false → s.mode.block ≠ .baseCamp → s.start.fw ≠ .down →
    s.cores.spareAt + sec 60 ≤ s.now → ∃ t, exec (.spareCoreSelfTest pass) s = .next t ∧ t.cores.sparePassed = pass ∧
    t.cores.role = (if pass then s.cores.role else s.cores.role.set 2 .failed))

/-! ## Temperature and block state (16, 20) -/

/-- The temperature rounds and the throttle (16 R426, R427, R429, R434). -/
def Obligations.DeviceTemperature : Prop := ∀ s : State,
  (∀ temps, s.thermRuns = true → s.therm.roundAt + ms 100 ≤ s.now → ∃ t, exec (.deviceTempRound temps) s = .next t ∧
    t.therm.temp = temps ∧ t.therm.roundAt = s.now ∧
    ∀ k : Fin 6, (temps[k] < -500 ∨ 1500 < temps[k] → t.therm.fault[k] = true) ∧
      (-500 ≤ temps[k] → temps[k] ≤ 1500 → s.therm.fault[k] = false → t.therm.fault[k] = false)) ∧
  (∀ a, s.thermRuns = true → s.therm.base ≠ 0 → s.therm.floor < s.therm.base → s.therm.belowSince = some a → a + sec 10 ≤ s.now →
    s.therm.riseAt = none → ∃ t, exec .throttleExitDwell s = .next t ∧ t.therm.base = s.therm.base - 1 ∧ t.therm.level = s.therm.base - 1) ∧
  (∀ src v, s.admits src 0x1B00 5 (u8 v) → ∃ t, exec (.throttleSelect src v) s = .next t ∧ t.val 0x1B00 5 = v ∧
    t.therm = s.therm ∧ t.lastSent = some (.writeReply src 0x1B00 5 1))

/-- Block-state requests (20 R500, R501, Table 20-2), and when the requests that open, clear and exclude below them complete (09 R245, R247,
R255, R260). -/
def Obligations.BlockStates : Prop := ∀ (s : State) (src : Src),
  (s.admits src blockObj 2 (u8 2) → s.mode.block = .service ∨ s.mode.block = .armed ∨ s.mode.block = .run →
    ∃ t, exec (.requestStandby src) s = .next t ∧ t.mode.block = .standby ∧ t.lastSent = some (.writeReply src blockObj 2 1) ∧
    (s.mode.block ≠ .service → ∀ i : Fin 40, t.gates[chS i].cmd = false)) ∧
  (s.admits src blockObj 2 (u8 3) → s.mode.block = .standby → s.supply.pfw = false → ∃ t, exec (.requestArmed src) s = .next t ∧
    t.mode.block = .armed ∧ t.strs = s.strs ∧ t.gates = s.gates ∧ t.lastSent = some (.writeReply src blockObj 2 1)) ∧
  (s.admits src blockObj 2 (u8 5) → s.mode.block = .standby → (∀ b : Fin 4, s.banks[b].state = .dark) → s.powerPathOn = false →
    ∃ t, exec (.requestService src) s = .next t ∧ t.mode.block = .service ∧ t.strs = s.strs ∧ t.gates = s.gates ∧
    t.lastSent = some (.writeReply src blockObj 2 1)) ∧
  (∀ i : Fin 40, s.admits src (strObj i) 0x0004 (u8 1) → s.strs[i].state = .closed →
    ∃ t, exec (.openString src i 1) s = .next t ∧ t.strs[i].state = .isolated) ∧
  (∀ b : Fin 4, s.admits src (bankObj b) 0x0004 (u8 1) → ∃ t, exec (.bankOpen src b 1) s = .next t ∧ t.banks[b].state ≠ .live) ∧
  (∀ i : Fin 40, s.admits src (strObj i) 0x0005 (u8 1) → s.strs[i].trip = true → s.causesPresent i s.strs[i].tripSet = [] →
    ∃ t, exec (.tripClear src i 1) s = .next t ∧ t.strs[i].trip = false) ∧
  (∀ i : Fin 40, s.admits src (strObj i) 0x0009 [0x01#8] → s.strs[i].installed = true → s.strs[i].state = .isolated →
    ∃ t, exec (.excludeSet src i) s = .next t ∧ t.strs[i].state = .excluded) ∧
  (∀ i : Fin 40, s.admits src (strObj i) 0x0009 [0x00#8] → s.strs[i].installed = true → s.mode.block = .service →
    s.strs[i].state = .excluded → ∃ t, exec (.excludeClear src i) s = .next t ∧ t.strs[i].excludeCall = true) ∧
  (∀ b : Fin 4, s.admits src (bankObj b) 0x0005 (u8 1) → s.banks[b].state = .faulted → s.faultClearRefusal b = none →
    ∃ t, exec (.faultClear src b 1) s = .next t ∧ t.banks[b].state = .dark) ∧
  (∀ b : Fin 4, s.banks[b].state = .discharging → s.banks[b].dischSince + sec (s.val (bankObj b) 0x0016) ≤ s.now →
    ∃ t, exec (.dischargeTimeout b) s = .next t ∧ t.banks[b].state = .faulted)

/-! ## Ethernet and time (19) -/

/-- The ports and the cell stream (19 R483 to R489). -/
def Obligations.EthernetPorts : Prop := ∀ s : State,
  (∀ src v, s.admits src ethObj 1 (u8 v) → s.ethApplyOk = true → ∃ t, exec (.ethApply src v) s = .next t ∧ ∀ k : Fin 2,
    t.eths[k].ip = s.val (portObj k) 2 ∧ t.eths[k].mask = s.val (portObj k) 3 ∧ t.eths[k].gateway = s.val (portObj k) 4 ∧
    t.eths[k].conflict = false ∧ t.eths[k].up = s.eths[k].up) ∧
  (∀ k : Fin 2, s.eths[k].up = true → s.fwUp = true → s.eths[k].ip ≠ 0 → ∃ t, exec (.addressConflict k) s = .next t ∧
    t.eths[k].conflict = true ∧ t.eths[k].ip = s.eths[k].ip ∧ ∀ j : Fin 2, j ≠ k → t.eths[j] = s.eths[j]) ∧
  (∀ (k : Fin 2) up fast, s.start.fw ≠ .down → s.mode.block ≠ .baseCamp ∨ s.bal.exiting = true → s.eths[k].up ≠ up ∨ up = true ∧ s.eths[k].fast ≠ fast →
    (up = true → (s.val (portObj k) 5).testBit (if fast then 0 else 1) = true) → ∃ t, exec (.ethLinkChange k up fast) s = .next t ∧
    t.eths[k].up = up ∧ t.eths[k].fast = (up && fast) ∧ (up = false → t.eths[k].downSeen = true) ∧
    t.stream.suspended = (t.streamOn && t.streamBlocked)) ∧
  (∀ (k : Fin 2) f (c : Fin 8) len, s.eths[k].up = true → s.cores.swapping = false ∨ f = .badFcs →
    f = .badFcs ∧ c = 2 ∨ f = .foreign ∧ c = 3 ∨ (∃ own, f = .arp own) ∧ c = 4 ∨ f = .icmpEcho ∧ c = 5 ∨
      f = .udpOther ∧ c = 0 ∨ f = .badDatagram ∧ c = 0 →
    ∃ t, exec (.ethFrameReceived k f len) s = .next t ∧ t.eths[k].counts[c] = sat32 s.eths[k].counts[c] ∧ t.eths[k].ip = s.eths[k].ip) ∧
  (∀ (k : Fin 2) f len n, s.eths[k].up = true → s.cores.swapping = true → f ≠ .badFcs → n = ((s.eths[k].rxQ.map Prod.snd).foldl (· + ·) 0) + len →
    (16384 < n → exec (.ethFrameReceived k f len) s = .next (s.modEth k fun e => { e with counts := upd e.counts 7 sat32 })) ∧
    (n ≤ 16384 → exec (.ethFrameReceived k f len) s = .next (s.modEth k fun e => { e with rxQ := e.rxQ ++ [(f, len)] }))) ∧
  (∀ resolved count n, s.trav.published = some n → s.fwActs = true → s.streamOn = true → s.stream.suspended = false → s.streamBlocked = false →
    n % s.val ethObj 0x0044 = 0 → s.stream.last ≠ some n → s.trav.bufs[Fin.ofNat 8 n].published = true → s.trav.bufs[Fin.ofNat 8 n].number = n →
    ∃ t, exec (.streamSetSend resolved count) s = .next t ∧ t.stream.last = some n ∧ t.stream.running = true ∧ t.trav = s.trav) ∧
  (s.fwActs = true → ∃ t, exec .streamSuspension s = .next t ∧ t.stream.suspended = (s.streamOn && s.streamBlocked) ∧
    t.stream.rate = 8 * s.setBytes * 1000 / s.setPeriod ∧ t.eths = s.eths)

/-- Time: its sources, the calendar, the alarm and the leap second (19 R492 to R494; the servo is log 31). -/
def Obligations.Calendar : Prop := ∀ s : State,
  (s.fwActs = true → s.timeOn = true → s.clock.selectAt + sec 1 ≤ s.now → ∃ t, exec .timeSourceSelection s = .next t ∧ t.clock.source = s.clock.source ∧
    (s.clock.source ≠ 2 → -500000 ≤ t.clock.rate ∧ t.clock.rate ≤ 500000) ∧ (s.clock.source = 2 → t.utcBase = s.utcBase ∧ t.utcAt = s.utcAt)) ∧
  (∀ (h : SealHead) v, s.admitsSealed (h.one ethObj 0x15 (u64 v)) → s.itemCheck ⟨ethObj, 0x15, u64 v⟩ = none → s.clock.source = 2 →
    s.clock.next = none → ∃ t, exec (.timeSet h v) s = .next t ∧ t.utcBase = v ∧ t.utcAt = s.now ∧ t.clock.set_ = true ∧ t.clock.slew = 0 ∧
    t.lastSent = some (.writeReply h.src 0x1E00 1 98)) ∧
  (s.val ethObj 0x16 ≠ 0 → s.clock.alarmed = false → s.val ethObj 0x16 ≤ s.utc → s.start.fw ≠ .down → ∃ t, exec .rtcAlarm s = .next t ∧
    t.clock = { s.clock with alarmed := true } ∧ t.irq.counts = upd s.irq.counts 95 sat32) ∧
  (s.clock.source = 0 → s.fwActs = true →
    (s.clock.leap = 1 → s.utc % 86400000 = 86399999 → ∃ t, exec .leapSecond s = .next t ∧ t.clock.leap = 0 ∧
      t.utcAt = s.rebase.utcAt + sec 1 ∧ t.utcBase = s.rebase.utcBase) ∧
    (s.clock.leap = 2 → 86399000 ≤ s.utc % 86400000 → ∃ t, exec .leapSecond s = .next t ∧ t.clock.leap = 0 ∧
      t.utcBase = s.rebase.utcBase + 1000 ∧ t.utcAt = s.rebase.utcAt))

/-- The PTP clock (19 R495, R496; the receipt timeout of three intervals is log 33). -/
def Obligations.PtpClock : Prop := ∀ s : State, s.ptpRuns = true →
  (∀ seq, s.clock.ptp = 8 ∨ s.clock.ptp = 9 → ∃ t, exec (.ptpMessageReceived s.ptpPort (s.val ethObj 0x23) (.sync seq)) s = .next t ∧
    t.clock = { s.clock with syncWait := some (seq, macTime s.now) }) ∧
  (∀ gm offset leap, ∃ t, exec (.ptpMessageReceived s.ptpPort (s.val ethObj 0x23) (.announce gm .slave offset leap)) s = .next t ∧
    t.clock.gm = gm ∧ t.clock.leap = leap ∧ t.clock.utcOffset = offset ∧ t.clock.announceAt = some s.now ∧
    (s.clock.gm = gm → s.clock.ptp = 9 → t.clock.ptp = 9) ∧ (s.clock.gm ≠ gm ∨ s.clock.ptp ≠ 9 → t.clock.ptp = 8)) ∧
  (∀ t0, s.clock.announceAt = some t0 → s.clock.ptp ≠ 6 → t0 + 3 * s.ptpInterval 0 ≤ s.now → ∃ t, exec .announceReceiptTimeout s = .next t ∧
    t.clock.ptp = (if s.ptpRole = 2 then 6 else 4) ∧ t.clock.announceAt = some s.now) ∧
  (s.clock.ptp = 6 → ∃ t, exec (.ptpMessageInterval 0) s = .next t ∧ t.clock.seqs = s.clock.seqs.set 0 ((s.clock.seqs[0] + 1) % 65536) ∧
    ∃ body, t.lastSent = some (.ptp s.ptpPort.val 0xB s.clock.seqs[0] s.ptpServed body)) ∧
  (s.clock.ptp = 6 → ∃ t, exec (.ptpMessageInterval 1) s = .next t ∧ t.clock.seqs = s.clock.seqs.set 1 ((s.clock.seqs[1] + 1) % 65536) ∧
    t.lastSent = some (.ptp s.ptpPort.val 8 s.clock.seqs[1] s.ptpServed [])) ∧
  (s.peerDelay = true ∨ s.clock.ptp = 8 ∨ s.clock.ptp = 9 → ∃ t, exec (.ptpMessageInterval 2) s = .next t ∧
    t.clock.delayWait = some (s.clock.seqs[2], macTime s.now, none) ∧
    t.lastSent = some (.ptp s.ptpPort.val (if s.peerDelay then 2 else 1) s.clock.seqs[2] 0 []))

/-! ## The queue and the whole machine -/

/-- A step runs the command at the front of the queue, with the queue's rest. -/
def Obligations.StepRunsFrontCommand : Prop := ∀ (s : State) (c : Instr) (rest : List Instr), s.pending = c :: rest →
  step s = exec c { s with pending := rest }

/-- On an empty queue the block idles: requests held through a core swap come up, then, one a step, writes whose sealed request has ended
(14 R390, 20 Table 20-7), else one tick of 10 ns passes and nothing else changes (the model's choice, log 1 and log 21). -/
def Obligations.IdleStep : Prop := ∀ s : State, s.pending = [] → ∃ t, step s = .next t ∧
  (s.cores.swapping = false → s.heldReq ≠ [] → t = { s with pending := s.heldReq, heldReq := [] }) ∧
  (∀ w rest, s.heldReq = [] → s.fwActs = true → s.waitingWrites = w :: rest → s.sealHolds w.index w.sub = false →
    t = ({ s with waitingWrites := rest }.setTag w.src w.tag).writeNow w.src w.index w.sub w.data
      (fun r u => u.applyEntry w.src w.index w.sub w.data r) (entryAfter w.index w.sub) w.last) ∧
  (s.cores.swapping = true ∨ s.heldReq = [] → s.fwActs = false ∨ (∀ w ∈ s.waitingWrites, s.sealHolds w.index w.sub = true) →
    t = { s with now := s.now + 10 })

/-- No command is refused and none faults: whatever the state, each ends in a next state. -/
def Obligations.EveryCommandEnds : Prop := ∀ (c : Instr) (s : State), ∃ t, exec c s = .next t

/-- A command changes no part of the state but those `mayChange` lists for it, and never the queue, the time or the serial number. -/
def Obligations.CommandsKeepOtherParts : Prop := ∀ (c : Instr) (s t : State), exec c s = .next t →
  (∀ p, p ∉ mayChange c → same s t p) ∧ t.pending = s.pending ∧ t.now = s.now ∧ t.serial = s.serial

/-- Every step keeps the invariant. -/
def Obligations.StepKeepsInvariant : Prop := ∀ s t : State, s.Inv → step s = .next t → t.Inv

/-- The state after reset meets the invariant. -/
def Obligations.ResetMeetsInvariant : Prop := State.reset.Inv

/-- What the spec gives for reset: `OFF` until the last step of a start (03 R74), interrupt counters 0 (01 R40), the belay store and
every hall pass empty, bus parameters as 13 R353 delivers them; that nothing is pending and the time is 0 is the model's (log 1). -/
def Obligations.ResetValues : Prop :=
  State.reset.mode.block = .off ∧ State.reset.irq.counts = Vector.replicate 128 0 ∧ State.reset.belay.store = [] ∧
  State.reset.belay.privQ = [] ∧ (∀ i : Fin 40, State.reset.strs[i].pass = none) ∧
  (∀ k : Fin 3, State.reset.cans[k].nominal = 0x1E3E1E01 ∧ State.reset.cans[k].dataRate = 0x9E482F00) ∧
  (∀ (i : Fin 40) (p : Fin 33), (State.reset.node i p.val).configDefault = true) ∧ State.reset.trav.number = none ∧ State.reset.pending = []

/-! ## Rules of the spec -/

/-- R485, whole: a conflicting ARP packet on a port in service, and the apply that clears the field. -/
def Obligations.ConflictingAddress : Prop := ∀ (s : State) (k : Fin 2),
  (s.eths[k].up = true → s.fwUp = true → s.eths[k].ip ≠ 0 → ∃ u : State, exec (.addressConflict k) s = .next (u.event 0xA005 (portObj k) 0) ∧
    u.eths[k].ip = s.eths[k].ip ∧ u.eths[k].conflict = true) ∧
  (∀ src v, s.admits src ethObj 1 (u8 v) → s.ethApplyOk = true → ∃ t, exec (.ethApply src v) s = .next t ∧ t.eths[k].conflict = false)

/-- R353, whole: an accepted timing is stored and pending, the timing in force stays; the next mode written on a free bus puts it in force
and integrates the controller again. -/
def Obligations.TimingWaitsForMode : Prop := ∀ (s : State) (src : Src) (k : Fin 3),
  (∀ fast w, s.admits src (canObj k) (if fast then 4 else 3) (u32 w) →
    timingOk (if fast then s.val (canObj k) 3 else w) (if fast then w else s.val (canObj k) 4) = true →
    ∃ t, exec (.bitTimingWrite src k fast w) s = .next t ∧ t.val (canObj k) (if fast then 4 else 3) = w ∧ t.cans[k].cfgPending = true ∧
    t.cans[k].nominal = s.cans[k].nominal ∧ t.cans[k].dataRate = s.cans[k].dataRate) ∧
  (∀ m, s.admits src (canObj k) 1 (u8 m) → (m = 1 → s.ttOk k = true) → s.cans[k].bus ≠ .busOff → s.onWire k = none →
    ∃ t, exec (.canMode src k m false) s = .next t ∧ t.cans[k].nominal = s.val (canObj k) 3 ∧ t.cans[k].dataRate = s.val (canObj k) 4 ∧
    t.cans[k].cfgPending = false ∧ t.cans[k].bus = .integrating)

/-- R386, whole: the copy an offset-0 `READ` takes serves every later `READ` of the transfer, whatever has become of the entry; an entry
that is only executed reads as zeros. -/
def Obligations.ReadsServedFromCopy : Prop := ∀ (s : State) (src : Src) (index sub : Nat), s.holding = false →
  (∀ raw v c, s.brings src raw (fun m => m.op = 0x01 && m.index = index && m.sub = sub && m.offset = 0) v →
    v.service src false index sub [] = .serve → (v.newRequest src).readCopy src index sub = .ok c → chunkSize src.iface c.2.length < c.2.length →
    ∃ t, exec (.read src index sub 0 raw) s = .next t ∧ ∃ tr, t.transferOf src = some tr ∧ tr.write = false ∧ tr.index = index ∧ tr.sub = sub ∧
      tr.data = c.2 ∧ tr.next = chunkSize src.iface c.2.length) ∧
  (∀ raw v tr, s.brings src raw (fun m => m.op = 0x01 && m.index = index && m.sub = sub && m.offset = tr.next) v →
    v.service src false index sub [] = .serve → v.transferOf src = some tr → tr.write = false → tr.index = index → tr.sub = sub → tr.next ≠ 0 →
    ∃ t, exec (.read src index sub tr.next raw) s = .next t ∧
    t.lastSent = some (.readReply src index sub tr.data.length tr.next ((tr.data.drop tr.next).take (chunkSize src.iface tr.data.length)))) ∧
  (∀ raw v r, s.brings src raw (fun m => m.op = 0x01 && m.index = index && m.sub = sub && m.offset = 0) v →
    v.service src false index sub [] = .serve → entryOf index sub = some r → r.access = .xs → ∃ t, exec (.read src index sub 0 raw) s = .next t ∧
    t.lastSent = some (.readReply src index sub r.size 0 ((List.replicate r.size 0x00#8).take (chunkSize src.iface r.size))))

/-- R135, whole: of two ports of one group whose class became lasting the lower takes the spare; the higher waits for it and then stays in
service on its own PHY, its history cleared, with event 0x1010. -/
def Obligations.LowerPortTakesSpare : Prop := ∀ (s : State) (p q : Fin 80), p.val / 10 = q.val / 10 → p < q → s.atBoundary = true →
  s.start.fw = .running → (∀ n ∈ portGroup (p.val + 1), (s.portAt n).spare = false ∧ (s.portAt n).restoreDue = false) →
  (∀ n ∈ portGroup (p.val + 1), (s.portAt n).moveDue = (n == p.val + 1 || n == q.val + 1)) →
  exec (.portToSpare q) s = .next s ∧
  ∃ t, exec (.portToSpare p) s = .next t ∧ (t.portAt (p.val + 1)).spare = true ∧ (t.portAt (q.val + 1)).spare = false ∧
    ((s.portAt (q.val + 1)).strike = false → ∃ i e, ∃ u : State, exec (.portToSpare q) t = .next (u.portEvent i e 0x1010 (q.val + 1)) ∧
      (u.portAt (q.val + 1)).spare = false ∧ (u.portAt (q.val + 1)).failed = (s.portAt (q.val + 1)).failed ∧ u.inWindow 1 (q.val + 1) = [])

/-- R409, whole: `MAX_SUB` of every object but the capability list. -/
def Obligations.MaxSubOfObjects : Prop := ∀ (index : Nat), rowsOf index ≠ [] → index ≠ 0x1F00 →
  ∃ r, entryOf index 0 = some r ∧ r.access = .ro ∧ r.kind = .num ∧ r.width = 2 ∧ r.count = 1 ∧
    ∃ m, (∀ s : State, s.readBytes none r index 0 = u16 m) ∧ (entryOf index m).isSome = true ∧ ∀ u, (entryOf index u).isSome = true → u ≤ m

end
end

