-- ==== Sys2Proof/Laws/Frame.lean ====
section
/-!
SUPPORT. Frames: `blank m` puts the parts of `m` to their reset values, so `t.blank m = s.blank m` says that `t` and `s` differ in no
other part. One lemma per update; the lemmas of the operations are in the files after this one.
-/

namespace Sys2Proof.Machine

set_option linter.unreachableTactic false
set_option linter.unusedTactic false
set_option linter.unusedSimpArgs false

/-- The state with the parts of `m` at their reset values. -/
def State.blank (m : Part → Bool) (s : State) : State :=
  { s with
    free := if m .free then 0 else s.free,
    ident := if m .ident then State.reset.ident else s.ident,
    utcBase := if m .utcBase then 0 else s.utcBase,
    utcAt := if m .utcAt then 0 else s.utcAt,
    irq := if m .irq then State.reset.irq else s.irq,
    evlog := if m .evlog then State.reset.evlog else s.evlog,
    fc := if m .fc then State.reset.fc else s.fc,
    supply := if m .supply then State.reset.supply else s.supply,
    start := if m .start then State.reset.start else s.start,
    mode := if m .mode then State.reset.mode else s.mode,
    cores := if m .cores then State.reset.cores else s.cores,
    health := if m .health then State.reset.health else s.health,
    strs := if m .strs then State.reset.strs else s.strs,
    banks := if m .banks then State.reset.banks else s.banks,
    gates := if m .gates then State.reset.gates else s.gates,
    gateBlock := if m .gateBlock then State.reset.gateBlock else s.gateBlock,
    bstr := if m .bstr then State.reset.bstr else s.bstr,
    belay := { (if m .belay then Belay.reset else s.belay) with store := if m .records then [] else s.belay.store },
    io := if m .io then State.reset.io else s.io,
    dict := { (if m .dict then Dict.reset else s.dict) with vals := if m .values then [] else s.dict.vals },
    seng := if m .seng then State.reset.seng else s.seng,
    therm := if m .therm then State.reset.therm else s.therm,
    cans := if m .cans then State.reset.cans else s.cans,
    ropes := if m .ropes then State.reset.ropes else s.ropes,
    nodes := if m .nodes then [] else s.nodes,
    trav := if m .trav then State.reset.trav else s.trav,
    bal := if m .bal then State.reset.bal else s.bal,
    eths := if m .eths then State.reset.eths else s.eths,
    stream := if m .stream then State.reset.stream else s.stream,
    clock := if m .clock then State.reset.clock else s.clock,
    corr := if m .corr then State.reset.corr else s.corr,
    est := if m .est then State.reset.est else s.est,
    store := if m .store then State.reset.store else s.store,
    heldReq := if m .heldReq then [] else s.heldReq,
    waitingWrites := if m .waitingWrites then [] else s.waitingWrites }

/-- A write's effect changes parts of `m` alone, whether it is applied or refused. -/
def AppliedIn (m : Part → Bool) (s : State) (r : Applied) : Prop :=
  (∀ t, r = .ok t → t.blank m = s.blank m) ∧ ∀ e, r = .error e → e.2.blank m = s.blank m

/-- What firmware does with a verified request changes parts of `m` alone. -/
def SealIn (m : Part → Bool) (s : State) : SealEnd → Prop
  | .refused _ _ t => t.blank m = s.blank m
  | .applied t => t.blank m = s.blank m
  | .awaits t => t.blank m = s.blank m

/-- A command changes parts of `m` alone. -/
def OutIn (m : Part → Bool) (s : State) (o : Out) : Prop := ∀ t, o = .next t → t.blank m = s.blank m

theorem outIn_next {m : Part → Bool} {s t : State} : OutIn m s (.next t) ↔ t.blank m = s.blank m :=
  ⟨fun h => h t rfl, fun h u hu => by cases hu; exact h⟩
theorem appliedIn_ok {m : Part → Bool} {s t : State} : AppliedIn m s (.ok t) ↔ t.blank m = s.blank m :=
  ⟨fun h => h.1 t rfl, fun h => ⟨fun u hu => by cases hu; exact h, fun e he => by cases he⟩⟩
theorem appliedIn_error {m : Part → Bool} {s : State} {e : Abort × State} : AppliedIn m s (.error e) ↔ e.2.blank m = s.blank m :=
  ⟨fun h => h.2 e rfl, fun h => ⟨fun u hu => (by cases hu), fun e he => by cases he; exact h⟩⟩
theorem sealIn_refused {m : Part → Bool} {s t : State} {a : Abort} {n : Nat} : SealIn m s (.refused a n t) ↔ t.blank m = s.blank m := Iff.rfl
theorem sealIn_applied {m : Part → Bool} {s t : State} : SealIn m s (.applied t) ↔ t.blank m = s.blank m := Iff.rfl
theorem sealIn_awaits {m : Part → Bool} {s t : State} : SealIn m s (.awaits t) ↔ t.blank m = s.blank m := Iff.rfl

theorem forEach_in {m : Part → Bool} {α : Type} {f : State → α → State} (h : ∀ s a, (f s a).blank m = s.blank m) (s : State) (l : List α) :
    (s.forEach l f).blank m = s.blank m := by
  unfold State.forEach
  induction l generalizing s with
  | nil => rfl
  | cons a l ih => rw [List.foldl_cons, ih, h]

theorem blank_ite {m : Part → Bool} {c : Prop} [Decidable c] {s t : State} : (if c then s else t).blank m = if c then s.blank m else t.blank m := by
  split <;> rfl

theorem forEach_next {m : Part → Bool} {α : Type} {f : State → α → State} {s t : State} {l : List α} (h : ∀ s a, (f s a).blank m = s.blank m)
    (ht : t.blank m = s.blank m) : (t.forEach l f).blank m = s.blank m := (forEach_in h t l).trans ht

theorem foldl_fst_in {m : Part → Bool} {α β : Type} {f : State × β → α → State × β} (h : ∀ p a, (f p a).1.blank m = p.1.blank m) (p : State × β)
    (l : List α) : (l.foldl f p).1.blank m = p.1.blank m := by
  induction l generalizing p with
  | nil => rfl
  | cons a l ih => rw [List.foldl_cons, ih, h]

theorem appliedIn_ite {m : Part → Bool} {c : Prop} [Decidable c] {s : State} {a b : Applied} (ha : AppliedIn m s a) (hb : AppliedIn m s b) :
    AppliedIn m s (if c then a else b) := by
  split <;> assumption

theorem foldl_in {m : Part → Bool} {α : Type} {f : State → α → State} (h : ∀ s a, (f s a).blank m = s.blank m) (s : State) (l : List α) :
    (l.foldl f s).blank m = s.blank m := forEach_in h s l

/-! ## One field -/

theorem blank_set_free {m : Part → Bool} (h : m .free = true) (s : State) v : State.blank m { s with free := v } = State.blank m s := by simp
    only [State.blank, h, if_true]

theorem blank_set_ident {m : Part → Bool} (h : m .ident = true) (s : State) v : State.blank m { s with ident := v } = State.blank m s := by simp
    only [State.blank, h, if_true]

theorem blank_set_utcBase {m : Part → Bool} (h : m .utcBase = true) (s : State) v : State.blank m { s with utcBase := v } = State.blank m s := by
    simp only [State.blank, h, if_true]

theorem blank_set_utcAt {m : Part → Bool} (h : m .utcAt = true) (s : State) v : State.blank m { s with utcAt := v } = State.blank m s := by simp
    only [State.blank, h, if_true]

theorem blank_set_irq {m : Part → Bool} (h : m .irq = true) (s : State) v : State.blank m { s with irq := v } = State.blank m s := by simp only
    [State.blank, h, if_true]

theorem blank_set_evlog {m : Part → Bool} (h : m .evlog = true) (s : State) v : State.blank m { s with evlog := v } = State.blank m s := by simp
    only [State.blank, h, if_true]

theorem blank_set_fc {m : Part → Bool} (h : m .fc = true) (s : State) v : State.blank m { s with fc := v } = State.blank m s := by simp only
    [State.blank, h, if_true]

theorem blank_set_supply {m : Part → Bool} (h : m .supply = true) (s : State) v : State.blank m { s with supply := v } = State.blank m s := by
    simp only [State.blank, h, if_true]

theorem blank_set_start {m : Part → Bool} (h : m .start = true) (s : State) v : State.blank m { s with start := v } = State.blank m s := by simp
    only [State.blank, h, if_true]

theorem blank_set_mode {m : Part → Bool} (h : m .mode = true) (s : State) v : State.blank m { s with mode := v } = State.blank m s := by simp
    only [State.blank, h, if_true]

theorem blank_set_cores {m : Part → Bool} (h : m .cores = true) (s : State) v : State.blank m { s with cores := v } = State.blank m s := by simp
    only [State.blank, h, if_true]

theorem blank_set_health {m : Part → Bool} (h : m .health = true) (s : State) v : State.blank m { s with health := v } = State.blank m s := by
    simp only [State.blank, h, if_true]

theorem blank_set_strs {m : Part → Bool} (h : m .strs = true) (s : State) v : State.blank m { s with strs := v } = State.blank m s := by simp
    only [State.blank, h, if_true]

theorem blank_set_banks {m : Part → Bool} (h : m .banks = true) (s : State) v : State.blank m { s with banks := v } = State.blank m s := by simp
    only [State.blank, h, if_true]

theorem blank_set_gates {m : Part → Bool} (h : m .gates = true) (s : State) v : State.blank m { s with gates := v } = State.blank m s := by simp
    only [State.blank, h, if_true]

theorem blank_set_gateBlock {m : Part → Bool} (h : m .gateBlock = true) (s : State) v : State.blank m { s with gateBlock := v } = State.blank m s
    := by simp only [State.blank, h, if_true]

theorem blank_set_bstr {m : Part → Bool} (h : m .bstr = true) (s : State) v : State.blank m { s with bstr := v } = State.blank m s := by simp
    only [State.blank, h, if_true]

theorem blank_set_io {m : Part → Bool} (h : m .io = true) (s : State) v : State.blank m { s with io := v } = State.blank m s := by simp only
    [State.blank, h, if_true]

theorem blank_set_seng {m : Part → Bool} (h : m .seng = true) (s : State) v : State.blank m { s with seng := v } = State.blank m s := by simp
    only [State.blank, h, if_true]

theorem blank_set_therm {m : Part → Bool} (h : m .therm = true) (s : State) v : State.blank m { s with therm := v } = State.blank m s := by simp
    only [State.blank, h, if_true]

theorem blank_set_cans {m : Part → Bool} (h : m .cans = true) (s : State) v : State.blank m { s with cans := v } = State.blank m s := by simp
    only [State.blank, h, if_true]

theorem blank_set_ropes {m : Part → Bool} (h : m .ropes = true) (s : State) v : State.blank m { s with ropes := v } = State.blank m s := by simp
    only [State.blank, h, if_true]

theorem blank_set_nodes {m : Part → Bool} (h : m .nodes = true) (s : State) v : State.blank m { s with nodes := v } = State.blank m s := by simp
    only [State.blank, h, if_true]

theorem blank_set_trav {m : Part → Bool} (h : m .trav = true) (s : State) v : State.blank m { s with trav := v } = State.blank m s := by simp
    only [State.blank, h, if_true]

theorem blank_set_bal {m : Part → Bool} (h : m .bal = true) (s : State) v : State.blank m { s with bal := v } = State.blank m s := by simp only
    [State.blank, h, if_true]

theorem blank_set_eths {m : Part → Bool} (h : m .eths = true) (s : State) v : State.blank m { s with eths := v } = State.blank m s := by simp
    only [State.blank, h, if_true]

theorem blank_set_stream {m : Part → Bool} (h : m .stream = true) (s : State) v : State.blank m { s with stream := v } = State.blank m s := by
    simp only [State.blank, h, if_true]

theorem blank_set_clock {m : Part → Bool} (h : m .clock = true) (s : State) v : State.blank m { s with clock := v } = State.blank m s := by simp
    only [State.blank, h, if_true]

theorem blank_set_corr {m : Part → Bool} (h : m .corr = true) (s : State) v : State.blank m { s with corr := v } = State.blank m s := by simp
    only [State.blank, h, if_true]

theorem blank_set_est {m : Part → Bool} (h : m .est = true) (s : State) v : State.blank m { s with est := v } = State.blank m s := by simp only
    [State.blank, h, if_true]

theorem blank_set_store {m : Part → Bool} (h : m .store = true) (s : State) v : State.blank m { s with store := v } = State.blank m s := by simp
    only [State.blank, h, if_true]

theorem blank_set_heldReq {m : Part → Bool} (h : m .heldReq = true) (s : State) v : State.blank m { s with heldReq := v } = State.blank m s := by
    simp only [State.blank, h, if_true]

theorem blank_set_waitingWrites {m : Part → Bool} (h : m .waitingWrites = true) (s : State) v : State.blank m { s with waitingWrites := v } =
    State.blank m s := by simp only [State.blank, h, if_true]

theorem blank_set_belay {m : Part → Bool} (h : m .belay = true) (s : State) (v : Belay) (hv : v.store = s.belay.store) :
    State.blank m { s with belay := v } = State.blank m s := by simp only [State.blank, h, if_true, hv]

theorem blank_set_belay_records {m : Part → Bool} (h : m .belay = true) (hr : m .records = true) (s : State) (v : Belay) :
    State.blank m { s with belay := v } = State.blank m s := by simp only [State.blank, h, hr, if_true]

theorem blank_set_dict {m : Part → Bool} (h : m .dict = true) (s : State) (v : Dict) (hv : v.vals = s.dict.vals) :
    State.blank m { s with dict := v } = State.blank m s := by simp only [State.blank, h, if_true, hv]

theorem blank_set_dict_values {m : Part → Bool} (h : m .dict = true) (hr : m .values = true) (s : State) (v : Dict) :
    State.blank m { s with dict := v } = State.blank m s := by simp only [State.blank, h, hr, if_true]

end Sys2Proof.Machine
end

