-- ==== Sys2Proof/Laws/Frames1.lean ====
section
/-!
SUPPORT. Frames of the operations: each changes no part of the state beside those its hypotheses name.
-/

namespace Sys2Proof.Machine

set_option linter.unreachableTactic false
set_option linter.unusedTactic false
set_option linter.unusedSimpArgs false

theorem State.setVal_in {m : Part → Bool} (h_dict : m .dict = true) (h_values : m .values = true) (x0 : State) (x1 x2 x3 x4 : Nat) :
    State.blank m (State.setVal x0 x1 x2 x3 x4) = State.blank m x0 := by
  simp only [State.setVal, State.blank, h_dict, h_values, if_true]

theorem State.irqRaise_in {m : Part → Bool} (h_irq : m .irq = true) (x0 : State) (x1 : Nat) :
    State.blank m (State.irqRaise x0 x1) = State.blank m x0 := by
  unfold State.irqRaise
  repeat' first
    | simp only [h_irq, blank_set_irq, blank_ite, ite_self, implies_true]
    | split

theorem State.setBucket_in {m : Part → Bool} (h_evlog : m .evlog = true) (x0 : State) (x1 : Nat) (x2 : Bucket) :
    State.blank m (State.setBucket x0 x1 x2) = State.blank m x0 := by
  unfold State.setBucket
  repeat' first
    | simp only [h_evlog, blank_set_evlog, blank_ite, ite_self, implies_true]
    | split

theorem State.flushRecords_in {m : Part → Bool} (h_evlog : m .evlog = true) (h_irq : m .irq = true) (x0 : State) :
    State.blank m (State.flushRecords x0) = State.blank m x0 := by
  unfold State.flushRecords
  repeat' first
    | simp only [h_evlog, h_irq, State.irqRaise_in, blank_set_evlog, blank_ite, ite_self, forEach_in, implies_true]
    | refine forEach_next (fun _ _ => ?_) ?_
    | split

theorem State.stage_in {m : Part → Bool} (h_evlog : m .evlog = true) (x0 : State) (x1 : Nat) (x2 : Nat) (x3 : Nat) (x4 : List Byte) (x5 :
    optParam Bool false) :
    State.blank m (State.stage x0 x1 x2 x3 x4 x5) = State.blank m x0 := by
  unfold State.stage
  repeat' first
    | simp only [h_evlog, blank_set_evlog, blank_ite, ite_self, implies_true]
    | split

theorem State.summary_in {m : Part → Bool} (h_evlog : m .evlog = true) (x0 : State) (x1 : Nat) :
    State.blank m (State.summary x0 x1) = State.blank m x0 := by
  unfold State.summary
  repeat' first
    | simp only [h_evlog, State.stage_in, State.setBucket_in, blank_ite, ite_self, implies_true]
    | split

theorem State.flushAll_in {m : Part → Bool} (h_evlog : m .evlog = true) (h_irq : m .irq = true) (x0 : State) :
    State.blank m (State.flushAll x0) = State.blank m x0 := by
  unfold State.flushAll
  repeat' first
    | simp only [h_evlog, h_irq, State.flushRecords_in, State.summary_in, blank_ite, ite_self, forEach_in, implies_true]
    | refine forEach_next (fun _ _ => ?_) ?_
    | split

theorem State.flushIfDue_in {m : Part → Bool} (h_evlog : m .evlog = true) (h_irq : m .irq = true) (x0 : State) :
    State.blank m (State.flushIfDue x0) = State.blank m x0 := by
  unfold State.flushIfDue
  repeat' first
    | simp only [h_evlog, h_irq, State.flushAll_in, blank_ite, ite_self, forEach_in, implies_true]
    | refine forEach_next (fun _ _ => ?_) ?_
    | split

theorem State.noteFill_in {m : Part → Bool} (h_evlog : m .evlog = true) (h_irq : m .irq = true) (x0 : State) :
    State.blank m (State.noteFill x0) = State.blank m x0 := by
  unfold State.noteFill
  repeat' first
    | simp only [h_evlog, h_irq, State.stage_in, State.irqRaise_in, blank_set_evlog, blank_ite, ite_self, implies_true]
    | split

theorem State.event_in {m : Part → Bool} (h_evlog : m .evlog = true) (h_irq : m .irq = true) (x0 : State) (x1 : Nat) (x2 : Nat) (x3 : Nat) (x4 :
    optParam (List Byte) []) :
    State.blank m (State.event x0 x1 x2 x3 x4) = State.blank m x0 := by
  unfold State.event
  repeat' first
    | simp only [h_evlog, h_irq, State.noteFill_in, State.flushIfDue_in, State.stage_in, State.summary_in, State.setBucket_in, blank_set_evlog,
        blank_ite, ite_self, implies_true]
    | split

theorem State.canEvent_in {m : Part → Bool} (h_evlog : m .evlog = true) (h_irq : m .irq = true) (x0 : State) (x1 : Fin 3) (x2 : Nat) (x3 :
    optParam Nat 0) (x4 : optParam (List Byte) []) :
    State.blank m (State.canEvent x0 x1 x2 x3 x4) = State.blank m x0 := by
  unfold State.canEvent
  repeat' first
    | simp only [h_evlog, h_irq, State.event_in, State.irqRaise_in, blank_ite, ite_self, implies_true]
    | split

theorem State.clearWindow_in {m : Part → Bool} (h_fc : m .fc = true) (x0 : State) (x1 : Nat) (x2 : Nat) :
    State.blank m (State.clearWindow x0 x1 x2) = State.blank m x0 := by
  unfold State.clearWindow
  repeat' first
    | simp only [h_fc, blank_set_fc, blank_ite, ite_self, implies_true]
    | split

theorem State.countFault_in {m : Part → Bool} (h_fc : m .fc = true) (h_health : m .health = true) (h_evlog : m .evlog = true) (h_irq : m .irq = true)
    (x0 : State) (x1 : Fin 16) (x2 : Nat) : State.blank m (State.countFault x0 x1 x2).1 = State.blank m x0 := by
  have two (t : State) (a : FaultCounts) (b : Health) : State.blank m { t with fc := a, health := b } = State.blank m t := by
    simp only [State.blank, h_fc, h_health, if_true]
  unfold State.countFault
  dsimp only
  split
  · refine (State.event_in h_evlog h_irq _ _ _ _ _).trans ((two _ _ _).trans ?_)
    split
    · exact blank_set_fc h_fc _ _
    · exact (State.clearWindow_in h_fc _ _ _).trans (blank_set_fc h_fc _ _)
  · exact blank_set_fc h_fc _ _

theorem State.setBlock_in {m : Part → Bool} (h_mode : m .mode = true) (h_evlog : m .evlog = true) (h_irq : m .irq = true) (x0 : State) (x1 :
    BlockState) (x2 : Nat) :
    State.blank m (State.setBlock x0 x1 x2) = State.blank m x0 := by
  unfold State.setBlock
  repeat' first
    | simp only [h_mode, h_evlog, h_irq, State.event_in, State.irqRaise_in, blank_set_mode, blank_ite, ite_self, implies_true]
    | split

theorem State.followBanks_in {m : Part → Bool} (h_mode : m .mode = true) (h_evlog : m .evlog = true) (h_irq : m .irq = true) (x0 : State) :
    State.blank m (State.followBanks x0) = State.blank m x0 := by
  unfold State.followBanks
  repeat' first
    | simp only [h_mode, h_evlog, h_irq, State.setBlock_in, blank_ite, ite_self, implies_true]
    | split

theorem State.modStr_in {m : Part → Bool} (h_strs : m .strs = true) (x0 : State) (x1 : Fin 40) (x2 : StrCtl → StrCtl) :
    State.blank m (State.modStr x0 x1 x2) = State.blank m x0 := by
  unfold State.modStr
  repeat' first
    | simp only [h_strs, blank_set_strs, blank_ite, ite_self, implies_true]
    | split

theorem State.modBank_in {m : Part → Bool} (h_banks : m .banks = true) (x0 : State) (x1 : Fin 4) (x2 : BankCtl → BankCtl) :
    State.blank m (State.modBank x0 x1 x2) = State.blank m x0 := by
  unfold State.modBank
  repeat' first
    | simp only [h_banks, blank_set_banks, blank_ite, ite_self, implies_true]
    | split

theorem State.modGate_in {m : Part → Bool} (h_gates : m .gates = true) (x0 : State) (x1 : Fin 52) (x2 : Gate → Gate) :
    State.blank m (State.modGate x0 x1 x2) = State.blank m x0 := by
  unfold State.modGate
  repeat' first
    | simp only [h_gates, blank_set_gates, blank_ite, ite_self, implies_true]
    | split

theorem State.modBStr_in {m : Part → Bool} (h_bstr : m .bstr = true) (x0 : State) (x1 : Fin 40) (x2 : BelayStr → BelayStr) :
    State.blank m (State.modBStr x0 x1 x2) = State.blank m x0 := by
  unfold State.modBStr
  repeat' first
    | simp only [h_bstr, blank_set_bstr, blank_ite, ite_self, implies_true]
    | split

theorem State.modBelay_in {m : Part → Bool} (h_belay : m .belay = true) (x0 : State) (x1 : Belay → Belay) (hv : (x1 x0.belay).store =
    x0.belay.store) :
    State.blank m (State.modBelay x0 x1) = State.blank m x0 := by
  simp only [State.modBelay, State.blank, h_belay, if_true, hv]
theorem State.modBelay_records_in {m : Part → Bool} (h_belay : m .belay = true) (h_records : m .records = true) (x0 : State) (x1 : Belay → Belay) :
    State.blank m (State.modBelay x0 x1) = State.blank m x0 := by
  simp only [State.modBelay, State.blank, h_belay, h_records, if_true]

theorem State.modIn_in {m : Part → Bool} (h_io : m .io = true) (x0 : State) (x1 : Fin 24) (x2 : SafeInput → SafeInput) :
    State.blank m (State.modIn x0 x1 x2) = State.blank m x0 := by
  unfold State.modIn
  repeat' first
    | simp only [h_io, blank_set_io, blank_ite, ite_self, implies_true]
    | split

theorem State.modQ_in {m : Part → Bool} (h_io : m .io = true) (x0 : State) (x1 : Fin 16) (x2 : Output → Output) :
    State.blank m (State.modQ x0 x1 x2) = State.blank m x0 := by
  unfold State.modQ
  repeat' first
    | simp only [h_io, blank_set_io, blank_ite, ite_self, implies_true]
    | split

theorem State.modSm_in {m : Part → Bool} (h_io : m .io = true) (x0 : State) (x1 : Fin 8) (x2 : Stream → Stream) :
    State.blank m (State.modSm x0 x1 x2) = State.blank m x0 := by
  unfold State.modSm
  repeat' first
    | simp only [h_io, blank_set_io, blank_ite, ite_self, implies_true]
    | split

theorem State.modTp_in {m : Part → Bool} (h_io : m .io = true) (x0 : State) (x1 : Fin 4) (x2 : PulseSupply → PulseSupply) :
    State.blank m (State.modTp x0 x1 x2) = State.blank m x0 := by
  unfold State.modTp
  repeat' first
    | simp only [h_io, blank_set_io, blank_ite, ite_self, implies_true]
    | split

theorem State.modSupply_in {m : Part → Bool} (h_supply : m .supply = true) (x0 : State) (x1 : Supply → Supply) :
    State.blank m (State.modSupply x0 x1) = State.blank m x0 := by
  unfold State.modSupply
  repeat' first
    | simp only [h_supply, blank_set_supply, blank_ite, ite_self, implies_true]
    | split

theorem State.modStart_in {m : Part → Bool} (h_start : m .start = true) (x0 : State) (x1 : Start → Start) :
    State.blank m (State.modStart x0 x1) = State.blank m x0 := by
  unfold State.modStart
  repeat' first
    | simp only [h_start, blank_set_start, blank_ite, ite_self, implies_true]
    | split

theorem State.modHealth_in {m : Part → Bool} (h_health : m .health = true) (x0 : State) (x1 : Health → Health) :
    State.blank m (State.modHealth x0 x1) = State.blank m x0 := by
  unfold State.modHealth
  repeat' first
    | simp only [h_health, blank_set_health, blank_ite, ite_self, implies_true]
    | split

theorem State.modSeng_in {m : Part → Bool} (h_seng : m .seng = true) (x0 : State) (x1 : Seal → Seal) :
    State.blank m (State.modSeng x0 x1) = State.blank m x0 := by
  unfold State.modSeng
  repeat' first
    | simp only [h_seng, blank_set_seng, blank_ite, ite_self, implies_true]
    | split

theorem State.modDict_in {m : Part → Bool} (h_dict : m .dict = true) (x0 : State) (x1 : Dict → Dict) (hv : (x1 x0.dict).vals = x0.dict.vals) :
    State.blank m (State.modDict x0 x1) = State.blank m x0 := by
  simp only [State.modDict, State.blank, h_dict, if_true, hv]
theorem State.modDict_values_in {m : Part → Bool} (h_dict : m .dict = true) (h_values : m .values = true) (x0 : State) (x1 : Dict → Dict) :
    State.blank m (State.modDict x0 x1) = State.blank m x0 := by
  simp only [State.modDict, State.blank, h_dict, h_values, if_true]

theorem State.modCan_in {m : Part → Bool} (h_cans : m .cans = true) (x0 : State) (x1 : Fin 3) (x2 : Can → Can) :
    State.blank m (State.modCan x0 x1 x2) = State.blank m x0 := by
  unfold State.modCan
  repeat' first
    | simp only [h_cans, blank_set_cans, blank_ite, ite_self, implies_true]
    | split

theorem State.modRope_in {m : Part → Bool} (h_ropes : m .ropes = true) (x0 : State) (x1 : Fin 40) (x2 : Rope → Rope) :
    State.blank m (State.modRope x0 x1 x2) = State.blank m x0 := by
  unfold State.modRope
  repeat' first
    | simp only [h_ropes, blank_set_ropes, blank_ite, ite_self, implies_true]
    | split

theorem State.setNode_in {m : Part → Bool} (h_nodes : m .nodes = true) (x0 : State) (x1 : Fin 40) (x2 : Nat) (x3 : Node) :
    State.blank m (State.setNode x0 x1 x2 x3) = State.blank m x0 := by
  unfold State.setNode
  repeat' first
    | simp only [h_nodes, blank_set_nodes, blank_ite, ite_self, implies_true]
    | split

theorem State.modNode_in {m : Part → Bool} (h_nodes : m .nodes = true) (x0 : State) (x1 : Fin 40) (x2 : Nat) (x3 : Node → Node) :
    State.blank m (State.modNode x0 x1 x2 x3) = State.blank m x0 := by
  unfold State.modNode
  repeat' first
    | simp only [h_nodes, State.setNode_in, blank_ite, ite_self, implies_true]
    | split

theorem State.modTrav_in {m : Part → Bool} (h_trav : m .trav = true) (x0 : State) (x1 : Traverse → Traverse) :
    State.blank m (State.modTrav x0 x1) = State.blank m x0 := by
  unfold State.modTrav
  repeat' first
    | simp only [h_trav, blank_set_trav, blank_ite, ite_self, implies_true]
    | split

theorem State.modBal_in {m : Part → Bool} (h_bal : m .bal = true) (x0 : State) (x1 : Balance → Balance) :
    State.blank m (State.modBal x0 x1) = State.blank m x0 := by
  unfold State.modBal
  repeat' first
    | simp only [h_bal, blank_set_bal, blank_ite, ite_self, implies_true]
    | split

theorem State.modEth_in {m : Part → Bool} (h_eths : m .eths = true) (x0 : State) (x1 : Fin 2) (x2 : Eth → Eth) :
    State.blank m (State.modEth x0 x1 x2) = State.blank m x0 := by
  unfold State.modEth
  repeat' first
    | simp only [h_eths, blank_set_eths, blank_ite, ite_self, implies_true]
    | split

theorem State.modStream_in {m : Part → Bool} (h_stream : m .stream = true) (x0 : State) (x1 : CellStream → CellStream) :
    State.blank m (State.modStream x0 x1) = State.blank m x0 := by
  unfold State.modStream
  repeat' first
    | simp only [h_stream, blank_set_stream, blank_ite, ite_self, implies_true]
    | split

theorem State.modClock_in {m : Part → Bool} (h_clock : m .clock = true) (x0 : State) (x1 : Clock → Clock) :
    State.blank m (State.modClock x0 x1) = State.blank m x0 := by
  unfold State.modClock
  repeat' first
    | simp only [h_clock, blank_set_clock, blank_ite, ite_self, implies_true]
    | split

theorem State.modCorr_in {m : Part → Bool} (h_corr : m .corr = true) (x0 : State) (x1 : Corr → Corr) :
    State.blank m (State.modCorr x0 x1) = State.blank m x0 := by
  unfold State.modCorr
  repeat' first
    | simp only [h_corr, blank_set_corr, blank_ite, ite_self, implies_true]
    | split

theorem State.modEst_in {m : Part → Bool} (h_est : m .est = true) (x0 : State) (x1 : Est → Est) :
    State.blank m (State.modEst x0 x1) = State.blank m x0 := by
  unfold State.modEst
  repeat' first
    | simp only [h_est, blank_set_est, blank_ite, ite_self, implies_true]
    | split

theorem State.modStore_in {m : Part → Bool} (h_store : m .store = true) (x0 : State) (x1 : Store → Store) :
    State.blank m (State.modStore x0 x1) = State.blank m x0 := by
  unfold State.modStore
  repeat' first
    | simp only [h_store, blank_set_store, blank_ite, ite_self, implies_true]
    | split

theorem State.modTherm_in {m : Part → Bool} (h_therm : m .therm = true) (x0 : State) (x1 : Thermal → Thermal) :
    State.blank m (State.modTherm x0 x1) = State.blank m x0 := by
  unfold State.modTherm
  repeat' first
    | simp only [h_therm, blank_set_therm, blank_ite, ite_self, implies_true]
    | split

theorem State.writeCfg_in {m : Part → Bool} (h_dict : m .dict = true) (h_irq : m .irq = true) (x0 : State) (x1 : Sparse Nat) :
    State.blank m (State.writeCfg x0 x1) = State.blank m x0 := by
  unfold State.writeCfg
  repeat' first
    | simp only [h_dict, h_irq, State.modDict_in, State.irqRaise_in, blank_ite, ite_self, forEach_in, implies_true]
    | refine forEach_next (fun _ _ => ?_) ?_
    | split

theorem State.storeCfg_in {m : Part → Bool} (h_dict : m .dict = true) (h_irq : m .irq = true) (x0 : State) :
    State.blank m (State.storeCfg x0) = State.blank m x0 := by
  unfold State.storeCfg
  repeat' first
    | simp only [h_dict, h_irq, State.writeCfg_in, blank_ite, ite_self, forEach_in, implies_true]
    | refine forEach_next (fun _ _ => ?_) ?_
    | split

theorem State.takeFree_in {m : Part → Bool} (h_free : m .free = true) (x0 : State) :
    State.blank m (State.takeFree x0).1 = State.blank m x0 := by
  unfold State.takeFree
  repeat' first
    | simp only [h_free, blank_set_free, blank_ite, ite_self, implies_true]
    | split

theorem State.dropPole_in {m : Part → Bool} (h_io : m .io = true) (h_evlog : m .evlog = true) (h_irq : m .irq = true) (x0 : State) (x1 : Fin 16)
    (x2 : Bool) :
    State.blank m (State.dropPole x0 x1 x2) = State.blank m x0 := by
  unfold State.dropPole
  repeat' first
    | simp only [h_io, h_evlog, h_irq, State.modQ_in, State.event_in, State.irqRaise_in, blank_ite, ite_self, implies_true]
    | split

theorem State.dropQ_in {m : Part → Bool} (h_io : m .io = true) (h_evlog : m .evlog = true) (h_irq : m .irq = true) (x0 : State) (x1 : Fin 16) (x2
    : optParam Bool false) :
    State.blank m (State.dropQ x0 x1 x2) = State.blank m x0 := by
  unfold State.dropQ
  repeat' first
    | simp only [h_io, h_evlog, h_irq, State.dropPole_in, blank_ite, ite_self, implies_true]
    | split

theorem State.startPole_in {m : Part → Bool} (h_io : m .io = true) (h_evlog : m .evlog = true) (h_irq : m .irq = true) (x0 : State) (x1 : Fin 16) :
    State.blank m (State.startPole x0 x1) = State.blank m x0 := by
  unfold State.startPole
  repeat' first
    | simp only [h_io, h_evlog, h_irq, State.modQ_in, State.event_in, State.irqRaise_in, blank_ite, ite_self, implies_true]
    | split

theorem State.consumeQPass_in {m : Part → Bool} (h_irq : m .irq = true) (h_io : m .io = true) (x0 : State) (x1 : Fin 16) :
    State.blank m (State.consumeQPass x0 x1) = State.blank m x0 := by
  unfold State.consumeQPass
  repeat' first
    | simp only [h_irq, h_io, State.irqRaise_in, State.modQ_in, blank_ite, ite_self, implies_true]
    | split

theorem State.unwaitPole_in {m : Part → Bool} (h_io : m .io = true) (x0 : State) (x1 : Fin 16) :
    State.blank m (State.unwaitPole x0 x1) = State.blank m x0 := by
  unfold State.unwaitPole
  repeat' first
    | simp only [h_io, State.modQ_in, blank_ite, ite_self, forEach_in, implies_true]
    | refine forEach_next (fun _ _ => ?_) ?_
    | split

theorem State.unwaitQ_in {m : Part → Bool} (h_io : m .io = true) (x0 : State) (x1 : Fin 16) :
    State.blank m (State.unwaitQ x0 x1) = State.blank m x0 := by
  unfold State.unwaitQ
  repeat' first
    | simp only [h_io, State.unwaitPole_in, blank_ite, ite_self, forEach_in, implies_true]
    | refine forEach_next (fun _ _ => ?_) ?_
    | split

theorem State.serveQ_in {m : Part → Bool} (h_io : m .io = true) (h_evlog : m .evlog = true) (h_irq : m .irq = true) (x0 : Nat) (x1 : State) :
    State.blank m (State.serveQ x0 x1) = State.blank m x1 := by
  induction x0 generalizing x1 with
  | zero => rfl
  | succ n ih =>
    unfold State.serveQ
    repeat' first
      | simp only [ih, State.startPole_in, State.consumeQPass_in, State.unwaitQ_in, h_io, h_evlog, h_irq, blank_ite, ite_self]
      | split

theorem State.requestQ_in {m : Part → Bool} (h_io : m .io = true) (h_evlog : m .evlog = true) (h_irq : m .irq = true) (x0 : State) (x1 : Fin 16) :
    State.blank m (State.requestQ x0 x1) = State.blank m x0 := by
  unfold State.requestQ
  repeat' first
    | simp only [h_io, h_evlog, h_irq, State.modQ_in, State.serveQ_in, blank_ite, ite_self, implies_true]
    | split

theorem State.enforceOutputs_in {m : Part → Bool} (h_io : m .io = true) (h_evlog : m .evlog = true) (h_irq : m .irq = true) (x0 : State) :
    State.blank m (State.enforceOutputs x0) = State.blank m x0 := by
  unfold State.enforceOutputs
  repeat' first
    | simp only [h_io, h_evlog, h_irq, State.serveQ_in, State.dropQ_in, blank_ite, ite_self, forEach_in, implies_true]
    | refine forEach_next (fun _ _ => ?_) ?_
    | split

theorem State.setStr_in {m : Part → Bool} (h_evlog : m .evlog = true) (h_irq : m .irq = true) (h_strs : m .strs = true) (x0 : State) (x1 : Fin
    40) (x2 : StrState) (x3 : optParam Nat 0) :
    State.blank m (State.setStr x0 x1 x2 x3) = State.blank m x0 := by
  unfold State.setStr
  repeat' first
    | simp only [h_evlog, h_irq, h_strs, State.event_in, State.irqRaise_in, State.modStr_in, blank_ite, ite_self, implies_true]
    | split

theorem State.setBank_in {m : Part → Bool} (h_evlog : m .evlog = true) (h_irq : m .irq = true) (h_banks : m .banks = true) (h_mode : m .mode = true)
    (h_io : m .io = true) (x0 : State) (x1 : Fin 4) (x2 : BankState) :
    State.blank m (State.setBank x0 x1 x2) = State.blank m x0 := by
  unfold State.setBank
  repeat' first
    | simp only [h_evlog, h_irq, h_banks, h_mode, h_io, State.serveQ_in, State.event_in, State.dropQ_in, State.modBank_in, State.followBanks_in,
        blank_ite, ite_self, forEach_in, implies_true]
    | refine forEach_next (fun _ _ => ?_) ?_
    | split

theorem State.discardClose_in {m : Part → Bool} (h_evlog : m .evlog = true) (h_irq : m .irq = true) (h_strs : m .strs = true) (x0 : State) (x1 :
    Fin 40) :
    State.blank m (State.discardClose x0 x1) = State.blank m x0 := by
  unfold State.discardClose
  repeat' first
    | simp only [h_evlog, h_irq, h_strs, State.event_in, State.irqRaise_in, State.modStr_in, blank_ite, ite_self, implies_true]
    | split

theorem State.sOff_in {m : Part → Bool} (h_gates : m .gates = true) (x0 : State) (x1 : Fin 40) :
    State.blank m (State.sOff x0 x1) = State.blank m x0 := by
  unfold State.sOff
  repeat' first
    | simp only [h_gates, State.modGate_in, blank_ite, ite_self, implies_true]
    | split

theorem State.openS_in {m : Part → Bool} (h_evlog : m .evlog = true) (h_irq : m .irq = true) (h_strs : m .strs = true) (h_gates : m .gates =
    true) (x0 : State) (x1 : Fin 40) :
    State.blank m (State.openS x0 x1) = State.blank m x0 := by
  unfold State.openS
  repeat' first
    | simp only [h_evlog, h_irq, h_strs, h_gates, State.discardClose_in, State.sOff_in, blank_ite, ite_self, implies_true]
    | split

theorem State.hbOff_in {m : Part → Bool} (h_gates : m .gates = true) (x0 : State) (x1 : Fin 4) :
    State.blank m (State.hbOff x0 x1) = State.blank m x0 := by
  unfold State.hbOff
  repeat' first
    | simp only [h_gates, State.modGate_in, blank_ite, ite_self, implies_true]
    | split

theorem State.setDn_in {m : Part → Bool} (h_gates : m .gates = true) (h_irq : m .irq = true) (x0 : State) (x1 : Fin 4) (x2 : Bool) :
    State.blank m (State.setDn x0 x1 x2) = State.blank m x0 := by
  unfold State.setDn
  repeat' first
    | simp only [h_gates, h_irq, State.irqRaise_in, State.modGate_in, blank_ite, ite_self, forEach_in, implies_true]
    | refine forEach_next (fun _ _ => ?_) ?_
    | split

theorem State.dnOn_in {m : Part → Bool} (h_gates : m .gates = true) (h_irq : m .irq = true) (x0 : State) (x1 : Fin 4) :
    State.blank m (State.dnOn x0 x1) = State.blank m x0 := by
  unfold State.dnOn
  repeat' first
    | simp only [h_gates, h_irq, State.setDn_in, blank_ite, ite_self, forEach_in, implies_true]
    | refine forEach_next (fun _ _ => ?_) ?_
    | split

theorem State.discharge_in {m : Part → Bool} (h_banks : m .banks = true) (h_evlog : m .evlog = true) (h_irq : m .irq = true) (h_mode : m .mode =
    true) (h_gates : m .gates = true) (h_io : m .io = true) (x0 : State) (x1 : Fin 4) :
    State.blank m (State.discharge x0 x1) = State.blank m x0 := by
  unfold State.discharge
  repeat' first
    | simp only [h_banks, h_evlog, h_irq, h_mode, h_gates, h_io, State.setBank_in, State.dnOn_in, State.modBank_in, State.hbOff_in, blank_ite,
        ite_self, implies_true]
    | split

theorem State.endPrecharge_in {m : Part → Bool} (h_banks : m .banks = true) (h_evlog : m .evlog = true) (h_irq : m .irq = true) (h_strs : m .strs
    = true) (h_gates : m .gates = true) (h_mode : m .mode = true) (h_io : m .io = true) (x0 : State) (x1 : Fin 4) (x2 : Nat) (x3 : Nat) :
    State.blank m (State.endPrecharge x0 x1 x2 x3) = State.blank m x0 := by
  unfold State.endPrecharge
  repeat' first
    | simp only [h_banks, h_evlog, h_irq, h_strs, h_gates, h_mode, h_io, State.modBank_in, State.openS_in, State.setStr_in, State.irqRaise_in,
        State.event_in, State.discharge_in, State.dnOn_in, State.hbOff_in, blank_ite, ite_self, implies_true]
    | split

theorem State.settleBank_in {m : Part → Bool} (h_banks : m .banks = true) (h_evlog : m .evlog = true) (h_irq : m .irq = true) (h_strs : m .strs =
    true) (h_gates : m .gates = true) (h_mode : m .mode = true) (h_io : m .io = true) (x0 : State) (x1 : Fin 4) :
    State.blank m (State.settleBank x0 x1) = State.blank m x0 := by
  unfold State.settleBank
  repeat' first
    | simp only [h_banks, h_evlog, h_irq, h_strs, h_gates, h_mode, h_io, State.endPrecharge_in, State.discharge_in, blank_ite, ite_self, implies_true]
    | split

theorem State.settleBanks_in {m : Part → Bool} (h_banks : m .banks = true) (h_evlog : m .evlog = true) (h_irq : m .irq = true) (h_strs : m .strs
    = true) (h_gates : m .gates = true) (h_mode : m .mode = true) (h_io : m .io = true) (x0 : State) :
    State.blank m (State.settleBanks x0) = State.blank m x0 := by
  unfold State.settleBanks
  repeat' first
    | simp only [h_banks, h_evlog, h_irq, h_strs, h_gates, h_mode, h_io, State.settleBank_in, blank_ite, ite_self, forEach_in, implies_true]
    | refine forEach_next (fun _ _ => ?_) ?_
    | split

theorem State.storeItem_in {m : Part → Bool} (h_dict : m .dict = true) (h_health : m .health = true) (h_irq : m .irq = true) (x0 : State) :
    State.blank m (State.storeItem x0) = State.blank m x0 := by
  unfold State.storeItem
  repeat' first
    | simp only [h_dict, h_health, h_irq, State.modHealth_in, State.storeCfg_in, blank_ite, ite_self, forEach_in, implies_true]
    | refine forEach_next (fun _ _ => ?_) ?_
    | split

theorem State.latchCauses_in {m : Part → Bool} (h_strs : m .strs = true) (h_evlog : m .evlog = true) (h_irq : m .irq = true) (h_gates : m .gates =
    true) (h_dict : m .dict = true) (h_health : m .health = true) (x0 : State) (x1 : Fin 40) (x2 : List Nat) :
    State.blank m (State.latchCauses x0 x1 x2) = State.blank m x0 := by
  unfold State.latchCauses
  repeat' first
    | simp only [h_strs, h_evlog, h_irq, h_gates, h_dict, h_health, State.storeItem_in, State.modStr_in, State.setStr_in, State.openS_in,
        State.event_in, blank_ite, ite_self, forEach_in, implies_true]
    | refine forEach_next (fun _ _ => ?_) ?_
    | split

theorem State.tripStr_in {m : Part → Bool} (h_strs : m .strs = true) (h_evlog : m .evlog = true) (h_irq : m .irq = true) (h_fc : m .fc = true)
    (h_health : m .health = true) (h_gates : m .gates = true) (h_dict : m .dict = true) (h_banks : m .banks = true) (h_mode : m .mode = true)
    (h_io : m .io = true) (x0 : State) (x1 : Fin 40) (x2 : List Nat) :
    State.blank m (State.tripStr x0 x1 x2) = State.blank m x0 := by
  unfold State.tripStr
  repeat' first
    | simp only [h_strs, h_evlog, h_irq, h_fc, h_health, h_gates, h_dict, h_banks, h_mode, h_io, State.latchCauses_in, State.countFault_in,
        State.settleBank_in, blank_ite, ite_self, implies_true]
    | split

theorem State.tripClosed_in {m : Part → Bool} (h_gates : m .gates = true) (h_strs : m .strs = true) (h_evlog : m .evlog = true) (h_irq : m .irq =
    true) (h_fc : m .fc = true) (h_health : m .health = true) (h_dict : m .dict = true) (h_banks : m .banks = true) (h_mode : m .mode = true) (h_io
    : m .io = true) (x0 : State) (x1 : Fin 4) (x2 : Nat) :
    State.blank m (State.tripClosed x0 x1 x2) = State.blank m x0 := by
  unfold State.tripClosed
  repeat' first
    | simp only [h_gates, h_strs, h_evlog, h_irq, h_fc, h_health, h_dict, h_banks, h_mode, h_io, State.discardClose_in, State.sOff_in,
        State.tripStr_in, blank_ite, ite_self, forEach_in, implies_true]
    | refine forEach_next (fun _ _ => ?_) ?_
    | split

theorem State.enforceTrips_in {m : Part → Bool} (h_banks : m .banks = true) (h_gates : m .gates = true) (h_strs : m .strs = true) (h_evlog : m
    .evlog = true) (h_irq : m .irq = true) (h_fc : m .fc = true) (h_health : m .health = true) (h_mode : m .mode = true) (h_io : m .io = true)
    (h_dict : m .dict = true) (x0 : State) :
    State.blank m (State.enforceTrips x0) = State.blank m x0 := by
  unfold State.enforceTrips
  repeat' first
    | simp only [h_banks, h_gates, h_strs, h_evlog, h_irq, h_fc, h_health, h_mode, h_io, h_dict, State.tripClosed_in, State.settleBank_in,
        State.enforceOutputs_in, blank_ite, ite_self, forEach_in, implies_true]
    | refine forEach_next (fun _ _ => ?_) ?_
    | split

theorem State.dropClosePass_in {m : Part → Bool} (h_strs : m .strs = true) (x0 : State) (x1 : Fin 40) :
    State.blank m (State.dropClosePass x0 x1) = State.blank m x0 := by
  unfold State.dropClosePass
  repeat' first
    | simp only [h_strs, State.modStr_in, blank_ite, ite_self, implies_true]
    | split

theorem State.discardPasses_in {m : Part → Bool} (h_evlog : m .evlog = true) (h_io : m .io = true) (h_belay : m .belay = true) (h_irq : m .irq =
    true) (h_strs : m .strs = true) (x0 : State) :
    State.blank m (State.discardPasses x0) = State.blank m x0 := by
  unfold State.discardPasses
  repeat' first
    | simp only [h_evlog, h_io, h_belay, h_irq, h_strs, State.modBelay_in, State.unwaitQ_in, State.event_in, State.dropClosePass_in, State.modQ_in,
        blank_ite, ite_self, forEach_in, implies_true]
    | refine forEach_next (fun _ _ => ?_) ?_
    | split

theorem State.safePath_in {m : Part → Bool} (h_gates : m .gates = true) (h_banks : m .banks = true) (h_evlog : m .evlog = true) (h_irq : m .irq =
    true) (h_strs : m .strs = true) (x0 : State) :
    State.blank m (State.safePath x0) = State.blank m x0 := by
  unfold State.safePath
  repeat' first
    | simp only [h_gates, h_banks, h_evlog, h_irq, h_strs, State.modBank_in, State.openS_in, State.hbOff_in, State.setDn_in, blank_ite, ite_self,
        forEach_in, implies_true]
    | refine forEach_next (fun _ _ => ?_) ?_
    | split

theorem State.dropAllQ_in {m : Part → Bool} (h_io : m .io = true) (h_evlog : m .evlog = true) (h_irq : m .irq = true) (x0 : State) :
    State.blank m (State.dropAllQ x0) = State.blank m x0 := by
  unfold State.dropAllQ
  repeat' first
    | simp only [h_io, h_evlog, h_irq, State.dropPole_in, blank_ite, ite_self, forEach_in, implies_true]
    | refine forEach_next (fun _ _ => ?_) ?_
    | split

theorem State.hold_in {m : Part → Bool} (h_heldReq : m .heldReq = true) (x0 : State) (x1 : Instr) :
    State.blank m (State.hold x0 x1) = State.blank m x0 := by
  unfold State.hold
  repeat' first
    | simp only [h_heldReq, blank_set_heldReq, blank_ite, ite_self, implies_true]
    | split

theorem State.unlessSwapping_in {m : Part → Bool} (h_heldReq : m .heldReq = true) (x0 : State) (x1 : Instr) (x2 : State → State)
    (hf : ∀ u, State.blank m (x2 u) = State.blank m u) : State.blank m (State.unlessSwapping x0 x1 x2) = State.blank m x0 := by
  unfold State.unlessSwapping
  split
  · exact State.hold_in h_heldReq _ _
  · exact hf _

theorem State.modPartner_in {m : Part → Bool} (h_dict : m .dict = true) (x0 : State) (x1 : Fin 64) (x2 : Partner → Partner) :
    State.blank m (State.modPartner x0 x1 x2) = State.blank m x0 := by
  unfold State.modPartner
  repeat' first
    | simp only [h_dict, State.modDict_in, blank_ite, ite_self, implies_true]
    | split

theorem State.notePartner_in {m : Part → Bool} (h_dict : m .dict = true) (h_evlog : m .evlog = true) (h_irq : m .irq = true) (x0 : State) (x1 : Src) :
    State.blank m (State.notePartner x0 x1) = State.blank m x0 := by
  unfold State.notePartner
  repeat' first
    | simp only [h_dict, h_evlog, h_irq, State.modPartner_in, State.event_in, blank_ite, ite_self, implies_true]
    | split

theorem State.ethIn_in {m : Part → Bool} (h_irq : m .irq = true) (h_eths : m .eths = true) (x0 : State) (x1 : Fin 2) :
    State.blank m (State.ethIn x0 x1) = State.blank m x0 := by
  unfold State.ethIn
  repeat' first
    | simp only [h_irq, h_eths, State.irqRaise_in, State.modEth_in, blank_ite, ite_self, implies_true]
    | split

theorem State.receive_in {m : Part → Bool} (h_eths : m .eths = true) (h_irq : m .irq = true) (h_dict : m .dict = true) (h_evlog : m .evlog =
    true) (x0 : State) (x1 : Src) :
    State.blank m (State.receive x0 x1) = State.blank m x0 := by
  unfold State.receive
  repeat' first
    | simp only [h_eths, h_irq, h_dict, h_evlog, State.modEth_in, State.ethIn_in, State.notePartner_in, State.irqRaise_in, blank_ite, ite_self,
        implies_true]
    | split

theorem State.dropTransfer_in {m : Part → Bool} (h_dict : m .dict = true) (x0 : State) (x1 : Src) :
    State.blank m (State.dropTransfer x0 x1) = State.blank m x0 := by
  unfold State.dropTransfer
  repeat' first
    | simp only [h_dict, State.modDict_in, blank_ite, ite_self, implies_true]
    | split

theorem State.newRequest_in {m : Part → Bool} (h_eths : m .eths = true) (h_irq : m .irq = true) (h_dict : m .dict = true) (h_evlog : m .evlog =
    true) (x0 : State) (x1 : Src) :
    State.blank m (State.newRequest x0 x1) = State.blank m x0 := by
  unfold State.newRequest
  repeat' first
    | simp only [h_eths, h_irq, h_dict, h_evlog, State.dropTransfer_in, State.receive_in, blank_ite, ite_self, implies_true]
    | split

theorem State.keepTransfer_in {m : Part → Bool} (h_dict : m .dict = true) (x0 : State) (x1 : Transfer) :
    State.blank m (State.keepTransfer x0 x1) = State.blank m x0 := by
  unfold State.keepTransfer
  repeat' first
    | simp only [h_dict, State.modDict_in, blank_ite, ite_self, implies_true]
    | split

theorem State.storeValue_in {m : Part → Bool} (h_dict : m .dict = true) (h_values : m .values = true) (x0 : State) (x1 : EntryRow) (x2 : Nat) (x3
    : Nat) (x4 : List Byte) :
    State.blank m (State.storeValue x0 x1 x2 x3 x4) = State.blank m x0 := by
  unfold State.storeValue
  repeat' first
    | simp only [h_dict, h_values, State.setVal_in, State.modDict_in, State.modDict_values_in, blank_ite, ite_self, forEach_in, implies_true]
    | refine forEach_next (fun _ _ => ?_) ?_
    | split

theorem State.send_in {m : Part → Bool} (h_dict : m .dict = true) (h_irq : m .irq = true) (h_eths : m .eths = true) (h_cans : m .cans = true) (x0
    : State) (x1 : Message) :
    State.blank m (State.send x0 x1) = State.blank m x0 := by
  unfold State.send
  repeat' first
    | simp only [h_dict, h_irq, h_eths, h_cans, State.modDict_in, State.irqRaise_in, State.modEth_in, State.modCan_in, blank_ite, ite_self,
        implies_true]
    | split

theorem State.abort_in {m : Part → Bool} (h_dict : m .dict = true) (h_irq : m .irq = true) (h_eths : m .eths = true) (h_cans : m .cans = true)
    (x0 : State) (x1 : Src) (x2 : Nat) (x3 : Nat) (x4 : Nat) :
    State.blank m (State.abort x0 x1 x2 x3 x4) = State.blank m x0 := by
  unfold State.abort
  repeat' first
    | simp only [h_dict, h_irq, h_eths, h_cans, State.send_in, State.modDict_in, blank_ite, ite_self, implies_true]
    | split

theorem State.refuseWrite_in {m : Part → Bool} (h_evlog : m .evlog = true) (h_irq : m .irq = true) (h_seng : m .seng = true) (h_dict : m .dict =
    true) (h_eths : m .eths = true) (h_cans : m .cans = true) (x0 : State) (x1 : Src) (x2 : Nat) (x3 : Nat) (x4 : List Byte) (x5 : Abort) :
    State.blank m (State.refuseWrite x0 x1 x2 x3 x4 x5) = State.blank m x0 := by
  unfold State.refuseWrite
  repeat' first
    | simp only [h_evlog, h_irq, h_seng, h_dict, h_eths, h_cans, State.event_in, State.modSeng_in, State.abort_in, blank_ite, ite_self, implies_true]
    | split

theorem State.rangeEvent_in {m : Part → Bool} (h_evlog : m .evlog = true) (h_irq : m .irq = true) (x0 : State) (x1 : Nat) (x2 : Nat) (x3 : List
    Byte) (x4 : Abort) :
    State.blank m (State.rangeEvent x0 x1 x2 x3 x4) = State.blank m x0 := by
  unfold State.rangeEvent
  repeat' first
    | simp only [h_evlog, h_irq, State.event_in, State.canEvent_in, blank_ite, ite_self, implies_true]
    | split

theorem State.refuseContended_in {m : Part → Bool} (h_seng : m .seng = true) (h_dict : m .dict = true) (h_irq : m .irq = true) (h_evlog : m
    .evlog = true) (h_eths : m .eths = true) (h_cans : m .cans = true) (x0 : State) (x1 : Src) (x2 : Nat) (x3 : Nat) (x4 : List Byte) :
    State.blank m (State.refuseContended x0 x1 x2 x3 x4) = State.blank m x0 := by
  unfold State.refuseContended
  repeat' first
    | simp only [h_seng, h_dict, h_irq, h_evlog, h_eths, h_cans, State.modSeng_in, State.modDict_in, State.irqRaise_in, State.abort_in,
        State.event_in, blank_ite, ite_self, implies_true]
    | split

theorem State.noteTickWrite_in {m : Part → Bool} (h_dict : m .dict = true) (x0 : State) (x1 : Src) (x2 : Nat) (x3 : Nat) :
    State.blank m (State.noteTickWrite x0 x1 x2 x3) = State.blank m x0 := by
  unfold State.noteTickWrite
  repeat' first
    | simp only [h_dict, State.modDict_in, blank_ite, ite_self, implies_true]
    | split

theorem State.noteLast_in {m : Part → Bool} (h_dict : m .dict = true) (x0 : State) (x1 : LastWrite) :
    State.blank m (State.noteLast x0 x1) = State.blank m x0 := by
  unfold State.noteLast
  repeat' first
    | simp only [h_dict, State.modDict_in, blank_ite, ite_self, implies_true]
    | split

theorem State.answerWrite_in {m : Part → Bool} (h_dict : m .dict = true) (h_evlog : m .evlog = true) (h_irq : m .irq = true) (h_eths : m .eths =
    true) (h_cans : m .cans = true) (x0 : State) (x1 : Src) (x2 : Nat) (x3 : Nat) (x4 : List Byte) :
    State.blank m (State.answerWrite x0 x1 x2 x3 x4) = State.blank m x0 := by
  unfold State.answerWrite
  repeat' first
    | simp only [h_dict, h_evlog, h_irq, h_eths, h_cans, State.modDict_in, State.send_in, State.event_in, blank_ite, ite_self, implies_true]
    | split

theorem State.writeNow_in {m : Part → Bool} (h_dict : m .dict = true) (h_evlog : m .evlog = true)
    (h_irq : m .irq = true) (h_seng : m .seng = true) (h_eths : m .eths = true) (h_cans : m .cans = true)
    (x0 : State) (x1 : Src) (x2 x3 : Nat) (x4 : List Byte) (x5 : EntryRow → State → Applied) (x6 : State → State) (x7 : Nat × List Byte)
    (happly : ∀ r u, AppliedIn m u (x5 r u)) (hafter : ∀ u, State.blank m (x6 u) = State.blank m u) :
    State.blank m (State.writeNow x0 x1 x2 x3 x4 x5 x6 x7) = State.blank m x0 := by
  unfold State.writeNow
  repeat' first
    | simp only [h_dict, h_evlog, h_irq, h_seng, h_eths, h_cans, State.refuseWrite_in, State.refuseContended_in, State.noteTickWrite_in,
        State.rangeEvent_in, State.answerWrite_in, State.noteLast_in, hafter]
    | (rename_i h; simp only [(happly _ _).2 _ h, h_dict, h_evlog, h_irq, h_seng, h_eths, h_cans, State.noteTickWrite_in])
    | (rename_i h; simp only [(happly _ _).1 _ h, h_dict, h_evlog, h_irq, h_seng, h_eths, h_cans, State.noteTickWrite_in])
    | split

theorem State.refuseService_in {m : Part → Bool} (h_cans : m .cans = true) (h_dict : m .dict = true) (h_eths : m .eths = true) (h_evlog : m .evlog =
    true) (h_irq : m .irq = true) (h_seng : m .seng = true) (x0 : State) (x1 : Src) (x2 : Nat) (x3 : Nat) (x4 : List Byte) (x5 : Abort) :
    State.blank m (State.refuseService x0 x1 x2 x3 x4 x5) = State.blank m x0 := by
  unfold State.refuseService
  repeat' first
    | simp only [h_cans, h_dict, h_eths, h_evlog, h_irq, h_seng, State.refuseWrite_in, State.irqRaise_in, State.event_in, blank_ite, ite_self,
        forEach_in, implies_true]
    | refine forEach_next (fun _ _ => ?_) ?_
    | split

theorem State.writeVia_in {m : Part → Bool} (h_waitingWrites : m .waitingWrites = true) (h_dict : m .dict = true) (h_evlog : m .evlog = true)
    (h_irq : m .irq = true) (h_seng : m .seng = true) (h_eths : m .eths = true) (h_cans : m .cans = true)
    (x0 : State) (x1 : Src) (x2 x3 : Nat) (x4 : List Byte) (x5 : EntryRow → State → Applied) (x6 : State → State) (x7 : Option (Nat × List Byte))
    (happly : ∀ r u, AppliedIn m u (x5 r u)) (hafter : ∀ u, State.blank m (x6 u) = State.blank m u) :
    State.blank m (State.writeVia x0 x1 x2 x3 x4 x5 x6 x7) = State.blank m x0 := by
  unfold State.writeVia
  dsimp only
  repeat' first
    | rw [State.writeNow_in h_dict h_evlog h_irq h_seng h_eths h_cans _ _ _ _ _ _ _ _ happly hafter]
    | simp only [h_waitingWrites, h_dict, h_evlog, h_irq, h_seng, h_eths, h_cans, State.newRequest_in, State.refuseService_in, State.send_in,
        blank_set_waitingWrites]
    | split

theorem State.setTag_in {m : Part → Bool} (h_dict : m .dict = true) (x0 : State) (x1 : Src) (x2 : Nat) :
    State.blank m (State.setTag x0 x1 x2) = State.blank m x0 := by
  unfold State.setTag
  repeat' first
    | simp only [h_dict, State.modDict_in, blank_ite, ite_self, forEach_in, implies_true]
    | refine forEach_next (fun _ _ => ?_) ?_
    | split

theorem State.closeSubmitted_in {m : Part → Bool} (h_dict : m .dict = true) (x0 : State) (x1 : SealedReq) :
    State.blank m (State.closeSubmitted x0 x1) = State.blank m x0 := by
  unfold State.closeSubmitted
  repeat' first
    | simp only [h_dict, State.modDict_in, State.setTag_in, blank_ite, ite_self, forEach_in, implies_true]
    | refine forEach_next (fun _ _ => ?_) ?_
    | split

theorem State.refuseSealed_in {m : Part → Bool} (h_irq : m .irq = true) (h_evlog : m .evlog = true) (h_seng : m .seng = true) (h_dict : m .dict =
    true) (h_eths : m .eths = true) (h_cans : m .cans = true) (x0 : State) (x1 : SealedReq) (x2 : Abort) (x3 : Nat) (x4 : Bool) (x5 : Bool) :
    State.blank m (State.refuseSealed x0 x1 x2 x3 x4 x5) = State.blank m x0 := by
  unfold State.refuseSealed
  repeat' first
    | simp only [h_irq, h_evlog, h_seng, h_dict, h_eths, h_cans, State.event_in, State.irqRaise_in, State.abort_in, State.modSeng_in,
        State.closeSubmitted_in, blank_ite, ite_self, forEach_in, implies_true]
    | refine forEach_next (fun _ _ => ?_) ?_
    | split

theorem State.consumeCounter_in {m : Part → Bool} (h_seng : m .seng = true) (x0 : State) (x1 : SealedReq) :
    State.blank m (State.consumeCounter x0 x1) = State.blank m x0 := by
  unfold State.consumeCounter
  repeat' first
    | simp only [h_seng, State.modSeng_in, blank_ite, ite_self, implies_true]
    | split

theorem State.unqueue_in {m : Part → Bool} (h_seng : m .seng = true) (x0 : State) :
    State.blank m (State.unqueue x0) = State.blank m x0 := by
  unfold State.unqueue
  repeat' first
    | simp only [h_seng, State.modSeng_in, blank_ite, ite_self, forEach_in, implies_true]
    | refine forEach_next (fun _ _ => ?_) ?_
    | split

theorem State.answerSealed_in {m : Part → Bool} (h_evlog : m .evlog = true) (h_irq : m .irq = true) (h_seng : m .seng = true) (h_dict : m .dict =
    true) (h_eths : m .eths = true) (h_cans : m .cans = true) (x0 : State) (x1 : SealedReq) :
    State.blank m (State.answerSealed x0 x1) = State.blank m x0 := by
  unfold State.answerSealed
  repeat' first
    | simp only [h_evlog, h_irq, h_seng, h_dict, h_eths, h_cans, State.send_in, State.event_in, State.modDict_in, State.noteLast_in,
        State.modSeng_in, State.closeSubmitted_in, blank_ite, ite_self, forEach_in, implies_true]
    | refine forEach_next (fun _ _ => ?_) ?_
    | split

theorem State.dropShapeless_in {m : Part → Bool} (h_irq : m .irq = true) (h_evlog : m .evlog = true) (h_seng : m .seng = true) (h_dict : m .dict =
    true) (h_eths : m .eths = true) (h_cans : m .cans = true) (x0 : List SealWait) (x1 : State) :
    State.blank m (State.dropShapeless x0 x1) = State.blank m x1 := by
  induction x0 generalizing x1 with
  | nil => rfl
  | cons w ws ih =>
    unfold State.dropShapeless
    repeat' first
      | simp only [ih, h_irq, h_evlog, h_seng, h_dict, h_eths, h_cans, State.refuseSealed_in, State.unqueue_in]
      | split

theorem State.noteSubmitted_in {m : Part → Bool} (h_dict : m .dict = true) (x0 : State) (x1 : Src) (x2 : List Byte) (x3 : Nat × List Byte) :
    State.blank m (State.noteSubmitted x0 x1 x2 x3) = State.blank m x0 := by
  unfold State.noteSubmitted
  repeat' first
    | simp only [h_dict, State.modDict_in, blank_ite, ite_self, forEach_in, implies_true]
    | refine forEach_next (fun _ _ => ?_) ?_
    | split

theorem State.refuseSealedContended_in {m : Part → Bool} (h_cans : m .cans = true) (h_dict : m .dict = true) (h_eths : m .eths = true) (h_evlog : m
    .evlog = true) (h_irq : m .irq = true) (h_seng : m .seng = true) (x0 : State) (x1 : SealedReq) :
    State.blank m (State.refuseSealedContended x0 x1) = State.blank m x0 := by
  unfold State.refuseSealedContended
  repeat' first
    | simp only [h_cans, h_dict, h_eths, h_evlog, h_irq, h_seng, State.event_in, State.modDict_in, State.irqRaise_in, State.abort_in,
        State.modSeng_in, State.closeSubmitted_in, blank_ite, ite_self, forEach_in, implies_true]
    | refine forEach_next (fun _ _ => ?_) ?_
    | split

theorem State.submit_in {m : Part → Bool} (h_seng : m .seng = true) (h_irq : m .irq = true) (h_evlog : m .evlog = true) (h_dict : m .dict = true)
    (h_eths : m .eths = true) (h_cans : m .cans = true) (x0 : State) (x1 : Src) (x2 : List Byte) :
    State.blank m (State.submit x0 x1 x2) = State.blank m x0 := by
  unfold State.submit
  repeat' first
    | simp only [h_seng, h_irq, h_evlog, h_dict, h_eths, h_cans, State.refuseSealedContended_in, State.refuseSealed_in, State.dropShapeless_in,
        State.modSeng_in, blank_ite, ite_self, forEach_in, implies_true]
    | refine forEach_next (fun _ _ => ?_) ?_
    | split

theorem sealIn_refused_of {m : Part → Bool} {s t : State} {e : SealEnd} {a : Abort} {n : Nat} (h : SealIn m s e) (he : e = .refused a n t) :
    t.blank m = s.blank m := by subst he; exact h
theorem sealIn_applied_of {m : Part → Bool} {s t : State} {e : SealEnd} (h : SealIn m s e) (he : e = .applied t) :
    t.blank m = s.blank m := by subst he; exact h
theorem sealIn_awaits_of {m : Part → Bool} {s t : State} {e : SealEnd} (h : SealIn m s e) (he : e = .awaits t) :
    t.blank m = s.blank m := by subst he; exact h
theorem State.sealJudge_in {m : Part → Bool} (h_evlog : m .evlog = true) (h_irq : m .irq = true) (h_seng : m .seng = true) (h_dict : m .dict
    = true) (h_eths : m .eths = true) (h_cans : m .cans = true)
    (x0 : State) (x1 : SealedReq) (x2 x3 : Bool) (x4 : State → SealEnd) (hact : ∀ u, SealIn m u (x4 u)) :
    State.blank m (State.sealJudge x0 x1 x2 x3 x4) = State.blank m x0 := by
  unfold State.sealJudge
  repeat' first
    | simp only [h_evlog, h_irq, h_seng, h_dict, h_eths, h_cans, State.irqRaise_in, State.refuseSealed_in, State.consumeCounter_in,
        State.noteTickWrite_in, State.answerSealed_in, forEach_in, implies_true, blank_ite, ite_self]
    | (rename_i h; simp only [sealIn_refused_of (hact _) h, h_evlog, h_irq, h_seng, h_dict, h_eths, h_cans, State.irqRaise_in,
        State.refuseSealed_in, State.consumeCounter_in, State.noteTickWrite_in, forEach_in, implies_true, blank_ite, ite_self])
    | (rename_i h; simp only [sealIn_applied_of (hact _) h, h_evlog, h_irq, h_seng, h_dict, h_eths, h_cans, State.irqRaise_in,
        State.consumeCounter_in, State.noteTickWrite_in, State.answerSealed_in, forEach_in, implies_true, blank_ite, ite_self])
    | (rename_i h; simp only [sealIn_awaits_of (hact _) h, h_evlog, h_irq, h_seng, h_dict, h_eths, h_cans, State.irqRaise_in,
        State.consumeCounter_in, State.noteTickWrite_in, forEach_in, implies_true, blank_ite, ite_self])
    | split
theorem State.sealedThrough_in {m : Part → Bool} (h_evlog : m .evlog = true) (h_irq : m .irq = true) (h_seng : m .seng = true) (h_dict : m .dict
    = true) (h_eths : m .eths = true) (h_cans : m .cans = true)
    (x0 : State) (x1 : SealedReq) (x2 : Bool) (x3 : State → SealEnd) (hact : ∀ u, SealIn m u (x3 u)) :
    State.blank m (State.sealedThrough x0 x1 x2 x3) = State.blank m x0 := by
  unfold State.sealedThrough
  dsimp only
  repeat' first
    | simp only [State.sealJudge_in h_evlog h_irq h_seng h_dict h_eths h_cans _ _ _ _ _ hact, h_evlog, h_irq, h_seng, h_dict, h_eths, h_cans,
        State.newRequest_in, State.unqueue_in, State.send_in, State.dropShapeless_in, State.noteSubmitted_in, State.submit_in,
        State.refuseSealed_in, State.refuseSealedContended_in, blank_ite, ite_self]
    | split


theorem State.sealedVia_in {m : Part → Bool} (h_evlog : m .evlog = true) (h_irq : m .irq = true) (h_seng : m .seng = true) (h_dict : m .dict =
    true) (h_eths : m .eths = true) (h_cans : m .cans = true)
    (x0 : State) (x1 : SealedReq) (x3 : State → SealEnd) (hact : ∀ u, SealIn m u (x3 u)) :
    State.blank m (State.sealedVia x0 x1 x3) = State.blank m x0 := State.sealedThrough_in h_evlog h_irq h_seng h_dict h_eths h_cans x0 x1 false
        x3 hact

theorem State.createPass_in {m : Part → Bool} (h_belay : m .belay = true) (h_seng : m .seng = true) (x0 : State) (x1 : SealedReq) (x2 : Pass) :
    SealIn m x0 (State.createPass x0 x1 x2) := by
  unfold State.createPass
  repeat' first
    | simp only [h_belay, h_seng, State.modBelay_in, State.modSeng_in, sealIn_refused, sealIn_applied, sealIn_awaits, blank_ite, ite_self,
        implies_true]
    | split

theorem State.finishAction_in {m : Part → Bool} (h_seng : m .seng = true) (h_evlog : m .evlog = true) (h_irq : m .irq = true) (h_dict : m .dict =
    true) (h_eths : m .eths = true) (h_cans : m .cans = true) (x0 : State) (x1 : Pass) (x2 : Bool) :
    State.blank m (State.finishAction x0 x1 x2) = State.blank m x0 := by
  unfold State.finishAction
  repeat' first
    | simp only [h_seng, h_evlog, h_irq, h_dict, h_eths, h_cans, State.modSeng_in, State.answerSealed_in, State.refuseSealed_in, blank_ite,
        ite_self, implies_true]
    | split

theorem State.clearTrip_in {m : Part → Bool} (h_gates : m .gates = true) (h_strs : m .strs = true) (x0 : State) (x1 : Fin 40) :
    State.blank m (State.clearTrip x0 x1) = State.blank m x0 := by
  unfold State.clearTrip
  repeat' first
    | simp only [h_gates, h_strs, State.modGate_in, State.modStr_in, blank_ite, ite_self, implies_true]
    | split

theorem State.applyTripClear_in {m : Part → Bool} (h_evlog : m .evlog = true) (h_irq : m .irq = true) (h_strs : m .strs = true) (h_gates : m
    .gates = true) (x0 : State) (x1 : Fin 40) :
    AppliedIn m x0 (State.applyTripClear x0 x1) := by
  unfold State.applyTripClear
  repeat' first
    | simp only [h_evlog, h_irq, h_strs, h_gates, State.event_in, State.clearTrip_in, State.setStr_in, appliedIn_ok, appliedIn_error, blank_ite,
        ite_self, implies_true]
    | split

theorem State.unlockStr_in {m : Part → Bool} (h_evlog : m .evlog = true) (h_irq : m .irq = true) (h_strs : m .strs = true) (h_gates : m .gates =
    true) (h_dict : m .dict = true) (h_health : m .health = true) (x0 : State) (x1 : Fin 40) :
    State.blank m (State.unlockStr x0 x1) = State.blank m x0 := by
  unfold State.unlockStr
  repeat' first
    | simp only [h_evlog, h_irq, h_strs, h_gates, h_dict, h_health, State.storeItem_in, State.clearTrip_in, State.modStr_in, State.setStr_in,
        State.event_in, blank_ite, ite_self, forEach_in, implies_true]
    | refine forEach_next (fun _ _ => ?_) ?_
    | split

theorem State.acceptPrecharge_in {m : Part → Bool} (h_banks : m .banks = true) (h_evlog : m .evlog = true) (h_irq : m .irq = true) (h_strs : m .strs
    = true) (h_gates : m .gates = true) (h_mode : m .mode = true) (h_io : m .io = true) (x0 : State) (x1 : Fin 40) :
    State.blank m (State.acceptPrecharge x0 x1) = State.blank m x0 := by
  unfold State.acceptPrecharge
  repeat' first
    | simp only [h_banks, h_evlog, h_irq, h_strs, h_gates, h_mode, h_io, State.modBank_in, State.settleBank_in, State.setStr_in, State.setDn_in,
        blank_ite, ite_self, forEach_in, implies_true]
    | refine forEach_next (fun _ _ => ?_) ?_
    | split

theorem State.markDecided_in {m : Part → Bool} (h_strs : m .strs = true) (x0 : State) (x1 : Fin 40) :
    State.blank m (State.markDecided x0 x1) = State.blank m x0 := by
  unfold State.markDecided
  repeat' first
    | simp only [h_strs, State.modStr_in, blank_ite, ite_self, forEach_in, implies_true]
    | refine forEach_next (fun _ _ => ?_) ?_
    | split

theorem State.unmatch_in {m : Part → Bool} (h_banks : m .banks = true) (h_evlog : m .evlog = true) (h_gates : m .gates = true) (h_io : m .io = true)
    (h_irq : m .irq = true) (h_mode : m .mode = true) (h_strs : m .strs = true) (x0 : State) (x1 : Fin 40) :
    State.blank m (State.unmatch x0 x1) = State.blank m x0 := by
  unfold State.unmatch
  repeat' first
    | simp only [h_banks, h_evlog, h_gates, h_io, h_irq, h_mode, h_strs, State.setStr_in, State.endPrecharge_in, State.markDecided_in, blank_ite,
        ite_self, forEach_in, implies_true]
    | refine forEach_next (fun _ _ => ?_) ?_
    | split

theorem State.refuseClose_in {m : Part → Bool} (h_banks : m .banks = true) (h_evlog : m .evlog = true) (h_gates : m .gates = true) (h_io : m .io =
    true) (h_irq : m .irq = true) (h_mode : m .mode = true) (h_strs : m .strs = true) (x0 : State) (x1 : Fin 40) (x2 : Nat) :
    State.blank m (State.refuseClose x0 x1 x2) = State.blank m x0 := by
  unfold State.refuseClose
  repeat' first
    | simp only [h_banks, h_evlog, h_gates, h_io, h_irq, h_mode, h_strs, State.event_in, State.unmatch_in, blank_ite, ite_self, forEach_in,
        implies_true]
    | refine forEach_next (fun _ _ => ?_) ?_
    | split

theorem State.decideClose_in {m : Part → Bool} (h_strs : m .strs = true) (h_evlog : m .evlog = true) (h_banks : m .banks = true) (h_irq : m .irq =
    true) (h_gates : m .gates = true) (h_mode : m .mode = true) (h_io : m .io = true) (x0 : State) (x1 : Fin 40) (x2 : Pass) :
    State.blank m (State.decideClose x0 x1 x2).1 = State.blank m x0 := by
  unfold State.decideClose
  repeat' first
    | simp only [h_strs, h_evlog, h_banks, h_irq, h_gates, h_mode, h_io, State.acceptPrecharge_in, State.markDecided_in, State.setStr_in,
        State.event_in, State.irqRaise_in, State.modBank_in, State.refuseClose_in, blank_ite, ite_self, forEach_in, implies_true]
    | refine forEach_next (fun _ _ => ?_) ?_
    | split

theorem State.takeClosePass_in {m : Part → Bool} (h_evlog : m .evlog = true) (h_strs : m .strs = true) (h_irq : m .irq = true) (h_banks : m .banks =
    true) (h_seng : m .seng = true) (h_dict : m .dict = true) (h_gates : m .gates = true) (h_eths : m .eths = true) (h_cans : m .cans = true)
    (h_mode : m .mode = true) (h_io : m .io = true) (x0 : State) (x1 : Fin 40) (x2 : Pass) :
    State.blank m (State.takeClosePass x0 x1 x2) = State.blank m x0 := by
  unfold State.takeClosePass
  repeat' first
    | simp only [h_evlog, h_strs, h_irq, h_banks, h_seng, h_dict, h_gates, h_eths, h_cans, h_mode, h_io, State.settleBank_in, State.decideClose_in,
        State.modStr_in, State.finishAction_in, State.event_in, State.unmatch_in, State.refuseClose_in, blank_ite, ite_self, forEach_in,
        implies_true]
    | refine forEach_next (fun _ _ => ?_) ?_
    | split

theorem State.refuseQ_in {m : Part → Bool} (h_evlog : m .evlog = true) (h_io : m .io = true) (h_irq : m .irq = true) (x0 : State) (x1 : Fin 16) (x2
    : Nat) :
    State.blank m (State.refuseQ x0 x1 x2) = State.blank m x0 := by
  unfold State.refuseQ
  repeat' first
    | simp only [h_evlog, h_io, h_irq, State.event_in, State.modQ_in, blank_ite, ite_self, forEach_in, implies_true]
    | refine forEach_next (fun _ _ => ?_) ?_
    | split

theorem State.decideEnergise_in {m : Part → Bool} (h_io : m .io = true) (h_evlog : m .evlog = true) (h_irq : m .irq = true) (x0 : State) (x1 : Fin
    16) :
    State.blank m (State.decideEnergise x0 x1).1 = State.blank m x0 := by
  unfold State.decideEnergise
  repeat' first
    | simp only [h_io, h_evlog, h_irq, State.refuseQ_in, State.modQ_in, State.requestQ_in, blank_ite, ite_self, forEach_in, implies_true]
    | refine forEach_next (fun _ _ => ?_) ?_
    | split

theorem State.takeQPass_in {m : Part → Bool} (h_evlog : m .evlog = true) (h_irq : m .irq = true) (h_io : m .io = true) (h_seng : m .seng = true)
    (h_dict : m .dict = true) (h_eths : m .eths = true) (h_cans : m .cans = true) (x0 : State) (x1 : Fin 16) (x2 : Pass) :
    State.blank m (State.takeQPass x0 x1 x2) = State.blank m x0 := by
  unfold State.takeQPass
  repeat' first
    | simp only [h_evlog, h_irq, h_io, h_seng, h_dict, h_eths, h_cans, State.refuseQ_in, State.finishAction_in, State.event_in,
        State.decideEnergise_in, State.modQ_in, blank_ite, ite_self, forEach_in, implies_true]
    | refine forEach_next (fun _ _ => ?_) ?_
    | split

theorem State.expireClose_in {m : Part → Bool} (h_irq : m .irq = true) (h_strs : m .strs = true) (h_evlog : m .evlog = true) (h_seng : m .seng =
    true) (h_dict : m .dict = true) (h_banks : m .banks = true) (h_gates : m .gates = true) (h_eths : m .eths = true) (h_cans : m .cans = true)
    (h_mode : m .mode = true) (h_io : m .io = true) (x0 : State) (x1 : Fin 40) :
    State.blank m (State.expireClose x0 x1) = State.blank m x0 := by
  unfold State.expireClose
  repeat' first
    | simp only [h_irq, h_strs, h_evlog, h_seng, h_dict, h_banks, h_gates, h_eths, h_cans, h_mode, h_io, State.irqRaise_in, State.modStr_in,
        State.dropClosePass_in, State.finishAction_in, State.event_in, State.endPrecharge_in, State.setStr_in, blank_ite, ite_self, implies_true]
    | split

theorem State.expireQ_in {m : Part → Bool} (h_evlog : m .evlog = true) (h_irq : m .irq = true) (h_io : m .io = true) (h_seng : m .seng = true)
    (h_dict : m .dict = true) (h_eths : m .eths = true) (h_cans : m .cans = true) (x0 : State) (x1 : Fin 16) :
    State.blank m (State.expireQ x0 x1) = State.blank m x0 := by
  unfold State.expireQ
  repeat' first
    | simp only [h_evlog, h_irq, h_io, h_seng, h_dict, h_eths, h_cans, State.serveQ_in, State.finishAction_in, State.irqRaise_in, State.event_in,
        State.unwaitQ_in, State.modQ_in, blank_ite, ite_self, forEach_in, implies_true]
    | refine forEach_next (fun _ _ => ?_) ?_
    | split

theorem State.grant_in {m : Part → Bool} (h_gates : m .gates = true) (h_irq : m .irq = true) (h_banks : m .banks = true) (h_strs : m .strs =
    true) (x0 : State) (x1 : Fin 40) :
    State.blank m (State.grant x0 x1) = State.blank m x0 := by
  unfold State.grant
  repeat' first
    | simp only [h_gates, h_irq, h_banks, h_strs, State.modGate_in, State.irqRaise_in, State.dropClosePass_in, State.modBank_in, State.hbOff_in,
        blank_ite, ite_self, implies_true]
    | split

theorem State.grantLowest_in {m : Part → Bool} (h_gates : m .gates = true) (h_irq : m .irq = true) (h_banks : m .banks = true) (h_strs : m .strs =
    true) (h_evlog : m .evlog = true) (x0 : State) (x1 : Fin 4) :
    State.blank m (State.grantLowest x0 x1) = State.blank m x0 := by
  unfold State.grantLowest
  repeat' first
    | simp only [h_gates, h_irq, h_banks, h_strs, h_evlog, State.discardClose_in, State.grant_in, blank_ite, ite_self, forEach_in, implies_true]
    | refine forEach_next (fun _ _ => ?_) ?_
    | split

theorem State.applyOpen_in {m : Part → Bool} (h_banks : m .banks = true) (h_evlog : m .evlog = true) (h_irq : m .irq = true) (h_strs : m .strs =
    true) (h_gates : m .gates = true) (h_mode : m .mode = true) (h_io : m .io = true) (x0 : State) (x1 : Fin 40) :
    AppliedIn m x0 (State.applyOpen x0 x1) := by
  unfold State.applyOpen
  repeat' first
    | simp only [h_banks, h_evlog, h_irq, h_strs, h_gates, h_mode, h_io, State.settleBank_in, State.setStr_in, State.openS_in,
        State.endPrecharge_in, appliedIn_ok, appliedIn_error, blank_ite, ite_self, implies_true]
    | split

theorem State.openBank_in {m : Part → Bool} (h_evlog : m .evlog = true) (h_irq : m .irq = true) (h_strs : m .strs = true) (h_banks : m .banks =
    true) (h_gates : m .gates = true) (h_mode : m .mode = true) (h_io : m .io = true) (x0 : State) (x1 : Fin 4) (x2 : Nat) :
    State.blank m (State.openBank x0 x1 x2) = State.blank m x0 := by
  unfold State.openBank
  repeat' first
    | simp only [h_evlog, h_irq, h_strs, h_banks, h_gates, h_mode, h_io, State.sOff_in, State.discardClose_in, State.endPrecharge_in,
        State.setStr_in, State.settleBank_in, blank_ite, ite_self, forEach_in, implies_true]
    | refine forEach_next (fun _ _ => ?_) ?_
    | split

theorem State.excludeRefused_in {m : Part → Bool} (h_irq : m .irq = true) (h_evlog : m .evlog = true) (x0 : State) (x1 : Fin 40) :
    State.blank m (State.excludeRefused x0 x1) = State.blank m x0 := by
  unfold State.excludeRefused
  repeat' first
    | simp only [h_irq, h_evlog, State.irqRaise_in, State.event_in, blank_ite, ite_self, implies_true]
    | split

theorem State.modEnd_in {m : Part → Bool} (h_ropes : m .ropes = true) (x0 : State) (x1 : Fin 40) (x2 : PortEnd) (x3 : Port → Port) :
    State.blank m (State.modEnd x0 x1 x2 x3) = State.blank m x0 := by
  unfold State.modEnd
  repeat' first
    | simp only [h_ropes, State.modRope_in, blank_ite, ite_self, implies_true]
    | split

theorem State.portStat_in {m : Part → Bool} (h_ropes : m .ropes = true) (x0 : State) (x1 : Fin 40) (x2 : PortEnd) (x3 : Fin 10) (x4 : optParam
    Nat 1) :
    State.blank m (State.portStat x0 x1 x2 x3 x4) = State.blank m x0 := by
  unfold State.portStat
  repeat' first
    | simp only [h_ropes, State.modEnd_in, blank_ite, ite_self, implies_true]
    | split

theorem State.sendFrame_in {m : Part → Bool} (h_ropes : m .ropes = true) (x0 : State) (x1 : Fin 40) (x2 : PortEnd) (x3 : Bool) (x4 : Nat) (x5 : Nat)
    (x6 : List Byte) :
    State.blank m (State.sendFrame x0 x1 x2 x3 x4 x5 x6) = State.blank m x0 := by
  unfold State.sendFrame
  repeat' first
    | simp only [h_ropes, State.modEnd_in, State.portStat_in, blank_ite, ite_self, forEach_in, implies_true]
    | refine forEach_next (fun _ _ => ?_) ?_
    | split

theorem State.startRollCall_in {m : Part → Bool} (h_ropes : m .ropes = true) (x0 : State) (x1 : Fin 40) :
    State.blank m (State.startRollCall x0 x1) = State.blank m x0 := by
  unfold State.startRollCall
  repeat' first
    | simp only [h_ropes, State.modEnd_in, State.sendFrame_in, State.modRope_in, blank_ite, ite_self, forEach_in, implies_true]
    | refine forEach_next (fun _ _ => ?_) ?_
    | split

theorem State.setExclusion_in {m : Part → Bool} (h_dict : m .dict = true) (h_values : m .values = true) (h_strs : m .strs = true) (h_evlog : m
    .evlog = true) (h_irq : m .irq = true) (h_banks : m .banks = true) (h_gates : m .gates = true) (h_mode : m .mode = true) (h_io : m .io =
    true) (x0 : State) (x1 : Fin 40) :
    State.blank m (State.setExclusion x0 x1) = State.blank m x0 := by
  unfold State.setExclusion
  repeat' first
    | simp only [h_dict, h_values, h_strs, h_evlog, h_irq, h_banks, h_gates, h_mode, h_io, State.setVal_in, State.modStr_in, State.settleBank_in,
        State.setStr_in, blank_ite, ite_self, implies_true]
    | split

theorem State.applyExclude_in {m : Part → Bool} (h_strs : m .strs = true) (h_irq : m .irq = true) (h_evlog : m .evlog = true) (h_dict : m .dict =
    true) (h_values : m .values = true) (h_ropes : m .ropes = true) (h_banks : m .banks = true) (h_gates : m .gates = true) (h_mode : m .mode =
    true) (h_io : m .io = true) (x0 : State) (x1 : Fin 40) (x2 : Nat) :
    AppliedIn m x0 (State.applyExclude x0 x1 x2) := by
  unfold State.applyExclude
  repeat' first
    | simp only [h_strs, h_irq, h_evlog, h_dict, h_values, h_ropes, h_banks, h_gates, h_mode, h_io, State.excludeRefused_in,
        State.setExclusion_in, State.startRollCall_in, State.modStr_in, appliedIn_ok, appliedIn_error, blank_ite, ite_self, implies_true]
    | split

theorem State.applyFaultClear_in {m : Part → Bool} (h_evlog : m .evlog = true) (h_banks : m .banks = true) (h_irq : m .irq = true) (h_mode : m
    .mode = true) (h_io : m .io = true) (x0 : State) (x1 : Fin 4) :
    AppliedIn m x0 (State.applyFaultClear x0 x1) := by
  unfold State.applyFaultClear
  repeat' first
    | simp only [h_evlog, h_banks, h_irq, h_mode, h_io, State.event_in, State.setBank_in, State.modBank_in, appliedIn_ok, appliedIn_error,
        blank_ite, ite_self, implies_true]
    | split

theorem State.faultBank_in {m : Part → Bool} (h_banks : m .banks = true) (h_evlog : m .evlog = true) (h_irq : m .irq = true) (h_strs : m .strs =
    true) (h_gates : m .gates = true) (h_mode : m .mode = true) (h_io : m .io = true) (x0 : State) (x1 : Fin 4) (x2 : Nat) :
    State.blank m (State.faultBank x0 x1 x2) = State.blank m x0 := by
  unfold State.faultBank
  repeat' first
    | simp only [h_banks, h_evlog, h_irq, h_strs, h_gates, h_mode, h_io, State.modBank_in, State.hbOff_in, State.openS_in, State.setStr_in,
        State.event_in, State.setBank_in, State.dnOn_in, blank_ite, ite_self, implies_true]
    | split

theorem State.gateEvent_in {m : Part → Bool} (h_evlog : m .evlog = true) (h_irq : m .irq = true) (x0 : State) (x1 : Nat) (x2 : Fin 52) (x3 : List
    Byte) :
    State.blank m (State.gateEvent x0 x1 x2 x3) = State.blank m x0 := by
  unfold State.gateEvent
  repeat' first
    | simp only [h_evlog, h_irq, State.irqRaise_in, State.event_in, blank_ite, ite_self, forEach_in, implies_true]
    | refine forEach_next (fun _ _ => ?_) ?_
    | split

theorem State.applyGateCfg_in {m : Part → Bool} (h_evlog : m .evlog = true) (h_irq : m .irq = true) (h_gates : m .gates = true) (x0 : State) (x1 :
    Fin 52) (x2 : Nat) :
    AppliedIn m x0 (State.applyGateCfg x0 x1 x2) := by
  unfold State.applyGateCfg
  repeat' first
    | simp only [h_evlog, h_irq, h_gates, State.gateEvent_in, State.modGate_in, appliedIn_ok, appliedIn_error, blank_ite, ite_self, forEach_in,
        implies_true]
    | refine forEach_next (fun _ _ => ?_) ?_
    | split

theorem State.seeOn_in {m : Part → Bool} (h_gates : m .gates = true) (h_evlog : m .evlog = true) (h_irq : m .irq = true) (x0 : State) (x1 : Fin 52)
    :
    State.blank m (State.seeOn x0 x1) = State.blank m x0 := by
  unfold State.seeOn
  repeat' first
    | simp only [h_gates, h_evlog, h_irq, State.gateEvent_in, State.irqRaise_in, State.modGate_in, blank_ite, ite_self, forEach_in, implies_true]
    | refine forEach_next (fun _ _ => ?_) ?_
    | split

theorem State.abortTest_in {m : Part → Bool} (h_irq : m .irq = true) (h_evlog : m .evlog = true) (h_gates : m .gates = true) (x0 : State) (x1 : Fin
    52) :
    State.blank m (State.abortTest x0 x1) = State.blank m x0 := by
  unfold State.abortTest
  repeat' first
    | simp only [h_irq, h_evlog, h_gates, State.gateEvent_in, State.irqRaise_in, State.modGate_in, blank_ite, ite_self, forEach_in, implies_true]
    | refine forEach_next (fun _ _ => ?_) ?_
    | split

theorem State.beginCycle_in {m : Part → Bool} (h_banks : m .banks = true) (x0 : State) (x1 : Fin 4) :
    State.blank m (State.beginCycle x0 x1) = State.blank m x0 := by
  unfold State.beginCycle
  repeat' first
    | simp only [h_banks, State.modBank_in, blank_ite, ite_self, forEach_in, implies_true]
    | refine forEach_next (fun _ _ => ?_) ?_
    | split

theorem State.risePair_in {m : Part → Bool} (h_gates : m .gates = true) (h_banks : m .banks = true) (h_evlog : m .evlog = true) (h_irq : m .irq =
    true) (x0 : State) (x1 : Fin 4) (x2 : Fin 52) (x3 : Fin 52) :
    State.blank m (State.risePair x0 x1 x2 x3) = State.blank m x0 := by
  unfold State.risePair
  repeat' first
    | simp only [h_gates, h_banks, h_evlog, h_irq, State.modBank_in, State.beginCycle_in, State.gateEvent_in, State.abortTest_in, State.seeOn_in,
        State.modGate_in, blank_ite, ite_self, forEach_in, implies_true]
    | refine forEach_next (fun _ _ => ?_) ?_
    | split

theorem State.endDnPulse_in {m : Part → Bool} (h_gates : m .gates = true) (h_banks : m .banks = true) (h_irq : m .irq = true) (x0 : State) (x1 : Fin
    52) :
    State.blank m (State.endDnPulse x0 x1) = State.blank m x0 := by
  unfold State.endDnPulse
  repeat' first
    | simp only [h_gates, h_banks, h_irq, State.modBank_in, State.setDn_in, blank_ite, ite_self, forEach_in, implies_true]
    | refine forEach_next (fun _ _ => ?_) ?_
    | split

theorem State.seeOff_in {m : Part → Bool} (h_gates : m .gates = true) (x0 : State) (x1 : Fin 52) :
    State.blank m (State.seeOff x0 x1) = State.blank m x0 := by
  unfold State.seeOff
  repeat' first
    | simp only [h_gates, State.modGate_in, blank_ite, ite_self, implies_true]
    | split

theorem State.gateFault_in {m : Part → Bool} (h_gates : m .gates = true) (x0 : State) (x1 : Fin 52) (x2 : GateCause) :
    State.blank m (State.gateFault x0 x1 x2) = State.blank m x0 := by
  unfold State.gateFault
  repeat' first
    | simp only [h_gates, State.modGate_in, blank_ite, ite_self, implies_true]
    | split

theorem State.closeWindow_in {m : Part → Bool} (h_gateBlock : m .gateBlock = true) (h_evlog : m .evlog = true) (h_irq : m .irq = true) (x0 : State)
    :
    State.blank m (State.closeWindow x0) = State.blank m x0 := by
  unfold State.closeWindow
  repeat' first
    | simp only [h_gateBlock, h_evlog, h_irq, State.event_in, State.irqRaise_in, blank_set_gateBlock, blank_ite, ite_self, forEach_in, implies_true]
    | refine forEach_next (fun _ _ => ?_) ?_
    | split

theorem State.openWindow_in {m : Part → Bool} (h_gateBlock : m .gateBlock = true) (h_evlog : m .evlog = true) (h_irq : m .irq = true) (x0 :
    State) (x1 : Fin 52) (x2 : GateCause) (x3 : Bool) (x4 : Option GateCause) :
    State.blank m (State.openWindow x0 x1 x2 x3 x4) = State.blank m x0 := by
  unfold State.openWindow
  repeat' first
    | simp only [h_gateBlock, h_evlog, h_irq, State.closeWindow_in, blank_set_gateBlock, blank_ite, ite_self, implies_true]
    | split

theorem State.clampFault_in {m : Part → Bool} (h_banks : m .banks = true) (h_evlog : m .evlog = true) (h_irq : m .irq = true) (h_strs : m .strs =
    true) (h_gates : m .gates = true) (h_fc : m .fc = true) (h_health : m .health = true) (h_mode : m .mode = true) (h_dict : m .dict = true)
    (h_io : m .io = true) (x0 : State) (x1 : Fin 4) :
    State.blank m (State.clampFault x0 x1) = State.blank m x0 := by
  unfold State.clampFault
  repeat' first
    | simp only [h_banks, h_evlog, h_irq, h_strs, h_gates, h_fc, h_health, h_mode, h_dict, h_io, State.sOff_in, State.faultBank_in,
        State.tripStr_in, blank_ite, ite_self, forEach_in, implies_true]
    | refine forEach_next (fun _ _ => ?_) ?_
    | split

theorem State.bridgeFault_in {m : Part → Bool} (h_banks : m .banks = true) (h_evlog : m .evlog = true) (h_irq : m .irq = true) (h_strs : m .strs
    = true) (h_gates : m .gates = true) (h_mode : m .mode = true) (h_io : m .io = true) (x0 : State) (x1 : Fin 4) :
    State.blank m (State.bridgeFault x0 x1) = State.blank m x0 := by
  unfold State.bridgeFault
  repeat' first
    | simp only [h_banks, h_evlog, h_irq, h_strs, h_gates, h_mode, h_io, State.modBank_in, State.hbOff_in, State.faultBank_in, blank_ite,
        ite_self, implies_true]
    | split

theorem State.applySelfTest_in {m : Part → Bool} (h_evlog : m .evlog = true) (h_irq : m .irq = true) (h_gates : m .gates = true) (x0 : State) (x1 :
    Fin 52) :
    AppliedIn m x0 (State.applySelfTest x0 x1) := by
  unfold State.applySelfTest
  repeat' first
    | simp only [h_evlog, h_irq, h_gates, State.gateEvent_in, State.modGate_in, appliedIn_ok, appliedIn_error, blank_ite, ite_self, forEach_in,
        implies_true]
    | refine forEach_next (fun _ _ => ?_) ?_
    | split

theorem State.endSelfTest_in {m : Part → Bool} (h_irq : m .irq = true) (h_evlog : m .evlog = true) (h_gates : m .gates = true) (x0 : State) (x1 :
    Fin 52) (x2 : SelfTestEnd) :
    State.blank m (State.endSelfTest x0 x1 x2) = State.blank m x0 := by
  unfold State.endSelfTest
  repeat' first
    | simp only [h_irq, h_evlog, h_gates, State.irqRaise_in, State.event_in, State.modGate_in, State.abortTest_in, State.gateFault_in, blank_ite,
        ite_self, implies_true]
    | split

theorem State.applyGateClear_in {m : Part → Bool} (h_evlog : m .evlog = true) (h_irq : m .irq = true) (h_gates : m .gates = true) (h_banks : m
    .banks = true) (x0 : State) (x1 : Fin 4) :
    AppliedIn m x0 (State.applyGateClear x0 x1) := by
  unfold State.applyGateClear
  repeat' first
    | simp only [h_evlog, h_irq, h_gates, h_banks, State.setDn_in, State.gateEvent_in, State.modGate_in, State.modBank_in, State.seeOff_in,
        appliedIn_ok, appliedIn_error, blank_ite, ite_self, forEach_in, implies_true]
    | refine forEach_next (fun _ _ => ?_) ?_
    | split

theorem State.evalItem_in {m : Part → Bool} (h_bstr : m .bstr = true) (x0 : State) (x1 : Fin 40) (x2 : EnvItem) (x3 : Nat) (x4 : Int) (x5 : Int →
    Bool) :
    State.blank m (State.evalItem x0 x1 x2 x3 x4 x5) = State.blank m x0 := by
  unfold State.evalItem
  repeat' first
    | simp only [h_bstr, State.modBStr_in, blank_ite, ite_self, implies_true]
    | split

theorem State.judgeCell_in {m : Part → Bool} (h_bstr : m .bstr = true) (x0 : State) (x1 : Fin 40) (x2 : Nat) (x3 : Nat) :
    State.blank m (State.judgeCell x0 x1 x2 x3) = State.blank m x0 := by
  unfold State.judgeCell
  repeat' first
    | simp only [h_bstr, State.modBStr_in, State.evalItem_in, blank_ite, ite_self, implies_true]
    | split

theorem State.judgeCurrent_in {m : Part → Bool} (h_bstr : m .bstr = true) (x0 : State) (x1 : Fin 40) (x2 : Int) (x3 : Int) :
    State.blank m (State.judgeCurrent x0 x1 x2 x3) = State.blank m x0 := by
  unfold State.judgeCurrent
  repeat' first
    | simp only [h_bstr, State.modBStr_in, State.evalItem_in, blank_ite, ite_self, implies_true]
    | split

theorem State.judgeRise_in {m : Part → Bool} (h_bstr : m .bstr = true) (x0 : State) (x1 : Fin 40) (x2 : Nat) (x3 : Int) (x4 : Nat) :
    State.blank m (State.judgeRise x0 x1 x2 x3 x4) = State.blank m x0 := by
  unfold State.judgeRise
  repeat' first
    | simp only [h_bstr, State.evalItem_in, State.modBStr_in, blank_ite, ite_self, implies_true]
    | split

theorem State.judgeTemps_in {m : Part → Bool} (h_bstr : m .bstr = true) (x0 : State) (x1 : Fin 40) (x2 : Nat) (x3 : List Int) :
    State.blank m (State.judgeTemps x0 x1 x2 x3) = State.blank m x0 := by
  unfold State.judgeTemps
  repeat' first
    | simp only [h_bstr, State.modBStr_in, State.evalItem_in, State.judgeRise_in, blank_ite, ite_self, forEach_in, implies_true]
    | refine forEach_next (fun _ _ => ?_) ?_
    | split

theorem State.countUnseen_in {m : Part → Bool} (h_bstr : m .bstr = true) (x0 : State) (x1 : Fin 40) (x2 : Nat) (x3 : Nat) :
    State.blank m (State.countUnseen x0 x1 x2 x3) = State.blank m x0 := by
  unfold State.countUnseen
  repeat' first
    | simp only [h_bstr, State.modBStr_in, blank_ite, ite_self, implies_true]
    | split

theorem State.countSlow_in {m : Part → Bool} (h_bstr : m .bstr = true) (x0 : State) (x1 : Fin 40) (x2 : Nat) (x3 : Nat) :
    State.blank m (State.countSlow x0 x1 x2 x3) = State.blank m x0 := by
  unfold State.countSlow
  repeat' first
    | simp only [h_bstr, State.modBStr_in, blank_ite, ite_self, forEach_in, implies_true]
    | refine forEach_next (fun _ _ => ?_) ?_
    | split

theorem State.countSlowUnseen_in {m : Part → Bool} (h_bstr : m .bstr = true) (x0 : State) (x1 : Fin 40) :
    State.blank m (State.countSlowUnseen x0 x1) = State.blank m x0 := by
  unfold State.countSlowUnseen
  repeat' first
    | simp only [h_bstr, State.modBStr_in, State.countSlow_in, blank_ite, ite_self, forEach_in, implies_true]
    | refine forEach_next (fun _ _ => ?_) ?_
    | split

theorem State.setMatch_in {m : Part → Bool} (h_evlog : m .evlog = true) (h_irq : m .irq = true) (h_strs : m .strs = true) (x0 : State) (x1 : Fin
    40) (x2 : Bool) :
    State.blank m (State.setMatch x0 x1 x2) = State.blank m x0 := by
  unfold State.setMatch
  repeat' first
    | simp only [h_evlog, h_irq, h_strs, State.event_in, State.irqRaise_in, State.modStr_in, blank_ite, ite_self, implies_true]
    | split

theorem State.evalMatch_in {m : Part → Bool} (h_strs : m .strs = true) (h_evlog : m .evlog = true) (h_irq : m .irq = true) (x0 : State) (x1 : Fin
    40) :
    State.blank m (State.evalMatch x0 x1) = State.blank m x0 := by
  unfold State.evalMatch
  repeat' first
    | simp only [h_strs, h_evlog, h_irq, State.setMatch_in, State.modStr_in, blank_ite, ite_self, implies_true]
    | split

theorem State.endMatch_in {m : Part → Bool} (h_evlog : m .evlog = true) (h_irq : m .irq = true) (h_strs : m .strs = true) (x0 : State) (x1 : Fin 40) :
    State.blank m (State.endMatch x0 x1) = State.blank m x0 := by
  unfold State.endMatch
  repeat' first
    | simp only [h_evlog, h_irq, h_strs, State.setMatch_in, blank_ite, ite_self, implies_true]
    | split

theorem State.commitRecords_in {m : Part → Bool} (h_records : m .records = true) (h_belay : m .belay = true) (h_bstr : m .bstr = true) (h_evlog :
    m .evlog = true) (h_irq : m .irq = true) (x0 : State) (x1 : List BelayRecord) (x2 : Nat) :
    State.blank m (State.commitRecords x0 x1 x2) = State.blank m x0 := by
  unfold State.commitRecords
  repeat' first
    | simp only [h_records, h_belay, h_bstr, h_evlog, h_irq, State.modBelay_in, State.modBStr_in, State.event_in, State.modBelay_records_in,
        blank_ite, ite_self, forEach_in, implies_true]
    | refine forEach_next (fun _ _ => ?_) ?_
    | split

theorem State.refuseRecords_in {m : Part → Bool} (h_belay : m .belay = true) (h_evlog : m .evlog = true) (h_irq : m .irq = true) (x0 : State) (x1 :
    BelayRecord) (x2 : Nat) (x3 : Nat) :
    State.blank m (State.refuseRecords x0 x1 x2 x3) = State.blank m x0 := by
  unfold State.refuseRecords
  repeat' first
    | simp only [h_belay, h_evlog, h_irq, State.event_in, State.modBelay_in, blank_ite, ite_self, forEach_in, implies_true]
    | refine forEach_next (fun _ _ => ?_) ?_
    | split

theorem State.checkCopies_in {m : Part → Bool} (h_evlog : m .evlog = true) (h_belay : m .belay = true) (h_irq : m .irq = true) (x0 : State) :
    State.blank m (State.checkCopies x0) = State.blank m x0 := by
  unfold State.checkCopies
  repeat' first
    | simp only [h_evlog, h_belay, h_irq, State.event_in, State.modBelay_in, blank_ite, ite_self, forEach_in, implies_true]
    | refine forEach_next (fun _ _ => ?_) ?_
    | split

theorem State.tickInput_in {m : Part → Bool} (h_io : m .io = true) (h_evlog : m .evlog = true) (h_irq : m .irq = true) (x0 : State) (x1 : Fin 24)
    (x2 : Bool) (x3 : Bool) :
    State.blank m (State.tickInput x0 x1 x2 x3) = State.blank m x0 := by
  unfold State.tickInput
  repeat' first
    | simp only [h_io, h_evlog, h_irq, State.modIn_in, State.event_in, State.irqRaise_in, blank_ite, ite_self, implies_true]
    | split

theorem State.noteReady_in {m : Part → Bool} (h_io : m .io = true) (h_evlog : m .evlog = true) (h_irq : m .irq = true) (x0 : State) (x1 : Fin 24) :
    State.blank m (State.noteReady x0 x1) = State.blank m x0 := by
  unfold State.noteReady
  repeat' first
    | simp only [h_io, h_evlog, h_irq, State.modIn_in, State.event_in, State.irqRaise_in, blank_ite, ite_self, forEach_in, implies_true]
    | refine forEach_next (fun _ _ => ?_) ?_
    | split

theorem State.noteGroup_in {m : Part → Bool} (h_banks : m .banks = true) (h_evlog : m .evlog = true) (h_irq : m .irq = true) (x0 : State) (x1 :
    Fin 4) :
    State.blank m (State.noteGroup x0 x1) = State.blank m x0 := by
  unfold State.noteGroup
  repeat' first
    | simp only [h_banks, h_evlog, h_irq, State.modBank_in, State.event_in, State.irqRaise_in, blank_ite, ite_self, implies_true]
    | split

theorem State.noteInputs_in {m : Part → Bool} (h_io : m .io = true) (h_evlog : m .evlog = true) (h_irq : m .irq = true) (h_banks : m .banks =
    true) (h_gates : m .gates = true) (h_strs : m .strs = true) (h_fc : m .fc = true) (h_health : m .health = true) (h_mode : m .mode = true)
    (h_dict : m .dict = true) (x0 : State) :
    State.blank m (State.noteInputs x0) = State.blank m x0 := by
  unfold State.noteInputs
  repeat' first
    | simp only [h_io, h_evlog, h_irq, h_banks, h_gates, h_strs, h_fc, h_health, h_mode, h_dict, State.noteReady_in, State.enforceTrips_in,
        State.noteGroup_in, blank_ite, ite_self, forEach_in, implies_true]
    | refine forEach_next (fun _ _ => ?_) ?_
    | split

theorem State.latchDisc_in {m : Part → Bool} (h_io : m .io = true) (h_evlog : m .evlog = true) (h_irq : m .irq = true) (x0 : State) (x1 : Fin 24) :
    State.blank m (State.latchDisc x0 x1) = State.blank m x0 := by
  unfold State.latchDisc
  repeat' first
    | simp only [h_io, h_evlog, h_irq, State.modIn_in, State.event_in, State.irqRaise_in, blank_ite, ite_self, implies_true]
    | split

theorem State.enterSm_in {m : Part → Bool} (h_io : m .io = true) (h_evlog : m .evlog = true) (h_irq : m .irq = true) (x0 : State) (x1 : Fin 8)
    (x2 : SmState) :
    State.blank m (State.enterSm x0 x1 x2) = State.blank m x0 := by
  unfold State.enterSm
  repeat' first
    | simp only [h_io, h_evlog, h_irq, State.modSm_in, State.event_in, blank_ite, ite_self, implies_true]
    | split

theorem State.followSm_in {m : Part → Bool} (h_irq : m .irq = true) (h_io : m .io = true) (h_banks : m .banks = true) (h_gates : m .gates = true)
    (h_strs : m .strs = true) (h_evlog : m .evlog = true) (h_fc : m .fc = true) (h_health : m .health = true) (h_mode : m .mode = true) (h_dict :
    m .dict = true) (x0 : State) (x1 : Fin 8) :
    State.blank m (State.followSm x0 x1) = State.blank m x0 := by
  unfold State.followSm
  repeat' first
    | simp only [h_irq, h_io, h_banks, h_gates, h_strs, h_evlog, h_fc, h_health, h_mode, h_dict, State.irqRaise_in, State.enforceTrips_in,
        State.modSm_in, blank_ite, ite_self, implies_true]
    | split

theorem State.loseSm_in {m : Part → Bool} (h_irq : m .irq = true) (h_io : m .io = true) (h_evlog : m .evlog = true) (h_banks : m .banks = true)
    (h_gates : m .gates = true) (h_strs : m .strs = true) (h_fc : m .fc = true) (h_health : m .health = true) (h_mode : m .mode = true) (h_dict :
    m .dict = true) (x0 : State) (x1 : Fin 8) :
    State.blank m (State.loseSm x0 x1) = State.blank m x0 := by
  unfold State.loseSm
  repeat' first
    | simp only [h_irq, h_io, h_evlog, h_banks, h_gates, h_strs, h_fc, h_health, h_mode, h_dict, State.followSm_in, State.enterSm_in, blank_ite,
        ite_self, implies_true]
    | split

theorem State.latchXs_in {m : Part → Bool} (h_io : m .io = true) (h_evlog : m .evlog = true) (h_irq : m .irq = true) (x0 : State) (x1 : Fin 24) :
    State.blank m (State.latchXs x0 x1) = State.blank m x0 := by
  unfold State.latchXs
  repeat' first
    | simp only [h_io, h_evlog, h_irq, State.modIn_in, State.event_in, State.irqRaise_in, blank_ite, ite_self, implies_true]
    | split

theorem State.clearXs_in {m : Part → Bool} (h_evlog : m .evlog = true) (h_io : m .io = true) (h_irq : m .irq = true) (x0 : State) (x1 : Fin 24) :
    State.blank m (State.clearXs x0 x1) = State.blank m x0 := by
  unfold State.clearXs
  repeat' first
    | simp only [h_evlog, h_io, h_irq, State.event_in, State.modIn_in, blank_ite, ite_self, implies_true]
    | split

theorem State.applyTpClear_in {m : Part → Bool} (h_evlog : m .evlog = true) (h_irq : m .irq = true) (h_io : m .io = true) (x0 : State) (x1 : Nat) :
    AppliedIn m x0 (State.applyTpClear x0 x1) := by
  unfold State.applyTpClear
  repeat' first
    | simp only [h_evlog, h_irq, h_io, State.event_in, State.modTp_in, appliedIn_ok, appliedIn_error, blank_ite, ite_self, forEach_in, implies_true]
    | refine forEach_next (fun _ _ => ?_) ?_
    | split

theorem State.applyQRequest_in {m : Part → Bool} (h_dict : m .dict = true) (h_values : m .values = true) (h_evlog : m .evlog = true) (h_irq : m
    .irq = true) (h_io : m .io = true) (x0 : State) (x1 : Nat) :
    AppliedIn m x0 (State.applyQRequest x0 x1) := by
  unfold State.applyQRequest
  repeat' first
    | simp only [h_dict, h_values, h_evlog, h_irq, h_io, State.setVal_in, State.event_in, State.enforceOutputs_in, State.dropQ_in,
        State.requestQ_in, appliedIn_ok, appliedIn_error, blank_ite, ite_self, forEach_in, implies_true]
    | refine forEach_next (fun _ _ => ?_) ?_
    | split

theorem State.applyQDrop_in {m : Part → Bool} (h_io : m .io = true) (h_evlog : m .evlog = true) (h_irq : m .irq = true) (x0 : State) (x1 : Nat) :
    AppliedIn m x0 (State.applyQDrop x0 x1) := by
  unfold State.applyQDrop
  repeat' first
    | simp only [h_io, h_evlog, h_irq, State.enforceOutputs_in, State.dropQ_in, appliedIn_ok, appliedIn_error, blank_ite, ite_self, forEach_in,
        implies_true]
    | refine forEach_next (fun _ _ => ?_) ?_
    | split

theorem State.applyQClear_in {m : Part → Bool} (h_io : m .io = true) (h_evlog : m .evlog = true) (h_irq : m .irq = true) (x0 : State) (x1 : Nat) :
    AppliedIn m x0 (State.applyQClear x0 x1) := by
  unfold State.applyQClear
  repeat' first
    | simp only [h_io, h_evlog, h_irq, State.modQ_in, State.event_in, appliedIn_ok, appliedIn_error, blank_ite, ite_self, forEach_in, implies_true]
    | refine forEach_next (fun _ _ => ?_) ?_
    | split

theorem State.faultQ_in {m : Part → Bool} (h_io : m .io = true) (h_evlog : m .evlog = true) (h_irq : m .irq = true) (x0 : State) (x1 : Fin 16)
    (x2 : Nat) :
    State.blank m (State.faultQ x0 x1 x2) = State.blank m x0 := by
  unfold State.faultQ
  repeat' first
    | simp only [h_io, h_evlog, h_irq, State.modQ_in, State.event_in, State.irqRaise_in, State.dropQ_in, State.enforceOutputs_in, blank_ite,
        ite_self, implies_true]
    | split

theorem State.acceptSm_in {m : Part → Bool} (h_io : m .io = true) (h_evlog : m .evlog = true) (h_irq : m .irq = true) (x0 : State) (x1 : Fin 8)
    (x2 : Nat) (x3 : List Byte) (x4 : Nat) (x5 : Nat) (x6 : SmState) :
    State.blank m (State.acceptSm x0 x1 x2 x3 x4 x5 x6) = State.blank m x0 := by
  unfold State.acceptSm
  repeat' first
    | simp only [h_io, h_evlog, h_irq, State.modSm_in, State.enterSm_in, State.event_in, blank_ite, ite_self, implies_true]
    | split

theorem State.staleSm_in {m : Part → Bool} (h_io : m .io = true) (x0 : State) (x1 : Fin 8) :
    State.blank m (State.staleSm x0 x1) = State.blank m x0 := by
  unfold State.staleSm
  repeat' first
    | simp only [h_io, State.modSm_in, blank_ite, ite_self, implies_true]
    | split

theorem State.takeCopy_in {m : Part → Bool} (h_io : m .io = true) (h_evlog : m .evlog = true) (h_irq : m .irq = true) (x0 : State) (x1 : Fin 8)
    (x2 : Fin 2) (x3 : List Byte) :
    State.blank m (State.takeCopy x0 x1 x2 x3) = State.blank m x0 := by
  unfold State.takeCopy
  repeat' first
    | simp only [h_io, h_evlog, h_irq, State.enterSm_in, State.acceptSm_in, State.staleSm_in, State.modSm_in, blank_ite, ite_self, implies_true]
    | split

theorem State.endWindow_in {m : Part → Bool} (h_io : m .io = true) (h_irq : m .irq = true) (h_evlog : m .evlog = true) (h_banks : m .banks = true)
    (h_gates : m .gates = true) (h_strs : m .strs = true) (h_fc : m .fc = true) (h_health : m .health = true) (h_mode : m .mode = true) (h_dict :
    m .dict = true) (x0 : State) (x1 : Fin 8) (x2 : SmCopy) :
    State.blank m (State.endWindow x0 x1 x2) = State.blank m x0 := by
  unfold State.endWindow
  repeat' first
    | simp only [h_io, h_irq, h_evlog, h_banks, h_gates, h_strs, h_fc, h_health, h_mode, h_dict, State.loseSm_in, State.modSm_in,
        State.followSm_in, State.acceptSm_in, blank_ite, ite_self, implies_true]
    | split

theorem State.endWindows_in {m : Part → Bool} (h_io : m .io = true) (h_irq : m .irq = true) (h_evlog : m .evlog = true) (h_banks : m .banks = true)
    (h_gates : m .gates = true) (h_strs : m .strs = true) (h_fc : m .fc = true) (h_health : m .health = true) (h_mode : m .mode = true) (h_dict :
    m .dict = true) (x0 : State) (x1 : Fin 8) :
    State.blank m (State.endWindows x0 x1) = State.blank m x0 := by
  unfold State.endWindows
  repeat' first
    | simp only [h_io, h_irq, h_evlog, h_banks, h_gates, h_strs, h_fc, h_health, h_mode, h_dict, State.endWindow_in, blank_ite, ite_self,
        forEach_in, implies_true]
    | refine forEach_next (fun _ _ => ?_) ?_
    | split

theorem State.safeTaken_in {m : Part → Bool} (h_banks : m .banks = true) (h_dict : m .dict = true) (h_evlog : m .evlog = true) (h_fc : m .fc = true)
    (h_gates : m .gates = true) (h_health : m .health = true) (h_io : m .io = true) (h_irq : m .irq = true) (h_mode : m .mode = true) (h_strs : m
    .strs = true) (x0 : State) (x1 : Fin 2) (x2 : Nat) (x3 : List Byte) :
    State.blank m (State.safeTaken x0 x1 x2 x3) = State.blank m x0 := by
  unfold State.safeTaken
  repeat' first
    | simp only [h_banks, h_dict, h_evlog, h_fc, h_gates, h_health, h_io, h_irq, h_mode, h_strs, State.takeCopy_in, State.modSm_in,
        State.endWindows_in, State.loseSm_in, State.followSm_in, blank_ite, ite_self, forEach_in, implies_true]
    | refine forEach_next (fun _ _ => ?_) ?_
    | split

theorem State.safeCopy_in {m : Part → Bool} (h_io : m .io = true) (h_irq : m .irq = true) (h_evlog : m .evlog = true) (h_banks : m .banks = true)
    (h_gates : m .gates = true) (h_strs : m .strs = true) (h_fc : m .fc = true) (h_health : m .health = true) (h_mode : m .mode = true) (h_dict : m
    .dict = true) (x0 : State) (x1 : Fin 2) (x2 : Nat) (x3 : List Byte) :
    State.blank m (State.safeCopy x0 x1 x2 x3) = State.blank m x0 := by
  unfold State.safeCopy
  repeat' first
    | simp only [h_io, h_irq, h_evlog, h_banks, h_gates, h_strs, h_fc, h_health, h_mode, h_dict, State.safeTaken_in, blank_ite, ite_self,
        forEach_in, implies_true]
    | refine forEach_next (fun _ _ => ?_) ?_
    | split

theorem State.smBusOff_in {m : Part → Bool} (h_irq : m .irq = true) (h_io : m .io = true) (h_evlog : m .evlog = true) (h_banks : m .banks = true)
    (h_gates : m .gates = true) (h_strs : m .strs = true) (h_fc : m .fc = true) (h_health : m .health = true) (h_mode : m .mode = true) (h_dict :
    m .dict = true) (x0 : State) (x1 : Fin 2) :
    State.blank m (State.smBusOff x0 x1) = State.blank m x0 := by
  unfold State.smBusOff
  repeat' first
    | simp only [h_irq, h_io, h_evlog, h_banks, h_gates, h_strs, h_fc, h_health, h_mode, h_dict, State.followSm_in, State.enterSm_in, blank_ite,
        ite_self, forEach_in, implies_true]
    | refine forEach_next (fun _ _ => ?_) ?_
    | split

theorem State.settleStreams_in {m : Part → Bool} (h_irq : m .irq = true) (h_io : m .io = true) (h_evlog : m .evlog = true) (h_banks : m .banks =
    true) (h_gates : m .gates = true) (h_strs : m .strs = true) (h_fc : m .fc = true) (h_health : m .health = true) (h_mode : m .mode = true)
    (h_dict : m .dict = true) (x0 : State) :
    State.blank m (State.settleStreams x0) = State.blank m x0 := by
  unfold State.settleStreams
  repeat' first
    | simp only [h_irq, h_io, h_evlog, h_banks, h_gates, h_strs, h_fc, h_health, h_mode, h_dict, State.followSm_in, State.enterSm_in,
        State.modSm_in, blank_ite, ite_self, forEach_in, implies_true]
    | refine forEach_next (fun _ _ => ?_) ?_
    | split

theorem State.abandonWrite_in {m : Part → Bool} (h_store : m .store = true) (x0 : State) :
    State.blank m (State.abandonWrite x0) = State.blank m x0 := by
  unfold State.abandonWrite
  repeat' first
    | simp only [h_store, State.modStore_in, blank_ite, ite_self, implies_true]
    | split

theorem State.appendHistory_in {m : Part → Bool} (h_store : m .store = true) (h_evlog : m .evlog = true) (h_irq : m .irq = true) (x0 : State) (x1
    : Learned) (x2 : Nat) :
    State.blank m (State.appendHistory x0 x1 x2) = State.blank m x0 := by
  unfold State.appendHistory
  repeat' first
    | simp only [h_store, h_evlog, h_irq, State.modStore_in, State.event_in, blank_ite, ite_self, implies_true]
    | split

theorem State.beginWrite_in {m : Part → Bool} (h_store : m .store = true) (x0 : State) (x1 : Nat) :
    State.blank m (State.beginWrite x0 x1) = State.blank m x0 := by
  unfold State.beginWrite
  repeat' first
    | simp only [h_store, State.modStore_in, blank_ite, ite_self, implies_true]
    | split

theorem State.nextCopy_in {m : Part → Bool} (h_store : m .store = true) (h_evlog : m .evlog = true) (h_irq : m .irq = true) (x0 : Nat) (x1 : State) :
    State.blank m (State.nextCopy x0 x1) = State.blank m x1 := by
  induction x0 generalizing x1 with
  | zero => rfl
  | succ n ih =>
    unfold State.nextCopy
    repeat' first
      | simp only [ih, State.modStore_in, State.abandonWrite_in, State.irqRaise_in, State.event_in, State.beginWrite_in, State.appendHistory_in,
          h_store, h_evlog, h_irq, blank_ite, ite_self]
      | split

theorem State.writeBack_in {m : Part → Bool} (h_store : m .store = true) (h_evlog : m .evlog = true) (h_irq : m .irq = true) (x0 : State) (x1 : Nat) :
    State.blank m (State.writeBack x0 x1) = State.blank m x0 := by
  unfold State.writeBack
  repeat' first
    | simp only [h_store, h_evlog, h_irq, State.nextCopy_in, State.beginWrite_in, blank_ite, ite_self, implies_true]
    | split

theorem State.applyLearnWriteReq_in {m : Part → Bool} (h_est : m .est = true) (x0 : State) :
    AppliedIn m x0 (State.applyLearnWriteReq x0) := by
  unfold State.applyLearnWriteReq
  repeat' first
    | simp only [h_est, State.modEst_in, appliedIn_ok, appliedIn_error, blank_ite, ite_self, implies_true]
    | split

theorem State.loadLearned_in {m : Part → Bool} (h_est : m .est = true) (h_corr : m .corr = true) (h_bal : m .bal = true) (h_evlog : m .evlog =
    true) (h_irq : m .irq = true) (x0 : State) (x1 : Learned) :
    State.blank m (State.loadLearned x0 x1) = State.blank m x0 := by
  unfold State.loadLearned
  repeat' first
    | simp only [h_est, h_corr, h_bal, h_evlog, h_irq, State.modEst_in, State.modCorr_in, State.modBal_in, State.event_in, blank_ite, ite_self,
        implies_true]
    | split

theorem State.loadNothing_in {m : Part → Bool} (h_est : m .est = true) (h_evlog : m .evlog = true) (h_irq : m .irq = true) (x0 : State) :
    State.blank m (State.loadNothing x0) = State.blank m x0 := by
  unfold State.loadNothing
  repeat' first
    | simp only [h_est, h_evlog, h_irq, State.event_in, State.modEst_in, blank_ite, ite_self, forEach_in, implies_true]
    | refine forEach_next (fun _ _ => ?_) ?_
    | split

theorem State.selectLearned_in {m : Part → Bool} (h_evlog : m .evlog = true) (h_irq : m .irq = true) (h_store : m .store = true) (h_est : m .est =
    true) (h_corr : m .corr = true) (h_bal : m .bal = true) (x0 : State) :
    State.blank m (State.selectLearned x0) = State.blank m x0 := by
  unfold State.selectLearned
  repeat' first
    | simp only [h_evlog, h_irq, h_store, h_est, h_corr, h_bal, State.event_in, State.modStore_in, State.loadLearned_in, State.loadNothing_in,
        blank_ite, ite_self, forEach_in, implies_true]
    | refine forEach_next (fun _ _ => ?_) ?_
    | split

theorem State.settleLearned_in {m : Part → Bool} (h_evlog : m .evlog = true) (h_irq : m .irq = true) (h_store : m .store = true) (x0 : State) :
    State.blank m (State.settleLearned x0) = State.blank m x0 := by
  unfold State.settleLearned
  repeat' first
    | simp only [h_evlog, h_irq, h_store, State.event_in, State.modStore_in, State.appendHistory_in, State.writeBack_in, blank_ite, ite_self,
        implies_true]
    | split

theorem State.openSdWindow_in {m : Part → Bool} (h_corr : m .corr = true) (x0 : State) :
    State.blank m (State.openSdWindow x0) = State.blank m x0 := by
  unfold State.openSdWindow
  repeat' first
    | simp only [h_corr, State.modCorr_in, blank_ite, ite_self, implies_true]
    | split

theorem State.tearWrite_in {m : Part → Bool} (h_store : m .store = true) (x0 : State) :
    State.blank m (State.tearWrite x0) = State.blank m x0 := by
  unfold State.tearWrite
  repeat' first
    | simp only [h_store, State.abandonWrite_in, State.modStore_in, blank_ite, ite_self, implies_true]
    | split

theorem State.rwsRefused_in {m : Part → Bool} (h_evlog : m .evlog = true) (h_irq : m .irq = true) (h_est : m .est = true) (x0 : State) (x1 :
    SealItem) :
    State.blank m (State.rwsRefused x0 x1) = State.blank m x0 := by
  unfold State.rwsRefused
  repeat' first
    | simp only [h_evlog, h_irq, h_est, State.gateEvent_in, State.event_in, State.modEst_in, blank_ite, ite_self, forEach_in, implies_true]
    | refine forEach_next (fun _ _ => ?_) ?_
    | split

theorem State.setRws_in {m : Part → Bool} (h_gates : m .gates = true) (h_dict : m .dict = true) (h_values : m .values = true) (x0 : State) (x1 :
    SealItem) :
    State.blank m (State.setRws x0 x1) = State.blank m x0 := by
  unfold State.setRws
  repeat' first
    | simp only [h_gates, h_dict, h_values, State.storeValue_in, State.modGate_in, blank_ite, ite_self, forEach_in, implies_true]
    | refine forEach_next (fun _ _ => ?_) ?_
    | split

theorem State.putRws_in {m : Part → Bool} (h_gates : m .gates = true) (h_evlog : m .evlog = true) (h_irq : m .irq = true) (h_dict : m .dict = true)
    (h_values : m .values = true) (x0 : State) (x1 : SealItem) :
    State.blank m (State.putRws x0 x1) = State.blank m x0 := by
  unfold State.putRws
  repeat' first
    | simp only [h_gates, h_evlog, h_irq, h_dict, h_values, State.gateEvent_in, State.setRws_in, State.event_in, blank_ite, ite_self, forEach_in,
        implies_true]
    | refine forEach_next (fun _ _ => ?_) ?_
    | split

theorem State.storeRequest_in {m : Part → Bool} (h_seng : m .seng = true) (h_dict : m .dict = true) (h_irq : m .irq = true) (x0 : State) (x1 :
    SealedReq) :
    State.blank m (State.storeRequest x0 x1) = State.blank m x0 := by
  unfold State.storeRequest
  repeat' first
    | simp only [h_seng, h_dict, h_irq, State.storeCfg_in, State.modSeng_in, blank_ite, ite_self, forEach_in, implies_true]
    | refine forEach_next (fun _ _ => ?_) ?_
    | split

theorem State.settleCalendar_in {m : Part → Bool} (h_utcBase : m .utcBase = true) (h_utcAt : m .utcAt = true) (x0 : State) :
    State.blank m (State.settleCalendar x0) = State.blank m x0 := by
  unfold State.settleCalendar
  split
  · rfl
  · simp only [State.blank, h_utcBase, h_utcAt, if_true]

theorem State.resetSys_in {m : Part → Bool} (h_irq : m .irq = true) (h_evlog : m .evlog = true) (h_fc : m .fc = true) (h_supply : m .supply =
    true) (h_start : m .start = true) (h_cores : m .cores = true) (h_health : m .health = true) (h_strs : m .strs = true) (h_banks : m .banks =
    true) (h_gateBlock : m .gateBlock = true) (h_bstr : m .bstr = true) (h_dict : m .dict = true) (h_values : m .values = true) (h_seng : m .seng
    = true) (h_therm : m .therm = true) (h_cans : m .cans = true) (h_ropes : m .ropes = true) (h_trav : m .trav = true) (h_bal : m .bal = true)
    (h_eths : m .eths = true) (h_stream : m .stream = true) (h_clock : m .clock = true) (h_corr : m .corr = true) (h_est : m .est = true)
    (h_store : m .store = true) (h_heldReq : m .heldReq = true) (h_waitingWrites : m .waitingWrites = true) (h_utcBase : m .utcBase = true)
    (h_utcAt : m .utcAt = true)
    (x0 : State) (x1 : Bool) : State.blank m (State.resetSys x0 x1) = State.blank m x0 := by
  refine Eq.trans ?_ (show State.blank m x0.tearWrite.settleCalendar = State.blank m x0 by
    simp only [State.settleCalendar_in, State.tearWrite_in, h_irq, h_evlog, h_fc, h_supply, h_start, h_cores, h_health, h_strs, h_banks,
        h_gateBlock, h_bstr, h_dict, h_values, h_seng, h_therm, h_cans, h_ropes, h_trav, h_bal, h_eths, h_stream, h_clock, h_corr, h_est,
        h_store, h_heldReq, h_waitingWrites, h_utcBase, h_utcAt])
  unfold State.resetSys
  simp only [State.blank, h_irq, h_evlog, h_fc, h_supply, h_start, h_cores, h_health, h_strs, h_banks, h_gateBlock, h_bstr, h_dict, h_values,
      h_seng, h_therm, h_cans, h_ropes, h_trav, h_bal, h_eths, h_stream, h_clock, h_corr, h_est, h_store, h_heldReq, h_waitingWrites, h_utcBase,
      h_utcAt, if_true]

theorem State.blockOff_in {m : Part → Bool} (h_mode : m .mode = true) (x0 : State) :
    State.blank m (State.blockOff x0) = State.blank m x0 := by
  unfold State.blockOff
  repeat' first
    | simp only [h_mode, blank_set_mode, blank_ite, ite_self, implies_true]
    | split

theorem State.safeHold_in {m : Part → Bool} (h_start : m .start = true) (h_mode : m .mode = true) (h_evlog : m .evlog = true) (h_irq : m .irq =
    true) (x0 : State) :
    State.blank m (State.safeHold x0) = State.blank m x0 := by
  unfold State.safeHold
  repeat' first
    | simp only [h_start, h_mode, h_evlog, h_irq, State.modStart_in, State.setBlock_in, blank_ite, ite_self, implies_true]
    | split

theorem State.formCores_in {m : Part → Bool} (h_cores : m .cores = true) (h_start : m .start = true) (h_evlog : m .evlog = true) (h_irq : m .irq
    = true) (x0 : State) (x1 : StartFindings) (x2 : Bool) :
    State.blank m (State.formCores x0 x1 x2) = State.blank m x0 := by
  unfold State.formCores
  repeat' first
    | simp only [h_cores, h_start, h_evlog, h_irq, State.modStart_in, State.event_in, blank_set_cores, blank_ite, ite_self, forEach_in, implies_true]
    | refine forEach_next (fun _ _ => ?_) ?_
    | split

theorem State.remapAtStart_in {m : Part → Bool} (h_health : m .health = true) (x0 : State) (x1 : List Nat) :
    State.blank m (State.remapAtStart x0 x1).1 = State.blank m x0 := by
  unfold State.remapAtStart
  generalize hp : (x0, true) = p
  have h0 : State.blank m p.1 = State.blank m x0 := by rw [← hp]
  clear hp
  induction x1 generalizing p with
  | nil => exact h0
  | cons a l ih =>
    rw [List.foldl_cons]
    refine ih _ ?_
    split
    · exact (State.modHealth_in h_health _ _).trans h0
    · exact h0

theorem State.pickImage_in {m : Part → Bool} (h_evlog : m .evlog = true) (h_irq : m .irq = true) (h_start : m .start = true) (x0 : State) :
    State.blank m (State.pickImage x0).1 = State.blank m x0 := by
  unfold State.pickImage
  repeat' first
    | simp only [h_evlog, h_irq, h_start, State.event_in, State.modStart_in, blank_ite, ite_self, forEach_in, implies_true]
    | refine forEach_next (fun _ _ => ?_) ?_
    | split

theorem State.takeItems_in {m : Part → Bool} (h_health : m .health = true) (h_ropes : m .ropes = true) (h_strs : m .strs = true) (x0 : State) :
    State.blank m (State.takeItems x0) = State.blank m x0 := by
  unfold State.takeItems
  repeat' first
    | simp only [h_health, h_ropes, h_strs, State.modStr_in, State.modHealth_in, State.modRope_in, blank_ite, ite_self, forEach_in, implies_true]
    | refine forEach_next (fun _ _ => ?_) ?_
    | split

theorem State.loadConfig_in {m : Part → Bool} (h_values : m .values = true) (h_evlog : m .evlog = true) (h_irq : m .irq = true) (h_store : m
    .store = true) (h_dict : m .dict = true) (h_seng : m .seng = true) (h_health : m .health = true) (h_ropes : m .ropes = true) (h_strs : m
    .strs = true) (x0 : State) :
    State.blank m (State.loadConfig x0) = State.blank m x0 := by
  unfold State.loadConfig
  repeat' first
    | simp only [h_values, h_evlog, h_irq, h_store, h_dict, h_seng, h_health, h_ropes, h_strs, State.event_in, State.modStore_in,
        State.modDict_in, State.modSeng_in, State.modHealth_in, State.modRope_in, State.modStr_in, State.modDict_values_in, blank_ite, ite_self,
        forEach_in, implies_true]
    | refine forEach_next (fun _ _ => ?_) ?_
    | split

theorem State.configureNets_in {m : Part → Bool} (h_cans : m .cans = true) (h_eths : m .eths = true) (x0 : State) :
    State.blank m (State.configureNets x0) = State.blank m x0 := by
  unfold State.configureNets
  repeat' first
    | simp only [h_cans, h_eths, State.modCan_in, State.modEth_in, blank_ite, ite_self, forEach_in, implies_true]
    | refine forEach_next (fun _ _ => ?_) ?_
    | split

theorem State.closeGap_in {m : Part → Bool} (h_evlog : m .evlog = true) (h_irq : m .irq = true) (x0 : State) (x1 : Nat) (x2 : Nat) :
    State.blank m (State.closeGap x0 x1 x2) = State.blank m x0 := by
  unfold State.closeGap
  repeat' first
    | simp only [h_evlog, h_irq, State.event_in, blank_set_evlog, blank_ite, ite_self, implies_true]
    | split

theorem State.sequenceGap_in {m : Part → Bool} (h_evlog : m .evlog = true) (h_irq : m .irq = true) (x0 : State) :
    State.blank m (State.sequenceGap x0) = State.blank m x0 := by
  exact State.closeGap_in h_evlog h_irq _ _ _

theorem State.railsUp_in {m : Part → Bool} (h_start : m .start = true) (h_gates : m .gates = true) (x0 : State) :
    State.blank m (State.railsUp x0) = State.blank m x0 := by
  unfold State.railsUp
  repeat' first
    | simp only [h_start, h_gates, State.modStart_in, State.modGate_in, blank_ite, ite_self, forEach_in, implies_true]
    | refine forEach_next (fun _ _ => ?_) ?_
    | split

theorem State.railsDown_in {m : Part → Bool} (h_start : m .start = true) (h_gates : m .gates = true) (x0 : State) :
    State.blank m (State.railsDown x0) = State.blank m x0 := by
  unfold State.railsDown
  repeat' first
    | simp only [h_start, h_gates, State.modStart_in, State.modGate_in, blank_ite, ite_self, forEach_in, implies_true]
    | refine forEach_next (fun _ _ => ?_) ?_
    | split

theorem State.selfTestAll_in {m : Part → Bool} (h_gates : m .gates = true) (h_irq : m .irq = true) (h_evlog : m .evlog = true) (x0 : State) (x1 :
    List (Nat × Nat)) :
    State.blank m (State.selfTestAll x0 x1) = State.blank m x0 := by
  unfold State.selfTestAll
  repeat' first
    | simp only [h_gates, h_irq, h_evlog, State.modGate_in, State.endSelfTest_in, blank_ite, ite_self, forEach_in, implies_true]
    | refine forEach_next (fun _ _ => ?_) ?_
    | split

theorem State.rollCallAll_in {m : Part → Bool} (h_ropes : m .ropes = true) (x0 : State) :
    State.blank m (State.rollCallAll x0) = State.blank m x0 := by
  unfold State.rollCallAll
  repeat' first
    | simp only [h_ropes, State.startRollCall_in, blank_ite, ite_self, forEach_in, implies_true]
    | refine forEach_next (fun _ _ => ?_) ?_
    | split

theorem State.replayRefused_in {m : Part → Bool} (h_evlog : m .evlog = true) (h_irq : m .irq = true) (x0 : State) (x1 : SealedReq) :
    State.blank m (State.replayRefused x0 x1) = State.blank m x0 := by
  unfold State.replayRefused
  repeat' first
    | simp only [h_evlog, h_irq, State.event_in, blank_ite, ite_self, forEach_in, implies_true]
    | refine forEach_next (fun _ _ => ?_) ?_
    | split

theorem State.replayFrom_in {m : Part → Bool} (h_belay : m .belay = true) (h_dict : m .dict = true) (h_evlog : m .evlog = true) (h_gates : m
    .gates = true) (h_irq : m .irq = true) (h_start : m .start = true) (h_values : m .values = true) (x0 : List SealedReq)
    (x1 : State) : State.blank m (State.replayFrom x0 x1) = State.blank m x1 := by
  induction x0 generalizing x1 with
  | nil =>
    unfold State.replayFrom
    simp only [h_start, State.modStart_in]
  | cons p ps ih =>
    unfold State.replayFrom
    repeat' first
      | simp only [ih, h_belay, h_dict, h_evlog, h_gates, h_irq, h_start, h_values, State.replayRefused_in, State.modStart_in, State.setRws_in,
          State.modBelay_in, blank_ite, ite_self, forEach_in, implies_true]
      | split


theorem State.beginSelfTests_in {m : Part → Bool} (h_gates : m .gates = true) (x0 : State) :
    State.blank m (State.beginSelfTests x0) = State.blank m x0 := by
  unfold State.beginSelfTests
  repeat' first
    | simp only [h_gates, State.modGate_in, blank_ite, ite_self, forEach_in, implies_true]
    | refine forEach_next (fun _ _ => ?_) ?_
    | split

theorem State.endReplay_in {m : Part → Bool} (h_banks : m .banks = true) (h_belay : m .belay = true) (h_dict : m .dict = true) (h_evlog : m .evlog =
    true) (h_fc : m .fc = true) (h_gates : m .gates = true) (h_health : m .health = true) (h_io : m .io = true) (h_irq : m .irq = true) (h_mode : m
    .mode = true) (h_start : m .start = true) (h_strs : m .strs = true) (h_trav : m .trav = true) (x0 : State) :
    State.blank m (State.endReplay x0) = State.blank m x0 := by
  unfold State.endReplay
  repeat' first
    | simp only [h_banks, h_belay, h_dict, h_evlog, h_fc, h_gates, h_health, h_io, h_irq, h_mode, h_start, h_strs, h_trav, State.modTrav_in,
        State.settleBanks_in, State.beginSelfTests_in, State.modBelay_in, State.modStart_in, State.settleStreams_in, State.enforceTrips_in,
        blank_ite, ite_self, forEach_in, implies_true]
    | refine forEach_next (fun _ _ => ?_) ?_
    | split

theorem State.reportHotStart_in {m : Part → Bool} (h_evlog : m .evlog = true) (h_irq : m .irq = true) (h_start : m .start = true) (h_therm : m
    .therm = true) (x0 : State) :
    State.blank m (State.reportHotStart x0) = State.blank m x0 := by
  unfold State.reportHotStart
  repeat' first
    | simp only [h_evlog, h_irq, h_start, h_therm, State.modStart_in, State.event_in, State.modTherm_in, blank_ite, ite_self, forEach_in,
        implies_true]
    | refine forEach_next (fun _ _ => ?_) ?_
    | split

theorem State.startFirmware_in {m : Part → Bool} (h_cores : m .cores = true) (h_start : m .start = true) (h_values : m .values = true) (h_dict : m
    .dict = true) (h_therm : m .therm = true) (h_trav : m .trav = true) (h_gates : m .gates = true) (h_evlog : m .evlog = true) (h_irq : m .irq =
    true) (h_store : m .store = true) (h_seng : m .seng = true) (h_health : m .health = true) (h_ropes : m .ropes = true) (h_strs : m .strs = true)
    (h_belay : m .belay = true) (h_cans : m .cans = true) (h_eths : m .eths = true) (h_banks : m .banks = true) (h_io : m .io = true) (h_fc : m .fc
    = true) (h_mode : m .mode = true) (x0 : State) :
    State.blank m (State.startFirmware x0) = State.blank m x0 := by
  unfold State.startFirmware
  repeat' first
    | simp only [h_cores, h_start, h_values, h_dict, h_therm, h_trav, h_gates, h_evlog, h_irq, h_store, h_seng, h_health, h_ropes, h_strs, h_belay,
        h_cans, h_eths, h_banks, h_io, h_fc, h_mode, State.loadConfig_in, State.reportHotStart_in, State.sequenceGap_in, State.setVal_in,
        State.modStart_in, State.configureNets_in, State.endReplay_in, State.replayFrom_in, State.modTherm_in, blank_set_cores, blank_ite, ite_self,
        forEach_in, implies_true]
    | refine forEach_next (fun _ _ => ?_) ?_
    | split

end Sys2Proof.Machine
end

