-- ==== Sys2Proof/Laws/Frames2.lean ====
section
/-!
SUPPORT. Frames of the operations: each changes no part of the state beside those its hypotheses name.
-/

namespace Sys2Proof.Machine

set_option linter.unreachableTactic false
set_option linter.unusedTactic false
set_option linter.unusedSimpArgs false

theorem State.takeRows_in {m : Part → Bool} (h_health : m .health = true) (x0 : State) :
    State.blank m (State.takeRows x0) = State.blank m x0 := by
  unfold State.takeRows
  repeat' first
    | simp only [h_health, State.modHealth_in, blank_ite, ite_self, forEach_in, implies_true]
    | refine forEach_next (fun _ _ => ?_) ?_
    | split

theorem State.startFrom5ms_in {m : Part → Bool} (h_cores : m .cores = true) (h_start : m .start = true) (h_evlog : m .evlog = true) (h_irq : m .irq
    = true) (h_mode : m .mode = true) (h_health : m .health = true) (h_values : m .values = true) (h_dict : m .dict = true) (h_therm : m .therm =
    true) (h_trav : m .trav = true) (h_gates : m .gates = true) (h_store : m .store = true) (h_seng : m .seng = true) (h_ropes : m .ropes = true)
    (h_strs : m .strs = true) (h_belay : m .belay = true) (h_cans : m .cans = true) (h_eths : m .eths = true) (h_banks : m .banks = true) (h_io : m
    .io = true) (h_fc : m .fc = true) (x0 : State) (x1 : Boot) :
    State.blank m (State.startFrom5ms x0 x1) = State.blank m x0 := by
  have hp : State.blank m ((x0.formCores x1.findings x1.powerOn).takeRows.remapAtStart x1.findings.rows).1.pickImage.1 = State.blank m x0 := by
    simp only [State.pickImage_in, State.remapAtStart_in, State.takeRows_in, State.formCores_in, h_cores, h_start, h_evlog, h_irq, h_mode, h_health,
        h_values, h_dict, h_therm, h_trav, h_gates, h_store, h_seng, h_ropes, h_strs, h_belay, h_cans, h_eths, h_banks, h_io, h_fc]
  unfold State.startFrom5ms
  dsimp only
  split
  · simp only [State.safeHold_in, State.formCores_in, h_cores, h_start, h_evlog, h_irq, h_mode, h_health, h_values, h_dict, h_therm, h_trav,
      h_gates, h_store, h_seng, h_ropes, h_strs, h_belay, h_cans, h_eths, h_banks, h_io, h_fc]
  · split
    · simp only [State.safeHold_in, State.remapAtStart_in, State.takeRows_in, State.formCores_in, h_cores, h_start, h_evlog, h_irq, h_mode,
        h_health, h_values, h_dict, h_therm, h_trav, h_gates, h_store, h_seng, h_ropes, h_strs, h_belay, h_cans, h_eths, h_banks, h_io, h_fc]
    · split
      · rename_i h; rw [h] at hp; simp only [State.safeHold_in, hp, h_cores, h_start, h_evlog, h_irq, h_mode, h_health, h_values, h_dict, h_therm,
          h_trav, h_gates, h_store, h_seng, h_ropes, h_strs, h_belay, h_cans, h_eths, h_banks, h_io, h_fc]
      · rename_i h; rw [h] at hp; simp only [State.startFirmware_in, hp, h_cores, h_start, h_evlog, h_irq, h_mode, h_health, h_values, h_dict,
          h_therm, h_trav, h_gates, h_store, h_seng, h_ropes, h_strs, h_belay, h_cans, h_eths, h_banks, h_io, h_fc]



theorem State.loseRtc_in {m : Part → Bool} (h_utcBase : m .utcBase = true) (h_utcAt : m .utcAt = true) (h_evlog : m .evlog = true) (h_clock : m
    .clock = true) (h_start : m .start = true) (x0 : State) :
    State.blank m (State.loseRtc x0) = State.blank m x0 := by
  have e (u : State) a b c d : State.blank m { u with utcBase := a, utcAt := b, clock := c, evlog := d } = State.blank m u := by
    simp only [State.blank, h_utcBase, h_utcAt, h_evlog, h_clock, h_start, if_true]
  exact (e _ _ _ _ _).trans (State.modStart_in h_start _ _)

theorem State.runBoot_in {m : Part → Bool} (h_banks : m .banks = true) (h_belay : m .belay = true) (h_cans : m .cans = true) (h_cores : m .cores =
    true) (h_dict : m .dict = true) (h_eths : m .eths = true) (h_evlog : m .evlog = true) (h_fc : m .fc = true) (h_gates : m .gates = true)
    (h_health : m .health = true) (h_io : m .io = true) (h_irq : m .irq = true) (h_mode : m .mode = true) (h_ropes : m .ropes = true) (h_seng : m
    .seng = true) (h_start : m .start = true) (h_store : m .store = true) (h_strs : m .strs = true) (h_therm : m .therm = true) (h_trav : m .trav =
    true) (h_values : m .values = true) (x0 : State) :
    State.blank m (State.runBoot x0) = State.blank m x0 := by
  unfold State.runBoot
  repeat' first
    | simp only [h_banks, h_belay, h_cans, h_cores, h_dict, h_eths, h_evlog, h_fc, h_gates, h_health, h_io, h_irq, h_mode, h_ropes, h_seng, h_start,
        h_store, h_strs, h_therm, h_trav, h_values, State.startFrom5ms_in, State.modStart_in, blank_ite, ite_self, forEach_in, implies_true]
    | refine forEach_next (fun _ _ => ?_) ?_
    | split

theorem State.bootWith_in {m : Part → Bool} (h_banks : m .banks = true) (h_belay : m .belay = true) (h_cans : m .cans = true) (h_cores : m .cores =
    true) (h_dict : m .dict = true) (h_eths : m .eths = true) (h_evlog : m .evlog = true) (h_fc : m .fc = true) (h_gates : m .gates = true)
    (h_health : m .health = true) (h_io : m .io = true) (h_irq : m .irq = true) (h_mode : m .mode = true) (h_ropes : m .ropes = true) (h_seng : m
    .seng = true) (h_start : m .start = true) (h_store : m .store = true) (h_strs : m .strs = true) (h_therm : m .therm = true) (h_trav : m .trav =
    true) (h_values : m .values = true) (x0 : State) (x1 : StartFindings) (x2 : Bool) (x3 : Bool) :
    State.blank m (State.bootWith x0 x1 x2 x3) = State.blank m x0 := by
  unfold State.bootWith
  repeat' first
    | simp only [h_banks, h_belay, h_cans, h_cores, h_dict, h_eths, h_evlog, h_fc, h_gates, h_health, h_io, h_irq, h_mode, h_ropes, h_seng, h_start,
        h_store, h_strs, h_therm, h_trav, h_values, State.runBoot_in, State.modStart_in, blank_ite, ite_self, forEach_in, implies_true]
    | refine forEach_next (fun _ _ => ?_) ?_
    | split

theorem State.powerUp_in {m : Part → Bool} (h_belay : m .belay = true) (h_evlog : m .evlog = true) (h_gates : m .gates = true) (h_irq : m .irq =
    true) (h_records : m .records = true) (h_start : m .start = true) (h_supply : m .supply = true) (x0 : State) :
    State.blank m (State.powerUp x0) = State.blank m x0 := by
  have e0 (u : State) a0 a1 a2 a3 a4 a5 : State.blank m { u with irq := a0, evlog := a1, supply := a2, start := a3, gates := a4, belay := a5 } = State.blank m u := by
    simp only [State.blank, h_irq, h_evlog, h_supply, h_start, h_gates, h_belay, h_records, if_true]
  unfold State.powerUp
  repeat' first
    | simp only [h_belay, h_evlog, h_gates, h_irq, h_records, h_start, h_supply, e0, blank_ite, ite_self, forEach_in, implies_true]
    | refine forEach_next (fun _ _ => ?_) ?_
    | split

theorem State.powerUpPath_in {m : Part → Bool} (h_banks : m .banks = true) (h_dict : m .dict = true) (h_evlog : m .evlog = true) (h_fc : m .fc =
    true) (h_gates : m .gates = true) (h_health : m .health = true) (h_io : m .io = true) (h_irq : m .irq = true) (h_mode : m .mode = true) (h_strs
    : m .strs = true) (x0 : State) :
    State.blank m (State.powerUpPath x0) = State.blank m x0 := by
  have e0 (u : State) a0 a1 : State.blank m { u with banks := a0, io := a1 } = State.blank m u := by
    simp only [State.blank, h_banks, h_io, if_true]
  simp only [State.powerUpPath, h_banks, h_dict, h_evlog, h_fc, h_gates, h_health, h_io, h_irq, h_mode, h_strs, State.settleStreams_in,
    State.blockOff_in, e0]

theorem State.powerOn_in {m : Part → Bool} (h_irq : m .irq = true) (h_evlog : m .evlog = true) (h_supply : m .supply = true) (h_start : m .start =
    true) (h_gates : m .gates = true) (h_belay : m .belay = true) (h_io : m .io = true) (h_banks : m .banks = true) (h_utcBase : m .utcBase = true)
    (h_utcAt : m .utcAt = true) (h_clock : m .clock = true) (h_fc : m .fc = true) (h_cores : m .cores = true) (h_health : m .health = true) (h_strs
    : m .strs = true) (h_gateBlock : m .gateBlock = true) (h_bstr : m .bstr = true) (h_dict : m .dict = true) (h_seng : m .seng = true) (h_therm : m
    .therm = true) (h_cans : m .cans = true) (h_ropes : m .ropes = true) (h_trav : m .trav = true) (h_bal : m .bal = true) (h_eths : m .eths = true)
    (h_stream : m .stream = true) (h_corr : m .corr = true) (h_est : m .est = true) (h_store : m .store = true) (h_heldReq : m .heldReq = true)
    (h_waitingWrites : m .waitingWrites = true) (h_records : m .records = true) (h_mode : m .mode = true) (h_values : m .values = true) (x0 : State)
    (x1 : StartFindings) :
    State.blank m (State.powerOn x0 x1) = State.blank m x0 := by
  unfold State.powerOn
  repeat' first
    | simp only [h_irq, h_evlog, h_supply, h_start, h_gates, h_belay, h_io, h_banks, h_utcBase, h_utcAt, h_clock, h_fc, h_cores, h_health, h_strs,
        h_gateBlock, h_bstr, h_dict, h_seng, h_therm, h_cans, h_ropes, h_trav, h_bal, h_eths, h_stream, h_corr, h_est, h_store, h_heldReq,
        h_waitingWrites, h_records, h_mode, h_values, State.powerUp_in, State.resetSys_in, State.powerUpPath_in, State.modStart_in,
        State.loseRtc_in, State.bootWith_in, blank_set_eths, blank_ite, ite_self, forEach_in, implies_true]
    | refine forEach_next (fun _ _ => ?_) ?_
    | split

theorem State.restoreLockouts_in {m : Part → Bool} (h_strs : m .strs = true) (h_evlog : m .evlog = true) (h_irq : m .irq = true) (x0 : State) :
    State.blank m (State.restoreLockouts x0) = State.blank m x0 := by
  unfold State.restoreLockouts
  repeat' first
    | simp only [h_strs, h_evlog, h_irq, State.modStr_in, State.setStr_in, blank_ite, ite_self, forEach_in, implies_true]
    | refine forEach_next (fun _ _ => ?_) ?_
    | split

theorem State.compareListId_in {m : Part → Bool} (h_evlog : m .evlog = true) (h_dict : m .dict = true) (h_irq : m .irq = true) (x0 : State) :
    State.blank m (State.compareListId x0) = State.blank m x0 := by
  unfold State.compareListId
  repeat' first
    | simp only [h_evlog, h_dict, h_irq, State.event_in, State.storeCfg_in, State.modDict_in, blank_ite, ite_self, implies_true]
    | split

theorem State.finishStart_in {m : Part → Bool} (h_mode : m .mode = true) (h_start : m .start = true) (h_evlog : m .evlog = true) (h_health : m
    .health = true) (h_bal : m .bal = true) (h_irq : m .irq = true) (h_strs : m .strs = true) (h_dict : m .dict = true) (h_store : m .store =
    true) (x0 : State) :
    State.blank m (State.finishStart x0) = State.blank m x0 := by
  unfold State.finishStart
  repeat' first
    | simp only [h_mode, h_start, h_evlog, h_health, h_bal, h_irq, h_strs, h_dict, h_store, State.setBlock_in, State.restoreLockouts_in,
        State.modStart_in, State.flushAll_in, State.event_in, State.compareListId_in, State.storeCfg_in, State.modHealth_in, State.modBal_in,
        State.settleLearned_in, blank_ite, ite_self, implies_true]
    | split

theorem State.openAll_in {m : Part → Bool} (h_banks : m .banks = true) (h_evlog : m .evlog = true) (h_gates : m .gates = true) (h_io : m .io = true)
    (h_irq : m .irq = true) (h_mode : m .mode = true) (h_strs : m .strs = true) (x0 : State) :
    State.blank m (State.openAll x0) = State.blank m x0 := by
  unfold State.openAll
  repeat' first
    | simp only [h_banks, h_evlog, h_gates, h_io, h_irq, h_mode, h_strs, State.setStr_in, State.endPrecharge_in, State.safePath_in,
        State.settleBank_in, blank_ite, ite_self, forEach_in, implies_true]
    | refine forEach_next (fun _ _ => ?_) ?_
    | split

theorem State.beginSystemReset_in {m : Part → Bool} (h_start : m .start = true) (h_gates : m .gates = true) (h_belay : m .belay = true) (h_io : m
    .io = true) (h_evlog : m .evlog = true) (h_banks : m .banks = true) (h_fc : m .fc = true) (h_health : m .health = true) (h_mode : m .mode =
    true) (h_irq : m .irq = true) (h_supply : m .supply = true) (h_cores : m .cores = true) (h_strs : m .strs = true) (h_gateBlock : m .gateBlock =
    true) (h_bstr : m .bstr = true) (h_dict : m .dict = true) (h_seng : m .seng = true) (h_therm : m .therm = true) (h_cans : m .cans = true)
    (h_ropes : m .ropes = true) (h_trav : m .trav = true) (h_bal : m .bal = true) (h_eths : m .eths = true) (h_stream : m .stream = true) (h_clock :
    m .clock = true) (h_corr : m .corr = true) (h_est : m .est = true) (h_store : m .store = true) (h_heldReq : m .heldReq = true) (h_waitingWrites
    : m .waitingWrites = true) (h_utcBase : m .utcBase = true) (h_utcAt : m .utcAt = true) (h_records : m .records = true) (h_values : m .values =
    true) (x0 : State) (x1 : SysCause) :
    State.blank m (State.beginSystemReset x0 x1).1 = State.blank m x0 := by
  have e0 (u : State) a0 a1 a2 a3 : State.blank m { u with start := a0, gates := a1, belay := a2, io := a3 } = State.blank m u := by
    simp only [State.blank, h_start, h_gates, h_belay, h_io, h_records, if_true]
  unfold State.beginSystemReset
  repeat' first
    | simp only [h_start, h_gates, h_belay, h_io, h_evlog, h_banks, h_fc, h_health, h_mode, h_irq, h_supply, h_cores, h_strs, h_gateBlock, h_bstr,
        h_dict, h_seng, h_therm, h_cans, h_ropes, h_trav, h_bal, h_eths, h_stream, h_clock, h_corr, h_est, h_store, h_heldReq, h_waitingWrites,
        h_utcBase, h_utcAt, h_records, h_values, State.flushAll_in, State.discardPasses_in, State.openAll_in, State.resetSys_in,
        State.countFault_in, State.dropAllQ_in, State.setBlock_in, e0, blank_ite, ite_self, forEach_in, implies_true]
    | refine forEach_next (fun _ _ => ?_) ?_
    | split

theorem State.escalate_in {m : Part → Bool} (h_start : m .start = true) (h_gates : m .gates = true) (h_belay : m .belay = true) (h_io : m .io =
    true) (h_evlog : m .evlog = true) (h_banks : m .banks = true) (h_fc : m .fc = true) (h_health : m .health = true) (h_mode : m .mode = true)
    (h_irq : m .irq = true) (h_supply : m .supply = true) (h_cores : m .cores = true) (h_strs : m .strs = true) (h_gateBlock : m .gateBlock =
    true) (h_bstr : m .bstr = true) (h_dict : m .dict = true) (h_seng : m .seng = true) (h_therm : m .therm = true) (h_cans : m .cans = true)
    (h_ropes : m .ropes = true) (h_trav : m .trav = true) (h_bal : m .bal = true) (h_eths : m .eths = true) (h_stream : m .stream = true)
    (h_clock : m .clock = true) (h_corr : m .corr = true) (h_est : m .est = true) (h_store : m .store = true) (h_heldReq : m .heldReq = true)
    (h_waitingWrites : m .waitingWrites = true) (h_utcBase : m .utcBase = true) (h_utcAt : m .utcAt = true) (h_records : m .records = true)
    (h_values : m .values = true) (x0 : State) :
    State.blank m (State.escalate x0) = State.blank m x0 := by
  unfold State.escalate
  repeat' first
    | simp only [h_start, h_gates, h_belay, h_io, h_evlog, h_banks, h_fc, h_health, h_mode, h_irq, h_supply, h_cores, h_strs, h_gateBlock,
        h_bstr, h_dict, h_seng, h_therm, h_cans, h_ropes, h_trav, h_bal, h_eths, h_stream, h_clock, h_corr, h_est, h_store, h_heldReq,
        h_waitingWrites, h_utcBase, h_utcAt, h_records, h_values, State.beginSystemReset_in, State.modStart_in, blank_ite, ite_self, implies_true]
    | split

theorem State.systemReset_in {m : Part → Bool} (h_start : m .start = true) (h_gates : m .gates = true) (h_belay : m .belay = true) (h_io : m .io =
    true) (h_cores : m .cores = true) (h_evlog : m .evlog = true) (h_banks : m .banks = true) (h_fc : m .fc = true) (h_health : m .health = true)
    (h_mode : m .mode = true) (h_irq : m .irq = true) (h_supply : m .supply = true) (h_strs : m .strs = true) (h_gateBlock : m .gateBlock = true)
    (h_bstr : m .bstr = true) (h_dict : m .dict = true) (h_seng : m .seng = true) (h_therm : m .therm = true) (h_cans : m .cans = true) (h_ropes : m
    .ropes = true) (h_trav : m .trav = true) (h_bal : m .bal = true) (h_eths : m .eths = true) (h_stream : m .stream = true) (h_clock : m .clock =
    true) (h_corr : m .corr = true) (h_est : m .est = true) (h_store : m .store = true) (h_heldReq : m .heldReq = true) (h_waitingWrites : m
    .waitingWrites = true) (h_utcBase : m .utcBase = true) (h_utcAt : m .utcAt = true) (h_records : m .records = true) (h_values : m .values = true)
    (x0 : State) (x1 : SysCause) (x2 : StartFindings) :
    State.blank m (State.systemReset x0 x1 x2) = State.blank m x0 := by
  unfold State.systemReset
  repeat' first
    | simp only [h_start, h_gates, h_belay, h_io, h_cores, h_evlog, h_banks, h_fc, h_health, h_mode, h_irq, h_supply, h_strs, h_gateBlock, h_bstr,
        h_dict, h_seng, h_therm, h_cans, h_ropes, h_trav, h_bal, h_eths, h_stream, h_clock, h_corr, h_est, h_store, h_heldReq, h_waitingWrites,
        h_utcBase, h_utcAt, h_records, h_values, State.beginSystemReset_in, State.bootWith_in, blank_ite, ite_self, forEach_in, implies_true]
    | refine forEach_next (fun _ _ => ?_) ?_
    | split

theorem State.endThermalHold_in {m : Part → Bool} (h_cores : m .cores = true) (h_start : m .start = true) (h_therm : m .therm = true) (h_evlog : m
    .evlog = true) (h_irq : m .irq = true) (h_mode : m .mode = true) (h_health : m .health = true) (h_values : m .values = true) (h_dict : m .dict =
    true) (h_trav : m .trav = true) (h_est : m .est = true) (h_gates : m .gates = true) (h_belay : m .belay = true) (h_io : m .io = true) (h_store :
    m .store = true) (h_seng : m .seng = true) (h_ropes : m .ropes = true) (h_strs : m .strs = true) (h_records : m .records = true) (h_cans : m
    .cans = true) (h_eths : m .eths = true) (h_corr : m .corr = true) (h_bal : m .bal = true) (h_banks : m .banks = true) (h_fc : m .fc = true)
    (h_supply : m .supply = true) (h_gateBlock : m .gateBlock = true) (h_bstr : m .bstr = true) (h_stream : m .stream = true) (h_clock : m .clock =
    true) (h_heldReq : m .heldReq = true) (h_waitingWrites : m .waitingWrites = true) (h_utcBase : m .utcBase = true) (h_utcAt : m .utcAt = true)
    (x0 : State) (x1 : StartFindings) :
    State.blank m (State.endThermalHold x0 x1) = State.blank m x0 := by
  unfold State.endThermalHold
  repeat' first
    | simp only [h_cores, h_start, h_therm, h_evlog, h_irq, h_mode, h_health, h_values, h_dict, h_trav, h_est, h_gates, h_belay, h_io, h_store,
        h_seng, h_ropes, h_strs, h_records, h_cans, h_eths, h_corr, h_bal, h_banks, h_fc, h_supply, h_gateBlock, h_bstr, h_stream, h_clock,
        h_heldReq, h_waitingWrites, h_utcBase, h_utcAt, State.event_in, State.modStart_in, State.bootWith_in, State.systemReset_in,
        State.modTherm_in, blank_ite, ite_self, forEach_in, implies_true]
    | refine forEach_next (fun _ _ => ?_) ?_
    | split

theorem State.markWarn_in {m : Part → Bool} (h_est : m .est = true) (h_evlog : m .evlog = true) (h_irq : m .irq = true) (x0 : State) :
    State.blank m (State.markWarn x0) = State.blank m x0 := by
  unfold State.markWarn
  repeat' first
    | simp only [h_est, h_evlog, h_irq, State.event_in, State.modEst_in, blank_ite, ite_self, forEach_in, implies_true]
    | refine forEach_next (fun _ _ => ?_) ?_
    | split

theorem State.resumeEstimator_in {m : Part → Bool} (h_bal : m .bal = true) (h_corr : m .corr = true) (h_est : m .est = true) (h_evlog : m .evlog =
    true) (h_irq : m .irq = true) (h_store : m .store = true) (x0 : State) :
    State.blank m (State.resumeEstimator x0) = State.blank m x0 := by
  unfold State.resumeEstimator
  repeat' first
    | simp only [h_bal, h_corr, h_est, h_evlog, h_irq, h_store, State.selectLearned_in, State.markWarn_in, State.event_in, State.modEst_in,
        blank_ite, ite_self, forEach_in, implies_true]
    | refine forEach_next (fun _ _ => ?_) ?_
    | split

theorem State.processorRestart_in {m : Part → Bool} (h_heldReq : m .heldReq = true) (h_waitingWrites : m .waitingWrites = true) (h_fc : m .fc =
    true) (h_health : m .health = true) (h_evlog : m .evlog = true) (h_start : m .start = true) (h_gates : m .gates = true) (h_belay : m .belay =
    true) (h_io : m .io = true) (h_bal : m .bal = true) (h_est : m .est = true) (h_dict : m .dict = true) (h_seng : m .seng = true) (h_irq : m .irq
    = true) (h_banks : m .banks = true) (h_mode : m .mode = true) (h_supply : m .supply = true) (h_cores : m .cores = true) (h_strs : m .strs =
    true) (h_gateBlock : m .gateBlock = true) (h_bstr : m .bstr = true) (h_therm : m .therm = true) (h_cans : m .cans = true) (h_ropes : m .ropes =
    true) (h_trav : m .trav = true) (h_eths : m .eths = true) (h_stream : m .stream = true) (h_clock : m .clock = true) (h_corr : m .corr = true)
    (h_store : m .store = true) (h_utcBase : m .utcBase = true) (h_utcAt : m .utcAt = true) (h_records : m .records = true) (h_values : m .values =
    true) (x0 : State) (x1 : ProcCause) :
    State.blank m (State.processorRestart x0 x1) = State.blank m x0 := by
  have e0 (u : State) a0 a1 : State.blank m { u with heldReq := a0, waitingWrites := a1 } = State.blank m u := by
    simp only [State.blank, h_heldReq, h_waitingWrites, if_true]
  unfold State.processorRestart
  repeat' first
    | simp only [h_heldReq, h_waitingWrites, h_fc, h_health, h_evlog, h_start, h_gates, h_belay, h_io, h_bal, h_est, h_dict, h_seng, h_irq, h_banks,
        h_mode, h_supply, h_cores, h_strs, h_gateBlock, h_bstr, h_therm, h_cans, h_ropes, h_trav, h_eths, h_stream, h_clock, h_corr, h_store,
        h_utcBase, h_utcAt, h_records, h_values, State.modStr_in, State.modStart_in, State.resumeEstimator_in, State.countFault_in,
        State.escalate_in, State.modSeng_in, State.event_in, State.modBal_in, State.modDict_in, State.modDict_values_in, e0, blank_ite, ite_self,
        forEach_in, implies_true]
    | refine forEach_next (fun _ _ => ?_) ?_
    | split

theorem State.applyResetRequest_in {m : Part → Bool} (h_start : m .start = true) (h_store : m .store = true) (h_evlog : m .evlog = true) (h_irq :
    m .irq = true) (x0 : State) (x1 : Nat) :
    State.blank m (State.applyResetRequest x0 x1) = State.blank m x0 := by
  unfold State.applyResetRequest
  repeat' first
    | simp only [h_start, h_store, h_evlog, h_irq, State.modStart_in, State.writeBack_in, blank_ite, ite_self, implies_true]
    | split

theorem State.sealedReset_in {m : Part → Bool} (h_start : m .start = true) (h_evlog : m .evlog = true) (h_irq : m .irq = true) (h_seng : m .seng
    = true) (h_dict : m .dict = true) (h_eths : m .eths = true) (h_store : m .store = true) (h_cans : m .cans = true) (x0 : State) (x1 :
    SealHead) (x2 : Nat) :
    State.blank m (State.sealedReset x0 x1 x2) = State.blank m x0 := by
  exact State.sealedVia_in h_evlog h_irq h_seng h_dict h_eths h_cans _ _ _ fun u => State.applyResetRequest_in h_start h_store h_evlog h_irq u _

theorem State.storeCounters_in {m : Part → Bool} (h_dict : m .dict = true) (h_seng : m .seng = true) (h_irq : m .irq = true) (x0 : State) :
    State.blank m (State.storeCounters x0) = State.blank m x0 := by
  unfold State.storeCounters
  repeat' first
    | simp only [h_dict, h_seng, h_irq, State.storeCfg_in, State.modSeng_in, blank_ite, ite_self, forEach_in, implies_true]
    | refine forEach_next (fun _ _ => ?_) ?_
    | split

theorem State.measureHoldup_in {m : Part → Bool} (h_supply : m .supply = true) (h_evlog : m .evlog = true) (h_irq : m .irq = true) (x0 : State)
    (x1 : Nat) :
    State.blank m (State.measureHoldup x0 x1) = State.blank m x0 := by
  unfold State.measureHoldup
  repeat' first
    | simp only [h_supply, h_evlog, h_irq, State.modSupply_in, State.event_in, blank_ite, ite_self, implies_true]
    | split

theorem State.rebase_in {m : Part → Bool} (h_clock : m .clock = true) (h_utcBase : m .utcBase = true) (h_utcAt : m .utcAt = true) (x0 : State) :
    State.blank m (State.rebase x0) = State.blank m x0 := by
  unfold State.rebase
  repeat' first
    | simp only [h_clock, h_utcBase, h_utcAt, State.modClock_in, State.settleCalendar_in, blank_ite, ite_self, implies_true]
    | split

theorem State.setCalendar_in {m : Part → Bool} (h_utcBase : m .utcBase = true) (h_utcAt : m .utcAt = true) (h_clock : m .clock = true) (x0 :
    State) (x1 : Nat) :
    State.blank m (State.setCalendar x0 x1) = State.blank m x0 := by
  have e (u : State) a b : State.blank m { u with utcBase := a, utcAt := b } = State.blank m u := by
    simp only [State.blank, h_utcBase, h_utcAt, h_clock, if_true]
  exact (State.modClock_in h_clock _ _).trans (e _ _ _)

theorem State.toRtc_in {m : Part → Bool} (h_clock : m .clock = true) (h_evlog : m .evlog = true) (h_irq : m .irq = true) (h_utcBase : m .utcBase
    = true) (h_utcAt : m .utcAt = true) (x0 : State) :
    State.blank m (State.toRtc x0) = State.blank m x0 := by
  unfold State.toRtc
  repeat' first
    | simp only [h_clock, h_evlog, h_irq, h_utcBase, h_utcAt, State.modClock_in, State.event_in, State.rebase_in, blank_ite, ite_self, implies_true]
    | split

theorem State.takeSource_in {m : Part → Bool} (h_clock : m .clock = true) (h_evlog : m .evlog = true) (h_irq : m .irq = true) (h_utcBase : m
    .utcBase = true) (h_utcAt : m .utcAt = true) (x0 : State) :
    State.blank m (State.takeSource x0) = State.blank m x0 := by
  unfold State.takeSource
  repeat' first
    | simp only [h_clock, h_evlog, h_irq, h_utcBase, h_utcAt, State.modClock_in, State.rebase_in, State.event_in, State.setCalendar_in,
        blank_ite, ite_self, implies_true]
    | split

theorem State.modPort_in {m : Part → Bool} (h_ropes : m .ropes = true) (x0 : State) (x1 : Nat) (x2 : Port → Port) :
    State.blank m (State.modPort x0 x1 x2) = State.blank m x0 := by
  unfold State.modPort
  repeat' first
    | simp only [h_ropes, State.modRope_in, blank_ite, ite_self, implies_true]
    | split

theorem State.storeLater_in {m : Part → Bool} (h_health : m .health = true) (h_dict : m .dict = true) (h_irq : m .irq = true) (x0 : State) :
    State.blank m (State.storeLater x0) = State.blank m x0 := by
  unfold State.storeLater
  repeat' first
    | simp only [h_health, h_dict, h_irq, State.modHealth_in, State.storeCfg_in, blank_ite, ite_self, forEach_in, implies_true]
    | refine forEach_next (fun _ _ => ?_) ?_
    | split

theorem State.remapRow_in {m : Part → Bool} (h_health : m .health = true) (h_evlog : m .evlog = true) (h_irq : m .irq = true) (h_dict : m .dict =
    true) (x0 : State) (x1 : Nat) :
    State.blank m (State.remapRow x0 x1) = State.blank m x0 := by
  unfold State.remapRow
  repeat' first
    | simp only [h_health, h_evlog, h_irq, h_dict, State.modHealth_in, State.storeLater_in, State.event_in, State.irqRaise_in, blank_ite,
        ite_self, implies_true]
    | split

theorem State.retireBlock_in {m : Part → Bool} (h_evlog : m .evlog = true) (h_health : m .health = true) (h_irq : m .irq = true) (x0 : State) (x1
    : Nat) :
    State.blank m (State.retireBlock x0 x1) = State.blank m x0 := by
  unfold State.retireBlock
  repeat' first
    | simp only [h_evlog, h_health, h_irq, State.modHealth_in, State.event_in, State.irqRaise_in, blank_set_evlog, blank_ite, ite_self, implies_true]
    | split

theorem State.oscFailover_in {m : Part → Bool} (h_trav : m .trav = true) (h_start : m .start = true) (h_health : m .health = true) (h_evlog : m
    .evlog = true) (h_irq : m .irq = true) (h_dict : m .dict = true) (x0 : State) :
    State.blank m (State.oscFailover x0) = State.blank m x0 := by
  unfold State.oscFailover
  repeat' first
    | simp only [h_trav, h_start, h_health, h_evlog, h_irq, h_dict, State.modTrav_in, State.modStart_in, State.modHealth_in, State.storeLater_in,
        State.event_in, State.irqRaise_in, blank_ite, ite_self, implies_true]
    | split

theorem State.lastingAction_in {m : Part → Bool} (h_cores : m .cores = true) (h_ropes : m .ropes = true) (h_banks : m .banks = true) (h_strs : m
    .strs = true) (h_evlog : m .evlog = true) (h_irq : m .irq = true) (h_health : m .health = true) (h_trav : m .trav = true) (h_start : m .start
    = true) (h_gates : m .gates = true) (h_belay : m .belay = true) (h_io : m .io = true) (h_mode : m .mode = true) (h_dict : m .dict = true)
    (h_fc : m .fc = true) (h_supply : m .supply = true) (h_gateBlock : m .gateBlock = true) (h_bstr : m .bstr = true) (h_seng : m .seng = true)
    (h_therm : m .therm = true) (h_cans : m .cans = true) (h_bal : m .bal = true) (h_eths : m .eths = true) (h_stream : m .stream = true)
    (h_clock : m .clock = true) (h_corr : m .corr = true) (h_est : m .est = true) (h_store : m .store = true) (h_heldReq : m .heldReq = true)
    (h_waitingWrites : m .waitingWrites = true) (h_utcBase : m .utcBase = true) (h_utcAt : m .utcAt = true) (h_records : m .records = true)
    (h_values : m .values = true) (x0 : State) (x1 : Fin 16) (x2 : Nat) :
    State.blank m (State.lastingAction x0 x1 x2) = State.blank m x0 := by
  unfold State.lastingAction
  repeat' first
    | simp only [h_cores, h_ropes, h_banks, h_strs, h_evlog, h_irq, h_health, h_trav, h_start, h_gates, h_belay, h_io, h_mode, h_dict, h_fc,
        h_supply, h_gateBlock, h_bstr, h_seng, h_therm, h_cans, h_bal, h_eths, h_stream, h_clock, h_corr, h_est, h_store, h_heldReq,
        h_waitingWrites, h_utcBase, h_utcAt, h_records, h_values, State.modPort_in, State.settleBank_in, State.latchCauses_in, State.event_in,
        State.modHealth_in, State.remapRow_in, State.retireBlock_in, State.oscFailover_in, State.escalate_in, blank_set_cores, blank_ite,
        ite_self, implies_true]
    | split

theorem State.occurrence_in {m : Part → Bool} (h_fc : m .fc = true) (h_health : m .health = true) (h_evlog : m .evlog = true) (h_cores : m .cores
    = true) (h_irq : m .irq = true) (h_ropes : m .ropes = true) (h_banks : m .banks = true) (h_strs : m .strs = true) (h_trav : m .trav = true)
    (h_start : m .start = true) (h_gates : m .gates = true) (h_belay : m .belay = true) (h_io : m .io = true) (h_mode : m .mode = true) (h_dict :
    m .dict = true) (h_supply : m .supply = true) (h_gateBlock : m .gateBlock = true) (h_bstr : m .bstr = true) (h_seng : m .seng = true)
    (h_therm : m .therm = true) (h_cans : m .cans = true) (h_bal : m .bal = true) (h_eths : m .eths = true) (h_stream : m .stream = true)
    (h_clock : m .clock = true) (h_corr : m .corr = true) (h_est : m .est = true) (h_store : m .store = true) (h_heldReq : m .heldReq = true)
    (h_waitingWrites : m .waitingWrites = true) (h_utcBase : m .utcBase = true) (h_utcAt : m .utcAt = true) (h_records : m .records = true)
    (h_values : m .values = true) (x0 : State) (x1 : Fin 16) (x2 : Nat) :
    State.blank m (State.occurrence x0 x1 x2) = State.blank m x0 := by
  unfold State.occurrence
  repeat' first
    | simp only [h_fc, h_health, h_evlog, h_cores, h_irq, h_ropes, h_banks, h_strs, h_trav, h_start, h_gates, h_belay, h_io, h_mode, h_dict,
        h_supply, h_gateBlock, h_bstr, h_seng, h_therm, h_cans, h_bal, h_eths, h_stream, h_clock, h_corr, h_est, h_store, h_heldReq,
        h_waitingWrites, h_utcBase, h_utcAt, h_records, h_values, State.countFault_in, State.lastingAction_in, blank_ite, ite_self, implies_true]
    | split

theorem State.formSame_in {m : Part → Bool} (h_cores : m .cores = true) (h_evlog : m .evlog = true) (h_irq : m .irq = true) (x0 : State) :
    State.blank m (State.formSame x0) = State.blank m x0 := by
  unfold State.formSame
  repeat' first
    | simp only [h_cores, h_evlog, h_irq, State.event_in, blank_set_cores, blank_ite, ite_self, implies_true]
    | split

theorem State.swapCore_in {m : Part → Bool} (h_cores : m .cores = true) (h_start : m .start = true) (h_health : m .health = true) (h_evlog : m
    .evlog = true) (h_fc : m .fc = true) (h_irq : m .irq = true) (x0 : State) (x1 : Fin 3) (x2 : Fin 3) :
    State.blank m (State.swapCore x0 x1 x2) = State.blank m x0 := by
  unfold State.swapCore
  repeat' first
    | simp only [h_cores, h_start, h_health, h_evlog, h_fc, h_irq, State.modStart_in, State.modHealth_in, State.event_in, State.clearWindow_in,
        blank_set_cores, blank_ite, ite_self, implies_true]
    | split

theorem State.decideHeld_in {m : Part → Bool} (h_strs : m .strs = true) (h_evlog : m .evlog = true) (h_banks : m .banks = true) (h_irq : m .irq =
    true) (h_gates : m .gates = true) (h_seng : m .seng = true) (h_dict : m .dict = true) (h_io : m .io = true) (h_mode : m .mode = true) (h_eths :
    m .eths = true) (h_cans : m .cans = true) (x0 : State) :
    State.blank m (State.decideHeld x0) = State.blank m x0 := by
  unfold State.decideHeld
  repeat' first
    | simp only [h_strs, h_evlog, h_banks, h_irq, h_gates, h_seng, h_dict, h_io, h_mode, h_eths, h_cans, State.decideEnergise_in,
        State.finishAction_in, State.settleBank_in, State.decideClose_in, State.refuseQ_in, State.refuseClose_in, blank_ite, ite_self, forEach_in,
        implies_true]
    | refine forEach_next (fun _ _ => ?_) ?_
    | split

theorem State.dmaError_in {m : Part → Bool} (h_trav : m .trav = true) (h_evlog : m .evlog = true) (h_irq : m .irq = true) (x0 : State) (x1 : Nat) :
    State.blank m (State.dmaError x0 x1) = State.blank m x0 := by
  unfold State.dmaError
  repeat' first
    | simp only [h_trav, h_evlog, h_irq, State.modTrav_in, State.event_in, State.irqRaise_in, blank_ite, ite_self, implies_true]
    | split

theorem State.slowDmaError_in {m : Part → Bool} (h_evlog : m .evlog = true) (h_irq : m .irq = true) (h_trav : m .trav = true) (x0 : State) (x1 :
    Nat) :
    State.blank m (State.slowDmaError x0 x1) = State.blank m x0 := by
  unfold State.slowDmaError
  repeat' first
    | simp only [h_evlog, h_irq, h_trav, State.event_in, State.irqRaise_in, State.modTrav_in, blank_ite, ite_self, forEach_in, implies_true]
    | refine forEach_next (fun _ _ => ?_) ?_
    | split

theorem State.sramError_in {m : Part → Bool} (h_health : m .health = true) (h_irq : m .irq = true) (h_heldReq : m .heldReq = true) (h_waitingWrites
    : m .waitingWrites = true) (h_fc : m .fc = true) (h_evlog : m .evlog = true) (h_cores : m .cores = true) (h_start : m .start = true) (h_gates :
    m .gates = true) (h_belay : m .belay = true) (h_io : m .io = true) (h_bal : m .bal = true) (h_est : m .est = true) (h_dict : m .dict = true)
    (h_seng : m .seng = true) (h_trav : m .trav = true) (h_ropes : m .ropes = true) (h_banks : m .banks = true) (h_strs : m .strs = true) (h_mode :
    m .mode = true) (h_supply : m .supply = true) (h_gateBlock : m .gateBlock = true) (h_bstr : m .bstr = true) (h_therm : m .therm = true) (h_cans
    : m .cans = true) (h_eths : m .eths = true) (h_stream : m .stream = true) (h_clock : m .clock = true) (h_corr : m .corr = true) (h_store : m
    .store = true) (h_utcBase : m .utcBase = true) (h_utcAt : m .utcAt = true) (h_records : m .records = true) (h_values : m .values = true) (x0 :
    State) (x1 : Nat) (x2 : Bool) (x3 : SramOwner) :
    State.blank m (State.sramError x0 x1 x2 x3) = State.blank m x0 := by
  unfold State.sramError
  repeat' first
    | simp only [h_health, h_irq, h_heldReq, h_waitingWrites, h_fc, h_evlog, h_cores, h_start, h_gates, h_belay, h_io, h_bal, h_est, h_dict, h_seng,
        h_trav, h_ropes, h_banks, h_strs, h_mode, h_supply, h_gateBlock, h_bstr, h_therm, h_cans, h_eths, h_stream, h_clock, h_corr, h_store,
        h_utcBase, h_utcAt, h_records, h_values, State.slowDmaError_in, State.irqRaise_in, State.processorRestart_in, State.modEst_in,
        State.modTrav_in, State.dmaError_in, State.occurrence_in, blank_set_health, blank_ite, ite_self, forEach_in, implies_true]
    | refine forEach_next (fun _ _ => ?_) ?_
    | split

theorem State.oscLost_in {m : Part → Bool} (h_fc : m .fc = true) (h_evlog : m .evlog = true) (h_irq : m .irq = true) (h_health : m .health =
    true) (h_trav : m .trav = true) (h_start : m .start = true) (h_dict : m .dict = true) (x0 : State) :
    State.blank m (State.oscLost x0) = State.blank m x0 := by
  unfold State.oscLost
  repeat' first
    | simp only [h_fc, h_evlog, h_irq, h_health, h_trav, h_start, h_dict, State.event_in, State.modHealth_in, State.clearWindow_in,
        State.oscFailover_in, blank_set_fc, blank_ite, ite_self, implies_true]
    | split

theorem State.applyPhyRestore_in {m : Part → Bool} (h_evlog : m .evlog = true) (h_fc : m .fc = true) (h_irq : m .irq = true) (h_ropes : m .ropes
    = true) (x0 : State) (x1 : Nat) :
    AppliedIn m x0 (State.applyPhyRestore x0 x1) := by
  unfold State.applyPhyRestore
  repeat' first
    | simp only [h_evlog, h_fc, h_irq, h_ropes, State.event_in, State.clearWindow_in, State.modPort_in, appliedIn_ok, appliedIn_error, blank_ite,
        ite_self, implies_true]
    | split

theorem State.applyHealthClear_in {m : Part → Bool} (h_evlog : m .evlog = true) (h_irq : m .irq = true) (h_fc : m .fc = true) (h_health : m
    .health = true) (x0 : State) :
    State.blank m (State.applyHealthClear x0) = State.blank m x0 := by
  unfold State.applyHealthClear
  repeat' first
    | simp only [h_evlog, h_irq, h_fc, h_health, State.event_in, State.clearWindow_in, State.modHealth_in, blank_ite, ite_self, implies_true]
    | split

theorem State.modeRefused_in {m : Part → Bool} (h_mode : m .mode = true) (h_evlog : m .evlog = true) (h_irq : m .irq = true) (x0 : State) (x1 :
    Nat) (x2 : Nat) :
    AppliedIn m x0 (State.modeRefused x0 x1 x2) := by
  unfold State.modeRefused
  repeat' first
    | simp only [h_mode, h_evlog, h_irq, State.event_in, State.irqRaise_in, blank_set_mode, appliedIn_ok, appliedIn_error, blank_ite, ite_self,
        implies_true]
    | split

theorem State.disarm_in {m : Part → Bool} (h_mode : m .mode = true) (h_evlog : m .evlog = true) (h_irq : m .irq = true) (h_strs : m .strs = true)
    (h_banks : m .banks = true) (h_gates : m .gates = true) (h_io : m .io = true) (x0 : State) :
    State.blank m (State.disarm x0) = State.blank m x0 := by
  unfold State.disarm
  repeat' first
    | simp only [h_mode, h_evlog, h_irq, h_strs, h_banks, h_gates, h_io, State.sOff_in, State.setBlock_in, State.openBank_in, blank_ite,
        ite_self, forEach_in, implies_true]
    | refine forEach_next (fun _ _ => ?_) ?_
    | split

theorem State.applyBlockState_in {m : Part → Bool} (h_mode : m .mode = true) (h_evlog : m .evlog = true) (h_irq : m .irq = true) (h_strs : m
    .strs = true) (h_banks : m .banks = true) (h_gates : m .gates = true) (h_io : m .io = true) (x0 : State) (x1 : Nat) :
    AppliedIn m x0 (State.applyBlockState x0 x1) := by
  unfold State.applyBlockState
  repeat' first
    | simp only [h_mode, h_evlog, h_irq, h_strs, h_banks, h_gates, h_io, State.disarm_in, State.setBlock_in, State.modeRefused_in, appliedIn_ok,
        appliedIn_error, blank_ite, ite_self, implies_true]
    | split

theorem State.requestBlock_in {m : Part → Bool} (h_waitingWrites : m .waitingWrites = true) (h_dict : m .dict = true) (h_evlog : m .evlog = true)
    (h_irq : m .irq = true) (h_mode : m .mode = true) (h_seng : m .seng = true) (h_eths : m .eths = true) (h_cans : m .cans = true) (h_strs : m
    .strs = true) (h_banks : m .banks = true) (h_gates : m .gates = true) (h_io : m .io = true) (x0 : State) (x1 : Src) (x2 : Nat) :
    State.blank m (State.requestBlock x0 x1 x2) = State.blank m x0 := by
  exact State.writeVia_in h_waitingWrites h_dict h_evlog h_irq h_seng h_eths h_cans _ _ _ _ _ _ _ _
    (fun _ u => State.applyBlockState_in h_mode h_evlog h_irq h_strs h_banks h_gates h_io u _) fun _ => rfl

theorem State.portEvent_in {m : Part → Bool} (h_evlog : m .evlog = true) (h_irq : m .irq = true) (x0 : State) (x1 : Fin 40) (x2 : PortEnd) (x3 :
    Nat) (x4 : Nat) (x5 : optParam (List Byte) []) :
    State.blank m (State.portEvent x0 x1 x2 x3 x4 x5) = State.blank m x0 := by
  unfold State.portEvent
  repeat' first
    | simp only [h_evlog, h_irq, State.event_in, State.irqRaise_in, blank_ite, ite_self, implies_true]
    | split

theorem State.countPos_in {m : Part → Bool} (h_ropes : m .ropes = true) (x0 : State) (x1 : Fin 40) (x2 : Nat) (x3 : Nat) :
    State.blank m (State.countPos x0 x1 x2 x3) = State.blank m x0 := by
  unfold State.countPos
  repeat' first
    | simp only [h_ropes, State.modRope_in, blank_ite, ite_self, implies_true]
    | split

theorem State.countFailure_in {m : Part → Bool} (h_fc : m .fc = true) (h_health : m .health = true) (h_evlog : m .evlog = true) (h_cores : m
    .cores = true) (h_irq : m .irq = true) (h_ropes : m .ropes = true) (h_banks : m .banks = true) (h_strs : m .strs = true) (h_trav : m .trav =
    true) (h_start : m .start = true) (h_gates : m .gates = true) (h_belay : m .belay = true) (h_io : m .io = true) (h_mode : m .mode = true)
    (h_dict : m .dict = true) (h_supply : m .supply = true) (h_gateBlock : m .gateBlock = true) (h_bstr : m .bstr = true) (h_seng : m .seng =
    true) (h_therm : m .therm = true) (h_cans : m .cans = true) (h_bal : m .bal = true) (h_eths : m .eths = true) (h_stream : m .stream = true)
    (h_clock : m .clock = true) (h_corr : m .corr = true) (h_est : m .est = true) (h_store : m .store = true) (h_heldReq : m .heldReq = true)
    (h_waitingWrites : m .waitingWrites = true) (h_utcBase : m .utcBase = true) (h_utcAt : m .utcAt = true) (h_records : m .records = true)
    (h_values : m .values = true) (x0 : State) (x1 : Fin 40) (x2 : PortEnd) (x3 : Nat) (x4 : Bool) :
    State.blank m (State.countFailure x0 x1 x2 x3 x4) = State.blank m x0 := by
  unfold State.countFailure
  repeat' first
    | simp only [h_fc, h_health, h_evlog, h_cores, h_irq, h_ropes, h_banks, h_strs, h_trav, h_start, h_gates, h_belay, h_io, h_mode, h_dict,
        h_supply, h_gateBlock, h_bstr, h_seng, h_therm, h_cans, h_bal, h_eths, h_stream, h_clock, h_corr, h_est, h_store, h_heldReq,
        h_waitingWrites, h_utcBase, h_utcAt, h_records, h_values, State.occurrence_in, blank_ite, ite_self, implies_true]
    | split

theorem State.queueFar_in {m : Part → Bool} (h_ropes : m .ropes = true) (h_irq : m .irq = true) (x0 : State) (x1 : Fin 40) (x2 : PortEnd) (x3 : Nat)
    :
    State.blank m (State.queueFar x0 x1 x2 x3) = State.blank m x0 := by
  unfold State.queueFar
  repeat' first
    | simp only [h_ropes, h_irq, State.irqRaise_in, State.modRope_in, blank_ite, ite_self, forEach_in, implies_true]
    | refine forEach_next (fun _ _ => ?_) ?_
    | split

theorem State.noteMissing_in {m : Part → Bool} (h_ropes : m .ropes = true) (h_irq : m .irq = true) (x0 : State) (x1 : Fin 40) (x2 : PortEnd) (x3 :
    Nat) :
    State.blank m (State.noteMissing x0 x1 x2 x3) = State.blank m x0 := by
  unfold State.noteMissing
  repeat' first
    | simp only [h_ropes, h_irq, State.queueFar_in, State.modEnd_in, blank_ite, ite_self, forEach_in, implies_true]
    | refine forEach_next (fun _ _ => ?_) ?_
    | split

theorem State.noteShort_in {m : Part → Bool} (h_ropes : m .ropes = true) (h_evlog : m .evlog = true) (h_irq : m .irq = true) (x0 : State) (x1 :
    Fin 40) :
    State.blank m (State.noteShort x0 x1) = State.blank m x0 := by
  unfold State.noteShort
  repeat' first
    | simp only [h_ropes, h_evlog, h_irq, State.modRope_in, State.portEvent_in, blank_ite, ite_self, implies_true]
    | split

theorem State.predict_in {m : Part → Bool} (h_ropes : m .ropes = true) (x0 : State) (x1 : Fin 40) (x2 : List Nat) :
    State.blank m (State.predict x0 x1 x2) = State.blank m x0 := by
  unfold State.predict
  repeat' first
    | simp only [h_ropes, State.modRope_in, blank_ite, ite_self, forEach_in, implies_true]
    | refine forEach_next (fun _ _ => ?_) ?_
    | split

theorem State.addCast_in {m : Part → Bool} (h_ropes : m .ropes = true) (x0 : State) (x1 : Fin 40) (x2 : PortEnd) (x3 : Cast) :
    State.blank m (State.addCast x0 x1 x2 x3) = State.blank m x0 := by
  unfold State.addCast
  repeat' first
    | simp only [h_ropes, State.modEnd_in, blank_ite, ite_self, forEach_in, implies_true]
    | refine forEach_next (fun _ _ => ?_) ?_
    | split

theorem State.sendServe_in {m : Part → Bool} (h_ropes : m .ropes = true) (x0 : State) (x1 : Fin 40) (x2 : PortEnd) (x3 : Bool) (x4 : List Nat) :
    State.blank m (State.sendServe x0 x1 x2 x3 x4) = State.blank m x0 := by
  unfold State.sendServe
  repeat' first
    | simp only [h_ropes, State.modEnd_in, State.addCast_in, blank_ite, ite_self, forEach_in, implies_true]
    | refine forEach_next (fun _ _ => ?_) ?_
    | split

theorem State.realign_in {m : Part → Bool} (h_ropes : m .ropes = true) (h_evlog : m .evlog = true) (h_irq : m .irq = true) (x0 : State) (x1 : Fin
    40) :
    State.blank m (State.realign x0 x1) = State.blank m x0 := by
  unfold State.realign
  repeat' first
    | simp only [h_ropes, h_evlog, h_irq, State.modEnd_in, State.portEvent_in, State.modRope_in, blank_ite, ite_self, forEach_in, implies_true]
    | refine forEach_next (fun _ _ => ?_) ?_
    | split

theorem State.serveMode_in {m : Part → Bool} (h_evlog : m .evlog = true) (h_irq : m .irq = true) (h_ropes : m .ropes = true) (x0 : State) (x1 : Fin
    40) (x2 : RopeMode) (x3 : Option Nat) (x4 : Option Nat) :
    State.blank m (State.serveMode x0 x1 x2 x3 x4) = State.blank m x0 := by
  unfold State.serveMode
  repeat' first
    | simp only [h_evlog, h_irq, h_ropes, State.sendServe_in, State.realign_in, State.modRope_in, blank_ite, ite_self, forEach_in, implies_true]
    | refine forEach_next (fun _ _ => ?_) ?_
    | split

theorem State.noteMode_in {m : Part → Bool} (h_evlog : m .evlog = true) (h_irq : m .irq = true) (h_ropes : m .ropes = true) (x0 : State) (x1 : Fin
    40) (x2 : Rope) :
    State.blank m (State.noteMode x0 x1 x2) = State.blank m x0 := by
  unfold State.noteMode
  repeat' first
    | simp only [h_evlog, h_irq, h_ropes, State.noteShort_in, State.portEvent_in, blank_ite, ite_self, forEach_in, implies_true]
    | refine forEach_next (fun _ _ => ?_) ?_
    | split

theorem State.setRopeMode_in {m : Part → Bool} (h_ropes : m .ropes = true) (h_evlog : m .evlog = true) (h_irq : m .irq = true) (x0 : State) (x1 :
    Fin 40) (x2 : RopeMode) (x3 : Option Nat) (x4 : Option Nat) :
    State.blank m (State.setRopeMode x0 x1 x2 x3 x4) = State.blank m x0 := by
  unfold State.setRopeMode
  repeat' first
    | simp only [h_ropes, h_evlog, h_irq, State.serveMode_in, State.noteMode_in, blank_ite, ite_self, forEach_in, implies_true]
    | refine forEach_next (fun _ _ => ?_) ?_
    | split

theorem State.refuseRope_in {m : Part → Bool} (h_irq : m .irq = true) (h_evlog : m .evlog = true) (x0 : State) (x1 : Fin 40) (x2 : Nat) :
    State.blank m (State.refuseRope x0 x1 x2) = State.blank m x0 := by
  unfold State.refuseRope
  repeat' first
    | simp only [h_irq, h_evlog, State.irqRaise_in, State.event_in, blank_ite, ite_self, implies_true]
    | split

theorem State.noteBreak_in {m : Part → Bool} (h_ropes : m .ropes = true) (h_evlog : m .evlog = true) (h_irq : m .irq = true) (x0 : State) (x1 :
    Fin 40) (x2 : PortEnd) (x3 : Option Nat) (x4 : Option Nat) :
    State.blank m (State.noteBreak x0 x1 x2 x3 x4) = State.blank m x0 := by
  unfold State.noteBreak
  repeat' first
    | simp only [h_ropes, h_evlog, h_irq, State.portEvent_in, State.modRope_in, blank_ite, ite_self, implies_true]
    | split

theorem State.continuityDone_in {m : Part → Bool} (h_ropes : m .ropes = true) (h_evlog : m .evlog = true) (h_irq : m .irq = true) (x0 : State)
    (x1 : Fin 40) (x2 : PortEnd) (x3 : Bool) :
    State.blank m (State.continuityDone x0 x1 x2 x3) = State.blank m x0 := by
  unfold State.continuityDone
  repeat' first
    | simp only [h_ropes, h_evlog, h_irq, State.modRope_in, State.portEvent_in, blank_ite, ite_self, implies_true]
    | split

theorem State.echoReply_in {m : Part → Bool} (h_ropes : m .ropes = true) (h_evlog : m .evlog = true) (h_irq : m .irq = true) (x0 : State) (x1 : Fin
    40) (x2 : PortEnd) (x3 : Nat) (x4 : Nat) :
    State.blank m (State.echoReply x0 x1 x2 x3 x4) = State.blank m x0 := by
  unfold State.echoReply
  repeat' first
    | simp only [h_ropes, h_evlog, h_irq, State.sendServe_in, State.modEnd_in, State.event_in, blank_ite, ite_self, forEach_in, implies_true]
    | refine forEach_next (fun _ _ => ?_) ?_
    | split

theorem State.announcePort_in {m : Part → Bool} (h_dict : m .dict = true) (h_irq : m .irq = true) (h_eths : m .eths = true) (h_cans : m .cans =
    true) (x0 : State) (x1 : Fin 2) :
    State.blank m (State.announcePort x0 x1) = State.blank m x0 := by
  unfold State.announcePort
  repeat' first
    | simp only [h_dict, h_irq, h_eths, h_cans, State.send_in, blank_ite, ite_self, implies_true]
    | split

theorem State.ethApply_in {m : Part → Bool} (h_dict : m .dict = true) (h_eths : m .eths = true) (h_evlog : m .evlog = true) (h_irq : m .irq =
    true) (h_cans : m .cans = true) (x0 : State) :
    State.blank m (State.ethApply x0) = State.blank m x0 := by
  unfold State.ethApply
  repeat' first
    | simp only [h_dict, h_eths, h_evlog, h_irq, h_cans, State.modDict_in, State.modEth_in, State.event_in, State.announcePort_in, blank_ite,
        ite_self, forEach_in, implies_true]
    | refine forEach_next (fun _ _ => ?_) ?_
    | split

theorem State.noteStream_in {m : Part → Bool} (h_stream : m .stream = true) (h_evlog : m .evlog = true) (h_irq : m .irq = true) (x0 : State) :
    State.blank m (State.noteStream x0) = State.blank m x0 := by
  unfold State.noteStream
  repeat' first
    | simp only [h_stream, h_evlog, h_irq, State.modStream_in, State.event_in, blank_ite, ite_self, implies_true]
    | split

theorem State.selectSource_in {m : Part → Bool} (h_clock : m .clock = true) (x0 : State) :
    State.blank m (State.selectSource x0) = State.blank m x0 := by
  unfold State.selectSource
  repeat' first
    | simp only [h_clock, State.modClock_in, blank_ite, ite_self, implies_true]
    | split

theorem State.noteSources_in {m : Part → Bool} (h_clock : m .clock = true) (x0 : State) :
    State.blank m (State.noteSources x0) = State.blank m x0 := by
  unfold State.noteSources
  repeat' first
    | simp only [h_clock, State.modClock_in, State.selectSource_in, blank_ite, ite_self, implies_true]
    | split

theorem State.steer_in {m : Part → Bool} (h_clock : m .clock = true) (h_utcBase : m .utcBase = true) (h_utcAt : m .utcAt = true) (x0 : State) :
    State.blank m (State.steer x0) = State.blank m x0 := by
  unfold State.steer
  repeat' first
    | simp only [h_clock, h_utcBase, h_utcAt, State.modClock_in, State.rebase_in, blank_ite, ite_self, implies_true]
    | split

theorem State.stamp_in {m : Part → Bool} (h_irq : m .irq = true) (x0 : State) :
    State.blank m (State.stamp x0) = State.blank m x0 := by
  unfold State.stamp
  repeat' first
    | simp only [h_irq, State.irqRaise_in, blank_ite, ite_self, implies_true]
    | split

theorem State.ptpEnter_in {m : Part → Bool} (h_clock : m .clock = true) (h_evlog : m .evlog = true) (h_irq : m .irq = true) (x0 : State) (x1 : Nat) :
    State.blank m (State.ptpEnter x0 x1) = State.blank m x0 := by
  unfold State.ptpEnter
  repeat' first
    | simp only [h_clock, h_evlog, h_irq, State.modClock_in, State.event_in, State.noteSources_in, blank_ite, ite_self, implies_true]
    | split

theorem State.ptpRestart_in {m : Part → Bool} (h_clock : m .clock = true) (h_evlog : m .evlog = true) (h_irq : m .irq = true) (x0 : State) :
    State.blank m (State.ptpRestart x0) = State.blank m x0 := by
  unfold State.ptpRestart
  repeat' first
    | simp only [h_clock, h_evlog, h_irq, State.modClock_in, State.ptpEnter_in, blank_ite, ite_self, implies_true]
    | split

theorem State.modMo_in {m : Part → Bool} (h_cans : m .cans = true) (x0 : State) (x1 : Fin 3) (x2 : Nat) (x3 : MsgObj → MsgObj) :
    State.blank m (State.modMo x0 x1 x2 x3) = State.blank m x0 := by
  unfold State.modMo
  repeat' first
    | simp only [h_cans, State.modCan_in, blank_ite, ite_self, implies_true]
    | split

theorem State.setMoData_in {m : Part → Bool} (h_dict : m .dict = true) (h_values : m .values = true) (h_cans : m .cans = true) (x0 : State) (x1 :
    Fin 3) (x2 : Nat) (x3 : List Byte) :
    State.blank m (State.setMoData x0 x1 x2 x3) = State.blank m x0 := by
  unfold State.setMoData
  repeat' first
    | simp only [h_dict, h_values, h_cans, State.setVal_in, State.modMo_in, blank_ite, ite_self, implies_true]
    | split

theorem State.writeMo_in {m : Part → Bool} (h_cans : m .cans = true) (h_dict : m .dict = true) (h_values : m .values = true) (x0 : State) (x1 :
    Fin 3) (x2 : Nat) (x3 : List Byte) :
    State.blank m (State.writeMo x0 x1 x2 x3) = State.blank m x0 := by
  unfold State.writeMo
  repeat' first
    | simp only [h_cans, h_dict, h_values, State.modMo_in, State.setMoData_in, blank_ite, ite_self, implies_true]
    | split

theorem State.settleMo_in {m : Part → Bool} (h_dict : m .dict = true) (h_values : m .values = true) (h_cans : m .cans = true) (x0 : State) (x1 :
    Fin 3) (x2 : Nat) :
    State.blank m (State.settleMo x0 x1 x2) = State.blank m x0 := by
  unfold State.settleMo
  repeat' first
    | simp only [h_dict, h_values, h_cans, State.setMoData_in, blank_ite, ite_self, implies_true]
    | split

theorem State.cancelled_in {m : Part → Bool} (h_evlog : m .evlog = true) (h_irq : m .irq = true) (h_cans : m .cans = true) (x0 : State) (x1 : Fin
    3) (x2 : Nat) :
    State.blank m (State.cancelled x0 x1 x2) = State.blank m x0 := by
  unfold State.cancelled
  repeat' first
    | simp only [h_evlog, h_irq, h_cans, State.canEvent_in, State.modMo_in, blank_ite, ite_self, implies_true]
    | split

theorem State.cancelMo_in {m : Part → Bool} (h_cans : m .cans = true) (h_evlog : m .evlog = true) (h_irq : m .irq = true) (x0 : State) (x1 : Fin
    3) (x2 : Nat) :
    State.blank m (State.cancelMo x0 x1 x2) = State.blank m x0 := by
  unfold State.cancelMo
  repeat' first
    | simp only [h_cans, h_evlog, h_irq, State.modMo_in, State.cancelled_in, blank_ite, ite_self, implies_true]
    | split

theorem State.requestMo_in {m : Part → Bool} (h_cans : m .cans = true) (x0 : State) (x1 : Fin 3) (x2 : Nat) :
    State.blank m (State.requestMo x0 x1 x2) = State.blank m x0 := by
  unfold State.requestMo
  repeat' first
    | simp only [h_cans, State.modMo_in, blank_ite, ite_self, implies_true]
    | split

theorem State.stopTimetable_in {m : Part → Bool} (h_cans : m .cans = true) (h_clock : m .clock = true) (x0 : State) (x1 : Fin 3) :
    State.blank m (State.stopTimetable x0 x1) = State.blank m x0 := by
  unfold State.stopTimetable
  repeat' first
    | simp only [h_cans, h_clock, State.noteSources_in, State.modCan_in, blank_ite, ite_self, implies_true]
    | split

theorem State.enterBusOff_in {m : Part → Bool} (h_cans : m .cans = true) (h_evlog : m .evlog = true) (h_irq : m .irq = true) (h_dict : m .dict =
    true) (h_values : m .values = true) (h_clock : m .clock = true) (h_io : m .io = true) (h_banks : m .banks = true) (h_gates : m .gates = true)
    (h_strs : m .strs = true) (h_fc : m .fc = true) (h_health : m .health = true) (h_mode : m .mode = true) (x0 : State) (x1 : Fin 3) :
    State.blank m (State.enterBusOff x0 x1) = State.blank m x0 := by
  unfold State.enterBusOff
  repeat' first
    | simp only [h_cans, h_evlog, h_irq, h_dict, h_values, h_clock, h_io, h_banks, h_gates, h_strs, h_fc, h_health, h_mode, State.settleMo_in,
        State.modMo_in, State.cancelled_in, State.modCan_in, State.canEvent_in, State.stopTimetable_in, State.smBusOff_in, blank_ite, ite_self,
        forEach_in, implies_true]
    | refine forEach_next (fun _ _ => ?_) ?_
    | split

theorem State.enterMode_in {m : Part → Bool} (h_cans : m .cans = true) (h_clock : m .clock = true) (x0 : State) (x1 : Fin 3) (x2 : Nat) :
    State.blank m (State.enterMode x0 x1 x2) = State.blank m x0 := by
  unfold State.enterMode
  repeat' first
    | simp only [h_cans, h_clock, State.modCan_in, State.stopTimetable_in, blank_ite, ite_self, forEach_in, implies_true]
    | refine forEach_next (fun _ _ => ?_) ?_
    | split

theorem State.takeMode_in {m : Part → Bool} (h_cans : m .cans = true) (h_clock : m .clock = true) (x0 : State) (x1 : Fin 3) :
    State.blank m (State.takeMode x0 x1) = State.blank m x0 := by
  unfold State.takeMode
  repeat' first
    | simp only [h_cans, h_clock, State.enterMode_in, blank_ite, ite_self, forEach_in, implies_true]
    | refine forEach_next (fun _ _ => ?_) ?_
    | split

theorem State.placeString_in {m : Part → Bool} (h_evlog : m .evlog = true) (h_irq : m .irq = true) (h_strs : m .strs = true) (h_fc : m .fc =
    true) (h_health : m .health = true) (h_gates : m .gates = true) (h_dict : m .dict = true) (h_banks : m .banks = true) (h_mode : m .mode =
    true) (h_io : m .io = true) (x0 : State) (x1 : Fin 40) (x2 : Bool) :
    State.blank m (State.placeString x0 x1 x2) = State.blank m x0 := by
  unfold State.placeString
  repeat' first
    | simp only [h_evlog, h_irq, h_strs, h_fc, h_health, h_gates, h_dict, h_banks, h_mode, h_io, State.setStr_in, State.tripStr_in, blank_ite,
        ite_self, implies_true]
    | split

theorem State.postReport_in {m : Part → Bool} (h_belay : m .belay = true) (h_evlog : m .evlog = true) (h_irq : m .irq = true) (x0 : State) (x1 : BelayReport) :
    State.blank m (State.postReport x0 x1) = State.blank m x0 := by
  unfold State.postReport
  repeat' first
    | simp only [h_belay, h_evlog, h_irq, State.modBelay_in, State.event_in, State.irqRaise_in, blank_ite, ite_self, forEach_in, implies_true]
    | refine forEach_next (fun _ _ => ?_) ?_
    | split

theorem State.setCount_in {m : Part → Bool} (h_belay : m .belay = true) (h_bstr : m .bstr = true) (h_evlog : m .evlog = true) (h_irq : m .irq =
    true) (x0 : State) (x1 : Fin 40) (x2 : Nat) :
    State.blank m (State.setCount x0 x1 x2) = State.blank m x0 := by
  unfold State.setCount
  repeat' first
    | simp only [h_belay, h_bstr, h_evlog, h_irq, State.modBStr_in, State.postReport_in, blank_ite, ite_self, forEach_in, implies_true]
    | refine forEach_next (fun _ _ => ?_) ?_
    | split

theorem State.endExclusion_in {m : Part → Bool} (h_strs : m .strs = true) (h_bstr : m .bstr = true) (h_dict : m .dict = true) (h_values : m .values
    = true) (h_evlog : m .evlog = true) (h_irq : m .irq = true) (h_belay : m .belay = true) (x0 : State) (x1 : Fin 40) (x2 : Bool) :
    State.blank m (State.endExclusion x0 x1 x2) = State.blank m x0 := by
  unfold State.endExclusion
  repeat' first
    | simp only [h_strs, h_bstr, h_dict, h_values, h_evlog, h_irq, h_belay, State.modStr_in, State.setStr_in, State.setCount_in, State.setVal_in,
        blank_ite, ite_self, forEach_in, implies_true]
    | refine forEach_next (fun _ _ => ?_) ?_
    | split

theorem State.noteCount_in {m : Part → Bool} (h_belay : m .belay = true) (h_bstr : m .bstr = true) (h_evlog : m .evlog = true) (h_irq : m .irq =
    true) (x0 : State) (x1 : Fin 40) (x2 : Nat) :
    State.blank m (State.noteCount x0 x1 x2) = State.blank m x0 := by
  unfold State.noteCount
  repeat' first
    | simp only [h_belay, h_bstr, h_evlog, h_irq, State.setCount_in, blank_ite, ite_self, forEach_in, implies_true]
    | refine forEach_next (fun _ _ => ?_) ?_
    | split

theorem State.sendEchoes_in {m : Part → Bool} (h_ropes : m .ropes = true) (x0 : State) (x1 : Fin 40) (x2 : PortEnd) (x3 : Bool) (x4 : Nat) :
    State.blank m (State.sendEchoes x0 x1 x2 x3 x4) = State.blank m x0 := by
  unfold State.sendEchoes
  repeat' first
    | simp only [h_ropes, State.sendFrame_in, blank_ite, ite_self, forEach_in, implies_true]
    | refine forEach_next (fun _ _ => ?_) ?_
    | split

theorem State.rollEnd_in {m : Part → Bool} (h_ropes : m .ropes = true) (x0 : State) (x1 : Fin 40) (x2 : PortEnd) (x3 : Bool) (x4 : Bool) (x5 : List
    RollNode) :
    State.blank m (State.rollEnd x0 x1 x2 x3 x4 x5) = State.blank m x0 := by
  unfold State.rollEnd
  repeat' first
    | simp only [h_ropes, State.modEnd_in, State.portStat_in, State.sendEchoes_in, State.sendFrame_in, blank_ite, ite_self, forEach_in,
        implies_true]
    | refine forEach_next (fun _ _ => ?_) ?_
    | split

theorem State.noteSent_in {m : Part → Bool} (h_bal : m .bal = true) (h_ropes : m .ropes = true) (h_trav : m .trav = true) (x0 : State) (x1 : Fin 40)
    (x2 : PortEnd) (x3 : Job) :
    State.blank m (State.noteSent x0 x1 x2 x3) = State.blank m x0 := by
  unfold State.noteSent
  repeat' first
    | simp only [h_bal, h_ropes, h_trav, State.modTrav_in, State.modRope_in, State.modEnd_in, State.portStat_in, State.modBal_in, blank_ite,
        ite_self, forEach_in, implies_true]
    | refine forEach_next (fun _ _ => ?_) ?_
    | split

theorem State.startJob_in {m : Part → Bool} (h_bal : m .bal = true) (h_ropes : m .ropes = true) (h_trav : m .trav = true) (x0 : State) (x1 : Fin 40)
    (x2 : PortEnd) (x3 : Nat) (x4 : Job) :
    State.blank m (State.startJob x0 x1 x2 x3 x4) = State.blank m x0 := by
  unfold State.startJob
  repeat' first
    | simp only [h_bal, h_ropes, h_trav, State.noteSent_in, State.sendFrame_in, State.modEnd_in, State.portStat_in, State.predict_in, blank_ite,
        ite_self, forEach_in, implies_true]
    | refine forEach_next (fun _ _ => ?_) ?_
    | split

theorem State.runLine_in {m : Part → Bool} (h_bal : m .bal = true) (h_ropes : m .ropes = true) (h_trav : m .trav = true) (x0 : Fin 40) (x1 :
    PortEnd) (x2 : Nat) (x3 : State) :
    State.blank m (State.runLine x0 x1 x2 x3) = State.blank m x3 := by
  induction x2 generalizing x3 with
  | zero => rfl
  | succ n ih =>
    unfold State.runLine
    dsimp only
    repeat' first
      | simp only [ih, h_bal, h_ropes, h_trav, State.modEnd_in, State.startJob_in, blank_ite, ite_self]
      | split

theorem State.runPort_in {m : Part → Bool} (h_bal : m .bal = true) (h_ropes : m .ropes = true) (h_trav : m .trav = true) (x0 : State) (x1 : Fin 40)
    (x2 : PortEnd) :
    State.blank m (State.runPort x0 x1 x2) = State.blank m x0 := by
  unfold State.runPort
  repeat' first
    | simp only [h_bal, h_ropes, h_trav, State.runLine_in, blank_ite, ite_self, forEach_in, implies_true]
    | refine forEach_next (fun _ _ => ?_) ?_
    | split

theorem State.runRope_in {m : Part → Bool} (h_bal : m .bal = true) (h_ropes : m .ropes = true) (h_trav : m .trav = true) (x0 : State) (x1 : Fin 40)
    :
    State.blank m (State.runRope x0 x1) = State.blank m x0 := by
  unfold State.runRope
  repeat' first
    | simp only [h_bal, h_ropes, h_trav, State.runPort_in, blank_ite, ite_self, forEach_in, implies_true]
    | refine forEach_next (fun _ _ => ?_) ?_
    | split

theorem State.takeRoll_in {m : Part → Bool} (h_bal : m .bal = true) (h_evlog : m .evlog = true) (h_irq : m .irq = true) (h_ropes : m .ropes = true)
    (h_trav : m .trav = true) (x0 : State) (x1 : Fin 40) :
    State.blank m (State.takeRoll x0 x1) = State.blank m x0 := by
  unfold State.takeRoll
  repeat' first
    | simp only [h_bal, h_evlog, h_irq, h_ropes, h_trav, State.modRope_in, State.serveMode_in, State.noteMode_in, State.runRope_in, blank_ite,
        ite_self, forEach_in, implies_true]
    | refine forEach_next (fun _ _ => ?_) ?_
    | split

theorem State.rollCallEnds_in {m : Part → Bool} (h_irq : m .irq = true) (h_ropes : m .ropes = true) (h_evlog : m .evlog = true) (h_bstr : m .bstr =
    true) (h_strs : m .strs = true) (h_fc : m .fc = true) (h_health : m .health = true) (h_dict : m .dict = true) (h_values : m .values = true)
    (h_gates : m .gates = true) (h_banks : m .banks = true) (h_mode : m .mode = true) (h_io : m .io = true) (h_bal : m .bal = true) (h_belay : m
    .belay = true) (h_trav : m .trav = true) (x0 : State) (x1 : Fin 40) (x2 : List RollNode) (x3 : List RollNode) :
    State.blank m (State.rollCallEnds x0 x1 x2 x3) = State.blank m x0 := by
  unfold State.rollCallEnds
  repeat' first
    | simp only [h_irq, h_ropes, h_evlog, h_bstr, h_strs, h_fc, h_health, h_dict, h_values, h_gates, h_banks, h_mode, h_io, h_bal, h_belay, h_trav,
        State.endExclusion_in, State.event_in, State.modRope_in, State.noteCount_in, State.irqRaise_in, State.rollEnd_in, State.placeString_in,
        State.takeRoll_in, blank_ite, ite_self, forEach_in, implies_true]
    | refine forEach_next (fun _ _ => ?_) ?_
    | split

theorem State.applyRollCall_in {m : Part → Bool} (h_ropes : m .ropes = true) (h_irq : m .irq = true) (h_evlog : m .evlog = true) (x0 : State) (x1
    : Fin 40) :
    AppliedIn m x0 (State.applyRollCall x0 x1) := by
  unfold State.applyRollCall
  repeat' first
    | simp only [h_ropes, h_irq, h_evlog, State.startRollCall_in, State.refuseRope_in, appliedIn_ok, appliedIn_error, blank_ite, ite_self,
        implies_true]
    | split

theorem State.applyRopeModeReq_in {m : Part → Bool} (h_dict : m .dict = true) (h_values : m .values = true) (h_ropes : m .ropes = true) (x0 :
    State) (x1 : Fin 40) (x2 : Nat) :
    AppliedIn m x0 (State.applyRopeModeReq x0 x1 x2) := by
  unfold State.applyRopeModeReq
  repeat' first
    | simp only [h_dict, h_values, h_ropes, State.setVal_in, State.modRope_in, appliedIn_ok, appliedIn_error, blank_ite, ite_self, implies_true]
    | split

theorem State.applyStatsClear_in {m : Part → Bool} (h_ropes : m .ropes = true) (x0 : State) (x1 : Fin 40) (x2 : Nat) :
    AppliedIn m x0 (State.applyStatsClear x0 x1 x2) := by
  unfold State.applyStatsClear
  repeat' first
    | simp only [h_ropes, State.modRope_in, appliedIn_ok, appliedIn_error, blank_ite, ite_self, implies_true]
    | split

theorem State.applyRecess_in {m : Part → Bool} (h_evlog : m .evlog = true) (h_irq : m .irq = true) (h_dict : m .dict = true) (h_values : m
    .values = true) (x0 : State) (x1 : Nat) :
    AppliedIn m x0 (State.applyRecess x0 x1) := by
  unfold State.applyRecess
  repeat' first
    | simp only [h_evlog, h_irq, h_dict, h_values, State.event_in, State.setVal_in, appliedIn_ok, appliedIn_error, blank_ite, ite_self, implies_true]
    | split

theorem State.takeRequest_in {m : Part → Bool} (h_ropes : m .ropes = true) (h_irq : m .irq = true) (h_evlog : m .evlog = true) (x0 : State) (x1 :
    Fin 40) (x2 : RopeMode) :
    State.blank m (State.takeRequest x0 x1 x2) = State.blank m x0 := by
  unfold State.takeRequest
  repeat' first
    | simp only [h_ropes, h_irq, h_evlog, State.refuseRope_in, State.setRopeMode_in, State.modRope_in, blank_ite, ite_self, implies_true]
    | split

theorem State.takeDue_in {m : Part → Bool} (h_evlog : m .evlog = true) (h_irq : m .irq = true) (h_ropes : m .ropes = true) (x0 : State) (x1 : Fin
    40) :
    State.blank m (State.takeDue x0 x1) = State.blank m x0 := by
  unfold State.takeDue
  repeat' first
    | simp only [h_evlog, h_irq, h_ropes, State.modRope_in, State.setRopeMode_in, blank_ite, ite_self, forEach_in, implies_true]
    | refine forEach_next (fun _ _ => ?_) ?_
    | split

theorem State.boundaryRope_in {m : Part → Bool} (h_ropes : m .ropes = true) (h_evlog : m .evlog = true) (h_irq : m .irq = true) (h_bal : m .bal =
    true) (h_trav : m .trav = true) (x0 : State) (x1 : Fin 40) :
    State.blank m (State.boundaryRope x0 x1) = State.blank m x0 := by
  unfold State.boundaryRope
  repeat' first
    | simp only [h_ropes, h_evlog, h_irq, h_bal, h_trav, State.modRope_in, State.takeRequest_in, State.takeDue_in, State.runRope_in,
        State.takeRoll_in, blank_ite, ite_self, forEach_in, implies_true]
    | refine forEach_next (fun _ _ => ?_) ?_
    | split

theorem State.failPort_in {m : Part → Bool} (h_ropes : m .ropes = true) (h_health : m .health = true) (h_evlog : m .evlog = true) (h_irq : m .irq
    = true) (h_dict : m .dict = true) (x0 : State) (x1 : Fin 40) (x2 : PortEnd) :
    State.blank m (State.failPort x0 x1 x2) = State.blank m x0 := by
  unfold State.failPort
  repeat' first
    | simp only [h_ropes, h_health, h_evlog, h_irq, h_dict, State.storeLater_in, State.portEvent_in, State.modEnd_in, State.modRope_in,
        blank_ite, ite_self, implies_true]
    | split

theorem State.boundaryPort_in {m : Part → Bool} (h_ropes : m .ropes = true) (h_irq : m .irq = true) (h_evlog : m .evlog = true) (h_health : m
    .health = true) (h_fc : m .fc = true) (h_dict : m .dict = true) (x0 : State) (x1 : Fin 80) :
    State.blank m (State.boundaryPort x0 x1) = State.blank m x0 := by
  unfold State.boundaryPort
  repeat' first
    | simp only [h_ropes, h_irq, h_evlog, h_health, h_fc, h_dict, State.storeLater_in, State.modPort_in, State.failPort_in, State.irqRaise_in,
        State.event_in, State.modHealth_in, State.portEvent_in, State.clearWindow_in, blank_ite, ite_self, implies_true]
    | split

theorem State.boundary_in {m : Part → Bool} (h_ropes : m .ropes = true) (h_irq : m .irq = true) (h_evlog : m .evlog = true) (h_health : m .health =
    true) (h_fc : m .fc = true) (h_dict : m .dict = true) (h_bal : m .bal = true) (h_trav : m .trav = true) (x0 : State) :
    State.blank m (State.boundary x0) = State.blank m x0 := by
  unfold State.boundary
  repeat' first
    | simp only [h_ropes, h_irq, h_evlog, h_health, h_fc, h_dict, h_bal, h_trav, State.boundaryPort_in, State.boundaryRope_in, blank_ite, ite_self,
        forEach_in, implies_true]
    | refine forEach_next (fun _ _ => ?_) ?_
    | split

theorem State.sendMask_in {m : Part → Bool} (h_bal : m .bal = true) (h_ropes : m .ropes = true) (x0 : State) (x1 : Fin 40) (x2 : Nat) (x3 : Nat) :
    State.blank m (State.sendMask x0 x1 x2 x3) = State.blank m x0 := by
  unfold State.sendMask
  repeat' first
    | simp only [h_bal, h_ropes, State.modRope_in, State.modBal_in, blank_ite, ite_self, forEach_in, implies_true]
    | refine forEach_next (fun _ _ => ?_) ?_
    | split

theorem State.autoString_in {m : Part → Bool} (h_bal : m .bal = true) (h_ropes : m .ropes = true) (x0 : State) (x1 : Fin 40) :
    State.blank m (State.autoString x0 x1) = State.blank m x0 := by
  unfold State.autoString
  repeat' first
    | simp only [h_bal, h_ropes, State.sendMask_in, blank_ite, ite_self, forEach_in, implies_true]
    | refine forEach_next (fun _ _ => ?_) ?_
    | split

theorem State.directString_in {m : Part → Bool} (h_bal : m .bal = true) (h_ropes : m .ropes = true) (x0 : State) (x1 : Fin 40) :
    State.blank m (State.directString x0 x1) = State.blank m x0 := by
  unfold State.directString
  repeat' first
    | simp only [h_bal, h_ropes, State.sendMask_in, blank_ite, ite_self, forEach_in, implies_true]
    | refine forEach_next (fun _ _ => ?_) ?_
    | split

theorem State.zeroString_in {m : Part → Bool} (h_bal : m .bal = true) (h_ropes : m .ropes = true) (x0 : State) (x1 : Fin 40) :
    State.blank m (State.zeroString x0 x1) = State.blank m x0 := by
  unfold State.zeroString
  repeat' first
    | simp only [h_bal, h_ropes, State.sendMask_in, blank_ite, ite_self, forEach_in, implies_true]
    | refine forEach_next (fun _ _ => ?_) ?_
    | split

theorem State.formMasks_in {m : Part → Bool} (h_bal : m .bal = true) (h_ropes : m .ropes = true) (x0 : State) :
    State.blank m (State.formMasks x0) = State.blank m x0 := by
  unfold State.formMasks
  repeat' first
    | simp only [h_bal, h_ropes, State.modBal_in, State.autoString_in, State.zeroString_in, State.directString_in, blank_ite, ite_self, forEach_in,
        implies_true]
    | refine forEach_next (fun _ _ => ?_) ?_
    | split

theorem State.applyBalMode_in {m : Part → Bool} (h_evlog : m .evlog = true) (h_dict : m .dict = true) (h_values : m .values = true) (h_bal : m
    .bal = true) (h_irq : m .irq = true) (x0 : State) (x1 : Nat) :
    AppliedIn m x0 (State.applyBalMode x0 x1) := by
  unfold State.applyBalMode
  repeat' first
    | simp only [h_evlog, h_dict, h_values, h_bal, h_irq, State.event_in, State.setVal_in, State.modBal_in, appliedIn_ok, appliedIn_error,
        blank_ite, ite_self, implies_true]
    | split

theorem State.applyBalMask_in {m : Part → Bool} (h_bal : m .bal = true) (h_dict : m .dict = true) (h_values : m .values = true) (h_ropes : m .ropes
    = true) (x0 : State) (x1 : Fin 40) (x2 : EntryRow) (x3 : List Byte) :
    AppliedIn m x0 (State.applyBalMask x0 x1 x2 x3) := by
  unfold State.applyBalMask
  repeat' first
    | simp only [h_bal, h_dict, h_values, h_ropes, State.modBal_in, State.storeValue_in, State.directString_in, appliedIn_ok, appliedIn_error,
        blank_ite, ite_self, forEach_in, implies_true]
    | refine forEach_next (fun _ _ => ?_) ?_
    | split

theorem State.applyCampWindow_in {m : Part → Bool} (h_dict : m .dict = true) (h_values : m .values = true) (x0 : State) (x1 : Nat) (x2 : Nat) :
    AppliedIn m x0 (State.applyCampWindow x0 x1 x2) := by
  unfold State.applyCampWindow
  repeat' first
    | simp only [h_dict, h_values, State.setVal_in, appliedIn_ok, appliedIn_error, blank_ite, ite_self, implies_true]
    | split

theorem State.broadcast_in {m : Part → Bool} (h_ropes : m .ropes = true) (x0 : State) (x1 : Fin 40) (x2 : Nat) (x3 : List Byte) :
    State.blank m (State.broadcast x0 x1 x2 x3) = State.blank m x0 := by
  unfold State.broadcast
  repeat' first
    | simp only [h_ropes, State.addCast_in, blank_ite, ite_self, forEach_in, implies_true]
    | refine forEach_next (fun _ _ => ?_) ?_
    | split

theorem State.broadcastConfig_in {m : Part → Bool} (h_ropes : m .ropes = true) (x0 : State) (x1 : Fin 40) :
    State.blank m (State.broadcastConfig x0 x1) = State.blank m x0 := by
  unfold State.broadcastConfig
  repeat' first
    | simp only [h_ropes, State.broadcast_in, blank_ite, ite_self, forEach_in, implies_true]
    | refine forEach_next (fun _ _ => ?_) ?_
    | split

theorem State.broadcastCamp_in {m : Part → Bool} (h_ropes : m .ropes = true) (x0 : State) (x1 : Fin 40) :
    State.blank m (State.broadcastCamp x0 x1) = State.blank m x0 := by
  unfold State.broadcastCamp
  repeat' first
    | simp only [h_ropes, State.broadcast_in, blank_ite, ite_self, forEach_in, implies_true]
    | refine forEach_next (fun _ _ => ?_) ?_
    | split

theorem State.flushCasts_in {m : Part → Bool} (h_ropes : m .ropes = true) (x0 : State) (x1 : Fin 40) (x2 : PortEnd) (x3 : Cast → Bool) :
    State.blank m (State.flushCasts x0 x1 x2 x3) = State.blank m x0 := by
  unfold State.flushCasts
  repeat' first
    | simp only [h_ropes, State.modEnd_in, State.predict_in, State.sendFrame_in, blank_ite, ite_self, forEach_in, implies_true]
    | refine forEach_next (fun _ _ => ?_) ?_
    | split

theorem State.enterCamp_in {m : Part → Bool} (h_ropes : m .ropes = true) (h_trav : m .trav = true) (h_bal : m .bal = true) (h_evlog : m .evlog =
    true) (h_io : m .io = true) (h_belay : m .belay = true) (h_mode : m .mode = true) (h_irq : m .irq = true) (h_bstr : m .bstr = true) (h_therm : m
    .therm = true) (h_clock : m .clock = true) (h_cans : m .cans = true) (h_eths : m .eths = true) (h_start : m .start = true) (h_gates : m .gates =
    true) (h_strs : m .strs = true) (h_utcBase : m .utcBase = true) (h_utcAt : m .utcAt = true) (x0 : State) :
    State.blank m (State.enterCamp x0) = State.blank m x0 := by
  unfold State.enterCamp
  repeat' first
    | simp only [h_ropes, h_trav, h_bal, h_evlog, h_io, h_belay, h_mode, h_irq, h_bstr, h_therm, h_clock, h_cans, h_eths, h_start, h_gates, h_strs,
        h_utcBase, h_utcAt, State.modEth_in, State.flushCasts_in, State.broadcastConfig_in, State.railsDown_in, State.modBelay_in, State.serveQ_in,
        State.discardPasses_in, State.modCan_in, State.modBStr_in, State.broadcastCamp_in, State.modTrav_in, State.setBlock_in, State.modRope_in,
        State.modBal_in, State.modTherm_in, State.stopTimetable_in, State.toRtc_in, blank_ite, ite_self, forEach_in, implies_true]
    | refine forEach_next (fun _ _ => ?_) ?_
    | split

theorem State.campNext_in {m : Part → Bool} (h_bal : m .bal = true) (h_belay : m .belay = true) (h_bstr : m .bstr = true) (h_cans : m .cans = true)
    (h_clock : m .clock = true) (h_eths : m .eths = true) (h_evlog : m .evlog = true) (h_gates : m .gates = true) (h_io : m .io = true) (h_irq : m
    .irq = true) (h_mode : m .mode = true) (h_ropes : m .ropes = true) (h_start : m .start = true) (h_strs : m .strs = true) (h_therm : m .therm =
    true) (h_trav : m .trav = true) (h_utcAt : m .utcAt = true) (h_utcBase : m .utcBase = true) (x0 : State) :
    State.blank m (State.campNext x0) = State.blank m x0 := by
  unfold State.campNext
  repeat' first
    | simp only [h_bal, h_belay, h_bstr, h_cans, h_clock, h_eths, h_evlog, h_gates, h_io, h_irq, h_mode, h_ropes, h_start, h_strs, h_therm, h_trav,
        h_utcAt, h_utcBase, State.modBal_in, State.enterCamp_in, blank_ite, ite_self, forEach_in, implies_true]
    | refine forEach_next (fun _ _ => ?_) ?_
    | split

theorem State.beginCamp_in {m : Part → Bool} (h_bal : m .bal = true) (h_belay : m .belay = true) (h_bstr : m .bstr = true) (h_cans : m .cans = true)
    (h_clock : m .clock = true) (h_eths : m .eths = true) (h_evlog : m .evlog = true) (h_gates : m .gates = true) (h_io : m .io = true) (h_irq : m
    .irq = true) (h_mode : m .mode = true) (h_ropes : m .ropes = true) (h_start : m .start = true) (h_store : m .store = true) (h_strs : m .strs =
    true) (h_therm : m .therm = true) (h_trav : m .trav = true) (h_utcAt : m .utcAt = true) (h_utcBase : m .utcBase = true) (x0 : State) :
    State.blank m (State.beginCamp x0) = State.blank m x0 := by
  unfold State.beginCamp
  repeat' first
    | simp only [h_bal, h_belay, h_bstr, h_cans, h_clock, h_eths, h_evlog, h_gates, h_io, h_irq, h_mode, h_ropes, h_start, h_store, h_strs, h_therm,
        h_trav, h_utcAt, h_utcBase, State.flushAll_in, State.campNext_in, State.modRope_in, State.modBal_in, State.writeBack_in, blank_ite,
        ite_self, forEach_in, implies_true]
    | refine forEach_next (fun _ _ => ?_) ?_
    | split

theorem State.applyCampEnter_in {m : Part → Bool} (h_irq : m .irq = true) (h_evlog : m .evlog = true) (h_ropes : m .ropes = true) (h_trav : m .trav
    = true) (h_bal : m .bal = true) (h_io : m .io = true) (h_belay : m .belay = true) (h_mode : m .mode = true) (h_bstr : m .bstr = true) (h_therm :
    m .therm = true) (h_clock : m .clock = true) (h_cans : m .cans = true) (h_eths : m .eths = true) (h_start : m .start = true) (h_gates : m .gates
    = true) (h_store : m .store = true) (h_strs : m .strs = true) (h_utcBase : m .utcBase = true) (h_utcAt : m .utcAt = true) (x0 : State) :
    AppliedIn m x0 (State.applyCampEnter x0) := by
  unfold State.applyCampEnter
  repeat' first
    | simp only [h_irq, h_evlog, h_ropes, h_trav, h_bal, h_io, h_belay, h_mode, h_bstr, h_therm, h_clock, h_cans, h_eths, h_start, h_gates, h_store,
        h_strs, h_utcBase, h_utcAt, State.irqRaise_in, State.beginCamp_in, State.event_in, appliedIn_ok, appliedIn_error, blank_ite, ite_self,
        forEach_in, implies_true]
    | refine forEach_next (fun _ _ => ?_) ?_
    | split

theorem State.closeWakeOut_in {m : Part → Bool} (h_evlog : m .evlog = true) (h_irq : m .irq = true) (h_bal : m .bal = true) (h_supply : m .supply
    = true) (x0 : State) (x1 : Nat) :
    State.blank m (State.closeWakeOut x0 x1) = State.blank m x0 := by
  unfold State.closeWakeOut
  repeat' first
    | simp only [h_evlog, h_irq, h_bal, h_supply, State.event_in, State.modBal_in, State.modSupply_in, blank_ite, ite_self, implies_true]
    | split

theorem State.wake_in {m : Part → Bool} (h_cores : m .cores = true) (h_irq : m .irq = true) (h_evlog : m .evlog = true) (h_bal : m .bal = true)
    (h_gates : m .gates = true) (h_start : m .start = true) (h_bstr : m .bstr = true) (h_belay : m .belay = true) (h_corr : m .corr = true)
    (h_supply : m .supply = true) (h_ropes : m .ropes = true) (x0 : State) (x1 : Nat) (x2 : Bool) (x3 : List (Nat × Nat)) :
    State.blank m (State.wake x0 x1 x2 x3) = State.blank m x0 := by
  unfold State.wake
  repeat' first
    | simp only [h_cores, h_irq, h_evlog, h_bal, h_gates, h_start, h_bstr, h_belay, h_corr, h_supply, h_ropes, State.irqRaise_in, State.modBelay_in,
        State.railsUp_in, State.selfTestAll_in, State.modCorr_in, State.modBStr_in, State.rollCallAll_in, State.modRope_in, State.event_in,
        State.modBal_in, State.closeWakeOut_in, blank_set_cores, blank_ite, ite_self, forEach_in, implies_true]
    | refine forEach_next (fun _ _ => ?_) ?_
    | split

theorem State.applyWakeOutCfg_in {m : Part → Bool} (h_dict : m .dict = true) (h_values : m .values = true) (h_bal : m .bal = true) (x0 : State)
    (x1 : Nat) :
    AppliedIn m x0 (State.applyWakeOutCfg x0 x1) := by
  unfold State.applyWakeOutCfg
  repeat' first
    | simp only [h_dict, h_values, h_bal, State.setVal_in, State.modBal_in, appliedIn_ok, appliedIn_error, blank_ite, ite_self, implies_true]
    | split

theorem State.refuseCan_in {m : Part → Bool} (h_evlog : m .evlog = true) (h_irq : m .irq = true) (x0 : State) (x1 : Fin 3) (x2 : Nat) :
    AppliedIn m x0 (State.refuseCan x0 x1 x2) := by
  unfold State.refuseCan
  repeat' first
    | simp only [h_evlog, h_irq, State.canEvent_in, appliedIn_ok, appliedIn_error, blank_ite, ite_self, implies_true]
    | split

theorem State.queueMo_in {m : Part → Bool} (h_cans : m .cans = true) (x0 : State) (x1 : Fin 3) (x2 : Bool) (x3 : Nat) (x4 : State → State)
    (hact : ∀ u, State.blank m (x4 u) = State.blank m u) : AppliedIn m x0 (State.queueMo x0 x1 x2 x3 x4) := by
  unfold State.queueMo
  repeat' first
    | simp only [h_cans, State.modCan_in, appliedIn_ok, appliedIn_error, hact]
    | split

theorem State.applyTxReq_in {m : Part → Bool} (h_evlog : m .evlog = true) (h_irq : m .irq = true) (h_cans : m .cans = true) (x0 : State) (x1 : Fin
    3) (x2 : Nat) :
    AppliedIn m x0 (State.applyTxReq x0 x1 x2) := by
  unfold State.applyTxReq
  repeat' first
    | simp only [h_evlog, h_irq, h_cans, State.queueMo_in, State.refuseCan_in, State.requestMo_in, appliedIn_ok, appliedIn_error, blank_ite,
        ite_self, forEach_in, implies_true]
    | refine forEach_next (fun _ _ => ?_) ?_
    | split

theorem State.applyCancel_in {m : Part → Bool} (h_cans : m .cans = true) (h_evlog : m .evlog = true) (h_irq : m .irq = true) (x0 : State) (x1 : Fin
    3) (x2 : Nat) :
    AppliedIn m x0 (State.applyCancel x0 x1 x2) := by
  unfold State.applyCancel
  repeat' first
    | simp only [h_cans, h_evlog, h_irq, State.queueMo_in, State.cancelMo_in, appliedIn_ok, appliedIn_error, blank_ite, ite_self, forEach_in,
        implies_true]
    | refine forEach_next (fun _ _ => ?_) ?_
    | split

theorem State.applyMoData_in {m : Part → Bool} (h_cans : m .cans = true) (h_dict : m .dict = true) (h_values : m .values = true) (x0 : State) (x1
    : Fin 3) (x2 : Nat) (x3 : List Byte) :
    AppliedIn m x0 (State.applyMoData x0 x1 x2 x3) := by
  unfold State.applyMoData
  repeat' first
    | simp only [h_cans, h_dict, h_values, State.writeMo_in, appliedIn_ok, appliedIn_error, blank_ite, ite_self, implies_true]
    | split

theorem State.applyMoCfg_in {m : Part → Bool} (h_evlog : m .evlog = true) (h_irq : m .irq = true) (h_cans : m .cans = true) (h_dict : m .dict =
    true) (h_values : m .values = true) (x0 : State) (x1 : Fin 3) (x2 : Nat) (x3 : Nat) :
    AppliedIn m x0 (State.applyMoCfg x0 x1 x2 x3) := by
  unfold State.applyMoCfg
  repeat' first
    | simp only [h_evlog, h_irq, h_cans, h_dict, h_values, State.refuseCan_in, State.modMo_in, State.setVal_in, appliedIn_ok, appliedIn_error,
        blank_ite, ite_self, implies_true]
    | split

theorem State.applyTiming_in {m : Part → Bool} (h_cans : m .cans = true) (h_dict : m .dict = true) (h_values : m .values = true) (x0 : State) (x1
    : Fin 3) (x2 : Bool) (x3 : Nat) :
    AppliedIn m x0 (State.applyTiming x0 x1 x2 x3) := by
  unfold State.applyTiming
  repeat' first
    | simp only [h_cans, h_dict, h_values, State.modCan_in, State.setVal_in, appliedIn_ok, appliedIn_error, blank_ite, ite_self, implies_true]
    | split

theorem State.applyCanMode_in {m : Part → Bool} (h_cans : m .cans = true) (h_dict : m .dict = true) (h_values : m .values = true) (h_evlog : m
    .evlog = true) (h_irq : m .irq = true) (h_clock : m .clock = true) (x0 : State) (x1 : Fin 3) (x2 : Nat) (x3 : Bool) :
    AppliedIn m x0 (State.applyCanMode x0 x1 x2 x3) := by
  unfold State.applyCanMode
  repeat' first
    | simp only [h_cans, h_dict, h_values, h_evlog, h_irq, h_clock, State.takeMode_in, State.modCan_in, State.refuseCan_in, State.setVal_in,
        appliedIn_ok, appliedIn_error, blank_ite, ite_self, forEach_in, implies_true]
    | refine forEach_next (fun _ _ => ?_) ?_
    | split

theorem State.applyNodeId_in {m : Part → Bool} (h_dict : m .dict = true) (h_values : m .values = true) (h_evlog : m .evlog = true) (h_irq : m
    .irq = true) (x0 : State) (x1 : Fin 3) (x2 : Nat) :
    AppliedIn m x0 (State.applyNodeId x0 x1 x2) := by
  unfold State.applyNodeId
  repeat' first
    | simp only [h_dict, h_values, h_evlog, h_irq, State.refuseCan_in, State.setVal_in, appliedIn_ok, appliedIn_error, blank_ite, ite_self,
        implies_true]
    | split

theorem State.applyTtRole_in {m : Part → Bool} (h_dict : m .dict = true) (h_values : m .values = true) (x0 : State) (x1 : Fin 3) (x2 : Nat) :
    AppliedIn m x0 (State.applyTtRole x0 x1 x2) := by
  unfold State.applyTtRole
  repeat' first
    | simp only [h_dict, h_values, State.setVal_in, appliedIn_ok, appliedIn_error, blank_ite, ite_self, implies_true]
    | split

theorem State.applyTtCycles_in {m : Part → Bool} (h_dict : m .dict = true) (h_values : m .values = true) (x0 : State) (x1 : Fin 3) (x2 : Nat) :
    AppliedIn m x0 (State.applyTtCycles x0 x1 x2) := by
  unfold State.applyTtCycles
  repeat' first
    | simp only [h_dict, h_values, State.setVal_in, appliedIn_ok, appliedIn_error, blank_ite, ite_self, implies_true]
    | split

theorem State.recoverCan_in {m : Part → Bool} (h_evlog : m .evlog = true) (h_irq : m .irq = true) (h_cans : m .cans = true) (x0 : State) (x1 :
    Fin 3) :
    State.blank m (State.recoverCan x0 x1) = State.blank m x0 := by
  unfold State.recoverCan
  repeat' first
    | simp only [h_evlog, h_irq, h_cans, State.canEvent_in, State.modCan_in, blank_ite, ite_self, implies_true]
    | split

theorem State.clearDup_in {m : Part → Bool} (h_cans : m .cans = true) (h_evlog : m .evlog = true) (h_irq : m .irq = true) (x0 : State) (x1 : Fin 3) :
    State.blank m (State.clearDup x0 x1) = State.blank m x0 := by
  unfold State.clearDup
  repeat' first
    | simp only [h_cans, h_evlog, h_irq, State.canEvent_in, State.modCan_in, blank_ite, ite_self, implies_true]
    | split

theorem State.emit_in {m : Part → Bool} (h_dict : m .dict = true) (x0 : State) (x1 : Message) :
    State.blank m (State.emit x0 x1) = State.blank m x0 := by
  unfold State.emit
  repeat' first
    | simp only [h_dict, State.modDict_in, blank_ite, ite_self, forEach_in, implies_true]
    | refine forEach_next (fun _ _ => ?_) ?_
    | split

theorem State.startFrame_in {m : Part → Bool} (h_cans : m .cans = true) (h_dict : m .dict = true) (x0 : State) (x1 : Fin 3) (x2 : Nat) (x3 : Bool) :
    State.blank m (State.startFrame x0 x1 x2 x3) = State.blank m x0 := by
  unfold State.startFrame
  repeat' first
    | simp only [h_cans, h_dict, State.modCan_in, State.emit_in, State.modMo_in, blank_ite, ite_self, forEach_in, implies_true]
    | refine forEach_next (fun _ _ => ?_) ?_
    | split

theorem State.canSent_in {m : Part → Bool} (h_cans : m .cans = true) (x0 : State) (x1 : Fin 3) :
    State.blank m (State.canSent x0 x1) = State.blank m x0 := by
  unfold State.canSent
  repeat' first
    | simp only [h_cans, State.modCan_in, blank_ite, ite_self, implies_true]
    | split

theorem State.noteClash_in {m : Part → Bool} (h_cans : m .cans = true) (h_evlog : m .evlog = true) (h_irq : m .irq = true) (x0 : State) (x1 : Fin
    3) (x2 : Nat) (x3 : Bool) :
    State.blank m (State.noteClash x0 x1 x2 x3) = State.blank m x0 := by
  unfold State.noteClash
  repeat' first
    | simp only [h_cans, h_evlog, h_irq, State.modCan_in, State.canEvent_in, State.modMo_in, State.cancelMo_in, blank_ite, ite_self, forEach_in,
        implies_true]
    | refine forEach_next (fun _ _ => ?_) ?_
    | split

theorem State.startCycle_in {m : Part → Bool} (h_cans : m .cans = true) (x0 : State) (x1 : Fin 3) (x2 : Nat) :
    State.blank m (State.startCycle x0 x1 x2) = State.blank m x0 := by
  unfold State.startCycle
  repeat' first
    | simp only [h_cans, State.modCan_in, blank_ite, ite_self, implies_true]
    | split

theorem State.sendReference_in {m : Part → Bool} (h_cans : m .cans = true) (h_dict : m .dict = true) (x0 : State) (x1 : Fin 3) (x2 : Nat) :
    State.blank m (State.sendReference x0 x1 x2) = State.blank m x0 := by
  unfold State.sendReference
  repeat' first
    | simp only [h_cans, h_dict, State.modCan_in, State.emit_in, State.startCycle_in, blank_ite, ite_self, forEach_in, implies_true]
    | refine forEach_next (fun _ _ => ?_) ?_
    | split

theorem State.missSlot_in {m : Part → Bool} (h_cans : m .cans = true) (h_evlog : m .evlog = true) (h_irq : m .irq = true) (x0 : State) (x1 : Fin
    3) (x2 : Nat × Nat) :
    State.blank m (State.missSlot x0 x1 x2) = State.blank m x0 := by
  unfold State.missSlot
  repeat' first
    | simp only [h_cans, h_evlog, h_irq, State.modMo_in, State.canEvent_in, State.modCan_in, blank_ite, ite_self, implies_true]
    | split

theorem State.checkSlot_in {m : Part → Bool} (h_evlog : m .evlog = true) (h_irq : m .irq = true) (h_cans : m .cans = true) (x0 : State) (x1 : Fin
    3) (x2 : Nat × Nat) :
    State.blank m (State.checkSlot x0 x1 x2) = State.blank m x0 := by
  unfold State.checkSlot
  repeat' first
    | simp only [h_evlog, h_irq, h_cans, State.canEvent_in, State.modCan_in, blank_ite, ite_self, implies_true]
    | split

theorem State.storeFrame_in {m : Part → Bool} (h_cans : m .cans = true) (h_irq : m .irq = true) (h_evlog : m .evlog = true) (x0 : State) (x1 : Fin
    3) (x2 : Nat) (x3 : CanRx) :
    State.blank m (State.storeFrame x0 x1 x2 x3) = State.blank m x0 := by
  unfold State.storeFrame
  repeat' first
    | simp only [h_cans, h_irq, h_evlog, State.modCan_in, State.canEvent_in, State.irqRaise_in, State.modMo_in, blank_ite, ite_self, forEach_in,
        implies_true]
    | refine forEach_next (fun _ _ => ?_) ?_
    | split

theorem State.filterFrame_in {m : Part → Bool} (h_cans : m .cans = true) (h_irq : m .irq = true) (h_evlog : m .evlog = true) (x0 : State) (x1 : Fin
    3) (x2 : CanRx) :
    State.blank m (State.filterFrame x0 x1 x2) = State.blank m x0 := by
  unfold State.filterFrame
  repeat' first
    | simp only [h_cans, h_irq, h_evlog, State.storeFrame_in, blank_ite, ite_self, forEach_in, implies_true]
    | refine forEach_next (fun _ _ => ?_) ?_
    | split

theorem State.canGood_in {m : Part → Bool} (h_cans : m .cans = true) (h_free : m .free = true) (x0 : State) (x1 : Fin 3) :
    State.blank m (State.canGood x0 x1) = State.blank m x0 := by
  unfold State.canGood
  repeat' first
    | simp only [h_cans, h_free, State.modCan_in, State.takeFree_in, blank_ite, ite_self, implies_true]
    | split

theorem State.applyEthApply_in {m : Part → Bool} (h_evlog : m .evlog = true) (h_irq : m .irq = true) (x0 : State) :
    AppliedIn m x0 (State.applyEthApply x0) := by
  unfold State.applyEthApply
  repeat' first
    | simp only [h_evlog, h_irq, State.event_in, appliedIn_ok, appliedIn_error, blank_ite, ite_self, implies_true]
    | split

theorem State.sendSet_in {m : Part → Bool} (h_evlog : m .evlog = true) (h_irq : m .irq = true) (h_stream : m .stream = true) (h_dict : m .dict =
    true) (h_eths : m .eths = true) (h_cans : m .cans = true) (x0 : State) (x1 : TravBuf) (x2 : Bool) (x3 : Nat) :
    State.blank m (State.sendSet x0 x1 x2 x3) = State.blank m x0 := by
  unfold State.sendSet
  repeat' first
    | simp only [h_evlog, h_irq, h_stream, h_dict, h_eths, h_cans, State.event_in, State.modStream_in, State.send_in, blank_ite, ite_self,
        forEach_in, implies_true]
    | refine forEach_next (fun _ _ => ?_) ?_
    | split

theorem State.ptpAnnounce_in {m : Part → Bool} (h_clock : m .clock = true) (h_evlog : m .evlog = true) (h_irq : m .irq = true) (x0 : State) (x1 :
    Nat) (x2 : PtpAdvice) (x3 : Option Int) (x4 : Nat) :
    State.blank m (State.ptpAnnounce x0 x1 x2 x3 x4) = State.blank m x0 := by
  unfold State.ptpAnnounce
  repeat' first
    | simp only [h_clock, h_evlog, h_irq, State.modClock_in, State.ptpEnter_in, blank_ite, ite_self, implies_true]
    | split

theorem State.ptpFollow_in {m : Part → Bool} (h_clock : m .clock = true) (h_evlog : m .evlog = true) (h_irq : m .irq = true) (x0 : State) (x1 :
    Nat) (x2 : Int) :
    State.blank m (State.ptpFollow x0 x1 x2) = State.blank m x0 := by
  unfold State.ptpFollow
  repeat' first
    | simp only [h_clock, h_evlog, h_irq, State.modClock_in, State.ptpEnter_in, State.noteSources_in, blank_ite, ite_self, implies_true]
    | split

theorem State.ptpSetDelay_in {m : Part → Bool} (h_clock : m .clock = true) (x0 : State) (x1 : Int) :
    State.blank m (State.ptpSetDelay x0 x1) = State.blank m x0 := by
  unfold State.ptpSetDelay
  repeat' first
    | simp only [h_clock, State.modClock_in, blank_ite, ite_self, implies_true]
    | split

theorem State.ptpMessage_in {m : Part → Bool} (h_clock : m .clock = true) (h_irq : m .irq = true) (h_evlog : m .evlog = true) (h_dict : m .dict =
    true) (h_eths : m .eths = true) (h_cans : m .cans = true) (x0 : State) (x1 : PtpMsg) :
    State.blank m (State.ptpMessage x0 x1) = State.blank m x0 := by
  unfold State.ptpMessage
  repeat' first
    | simp only [h_clock, h_irq, h_evlog, h_dict, h_eths, h_cans, State.ptpAnnounce_in, State.stamp_in, State.modClock_in, State.ptpFollow_in,
        State.send_in, State.ptpSetDelay_in, blank_ite, ite_self, implies_true]
    | split

theorem State.readSensor_in {m : Part → Bool} (h_therm : m .therm = true) (h_evlog : m .evlog = true) (h_irq : m .irq = true) (x0 : State) (x1 :
    Fin 6) (x2 : Int) :
    State.blank m (State.readSensor x0 x1 x2) = State.blank m x0 := by
  unfold State.readSensor
  repeat' first
    | simp only [h_therm, h_evlog, h_irq, State.modTherm_in, State.event_in, State.irqRaise_in, blank_ite, ite_self, implies_true]
    | split

theorem State.setLevel_in {m : Part → Bool} (h_therm : m .therm = true) (h_evlog : m .evlog = true) (h_irq : m .irq = true) (x0 : State) (x1 : Nat) :
    State.blank m (State.setLevel x0 x1) = State.blank m x0 := by
  unfold State.setLevel
  repeat' first
    | simp only [h_therm, h_evlog, h_irq, State.modTherm_in, State.event_in, State.irqRaise_in, blank_ite, ite_self, implies_true]
    | split

theorem State.tempRound_in {m : Part → Bool} (h_irq : m .irq = true) (h_therm : m .therm = true) (h_evlog : m .evlog = true) (x0 : State) (x1 :
    Vector Int 6) :
    State.blank m (State.tempRound x0 x1) = State.blank m x0 := by
  unfold State.tempRound
  repeat' first
    | simp only [h_irq, h_therm, h_evlog, State.irqRaise_in, State.readSensor_in, State.modTherm_in, State.event_in, State.setLevel_in,
        blank_ite, ite_self, forEach_in, implies_true]
    | refine forEach_next (fun _ _ => ?_) ?_
    | split

theorem State.applyThrottleSelect_in {m : Part → Bool} (h_evlog : m .evlog = true) (h_irq : m .irq = true) (h_dict : m .dict = true) (h_values :
    m .values = true) (x0 : State) (x1 : Nat) :
    AppliedIn m x0 (State.applyThrottleSelect x0 x1) := by
  unfold State.applyThrottleSelect
  repeat' first
    | simp only [h_evlog, h_irq, h_dict, h_values, State.event_in, State.setVal_in, appliedIn_ok, appliedIn_error, blank_ite, ite_self, implies_true]
    | split

theorem State.classify_in {m : Part → Bool} (h_ropes : m .ropes = true) (h_evlog : m .evlog = true) (h_irq : m .irq = true) (x0 : State) (x1 :
    Fin 40) (x2 : PortEnd) (x3 : Fin 33) (x4 : List Byte) :
    State.blank m (State.classify x0 x1 x2 x3 x4) = State.blank m x0 := by
  unfold State.classify
  repeat' first
    | simp only [h_ropes, h_evlog, h_irq, State.modRope_in, State.portEvent_in, State.countPos_in, blank_ite, ite_self, implies_true]
    | split

theorem State.noteCorner_in {m : Part → Bool} (h_corr : m .corr = true) (x0 : State) (x1 : Fin 40) (x2 : Nat) (x3 : Nat) (x4 : Vector Nat 32) :
    State.blank m (State.noteCorner x0 x1 x2 x3 x4) = State.blank m x0 := by
  unfold State.noteCorner
  repeat' first
    | simp only [h_corr, State.modCorr_in, blank_ite, ite_self, forEach_in, implies_true]
    | refine forEach_next (fun _ _ => ?_) ?_
    | split

theorem State.readStatus_in {m : Part → Bool} (h_ropes : m .ropes = true) (h_bal : m .bal = true) (h_evlog : m .evlog = true) (h_irq : m .irq =
    true) (h_corr : m .corr = true) (x0 : State) (x1 : Fin 40) (x2 : PortEnd) (x3 : Nat) (x4 : Nat) :
    State.blank m (State.readStatus x0 x1 x2 x3 x4) = State.blank m x0 := by
  unfold State.readStatus
  repeat' first
    | simp only [h_ropes, h_bal, h_evlog, h_irq, h_corr, State.modRope_in, State.modBal_in, State.noteCorner_in, State.portEvent_in, blank_ite,
        ite_self, forEach_in, implies_true]
    | refine forEach_next (fun _ _ => ?_) ?_
    | split

theorem State.replyLost_in {m : Part → Bool} (h_ropes : m .ropes = true) (h_irq : m .irq = true) (h_evlog : m .evlog = true) (x0 : State) (x1 : Fin
    40) (x2 : PortEnd) (x3 : ReadKind) (x4 : Fin 33) :
    State.blank m (State.replyLost x0 x1 x2 x3 x4) = State.blank m x0 := by
  unfold State.replyLost
  repeat' first
    | simp only [h_ropes, h_irq, h_evlog, State.continuityDone_in, State.noteMissing_in, State.modRope_in, blank_ite, ite_self, forEach_in,
        implies_true]
    | refine forEach_next (fun _ _ => ?_) ?_
    | split

theorem State.noteDeferred_in {m : Part → Bool} (h_bal : m .bal = true) (x0 : State) (x1 : Fin 40) (x2 : Nat) :
    State.blank m (State.noteDeferred x0 x1 x2) = State.blank m x0 := by
  unfold State.noteDeferred
  repeat' first
    | simp only [h_bal, State.modBal_in, blank_ite, ite_self, forEach_in, implies_true]
    | refine forEach_next (fun _ _ => ?_) ?_
    | split

theorem State.replyTaken_in {m : Part → Bool} (h_ropes : m .ropes = true) (h_bal : m .bal = true) (h_evlog : m .evlog = true) (h_irq : m .irq =
    true) (x0 : State) (x1 : Fin 40) (x2 : PortEnd) (x3 : ReadKind) (x4 : Fin 33) (x5 : Nat) (x6 : List Byte) :
    State.blank m (State.replyTaken x0 x1 x2 x3 x4 x5 x6) = State.blank m x0 := by
  unfold State.replyTaken
  repeat' first
    | simp only [h_ropes, h_bal, h_evlog, h_irq, State.continuityDone_in, State.echoReply_in, State.modRope_in, State.modEnd_in, State.portStat_in,
        State.modBal_in, blank_ite, ite_self, forEach_in, implies_true]
    | refine forEach_next (fun _ _ => ?_) ?_
    | split

theorem State.openSlot_in {m : Part → Bool} (h_ropes : m .ropes = true) (h_trav : m .trav = true) (x0 : State) (x1 : RxHead) :
    State.blank m (State.openSlot x0 x1) = State.blank m x0 := by
  unfold State.openSlot
  repeat' first
    | simp only [h_ropes, h_trav, State.modTrav_in, State.portStat_in, blank_ite, ite_self, forEach_in, implies_true]
    | refine forEach_next (fun _ _ => ?_) ?_
    | split

theorem State.dmaWrite_in {m : Part → Bool} (h_trav : m .trav = true) (h_ropes : m .ropes = true) (x0 : State) (x1 : Piece) :
    State.blank m (State.dmaWrite x0 x1) = State.blank m x0 := by
  unfold State.dmaWrite
  repeat' first
    | simp only [h_trav, h_ropes, State.modTrav_in, State.openSlot_in, blank_ite, ite_self, forEach_in, implies_true]
    | refine forEach_next (fun _ _ => ?_) ?_
    | split

theorem State.dmaDrain_in {m : Part → Bool} (h_trav : m .trav = true) (h_ropes : m .ropes = true) (x0 : State) :
    State.blank m (State.dmaDrain x0) = State.blank m x0 := by
  unfold State.dmaDrain
  repeat' first
    | simp only [h_trav, h_ropes, State.dmaWrite_in, State.modTrav_in, blank_ite, ite_self, forEach_in, implies_true]
    | refine forEach_next (fun _ _ => ?_) ?_
    | split

theorem State.belayLink_in {m : Part → Bool} (h_banks : m .banks = true) (h_strs : m .strs = true) (h_evlog : m .evlog = true) (h_irq : m .irq =
    true) (x0 : State) (x1 : Nat) (x2 : List Byte) :
    State.blank m (State.belayLink x0 x1 x2) = State.blank m x0 := by
  unfold State.belayLink
  repeat' first
    | simp only [h_banks, h_strs, h_evlog, h_irq, State.modBank_in, State.evalMatch_in, blank_ite, ite_self, forEach_in, implies_true]
    | refine forEach_next (fun _ _ => ?_) ?_
    | split

theorem State.belayTake_in {m : Part → Bool} (h_trav : m .trav = true) (h_bstr : m .bstr = true) (h_strs : m .strs = true) (h_evlog : m .evlog =
    true) (h_irq : m .irq = true) (x0 : State) (x1 : Fin 40) (x2 : PortEnd) (x3 : Nat) (x4 : List Byte) :
    State.blank m (State.belayTake x0 x1 x2 x3 x4) = State.blank m x0 := by
  unfold State.belayTake
  repeat' first
    | simp only [h_trav, h_bstr, h_strs, h_evlog, h_irq, State.modBStr_in, State.judgeCurrent_in, State.judgeCell_in, State.modTrav_in,
        State.modStr_in, State.evalMatch_in, blank_ite, ite_self, forEach_in, implies_true]
    | refine forEach_next (fun _ _ => ?_) ?_
    | split

theorem State.modBuf_in {m : Part → Bool} (h_trav : m .trav = true) (x0 : State) (x1 : Fin 8) (x2 : TravBuf → TravBuf) :
    State.blank m (State.modBuf x0 x1 x2) = State.blank m x0 := by
  unfold State.modBuf
  repeat' first
    | simp only [h_trav, State.modTrav_in, blank_ite, ite_self, implies_true]
    | split

theorem State.modCell_in {m : Part → Bool} (h_est : m .est = true) (x0 : State) (x1 : Fin 40) (x2 : Nat) (x3 : CellEst → CellEst) :
    State.blank m (State.modCell x0 x1 x2 x3) = State.blank m x0 := by
  unfold State.modCell
  repeat' first
    | simp only [h_est, State.modEst_in, blank_ite, ite_self, implies_true]
    | split

theorem State.noteQuiet_in {m : Part → Bool} (h_est : m .est = true) (x0 : State) (x1 : Fin 40) (x2 : Int) (x3 : Nat) :
    State.blank m (State.noteQuiet x0 x1 x2 x3) = State.blank m x0 := by
  unfold State.noteQuiet
  repeat' first
    | simp only [h_est, State.modEst_in, blank_ite, ite_self, implies_true]
    | split

theorem State.publishStr_in {m : Part → Bool} (h_trav : m .trav = true) (h_est : m .est = true) (h_bal : m .bal = true) (h_ropes : m .ropes = true)
    (x0 : State) (x1 : Fin 8) (x2 : Fin 40) :
    State.blank m (State.publishStr x0 x1 x2) = State.blank m x0 := by
  unfold State.publishStr
  repeat' first
    | simp only [h_trav, h_est, h_bal, h_ropes, State.noteQuiet_in, State.modBuf_in, State.modTrav_in, State.modRope_in, State.modBal_in, blank_ite,
        ite_self, forEach_in, implies_true]
    | refine forEach_next (fun _ _ => ?_) ?_
    | split

theorem State.publish_in {m : Part → Bool} (h_trav : m .trav = true) (h_est : m .est = true) (h_bal : m .bal = true) (h_corr : m .corr = true)
    (h_ropes : m .ropes = true) (x0 : State) (x1 : Fin 8) :
    State.blank m (State.publish x0 x1) = State.blank m x0 := by
  unfold State.publish
  repeat' first
    | simp only [h_trav, h_est, h_bal, h_corr, h_ropes, State.modCorr_in, State.modBuf_in, State.publishStr_in, State.modEst_in, State.modTrav_in,
        blank_ite, ite_self, forEach_in, implies_true]
    | refine forEach_next (fun _ _ => ?_) ?_
    | split

theorem State.endRope_in {m : Part → Bool} (h_ropes : m .ropes = true) (h_evlog : m .evlog = true) (h_irq : m .irq = true) (x0 : State) (x1 : Fin
    40) :
    State.blank m (State.endRope x0 x1) = State.blank m x0 := by
  unfold State.endRope
  repeat' first
    | simp only [h_ropes, h_evlog, h_irq, State.modRope_in, State.portEvent_in, State.noteBreak_in, blank_ite, ite_self, forEach_in, implies_true]
    | refine forEach_next (fun _ _ => ?_) ?_
    | split

theorem State.belayEnd_in {m : Part → Bool} (h_bstr : m .bstr = true) (h_evlog : m .evlog = true) (h_irq : m .irq = true) (h_strs : m .strs = true)
    (h_belay : m .belay = true) (x0 : State) :
    State.blank m (State.belayEnd x0) = State.blank m x0 := by
  unfold State.belayEnd
  repeat' first
    | simp only [h_bstr, h_evlog, h_irq, h_strs, h_belay, State.postReport_in, State.countUnseen_in, State.modBelay_in, State.endMatch_in,
        State.modBStr_in, blank_ite, ite_self, forEach_in, implies_true]
    | refine forEach_next (fun _ _ => ?_) ?_
    | split

theorem State.countCharge_in {m : Part → Bool} (h_corr : m .corr = true) (h_ropes : m .ropes = true) (h_evlog : m .evlog = true) (h_irq : m .irq
    = true) (x0 : State) (x1 : Fin 40) :
    State.blank m (State.countCharge x0 x1) = State.blank m x0 := by
  unfold State.countCharge
  repeat' first
    | simp only [h_corr, h_ropes, h_evlog, h_irq, State.modCorr_in, State.modRope_in, State.event_in, blank_ite, ite_self, implies_true]
    | split

theorem State.disagree_in {m : Part → Bool} (h_belay : m .belay = true) (h_evlog : m .evlog = true) (h_irq : m .irq = true) (h_fc : m .fc = true)
    (h_health : m .health = true) (h_cores : m .cores = true) (h_ropes : m .ropes = true) (h_banks : m .banks = true) (h_strs : m .strs = true)
    (h_trav : m .trav = true) (h_start : m .start = true) (h_gates : m .gates = true) (h_io : m .io = true) (h_mode : m .mode = true) (h_dict : m
    .dict = true) (h_supply : m .supply = true) (h_gateBlock : m .gateBlock = true) (h_bstr : m .bstr = true) (h_seng : m .seng = true) (h_therm
    : m .therm = true) (h_cans : m .cans = true) (h_bal : m .bal = true) (h_eths : m .eths = true) (h_stream : m .stream = true) (h_clock : m
    .clock = true) (h_corr : m .corr = true) (h_est : m .est = true) (h_store : m .store = true) (h_heldReq : m .heldReq = true) (h_waitingWrites
    : m .waitingWrites = true) (h_utcBase : m .utcBase = true) (h_utcAt : m .utcAt = true) (h_records : m .records = true) (h_values : m .values
    = true) (x0 : State) (x1 : Nat) (x2 : Fin 40) (x3 : List Byte) :
    State.blank m (State.disagree x0 x1 x2 x3) = State.blank m x0 := by
  unfold State.disagree
  repeat' first
    | simp only [h_belay, h_evlog, h_irq, h_fc, h_health, h_cores, h_ropes, h_banks, h_strs, h_trav, h_start, h_gates, h_io, h_mode, h_dict,
        h_supply, h_gateBlock, h_bstr, h_seng, h_therm, h_cans, h_bal, h_eths, h_stream, h_clock, h_corr, h_est, h_store, h_heldReq,
        h_waitingWrites, h_utcBase, h_utcAt, h_records, h_values, State.occurrence_in, State.modBelay_in, State.event_in,
        State.modBelay_records_in, blank_ite, ite_self, implies_true]
    | split

theorem State.compareBitmap_in {m : Part → Bool} (h_belay : m .belay = true) (h_evlog : m .evlog = true) (h_irq : m .irq = true) (h_fc : m .fc =
    true) (h_health : m .health = true) (h_cores : m .cores = true) (h_ropes : m .ropes = true) (h_banks : m .banks = true) (h_strs : m .strs =
    true) (h_trav : m .trav = true) (h_start : m .start = true) (h_gates : m .gates = true) (h_io : m .io = true) (h_mode : m .mode = true) (h_dict
    : m .dict = true) (h_supply : m .supply = true) (h_gateBlock : m .gateBlock = true) (h_bstr : m .bstr = true) (h_seng : m .seng = true) (h_therm
    : m .therm = true) (h_cans : m .cans = true) (h_bal : m .bal = true) (h_eths : m .eths = true) (h_stream : m .stream = true) (h_clock : m .clock
    = true) (h_corr : m .corr = true) (h_est : m .est = true) (h_store : m .store = true) (h_heldReq : m .heldReq = true) (h_waitingWrites : m
    .waitingWrites = true) (h_utcBase : m .utcBase = true) (h_utcAt : m .utcAt = true) (h_records : m .records = true) (h_values : m .values = true)
    (x0 : State) (x1 : Fin 40) (x2 : TravBuf) (x3 : BelayReport) :
    State.blank m (State.compareBitmap x0 x1 x2 x3) = State.blank m x0 := by
  unfold State.compareBitmap
  repeat' first
    | simp only [h_belay, h_evlog, h_irq, h_fc, h_health, h_cores, h_ropes, h_banks, h_strs, h_trav, h_start, h_gates, h_io, h_mode, h_dict,
        h_supply, h_gateBlock, h_bstr, h_seng, h_therm, h_cans, h_bal, h_eths, h_stream, h_clock, h_corr, h_est, h_store, h_heldReq,
        h_waitingWrites, h_utcBase, h_utcAt, h_records, h_values, State.disagree_in, blank_ite, ite_self, forEach_in, implies_true]
    | refine forEach_next (fun _ _ => ?_) ?_
    | split

theorem State.compareExtremes_in {m : Part → Bool} (h_bstr : m .bstr = true) (h_evlog : m .evlog = true) (h_belay : m .belay = true) (h_irq : m .irq
    = true) (h_fc : m .fc = true) (h_health : m .health = true) (h_cores : m .cores = true) (h_ropes : m .ropes = true) (h_banks : m .banks = true)
    (h_strs : m .strs = true) (h_trav : m .trav = true) (h_start : m .start = true) (h_gates : m .gates = true) (h_io : m .io = true) (h_mode : m
    .mode = true) (h_dict : m .dict = true) (h_supply : m .supply = true) (h_gateBlock : m .gateBlock = true) (h_seng : m .seng = true) (h_therm : m
    .therm = true) (h_cans : m .cans = true) (h_bal : m .bal = true) (h_eths : m .eths = true) (h_stream : m .stream = true) (h_clock : m .clock =
    true) (h_corr : m .corr = true) (h_est : m .est = true) (h_store : m .store = true) (h_heldReq : m .heldReq = true) (h_waitingWrites : m
    .waitingWrites = true) (h_utcBase : m .utcBase = true) (h_utcAt : m .utcAt = true) (h_records : m .records = true) (h_values : m .values = true)
    (x0 : State) (x1 : Fin 40) (x2 : TravBuf) (x3 : BelayReport) :
    State.blank m (State.compareExtremes x0 x1 x2 x3) = State.blank m x0 := by
  unfold State.compareExtremes
  repeat' first
    | simp only [h_bstr, h_evlog, h_belay, h_irq, h_fc, h_health, h_cores, h_ropes, h_banks, h_strs, h_trav, h_start, h_gates, h_io, h_mode, h_dict,
        h_supply, h_gateBlock, h_seng, h_therm, h_cans, h_bal, h_eths, h_stream, h_clock, h_corr, h_est, h_store, h_heldReq, h_waitingWrites,
        h_utcBase, h_utcAt, h_records, h_values, State.disagree_in, blank_ite, ite_self, forEach_in, implies_true]
    | refine forEach_next (fun _ _ => ?_) ?_
    | split

theorem State.updateReady_in {m : Part → Bool} (h_evlog : m .evlog = true) (h_irq : m .irq = true) (h_strs : m .strs = true) (h_banks : m .banks
    = true) (h_gates : m .gates = true) (h_mode : m .mode = true) (h_io : m .io = true) (x0 : State) (x1 : Fin 40) :
    State.blank m (State.updateReady x0 x1) = State.blank m x0 := by
  unfold State.updateReady
  repeat' first
    | simp only [h_evlog, h_irq, h_strs, h_banks, h_gates, h_mode, h_io, State.setStr_in, State.endPrecharge_in, State.openS_in, blank_ite,
        ite_self, implies_true]
    | split

end Sys2Proof.Machine
end

