-- ==== Sys2Proof/Laws/Frames3.lean ====
section
/-!
SUPPORT. Frames of the operations: each changes no part of the state beside those its hypotheses name.
-/

namespace Sys2Proof.Machine

set_option linter.unreachableTactic false
set_option linter.unusedTactic false
set_option linter.unusedSimpArgs false

theorem State.placeRequest_in {m : Part → Bool} (h_strs : m .strs = true) (x0 : State) (x1 : Fin 40) :
    State.blank m (State.placeRequest x0 x1) = State.blank m x0 := by
  unfold State.placeRequest
  repeat' first
    | simp only [h_strs, State.modStr_in, blank_ite, ite_self, implies_true]
    | split

theorem State.updateBank_in {m : Part → Bool} (h_evlog : m .evlog = true) (h_irq : m .irq = true) (h_banks : m .banks = true) (h_strs : m .strs =
    true) (h_gates : m .gates = true) (h_mode : m .mode = true) (h_io : m .io = true) (x0 : State) (x1 : Fin 4) :
    State.blank m (State.updateBank x0 x1) = State.blank m x0 := by
  unfold State.updateBank
  repeat' first
    | simp only [h_evlog, h_irq, h_banks, h_strs, h_gates, h_mode, h_io, State.setBank_in, State.event_in, State.faultBank_in, blank_ite,
        ite_self, implies_true]
    | split

theorem State.summarise_in {m : Part → Bool} (h_dict : m .dict = true) (h_values : m .values = true) (x0 : State) :
    State.blank m (State.summarise x0) = State.blank m x0 := by
  unfold State.summarise
  repeat' first
    | simp only [h_dict, h_values, State.setVal_in, blank_ite, ite_self, forEach_in, implies_true]
    | refine forEach_next (fun _ _ => ?_) ?_
    | split

theorem State.compareCount_in {m : Part → Bool} (h_belay : m .belay = true) (h_bstr : m .bstr = true) (h_evlog : m .evlog = true) (h_irq : m .irq =
    true) (x0 : State) (x1 : Fin 40) :
    State.blank m (State.compareCount x0 x1) = State.blank m x0 := by
  unfold State.compareCount
  repeat' first
    | simp only [h_belay, h_bstr, h_evlog, h_irq, State.modBelay_in, State.event_in, State.modBStr_in, blank_ite, ite_self, forEach_in,
        implies_true]
    | refine forEach_next (fun _ _ => ?_) ?_
    | split

theorem State.takeReport_in {m : Part → Bool} (h_bal : m .bal = true) (h_banks : m .banks = true) (h_belay : m .belay = true) (h_bstr : m .bstr =
    true) (h_cans : m .cans = true) (h_clock : m .clock = true) (h_cores : m .cores = true) (h_corr : m .corr = true) (h_dict : m .dict = true)
    (h_est : m .est = true) (h_eths : m .eths = true) (h_evlog : m .evlog = true) (h_fc : m .fc = true) (h_gateBlock : m .gateBlock = true) (h_gates
    : m .gates = true) (h_health : m .health = true) (h_heldReq : m .heldReq = true) (h_io : m .io = true) (h_irq : m .irq = true) (h_mode : m .mode
    = true) (h_records : m .records = true) (h_ropes : m .ropes = true) (h_seng : m .seng = true) (h_start : m .start = true) (h_store : m .store =
    true) (h_stream : m .stream = true) (h_strs : m .strs = true) (h_supply : m .supply = true) (h_therm : m .therm = true) (h_trav : m .trav =
    true) (h_utcAt : m .utcAt = true) (h_utcBase : m .utcBase = true) (h_values : m .values = true) (h_waitingWrites : m .waitingWrites = true) (x0
    : State) (x1 : BelayReport) :
    State.blank m (State.takeReport x0 x1) = State.blank m x0 := by
  unfold State.takeReport
  repeat' first
    | simp only [h_bal, h_banks, h_belay, h_bstr, h_cans, h_clock, h_cores, h_corr, h_dict, h_est, h_eths, h_evlog, h_fc, h_gateBlock, h_gates,
        h_health, h_heldReq, h_io, h_irq, h_mode, h_records, h_ropes, h_seng, h_start, h_store, h_stream, h_strs, h_supply, h_therm, h_trav,
        h_utcAt, h_utcBase, h_values, h_waitingWrites, State.compareBitmap_in, State.compareExtremes_in, State.compareCount_in, blank_ite, ite_self,
        forEach_in, implies_true]
    | refine forEach_next (fun _ _ => ?_) ?_
    | split

theorem State.takeReports_in {m : Part → Bool} (h_bal : m .bal = true) (h_banks : m .banks = true) (h_belay : m .belay = true) (h_bstr : m .bstr =
    true) (h_cans : m .cans = true) (h_clock : m .clock = true) (h_cores : m .cores = true) (h_corr : m .corr = true) (h_dict : m .dict = true)
    (h_est : m .est = true) (h_eths : m .eths = true) (h_evlog : m .evlog = true) (h_fc : m .fc = true) (h_gateBlock : m .gateBlock = true) (h_gates
    : m .gates = true) (h_health : m .health = true) (h_heldReq : m .heldReq = true) (h_io : m .io = true) (h_irq : m .irq = true) (h_mode : m .mode
    = true) (h_records : m .records = true) (h_ropes : m .ropes = true) (h_seng : m .seng = true) (h_start : m .start = true) (h_store : m .store =
    true) (h_stream : m .stream = true) (h_strs : m .strs = true) (h_supply : m .supply = true) (h_therm : m .therm = true) (h_trav : m .trav =
    true) (h_utcAt : m .utcAt = true) (h_utcBase : m .utcBase = true) (h_values : m .values = true) (h_waitingWrites : m .waitingWrites = true) (x0
    : State) :
    State.blank m (State.takeReports x0) = State.blank m x0 := by
  unfold State.takeReports
  repeat' first
    | simp only [h_bal, h_banks, h_belay, h_bstr, h_cans, h_clock, h_cores, h_corr, h_dict, h_est, h_eths, h_evlog, h_fc, h_gateBlock, h_gates,
        h_health, h_heldReq, h_io, h_irq, h_mode, h_records, h_ropes, h_seng, h_start, h_store, h_stream, h_strs, h_supply, h_therm, h_trav,
        h_utcAt, h_utcBase, h_values, h_waitingWrites, State.modBelay_in, State.modBelay_records_in, State.takeReport_in, blank_ite, ite_self,
        forEach_in, implies_true]
    | refine forEach_next (fun _ _ => ?_) ?_
    | split

theorem State.repairMirror_in {m : Part → Bool} (h_belay : m .belay = true) (h_evlog : m .evlog = true) (h_irq : m .irq = true) (x0 : State) :
    State.blank m (State.repairMirror x0) = State.blank m x0 := by
  unfold State.repairMirror
  repeat' first
    | simp only [h_belay, h_evlog, h_irq, State.event_in, State.modBelay_in, blank_ite, ite_self, forEach_in, implies_true]
    | refine forEach_next (fun _ _ => ?_) ?_
    | split

theorem State.firmwareEnd_in {m : Part → Bool} (h_bstr : m .bstr = true) (h_evlog : m .evlog = true) (h_belay : m .belay = true) (h_trav : m .trav =
    true) (h_est : m .est = true) (h_bal : m .bal = true) (h_corr : m .corr = true) (h_irq : m .irq = true) (h_banks : m .banks = true) (h_strs : m
    .strs = true) (h_gates : m .gates = true) (h_dict : m .dict = true) (h_values : m .values = true) (h_fc : m .fc = true) (h_health : m .health =
    true) (h_cores : m .cores = true) (h_mode : m .mode = true) (h_ropes : m .ropes = true) (h_start : m .start = true) (h_io : m .io = true)
    (h_supply : m .supply = true) (h_gateBlock : m .gateBlock = true) (h_seng : m .seng = true) (h_therm : m .therm = true) (h_cans : m .cans =
    true) (h_eths : m .eths = true) (h_stream : m .stream = true) (h_clock : m .clock = true) (h_store : m .store = true) (h_heldReq : m .heldReq =
    true) (h_waitingWrites : m .waitingWrites = true) (h_utcBase : m .utcBase = true) (h_utcAt : m .utcAt = true) (h_records : m .records = true)
    (x0 : State) :
    State.blank m (State.firmwareEnd x0) = State.blank m x0 := by
  unfold State.firmwareEnd
  repeat' first
    | simp only [h_bstr, h_evlog, h_belay, h_trav, h_est, h_bal, h_corr, h_irq, h_banks, h_strs, h_gates, h_dict, h_values, h_fc, h_health, h_cores,
        h_mode, h_ropes, h_start, h_io, h_supply, h_gateBlock, h_seng, h_therm, h_cans, h_eths, h_stream, h_clock, h_store, h_heldReq,
        h_waitingWrites, h_utcBase, h_utcAt, h_records, State.takeReports_in, State.publish_in, State.repairMirror_in, State.decideHeld_in,
        State.updateBank_in, State.summarise_in, State.placeRequest_in, State.updateReady_in, blank_ite, ite_self, forEach_in, implies_true]
    | refine forEach_next (fun _ _ => ?_) ?_
    | split

theorem State.publishSlow_in {m : Part → Bool} (h_trav : m .trav = true) (h_est : m .est = true) (x0 : State) (x1 : SlowBuf) (x2 : Fin 40) (x3 :
    Nat) :
    State.blank m (State.publishSlow x0 x1 x2 x3) = State.blank m x0 := by
  unfold State.publishSlow
  repeat' first
    | simp only [h_trav, h_est, State.modTrav_in, State.modCell_in, blank_ite, ite_self, forEach_in, implies_true]
    | refine forEach_next (fun _ _ => ?_) ?_
    | split

theorem State.firmwareSlow_in {m : Part → Bool} (h_trav : m .trav = true) (h_belay : m .belay = true) (h_est : m .est = true) (h_bal : m .bal =
    true) (h_ropes : m .ropes = true) (x0 : State) (x1 : Fin 2) :
    State.blank m (State.firmwareSlow x0 x1) = State.blank m x0 := by
  unfold State.firmwareSlow
  repeat' first
    | simp only [h_trav, h_belay, h_est, h_bal, h_ropes, State.modTrav_in, State.formMasks_in, State.publishSlow_in, State.modBelay_in, blank_ite,
        ite_self, forEach_in, implies_true]
    | refine forEach_next (fun _ _ => ?_) ?_
    | split

theorem State.takeSlow_in {m : Part → Bool} (h_bal : m .bal = true) (h_belay : m .belay = true) (h_est : m .est = true) (h_ropes : m .ropes = true)
    (h_trav : m .trav = true) (x0 : State) :
    State.blank m (State.takeSlow x0) = State.blank m x0 := by
  unfold State.takeSlow
  repeat' first
    | simp only [h_bal, h_belay, h_est, h_ropes, h_trav, State.firmwareSlow_in, blank_ite, ite_self, forEach_in, implies_true]
    | refine forEach_next (fun _ _ => ?_) ?_
    | split

theorem State.takeTables_in {m : Part → Bool} (h_est : m .est = true) (x0 : State) :
    State.blank m (State.takeTables x0) = State.blank m x0 := by
  unfold State.takeTables
  repeat' first
    | simp only [h_est, State.modEst_in, blank_ite, ite_self, forEach_in, implies_true]
    | refine forEach_next (fun _ _ => ?_) ?_
    | split

theorem State.startLearned_in {m : Part → Bool} (h_bal : m .bal = true) (h_corr : m .corr = true) (h_est : m .est = true) (h_evlog : m .evlog =
    true) (h_irq : m .irq = true) (h_start : m .start = true) (h_store : m .store = true) (x0 : State) :
    State.blank m (State.startLearned x0) = State.blank m x0 := by
  unfold State.startLearned
  repeat' first
    | simp only [h_bal, h_corr, h_est, h_evlog, h_irq, h_start, h_store, State.selectLearned_in, State.markWarn_in, State.takeTables_in,
        State.openSdWindow_in, State.modEst_in, State.modCorr_in, State.modStart_in, blank_ite, ite_self, forEach_in, implies_true]
    | refine forEach_next (fun _ _ => ?_) ?_
    | split

theorem State.complete_in {m : Part → Bool} (h_trav : m .trav = true) (h_irq : m .irq = true) (h_ropes : m .ropes = true) (h_bstr : m .bstr = true)
    (h_evlog : m .evlog = true) (h_strs : m .strs = true) (h_belay : m .belay = true) (h_banks : m .banks = true) (h_corr : m .corr = true) (h_est :
    m .est = true) (h_bal : m .bal = true) (h_gates : m .gates = true) (h_dict : m .dict = true) (h_values : m .values = true) (h_fc : m .fc = true)
    (h_health : m .health = true) (h_cores : m .cores = true) (h_mode : m .mode = true) (h_start : m .start = true) (h_io : m .io = true) (h_supply
    : m .supply = true) (h_gateBlock : m .gateBlock = true) (h_seng : m .seng = true) (h_therm : m .therm = true) (h_cans : m .cans = true) (h_eths
    : m .eths = true) (h_stream : m .stream = true) (h_clock : m .clock = true) (h_store : m .store = true) (h_heldReq : m .heldReq = true)
    (h_waitingWrites : m .waitingWrites = true) (h_utcBase : m .utcBase = true) (h_utcAt : m .utcAt = true) (h_records : m .records = true) (x0 :
    State) :
    State.blank m (State.complete x0) = State.blank m x0 := by
  unfold State.complete
  repeat' first
    | simp only [h_trav, h_irq, h_ropes, h_bstr, h_evlog, h_strs, h_belay, h_banks, h_corr, h_est, h_bal, h_gates, h_dict, h_values, h_fc, h_health,
        h_cores, h_mode, h_start, h_io, h_supply, h_gateBlock, h_seng, h_therm, h_cans, h_eths, h_stream, h_clock, h_store, h_heldReq,
        h_waitingWrites, h_utcBase, h_utcAt, h_records, State.modBuf_in, State.modTrav_in, State.irqRaise_in, State.belayEnd_in, State.takeSlow_in,
        State.countCharge_in, State.startLearned_in, State.modBank_in, State.dmaDrain_in, State.endRope_in, State.firmwareEnd_in, blank_ite,
        ite_self, forEach_in, implies_true]
    | refine forEach_next (fun _ _ => ?_) ?_
    | split

theorem State.cutShort_in {m : Part → Bool} (h_ropes : m .ropes = true) (h_trav : m .trav = true) (h_irq : m .irq = true) (h_bstr : m .bstr =
    true) (h_evlog : m .evlog = true) (h_strs : m .strs = true) (h_belay : m .belay = true) (h_banks : m .banks = true) (h_corr : m .corr = true)
    (h_est : m .est = true) (h_bal : m .bal = true) (h_gates : m .gates = true) (h_dict : m .dict = true) (h_values : m .values = true) (h_fc : m
    .fc = true) (h_health : m .health = true) (h_cores : m .cores = true) (h_mode : m .mode = true) (h_start : m .start = true) (h_io : m .io =
    true) (h_supply : m .supply = true) (h_gateBlock : m .gateBlock = true) (h_seng : m .seng = true) (h_therm : m .therm = true) (h_cans : m
    .cans = true) (h_eths : m .eths = true) (h_stream : m .stream = true) (h_clock : m .clock = true) (h_store : m .store = true) (h_heldReq : m
    .heldReq = true) (h_waitingWrites : m .waitingWrites = true) (h_utcBase : m .utcBase = true) (h_utcAt : m .utcAt = true) (h_records : m
    .records = true) (x0 : State) :
    State.blank m (State.cutShort x0) = State.blank m x0 := by
  unfold State.cutShort
  repeat' first
    | simp only [h_ropes, h_trav, h_irq, h_bstr, h_evlog, h_strs, h_belay, h_banks, h_corr, h_est, h_bal, h_gates, h_dict, h_values, h_fc,
        h_health, h_cores, h_mode, h_start, h_io, h_supply, h_gateBlock, h_seng, h_therm, h_cans, h_eths, h_stream, h_clock, h_store, h_heldReq,
        h_waitingWrites, h_utcBase, h_utcAt, h_records, State.modEnd_in, State.complete_in, blank_ite, ite_self, forEach_in, implies_true]
    | refine forEach_next (fun _ _ => ?_) ?_
    | split

theorem State.overrun_in {m : Part → Bool} (h_trav : m .trav = true) (h_evlog : m .evlog = true) (h_irq : m .irq = true) (h_ropes : m .ropes =
    true) (h_bstr : m .bstr = true) (h_strs : m .strs = true) (h_belay : m .belay = true) (h_banks : m .banks = true) (h_corr : m .corr = true)
    (h_est : m .est = true) (h_bal : m .bal = true) (h_gates : m .gates = true) (h_dict : m .dict = true) (h_values : m .values = true) (h_fc : m
    .fc = true) (h_health : m .health = true) (h_cores : m .cores = true) (h_mode : m .mode = true) (h_start : m .start = true) (h_io : m .io =
    true) (h_supply : m .supply = true) (h_gateBlock : m .gateBlock = true) (h_seng : m .seng = true) (h_therm : m .therm = true) (h_cans : m
    .cans = true) (h_eths : m .eths = true) (h_stream : m .stream = true) (h_clock : m .clock = true) (h_store : m .store = true) (h_heldReq : m
    .heldReq = true) (h_waitingWrites : m .waitingWrites = true) (h_utcBase : m .utcBase = true) (h_utcAt : m .utcAt = true) (h_records : m
    .records = true) (x0 : State) :
    State.blank m (State.overrun x0) = State.blank m x0 := by
  unfold State.overrun
  repeat' first
    | simp only [h_trav, h_evlog, h_irq, h_ropes, h_bstr, h_strs, h_belay, h_banks, h_corr, h_est, h_bal, h_gates, h_dict, h_values, h_fc,
        h_health, h_cores, h_mode, h_start, h_io, h_supply, h_gateBlock, h_seng, h_therm, h_cans, h_eths, h_stream, h_clock, h_store, h_heldReq,
        h_waitingWrites, h_utcBase, h_utcAt, h_records, State.cutShort_in, State.modBuf_in, State.event_in, State.irqRaise_in, State.modTrav_in,
        blank_ite, ite_self, implies_true]
    | split

theorem State.notePeriod_in {m : Part → Bool} (h_trav : m .trav = true) (h_evlog : m .evlog = true) (h_irq : m .irq = true) (h_ropes : m .ropes =
    true) (x0 : State) :
    State.blank m (State.notePeriod x0) = State.blank m x0 := by
  unfold State.notePeriod
  repeat' first
    | simp only [h_trav, h_evlog, h_irq, h_ropes, State.modTrav_in, State.event_in, State.broadcastConfig_in, blank_ite, ite_self, forEach_in,
        implies_true]
    | refine forEach_next (fun _ _ => ?_) ?_
    | split

theorem State.missedSlow_in {m : Part → Bool} (h_evlog : m .evlog = true) (h_irq : m .irq = true) (h_trav : m .trav = true) (h_bstr : m .bstr =
    true) (x0 : State) :
    State.blank m (State.missedSlow x0) = State.blank m x0 := by
  unfold State.missedSlow
  repeat' first
    | simp only [h_evlog, h_irq, h_trav, h_bstr, State.event_in, State.modTrav_in, State.countSlowUnseen_in, blank_ite, ite_self, forEach_in,
        implies_true]
    | refine forEach_next (fun _ _ => ?_) ?_
    | split

theorem State.slowLatch_in {m : Part → Bool} (h_trav : m .trav = true) (h_bstr : m .bstr = true) (h_ropes : m .ropes = true) (h_evlog : m .evlog =
    true) (h_belay : m .belay = true) (h_irq : m .irq = true) (x0 : State) (x1 : Nat) (x2 : Bool) :
    State.blank m (State.slowLatch x0 x1 x2) = State.blank m x0 := by
  unfold State.slowLatch
  repeat' first
    | simp only [h_trav, h_bstr, h_ropes, h_evlog, h_belay, h_irq, State.modBStr_in, State.checkCopies_in, State.modTrav_in, State.missedSlow_in,
        State.modBelay_in, State.modRope_in, blank_ite, ite_self, forEach_in, implies_true]
    | refine forEach_next (fun _ _ => ?_) ?_
    | split

theorem State.slowBoundary_in {m : Part → Bool} (h_trav : m .trav = true) (h_bstr : m .bstr = true) (h_ropes : m .ropes = true) (h_evlog : m .evlog
    = true) (h_belay : m .belay = true) (h_irq : m .irq = true) (x0 : State) (x1 : Nat) (x2 : Bool) :
    State.blank m (State.slowBoundary x0 x1 x2).1 = State.blank m x0 := by
  unfold State.slowBoundary
  repeat' first
    | simp only [h_trav, h_bstr, h_ropes, h_evlog, h_belay, h_irq, State.modTrav_in, State.slowLatch_in, blank_ite, ite_self, forEach_in,
        implies_true]
    | refine forEach_next (fun _ _ => ?_) ?_
    | split

theorem State.openBuf_in {m : Part → Bool} (h_evlog : m .evlog = true) (h_irq : m .irq = true) (h_trav : m .trav = true) (x0 : State) (x1 : Nat)
    (x2 : Bool) (x3 : Bool) :
    State.blank m (State.openBuf x0 x1 x2 x3) = State.blank m x0 := by
  unfold State.openBuf
  repeat' first
    | simp only [h_evlog, h_irq, h_trav, State.event_in, State.modTrav_in, State.modBuf_in, blank_ite, ite_self, implies_true]
    | split

theorem State.triggerRope_in {m : Part → Bool} (h_ropes : m .ropes = true) (h_evlog : m .evlog = true) (h_trav : m .trav = true) (h_irq : m .irq =
    true) (h_bal : m .bal = true) (x0 : State) (x1 : Fin 8) (x2 : Nat) (x3 : Bool) (x4 : Fin 40) :
    State.blank m (State.triggerRope x0 x1 x2 x3 x4) = State.blank m x0 := by
  unfold State.triggerRope
  repeat' first
    | simp only [h_ropes, h_evlog, h_trav, h_irq, h_bal, State.modBuf_in, State.event_in, State.noteShort_in, State.zeroString_in, State.modEnd_in,
        State.portStat_in, State.predict_in, State.sendFrame_in, State.modRope_in, blank_ite, ite_self, forEach_in, implies_true]
    | refine forEach_next (fun _ _ => ?_) ?_
    | split

theorem State.linkEntries_in {m : Part → Bool} (h_banks : m .banks = true) (h_trav : m .trav = true) (x0 : State) (x1 : Nat) (x2 : Vector (Option
    Nat) 4) :
    State.blank m (State.linkEntries x0 x1 x2) = State.blank m x0 := by
  unfold State.linkEntries
  repeat' first
    | simp only [h_banks, h_trav, State.modBank_in, State.modTrav_in, blank_ite, ite_self, forEach_in, implies_true]
    | refine forEach_next (fun _ _ => ?_) ?_
    | split

theorem State.noteSat_in {m : Part → Bool} (h_evlog : m .evlog = true) (h_irq : m .irq = true) (h_corr : m .corr = true) (x0 : State) (x1 : Fin
    40) (x2 : Nat) :
    State.blank m (State.noteSat x0 x1 x2) = State.blank m x0 := by
  unfold State.noteSat
  repeat' first
    | simp only [h_evlog, h_irq, h_corr, State.event_in, State.irqRaise_in, State.modCorr_in, blank_ite, ite_self, implies_true]
    | split

theorem State.strBandStep_in {m : Part → Bool} (h_corr : m .corr = true) (h_evlog : m .evlog = true) (h_irq : m .irq = true) (x0 : State) (x1 :
    Fin 40) (x2 : Nat) (x3 : Rat) (x4 : Bool) (x5 : Bool) :
    State.blank m (State.strBandStep x0 x1 x2 x3 x4 x5).1 = State.blank m x0 := by
  unfold State.strBandStep
  repeat' first
    | simp only [h_corr, h_evlog, h_irq, State.modCorr_in, State.noteSat_in, blank_ite, ite_self, implies_true]
    | split

theorem State.cellBandStep_in {m : Part → Bool} (h_corr : m .corr = true) (h_evlog : m .evlog = true) (h_irq : m .irq = true) (x0 : State) (x1 :
    Fin 40) (x2 : Nat) (x3 : Nat) (x4 : Rat) (x5 : Bool) (x6 : Bool) (x7 : Bool) (x8 : Rat) (x9 : Rat) :
    State.blank m (State.cellBandStep x0 x1 x2 x3 x4 x5 x6 x7 x8 x9) = State.blank m x0 := by
  unfold State.cellBandStep
  repeat' first
    | simp only [h_corr, h_evlog, h_irq, State.modCorr_in, State.noteSat_in, blank_ite, ite_self, implies_true]
    | split

theorem State.corrString_in {m : Part → Bool} (h_corr : m .corr = true) (h_evlog : m .evlog = true) (h_irq : m .irq = true) (x0 : State) (x1 :
    Fin 40) (x2 : CorrIn) :
    State.blank m (State.corrString x0 x1 x2) = State.blank m x0 := by
  unfold State.corrString
  dsimp only
  refine (forEach_in (fun _ _ => ?_) _ _).trans ?_
  · repeat' first
      | simp only [State.cellBandStep_in, State.modCorr_in, forEach_in, blank_ite, ite_self, implies_true, h_corr, h_evlog, h_irq]
      | refine forEach_next (fun _ _ => ?_) ?_
      | split
  · refine Eq.trans (foldl_fst_in (fun p b => ?_) _ _) (State.modCorr_in h_corr _ _)
    exact State.strBandStep_in h_corr h_evlog h_irq _ _ _ _ _ _

theorem State.noteExcitation_in {m : Part → Bool} (h_corr : m .corr = true) (h_evlog : m .evlog = true) (h_irq : m .irq = true) (x0 : State) :
    State.blank m (State.noteExcitation x0) = State.blank m x0 := by
  unfold State.noteExcitation
  repeat' first
    | simp only [h_corr, h_evlog, h_irq, State.modCorr_in, State.event_in, State.irqRaise_in, blank_ite, ite_self, forEach_in, implies_true]
    | refine forEach_next (fun _ _ => ?_) ?_
    | split

theorem State.clearSums_in {m : Part → Bool} (h_corr : m .corr = true) (x0 : State) :
    State.blank m (State.clearSums x0) = State.blank m x0 := by
  unfold State.clearSums
  repeat' first
    | simp only [h_corr, State.modCorr_in, blank_ite, ite_self, implies_true]
    | split

theorem State.learnR_in {m : Part → Bool} (h_est : m .est = true) (x0 : State) (x1 : Fin 40) (x2 : Nat) (x3 : Int) :
    State.blank m (State.learnR x0 x1 x2 x3) = State.blank m x0 := by
  unfold State.learnR
  repeat' first
    | simp only [h_est, State.modCell_in, blank_ite, ite_self, implies_true]
    | split

theorem State.solveCell_in {m : Part → Bool} (h_corr : m .corr = true) (h_est : m .est = true) (x0 : State) (x1 : Batch) (x2 : Rat) (x3 : Fin 40)
    (x4 : Nat) (x5 : Nat) :
    State.blank m (State.solveCell x0 x1 x2 x3 x4 x5) = State.blank m x0 := by
  unfold State.solveCell
  repeat' first
    | simp only [h_corr, h_est, State.modCorr_in, State.learnR_in, blank_ite, ite_self, implies_true]
    | split

theorem State.solveBatch_in {m : Part → Bool} (h_corr : m .corr = true) (h_est : m .est = true) (x0 : State) (x1 : Batch) :
    State.blank m (State.solveBatch x0 x1) = State.blank m x0 := by
  unfold State.solveBatch
  repeat' first
    | simp only [h_corr, h_est, State.modCorr_in, State.solveCell_in, blank_ite, ite_self, forEach_in, implies_true]
    | refine forEach_next (fun _ _ => ?_) ?_
    | split

theorem State.writeArea_in {m : Part → Bool} (h_irq : m .irq = true) (h_corr : m .corr = true) (h_est : m .est = true) (x0 : State) (x1 : Batch) :
    State.blank m (State.writeArea x0 x1) = State.blank m x0 := by
  unfold State.writeArea
  repeat' first
    | simp only [h_irq, h_corr, h_est, State.irqRaise_in, State.modCorr_in, State.solveBatch_in, blank_ite, ite_self, implies_true]
    | split

theorem State.endBatch_in {m : Part → Bool} (h_corr : m .corr = true) (h_irq : m .irq = true) (h_evlog : m .evlog = true) (h_est : m .est = true)
    (x0 : State) :
    State.blank m (State.endBatch x0) = State.blank m x0 := by
  unfold State.endBatch
  repeat' first
    | simp only [h_corr, h_irq, h_evlog, h_est, State.noteExcitation_in, State.modCorr_in, State.clearSums_in, State.writeArea_in,
        State.event_in, blank_ite, ite_self, implies_true]
    | split

theorem State.newPeriod_in {m : Part → Bool} (h_corr : m .corr = true) (h_irq : m .irq = true) (h_evlog : m .evlog = true) (h_est : m .est =
    true) (x0 : State) (x1 : Nat) :
    State.blank m (State.newPeriod x0 x1) = State.blank m x0 := by
  unfold State.newPeriod
  repeat' first
    | simp only [h_corr, h_irq, h_evlog, h_est, State.endBatch_in, State.modCorr_in, State.event_in, blank_ite, ite_self, forEach_in, implies_true]
    | refine forEach_next (fun _ _ => ?_) ?_
    | split

theorem State.sdString_in {m : Part → Bool} (h_corr : m .corr = true) (h_evlog : m .evlog = true) (h_irq : m .irq = true) (x0 : State) (x1 : Fin 40) :
    State.blank m (State.sdString x0 x1) = State.blank m x0 := by
  unfold State.sdString
  repeat' first
    | simp only [h_corr, h_evlog, h_irq, State.modCorr_in, State.event_in, blank_ite, ite_self, forEach_in, implies_true]
    | refine forEach_next (fun _ _ => ?_) ?_
    | split

theorem State.learnCap_in {m : Part → Bool} (h_evlog : m .evlog = true) (h_irq : m .irq = true) (h_est : m .est = true) (x0 : State) (x1 : Fin
    40) (x2 : Nat) (x3 : CellEst) (x4 : Anchor) :
    State.blank m (State.learnCap x0 x1 x2 x3 x4).1 = State.blank m x0 := by
  unfold State.learnCap
  repeat' first
    | simp only [h_evlog, h_irq, h_est, State.event_in, State.modEst_in, blank_ite, ite_self, implies_true]
    | split

theorem State.anchor_in {m : Part → Bool} (h_evlog : m .evlog = true) (h_irq : m .irq = true) (h_est : m .est = true) (x0 : State) (x1 : Fin 40)
    (x2 : Nat) (x3 : Nat) (x4 : List Sample) (x5 : Rat) (x6 : CellEst) :
    State.blank m (State.anchor x0 x1 x2 x3 x4 x5 x6).1 = State.blank m x0 := by
  unfold State.anchor
  repeat' first
    | simp only [h_evlog, h_irq, h_est, State.learnCap_in, blank_ite, ite_self, implies_true]
    | split

theorem State.maybeAnchor_in {m : Part → Bool} (h_evlog : m .evlog = true) (h_irq : m .irq = true) (h_est : m .est = true) (x0 : State) (x1 : Fin
    40) (x2 : Nat) (x3 : Nat) (x4 : List Sample) (x5 : Bool) (x6 : Bool) (x7 : CellEst) :
    State.blank m (State.maybeAnchor x0 x1 x2 x3 x4 x5 x6 x7).1 = State.blank m x0 := by
  unfold State.maybeAnchor
  repeat' first
    | simp only [h_evlog, h_irq, h_est, State.anchor_in, blank_ite, ite_self, implies_true]
    | split

theorem State.takeProfile_in {m : Part → Bool} (h_est : m .est = true) (h_evlog : m .evlog = true) (h_irq : m .irq = true) (x0 : State) (x1 : Fin
    40) :
    State.blank m (State.takeProfile x0 x1) = State.blank m x0 := by
  unfold State.takeProfile
  repeat' first
    | simp only [h_est, h_evlog, h_irq, State.modCell_in, State.event_in, State.modEst_in, blank_ite, ite_self, forEach_in, implies_true]
    | refine forEach_next (fun _ _ => ?_) ?_
    | split

theorem State.takeCharge_in {m : Part → Bool} (h_est : m .est = true) (h_corr : m .corr = true) (x0 : State) (x1 : Fin 40) (x2 : Sample) :
    State.blank m (State.takeCharge x0 x1 x2) = State.blank m x0 := by
  unfold State.takeCharge
  repeat' first
    | simp only [h_est, h_corr, State.modEst_in, State.modCorr_in, blank_ite, ite_self, forEach_in, implies_true]
    | refine forEach_next (fun _ _ => ?_) ?_
    | split

theorem State.takeRest_in {m : Part → Bool} (h_evlog : m .evlog = true) (h_irq : m .irq = true) (h_est : m .est = true) (x0 : State) (x1 : Fin 40)
    (x2 : Sample) :
    State.blank m (State.takeRest x0 x1 x2).1 = State.blank m x0 := by
  unfold State.takeRest
  repeat' first
    | simp only [h_evlog, h_irq, h_est, State.event_in, State.modEst_in, blank_ite, ite_self, forEach_in, implies_true]
    | refine forEach_next (fun _ _ => ?_) ?_
    | split

theorem State.stepCell_in {m : Part → Bool} (h_evlog : m .evlog = true) (h_est : m .est = true) (h_irq : m .irq = true) (x0 : State) (x1 : Fin 40)
    (x2 : Sample) (x3 : Nat) (x4 : List Sample) (x5 : StepIn) (x6 : List Sample) (x7 : Bool) (x8 : Bool) (x9 : Nat) :
    State.blank m (State.stepCell x0 x1 x2 x3 x4 x5 x6 x7 x8 x9) = State.blank m x0 := by
  unfold State.stepCell
  repeat' first
    | simp only [h_evlog, h_est, h_irq, State.modCell_in, State.event_in, State.maybeAnchor_in, blank_ite, ite_self, forEach_in, implies_true]
    | refine forEach_next (fun _ _ => ?_) ?_
    | split

theorem State.stepCharge_in {m : Part → Bool} (h_est : m .est = true) (x0 : State) (x1 : Fin 40) (x2 : Nat) :
    State.blank m (State.stepCharge x0 x1 x2) = State.blank m x0 := by
  unfold State.stepCharge
  repeat' first
    | simp only [h_est, State.modEst_in, blank_ite, ite_self, implies_true]
    | split

theorem State.stepLimits_in {m : Part → Bool} (h_est : m .est = true) (h_evlog : m .evlog = true) (h_irq : m .irq = true) (x0 : State) (x1 : Fin
    40) (x2 : Rat) :
    State.blank m (State.stepLimits x0 x1 x2) = State.blank m x0 := by
  unfold State.stepLimits
  repeat' first
    | simp only [h_est, h_evlog, h_irq, State.modEst_in, State.event_in, blank_ite, ite_self, implies_true]
    | split

theorem State.bankLimits_in {m : Part → Bool} (h_est : m .est = true) (x0 : State) (x1 : Fin 4) (x2 : Rat) :
    State.blank m (State.bankLimits x0 x1 x2) = State.blank m x0 := by
  unfold State.bankLimits
  repeat' first
    | simp only [h_est, State.modEst_in, blank_ite, ite_self, implies_true]
    | split

theorem State.stepReported_in {m : Part → Bool} (h_est : m .est = true) (x0 : State) (x1 : Rat) :
    State.blank m (State.stepReported x0 x1) = State.blank m x0 := by
  unfold State.stepReported
  repeat' first
    | simp only [h_est, State.modEst_in, blank_ite, ite_self, forEach_in, implies_true]
    | refine forEach_next (fun _ _ => ?_) ?_
    | split

theorem State.checkWear_in {m : Part → Bool} (h_evlog : m .evlog = true) (h_irq : m .irq = true) (h_health : m .health = true) (x0 : State) :
    State.blank m (State.checkWear x0) = State.blank m x0 := by
  unfold State.checkWear
  repeat' first
    | simp only [h_evlog, h_irq, h_health, State.event_in, State.irqRaise_in, State.modHealth_in, blank_ite, ite_self, forEach_in, implies_true]
    | refine forEach_next (fun _ _ => ?_) ?_
    | split

theorem State.clearWear_in {m : Part → Bool} (h_health : m .health = true) (x0 : State) :
    State.blank m (State.clearWear x0) = State.blank m x0 := by
  unfold State.clearWear
  repeat' first
    | simp only [h_health, State.modHealth_in, blank_ite, ite_self, implies_true]
    | split

theorem State.stepString_in {m : Part → Bool} (h_est : m .est = true) (h_evlog : m .evlog = true) (h_irq : m .irq = true) (h_corr : m .corr = true)
    (x0 : State) (x1 : Sample) (x2 : Nat) (x3 : List Sample) (x4 : Fin 40) :
    State.blank m (State.stepString x0 x1 x2 x3 x4) = State.blank m x0 := by
  unfold State.stepString
  repeat' first
    | simp only [h_est, h_evlog, h_irq, h_corr, State.takeRest_in, State.stepCharge_in, State.stepLimits_in, State.stepCell_in, State.takeCharge_in,
        blank_ite, ite_self, forEach_in, implies_true]
    | refine forEach_next (fun _ _ => ?_) ?_
    | split

theorem State.clearRecorder_in {m : Part → Bool} (h_evlog : m .evlog = true) (h_irq : m .irq = true) (h_dict : m .dict = true) (x0 : State)
    (x1 : SealHead) :
    State.blank m (State.clearRecorder x0 x1) = State.blank m x0 := by
  unfold State.clearRecorder
  repeat' first
    | simp only [h_evlog, h_irq, h_dict, State.noteFill_in, State.flushRecords_in, State.storeCfg_in, State.stage_in, blank_set_evlog, blank_ite,
        ite_self, implies_true]
    | split

theorem State.applyRateLimit_in {m : Part → Bool} (h_dict : m .dict = true) (h_values : m .values = true) (h_evlog : m .evlog = true) (x0 :
    State) (x1 : Nat) (x2 : Nat) :
    AppliedIn m x0 (State.applyRateLimit x0 x1 x2) := by
  unfold State.applyRateLimit
  repeat' first
    | simp only [h_dict, h_values, h_evlog, State.setVal_in, State.setBucket_in, appliedIn_ok, appliedIn_error, blank_ite, ite_self, implies_true]
    | split

theorem State.readWindow_in {m : Part → Bool} (h_dict : m .dict = true) (x0 : State) (x1 : Fin 64) :
    State.blank m (State.readWindow x0 x1).1 = State.blank m x0 := by
  unfold State.readWindow
  repeat' first
    | simp only [h_dict, State.modPartner_in, blank_ite, ite_self, implies_true]
    | split

theorem State.clearBlock_in {m : Part → Bool} (h_start : m .start = true) (h_supply : m .supply = true) (h_trav : m .trav = true) (h_corr : m
    .corr = true) (h_est : m .est = true) (h_belay : m .belay = true) (h_io : m .io = true) (x0 : State) (x1 : EntryRow) (x2 : Nat) (x3 : List Byte) :
    State.blank m (State.clearBlock x0 x1 x2 x3) = State.blank m x0 := by
  unfold State.clearBlock
  repeat' first
    | simp only [h_start, h_supply, h_trav, h_corr, h_est, h_belay, h_io, State.modStart_in, State.modSupply_in, State.modTrav_in,
        State.modCorr_in, State.modEst_in, State.modBelay_in, State.modQ_in, State.modSm_in, blank_ite, ite_self, forEach_in, implies_true]
    | refine forEach_next (fun _ _ => ?_) ?_
    | split

theorem State.clearBank_in {m : Part → Bool} (h_banks : m .banks = true) (h_gates : m .gates = true) (h_io : m .io = true) (x0 : State) (x1 : Fin
    4) (x2 : EntryRow) (x3 : Nat) (x4 : List Byte) :
    State.blank m (State.clearBank x0 x1 x2 x3 x4) = State.blank m x0 := by
  unfold State.clearBank
  repeat' first
    | simp only [h_banks, h_gates, h_io, State.modBank_in, State.modGate_in, State.modIn_in, blank_ite, ite_self, forEach_in, implies_true]
    | refine forEach_next (fun _ _ => ?_) ?_
    | split

theorem State.clearString_in {m : Part → Bool} (h_strs : m .strs = true) (h_ropes : m .ropes = true) (h_gates : m .gates = true) (h_bstr : m
    .bstr = true) (x0 : State) (x1 : Fin 40) (x2 : EntryRow) (x3 : Nat) (x4 : List Byte) :
    State.blank m (State.clearString x0 x1 x2 x3 x4) = State.blank m x0 := by
  unfold State.clearString
  repeat' first
    | simp only [h_strs, h_ropes, h_gates, h_bstr, State.modStr_in, State.modRope_in, State.modGate_in, State.modBStr_in, blank_ite, ite_self,
        implies_true]
    | split

theorem State.clearDevice_in {m : Part → Bool} (h_evlog : m .evlog = true) (h_cans : m .cans = true) (h_stream : m .stream = true) (h_eths : m
    .eths = true) (h_therm : m .therm = true) (h_store : m .store = true) (h_health : m .health = true) (h_seng : m .seng = true) (x0 : State)
    (x1 : EntryRow) (x2 : Nat) (x3 : Nat) (x4 : List Byte) :
    State.blank m (State.clearDevice x0 x1 x2 x3 x4) = State.blank m x0 := by
  unfold State.clearDevice
  repeat' first
    | simp only [h_evlog, h_cans, h_stream, h_eths, h_therm, h_store, h_health, h_seng, State.modCan_in, State.modMo_in, State.modStream_in,
        State.modEth_in, State.modTherm_in, State.modStore_in, State.modHealth_in, State.modSeng_in, blank_set_evlog, blank_ite, ite_self,
        implies_true]
    | split

theorem State.clearFields_in {m : Part → Bool} (h_strs : m .strs = true) (h_ropes : m .ropes = true) (h_gates : m .gates = true) (h_bstr : m
    .bstr = true) (h_evlog : m .evlog = true) (h_cans : m .cans = true) (h_stream : m .stream = true) (h_eths : m .eths = true) (h_therm : m
    .therm = true) (h_store : m .store = true) (h_health : m .health = true) (h_seng : m .seng = true) (h_start : m .start = true) (h_supply : m
    .supply = true) (h_trav : m .trav = true) (h_corr : m .corr = true) (h_est : m .est = true) (h_belay : m .belay = true) (h_io : m .io = true)
    (h_banks : m .banks = true) (x0 : State) (x1 : EntryRow) (x2 : Nat) (x3 : Nat) (x4 : List Byte) :
    State.blank m (State.clearFields x0 x1 x2 x3 x4) = State.blank m x0 := by
  unfold State.clearFields
  repeat' first
    | simp only [h_strs, h_ropes, h_gates, h_bstr, h_evlog, h_cans, h_stream, h_eths, h_therm, h_store, h_health, h_seng, h_start, h_supply,
        h_trav, h_corr, h_est, h_belay, h_io, h_banks, State.clearBlock_in, State.clearBank_in, State.clearString_in, State.clearDevice_in,
        blank_ite, ite_self, implies_true]
    | split

theorem State.applyBlock_in {m : Part → Bool} (h_evlog : m .evlog = true) (h_dict : m .dict = true) (h_values : m .values = true) (h_bal : m .bal
    = true) (h_cores : m .cores = true) (h_io : m .io = true) (h_mode : m .mode = true) (h_irq : m .irq = true) (h_ropes : m .ropes = true)
    (h_trav : m .trav = true) (h_belay : m .belay = true) (h_bstr : m .bstr = true) (h_therm : m .therm = true) (h_clock : m .clock = true)
    (h_cans : m .cans = true) (h_eths : m .eths = true) (h_start : m .start = true) (h_gates : m .gates = true) (h_corr : m .corr = true) (h_est
    : m .est = true) (h_strs : m .strs = true) (h_banks : m .banks = true) (h_store : m .store = true) (h_utcBase : m .utcBase = true) (h_utcAt :
    m .utcAt = true) (h_supply : m .supply = true) (x0 : State) (x1 : EntryRow) (x2 : Nat) (x3 : List Byte) :
    AppliedIn m x0 (State.applyBlock x0 x1 x2 x3) := by
  unfold State.applyBlock
  repeat' first
    | simp only [h_evlog, h_dict, h_values, h_bal, h_cores, h_io, h_mode, h_irq, h_ropes, h_trav, h_belay, h_bstr, h_therm, h_clock, h_cans,
        h_eths, h_start, h_gates, h_corr, h_est, h_strs, h_banks, h_store, h_utcBase, h_utcAt, h_supply, State.applyBlockState_in,
        State.applyRecess_in, State.applyBalMode_in, State.applyCampEnter_in, State.wake_in, State.applyCampWindow_in, State.applyWakeOutCfg_in,
        State.applyLearnWriteReq_in, State.applyTpClear_in, State.applyQRequest_in, State.applyQDrop_in, State.applyQClear_in, State.setVal_in,
        State.storeValue_in, appliedIn_ok, appliedIn_error, blank_ite, ite_self, implies_true]
    | split

theorem State.applyBankTests_in {m : Part → Bool} (h_evlog : m .evlog = true) (h_irq : m .irq = true) (h_gates : m .gates = true) (x0 : State)
    (x1 : Fin 4) (x2 : EntryRow) (x3 : List Byte) :
    AppliedIn m x0 (State.applyBankTests x0 x1 x2 x3) := by
  unfold State.applyBankTests
  repeat' first
    | simp only [h_evlog, h_irq, h_gates, State.applySelfTest_in, State.modGate_in, appliedIn_ok, appliedIn_error, blank_ite, ite_self,
        forEach_in, implies_true]
    | refine forEach_next (fun _ _ => ?_) ?_
    | split

theorem State.applyBank_in {m : Part → Bool} (h_evlog : m .evlog = true) (h_irq : m .irq = true) (h_strs : m .strs = true) (h_banks : m .banks =
    true) (h_gates : m .gates = true) (h_dict : m .dict = true) (h_values : m .values = true) (h_mode : m .mode = true) (h_io : m .io = true) (x0
    : State) (x1 : Fin 4) (x2 : EntryRow) (x3 : Nat) (x4 : List Byte) :
    AppliedIn m x0 (State.applyBank x0 x1 x2 x3 x4) := by
  unfold State.applyBank
  repeat' first
    | simp only [h_evlog, h_irq, h_strs, h_banks, h_gates, h_dict, h_values, h_mode, h_io, State.openBank_in, State.applyFaultClear_in,
        State.applyBankTests_in, State.applyGateClear_in, State.storeValue_in, appliedIn_ok, appliedIn_error, blank_ite, ite_self, implies_true]
    | split

theorem State.applyString_in {m : Part → Bool} (h_banks : m .banks = true) (h_evlog : m .evlog = true) (h_irq : m .irq = true) (h_strs : m .strs =
    true) (h_gates : m .gates = true) (h_dict : m .dict = true) (h_values : m .values = true) (h_ropes : m .ropes = true) (h_bal : m .bal = true)
    (h_mode : m .mode = true) (h_io : m .io = true) (h_trav : m .trav = true) (x0 : State) (x1 : Fin 40) (x2 : EntryRow) (x3 : Nat) (x4 : List Byte)
    :
    AppliedIn m x0 (State.applyString x0 x1 x2 x3 x4) := by
  unfold State.applyString
  repeat' first
    | simp only [h_banks, h_evlog, h_irq, h_strs, h_gates, h_dict, h_values, h_ropes, h_bal, h_mode, h_io, h_trav, State.applyRopeModeReq_in,
        State.broadcastConfig_in, State.applyBalMask_in, State.applyRollCall_in, State.applyExclude_in, State.storeValue_in, State.applyOpen_in,
        State.applySelfTest_in, State.applyStatsClear_in, State.runRope_in, State.setVal_in, State.applyTripClear_in, appliedIn_ok, appliedIn_error,
        blank_ite, ite_self, forEach_in, implies_true]
    | refine forEach_next (fun _ _ => ?_) ?_
    | split

theorem State.applyCan_in {m : Part → Bool} (h_cans : m .cans = true) (h_dict : m .dict = true) (h_values : m .values = true) (h_evlog : m .evlog
    = true) (h_irq : m .irq = true) (h_clock : m .clock = true) (x0 : State) (x1 : Fin 3) (x2 : EntryRow) (x3 : Nat) (x4 : List Byte) :
    AppliedIn m x0 (State.applyCan x0 x1 x2 x3 x4) := by
  unfold State.applyCan
  repeat' first
    | simp only [h_cans, h_dict, h_values, h_evlog, h_irq, h_clock, State.applyCanMode_in, State.applyNodeId_in, State.applyTiming_in,
        State.recoverCan_in, State.clearDup_in, State.applyTxReq_in, State.applyCancel_in, State.applyTtCycles_in, State.applyTtRole_in,
        State.storeValue_in, appliedIn_ok, appliedIn_error, blank_ite, ite_self, implies_true]
    | split

theorem State.applyFilter_in {m : Part → Bool} (h_dict : m .dict = true) (h_values : m .values = true) (x0 : State) (x1 : EntryRow) (x2 : Nat)
    (x3 : Nat) (x4 : List Byte) :
    AppliedIn m x0 (State.applyFilter x0 x1 x2 x3 x4) := by
  unfold State.applyFilter
  repeat' first
    | simp only [h_dict, h_values, State.setVal_in, appliedIn_ok, appliedIn_error, blank_ite, ite_self, implies_true]
    | split

theorem State.applyEth_in {m : Part → Bool} (h_clock : m .clock = true) (h_stream : m .stream = true) (h_evlog : m .evlog = true) (h_dict : m
    .dict = true) (h_values : m .values = true) (h_irq : m .irq = true) (x0 : State) (x1 : EntryRow) (x2 : Nat) (x3 : List Byte) :
    AppliedIn m x0 (State.applyEth x0 x1 x2 x3) := by
  unfold State.applyEth
  repeat' first
    | simp only [h_clock, h_stream, h_evlog, h_dict, h_values, h_irq, State.storeValue_in, State.applyEthApply_in, State.noteSources_in,
        State.modClock_in, State.ptpRestart_in, State.noteStream_in, appliedIn_ok, appliedIn_error, blank_ite, ite_self, implies_true]
    | split

theorem State.applyRecorder_in {m : Part → Bool} (h_dict : m .dict = true) (h_values : m .values = true) (h_evlog : m .evlog = true) (h_irq : m
    .irq = true) (x0 : State) (x1 : Src) (x2 : EntryRow) (x3 : Nat) (x4 : List Byte) :
    AppliedIn m x0 (State.applyRecorder x0 x1 x2 x3 x4) := by
  unfold State.applyRecorder
  repeat' first
    | simp only [h_dict, h_values, h_evlog, h_irq, State.applyRateLimit_in, State.noteFill_in, State.storeValue_in, State.modPartner_in,
        appliedIn_ok, appliedIn_error, blank_ite, ite_self, implies_true]
    | split

theorem State.storeConfig_in {m : Part → Bool} (h_dict : m .dict = true) (h_irq : m .irq = true) (x0 : State) :
    State.blank m (State.storeConfig x0) = State.blank m x0 := by
  unfold State.storeConfig
  repeat' first
    | simp only [h_dict, h_irq, State.writeCfg_in, blank_ite, ite_self, forEach_in, implies_true]
    | refine forEach_next (fun _ _ => ?_) ?_
    | split

theorem State.applyStore_in {m : Part → Bool} (h_dict : m .dict = true) (h_values : m .values = true) (h_irq : m .irq = true) (x0 : State) (x1 :
    Src) (x2 : EntryRow) (x3 : Nat) (x4 : List Byte) :
    AppliedIn m x0 (State.applyStore x0 x1 x2 x3 x4) := by
  unfold State.applyStore
  repeat' first
    | simp only [h_dict, h_values, h_irq, State.storeConfig_in, State.modPartner_in, State.storeValue_in, appliedIn_ok, appliedIn_error, blank_ite,
        ite_self, forEach_in, implies_true]
    | refine forEach_next (fun _ _ => ?_) ?_
    | split

theorem State.applyHealth_in {m : Part → Bool} (h_evlog : m .evlog = true) (h_fc : m .fc = true) (h_health : m .health = true) (h_irq : m .irq =
    true) (h_ropes : m .ropes = true) (h_dict : m .dict = true) (h_values : m .values = true) (x0 : State) (x1 : EntryRow) (x2 : Nat) (x3 : List
    Byte) :
    AppliedIn m x0 (State.applyHealth x0 x1 x2 x3) := by
  unfold State.applyHealth
  repeat' first
    | simp only [h_evlog, h_fc, h_health, h_irq, h_ropes, h_dict, h_values, State.applyPhyRestore_in, State.clearWear_in, State.storeValue_in,
        appliedIn_ok, appliedIn_error, blank_ite, ite_self, implies_true]
    | split

theorem State.applyErase_in {m : Part → Bool} (h_seng : m .seng = true) (h_dict : m .dict = true) (h_values : m .values = true) (x0 : State) (x1 :
    Src) (x2 : Nat) :
    AppliedIn m x0 (State.applyErase x0 x1 x2) := by
  unfold State.applyErase
  repeat' first
    | simp only [h_seng, h_dict, h_values, State.modSeng_in, State.setVal_in, appliedIn_ok, appliedIn_error, blank_ite, ite_self, forEach_in,
        implies_true]
    | refine forEach_next (fun _ _ => ?_) ?_
    | split

theorem State.applyPartner_in {m : Part → Bool} (h_dict : m .dict = true) (h_values : m .values = true) (x0 : State) (x1 : EntryRow) (x2 : Nat)
    (x3 : List Byte) :
    AppliedIn m x0 (State.applyPartner x0 x1 x2 x3) := by
  unfold State.applyPartner
  repeat' first
    | simp only [h_dict, h_values, State.storeValue_in, appliedIn_ok, appliedIn_error, blank_ite, ite_self, implies_true]
    | split

theorem State.writeImage_in {m : Part → Bool} (h_seng : m .seng = true) (h_start : m .start = true) (x0 : State) (x1 : FwSession) (x2 : List Byte) :
    State.blank m (State.writeImage x0 x1 x2) = State.blank m x0 := by
  unfold State.writeImage
  repeat' first
    | simp only [h_seng, h_start, State.modSeng_in, State.modStart_in, blank_ite, ite_self, implies_true]
    | split

theorem State.applyImage_in {m : Part → Bool} (h_seng : m .seng = true) (h_start : m .start = true) (x0 : State) (x1 : Src) (x2 : List Byte) :
    AppliedIn m x0 (State.applyImage x0 x1 x2) := by
  unfold State.applyImage
  repeat' first
    | simp only [h_seng, h_start, State.writeImage_in, appliedIn_ok, appliedIn_error, blank_ite, ite_self, implies_true]
    | split

theorem State.applyEntry_in {m : Part → Bool} (h_strs : m .strs = true) (h_ropes : m .ropes = true) (h_gates : m .gates = true) (h_bstr : m .bstr
    = true) (h_evlog : m .evlog = true) (h_cans : m .cans = true) (h_stream : m .stream = true) (h_eths : m .eths = true) (h_therm : m .therm =
    true) (h_store : m .store = true) (h_health : m .health = true) (h_seng : m .seng = true) (h_dict : m .dict = true) (h_values : m .values =
    true) (h_clock : m .clock = true) (h_irq : m .irq = true) (h_fc : m .fc = true) (h_bal : m .bal = true) (h_cores : m .cores = true) (h_io : m
    .io = true) (h_banks : m .banks = true) (h_start : m .start = true) (h_supply : m .supply = true) (h_trav : m .trav = true) (h_corr : m .corr
    = true) (h_est : m .est = true) (h_belay : m .belay = true) (h_mode : m .mode = true) (h_utcBase : m .utcBase = true) (h_utcAt : m .utcAt =
    true) (x0 : State) (x1 : Src) (x2 x3 : Nat) (x4 : List Byte) (x5 : EntryRow) :
    AppliedIn m x0 (State.applyEntry x0 x1 x2 x3 x4 x5) := by
  unfold State.applyEntry
  refine appliedIn_ite (appliedIn_ok.mpr (State.clearFields_in h_strs h_ropes h_gates h_bstr h_evlog h_cans h_stream h_eths h_therm h_store
      h_health h_seng h_start h_supply h_trav h_corr h_est h_belay h_io h_banks _ _ _ _ _)) ?_
  refine appliedIn_ite (State.applyCan_in h_cans h_dict h_values h_evlog h_irq h_clock _ _ _ _ _) ?_
  refine appliedIn_ite (State.applyMoCfg_in h_evlog h_irq h_cans h_dict h_values _ _ _ _) ?_
  refine appliedIn_ite (State.applyMoData_in h_cans h_dict h_values _ _ _ _) ?_
  refine appliedIn_ite (State.applyFilter_in h_dict h_values _ _ _ _ _) ?_
  refine appliedIn_ite (State.applyEth_in h_clock h_stream h_evlog h_dict h_values h_irq _ _ _ _) ?_
  refine appliedIn_ite (State.applyThrottleSelect_in h_evlog h_irq h_dict h_values _ _) ?_
  refine appliedIn_ite (State.applyRecorder_in h_dict h_values h_evlog h_irq _ _ _ _ _) ?_
  refine appliedIn_ite (State.applyStore_in h_dict h_values h_irq _ _ _ _ _) ?_
  refine appliedIn_ite (State.applyHealth_in h_evlog h_fc h_health h_irq h_ropes h_dict h_values _ _ _ _) ?_
  refine appliedIn_ite (appliedIn_ite (appliedIn_ok.mpr (State.submit_in h_seng h_irq h_evlog h_dict h_eths h_cans _ _ _))
    (appliedIn_ite (State.applyErase_in h_seng h_dict h_values _ _ _)
    (appliedIn_ite (State.applyImage_in h_seng h_start _ _ _) (appliedIn_ok.mpr rfl)))) ?_
  refine appliedIn_ite (State.applyPartner_in h_dict h_values _ _ _ _) ?_
  refine appliedIn_ite (State.applyBlock_in h_evlog h_dict h_values h_bal h_cores h_io h_mode h_irq h_ropes h_trav h_belay h_bstr h_therm h_clock
      h_cans h_eths h_start h_gates h_corr h_est h_strs h_banks h_store h_utcBase h_utcAt h_supply _ _ _ _) ?_
  refine appliedIn_ite (State.applyBank_in h_evlog h_irq h_strs h_banks h_gates h_dict h_values h_mode h_io _ _ _ _ _) ?_
  refine appliedIn_ite (State.applyString_in h_banks h_evlog h_irq h_strs h_gates h_dict h_values h_ropes h_bal h_mode h_io h_trav _ _ _ _ _) ?_
  exact appliedIn_ok.mpr (State.storeValue_in h_dict h_values _ _ _ _ _)

theorem entryAfter_in {m : Part → Bool} (h_dict : m .dict = true) (h_eths : m .eths = true) (h_evlog : m .evlog = true) (h_irq : m .irq = true)
    (h_cans : m .cans = true) (x0 : Nat) (x1 : Nat) (x2 : State) :
    State.blank m (entryAfter x0 x1 x2) = State.blank m x2 := by
  unfold entryAfter
  repeat' first
    | simp only [h_dict, h_eths, h_evlog, h_irq, h_cans, State.ethApply_in, blank_ite, ite_self, implies_true]
    | split

theorem State.plainWrite_in {m : Part → Bool} (h_waitingWrites : m .waitingWrites = true) (h_dict : m .dict = true) (h_evlog : m .evlog = true)
    (h_irq : m .irq = true) (h_strs : m .strs = true) (h_ropes : m .ropes = true) (h_gates : m .gates = true) (h_bstr : m .bstr = true) (h_cans :
    m .cans = true) (h_stream : m .stream = true) (h_eths : m .eths = true) (h_therm : m .therm = true) (h_store : m .store = true) (h_health : m
    .health = true) (h_seng : m .seng = true) (h_values : m .values = true) (h_clock : m .clock = true) (h_fc : m .fc = true) (h_bal : m .bal =
    true) (h_cores : m .cores = true) (h_io : m .io = true) (h_banks : m .banks = true) (h_start : m .start = true) (h_supply : m .supply = true)
    (h_trav : m .trav = true) (h_corr : m .corr = true) (h_est : m .est = true) (h_belay : m .belay = true) (h_mode : m .mode = true) (h_utcBase
    : m .utcBase = true) (h_utcAt : m .utcAt = true) (x0 : State) (x1 : Src) (x2 : Nat) (x3 : Nat) (x4 : List Byte) (x5 : optParam (Option (Nat ×
    List Byte)) none) :
    State.blank m (State.plainWrite x0 x1 x2 x3 x4 x5) = State.blank m x0 := by
  unfold State.plainWrite
  repeat' first
    | simp only [h_waitingWrites, h_dict, h_evlog, h_irq, h_strs, h_ropes, h_gates, h_bstr, h_cans, h_stream, h_eths, h_therm, h_store, h_health,
        h_seng, h_values, h_clock, h_fc, h_bal, h_cores, h_io, h_banks, h_start, h_supply, h_trav, h_corr, h_est, h_belay, h_mode, h_utcBase,
        h_utcAt, State.writeVia_in, State.applyEntry_in, entryAfter_in, blank_ite, ite_self, implies_true]
    | split

theorem State.sendChunk_in {m : Part → Bool} (h_dict : m .dict = true) (h_irq : m .irq = true) (h_eths : m .eths = true) (h_cans : m .cans =
    true) (x0 : State) (x1 : Src) (x2 : Nat) (x3 : Nat) (x4 : Nat) (x5 : List Byte) :
    State.blank m (State.sendChunk x0 x1 x2 x3 x4 x5) = State.blank m x0 := by
  unfold State.sendChunk
  repeat' first
    | simp only [h_dict, h_irq, h_eths, h_cans, State.send_in, State.keepTransfer_in, State.dropTransfer_in, blank_ite, ite_self, implies_true]
    | split

theorem State.readCopy_in {m : Part → Bool} (h_free : m .free = true) (h_cans : m .cans = true) (h_dict : m .dict = true) (x0 : State) (x1 : Src)
    (x2 x3 : Nat) (c : State × List Byte) (h : x0.readCopy x1 x2 x3 = .ok c) : State.blank m c.1 = State.blank m x0 := by
  unfold State.readCopy at h
  dsimp only at h
  repeat' split at h
  all_goals first
    | (cases h; done)
    | (cases h; simp only [State.readWindow_in, State.takeFree_in, State.modMo_in, blank_ite, ite_self, h_free, h_cans, h_dict])

theorem State.startRead_in {m : Part → Bool} (h_eths : m .eths = true) (h_irq : m .irq = true) (h_dict : m .dict = true) (h_free : m .free =
    true) (h_cans : m .cans = true) (h_evlog : m .evlog = true) (x0 : State) (x1 : Src) (x2 x3 : Nat) :
    State.blank m (State.startRead x0 x1 x2 x3) = State.blank m x0 := by
  unfold State.startRead
  dsimp only
  split
  · simp only [State.abort_in, State.newRequest_in, h_eths, h_irq, h_dict, h_free, h_cans, h_evlog]
  · rename_i h
    simp only [State.sendChunk_in, State.readCopy_in h_free h_cans h_dict _ _ _ _ _ h, State.newRequest_in, h_eths, h_irq, h_dict, h_free,
        h_cans, h_evlog]

theorem State.continueRead_in {m : Part → Bool} (h_eths : m .eths = true) (h_irq : m .irq = true) (h_dict : m .dict = true) (h_evlog : m .evlog =
    true) (h_cans : m .cans = true) (x0 : State) (x1 : Src) (x2 : Nat) (x3 : Nat) (x4 : Nat) :
    State.blank m (State.continueRead x0 x1 x2 x3 x4) = State.blank m x0 := by
  unfold State.continueRead
  repeat' first
    | simp only [h_eths, h_irq, h_dict, h_evlog, h_cans, State.receive_in, State.sendChunk_in, State.abort_in, State.dropTransfer_in, blank_ite,
        ite_self, implies_true]
    | split

theorem State.readVia_in {m : Part → Bool} (h_dict : m .dict = true) (h_eths : m .eths = true) (h_irq : m .irq = true) (h_free : m .free = true)
    (h_cans : m .cans = true) (h_evlog : m .evlog = true) (x0 : State) (x1 : Src) (x2 : Nat) (x3 : Nat) (x4 : Nat) :
    State.blank m (State.readVia x0 x1 x2 x3 x4) = State.blank m x0 := by
  unfold State.readVia
  repeat' first
    | simp only [h_dict, h_eths, h_irq, h_free, h_cans, h_evlog, State.abort_in, State.newRequest_in, State.startRead_in, State.continueRead_in,
        blank_ite, ite_self, implies_true]
    | split

theorem State.submitVia_in {m : Part → Bool} (h_dict : m .dict = true) (h_seng : m .seng = true) (h_eths : m .eths = true) (h_irq : m .irq = true)
    (h_evlog : m .evlog = true) (h_cans : m .cans = true) (x0 : State) (x1 : Src) (x2 : List Byte) (x3 : Option (Nat × List Byte)) :
    State.blank m (State.submitVia x0 x1 x2 x3) = State.blank m x0 := by
  unfold State.submitVia
  repeat' first
    | simp only [h_dict, h_seng, h_eths, h_irq, h_evlog, h_cans, State.newRequest_in, State.submit_in, State.noteSubmitted_in, State.refuseWrite_in,
        blank_ite, ite_self, forEach_in, implies_true]
    | refine forEach_next (fun _ _ => ?_) ?_
    | split

theorem State.completeWrite_in {m : Part → Bool} (h_dict : m .dict = true) (h_seng : m .seng = true) (h_waitingWrites : m .waitingWrites = true)
    (h_eths : m .eths = true) (h_irq : m .irq = true) (h_evlog : m .evlog = true) (h_strs : m .strs = true) (h_ropes : m .ropes = true) (h_gates
    : m .gates = true) (h_bstr : m .bstr = true) (h_cans : m .cans = true) (h_stream : m .stream = true) (h_therm : m .therm = true) (h_store : m
    .store = true) (h_health : m .health = true) (h_values : m .values = true) (h_clock : m .clock = true) (h_fc : m .fc = true) (h_bal : m .bal
    = true) (h_cores : m .cores = true) (h_io : m .io = true) (h_banks : m .banks = true) (h_start : m .start = true) (h_supply : m .supply =
    true) (h_trav : m .trav = true) (h_corr : m .corr = true) (h_est : m .est = true) (h_belay : m .belay = true) (h_mode : m .mode = true)
    (h_utcBase : m .utcBase = true) (h_utcAt : m .utcAt = true) (x0 : State) (x1 : Src) (x2 : Nat) (x3 : Nat) (x4 : List Byte) (x5 : Option (Nat
    × List Byte)) :
    State.blank m (State.completeWrite x0 x1 x2 x3 x4 x5) = State.blank m x0 := by
  unfold State.completeWrite
  repeat' first
    | simp only [h_dict, h_seng, h_waitingWrites, h_eths, h_irq, h_evlog, h_strs, h_ropes, h_gates, h_bstr, h_cans, h_stream, h_therm, h_store,
        h_health, h_values, h_clock, h_fc, h_bal, h_cores, h_io, h_banks, h_start, h_supply, h_trav, h_corr, h_est, h_belay, h_mode, h_utcBase,
        h_utcAt, State.submitVia_in, State.plainWrite_in, blank_ite, ite_self, implies_true]
    | split

theorem State.keepSegment_in {m : Part → Bool} (h_dict : m .dict = true) (h_irq : m .irq = true) (h_eths : m .eths = true) (h_cans : m .cans =
    true) (x0 : State) (x1 : Src) (x2 : Nat) (x3 : Nat) (x4 : Nat) (x5 : List Byte) :
    State.blank m (State.keepSegment x0 x1 x2 x3 x4 x5) = State.blank m x0 := by
  unfold State.keepSegment
  repeat' first
    | simp only [h_dict, h_irq, h_eths, h_cans, State.send_in, State.keepTransfer_in, blank_ite, ite_self, implies_true]
    | split

theorem State.imageSegment_in {m : Part → Bool} (h_eths : m .eths = true) (h_irq : m .irq = true) (h_evlog : m .evlog = true) (h_seng : m .seng =
    true) (h_dict : m .dict = true) (h_cans : m .cans = true) (h_start : m .start = true) (x0 : State) (x1 : Src) (x2 : Nat) (x3 : Nat) (x4 :
    List Byte) :
    State.blank m (State.imageSegment x0 x1 x2 x3 x4) = State.blank m x0 := by
  unfold State.imageSegment
  repeat' first
    | simp only [h_eths, h_irq, h_evlog, h_seng, h_dict, h_cans, h_start, State.receive_in, State.refuseWrite_in, State.dropTransfer_in,
        State.send_in, State.keepTransfer_in, State.writeImage_in, State.noteLast_in, State.answerWrite_in, blank_ite, ite_self, implies_true]
    | split

theorem State.writeMessage_in {m : Part → Bool} (h_evlog : m .evlog = true) (h_irq : m .irq = true) (h_seng : m .seng = true) (h_dict : m .dict =
    true) (h_eths : m .eths = true) (h_waitingWrites : m .waitingWrites = true) (h_cans : m .cans = true) (h_start : m .start = true) (h_strs : m
    .strs = true) (h_ropes : m .ropes = true) (h_gates : m .gates = true) (h_bstr : m .bstr = true) (h_stream : m .stream = true) (h_therm : m
    .therm = true) (h_store : m .store = true) (h_health : m .health = true) (h_values : m .values = true) (h_clock : m .clock = true) (h_fc : m .fc
    = true) (h_bal : m .bal = true) (h_cores : m .cores = true) (h_io : m .io = true) (h_banks : m .banks = true) (h_supply : m .supply = true)
    (h_trav : m .trav = true) (h_corr : m .corr = true) (h_est : m .est = true) (h_belay : m .belay = true) (h_mode : m .mode = true) (h_utcBase : m
    .utcBase = true) (h_utcAt : m .utcAt = true) (x0 : State) (x1 : Src) (x2 : Nat) (x3 : Nat) (x4 : Nat) (x5 : Nat) (x6 : List Byte) :
    State.blank m (State.writeMessage x0 x1 x2 x3 x4 x5 x6) = State.blank m x0 := by
  unfold State.writeMessage
  repeat' first
    | simp only [h_evlog, h_irq, h_seng, h_dict, h_eths, h_waitingWrites, h_cans, h_start, h_strs, h_ropes, h_gates, h_bstr, h_stream, h_therm,
        h_store, h_health, h_values, h_clock, h_fc, h_bal, h_cores, h_io, h_banks, h_supply, h_trav, h_corr, h_est, h_belay, h_mode, h_utcBase,
        h_utcAt, State.imageSegment_in, State.completeWrite_in, State.send_in, State.keepSegment_in, State.dropTransfer_in, State.receive_in,
        State.newRequest_in, State.refuseWrite_in, State.refuseService_in, blank_ite, ite_self, forEach_in, implies_true]
    | refine forEach_next (fun _ _ => ?_) ?_
    | split

theorem State.takeHeartbeat_in {m : Part → Bool} (h_eths : m .eths = true) (h_irq : m .irq = true) (h_dict : m .dict = true) (h_evlog : m .evlog
    = true) (h_cans : m .cans = true) (x0 : State) (x1 : Src) (x2 : Nat) :
    State.blank m (State.takeHeartbeat x0 x1 x2) = State.blank m x0 := by
  unfold State.takeHeartbeat
  repeat' first
    | simp only [h_eths, h_irq, h_dict, h_evlog, h_cans, State.receive_in, State.modDict_in, State.modPartner_in, State.send_in, blank_ite,
        ite_self, implies_true]
    | split

theorem State.partnerLeaves_in {m : Part → Bool} (h_evlog : m .evlog = true) (h_irq : m .irq = true) (h_dict : m .dict = true) (x0 : State) (x1 :
    Fin 64) (x2 : Src) :
    State.blank m (State.partnerLeaves x0 x1 x2) = State.blank m x0 := by
  unfold State.partnerLeaves
  repeat' first
    | simp only [h_evlog, h_irq, h_dict, State.event_in, State.modPartner_in, blank_ite, ite_self, implies_true]
    | split

theorem State.serveCan_in {m : Part → Bool} (h_heldReq : m .heldReq = true) (h_evlog : m .evlog = true) (h_irq : m .irq = true) (h_seng : m .seng
    = true) (h_dict : m .dict = true) (h_eths : m .eths = true) (h_waitingWrites : m .waitingWrites = true) (h_free : m .free = true) (h_cans : m
    .cans = true) (h_start : m .start = true) (h_strs : m .strs = true) (h_ropes : m .ropes = true) (h_gates : m .gates = true) (h_bstr : m .bstr
    = true) (h_stream : m .stream = true) (h_therm : m .therm = true) (h_store : m .store = true) (h_health : m .health = true) (h_values : m
    .values = true) (h_clock : m .clock = true) (h_fc : m .fc = true) (h_bal : m .bal = true) (h_cores : m .cores = true) (h_io : m .io = true)
    (h_banks : m .banks = true) (h_supply : m .supply = true) (h_trav : m .trav = true) (h_corr : m .corr = true) (h_est : m .est = true)
    (h_belay : m .belay = true) (h_mode : m .mode = true) (h_utcBase : m .utcBase = true) (h_utcAt : m .utcAt = true) (x0 : State) (x1 : Src) (x2
    : CanMessage) :
    State.blank m (State.serveCan x0 x1 x2) = State.blank m x0 := by
  unfold State.serveCan
  repeat' first
    | simp only [h_heldReq, h_evlog, h_irq, h_seng, h_dict, h_eths, h_waitingWrites, h_free, h_cans, h_start, h_strs, h_ropes, h_gates, h_bstr,
        h_stream, h_therm, h_store, h_health, h_values, h_clock, h_fc, h_bal, h_cores, h_io, h_banks, h_supply, h_trav, h_corr, h_est, h_belay,
        h_mode, h_utcBase, h_utcAt, State.unlessSwapping_in, State.readVia_in, State.writeMessage_in, State.takeHeartbeat_in, blank_ite,
        ite_self, implies_true]
    | split

theorem State.dictFrame_in {m : Part → Bool} (h_heldReq : m .heldReq = true) (h_evlog : m .evlog = true) (h_irq : m .irq = true) (h_seng : m
    .seng = true) (h_dict : m .dict = true) (h_eths : m .eths = true) (h_waitingWrites : m .waitingWrites = true) (h_free : m .free = true)
    (h_cans : m .cans = true) (h_start : m .start = true) (h_strs : m .strs = true) (h_ropes : m .ropes = true) (h_gates : m .gates = true)
    (h_bstr : m .bstr = true) (h_stream : m .stream = true) (h_therm : m .therm = true) (h_store : m .store = true) (h_health : m .health = true)
    (h_values : m .values = true) (h_clock : m .clock = true) (h_fc : m .fc = true) (h_bal : m .bal = true) (h_cores : m .cores = true) (h_io : m
    .io = true) (h_banks : m .banks = true) (h_supply : m .supply = true) (h_trav : m .trav = true) (h_corr : m .corr = true) (h_est : m .est =
    true) (h_belay : m .belay = true) (h_mode : m .mode = true) (h_utcBase : m .utcBase = true) (h_utcAt : m .utcAt = true) (x0 : State) (x1 :
    Fin 3) (x2 : CanFrame) (x3 : Bool) :
    State.blank m (State.dictFrame x0 x1 x2 x3) = State.blank m x0 := by
  unfold State.dictFrame
  repeat' first
    | simp only [h_heldReq, h_evlog, h_irq, h_seng, h_dict, h_eths, h_waitingWrites, h_free, h_cans, h_start, h_strs, h_ropes, h_gates, h_bstr,
        h_stream, h_therm, h_store, h_health, h_values, h_clock, h_fc, h_bal, h_cores, h_io, h_banks, h_supply, h_trav, h_corr, h_est, h_belay,
        h_mode, h_utcBase, h_utcAt, State.serveCan_in, blank_ite, ite_self, implies_true]
    | split

theorem State.readAtIrq_in {m : Part → Bool} (h_cans : m .cans = true) (x0 : State) (x1 : Fin 3) :
    State.blank m (State.readAtIrq x0 x1) = State.blank m x0 := by
  unfold State.readAtIrq
  repeat' first
    | simp only [h_cans, State.modMo_in, blank_ite, ite_self, forEach_in, implies_true]
    | refine forEach_next (fun _ _ => ?_) ?_
    | split

theorem State.safeEnter_in {m : Part → Bool} (h_trav : m .trav = true) (x0 : State) (x1 : Fin 3) (x2 : CanFrame) :
    State.blank m (State.safeEnter x0 x1 x2) = State.blank m x0 := by
  unfold State.safeEnter
  repeat' first
    | simp only [h_trav, State.modTrav_in, blank_ite, ite_self, forEach_in, implies_true]
    | refine forEach_next (fun _ _ => ?_) ?_
    | split

theorem State.passFrame_in {m : Part → Bool} (h_cans : m .cans = true) (h_io : m .io = true) (h_irq : m .irq = true) (h_evlog : m .evlog = true)
    (h_banks : m .banks = true) (h_heldReq : m .heldReq = true) (h_seng : m .seng = true) (h_dict : m .dict = true) (h_eths : m .eths = true)
    (h_waitingWrites : m .waitingWrites = true) (h_gates : m .gates = true) (h_strs : m .strs = true) (h_fc : m .fc = true) (h_health : m .health =
    true) (h_mode : m .mode = true) (h_free : m .free = true) (h_start : m .start = true) (h_ropes : m .ropes = true) (h_bstr : m .bstr = true)
    (h_stream : m .stream = true) (h_therm : m .therm = true) (h_store : m .store = true) (h_values : m .values = true) (h_clock : m .clock = true)
    (h_bal : m .bal = true) (h_cores : m .cores = true) (h_supply : m .supply = true) (h_trav : m .trav = true) (h_corr : m .corr = true) (h_est : m
    .est = true) (h_belay : m .belay = true) (h_utcBase : m .utcBase = true) (h_utcAt : m .utcAt = true) (x0 : State) (x1 : Fin 3) (x2 : CanRx) :
    State.blank m (State.passFrame x0 x1 x2) = State.blank m x0 := by
  unfold State.passFrame
  repeat' first
    | simp only [h_cans, h_io, h_irq, h_evlog, h_banks, h_heldReq, h_seng, h_dict, h_eths, h_waitingWrites, h_gates, h_strs, h_fc, h_health, h_mode,
        h_free, h_start, h_ropes, h_bstr, h_stream, h_therm, h_store, h_values, h_clock, h_bal, h_cores, h_supply, h_trav, h_corr, h_est, h_belay,
        h_utcBase, h_utcAt, State.filterFrame_in, State.safeEnter_in, State.readAtIrq_in, State.dictFrame_in, blank_ite, ite_self, forEach_in,
        implies_true]
    | refine forEach_next (fun _ _ => ?_) ?_
    | split

theorem State.nodeFrame_in {m : Part → Bool} (h_nodes : m .nodes = true) (x0 : State) (x1 : NodeRx) (x2 : Nat) (x3 : Nat) (x4 : Node → Bool) (x5 :
    Node → Node) :
    State.blank m (State.nodeFrame x0 x1 x2 x3 x4 x5) = State.blank m x0 := by
  unfold State.nodeFrame
  repeat' first
    | simp only [h_nodes, State.modNode_in, blank_ite, ite_self, forEach_in, implies_true]
    | refine forEach_next (fun _ _ => ?_) ?_
    | split

theorem State.applyOne_in {m : Part → Bool} (h_evlog : m .evlog = true) (h_irq : m .irq = true) (h_est : m .est = true) (h_gates : m .gates =
    true) (h_strs : m .strs = true) (h_ropes : m .ropes = true) (h_bstr : m .bstr = true) (h_cans : m .cans = true) (h_stream : m .stream = true)
    (h_eths : m .eths = true) (h_therm : m .therm = true) (h_store : m .store = true) (h_health : m .health = true) (h_seng : m .seng = true)
    (h_dict : m .dict = true) (h_values : m .values = true) (h_clock : m .clock = true) (h_fc : m .fc = true) (h_bal : m .bal = true) (h_cores :
    m .cores = true) (h_io : m .io = true) (h_banks : m .banks = true) (h_start : m .start = true) (h_supply : m .supply = true) (h_trav : m
    .trav = true) (h_corr : m .corr = true) (h_belay : m .belay = true) (h_mode : m .mode = true) (h_utcBase : m .utcBase = true) (h_utcAt : m
    .utcAt = true) (x0 : State) (x1 : SealedReq) (x2 : SealItem) :
    AppliedIn m x0 (State.applyOne x0 x1 x2) := by
  unfold State.applyOne
  split
  · simp only [appliedIn_error]
  · refine appliedIn_ite (by simp only [appliedIn_error]) (appliedIn_ite (appliedIn_ite (by simp only [appliedIn_error]) ?_)
      (appliedIn_ite (appliedIn_ite ?_ (appliedIn_ite ?_ ?_)) (appliedIn_ite ?_ ?_)))
    · split <;> simp only [appliedIn_ok, appliedIn_error]
    · simp only [State.putRws_in, State.rwsRefused_in, State.rangeEvent_in, appliedIn_ok, appliedIn_error, h_evlog, h_irq, h_est, h_gates,
        h_strs, h_ropes, h_bstr, h_cans, h_stream, h_eths, h_therm, h_store, h_health, h_seng, h_dict, h_values, h_clock, h_fc, h_bal, h_cores,
        h_io, h_banks, h_start, h_supply, h_trav, h_corr, h_belay, h_mode, h_utcBase, h_utcAt]
    · simp only [State.putRws_in, State.rwsRefused_in, State.rangeEvent_in, appliedIn_ok, appliedIn_error, h_evlog, h_irq, h_est, h_gates,
        h_strs, h_ropes, h_bstr, h_cans, h_stream, h_eths, h_therm, h_store, h_health, h_seng, h_dict, h_values, h_clock, h_fc, h_bal, h_cores,
        h_io, h_banks, h_start, h_supply, h_trav, h_corr, h_belay, h_mode, h_utcBase, h_utcAt]
    · simp only [State.putRws_in, State.rwsRefused_in, State.rangeEvent_in, appliedIn_ok, appliedIn_error, h_evlog, h_irq, h_est, h_gates,
        h_strs, h_ropes, h_bstr, h_cans, h_stream, h_eths, h_therm, h_store, h_health, h_seng, h_dict, h_values, h_clock, h_fc, h_bal, h_cores,
        h_io, h_banks, h_start, h_supply, h_trav, h_corr, h_belay, h_mode, h_utcBase, h_utcAt]
    · simp only [State.putRws_in, State.rwsRefused_in, State.rangeEvent_in, appliedIn_ok, appliedIn_error, h_evlog, h_irq, h_est, h_gates,
        h_strs, h_ropes, h_bstr, h_cans, h_stream, h_eths, h_therm, h_store, h_health, h_seng, h_dict, h_values, h_clock, h_fc, h_bal, h_cores,
        h_io, h_banks, h_start, h_supply, h_trav, h_corr, h_belay, h_mode, h_utcBase, h_utcAt]
    · split
      · rename_i h
        simp only [State.putRws_in, State.rwsRefused_in, State.rangeEvent_in, appliedIn_ok, appliedIn_error, h_evlog, h_irq, h_est, h_gates,
            h_strs, h_ropes, h_bstr, h_cans, h_stream, h_eths, h_therm, h_store, h_health, h_seng, h_dict, h_values, h_clock, h_fc, h_bal,
            h_cores, h_io, h_banks, h_start, h_supply, h_trav, h_corr, h_belay, h_mode, h_utcBase, h_utcAt, (State.applyEntry_in h_strs h_ropes
            h_gates h_bstr h_evlog h_cans h_stream h_eths h_therm h_store h_health h_seng h_dict h_values h_clock h_irq h_fc h_bal h_cores h_io
            h_banks h_start h_supply h_trav h_corr h_est h_belay h_mode h_utcBase h_utcAt _ _ _ _ _ _).2 _ h]
      · rename_i h
        simp only [State.putRws_in, State.rwsRefused_in, State.rangeEvent_in, appliedIn_ok, appliedIn_error, h_evlog, h_irq, h_est, h_gates,
            h_strs, h_ropes, h_bstr, h_cans, h_stream, h_eths, h_therm, h_store, h_health, h_seng, h_dict, h_values, h_clock, h_fc, h_bal,
            h_cores, h_io, h_banks, h_start, h_supply, h_trav, h_corr, h_belay, h_mode, h_utcBase, h_utcAt, (State.applyEntry_in h_strs h_ropes
            h_gates h_bstr h_evlog h_cans h_stream h_eths h_therm h_store h_health h_seng h_dict h_values h_clock h_irq h_fc h_bal h_cores h_io
            h_banks h_start h_supply h_trav h_corr h_est h_belay h_mode h_utcBase h_utcAt _ _ _ _ _ _).1 _ h]

theorem State.itemRefused_in {m : Part → Bool} (h_evlog : m .evlog = true) (h_irq : m .irq = true) (h_est : m .est = true) (h_gates : m .gates =
    true) (h_strs : m .strs = true) (h_ropes : m .ropes = true) (h_bstr : m .bstr = true) (h_cans : m .cans = true) (h_stream : m .stream = true)
    (h_eths : m .eths = true) (h_therm : m .therm = true) (h_store : m .store = true) (h_health : m .health = true) (h_seng : m .seng = true)
    (h_dict : m .dict = true) (h_values : m .values = true) (h_clock : m .clock = true) (h_fc : m .fc = true) (h_bal : m .bal = true) (h_cores :
    m .cores = true) (h_io : m .io = true) (h_banks : m .banks = true) (h_start : m .start = true) (h_supply : m .supply = true) (h_trav : m
    .trav = true) (h_corr : m .corr = true) (h_belay : m .belay = true) (h_mode : m .mode = true) (h_utcBase : m .utcBase = true) (h_utcAt : m
    .utcAt = true) (x0 : State) (x1 : SealedReq) (x2 : SealItem) :
    State.blank m (State.itemRefused x0 x1 x2) = State.blank m x0 := by
  unfold State.itemRefused
  split
  · rename_i h
    exact (State.applyOne_in h_evlog h_irq h_est h_gates h_strs h_ropes h_bstr h_cans h_stream h_eths h_therm h_store h_health h_seng h_dict
        h_values h_clock h_fc h_bal h_cores h_io h_banks h_start h_supply h_trav h_corr h_belay h_mode h_utcBase h_utcAt _ _ _).2 _ h
  · simp only [State.rwsRefused_in, blank_ite, ite_self, h_evlog, h_irq, h_est, h_gates, h_strs, h_ropes, h_bstr, h_cans, h_stream, h_eths,
      h_therm, h_store, h_health, h_seng, h_dict, h_values, h_clock, h_fc, h_bal, h_cores, h_io, h_banks, h_start, h_supply, h_trav, h_corr,
      h_belay, h_mode, h_utcBase, h_utcAt]


theorem State.concludeSealed_in {m : Part → Bool} (h_evlog : m .evlog = true) (h_irq : m .irq = true) (h_seng : m .seng = true) (h_dict : m .dict
    = true) (h_eths : m .eths = true) (h_cans : m .cans = true) (x0 : State) (x1 : SealedReq) :
    State.blank m (State.concludeSealed x0 x1) = State.blank m x0 := by
  unfold State.concludeSealed
  repeat' first
    | simp only [h_evlog, h_irq, h_seng, h_dict, h_eths, h_cans, State.answerSealed_in, State.storeRequest_in, entryAfter_in, blank_ite,
        ite_self, forEach_in, implies_true]
    | refine forEach_next (fun _ _ => ?_) ?_
    | split

theorem applyItems_in {m : Part → Bool} (h_evlog : m .evlog = true) (h_irq : m .irq = true) (h_est : m .est = true) (h_gates : m .gates = true)
    (h_strs : m .strs = true) (h_ropes : m .ropes = true) (h_bstr : m .bstr = true) (h_cans : m .cans = true) (h_stream : m .stream = true)
    (h_eths : m .eths = true) (h_therm : m .therm = true) (h_store : m .store = true) (h_health : m .health = true) (h_seng : m .seng = true)
    (h_dict : m .dict = true) (h_values : m .values = true) (h_clock : m .clock = true) (h_fc : m .fc = true) (h_bal : m .bal = true) (h_cores :
    m .cores = true) (h_io : m .io = true) (h_banks : m .banks = true) (h_start : m .start = true) (h_supply : m .supply = true) (h_trav : m
    .trav = true) (h_corr : m .corr = true) (h_belay : m .belay = true) (h_mode : m .mode = true) (h_utcBase : m .utcBase = true) (h_utcAt : m
    .utcAt = true) (r : SealedReq) (l : List (SealItem × Nat)) (s t : State)
    (h : applyItems r l s = .ok t) : State.blank m t = State.blank m s := by
  induction l generalizing s with
  | nil => cases h; rfl
  | cons p ps ih =>
    unfold applyItems at h
    split at h
    · cases h
    · rename_i h'
      exact (ih _ h).trans ((State.applyOne_in h_evlog h_irq h_est h_gates h_strs h_ropes h_bstr h_cans h_stream h_eths h_therm h_store h_health
          h_seng h_dict h_values h_clock h_fc h_bal h_cores h_io h_banks h_start h_supply h_trav h_corr h_belay h_mode h_utcBase h_utcAt _ _ _).1
          _ h')

theorem State.applyRequest_in {m : Part → Bool} (h_evlog : m .evlog = true) (h_irq : m .irq = true) (h_est : m .est = true) (h_gates : m .gates =
    true) (h_strs : m .strs = true) (h_ropes : m .ropes = true) (h_bstr : m .bstr = true) (h_cans : m .cans = true) (h_stream : m .stream = true)
    (h_eths : m .eths = true) (h_therm : m .therm = true) (h_store : m .store = true) (h_health : m .health = true) (h_seng : m .seng = true)
    (h_dict : m .dict = true) (h_values : m .values = true) (h_clock : m .clock = true) (h_fc : m .fc = true) (h_bal : m .bal = true) (h_cores :
    m .cores = true) (h_io : m .io = true) (h_banks : m .banks = true) (h_start : m .start = true) (h_supply : m .supply = true) (h_trav : m
    .trav = true) (h_corr : m .corr = true) (h_belay : m .belay = true) (h_mode : m .mode = true) (h_utcBase : m .utcBase = true) (h_utcAt : m
    .utcAt = true) (x0 : State) (x1 : SealedReq) :
    SealIn m x0 (State.applyRequest x0 x1) := by
  unfold State.applyRequest
  split
  · simp only [sealIn_refused, State.itemRefused_in, h_evlog, h_irq, h_est, h_gates, h_strs, h_ropes, h_bstr, h_cans, h_stream, h_eths, h_therm,
      h_store, h_health, h_seng, h_dict, h_values, h_clock, h_fc, h_bal, h_cores, h_io, h_banks, h_start, h_supply, h_trav, h_corr, h_belay,
      h_mode, h_utcBase, h_utcAt]
  · rename_i h
    simp only [sealIn_awaits, State.concludeSealed_in, applyItems_in h_evlog h_irq h_est h_gates h_strs h_ropes h_bstr h_cans h_stream h_eths
        h_therm h_store h_health h_seng h_dict h_values h_clock h_fc h_bal h_cores h_io h_banks h_start h_supply h_trav h_corr h_belay h_mode
        h_utcBase h_utcAt _ _ _ _ h, h_evlog, h_irq, h_est, h_gates, h_strs, h_ropes, h_bstr, h_cans, h_stream, h_eths, h_therm, h_store,
        h_health, h_seng, h_dict, h_values, h_clock, h_fc, h_bal, h_cores, h_io, h_banks, h_start, h_supply, h_trav, h_corr, h_belay, h_mode,
        h_utcBase, h_utcAt]

theorem State.forwardRequest_in {m : Part → Bool} (h_evlog : m .evlog = true) (h_irq : m .irq = true) (h_est : m .est = true) (h_seng : m .seng =
    true) (h_belay : m .belay = true) (h_gates : m .gates = true) (h_strs : m .strs = true) (h_ropes : m .ropes = true) (h_bstr : m .bstr = true)
    (h_cans : m .cans = true) (h_stream : m .stream = true) (h_eths : m .eths = true) (h_therm : m .therm = true) (h_store : m .store = true)
    (h_health : m .health = true) (h_dict : m .dict = true) (h_values : m .values = true) (h_clock : m .clock = true) (h_fc : m .fc = true)
    (h_bal : m .bal = true) (h_cores : m .cores = true) (h_io : m .io = true) (h_banks : m .banks = true) (h_start : m .start = true) (h_supply :
    m .supply = true) (h_trav : m .trav = true) (h_corr : m .corr = true) (h_mode : m .mode = true) (h_utcBase : m .utcBase = true) (h_utcAt : m
    .utcAt = true) (x0 : State) (x1 : SealedReq) :
    SealIn m x0 (State.forwardRequest x0 x1) := by
  unfold State.forwardRequest
  repeat' first
    | simp only [h_evlog, h_irq, h_est, h_seng, h_belay, h_gates, h_strs, h_ropes, h_bstr, h_cans, h_stream, h_eths, h_therm, h_store, h_health,
        h_dict, h_values, h_clock, h_fc, h_bal, h_cores, h_io, h_banks, h_start, h_supply, h_trav, h_corr, h_mode, h_utcBase, h_utcAt,
        State.itemRefused_in, State.modSeng_in, State.modBelay_in, sealIn_refused, sealIn_applied, sealIn_awaits, blank_ite, ite_self, implies_true]
    | split

theorem State.applyOthers_in {m : Part → Bool} (h_evlog : m .evlog = true) (h_irq : m .irq = true) (h_est : m .est = true) (h_gates : m .gates =
    true) (h_strs : m .strs = true) (h_ropes : m .ropes = true) (h_bstr : m .bstr = true) (h_cans : m .cans = true) (h_stream : m .stream = true)
    (h_eths : m .eths = true) (h_therm : m .therm = true) (h_store : m .store = true) (h_health : m .health = true) (h_seng : m .seng = true)
    (h_dict : m .dict = true) (h_values : m .values = true) (h_clock : m .clock = true) (h_fc : m .fc = true) (h_bal : m .bal = true) (h_cores :
    m .cores = true) (h_io : m .io = true) (h_banks : m .banks = true) (h_start : m .start = true) (h_supply : m .supply = true) (h_trav : m
    .trav = true) (h_corr : m .corr = true) (h_belay : m .belay = true) (h_mode : m .mode = true) (h_utcBase : m .utcBase = true) (h_utcAt : m
    .utcAt = true) (x0 : State) (x1 : SealedReq) :
    State.blank m (State.applyOthers x0 x1) = State.blank m x0 := by
  refine forEach_in (fun _ _ => ?_) _ _
  split
  · rename_i h
    exact (State.applyOne_in h_evlog h_irq h_est h_gates h_strs h_ropes h_bstr h_cans h_stream h_eths h_therm h_store h_health h_seng h_dict
        h_values h_clock h_fc h_bal h_cores h_io h_banks h_start h_supply h_trav h_corr h_belay h_mode h_utcBase h_utcAt _ _ _).1 _ h
  · rfl

theorem State.replayOutcome_in {m : Part → Bool} (h_banks : m .banks = true) (h_belay : m .belay = true) (h_dict : m .dict = true) (h_evlog : m
    .evlog = true) (h_fc : m .fc = true) (h_gates : m .gates = true) (h_health : m .health = true) (h_io : m .io = true) (h_irq : m .irq = true)
    (h_mode : m .mode = true) (h_start : m .start = true) (h_strs : m .strs = true) (h_trav : m .trav = true) (h_values : m .values = true) (x0 :
    State) (x1 : Bool) :
    State.blank m (State.replayOutcome x0 x1) = State.blank m x0 := by
  unfold State.replayOutcome
  repeat' first
    | simp only [h_banks, h_belay, h_dict, h_evlog, h_fc, h_gates, h_health, h_io, h_irq, h_mode, h_start, h_strs, h_trav, h_values,
        State.replayFrom_in, State.endReplay_in, State.setRws_in, State.replayRefused_in, blank_ite, ite_self, forEach_in, implies_true]
    | refine forEach_next (fun _ _ => ?_) ?_
    | split

theorem State.takeOutcome_in {m : Part → Bool} (h_bal : m .bal = true) (h_banks : m .banks = true) (h_belay : m .belay = true) (h_bstr : m .bstr =
    true) (h_cans : m .cans = true) (h_clock : m .clock = true) (h_cores : m .cores = true) (h_corr : m .corr = true) (h_dict : m .dict = true)
    (h_est : m .est = true) (h_eths : m .eths = true) (h_evlog : m .evlog = true) (h_fc : m .fc = true) (h_gates : m .gates = true) (h_health : m
    .health = true) (h_io : m .io = true) (h_irq : m .irq = true) (h_mode : m .mode = true) (h_ropes : m .ropes = true) (h_seng : m .seng = true)
    (h_start : m .start = true) (h_store : m .store = true) (h_stream : m .stream = true) (h_strs : m .strs = true) (h_supply : m .supply = true)
    (h_therm : m .therm = true) (h_trav : m .trav = true) (h_utcAt : m .utcAt = true) (h_utcBase : m .utcBase = true) (h_values : m .values = true)
    (x0 : State) (x1 : BelayRecord) (x2 : Option Nat) :
    State.blank m (State.takeOutcome x0 x1 x2) = State.blank m x0 := by
  unfold State.takeOutcome
  repeat' first
    | simp only [h_bal, h_banks, h_belay, h_bstr, h_cans, h_clock, h_cores, h_corr, h_dict, h_est, h_eths, h_evlog, h_fc, h_gates, h_health, h_io,
        h_irq, h_mode, h_ropes, h_seng, h_start, h_store, h_stream, h_strs, h_supply, h_therm, h_trav, h_utcAt, h_utcBase, h_values,
        State.concludeSealed_in, State.refuseSealed_in, State.modBelay_in, State.modSeng_in, State.applyOthers_in, blank_ite, ite_self, forEach_in,
        implies_true]
    | refine forEach_next (fun _ _ => ?_) ?_
    | split

theorem State.postOutcome_in {m : Part → Bool} (h_belay : m .belay = true) (h_seng : m .seng = true) (h_irq : m .irq = true) (h_evlog : m .evlog =
    true) (h_dict : m .dict = true) (h_eths : m .eths = true) (h_est : m .est = true) (h_gates : m .gates = true) (h_strs : m .strs = true) (h_ropes
    : m .ropes = true) (h_bstr : m .bstr = true) (h_cans : m .cans = true) (h_stream : m .stream = true) (h_therm : m .therm = true) (h_store : m
    .store = true) (h_health : m .health = true) (h_values : m .values = true) (h_clock : m .clock = true) (h_fc : m .fc = true) (h_bal : m .bal =
    true) (h_cores : m .cores = true) (h_io : m .io = true) (h_banks : m .banks = true) (h_start : m .start = true) (h_supply : m .supply = true)
    (h_trav : m .trav = true) (h_corr : m .corr = true) (h_mode : m .mode = true) (h_utcBase : m .utcBase = true) (h_utcAt : m .utcAt = true) (x0 :
    State) (x1 : BelayRecord) (x2 : Option Nat) :
    State.blank m (State.postOutcome x0 x1 x2) = State.blank m x0 := by
  unfold State.postOutcome
  repeat' first
    | simp only [h_belay, h_seng, h_irq, h_evlog, h_dict, h_eths, h_est, h_gates, h_strs, h_ropes, h_bstr, h_cans, h_stream, h_therm, h_store,
        h_health, h_values, h_clock, h_fc, h_bal, h_cores, h_io, h_banks, h_start, h_supply, h_trav, h_corr, h_mode, h_utcBase, h_utcAt,
        State.takeOutcome_in, State.postReport_in, State.modBelay_in, State.replayOutcome_in, blank_ite, ite_self, forEach_in, implies_true]
    | refine forEach_next (fun _ _ => ?_) ?_
    | split

theorem State.settleInputs_in {m : Part → Bool} (h_io : m .io = true) (x0 : State) (x1 : State) :
    State.blank m (State.settleInputs x0 x1) = State.blank m x1 := by
  unfold State.settleInputs
  repeat' first
    | simp only [h_io, State.modIn_in, blank_ite, ite_self, forEach_in, implies_true]
    | refine forEach_next (fun _ _ => ?_) ?_
    | split

theorem State.judgeRecords_in {m : Part → Bool} (h_records : m .records = true) (h_belay : m .belay = true) (h_seng : m .seng = true) (h_irq : m
    .irq = true) (h_evlog : m .evlog = true) (h_dict : m .dict = true) (h_bstr : m .bstr = true) (h_banks : m .banks = true) (h_io : m .io =
    true) (h_eths : m .eths = true) (h_est : m .est = true) (h_gates : m .gates = true) (h_strs : m .strs = true) (h_ropes : m .ropes = true)
    (h_cans : m .cans = true) (h_stream : m .stream = true) (h_therm : m .therm = true) (h_store : m .store = true) (h_health : m .health = true)
    (h_values : m .values = true) (h_clock : m .clock = true) (h_fc : m .fc = true) (h_bal : m .bal = true) (h_cores : m .cores = true) (h_mode :
    m .mode = true) (h_start : m .start = true) (h_supply : m .supply = true) (h_trav : m .trav = true) (h_corr : m .corr = true) (h_utcBase : m
    .utcBase = true) (h_utcAt : m .utcAt = true) (x0 : State) (x1 : BelayRecord) (x2 : List BelayRecord) :
    State.blank m (State.judgeRecords x0 x1 x2) = State.blank m x0 := by
  unfold State.judgeRecords
  repeat' first
    | simp only [h_records, h_belay, h_seng, h_irq, h_evlog, h_dict, h_bstr, h_banks, h_io, h_eths, h_est, h_gates, h_strs, h_ropes, h_cans,
        h_stream, h_therm, h_store, h_health, h_values, h_clock, h_fc, h_bal, h_cores, h_mode, h_start, h_supply, h_trav, h_corr, h_utcBase,
        h_utcAt, State.postOutcome_in, State.refuseRecords_in, State.commitRecords_in, State.enforceTrips_in, State.settleBanks_in,
        State.settleStreams_in, State.settleInputs_in, blank_ite, ite_self, implies_true]
    | split

theorem State.dropOtherStaged_in {m : Part → Bool} (h_belay : m .belay = true) (h_seng : m .seng = true) (h_irq : m .irq = true) (h_evlog : m
    .evlog = true) (h_dict : m .dict = true) (h_eths : m .eths = true) (h_est : m .est = true) (h_gates : m .gates = true) (h_strs : m .strs =
    true) (h_ropes : m .ropes = true) (h_bstr : m .bstr = true) (h_cans : m .cans = true) (h_stream : m .stream = true) (h_therm : m .therm =
    true) (h_store : m .store = true) (h_health : m .health = true) (h_values : m .values = true) (h_clock : m .clock = true) (h_fc : m .fc =
    true) (h_bal : m .bal = true) (h_cores : m .cores = true) (h_io : m .io = true) (h_banks : m .banks = true) (h_start : m .start = true)
    (h_supply : m .supply = true) (h_trav : m .trav = true) (h_corr : m .corr = true) (h_mode : m .mode = true) (h_utcBase : m .utcBase = true)
    (h_utcAt : m .utcAt = true) (x0 : State) (x1 : BelayRecord) :
    State.blank m (State.dropOtherStaged x0 x1) = State.blank m x0 := by
  unfold State.dropOtherStaged
  repeat' first
    | simp only [h_belay, h_seng, h_irq, h_evlog, h_dict, h_eths, h_est, h_gates, h_strs, h_ropes, h_bstr, h_cans, h_stream, h_therm, h_store,
        h_health, h_values, h_clock, h_fc, h_bal, h_cores, h_io, h_banks, h_start, h_supply, h_trav, h_corr, h_mode, h_utcBase, h_utcAt,
        State.postOutcome_in, State.refuseRecords_in, blank_ite, ite_self, implies_true]
    | split

theorem State.takeRecord_in {m : Part → Bool} (h_belay : m .belay = true) (h_records : m .records = true) (h_seng : m .seng = true) (h_irq : m
    .irq = true) (h_evlog : m .evlog = true) (h_dict : m .dict = true) (h_bstr : m .bstr = true) (h_banks : m .banks = true) (h_io : m .io =
    true) (h_eths : m .eths = true) (h_est : m .est = true) (h_gates : m .gates = true) (h_strs : m .strs = true) (h_ropes : m .ropes = true)
    (h_cans : m .cans = true) (h_stream : m .stream = true) (h_therm : m .therm = true) (h_store : m .store = true) (h_health : m .health = true)
    (h_values : m .values = true) (h_clock : m .clock = true) (h_fc : m .fc = true) (h_bal : m .bal = true) (h_cores : m .cores = true) (h_mode :
    m .mode = true) (h_start : m .start = true) (h_supply : m .supply = true) (h_trav : m .trav = true) (h_corr : m .corr = true) (h_utcBase : m
    .utcBase = true) (h_utcAt : m .utcAt = true) (x0 : State) (x1 : BelayRecord) :
    State.blank m (State.takeRecord x0 x1) = State.blank m x0 := by
  unfold State.takeRecord
  repeat' first
    | simp only [h_belay, h_records, h_seng, h_irq, h_evlog, h_dict, h_bstr, h_banks, h_io, h_eths, h_est, h_gates, h_strs, h_ropes, h_cans,
        h_stream, h_therm, h_store, h_health, h_values, h_clock, h_fc, h_bal, h_cores, h_mode, h_start, h_supply, h_trav, h_corr, h_utcBase,
        h_utcAt, State.dropOtherStaged_in, State.postOutcome_in, State.refuseRecords_in, State.modBelay_in, State.judgeRecords_in,
        State.modBelay_records_in, blank_ite, ite_self, implies_true]
    | split

theorem State.putKey_in {m : Part → Bool} (h_seng : m .seng = true) (h_evlog : m .evlog = true) (h_irq : m .irq = true) (h_dict : m .dict = true)
    (x0 : State) (x1 : SealItem) (x2 : Nat) (x3 : Nat) :
    State.blank m (State.putKey x0 x1 x2 x3) = State.blank m x0 := by
  unfold State.putKey
  repeat' first
    | simp only [h_seng, h_evlog, h_irq, h_dict, State.modSeng_in, State.event_in, State.storeCfg_in, blank_ite, ite_self, implies_true]
    | split

theorem State.trustRequest_in {m : Part → Bool} (h_evlog : m .evlog = true) (h_irq : m .irq = true) (h_seng : m .seng = true) (h_dict : m .dict =
    true) (h_eths : m .eths = true) (h_cans : m .cans = true) (x0 : State) (x1 : SealedReq) :
    SealIn m x0 (State.trustRequest x0 x1) := by
  unfold State.trustRequest
  repeat' first
    | simp only [h_evlog, h_irq, h_seng, h_dict, h_eths, h_cans, State.putKey_in, State.answerSealed_in, sealIn_refused, sealIn_applied,
        sealIn_awaits, blank_ite, ite_self, forEach_in, implies_true]
    | refine forEach_next (fun _ _ => ?_) ?_
    | split

theorem State.provision_in {m : Part → Bool} (h_seng : m .seng = true) (h_evlog : m .evlog = true) (h_irq : m .irq = true) (h_dict : m .dict = true)
    (h_eths : m .eths = true) (h_cans : m .cans = true) (x0 : State) (x1 : SealedReq) :
    SealIn m x0 (State.provision x0 x1) := by
  unfold State.provision
  repeat' first
    | simp only [h_seng, h_evlog, h_irq, h_dict, h_eths, h_cans, State.putKey_in, State.answerSealed_in, sealIn_refused, sealIn_applied,
        sealIn_awaits, blank_ite, ite_self, forEach_in, implies_true]
    | refine forEach_next (fun _ _ => ?_) ?_
    | split

theorem State.trustVia_in {m : Part → Bool} (h_evlog : m .evlog = true) (h_irq : m .irq = true) (h_seng : m .seng = true) (h_dict : m .dict = true)
    (h_eths : m .eths = true) (h_cans : m .cans = true) (x0 : State) (x1 : SealedReq) :
    State.blank m (State.trustVia x0 x1) = State.blank m x0 := by
  unfold State.trustVia
  repeat' first
    | simp only [h_evlog, h_irq, h_seng, h_dict, h_eths, h_cans, State.sealedThrough_in, State.provision_in, State.trustRequest_in,
        State.sealedVia_in, blank_ite, ite_self, forEach_in, implies_true]
    | refine forEach_next (fun _ _ => ?_) ?_
    | split

theorem State.commitImage_in {m : Part → Bool} (h_ident : m .ident = true) (h_seng : m .seng = true) (h_start : m .start = true) (h_evlog : m
    .evlog = true) (h_irq : m .irq = true) (x0 : State) (x1 : Bool) (x2 : Nat) (x3 : Nat) :
    State.blank m (State.commitImage x0 x1 x2 x3) = State.blank m x0 := by
  unfold State.commitImage
  repeat' first
    | simp only [h_ident, h_seng, h_start, h_evlog, h_irq, State.modSeng_in, State.modStart_in, State.event_in, blank_set_ident, blank_ite,
        ite_self, implies_true]
    | split

theorem State.noteTimeout_in {m : Part → Bool} (h_bal : m .bal = true) (h_banks : m .banks = true) (h_belay : m .belay = true) (h_bstr : m .bstr =
    true) (h_cans : m .cans = true) (h_clock : m .clock = true) (h_cores : m .cores = true) (h_corr : m .corr = true) (h_dict : m .dict = true)
    (h_est : m .est = true) (h_eths : m .eths = true) (h_evlog : m .evlog = true) (h_fc : m .fc = true) (h_gateBlock : m .gateBlock = true) (h_gates
    : m .gates = true) (h_health : m .health = true) (h_heldReq : m .heldReq = true) (h_io : m .io = true) (h_irq : m .irq = true) (h_mode : m .mode
    = true) (h_records : m .records = true) (h_ropes : m .ropes = true) (h_seng : m .seng = true) (h_start : m .start = true) (h_store : m .store =
    true) (h_stream : m .stream = true) (h_strs : m .strs = true) (h_supply : m .supply = true) (h_therm : m .therm = true) (h_trav : m .trav =
    true) (h_utcAt : m .utcAt = true) (h_utcBase : m .utcBase = true) (h_values : m .values = true) (h_waitingWrites : m .waitingWrites = true) (x0
    : State) (x1 : Fin 40) (x2 : PortEnd) (x3 : Fin 33) (x4 : Bool) (x5 : Bool) :
    State.blank m (State.noteTimeout x0 x1 x2 x3 x4 x5) = State.blank m x0 := by
  unfold State.noteTimeout
  repeat' first
    | simp only [h_bal, h_banks, h_belay, h_bstr, h_cans, h_clock, h_cores, h_corr, h_dict, h_est, h_eths, h_evlog, h_fc, h_gateBlock, h_gates,
        h_health, h_heldReq, h_io, h_irq, h_mode, h_records, h_ropes, h_seng, h_start, h_store, h_stream, h_strs, h_supply, h_therm, h_trav,
        h_utcAt, h_utcBase, h_values, h_waitingWrites, State.countFailure_in, State.portEvent_in, State.countPos_in, State.portStat_in, blank_ite,
        ite_self, forEach_in, implies_true]
    | refine forEach_next (fun _ _ => ?_) ?_
    | split

theorem State.replyMissing_in {m : Part → Bool} (h_bal : m .bal = true) (h_banks : m .banks = true) (h_belay : m .belay = true) (h_bstr : m .bstr =
    true) (h_cans : m .cans = true) (h_clock : m .clock = true) (h_cores : m .cores = true) (h_corr : m .corr = true) (h_dict : m .dict = true)
    (h_est : m .est = true) (h_eths : m .eths = true) (h_evlog : m .evlog = true) (h_fc : m .fc = true) (h_gateBlock : m .gateBlock = true) (h_gates
    : m .gates = true) (h_health : m .health = true) (h_heldReq : m .heldReq = true) (h_io : m .io = true) (h_irq : m .irq = true) (h_mode : m .mode
    = true) (h_records : m .records = true) (h_ropes : m .ropes = true) (h_seng : m .seng = true) (h_start : m .start = true) (h_store : m .store =
    true) (h_stream : m .stream = true) (h_strs : m .strs = true) (h_supply : m .supply = true) (h_therm : m .therm = true) (h_trav : m .trav =
    true) (h_utcAt : m .utcAt = true) (h_utcBase : m .utcBase = true) (h_values : m .values = true) (h_waitingWrites : m .waitingWrites = true) (x0
    : State) (x1 : Fin 40) (x2 : PortEnd) (x3 : ReadKind) (x4 : Fin 33) (x5 : Bool) (x6 : Bool) :
    State.blank m (State.replyMissing x0 x1 x2 x3 x4 x5 x6) = State.blank m x0 := by
  unfold State.replyMissing
  repeat' first
    | simp only [h_bal, h_banks, h_belay, h_bstr, h_cans, h_clock, h_cores, h_corr, h_dict, h_est, h_eths, h_evlog, h_fc, h_gateBlock, h_gates,
        h_health, h_heldReq, h_io, h_irq, h_mode, h_records, h_ropes, h_seng, h_start, h_store, h_stream, h_strs, h_supply, h_therm, h_trav,
        h_utcAt, h_utcBase, h_values, h_waitingWrites, State.replyLost_in, State.noteTimeout_in, blank_ite, ite_self, forEach_in, implies_true]
    | refine forEach_next (fun _ _ => ?_) ?_
    | split

theorem State.abandon_in {m : Part → Bool} (h_bal : m .bal = true) (h_banks : m .banks = true) (h_belay : m .belay = true) (h_bstr : m .bstr = true)
    (h_cans : m .cans = true) (h_clock : m .clock = true) (h_cores : m .cores = true) (h_corr : m .corr = true) (h_dict : m .dict = true) (h_est : m
    .est = true) (h_eths : m .eths = true) (h_evlog : m .evlog = true) (h_fc : m .fc = true) (h_gateBlock : m .gateBlock = true) (h_gates : m .gates
    = true) (h_health : m .health = true) (h_heldReq : m .heldReq = true) (h_io : m .io = true) (h_irq : m .irq = true) (h_mode : m .mode = true)
    (h_records : m .records = true) (h_ropes : m .ropes = true) (h_seng : m .seng = true) (h_start : m .start = true) (h_store : m .store = true)
    (h_stream : m .stream = true) (h_strs : m .strs = true) (h_supply : m .supply = true) (h_therm : m .therm = true) (h_trav : m .trav = true)
    (h_utcAt : m .utcAt = true) (h_utcBase : m .utcBase = true) (h_values : m .values = true) (h_waitingWrites : m .waitingWrites = true) (x0 :
    State) (x1 : Nat) :
    State.blank m (State.abandon x0 x1) = State.blank m x0 := by
  unfold State.abandon
  repeat' first
    | simp only [h_bal, h_banks, h_belay, h_bstr, h_cans, h_clock, h_cores, h_corr, h_dict, h_est, h_eths, h_evlog, h_fc, h_gateBlock, h_gates,
        h_health, h_heldReq, h_io, h_irq, h_mode, h_records, h_ropes, h_seng, h_start, h_store, h_stream, h_strs, h_supply, h_therm, h_trav,
        h_utcAt, h_utcBase, h_values, h_waitingWrites, State.modEnd_in, State.noteTimeout_in, State.replyMissing_in, blank_ite, ite_self,
        forEach_in, implies_true]
    | refine forEach_next (fun _ _ => ?_) ?_
    | split

theorem State.belayFrame_in {m : Part → Bool} (h_belay : m .belay = true) (h_bstr : m .bstr = true) (h_evlog : m .evlog = true) (h_irq : m .irq =
    true) (h_strs : m .strs = true) (h_trav : m .trav = true) (x0 : State) (x1 : Fin 40) (x2 : PortEnd) (x3 : Bool) (x4 : Bool) (x5 : List Byte) :
    State.blank m (State.belayFrame x0 x1 x2 x3 x4 x5) = State.blank m x0 := by
  unfold State.belayFrame
  repeat' first
    | simp only [h_belay, h_bstr, h_evlog, h_irq, h_strs, h_trav, State.noteCount_in, State.belayTake_in, State.judgeTemps_in, blank_ite, ite_self,
        forEach_in, implies_true]
    | refine forEach_next (fun _ _ => ?_) ?_
    | split

theorem State.belayPiece_in {m : Part → Bool} (h_banks : m .banks = true) (h_belay : m .belay = true) (h_bstr : m .bstr = true) (h_evlog : m .evlog
    = true) (h_irq : m .irq = true) (h_strs : m .strs = true) (h_trav : m .trav = true) (h_dict : m .dict = true) (h_fc : m .fc = true) (h_gates : m
    .gates = true) (h_health : m .health = true) (h_io : m .io = true) (h_mode : m .mode = true) (x0 : State) (x1 : Piece) :
    State.blank m (State.belayPiece x0 x1) = State.blank m x0 := by
  unfold State.belayPiece
  repeat' first
    | simp only [h_banks, h_belay, h_bstr, h_evlog, h_irq, h_strs, h_trav, h_dict, h_fc, h_gates, h_health, h_io, h_mode, State.safeTaken_in,
        State.modBelay_in, State.belayLink_in, State.belayFrame_in, blank_ite, ite_self, forEach_in, implies_true]
    | refine forEach_next (fun _ _ => ?_) ?_
    | split

theorem State.clearFrames_in {m : Part → Bool} (h_ropes : m .ropes = true) (x0 : State) :
    State.blank m (State.clearFrames x0) = State.blank m x0 := by
  unfold State.clearFrames
  repeat' first
    | simp only [h_ropes, State.modRope_in, blank_ite, ite_self, forEach_in, implies_true]
    | refine forEach_next (fun _ _ => ?_) ?_
    | split

theorem State.corrSkip_in {m : Part → Bool} (h_corr : m .corr = true) (x0 : State) (x1 : Fin 40) (x2 : CorrIn) :
    State.blank m (State.corrSkip x0 x1 x2) = State.blank m x0 := by
  unfold State.corrSkip
  repeat' first
    | simp only [h_corr, State.modCorr_in, blank_ite, ite_self, forEach_in, implies_true]
    | refine forEach_next (fun _ _ => ?_) ?_
    | split

theorem State.endReply_in {m : Part → Bool} (h_ropes : m .ropes = true) (x0 : State) (x1 : Fin 40) (x2 : PortEnd) (x3 : Nat) (x4 : Nat) :
    State.blank m (State.endReply x0 x1 x2 x3 x4) = State.blank m x0 := by
  unfold State.endReply
  repeat' first
    | simp only [h_ropes, State.modEnd_in, blank_ite, ite_self, forEach_in, implies_true]
    | refine forEach_next (fun _ _ => ?_) ?_
    | split

theorem State.hurryOut_in {m : Part → Bool} (h_dict : m .dict = true) (h_evlog : m .evlog = true) (h_irq : m .irq = true) (h_seng : m .seng = true)
    (h_start : m .start = true) (h_store : m .store = true) (x0 : State) (x1 : Nat) (x2 : Bool) :
    State.blank m (State.hurryOut x0 x1 x2) = State.blank m x0 := by
  unfold State.hurryOut
  repeat' first
    | simp only [h_dict, h_evlog, h_irq, h_seng, h_start, h_store, State.storeCounters_in, State.writeBack_in, State.modStart_in, State.flushAll_in,
        blank_ite, ite_self, forEach_in, implies_true]
    | refine forEach_next (fun _ _ => ?_) ?_
    | split

theorem State.noteSelfTests_in {m : Part → Bool} (h_ropes : m .ropes = true) (h_start : m .start = true) (x0 : State) :
    State.blank m (State.noteSelfTests x0) = State.blank m x0 := by
  unfold State.noteSelfTests
  repeat' first
    | simp only [h_ropes, h_start, State.rollCallAll_in, State.modStart_in, blank_ite, ite_self, forEach_in, implies_true]
    | refine forEach_next (fun _ _ => ?_) ?_
    | split

theorem State.railBack_in {m : Part → Bool} (h_gates : m .gates = true) (x0 : State) (x1 : Fin 52) (x2 : Bool) :
    State.blank m (State.railBack x0 x1 x2) = State.blank m x0 := by
  unfold State.railBack
  repeat' first
    | simp only [h_gates, State.modGate_in, blank_ite, ite_self, forEach_in, implies_true]
    | refine forEach_next (fun _ _ => ?_) ?_
    | split

theorem State.receiveWire_in {m : Part → Bool} (h_dict : m .dict = true) (x0 : State) (x1 : Src) (x2 : List Byte) :
    State.blank m (State.receiveWire x0 x1 x2).1 = State.blank m x0 := by
  unfold State.receiveWire
  repeat' first
    | simp only [h_dict, State.modDict_in, blank_ite, ite_self, forEach_in, implies_true]
    | refine forEach_next (fun _ _ => ?_) ?_
    | split

theorem State.stageDma_in {m : Part → Bool} (h_evlog : m .evlog = true) (h_irq : m .irq = true) (h_trav : m .trav = true) (x0 : State) (x1 : Piece)
    :
    State.blank m (State.stageDma x0 x1) = State.blank m x0 := by
  unfold State.stageDma
  repeat' first
    | simp only [h_evlog, h_irq, h_trav, State.slowDmaError_in, State.modTrav_in, State.dmaError_in, blank_ite, ite_self, forEach_in, implies_true]
    | refine forEach_next (fun _ _ => ?_) ?_
    | split

theorem State.servicePort_in {m : Part → Bool} (h_evlog : m .evlog = true) (h_irq : m .irq = true) (h_trav : m .trav = true) (x0 : State) (x1 : Nat)
    :
    State.blank m (State.servicePort x0 x1) = State.blank m x0 := by
  unfold State.servicePort
  repeat' first
    | simp only [h_evlog, h_irq, h_trav, State.stageDma_in, State.modTrav_in, blank_ite, ite_self, forEach_in, implies_true]
    | refine forEach_next (fun _ _ => ?_) ?_
    | split

theorem State.settleCells_in {m : Part → Bool} (h_est : m .est = true) (x0 : State) :
    State.blank m (State.settleCells x0) = State.blank m x0 := by
  unfold State.settleCells
  repeat' first
    | simp only [h_est, State.modEst_in, blank_ite, ite_self, forEach_in, implies_true]
    | refine forEach_next (fun _ _ => ?_) ?_
    | split

theorem State.stepExcluded_in {m : Part → Bool} (h_est : m .est = true) (x0 : State) (x1 : Nat) (x2 : List Sample) (x3 : Fin 40) :
    State.blank m (State.stepExcluded x0 x1 x2 x3) = State.blank m x0 := by
  unfold State.stepExcluded
  repeat' first
    | simp only [h_est, State.modCell_in, State.modEst_in, blank_ite, ite_self, forEach_in, implies_true]
    | refine forEach_next (fun _ _ => ?_) ?_
    | split

theorem State.copyWritten_in {m : Part → Bool} (h_evlog : m .evlog = true) (h_irq : m .irq = true) (h_store : m .store = true) (x0 : State) (x1 :
    Learned) (x2 : Nat) (x3 : Fin 3) :
    State.blank m (State.copyWritten x0 x1 x2 x3) = State.blank m x0 := by
  unfold State.copyWritten
  repeat' first
    | simp only [h_evlog, h_irq, h_store, State.nextCopy_in, State.event_in, State.irqRaise_in, State.modStore_in, blank_ite, ite_self, forEach_in,
        implies_true]
    | refine forEach_next (fun _ _ => ?_) ?_
    | split

theorem State.countMissing_in {m : Part → Bool} (h_bstr : m .bstr = true) (x0 : State) (x1 : Fin 40) (x2 : Nat) :
    State.blank m (State.countMissing x0 x1 x2) = State.blank m x0 := by
  unfold State.countMissing
  repeat' first
    | simp only [h_bstr, State.countUnseen_in, State.countSlow_in, blank_ite, ite_self, forEach_in, implies_true]
    | refine forEach_next (fun _ _ => ?_) ?_
    | split

theorem State.endCycles_in {m : Part → Bool} (h_evlog : m .evlog = true) (h_io : m .io = true) (h_irq : m .irq = true) (x0 : State) :
    State.blank m (State.endCycles x0) = State.blank m x0 := by
  unfold State.endCycles
  repeat' first
    | simp only [h_evlog, h_io, h_irq, State.modIn_in, State.clearXs_in, blank_ite, ite_self, forEach_in, implies_true]
    | refine forEach_next (fun _ _ => ?_) ?_
    | split

theorem State.passQueue_in {m : Part → Bool} (h_bal : m .bal = true) (h_banks : m .banks = true) (h_belay : m .belay = true) (h_bstr : m .bstr =
    true) (h_cans : m .cans = true) (h_clock : m .clock = true) (h_cores : m .cores = true) (h_corr : m .corr = true) (h_dict : m .dict = true)
    (h_est : m .est = true) (h_eths : m .eths = true) (h_evlog : m .evlog = true) (h_fc : m .fc = true) (h_free : m .free = true) (h_gates : m
    .gates = true) (h_health : m .health = true) (h_heldReq : m .heldReq = true) (h_io : m .io = true) (h_irq : m .irq = true) (h_mode : m .mode =
    true) (h_ropes : m .ropes = true) (h_seng : m .seng = true) (h_start : m .start = true) (h_store : m .store = true) (h_stream : m .stream =
    true) (h_strs : m .strs = true) (h_supply : m .supply = true) (h_therm : m .therm = true) (h_trav : m .trav = true) (h_utcAt : m .utcAt = true)
    (h_utcBase : m .utcBase = true) (h_values : m .values = true) (h_waitingWrites : m .waitingWrites = true) (x1 : Fin 3) :
    ∀ (x2 : List CanRx) (x0 : State), State.blank m (State.passQueue x0 x1 x2) = State.blank m x0 := by
  intro x2
  induction x2 with
  | nil => intro x0; simp only [State.passQueue, State.modCan_in, h_cans]
  | cons x rest ih =>
    intro x0
    unfold State.passQueue
    split
    · simp only [State.modCan_in, h_cans]
    · rw [ih]
      simp only [h_bal, h_banks, h_belay, h_bstr, h_cans, h_clock, h_cores, h_corr, h_dict, h_est, h_eths, h_evlog, h_fc, h_free, h_gates, h_health, h_heldReq, h_io, h_irq, h_mode, h_ropes, h_seng, h_start, h_store, h_stream, h_strs, h_supply, h_therm, h_trav, h_utcAt, h_utcBase, h_values, h_waitingWrites, State.passFrame_in]

theorem State.readHeld_in {m : Part → Bool} (h_cans : m .cans = true) (x0 : State) (x1 : List Nat) :
    State.blank m (State.readHeld x0 x1) = State.blank m x0 := by
  unfold State.readHeld
  repeat' first
    | simp only [h_cans, State.readAtIrq_in, blank_ite, ite_self, forEach_in, implies_true]
    | refine forEach_next (fun _ _ => ?_) ?_
    | split

theorem State.referenceSent_in {m : Part → Bool} (h_cans : m .cans = true) (h_clock : m .clock = true) (h_evlog : m .evlog = true) (h_irq : m .irq =
    true) (x0 : State) (x1 : Fin 3) :
    State.blank m (State.referenceSent x0 x1) = State.blank m x0 := by
  unfold State.referenceSent
  repeat' first
    | simp only [h_cans, h_clock, h_evlog, h_irq, State.modCan_in, State.canEvent_in, State.noteSources_in, blank_ite, ite_self, forEach_in,
        implies_true]
    | refine forEach_next (fun _ _ => ?_) ?_
    | split

theorem State.secondFault_in {m : Part → Bool} (h_gateBlock : m .gateBlock = true) (h_gates : m .gates = true) (x0 : State) (x1 : Fin 52) (x2 :
    GateCause) :
    State.blank m (State.secondFault x0 x1 x2) = State.blank m x0 := by
  unfold State.secondFault
  repeat' first
    | simp only [h_gateBlock, h_gates, State.gateFault_in, State.modGate_in, blank_set_gateBlock, blank_ite, ite_self, forEach_in, implies_true]
    | refine forEach_next (fun _ _ => ?_) ?_
    | split

theorem State.serviceAll_in {m : Part → Bool} (h_evlog : m .evlog = true) (h_irq : m .irq = true) (h_ropes : m .ropes = true) (h_trav : m .trav =
    true) (x0 : State) (x1 : Bool) :
    State.blank m (State.serviceAll x0 x1) = State.blank m x0 := by
  unfold State.serviceAll
  repeat' first
    | simp only [h_evlog, h_irq, h_ropes, h_trav, State.servicePort_in, State.dmaDrain_in, blank_ite, ite_self, forEach_in, implies_true]
    | refine forEach_next (fun _ _ => ?_) ?_
    | split

theorem State.spoilCopies_in {m : Part → Bool} (h_belay : m .belay = true) (x0 : State) (x1 : List (Nat × Nat)) :
    State.blank m (State.spoilCopies x0 x1) = State.blank m x0 := by
  unfold State.spoilCopies
  repeat' first
    | simp only [h_belay, State.modBelay_in, blank_ite, ite_self, forEach_in, implies_true]
    | refine forEach_next (fun _ _ => ?_) ?_
    | split

theorem State.takeEth_in {m : Part → Bool} (h_cans : m .cans = true) (h_dict : m .dict = true) (h_eths : m .eths = true) (h_irq : m .irq = true) (x0
    : State) (x1 : Fin 2) (x2 : EthFrame) :
    State.blank m (State.takeEth x0 x1 x2) = State.blank m x0 := by
  unfold State.takeEth
  repeat' first
    | simp only [h_cans, h_dict, h_eths, h_irq, State.modEth_in, State.send_in, State.modDict_in, State.ethIn_in, blank_ite, ite_self, forEach_in,
        implies_true]
    | refine forEach_next (fun _ _ => ?_) ?_
    | split

theorem State.takeEths_in {m : Part → Bool} (h_cans : m .cans = true) (h_dict : m .dict = true) (h_eths : m .eths = true) (h_irq : m .irq = true)
    (x0 : State) :
    State.blank m (State.takeEths x0) = State.blank m x0 := by
  unfold State.takeEths
  repeat' first
    | simp only [h_cans, h_dict, h_eths, h_irq, State.modEth_in, State.takeEth_in, blank_ite, ite_self, forEach_in, implies_true]
    | refine forEach_next (fun _ _ => ?_) ?_
    | split

theorem State.takeOutcomes_in {m : Part → Bool} (h_bal : m .bal = true) (h_banks : m .banks = true) (h_belay : m .belay = true) (h_bstr : m .bstr =
    true) (h_cans : m .cans = true) (h_clock : m .clock = true) (h_cores : m .cores = true) (h_corr : m .corr = true) (h_dict : m .dict = true)
    (h_est : m .est = true) (h_eths : m .eths = true) (h_evlog : m .evlog = true) (h_fc : m .fc = true) (h_gates : m .gates = true) (h_health : m
    .health = true) (h_io : m .io = true) (h_irq : m .irq = true) (h_mode : m .mode = true) (h_ropes : m .ropes = true) (h_seng : m .seng = true)
    (h_start : m .start = true) (h_store : m .store = true) (h_stream : m .stream = true) (h_strs : m .strs = true) (h_supply : m .supply = true)
    (h_therm : m .therm = true) (h_trav : m .trav = true) (h_utcAt : m .utcAt = true) (h_utcBase : m .utcBase = true) (h_values : m .values = true)
    (x0 : State) :
    State.blank m (State.takeOutcomes x0) = State.blank m x0 := by
  unfold State.takeOutcomes
  repeat' first
    | simp only [h_bal, h_banks, h_belay, h_bstr, h_cans, h_clock, h_cores, h_corr, h_dict, h_est, h_eths, h_evlog, h_fc, h_gates, h_health, h_io,
        h_irq, h_mode, h_ropes, h_seng, h_start, h_store, h_stream, h_strs, h_supply, h_therm, h_trav, h_utcAt, h_utcBase, h_values,
        State.takeOutcome_in, State.modBelay_in, blank_ite, ite_self, forEach_in, implies_true]
    | refine forEach_next (fun _ _ => ?_) ?_
    | split

end Sys2Proof.Machine
end

