-- ==== Sys2Proof/Laws/Fields.lean ====
section
/-!
SUPPORT. What the shared operations leave unchanged, field by field: each lemma reads one field off the operation's frame.
-/

namespace Sys2Proof.Machine

/-- The parts of a list. -/
def only (l : List Part) (p : Part) : Bool := l.contains p

/-- States that differ in the parts of `m` alone agree on every other part. -/
theorem same_of_blank {m : Part → Bool} {s t : State} (h : t.blank m = s.blank m) {p : Part} (hp : m p = false) : same s t p := by
  cases p
  case free => simpa [State.blank, hp, same] using congrArg State.free h
  case ident => simpa [State.blank, hp, same] using congrArg State.ident h
  case utcBase => simpa [State.blank, hp, same] using congrArg State.utcBase h
  case utcAt => simpa [State.blank, hp, same] using congrArg State.utcAt h
  case irq => simpa [State.blank, hp, same] using congrArg State.irq h
  case evlog => simpa [State.blank, hp, same] using congrArg State.evlog h
  case fc => simpa [State.blank, hp, same] using congrArg State.fc h
  case supply => simpa [State.blank, hp, same] using congrArg State.supply h
  case start => simpa [State.blank, hp, same] using congrArg State.start h
  case mode => simpa [State.blank, hp, same] using congrArg State.mode h
  case cores => simpa [State.blank, hp, same] using congrArg State.cores h
  case health => simpa [State.blank, hp, same] using congrArg State.health h
  case strs => simpa [State.blank, hp, same] using congrArg State.strs h
  case banks => simpa [State.blank, hp, same] using congrArg State.banks h
  case gates => simpa [State.blank, hp, same] using congrArg State.gates h
  case gateBlock => simpa [State.blank, hp, same] using congrArg State.gateBlock h
  case bstr => simpa [State.blank, hp, same] using congrArg State.bstr h
  case belay =>
    have := congrArg (fun s => { s.belay with store := [] }) h
    simpa [State.blank, hp, same] using this
  case records =>
    have := congrArg (fun s => s.belay.store) h
    simpa [State.blank, hp, same] using this
  case io => simpa [State.blank, hp, same] using congrArg State.io h
  case dict =>
    have := congrArg (fun s => { s.dict with vals := [] }) h
    simpa [State.blank, hp, same] using this
  case values =>
    have := congrArg (fun s => s.dict.vals) h
    simpa [State.blank, hp, same] using this
  case seng => simpa [State.blank, hp, same] using congrArg State.seng h
  case therm => simpa [State.blank, hp, same] using congrArg State.therm h
  case cans => simpa [State.blank, hp, same] using congrArg State.cans h
  case ropes => simpa [State.blank, hp, same] using congrArg State.ropes h
  case nodes => simpa [State.blank, hp, same] using congrArg State.nodes h
  case trav => simpa [State.blank, hp, same] using congrArg State.trav h
  case bal => simpa [State.blank, hp, same] using congrArg State.bal h
  case eths => simpa [State.blank, hp, same] using congrArg State.eths h
  case stream => simpa [State.blank, hp, same] using congrArg State.stream h
  case clock => simpa [State.blank, hp, same] using congrArg State.clock h
  case corr => simpa [State.blank, hp, same] using congrArg State.corr h
  case est => simpa [State.blank, hp, same] using congrArg State.est h
  case store => simpa [State.blank, hp, same] using congrArg State.store h
  case heldReq => simpa [State.blank, hp, same] using congrArg State.heldReq h
  case waitingWrites => simpa [State.blank, hp, same] using congrArg State.waitingWrites h

/-- No operation touches the queue, the time base or `SERIAL` where the state agrees outside some parts. -/
theorem now_of_blank {m : Part → Bool} {s t : State} (h : t.blank m = s.blank m) : t.now = s.now := by
  simpa [State.blank] using congrArg State.now h
theorem pending_of_blank {m : Part → Bool} {s t : State} (h : t.blank m = s.blank m) : t.pending = s.pending := by
  simpa [State.blank] using congrArg State.pending h
theorem serial_of_blank {m : Part → Bool} {s t : State} (h : t.blank m = s.blank m) : t.serial = s.serial := by
  simpa [State.blank] using congrArg State.serial h


theorem belay_of_blank {m : Part → Bool} {s t : State} (h : t.blank m = s.blank m) (h1 : m .belay = false) (h2 : m .records = false) :
    t.belay = s.belay := by
  have := congrArg State.belay h
  simp only [State.blank, h1, h2, Bool.false_eq_true, if_false] at this
  exact this
theorem dict_of_blank {m : Part → Bool} {s t : State} (h : t.blank m = s.blank m) (h1 : m .dict = false) (h2 : m .values = false) :
    t.dict = s.dict := by
  have := congrArg State.dict h
  simp only [State.blank, h1, h2, Bool.false_eq_true, if_false] at this
  exact this

/-! ## `event` -/

@[simp] theorem State.event_now (x0 : State) x1 x2 x3 x4 : (State.event x0 x1 x2 x3 x4).now = x0.now :=
  now_of_blank (State.event_in (m := only [.evlog, .irq]) rfl rfl x0 x1 x2 x3 x4)
@[simp] theorem State.event_pending (x0 : State) x1 x2 x3 x4 : (State.event x0 x1 x2 x3 x4).pending = x0.pending :=
  pending_of_blank (State.event_in (m := only [.evlog, .irq]) rfl rfl x0 x1 x2 x3 x4)
@[simp] theorem State.event_serial (x0 : State) x1 x2 x3 x4 : (State.event x0 x1 x2 x3 x4).serial = x0.serial :=
  serial_of_blank (State.event_in (m := only [.evlog, .irq]) rfl rfl x0 x1 x2 x3 x4)
@[simp] theorem State.event_free (x0 : State) x1 x2 x3 x4 : (State.event x0 x1 x2 x3 x4).free = x0.free :=
  same_of_blank (p := .free) (State.event_in (m := only [.evlog, .irq]) rfl rfl x0 x1 x2 x3 x4) rfl
@[simp] theorem State.event_ident (x0 : State) x1 x2 x3 x4 : (State.event x0 x1 x2 x3 x4).ident = x0.ident :=
  same_of_blank (p := .ident) (State.event_in (m := only [.evlog, .irq]) rfl rfl x0 x1 x2 x3 x4) rfl
@[simp] theorem State.event_utcBase (x0 : State) x1 x2 x3 x4 : (State.event x0 x1 x2 x3 x4).utcBase = x0.utcBase :=
  same_of_blank (p := .utcBase) (State.event_in (m := only [.evlog, .irq]) rfl rfl x0 x1 x2 x3 x4) rfl
@[simp] theorem State.event_utcAt (x0 : State) x1 x2 x3 x4 : (State.event x0 x1 x2 x3 x4).utcAt = x0.utcAt :=
  same_of_blank (p := .utcAt) (State.event_in (m := only [.evlog, .irq]) rfl rfl x0 x1 x2 x3 x4) rfl
@[simp] theorem State.event_fc (x0 : State) x1 x2 x3 x4 : (State.event x0 x1 x2 x3 x4).fc = x0.fc :=
  same_of_blank (p := .fc) (State.event_in (m := only [.evlog, .irq]) rfl rfl x0 x1 x2 x3 x4) rfl
@[simp] theorem State.event_supply (x0 : State) x1 x2 x3 x4 : (State.event x0 x1 x2 x3 x4).supply = x0.supply :=
  same_of_blank (p := .supply) (State.event_in (m := only [.evlog, .irq]) rfl rfl x0 x1 x2 x3 x4) rfl
@[simp] theorem State.event_start (x0 : State) x1 x2 x3 x4 : (State.event x0 x1 x2 x3 x4).start = x0.start :=
  same_of_blank (p := .start) (State.event_in (m := only [.evlog, .irq]) rfl rfl x0 x1 x2 x3 x4) rfl
@[simp] theorem State.event_mode (x0 : State) x1 x2 x3 x4 : (State.event x0 x1 x2 x3 x4).mode = x0.mode :=
  same_of_blank (p := .mode) (State.event_in (m := only [.evlog, .irq]) rfl rfl x0 x1 x2 x3 x4) rfl
@[simp] theorem State.event_cores (x0 : State) x1 x2 x3 x4 : (State.event x0 x1 x2 x3 x4).cores = x0.cores :=
  same_of_blank (p := .cores) (State.event_in (m := only [.evlog, .irq]) rfl rfl x0 x1 x2 x3 x4) rfl
@[simp] theorem State.event_health (x0 : State) x1 x2 x3 x4 : (State.event x0 x1 x2 x3 x4).health = x0.health :=
  same_of_blank (p := .health) (State.event_in (m := only [.evlog, .irq]) rfl rfl x0 x1 x2 x3 x4) rfl
@[simp] theorem State.event_strs (x0 : State) x1 x2 x3 x4 : (State.event x0 x1 x2 x3 x4).strs = x0.strs :=
  same_of_blank (p := .strs) (State.event_in (m := only [.evlog, .irq]) rfl rfl x0 x1 x2 x3 x4) rfl
@[simp] theorem State.event_banks (x0 : State) x1 x2 x3 x4 : (State.event x0 x1 x2 x3 x4).banks = x0.banks :=
  same_of_blank (p := .banks) (State.event_in (m := only [.evlog, .irq]) rfl rfl x0 x1 x2 x3 x4) rfl
@[simp] theorem State.event_gates (x0 : State) x1 x2 x3 x4 : (State.event x0 x1 x2 x3 x4).gates = x0.gates :=
  same_of_blank (p := .gates) (State.event_in (m := only [.evlog, .irq]) rfl rfl x0 x1 x2 x3 x4) rfl
@[simp] theorem State.event_gateBlock (x0 : State) x1 x2 x3 x4 : (State.event x0 x1 x2 x3 x4).gateBlock = x0.gateBlock :=
  same_of_blank (p := .gateBlock) (State.event_in (m := only [.evlog, .irq]) rfl rfl x0 x1 x2 x3 x4) rfl
@[simp] theorem State.event_bstr (x0 : State) x1 x2 x3 x4 : (State.event x0 x1 x2 x3 x4).bstr = x0.bstr :=
  same_of_blank (p := .bstr) (State.event_in (m := only [.evlog, .irq]) rfl rfl x0 x1 x2 x3 x4) rfl
@[simp] theorem State.event_io (x0 : State) x1 x2 x3 x4 : (State.event x0 x1 x2 x3 x4).io = x0.io :=
  same_of_blank (p := .io) (State.event_in (m := only [.evlog, .irq]) rfl rfl x0 x1 x2 x3 x4) rfl
@[simp] theorem State.event_seng (x0 : State) x1 x2 x3 x4 : (State.event x0 x1 x2 x3 x4).seng = x0.seng :=
  same_of_blank (p := .seng) (State.event_in (m := only [.evlog, .irq]) rfl rfl x0 x1 x2 x3 x4) rfl
@[simp] theorem State.event_therm (x0 : State) x1 x2 x3 x4 : (State.event x0 x1 x2 x3 x4).therm = x0.therm :=
  same_of_blank (p := .therm) (State.event_in (m := only [.evlog, .irq]) rfl rfl x0 x1 x2 x3 x4) rfl
@[simp] theorem State.event_cans (x0 : State) x1 x2 x3 x4 : (State.event x0 x1 x2 x3 x4).cans = x0.cans :=
  same_of_blank (p := .cans) (State.event_in (m := only [.evlog, .irq]) rfl rfl x0 x1 x2 x3 x4) rfl
@[simp] theorem State.event_ropes (x0 : State) x1 x2 x3 x4 : (State.event x0 x1 x2 x3 x4).ropes = x0.ropes :=
  same_of_blank (p := .ropes) (State.event_in (m := only [.evlog, .irq]) rfl rfl x0 x1 x2 x3 x4) rfl
@[simp] theorem State.event_nodes (x0 : State) x1 x2 x3 x4 : (State.event x0 x1 x2 x3 x4).nodes = x0.nodes :=
  same_of_blank (p := .nodes) (State.event_in (m := only [.evlog, .irq]) rfl rfl x0 x1 x2 x3 x4) rfl
@[simp] theorem State.event_trav (x0 : State) x1 x2 x3 x4 : (State.event x0 x1 x2 x3 x4).trav = x0.trav :=
  same_of_blank (p := .trav) (State.event_in (m := only [.evlog, .irq]) rfl rfl x0 x1 x2 x3 x4) rfl
@[simp] theorem State.event_bal (x0 : State) x1 x2 x3 x4 : (State.event x0 x1 x2 x3 x4).bal = x0.bal :=
  same_of_blank (p := .bal) (State.event_in (m := only [.evlog, .irq]) rfl rfl x0 x1 x2 x3 x4) rfl
@[simp] theorem State.event_eths (x0 : State) x1 x2 x3 x4 : (State.event x0 x1 x2 x3 x4).eths = x0.eths :=
  same_of_blank (p := .eths) (State.event_in (m := only [.evlog, .irq]) rfl rfl x0 x1 x2 x3 x4) rfl
@[simp] theorem State.event_stream (x0 : State) x1 x2 x3 x4 : (State.event x0 x1 x2 x3 x4).stream = x0.stream :=
  same_of_blank (p := .stream) (State.event_in (m := only [.evlog, .irq]) rfl rfl x0 x1 x2 x3 x4) rfl
@[simp] theorem State.event_clock (x0 : State) x1 x2 x3 x4 : (State.event x0 x1 x2 x3 x4).clock = x0.clock :=
  same_of_blank (p := .clock) (State.event_in (m := only [.evlog, .irq]) rfl rfl x0 x1 x2 x3 x4) rfl
@[simp] theorem State.event_corr (x0 : State) x1 x2 x3 x4 : (State.event x0 x1 x2 x3 x4).corr = x0.corr :=
  same_of_blank (p := .corr) (State.event_in (m := only [.evlog, .irq]) rfl rfl x0 x1 x2 x3 x4) rfl
@[simp] theorem State.event_est (x0 : State) x1 x2 x3 x4 : (State.event x0 x1 x2 x3 x4).est = x0.est :=
  same_of_blank (p := .est) (State.event_in (m := only [.evlog, .irq]) rfl rfl x0 x1 x2 x3 x4) rfl
@[simp] theorem State.event_store (x0 : State) x1 x2 x3 x4 : (State.event x0 x1 x2 x3 x4).store = x0.store :=
  same_of_blank (p := .store) (State.event_in (m := only [.evlog, .irq]) rfl rfl x0 x1 x2 x3 x4) rfl
@[simp] theorem State.event_heldReq (x0 : State) x1 x2 x3 x4 : (State.event x0 x1 x2 x3 x4).heldReq = x0.heldReq :=
  same_of_blank (p := .heldReq) (State.event_in (m := only [.evlog, .irq]) rfl rfl x0 x1 x2 x3 x4) rfl
@[simp] theorem State.event_waitingWrites (x0 : State) x1 x2 x3 x4 : (State.event x0 x1 x2 x3 x4).waitingWrites = x0.waitingWrites :=
  same_of_blank (p := .waitingWrites) (State.event_in (m := only [.evlog, .irq]) rfl rfl x0 x1 x2 x3 x4) rfl
@[simp] theorem State.event_belay (x0 : State) x1 x2 x3 x4 : (State.event x0 x1 x2 x3 x4).belay = x0.belay :=
  belay_of_blank (State.event_in (m := only [.evlog, .irq]) rfl rfl x0 x1 x2 x3 x4) rfl rfl
@[simp] theorem State.event_dict (x0 : State) x1 x2 x3 x4 : (State.event x0 x1 x2 x3 x4).dict = x0.dict :=
  dict_of_blank (State.event_in (m := only [.evlog, .irq]) rfl rfl x0 x1 x2 x3 x4) rfl rfl

/-! ## `irqRaise` -/

@[simp] theorem State.irqRaise_now (x0 : State) x1 : (State.irqRaise x0 x1).now = x0.now :=
  now_of_blank (State.irqRaise_in (m := only [.irq]) rfl x0 x1)
@[simp] theorem State.irqRaise_pending (x0 : State) x1 : (State.irqRaise x0 x1).pending = x0.pending :=
  pending_of_blank (State.irqRaise_in (m := only [.irq]) rfl x0 x1)
@[simp] theorem State.irqRaise_serial (x0 : State) x1 : (State.irqRaise x0 x1).serial = x0.serial :=
  serial_of_blank (State.irqRaise_in (m := only [.irq]) rfl x0 x1)
@[simp] theorem State.irqRaise_free (x0 : State) x1 : (State.irqRaise x0 x1).free = x0.free :=
  same_of_blank (p := .free) (State.irqRaise_in (m := only [.irq]) rfl x0 x1) rfl
@[simp] theorem State.irqRaise_ident (x0 : State) x1 : (State.irqRaise x0 x1).ident = x0.ident :=
  same_of_blank (p := .ident) (State.irqRaise_in (m := only [.irq]) rfl x0 x1) rfl
@[simp] theorem State.irqRaise_utcBase (x0 : State) x1 : (State.irqRaise x0 x1).utcBase = x0.utcBase :=
  same_of_blank (p := .utcBase) (State.irqRaise_in (m := only [.irq]) rfl x0 x1) rfl
@[simp] theorem State.irqRaise_utcAt (x0 : State) x1 : (State.irqRaise x0 x1).utcAt = x0.utcAt :=
  same_of_blank (p := .utcAt) (State.irqRaise_in (m := only [.irq]) rfl x0 x1) rfl
@[simp] theorem State.irqRaise_evlog (x0 : State) x1 : (State.irqRaise x0 x1).evlog = x0.evlog :=
  same_of_blank (p := .evlog) (State.irqRaise_in (m := only [.irq]) rfl x0 x1) rfl
@[simp] theorem State.irqRaise_fc (x0 : State) x1 : (State.irqRaise x0 x1).fc = x0.fc :=
  same_of_blank (p := .fc) (State.irqRaise_in (m := only [.irq]) rfl x0 x1) rfl
@[simp] theorem State.irqRaise_supply (x0 : State) x1 : (State.irqRaise x0 x1).supply = x0.supply :=
  same_of_blank (p := .supply) (State.irqRaise_in (m := only [.irq]) rfl x0 x1) rfl
@[simp] theorem State.irqRaise_start (x0 : State) x1 : (State.irqRaise x0 x1).start = x0.start :=
  same_of_blank (p := .start) (State.irqRaise_in (m := only [.irq]) rfl x0 x1) rfl
@[simp] theorem State.irqRaise_mode (x0 : State) x1 : (State.irqRaise x0 x1).mode = x0.mode :=
  same_of_blank (p := .mode) (State.irqRaise_in (m := only [.irq]) rfl x0 x1) rfl
@[simp] theorem State.irqRaise_cores (x0 : State) x1 : (State.irqRaise x0 x1).cores = x0.cores :=
  same_of_blank (p := .cores) (State.irqRaise_in (m := only [.irq]) rfl x0 x1) rfl
@[simp] theorem State.irqRaise_health (x0 : State) x1 : (State.irqRaise x0 x1).health = x0.health :=
  same_of_blank (p := .health) (State.irqRaise_in (m := only [.irq]) rfl x0 x1) rfl
@[simp] theorem State.irqRaise_strs (x0 : State) x1 : (State.irqRaise x0 x1).strs = x0.strs :=
  same_of_blank (p := .strs) (State.irqRaise_in (m := only [.irq]) rfl x0 x1) rfl
@[simp] theorem State.irqRaise_banks (x0 : State) x1 : (State.irqRaise x0 x1).banks = x0.banks :=
  same_of_blank (p := .banks) (State.irqRaise_in (m := only [.irq]) rfl x0 x1) rfl
@[simp] theorem State.irqRaise_gates (x0 : State) x1 : (State.irqRaise x0 x1).gates = x0.gates :=
  same_of_blank (p := .gates) (State.irqRaise_in (m := only [.irq]) rfl x0 x1) rfl
@[simp] theorem State.irqRaise_gateBlock (x0 : State) x1 : (State.irqRaise x0 x1).gateBlock = x0.gateBlock :=
  same_of_blank (p := .gateBlock) (State.irqRaise_in (m := only [.irq]) rfl x0 x1) rfl
@[simp] theorem State.irqRaise_bstr (x0 : State) x1 : (State.irqRaise x0 x1).bstr = x0.bstr :=
  same_of_blank (p := .bstr) (State.irqRaise_in (m := only [.irq]) rfl x0 x1) rfl
@[simp] theorem State.irqRaise_io (x0 : State) x1 : (State.irqRaise x0 x1).io = x0.io :=
  same_of_blank (p := .io) (State.irqRaise_in (m := only [.irq]) rfl x0 x1) rfl
@[simp] theorem State.irqRaise_seng (x0 : State) x1 : (State.irqRaise x0 x1).seng = x0.seng :=
  same_of_blank (p := .seng) (State.irqRaise_in (m := only [.irq]) rfl x0 x1) rfl
@[simp] theorem State.irqRaise_therm (x0 : State) x1 : (State.irqRaise x0 x1).therm = x0.therm :=
  same_of_blank (p := .therm) (State.irqRaise_in (m := only [.irq]) rfl x0 x1) rfl
@[simp] theorem State.irqRaise_cans (x0 : State) x1 : (State.irqRaise x0 x1).cans = x0.cans :=
  same_of_blank (p := .cans) (State.irqRaise_in (m := only [.irq]) rfl x0 x1) rfl
@[simp] theorem State.irqRaise_ropes (x0 : State) x1 : (State.irqRaise x0 x1).ropes = x0.ropes :=
  same_of_blank (p := .ropes) (State.irqRaise_in (m := only [.irq]) rfl x0 x1) rfl
@[simp] theorem State.irqRaise_nodes (x0 : State) x1 : (State.irqRaise x0 x1).nodes = x0.nodes :=
  same_of_blank (p := .nodes) (State.irqRaise_in (m := only [.irq]) rfl x0 x1) rfl
@[simp] theorem State.irqRaise_trav (x0 : State) x1 : (State.irqRaise x0 x1).trav = x0.trav :=
  same_of_blank (p := .trav) (State.irqRaise_in (m := only [.irq]) rfl x0 x1) rfl
@[simp] theorem State.irqRaise_bal (x0 : State) x1 : (State.irqRaise x0 x1).bal = x0.bal :=
  same_of_blank (p := .bal) (State.irqRaise_in (m := only [.irq]) rfl x0 x1) rfl
@[simp] theorem State.irqRaise_eths (x0 : State) x1 : (State.irqRaise x0 x1).eths = x0.eths :=
  same_of_blank (p := .eths) (State.irqRaise_in (m := only [.irq]) rfl x0 x1) rfl
@[simp] theorem State.irqRaise_stream (x0 : State) x1 : (State.irqRaise x0 x1).stream = x0.stream :=
  same_of_blank (p := .stream) (State.irqRaise_in (m := only [.irq]) rfl x0 x1) rfl
@[simp] theorem State.irqRaise_clock (x0 : State) x1 : (State.irqRaise x0 x1).clock = x0.clock :=
  same_of_blank (p := .clock) (State.irqRaise_in (m := only [.irq]) rfl x0 x1) rfl
@[simp] theorem State.irqRaise_corr (x0 : State) x1 : (State.irqRaise x0 x1).corr = x0.corr :=
  same_of_blank (p := .corr) (State.irqRaise_in (m := only [.irq]) rfl x0 x1) rfl
@[simp] theorem State.irqRaise_est (x0 : State) x1 : (State.irqRaise x0 x1).est = x0.est :=
  same_of_blank (p := .est) (State.irqRaise_in (m := only [.irq]) rfl x0 x1) rfl
@[simp] theorem State.irqRaise_store (x0 : State) x1 : (State.irqRaise x0 x1).store = x0.store :=
  same_of_blank (p := .store) (State.irqRaise_in (m := only [.irq]) rfl x0 x1) rfl
@[simp] theorem State.irqRaise_heldReq (x0 : State) x1 : (State.irqRaise x0 x1).heldReq = x0.heldReq :=
  same_of_blank (p := .heldReq) (State.irqRaise_in (m := only [.irq]) rfl x0 x1) rfl
@[simp] theorem State.irqRaise_waitingWrites (x0 : State) x1 : (State.irqRaise x0 x1).waitingWrites = x0.waitingWrites :=
  same_of_blank (p := .waitingWrites) (State.irqRaise_in (m := only [.irq]) rfl x0 x1) rfl
@[simp] theorem State.irqRaise_belay (x0 : State) x1 : (State.irqRaise x0 x1).belay = x0.belay :=
  belay_of_blank (State.irqRaise_in (m := only [.irq]) rfl x0 x1) rfl rfl
@[simp] theorem State.irqRaise_dict (x0 : State) x1 : (State.irqRaise x0 x1).dict = x0.dict :=
  dict_of_blank (State.irqRaise_in (m := only [.irq]) rfl x0 x1) rfl rfl

/-! ## `send` -/

@[simp] theorem State.send_now (x0 : State) x1 : (State.send x0 x1).now = x0.now :=
  now_of_blank (State.send_in (m := only [.dict, .irq, .eths, .cans]) rfl rfl rfl rfl x0 x1)
@[simp] theorem State.send_pending (x0 : State) x1 : (State.send x0 x1).pending = x0.pending :=
  pending_of_blank (State.send_in (m := only [.dict, .irq, .eths, .cans]) rfl rfl rfl rfl x0 x1)
@[simp] theorem State.send_serial (x0 : State) x1 : (State.send x0 x1).serial = x0.serial :=
  serial_of_blank (State.send_in (m := only [.dict, .irq, .eths, .cans]) rfl rfl rfl rfl x0 x1)
@[simp] theorem State.send_free (x0 : State) x1 : (State.send x0 x1).free = x0.free :=
  same_of_blank (p := .free) (State.send_in (m := only [.dict, .irq, .eths, .cans]) rfl rfl rfl rfl x0 x1) rfl
@[simp] theorem State.send_ident (x0 : State) x1 : (State.send x0 x1).ident = x0.ident :=
  same_of_blank (p := .ident) (State.send_in (m := only [.dict, .irq, .eths, .cans]) rfl rfl rfl rfl x0 x1) rfl
@[simp] theorem State.send_utcBase (x0 : State) x1 : (State.send x0 x1).utcBase = x0.utcBase :=
  same_of_blank (p := .utcBase) (State.send_in (m := only [.dict, .irq, .eths, .cans]) rfl rfl rfl rfl x0 x1) rfl
@[simp] theorem State.send_utcAt (x0 : State) x1 : (State.send x0 x1).utcAt = x0.utcAt :=
  same_of_blank (p := .utcAt) (State.send_in (m := only [.dict, .irq, .eths, .cans]) rfl rfl rfl rfl x0 x1) rfl
@[simp] theorem State.send_evlog (x0 : State) x1 : (State.send x0 x1).evlog = x0.evlog :=
  same_of_blank (p := .evlog) (State.send_in (m := only [.dict, .irq, .eths, .cans]) rfl rfl rfl rfl x0 x1) rfl
@[simp] theorem State.send_fc (x0 : State) x1 : (State.send x0 x1).fc = x0.fc :=
  same_of_blank (p := .fc) (State.send_in (m := only [.dict, .irq, .eths, .cans]) rfl rfl rfl rfl x0 x1) rfl
@[simp] theorem State.send_supply (x0 : State) x1 : (State.send x0 x1).supply = x0.supply :=
  same_of_blank (p := .supply) (State.send_in (m := only [.dict, .irq, .eths, .cans]) rfl rfl rfl rfl x0 x1) rfl
@[simp] theorem State.send_start (x0 : State) x1 : (State.send x0 x1).start = x0.start :=
  same_of_blank (p := .start) (State.send_in (m := only [.dict, .irq, .eths, .cans]) rfl rfl rfl rfl x0 x1) rfl
@[simp] theorem State.send_mode (x0 : State) x1 : (State.send x0 x1).mode = x0.mode :=
  same_of_blank (p := .mode) (State.send_in (m := only [.dict, .irq, .eths, .cans]) rfl rfl rfl rfl x0 x1) rfl
@[simp] theorem State.send_cores (x0 : State) x1 : (State.send x0 x1).cores = x0.cores :=
  same_of_blank (p := .cores) (State.send_in (m := only [.dict, .irq, .eths, .cans]) rfl rfl rfl rfl x0 x1) rfl
@[simp] theorem State.send_health (x0 : State) x1 : (State.send x0 x1).health = x0.health :=
  same_of_blank (p := .health) (State.send_in (m := only [.dict, .irq, .eths, .cans]) rfl rfl rfl rfl x0 x1) rfl
@[simp] theorem State.send_strs (x0 : State) x1 : (State.send x0 x1).strs = x0.strs :=
  same_of_blank (p := .strs) (State.send_in (m := only [.dict, .irq, .eths, .cans]) rfl rfl rfl rfl x0 x1) rfl
@[simp] theorem State.send_banks (x0 : State) x1 : (State.send x0 x1).banks = x0.banks :=
  same_of_blank (p := .banks) (State.send_in (m := only [.dict, .irq, .eths, .cans]) rfl rfl rfl rfl x0 x1) rfl
@[simp] theorem State.send_gates (x0 : State) x1 : (State.send x0 x1).gates = x0.gates :=
  same_of_blank (p := .gates) (State.send_in (m := only [.dict, .irq, .eths, .cans]) rfl rfl rfl rfl x0 x1) rfl
@[simp] theorem State.send_gateBlock (x0 : State) x1 : (State.send x0 x1).gateBlock = x0.gateBlock :=
  same_of_blank (p := .gateBlock) (State.send_in (m := only [.dict, .irq, .eths, .cans]) rfl rfl rfl rfl x0 x1) rfl
@[simp] theorem State.send_bstr (x0 : State) x1 : (State.send x0 x1).bstr = x0.bstr :=
  same_of_blank (p := .bstr) (State.send_in (m := only [.dict, .irq, .eths, .cans]) rfl rfl rfl rfl x0 x1) rfl
@[simp] theorem State.send_io (x0 : State) x1 : (State.send x0 x1).io = x0.io :=
  same_of_blank (p := .io) (State.send_in (m := only [.dict, .irq, .eths, .cans]) rfl rfl rfl rfl x0 x1) rfl
@[simp] theorem State.send_seng (x0 : State) x1 : (State.send x0 x1).seng = x0.seng :=
  same_of_blank (p := .seng) (State.send_in (m := only [.dict, .irq, .eths, .cans]) rfl rfl rfl rfl x0 x1) rfl
@[simp] theorem State.send_therm (x0 : State) x1 : (State.send x0 x1).therm = x0.therm :=
  same_of_blank (p := .therm) (State.send_in (m := only [.dict, .irq, .eths, .cans]) rfl rfl rfl rfl x0 x1) rfl
@[simp] theorem State.send_ropes (x0 : State) x1 : (State.send x0 x1).ropes = x0.ropes :=
  same_of_blank (p := .ropes) (State.send_in (m := only [.dict, .irq, .eths, .cans]) rfl rfl rfl rfl x0 x1) rfl
@[simp] theorem State.send_nodes (x0 : State) x1 : (State.send x0 x1).nodes = x0.nodes :=
  same_of_blank (p := .nodes) (State.send_in (m := only [.dict, .irq, .eths, .cans]) rfl rfl rfl rfl x0 x1) rfl
@[simp] theorem State.send_trav (x0 : State) x1 : (State.send x0 x1).trav = x0.trav :=
  same_of_blank (p := .trav) (State.send_in (m := only [.dict, .irq, .eths, .cans]) rfl rfl rfl rfl x0 x1) rfl
@[simp] theorem State.send_bal (x0 : State) x1 : (State.send x0 x1).bal = x0.bal :=
  same_of_blank (p := .bal) (State.send_in (m := only [.dict, .irq, .eths, .cans]) rfl rfl rfl rfl x0 x1) rfl
@[simp] theorem State.send_stream (x0 : State) x1 : (State.send x0 x1).stream = x0.stream :=
  same_of_blank (p := .stream) (State.send_in (m := only [.dict, .irq, .eths, .cans]) rfl rfl rfl rfl x0 x1) rfl
@[simp] theorem State.send_clock (x0 : State) x1 : (State.send x0 x1).clock = x0.clock :=
  same_of_blank (p := .clock) (State.send_in (m := only [.dict, .irq, .eths, .cans]) rfl rfl rfl rfl x0 x1) rfl
@[simp] theorem State.send_corr (x0 : State) x1 : (State.send x0 x1).corr = x0.corr :=
  same_of_blank (p := .corr) (State.send_in (m := only [.dict, .irq, .eths, .cans]) rfl rfl rfl rfl x0 x1) rfl
@[simp] theorem State.send_est (x0 : State) x1 : (State.send x0 x1).est = x0.est :=
  same_of_blank (p := .est) (State.send_in (m := only [.dict, .irq, .eths, .cans]) rfl rfl rfl rfl x0 x1) rfl
@[simp] theorem State.send_store (x0 : State) x1 : (State.send x0 x1).store = x0.store :=
  same_of_blank (p := .store) (State.send_in (m := only [.dict, .irq, .eths, .cans]) rfl rfl rfl rfl x0 x1) rfl
@[simp] theorem State.send_heldReq (x0 : State) x1 : (State.send x0 x1).heldReq = x0.heldReq :=
  same_of_blank (p := .heldReq) (State.send_in (m := only [.dict, .irq, .eths, .cans]) rfl rfl rfl rfl x0 x1) rfl
@[simp] theorem State.send_waitingWrites (x0 : State) x1 : (State.send x0 x1).waitingWrites = x0.waitingWrites :=
  same_of_blank (p := .waitingWrites) (State.send_in (m := only [.dict, .irq, .eths, .cans]) rfl rfl rfl rfl x0 x1) rfl
@[simp] theorem State.send_belay (x0 : State) x1 : (State.send x0 x1).belay = x0.belay :=
  belay_of_blank (State.send_in (m := only [.dict, .irq, .eths, .cans]) rfl rfl rfl rfl x0 x1) rfl rfl
@[simp] theorem State.send_values (x0 : State) x1 : (State.send x0 x1).dict.vals = x0.dict.vals :=
  same_of_blank (p := .values) (State.send_in (m := only [.dict, .irq, .eths, .cans]) rfl rfl rfl rfl x0 x1) rfl

/-! ## `newRequest` -/

@[simp] theorem State.newRequest_now (x0 : State) x1 : (State.newRequest x0 x1).now = x0.now :=
  now_of_blank (State.newRequest_in (m := only [.eths, .irq, .dict, .evlog]) rfl rfl rfl rfl x0 x1)
@[simp] theorem State.newRequest_pending (x0 : State) x1 : (State.newRequest x0 x1).pending = x0.pending :=
  pending_of_blank (State.newRequest_in (m := only [.eths, .irq, .dict, .evlog]) rfl rfl rfl rfl x0 x1)
@[simp] theorem State.newRequest_serial (x0 : State) x1 : (State.newRequest x0 x1).serial = x0.serial :=
  serial_of_blank (State.newRequest_in (m := only [.eths, .irq, .dict, .evlog]) rfl rfl rfl rfl x0 x1)
@[simp] theorem State.newRequest_free (x0 : State) x1 : (State.newRequest x0 x1).free = x0.free :=
  same_of_blank (p := .free) (State.newRequest_in (m := only [.eths, .irq, .dict, .evlog]) rfl rfl rfl rfl x0 x1) rfl
@[simp] theorem State.newRequest_ident (x0 : State) x1 : (State.newRequest x0 x1).ident = x0.ident :=
  same_of_blank (p := .ident) (State.newRequest_in (m := only [.eths, .irq, .dict, .evlog]) rfl rfl rfl rfl x0 x1) rfl
@[simp] theorem State.newRequest_utcBase (x0 : State) x1 : (State.newRequest x0 x1).utcBase = x0.utcBase :=
  same_of_blank (p := .utcBase) (State.newRequest_in (m := only [.eths, .irq, .dict, .evlog]) rfl rfl rfl rfl x0 x1) rfl
@[simp] theorem State.newRequest_utcAt (x0 : State) x1 : (State.newRequest x0 x1).utcAt = x0.utcAt :=
  same_of_blank (p := .utcAt) (State.newRequest_in (m := only [.eths, .irq, .dict, .evlog]) rfl rfl rfl rfl x0 x1) rfl
@[simp] theorem State.newRequest_fc (x0 : State) x1 : (State.newRequest x0 x1).fc = x0.fc :=
  same_of_blank (p := .fc) (State.newRequest_in (m := only [.eths, .irq, .dict, .evlog]) rfl rfl rfl rfl x0 x1) rfl
@[simp] theorem State.newRequest_supply (x0 : State) x1 : (State.newRequest x0 x1).supply = x0.supply :=
  same_of_blank (p := .supply) (State.newRequest_in (m := only [.eths, .irq, .dict, .evlog]) rfl rfl rfl rfl x0 x1) rfl
@[simp] theorem State.newRequest_start (x0 : State) x1 : (State.newRequest x0 x1).start = x0.start :=
  same_of_blank (p := .start) (State.newRequest_in (m := only [.eths, .irq, .dict, .evlog]) rfl rfl rfl rfl x0 x1) rfl
@[simp] theorem State.newRequest_mode (x0 : State) x1 : (State.newRequest x0 x1).mode = x0.mode :=
  same_of_blank (p := .mode) (State.newRequest_in (m := only [.eths, .irq, .dict, .evlog]) rfl rfl rfl rfl x0 x1) rfl
@[simp] theorem State.newRequest_cores (x0 : State) x1 : (State.newRequest x0 x1).cores = x0.cores :=
  same_of_blank (p := .cores) (State.newRequest_in (m := only [.eths, .irq, .dict, .evlog]) rfl rfl rfl rfl x0 x1) rfl
@[simp] theorem State.newRequest_health (x0 : State) x1 : (State.newRequest x0 x1).health = x0.health :=
  same_of_blank (p := .health) (State.newRequest_in (m := only [.eths, .irq, .dict, .evlog]) rfl rfl rfl rfl x0 x1) rfl
@[simp] theorem State.newRequest_strs (x0 : State) x1 : (State.newRequest x0 x1).strs = x0.strs :=
  same_of_blank (p := .strs) (State.newRequest_in (m := only [.eths, .irq, .dict, .evlog]) rfl rfl rfl rfl x0 x1) rfl
@[simp] theorem State.newRequest_banks (x0 : State) x1 : (State.newRequest x0 x1).banks = x0.banks :=
  same_of_blank (p := .banks) (State.newRequest_in (m := only [.eths, .irq, .dict, .evlog]) rfl rfl rfl rfl x0 x1) rfl
@[simp] theorem State.newRequest_gates (x0 : State) x1 : (State.newRequest x0 x1).gates = x0.gates :=
  same_of_blank (p := .gates) (State.newRequest_in (m := only [.eths, .irq, .dict, .evlog]) rfl rfl rfl rfl x0 x1) rfl
@[simp] theorem State.newRequest_gateBlock (x0 : State) x1 : (State.newRequest x0 x1).gateBlock = x0.gateBlock :=
  same_of_blank (p := .gateBlock) (State.newRequest_in (m := only [.eths, .irq, .dict, .evlog]) rfl rfl rfl rfl x0 x1) rfl
@[simp] theorem State.newRequest_bstr (x0 : State) x1 : (State.newRequest x0 x1).bstr = x0.bstr :=
  same_of_blank (p := .bstr) (State.newRequest_in (m := only [.eths, .irq, .dict, .evlog]) rfl rfl rfl rfl x0 x1) rfl
@[simp] theorem State.newRequest_io (x0 : State) x1 : (State.newRequest x0 x1).io = x0.io :=
  same_of_blank (p := .io) (State.newRequest_in (m := only [.eths, .irq, .dict, .evlog]) rfl rfl rfl rfl x0 x1) rfl
@[simp] theorem State.newRequest_seng (x0 : State) x1 : (State.newRequest x0 x1).seng = x0.seng :=
  same_of_blank (p := .seng) (State.newRequest_in (m := only [.eths, .irq, .dict, .evlog]) rfl rfl rfl rfl x0 x1) rfl
@[simp] theorem State.newRequest_therm (x0 : State) x1 : (State.newRequest x0 x1).therm = x0.therm :=
  same_of_blank (p := .therm) (State.newRequest_in (m := only [.eths, .irq, .dict, .evlog]) rfl rfl rfl rfl x0 x1) rfl
@[simp] theorem State.newRequest_cans (x0 : State) x1 : (State.newRequest x0 x1).cans = x0.cans :=
  same_of_blank (p := .cans) (State.newRequest_in (m := only [.eths, .irq, .dict, .evlog]) rfl rfl rfl rfl x0 x1) rfl
@[simp] theorem State.newRequest_ropes (x0 : State) x1 : (State.newRequest x0 x1).ropes = x0.ropes :=
  same_of_blank (p := .ropes) (State.newRequest_in (m := only [.eths, .irq, .dict, .evlog]) rfl rfl rfl rfl x0 x1) rfl
@[simp] theorem State.newRequest_nodes (x0 : State) x1 : (State.newRequest x0 x1).nodes = x0.nodes :=
  same_of_blank (p := .nodes) (State.newRequest_in (m := only [.eths, .irq, .dict, .evlog]) rfl rfl rfl rfl x0 x1) rfl
@[simp] theorem State.newRequest_trav (x0 : State) x1 : (State.newRequest x0 x1).trav = x0.trav :=
  same_of_blank (p := .trav) (State.newRequest_in (m := only [.eths, .irq, .dict, .evlog]) rfl rfl rfl rfl x0 x1) rfl
@[simp] theorem State.newRequest_bal (x0 : State) x1 : (State.newRequest x0 x1).bal = x0.bal :=
  same_of_blank (p := .bal) (State.newRequest_in (m := only [.eths, .irq, .dict, .evlog]) rfl rfl rfl rfl x0 x1) rfl
@[simp] theorem State.newRequest_stream (x0 : State) x1 : (State.newRequest x0 x1).stream = x0.stream :=
  same_of_blank (p := .stream) (State.newRequest_in (m := only [.eths, .irq, .dict, .evlog]) rfl rfl rfl rfl x0 x1) rfl
@[simp] theorem State.newRequest_clock (x0 : State) x1 : (State.newRequest x0 x1).clock = x0.clock :=
  same_of_blank (p := .clock) (State.newRequest_in (m := only [.eths, .irq, .dict, .evlog]) rfl rfl rfl rfl x0 x1) rfl
@[simp] theorem State.newRequest_corr (x0 : State) x1 : (State.newRequest x0 x1).corr = x0.corr :=
  same_of_blank (p := .corr) (State.newRequest_in (m := only [.eths, .irq, .dict, .evlog]) rfl rfl rfl rfl x0 x1) rfl
@[simp] theorem State.newRequest_est (x0 : State) x1 : (State.newRequest x0 x1).est = x0.est :=
  same_of_blank (p := .est) (State.newRequest_in (m := only [.eths, .irq, .dict, .evlog]) rfl rfl rfl rfl x0 x1) rfl
@[simp] theorem State.newRequest_store (x0 : State) x1 : (State.newRequest x0 x1).store = x0.store :=
  same_of_blank (p := .store) (State.newRequest_in (m := only [.eths, .irq, .dict, .evlog]) rfl rfl rfl rfl x0 x1) rfl
@[simp] theorem State.newRequest_heldReq (x0 : State) x1 : (State.newRequest x0 x1).heldReq = x0.heldReq :=
  same_of_blank (p := .heldReq) (State.newRequest_in (m := only [.eths, .irq, .dict, .evlog]) rfl rfl rfl rfl x0 x1) rfl
@[simp] theorem State.newRequest_waitingWrites (x0 : State) x1 : (State.newRequest x0 x1).waitingWrites = x0.waitingWrites :=
  same_of_blank (p := .waitingWrites) (State.newRequest_in (m := only [.eths, .irq, .dict, .evlog]) rfl rfl rfl rfl x0 x1) rfl
@[simp] theorem State.newRequest_belay (x0 : State) x1 : (State.newRequest x0 x1).belay = x0.belay :=
  belay_of_blank (State.newRequest_in (m := only [.eths, .irq, .dict, .evlog]) rfl rfl rfl rfl x0 x1) rfl rfl
@[simp] theorem State.newRequest_values (x0 : State) x1 : (State.newRequest x0 x1).dict.vals = x0.dict.vals :=
  same_of_blank (p := .values) (State.newRequest_in (m := only [.eths, .irq, .dict, .evlog]) rfl rfl rfl rfl x0 x1) rfl

/-! ## `noteTickWrite` -/

@[simp] theorem State.noteTickWrite_now (x0 : State) x1 x2 x3 : (State.noteTickWrite x0 x1 x2 x3).now = x0.now :=
  now_of_blank (State.noteTickWrite_in (m := only [.dict]) rfl x0 x1 x2 x3)
@[simp] theorem State.noteTickWrite_pending (x0 : State) x1 x2 x3 : (State.noteTickWrite x0 x1 x2 x3).pending = x0.pending :=
  pending_of_blank (State.noteTickWrite_in (m := only [.dict]) rfl x0 x1 x2 x3)
@[simp] theorem State.noteTickWrite_serial (x0 : State) x1 x2 x3 : (State.noteTickWrite x0 x1 x2 x3).serial = x0.serial :=
  serial_of_blank (State.noteTickWrite_in (m := only [.dict]) rfl x0 x1 x2 x3)
@[simp] theorem State.noteTickWrite_free (x0 : State) x1 x2 x3 : (State.noteTickWrite x0 x1 x2 x3).free = x0.free :=
  same_of_blank (p := .free) (State.noteTickWrite_in (m := only [.dict]) rfl x0 x1 x2 x3) rfl
@[simp] theorem State.noteTickWrite_ident (x0 : State) x1 x2 x3 : (State.noteTickWrite x0 x1 x2 x3).ident = x0.ident :=
  same_of_blank (p := .ident) (State.noteTickWrite_in (m := only [.dict]) rfl x0 x1 x2 x3) rfl
@[simp] theorem State.noteTickWrite_utcBase (x0 : State) x1 x2 x3 : (State.noteTickWrite x0 x1 x2 x3).utcBase = x0.utcBase :=
  same_of_blank (p := .utcBase) (State.noteTickWrite_in (m := only [.dict]) rfl x0 x1 x2 x3) rfl
@[simp] theorem State.noteTickWrite_utcAt (x0 : State) x1 x2 x3 : (State.noteTickWrite x0 x1 x2 x3).utcAt = x0.utcAt :=
  same_of_blank (p := .utcAt) (State.noteTickWrite_in (m := only [.dict]) rfl x0 x1 x2 x3) rfl
@[simp] theorem State.noteTickWrite_irq (x0 : State) x1 x2 x3 : (State.noteTickWrite x0 x1 x2 x3).irq = x0.irq :=
  same_of_blank (p := .irq) (State.noteTickWrite_in (m := only [.dict]) rfl x0 x1 x2 x3) rfl
@[simp] theorem State.noteTickWrite_evlog (x0 : State) x1 x2 x3 : (State.noteTickWrite x0 x1 x2 x3).evlog = x0.evlog :=
  same_of_blank (p := .evlog) (State.noteTickWrite_in (m := only [.dict]) rfl x0 x1 x2 x3) rfl
@[simp] theorem State.noteTickWrite_fc (x0 : State) x1 x2 x3 : (State.noteTickWrite x0 x1 x2 x3).fc = x0.fc :=
  same_of_blank (p := .fc) (State.noteTickWrite_in (m := only [.dict]) rfl x0 x1 x2 x3) rfl
@[simp] theorem State.noteTickWrite_supply (x0 : State) x1 x2 x3 : (State.noteTickWrite x0 x1 x2 x3).supply = x0.supply :=
  same_of_blank (p := .supply) (State.noteTickWrite_in (m := only [.dict]) rfl x0 x1 x2 x3) rfl
@[simp] theorem State.noteTickWrite_start (x0 : State) x1 x2 x3 : (State.noteTickWrite x0 x1 x2 x3).start = x0.start :=
  same_of_blank (p := .start) (State.noteTickWrite_in (m := only [.dict]) rfl x0 x1 x2 x3) rfl
@[simp] theorem State.noteTickWrite_mode (x0 : State) x1 x2 x3 : (State.noteTickWrite x0 x1 x2 x3).mode = x0.mode :=
  same_of_blank (p := .mode) (State.noteTickWrite_in (m := only [.dict]) rfl x0 x1 x2 x3) rfl
@[simp] theorem State.noteTickWrite_cores (x0 : State) x1 x2 x3 : (State.noteTickWrite x0 x1 x2 x3).cores = x0.cores :=
  same_of_blank (p := .cores) (State.noteTickWrite_in (m := only [.dict]) rfl x0 x1 x2 x3) rfl
@[simp] theorem State.noteTickWrite_health (x0 : State) x1 x2 x3 : (State.noteTickWrite x0 x1 x2 x3).health = x0.health :=
  same_of_blank (p := .health) (State.noteTickWrite_in (m := only [.dict]) rfl x0 x1 x2 x3) rfl
@[simp] theorem State.noteTickWrite_strs (x0 : State) x1 x2 x3 : (State.noteTickWrite x0 x1 x2 x3).strs = x0.strs :=
  same_of_blank (p := .strs) (State.noteTickWrite_in (m := only [.dict]) rfl x0 x1 x2 x3) rfl
@[simp] theorem State.noteTickWrite_banks (x0 : State) x1 x2 x3 : (State.noteTickWrite x0 x1 x2 x3).banks = x0.banks :=
  same_of_blank (p := .banks) (State.noteTickWrite_in (m := only [.dict]) rfl x0 x1 x2 x3) rfl
@[simp] theorem State.noteTickWrite_gates (x0 : State) x1 x2 x3 : (State.noteTickWrite x0 x1 x2 x3).gates = x0.gates :=
  same_of_blank (p := .gates) (State.noteTickWrite_in (m := only [.dict]) rfl x0 x1 x2 x3) rfl
@[simp] theorem State.noteTickWrite_gateBlock (x0 : State) x1 x2 x3 : (State.noteTickWrite x0 x1 x2 x3).gateBlock = x0.gateBlock :=
  same_of_blank (p := .gateBlock) (State.noteTickWrite_in (m := only [.dict]) rfl x0 x1 x2 x3) rfl
@[simp] theorem State.noteTickWrite_bstr (x0 : State) x1 x2 x3 : (State.noteTickWrite x0 x1 x2 x3).bstr = x0.bstr :=
  same_of_blank (p := .bstr) (State.noteTickWrite_in (m := only [.dict]) rfl x0 x1 x2 x3) rfl
@[simp] theorem State.noteTickWrite_io (x0 : State) x1 x2 x3 : (State.noteTickWrite x0 x1 x2 x3).io = x0.io :=
  same_of_blank (p := .io) (State.noteTickWrite_in (m := only [.dict]) rfl x0 x1 x2 x3) rfl
@[simp] theorem State.noteTickWrite_seng (x0 : State) x1 x2 x3 : (State.noteTickWrite x0 x1 x2 x3).seng = x0.seng :=
  same_of_blank (p := .seng) (State.noteTickWrite_in (m := only [.dict]) rfl x0 x1 x2 x3) rfl
@[simp] theorem State.noteTickWrite_therm (x0 : State) x1 x2 x3 : (State.noteTickWrite x0 x1 x2 x3).therm = x0.therm :=
  same_of_blank (p := .therm) (State.noteTickWrite_in (m := only [.dict]) rfl x0 x1 x2 x3) rfl
@[simp] theorem State.noteTickWrite_cans (x0 : State) x1 x2 x3 : (State.noteTickWrite x0 x1 x2 x3).cans = x0.cans :=
  same_of_blank (p := .cans) (State.noteTickWrite_in (m := only [.dict]) rfl x0 x1 x2 x3) rfl
@[simp] theorem State.noteTickWrite_ropes (x0 : State) x1 x2 x3 : (State.noteTickWrite x0 x1 x2 x3).ropes = x0.ropes :=
  same_of_blank (p := .ropes) (State.noteTickWrite_in (m := only [.dict]) rfl x0 x1 x2 x3) rfl
@[simp] theorem State.noteTickWrite_nodes (x0 : State) x1 x2 x3 : (State.noteTickWrite x0 x1 x2 x3).nodes = x0.nodes :=
  same_of_blank (p := .nodes) (State.noteTickWrite_in (m := only [.dict]) rfl x0 x1 x2 x3) rfl
@[simp] theorem State.noteTickWrite_trav (x0 : State) x1 x2 x3 : (State.noteTickWrite x0 x1 x2 x3).trav = x0.trav :=
  same_of_blank (p := .trav) (State.noteTickWrite_in (m := only [.dict]) rfl x0 x1 x2 x3) rfl
@[simp] theorem State.noteTickWrite_bal (x0 : State) x1 x2 x3 : (State.noteTickWrite x0 x1 x2 x3).bal = x0.bal :=
  same_of_blank (p := .bal) (State.noteTickWrite_in (m := only [.dict]) rfl x0 x1 x2 x3) rfl
@[simp] theorem State.noteTickWrite_eths (x0 : State) x1 x2 x3 : (State.noteTickWrite x0 x1 x2 x3).eths = x0.eths :=
  same_of_blank (p := .eths) (State.noteTickWrite_in (m := only [.dict]) rfl x0 x1 x2 x3) rfl
@[simp] theorem State.noteTickWrite_stream (x0 : State) x1 x2 x3 : (State.noteTickWrite x0 x1 x2 x3).stream = x0.stream :=
  same_of_blank (p := .stream) (State.noteTickWrite_in (m := only [.dict]) rfl x0 x1 x2 x3) rfl
@[simp] theorem State.noteTickWrite_clock (x0 : State) x1 x2 x3 : (State.noteTickWrite x0 x1 x2 x3).clock = x0.clock :=
  same_of_blank (p := .clock) (State.noteTickWrite_in (m := only [.dict]) rfl x0 x1 x2 x3) rfl
@[simp] theorem State.noteTickWrite_corr (x0 : State) x1 x2 x3 : (State.noteTickWrite x0 x1 x2 x3).corr = x0.corr :=
  same_of_blank (p := .corr) (State.noteTickWrite_in (m := only [.dict]) rfl x0 x1 x2 x3) rfl
@[simp] theorem State.noteTickWrite_est (x0 : State) x1 x2 x3 : (State.noteTickWrite x0 x1 x2 x3).est = x0.est :=
  same_of_blank (p := .est) (State.noteTickWrite_in (m := only [.dict]) rfl x0 x1 x2 x3) rfl
@[simp] theorem State.noteTickWrite_store (x0 : State) x1 x2 x3 : (State.noteTickWrite x0 x1 x2 x3).store = x0.store :=
  same_of_blank (p := .store) (State.noteTickWrite_in (m := only [.dict]) rfl x0 x1 x2 x3) rfl
@[simp] theorem State.noteTickWrite_heldReq (x0 : State) x1 x2 x3 : (State.noteTickWrite x0 x1 x2 x3).heldReq = x0.heldReq :=
  same_of_blank (p := .heldReq) (State.noteTickWrite_in (m := only [.dict]) rfl x0 x1 x2 x3) rfl
@[simp] theorem State.noteTickWrite_waitingWrites (x0 : State) x1 x2 x3 : (State.noteTickWrite x0 x1 x2 x3).waitingWrites = x0.waitingWrites :=
  same_of_blank (p := .waitingWrites) (State.noteTickWrite_in (m := only [.dict]) rfl x0 x1 x2 x3) rfl
@[simp] theorem State.noteTickWrite_belay (x0 : State) x1 x2 x3 : (State.noteTickWrite x0 x1 x2 x3).belay = x0.belay :=
  belay_of_blank (State.noteTickWrite_in (m := only [.dict]) rfl x0 x1 x2 x3) rfl rfl
@[simp] theorem State.noteTickWrite_values (x0 : State) x1 x2 x3 : (State.noteTickWrite x0 x1 x2 x3).dict.vals = x0.dict.vals :=
  same_of_blank (p := .values) (State.noteTickWrite_in (m := only [.dict]) rfl x0 x1 x2 x3) rfl

/-! ## `answerWrite` -/

@[simp] theorem State.answerWrite_now (x0 : State) x1 x2 x3 x4 : (State.answerWrite x0 x1 x2 x3 x4).now = x0.now :=
  now_of_blank (State.answerWrite_in (m := only [.dict, .evlog, .irq, .eths, .cans]) rfl rfl rfl rfl rfl x0 x1 x2 x3 x4)
@[simp] theorem State.answerWrite_pending (x0 : State) x1 x2 x3 x4 : (State.answerWrite x0 x1 x2 x3 x4).pending = x0.pending :=
  pending_of_blank (State.answerWrite_in (m := only [.dict, .evlog, .irq, .eths, .cans]) rfl rfl rfl rfl rfl x0 x1 x2 x3 x4)
@[simp] theorem State.answerWrite_serial (x0 : State) x1 x2 x3 x4 : (State.answerWrite x0 x1 x2 x3 x4).serial = x0.serial :=
  serial_of_blank (State.answerWrite_in (m := only [.dict, .evlog, .irq, .eths, .cans]) rfl rfl rfl rfl rfl x0 x1 x2 x3 x4)
@[simp] theorem State.answerWrite_free (x0 : State) x1 x2 x3 x4 : (State.answerWrite x0 x1 x2 x3 x4).free = x0.free :=
  same_of_blank (p := .free) (State.answerWrite_in (m := only [.dict, .evlog, .irq, .eths, .cans]) rfl rfl rfl rfl rfl x0 x1 x2 x3 x4) rfl
@[simp] theorem State.answerWrite_ident (x0 : State) x1 x2 x3 x4 : (State.answerWrite x0 x1 x2 x3 x4).ident = x0.ident :=
  same_of_blank (p := .ident) (State.answerWrite_in (m := only [.dict, .evlog, .irq, .eths, .cans]) rfl rfl rfl rfl rfl x0 x1 x2 x3 x4) rfl
@[simp] theorem State.answerWrite_utcBase (x0 : State) x1 x2 x3 x4 : (State.answerWrite x0 x1 x2 x3 x4).utcBase = x0.utcBase :=
  same_of_blank (p := .utcBase) (State.answerWrite_in (m := only [.dict, .evlog, .irq, .eths, .cans]) rfl rfl rfl rfl rfl x0 x1 x2 x3 x4) rfl
@[simp] theorem State.answerWrite_utcAt (x0 : State) x1 x2 x3 x4 : (State.answerWrite x0 x1 x2 x3 x4).utcAt = x0.utcAt :=
  same_of_blank (p := .utcAt) (State.answerWrite_in (m := only [.dict, .evlog, .irq, .eths, .cans]) rfl rfl rfl rfl rfl x0 x1 x2 x3 x4) rfl
@[simp] theorem State.answerWrite_fc (x0 : State) x1 x2 x3 x4 : (State.answerWrite x0 x1 x2 x3 x4).fc = x0.fc :=
  same_of_blank (p := .fc) (State.answerWrite_in (m := only [.dict, .evlog, .irq, .eths, .cans]) rfl rfl rfl rfl rfl x0 x1 x2 x3 x4) rfl
@[simp] theorem State.answerWrite_supply (x0 : State) x1 x2 x3 x4 : (State.answerWrite x0 x1 x2 x3 x4).supply = x0.supply :=
  same_of_blank (p := .supply) (State.answerWrite_in (m := only [.dict, .evlog, .irq, .eths, .cans]) rfl rfl rfl rfl rfl x0 x1 x2 x3 x4) rfl
@[simp] theorem State.answerWrite_start (x0 : State) x1 x2 x3 x4 : (State.answerWrite x0 x1 x2 x3 x4).start = x0.start :=
  same_of_blank (p := .start) (State.answerWrite_in (m := only [.dict, .evlog, .irq, .eths, .cans]) rfl rfl rfl rfl rfl x0 x1 x2 x3 x4) rfl
@[simp] theorem State.answerWrite_mode (x0 : State) x1 x2 x3 x4 : (State.answerWrite x0 x1 x2 x3 x4).mode = x0.mode :=
  same_of_blank (p := .mode) (State.answerWrite_in (m := only [.dict, .evlog, .irq, .eths, .cans]) rfl rfl rfl rfl rfl x0 x1 x2 x3 x4) rfl
@[simp] theorem State.answerWrite_cores (x0 : State) x1 x2 x3 x4 : (State.answerWrite x0 x1 x2 x3 x4).cores = x0.cores :=
  same_of_blank (p := .cores) (State.answerWrite_in (m := only [.dict, .evlog, .irq, .eths, .cans]) rfl rfl rfl rfl rfl x0 x1 x2 x3 x4) rfl
@[simp] theorem State.answerWrite_health (x0 : State) x1 x2 x3 x4 : (State.answerWrite x0 x1 x2 x3 x4).health = x0.health :=
  same_of_blank (p := .health) (State.answerWrite_in (m := only [.dict, .evlog, .irq, .eths, .cans]) rfl rfl rfl rfl rfl x0 x1 x2 x3 x4) rfl
@[simp] theorem State.answerWrite_strs (x0 : State) x1 x2 x3 x4 : (State.answerWrite x0 x1 x2 x3 x4).strs = x0.strs :=
  same_of_blank (p := .strs) (State.answerWrite_in (m := only [.dict, .evlog, .irq, .eths, .cans]) rfl rfl rfl rfl rfl x0 x1 x2 x3 x4) rfl
@[simp] theorem State.answerWrite_banks (x0 : State) x1 x2 x3 x4 : (State.answerWrite x0 x1 x2 x3 x4).banks = x0.banks :=
  same_of_blank (p := .banks) (State.answerWrite_in (m := only [.dict, .evlog, .irq, .eths, .cans]) rfl rfl rfl rfl rfl x0 x1 x2 x3 x4) rfl
@[simp] theorem State.answerWrite_gates (x0 : State) x1 x2 x3 x4 : (State.answerWrite x0 x1 x2 x3 x4).gates = x0.gates :=
  same_of_blank (p := .gates) (State.answerWrite_in (m := only [.dict, .evlog, .irq, .eths, .cans]) rfl rfl rfl rfl rfl x0 x1 x2 x3 x4) rfl
@[simp] theorem State.answerWrite_gateBlock (x0 : State) x1 x2 x3 x4 : (State.answerWrite x0 x1 x2 x3 x4).gateBlock = x0.gateBlock :=
  same_of_blank (p := .gateBlock) (State.answerWrite_in (m := only [.dict, .evlog, .irq, .eths, .cans]) rfl rfl rfl rfl rfl x0 x1 x2 x3 x4) rfl
@[simp] theorem State.answerWrite_bstr (x0 : State) x1 x2 x3 x4 : (State.answerWrite x0 x1 x2 x3 x4).bstr = x0.bstr :=
  same_of_blank (p := .bstr) (State.answerWrite_in (m := only [.dict, .evlog, .irq, .eths, .cans]) rfl rfl rfl rfl rfl x0 x1 x2 x3 x4) rfl
@[simp] theorem State.answerWrite_io (x0 : State) x1 x2 x3 x4 : (State.answerWrite x0 x1 x2 x3 x4).io = x0.io :=
  same_of_blank (p := .io) (State.answerWrite_in (m := only [.dict, .evlog, .irq, .eths, .cans]) rfl rfl rfl rfl rfl x0 x1 x2 x3 x4) rfl
@[simp] theorem State.answerWrite_seng (x0 : State) x1 x2 x3 x4 : (State.answerWrite x0 x1 x2 x3 x4).seng = x0.seng :=
  same_of_blank (p := .seng) (State.answerWrite_in (m := only [.dict, .evlog, .irq, .eths, .cans]) rfl rfl rfl rfl rfl x0 x1 x2 x3 x4) rfl
@[simp] theorem State.answerWrite_therm (x0 : State) x1 x2 x3 x4 : (State.answerWrite x0 x1 x2 x3 x4).therm = x0.therm :=
  same_of_blank (p := .therm) (State.answerWrite_in (m := only [.dict, .evlog, .irq, .eths, .cans]) rfl rfl rfl rfl rfl x0 x1 x2 x3 x4) rfl
@[simp] theorem State.answerWrite_ropes (x0 : State) x1 x2 x3 x4 : (State.answerWrite x0 x1 x2 x3 x4).ropes = x0.ropes :=
  same_of_blank (p := .ropes) (State.answerWrite_in (m := only [.dict, .evlog, .irq, .eths, .cans]) rfl rfl rfl rfl rfl x0 x1 x2 x3 x4) rfl
@[simp] theorem State.answerWrite_nodes (x0 : State) x1 x2 x3 x4 : (State.answerWrite x0 x1 x2 x3 x4).nodes = x0.nodes :=
  same_of_blank (p := .nodes) (State.answerWrite_in (m := only [.dict, .evlog, .irq, .eths, .cans]) rfl rfl rfl rfl rfl x0 x1 x2 x3 x4) rfl
@[simp] theorem State.answerWrite_trav (x0 : State) x1 x2 x3 x4 : (State.answerWrite x0 x1 x2 x3 x4).trav = x0.trav :=
  same_of_blank (p := .trav) (State.answerWrite_in (m := only [.dict, .evlog, .irq, .eths, .cans]) rfl rfl rfl rfl rfl x0 x1 x2 x3 x4) rfl
@[simp] theorem State.answerWrite_bal (x0 : State) x1 x2 x3 x4 : (State.answerWrite x0 x1 x2 x3 x4).bal = x0.bal :=
  same_of_blank (p := .bal) (State.answerWrite_in (m := only [.dict, .evlog, .irq, .eths, .cans]) rfl rfl rfl rfl rfl x0 x1 x2 x3 x4) rfl
@[simp] theorem State.answerWrite_stream (x0 : State) x1 x2 x3 x4 : (State.answerWrite x0 x1 x2 x3 x4).stream = x0.stream :=
  same_of_blank (p := .stream) (State.answerWrite_in (m := only [.dict, .evlog, .irq, .eths, .cans]) rfl rfl rfl rfl rfl x0 x1 x2 x3 x4) rfl
@[simp] theorem State.answerWrite_clock (x0 : State) x1 x2 x3 x4 : (State.answerWrite x0 x1 x2 x3 x4).clock = x0.clock :=
  same_of_blank (p := .clock) (State.answerWrite_in (m := only [.dict, .evlog, .irq, .eths, .cans]) rfl rfl rfl rfl rfl x0 x1 x2 x3 x4) rfl
@[simp] theorem State.answerWrite_corr (x0 : State) x1 x2 x3 x4 : (State.answerWrite x0 x1 x2 x3 x4).corr = x0.corr :=
  same_of_blank (p := .corr) (State.answerWrite_in (m := only [.dict, .evlog, .irq, .eths, .cans]) rfl rfl rfl rfl rfl x0 x1 x2 x3 x4) rfl
@[simp] theorem State.answerWrite_est (x0 : State) x1 x2 x3 x4 : (State.answerWrite x0 x1 x2 x3 x4).est = x0.est :=
  same_of_blank (p := .est) (State.answerWrite_in (m := only [.dict, .evlog, .irq, .eths, .cans]) rfl rfl rfl rfl rfl x0 x1 x2 x3 x4) rfl
@[simp] theorem State.answerWrite_store (x0 : State) x1 x2 x3 x4 : (State.answerWrite x0 x1 x2 x3 x4).store = x0.store :=
  same_of_blank (p := .store) (State.answerWrite_in (m := only [.dict, .evlog, .irq, .eths, .cans]) rfl rfl rfl rfl rfl x0 x1 x2 x3 x4) rfl
@[simp] theorem State.answerWrite_heldReq (x0 : State) x1 x2 x3 x4 : (State.answerWrite x0 x1 x2 x3 x4).heldReq = x0.heldReq :=
  same_of_blank (p := .heldReq) (State.answerWrite_in (m := only [.dict, .evlog, .irq, .eths, .cans]) rfl rfl rfl rfl rfl x0 x1 x2 x3 x4) rfl
@[simp] theorem State.answerWrite_waitingWrites (x0 : State) x1 x2 x3 x4 : (State.answerWrite x0 x1 x2 x3 x4).waitingWrites = x0.waitingWrites :=
  same_of_blank (p := .waitingWrites) (State.answerWrite_in (m := only [.dict, .evlog, .irq, .eths, .cans]) rfl rfl rfl rfl rfl x0 x1 x2 x3 x4) rfl
@[simp] theorem State.answerWrite_belay (x0 : State) x1 x2 x3 x4 : (State.answerWrite x0 x1 x2 x3 x4).belay = x0.belay :=
  belay_of_blank (State.answerWrite_in (m := only [.dict, .evlog, .irq, .eths, .cans]) rfl rfl rfl rfl rfl x0 x1 x2 x3 x4) rfl rfl
@[simp] theorem State.answerWrite_values (x0 : State) x1 x2 x3 x4 : (State.answerWrite x0 x1 x2 x3 x4).dict.vals = x0.dict.vals :=
  same_of_blank (p := .values) (State.answerWrite_in (m := only [.dict, .evlog, .irq, .eths, .cans]) rfl rfl rfl rfl rfl x0 x1 x2 x3 x4) rfl

/-! ## `noteLast` -/

@[simp] theorem State.noteLast_now (x0 : State) x1 : (State.noteLast x0 x1).now = x0.now :=
  now_of_blank (State.noteLast_in (m := only [.dict]) rfl x0 x1)
@[simp] theorem State.noteLast_pending (x0 : State) x1 : (State.noteLast x0 x1).pending = x0.pending :=
  pending_of_blank (State.noteLast_in (m := only [.dict]) rfl x0 x1)
@[simp] theorem State.noteLast_serial (x0 : State) x1 : (State.noteLast x0 x1).serial = x0.serial :=
  serial_of_blank (State.noteLast_in (m := only [.dict]) rfl x0 x1)
@[simp] theorem State.noteLast_free (x0 : State) x1 : (State.noteLast x0 x1).free = x0.free :=
  same_of_blank (p := .free) (State.noteLast_in (m := only [.dict]) rfl x0 x1) rfl
@[simp] theorem State.noteLast_ident (x0 : State) x1 : (State.noteLast x0 x1).ident = x0.ident :=
  same_of_blank (p := .ident) (State.noteLast_in (m := only [.dict]) rfl x0 x1) rfl
@[simp] theorem State.noteLast_utcBase (x0 : State) x1 : (State.noteLast x0 x1).utcBase = x0.utcBase :=
  same_of_blank (p := .utcBase) (State.noteLast_in (m := only [.dict]) rfl x0 x1) rfl
@[simp] theorem State.noteLast_utcAt (x0 : State) x1 : (State.noteLast x0 x1).utcAt = x0.utcAt :=
  same_of_blank (p := .utcAt) (State.noteLast_in (m := only [.dict]) rfl x0 x1) rfl
@[simp] theorem State.noteLast_irq (x0 : State) x1 : (State.noteLast x0 x1).irq = x0.irq :=
  same_of_blank (p := .irq) (State.noteLast_in (m := only [.dict]) rfl x0 x1) rfl
@[simp] theorem State.noteLast_evlog (x0 : State) x1 : (State.noteLast x0 x1).evlog = x0.evlog :=
  same_of_blank (p := .evlog) (State.noteLast_in (m := only [.dict]) rfl x0 x1) rfl
@[simp] theorem State.noteLast_fc (x0 : State) x1 : (State.noteLast x0 x1).fc = x0.fc :=
  same_of_blank (p := .fc) (State.noteLast_in (m := only [.dict]) rfl x0 x1) rfl
@[simp] theorem State.noteLast_supply (x0 : State) x1 : (State.noteLast x0 x1).supply = x0.supply :=
  same_of_blank (p := .supply) (State.noteLast_in (m := only [.dict]) rfl x0 x1) rfl
@[simp] theorem State.noteLast_start (x0 : State) x1 : (State.noteLast x0 x1).start = x0.start :=
  same_of_blank (p := .start) (State.noteLast_in (m := only [.dict]) rfl x0 x1) rfl
@[simp] theorem State.noteLast_mode (x0 : State) x1 : (State.noteLast x0 x1).mode = x0.mode :=
  same_of_blank (p := .mode) (State.noteLast_in (m := only [.dict]) rfl x0 x1) rfl
@[simp] theorem State.noteLast_cores (x0 : State) x1 : (State.noteLast x0 x1).cores = x0.cores :=
  same_of_blank (p := .cores) (State.noteLast_in (m := only [.dict]) rfl x0 x1) rfl
@[simp] theorem State.noteLast_health (x0 : State) x1 : (State.noteLast x0 x1).health = x0.health :=
  same_of_blank (p := .health) (State.noteLast_in (m := only [.dict]) rfl x0 x1) rfl
@[simp] theorem State.noteLast_strs (x0 : State) x1 : (State.noteLast x0 x1).strs = x0.strs :=
  same_of_blank (p := .strs) (State.noteLast_in (m := only [.dict]) rfl x0 x1) rfl
@[simp] theorem State.noteLast_banks (x0 : State) x1 : (State.noteLast x0 x1).banks = x0.banks :=
  same_of_blank (p := .banks) (State.noteLast_in (m := only [.dict]) rfl x0 x1) rfl
@[simp] theorem State.noteLast_gates (x0 : State) x1 : (State.noteLast x0 x1).gates = x0.gates :=
  same_of_blank (p := .gates) (State.noteLast_in (m := only [.dict]) rfl x0 x1) rfl
@[simp] theorem State.noteLast_gateBlock (x0 : State) x1 : (State.noteLast x0 x1).gateBlock = x0.gateBlock :=
  same_of_blank (p := .gateBlock) (State.noteLast_in (m := only [.dict]) rfl x0 x1) rfl
@[simp] theorem State.noteLast_bstr (x0 : State) x1 : (State.noteLast x0 x1).bstr = x0.bstr :=
  same_of_blank (p := .bstr) (State.noteLast_in (m := only [.dict]) rfl x0 x1) rfl
@[simp] theorem State.noteLast_io (x0 : State) x1 : (State.noteLast x0 x1).io = x0.io :=
  same_of_blank (p := .io) (State.noteLast_in (m := only [.dict]) rfl x0 x1) rfl
@[simp] theorem State.noteLast_seng (x0 : State) x1 : (State.noteLast x0 x1).seng = x0.seng :=
  same_of_blank (p := .seng) (State.noteLast_in (m := only [.dict]) rfl x0 x1) rfl
@[simp] theorem State.noteLast_therm (x0 : State) x1 : (State.noteLast x0 x1).therm = x0.therm :=
  same_of_blank (p := .therm) (State.noteLast_in (m := only [.dict]) rfl x0 x1) rfl
@[simp] theorem State.noteLast_cans (x0 : State) x1 : (State.noteLast x0 x1).cans = x0.cans :=
  same_of_blank (p := .cans) (State.noteLast_in (m := only [.dict]) rfl x0 x1) rfl
@[simp] theorem State.noteLast_ropes (x0 : State) x1 : (State.noteLast x0 x1).ropes = x0.ropes :=
  same_of_blank (p := .ropes) (State.noteLast_in (m := only [.dict]) rfl x0 x1) rfl
@[simp] theorem State.noteLast_nodes (x0 : State) x1 : (State.noteLast x0 x1).nodes = x0.nodes :=
  same_of_blank (p := .nodes) (State.noteLast_in (m := only [.dict]) rfl x0 x1) rfl
@[simp] theorem State.noteLast_trav (x0 : State) x1 : (State.noteLast x0 x1).trav = x0.trav :=
  same_of_blank (p := .trav) (State.noteLast_in (m := only [.dict]) rfl x0 x1) rfl
@[simp] theorem State.noteLast_bal (x0 : State) x1 : (State.noteLast x0 x1).bal = x0.bal :=
  same_of_blank (p := .bal) (State.noteLast_in (m := only [.dict]) rfl x0 x1) rfl
@[simp] theorem State.noteLast_eths (x0 : State) x1 : (State.noteLast x0 x1).eths = x0.eths :=
  same_of_blank (p := .eths) (State.noteLast_in (m := only [.dict]) rfl x0 x1) rfl
@[simp] theorem State.noteLast_stream (x0 : State) x1 : (State.noteLast x0 x1).stream = x0.stream :=
  same_of_blank (p := .stream) (State.noteLast_in (m := only [.dict]) rfl x0 x1) rfl
@[simp] theorem State.noteLast_clock (x0 : State) x1 : (State.noteLast x0 x1).clock = x0.clock :=
  same_of_blank (p := .clock) (State.noteLast_in (m := only [.dict]) rfl x0 x1) rfl
@[simp] theorem State.noteLast_corr (x0 : State) x1 : (State.noteLast x0 x1).corr = x0.corr :=
  same_of_blank (p := .corr) (State.noteLast_in (m := only [.dict]) rfl x0 x1) rfl
@[simp] theorem State.noteLast_est (x0 : State) x1 : (State.noteLast x0 x1).est = x0.est :=
  same_of_blank (p := .est) (State.noteLast_in (m := only [.dict]) rfl x0 x1) rfl
@[simp] theorem State.noteLast_store (x0 : State) x1 : (State.noteLast x0 x1).store = x0.store :=
  same_of_blank (p := .store) (State.noteLast_in (m := only [.dict]) rfl x0 x1) rfl
@[simp] theorem State.noteLast_heldReq (x0 : State) x1 : (State.noteLast x0 x1).heldReq = x0.heldReq :=
  same_of_blank (p := .heldReq) (State.noteLast_in (m := only [.dict]) rfl x0 x1) rfl
@[simp] theorem State.noteLast_waitingWrites (x0 : State) x1 : (State.noteLast x0 x1).waitingWrites = x0.waitingWrites :=
  same_of_blank (p := .waitingWrites) (State.noteLast_in (m := only [.dict]) rfl x0 x1) rfl
@[simp] theorem State.noteLast_belay (x0 : State) x1 : (State.noteLast x0 x1).belay = x0.belay :=
  belay_of_blank (State.noteLast_in (m := only [.dict]) rfl x0 x1) rfl rfl
@[simp] theorem State.noteLast_values (x0 : State) x1 : (State.noteLast x0 x1).dict.vals = x0.dict.vals :=
  same_of_blank (p := .values) (State.noteLast_in (m := only [.dict]) rfl x0 x1) rfl

/-! ## `flushAll` -/

@[simp] theorem State.flushAll_now (x0 : State) : (State.flushAll x0).now = x0.now :=
  now_of_blank (State.flushAll_in (m := only [.evlog, .irq]) rfl rfl x0)
@[simp] theorem State.flushAll_pending (x0 : State) : (State.flushAll x0).pending = x0.pending :=
  pending_of_blank (State.flushAll_in (m := only [.evlog, .irq]) rfl rfl x0)
@[simp] theorem State.flushAll_serial (x0 : State) : (State.flushAll x0).serial = x0.serial :=
  serial_of_blank (State.flushAll_in (m := only [.evlog, .irq]) rfl rfl x0)
@[simp] theorem State.flushAll_free (x0 : State) : (State.flushAll x0).free = x0.free :=
  same_of_blank (p := .free) (State.flushAll_in (m := only [.evlog, .irq]) rfl rfl x0) rfl
@[simp] theorem State.flushAll_ident (x0 : State) : (State.flushAll x0).ident = x0.ident :=
  same_of_blank (p := .ident) (State.flushAll_in (m := only [.evlog, .irq]) rfl rfl x0) rfl
@[simp] theorem State.flushAll_utcBase (x0 : State) : (State.flushAll x0).utcBase = x0.utcBase :=
  same_of_blank (p := .utcBase) (State.flushAll_in (m := only [.evlog, .irq]) rfl rfl x0) rfl
@[simp] theorem State.flushAll_utcAt (x0 : State) : (State.flushAll x0).utcAt = x0.utcAt :=
  same_of_blank (p := .utcAt) (State.flushAll_in (m := only [.evlog, .irq]) rfl rfl x0) rfl
@[simp] theorem State.flushAll_fc (x0 : State) : (State.flushAll x0).fc = x0.fc :=
  same_of_blank (p := .fc) (State.flushAll_in (m := only [.evlog, .irq]) rfl rfl x0) rfl
@[simp] theorem State.flushAll_supply (x0 : State) : (State.flushAll x0).supply = x0.supply :=
  same_of_blank (p := .supply) (State.flushAll_in (m := only [.evlog, .irq]) rfl rfl x0) rfl
@[simp] theorem State.flushAll_start (x0 : State) : (State.flushAll x0).start = x0.start :=
  same_of_blank (p := .start) (State.flushAll_in (m := only [.evlog, .irq]) rfl rfl x0) rfl
@[simp] theorem State.flushAll_mode (x0 : State) : (State.flushAll x0).mode = x0.mode :=
  same_of_blank (p := .mode) (State.flushAll_in (m := only [.evlog, .irq]) rfl rfl x0) rfl
@[simp] theorem State.flushAll_cores (x0 : State) : (State.flushAll x0).cores = x0.cores :=
  same_of_blank (p := .cores) (State.flushAll_in (m := only [.evlog, .irq]) rfl rfl x0) rfl
@[simp] theorem State.flushAll_health (x0 : State) : (State.flushAll x0).health = x0.health :=
  same_of_blank (p := .health) (State.flushAll_in (m := only [.evlog, .irq]) rfl rfl x0) rfl
@[simp] theorem State.flushAll_strs (x0 : State) : (State.flushAll x0).strs = x0.strs :=
  same_of_blank (p := .strs) (State.flushAll_in (m := only [.evlog, .irq]) rfl rfl x0) rfl
@[simp] theorem State.flushAll_banks (x0 : State) : (State.flushAll x0).banks = x0.banks :=
  same_of_blank (p := .banks) (State.flushAll_in (m := only [.evlog, .irq]) rfl rfl x0) rfl
@[simp] theorem State.flushAll_gates (x0 : State) : (State.flushAll x0).gates = x0.gates :=
  same_of_blank (p := .gates) (State.flushAll_in (m := only [.evlog, .irq]) rfl rfl x0) rfl
@[simp] theorem State.flushAll_gateBlock (x0 : State) : (State.flushAll x0).gateBlock = x0.gateBlock :=
  same_of_blank (p := .gateBlock) (State.flushAll_in (m := only [.evlog, .irq]) rfl rfl x0) rfl
@[simp] theorem State.flushAll_bstr (x0 : State) : (State.flushAll x0).bstr = x0.bstr :=
  same_of_blank (p := .bstr) (State.flushAll_in (m := only [.evlog, .irq]) rfl rfl x0) rfl
@[simp] theorem State.flushAll_io (x0 : State) : (State.flushAll x0).io = x0.io :=
  same_of_blank (p := .io) (State.flushAll_in (m := only [.evlog, .irq]) rfl rfl x0) rfl
@[simp] theorem State.flushAll_seng (x0 : State) : (State.flushAll x0).seng = x0.seng :=
  same_of_blank (p := .seng) (State.flushAll_in (m := only [.evlog, .irq]) rfl rfl x0) rfl
@[simp] theorem State.flushAll_therm (x0 : State) : (State.flushAll x0).therm = x0.therm :=
  same_of_blank (p := .therm) (State.flushAll_in (m := only [.evlog, .irq]) rfl rfl x0) rfl
@[simp] theorem State.flushAll_cans (x0 : State) : (State.flushAll x0).cans = x0.cans :=
  same_of_blank (p := .cans) (State.flushAll_in (m := only [.evlog, .irq]) rfl rfl x0) rfl
@[simp] theorem State.flushAll_ropes (x0 : State) : (State.flushAll x0).ropes = x0.ropes :=
  same_of_blank (p := .ropes) (State.flushAll_in (m := only [.evlog, .irq]) rfl rfl x0) rfl
@[simp] theorem State.flushAll_nodes (x0 : State) : (State.flushAll x0).nodes = x0.nodes :=
  same_of_blank (p := .nodes) (State.flushAll_in (m := only [.evlog, .irq]) rfl rfl x0) rfl
@[simp] theorem State.flushAll_trav (x0 : State) : (State.flushAll x0).trav = x0.trav :=
  same_of_blank (p := .trav) (State.flushAll_in (m := only [.evlog, .irq]) rfl rfl x0) rfl
@[simp] theorem State.flushAll_bal (x0 : State) : (State.flushAll x0).bal = x0.bal :=
  same_of_blank (p := .bal) (State.flushAll_in (m := only [.evlog, .irq]) rfl rfl x0) rfl
@[simp] theorem State.flushAll_eths (x0 : State) : (State.flushAll x0).eths = x0.eths :=
  same_of_blank (p := .eths) (State.flushAll_in (m := only [.evlog, .irq]) rfl rfl x0) rfl
@[simp] theorem State.flushAll_stream (x0 : State) : (State.flushAll x0).stream = x0.stream :=
  same_of_blank (p := .stream) (State.flushAll_in (m := only [.evlog, .irq]) rfl rfl x0) rfl
@[simp] theorem State.flushAll_clock (x0 : State) : (State.flushAll x0).clock = x0.clock :=
  same_of_blank (p := .clock) (State.flushAll_in (m := only [.evlog, .irq]) rfl rfl x0) rfl
@[simp] theorem State.flushAll_corr (x0 : State) : (State.flushAll x0).corr = x0.corr :=
  same_of_blank (p := .corr) (State.flushAll_in (m := only [.evlog, .irq]) rfl rfl x0) rfl
@[simp] theorem State.flushAll_est (x0 : State) : (State.flushAll x0).est = x0.est :=
  same_of_blank (p := .est) (State.flushAll_in (m := only [.evlog, .irq]) rfl rfl x0) rfl
@[simp] theorem State.flushAll_store (x0 : State) : (State.flushAll x0).store = x0.store :=
  same_of_blank (p := .store) (State.flushAll_in (m := only [.evlog, .irq]) rfl rfl x0) rfl
@[simp] theorem State.flushAll_heldReq (x0 : State) : (State.flushAll x0).heldReq = x0.heldReq :=
  same_of_blank (p := .heldReq) (State.flushAll_in (m := only [.evlog, .irq]) rfl rfl x0) rfl
@[simp] theorem State.flushAll_waitingWrites (x0 : State) : (State.flushAll x0).waitingWrites = x0.waitingWrites :=
  same_of_blank (p := .waitingWrites) (State.flushAll_in (m := only [.evlog, .irq]) rfl rfl x0) rfl
@[simp] theorem State.flushAll_belay (x0 : State) : (State.flushAll x0).belay = x0.belay :=
  belay_of_blank (State.flushAll_in (m := only [.evlog, .irq]) rfl rfl x0) rfl rfl
@[simp] theorem State.flushAll_dict (x0 : State) : (State.flushAll x0).dict = x0.dict :=
  dict_of_blank (State.flushAll_in (m := only [.evlog, .irq]) rfl rfl x0) rfl rfl

/-! ## `tearWrite` -/

@[simp] theorem State.tearWrite_now (x0 : State) : (State.tearWrite x0).now = x0.now :=
  now_of_blank (State.tearWrite_in (m := only [.store]) rfl x0)
@[simp] theorem State.tearWrite_pending (x0 : State) : (State.tearWrite x0).pending = x0.pending :=
  pending_of_blank (State.tearWrite_in (m := only [.store]) rfl x0)
@[simp] theorem State.tearWrite_serial (x0 : State) : (State.tearWrite x0).serial = x0.serial :=
  serial_of_blank (State.tearWrite_in (m := only [.store]) rfl x0)
@[simp] theorem State.tearWrite_free (x0 : State) : (State.tearWrite x0).free = x0.free :=
  same_of_blank (p := .free) (State.tearWrite_in (m := only [.store]) rfl x0) rfl
@[simp] theorem State.tearWrite_ident (x0 : State) : (State.tearWrite x0).ident = x0.ident :=
  same_of_blank (p := .ident) (State.tearWrite_in (m := only [.store]) rfl x0) rfl
@[simp] theorem State.tearWrite_utcBase (x0 : State) : (State.tearWrite x0).utcBase = x0.utcBase :=
  same_of_blank (p := .utcBase) (State.tearWrite_in (m := only [.store]) rfl x0) rfl
@[simp] theorem State.tearWrite_utcAt (x0 : State) : (State.tearWrite x0).utcAt = x0.utcAt :=
  same_of_blank (p := .utcAt) (State.tearWrite_in (m := only [.store]) rfl x0) rfl
@[simp] theorem State.tearWrite_irq (x0 : State) : (State.tearWrite x0).irq = x0.irq :=
  same_of_blank (p := .irq) (State.tearWrite_in (m := only [.store]) rfl x0) rfl
@[simp] theorem State.tearWrite_evlog (x0 : State) : (State.tearWrite x0).evlog = x0.evlog :=
  same_of_blank (p := .evlog) (State.tearWrite_in (m := only [.store]) rfl x0) rfl
@[simp] theorem State.tearWrite_fc (x0 : State) : (State.tearWrite x0).fc = x0.fc :=
  same_of_blank (p := .fc) (State.tearWrite_in (m := only [.store]) rfl x0) rfl
@[simp] theorem State.tearWrite_supply (x0 : State) : (State.tearWrite x0).supply = x0.supply :=
  same_of_blank (p := .supply) (State.tearWrite_in (m := only [.store]) rfl x0) rfl
@[simp] theorem State.tearWrite_start (x0 : State) : (State.tearWrite x0).start = x0.start :=
  same_of_blank (p := .start) (State.tearWrite_in (m := only [.store]) rfl x0) rfl
@[simp] theorem State.tearWrite_mode (x0 : State) : (State.tearWrite x0).mode = x0.mode :=
  same_of_blank (p := .mode) (State.tearWrite_in (m := only [.store]) rfl x0) rfl
@[simp] theorem State.tearWrite_cores (x0 : State) : (State.tearWrite x0).cores = x0.cores :=
  same_of_blank (p := .cores) (State.tearWrite_in (m := only [.store]) rfl x0) rfl
@[simp] theorem State.tearWrite_health (x0 : State) : (State.tearWrite x0).health = x0.health :=
  same_of_blank (p := .health) (State.tearWrite_in (m := only [.store]) rfl x0) rfl
@[simp] theorem State.tearWrite_strs (x0 : State) : (State.tearWrite x0).strs = x0.strs :=
  same_of_blank (p := .strs) (State.tearWrite_in (m := only [.store]) rfl x0) rfl
@[simp] theorem State.tearWrite_banks (x0 : State) : (State.tearWrite x0).banks = x0.banks :=
  same_of_blank (p := .banks) (State.tearWrite_in (m := only [.store]) rfl x0) rfl
@[simp] theorem State.tearWrite_gates (x0 : State) : (State.tearWrite x0).gates = x0.gates :=
  same_of_blank (p := .gates) (State.tearWrite_in (m := only [.store]) rfl x0) rfl
@[simp] theorem State.tearWrite_gateBlock (x0 : State) : (State.tearWrite x0).gateBlock = x0.gateBlock :=
  same_of_blank (p := .gateBlock) (State.tearWrite_in (m := only [.store]) rfl x0) rfl
@[simp] theorem State.tearWrite_bstr (x0 : State) : (State.tearWrite x0).bstr = x0.bstr :=
  same_of_blank (p := .bstr) (State.tearWrite_in (m := only [.store]) rfl x0) rfl
@[simp] theorem State.tearWrite_io (x0 : State) : (State.tearWrite x0).io = x0.io :=
  same_of_blank (p := .io) (State.tearWrite_in (m := only [.store]) rfl x0) rfl
@[simp] theorem State.tearWrite_seng (x0 : State) : (State.tearWrite x0).seng = x0.seng :=
  same_of_blank (p := .seng) (State.tearWrite_in (m := only [.store]) rfl x0) rfl
@[simp] theorem State.tearWrite_therm (x0 : State) : (State.tearWrite x0).therm = x0.therm :=
  same_of_blank (p := .therm) (State.tearWrite_in (m := only [.store]) rfl x0) rfl
@[simp] theorem State.tearWrite_cans (x0 : State) : (State.tearWrite x0).cans = x0.cans :=
  same_of_blank (p := .cans) (State.tearWrite_in (m := only [.store]) rfl x0) rfl
@[simp] theorem State.tearWrite_ropes (x0 : State) : (State.tearWrite x0).ropes = x0.ropes :=
  same_of_blank (p := .ropes) (State.tearWrite_in (m := only [.store]) rfl x0) rfl
@[simp] theorem State.tearWrite_nodes (x0 : State) : (State.tearWrite x0).nodes = x0.nodes :=
  same_of_blank (p := .nodes) (State.tearWrite_in (m := only [.store]) rfl x0) rfl
@[simp] theorem State.tearWrite_trav (x0 : State) : (State.tearWrite x0).trav = x0.trav :=
  same_of_blank (p := .trav) (State.tearWrite_in (m := only [.store]) rfl x0) rfl
@[simp] theorem State.tearWrite_bal (x0 : State) : (State.tearWrite x0).bal = x0.bal :=
  same_of_blank (p := .bal) (State.tearWrite_in (m := only [.store]) rfl x0) rfl
@[simp] theorem State.tearWrite_eths (x0 : State) : (State.tearWrite x0).eths = x0.eths :=
  same_of_blank (p := .eths) (State.tearWrite_in (m := only [.store]) rfl x0) rfl
@[simp] theorem State.tearWrite_stream (x0 : State) : (State.tearWrite x0).stream = x0.stream :=
  same_of_blank (p := .stream) (State.tearWrite_in (m := only [.store]) rfl x0) rfl
@[simp] theorem State.tearWrite_clock (x0 : State) : (State.tearWrite x0).clock = x0.clock :=
  same_of_blank (p := .clock) (State.tearWrite_in (m := only [.store]) rfl x0) rfl
@[simp] theorem State.tearWrite_corr (x0 : State) : (State.tearWrite x0).corr = x0.corr :=
  same_of_blank (p := .corr) (State.tearWrite_in (m := only [.store]) rfl x0) rfl
@[simp] theorem State.tearWrite_est (x0 : State) : (State.tearWrite x0).est = x0.est :=
  same_of_blank (p := .est) (State.tearWrite_in (m := only [.store]) rfl x0) rfl
@[simp] theorem State.tearWrite_heldReq (x0 : State) : (State.tearWrite x0).heldReq = x0.heldReq :=
  same_of_blank (p := .heldReq) (State.tearWrite_in (m := only [.store]) rfl x0) rfl
@[simp] theorem State.tearWrite_waitingWrites (x0 : State) : (State.tearWrite x0).waitingWrites = x0.waitingWrites :=
  same_of_blank (p := .waitingWrites) (State.tearWrite_in (m := only [.store]) rfl x0) rfl
@[simp] theorem State.tearWrite_belay (x0 : State) : (State.tearWrite x0).belay = x0.belay :=
  belay_of_blank (State.tearWrite_in (m := only [.store]) rfl x0) rfl rfl
@[simp] theorem State.tearWrite_dict (x0 : State) : (State.tearWrite x0).dict = x0.dict :=
  dict_of_blank (State.tearWrite_in (m := only [.store]) rfl x0) rfl rfl

/-! ## `setBlock` -/

@[simp] theorem State.setBlock_now (x0 : State) x1 x2 : (State.setBlock x0 x1 x2).now = x0.now :=
  now_of_blank (State.setBlock_in (m := only [.mode, .evlog, .irq]) rfl rfl rfl x0 x1 x2)
@[simp] theorem State.setBlock_pending (x0 : State) x1 x2 : (State.setBlock x0 x1 x2).pending = x0.pending :=
  pending_of_blank (State.setBlock_in (m := only [.mode, .evlog, .irq]) rfl rfl rfl x0 x1 x2)
@[simp] theorem State.setBlock_serial (x0 : State) x1 x2 : (State.setBlock x0 x1 x2).serial = x0.serial :=
  serial_of_blank (State.setBlock_in (m := only [.mode, .evlog, .irq]) rfl rfl rfl x0 x1 x2)
@[simp] theorem State.setBlock_free (x0 : State) x1 x2 : (State.setBlock x0 x1 x2).free = x0.free :=
  same_of_blank (p := .free) (State.setBlock_in (m := only [.mode, .evlog, .irq]) rfl rfl rfl x0 x1 x2) rfl
@[simp] theorem State.setBlock_ident (x0 : State) x1 x2 : (State.setBlock x0 x1 x2).ident = x0.ident :=
  same_of_blank (p := .ident) (State.setBlock_in (m := only [.mode, .evlog, .irq]) rfl rfl rfl x0 x1 x2) rfl
@[simp] theorem State.setBlock_utcBase (x0 : State) x1 x2 : (State.setBlock x0 x1 x2).utcBase = x0.utcBase :=
  same_of_blank (p := .utcBase) (State.setBlock_in (m := only [.mode, .evlog, .irq]) rfl rfl rfl x0 x1 x2) rfl
@[simp] theorem State.setBlock_utcAt (x0 : State) x1 x2 : (State.setBlock x0 x1 x2).utcAt = x0.utcAt :=
  same_of_blank (p := .utcAt) (State.setBlock_in (m := only [.mode, .evlog, .irq]) rfl rfl rfl x0 x1 x2) rfl
@[simp] theorem State.setBlock_fc (x0 : State) x1 x2 : (State.setBlock x0 x1 x2).fc = x0.fc :=
  same_of_blank (p := .fc) (State.setBlock_in (m := only [.mode, .evlog, .irq]) rfl rfl rfl x0 x1 x2) rfl
@[simp] theorem State.setBlock_supply (x0 : State) x1 x2 : (State.setBlock x0 x1 x2).supply = x0.supply :=
  same_of_blank (p := .supply) (State.setBlock_in (m := only [.mode, .evlog, .irq]) rfl rfl rfl x0 x1 x2) rfl
@[simp] theorem State.setBlock_start (x0 : State) x1 x2 : (State.setBlock x0 x1 x2).start = x0.start :=
  same_of_blank (p := .start) (State.setBlock_in (m := only [.mode, .evlog, .irq]) rfl rfl rfl x0 x1 x2) rfl
@[simp] theorem State.setBlock_cores (x0 : State) x1 x2 : (State.setBlock x0 x1 x2).cores = x0.cores :=
  same_of_blank (p := .cores) (State.setBlock_in (m := only [.mode, .evlog, .irq]) rfl rfl rfl x0 x1 x2) rfl
@[simp] theorem State.setBlock_health (x0 : State) x1 x2 : (State.setBlock x0 x1 x2).health = x0.health :=
  same_of_blank (p := .health) (State.setBlock_in (m := only [.mode, .evlog, .irq]) rfl rfl rfl x0 x1 x2) rfl
@[simp] theorem State.setBlock_strs (x0 : State) x1 x2 : (State.setBlock x0 x1 x2).strs = x0.strs :=
  same_of_blank (p := .strs) (State.setBlock_in (m := only [.mode, .evlog, .irq]) rfl rfl rfl x0 x1 x2) rfl
@[simp] theorem State.setBlock_banks (x0 : State) x1 x2 : (State.setBlock x0 x1 x2).banks = x0.banks :=
  same_of_blank (p := .banks) (State.setBlock_in (m := only [.mode, .evlog, .irq]) rfl rfl rfl x0 x1 x2) rfl
@[simp] theorem State.setBlock_gates (x0 : State) x1 x2 : (State.setBlock x0 x1 x2).gates = x0.gates :=
  same_of_blank (p := .gates) (State.setBlock_in (m := only [.mode, .evlog, .irq]) rfl rfl rfl x0 x1 x2) rfl
@[simp] theorem State.setBlock_gateBlock (x0 : State) x1 x2 : (State.setBlock x0 x1 x2).gateBlock = x0.gateBlock :=
  same_of_blank (p := .gateBlock) (State.setBlock_in (m := only [.mode, .evlog, .irq]) rfl rfl rfl x0 x1 x2) rfl
@[simp] theorem State.setBlock_bstr (x0 : State) x1 x2 : (State.setBlock x0 x1 x2).bstr = x0.bstr :=
  same_of_blank (p := .bstr) (State.setBlock_in (m := only [.mode, .evlog, .irq]) rfl rfl rfl x0 x1 x2) rfl
@[simp] theorem State.setBlock_io (x0 : State) x1 x2 : (State.setBlock x0 x1 x2).io = x0.io :=
  same_of_blank (p := .io) (State.setBlock_in (m := only [.mode, .evlog, .irq]) rfl rfl rfl x0 x1 x2) rfl
@[simp] theorem State.setBlock_seng (x0 : State) x1 x2 : (State.setBlock x0 x1 x2).seng = x0.seng :=
  same_of_blank (p := .seng) (State.setBlock_in (m := only [.mode, .evlog, .irq]) rfl rfl rfl x0 x1 x2) rfl
@[simp] theorem State.setBlock_therm (x0 : State) x1 x2 : (State.setBlock x0 x1 x2).therm = x0.therm :=
  same_of_blank (p := .therm) (State.setBlock_in (m := only [.mode, .evlog, .irq]) rfl rfl rfl x0 x1 x2) rfl
@[simp] theorem State.setBlock_cans (x0 : State) x1 x2 : (State.setBlock x0 x1 x2).cans = x0.cans :=
  same_of_blank (p := .cans) (State.setBlock_in (m := only [.mode, .evlog, .irq]) rfl rfl rfl x0 x1 x2) rfl
@[simp] theorem State.setBlock_ropes (x0 : State) x1 x2 : (State.setBlock x0 x1 x2).ropes = x0.ropes :=
  same_of_blank (p := .ropes) (State.setBlock_in (m := only [.mode, .evlog, .irq]) rfl rfl rfl x0 x1 x2) rfl
@[simp] theorem State.setBlock_nodes (x0 : State) x1 x2 : (State.setBlock x0 x1 x2).nodes = x0.nodes :=
  same_of_blank (p := .nodes) (State.setBlock_in (m := only [.mode, .evlog, .irq]) rfl rfl rfl x0 x1 x2) rfl
@[simp] theorem State.setBlock_trav (x0 : State) x1 x2 : (State.setBlock x0 x1 x2).trav = x0.trav :=
  same_of_blank (p := .trav) (State.setBlock_in (m := only [.mode, .evlog, .irq]) rfl rfl rfl x0 x1 x2) rfl
@[simp] theorem State.setBlock_bal (x0 : State) x1 x2 : (State.setBlock x0 x1 x2).bal = x0.bal :=
  same_of_blank (p := .bal) (State.setBlock_in (m := only [.mode, .evlog, .irq]) rfl rfl rfl x0 x1 x2) rfl
@[simp] theorem State.setBlock_eths (x0 : State) x1 x2 : (State.setBlock x0 x1 x2).eths = x0.eths :=
  same_of_blank (p := .eths) (State.setBlock_in (m := only [.mode, .evlog, .irq]) rfl rfl rfl x0 x1 x2) rfl
@[simp] theorem State.setBlock_stream (x0 : State) x1 x2 : (State.setBlock x0 x1 x2).stream = x0.stream :=
  same_of_blank (p := .stream) (State.setBlock_in (m := only [.mode, .evlog, .irq]) rfl rfl rfl x0 x1 x2) rfl
@[simp] theorem State.setBlock_clock (x0 : State) x1 x2 : (State.setBlock x0 x1 x2).clock = x0.clock :=
  same_of_blank (p := .clock) (State.setBlock_in (m := only [.mode, .evlog, .irq]) rfl rfl rfl x0 x1 x2) rfl
@[simp] theorem State.setBlock_corr (x0 : State) x1 x2 : (State.setBlock x0 x1 x2).corr = x0.corr :=
  same_of_blank (p := .corr) (State.setBlock_in (m := only [.mode, .evlog, .irq]) rfl rfl rfl x0 x1 x2) rfl
@[simp] theorem State.setBlock_est (x0 : State) x1 x2 : (State.setBlock x0 x1 x2).est = x0.est :=
  same_of_blank (p := .est) (State.setBlock_in (m := only [.mode, .evlog, .irq]) rfl rfl rfl x0 x1 x2) rfl
@[simp] theorem State.setBlock_store (x0 : State) x1 x2 : (State.setBlock x0 x1 x2).store = x0.store :=
  same_of_blank (p := .store) (State.setBlock_in (m := only [.mode, .evlog, .irq]) rfl rfl rfl x0 x1 x2) rfl
@[simp] theorem State.setBlock_heldReq (x0 : State) x1 x2 : (State.setBlock x0 x1 x2).heldReq = x0.heldReq :=
  same_of_blank (p := .heldReq) (State.setBlock_in (m := only [.mode, .evlog, .irq]) rfl rfl rfl x0 x1 x2) rfl
@[simp] theorem State.setBlock_waitingWrites (x0 : State) x1 x2 : (State.setBlock x0 x1 x2).waitingWrites = x0.waitingWrites :=
  same_of_blank (p := .waitingWrites) (State.setBlock_in (m := only [.mode, .evlog, .irq]) rfl rfl rfl x0 x1 x2) rfl
@[simp] theorem State.setBlock_belay (x0 : State) x1 x2 : (State.setBlock x0 x1 x2).belay = x0.belay :=
  belay_of_blank (State.setBlock_in (m := only [.mode, .evlog, .irq]) rfl rfl rfl x0 x1 x2) rfl rfl
@[simp] theorem State.setBlock_dict (x0 : State) x1 x2 : (State.setBlock x0 x1 x2).dict = x0.dict :=
  dict_of_blank (State.setBlock_in (m := only [.mode, .evlog, .irq]) rfl rfl rfl x0 x1 x2) rfl rfl

/-! ## `safePath` -/

@[simp] theorem State.safePath_now (x0 : State) : (State.safePath x0).now = x0.now :=
  now_of_blank (State.safePath_in (m := only [.gates, .banks, .evlog, .irq, .strs]) rfl rfl rfl rfl rfl x0)
@[simp] theorem State.safePath_pending (x0 : State) : (State.safePath x0).pending = x0.pending :=
  pending_of_blank (State.safePath_in (m := only [.gates, .banks, .evlog, .irq, .strs]) rfl rfl rfl rfl rfl x0)
@[simp] theorem State.safePath_serial (x0 : State) : (State.safePath x0).serial = x0.serial :=
  serial_of_blank (State.safePath_in (m := only [.gates, .banks, .evlog, .irq, .strs]) rfl rfl rfl rfl rfl x0)
@[simp] theorem State.safePath_free (x0 : State) : (State.safePath x0).free = x0.free :=
  same_of_blank (p := .free) (State.safePath_in (m := only [.gates, .banks, .evlog, .irq, .strs]) rfl rfl rfl rfl rfl x0) rfl
@[simp] theorem State.safePath_ident (x0 : State) : (State.safePath x0).ident = x0.ident :=
  same_of_blank (p := .ident) (State.safePath_in (m := only [.gates, .banks, .evlog, .irq, .strs]) rfl rfl rfl rfl rfl x0) rfl
@[simp] theorem State.safePath_utcBase (x0 : State) : (State.safePath x0).utcBase = x0.utcBase :=
  same_of_blank (p := .utcBase) (State.safePath_in (m := only [.gates, .banks, .evlog, .irq, .strs]) rfl rfl rfl rfl rfl x0) rfl
@[simp] theorem State.safePath_utcAt (x0 : State) : (State.safePath x0).utcAt = x0.utcAt :=
  same_of_blank (p := .utcAt) (State.safePath_in (m := only [.gates, .banks, .evlog, .irq, .strs]) rfl rfl rfl rfl rfl x0) rfl
@[simp] theorem State.safePath_fc (x0 : State) : (State.safePath x0).fc = x0.fc :=
  same_of_blank (p := .fc) (State.safePath_in (m := only [.gates, .banks, .evlog, .irq, .strs]) rfl rfl rfl rfl rfl x0) rfl
@[simp] theorem State.safePath_supply (x0 : State) : (State.safePath x0).supply = x0.supply :=
  same_of_blank (p := .supply) (State.safePath_in (m := only [.gates, .banks, .evlog, .irq, .strs]) rfl rfl rfl rfl rfl x0) rfl
@[simp] theorem State.safePath_start (x0 : State) : (State.safePath x0).start = x0.start :=
  same_of_blank (p := .start) (State.safePath_in (m := only [.gates, .banks, .evlog, .irq, .strs]) rfl rfl rfl rfl rfl x0) rfl
@[simp] theorem State.safePath_mode (x0 : State) : (State.safePath x0).mode = x0.mode :=
  same_of_blank (p := .mode) (State.safePath_in (m := only [.gates, .banks, .evlog, .irq, .strs]) rfl rfl rfl rfl rfl x0) rfl
@[simp] theorem State.safePath_cores (x0 : State) : (State.safePath x0).cores = x0.cores :=
  same_of_blank (p := .cores) (State.safePath_in (m := only [.gates, .banks, .evlog, .irq, .strs]) rfl rfl rfl rfl rfl x0) rfl
@[simp] theorem State.safePath_health (x0 : State) : (State.safePath x0).health = x0.health :=
  same_of_blank (p := .health) (State.safePath_in (m := only [.gates, .banks, .evlog, .irq, .strs]) rfl rfl rfl rfl rfl x0) rfl
@[simp] theorem State.safePath_gateBlock (x0 : State) : (State.safePath x0).gateBlock = x0.gateBlock :=
  same_of_blank (p := .gateBlock) (State.safePath_in (m := only [.gates, .banks, .evlog, .irq, .strs]) rfl rfl rfl rfl rfl x0) rfl
@[simp] theorem State.safePath_bstr (x0 : State) : (State.safePath x0).bstr = x0.bstr :=
  same_of_blank (p := .bstr) (State.safePath_in (m := only [.gates, .banks, .evlog, .irq, .strs]) rfl rfl rfl rfl rfl x0) rfl
@[simp] theorem State.safePath_io (x0 : State) : (State.safePath x0).io = x0.io :=
  same_of_blank (p := .io) (State.safePath_in (m := only [.gates, .banks, .evlog, .irq, .strs]) rfl rfl rfl rfl rfl x0) rfl
@[simp] theorem State.safePath_seng (x0 : State) : (State.safePath x0).seng = x0.seng :=
  same_of_blank (p := .seng) (State.safePath_in (m := only [.gates, .banks, .evlog, .irq, .strs]) rfl rfl rfl rfl rfl x0) rfl
@[simp] theorem State.safePath_therm (x0 : State) : (State.safePath x0).therm = x0.therm :=
  same_of_blank (p := .therm) (State.safePath_in (m := only [.gates, .banks, .evlog, .irq, .strs]) rfl rfl rfl rfl rfl x0) rfl
@[simp] theorem State.safePath_cans (x0 : State) : (State.safePath x0).cans = x0.cans :=
  same_of_blank (p := .cans) (State.safePath_in (m := only [.gates, .banks, .evlog, .irq, .strs]) rfl rfl rfl rfl rfl x0) rfl
@[simp] theorem State.safePath_ropes (x0 : State) : (State.safePath x0).ropes = x0.ropes :=
  same_of_blank (p := .ropes) (State.safePath_in (m := only [.gates, .banks, .evlog, .irq, .strs]) rfl rfl rfl rfl rfl x0) rfl
@[simp] theorem State.safePath_nodes (x0 : State) : (State.safePath x0).nodes = x0.nodes :=
  same_of_blank (p := .nodes) (State.safePath_in (m := only [.gates, .banks, .evlog, .irq, .strs]) rfl rfl rfl rfl rfl x0) rfl
@[simp] theorem State.safePath_trav (x0 : State) : (State.safePath x0).trav = x0.trav :=
  same_of_blank (p := .trav) (State.safePath_in (m := only [.gates, .banks, .evlog, .irq, .strs]) rfl rfl rfl rfl rfl x0) rfl
@[simp] theorem State.safePath_bal (x0 : State) : (State.safePath x0).bal = x0.bal :=
  same_of_blank (p := .bal) (State.safePath_in (m := only [.gates, .banks, .evlog, .irq, .strs]) rfl rfl rfl rfl rfl x0) rfl
@[simp] theorem State.safePath_eths (x0 : State) : (State.safePath x0).eths = x0.eths :=
  same_of_blank (p := .eths) (State.safePath_in (m := only [.gates, .banks, .evlog, .irq, .strs]) rfl rfl rfl rfl rfl x0) rfl
@[simp] theorem State.safePath_stream (x0 : State) : (State.safePath x0).stream = x0.stream :=
  same_of_blank (p := .stream) (State.safePath_in (m := only [.gates, .banks, .evlog, .irq, .strs]) rfl rfl rfl rfl rfl x0) rfl
@[simp] theorem State.safePath_clock (x0 : State) : (State.safePath x0).clock = x0.clock :=
  same_of_blank (p := .clock) (State.safePath_in (m := only [.gates, .banks, .evlog, .irq, .strs]) rfl rfl rfl rfl rfl x0) rfl
@[simp] theorem State.safePath_corr (x0 : State) : (State.safePath x0).corr = x0.corr :=
  same_of_blank (p := .corr) (State.safePath_in (m := only [.gates, .banks, .evlog, .irq, .strs]) rfl rfl rfl rfl rfl x0) rfl
@[simp] theorem State.safePath_est (x0 : State) : (State.safePath x0).est = x0.est :=
  same_of_blank (p := .est) (State.safePath_in (m := only [.gates, .banks, .evlog, .irq, .strs]) rfl rfl rfl rfl rfl x0) rfl
@[simp] theorem State.safePath_store (x0 : State) : (State.safePath x0).store = x0.store :=
  same_of_blank (p := .store) (State.safePath_in (m := only [.gates, .banks, .evlog, .irq, .strs]) rfl rfl rfl rfl rfl x0) rfl
@[simp] theorem State.safePath_heldReq (x0 : State) : (State.safePath x0).heldReq = x0.heldReq :=
  same_of_blank (p := .heldReq) (State.safePath_in (m := only [.gates, .banks, .evlog, .irq, .strs]) rfl rfl rfl rfl rfl x0) rfl
@[simp] theorem State.safePath_waitingWrites (x0 : State) : (State.safePath x0).waitingWrites = x0.waitingWrites :=
  same_of_blank (p := .waitingWrites) (State.safePath_in (m := only [.gates, .banks, .evlog, .irq, .strs]) rfl rfl rfl rfl rfl x0) rfl
@[simp] theorem State.safePath_belay (x0 : State) : (State.safePath x0).belay = x0.belay :=
  belay_of_blank (State.safePath_in (m := only [.gates, .banks, .evlog, .irq, .strs]) rfl rfl rfl rfl rfl x0) rfl rfl
@[simp] theorem State.safePath_dict (x0 : State) : (State.safePath x0).dict = x0.dict :=
  dict_of_blank (State.safePath_in (m := only [.gates, .banks, .evlog, .irq, .strs]) rfl rfl rfl rfl rfl x0) rfl rfl

/-! ## `dropAllQ` -/

@[simp] theorem State.dropAllQ_now (x0 : State) : (State.dropAllQ x0).now = x0.now :=
  now_of_blank (State.dropAllQ_in (m := only [.io, .evlog, .irq]) rfl rfl rfl x0)
@[simp] theorem State.dropAllQ_pending (x0 : State) : (State.dropAllQ x0).pending = x0.pending :=
  pending_of_blank (State.dropAllQ_in (m := only [.io, .evlog, .irq]) rfl rfl rfl x0)
@[simp] theorem State.dropAllQ_serial (x0 : State) : (State.dropAllQ x0).serial = x0.serial :=
  serial_of_blank (State.dropAllQ_in (m := only [.io, .evlog, .irq]) rfl rfl rfl x0)
@[simp] theorem State.dropAllQ_free (x0 : State) : (State.dropAllQ x0).free = x0.free :=
  same_of_blank (p := .free) (State.dropAllQ_in (m := only [.io, .evlog, .irq]) rfl rfl rfl x0) rfl
@[simp] theorem State.dropAllQ_ident (x0 : State) : (State.dropAllQ x0).ident = x0.ident :=
  same_of_blank (p := .ident) (State.dropAllQ_in (m := only [.io, .evlog, .irq]) rfl rfl rfl x0) rfl
@[simp] theorem State.dropAllQ_utcBase (x0 : State) : (State.dropAllQ x0).utcBase = x0.utcBase :=
  same_of_blank (p := .utcBase) (State.dropAllQ_in (m := only [.io, .evlog, .irq]) rfl rfl rfl x0) rfl
@[simp] theorem State.dropAllQ_utcAt (x0 : State) : (State.dropAllQ x0).utcAt = x0.utcAt :=
  same_of_blank (p := .utcAt) (State.dropAllQ_in (m := only [.io, .evlog, .irq]) rfl rfl rfl x0) rfl
@[simp] theorem State.dropAllQ_fc (x0 : State) : (State.dropAllQ x0).fc = x0.fc :=
  same_of_blank (p := .fc) (State.dropAllQ_in (m := only [.io, .evlog, .irq]) rfl rfl rfl x0) rfl
@[simp] theorem State.dropAllQ_supply (x0 : State) : (State.dropAllQ x0).supply = x0.supply :=
  same_of_blank (p := .supply) (State.dropAllQ_in (m := only [.io, .evlog, .irq]) rfl rfl rfl x0) rfl
@[simp] theorem State.dropAllQ_start (x0 : State) : (State.dropAllQ x0).start = x0.start :=
  same_of_blank (p := .start) (State.dropAllQ_in (m := only [.io, .evlog, .irq]) rfl rfl rfl x0) rfl
@[simp] theorem State.dropAllQ_mode (x0 : State) : (State.dropAllQ x0).mode = x0.mode :=
  same_of_blank (p := .mode) (State.dropAllQ_in (m := only [.io, .evlog, .irq]) rfl rfl rfl x0) rfl
@[simp] theorem State.dropAllQ_cores (x0 : State) : (State.dropAllQ x0).cores = x0.cores :=
  same_of_blank (p := .cores) (State.dropAllQ_in (m := only [.io, .evlog, .irq]) rfl rfl rfl x0) rfl
@[simp] theorem State.dropAllQ_health (x0 : State) : (State.dropAllQ x0).health = x0.health :=
  same_of_blank (p := .health) (State.dropAllQ_in (m := only [.io, .evlog, .irq]) rfl rfl rfl x0) rfl
@[simp] theorem State.dropAllQ_strs (x0 : State) : (State.dropAllQ x0).strs = x0.strs :=
  same_of_blank (p := .strs) (State.dropAllQ_in (m := only [.io, .evlog, .irq]) rfl rfl rfl x0) rfl
@[simp] theorem State.dropAllQ_banks (x0 : State) : (State.dropAllQ x0).banks = x0.banks :=
  same_of_blank (p := .banks) (State.dropAllQ_in (m := only [.io, .evlog, .irq]) rfl rfl rfl x0) rfl
@[simp] theorem State.dropAllQ_gates (x0 : State) : (State.dropAllQ x0).gates = x0.gates :=
  same_of_blank (p := .gates) (State.dropAllQ_in (m := only [.io, .evlog, .irq]) rfl rfl rfl x0) rfl
@[simp] theorem State.dropAllQ_gateBlock (x0 : State) : (State.dropAllQ x0).gateBlock = x0.gateBlock :=
  same_of_blank (p := .gateBlock) (State.dropAllQ_in (m := only [.io, .evlog, .irq]) rfl rfl rfl x0) rfl
@[simp] theorem State.dropAllQ_bstr (x0 : State) : (State.dropAllQ x0).bstr = x0.bstr :=
  same_of_blank (p := .bstr) (State.dropAllQ_in (m := only [.io, .evlog, .irq]) rfl rfl rfl x0) rfl
@[simp] theorem State.dropAllQ_seng (x0 : State) : (State.dropAllQ x0).seng = x0.seng :=
  same_of_blank (p := .seng) (State.dropAllQ_in (m := only [.io, .evlog, .irq]) rfl rfl rfl x0) rfl
@[simp] theorem State.dropAllQ_therm (x0 : State) : (State.dropAllQ x0).therm = x0.therm :=
  same_of_blank (p := .therm) (State.dropAllQ_in (m := only [.io, .evlog, .irq]) rfl rfl rfl x0) rfl
@[simp] theorem State.dropAllQ_cans (x0 : State) : (State.dropAllQ x0).cans = x0.cans :=
  same_of_blank (p := .cans) (State.dropAllQ_in (m := only [.io, .evlog, .irq]) rfl rfl rfl x0) rfl
@[simp] theorem State.dropAllQ_ropes (x0 : State) : (State.dropAllQ x0).ropes = x0.ropes :=
  same_of_blank (p := .ropes) (State.dropAllQ_in (m := only [.io, .evlog, .irq]) rfl rfl rfl x0) rfl
@[simp] theorem State.dropAllQ_nodes (x0 : State) : (State.dropAllQ x0).nodes = x0.nodes :=
  same_of_blank (p := .nodes) (State.dropAllQ_in (m := only [.io, .evlog, .irq]) rfl rfl rfl x0) rfl
@[simp] theorem State.dropAllQ_trav (x0 : State) : (State.dropAllQ x0).trav = x0.trav :=
  same_of_blank (p := .trav) (State.dropAllQ_in (m := only [.io, .evlog, .irq]) rfl rfl rfl x0) rfl
@[simp] theorem State.dropAllQ_bal (x0 : State) : (State.dropAllQ x0).bal = x0.bal :=
  same_of_blank (p := .bal) (State.dropAllQ_in (m := only [.io, .evlog, .irq]) rfl rfl rfl x0) rfl
@[simp] theorem State.dropAllQ_eths (x0 : State) : (State.dropAllQ x0).eths = x0.eths :=
  same_of_blank (p := .eths) (State.dropAllQ_in (m := only [.io, .evlog, .irq]) rfl rfl rfl x0) rfl
@[simp] theorem State.dropAllQ_stream (x0 : State) : (State.dropAllQ x0).stream = x0.stream :=
  same_of_blank (p := .stream) (State.dropAllQ_in (m := only [.io, .evlog, .irq]) rfl rfl rfl x0) rfl
@[simp] theorem State.dropAllQ_clock (x0 : State) : (State.dropAllQ x0).clock = x0.clock :=
  same_of_blank (p := .clock) (State.dropAllQ_in (m := only [.io, .evlog, .irq]) rfl rfl rfl x0) rfl
@[simp] theorem State.dropAllQ_corr (x0 : State) : (State.dropAllQ x0).corr = x0.corr :=
  same_of_blank (p := .corr) (State.dropAllQ_in (m := only [.io, .evlog, .irq]) rfl rfl rfl x0) rfl
@[simp] theorem State.dropAllQ_est (x0 : State) : (State.dropAllQ x0).est = x0.est :=
  same_of_blank (p := .est) (State.dropAllQ_in (m := only [.io, .evlog, .irq]) rfl rfl rfl x0) rfl
@[simp] theorem State.dropAllQ_store (x0 : State) : (State.dropAllQ x0).store = x0.store :=
  same_of_blank (p := .store) (State.dropAllQ_in (m := only [.io, .evlog, .irq]) rfl rfl rfl x0) rfl
@[simp] theorem State.dropAllQ_heldReq (x0 : State) : (State.dropAllQ x0).heldReq = x0.heldReq :=
  same_of_blank (p := .heldReq) (State.dropAllQ_in (m := only [.io, .evlog, .irq]) rfl rfl rfl x0) rfl
@[simp] theorem State.dropAllQ_waitingWrites (x0 : State) : (State.dropAllQ x0).waitingWrites = x0.waitingWrites :=
  same_of_blank (p := .waitingWrites) (State.dropAllQ_in (m := only [.io, .evlog, .irq]) rfl rfl rfl x0) rfl
@[simp] theorem State.dropAllQ_belay (x0 : State) : (State.dropAllQ x0).belay = x0.belay :=
  belay_of_blank (State.dropAllQ_in (m := only [.io, .evlog, .irq]) rfl rfl rfl x0) rfl rfl
@[simp] theorem State.dropAllQ_dict (x0 : State) : (State.dropAllQ x0).dict = x0.dict :=
  dict_of_blank (State.dropAllQ_in (m := only [.io, .evlog, .irq]) rfl rfl rfl x0) rfl rfl

/-! ## `discardPasses` -/

@[simp] theorem State.discardPasses_now (x0 : State) : (State.discardPasses x0).now = x0.now :=
  now_of_blank (State.discardPasses_in (m := only [.evlog, .io, .belay, .irq, .strs]) rfl rfl rfl rfl rfl x0)
@[simp] theorem State.discardPasses_pending (x0 : State) : (State.discardPasses x0).pending = x0.pending :=
  pending_of_blank (State.discardPasses_in (m := only [.evlog, .io, .belay, .irq, .strs]) rfl rfl rfl rfl rfl x0)
@[simp] theorem State.discardPasses_serial (x0 : State) : (State.discardPasses x0).serial = x0.serial :=
  serial_of_blank (State.discardPasses_in (m := only [.evlog, .io, .belay, .irq, .strs]) rfl rfl rfl rfl rfl x0)
@[simp] theorem State.discardPasses_free (x0 : State) : (State.discardPasses x0).free = x0.free :=
  same_of_blank (p := .free) (State.discardPasses_in (m := only [.evlog, .io, .belay, .irq, .strs]) rfl rfl rfl rfl rfl x0) rfl
@[simp] theorem State.discardPasses_ident (x0 : State) : (State.discardPasses x0).ident = x0.ident :=
  same_of_blank (p := .ident) (State.discardPasses_in (m := only [.evlog, .io, .belay, .irq, .strs]) rfl rfl rfl rfl rfl x0) rfl
@[simp] theorem State.discardPasses_utcBase (x0 : State) : (State.discardPasses x0).utcBase = x0.utcBase :=
  same_of_blank (p := .utcBase) (State.discardPasses_in (m := only [.evlog, .io, .belay, .irq, .strs]) rfl rfl rfl rfl rfl x0) rfl
@[simp] theorem State.discardPasses_utcAt (x0 : State) : (State.discardPasses x0).utcAt = x0.utcAt :=
  same_of_blank (p := .utcAt) (State.discardPasses_in (m := only [.evlog, .io, .belay, .irq, .strs]) rfl rfl rfl rfl rfl x0) rfl
@[simp] theorem State.discardPasses_fc (x0 : State) : (State.discardPasses x0).fc = x0.fc :=
  same_of_blank (p := .fc) (State.discardPasses_in (m := only [.evlog, .io, .belay, .irq, .strs]) rfl rfl rfl rfl rfl x0) rfl
@[simp] theorem State.discardPasses_supply (x0 : State) : (State.discardPasses x0).supply = x0.supply :=
  same_of_blank (p := .supply) (State.discardPasses_in (m := only [.evlog, .io, .belay, .irq, .strs]) rfl rfl rfl rfl rfl x0) rfl
@[simp] theorem State.discardPasses_start (x0 : State) : (State.discardPasses x0).start = x0.start :=
  same_of_blank (p := .start) (State.discardPasses_in (m := only [.evlog, .io, .belay, .irq, .strs]) rfl rfl rfl rfl rfl x0) rfl
@[simp] theorem State.discardPasses_mode (x0 : State) : (State.discardPasses x0).mode = x0.mode :=
  same_of_blank (p := .mode) (State.discardPasses_in (m := only [.evlog, .io, .belay, .irq, .strs]) rfl rfl rfl rfl rfl x0) rfl
@[simp] theorem State.discardPasses_cores (x0 : State) : (State.discardPasses x0).cores = x0.cores :=
  same_of_blank (p := .cores) (State.discardPasses_in (m := only [.evlog, .io, .belay, .irq, .strs]) rfl rfl rfl rfl rfl x0) rfl
@[simp] theorem State.discardPasses_health (x0 : State) : (State.discardPasses x0).health = x0.health :=
  same_of_blank (p := .health) (State.discardPasses_in (m := only [.evlog, .io, .belay, .irq, .strs]) rfl rfl rfl rfl rfl x0) rfl
@[simp] theorem State.discardPasses_banks (x0 : State) : (State.discardPasses x0).banks = x0.banks :=
  same_of_blank (p := .banks) (State.discardPasses_in (m := only [.evlog, .io, .belay, .irq, .strs]) rfl rfl rfl rfl rfl x0) rfl
@[simp] theorem State.discardPasses_gates (x0 : State) : (State.discardPasses x0).gates = x0.gates :=
  same_of_blank (p := .gates) (State.discardPasses_in (m := only [.evlog, .io, .belay, .irq, .strs]) rfl rfl rfl rfl rfl x0) rfl
@[simp] theorem State.discardPasses_gateBlock (x0 : State) : (State.discardPasses x0).gateBlock = x0.gateBlock :=
  same_of_blank (p := .gateBlock) (State.discardPasses_in (m := only [.evlog, .io, .belay, .irq, .strs]) rfl rfl rfl rfl rfl x0) rfl
@[simp] theorem State.discardPasses_bstr (x0 : State) : (State.discardPasses x0).bstr = x0.bstr :=
  same_of_blank (p := .bstr) (State.discardPasses_in (m := only [.evlog, .io, .belay, .irq, .strs]) rfl rfl rfl rfl rfl x0) rfl
@[simp] theorem State.discardPasses_seng (x0 : State) : (State.discardPasses x0).seng = x0.seng :=
  same_of_blank (p := .seng) (State.discardPasses_in (m := only [.evlog, .io, .belay, .irq, .strs]) rfl rfl rfl rfl rfl x0) rfl
@[simp] theorem State.discardPasses_therm (x0 : State) : (State.discardPasses x0).therm = x0.therm :=
  same_of_blank (p := .therm) (State.discardPasses_in (m := only [.evlog, .io, .belay, .irq, .strs]) rfl rfl rfl rfl rfl x0) rfl
@[simp] theorem State.discardPasses_cans (x0 : State) : (State.discardPasses x0).cans = x0.cans :=
  same_of_blank (p := .cans) (State.discardPasses_in (m := only [.evlog, .io, .belay, .irq, .strs]) rfl rfl rfl rfl rfl x0) rfl
@[simp] theorem State.discardPasses_ropes (x0 : State) : (State.discardPasses x0).ropes = x0.ropes :=
  same_of_blank (p := .ropes) (State.discardPasses_in (m := only [.evlog, .io, .belay, .irq, .strs]) rfl rfl rfl rfl rfl x0) rfl
@[simp] theorem State.discardPasses_nodes (x0 : State) : (State.discardPasses x0).nodes = x0.nodes :=
  same_of_blank (p := .nodes) (State.discardPasses_in (m := only [.evlog, .io, .belay, .irq, .strs]) rfl rfl rfl rfl rfl x0) rfl
@[simp] theorem State.discardPasses_trav (x0 : State) : (State.discardPasses x0).trav = x0.trav :=
  same_of_blank (p := .trav) (State.discardPasses_in (m := only [.evlog, .io, .belay, .irq, .strs]) rfl rfl rfl rfl rfl x0) rfl
@[simp] theorem State.discardPasses_bal (x0 : State) : (State.discardPasses x0).bal = x0.bal :=
  same_of_blank (p := .bal) (State.discardPasses_in (m := only [.evlog, .io, .belay, .irq, .strs]) rfl rfl rfl rfl rfl x0) rfl
@[simp] theorem State.discardPasses_eths (x0 : State) : (State.discardPasses x0).eths = x0.eths :=
  same_of_blank (p := .eths) (State.discardPasses_in (m := only [.evlog, .io, .belay, .irq, .strs]) rfl rfl rfl rfl rfl x0) rfl
@[simp] theorem State.discardPasses_stream (x0 : State) : (State.discardPasses x0).stream = x0.stream :=
  same_of_blank (p := .stream) (State.discardPasses_in (m := only [.evlog, .io, .belay, .irq, .strs]) rfl rfl rfl rfl rfl x0) rfl
@[simp] theorem State.discardPasses_clock (x0 : State) : (State.discardPasses x0).clock = x0.clock :=
  same_of_blank (p := .clock) (State.discardPasses_in (m := only [.evlog, .io, .belay, .irq, .strs]) rfl rfl rfl rfl rfl x0) rfl
@[simp] theorem State.discardPasses_corr (x0 : State) : (State.discardPasses x0).corr = x0.corr :=
  same_of_blank (p := .corr) (State.discardPasses_in (m := only [.evlog, .io, .belay, .irq, .strs]) rfl rfl rfl rfl rfl x0) rfl
@[simp] theorem State.discardPasses_est (x0 : State) : (State.discardPasses x0).est = x0.est :=
  same_of_blank (p := .est) (State.discardPasses_in (m := only [.evlog, .io, .belay, .irq, .strs]) rfl rfl rfl rfl rfl x0) rfl
@[simp] theorem State.discardPasses_store (x0 : State) : (State.discardPasses x0).store = x0.store :=
  same_of_blank (p := .store) (State.discardPasses_in (m := only [.evlog, .io, .belay, .irq, .strs]) rfl rfl rfl rfl rfl x0) rfl
@[simp] theorem State.discardPasses_heldReq (x0 : State) : (State.discardPasses x0).heldReq = x0.heldReq :=
  same_of_blank (p := .heldReq) (State.discardPasses_in (m := only [.evlog, .io, .belay, .irq, .strs]) rfl rfl rfl rfl rfl x0) rfl
@[simp] theorem State.discardPasses_waitingWrites (x0 : State) : (State.discardPasses x0).waitingWrites = x0.waitingWrites :=
  same_of_blank (p := .waitingWrites) (State.discardPasses_in (m := only [.evlog, .io, .belay, .irq, .strs]) rfl rfl rfl rfl rfl x0) rfl
@[simp] theorem State.discardPasses_dict (x0 : State) : (State.discardPasses x0).dict = x0.dict :=
  dict_of_blank (State.discardPasses_in (m := only [.evlog, .io, .belay, .irq, .strs]) rfl rfl rfl rfl rfl x0) rfl rfl
@[simp] theorem State.discardPasses_records (x0 : State) : (State.discardPasses x0).belay.store = x0.belay.store :=
  same_of_blank (p := .records) (State.discardPasses_in (m := only [.evlog, .io, .belay, .irq, .strs]) rfl rfl rfl rfl rfl x0) rfl

/-! ## `writeBack` -/

@[simp] theorem State.writeBack_now (x0 : State) x1 : (State.writeBack x0 x1).now = x0.now :=
  now_of_blank (State.writeBack_in (m := only [.store, .evlog, .irq]) rfl rfl rfl x0 x1)
@[simp] theorem State.writeBack_pending (x0 : State) x1 : (State.writeBack x0 x1).pending = x0.pending :=
  pending_of_blank (State.writeBack_in (m := only [.store, .evlog, .irq]) rfl rfl rfl x0 x1)
@[simp] theorem State.writeBack_serial (x0 : State) x1 : (State.writeBack x0 x1).serial = x0.serial :=
  serial_of_blank (State.writeBack_in (m := only [.store, .evlog, .irq]) rfl rfl rfl x0 x1)
@[simp] theorem State.writeBack_free (x0 : State) x1 : (State.writeBack x0 x1).free = x0.free :=
  same_of_blank (p := .free) (State.writeBack_in (m := only [.store, .evlog, .irq]) rfl rfl rfl x0 x1) rfl
@[simp] theorem State.writeBack_ident (x0 : State) x1 : (State.writeBack x0 x1).ident = x0.ident :=
  same_of_blank (p := .ident) (State.writeBack_in (m := only [.store, .evlog, .irq]) rfl rfl rfl x0 x1) rfl
@[simp] theorem State.writeBack_utcBase (x0 : State) x1 : (State.writeBack x0 x1).utcBase = x0.utcBase :=
  same_of_blank (p := .utcBase) (State.writeBack_in (m := only [.store, .evlog, .irq]) rfl rfl rfl x0 x1) rfl
@[simp] theorem State.writeBack_utcAt (x0 : State) x1 : (State.writeBack x0 x1).utcAt = x0.utcAt :=
  same_of_blank (p := .utcAt) (State.writeBack_in (m := only [.store, .evlog, .irq]) rfl rfl rfl x0 x1) rfl
@[simp] theorem State.writeBack_fc (x0 : State) x1 : (State.writeBack x0 x1).fc = x0.fc :=
  same_of_blank (p := .fc) (State.writeBack_in (m := only [.store, .evlog, .irq]) rfl rfl rfl x0 x1) rfl
@[simp] theorem State.writeBack_supply (x0 : State) x1 : (State.writeBack x0 x1).supply = x0.supply :=
  same_of_blank (p := .supply) (State.writeBack_in (m := only [.store, .evlog, .irq]) rfl rfl rfl x0 x1) rfl
@[simp] theorem State.writeBack_start (x0 : State) x1 : (State.writeBack x0 x1).start = x0.start :=
  same_of_blank (p := .start) (State.writeBack_in (m := only [.store, .evlog, .irq]) rfl rfl rfl x0 x1) rfl
@[simp] theorem State.writeBack_mode (x0 : State) x1 : (State.writeBack x0 x1).mode = x0.mode :=
  same_of_blank (p := .mode) (State.writeBack_in (m := only [.store, .evlog, .irq]) rfl rfl rfl x0 x1) rfl
@[simp] theorem State.writeBack_cores (x0 : State) x1 : (State.writeBack x0 x1).cores = x0.cores :=
  same_of_blank (p := .cores) (State.writeBack_in (m := only [.store, .evlog, .irq]) rfl rfl rfl x0 x1) rfl
@[simp] theorem State.writeBack_health (x0 : State) x1 : (State.writeBack x0 x1).health = x0.health :=
  same_of_blank (p := .health) (State.writeBack_in (m := only [.store, .evlog, .irq]) rfl rfl rfl x0 x1) rfl
@[simp] theorem State.writeBack_strs (x0 : State) x1 : (State.writeBack x0 x1).strs = x0.strs :=
  same_of_blank (p := .strs) (State.writeBack_in (m := only [.store, .evlog, .irq]) rfl rfl rfl x0 x1) rfl
@[simp] theorem State.writeBack_banks (x0 : State) x1 : (State.writeBack x0 x1).banks = x0.banks :=
  same_of_blank (p := .banks) (State.writeBack_in (m := only [.store, .evlog, .irq]) rfl rfl rfl x0 x1) rfl
@[simp] theorem State.writeBack_gates (x0 : State) x1 : (State.writeBack x0 x1).gates = x0.gates :=
  same_of_blank (p := .gates) (State.writeBack_in (m := only [.store, .evlog, .irq]) rfl rfl rfl x0 x1) rfl
@[simp] theorem State.writeBack_gateBlock (x0 : State) x1 : (State.writeBack x0 x1).gateBlock = x0.gateBlock :=
  same_of_blank (p := .gateBlock) (State.writeBack_in (m := only [.store, .evlog, .irq]) rfl rfl rfl x0 x1) rfl
@[simp] theorem State.writeBack_bstr (x0 : State) x1 : (State.writeBack x0 x1).bstr = x0.bstr :=
  same_of_blank (p := .bstr) (State.writeBack_in (m := only [.store, .evlog, .irq]) rfl rfl rfl x0 x1) rfl
@[simp] theorem State.writeBack_io (x0 : State) x1 : (State.writeBack x0 x1).io = x0.io :=
  same_of_blank (p := .io) (State.writeBack_in (m := only [.store, .evlog, .irq]) rfl rfl rfl x0 x1) rfl
@[simp] theorem State.writeBack_seng (x0 : State) x1 : (State.writeBack x0 x1).seng = x0.seng :=
  same_of_blank (p := .seng) (State.writeBack_in (m := only [.store, .evlog, .irq]) rfl rfl rfl x0 x1) rfl
@[simp] theorem State.writeBack_therm (x0 : State) x1 : (State.writeBack x0 x1).therm = x0.therm :=
  same_of_blank (p := .therm) (State.writeBack_in (m := only [.store, .evlog, .irq]) rfl rfl rfl x0 x1) rfl
@[simp] theorem State.writeBack_cans (x0 : State) x1 : (State.writeBack x0 x1).cans = x0.cans :=
  same_of_blank (p := .cans) (State.writeBack_in (m := only [.store, .evlog, .irq]) rfl rfl rfl x0 x1) rfl
@[simp] theorem State.writeBack_ropes (x0 : State) x1 : (State.writeBack x0 x1).ropes = x0.ropes :=
  same_of_blank (p := .ropes) (State.writeBack_in (m := only [.store, .evlog, .irq]) rfl rfl rfl x0 x1) rfl
@[simp] theorem State.writeBack_nodes (x0 : State) x1 : (State.writeBack x0 x1).nodes = x0.nodes :=
  same_of_blank (p := .nodes) (State.writeBack_in (m := only [.store, .evlog, .irq]) rfl rfl rfl x0 x1) rfl
@[simp] theorem State.writeBack_trav (x0 : State) x1 : (State.writeBack x0 x1).trav = x0.trav :=
  same_of_blank (p := .trav) (State.writeBack_in (m := only [.store, .evlog, .irq]) rfl rfl rfl x0 x1) rfl
@[simp] theorem State.writeBack_bal (x0 : State) x1 : (State.writeBack x0 x1).bal = x0.bal :=
  same_of_blank (p := .bal) (State.writeBack_in (m := only [.store, .evlog, .irq]) rfl rfl rfl x0 x1) rfl
@[simp] theorem State.writeBack_eths (x0 : State) x1 : (State.writeBack x0 x1).eths = x0.eths :=
  same_of_blank (p := .eths) (State.writeBack_in (m := only [.store, .evlog, .irq]) rfl rfl rfl x0 x1) rfl
@[simp] theorem State.writeBack_stream (x0 : State) x1 : (State.writeBack x0 x1).stream = x0.stream :=
  same_of_blank (p := .stream) (State.writeBack_in (m := only [.store, .evlog, .irq]) rfl rfl rfl x0 x1) rfl
@[simp] theorem State.writeBack_clock (x0 : State) x1 : (State.writeBack x0 x1).clock = x0.clock :=
  same_of_blank (p := .clock) (State.writeBack_in (m := only [.store, .evlog, .irq]) rfl rfl rfl x0 x1) rfl
@[simp] theorem State.writeBack_corr (x0 : State) x1 : (State.writeBack x0 x1).corr = x0.corr :=
  same_of_blank (p := .corr) (State.writeBack_in (m := only [.store, .evlog, .irq]) rfl rfl rfl x0 x1) rfl
@[simp] theorem State.writeBack_est (x0 : State) x1 : (State.writeBack x0 x1).est = x0.est :=
  same_of_blank (p := .est) (State.writeBack_in (m := only [.store, .evlog, .irq]) rfl rfl rfl x0 x1) rfl
@[simp] theorem State.writeBack_heldReq (x0 : State) x1 : (State.writeBack x0 x1).heldReq = x0.heldReq :=
  same_of_blank (p := .heldReq) (State.writeBack_in (m := only [.store, .evlog, .irq]) rfl rfl rfl x0 x1) rfl
@[simp] theorem State.writeBack_waitingWrites (x0 : State) x1 : (State.writeBack x0 x1).waitingWrites = x0.waitingWrites :=
  same_of_blank (p := .waitingWrites) (State.writeBack_in (m := only [.store, .evlog, .irq]) rfl rfl rfl x0 x1) rfl
@[simp] theorem State.writeBack_belay (x0 : State) x1 : (State.writeBack x0 x1).belay = x0.belay :=
  belay_of_blank (State.writeBack_in (m := only [.store, .evlog, .irq]) rfl rfl rfl x0 x1) rfl rfl
@[simp] theorem State.writeBack_dict (x0 : State) x1 : (State.writeBack x0 x1).dict = x0.dict :=
  dict_of_blank (State.writeBack_in (m := only [.store, .evlog, .irq]) rfl rfl rfl x0 x1) rfl rfl

/-! ## `storeCounters` -/

@[simp] theorem State.storeCounters_now (x0 : State) : (State.storeCounters x0).now = x0.now :=
  now_of_blank (State.storeCounters_in (m := only [.dict, .seng, .irq]) rfl rfl rfl x0)
@[simp] theorem State.storeCounters_pending (x0 : State) : (State.storeCounters x0).pending = x0.pending :=
  pending_of_blank (State.storeCounters_in (m := only [.dict, .seng, .irq]) rfl rfl rfl x0)
@[simp] theorem State.storeCounters_serial (x0 : State) : (State.storeCounters x0).serial = x0.serial :=
  serial_of_blank (State.storeCounters_in (m := only [.dict, .seng, .irq]) rfl rfl rfl x0)
@[simp] theorem State.storeCounters_free (x0 : State) : (State.storeCounters x0).free = x0.free :=
  same_of_blank (p := .free) (State.storeCounters_in (m := only [.dict, .seng, .irq]) rfl rfl rfl x0) rfl
@[simp] theorem State.storeCounters_ident (x0 : State) : (State.storeCounters x0).ident = x0.ident :=
  same_of_blank (p := .ident) (State.storeCounters_in (m := only [.dict, .seng, .irq]) rfl rfl rfl x0) rfl
@[simp] theorem State.storeCounters_utcBase (x0 : State) : (State.storeCounters x0).utcBase = x0.utcBase :=
  same_of_blank (p := .utcBase) (State.storeCounters_in (m := only [.dict, .seng, .irq]) rfl rfl rfl x0) rfl
@[simp] theorem State.storeCounters_utcAt (x0 : State) : (State.storeCounters x0).utcAt = x0.utcAt :=
  same_of_blank (p := .utcAt) (State.storeCounters_in (m := only [.dict, .seng, .irq]) rfl rfl rfl x0) rfl
@[simp] theorem State.storeCounters_evlog (x0 : State) : (State.storeCounters x0).evlog = x0.evlog :=
  same_of_blank (p := .evlog) (State.storeCounters_in (m := only [.dict, .seng, .irq]) rfl rfl rfl x0) rfl
@[simp] theorem State.storeCounters_fc (x0 : State) : (State.storeCounters x0).fc = x0.fc :=
  same_of_blank (p := .fc) (State.storeCounters_in (m := only [.dict, .seng, .irq]) rfl rfl rfl x0) rfl
@[simp] theorem State.storeCounters_supply (x0 : State) : (State.storeCounters x0).supply = x0.supply :=
  same_of_blank (p := .supply) (State.storeCounters_in (m := only [.dict, .seng, .irq]) rfl rfl rfl x0) rfl
@[simp] theorem State.storeCounters_start (x0 : State) : (State.storeCounters x0).start = x0.start :=
  same_of_blank (p := .start) (State.storeCounters_in (m := only [.dict, .seng, .irq]) rfl rfl rfl x0) rfl
@[simp] theorem State.storeCounters_mode (x0 : State) : (State.storeCounters x0).mode = x0.mode :=
  same_of_blank (p := .mode) (State.storeCounters_in (m := only [.dict, .seng, .irq]) rfl rfl rfl x0) rfl
@[simp] theorem State.storeCounters_cores (x0 : State) : (State.storeCounters x0).cores = x0.cores :=
  same_of_blank (p := .cores) (State.storeCounters_in (m := only [.dict, .seng, .irq]) rfl rfl rfl x0) rfl
@[simp] theorem State.storeCounters_health (x0 : State) : (State.storeCounters x0).health = x0.health :=
  same_of_blank (p := .health) (State.storeCounters_in (m := only [.dict, .seng, .irq]) rfl rfl rfl x0) rfl
@[simp] theorem State.storeCounters_strs (x0 : State) : (State.storeCounters x0).strs = x0.strs :=
  same_of_blank (p := .strs) (State.storeCounters_in (m := only [.dict, .seng, .irq]) rfl rfl rfl x0) rfl
@[simp] theorem State.storeCounters_banks (x0 : State) : (State.storeCounters x0).banks = x0.banks :=
  same_of_blank (p := .banks) (State.storeCounters_in (m := only [.dict, .seng, .irq]) rfl rfl rfl x0) rfl
@[simp] theorem State.storeCounters_gates (x0 : State) : (State.storeCounters x0).gates = x0.gates :=
  same_of_blank (p := .gates) (State.storeCounters_in (m := only [.dict, .seng, .irq]) rfl rfl rfl x0) rfl
@[simp] theorem State.storeCounters_gateBlock (x0 : State) : (State.storeCounters x0).gateBlock = x0.gateBlock :=
  same_of_blank (p := .gateBlock) (State.storeCounters_in (m := only [.dict, .seng, .irq]) rfl rfl rfl x0) rfl
@[simp] theorem State.storeCounters_bstr (x0 : State) : (State.storeCounters x0).bstr = x0.bstr :=
  same_of_blank (p := .bstr) (State.storeCounters_in (m := only [.dict, .seng, .irq]) rfl rfl rfl x0) rfl
@[simp] theorem State.storeCounters_io (x0 : State) : (State.storeCounters x0).io = x0.io :=
  same_of_blank (p := .io) (State.storeCounters_in (m := only [.dict, .seng, .irq]) rfl rfl rfl x0) rfl
@[simp] theorem State.storeCounters_therm (x0 : State) : (State.storeCounters x0).therm = x0.therm :=
  same_of_blank (p := .therm) (State.storeCounters_in (m := only [.dict, .seng, .irq]) rfl rfl rfl x0) rfl
@[simp] theorem State.storeCounters_cans (x0 : State) : (State.storeCounters x0).cans = x0.cans :=
  same_of_blank (p := .cans) (State.storeCounters_in (m := only [.dict, .seng, .irq]) rfl rfl rfl x0) rfl
@[simp] theorem State.storeCounters_ropes (x0 : State) : (State.storeCounters x0).ropes = x0.ropes :=
  same_of_blank (p := .ropes) (State.storeCounters_in (m := only [.dict, .seng, .irq]) rfl rfl rfl x0) rfl
@[simp] theorem State.storeCounters_nodes (x0 : State) : (State.storeCounters x0).nodes = x0.nodes :=
  same_of_blank (p := .nodes) (State.storeCounters_in (m := only [.dict, .seng, .irq]) rfl rfl rfl x0) rfl
@[simp] theorem State.storeCounters_trav (x0 : State) : (State.storeCounters x0).trav = x0.trav :=
  same_of_blank (p := .trav) (State.storeCounters_in (m := only [.dict, .seng, .irq]) rfl rfl rfl x0) rfl
@[simp] theorem State.storeCounters_bal (x0 : State) : (State.storeCounters x0).bal = x0.bal :=
  same_of_blank (p := .bal) (State.storeCounters_in (m := only [.dict, .seng, .irq]) rfl rfl rfl x0) rfl
@[simp] theorem State.storeCounters_eths (x0 : State) : (State.storeCounters x0).eths = x0.eths :=
  same_of_blank (p := .eths) (State.storeCounters_in (m := only [.dict, .seng, .irq]) rfl rfl rfl x0) rfl
@[simp] theorem State.storeCounters_stream (x0 : State) : (State.storeCounters x0).stream = x0.stream :=
  same_of_blank (p := .stream) (State.storeCounters_in (m := only [.dict, .seng, .irq]) rfl rfl rfl x0) rfl
@[simp] theorem State.storeCounters_clock (x0 : State) : (State.storeCounters x0).clock = x0.clock :=
  same_of_blank (p := .clock) (State.storeCounters_in (m := only [.dict, .seng, .irq]) rfl rfl rfl x0) rfl
@[simp] theorem State.storeCounters_corr (x0 : State) : (State.storeCounters x0).corr = x0.corr :=
  same_of_blank (p := .corr) (State.storeCounters_in (m := only [.dict, .seng, .irq]) rfl rfl rfl x0) rfl
@[simp] theorem State.storeCounters_est (x0 : State) : (State.storeCounters x0).est = x0.est :=
  same_of_blank (p := .est) (State.storeCounters_in (m := only [.dict, .seng, .irq]) rfl rfl rfl x0) rfl
@[simp] theorem State.storeCounters_store (x0 : State) : (State.storeCounters x0).store = x0.store :=
  same_of_blank (p := .store) (State.storeCounters_in (m := only [.dict, .seng, .irq]) rfl rfl rfl x0) rfl
@[simp] theorem State.storeCounters_heldReq (x0 : State) : (State.storeCounters x0).heldReq = x0.heldReq :=
  same_of_blank (p := .heldReq) (State.storeCounters_in (m := only [.dict, .seng, .irq]) rfl rfl rfl x0) rfl
@[simp] theorem State.storeCounters_waitingWrites (x0 : State) : (State.storeCounters x0).waitingWrites = x0.waitingWrites :=
  same_of_blank (p := .waitingWrites) (State.storeCounters_in (m := only [.dict, .seng, .irq]) rfl rfl rfl x0) rfl
@[simp] theorem State.storeCounters_belay (x0 : State) : (State.storeCounters x0).belay = x0.belay :=
  belay_of_blank (State.storeCounters_in (m := only [.dict, .seng, .irq]) rfl rfl rfl x0) rfl rfl
@[simp] theorem State.storeCounters_values (x0 : State) : (State.storeCounters x0).dict.vals = x0.dict.vals :=
  same_of_blank (p := .values) (State.storeCounters_in (m := only [.dict, .seng, .irq]) rfl rfl rfl x0) rfl

/-! ## `enforceOutputs` -/

@[simp] theorem State.enforceOutputs_now (x0 : State) : (State.enforceOutputs x0).now = x0.now :=
  now_of_blank (State.enforceOutputs_in (m := only [.io, .evlog, .irq]) rfl rfl rfl x0)
@[simp] theorem State.enforceOutputs_pending (x0 : State) : (State.enforceOutputs x0).pending = x0.pending :=
  pending_of_blank (State.enforceOutputs_in (m := only [.io, .evlog, .irq]) rfl rfl rfl x0)
@[simp] theorem State.enforceOutputs_serial (x0 : State) : (State.enforceOutputs x0).serial = x0.serial :=
  serial_of_blank (State.enforceOutputs_in (m := only [.io, .evlog, .irq]) rfl rfl rfl x0)
@[simp] theorem State.enforceOutputs_free (x0 : State) : (State.enforceOutputs x0).free = x0.free :=
  same_of_blank (p := .free) (State.enforceOutputs_in (m := only [.io, .evlog, .irq]) rfl rfl rfl x0) rfl
@[simp] theorem State.enforceOutputs_ident (x0 : State) : (State.enforceOutputs x0).ident = x0.ident :=
  same_of_blank (p := .ident) (State.enforceOutputs_in (m := only [.io, .evlog, .irq]) rfl rfl rfl x0) rfl
@[simp] theorem State.enforceOutputs_utcBase (x0 : State) : (State.enforceOutputs x0).utcBase = x0.utcBase :=
  same_of_blank (p := .utcBase) (State.enforceOutputs_in (m := only [.io, .evlog, .irq]) rfl rfl rfl x0) rfl
@[simp] theorem State.enforceOutputs_utcAt (x0 : State) : (State.enforceOutputs x0).utcAt = x0.utcAt :=
  same_of_blank (p := .utcAt) (State.enforceOutputs_in (m := only [.io, .evlog, .irq]) rfl rfl rfl x0) rfl
@[simp] theorem State.enforceOutputs_fc (x0 : State) : (State.enforceOutputs x0).fc = x0.fc :=
  same_of_blank (p := .fc) (State.enforceOutputs_in (m := only [.io, .evlog, .irq]) rfl rfl rfl x0) rfl
@[simp] theorem State.enforceOutputs_supply (x0 : State) : (State.enforceOutputs x0).supply = x0.supply :=
  same_of_blank (p := .supply) (State.enforceOutputs_in (m := only [.io, .evlog, .irq]) rfl rfl rfl x0) rfl
@[simp] theorem State.enforceOutputs_start (x0 : State) : (State.enforceOutputs x0).start = x0.start :=
  same_of_blank (p := .start) (State.enforceOutputs_in (m := only [.io, .evlog, .irq]) rfl rfl rfl x0) rfl
@[simp] theorem State.enforceOutputs_mode (x0 : State) : (State.enforceOutputs x0).mode = x0.mode :=
  same_of_blank (p := .mode) (State.enforceOutputs_in (m := only [.io, .evlog, .irq]) rfl rfl rfl x0) rfl
@[simp] theorem State.enforceOutputs_cores (x0 : State) : (State.enforceOutputs x0).cores = x0.cores :=
  same_of_blank (p := .cores) (State.enforceOutputs_in (m := only [.io, .evlog, .irq]) rfl rfl rfl x0) rfl
@[simp] theorem State.enforceOutputs_health (x0 : State) : (State.enforceOutputs x0).health = x0.health :=
  same_of_blank (p := .health) (State.enforceOutputs_in (m := only [.io, .evlog, .irq]) rfl rfl rfl x0) rfl
@[simp] theorem State.enforceOutputs_strs (x0 : State) : (State.enforceOutputs x0).strs = x0.strs :=
  same_of_blank (p := .strs) (State.enforceOutputs_in (m := only [.io, .evlog, .irq]) rfl rfl rfl x0) rfl
@[simp] theorem State.enforceOutputs_banks (x0 : State) : (State.enforceOutputs x0).banks = x0.banks :=
  same_of_blank (p := .banks) (State.enforceOutputs_in (m := only [.io, .evlog, .irq]) rfl rfl rfl x0) rfl
@[simp] theorem State.enforceOutputs_gates (x0 : State) : (State.enforceOutputs x0).gates = x0.gates :=
  same_of_blank (p := .gates) (State.enforceOutputs_in (m := only [.io, .evlog, .irq]) rfl rfl rfl x0) rfl
@[simp] theorem State.enforceOutputs_gateBlock (x0 : State) : (State.enforceOutputs x0).gateBlock = x0.gateBlock :=
  same_of_blank (p := .gateBlock) (State.enforceOutputs_in (m := only [.io, .evlog, .irq]) rfl rfl rfl x0) rfl
@[simp] theorem State.enforceOutputs_bstr (x0 : State) : (State.enforceOutputs x0).bstr = x0.bstr :=
  same_of_blank (p := .bstr) (State.enforceOutputs_in (m := only [.io, .evlog, .irq]) rfl rfl rfl x0) rfl
@[simp] theorem State.enforceOutputs_seng (x0 : State) : (State.enforceOutputs x0).seng = x0.seng :=
  same_of_blank (p := .seng) (State.enforceOutputs_in (m := only [.io, .evlog, .irq]) rfl rfl rfl x0) rfl
@[simp] theorem State.enforceOutputs_therm (x0 : State) : (State.enforceOutputs x0).therm = x0.therm :=
  same_of_blank (p := .therm) (State.enforceOutputs_in (m := only [.io, .evlog, .irq]) rfl rfl rfl x0) rfl
@[simp] theorem State.enforceOutputs_cans (x0 : State) : (State.enforceOutputs x0).cans = x0.cans :=
  same_of_blank (p := .cans) (State.enforceOutputs_in (m := only [.io, .evlog, .irq]) rfl rfl rfl x0) rfl
@[simp] theorem State.enforceOutputs_ropes (x0 : State) : (State.enforceOutputs x0).ropes = x0.ropes :=
  same_of_blank (p := .ropes) (State.enforceOutputs_in (m := only [.io, .evlog, .irq]) rfl rfl rfl x0) rfl
@[simp] theorem State.enforceOutputs_nodes (x0 : State) : (State.enforceOutputs x0).nodes = x0.nodes :=
  same_of_blank (p := .nodes) (State.enforceOutputs_in (m := only [.io, .evlog, .irq]) rfl rfl rfl x0) rfl
@[simp] theorem State.enforceOutputs_trav (x0 : State) : (State.enforceOutputs x0).trav = x0.trav :=
  same_of_blank (p := .trav) (State.enforceOutputs_in (m := only [.io, .evlog, .irq]) rfl rfl rfl x0) rfl
@[simp] theorem State.enforceOutputs_bal (x0 : State) : (State.enforceOutputs x0).bal = x0.bal :=
  same_of_blank (p := .bal) (State.enforceOutputs_in (m := only [.io, .evlog, .irq]) rfl rfl rfl x0) rfl
@[simp] theorem State.enforceOutputs_eths (x0 : State) : (State.enforceOutputs x0).eths = x0.eths :=
  same_of_blank (p := .eths) (State.enforceOutputs_in (m := only [.io, .evlog, .irq]) rfl rfl rfl x0) rfl
@[simp] theorem State.enforceOutputs_stream (x0 : State) : (State.enforceOutputs x0).stream = x0.stream :=
  same_of_blank (p := .stream) (State.enforceOutputs_in (m := only [.io, .evlog, .irq]) rfl rfl rfl x0) rfl
@[simp] theorem State.enforceOutputs_clock (x0 : State) : (State.enforceOutputs x0).clock = x0.clock :=
  same_of_blank (p := .clock) (State.enforceOutputs_in (m := only [.io, .evlog, .irq]) rfl rfl rfl x0) rfl
@[simp] theorem State.enforceOutputs_corr (x0 : State) : (State.enforceOutputs x0).corr = x0.corr :=
  same_of_blank (p := .corr) (State.enforceOutputs_in (m := only [.io, .evlog, .irq]) rfl rfl rfl x0) rfl
@[simp] theorem State.enforceOutputs_est (x0 : State) : (State.enforceOutputs x0).est = x0.est :=
  same_of_blank (p := .est) (State.enforceOutputs_in (m := only [.io, .evlog, .irq]) rfl rfl rfl x0) rfl
@[simp] theorem State.enforceOutputs_store (x0 : State) : (State.enforceOutputs x0).store = x0.store :=
  same_of_blank (p := .store) (State.enforceOutputs_in (m := only [.io, .evlog, .irq]) rfl rfl rfl x0) rfl
@[simp] theorem State.enforceOutputs_heldReq (x0 : State) : (State.enforceOutputs x0).heldReq = x0.heldReq :=
  same_of_blank (p := .heldReq) (State.enforceOutputs_in (m := only [.io, .evlog, .irq]) rfl rfl rfl x0) rfl
@[simp] theorem State.enforceOutputs_waitingWrites (x0 : State) : (State.enforceOutputs x0).waitingWrites = x0.waitingWrites :=
  same_of_blank (p := .waitingWrites) (State.enforceOutputs_in (m := only [.io, .evlog, .irq]) rfl rfl rfl x0) rfl
@[simp] theorem State.enforceOutputs_belay (x0 : State) : (State.enforceOutputs x0).belay = x0.belay :=
  belay_of_blank (State.enforceOutputs_in (m := only [.io, .evlog, .irq]) rfl rfl rfl x0) rfl rfl
@[simp] theorem State.enforceOutputs_dict (x0 : State) : (State.enforceOutputs x0).dict = x0.dict :=
  dict_of_blank (State.enforceOutputs_in (m := only [.io, .evlog, .irq]) rfl rfl rfl x0) rfl rfl

/-! ## `tripStr` -/

@[simp] theorem State.tripStr_now (x0 : State) x1 x2 : (State.tripStr x0 x1 x2).now = x0.now :=
  now_of_blank (State.tripStr_in (m := only [.strs, .evlog, .irq, .fc, .health, .gates, .dict, .banks, .mode, .io]) rfl rfl rfl rfl rfl rfl rfl rfl rfl rfl x0 x1 x2)
@[simp] theorem State.tripStr_pending (x0 : State) x1 x2 : (State.tripStr x0 x1 x2).pending = x0.pending :=
  pending_of_blank (State.tripStr_in (m := only [.strs, .evlog, .irq, .fc, .health, .gates, .dict, .banks, .mode, .io]) rfl rfl rfl rfl rfl rfl rfl rfl rfl rfl x0 x1 x2)
@[simp] theorem State.tripStr_serial (x0 : State) x1 x2 : (State.tripStr x0 x1 x2).serial = x0.serial :=
  serial_of_blank (State.tripStr_in (m := only [.strs, .evlog, .irq, .fc, .health, .gates, .dict, .banks, .mode, .io]) rfl rfl rfl rfl rfl rfl rfl rfl rfl rfl x0 x1 x2)
@[simp] theorem State.tripStr_free (x0 : State) x1 x2 : (State.tripStr x0 x1 x2).free = x0.free :=
  same_of_blank (p := .free) (State.tripStr_in (m := only [.strs, .evlog, .irq, .fc, .health, .gates, .dict, .banks, .mode, .io]) rfl rfl rfl rfl rfl rfl rfl rfl rfl rfl x0 x1 x2) rfl
@[simp] theorem State.tripStr_ident (x0 : State) x1 x2 : (State.tripStr x0 x1 x2).ident = x0.ident :=
  same_of_blank (p := .ident) (State.tripStr_in (m := only [.strs, .evlog, .irq, .fc, .health, .gates, .dict, .banks, .mode, .io]) rfl rfl rfl rfl rfl rfl rfl rfl rfl rfl x0 x1 x2) rfl
@[simp] theorem State.tripStr_utcBase (x0 : State) x1 x2 : (State.tripStr x0 x1 x2).utcBase = x0.utcBase :=
  same_of_blank (p := .utcBase) (State.tripStr_in (m := only [.strs, .evlog, .irq, .fc, .health, .gates, .dict, .banks, .mode, .io]) rfl rfl rfl rfl rfl rfl rfl rfl rfl rfl x0 x1 x2) rfl
@[simp] theorem State.tripStr_utcAt (x0 : State) x1 x2 : (State.tripStr x0 x1 x2).utcAt = x0.utcAt :=
  same_of_blank (p := .utcAt) (State.tripStr_in (m := only [.strs, .evlog, .irq, .fc, .health, .gates, .dict, .banks, .mode, .io]) rfl rfl rfl rfl rfl rfl rfl rfl rfl rfl x0 x1 x2) rfl
@[simp] theorem State.tripStr_supply (x0 : State) x1 x2 : (State.tripStr x0 x1 x2).supply = x0.supply :=
  same_of_blank (p := .supply) (State.tripStr_in (m := only [.strs, .evlog, .irq, .fc, .health, .gates, .dict, .banks, .mode, .io]) rfl rfl rfl rfl rfl rfl rfl rfl rfl rfl x0 x1 x2) rfl
@[simp] theorem State.tripStr_start (x0 : State) x1 x2 : (State.tripStr x0 x1 x2).start = x0.start :=
  same_of_blank (p := .start) (State.tripStr_in (m := only [.strs, .evlog, .irq, .fc, .health, .gates, .dict, .banks, .mode, .io]) rfl rfl rfl rfl rfl rfl rfl rfl rfl rfl x0 x1 x2) rfl
@[simp] theorem State.tripStr_cores (x0 : State) x1 x2 : (State.tripStr x0 x1 x2).cores = x0.cores :=
  same_of_blank (p := .cores) (State.tripStr_in (m := only [.strs, .evlog, .irq, .fc, .health, .gates, .dict, .banks, .mode, .io]) rfl rfl rfl rfl rfl rfl rfl rfl rfl rfl x0 x1 x2) rfl
@[simp] theorem State.tripStr_gateBlock (x0 : State) x1 x2 : (State.tripStr x0 x1 x2).gateBlock = x0.gateBlock :=
  same_of_blank (p := .gateBlock) (State.tripStr_in (m := only [.strs, .evlog, .irq, .fc, .health, .gates, .dict, .banks, .mode, .io]) rfl rfl rfl rfl rfl rfl rfl rfl rfl rfl x0 x1 x2) rfl
@[simp] theorem State.tripStr_bstr (x0 : State) x1 x2 : (State.tripStr x0 x1 x2).bstr = x0.bstr :=
  same_of_blank (p := .bstr) (State.tripStr_in (m := only [.strs, .evlog, .irq, .fc, .health, .gates, .dict, .banks, .mode, .io]) rfl rfl rfl rfl rfl rfl rfl rfl rfl rfl x0 x1 x2) rfl
@[simp] theorem State.tripStr_seng (x0 : State) x1 x2 : (State.tripStr x0 x1 x2).seng = x0.seng :=
  same_of_blank (p := .seng) (State.tripStr_in (m := only [.strs, .evlog, .irq, .fc, .health, .gates, .dict, .banks, .mode, .io]) rfl rfl rfl rfl rfl rfl rfl rfl rfl rfl x0 x1 x2) rfl
@[simp] theorem State.tripStr_therm (x0 : State) x1 x2 : (State.tripStr x0 x1 x2).therm = x0.therm :=
  same_of_blank (p := .therm) (State.tripStr_in (m := only [.strs, .evlog, .irq, .fc, .health, .gates, .dict, .banks, .mode, .io]) rfl rfl rfl rfl rfl rfl rfl rfl rfl rfl x0 x1 x2) rfl
@[simp] theorem State.tripStr_cans (x0 : State) x1 x2 : (State.tripStr x0 x1 x2).cans = x0.cans :=
  same_of_blank (p := .cans) (State.tripStr_in (m := only [.strs, .evlog, .irq, .fc, .health, .gates, .dict, .banks, .mode, .io]) rfl rfl rfl rfl rfl rfl rfl rfl rfl rfl x0 x1 x2) rfl
@[simp] theorem State.tripStr_ropes (x0 : State) x1 x2 : (State.tripStr x0 x1 x2).ropes = x0.ropes :=
  same_of_blank (p := .ropes) (State.tripStr_in (m := only [.strs, .evlog, .irq, .fc, .health, .gates, .dict, .banks, .mode, .io]) rfl rfl rfl rfl rfl rfl rfl rfl rfl rfl x0 x1 x2) rfl
@[simp] theorem State.tripStr_nodes (x0 : State) x1 x2 : (State.tripStr x0 x1 x2).nodes = x0.nodes :=
  same_of_blank (p := .nodes) (State.tripStr_in (m := only [.strs, .evlog, .irq, .fc, .health, .gates, .dict, .banks, .mode, .io]) rfl rfl rfl rfl rfl rfl rfl rfl rfl rfl x0 x1 x2) rfl
@[simp] theorem State.tripStr_trav (x0 : State) x1 x2 : (State.tripStr x0 x1 x2).trav = x0.trav :=
  same_of_blank (p := .trav) (State.tripStr_in (m := only [.strs, .evlog, .irq, .fc, .health, .gates, .dict, .banks, .mode, .io]) rfl rfl rfl rfl rfl rfl rfl rfl rfl rfl x0 x1 x2) rfl
@[simp] theorem State.tripStr_bal (x0 : State) x1 x2 : (State.tripStr x0 x1 x2).bal = x0.bal :=
  same_of_blank (p := .bal) (State.tripStr_in (m := only [.strs, .evlog, .irq, .fc, .health, .gates, .dict, .banks, .mode, .io]) rfl rfl rfl rfl rfl rfl rfl rfl rfl rfl x0 x1 x2) rfl
@[simp] theorem State.tripStr_eths (x0 : State) x1 x2 : (State.tripStr x0 x1 x2).eths = x0.eths :=
  same_of_blank (p := .eths) (State.tripStr_in (m := only [.strs, .evlog, .irq, .fc, .health, .gates, .dict, .banks, .mode, .io]) rfl rfl rfl rfl rfl rfl rfl rfl rfl rfl x0 x1 x2) rfl
@[simp] theorem State.tripStr_stream (x0 : State) x1 x2 : (State.tripStr x0 x1 x2).stream = x0.stream :=
  same_of_blank (p := .stream) (State.tripStr_in (m := only [.strs, .evlog, .irq, .fc, .health, .gates, .dict, .banks, .mode, .io]) rfl rfl rfl rfl rfl rfl rfl rfl rfl rfl x0 x1 x2) rfl
@[simp] theorem State.tripStr_clock (x0 : State) x1 x2 : (State.tripStr x0 x1 x2).clock = x0.clock :=
  same_of_blank (p := .clock) (State.tripStr_in (m := only [.strs, .evlog, .irq, .fc, .health, .gates, .dict, .banks, .mode, .io]) rfl rfl rfl rfl rfl rfl rfl rfl rfl rfl x0 x1 x2) rfl
@[simp] theorem State.tripStr_corr (x0 : State) x1 x2 : (State.tripStr x0 x1 x2).corr = x0.corr :=
  same_of_blank (p := .corr) (State.tripStr_in (m := only [.strs, .evlog, .irq, .fc, .health, .gates, .dict, .banks, .mode, .io]) rfl rfl rfl rfl rfl rfl rfl rfl rfl rfl x0 x1 x2) rfl
@[simp] theorem State.tripStr_est (x0 : State) x1 x2 : (State.tripStr x0 x1 x2).est = x0.est :=
  same_of_blank (p := .est) (State.tripStr_in (m := only [.strs, .evlog, .irq, .fc, .health, .gates, .dict, .banks, .mode, .io]) rfl rfl rfl rfl rfl rfl rfl rfl rfl rfl x0 x1 x2) rfl
@[simp] theorem State.tripStr_store (x0 : State) x1 x2 : (State.tripStr x0 x1 x2).store = x0.store :=
  same_of_blank (p := .store) (State.tripStr_in (m := only [.strs, .evlog, .irq, .fc, .health, .gates, .dict, .banks, .mode, .io]) rfl rfl rfl rfl rfl rfl rfl rfl rfl rfl x0 x1 x2) rfl
@[simp] theorem State.tripStr_heldReq (x0 : State) x1 x2 : (State.tripStr x0 x1 x2).heldReq = x0.heldReq :=
  same_of_blank (p := .heldReq) (State.tripStr_in (m := only [.strs, .evlog, .irq, .fc, .health, .gates, .dict, .banks, .mode, .io]) rfl rfl rfl rfl rfl rfl rfl rfl rfl rfl x0 x1 x2) rfl
@[simp] theorem State.tripStr_waitingWrites (x0 : State) x1 x2 : (State.tripStr x0 x1 x2).waitingWrites = x0.waitingWrites :=
  same_of_blank (p := .waitingWrites) (State.tripStr_in (m := only [.strs, .evlog, .irq, .fc, .health, .gates, .dict, .banks, .mode, .io]) rfl rfl rfl rfl rfl rfl rfl rfl rfl rfl x0 x1 x2) rfl
@[simp] theorem State.tripStr_belay (x0 : State) x1 x2 : (State.tripStr x0 x1 x2).belay = x0.belay :=
  belay_of_blank (State.tripStr_in (m := only [.strs, .evlog, .irq, .fc, .health, .gates, .dict, .banks, .mode, .io]) rfl rfl rfl rfl rfl rfl rfl rfl rfl rfl x0 x1 x2) rfl rfl
@[simp] theorem State.tripStr_values (x0 : State) x1 x2 : (State.tripStr x0 x1 x2).dict.vals = x0.dict.vals :=
  same_of_blank (p := .values) (State.tripStr_in (m := only [.strs, .evlog, .irq, .fc, .health, .gates, .dict, .banks, .mode, .io]) rfl rfl rfl rfl rfl rfl rfl rfl rfl rfl x0 x1 x2) rfl

/-! ## `setStr` -/

@[simp] theorem State.setStr_now (x0 : State) x1 x2 x3 : (State.setStr x0 x1 x2 x3).now = x0.now :=
  now_of_blank (State.setStr_in (m := only [.evlog, .irq, .strs]) rfl rfl rfl x0 x1 x2 x3)
@[simp] theorem State.setStr_pending (x0 : State) x1 x2 x3 : (State.setStr x0 x1 x2 x3).pending = x0.pending :=
  pending_of_blank (State.setStr_in (m := only [.evlog, .irq, .strs]) rfl rfl rfl x0 x1 x2 x3)
@[simp] theorem State.setStr_serial (x0 : State) x1 x2 x3 : (State.setStr x0 x1 x2 x3).serial = x0.serial :=
  serial_of_blank (State.setStr_in (m := only [.evlog, .irq, .strs]) rfl rfl rfl x0 x1 x2 x3)
@[simp] theorem State.setStr_free (x0 : State) x1 x2 x3 : (State.setStr x0 x1 x2 x3).free = x0.free :=
  same_of_blank (p := .free) (State.setStr_in (m := only [.evlog, .irq, .strs]) rfl rfl rfl x0 x1 x2 x3) rfl
@[simp] theorem State.setStr_ident (x0 : State) x1 x2 x3 : (State.setStr x0 x1 x2 x3).ident = x0.ident :=
  same_of_blank (p := .ident) (State.setStr_in (m := only [.evlog, .irq, .strs]) rfl rfl rfl x0 x1 x2 x3) rfl
@[simp] theorem State.setStr_utcBase (x0 : State) x1 x2 x3 : (State.setStr x0 x1 x2 x3).utcBase = x0.utcBase :=
  same_of_blank (p := .utcBase) (State.setStr_in (m := only [.evlog, .irq, .strs]) rfl rfl rfl x0 x1 x2 x3) rfl
@[simp] theorem State.setStr_utcAt (x0 : State) x1 x2 x3 : (State.setStr x0 x1 x2 x3).utcAt = x0.utcAt :=
  same_of_blank (p := .utcAt) (State.setStr_in (m := only [.evlog, .irq, .strs]) rfl rfl rfl x0 x1 x2 x3) rfl
@[simp] theorem State.setStr_fc (x0 : State) x1 x2 x3 : (State.setStr x0 x1 x2 x3).fc = x0.fc :=
  same_of_blank (p := .fc) (State.setStr_in (m := only [.evlog, .irq, .strs]) rfl rfl rfl x0 x1 x2 x3) rfl
@[simp] theorem State.setStr_supply (x0 : State) x1 x2 x3 : (State.setStr x0 x1 x2 x3).supply = x0.supply :=
  same_of_blank (p := .supply) (State.setStr_in (m := only [.evlog, .irq, .strs]) rfl rfl rfl x0 x1 x2 x3) rfl
@[simp] theorem State.setStr_start (x0 : State) x1 x2 x3 : (State.setStr x0 x1 x2 x3).start = x0.start :=
  same_of_blank (p := .start) (State.setStr_in (m := only [.evlog, .irq, .strs]) rfl rfl rfl x0 x1 x2 x3) rfl
@[simp] theorem State.setStr_mode (x0 : State) x1 x2 x3 : (State.setStr x0 x1 x2 x3).mode = x0.mode :=
  same_of_blank (p := .mode) (State.setStr_in (m := only [.evlog, .irq, .strs]) rfl rfl rfl x0 x1 x2 x3) rfl
@[simp] theorem State.setStr_cores (x0 : State) x1 x2 x3 : (State.setStr x0 x1 x2 x3).cores = x0.cores :=
  same_of_blank (p := .cores) (State.setStr_in (m := only [.evlog, .irq, .strs]) rfl rfl rfl x0 x1 x2 x3) rfl
@[simp] theorem State.setStr_health (x0 : State) x1 x2 x3 : (State.setStr x0 x1 x2 x3).health = x0.health :=
  same_of_blank (p := .health) (State.setStr_in (m := only [.evlog, .irq, .strs]) rfl rfl rfl x0 x1 x2 x3) rfl
@[simp] theorem State.setStr_banks (x0 : State) x1 x2 x3 : (State.setStr x0 x1 x2 x3).banks = x0.banks :=
  same_of_blank (p := .banks) (State.setStr_in (m := only [.evlog, .irq, .strs]) rfl rfl rfl x0 x1 x2 x3) rfl
@[simp] theorem State.setStr_gates (x0 : State) x1 x2 x3 : (State.setStr x0 x1 x2 x3).gates = x0.gates :=
  same_of_blank (p := .gates) (State.setStr_in (m := only [.evlog, .irq, .strs]) rfl rfl rfl x0 x1 x2 x3) rfl
@[simp] theorem State.setStr_gateBlock (x0 : State) x1 x2 x3 : (State.setStr x0 x1 x2 x3).gateBlock = x0.gateBlock :=
  same_of_blank (p := .gateBlock) (State.setStr_in (m := only [.evlog, .irq, .strs]) rfl rfl rfl x0 x1 x2 x3) rfl
@[simp] theorem State.setStr_bstr (x0 : State) x1 x2 x3 : (State.setStr x0 x1 x2 x3).bstr = x0.bstr :=
  same_of_blank (p := .bstr) (State.setStr_in (m := only [.evlog, .irq, .strs]) rfl rfl rfl x0 x1 x2 x3) rfl
@[simp] theorem State.setStr_io (x0 : State) x1 x2 x3 : (State.setStr x0 x1 x2 x3).io = x0.io :=
  same_of_blank (p := .io) (State.setStr_in (m := only [.evlog, .irq, .strs]) rfl rfl rfl x0 x1 x2 x3) rfl
@[simp] theorem State.setStr_seng (x0 : State) x1 x2 x3 : (State.setStr x0 x1 x2 x3).seng = x0.seng :=
  same_of_blank (p := .seng) (State.setStr_in (m := only [.evlog, .irq, .strs]) rfl rfl rfl x0 x1 x2 x3) rfl
@[simp] theorem State.setStr_therm (x0 : State) x1 x2 x3 : (State.setStr x0 x1 x2 x3).therm = x0.therm :=
  same_of_blank (p := .therm) (State.setStr_in (m := only [.evlog, .irq, .strs]) rfl rfl rfl x0 x1 x2 x3) rfl
@[simp] theorem State.setStr_cans (x0 : State) x1 x2 x3 : (State.setStr x0 x1 x2 x3).cans = x0.cans :=
  same_of_blank (p := .cans) (State.setStr_in (m := only [.evlog, .irq, .strs]) rfl rfl rfl x0 x1 x2 x3) rfl
@[simp] theorem State.setStr_ropes (x0 : State) x1 x2 x3 : (State.setStr x0 x1 x2 x3).ropes = x0.ropes :=
  same_of_blank (p := .ropes) (State.setStr_in (m := only [.evlog, .irq, .strs]) rfl rfl rfl x0 x1 x2 x3) rfl
@[simp] theorem State.setStr_nodes (x0 : State) x1 x2 x3 : (State.setStr x0 x1 x2 x3).nodes = x0.nodes :=
  same_of_blank (p := .nodes) (State.setStr_in (m := only [.evlog, .irq, .strs]) rfl rfl rfl x0 x1 x2 x3) rfl
@[simp] theorem State.setStr_trav (x0 : State) x1 x2 x3 : (State.setStr x0 x1 x2 x3).trav = x0.trav :=
  same_of_blank (p := .trav) (State.setStr_in (m := only [.evlog, .irq, .strs]) rfl rfl rfl x0 x1 x2 x3) rfl
@[simp] theorem State.setStr_bal (x0 : State) x1 x2 x3 : (State.setStr x0 x1 x2 x3).bal = x0.bal :=
  same_of_blank (p := .bal) (State.setStr_in (m := only [.evlog, .irq, .strs]) rfl rfl rfl x0 x1 x2 x3) rfl
@[simp] theorem State.setStr_eths (x0 : State) x1 x2 x3 : (State.setStr x0 x1 x2 x3).eths = x0.eths :=
  same_of_blank (p := .eths) (State.setStr_in (m := only [.evlog, .irq, .strs]) rfl rfl rfl x0 x1 x2 x3) rfl
@[simp] theorem State.setStr_stream (x0 : State) x1 x2 x3 : (State.setStr x0 x1 x2 x3).stream = x0.stream :=
  same_of_blank (p := .stream) (State.setStr_in (m := only [.evlog, .irq, .strs]) rfl rfl rfl x0 x1 x2 x3) rfl
@[simp] theorem State.setStr_clock (x0 : State) x1 x2 x3 : (State.setStr x0 x1 x2 x3).clock = x0.clock :=
  same_of_blank (p := .clock) (State.setStr_in (m := only [.evlog, .irq, .strs]) rfl rfl rfl x0 x1 x2 x3) rfl
@[simp] theorem State.setStr_corr (x0 : State) x1 x2 x3 : (State.setStr x0 x1 x2 x3).corr = x0.corr :=
  same_of_blank (p := .corr) (State.setStr_in (m := only [.evlog, .irq, .strs]) rfl rfl rfl x0 x1 x2 x3) rfl
@[simp] theorem State.setStr_est (x0 : State) x1 x2 x3 : (State.setStr x0 x1 x2 x3).est = x0.est :=
  same_of_blank (p := .est) (State.setStr_in (m := only [.evlog, .irq, .strs]) rfl rfl rfl x0 x1 x2 x3) rfl
@[simp] theorem State.setStr_store (x0 : State) x1 x2 x3 : (State.setStr x0 x1 x2 x3).store = x0.store :=
  same_of_blank (p := .store) (State.setStr_in (m := only [.evlog, .irq, .strs]) rfl rfl rfl x0 x1 x2 x3) rfl
@[simp] theorem State.setStr_heldReq (x0 : State) x1 x2 x3 : (State.setStr x0 x1 x2 x3).heldReq = x0.heldReq :=
  same_of_blank (p := .heldReq) (State.setStr_in (m := only [.evlog, .irq, .strs]) rfl rfl rfl x0 x1 x2 x3) rfl
@[simp] theorem State.setStr_waitingWrites (x0 : State) x1 x2 x3 : (State.setStr x0 x1 x2 x3).waitingWrites = x0.waitingWrites :=
  same_of_blank (p := .waitingWrites) (State.setStr_in (m := only [.evlog, .irq, .strs]) rfl rfl rfl x0 x1 x2 x3) rfl
@[simp] theorem State.setStr_belay (x0 : State) x1 x2 x3 : (State.setStr x0 x1 x2 x3).belay = x0.belay :=
  belay_of_blank (State.setStr_in (m := only [.evlog, .irq, .strs]) rfl rfl rfl x0 x1 x2 x3) rfl rfl
@[simp] theorem State.setStr_dict (x0 : State) x1 x2 x3 : (State.setStr x0 x1 x2 x3).dict = x0.dict :=
  dict_of_blank (State.setStr_in (m := only [.evlog, .irq, .strs]) rfl rfl rfl x0 x1 x2 x3) rfl rfl

/-! ## `storeCfg` -/

@[simp] theorem State.storeCfg_now (x0 : State) : (State.storeCfg x0).now = x0.now :=
  now_of_blank (State.storeCfg_in (m := only [.dict, .irq]) rfl rfl x0)
@[simp] theorem State.storeCfg_pending (x0 : State) : (State.storeCfg x0).pending = x0.pending :=
  pending_of_blank (State.storeCfg_in (m := only [.dict, .irq]) rfl rfl x0)
@[simp] theorem State.storeCfg_serial (x0 : State) : (State.storeCfg x0).serial = x0.serial :=
  serial_of_blank (State.storeCfg_in (m := only [.dict, .irq]) rfl rfl x0)
@[simp] theorem State.storeCfg_free (x0 : State) : (State.storeCfg x0).free = x0.free :=
  same_of_blank (p := .free) (State.storeCfg_in (m := only [.dict, .irq]) rfl rfl x0) rfl
@[simp] theorem State.storeCfg_ident (x0 : State) : (State.storeCfg x0).ident = x0.ident :=
  same_of_blank (p := .ident) (State.storeCfg_in (m := only [.dict, .irq]) rfl rfl x0) rfl
@[simp] theorem State.storeCfg_utcBase (x0 : State) : (State.storeCfg x0).utcBase = x0.utcBase :=
  same_of_blank (p := .utcBase) (State.storeCfg_in (m := only [.dict, .irq]) rfl rfl x0) rfl
@[simp] theorem State.storeCfg_utcAt (x0 : State) : (State.storeCfg x0).utcAt = x0.utcAt :=
  same_of_blank (p := .utcAt) (State.storeCfg_in (m := only [.dict, .irq]) rfl rfl x0) rfl
@[simp] theorem State.storeCfg_evlog (x0 : State) : (State.storeCfg x0).evlog = x0.evlog :=
  same_of_blank (p := .evlog) (State.storeCfg_in (m := only [.dict, .irq]) rfl rfl x0) rfl
@[simp] theorem State.storeCfg_fc (x0 : State) : (State.storeCfg x0).fc = x0.fc :=
  same_of_blank (p := .fc) (State.storeCfg_in (m := only [.dict, .irq]) rfl rfl x0) rfl
@[simp] theorem State.storeCfg_supply (x0 : State) : (State.storeCfg x0).supply = x0.supply :=
  same_of_blank (p := .supply) (State.storeCfg_in (m := only [.dict, .irq]) rfl rfl x0) rfl
@[simp] theorem State.storeCfg_start (x0 : State) : (State.storeCfg x0).start = x0.start :=
  same_of_blank (p := .start) (State.storeCfg_in (m := only [.dict, .irq]) rfl rfl x0) rfl
@[simp] theorem State.storeCfg_mode (x0 : State) : (State.storeCfg x0).mode = x0.mode :=
  same_of_blank (p := .mode) (State.storeCfg_in (m := only [.dict, .irq]) rfl rfl x0) rfl
@[simp] theorem State.storeCfg_cores (x0 : State) : (State.storeCfg x0).cores = x0.cores :=
  same_of_blank (p := .cores) (State.storeCfg_in (m := only [.dict, .irq]) rfl rfl x0) rfl
@[simp] theorem State.storeCfg_health (x0 : State) : (State.storeCfg x0).health = x0.health :=
  same_of_blank (p := .health) (State.storeCfg_in (m := only [.dict, .irq]) rfl rfl x0) rfl
@[simp] theorem State.storeCfg_strs (x0 : State) : (State.storeCfg x0).strs = x0.strs :=
  same_of_blank (p := .strs) (State.storeCfg_in (m := only [.dict, .irq]) rfl rfl x0) rfl
@[simp] theorem State.storeCfg_banks (x0 : State) : (State.storeCfg x0).banks = x0.banks :=
  same_of_blank (p := .banks) (State.storeCfg_in (m := only [.dict, .irq]) rfl rfl x0) rfl
@[simp] theorem State.storeCfg_gates (x0 : State) : (State.storeCfg x0).gates = x0.gates :=
  same_of_blank (p := .gates) (State.storeCfg_in (m := only [.dict, .irq]) rfl rfl x0) rfl
@[simp] theorem State.storeCfg_gateBlock (x0 : State) : (State.storeCfg x0).gateBlock = x0.gateBlock :=
  same_of_blank (p := .gateBlock) (State.storeCfg_in (m := only [.dict, .irq]) rfl rfl x0) rfl
@[simp] theorem State.storeCfg_bstr (x0 : State) : (State.storeCfg x0).bstr = x0.bstr :=
  same_of_blank (p := .bstr) (State.storeCfg_in (m := only [.dict, .irq]) rfl rfl x0) rfl
@[simp] theorem State.storeCfg_io (x0 : State) : (State.storeCfg x0).io = x0.io :=
  same_of_blank (p := .io) (State.storeCfg_in (m := only [.dict, .irq]) rfl rfl x0) rfl
@[simp] theorem State.storeCfg_seng (x0 : State) : (State.storeCfg x0).seng = x0.seng :=
  same_of_blank (p := .seng) (State.storeCfg_in (m := only [.dict, .irq]) rfl rfl x0) rfl
@[simp] theorem State.storeCfg_therm (x0 : State) : (State.storeCfg x0).therm = x0.therm :=
  same_of_blank (p := .therm) (State.storeCfg_in (m := only [.dict, .irq]) rfl rfl x0) rfl
@[simp] theorem State.storeCfg_cans (x0 : State) : (State.storeCfg x0).cans = x0.cans :=
  same_of_blank (p := .cans) (State.storeCfg_in (m := only [.dict, .irq]) rfl rfl x0) rfl
@[simp] theorem State.storeCfg_ropes (x0 : State) : (State.storeCfg x0).ropes = x0.ropes :=
  same_of_blank (p := .ropes) (State.storeCfg_in (m := only [.dict, .irq]) rfl rfl x0) rfl
@[simp] theorem State.storeCfg_nodes (x0 : State) : (State.storeCfg x0).nodes = x0.nodes :=
  same_of_blank (p := .nodes) (State.storeCfg_in (m := only [.dict, .irq]) rfl rfl x0) rfl
@[simp] theorem State.storeCfg_trav (x0 : State) : (State.storeCfg x0).trav = x0.trav :=
  same_of_blank (p := .trav) (State.storeCfg_in (m := only [.dict, .irq]) rfl rfl x0) rfl
@[simp] theorem State.storeCfg_bal (x0 : State) : (State.storeCfg x0).bal = x0.bal :=
  same_of_blank (p := .bal) (State.storeCfg_in (m := only [.dict, .irq]) rfl rfl x0) rfl
@[simp] theorem State.storeCfg_eths (x0 : State) : (State.storeCfg x0).eths = x0.eths :=
  same_of_blank (p := .eths) (State.storeCfg_in (m := only [.dict, .irq]) rfl rfl x0) rfl
@[simp] theorem State.storeCfg_stream (x0 : State) : (State.storeCfg x0).stream = x0.stream :=
  same_of_blank (p := .stream) (State.storeCfg_in (m := only [.dict, .irq]) rfl rfl x0) rfl
@[simp] theorem State.storeCfg_clock (x0 : State) : (State.storeCfg x0).clock = x0.clock :=
  same_of_blank (p := .clock) (State.storeCfg_in (m := only [.dict, .irq]) rfl rfl x0) rfl
@[simp] theorem State.storeCfg_corr (x0 : State) : (State.storeCfg x0).corr = x0.corr :=
  same_of_blank (p := .corr) (State.storeCfg_in (m := only [.dict, .irq]) rfl rfl x0) rfl
@[simp] theorem State.storeCfg_est (x0 : State) : (State.storeCfg x0).est = x0.est :=
  same_of_blank (p := .est) (State.storeCfg_in (m := only [.dict, .irq]) rfl rfl x0) rfl
@[simp] theorem State.storeCfg_store (x0 : State) : (State.storeCfg x0).store = x0.store :=
  same_of_blank (p := .store) (State.storeCfg_in (m := only [.dict, .irq]) rfl rfl x0) rfl
@[simp] theorem State.storeCfg_heldReq (x0 : State) : (State.storeCfg x0).heldReq = x0.heldReq :=
  same_of_blank (p := .heldReq) (State.storeCfg_in (m := only [.dict, .irq]) rfl rfl x0) rfl
@[simp] theorem State.storeCfg_waitingWrites (x0 : State) : (State.storeCfg x0).waitingWrites = x0.waitingWrites :=
  same_of_blank (p := .waitingWrites) (State.storeCfg_in (m := only [.dict, .irq]) rfl rfl x0) rfl
@[simp] theorem State.storeCfg_belay (x0 : State) : (State.storeCfg x0).belay = x0.belay :=
  belay_of_blank (State.storeCfg_in (m := only [.dict, .irq]) rfl rfl x0) rfl rfl
@[simp] theorem State.storeCfg_values (x0 : State) : (State.storeCfg x0).dict.vals = x0.dict.vals :=
  same_of_blank (p := .values) (State.storeCfg_in (m := only [.dict, .irq]) rfl rfl x0) rfl

/-! ## `canEvent` -/

@[simp] theorem State.canEvent_now (x0 : State) x1 x2 x3 x4 : (State.canEvent x0 x1 x2 x3 x4).now = x0.now :=
  now_of_blank (State.canEvent_in (m := only [.evlog, .irq]) rfl rfl x0 x1 x2 x3 x4)
@[simp] theorem State.canEvent_pending (x0 : State) x1 x2 x3 x4 : (State.canEvent x0 x1 x2 x3 x4).pending = x0.pending :=
  pending_of_blank (State.canEvent_in (m := only [.evlog, .irq]) rfl rfl x0 x1 x2 x3 x4)
@[simp] theorem State.canEvent_serial (x0 : State) x1 x2 x3 x4 : (State.canEvent x0 x1 x2 x3 x4).serial = x0.serial :=
  serial_of_blank (State.canEvent_in (m := only [.evlog, .irq]) rfl rfl x0 x1 x2 x3 x4)
@[simp] theorem State.canEvent_free (x0 : State) x1 x2 x3 x4 : (State.canEvent x0 x1 x2 x3 x4).free = x0.free :=
  same_of_blank (p := .free) (State.canEvent_in (m := only [.evlog, .irq]) rfl rfl x0 x1 x2 x3 x4) rfl
@[simp] theorem State.canEvent_ident (x0 : State) x1 x2 x3 x4 : (State.canEvent x0 x1 x2 x3 x4).ident = x0.ident :=
  same_of_blank (p := .ident) (State.canEvent_in (m := only [.evlog, .irq]) rfl rfl x0 x1 x2 x3 x4) rfl
@[simp] theorem State.canEvent_utcBase (x0 : State) x1 x2 x3 x4 : (State.canEvent x0 x1 x2 x3 x4).utcBase = x0.utcBase :=
  same_of_blank (p := .utcBase) (State.canEvent_in (m := only [.evlog, .irq]) rfl rfl x0 x1 x2 x3 x4) rfl
@[simp] theorem State.canEvent_utcAt (x0 : State) x1 x2 x3 x4 : (State.canEvent x0 x1 x2 x3 x4).utcAt = x0.utcAt :=
  same_of_blank (p := .utcAt) (State.canEvent_in (m := only [.evlog, .irq]) rfl rfl x0 x1 x2 x3 x4) rfl
@[simp] theorem State.canEvent_fc (x0 : State) x1 x2 x3 x4 : (State.canEvent x0 x1 x2 x3 x4).fc = x0.fc :=
  same_of_blank (p := .fc) (State.canEvent_in (m := only [.evlog, .irq]) rfl rfl x0 x1 x2 x3 x4) rfl
@[simp] theorem State.canEvent_supply (x0 : State) x1 x2 x3 x4 : (State.canEvent x0 x1 x2 x3 x4).supply = x0.supply :=
  same_of_blank (p := .supply) (State.canEvent_in (m := only [.evlog, .irq]) rfl rfl x0 x1 x2 x3 x4) rfl
@[simp] theorem State.canEvent_start (x0 : State) x1 x2 x3 x4 : (State.canEvent x0 x1 x2 x3 x4).start = x0.start :=
  same_of_blank (p := .start) (State.canEvent_in (m := only [.evlog, .irq]) rfl rfl x0 x1 x2 x3 x4) rfl
@[simp] theorem State.canEvent_mode (x0 : State) x1 x2 x3 x4 : (State.canEvent x0 x1 x2 x3 x4).mode = x0.mode :=
  same_of_blank (p := .mode) (State.canEvent_in (m := only [.evlog, .irq]) rfl rfl x0 x1 x2 x3 x4) rfl
@[simp] theorem State.canEvent_cores (x0 : State) x1 x2 x3 x4 : (State.canEvent x0 x1 x2 x3 x4).cores = x0.cores :=
  same_of_blank (p := .cores) (State.canEvent_in (m := only [.evlog, .irq]) rfl rfl x0 x1 x2 x3 x4) rfl
@[simp] theorem State.canEvent_health (x0 : State) x1 x2 x3 x4 : (State.canEvent x0 x1 x2 x3 x4).health = x0.health :=
  same_of_blank (p := .health) (State.canEvent_in (m := only [.evlog, .irq]) rfl rfl x0 x1 x2 x3 x4) rfl
@[simp] theorem State.canEvent_strs (x0 : State) x1 x2 x3 x4 : (State.canEvent x0 x1 x2 x3 x4).strs = x0.strs :=
  same_of_blank (p := .strs) (State.canEvent_in (m := only [.evlog, .irq]) rfl rfl x0 x1 x2 x3 x4) rfl
@[simp] theorem State.canEvent_banks (x0 : State) x1 x2 x3 x4 : (State.canEvent x0 x1 x2 x3 x4).banks = x0.banks :=
  same_of_blank (p := .banks) (State.canEvent_in (m := only [.evlog, .irq]) rfl rfl x0 x1 x2 x3 x4) rfl
@[simp] theorem State.canEvent_gates (x0 : State) x1 x2 x3 x4 : (State.canEvent x0 x1 x2 x3 x4).gates = x0.gates :=
  same_of_blank (p := .gates) (State.canEvent_in (m := only [.evlog, .irq]) rfl rfl x0 x1 x2 x3 x4) rfl
@[simp] theorem State.canEvent_gateBlock (x0 : State) x1 x2 x3 x4 : (State.canEvent x0 x1 x2 x3 x4).gateBlock = x0.gateBlock :=
  same_of_blank (p := .gateBlock) (State.canEvent_in (m := only [.evlog, .irq]) rfl rfl x0 x1 x2 x3 x4) rfl
@[simp] theorem State.canEvent_bstr (x0 : State) x1 x2 x3 x4 : (State.canEvent x0 x1 x2 x3 x4).bstr = x0.bstr :=
  same_of_blank (p := .bstr) (State.canEvent_in (m := only [.evlog, .irq]) rfl rfl x0 x1 x2 x3 x4) rfl
@[simp] theorem State.canEvent_io (x0 : State) x1 x2 x3 x4 : (State.canEvent x0 x1 x2 x3 x4).io = x0.io :=
  same_of_blank (p := .io) (State.canEvent_in (m := only [.evlog, .irq]) rfl rfl x0 x1 x2 x3 x4) rfl
@[simp] theorem State.canEvent_seng (x0 : State) x1 x2 x3 x4 : (State.canEvent x0 x1 x2 x3 x4).seng = x0.seng :=
  same_of_blank (p := .seng) (State.canEvent_in (m := only [.evlog, .irq]) rfl rfl x0 x1 x2 x3 x4) rfl
@[simp] theorem State.canEvent_therm (x0 : State) x1 x2 x3 x4 : (State.canEvent x0 x1 x2 x3 x4).therm = x0.therm :=
  same_of_blank (p := .therm) (State.canEvent_in (m := only [.evlog, .irq]) rfl rfl x0 x1 x2 x3 x4) rfl
@[simp] theorem State.canEvent_cans (x0 : State) x1 x2 x3 x4 : (State.canEvent x0 x1 x2 x3 x4).cans = x0.cans :=
  same_of_blank (p := .cans) (State.canEvent_in (m := only [.evlog, .irq]) rfl rfl x0 x1 x2 x3 x4) rfl
@[simp] theorem State.canEvent_ropes (x0 : State) x1 x2 x3 x4 : (State.canEvent x0 x1 x2 x3 x4).ropes = x0.ropes :=
  same_of_blank (p := .ropes) (State.canEvent_in (m := only [.evlog, .irq]) rfl rfl x0 x1 x2 x3 x4) rfl
@[simp] theorem State.canEvent_nodes (x0 : State) x1 x2 x3 x4 : (State.canEvent x0 x1 x2 x3 x4).nodes = x0.nodes :=
  same_of_blank (p := .nodes) (State.canEvent_in (m := only [.evlog, .irq]) rfl rfl x0 x1 x2 x3 x4) rfl
@[simp] theorem State.canEvent_trav (x0 : State) x1 x2 x3 x4 : (State.canEvent x0 x1 x2 x3 x4).trav = x0.trav :=
  same_of_blank (p := .trav) (State.canEvent_in (m := only [.evlog, .irq]) rfl rfl x0 x1 x2 x3 x4) rfl
@[simp] theorem State.canEvent_bal (x0 : State) x1 x2 x3 x4 : (State.canEvent x0 x1 x2 x3 x4).bal = x0.bal :=
  same_of_blank (p := .bal) (State.canEvent_in (m := only [.evlog, .irq]) rfl rfl x0 x1 x2 x3 x4) rfl
@[simp] theorem State.canEvent_eths (x0 : State) x1 x2 x3 x4 : (State.canEvent x0 x1 x2 x3 x4).eths = x0.eths :=
  same_of_blank (p := .eths) (State.canEvent_in (m := only [.evlog, .irq]) rfl rfl x0 x1 x2 x3 x4) rfl
@[simp] theorem State.canEvent_stream (x0 : State) x1 x2 x3 x4 : (State.canEvent x0 x1 x2 x3 x4).stream = x0.stream :=
  same_of_blank (p := .stream) (State.canEvent_in (m := only [.evlog, .irq]) rfl rfl x0 x1 x2 x3 x4) rfl
@[simp] theorem State.canEvent_clock (x0 : State) x1 x2 x3 x4 : (State.canEvent x0 x1 x2 x3 x4).clock = x0.clock :=
  same_of_blank (p := .clock) (State.canEvent_in (m := only [.evlog, .irq]) rfl rfl x0 x1 x2 x3 x4) rfl
@[simp] theorem State.canEvent_corr (x0 : State) x1 x2 x3 x4 : (State.canEvent x0 x1 x2 x3 x4).corr = x0.corr :=
  same_of_blank (p := .corr) (State.canEvent_in (m := only [.evlog, .irq]) rfl rfl x0 x1 x2 x3 x4) rfl
@[simp] theorem State.canEvent_est (x0 : State) x1 x2 x3 x4 : (State.canEvent x0 x1 x2 x3 x4).est = x0.est :=
  same_of_blank (p := .est) (State.canEvent_in (m := only [.evlog, .irq]) rfl rfl x0 x1 x2 x3 x4) rfl
@[simp] theorem State.canEvent_store (x0 : State) x1 x2 x3 x4 : (State.canEvent x0 x1 x2 x3 x4).store = x0.store :=
  same_of_blank (p := .store) (State.canEvent_in (m := only [.evlog, .irq]) rfl rfl x0 x1 x2 x3 x4) rfl
@[simp] theorem State.canEvent_heldReq (x0 : State) x1 x2 x3 x4 : (State.canEvent x0 x1 x2 x3 x4).heldReq = x0.heldReq :=
  same_of_blank (p := .heldReq) (State.canEvent_in (m := only [.evlog, .irq]) rfl rfl x0 x1 x2 x3 x4) rfl
@[simp] theorem State.canEvent_waitingWrites (x0 : State) x1 x2 x3 x4 : (State.canEvent x0 x1 x2 x3 x4).waitingWrites = x0.waitingWrites :=
  same_of_blank (p := .waitingWrites) (State.canEvent_in (m := only [.evlog, .irq]) rfl rfl x0 x1 x2 x3 x4) rfl
@[simp] theorem State.canEvent_belay (x0 : State) x1 x2 x3 x4 : (State.canEvent x0 x1 x2 x3 x4).belay = x0.belay :=
  belay_of_blank (State.canEvent_in (m := only [.evlog, .irq]) rfl rfl x0 x1 x2 x3 x4) rfl rfl
@[simp] theorem State.canEvent_dict (x0 : State) x1 x2 x3 x4 : (State.canEvent x0 x1 x2 x3 x4).dict = x0.dict :=
  dict_of_blank (State.canEvent_in (m := only [.evlog, .irq]) rfl rfl x0 x1 x2 x3 x4) rfl rfl

/-! ## `answerSealed` -/

@[simp] theorem State.answerSealed_now (x0 : State) x1 : (State.answerSealed x0 x1).now = x0.now :=
  now_of_blank (State.answerSealed_in (m := only [.evlog, .irq, .seng, .dict, .eths, .cans]) rfl rfl rfl rfl rfl rfl x0 x1)
@[simp] theorem State.answerSealed_pending (x0 : State) x1 : (State.answerSealed x0 x1).pending = x0.pending :=
  pending_of_blank (State.answerSealed_in (m := only [.evlog, .irq, .seng, .dict, .eths, .cans]) rfl rfl rfl rfl rfl rfl x0 x1)
@[simp] theorem State.answerSealed_serial (x0 : State) x1 : (State.answerSealed x0 x1).serial = x0.serial :=
  serial_of_blank (State.answerSealed_in (m := only [.evlog, .irq, .seng, .dict, .eths, .cans]) rfl rfl rfl rfl rfl rfl x0 x1)
@[simp] theorem State.answerSealed_free (x0 : State) x1 : (State.answerSealed x0 x1).free = x0.free :=
  same_of_blank (p := .free) (State.answerSealed_in (m := only [.evlog, .irq, .seng, .dict, .eths, .cans]) rfl rfl rfl rfl rfl rfl x0 x1) rfl
@[simp] theorem State.answerSealed_ident (x0 : State) x1 : (State.answerSealed x0 x1).ident = x0.ident :=
  same_of_blank (p := .ident) (State.answerSealed_in (m := only [.evlog, .irq, .seng, .dict, .eths, .cans]) rfl rfl rfl rfl rfl rfl x0 x1) rfl
@[simp] theorem State.answerSealed_utcBase (x0 : State) x1 : (State.answerSealed x0 x1).utcBase = x0.utcBase :=
  same_of_blank (p := .utcBase) (State.answerSealed_in (m := only [.evlog, .irq, .seng, .dict, .eths, .cans]) rfl rfl rfl rfl rfl rfl x0 x1) rfl
@[simp] theorem State.answerSealed_utcAt (x0 : State) x1 : (State.answerSealed x0 x1).utcAt = x0.utcAt :=
  same_of_blank (p := .utcAt) (State.answerSealed_in (m := only [.evlog, .irq, .seng, .dict, .eths, .cans]) rfl rfl rfl rfl rfl rfl x0 x1) rfl
@[simp] theorem State.answerSealed_fc (x0 : State) x1 : (State.answerSealed x0 x1).fc = x0.fc :=
  same_of_blank (p := .fc) (State.answerSealed_in (m := only [.evlog, .irq, .seng, .dict, .eths, .cans]) rfl rfl rfl rfl rfl rfl x0 x1) rfl
@[simp] theorem State.answerSealed_supply (x0 : State) x1 : (State.answerSealed x0 x1).supply = x0.supply :=
  same_of_blank (p := .supply) (State.answerSealed_in (m := only [.evlog, .irq, .seng, .dict, .eths, .cans]) rfl rfl rfl rfl rfl rfl x0 x1) rfl
@[simp] theorem State.answerSealed_start (x0 : State) x1 : (State.answerSealed x0 x1).start = x0.start :=
  same_of_blank (p := .start) (State.answerSealed_in (m := only [.evlog, .irq, .seng, .dict, .eths, .cans]) rfl rfl rfl rfl rfl rfl x0 x1) rfl
@[simp] theorem State.answerSealed_mode (x0 : State) x1 : (State.answerSealed x0 x1).mode = x0.mode :=
  same_of_blank (p := .mode) (State.answerSealed_in (m := only [.evlog, .irq, .seng, .dict, .eths, .cans]) rfl rfl rfl rfl rfl rfl x0 x1) rfl
@[simp] theorem State.answerSealed_cores (x0 : State) x1 : (State.answerSealed x0 x1).cores = x0.cores :=
  same_of_blank (p := .cores) (State.answerSealed_in (m := only [.evlog, .irq, .seng, .dict, .eths, .cans]) rfl rfl rfl rfl rfl rfl x0 x1) rfl
@[simp] theorem State.answerSealed_health (x0 : State) x1 : (State.answerSealed x0 x1).health = x0.health :=
  same_of_blank (p := .health) (State.answerSealed_in (m := only [.evlog, .irq, .seng, .dict, .eths, .cans]) rfl rfl rfl rfl rfl rfl x0 x1) rfl
@[simp] theorem State.answerSealed_strs (x0 : State) x1 : (State.answerSealed x0 x1).strs = x0.strs :=
  same_of_blank (p := .strs) (State.answerSealed_in (m := only [.evlog, .irq, .seng, .dict, .eths, .cans]) rfl rfl rfl rfl rfl rfl x0 x1) rfl
@[simp] theorem State.answerSealed_banks (x0 : State) x1 : (State.answerSealed x0 x1).banks = x0.banks :=
  same_of_blank (p := .banks) (State.answerSealed_in (m := only [.evlog, .irq, .seng, .dict, .eths, .cans]) rfl rfl rfl rfl rfl rfl x0 x1) rfl
@[simp] theorem State.answerSealed_gates (x0 : State) x1 : (State.answerSealed x0 x1).gates = x0.gates :=
  same_of_blank (p := .gates) (State.answerSealed_in (m := only [.evlog, .irq, .seng, .dict, .eths, .cans]) rfl rfl rfl rfl rfl rfl x0 x1) rfl
@[simp] theorem State.answerSealed_gateBlock (x0 : State) x1 : (State.answerSealed x0 x1).gateBlock = x0.gateBlock :=
  same_of_blank (p := .gateBlock) (State.answerSealed_in (m := only [.evlog, .irq, .seng, .dict, .eths, .cans]) rfl rfl rfl rfl rfl rfl x0 x1) rfl
@[simp] theorem State.answerSealed_bstr (x0 : State) x1 : (State.answerSealed x0 x1).bstr = x0.bstr :=
  same_of_blank (p := .bstr) (State.answerSealed_in (m := only [.evlog, .irq, .seng, .dict, .eths, .cans]) rfl rfl rfl rfl rfl rfl x0 x1) rfl
@[simp] theorem State.answerSealed_io (x0 : State) x1 : (State.answerSealed x0 x1).io = x0.io :=
  same_of_blank (p := .io) (State.answerSealed_in (m := only [.evlog, .irq, .seng, .dict, .eths, .cans]) rfl rfl rfl rfl rfl rfl x0 x1) rfl
@[simp] theorem State.answerSealed_therm (x0 : State) x1 : (State.answerSealed x0 x1).therm = x0.therm :=
  same_of_blank (p := .therm) (State.answerSealed_in (m := only [.evlog, .irq, .seng, .dict, .eths, .cans]) rfl rfl rfl rfl rfl rfl x0 x1) rfl
@[simp] theorem State.answerSealed_ropes (x0 : State) x1 : (State.answerSealed x0 x1).ropes = x0.ropes :=
  same_of_blank (p := .ropes) (State.answerSealed_in (m := only [.evlog, .irq, .seng, .dict, .eths, .cans]) rfl rfl rfl rfl rfl rfl x0 x1) rfl
@[simp] theorem State.answerSealed_nodes (x0 : State) x1 : (State.answerSealed x0 x1).nodes = x0.nodes :=
  same_of_blank (p := .nodes) (State.answerSealed_in (m := only [.evlog, .irq, .seng, .dict, .eths, .cans]) rfl rfl rfl rfl rfl rfl x0 x1) rfl
@[simp] theorem State.answerSealed_trav (x0 : State) x1 : (State.answerSealed x0 x1).trav = x0.trav :=
  same_of_blank (p := .trav) (State.answerSealed_in (m := only [.evlog, .irq, .seng, .dict, .eths, .cans]) rfl rfl rfl rfl rfl rfl x0 x1) rfl
@[simp] theorem State.answerSealed_bal (x0 : State) x1 : (State.answerSealed x0 x1).bal = x0.bal :=
  same_of_blank (p := .bal) (State.answerSealed_in (m := only [.evlog, .irq, .seng, .dict, .eths, .cans]) rfl rfl rfl rfl rfl rfl x0 x1) rfl
@[simp] theorem State.answerSealed_stream (x0 : State) x1 : (State.answerSealed x0 x1).stream = x0.stream :=
  same_of_blank (p := .stream) (State.answerSealed_in (m := only [.evlog, .irq, .seng, .dict, .eths, .cans]) rfl rfl rfl rfl rfl rfl x0 x1) rfl
@[simp] theorem State.answerSealed_clock (x0 : State) x1 : (State.answerSealed x0 x1).clock = x0.clock :=
  same_of_blank (p := .clock) (State.answerSealed_in (m := only [.evlog, .irq, .seng, .dict, .eths, .cans]) rfl rfl rfl rfl rfl rfl x0 x1) rfl
@[simp] theorem State.answerSealed_corr (x0 : State) x1 : (State.answerSealed x0 x1).corr = x0.corr :=
  same_of_blank (p := .corr) (State.answerSealed_in (m := only [.evlog, .irq, .seng, .dict, .eths, .cans]) rfl rfl rfl rfl rfl rfl x0 x1) rfl
@[simp] theorem State.answerSealed_est (x0 : State) x1 : (State.answerSealed x0 x1).est = x0.est :=
  same_of_blank (p := .est) (State.answerSealed_in (m := only [.evlog, .irq, .seng, .dict, .eths, .cans]) rfl rfl rfl rfl rfl rfl x0 x1) rfl
@[simp] theorem State.answerSealed_store (x0 : State) x1 : (State.answerSealed x0 x1).store = x0.store :=
  same_of_blank (p := .store) (State.answerSealed_in (m := only [.evlog, .irq, .seng, .dict, .eths, .cans]) rfl rfl rfl rfl rfl rfl x0 x1) rfl
@[simp] theorem State.answerSealed_heldReq (x0 : State) x1 : (State.answerSealed x0 x1).heldReq = x0.heldReq :=
  same_of_blank (p := .heldReq) (State.answerSealed_in (m := only [.evlog, .irq, .seng, .dict, .eths, .cans]) rfl rfl rfl rfl rfl rfl x0 x1) rfl
@[simp] theorem State.answerSealed_waitingWrites (x0 : State) x1 : (State.answerSealed x0 x1).waitingWrites = x0.waitingWrites :=
  same_of_blank (p := .waitingWrites) (State.answerSealed_in (m := only [.evlog, .irq, .seng, .dict, .eths, .cans]) rfl rfl rfl rfl rfl rfl x0 x1) rfl
@[simp] theorem State.answerSealed_belay (x0 : State) x1 : (State.answerSealed x0 x1).belay = x0.belay :=
  belay_of_blank (State.answerSealed_in (m := only [.evlog, .irq, .seng, .dict, .eths, .cans]) rfl rfl rfl rfl rfl rfl x0 x1) rfl rfl
@[simp] theorem State.answerSealed_values (x0 : State) x1 : (State.answerSealed x0 x1).dict.vals = x0.dict.vals :=
  same_of_blank (p := .values) (State.answerSealed_in (m := only [.evlog, .irq, .seng, .dict, .eths, .cans]) rfl rfl rfl rfl rfl rfl x0 x1) rfl

/-! ## `consumeCounter` -/

@[simp] theorem State.consumeCounter_now (x0 : State) x1 : (State.consumeCounter x0 x1).now = x0.now :=
  now_of_blank (State.consumeCounter_in (m := only [.seng]) rfl x0 x1)
@[simp] theorem State.consumeCounter_pending (x0 : State) x1 : (State.consumeCounter x0 x1).pending = x0.pending :=
  pending_of_blank (State.consumeCounter_in (m := only [.seng]) rfl x0 x1)
@[simp] theorem State.consumeCounter_serial (x0 : State) x1 : (State.consumeCounter x0 x1).serial = x0.serial :=
  serial_of_blank (State.consumeCounter_in (m := only [.seng]) rfl x0 x1)
@[simp] theorem State.consumeCounter_free (x0 : State) x1 : (State.consumeCounter x0 x1).free = x0.free :=
  same_of_blank (p := .free) (State.consumeCounter_in (m := only [.seng]) rfl x0 x1) rfl
@[simp] theorem State.consumeCounter_ident (x0 : State) x1 : (State.consumeCounter x0 x1).ident = x0.ident :=
  same_of_blank (p := .ident) (State.consumeCounter_in (m := only [.seng]) rfl x0 x1) rfl
@[simp] theorem State.consumeCounter_utcBase (x0 : State) x1 : (State.consumeCounter x0 x1).utcBase = x0.utcBase :=
  same_of_blank (p := .utcBase) (State.consumeCounter_in (m := only [.seng]) rfl x0 x1) rfl
@[simp] theorem State.consumeCounter_utcAt (x0 : State) x1 : (State.consumeCounter x0 x1).utcAt = x0.utcAt :=
  same_of_blank (p := .utcAt) (State.consumeCounter_in (m := only [.seng]) rfl x0 x1) rfl
@[simp] theorem State.consumeCounter_irq (x0 : State) x1 : (State.consumeCounter x0 x1).irq = x0.irq :=
  same_of_blank (p := .irq) (State.consumeCounter_in (m := only [.seng]) rfl x0 x1) rfl
@[simp] theorem State.consumeCounter_evlog (x0 : State) x1 : (State.consumeCounter x0 x1).evlog = x0.evlog :=
  same_of_blank (p := .evlog) (State.consumeCounter_in (m := only [.seng]) rfl x0 x1) rfl
@[simp] theorem State.consumeCounter_fc (x0 : State) x1 : (State.consumeCounter x0 x1).fc = x0.fc :=
  same_of_blank (p := .fc) (State.consumeCounter_in (m := only [.seng]) rfl x0 x1) rfl
@[simp] theorem State.consumeCounter_supply (x0 : State) x1 : (State.consumeCounter x0 x1).supply = x0.supply :=
  same_of_blank (p := .supply) (State.consumeCounter_in (m := only [.seng]) rfl x0 x1) rfl
@[simp] theorem State.consumeCounter_start (x0 : State) x1 : (State.consumeCounter x0 x1).start = x0.start :=
  same_of_blank (p := .start) (State.consumeCounter_in (m := only [.seng]) rfl x0 x1) rfl
@[simp] theorem State.consumeCounter_mode (x0 : State) x1 : (State.consumeCounter x0 x1).mode = x0.mode :=
  same_of_blank (p := .mode) (State.consumeCounter_in (m := only [.seng]) rfl x0 x1) rfl
@[simp] theorem State.consumeCounter_cores (x0 : State) x1 : (State.consumeCounter x0 x1).cores = x0.cores :=
  same_of_blank (p := .cores) (State.consumeCounter_in (m := only [.seng]) rfl x0 x1) rfl
@[simp] theorem State.consumeCounter_health (x0 : State) x1 : (State.consumeCounter x0 x1).health = x0.health :=
  same_of_blank (p := .health) (State.consumeCounter_in (m := only [.seng]) rfl x0 x1) rfl
@[simp] theorem State.consumeCounter_strs (x0 : State) x1 : (State.consumeCounter x0 x1).strs = x0.strs :=
  same_of_blank (p := .strs) (State.consumeCounter_in (m := only [.seng]) rfl x0 x1) rfl
@[simp] theorem State.consumeCounter_banks (x0 : State) x1 : (State.consumeCounter x0 x1).banks = x0.banks :=
  same_of_blank (p := .banks) (State.consumeCounter_in (m := only [.seng]) rfl x0 x1) rfl
@[simp] theorem State.consumeCounter_gates (x0 : State) x1 : (State.consumeCounter x0 x1).gates = x0.gates :=
  same_of_blank (p := .gates) (State.consumeCounter_in (m := only [.seng]) rfl x0 x1) rfl
@[simp] theorem State.consumeCounter_gateBlock (x0 : State) x1 : (State.consumeCounter x0 x1).gateBlock = x0.gateBlock :=
  same_of_blank (p := .gateBlock) (State.consumeCounter_in (m := only [.seng]) rfl x0 x1) rfl
@[simp] theorem State.consumeCounter_bstr (x0 : State) x1 : (State.consumeCounter x0 x1).bstr = x0.bstr :=
  same_of_blank (p := .bstr) (State.consumeCounter_in (m := only [.seng]) rfl x0 x1) rfl
@[simp] theorem State.consumeCounter_io (x0 : State) x1 : (State.consumeCounter x0 x1).io = x0.io :=
  same_of_blank (p := .io) (State.consumeCounter_in (m := only [.seng]) rfl x0 x1) rfl
@[simp] theorem State.consumeCounter_therm (x0 : State) x1 : (State.consumeCounter x0 x1).therm = x0.therm :=
  same_of_blank (p := .therm) (State.consumeCounter_in (m := only [.seng]) rfl x0 x1) rfl
@[simp] theorem State.consumeCounter_cans (x0 : State) x1 : (State.consumeCounter x0 x1).cans = x0.cans :=
  same_of_blank (p := .cans) (State.consumeCounter_in (m := only [.seng]) rfl x0 x1) rfl
@[simp] theorem State.consumeCounter_ropes (x0 : State) x1 : (State.consumeCounter x0 x1).ropes = x0.ropes :=
  same_of_blank (p := .ropes) (State.consumeCounter_in (m := only [.seng]) rfl x0 x1) rfl
@[simp] theorem State.consumeCounter_nodes (x0 : State) x1 : (State.consumeCounter x0 x1).nodes = x0.nodes :=
  same_of_blank (p := .nodes) (State.consumeCounter_in (m := only [.seng]) rfl x0 x1) rfl
@[simp] theorem State.consumeCounter_trav (x0 : State) x1 : (State.consumeCounter x0 x1).trav = x0.trav :=
  same_of_blank (p := .trav) (State.consumeCounter_in (m := only [.seng]) rfl x0 x1) rfl
@[simp] theorem State.consumeCounter_bal (x0 : State) x1 : (State.consumeCounter x0 x1).bal = x0.bal :=
  same_of_blank (p := .bal) (State.consumeCounter_in (m := only [.seng]) rfl x0 x1) rfl
@[simp] theorem State.consumeCounter_eths (x0 : State) x1 : (State.consumeCounter x0 x1).eths = x0.eths :=
  same_of_blank (p := .eths) (State.consumeCounter_in (m := only [.seng]) rfl x0 x1) rfl
@[simp] theorem State.consumeCounter_stream (x0 : State) x1 : (State.consumeCounter x0 x1).stream = x0.stream :=
  same_of_blank (p := .stream) (State.consumeCounter_in (m := only [.seng]) rfl x0 x1) rfl
@[simp] theorem State.consumeCounter_clock (x0 : State) x1 : (State.consumeCounter x0 x1).clock = x0.clock :=
  same_of_blank (p := .clock) (State.consumeCounter_in (m := only [.seng]) rfl x0 x1) rfl
@[simp] theorem State.consumeCounter_corr (x0 : State) x1 : (State.consumeCounter x0 x1).corr = x0.corr :=
  same_of_blank (p := .corr) (State.consumeCounter_in (m := only [.seng]) rfl x0 x1) rfl
@[simp] theorem State.consumeCounter_est (x0 : State) x1 : (State.consumeCounter x0 x1).est = x0.est :=
  same_of_blank (p := .est) (State.consumeCounter_in (m := only [.seng]) rfl x0 x1) rfl
@[simp] theorem State.consumeCounter_store (x0 : State) x1 : (State.consumeCounter x0 x1).store = x0.store :=
  same_of_blank (p := .store) (State.consumeCounter_in (m := only [.seng]) rfl x0 x1) rfl
@[simp] theorem State.consumeCounter_heldReq (x0 : State) x1 : (State.consumeCounter x0 x1).heldReq = x0.heldReq :=
  same_of_blank (p := .heldReq) (State.consumeCounter_in (m := only [.seng]) rfl x0 x1) rfl
@[simp] theorem State.consumeCounter_waitingWrites (x0 : State) x1 : (State.consumeCounter x0 x1).waitingWrites = x0.waitingWrites :=
  same_of_blank (p := .waitingWrites) (State.consumeCounter_in (m := only [.seng]) rfl x0 x1) rfl
@[simp] theorem State.consumeCounter_belay (x0 : State) x1 : (State.consumeCounter x0 x1).belay = x0.belay :=
  belay_of_blank (State.consumeCounter_in (m := only [.seng]) rfl x0 x1) rfl rfl
@[simp] theorem State.consumeCounter_dict (x0 : State) x1 : (State.consumeCounter x0 x1).dict = x0.dict :=
  dict_of_blank (State.consumeCounter_in (m := only [.seng]) rfl x0 x1) rfl rfl

/-! ## `unqueue` -/

@[simp] theorem State.unqueue_now (x0 : State) : (State.unqueue x0).now = x0.now :=
  now_of_blank (State.unqueue_in (m := only [.seng]) rfl x0)
@[simp] theorem State.unqueue_pending (x0 : State) : (State.unqueue x0).pending = x0.pending :=
  pending_of_blank (State.unqueue_in (m := only [.seng]) rfl x0)
@[simp] theorem State.unqueue_serial (x0 : State) : (State.unqueue x0).serial = x0.serial :=
  serial_of_blank (State.unqueue_in (m := only [.seng]) rfl x0)
@[simp] theorem State.unqueue_free (x0 : State) : (State.unqueue x0).free = x0.free :=
  same_of_blank (p := .free) (State.unqueue_in (m := only [.seng]) rfl x0) rfl
@[simp] theorem State.unqueue_ident (x0 : State) : (State.unqueue x0).ident = x0.ident :=
  same_of_blank (p := .ident) (State.unqueue_in (m := only [.seng]) rfl x0) rfl
@[simp] theorem State.unqueue_utcBase (x0 : State) : (State.unqueue x0).utcBase = x0.utcBase :=
  same_of_blank (p := .utcBase) (State.unqueue_in (m := only [.seng]) rfl x0) rfl
@[simp] theorem State.unqueue_utcAt (x0 : State) : (State.unqueue x0).utcAt = x0.utcAt :=
  same_of_blank (p := .utcAt) (State.unqueue_in (m := only [.seng]) rfl x0) rfl
@[simp] theorem State.unqueue_irq (x0 : State) : (State.unqueue x0).irq = x0.irq :=
  same_of_blank (p := .irq) (State.unqueue_in (m := only [.seng]) rfl x0) rfl
@[simp] theorem State.unqueue_evlog (x0 : State) : (State.unqueue x0).evlog = x0.evlog :=
  same_of_blank (p := .evlog) (State.unqueue_in (m := only [.seng]) rfl x0) rfl
@[simp] theorem State.unqueue_fc (x0 : State) : (State.unqueue x0).fc = x0.fc :=
  same_of_blank (p := .fc) (State.unqueue_in (m := only [.seng]) rfl x0) rfl
@[simp] theorem State.unqueue_supply (x0 : State) : (State.unqueue x0).supply = x0.supply :=
  same_of_blank (p := .supply) (State.unqueue_in (m := only [.seng]) rfl x0) rfl
@[simp] theorem State.unqueue_start (x0 : State) : (State.unqueue x0).start = x0.start :=
  same_of_blank (p := .start) (State.unqueue_in (m := only [.seng]) rfl x0) rfl
@[simp] theorem State.unqueue_mode (x0 : State) : (State.unqueue x0).mode = x0.mode :=
  same_of_blank (p := .mode) (State.unqueue_in (m := only [.seng]) rfl x0) rfl
@[simp] theorem State.unqueue_cores (x0 : State) : (State.unqueue x0).cores = x0.cores :=
  same_of_blank (p := .cores) (State.unqueue_in (m := only [.seng]) rfl x0) rfl
@[simp] theorem State.unqueue_health (x0 : State) : (State.unqueue x0).health = x0.health :=
  same_of_blank (p := .health) (State.unqueue_in (m := only [.seng]) rfl x0) rfl
@[simp] theorem State.unqueue_strs (x0 : State) : (State.unqueue x0).strs = x0.strs :=
  same_of_blank (p := .strs) (State.unqueue_in (m := only [.seng]) rfl x0) rfl
@[simp] theorem State.unqueue_banks (x0 : State) : (State.unqueue x0).banks = x0.banks :=
  same_of_blank (p := .banks) (State.unqueue_in (m := only [.seng]) rfl x0) rfl
@[simp] theorem State.unqueue_gates (x0 : State) : (State.unqueue x0).gates = x0.gates :=
  same_of_blank (p := .gates) (State.unqueue_in (m := only [.seng]) rfl x0) rfl
@[simp] theorem State.unqueue_gateBlock (x0 : State) : (State.unqueue x0).gateBlock = x0.gateBlock :=
  same_of_blank (p := .gateBlock) (State.unqueue_in (m := only [.seng]) rfl x0) rfl
@[simp] theorem State.unqueue_bstr (x0 : State) : (State.unqueue x0).bstr = x0.bstr :=
  same_of_blank (p := .bstr) (State.unqueue_in (m := only [.seng]) rfl x0) rfl
@[simp] theorem State.unqueue_io (x0 : State) : (State.unqueue x0).io = x0.io :=
  same_of_blank (p := .io) (State.unqueue_in (m := only [.seng]) rfl x0) rfl
@[simp] theorem State.unqueue_therm (x0 : State) : (State.unqueue x0).therm = x0.therm :=
  same_of_blank (p := .therm) (State.unqueue_in (m := only [.seng]) rfl x0) rfl
@[simp] theorem State.unqueue_cans (x0 : State) : (State.unqueue x0).cans = x0.cans :=
  same_of_blank (p := .cans) (State.unqueue_in (m := only [.seng]) rfl x0) rfl
@[simp] theorem State.unqueue_ropes (x0 : State) : (State.unqueue x0).ropes = x0.ropes :=
  same_of_blank (p := .ropes) (State.unqueue_in (m := only [.seng]) rfl x0) rfl
@[simp] theorem State.unqueue_nodes (x0 : State) : (State.unqueue x0).nodes = x0.nodes :=
  same_of_blank (p := .nodes) (State.unqueue_in (m := only [.seng]) rfl x0) rfl
@[simp] theorem State.unqueue_trav (x0 : State) : (State.unqueue x0).trav = x0.trav :=
  same_of_blank (p := .trav) (State.unqueue_in (m := only [.seng]) rfl x0) rfl
@[simp] theorem State.unqueue_bal (x0 : State) : (State.unqueue x0).bal = x0.bal :=
  same_of_blank (p := .bal) (State.unqueue_in (m := only [.seng]) rfl x0) rfl
@[simp] theorem State.unqueue_eths (x0 : State) : (State.unqueue x0).eths = x0.eths :=
  same_of_blank (p := .eths) (State.unqueue_in (m := only [.seng]) rfl x0) rfl
@[simp] theorem State.unqueue_stream (x0 : State) : (State.unqueue x0).stream = x0.stream :=
  same_of_blank (p := .stream) (State.unqueue_in (m := only [.seng]) rfl x0) rfl
@[simp] theorem State.unqueue_clock (x0 : State) : (State.unqueue x0).clock = x0.clock :=
  same_of_blank (p := .clock) (State.unqueue_in (m := only [.seng]) rfl x0) rfl
@[simp] theorem State.unqueue_corr (x0 : State) : (State.unqueue x0).corr = x0.corr :=
  same_of_blank (p := .corr) (State.unqueue_in (m := only [.seng]) rfl x0) rfl
@[simp] theorem State.unqueue_est (x0 : State) : (State.unqueue x0).est = x0.est :=
  same_of_blank (p := .est) (State.unqueue_in (m := only [.seng]) rfl x0) rfl
@[simp] theorem State.unqueue_store (x0 : State) : (State.unqueue x0).store = x0.store :=
  same_of_blank (p := .store) (State.unqueue_in (m := only [.seng]) rfl x0) rfl
@[simp] theorem State.unqueue_heldReq (x0 : State) : (State.unqueue x0).heldReq = x0.heldReq :=
  same_of_blank (p := .heldReq) (State.unqueue_in (m := only [.seng]) rfl x0) rfl
@[simp] theorem State.unqueue_waitingWrites (x0 : State) : (State.unqueue x0).waitingWrites = x0.waitingWrites :=
  same_of_blank (p := .waitingWrites) (State.unqueue_in (m := only [.seng]) rfl x0) rfl
@[simp] theorem State.unqueue_belay (x0 : State) : (State.unqueue x0).belay = x0.belay :=
  belay_of_blank (State.unqueue_in (m := only [.seng]) rfl x0) rfl rfl
@[simp] theorem State.unqueue_dict (x0 : State) : (State.unqueue x0).dict = x0.dict :=
  dict_of_blank (State.unqueue_in (m := only [.seng]) rfl x0) rfl rfl

/-! ## `settleBanks` -/

@[simp] theorem State.settleBanks_now (x0 : State) : (State.settleBanks x0).now = x0.now :=
  now_of_blank (State.settleBanks_in (m := only [.banks, .evlog, .irq, .strs, .gates, .mode, .io]) rfl rfl rfl rfl rfl rfl rfl x0)
@[simp] theorem State.settleBanks_pending (x0 : State) : (State.settleBanks x0).pending = x0.pending :=
  pending_of_blank (State.settleBanks_in (m := only [.banks, .evlog, .irq, .strs, .gates, .mode, .io]) rfl rfl rfl rfl rfl rfl rfl x0)
@[simp] theorem State.settleBanks_serial (x0 : State) : (State.settleBanks x0).serial = x0.serial :=
  serial_of_blank (State.settleBanks_in (m := only [.banks, .evlog, .irq, .strs, .gates, .mode, .io]) rfl rfl rfl rfl rfl rfl rfl x0)
@[simp] theorem State.settleBanks_free (x0 : State) : (State.settleBanks x0).free = x0.free :=
  same_of_blank (p := .free) (State.settleBanks_in (m := only [.banks, .evlog, .irq, .strs, .gates, .mode, .io]) rfl rfl rfl rfl rfl rfl rfl x0) rfl
@[simp] theorem State.settleBanks_ident (x0 : State) : (State.settleBanks x0).ident = x0.ident :=
  same_of_blank (p := .ident) (State.settleBanks_in (m := only [.banks, .evlog, .irq, .strs, .gates, .mode, .io]) rfl rfl rfl rfl rfl rfl rfl x0) rfl
@[simp] theorem State.settleBanks_utcBase (x0 : State) : (State.settleBanks x0).utcBase = x0.utcBase :=
  same_of_blank (p := .utcBase) (State.settleBanks_in (m := only [.banks, .evlog, .irq, .strs, .gates, .mode, .io]) rfl rfl rfl rfl rfl rfl rfl x0) rfl
@[simp] theorem State.settleBanks_utcAt (x0 : State) : (State.settleBanks x0).utcAt = x0.utcAt :=
  same_of_blank (p := .utcAt) (State.settleBanks_in (m := only [.banks, .evlog, .irq, .strs, .gates, .mode, .io]) rfl rfl rfl rfl rfl rfl rfl x0) rfl
@[simp] theorem State.settleBanks_fc (x0 : State) : (State.settleBanks x0).fc = x0.fc :=
  same_of_blank (p := .fc) (State.settleBanks_in (m := only [.banks, .evlog, .irq, .strs, .gates, .mode, .io]) rfl rfl rfl rfl rfl rfl rfl x0) rfl
@[simp] theorem State.settleBanks_supply (x0 : State) : (State.settleBanks x0).supply = x0.supply :=
  same_of_blank (p := .supply) (State.settleBanks_in (m := only [.banks, .evlog, .irq, .strs, .gates, .mode, .io]) rfl rfl rfl rfl rfl rfl rfl x0) rfl
@[simp] theorem State.settleBanks_start (x0 : State) : (State.settleBanks x0).start = x0.start :=
  same_of_blank (p := .start) (State.settleBanks_in (m := only [.banks, .evlog, .irq, .strs, .gates, .mode, .io]) rfl rfl rfl rfl rfl rfl rfl x0) rfl
@[simp] theorem State.settleBanks_cores (x0 : State) : (State.settleBanks x0).cores = x0.cores :=
  same_of_blank (p := .cores) (State.settleBanks_in (m := only [.banks, .evlog, .irq, .strs, .gates, .mode, .io]) rfl rfl rfl rfl rfl rfl rfl x0) rfl
@[simp] theorem State.settleBanks_health (x0 : State) : (State.settleBanks x0).health = x0.health :=
  same_of_blank (p := .health) (State.settleBanks_in (m := only [.banks, .evlog, .irq, .strs, .gates, .mode, .io]) rfl rfl rfl rfl rfl rfl rfl x0) rfl
@[simp] theorem State.settleBanks_gateBlock (x0 : State) : (State.settleBanks x0).gateBlock = x0.gateBlock :=
  same_of_blank (p := .gateBlock) (State.settleBanks_in (m := only [.banks, .evlog, .irq, .strs, .gates, .mode, .io]) rfl rfl rfl rfl rfl rfl rfl x0) rfl
@[simp] theorem State.settleBanks_bstr (x0 : State) : (State.settleBanks x0).bstr = x0.bstr :=
  same_of_blank (p := .bstr) (State.settleBanks_in (m := only [.banks, .evlog, .irq, .strs, .gates, .mode, .io]) rfl rfl rfl rfl rfl rfl rfl x0) rfl
@[simp] theorem State.settleBanks_seng (x0 : State) : (State.settleBanks x0).seng = x0.seng :=
  same_of_blank (p := .seng) (State.settleBanks_in (m := only [.banks, .evlog, .irq, .strs, .gates, .mode, .io]) rfl rfl rfl rfl rfl rfl rfl x0) rfl
@[simp] theorem State.settleBanks_therm (x0 : State) : (State.settleBanks x0).therm = x0.therm :=
  same_of_blank (p := .therm) (State.settleBanks_in (m := only [.banks, .evlog, .irq, .strs, .gates, .mode, .io]) rfl rfl rfl rfl rfl rfl rfl x0) rfl
@[simp] theorem State.settleBanks_cans (x0 : State) : (State.settleBanks x0).cans = x0.cans :=
  same_of_blank (p := .cans) (State.settleBanks_in (m := only [.banks, .evlog, .irq, .strs, .gates, .mode, .io]) rfl rfl rfl rfl rfl rfl rfl x0) rfl
@[simp] theorem State.settleBanks_ropes (x0 : State) : (State.settleBanks x0).ropes = x0.ropes :=
  same_of_blank (p := .ropes) (State.settleBanks_in (m := only [.banks, .evlog, .irq, .strs, .gates, .mode, .io]) rfl rfl rfl rfl rfl rfl rfl x0) rfl
@[simp] theorem State.settleBanks_nodes (x0 : State) : (State.settleBanks x0).nodes = x0.nodes :=
  same_of_blank (p := .nodes) (State.settleBanks_in (m := only [.banks, .evlog, .irq, .strs, .gates, .mode, .io]) rfl rfl rfl rfl rfl rfl rfl x0) rfl
@[simp] theorem State.settleBanks_trav (x0 : State) : (State.settleBanks x0).trav = x0.trav :=
  same_of_blank (p := .trav) (State.settleBanks_in (m := only [.banks, .evlog, .irq, .strs, .gates, .mode, .io]) rfl rfl rfl rfl rfl rfl rfl x0) rfl
@[simp] theorem State.settleBanks_bal (x0 : State) : (State.settleBanks x0).bal = x0.bal :=
  same_of_blank (p := .bal) (State.settleBanks_in (m := only [.banks, .evlog, .irq, .strs, .gates, .mode, .io]) rfl rfl rfl rfl rfl rfl rfl x0) rfl
@[simp] theorem State.settleBanks_eths (x0 : State) : (State.settleBanks x0).eths = x0.eths :=
  same_of_blank (p := .eths) (State.settleBanks_in (m := only [.banks, .evlog, .irq, .strs, .gates, .mode, .io]) rfl rfl rfl rfl rfl rfl rfl x0) rfl
@[simp] theorem State.settleBanks_stream (x0 : State) : (State.settleBanks x0).stream = x0.stream :=
  same_of_blank (p := .stream) (State.settleBanks_in (m := only [.banks, .evlog, .irq, .strs, .gates, .mode, .io]) rfl rfl rfl rfl rfl rfl rfl x0) rfl
@[simp] theorem State.settleBanks_clock (x0 : State) : (State.settleBanks x0).clock = x0.clock :=
  same_of_blank (p := .clock) (State.settleBanks_in (m := only [.banks, .evlog, .irq, .strs, .gates, .mode, .io]) rfl rfl rfl rfl rfl rfl rfl x0) rfl
@[simp] theorem State.settleBanks_corr (x0 : State) : (State.settleBanks x0).corr = x0.corr :=
  same_of_blank (p := .corr) (State.settleBanks_in (m := only [.banks, .evlog, .irq, .strs, .gates, .mode, .io]) rfl rfl rfl rfl rfl rfl rfl x0) rfl
@[simp] theorem State.settleBanks_est (x0 : State) : (State.settleBanks x0).est = x0.est :=
  same_of_blank (p := .est) (State.settleBanks_in (m := only [.banks, .evlog, .irq, .strs, .gates, .mode, .io]) rfl rfl rfl rfl rfl rfl rfl x0) rfl
@[simp] theorem State.settleBanks_store (x0 : State) : (State.settleBanks x0).store = x0.store :=
  same_of_blank (p := .store) (State.settleBanks_in (m := only [.banks, .evlog, .irq, .strs, .gates, .mode, .io]) rfl rfl rfl rfl rfl rfl rfl x0) rfl
@[simp] theorem State.settleBanks_heldReq (x0 : State) : (State.settleBanks x0).heldReq = x0.heldReq :=
  same_of_blank (p := .heldReq) (State.settleBanks_in (m := only [.banks, .evlog, .irq, .strs, .gates, .mode, .io]) rfl rfl rfl rfl rfl rfl rfl x0) rfl
@[simp] theorem State.settleBanks_waitingWrites (x0 : State) : (State.settleBanks x0).waitingWrites = x0.waitingWrites :=
  same_of_blank (p := .waitingWrites) (State.settleBanks_in (m := only [.banks, .evlog, .irq, .strs, .gates, .mode, .io]) rfl rfl rfl rfl rfl rfl rfl x0) rfl
@[simp] theorem State.settleBanks_belay (x0 : State) : (State.settleBanks x0).belay = x0.belay :=
  belay_of_blank (State.settleBanks_in (m := only [.banks, .evlog, .irq, .strs, .gates, .mode, .io]) rfl rfl rfl rfl rfl rfl rfl x0) rfl rfl
@[simp] theorem State.settleBanks_dict (x0 : State) : (State.settleBanks x0).dict = x0.dict :=
  dict_of_blank (State.settleBanks_in (m := only [.banks, .evlog, .irq, .strs, .gates, .mode, .io]) rfl rfl rfl rfl rfl rfl rfl x0) rfl rfl

/-! ## `noteFill` -/

@[simp] theorem State.noteFill_now (x0 : State) : (State.noteFill x0).now = x0.now :=
  now_of_blank (State.noteFill_in (m := only [.evlog, .irq]) rfl rfl x0)
@[simp] theorem State.noteFill_pending (x0 : State) : (State.noteFill x0).pending = x0.pending :=
  pending_of_blank (State.noteFill_in (m := only [.evlog, .irq]) rfl rfl x0)
@[simp] theorem State.noteFill_serial (x0 : State) : (State.noteFill x0).serial = x0.serial :=
  serial_of_blank (State.noteFill_in (m := only [.evlog, .irq]) rfl rfl x0)
@[simp] theorem State.noteFill_free (x0 : State) : (State.noteFill x0).free = x0.free :=
  same_of_blank (p := .free) (State.noteFill_in (m := only [.evlog, .irq]) rfl rfl x0) rfl
@[simp] theorem State.noteFill_ident (x0 : State) : (State.noteFill x0).ident = x0.ident :=
  same_of_blank (p := .ident) (State.noteFill_in (m := only [.evlog, .irq]) rfl rfl x0) rfl
@[simp] theorem State.noteFill_utcBase (x0 : State) : (State.noteFill x0).utcBase = x0.utcBase :=
  same_of_blank (p := .utcBase) (State.noteFill_in (m := only [.evlog, .irq]) rfl rfl x0) rfl
@[simp] theorem State.noteFill_utcAt (x0 : State) : (State.noteFill x0).utcAt = x0.utcAt :=
  same_of_blank (p := .utcAt) (State.noteFill_in (m := only [.evlog, .irq]) rfl rfl x0) rfl
@[simp] theorem State.noteFill_fc (x0 : State) : (State.noteFill x0).fc = x0.fc :=
  same_of_blank (p := .fc) (State.noteFill_in (m := only [.evlog, .irq]) rfl rfl x0) rfl
@[simp] theorem State.noteFill_supply (x0 : State) : (State.noteFill x0).supply = x0.supply :=
  same_of_blank (p := .supply) (State.noteFill_in (m := only [.evlog, .irq]) rfl rfl x0) rfl
@[simp] theorem State.noteFill_start (x0 : State) : (State.noteFill x0).start = x0.start :=
  same_of_blank (p := .start) (State.noteFill_in (m := only [.evlog, .irq]) rfl rfl x0) rfl
@[simp] theorem State.noteFill_mode (x0 : State) : (State.noteFill x0).mode = x0.mode :=
  same_of_blank (p := .mode) (State.noteFill_in (m := only [.evlog, .irq]) rfl rfl x0) rfl
@[simp] theorem State.noteFill_cores (x0 : State) : (State.noteFill x0).cores = x0.cores :=
  same_of_blank (p := .cores) (State.noteFill_in (m := only [.evlog, .irq]) rfl rfl x0) rfl
@[simp] theorem State.noteFill_health (x0 : State) : (State.noteFill x0).health = x0.health :=
  same_of_blank (p := .health) (State.noteFill_in (m := only [.evlog, .irq]) rfl rfl x0) rfl
@[simp] theorem State.noteFill_strs (x0 : State) : (State.noteFill x0).strs = x0.strs :=
  same_of_blank (p := .strs) (State.noteFill_in (m := only [.evlog, .irq]) rfl rfl x0) rfl
@[simp] theorem State.noteFill_banks (x0 : State) : (State.noteFill x0).banks = x0.banks :=
  same_of_blank (p := .banks) (State.noteFill_in (m := only [.evlog, .irq]) rfl rfl x0) rfl
@[simp] theorem State.noteFill_gates (x0 : State) : (State.noteFill x0).gates = x0.gates :=
  same_of_blank (p := .gates) (State.noteFill_in (m := only [.evlog, .irq]) rfl rfl x0) rfl
@[simp] theorem State.noteFill_gateBlock (x0 : State) : (State.noteFill x0).gateBlock = x0.gateBlock :=
  same_of_blank (p := .gateBlock) (State.noteFill_in (m := only [.evlog, .irq]) rfl rfl x0) rfl
@[simp] theorem State.noteFill_bstr (x0 : State) : (State.noteFill x0).bstr = x0.bstr :=
  same_of_blank (p := .bstr) (State.noteFill_in (m := only [.evlog, .irq]) rfl rfl x0) rfl
@[simp] theorem State.noteFill_io (x0 : State) : (State.noteFill x0).io = x0.io :=
  same_of_blank (p := .io) (State.noteFill_in (m := only [.evlog, .irq]) rfl rfl x0) rfl
@[simp] theorem State.noteFill_seng (x0 : State) : (State.noteFill x0).seng = x0.seng :=
  same_of_blank (p := .seng) (State.noteFill_in (m := only [.evlog, .irq]) rfl rfl x0) rfl
@[simp] theorem State.noteFill_therm (x0 : State) : (State.noteFill x0).therm = x0.therm :=
  same_of_blank (p := .therm) (State.noteFill_in (m := only [.evlog, .irq]) rfl rfl x0) rfl
@[simp] theorem State.noteFill_cans (x0 : State) : (State.noteFill x0).cans = x0.cans :=
  same_of_blank (p := .cans) (State.noteFill_in (m := only [.evlog, .irq]) rfl rfl x0) rfl
@[simp] theorem State.noteFill_ropes (x0 : State) : (State.noteFill x0).ropes = x0.ropes :=
  same_of_blank (p := .ropes) (State.noteFill_in (m := only [.evlog, .irq]) rfl rfl x0) rfl
@[simp] theorem State.noteFill_nodes (x0 : State) : (State.noteFill x0).nodes = x0.nodes :=
  same_of_blank (p := .nodes) (State.noteFill_in (m := only [.evlog, .irq]) rfl rfl x0) rfl
@[simp] theorem State.noteFill_trav (x0 : State) : (State.noteFill x0).trav = x0.trav :=
  same_of_blank (p := .trav) (State.noteFill_in (m := only [.evlog, .irq]) rfl rfl x0) rfl
@[simp] theorem State.noteFill_bal (x0 : State) : (State.noteFill x0).bal = x0.bal :=
  same_of_blank (p := .bal) (State.noteFill_in (m := only [.evlog, .irq]) rfl rfl x0) rfl
@[simp] theorem State.noteFill_eths (x0 : State) : (State.noteFill x0).eths = x0.eths :=
  same_of_blank (p := .eths) (State.noteFill_in (m := only [.evlog, .irq]) rfl rfl x0) rfl
@[simp] theorem State.noteFill_stream (x0 : State) : (State.noteFill x0).stream = x0.stream :=
  same_of_blank (p := .stream) (State.noteFill_in (m := only [.evlog, .irq]) rfl rfl x0) rfl
@[simp] theorem State.noteFill_clock (x0 : State) : (State.noteFill x0).clock = x0.clock :=
  same_of_blank (p := .clock) (State.noteFill_in (m := only [.evlog, .irq]) rfl rfl x0) rfl
@[simp] theorem State.noteFill_corr (x0 : State) : (State.noteFill x0).corr = x0.corr :=
  same_of_blank (p := .corr) (State.noteFill_in (m := only [.evlog, .irq]) rfl rfl x0) rfl
@[simp] theorem State.noteFill_est (x0 : State) : (State.noteFill x0).est = x0.est :=
  same_of_blank (p := .est) (State.noteFill_in (m := only [.evlog, .irq]) rfl rfl x0) rfl
@[simp] theorem State.noteFill_store (x0 : State) : (State.noteFill x0).store = x0.store :=
  same_of_blank (p := .store) (State.noteFill_in (m := only [.evlog, .irq]) rfl rfl x0) rfl
@[simp] theorem State.noteFill_heldReq (x0 : State) : (State.noteFill x0).heldReq = x0.heldReq :=
  same_of_blank (p := .heldReq) (State.noteFill_in (m := only [.evlog, .irq]) rfl rfl x0) rfl
@[simp] theorem State.noteFill_waitingWrites (x0 : State) : (State.noteFill x0).waitingWrites = x0.waitingWrites :=
  same_of_blank (p := .waitingWrites) (State.noteFill_in (m := only [.evlog, .irq]) rfl rfl x0) rfl
@[simp] theorem State.noteFill_belay (x0 : State) : (State.noteFill x0).belay = x0.belay :=
  belay_of_blank (State.noteFill_in (m := only [.evlog, .irq]) rfl rfl x0) rfl rfl
@[simp] theorem State.noteFill_dict (x0 : State) : (State.noteFill x0).dict = x0.dict :=
  dict_of_blank (State.noteFill_in (m := only [.evlog, .irq]) rfl rfl x0) rfl rfl

/-! ## `summary` -/

@[simp] theorem State.summary_now (x0 : State) x1 : (State.summary x0 x1).now = x0.now :=
  now_of_blank (State.summary_in (m := only [.evlog]) rfl x0 x1)
@[simp] theorem State.summary_pending (x0 : State) x1 : (State.summary x0 x1).pending = x0.pending :=
  pending_of_blank (State.summary_in (m := only [.evlog]) rfl x0 x1)
@[simp] theorem State.summary_serial (x0 : State) x1 : (State.summary x0 x1).serial = x0.serial :=
  serial_of_blank (State.summary_in (m := only [.evlog]) rfl x0 x1)
@[simp] theorem State.summary_free (x0 : State) x1 : (State.summary x0 x1).free = x0.free :=
  same_of_blank (p := .free) (State.summary_in (m := only [.evlog]) rfl x0 x1) rfl
@[simp] theorem State.summary_ident (x0 : State) x1 : (State.summary x0 x1).ident = x0.ident :=
  same_of_blank (p := .ident) (State.summary_in (m := only [.evlog]) rfl x0 x1) rfl
@[simp] theorem State.summary_utcBase (x0 : State) x1 : (State.summary x0 x1).utcBase = x0.utcBase :=
  same_of_blank (p := .utcBase) (State.summary_in (m := only [.evlog]) rfl x0 x1) rfl
@[simp] theorem State.summary_utcAt (x0 : State) x1 : (State.summary x0 x1).utcAt = x0.utcAt :=
  same_of_blank (p := .utcAt) (State.summary_in (m := only [.evlog]) rfl x0 x1) rfl
@[simp] theorem State.summary_irq (x0 : State) x1 : (State.summary x0 x1).irq = x0.irq :=
  same_of_blank (p := .irq) (State.summary_in (m := only [.evlog]) rfl x0 x1) rfl
@[simp] theorem State.summary_fc (x0 : State) x1 : (State.summary x0 x1).fc = x0.fc :=
  same_of_blank (p := .fc) (State.summary_in (m := only [.evlog]) rfl x0 x1) rfl
@[simp] theorem State.summary_supply (x0 : State) x1 : (State.summary x0 x1).supply = x0.supply :=
  same_of_blank (p := .supply) (State.summary_in (m := only [.evlog]) rfl x0 x1) rfl
@[simp] theorem State.summary_start (x0 : State) x1 : (State.summary x0 x1).start = x0.start :=
  same_of_blank (p := .start) (State.summary_in (m := only [.evlog]) rfl x0 x1) rfl
@[simp] theorem State.summary_mode (x0 : State) x1 : (State.summary x0 x1).mode = x0.mode :=
  same_of_blank (p := .mode) (State.summary_in (m := only [.evlog]) rfl x0 x1) rfl
@[simp] theorem State.summary_cores (x0 : State) x1 : (State.summary x0 x1).cores = x0.cores :=
  same_of_blank (p := .cores) (State.summary_in (m := only [.evlog]) rfl x0 x1) rfl
@[simp] theorem State.summary_health (x0 : State) x1 : (State.summary x0 x1).health = x0.health :=
  same_of_blank (p := .health) (State.summary_in (m := only [.evlog]) rfl x0 x1) rfl
@[simp] theorem State.summary_strs (x0 : State) x1 : (State.summary x0 x1).strs = x0.strs :=
  same_of_blank (p := .strs) (State.summary_in (m := only [.evlog]) rfl x0 x1) rfl
@[simp] theorem State.summary_banks (x0 : State) x1 : (State.summary x0 x1).banks = x0.banks :=
  same_of_blank (p := .banks) (State.summary_in (m := only [.evlog]) rfl x0 x1) rfl
@[simp] theorem State.summary_gates (x0 : State) x1 : (State.summary x0 x1).gates = x0.gates :=
  same_of_blank (p := .gates) (State.summary_in (m := only [.evlog]) rfl x0 x1) rfl
@[simp] theorem State.summary_gateBlock (x0 : State) x1 : (State.summary x0 x1).gateBlock = x0.gateBlock :=
  same_of_blank (p := .gateBlock) (State.summary_in (m := only [.evlog]) rfl x0 x1) rfl
@[simp] theorem State.summary_bstr (x0 : State) x1 : (State.summary x0 x1).bstr = x0.bstr :=
  same_of_blank (p := .bstr) (State.summary_in (m := only [.evlog]) rfl x0 x1) rfl
@[simp] theorem State.summary_io (x0 : State) x1 : (State.summary x0 x1).io = x0.io :=
  same_of_blank (p := .io) (State.summary_in (m := only [.evlog]) rfl x0 x1) rfl
@[simp] theorem State.summary_seng (x0 : State) x1 : (State.summary x0 x1).seng = x0.seng :=
  same_of_blank (p := .seng) (State.summary_in (m := only [.evlog]) rfl x0 x1) rfl
@[simp] theorem State.summary_therm (x0 : State) x1 : (State.summary x0 x1).therm = x0.therm :=
  same_of_blank (p := .therm) (State.summary_in (m := only [.evlog]) rfl x0 x1) rfl
@[simp] theorem State.summary_cans (x0 : State) x1 : (State.summary x0 x1).cans = x0.cans :=
  same_of_blank (p := .cans) (State.summary_in (m := only [.evlog]) rfl x0 x1) rfl
@[simp] theorem State.summary_ropes (x0 : State) x1 : (State.summary x0 x1).ropes = x0.ropes :=
  same_of_blank (p := .ropes) (State.summary_in (m := only [.evlog]) rfl x0 x1) rfl
@[simp] theorem State.summary_nodes (x0 : State) x1 : (State.summary x0 x1).nodes = x0.nodes :=
  same_of_blank (p := .nodes) (State.summary_in (m := only [.evlog]) rfl x0 x1) rfl
@[simp] theorem State.summary_trav (x0 : State) x1 : (State.summary x0 x1).trav = x0.trav :=
  same_of_blank (p := .trav) (State.summary_in (m := only [.evlog]) rfl x0 x1) rfl
@[simp] theorem State.summary_bal (x0 : State) x1 : (State.summary x0 x1).bal = x0.bal :=
  same_of_blank (p := .bal) (State.summary_in (m := only [.evlog]) rfl x0 x1) rfl
@[simp] theorem State.summary_eths (x0 : State) x1 : (State.summary x0 x1).eths = x0.eths :=
  same_of_blank (p := .eths) (State.summary_in (m := only [.evlog]) rfl x0 x1) rfl
@[simp] theorem State.summary_stream (x0 : State) x1 : (State.summary x0 x1).stream = x0.stream :=
  same_of_blank (p := .stream) (State.summary_in (m := only [.evlog]) rfl x0 x1) rfl
@[simp] theorem State.summary_clock (x0 : State) x1 : (State.summary x0 x1).clock = x0.clock :=
  same_of_blank (p := .clock) (State.summary_in (m := only [.evlog]) rfl x0 x1) rfl
@[simp] theorem State.summary_corr (x0 : State) x1 : (State.summary x0 x1).corr = x0.corr :=
  same_of_blank (p := .corr) (State.summary_in (m := only [.evlog]) rfl x0 x1) rfl
@[simp] theorem State.summary_est (x0 : State) x1 : (State.summary x0 x1).est = x0.est :=
  same_of_blank (p := .est) (State.summary_in (m := only [.evlog]) rfl x0 x1) rfl
@[simp] theorem State.summary_store (x0 : State) x1 : (State.summary x0 x1).store = x0.store :=
  same_of_blank (p := .store) (State.summary_in (m := only [.evlog]) rfl x0 x1) rfl
@[simp] theorem State.summary_heldReq (x0 : State) x1 : (State.summary x0 x1).heldReq = x0.heldReq :=
  same_of_blank (p := .heldReq) (State.summary_in (m := only [.evlog]) rfl x0 x1) rfl
@[simp] theorem State.summary_waitingWrites (x0 : State) x1 : (State.summary x0 x1).waitingWrites = x0.waitingWrites :=
  same_of_blank (p := .waitingWrites) (State.summary_in (m := only [.evlog]) rfl x0 x1) rfl
@[simp] theorem State.summary_belay (x0 : State) x1 : (State.summary x0 x1).belay = x0.belay :=
  belay_of_blank (State.summary_in (m := only [.evlog]) rfl x0 x1) rfl rfl
@[simp] theorem State.summary_dict (x0 : State) x1 : (State.summary x0 x1).dict = x0.dict :=
  dict_of_blank (State.summary_in (m := only [.evlog]) rfl x0 x1) rfl rfl

end Sys2Proof.Machine
end

