-- ==== Sys2Proof/Laws/State.lean ====
section
/-!
SUPPORT. Reading a field after an update: one lemma for each field and each named update of the state, so that no proof unfolds a record
update.
-/

namespace Sys2Proof.Machine

/-! ## `modStr` -/

@[simp] theorem State.modStr_now (s : State) i f : (s.modStr i f).now = s.now := rfl
@[simp] theorem State.modStr_pending (s : State) i f : (s.modStr i f).pending = s.pending := rfl
@[simp] theorem State.modStr_free (s : State) i f : (s.modStr i f).free = s.free := rfl
@[simp] theorem State.modStr_serial (s : State) i f : (s.modStr i f).serial = s.serial := rfl
@[simp] theorem State.modStr_ident (s : State) i f : (s.modStr i f).ident = s.ident := rfl
@[simp] theorem State.modStr_utcBase (s : State) i f : (s.modStr i f).utcBase = s.utcBase := rfl
@[simp] theorem State.modStr_utcAt (s : State) i f : (s.modStr i f).utcAt = s.utcAt := rfl
@[simp] theorem State.modStr_irq (s : State) i f : (s.modStr i f).irq = s.irq := rfl
@[simp] theorem State.modStr_evlog (s : State) i f : (s.modStr i f).evlog = s.evlog := rfl
@[simp] theorem State.modStr_fc (s : State) i f : (s.modStr i f).fc = s.fc := rfl
@[simp] theorem State.modStr_supply (s : State) i f : (s.modStr i f).supply = s.supply := rfl
@[simp] theorem State.modStr_start (s : State) i f : (s.modStr i f).start = s.start := rfl
@[simp] theorem State.modStr_mode (s : State) i f : (s.modStr i f).mode = s.mode := rfl
@[simp] theorem State.modStr_cores (s : State) i f : (s.modStr i f).cores = s.cores := rfl
@[simp] theorem State.modStr_health (s : State) i f : (s.modStr i f).health = s.health := rfl
@[simp] theorem State.modStr_strs (s : State) i f : (s.modStr i f).strs = upd s.strs i f := rfl
@[simp] theorem State.modStr_banks (s : State) i f : (s.modStr i f).banks = s.banks := rfl
@[simp] theorem State.modStr_gates (s : State) i f : (s.modStr i f).gates = s.gates := rfl
@[simp] theorem State.modStr_gateBlock (s : State) i f : (s.modStr i f).gateBlock = s.gateBlock := rfl
@[simp] theorem State.modStr_bstr (s : State) i f : (s.modStr i f).bstr = s.bstr := rfl
@[simp] theorem State.modStr_belay (s : State) i f : (s.modStr i f).belay = s.belay := rfl
@[simp] theorem State.modStr_io (s : State) i f : (s.modStr i f).io = s.io := rfl
@[simp] theorem State.modStr_dict (s : State) i f : (s.modStr i f).dict = s.dict := rfl
@[simp] theorem State.modStr_seng (s : State) i f : (s.modStr i f).seng = s.seng := rfl
@[simp] theorem State.modStr_therm (s : State) i f : (s.modStr i f).therm = s.therm := rfl
@[simp] theorem State.modStr_cans (s : State) i f : (s.modStr i f).cans = s.cans := rfl
@[simp] theorem State.modStr_ropes (s : State) i f : (s.modStr i f).ropes = s.ropes := rfl
@[simp] theorem State.modStr_nodes (s : State) i f : (s.modStr i f).nodes = s.nodes := rfl
@[simp] theorem State.modStr_trav (s : State) i f : (s.modStr i f).trav = s.trav := rfl
@[simp] theorem State.modStr_bal (s : State) i f : (s.modStr i f).bal = s.bal := rfl
@[simp] theorem State.modStr_eths (s : State) i f : (s.modStr i f).eths = s.eths := rfl
@[simp] theorem State.modStr_stream (s : State) i f : (s.modStr i f).stream = s.stream := rfl
@[simp] theorem State.modStr_clock (s : State) i f : (s.modStr i f).clock = s.clock := rfl
@[simp] theorem State.modStr_corr (s : State) i f : (s.modStr i f).corr = s.corr := rfl
@[simp] theorem State.modStr_est (s : State) i f : (s.modStr i f).est = s.est := rfl
@[simp] theorem State.modStr_store (s : State) i f : (s.modStr i f).store = s.store := rfl
@[simp] theorem State.modStr_heldReq (s : State) i f : (s.modStr i f).heldReq = s.heldReq := rfl
@[simp] theorem State.modStr_waitingWrites (s : State) i f : (s.modStr i f).waitingWrites = s.waitingWrites := rfl

/-! ## `modBank` -/

@[simp] theorem State.modBank_now (s : State) i f : (s.modBank i f).now = s.now := rfl
@[simp] theorem State.modBank_pending (s : State) i f : (s.modBank i f).pending = s.pending := rfl
@[simp] theorem State.modBank_free (s : State) i f : (s.modBank i f).free = s.free := rfl
@[simp] theorem State.modBank_serial (s : State) i f : (s.modBank i f).serial = s.serial := rfl
@[simp] theorem State.modBank_ident (s : State) i f : (s.modBank i f).ident = s.ident := rfl
@[simp] theorem State.modBank_utcBase (s : State) i f : (s.modBank i f).utcBase = s.utcBase := rfl
@[simp] theorem State.modBank_utcAt (s : State) i f : (s.modBank i f).utcAt = s.utcAt := rfl
@[simp] theorem State.modBank_irq (s : State) i f : (s.modBank i f).irq = s.irq := rfl
@[simp] theorem State.modBank_evlog (s : State) i f : (s.modBank i f).evlog = s.evlog := rfl
@[simp] theorem State.modBank_fc (s : State) i f : (s.modBank i f).fc = s.fc := rfl
@[simp] theorem State.modBank_supply (s : State) i f : (s.modBank i f).supply = s.supply := rfl
@[simp] theorem State.modBank_start (s : State) i f : (s.modBank i f).start = s.start := rfl
@[simp] theorem State.modBank_mode (s : State) i f : (s.modBank i f).mode = s.mode := rfl
@[simp] theorem State.modBank_cores (s : State) i f : (s.modBank i f).cores = s.cores := rfl
@[simp] theorem State.modBank_health (s : State) i f : (s.modBank i f).health = s.health := rfl
@[simp] theorem State.modBank_strs (s : State) i f : (s.modBank i f).strs = s.strs := rfl
@[simp] theorem State.modBank_banks (s : State) i f : (s.modBank i f).banks = upd s.banks i f := rfl
@[simp] theorem State.modBank_gates (s : State) i f : (s.modBank i f).gates = s.gates := rfl
@[simp] theorem State.modBank_gateBlock (s : State) i f : (s.modBank i f).gateBlock = s.gateBlock := rfl
@[simp] theorem State.modBank_bstr (s : State) i f : (s.modBank i f).bstr = s.bstr := rfl
@[simp] theorem State.modBank_belay (s : State) i f : (s.modBank i f).belay = s.belay := rfl
@[simp] theorem State.modBank_io (s : State) i f : (s.modBank i f).io = s.io := rfl
@[simp] theorem State.modBank_dict (s : State) i f : (s.modBank i f).dict = s.dict := rfl
@[simp] theorem State.modBank_seng (s : State) i f : (s.modBank i f).seng = s.seng := rfl
@[simp] theorem State.modBank_therm (s : State) i f : (s.modBank i f).therm = s.therm := rfl
@[simp] theorem State.modBank_cans (s : State) i f : (s.modBank i f).cans = s.cans := rfl
@[simp] theorem State.modBank_ropes (s : State) i f : (s.modBank i f).ropes = s.ropes := rfl
@[simp] theorem State.modBank_nodes (s : State) i f : (s.modBank i f).nodes = s.nodes := rfl
@[simp] theorem State.modBank_trav (s : State) i f : (s.modBank i f).trav = s.trav := rfl
@[simp] theorem State.modBank_bal (s : State) i f : (s.modBank i f).bal = s.bal := rfl
@[simp] theorem State.modBank_eths (s : State) i f : (s.modBank i f).eths = s.eths := rfl
@[simp] theorem State.modBank_stream (s : State) i f : (s.modBank i f).stream = s.stream := rfl
@[simp] theorem State.modBank_clock (s : State) i f : (s.modBank i f).clock = s.clock := rfl
@[simp] theorem State.modBank_corr (s : State) i f : (s.modBank i f).corr = s.corr := rfl
@[simp] theorem State.modBank_est (s : State) i f : (s.modBank i f).est = s.est := rfl
@[simp] theorem State.modBank_store (s : State) i f : (s.modBank i f).store = s.store := rfl
@[simp] theorem State.modBank_heldReq (s : State) i f : (s.modBank i f).heldReq = s.heldReq := rfl
@[simp] theorem State.modBank_waitingWrites (s : State) i f : (s.modBank i f).waitingWrites = s.waitingWrites := rfl

/-! ## `modGate` -/

@[simp] theorem State.modGate_now (s : State) i f : (s.modGate i f).now = s.now := rfl
@[simp] theorem State.modGate_pending (s : State) i f : (s.modGate i f).pending = s.pending := rfl
@[simp] theorem State.modGate_free (s : State) i f : (s.modGate i f).free = s.free := rfl
@[simp] theorem State.modGate_serial (s : State) i f : (s.modGate i f).serial = s.serial := rfl
@[simp] theorem State.modGate_ident (s : State) i f : (s.modGate i f).ident = s.ident := rfl
@[simp] theorem State.modGate_utcBase (s : State) i f : (s.modGate i f).utcBase = s.utcBase := rfl
@[simp] theorem State.modGate_utcAt (s : State) i f : (s.modGate i f).utcAt = s.utcAt := rfl
@[simp] theorem State.modGate_irq (s : State) i f : (s.modGate i f).irq = s.irq := rfl
@[simp] theorem State.modGate_evlog (s : State) i f : (s.modGate i f).evlog = s.evlog := rfl
@[simp] theorem State.modGate_fc (s : State) i f : (s.modGate i f).fc = s.fc := rfl
@[simp] theorem State.modGate_supply (s : State) i f : (s.modGate i f).supply = s.supply := rfl
@[simp] theorem State.modGate_start (s : State) i f : (s.modGate i f).start = s.start := rfl
@[simp] theorem State.modGate_mode (s : State) i f : (s.modGate i f).mode = s.mode := rfl
@[simp] theorem State.modGate_cores (s : State) i f : (s.modGate i f).cores = s.cores := rfl
@[simp] theorem State.modGate_health (s : State) i f : (s.modGate i f).health = s.health := rfl
@[simp] theorem State.modGate_strs (s : State) i f : (s.modGate i f).strs = s.strs := rfl
@[simp] theorem State.modGate_banks (s : State) i f : (s.modGate i f).banks = s.banks := rfl
@[simp] theorem State.modGate_gates (s : State) i f : (s.modGate i f).gates = upd s.gates i f := rfl
@[simp] theorem State.modGate_gateBlock (s : State) i f : (s.modGate i f).gateBlock = s.gateBlock := rfl
@[simp] theorem State.modGate_bstr (s : State) i f : (s.modGate i f).bstr = s.bstr := rfl
@[simp] theorem State.modGate_belay (s : State) i f : (s.modGate i f).belay = s.belay := rfl
@[simp] theorem State.modGate_io (s : State) i f : (s.modGate i f).io = s.io := rfl
@[simp] theorem State.modGate_dict (s : State) i f : (s.modGate i f).dict = s.dict := rfl
@[simp] theorem State.modGate_seng (s : State) i f : (s.modGate i f).seng = s.seng := rfl
@[simp] theorem State.modGate_therm (s : State) i f : (s.modGate i f).therm = s.therm := rfl
@[simp] theorem State.modGate_cans (s : State) i f : (s.modGate i f).cans = s.cans := rfl
@[simp] theorem State.modGate_ropes (s : State) i f : (s.modGate i f).ropes = s.ropes := rfl
@[simp] theorem State.modGate_nodes (s : State) i f : (s.modGate i f).nodes = s.nodes := rfl
@[simp] theorem State.modGate_trav (s : State) i f : (s.modGate i f).trav = s.trav := rfl
@[simp] theorem State.modGate_bal (s : State) i f : (s.modGate i f).bal = s.bal := rfl
@[simp] theorem State.modGate_eths (s : State) i f : (s.modGate i f).eths = s.eths := rfl
@[simp] theorem State.modGate_stream (s : State) i f : (s.modGate i f).stream = s.stream := rfl
@[simp] theorem State.modGate_clock (s : State) i f : (s.modGate i f).clock = s.clock := rfl
@[simp] theorem State.modGate_corr (s : State) i f : (s.modGate i f).corr = s.corr := rfl
@[simp] theorem State.modGate_est (s : State) i f : (s.modGate i f).est = s.est := rfl
@[simp] theorem State.modGate_store (s : State) i f : (s.modGate i f).store = s.store := rfl
@[simp] theorem State.modGate_heldReq (s : State) i f : (s.modGate i f).heldReq = s.heldReq := rfl
@[simp] theorem State.modGate_waitingWrites (s : State) i f : (s.modGate i f).waitingWrites = s.waitingWrites := rfl

/-! ## `modBStr` -/

@[simp] theorem State.modBStr_now (s : State) i f : (s.modBStr i f).now = s.now := rfl
@[simp] theorem State.modBStr_pending (s : State) i f : (s.modBStr i f).pending = s.pending := rfl
@[simp] theorem State.modBStr_free (s : State) i f : (s.modBStr i f).free = s.free := rfl
@[simp] theorem State.modBStr_serial (s : State) i f : (s.modBStr i f).serial = s.serial := rfl
@[simp] theorem State.modBStr_ident (s : State) i f : (s.modBStr i f).ident = s.ident := rfl
@[simp] theorem State.modBStr_utcBase (s : State) i f : (s.modBStr i f).utcBase = s.utcBase := rfl
@[simp] theorem State.modBStr_utcAt (s : State) i f : (s.modBStr i f).utcAt = s.utcAt := rfl
@[simp] theorem State.modBStr_irq (s : State) i f : (s.modBStr i f).irq = s.irq := rfl
@[simp] theorem State.modBStr_evlog (s : State) i f : (s.modBStr i f).evlog = s.evlog := rfl
@[simp] theorem State.modBStr_fc (s : State) i f : (s.modBStr i f).fc = s.fc := rfl
@[simp] theorem State.modBStr_supply (s : State) i f : (s.modBStr i f).supply = s.supply := rfl
@[simp] theorem State.modBStr_start (s : State) i f : (s.modBStr i f).start = s.start := rfl
@[simp] theorem State.modBStr_mode (s : State) i f : (s.modBStr i f).mode = s.mode := rfl
@[simp] theorem State.modBStr_cores (s : State) i f : (s.modBStr i f).cores = s.cores := rfl
@[simp] theorem State.modBStr_health (s : State) i f : (s.modBStr i f).health = s.health := rfl
@[simp] theorem State.modBStr_strs (s : State) i f : (s.modBStr i f).strs = s.strs := rfl
@[simp] theorem State.modBStr_banks (s : State) i f : (s.modBStr i f).banks = s.banks := rfl
@[simp] theorem State.modBStr_gates (s : State) i f : (s.modBStr i f).gates = s.gates := rfl
@[simp] theorem State.modBStr_gateBlock (s : State) i f : (s.modBStr i f).gateBlock = s.gateBlock := rfl
@[simp] theorem State.modBStr_bstr (s : State) i f : (s.modBStr i f).bstr = upd s.bstr i f := rfl
@[simp] theorem State.modBStr_belay (s : State) i f : (s.modBStr i f).belay = s.belay := rfl
@[simp] theorem State.modBStr_io (s : State) i f : (s.modBStr i f).io = s.io := rfl
@[simp] theorem State.modBStr_dict (s : State) i f : (s.modBStr i f).dict = s.dict := rfl
@[simp] theorem State.modBStr_seng (s : State) i f : (s.modBStr i f).seng = s.seng := rfl
@[simp] theorem State.modBStr_therm (s : State) i f : (s.modBStr i f).therm = s.therm := rfl
@[simp] theorem State.modBStr_cans (s : State) i f : (s.modBStr i f).cans = s.cans := rfl
@[simp] theorem State.modBStr_ropes (s : State) i f : (s.modBStr i f).ropes = s.ropes := rfl
@[simp] theorem State.modBStr_nodes (s : State) i f : (s.modBStr i f).nodes = s.nodes := rfl
@[simp] theorem State.modBStr_trav (s : State) i f : (s.modBStr i f).trav = s.trav := rfl
@[simp] theorem State.modBStr_bal (s : State) i f : (s.modBStr i f).bal = s.bal := rfl
@[simp] theorem State.modBStr_eths (s : State) i f : (s.modBStr i f).eths = s.eths := rfl
@[simp] theorem State.modBStr_stream (s : State) i f : (s.modBStr i f).stream = s.stream := rfl
@[simp] theorem State.modBStr_clock (s : State) i f : (s.modBStr i f).clock = s.clock := rfl
@[simp] theorem State.modBStr_corr (s : State) i f : (s.modBStr i f).corr = s.corr := rfl
@[simp] theorem State.modBStr_est (s : State) i f : (s.modBStr i f).est = s.est := rfl
@[simp] theorem State.modBStr_store (s : State) i f : (s.modBStr i f).store = s.store := rfl
@[simp] theorem State.modBStr_heldReq (s : State) i f : (s.modBStr i f).heldReq = s.heldReq := rfl
@[simp] theorem State.modBStr_waitingWrites (s : State) i f : (s.modBStr i f).waitingWrites = s.waitingWrites := rfl

/-! ## `modBelay` -/

@[simp] theorem State.modBelay_now (s : State) f : (s.modBelay f).now = s.now := rfl
@[simp] theorem State.modBelay_pending (s : State) f : (s.modBelay f).pending = s.pending := rfl
@[simp] theorem State.modBelay_free (s : State) f : (s.modBelay f).free = s.free := rfl
@[simp] theorem State.modBelay_serial (s : State) f : (s.modBelay f).serial = s.serial := rfl
@[simp] theorem State.modBelay_ident (s : State) f : (s.modBelay f).ident = s.ident := rfl
@[simp] theorem State.modBelay_utcBase (s : State) f : (s.modBelay f).utcBase = s.utcBase := rfl
@[simp] theorem State.modBelay_utcAt (s : State) f : (s.modBelay f).utcAt = s.utcAt := rfl
@[simp] theorem State.modBelay_irq (s : State) f : (s.modBelay f).irq = s.irq := rfl
@[simp] theorem State.modBelay_evlog (s : State) f : (s.modBelay f).evlog = s.evlog := rfl
@[simp] theorem State.modBelay_fc (s : State) f : (s.modBelay f).fc = s.fc := rfl
@[simp] theorem State.modBelay_supply (s : State) f : (s.modBelay f).supply = s.supply := rfl
@[simp] theorem State.modBelay_start (s : State) f : (s.modBelay f).start = s.start := rfl
@[simp] theorem State.modBelay_mode (s : State) f : (s.modBelay f).mode = s.mode := rfl
@[simp] theorem State.modBelay_cores (s : State) f : (s.modBelay f).cores = s.cores := rfl
@[simp] theorem State.modBelay_health (s : State) f : (s.modBelay f).health = s.health := rfl
@[simp] theorem State.modBelay_strs (s : State) f : (s.modBelay f).strs = s.strs := rfl
@[simp] theorem State.modBelay_banks (s : State) f : (s.modBelay f).banks = s.banks := rfl
@[simp] theorem State.modBelay_gates (s : State) f : (s.modBelay f).gates = s.gates := rfl
@[simp] theorem State.modBelay_gateBlock (s : State) f : (s.modBelay f).gateBlock = s.gateBlock := rfl
@[simp] theorem State.modBelay_bstr (s : State) f : (s.modBelay f).bstr = s.bstr := rfl
@[simp] theorem State.modBelay_belay (s : State) f : (s.modBelay f).belay = f s.belay := rfl
@[simp] theorem State.modBelay_io (s : State) f : (s.modBelay f).io = s.io := rfl
@[simp] theorem State.modBelay_dict (s : State) f : (s.modBelay f).dict = s.dict := rfl
@[simp] theorem State.modBelay_seng (s : State) f : (s.modBelay f).seng = s.seng := rfl
@[simp] theorem State.modBelay_therm (s : State) f : (s.modBelay f).therm = s.therm := rfl
@[simp] theorem State.modBelay_cans (s : State) f : (s.modBelay f).cans = s.cans := rfl
@[simp] theorem State.modBelay_ropes (s : State) f : (s.modBelay f).ropes = s.ropes := rfl
@[simp] theorem State.modBelay_nodes (s : State) f : (s.modBelay f).nodes = s.nodes := rfl
@[simp] theorem State.modBelay_trav (s : State) f : (s.modBelay f).trav = s.trav := rfl
@[simp] theorem State.modBelay_bal (s : State) f : (s.modBelay f).bal = s.bal := rfl
@[simp] theorem State.modBelay_eths (s : State) f : (s.modBelay f).eths = s.eths := rfl
@[simp] theorem State.modBelay_stream (s : State) f : (s.modBelay f).stream = s.stream := rfl
@[simp] theorem State.modBelay_clock (s : State) f : (s.modBelay f).clock = s.clock := rfl
@[simp] theorem State.modBelay_corr (s : State) f : (s.modBelay f).corr = s.corr := rfl
@[simp] theorem State.modBelay_est (s : State) f : (s.modBelay f).est = s.est := rfl
@[simp] theorem State.modBelay_store (s : State) f : (s.modBelay f).store = s.store := rfl
@[simp] theorem State.modBelay_heldReq (s : State) f : (s.modBelay f).heldReq = s.heldReq := rfl
@[simp] theorem State.modBelay_waitingWrites (s : State) f : (s.modBelay f).waitingWrites = s.waitingWrites := rfl

/-! ## `modIn` -/

@[simp] theorem State.modIn_now (s : State) i f : (s.modIn i f).now = s.now := rfl
@[simp] theorem State.modIn_pending (s : State) i f : (s.modIn i f).pending = s.pending := rfl
@[simp] theorem State.modIn_free (s : State) i f : (s.modIn i f).free = s.free := rfl
@[simp] theorem State.modIn_serial (s : State) i f : (s.modIn i f).serial = s.serial := rfl
@[simp] theorem State.modIn_ident (s : State) i f : (s.modIn i f).ident = s.ident := rfl
@[simp] theorem State.modIn_utcBase (s : State) i f : (s.modIn i f).utcBase = s.utcBase := rfl
@[simp] theorem State.modIn_utcAt (s : State) i f : (s.modIn i f).utcAt = s.utcAt := rfl
@[simp] theorem State.modIn_irq (s : State) i f : (s.modIn i f).irq = s.irq := rfl
@[simp] theorem State.modIn_evlog (s : State) i f : (s.modIn i f).evlog = s.evlog := rfl
@[simp] theorem State.modIn_fc (s : State) i f : (s.modIn i f).fc = s.fc := rfl
@[simp] theorem State.modIn_supply (s : State) i f : (s.modIn i f).supply = s.supply := rfl
@[simp] theorem State.modIn_start (s : State) i f : (s.modIn i f).start = s.start := rfl
@[simp] theorem State.modIn_mode (s : State) i f : (s.modIn i f).mode = s.mode := rfl
@[simp] theorem State.modIn_cores (s : State) i f : (s.modIn i f).cores = s.cores := rfl
@[simp] theorem State.modIn_health (s : State) i f : (s.modIn i f).health = s.health := rfl
@[simp] theorem State.modIn_strs (s : State) i f : (s.modIn i f).strs = s.strs := rfl
@[simp] theorem State.modIn_banks (s : State) i f : (s.modIn i f).banks = s.banks := rfl
@[simp] theorem State.modIn_gates (s : State) i f : (s.modIn i f).gates = s.gates := rfl
@[simp] theorem State.modIn_gateBlock (s : State) i f : (s.modIn i f).gateBlock = s.gateBlock := rfl
@[simp] theorem State.modIn_bstr (s : State) i f : (s.modIn i f).bstr = s.bstr := rfl
@[simp] theorem State.modIn_belay (s : State) i f : (s.modIn i f).belay = s.belay := rfl
@[simp] theorem State.modIn_io (s : State) i f : (s.modIn i f).io = { s.io with inputs := upd s.io.inputs i f } := rfl
@[simp] theorem State.modIn_dict (s : State) i f : (s.modIn i f).dict = s.dict := rfl
@[simp] theorem State.modIn_seng (s : State) i f : (s.modIn i f).seng = s.seng := rfl
@[simp] theorem State.modIn_therm (s : State) i f : (s.modIn i f).therm = s.therm := rfl
@[simp] theorem State.modIn_cans (s : State) i f : (s.modIn i f).cans = s.cans := rfl
@[simp] theorem State.modIn_ropes (s : State) i f : (s.modIn i f).ropes = s.ropes := rfl
@[simp] theorem State.modIn_nodes (s : State) i f : (s.modIn i f).nodes = s.nodes := rfl
@[simp] theorem State.modIn_trav (s : State) i f : (s.modIn i f).trav = s.trav := rfl
@[simp] theorem State.modIn_bal (s : State) i f : (s.modIn i f).bal = s.bal := rfl
@[simp] theorem State.modIn_eths (s : State) i f : (s.modIn i f).eths = s.eths := rfl
@[simp] theorem State.modIn_stream (s : State) i f : (s.modIn i f).stream = s.stream := rfl
@[simp] theorem State.modIn_clock (s : State) i f : (s.modIn i f).clock = s.clock := rfl
@[simp] theorem State.modIn_corr (s : State) i f : (s.modIn i f).corr = s.corr := rfl
@[simp] theorem State.modIn_est (s : State) i f : (s.modIn i f).est = s.est := rfl
@[simp] theorem State.modIn_store (s : State) i f : (s.modIn i f).store = s.store := rfl
@[simp] theorem State.modIn_heldReq (s : State) i f : (s.modIn i f).heldReq = s.heldReq := rfl
@[simp] theorem State.modIn_waitingWrites (s : State) i f : (s.modIn i f).waitingWrites = s.waitingWrites := rfl

/-! ## `modQ` -/

@[simp] theorem State.modQ_now (s : State) i f : (s.modQ i f).now = s.now := rfl
@[simp] theorem State.modQ_pending (s : State) i f : (s.modQ i f).pending = s.pending := rfl
@[simp] theorem State.modQ_free (s : State) i f : (s.modQ i f).free = s.free := rfl
@[simp] theorem State.modQ_serial (s : State) i f : (s.modQ i f).serial = s.serial := rfl
@[simp] theorem State.modQ_ident (s : State) i f : (s.modQ i f).ident = s.ident := rfl
@[simp] theorem State.modQ_utcBase (s : State) i f : (s.modQ i f).utcBase = s.utcBase := rfl
@[simp] theorem State.modQ_utcAt (s : State) i f : (s.modQ i f).utcAt = s.utcAt := rfl
@[simp] theorem State.modQ_irq (s : State) i f : (s.modQ i f).irq = s.irq := rfl
@[simp] theorem State.modQ_evlog (s : State) i f : (s.modQ i f).evlog = s.evlog := rfl
@[simp] theorem State.modQ_fc (s : State) i f : (s.modQ i f).fc = s.fc := rfl
@[simp] theorem State.modQ_supply (s : State) i f : (s.modQ i f).supply = s.supply := rfl
@[simp] theorem State.modQ_start (s : State) i f : (s.modQ i f).start = s.start := rfl
@[simp] theorem State.modQ_mode (s : State) i f : (s.modQ i f).mode = s.mode := rfl
@[simp] theorem State.modQ_cores (s : State) i f : (s.modQ i f).cores = s.cores := rfl
@[simp] theorem State.modQ_health (s : State) i f : (s.modQ i f).health = s.health := rfl
@[simp] theorem State.modQ_strs (s : State) i f : (s.modQ i f).strs = s.strs := rfl
@[simp] theorem State.modQ_banks (s : State) i f : (s.modQ i f).banks = s.banks := rfl
@[simp] theorem State.modQ_gates (s : State) i f : (s.modQ i f).gates = s.gates := rfl
@[simp] theorem State.modQ_gateBlock (s : State) i f : (s.modQ i f).gateBlock = s.gateBlock := rfl
@[simp] theorem State.modQ_bstr (s : State) i f : (s.modQ i f).bstr = s.bstr := rfl
@[simp] theorem State.modQ_belay (s : State) i f : (s.modQ i f).belay = s.belay := rfl
@[simp] theorem State.modQ_io (s : State) i f : (s.modQ i f).io = { s.io with outputs := upd s.io.outputs i f } := rfl
@[simp] theorem State.modQ_dict (s : State) i f : (s.modQ i f).dict = s.dict := rfl
@[simp] theorem State.modQ_seng (s : State) i f : (s.modQ i f).seng = s.seng := rfl
@[simp] theorem State.modQ_therm (s : State) i f : (s.modQ i f).therm = s.therm := rfl
@[simp] theorem State.modQ_cans (s : State) i f : (s.modQ i f).cans = s.cans := rfl
@[simp] theorem State.modQ_ropes (s : State) i f : (s.modQ i f).ropes = s.ropes := rfl
@[simp] theorem State.modQ_nodes (s : State) i f : (s.modQ i f).nodes = s.nodes := rfl
@[simp] theorem State.modQ_trav (s : State) i f : (s.modQ i f).trav = s.trav := rfl
@[simp] theorem State.modQ_bal (s : State) i f : (s.modQ i f).bal = s.bal := rfl
@[simp] theorem State.modQ_eths (s : State) i f : (s.modQ i f).eths = s.eths := rfl
@[simp] theorem State.modQ_stream (s : State) i f : (s.modQ i f).stream = s.stream := rfl
@[simp] theorem State.modQ_clock (s : State) i f : (s.modQ i f).clock = s.clock := rfl
@[simp] theorem State.modQ_corr (s : State) i f : (s.modQ i f).corr = s.corr := rfl
@[simp] theorem State.modQ_est (s : State) i f : (s.modQ i f).est = s.est := rfl
@[simp] theorem State.modQ_store (s : State) i f : (s.modQ i f).store = s.store := rfl
@[simp] theorem State.modQ_heldReq (s : State) i f : (s.modQ i f).heldReq = s.heldReq := rfl
@[simp] theorem State.modQ_waitingWrites (s : State) i f : (s.modQ i f).waitingWrites = s.waitingWrites := rfl

/-! ## `modSm` -/

@[simp] theorem State.modSm_now (s : State) i f : (s.modSm i f).now = s.now := rfl
@[simp] theorem State.modSm_pending (s : State) i f : (s.modSm i f).pending = s.pending := rfl
@[simp] theorem State.modSm_free (s : State) i f : (s.modSm i f).free = s.free := rfl
@[simp] theorem State.modSm_serial (s : State) i f : (s.modSm i f).serial = s.serial := rfl
@[simp] theorem State.modSm_ident (s : State) i f : (s.modSm i f).ident = s.ident := rfl
@[simp] theorem State.modSm_utcBase (s : State) i f : (s.modSm i f).utcBase = s.utcBase := rfl
@[simp] theorem State.modSm_utcAt (s : State) i f : (s.modSm i f).utcAt = s.utcAt := rfl
@[simp] theorem State.modSm_irq (s : State) i f : (s.modSm i f).irq = s.irq := rfl
@[simp] theorem State.modSm_evlog (s : State) i f : (s.modSm i f).evlog = s.evlog := rfl
@[simp] theorem State.modSm_fc (s : State) i f : (s.modSm i f).fc = s.fc := rfl
@[simp] theorem State.modSm_supply (s : State) i f : (s.modSm i f).supply = s.supply := rfl
@[simp] theorem State.modSm_start (s : State) i f : (s.modSm i f).start = s.start := rfl
@[simp] theorem State.modSm_mode (s : State) i f : (s.modSm i f).mode = s.mode := rfl
@[simp] theorem State.modSm_cores (s : State) i f : (s.modSm i f).cores = s.cores := rfl
@[simp] theorem State.modSm_health (s : State) i f : (s.modSm i f).health = s.health := rfl
@[simp] theorem State.modSm_strs (s : State) i f : (s.modSm i f).strs = s.strs := rfl
@[simp] theorem State.modSm_banks (s : State) i f : (s.modSm i f).banks = s.banks := rfl
@[simp] theorem State.modSm_gates (s : State) i f : (s.modSm i f).gates = s.gates := rfl
@[simp] theorem State.modSm_gateBlock (s : State) i f : (s.modSm i f).gateBlock = s.gateBlock := rfl
@[simp] theorem State.modSm_bstr (s : State) i f : (s.modSm i f).bstr = s.bstr := rfl
@[simp] theorem State.modSm_belay (s : State) i f : (s.modSm i f).belay = s.belay := rfl
@[simp] theorem State.modSm_io (s : State) i f : (s.modSm i f).io = { s.io with streams := upd s.io.streams i f } := rfl
@[simp] theorem State.modSm_dict (s : State) i f : (s.modSm i f).dict = s.dict := rfl
@[simp] theorem State.modSm_seng (s : State) i f : (s.modSm i f).seng = s.seng := rfl
@[simp] theorem State.modSm_therm (s : State) i f : (s.modSm i f).therm = s.therm := rfl
@[simp] theorem State.modSm_cans (s : State) i f : (s.modSm i f).cans = s.cans := rfl
@[simp] theorem State.modSm_ropes (s : State) i f : (s.modSm i f).ropes = s.ropes := rfl
@[simp] theorem State.modSm_nodes (s : State) i f : (s.modSm i f).nodes = s.nodes := rfl
@[simp] theorem State.modSm_trav (s : State) i f : (s.modSm i f).trav = s.trav := rfl
@[simp] theorem State.modSm_bal (s : State) i f : (s.modSm i f).bal = s.bal := rfl
@[simp] theorem State.modSm_eths (s : State) i f : (s.modSm i f).eths = s.eths := rfl
@[simp] theorem State.modSm_stream (s : State) i f : (s.modSm i f).stream = s.stream := rfl
@[simp] theorem State.modSm_clock (s : State) i f : (s.modSm i f).clock = s.clock := rfl
@[simp] theorem State.modSm_corr (s : State) i f : (s.modSm i f).corr = s.corr := rfl
@[simp] theorem State.modSm_est (s : State) i f : (s.modSm i f).est = s.est := rfl
@[simp] theorem State.modSm_store (s : State) i f : (s.modSm i f).store = s.store := rfl
@[simp] theorem State.modSm_heldReq (s : State) i f : (s.modSm i f).heldReq = s.heldReq := rfl
@[simp] theorem State.modSm_waitingWrites (s : State) i f : (s.modSm i f).waitingWrites = s.waitingWrites := rfl

/-! ## `modTp` -/

@[simp] theorem State.modTp_now (s : State) i f : (s.modTp i f).now = s.now := rfl
@[simp] theorem State.modTp_pending (s : State) i f : (s.modTp i f).pending = s.pending := rfl
@[simp] theorem State.modTp_free (s : State) i f : (s.modTp i f).free = s.free := rfl
@[simp] theorem State.modTp_serial (s : State) i f : (s.modTp i f).serial = s.serial := rfl
@[simp] theorem State.modTp_ident (s : State) i f : (s.modTp i f).ident = s.ident := rfl
@[simp] theorem State.modTp_utcBase (s : State) i f : (s.modTp i f).utcBase = s.utcBase := rfl
@[simp] theorem State.modTp_utcAt (s : State) i f : (s.modTp i f).utcAt = s.utcAt := rfl
@[simp] theorem State.modTp_irq (s : State) i f : (s.modTp i f).irq = s.irq := rfl
@[simp] theorem State.modTp_evlog (s : State) i f : (s.modTp i f).evlog = s.evlog := rfl
@[simp] theorem State.modTp_fc (s : State) i f : (s.modTp i f).fc = s.fc := rfl
@[simp] theorem State.modTp_supply (s : State) i f : (s.modTp i f).supply = s.supply := rfl
@[simp] theorem State.modTp_start (s : State) i f : (s.modTp i f).start = s.start := rfl
@[simp] theorem State.modTp_mode (s : State) i f : (s.modTp i f).mode = s.mode := rfl
@[simp] theorem State.modTp_cores (s : State) i f : (s.modTp i f).cores = s.cores := rfl
@[simp] theorem State.modTp_health (s : State) i f : (s.modTp i f).health = s.health := rfl
@[simp] theorem State.modTp_strs (s : State) i f : (s.modTp i f).strs = s.strs := rfl
@[simp] theorem State.modTp_banks (s : State) i f : (s.modTp i f).banks = s.banks := rfl
@[simp] theorem State.modTp_gates (s : State) i f : (s.modTp i f).gates = s.gates := rfl
@[simp] theorem State.modTp_gateBlock (s : State) i f : (s.modTp i f).gateBlock = s.gateBlock := rfl
@[simp] theorem State.modTp_bstr (s : State) i f : (s.modTp i f).bstr = s.bstr := rfl
@[simp] theorem State.modTp_belay (s : State) i f : (s.modTp i f).belay = s.belay := rfl
@[simp] theorem State.modTp_io (s : State) i f : (s.modTp i f).io = { s.io with supplies := upd s.io.supplies i f } := rfl
@[simp] theorem State.modTp_dict (s : State) i f : (s.modTp i f).dict = s.dict := rfl
@[simp] theorem State.modTp_seng (s : State) i f : (s.modTp i f).seng = s.seng := rfl
@[simp] theorem State.modTp_therm (s : State) i f : (s.modTp i f).therm = s.therm := rfl
@[simp] theorem State.modTp_cans (s : State) i f : (s.modTp i f).cans = s.cans := rfl
@[simp] theorem State.modTp_ropes (s : State) i f : (s.modTp i f).ropes = s.ropes := rfl
@[simp] theorem State.modTp_nodes (s : State) i f : (s.modTp i f).nodes = s.nodes := rfl
@[simp] theorem State.modTp_trav (s : State) i f : (s.modTp i f).trav = s.trav := rfl
@[simp] theorem State.modTp_bal (s : State) i f : (s.modTp i f).bal = s.bal := rfl
@[simp] theorem State.modTp_eths (s : State) i f : (s.modTp i f).eths = s.eths := rfl
@[simp] theorem State.modTp_stream (s : State) i f : (s.modTp i f).stream = s.stream := rfl
@[simp] theorem State.modTp_clock (s : State) i f : (s.modTp i f).clock = s.clock := rfl
@[simp] theorem State.modTp_corr (s : State) i f : (s.modTp i f).corr = s.corr := rfl
@[simp] theorem State.modTp_est (s : State) i f : (s.modTp i f).est = s.est := rfl
@[simp] theorem State.modTp_store (s : State) i f : (s.modTp i f).store = s.store := rfl
@[simp] theorem State.modTp_heldReq (s : State) i f : (s.modTp i f).heldReq = s.heldReq := rfl
@[simp] theorem State.modTp_waitingWrites (s : State) i f : (s.modTp i f).waitingWrites = s.waitingWrites := rfl

/-! ## `modSupply` -/

@[simp] theorem State.modSupply_now (s : State) f : (s.modSupply f).now = s.now := rfl
@[simp] theorem State.modSupply_pending (s : State) f : (s.modSupply f).pending = s.pending := rfl
@[simp] theorem State.modSupply_free (s : State) f : (s.modSupply f).free = s.free := rfl
@[simp] theorem State.modSupply_serial (s : State) f : (s.modSupply f).serial = s.serial := rfl
@[simp] theorem State.modSupply_ident (s : State) f : (s.modSupply f).ident = s.ident := rfl
@[simp] theorem State.modSupply_utcBase (s : State) f : (s.modSupply f).utcBase = s.utcBase := rfl
@[simp] theorem State.modSupply_utcAt (s : State) f : (s.modSupply f).utcAt = s.utcAt := rfl
@[simp] theorem State.modSupply_irq (s : State) f : (s.modSupply f).irq = s.irq := rfl
@[simp] theorem State.modSupply_evlog (s : State) f : (s.modSupply f).evlog = s.evlog := rfl
@[simp] theorem State.modSupply_fc (s : State) f : (s.modSupply f).fc = s.fc := rfl
@[simp] theorem State.modSupply_supply (s : State) f : (s.modSupply f).supply = f s.supply := rfl
@[simp] theorem State.modSupply_start (s : State) f : (s.modSupply f).start = s.start := rfl
@[simp] theorem State.modSupply_mode (s : State) f : (s.modSupply f).mode = s.mode := rfl
@[simp] theorem State.modSupply_cores (s : State) f : (s.modSupply f).cores = s.cores := rfl
@[simp] theorem State.modSupply_health (s : State) f : (s.modSupply f).health = s.health := rfl
@[simp] theorem State.modSupply_strs (s : State) f : (s.modSupply f).strs = s.strs := rfl
@[simp] theorem State.modSupply_banks (s : State) f : (s.modSupply f).banks = s.banks := rfl
@[simp] theorem State.modSupply_gates (s : State) f : (s.modSupply f).gates = s.gates := rfl
@[simp] theorem State.modSupply_gateBlock (s : State) f : (s.modSupply f).gateBlock = s.gateBlock := rfl
@[simp] theorem State.modSupply_bstr (s : State) f : (s.modSupply f).bstr = s.bstr := rfl
@[simp] theorem State.modSupply_belay (s : State) f : (s.modSupply f).belay = s.belay := rfl
@[simp] theorem State.modSupply_io (s : State) f : (s.modSupply f).io = s.io := rfl
@[simp] theorem State.modSupply_dict (s : State) f : (s.modSupply f).dict = s.dict := rfl
@[simp] theorem State.modSupply_seng (s : State) f : (s.modSupply f).seng = s.seng := rfl
@[simp] theorem State.modSupply_therm (s : State) f : (s.modSupply f).therm = s.therm := rfl
@[simp] theorem State.modSupply_cans (s : State) f : (s.modSupply f).cans = s.cans := rfl
@[simp] theorem State.modSupply_ropes (s : State) f : (s.modSupply f).ropes = s.ropes := rfl
@[simp] theorem State.modSupply_nodes (s : State) f : (s.modSupply f).nodes = s.nodes := rfl
@[simp] theorem State.modSupply_trav (s : State) f : (s.modSupply f).trav = s.trav := rfl
@[simp] theorem State.modSupply_bal (s : State) f : (s.modSupply f).bal = s.bal := rfl
@[simp] theorem State.modSupply_eths (s : State) f : (s.modSupply f).eths = s.eths := rfl
@[simp] theorem State.modSupply_stream (s : State) f : (s.modSupply f).stream = s.stream := rfl
@[simp] theorem State.modSupply_clock (s : State) f : (s.modSupply f).clock = s.clock := rfl
@[simp] theorem State.modSupply_corr (s : State) f : (s.modSupply f).corr = s.corr := rfl
@[simp] theorem State.modSupply_est (s : State) f : (s.modSupply f).est = s.est := rfl
@[simp] theorem State.modSupply_store (s : State) f : (s.modSupply f).store = s.store := rfl
@[simp] theorem State.modSupply_heldReq (s : State) f : (s.modSupply f).heldReq = s.heldReq := rfl
@[simp] theorem State.modSupply_waitingWrites (s : State) f : (s.modSupply f).waitingWrites = s.waitingWrites := rfl

/-! ## `modStart` -/

@[simp] theorem State.modStart_now (s : State) f : (s.modStart f).now = s.now := rfl
@[simp] theorem State.modStart_pending (s : State) f : (s.modStart f).pending = s.pending := rfl
@[simp] theorem State.modStart_free (s : State) f : (s.modStart f).free = s.free := rfl
@[simp] theorem State.modStart_serial (s : State) f : (s.modStart f).serial = s.serial := rfl
@[simp] theorem State.modStart_ident (s : State) f : (s.modStart f).ident = s.ident := rfl
@[simp] theorem State.modStart_utcBase (s : State) f : (s.modStart f).utcBase = s.utcBase := rfl
@[simp] theorem State.modStart_utcAt (s : State) f : (s.modStart f).utcAt = s.utcAt := rfl
@[simp] theorem State.modStart_irq (s : State) f : (s.modStart f).irq = s.irq := rfl
@[simp] theorem State.modStart_evlog (s : State) f : (s.modStart f).evlog = s.evlog := rfl
@[simp] theorem State.modStart_fc (s : State) f : (s.modStart f).fc = s.fc := rfl
@[simp] theorem State.modStart_supply (s : State) f : (s.modStart f).supply = s.supply := rfl
@[simp] theorem State.modStart_start (s : State) f : (s.modStart f).start = f s.start := rfl
@[simp] theorem State.modStart_mode (s : State) f : (s.modStart f).mode = s.mode := rfl
@[simp] theorem State.modStart_cores (s : State) f : (s.modStart f).cores = s.cores := rfl
@[simp] theorem State.modStart_health (s : State) f : (s.modStart f).health = s.health := rfl
@[simp] theorem State.modStart_strs (s : State) f : (s.modStart f).strs = s.strs := rfl
@[simp] theorem State.modStart_banks (s : State) f : (s.modStart f).banks = s.banks := rfl
@[simp] theorem State.modStart_gates (s : State) f : (s.modStart f).gates = s.gates := rfl
@[simp] theorem State.modStart_gateBlock (s : State) f : (s.modStart f).gateBlock = s.gateBlock := rfl
@[simp] theorem State.modStart_bstr (s : State) f : (s.modStart f).bstr = s.bstr := rfl
@[simp] theorem State.modStart_belay (s : State) f : (s.modStart f).belay = s.belay := rfl
@[simp] theorem State.modStart_io (s : State) f : (s.modStart f).io = s.io := rfl
@[simp] theorem State.modStart_dict (s : State) f : (s.modStart f).dict = s.dict := rfl
@[simp] theorem State.modStart_seng (s : State) f : (s.modStart f).seng = s.seng := rfl
@[simp] theorem State.modStart_therm (s : State) f : (s.modStart f).therm = s.therm := rfl
@[simp] theorem State.modStart_cans (s : State) f : (s.modStart f).cans = s.cans := rfl
@[simp] theorem State.modStart_ropes (s : State) f : (s.modStart f).ropes = s.ropes := rfl
@[simp] theorem State.modStart_nodes (s : State) f : (s.modStart f).nodes = s.nodes := rfl
@[simp] theorem State.modStart_trav (s : State) f : (s.modStart f).trav = s.trav := rfl
@[simp] theorem State.modStart_bal (s : State) f : (s.modStart f).bal = s.bal := rfl
@[simp] theorem State.modStart_eths (s : State) f : (s.modStart f).eths = s.eths := rfl
@[simp] theorem State.modStart_stream (s : State) f : (s.modStart f).stream = s.stream := rfl
@[simp] theorem State.modStart_clock (s : State) f : (s.modStart f).clock = s.clock := rfl
@[simp] theorem State.modStart_corr (s : State) f : (s.modStart f).corr = s.corr := rfl
@[simp] theorem State.modStart_est (s : State) f : (s.modStart f).est = s.est := rfl
@[simp] theorem State.modStart_store (s : State) f : (s.modStart f).store = s.store := rfl
@[simp] theorem State.modStart_heldReq (s : State) f : (s.modStart f).heldReq = s.heldReq := rfl
@[simp] theorem State.modStart_waitingWrites (s : State) f : (s.modStart f).waitingWrites = s.waitingWrites := rfl

/-! ## `modHealth` -/

@[simp] theorem State.modHealth_now (s : State) f : (s.modHealth f).now = s.now := rfl
@[simp] theorem State.modHealth_pending (s : State) f : (s.modHealth f).pending = s.pending := rfl
@[simp] theorem State.modHealth_free (s : State) f : (s.modHealth f).free = s.free := rfl
@[simp] theorem State.modHealth_serial (s : State) f : (s.modHealth f).serial = s.serial := rfl
@[simp] theorem State.modHealth_ident (s : State) f : (s.modHealth f).ident = s.ident := rfl
@[simp] theorem State.modHealth_utcBase (s : State) f : (s.modHealth f).utcBase = s.utcBase := rfl
@[simp] theorem State.modHealth_utcAt (s : State) f : (s.modHealth f).utcAt = s.utcAt := rfl
@[simp] theorem State.modHealth_irq (s : State) f : (s.modHealth f).irq = s.irq := rfl
@[simp] theorem State.modHealth_evlog (s : State) f : (s.modHealth f).evlog = s.evlog := rfl
@[simp] theorem State.modHealth_fc (s : State) f : (s.modHealth f).fc = s.fc := rfl
@[simp] theorem State.modHealth_supply (s : State) f : (s.modHealth f).supply = s.supply := rfl
@[simp] theorem State.modHealth_start (s : State) f : (s.modHealth f).start = s.start := rfl
@[simp] theorem State.modHealth_mode (s : State) f : (s.modHealth f).mode = s.mode := rfl
@[simp] theorem State.modHealth_cores (s : State) f : (s.modHealth f).cores = s.cores := rfl
@[simp] theorem State.modHealth_health (s : State) f : (s.modHealth f).health = f s.health := rfl
@[simp] theorem State.modHealth_strs (s : State) f : (s.modHealth f).strs = s.strs := rfl
@[simp] theorem State.modHealth_banks (s : State) f : (s.modHealth f).banks = s.banks := rfl
@[simp] theorem State.modHealth_gates (s : State) f : (s.modHealth f).gates = s.gates := rfl
@[simp] theorem State.modHealth_gateBlock (s : State) f : (s.modHealth f).gateBlock = s.gateBlock := rfl
@[simp] theorem State.modHealth_bstr (s : State) f : (s.modHealth f).bstr = s.bstr := rfl
@[simp] theorem State.modHealth_belay (s : State) f : (s.modHealth f).belay = s.belay := rfl
@[simp] theorem State.modHealth_io (s : State) f : (s.modHealth f).io = s.io := rfl
@[simp] theorem State.modHealth_dict (s : State) f : (s.modHealth f).dict = s.dict := rfl
@[simp] theorem State.modHealth_seng (s : State) f : (s.modHealth f).seng = s.seng := rfl
@[simp] theorem State.modHealth_therm (s : State) f : (s.modHealth f).therm = s.therm := rfl
@[simp] theorem State.modHealth_cans (s : State) f : (s.modHealth f).cans = s.cans := rfl
@[simp] theorem State.modHealth_ropes (s : State) f : (s.modHealth f).ropes = s.ropes := rfl
@[simp] theorem State.modHealth_nodes (s : State) f : (s.modHealth f).nodes = s.nodes := rfl
@[simp] theorem State.modHealth_trav (s : State) f : (s.modHealth f).trav = s.trav := rfl
@[simp] theorem State.modHealth_bal (s : State) f : (s.modHealth f).bal = s.bal := rfl
@[simp] theorem State.modHealth_eths (s : State) f : (s.modHealth f).eths = s.eths := rfl
@[simp] theorem State.modHealth_stream (s : State) f : (s.modHealth f).stream = s.stream := rfl
@[simp] theorem State.modHealth_clock (s : State) f : (s.modHealth f).clock = s.clock := rfl
@[simp] theorem State.modHealth_corr (s : State) f : (s.modHealth f).corr = s.corr := rfl
@[simp] theorem State.modHealth_est (s : State) f : (s.modHealth f).est = s.est := rfl
@[simp] theorem State.modHealth_store (s : State) f : (s.modHealth f).store = s.store := rfl
@[simp] theorem State.modHealth_heldReq (s : State) f : (s.modHealth f).heldReq = s.heldReq := rfl
@[simp] theorem State.modHealth_waitingWrites (s : State) f : (s.modHealth f).waitingWrites = s.waitingWrites := rfl

/-! ## `modSeng` -/

@[simp] theorem State.modSeng_now (s : State) f : (s.modSeng f).now = s.now := rfl
@[simp] theorem State.modSeng_pending (s : State) f : (s.modSeng f).pending = s.pending := rfl
@[simp] theorem State.modSeng_free (s : State) f : (s.modSeng f).free = s.free := rfl
@[simp] theorem State.modSeng_serial (s : State) f : (s.modSeng f).serial = s.serial := rfl
@[simp] theorem State.modSeng_ident (s : State) f : (s.modSeng f).ident = s.ident := rfl
@[simp] theorem State.modSeng_utcBase (s : State) f : (s.modSeng f).utcBase = s.utcBase := rfl
@[simp] theorem State.modSeng_utcAt (s : State) f : (s.modSeng f).utcAt = s.utcAt := rfl
@[simp] theorem State.modSeng_irq (s : State) f : (s.modSeng f).irq = s.irq := rfl
@[simp] theorem State.modSeng_evlog (s : State) f : (s.modSeng f).evlog = s.evlog := rfl
@[simp] theorem State.modSeng_fc (s : State) f : (s.modSeng f).fc = s.fc := rfl
@[simp] theorem State.modSeng_supply (s : State) f : (s.modSeng f).supply = s.supply := rfl
@[simp] theorem State.modSeng_start (s : State) f : (s.modSeng f).start = s.start := rfl
@[simp] theorem State.modSeng_mode (s : State) f : (s.modSeng f).mode = s.mode := rfl
@[simp] theorem State.modSeng_cores (s : State) f : (s.modSeng f).cores = s.cores := rfl
@[simp] theorem State.modSeng_health (s : State) f : (s.modSeng f).health = s.health := rfl
@[simp] theorem State.modSeng_strs (s : State) f : (s.modSeng f).strs = s.strs := rfl
@[simp] theorem State.modSeng_banks (s : State) f : (s.modSeng f).banks = s.banks := rfl
@[simp] theorem State.modSeng_gates (s : State) f : (s.modSeng f).gates = s.gates := rfl
@[simp] theorem State.modSeng_gateBlock (s : State) f : (s.modSeng f).gateBlock = s.gateBlock := rfl
@[simp] theorem State.modSeng_bstr (s : State) f : (s.modSeng f).bstr = s.bstr := rfl
@[simp] theorem State.modSeng_belay (s : State) f : (s.modSeng f).belay = s.belay := rfl
@[simp] theorem State.modSeng_io (s : State) f : (s.modSeng f).io = s.io := rfl
@[simp] theorem State.modSeng_dict (s : State) f : (s.modSeng f).dict = s.dict := rfl
@[simp] theorem State.modSeng_seng (s : State) f : (s.modSeng f).seng = f s.seng := rfl
@[simp] theorem State.modSeng_therm (s : State) f : (s.modSeng f).therm = s.therm := rfl
@[simp] theorem State.modSeng_cans (s : State) f : (s.modSeng f).cans = s.cans := rfl
@[simp] theorem State.modSeng_ropes (s : State) f : (s.modSeng f).ropes = s.ropes := rfl
@[simp] theorem State.modSeng_nodes (s : State) f : (s.modSeng f).nodes = s.nodes := rfl
@[simp] theorem State.modSeng_trav (s : State) f : (s.modSeng f).trav = s.trav := rfl
@[simp] theorem State.modSeng_bal (s : State) f : (s.modSeng f).bal = s.bal := rfl
@[simp] theorem State.modSeng_eths (s : State) f : (s.modSeng f).eths = s.eths := rfl
@[simp] theorem State.modSeng_stream (s : State) f : (s.modSeng f).stream = s.stream := rfl
@[simp] theorem State.modSeng_clock (s : State) f : (s.modSeng f).clock = s.clock := rfl
@[simp] theorem State.modSeng_corr (s : State) f : (s.modSeng f).corr = s.corr := rfl
@[simp] theorem State.modSeng_est (s : State) f : (s.modSeng f).est = s.est := rfl
@[simp] theorem State.modSeng_store (s : State) f : (s.modSeng f).store = s.store := rfl
@[simp] theorem State.modSeng_heldReq (s : State) f : (s.modSeng f).heldReq = s.heldReq := rfl
@[simp] theorem State.modSeng_waitingWrites (s : State) f : (s.modSeng f).waitingWrites = s.waitingWrites := rfl

/-! ## `modDict` -/

@[simp] theorem State.modDict_now (s : State) f : (s.modDict f).now = s.now := rfl
@[simp] theorem State.modDict_pending (s : State) f : (s.modDict f).pending = s.pending := rfl
@[simp] theorem State.modDict_free (s : State) f : (s.modDict f).free = s.free := rfl
@[simp] theorem State.modDict_serial (s : State) f : (s.modDict f).serial = s.serial := rfl
@[simp] theorem State.modDict_ident (s : State) f : (s.modDict f).ident = s.ident := rfl
@[simp] theorem State.modDict_utcBase (s : State) f : (s.modDict f).utcBase = s.utcBase := rfl
@[simp] theorem State.modDict_utcAt (s : State) f : (s.modDict f).utcAt = s.utcAt := rfl
@[simp] theorem State.modDict_irq (s : State) f : (s.modDict f).irq = s.irq := rfl
@[simp] theorem State.modDict_evlog (s : State) f : (s.modDict f).evlog = s.evlog := rfl
@[simp] theorem State.modDict_fc (s : State) f : (s.modDict f).fc = s.fc := rfl
@[simp] theorem State.modDict_supply (s : State) f : (s.modDict f).supply = s.supply := rfl
@[simp] theorem State.modDict_start (s : State) f : (s.modDict f).start = s.start := rfl
@[simp] theorem State.modDict_mode (s : State) f : (s.modDict f).mode = s.mode := rfl
@[simp] theorem State.modDict_cores (s : State) f : (s.modDict f).cores = s.cores := rfl
@[simp] theorem State.modDict_health (s : State) f : (s.modDict f).health = s.health := rfl
@[simp] theorem State.modDict_strs (s : State) f : (s.modDict f).strs = s.strs := rfl
@[simp] theorem State.modDict_banks (s : State) f : (s.modDict f).banks = s.banks := rfl
@[simp] theorem State.modDict_gates (s : State) f : (s.modDict f).gates = s.gates := rfl
@[simp] theorem State.modDict_gateBlock (s : State) f : (s.modDict f).gateBlock = s.gateBlock := rfl
@[simp] theorem State.modDict_bstr (s : State) f : (s.modDict f).bstr = s.bstr := rfl
@[simp] theorem State.modDict_belay (s : State) f : (s.modDict f).belay = s.belay := rfl
@[simp] theorem State.modDict_io (s : State) f : (s.modDict f).io = s.io := rfl
@[simp] theorem State.modDict_dict (s : State) f : (s.modDict f).dict = f s.dict := rfl
@[simp] theorem State.modDict_seng (s : State) f : (s.modDict f).seng = s.seng := rfl
@[simp] theorem State.modDict_therm (s : State) f : (s.modDict f).therm = s.therm := rfl
@[simp] theorem State.modDict_cans (s : State) f : (s.modDict f).cans = s.cans := rfl
@[simp] theorem State.modDict_ropes (s : State) f : (s.modDict f).ropes = s.ropes := rfl
@[simp] theorem State.modDict_nodes (s : State) f : (s.modDict f).nodes = s.nodes := rfl
@[simp] theorem State.modDict_trav (s : State) f : (s.modDict f).trav = s.trav := rfl
@[simp] theorem State.modDict_bal (s : State) f : (s.modDict f).bal = s.bal := rfl
@[simp] theorem State.modDict_eths (s : State) f : (s.modDict f).eths = s.eths := rfl
@[simp] theorem State.modDict_stream (s : State) f : (s.modDict f).stream = s.stream := rfl
@[simp] theorem State.modDict_clock (s : State) f : (s.modDict f).clock = s.clock := rfl
@[simp] theorem State.modDict_corr (s : State) f : (s.modDict f).corr = s.corr := rfl
@[simp] theorem State.modDict_est (s : State) f : (s.modDict f).est = s.est := rfl
@[simp] theorem State.modDict_store (s : State) f : (s.modDict f).store = s.store := rfl
@[simp] theorem State.modDict_heldReq (s : State) f : (s.modDict f).heldReq = s.heldReq := rfl
@[simp] theorem State.modDict_waitingWrites (s : State) f : (s.modDict f).waitingWrites = s.waitingWrites := rfl

/-! ## `modCan` -/

@[simp] theorem State.modCan_now (s : State) i f : (s.modCan i f).now = s.now := rfl
@[simp] theorem State.modCan_pending (s : State) i f : (s.modCan i f).pending = s.pending := rfl
@[simp] theorem State.modCan_free (s : State) i f : (s.modCan i f).free = s.free := rfl
@[simp] theorem State.modCan_serial (s : State) i f : (s.modCan i f).serial = s.serial := rfl
@[simp] theorem State.modCan_ident (s : State) i f : (s.modCan i f).ident = s.ident := rfl
@[simp] theorem State.modCan_utcBase (s : State) i f : (s.modCan i f).utcBase = s.utcBase := rfl
@[simp] theorem State.modCan_utcAt (s : State) i f : (s.modCan i f).utcAt = s.utcAt := rfl
@[simp] theorem State.modCan_irq (s : State) i f : (s.modCan i f).irq = s.irq := rfl
@[simp] theorem State.modCan_evlog (s : State) i f : (s.modCan i f).evlog = s.evlog := rfl
@[simp] theorem State.modCan_fc (s : State) i f : (s.modCan i f).fc = s.fc := rfl
@[simp] theorem State.modCan_supply (s : State) i f : (s.modCan i f).supply = s.supply := rfl
@[simp] theorem State.modCan_start (s : State) i f : (s.modCan i f).start = s.start := rfl
@[simp] theorem State.modCan_mode (s : State) i f : (s.modCan i f).mode = s.mode := rfl
@[simp] theorem State.modCan_cores (s : State) i f : (s.modCan i f).cores = s.cores := rfl
@[simp] theorem State.modCan_health (s : State) i f : (s.modCan i f).health = s.health := rfl
@[simp] theorem State.modCan_strs (s : State) i f : (s.modCan i f).strs = s.strs := rfl
@[simp] theorem State.modCan_banks (s : State) i f : (s.modCan i f).banks = s.banks := rfl
@[simp] theorem State.modCan_gates (s : State) i f : (s.modCan i f).gates = s.gates := rfl
@[simp] theorem State.modCan_gateBlock (s : State) i f : (s.modCan i f).gateBlock = s.gateBlock := rfl
@[simp] theorem State.modCan_bstr (s : State) i f : (s.modCan i f).bstr = s.bstr := rfl
@[simp] theorem State.modCan_belay (s : State) i f : (s.modCan i f).belay = s.belay := rfl
@[simp] theorem State.modCan_io (s : State) i f : (s.modCan i f).io = s.io := rfl
@[simp] theorem State.modCan_dict (s : State) i f : (s.modCan i f).dict = s.dict := rfl
@[simp] theorem State.modCan_seng (s : State) i f : (s.modCan i f).seng = s.seng := rfl
@[simp] theorem State.modCan_therm (s : State) i f : (s.modCan i f).therm = s.therm := rfl
@[simp] theorem State.modCan_cans (s : State) i f : (s.modCan i f).cans = upd s.cans i f := rfl
@[simp] theorem State.modCan_ropes (s : State) i f : (s.modCan i f).ropes = s.ropes := rfl
@[simp] theorem State.modCan_nodes (s : State) i f : (s.modCan i f).nodes = s.nodes := rfl
@[simp] theorem State.modCan_trav (s : State) i f : (s.modCan i f).trav = s.trav := rfl
@[simp] theorem State.modCan_bal (s : State) i f : (s.modCan i f).bal = s.bal := rfl
@[simp] theorem State.modCan_eths (s : State) i f : (s.modCan i f).eths = s.eths := rfl
@[simp] theorem State.modCan_stream (s : State) i f : (s.modCan i f).stream = s.stream := rfl
@[simp] theorem State.modCan_clock (s : State) i f : (s.modCan i f).clock = s.clock := rfl
@[simp] theorem State.modCan_corr (s : State) i f : (s.modCan i f).corr = s.corr := rfl
@[simp] theorem State.modCan_est (s : State) i f : (s.modCan i f).est = s.est := rfl
@[simp] theorem State.modCan_store (s : State) i f : (s.modCan i f).store = s.store := rfl
@[simp] theorem State.modCan_heldReq (s : State) i f : (s.modCan i f).heldReq = s.heldReq := rfl
@[simp] theorem State.modCan_waitingWrites (s : State) i f : (s.modCan i f).waitingWrites = s.waitingWrites := rfl

/-! ## `modRope` -/

@[simp] theorem State.modRope_now (s : State) i f : (s.modRope i f).now = s.now := rfl
@[simp] theorem State.modRope_pending (s : State) i f : (s.modRope i f).pending = s.pending := rfl
@[simp] theorem State.modRope_free (s : State) i f : (s.modRope i f).free = s.free := rfl
@[simp] theorem State.modRope_serial (s : State) i f : (s.modRope i f).serial = s.serial := rfl
@[simp] theorem State.modRope_ident (s : State) i f : (s.modRope i f).ident = s.ident := rfl
@[simp] theorem State.modRope_utcBase (s : State) i f : (s.modRope i f).utcBase = s.utcBase := rfl
@[simp] theorem State.modRope_utcAt (s : State) i f : (s.modRope i f).utcAt = s.utcAt := rfl
@[simp] theorem State.modRope_irq (s : State) i f : (s.modRope i f).irq = s.irq := rfl
@[simp] theorem State.modRope_evlog (s : State) i f : (s.modRope i f).evlog = s.evlog := rfl
@[simp] theorem State.modRope_fc (s : State) i f : (s.modRope i f).fc = s.fc := rfl
@[simp] theorem State.modRope_supply (s : State) i f : (s.modRope i f).supply = s.supply := rfl
@[simp] theorem State.modRope_start (s : State) i f : (s.modRope i f).start = s.start := rfl
@[simp] theorem State.modRope_mode (s : State) i f : (s.modRope i f).mode = s.mode := rfl
@[simp] theorem State.modRope_cores (s : State) i f : (s.modRope i f).cores = s.cores := rfl
@[simp] theorem State.modRope_health (s : State) i f : (s.modRope i f).health = s.health := rfl
@[simp] theorem State.modRope_strs (s : State) i f : (s.modRope i f).strs = s.strs := rfl
@[simp] theorem State.modRope_banks (s : State) i f : (s.modRope i f).banks = s.banks := rfl
@[simp] theorem State.modRope_gates (s : State) i f : (s.modRope i f).gates = s.gates := rfl
@[simp] theorem State.modRope_gateBlock (s : State) i f : (s.modRope i f).gateBlock = s.gateBlock := rfl
@[simp] theorem State.modRope_bstr (s : State) i f : (s.modRope i f).bstr = s.bstr := rfl
@[simp] theorem State.modRope_belay (s : State) i f : (s.modRope i f).belay = s.belay := rfl
@[simp] theorem State.modRope_io (s : State) i f : (s.modRope i f).io = s.io := rfl
@[simp] theorem State.modRope_dict (s : State) i f : (s.modRope i f).dict = s.dict := rfl
@[simp] theorem State.modRope_seng (s : State) i f : (s.modRope i f).seng = s.seng := rfl
@[simp] theorem State.modRope_therm (s : State) i f : (s.modRope i f).therm = s.therm := rfl
@[simp] theorem State.modRope_cans (s : State) i f : (s.modRope i f).cans = s.cans := rfl
@[simp] theorem State.modRope_ropes (s : State) i f : (s.modRope i f).ropes = upd s.ropes i f := rfl
@[simp] theorem State.modRope_nodes (s : State) i f : (s.modRope i f).nodes = s.nodes := rfl
@[simp] theorem State.modRope_trav (s : State) i f : (s.modRope i f).trav = s.trav := rfl
@[simp] theorem State.modRope_bal (s : State) i f : (s.modRope i f).bal = s.bal := rfl
@[simp] theorem State.modRope_eths (s : State) i f : (s.modRope i f).eths = s.eths := rfl
@[simp] theorem State.modRope_stream (s : State) i f : (s.modRope i f).stream = s.stream := rfl
@[simp] theorem State.modRope_clock (s : State) i f : (s.modRope i f).clock = s.clock := rfl
@[simp] theorem State.modRope_corr (s : State) i f : (s.modRope i f).corr = s.corr := rfl
@[simp] theorem State.modRope_est (s : State) i f : (s.modRope i f).est = s.est := rfl
@[simp] theorem State.modRope_store (s : State) i f : (s.modRope i f).store = s.store := rfl
@[simp] theorem State.modRope_heldReq (s : State) i f : (s.modRope i f).heldReq = s.heldReq := rfl
@[simp] theorem State.modRope_waitingWrites (s : State) i f : (s.modRope i f).waitingWrites = s.waitingWrites := rfl

/-! ## `modTrav` -/

@[simp] theorem State.modTrav_now (s : State) f : (s.modTrav f).now = s.now := rfl
@[simp] theorem State.modTrav_pending (s : State) f : (s.modTrav f).pending = s.pending := rfl
@[simp] theorem State.modTrav_free (s : State) f : (s.modTrav f).free = s.free := rfl
@[simp] theorem State.modTrav_serial (s : State) f : (s.modTrav f).serial = s.serial := rfl
@[simp] theorem State.modTrav_ident (s : State) f : (s.modTrav f).ident = s.ident := rfl
@[simp] theorem State.modTrav_utcBase (s : State) f : (s.modTrav f).utcBase = s.utcBase := rfl
@[simp] theorem State.modTrav_utcAt (s : State) f : (s.modTrav f).utcAt = s.utcAt := rfl
@[simp] theorem State.modTrav_irq (s : State) f : (s.modTrav f).irq = s.irq := rfl
@[simp] theorem State.modTrav_evlog (s : State) f : (s.modTrav f).evlog = s.evlog := rfl
@[simp] theorem State.modTrav_fc (s : State) f : (s.modTrav f).fc = s.fc := rfl
@[simp] theorem State.modTrav_supply (s : State) f : (s.modTrav f).supply = s.supply := rfl
@[simp] theorem State.modTrav_start (s : State) f : (s.modTrav f).start = s.start := rfl
@[simp] theorem State.modTrav_mode (s : State) f : (s.modTrav f).mode = s.mode := rfl
@[simp] theorem State.modTrav_cores (s : State) f : (s.modTrav f).cores = s.cores := rfl
@[simp] theorem State.modTrav_health (s : State) f : (s.modTrav f).health = s.health := rfl
@[simp] theorem State.modTrav_strs (s : State) f : (s.modTrav f).strs = s.strs := rfl
@[simp] theorem State.modTrav_banks (s : State) f : (s.modTrav f).banks = s.banks := rfl
@[simp] theorem State.modTrav_gates (s : State) f : (s.modTrav f).gates = s.gates := rfl
@[simp] theorem State.modTrav_gateBlock (s : State) f : (s.modTrav f).gateBlock = s.gateBlock := rfl
@[simp] theorem State.modTrav_bstr (s : State) f : (s.modTrav f).bstr = s.bstr := rfl
@[simp] theorem State.modTrav_belay (s : State) f : (s.modTrav f).belay = s.belay := rfl
@[simp] theorem State.modTrav_io (s : State) f : (s.modTrav f).io = s.io := rfl
@[simp] theorem State.modTrav_dict (s : State) f : (s.modTrav f).dict = s.dict := rfl
@[simp] theorem State.modTrav_seng (s : State) f : (s.modTrav f).seng = s.seng := rfl
@[simp] theorem State.modTrav_therm (s : State) f : (s.modTrav f).therm = s.therm := rfl
@[simp] theorem State.modTrav_cans (s : State) f : (s.modTrav f).cans = s.cans := rfl
@[simp] theorem State.modTrav_ropes (s : State) f : (s.modTrav f).ropes = s.ropes := rfl
@[simp] theorem State.modTrav_nodes (s : State) f : (s.modTrav f).nodes = s.nodes := rfl
@[simp] theorem State.modTrav_trav (s : State) f : (s.modTrav f).trav = f s.trav := rfl
@[simp] theorem State.modTrav_bal (s : State) f : (s.modTrav f).bal = s.bal := rfl
@[simp] theorem State.modTrav_eths (s : State) f : (s.modTrav f).eths = s.eths := rfl
@[simp] theorem State.modTrav_stream (s : State) f : (s.modTrav f).stream = s.stream := rfl
@[simp] theorem State.modTrav_clock (s : State) f : (s.modTrav f).clock = s.clock := rfl
@[simp] theorem State.modTrav_corr (s : State) f : (s.modTrav f).corr = s.corr := rfl
@[simp] theorem State.modTrav_est (s : State) f : (s.modTrav f).est = s.est := rfl
@[simp] theorem State.modTrav_store (s : State) f : (s.modTrav f).store = s.store := rfl
@[simp] theorem State.modTrav_heldReq (s : State) f : (s.modTrav f).heldReq = s.heldReq := rfl
@[simp] theorem State.modTrav_waitingWrites (s : State) f : (s.modTrav f).waitingWrites = s.waitingWrites := rfl

/-! ## `modBal` -/

@[simp] theorem State.modBal_now (s : State) f : (s.modBal f).now = s.now := rfl
@[simp] theorem State.modBal_pending (s : State) f : (s.modBal f).pending = s.pending := rfl
@[simp] theorem State.modBal_free (s : State) f : (s.modBal f).free = s.free := rfl
@[simp] theorem State.modBal_serial (s : State) f : (s.modBal f).serial = s.serial := rfl
@[simp] theorem State.modBal_ident (s : State) f : (s.modBal f).ident = s.ident := rfl
@[simp] theorem State.modBal_utcBase (s : State) f : (s.modBal f).utcBase = s.utcBase := rfl
@[simp] theorem State.modBal_utcAt (s : State) f : (s.modBal f).utcAt = s.utcAt := rfl
@[simp] theorem State.modBal_irq (s : State) f : (s.modBal f).irq = s.irq := rfl
@[simp] theorem State.modBal_evlog (s : State) f : (s.modBal f).evlog = s.evlog := rfl
@[simp] theorem State.modBal_fc (s : State) f : (s.modBal f).fc = s.fc := rfl
@[simp] theorem State.modBal_supply (s : State) f : (s.modBal f).supply = s.supply := rfl
@[simp] theorem State.modBal_start (s : State) f : (s.modBal f).start = s.start := rfl
@[simp] theorem State.modBal_mode (s : State) f : (s.modBal f).mode = s.mode := rfl
@[simp] theorem State.modBal_cores (s : State) f : (s.modBal f).cores = s.cores := rfl
@[simp] theorem State.modBal_health (s : State) f : (s.modBal f).health = s.health := rfl
@[simp] theorem State.modBal_strs (s : State) f : (s.modBal f).strs = s.strs := rfl
@[simp] theorem State.modBal_banks (s : State) f : (s.modBal f).banks = s.banks := rfl
@[simp] theorem State.modBal_gates (s : State) f : (s.modBal f).gates = s.gates := rfl
@[simp] theorem State.modBal_gateBlock (s : State) f : (s.modBal f).gateBlock = s.gateBlock := rfl
@[simp] theorem State.modBal_bstr (s : State) f : (s.modBal f).bstr = s.bstr := rfl
@[simp] theorem State.modBal_belay (s : State) f : (s.modBal f).belay = s.belay := rfl
@[simp] theorem State.modBal_io (s : State) f : (s.modBal f).io = s.io := rfl
@[simp] theorem State.modBal_dict (s : State) f : (s.modBal f).dict = s.dict := rfl
@[simp] theorem State.modBal_seng (s : State) f : (s.modBal f).seng = s.seng := rfl
@[simp] theorem State.modBal_therm (s : State) f : (s.modBal f).therm = s.therm := rfl
@[simp] theorem State.modBal_cans (s : State) f : (s.modBal f).cans = s.cans := rfl
@[simp] theorem State.modBal_ropes (s : State) f : (s.modBal f).ropes = s.ropes := rfl
@[simp] theorem State.modBal_nodes (s : State) f : (s.modBal f).nodes = s.nodes := rfl
@[simp] theorem State.modBal_trav (s : State) f : (s.modBal f).trav = s.trav := rfl
@[simp] theorem State.modBal_bal (s : State) f : (s.modBal f).bal = f s.bal := rfl
@[simp] theorem State.modBal_eths (s : State) f : (s.modBal f).eths = s.eths := rfl
@[simp] theorem State.modBal_stream (s : State) f : (s.modBal f).stream = s.stream := rfl
@[simp] theorem State.modBal_clock (s : State) f : (s.modBal f).clock = s.clock := rfl
@[simp] theorem State.modBal_corr (s : State) f : (s.modBal f).corr = s.corr := rfl
@[simp] theorem State.modBal_est (s : State) f : (s.modBal f).est = s.est := rfl
@[simp] theorem State.modBal_store (s : State) f : (s.modBal f).store = s.store := rfl
@[simp] theorem State.modBal_heldReq (s : State) f : (s.modBal f).heldReq = s.heldReq := rfl
@[simp] theorem State.modBal_waitingWrites (s : State) f : (s.modBal f).waitingWrites = s.waitingWrites := rfl

/-! ## `modEth` -/

@[simp] theorem State.modEth_now (s : State) i f : (s.modEth i f).now = s.now := rfl
@[simp] theorem State.modEth_pending (s : State) i f : (s.modEth i f).pending = s.pending := rfl
@[simp] theorem State.modEth_free (s : State) i f : (s.modEth i f).free = s.free := rfl
@[simp] theorem State.modEth_serial (s : State) i f : (s.modEth i f).serial = s.serial := rfl
@[simp] theorem State.modEth_ident (s : State) i f : (s.modEth i f).ident = s.ident := rfl
@[simp] theorem State.modEth_utcBase (s : State) i f : (s.modEth i f).utcBase = s.utcBase := rfl
@[simp] theorem State.modEth_utcAt (s : State) i f : (s.modEth i f).utcAt = s.utcAt := rfl
@[simp] theorem State.modEth_irq (s : State) i f : (s.modEth i f).irq = s.irq := rfl
@[simp] theorem State.modEth_evlog (s : State) i f : (s.modEth i f).evlog = s.evlog := rfl
@[simp] theorem State.modEth_fc (s : State) i f : (s.modEth i f).fc = s.fc := rfl
@[simp] theorem State.modEth_supply (s : State) i f : (s.modEth i f).supply = s.supply := rfl
@[simp] theorem State.modEth_start (s : State) i f : (s.modEth i f).start = s.start := rfl
@[simp] theorem State.modEth_mode (s : State) i f : (s.modEth i f).mode = s.mode := rfl
@[simp] theorem State.modEth_cores (s : State) i f : (s.modEth i f).cores = s.cores := rfl
@[simp] theorem State.modEth_health (s : State) i f : (s.modEth i f).health = s.health := rfl
@[simp] theorem State.modEth_strs (s : State) i f : (s.modEth i f).strs = s.strs := rfl
@[simp] theorem State.modEth_banks (s : State) i f : (s.modEth i f).banks = s.banks := rfl
@[simp] theorem State.modEth_gates (s : State) i f : (s.modEth i f).gates = s.gates := rfl
@[simp] theorem State.modEth_gateBlock (s : State) i f : (s.modEth i f).gateBlock = s.gateBlock := rfl
@[simp] theorem State.modEth_bstr (s : State) i f : (s.modEth i f).bstr = s.bstr := rfl
@[simp] theorem State.modEth_belay (s : State) i f : (s.modEth i f).belay = s.belay := rfl
@[simp] theorem State.modEth_io (s : State) i f : (s.modEth i f).io = s.io := rfl
@[simp] theorem State.modEth_dict (s : State) i f : (s.modEth i f).dict = s.dict := rfl
@[simp] theorem State.modEth_seng (s : State) i f : (s.modEth i f).seng = s.seng := rfl
@[simp] theorem State.modEth_therm (s : State) i f : (s.modEth i f).therm = s.therm := rfl
@[simp] theorem State.modEth_cans (s : State) i f : (s.modEth i f).cans = s.cans := rfl
@[simp] theorem State.modEth_ropes (s : State) i f : (s.modEth i f).ropes = s.ropes := rfl
@[simp] theorem State.modEth_nodes (s : State) i f : (s.modEth i f).nodes = s.nodes := rfl
@[simp] theorem State.modEth_trav (s : State) i f : (s.modEth i f).trav = s.trav := rfl
@[simp] theorem State.modEth_bal (s : State) i f : (s.modEth i f).bal = s.bal := rfl
@[simp] theorem State.modEth_eths (s : State) i f : (s.modEth i f).eths = upd s.eths i f := rfl
@[simp] theorem State.modEth_stream (s : State) i f : (s.modEth i f).stream = s.stream := rfl
@[simp] theorem State.modEth_clock (s : State) i f : (s.modEth i f).clock = s.clock := rfl
@[simp] theorem State.modEth_corr (s : State) i f : (s.modEth i f).corr = s.corr := rfl
@[simp] theorem State.modEth_est (s : State) i f : (s.modEth i f).est = s.est := rfl
@[simp] theorem State.modEth_store (s : State) i f : (s.modEth i f).store = s.store := rfl
@[simp] theorem State.modEth_heldReq (s : State) i f : (s.modEth i f).heldReq = s.heldReq := rfl
@[simp] theorem State.modEth_waitingWrites (s : State) i f : (s.modEth i f).waitingWrites = s.waitingWrites := rfl

/-! ## `modStream` -/

@[simp] theorem State.modStream_now (s : State) f : (s.modStream f).now = s.now := rfl
@[simp] theorem State.modStream_pending (s : State) f : (s.modStream f).pending = s.pending := rfl
@[simp] theorem State.modStream_free (s : State) f : (s.modStream f).free = s.free := rfl
@[simp] theorem State.modStream_serial (s : State) f : (s.modStream f).serial = s.serial := rfl
@[simp] theorem State.modStream_ident (s : State) f : (s.modStream f).ident = s.ident := rfl
@[simp] theorem State.modStream_utcBase (s : State) f : (s.modStream f).utcBase = s.utcBase := rfl
@[simp] theorem State.modStream_utcAt (s : State) f : (s.modStream f).utcAt = s.utcAt := rfl
@[simp] theorem State.modStream_irq (s : State) f : (s.modStream f).irq = s.irq := rfl
@[simp] theorem State.modStream_evlog (s : State) f : (s.modStream f).evlog = s.evlog := rfl
@[simp] theorem State.modStream_fc (s : State) f : (s.modStream f).fc = s.fc := rfl
@[simp] theorem State.modStream_supply (s : State) f : (s.modStream f).supply = s.supply := rfl
@[simp] theorem State.modStream_start (s : State) f : (s.modStream f).start = s.start := rfl
@[simp] theorem State.modStream_mode (s : State) f : (s.modStream f).mode = s.mode := rfl
@[simp] theorem State.modStream_cores (s : State) f : (s.modStream f).cores = s.cores := rfl
@[simp] theorem State.modStream_health (s : State) f : (s.modStream f).health = s.health := rfl
@[simp] theorem State.modStream_strs (s : State) f : (s.modStream f).strs = s.strs := rfl
@[simp] theorem State.modStream_banks (s : State) f : (s.modStream f).banks = s.banks := rfl
@[simp] theorem State.modStream_gates (s : State) f : (s.modStream f).gates = s.gates := rfl
@[simp] theorem State.modStream_gateBlock (s : State) f : (s.modStream f).gateBlock = s.gateBlock := rfl
@[simp] theorem State.modStream_bstr (s : State) f : (s.modStream f).bstr = s.bstr := rfl
@[simp] theorem State.modStream_belay (s : State) f : (s.modStream f).belay = s.belay := rfl
@[simp] theorem State.modStream_io (s : State) f : (s.modStream f).io = s.io := rfl
@[simp] theorem State.modStream_dict (s : State) f : (s.modStream f).dict = s.dict := rfl
@[simp] theorem State.modStream_seng (s : State) f : (s.modStream f).seng = s.seng := rfl
@[simp] theorem State.modStream_therm (s : State) f : (s.modStream f).therm = s.therm := rfl
@[simp] theorem State.modStream_cans (s : State) f : (s.modStream f).cans = s.cans := rfl
@[simp] theorem State.modStream_ropes (s : State) f : (s.modStream f).ropes = s.ropes := rfl
@[simp] theorem State.modStream_nodes (s : State) f : (s.modStream f).nodes = s.nodes := rfl
@[simp] theorem State.modStream_trav (s : State) f : (s.modStream f).trav = s.trav := rfl
@[simp] theorem State.modStream_bal (s : State) f : (s.modStream f).bal = s.bal := rfl
@[simp] theorem State.modStream_eths (s : State) f : (s.modStream f).eths = s.eths := rfl
@[simp] theorem State.modStream_stream (s : State) f : (s.modStream f).stream = f s.stream := rfl
@[simp] theorem State.modStream_clock (s : State) f : (s.modStream f).clock = s.clock := rfl
@[simp] theorem State.modStream_corr (s : State) f : (s.modStream f).corr = s.corr := rfl
@[simp] theorem State.modStream_est (s : State) f : (s.modStream f).est = s.est := rfl
@[simp] theorem State.modStream_store (s : State) f : (s.modStream f).store = s.store := rfl
@[simp] theorem State.modStream_heldReq (s : State) f : (s.modStream f).heldReq = s.heldReq := rfl
@[simp] theorem State.modStream_waitingWrites (s : State) f : (s.modStream f).waitingWrites = s.waitingWrites := rfl

/-! ## `modClock` -/

@[simp] theorem State.modClock_now (s : State) f : (s.modClock f).now = s.now := rfl
@[simp] theorem State.modClock_pending (s : State) f : (s.modClock f).pending = s.pending := rfl
@[simp] theorem State.modClock_free (s : State) f : (s.modClock f).free = s.free := rfl
@[simp] theorem State.modClock_serial (s : State) f : (s.modClock f).serial = s.serial := rfl
@[simp] theorem State.modClock_ident (s : State) f : (s.modClock f).ident = s.ident := rfl
@[simp] theorem State.modClock_utcBase (s : State) f : (s.modClock f).utcBase = s.utcBase := rfl
@[simp] theorem State.modClock_utcAt (s : State) f : (s.modClock f).utcAt = s.utcAt := rfl
@[simp] theorem State.modClock_irq (s : State) f : (s.modClock f).irq = s.irq := rfl
@[simp] theorem State.modClock_evlog (s : State) f : (s.modClock f).evlog = s.evlog := rfl
@[simp] theorem State.modClock_fc (s : State) f : (s.modClock f).fc = s.fc := rfl
@[simp] theorem State.modClock_supply (s : State) f : (s.modClock f).supply = s.supply := rfl
@[simp] theorem State.modClock_start (s : State) f : (s.modClock f).start = s.start := rfl
@[simp] theorem State.modClock_mode (s : State) f : (s.modClock f).mode = s.mode := rfl
@[simp] theorem State.modClock_cores (s : State) f : (s.modClock f).cores = s.cores := rfl
@[simp] theorem State.modClock_health (s : State) f : (s.modClock f).health = s.health := rfl
@[simp] theorem State.modClock_strs (s : State) f : (s.modClock f).strs = s.strs := rfl
@[simp] theorem State.modClock_banks (s : State) f : (s.modClock f).banks = s.banks := rfl
@[simp] theorem State.modClock_gates (s : State) f : (s.modClock f).gates = s.gates := rfl
@[simp] theorem State.modClock_gateBlock (s : State) f : (s.modClock f).gateBlock = s.gateBlock := rfl
@[simp] theorem State.modClock_bstr (s : State) f : (s.modClock f).bstr = s.bstr := rfl
@[simp] theorem State.modClock_belay (s : State) f : (s.modClock f).belay = s.belay := rfl
@[simp] theorem State.modClock_io (s : State) f : (s.modClock f).io = s.io := rfl
@[simp] theorem State.modClock_dict (s : State) f : (s.modClock f).dict = s.dict := rfl
@[simp] theorem State.modClock_seng (s : State) f : (s.modClock f).seng = s.seng := rfl
@[simp] theorem State.modClock_therm (s : State) f : (s.modClock f).therm = s.therm := rfl
@[simp] theorem State.modClock_cans (s : State) f : (s.modClock f).cans = s.cans := rfl
@[simp] theorem State.modClock_ropes (s : State) f : (s.modClock f).ropes = s.ropes := rfl
@[simp] theorem State.modClock_nodes (s : State) f : (s.modClock f).nodes = s.nodes := rfl
@[simp] theorem State.modClock_trav (s : State) f : (s.modClock f).trav = s.trav := rfl
@[simp] theorem State.modClock_bal (s : State) f : (s.modClock f).bal = s.bal := rfl
@[simp] theorem State.modClock_eths (s : State) f : (s.modClock f).eths = s.eths := rfl
@[simp] theorem State.modClock_stream (s : State) f : (s.modClock f).stream = s.stream := rfl
@[simp] theorem State.modClock_clock (s : State) f : (s.modClock f).clock = f s.clock := rfl
@[simp] theorem State.modClock_corr (s : State) f : (s.modClock f).corr = s.corr := rfl
@[simp] theorem State.modClock_est (s : State) f : (s.modClock f).est = s.est := rfl
@[simp] theorem State.modClock_store (s : State) f : (s.modClock f).store = s.store := rfl
@[simp] theorem State.modClock_heldReq (s : State) f : (s.modClock f).heldReq = s.heldReq := rfl
@[simp] theorem State.modClock_waitingWrites (s : State) f : (s.modClock f).waitingWrites = s.waitingWrites := rfl

/-! ## `modCorr` -/

@[simp] theorem State.modCorr_now (s : State) f : (s.modCorr f).now = s.now := rfl
@[simp] theorem State.modCorr_pending (s : State) f : (s.modCorr f).pending = s.pending := rfl
@[simp] theorem State.modCorr_free (s : State) f : (s.modCorr f).free = s.free := rfl
@[simp] theorem State.modCorr_serial (s : State) f : (s.modCorr f).serial = s.serial := rfl
@[simp] theorem State.modCorr_ident (s : State) f : (s.modCorr f).ident = s.ident := rfl
@[simp] theorem State.modCorr_utcBase (s : State) f : (s.modCorr f).utcBase = s.utcBase := rfl
@[simp] theorem State.modCorr_utcAt (s : State) f : (s.modCorr f).utcAt = s.utcAt := rfl
@[simp] theorem State.modCorr_irq (s : State) f : (s.modCorr f).irq = s.irq := rfl
@[simp] theorem State.modCorr_evlog (s : State) f : (s.modCorr f).evlog = s.evlog := rfl
@[simp] theorem State.modCorr_fc (s : State) f : (s.modCorr f).fc = s.fc := rfl
@[simp] theorem State.modCorr_supply (s : State) f : (s.modCorr f).supply = s.supply := rfl
@[simp] theorem State.modCorr_start (s : State) f : (s.modCorr f).start = s.start := rfl
@[simp] theorem State.modCorr_mode (s : State) f : (s.modCorr f).mode = s.mode := rfl
@[simp] theorem State.modCorr_cores (s : State) f : (s.modCorr f).cores = s.cores := rfl
@[simp] theorem State.modCorr_health (s : State) f : (s.modCorr f).health = s.health := rfl
@[simp] theorem State.modCorr_strs (s : State) f : (s.modCorr f).strs = s.strs := rfl
@[simp] theorem State.modCorr_banks (s : State) f : (s.modCorr f).banks = s.banks := rfl
@[simp] theorem State.modCorr_gates (s : State) f : (s.modCorr f).gates = s.gates := rfl
@[simp] theorem State.modCorr_gateBlock (s : State) f : (s.modCorr f).gateBlock = s.gateBlock := rfl
@[simp] theorem State.modCorr_bstr (s : State) f : (s.modCorr f).bstr = s.bstr := rfl
@[simp] theorem State.modCorr_belay (s : State) f : (s.modCorr f).belay = s.belay := rfl
@[simp] theorem State.modCorr_io (s : State) f : (s.modCorr f).io = s.io := rfl
@[simp] theorem State.modCorr_dict (s : State) f : (s.modCorr f).dict = s.dict := rfl
@[simp] theorem State.modCorr_seng (s : State) f : (s.modCorr f).seng = s.seng := rfl
@[simp] theorem State.modCorr_therm (s : State) f : (s.modCorr f).therm = s.therm := rfl
@[simp] theorem State.modCorr_cans (s : State) f : (s.modCorr f).cans = s.cans := rfl
@[simp] theorem State.modCorr_ropes (s : State) f : (s.modCorr f).ropes = s.ropes := rfl
@[simp] theorem State.modCorr_nodes (s : State) f : (s.modCorr f).nodes = s.nodes := rfl
@[simp] theorem State.modCorr_trav (s : State) f : (s.modCorr f).trav = s.trav := rfl
@[simp] theorem State.modCorr_bal (s : State) f : (s.modCorr f).bal = s.bal := rfl
@[simp] theorem State.modCorr_eths (s : State) f : (s.modCorr f).eths = s.eths := rfl
@[simp] theorem State.modCorr_stream (s : State) f : (s.modCorr f).stream = s.stream := rfl
@[simp] theorem State.modCorr_clock (s : State) f : (s.modCorr f).clock = s.clock := rfl
@[simp] theorem State.modCorr_corr (s : State) f : (s.modCorr f).corr = f s.corr := rfl
@[simp] theorem State.modCorr_est (s : State) f : (s.modCorr f).est = s.est := rfl
@[simp] theorem State.modCorr_store (s : State) f : (s.modCorr f).store = s.store := rfl
@[simp] theorem State.modCorr_heldReq (s : State) f : (s.modCorr f).heldReq = s.heldReq := rfl
@[simp] theorem State.modCorr_waitingWrites (s : State) f : (s.modCorr f).waitingWrites = s.waitingWrites := rfl

/-! ## `modEst` -/

@[simp] theorem State.modEst_now (s : State) f : (s.modEst f).now = s.now := rfl
@[simp] theorem State.modEst_pending (s : State) f : (s.modEst f).pending = s.pending := rfl
@[simp] theorem State.modEst_free (s : State) f : (s.modEst f).free = s.free := rfl
@[simp] theorem State.modEst_serial (s : State) f : (s.modEst f).serial = s.serial := rfl
@[simp] theorem State.modEst_ident (s : State) f : (s.modEst f).ident = s.ident := rfl
@[simp] theorem State.modEst_utcBase (s : State) f : (s.modEst f).utcBase = s.utcBase := rfl
@[simp] theorem State.modEst_utcAt (s : State) f : (s.modEst f).utcAt = s.utcAt := rfl
@[simp] theorem State.modEst_irq (s : State) f : (s.modEst f).irq = s.irq := rfl
@[simp] theorem State.modEst_evlog (s : State) f : (s.modEst f).evlog = s.evlog := rfl
@[simp] theorem State.modEst_fc (s : State) f : (s.modEst f).fc = s.fc := rfl
@[simp] theorem State.modEst_supply (s : State) f : (s.modEst f).supply = s.supply := rfl
@[simp] theorem State.modEst_start (s : State) f : (s.modEst f).start = s.start := rfl
@[simp] theorem State.modEst_mode (s : State) f : (s.modEst f).mode = s.mode := rfl
@[simp] theorem State.modEst_cores (s : State) f : (s.modEst f).cores = s.cores := rfl
@[simp] theorem State.modEst_health (s : State) f : (s.modEst f).health = s.health := rfl
@[simp] theorem State.modEst_strs (s : State) f : (s.modEst f).strs = s.strs := rfl
@[simp] theorem State.modEst_banks (s : State) f : (s.modEst f).banks = s.banks := rfl
@[simp] theorem State.modEst_gates (s : State) f : (s.modEst f).gates = s.gates := rfl
@[simp] theorem State.modEst_gateBlock (s : State) f : (s.modEst f).gateBlock = s.gateBlock := rfl
@[simp] theorem State.modEst_bstr (s : State) f : (s.modEst f).bstr = s.bstr := rfl
@[simp] theorem State.modEst_belay (s : State) f : (s.modEst f).belay = s.belay := rfl
@[simp] theorem State.modEst_io (s : State) f : (s.modEst f).io = s.io := rfl
@[simp] theorem State.modEst_dict (s : State) f : (s.modEst f).dict = s.dict := rfl
@[simp] theorem State.modEst_seng (s : State) f : (s.modEst f).seng = s.seng := rfl
@[simp] theorem State.modEst_therm (s : State) f : (s.modEst f).therm = s.therm := rfl
@[simp] theorem State.modEst_cans (s : State) f : (s.modEst f).cans = s.cans := rfl
@[simp] theorem State.modEst_ropes (s : State) f : (s.modEst f).ropes = s.ropes := rfl
@[simp] theorem State.modEst_nodes (s : State) f : (s.modEst f).nodes = s.nodes := rfl
@[simp] theorem State.modEst_trav (s : State) f : (s.modEst f).trav = s.trav := rfl
@[simp] theorem State.modEst_bal (s : State) f : (s.modEst f).bal = s.bal := rfl
@[simp] theorem State.modEst_eths (s : State) f : (s.modEst f).eths = s.eths := rfl
@[simp] theorem State.modEst_stream (s : State) f : (s.modEst f).stream = s.stream := rfl
@[simp] theorem State.modEst_clock (s : State) f : (s.modEst f).clock = s.clock := rfl
@[simp] theorem State.modEst_corr (s : State) f : (s.modEst f).corr = s.corr := rfl
@[simp] theorem State.modEst_est (s : State) f : (s.modEst f).est = f s.est := rfl
@[simp] theorem State.modEst_store (s : State) f : (s.modEst f).store = s.store := rfl
@[simp] theorem State.modEst_heldReq (s : State) f : (s.modEst f).heldReq = s.heldReq := rfl
@[simp] theorem State.modEst_waitingWrites (s : State) f : (s.modEst f).waitingWrites = s.waitingWrites := rfl

/-! ## `modStore` -/

@[simp] theorem State.modStore_now (s : State) f : (s.modStore f).now = s.now := rfl
@[simp] theorem State.modStore_pending (s : State) f : (s.modStore f).pending = s.pending := rfl
@[simp] theorem State.modStore_free (s : State) f : (s.modStore f).free = s.free := rfl
@[simp] theorem State.modStore_serial (s : State) f : (s.modStore f).serial = s.serial := rfl
@[simp] theorem State.modStore_ident (s : State) f : (s.modStore f).ident = s.ident := rfl
@[simp] theorem State.modStore_utcBase (s : State) f : (s.modStore f).utcBase = s.utcBase := rfl
@[simp] theorem State.modStore_utcAt (s : State) f : (s.modStore f).utcAt = s.utcAt := rfl
@[simp] theorem State.modStore_irq (s : State) f : (s.modStore f).irq = s.irq := rfl
@[simp] theorem State.modStore_evlog (s : State) f : (s.modStore f).evlog = s.evlog := rfl
@[simp] theorem State.modStore_fc (s : State) f : (s.modStore f).fc = s.fc := rfl
@[simp] theorem State.modStore_supply (s : State) f : (s.modStore f).supply = s.supply := rfl
@[simp] theorem State.modStore_start (s : State) f : (s.modStore f).start = s.start := rfl
@[simp] theorem State.modStore_mode (s : State) f : (s.modStore f).mode = s.mode := rfl
@[simp] theorem State.modStore_cores (s : State) f : (s.modStore f).cores = s.cores := rfl
@[simp] theorem State.modStore_health (s : State) f : (s.modStore f).health = s.health := rfl
@[simp] theorem State.modStore_strs (s : State) f : (s.modStore f).strs = s.strs := rfl
@[simp] theorem State.modStore_banks (s : State) f : (s.modStore f).banks = s.banks := rfl
@[simp] theorem State.modStore_gates (s : State) f : (s.modStore f).gates = s.gates := rfl
@[simp] theorem State.modStore_gateBlock (s : State) f : (s.modStore f).gateBlock = s.gateBlock := rfl
@[simp] theorem State.modStore_bstr (s : State) f : (s.modStore f).bstr = s.bstr := rfl
@[simp] theorem State.modStore_belay (s : State) f : (s.modStore f).belay = s.belay := rfl
@[simp] theorem State.modStore_io (s : State) f : (s.modStore f).io = s.io := rfl
@[simp] theorem State.modStore_dict (s : State) f : (s.modStore f).dict = s.dict := rfl
@[simp] theorem State.modStore_seng (s : State) f : (s.modStore f).seng = s.seng := rfl
@[simp] theorem State.modStore_therm (s : State) f : (s.modStore f).therm = s.therm := rfl
@[simp] theorem State.modStore_cans (s : State) f : (s.modStore f).cans = s.cans := rfl
@[simp] theorem State.modStore_ropes (s : State) f : (s.modStore f).ropes = s.ropes := rfl
@[simp] theorem State.modStore_nodes (s : State) f : (s.modStore f).nodes = s.nodes := rfl
@[simp] theorem State.modStore_trav (s : State) f : (s.modStore f).trav = s.trav := rfl
@[simp] theorem State.modStore_bal (s : State) f : (s.modStore f).bal = s.bal := rfl
@[simp] theorem State.modStore_eths (s : State) f : (s.modStore f).eths = s.eths := rfl
@[simp] theorem State.modStore_stream (s : State) f : (s.modStore f).stream = s.stream := rfl
@[simp] theorem State.modStore_clock (s : State) f : (s.modStore f).clock = s.clock := rfl
@[simp] theorem State.modStore_corr (s : State) f : (s.modStore f).corr = s.corr := rfl
@[simp] theorem State.modStore_est (s : State) f : (s.modStore f).est = s.est := rfl
@[simp] theorem State.modStore_store (s : State) f : (s.modStore f).store = f s.store := rfl
@[simp] theorem State.modStore_heldReq (s : State) f : (s.modStore f).heldReq = s.heldReq := rfl
@[simp] theorem State.modStore_waitingWrites (s : State) f : (s.modStore f).waitingWrites = s.waitingWrites := rfl

/-! ## `modTherm` -/

@[simp] theorem State.modTherm_now (s : State) f : (s.modTherm f).now = s.now := rfl
@[simp] theorem State.modTherm_pending (s : State) f : (s.modTherm f).pending = s.pending := rfl
@[simp] theorem State.modTherm_free (s : State) f : (s.modTherm f).free = s.free := rfl
@[simp] theorem State.modTherm_serial (s : State) f : (s.modTherm f).serial = s.serial := rfl
@[simp] theorem State.modTherm_ident (s : State) f : (s.modTherm f).ident = s.ident := rfl
@[simp] theorem State.modTherm_utcBase (s : State) f : (s.modTherm f).utcBase = s.utcBase := rfl
@[simp] theorem State.modTherm_utcAt (s : State) f : (s.modTherm f).utcAt = s.utcAt := rfl
@[simp] theorem State.modTherm_irq (s : State) f : (s.modTherm f).irq = s.irq := rfl
@[simp] theorem State.modTherm_evlog (s : State) f : (s.modTherm f).evlog = s.evlog := rfl
@[simp] theorem State.modTherm_fc (s : State) f : (s.modTherm f).fc = s.fc := rfl
@[simp] theorem State.modTherm_supply (s : State) f : (s.modTherm f).supply = s.supply := rfl
@[simp] theorem State.modTherm_start (s : State) f : (s.modTherm f).start = s.start := rfl
@[simp] theorem State.modTherm_mode (s : State) f : (s.modTherm f).mode = s.mode := rfl
@[simp] theorem State.modTherm_cores (s : State) f : (s.modTherm f).cores = s.cores := rfl
@[simp] theorem State.modTherm_health (s : State) f : (s.modTherm f).health = s.health := rfl
@[simp] theorem State.modTherm_strs (s : State) f : (s.modTherm f).strs = s.strs := rfl
@[simp] theorem State.modTherm_banks (s : State) f : (s.modTherm f).banks = s.banks := rfl
@[simp] theorem State.modTherm_gates (s : State) f : (s.modTherm f).gates = s.gates := rfl
@[simp] theorem State.modTherm_gateBlock (s : State) f : (s.modTherm f).gateBlock = s.gateBlock := rfl
@[simp] theorem State.modTherm_bstr (s : State) f : (s.modTherm f).bstr = s.bstr := rfl
@[simp] theorem State.modTherm_belay (s : State) f : (s.modTherm f).belay = s.belay := rfl
@[simp] theorem State.modTherm_io (s : State) f : (s.modTherm f).io = s.io := rfl
@[simp] theorem State.modTherm_dict (s : State) f : (s.modTherm f).dict = s.dict := rfl
@[simp] theorem State.modTherm_seng (s : State) f : (s.modTherm f).seng = s.seng := rfl
@[simp] theorem State.modTherm_therm (s : State) f : (s.modTherm f).therm = f s.therm := rfl
@[simp] theorem State.modTherm_cans (s : State) f : (s.modTherm f).cans = s.cans := rfl
@[simp] theorem State.modTherm_ropes (s : State) f : (s.modTherm f).ropes = s.ropes := rfl
@[simp] theorem State.modTherm_nodes (s : State) f : (s.modTherm f).nodes = s.nodes := rfl
@[simp] theorem State.modTherm_trav (s : State) f : (s.modTherm f).trav = s.trav := rfl
@[simp] theorem State.modTherm_bal (s : State) f : (s.modTherm f).bal = s.bal := rfl
@[simp] theorem State.modTherm_eths (s : State) f : (s.modTherm f).eths = s.eths := rfl
@[simp] theorem State.modTherm_stream (s : State) f : (s.modTherm f).stream = s.stream := rfl
@[simp] theorem State.modTherm_clock (s : State) f : (s.modTherm f).clock = s.clock := rfl
@[simp] theorem State.modTherm_corr (s : State) f : (s.modTherm f).corr = s.corr := rfl
@[simp] theorem State.modTherm_est (s : State) f : (s.modTherm f).est = s.est := rfl
@[simp] theorem State.modTherm_store (s : State) f : (s.modTherm f).store = s.store := rfl
@[simp] theorem State.modTherm_heldReq (s : State) f : (s.modTherm f).heldReq = s.heldReq := rfl
@[simp] theorem State.modTherm_waitingWrites (s : State) f : (s.modTherm f).waitingWrites = s.waitingWrites := rfl

/-! ## `setNode` and `setVal` -/

@[simp] theorem State.setNode_now (s : State) i p n : (s.setNode i p n).now = s.now := rfl
@[simp] theorem State.setNode_pending (s : State) i p n : (s.setNode i p n).pending = s.pending := rfl
@[simp] theorem State.setNode_free (s : State) i p n : (s.setNode i p n).free = s.free := rfl
@[simp] theorem State.setNode_serial (s : State) i p n : (s.setNode i p n).serial = s.serial := rfl
@[simp] theorem State.setNode_ident (s : State) i p n : (s.setNode i p n).ident = s.ident := rfl
@[simp] theorem State.setNode_utcBase (s : State) i p n : (s.setNode i p n).utcBase = s.utcBase := rfl
@[simp] theorem State.setNode_utcAt (s : State) i p n : (s.setNode i p n).utcAt = s.utcAt := rfl
@[simp] theorem State.setNode_irq (s : State) i p n : (s.setNode i p n).irq = s.irq := rfl
@[simp] theorem State.setNode_evlog (s : State) i p n : (s.setNode i p n).evlog = s.evlog := rfl
@[simp] theorem State.setNode_fc (s : State) i p n : (s.setNode i p n).fc = s.fc := rfl
@[simp] theorem State.setNode_supply (s : State) i p n : (s.setNode i p n).supply = s.supply := rfl
@[simp] theorem State.setNode_start (s : State) i p n : (s.setNode i p n).start = s.start := rfl
@[simp] theorem State.setNode_mode (s : State) i p n : (s.setNode i p n).mode = s.mode := rfl
@[simp] theorem State.setNode_cores (s : State) i p n : (s.setNode i p n).cores = s.cores := rfl
@[simp] theorem State.setNode_health (s : State) i p n : (s.setNode i p n).health = s.health := rfl
@[simp] theorem State.setNode_strs (s : State) i p n : (s.setNode i p n).strs = s.strs := rfl
@[simp] theorem State.setNode_banks (s : State) i p n : (s.setNode i p n).banks = s.banks := rfl
@[simp] theorem State.setNode_gates (s : State) i p n : (s.setNode i p n).gates = s.gates := rfl
@[simp] theorem State.setNode_gateBlock (s : State) i p n : (s.setNode i p n).gateBlock = s.gateBlock := rfl
@[simp] theorem State.setNode_bstr (s : State) i p n : (s.setNode i p n).bstr = s.bstr := rfl
@[simp] theorem State.setNode_belay (s : State) i p n : (s.setNode i p n).belay = s.belay := rfl
@[simp] theorem State.setNode_io (s : State) i p n : (s.setNode i p n).io = s.io := rfl
@[simp] theorem State.setNode_dict (s : State) i p n : (s.setNode i p n).dict = s.dict := rfl
@[simp] theorem State.setNode_seng (s : State) i p n : (s.setNode i p n).seng = s.seng := rfl
@[simp] theorem State.setNode_therm (s : State) i p n : (s.setNode i p n).therm = s.therm := rfl
@[simp] theorem State.setNode_cans (s : State) i p n : (s.setNode i p n).cans = s.cans := rfl
@[simp] theorem State.setNode_ropes (s : State) i p n : (s.setNode i p n).ropes = s.ropes := rfl
@[simp] theorem State.setNode_nodes (s : State) i p n : (s.setNode i p n).nodes = Sparse.put s.nodes (nodeKey i p) n := rfl
@[simp] theorem State.setNode_trav (s : State) i p n : (s.setNode i p n).trav = s.trav := rfl
@[simp] theorem State.setNode_bal (s : State) i p n : (s.setNode i p n).bal = s.bal := rfl
@[simp] theorem State.setNode_eths (s : State) i p n : (s.setNode i p n).eths = s.eths := rfl
@[simp] theorem State.setNode_stream (s : State) i p n : (s.setNode i p n).stream = s.stream := rfl
@[simp] theorem State.setNode_clock (s : State) i p n : (s.setNode i p n).clock = s.clock := rfl
@[simp] theorem State.setNode_corr (s : State) i p n : (s.setNode i p n).corr = s.corr := rfl
@[simp] theorem State.setNode_est (s : State) i p n : (s.setNode i p n).est = s.est := rfl
@[simp] theorem State.setNode_store (s : State) i p n : (s.setNode i p n).store = s.store := rfl
@[simp] theorem State.setNode_heldReq (s : State) i p n : (s.setNode i p n).heldReq = s.heldReq := rfl
@[simp] theorem State.setNode_waitingWrites (s : State) i p n : (s.setNode i p n).waitingWrites = s.waitingWrites := rfl
@[simp] theorem State.setVal_now (s : State) x u e v : (s.setVal x u e v).now = s.now := rfl
@[simp] theorem State.setVal_pending (s : State) x u e v : (s.setVal x u e v).pending = s.pending := rfl
@[simp] theorem State.setVal_free (s : State) x u e v : (s.setVal x u e v).free = s.free := rfl
@[simp] theorem State.setVal_serial (s : State) x u e v : (s.setVal x u e v).serial = s.serial := rfl
@[simp] theorem State.setVal_ident (s : State) x u e v : (s.setVal x u e v).ident = s.ident := rfl
@[simp] theorem State.setVal_utcBase (s : State) x u e v : (s.setVal x u e v).utcBase = s.utcBase := rfl
@[simp] theorem State.setVal_utcAt (s : State) x u e v : (s.setVal x u e v).utcAt = s.utcAt := rfl
@[simp] theorem State.setVal_irq (s : State) x u e v : (s.setVal x u e v).irq = s.irq := rfl
@[simp] theorem State.setVal_evlog (s : State) x u e v : (s.setVal x u e v).evlog = s.evlog := rfl
@[simp] theorem State.setVal_fc (s : State) x u e v : (s.setVal x u e v).fc = s.fc := rfl
@[simp] theorem State.setVal_supply (s : State) x u e v : (s.setVal x u e v).supply = s.supply := rfl
@[simp] theorem State.setVal_start (s : State) x u e v : (s.setVal x u e v).start = s.start := rfl
@[simp] theorem State.setVal_mode (s : State) x u e v : (s.setVal x u e v).mode = s.mode := rfl
@[simp] theorem State.setVal_cores (s : State) x u e v : (s.setVal x u e v).cores = s.cores := rfl
@[simp] theorem State.setVal_health (s : State) x u e v : (s.setVal x u e v).health = s.health := rfl
@[simp] theorem State.setVal_strs (s : State) x u e v : (s.setVal x u e v).strs = s.strs := rfl
@[simp] theorem State.setVal_banks (s : State) x u e v : (s.setVal x u e v).banks = s.banks := rfl
@[simp] theorem State.setVal_gates (s : State) x u e v : (s.setVal x u e v).gates = s.gates := rfl
@[simp] theorem State.setVal_gateBlock (s : State) x u e v : (s.setVal x u e v).gateBlock = s.gateBlock := rfl
@[simp] theorem State.setVal_bstr (s : State) x u e v : (s.setVal x u e v).bstr = s.bstr := rfl
@[simp] theorem State.setVal_belay (s : State) x u e v : (s.setVal x u e v).belay = s.belay := rfl
@[simp] theorem State.setVal_io (s : State) x u e v : (s.setVal x u e v).io = s.io := rfl
@[simp] theorem State.setVal_dict (s : State) x u e v : (s.setVal x u e v).dict = { s.dict with vals := Sparse.put s.dict.vals (dkey x u e) v } := rfl
@[simp] theorem State.setVal_seng (s : State) x u e v : (s.setVal x u e v).seng = s.seng := rfl
@[simp] theorem State.setVal_therm (s : State) x u e v : (s.setVal x u e v).therm = s.therm := rfl
@[simp] theorem State.setVal_cans (s : State) x u e v : (s.setVal x u e v).cans = s.cans := rfl
@[simp] theorem State.setVal_ropes (s : State) x u e v : (s.setVal x u e v).ropes = s.ropes := rfl
@[simp] theorem State.setVal_nodes (s : State) x u e v : (s.setVal x u e v).nodes = s.nodes := rfl
@[simp] theorem State.setVal_trav (s : State) x u e v : (s.setVal x u e v).trav = s.trav := rfl
@[simp] theorem State.setVal_bal (s : State) x u e v : (s.setVal x u e v).bal = s.bal := rfl
@[simp] theorem State.setVal_eths (s : State) x u e v : (s.setVal x u e v).eths = s.eths := rfl
@[simp] theorem State.setVal_stream (s : State) x u e v : (s.setVal x u e v).stream = s.stream := rfl
@[simp] theorem State.setVal_clock (s : State) x u e v : (s.setVal x u e v).clock = s.clock := rfl
@[simp] theorem State.setVal_corr (s : State) x u e v : (s.setVal x u e v).corr = s.corr := rfl
@[simp] theorem State.setVal_est (s : State) x u e v : (s.setVal x u e v).est = s.est := rfl
@[simp] theorem State.setVal_store (s : State) x u e v : (s.setVal x u e v).store = s.store := rfl
@[simp] theorem State.setVal_heldReq (s : State) x u e v : (s.setVal x u e v).heldReq = s.heldReq := rfl
@[simp] theorem State.setVal_waitingWrites (s : State) x u e v : (s.setVal x u e v).waitingWrites = s.waitingWrites := rfl

end Sys2Proof.Machine
end

