-- ==== Sys2Proof/Laws/Writes.lean ====
section
/-!
SUPPORT. What an admitted request does: reading a frame off `blank`, and one lemma each for a plain write and a sealed request that
reach their entry.
-/

namespace Sys2Proof.Machine

set_option linter.unreachableTactic false
set_option linter.unusedTactic false
set_option linter.unnecessarySeqFocus false

theorem holding_false {s : State} {c : Instr} {f : State → State} (h : s.holding = false) : s.unlessSwapping c f = f s := by
  simp [State.unlessSwapping, h]

/-- The parts a plain write changes beside its entry's own effect. -/
def writeParts : Part → Bool := only [.dict, .irq, .evlog, .eths, .cans]

theorem taken_blank (s : State) (src : Src) (index sub : Nat) : (s.taken src index sub).blank writeParts = s.blank writeParts := by
  simp only [State.taken]
  rw [State.noteTickWrite_in (m := writeParts) rfl, State.newRequest_in (m := writeParts) rfl rfl rfl rfl]

theorem writeCheck_row {s : State} {src : Src} {index sub : Nat} {data : List Byte} {r : EntryRow} (h : s.writeCheck src index sub data = .ok r) :
    entryOf index sub = some r := by
  unfold State.writeCheck at h
  repeat' split at h
  all_goals first | cases h; done | (cases h; assumption)

@[simp] theorem State.send_sent (s : State) (x : Message) : (s.send x).dict.sent = s.dict.sent ++ [x] := by
  unfold State.send
  dsimp only
  split
  · simp
  · split <;> simp
@[simp] theorem State.noteLast_sent (s : State) (w : LastWrite) : (s.noteLast w).dict.sent = s.dict.sent := rfl

theorem lastSent_answerWrite (s : State) (src : Src) (index sub : Nat) (data : List Byte) (w : LastWrite) :
    ((s.answerWrite src index sub data).noteLast w).lastSent = some (.writeReply src index sub data.length) := by
  simp [State.answerWrite, State.lastSent]

/-- An admitted plain write is its entry's effect on the state taken, then the record, the reply and what follows it. -/
theorem writeVia_eq {s : State} {src : Src} {index sub : Nat} {data : List Byte} {apply : EntryRow → State → Applied} {after : State → State}
    {v : State} (h : s.admits src index sub data) (hv : ∀ r, entryOf index sub = some r → apply r (s.taken src index sub) = .ok v) :
    s.writeVia src index sub data apply after = (after (v.answerWrite src index sub data)).noteLast
      { src := src, index := index, sub := sub, total := data.length, offset := 0, data := data, at_ := 0 } := by
  obtain ⟨_, h1, h2, h3, h4, r, h5⟩ := h
  have hr := hv r (writeCheck_row h5)
  simp only [State.taken] at h5 hr
  simp [State.writeVia, State.writeNow, h1, h2, h3, h4, h5, hr]

/-- An admitted plain write is answered, and outside the reply path the state is that of its entry's effect. -/
theorem writeVia_admitted {s : State} {src : Src} {index sub : Nat} {data : List Byte} {apply : EntryRow → State → Applied}
    {v : State} (h : s.admits src index sub data) (hv : ∀ r, entryOf index sub = some r → apply r (s.taken src index sub) = .ok v) :
    (s.writeVia src index sub data apply).lastSent = some (.writeReply src index sub data.length) ∧
      (s.writeVia src index sub data apply).blank writeParts = v.blank writeParts := by
  rw [writeVia_eq h hv]
  refine ⟨lastSent_answerWrite _ _ _ _ _ _, ?_⟩
  rw [State.noteLast_in (m := writeParts) rfl]
  exact State.answerWrite_in (m := writeParts) rfl rfl rfl rfl rfl _ _ _ _ _

/-- The parts a sealed request changes beside what firmware does with it. -/
def sealParts : Part → Bool := only [.dict, .irq, .evlog, .eths, .cans, .seng]

theorem verified_blank (s : State) (r : SealedReq) : (s.verified r).blank sealParts = s.blank sealParts := by
  simp only [State.verified]
  rw [forEach_in (fun _ _ => State.noteTickWrite_in (m := sealParts) rfl _ _ _ _), State.irqRaise_in (m := sealParts) rfl,
    State.consumeCounter_in (m := sealParts) rfl, State.sealTaken, State.noteSubmitted_in (m := sealParts) rfl,
    State.newRequest_in (m := sealParts) rfl rfl rfl rfl]

theorem lastSent_answerSealed (s : State) (r : SealedReq) :
    (s.answerSealed r).lastSent = some (.writeReply r.head.src 0x1E00 1 r.bytes.length) := by
  simp [State.answerSealed, State.lastSent]

/-- An admitted sealed request is what firmware does with the verified state. -/
theorem sealedVia_eq {s : State} {r : SealedReq} {act : State → SealEnd} (h : s.admitsSealed r) :
    s.sealedVia r act = (match act (s.verified r) with
      | .refused a item t => t.refuseSealed r a item
      | .applied t => t.answerSealed r
      | .awaits t => t) := by
  obtain ⟨_, h1, h2, h3, h4, h5, h6, h7, h7', h8, h9⟩ := h
  have keep (k : Part) (hk : sealParts k = false) : same s (s.verified r) k := same_of_blank (verified_blank s r) hk
  have hv : (s.verified r).fwUp = true := by
    rw [← h9]
    simp only [State.fwUp, show (s.verified r).start = s.start from keep .start rfl, now_of_blank (verified_blank s r)]
  have hw : (s.verified r).start.fw = .running := by simp [State.fwUp] at hv; exact hv.1
  simp only [State.verified] at hv hw
  have h5' := Nat.not_lt.mpr h5
  have h6' := Nat.not_lt.mpr h6
  have hq : (s.sealTaken r).seng.queue = [] := by
    rw [← h1]
    simp only [State.sealTaken, State.noteSubmitted, State.modDict]
    exact congrArg Seal.queue (same_of_blank (p := .seng) (State.newRequest_in (m := only [.dict, .irq, .evlog, .eths]) rfl rfl rfl rfl s r.head.src) rfl)
  have hm : (s.sealTaken r).mode = s.mode := by
    simp only [State.sealTaken, State.noteSubmitted, State.modDict]
    exact same_of_blank (p := .mode) (State.newRequest_in (m := only [.dict, .irq, .evlog, .eths]) rfl rfl rfl rfl s r.head.src) rfl
  have hvm : (s.verified r).mode = s.mode := keep .mode rfl
  simp only [State.verified] at hvm
  have hb : (s.sealTaken r).mode.block ≠ .off := by rw [hm]; exact h7
  have e : (s.newRequest r.head.src).noteSubmitted r.head.src r.bytes (0, r.bytes) = s.sealTaken r := rfl
  simp only [State.sealedVia, State.sealedThrough, State.atEngine, h1, List.head?_nil, Option.filter_none, h2, h3, Bool.false_eq_true, if_false, e, hq,
    List.isEmpty_nil, Bool.not_true, h4]
  have hf : (s.verified r).start.fw ≠ .recovery := by rw [State.verified, hw]; decide
  have hc : (s.verified r).mode.block ≠ .baseCamp := by rw [State.verified, hvm]; exact h7'
  simp only [State.verified] at hf hc
  simp only [State.sealJudge, h5', h6', hb, h8, hv, hf, hc, decide_false, Bool.or_false, Bool.false_eq_true, if_false, Bool.not_true, Bool.false_and, State.verified] <;> rfl

/-- An admitted sealed request that firmware applies is answered, and outside the reply path the state is that of its effect. -/
theorem sealedVia_applied {s t : State} {r : SealedReq} {act : State → SealEnd} (h : s.admitsSealed r) (ha : act (s.verified r) = .applied t) :
    (s.sealedVia r act).lastSent = some (.writeReply r.head.src 0x1E00 1 r.bytes.length) ∧
      (s.sealedVia r act).blank sealParts = t.blank sealParts := by
  rw [sealedVia_eq h, ha]
  exact ⟨lastSent_answerSealed t r, State.answerSealed_in (m := sealParts) rfl rfl rfl rfl rfl rfl t r⟩

end Sys2Proof.Machine
end

