-- ==== Sys2Proof/Laws/Each.lean ====
section
/-!
SUPPORT. One element of an indexed family after an update, and what runs over a list of indices leave.
-/

namespace Sys2Proof.Machine

set_option linter.unreachableTactic false
set_option linter.unusedTactic false
set_option linter.unusedSimpArgs false

theorem upd_getN {α : Type} {n : Nat} (v : Vector α n) (i : Fin n) (j : Nat) (h : j < n) (f : α → α) :
    (upd v i f)[j] = if i.val = j then f v[j] else v[j] := by
  unfold upd
  by_cases e : i.val = j
  · subst e; simp [Vector.getElem_set]
  · simp [Vector.getElem_set, e]

theorem upd_get {α : Type} {n : Nat} (v : Vector α n) (i j : Fin n) (f : α → α) : (upd v i f)[j] = if i = j then f v[j] else v[j] := by
  have := upd_getN v i j.val j.isLt f
  simp only [Fin.ext_iff]
  exact this

@[simp] theorem upd_get_same {α : Type} {n : Nat} (v : Vector α n) (i : Fin n) (f : α → α) : (upd v i f)[i.val] = f v[i.val] := by
  simp only [upd_getN, if_true]

theorem upd_get_other {α : Type} {n : Nat} (v : Vector α n) {i j : Fin n} (f : α → α) (h : i ≠ j) : (upd v i f)[j] = v[j] := by
  rw [upd_get, if_neg h]

/-- What every round of a run keeps, the run keeps. -/
theorem forEach_keeps {α : Type} {P : State → Prop} {f : State → α → State} (h : ∀ s a, P s → P (f s a)) (s : State) (l : List α)
    (hs : P s) : P (s.forEach l f) := by
  induction l generalizing s with
  | nil => exact hs
  | cons a l ih => exact ih (f s a) (h s a hs)

/-- What the round of one index sets up and every later round keeps, the run leaves. -/
theorem forEach_mem {α : Type} {P : α → State → Prop} {f : State → α → State} (set_ : ∀ s a, P a (f s a))
    (keep : ∀ s a b, P b s → P b (f s a)) (s : State) (l : List α) {a : α} (ha : a ∈ l) : P a (s.forEach l f) := by
  induction l generalizing s with
  | nil => cases ha
  | cons b l ih =>
    rcases List.mem_cons.1 ha with rfl | hm
    · exact forEach_keeps (fun t c hp => keep t c a hp) (f s a) l (set_ s a)
    · exact ih (f s b) hm

/-- A run of updates of single elements, each index at most once: an element of the list is updated once, any other is left. -/
theorem forEach_modGate (l : List (Fin 52)) (h : l.Nodup) (g : State → Fin 52 → Gate → Gate) (s : State)
    (hg : ∀ s d f, g (State.modGate s d f) = g s) (c : Fin 52) :
    (s.forEach l fun t c => t.modGate c (g t c)).gates[c] = if c ∈ l then g s c s.gates[c] else s.gates[c] := by
  induction l generalizing s with
  | nil => rfl
  | cons d l ih =>
    have hn := List.nodup_cons.1 h
    have e : (s.forEach (d :: l) fun t c => t.modGate c (g t c)) = (s.modGate d (g s d)).forEach l fun t c => t.modGate c (g t c) := rfl
    rw [e, ih hn.2, hg s d]
    by_cases hcd : d = c
    · subst hcd
      simp only [hn.1, if_false, List.mem_cons, true_or, if_true, State.modGate_gates, upd_get]
    · simp only [State.modGate_gates, upd_get_other _ _ hcd, List.mem_cons, show ¬ c = d from fun e => hcd e.symm, false_or]

end Sys2Proof.Machine
end

