-- ==== Sys2Proof/Laws/PerInstr.lean ====
section
/-!
SUPPORT. The family "Operands": one lemma per command saying whose request it is and that a well-formed one can be spelled on the wire.
-/

namespace Sys2Proof.Laws.Operands

set_option Elab.async false

/-- The head of the sealed request a command carries (14 Table 14-7). -/
def sealedHead : Instr → Option SealHead
  | .powerOnStart _ => none
  | .gateRailsUp => none
  | .startupComplete => none
  | .imageConfirm => none
  | .systemReset _ _ => none
  | .processorRestart _ => none
  | .watchdogWarning => none
  | .watchdogExpiry => none
  | .resetRequestRestart x => some x
  | .resetRequestSystem x => some x
  | .powerFailWarning => none
  | .powerFailWithdrawn => none
  | .belaySupplyWarning => none
  | .inputOvervoltage => none
  | .holdupRecharged _ _ => none
  | .holdupMeasurement _ _ => none
  | .vqLoss => none
  | .vqRestored => none
  | .vqOvercurrent => none
  | .provStrapChange => none
  | .thermalShutdown _ => none
  | .thermalHold => none
  | .thermalRestart _ => none
  | .traverseTriggerIssue _ _ _ => none
  | .replyReceived _ _ _ _ _ => none
  | .replyTimeout _ _ _ _ _ => none
  | .distributorDeliver _ => none
  | .belayReplyEval => none
  | .envelopeTrip _ => none
  | .unseenLimitReached _ => none
  | .missingTraverseDetect => none
  | .missingTraverseInterval => none
  | .traverseComplete => none
  | .linkSenseLost _ => none
  | .ropeModeChange _ => none
  | .portToSpare _ => none
  | .slowRoundComplete => none
  | .rollCallRequest _ _ _ => none
  | .rollCallComplete _ _ _ => none
  | .partialRollCallComplete _ _ => none
  | .ropeModeReq _ _ _ => none
  | .statsClear _ _ _ => none
  | .rollCallA _ => none
  | .rollCallB _ => none
  | .hopEcho _ => none
  | .setServe _ => none
  | .continuity _ => none
  | .trigger _ => none
  | .latchStrobe _ _ _ _ _ _ => none
  | .recessStart _ _ => none
  | .readHeld _ => none
  | .readTemp _ => none
  | .readHk _ => none
  | .openWire _ _ => none
  | .setBalance _ => none
  | .setFilter _ => none
  | .setConfig _ => none
  | .baseCamp _ => none
  | .nop _ => none
  | .commLossTimeout _ _ => none
  | .baseCampWakeMeasure _ _ _ _ => none
  | .wakeToneSend _ _ => none
  | .wakeToneRepeat _ _ _ => none
  | .travPeriodWrite x => some x.head
  | .recessWrite _ _ => none
  | .slowPeriodWrite x => some x.head
  | .balModeWrite _ _ => none
  | .balMaskReqWrite _ _ _ => none
  | .balDirectHoldExpiry _ => none
  | .openWireTestDue => none
  | .owDeferExpiry _ _ _ => none
  | .baseCampEnterReq _ => none
  | .baseCampLeaveReq _ _ _ => none
  | .wakeToneDetected _ _ _ _ => none
  | .wakeInRise _ _ => none
  | .baseCampExitComplete => none
  | .wakeOutAck _ _ => none
  | .correlationUpdate => none
  | .batchHandover => none
  | .resultTaken => none
  | .corrEnableWrite _ _ => none
  | .sdWindowEnd => none
  | .estimatorStep _ => none
  | .learnWriteReq _ _ => none
  | .learnWritebackPeriodic => none
  | .learnedCopyWritten => none
  | .close x _ _ => some x
  | .precharge x _ _ => some x
  | .unlock x _ _ => some x
  | .hallPassTaken => none
  | .hallPassExpiry _ => none
  | .closeGrant _ => none
  | .stringClosed _ => none
  | .holdoffClear _ => none
  | .prechargeStart _ => none
  | .prechargeTargetReached _ _ => none
  | .prechargeTimeout _ => none
  | .openString _ _ _ => none
  | .bankOpen _ _ _ => none
  | .tripClear _ _ _ => none
  | .excludeSet _ _ => none
  | .excludeClear _ _ => none
  | .faultClear _ _ _ => none
  | .dischargeTimeout _ => none
  | .gateClear _ _ _ => none
  | .gateSelftest _ _ _ => none
  | .gateSelftestComplete _ _ => none
  | .gateRisingEdge _ => none
  | .gateFallingEdge _ => none
  | .didtDetect _ _ => none
  | .blankingEnd _ _ => none
  | .uvloDetect _ _ _ => none
  | .readbackFault _ _ _ => none
  | .gateFaultReport _ => none
  | .softOffEnd _ => none
  | .coincidentWindowEnd => none
  | .envelopeRecord => none
  | .mirrorDigestCompare => none
  | .testPulseOff _ => none
  | .crossShortCheckSample _ _ _ => none
  | .testPulseSupplyFault _ _ => none
  | .tpClear _ _ => none
  | .inputTick _ _ => none
  | .discrepancyFault _ => none
  | .qRequest _ _ => none
  | .qEnergise x _ => some x
  | .qDrop _ _ => none
  | .qClear _ _ => none
  | .pullInEnd _ => none
  | .outputOffPulse _ _ _ => none
  | .outputReadbackFault _ _ _ => none
  | .openLoad _ _ => none
  | .safeCopyReceived _ _ _ => none
  | .smWindowExpiry _ => none
  | .smDegradedExpiry _ => none
  | .smRxTimeout _ => none
  | .safeStreamSend => none
  | .canFrameReceived _ _ _ _ => none
  | .moTxReq _ _ _ => none
  | .moCancel _ _ _ => none
  | .moDataWrite _ _ _ _ => none
  | .moCfgWrite _ _ _ _ => none
  | .bitTimingWrite _ _ _ _ => none
  | .canMode _ _ _ _ => none
  | .canTransmitEnd _ _ => none
  | .canError _ _ _ _ _ => none
  | .protocolException _ => none
  | .busoffRecover _ _ _ => none
  | .busoffAutoExpiry _ => none
  | .busoffRecovered _ => none
  | .dupClear _ _ _ => none
  | .referenceReceived _ _ _ _ _ _ => none
  | .referenceSend _ => none
  | .backupTakeover _ => none
  | .ttSyncLoss _ => none
  | .ttMark _ _ _ => none
  | .read _ _ _ _ _ => none
  | .write _ _ _ _ _ _ _ => none
  | .heartbeat _ _ _ _ => none
  | .transferTimeout _ => none
  | .partnerHeartbeatTimeout _ => none
  | .partnerAgeExpiry _ => none
  | .deviceHeartbeatSend => none
  | .sealedEnvelopeRequest x => some x.head
  | .sealedSafetyIoRequest x => some x.head
  | .sealedTrustRequest x => some x.head
  | .sealedItemsRequest x => some x.head
  | .provisioningRequest x => some x.head
  | .counterStored => none
  | .trustErase _ _ => none
  | .trustErasure => none
  | .fwOpen x _ => some x
  | .fwImage _ _ _ _ => none
  | .fwCommit x _ _ _ _ => some x
  | .fwSessionTimeout => none
  | .cfgStore _ _ => none
  | .eventOccurrence _ _ _ _ => none
  | .recorderFlush => none
  | .suppressionSummary _ => none
  | .recWindow _ => none
  | .recClear x _ => some x
  | .rateLimitWrite _ _ _ => none
  | .histRead _ => none
  | .windowCounterLasting _ _ => none
  | .lockstepCommit => none
  | .lockstepMismatch _ => none
  | .pairForming _ _ => none
  | .swapResume => none
  | .spareCoreSelfTest _ => none
  | .sramScrub _ => none
  | .sramEccError _ _ _ => none
  | .flashError _ _ => none
  | .oscWindow _ => none
  | .phyRestore _ _ => none
  | .healthClear x _ => some x
  | .deviceTempRound _ => none
  | .throttleExitDwell => none
  | .throttleSelect _ _ => none
  | .ethApply _ _ => none
  | .addressConflict _ => none
  | .ethLinkChange _ _ _ => none
  | .streamSetSend _ _ => none
  | .streamSuspension => none
  | .timeSourceSelection => none
  | .timeSet x _ => some x
  | .rtcAlarm => none
  | .ptpMessageReceived _ _ _ => none
  | .announceReceiptTimeout => none
  | .requestStandby _ => none
  | .requestArmed _ => none
  | .requestService _ => none
  | .registerWrite _ _ _ _ => none
  | .nodeRestart _ _ _ => none
  | .canStartOfFrame _ => none
  | .canIntegrationComplete _ => none
  | .ethFrameReceived _ _ _ => none
  | .ptpMessageInterval _ => none
  | .leapSecond => none
  | .belSensorFail _ => none
  | .wakeInFall => none

/-- The partner a command comes from: none for an event of the plant, the end of an interval or a step of the block. -/
def sender : Instr → Option Src
  | .powerOnStart _ => none
  | .gateRailsUp => none
  | .startupComplete => none
  | .imageConfirm => none
  | .systemReset _ _ => none
  | .processorRestart _ => none
  | .watchdogWarning => none
  | .watchdogExpiry => none
  | .resetRequestRestart x => some x.src
  | .resetRequestSystem x => some x.src
  | .powerFailWarning => none
  | .powerFailWithdrawn => none
  | .belaySupplyWarning => none
  | .inputOvervoltage => none
  | .holdupRecharged _ _ => none
  | .holdupMeasurement _ _ => none
  | .vqLoss => none
  | .vqRestored => none
  | .vqOvercurrent => none
  | .provStrapChange => none
  | .thermalShutdown _ => none
  | .thermalHold => none
  | .thermalRestart _ => none
  | .traverseTriggerIssue _ _ _ => none
  | .replyReceived _ _ _ _ _ => none
  | .replyTimeout _ _ _ _ _ => none
  | .distributorDeliver _ => none
  | .belayReplyEval => none
  | .envelopeTrip _ => none
  | .unseenLimitReached _ => none
  | .missingTraverseDetect => none
  | .missingTraverseInterval => none
  | .traverseComplete => none
  | .linkSenseLost _ => none
  | .ropeModeChange _ => none
  | .portToSpare _ => none
  | .slowRoundComplete => none
  | .rollCallRequest x _ _ => some x
  | .rollCallComplete _ _ _ => none
  | .partialRollCallComplete _ _ => none
  | .ropeModeReq x _ _ => some x
  | .statsClear x _ _ => some x
  | .rollCallA _ => none
  | .rollCallB _ => none
  | .hopEcho _ => none
  | .setServe _ => none
  | .continuity _ => none
  | .trigger _ => none
  | .latchStrobe _ _ _ _ _ _ => none
  | .recessStart _ _ => none
  | .readHeld _ => none
  | .readTemp _ => none
  | .readHk _ => none
  | .openWire _ _ => none
  | .setBalance _ => none
  | .setFilter _ => none
  | .setConfig _ => none
  | .baseCamp _ => none
  | .nop _ => none
  | .commLossTimeout _ _ => none
  | .baseCampWakeMeasure _ _ _ _ => none
  | .wakeToneSend _ _ => none
  | .wakeToneRepeat _ _ _ => none
  | .travPeriodWrite x => some x.head.src
  | .recessWrite x _ => some x
  | .slowPeriodWrite x => some x.head.src
  | .balModeWrite x _ => some x
  | .balMaskReqWrite x _ _ => some x
  | .balDirectHoldExpiry _ => none
  | .openWireTestDue => none
  | .owDeferExpiry _ _ _ => none
  | .baseCampEnterReq x => some x
  | .baseCampLeaveReq x _ _ => some x
  | .wakeToneDetected _ _ _ _ => none
  | .wakeInRise _ _ => none
  | .baseCampExitComplete => none
  | .wakeOutAck x _ => some x
  | .correlationUpdate => none
  | .batchHandover => none
  | .resultTaken => none
  | .corrEnableWrite x _ => some x
  | .sdWindowEnd => none
  | .estimatorStep _ => none
  | .learnWriteReq x _ => some x
  | .learnWritebackPeriodic => none
  | .learnedCopyWritten => none
  | .close x _ _ => some x.src
  | .precharge x _ _ => some x.src
  | .unlock x _ _ => some x.src
  | .hallPassTaken => none
  | .hallPassExpiry _ => none
  | .closeGrant _ => none
  | .stringClosed _ => none
  | .holdoffClear _ => none
  | .prechargeStart _ => none
  | .prechargeTargetReached _ _ => none
  | .prechargeTimeout _ => none
  | .openString x _ _ => some x
  | .bankOpen x _ _ => some x
  | .tripClear x _ _ => some x
  | .excludeSet x _ => some x
  | .excludeClear x _ => some x
  | .faultClear x _ _ => some x
  | .dischargeTimeout _ => none
  | .gateClear x _ _ => some x
  | .gateSelftest x _ _ => some x
  | .gateSelftestComplete _ _ => none
  | .gateRisingEdge _ => none
  | .gateFallingEdge _ => none
  | .didtDetect _ _ => none
  | .blankingEnd _ _ => none
  | .uvloDetect _ _ _ => none
  | .readbackFault _ _ _ => none
  | .gateFaultReport _ => none
  | .softOffEnd _ => none
  | .coincidentWindowEnd => none
  | .envelopeRecord => none
  | .mirrorDigestCompare => none
  | .testPulseOff _ => none
  | .crossShortCheckSample _ _ _ => none
  | .testPulseSupplyFault _ _ => none
  | .tpClear x _ => some x
  | .inputTick _ _ => none
  | .discrepancyFault _ => none
  | .qRequest x _ => some x
  | .qEnergise x _ => some x.src
  | .qDrop x _ => some x
  | .qClear x _ => some x
  | .pullInEnd _ => none
  | .outputOffPulse _ _ _ => none
  | .outputReadbackFault _ _ _ => none
  | .openLoad _ _ => none
  | .safeCopyReceived _ _ _ => none
  | .smWindowExpiry _ => none
  | .smDegradedExpiry _ => none
  | .smRxTimeout _ => none
  | .safeStreamSend => none
  | .canFrameReceived _ _ _ _ => none
  | .moTxReq x _ _ => some x
  | .moCancel x _ _ => some x
  | .moDataWrite x _ _ _ => some x
  | .moCfgWrite x _ _ _ => some x
  | .bitTimingWrite x _ _ _ => some x
  | .canMode x _ _ _ => some x
  | .canTransmitEnd _ _ => none
  | .canError _ _ _ _ _ => none
  | .protocolException _ => none
  | .busoffRecover x _ _ => some x
  | .busoffAutoExpiry _ => none
  | .busoffRecovered _ => none
  | .dupClear x _ _ => some x
  | .referenceReceived _ _ _ _ _ _ => none
  | .referenceSend _ => none
  | .backupTakeover _ => none
  | .ttSyncLoss _ => none
  | .ttMark _ _ _ => none
  | .read x _ _ _ _ => some x
  | .write x _ _ _ _ _ _ => some x
  | .heartbeat x _ _ _ => some x
  | .transferTimeout x => some x
  | .partnerHeartbeatTimeout x => some x
  | .partnerAgeExpiry x => some x
  | .deviceHeartbeatSend => none
  | .sealedEnvelopeRequest x => some x.head.src
  | .sealedSafetyIoRequest x => some x.head.src
  | .sealedTrustRequest x => some x.head.src
  | .sealedItemsRequest x => some x.head.src
  | .provisioningRequest x => some x.head.src
  | .counterStored => none
  | .trustErase x _ => some x
  | .trustErasure => none
  | .fwOpen x _ => some x.src
  | .fwImage x _ _ _ => some x
  | .fwCommit x _ _ _ _ => some x.src
  | .fwSessionTimeout => none
  | .cfgStore x _ => some x
  | .eventOccurrence _ _ _ _ => none
  | .recorderFlush => none
  | .suppressionSummary _ => none
  | .recWindow x => some x
  | .recClear x _ => some x.src
  | .rateLimitWrite x _ _ => some x
  | .histRead x => some x
  | .windowCounterLasting _ _ => none
  | .lockstepCommit => none
  | .lockstepMismatch _ => none
  | .pairForming _ _ => none
  | .swapResume => none
  | .spareCoreSelfTest _ => none
  | .sramScrub _ => none
  | .sramEccError _ _ _ => none
  | .flashError _ _ => none
  | .oscWindow _ => none
  | .phyRestore x _ => some x
  | .healthClear x _ => some x.src
  | .deviceTempRound _ => none
  | .throttleExitDwell => none
  | .throttleSelect x _ => some x
  | .ethApply x _ => some x
  | .addressConflict _ => none
  | .ethLinkChange _ _ _ => none
  | .streamSetSend _ _ => none
  | .streamSuspension => none
  | .timeSourceSelection => none
  | .timeSet x _ => some x.src
  | .rtcAlarm => none
  | .ptpMessageReceived _ _ _ => none
  | .announceReceiptTimeout => none
  | .requestStandby x => some x
  | .requestArmed x => some x
  | .requestService x => some x
  | .registerWrite x _ _ _ => some x
  | .nodeRestart _ _ _ => none
  | .canStartOfFrame _ => none
  | .canIntegrationComplete _ => none
  | .ethFrameReceived _ _ _ => none
  | .ptpMessageInterval _ => none
  | .leapSecond => none
  | .belSensorFail _ => none
  | .wakeInFall => none

/-- A well-formed command comes from an address a partner can have (14 Tables 14-1 and 14-8), and its sealed head fits its fields. -/
def Statement (i : Instr) : Prop :=
  i.wf = true → (∀ a, sender i = some a → srcOk a = true) ∧ (∀ h, sealedHead i = some h → headOk h = true)

theorem of_none {i : Instr} (h₁ : sender i = none) (h₂ : sealedHead i = none) : Statement i := by
  simp [Statement, h₁, h₂]

theorem of_src {i : Instr} {a : Src} (h₁ : sender i = some a) (h₂ : sealedHead i = none) (h : i.wf = true → srcOk a = true) :
    Statement i := by
  intro w; simp [h₁, h₂, h w]

theorem of_head {i : Instr} {x : SealHead} (h₁ : sender i = some x.src) (h₂ : sealedHead i = some x) (h : i.wf = true → headOk x = true) :
    Statement i := by
  intro w
  have h' := h w
  have hs : srcOk x.src = true := by simp only [headOk, Bool.and_eq_true] at h'; exact h'.1.1.1.1.1.1
  simp [h₁, h₂, h', hs]

theorem head_of_request {r : SealedReq} (h : requestOk r = true) : headOk r.head = true := by
  simp only [requestOk, Bool.and_eq_true] at h; exact h.1.1

theorem powerOnStart (x0 : StartFindings) : Statement (.powerOnStart x0) := of_none rfl rfl
theorem gateRailsUp : Statement .gateRailsUp := of_none rfl rfl
theorem startupComplete : Statement .startupComplete := of_none rfl rfl
theorem imageConfirm : Statement .imageConfirm := of_none rfl rfl
theorem systemReset (x0 : SysCause) (x1 : StartFindings) : Statement (.systemReset x0 x1) := of_none rfl rfl
theorem processorRestart (x0 : ProcCause) : Statement (.processorRestart x0) := of_none rfl rfl
theorem watchdogWarning : Statement .watchdogWarning := of_none rfl rfl
theorem watchdogExpiry : Statement .watchdogExpiry := of_none rfl rfl
theorem resetRequestRestart (x0 : SealHead) : Statement (.resetRequestRestart x0) := of_head rfl rfl (by simp +contextual [Instr.wf])
theorem resetRequestSystem (x0 : SealHead) : Statement (.resetRequestSystem x0) := of_head rfl rfl (by simp +contextual [Instr.wf])
theorem powerFailWarning : Statement .powerFailWarning := of_none rfl rfl
theorem powerFailWithdrawn : Statement .powerFailWithdrawn := of_none rfl rfl
theorem belaySupplyWarning : Statement .belaySupplyWarning := of_none rfl rfl
theorem inputOvervoltage : Statement .inputOvervoltage := of_none rfl rfl
theorem holdupRecharged (x0 : Nat) (x1 : Bool) : Statement (.holdupRecharged x0 x1) := of_none rfl rfl
theorem holdupMeasurement (x0 : Nat) (x1 : Bool) : Statement (.holdupMeasurement x0 x1) := of_none rfl rfl
theorem vqLoss : Statement .vqLoss := of_none rfl rfl
theorem vqRestored : Statement .vqRestored := of_none rfl rfl
theorem vqOvercurrent : Statement .vqOvercurrent := of_none rfl rfl
theorem provStrapChange : Statement .provStrapChange := of_none rfl rfl
theorem thermalShutdown (x0 : Nat) : Statement (.thermalShutdown x0) := of_none rfl rfl
theorem thermalHold : Statement .thermalHold := of_none rfl rfl
theorem thermalRestart (x0 : StartFindings) : Statement (.thermalRestart x0) := of_none rfl rfl
theorem traverseTriggerIssue (x0 : Vector (Option Nat) 4) (x1 : List Nat) (x2 : List (Nat × Nat)) : Statement (.traverseTriggerIssue x0 x1 x2) := of_none rfl rfl
theorem replyReceived (x0 : Fin 40) (x1 : PortEnd) (x2 : ReadKind) (x3 : Fin 33) (x4 : List Byte) : Statement (.replyReceived x0 x1 x2 x3 x4) := of_none rfl rfl
theorem replyTimeout (x0 : Fin 40) (x1 : PortEnd) (x2 : ReadKind) (x3 : Fin 33) (x4 : Bool) : Statement (.replyTimeout x0 x1 x2 x3 x4) := of_none rfl rfl
theorem distributorDeliver (x0 : Bool) : Statement (.distributorDeliver x0) := of_none rfl rfl
theorem belayReplyEval : Statement .belayReplyEval := of_none rfl rfl
theorem envelopeTrip (x0 : Fin 40) : Statement (.envelopeTrip x0) := of_none rfl rfl
theorem unseenLimitReached (x0 : Fin 40) : Statement (.unseenLimitReached x0) := of_none rfl rfl
theorem missingTraverseDetect : Statement .missingTraverseDetect := of_none rfl rfl
theorem missingTraverseInterval : Statement .missingTraverseInterval := of_none rfl rfl
theorem traverseComplete : Statement .traverseComplete := of_none rfl rfl
theorem linkSenseLost (x0 : Fin 4) : Statement (.linkSenseLost x0) := of_none rfl rfl
theorem ropeModeChange (x0 : Fin 40) : Statement (.ropeModeChange x0) := of_none rfl rfl
theorem portToSpare (x0 : Fin 80) : Statement (.portToSpare x0) := of_none rfl rfl
theorem slowRoundComplete : Statement .slowRoundComplete := of_none rfl rfl
theorem rollCallRequest (x0 : Src) (x1 : Fin 40) (x2 : Nat) : Statement (.rollCallRequest x0 x1 x2) := of_src rfl rfl (by simp +contextual [Instr.wf])
theorem rollCallComplete (x0 : Fin 40) (x1 : List RollNode) (x2 : List RollNode) : Statement (.rollCallComplete x0 x1 x2) := of_none rfl rfl
theorem partialRollCallComplete (x0 : Fin 40) (x1 : List RollNode) : Statement (.partialRollCallComplete x0 x1) := of_none rfl rfl
theorem ropeModeReq (x0 : Src) (x1 : Fin 40) (x2 : Nat) : Statement (.ropeModeReq x0 x1 x2) := of_src rfl rfl (by simp +contextual [Instr.wf])
theorem statsClear (x0 : Src) (x1 : Fin 40) (x2 : Nat) : Statement (.statsClear x0 x1 x2) := of_src rfl rfl (by simp +contextual [Instr.wf])
theorem rollCallA (x0 : NodeRx) : Statement (.rollCallA x0) := of_none rfl rfl
theorem rollCallB (x0 : NodeRx) : Statement (.rollCallB x0) := of_none rfl rfl
theorem hopEcho (x0 : NodeRx) : Statement (.hopEcho x0) := of_none rfl rfl
theorem setServe (x0 : NodeRx) : Statement (.setServe x0) := of_none rfl rfl
theorem continuity (x0 : NodeRx) : Statement (.continuity x0) := of_none rfl rfl
theorem trigger (x0 : NodeRx) : Statement (.trigger x0) := of_none rfl rfl
theorem latchStrobe (x0 : Fin 40) (x1 : Fin 33) (x2 : List HeldSample) (x3 : List Int) (x4 : List Nat) (x5 : Bool) : Statement (.latchStrobe x0 x1 x2 x3 x4 x5) := of_none rfl rfl
theorem recessStart (x0 : Fin 40) (x1 : Fin 33) : Statement (.recessStart x0 x1) := of_none rfl rfl
theorem readHeld (x0 : NodeRx) : Statement (.readHeld x0) := of_none rfl rfl
theorem readTemp (x0 : NodeRx) : Statement (.readTemp x0) := of_none rfl rfl
theorem readHk (x0 : NodeRx) : Statement (.readHk x0) := of_none rfl rfl
theorem openWire (x0 : NodeRx) (x1 : Bool) : Statement (.openWire x0 x1) := of_none rfl rfl
theorem setBalance (x0 : NodeRx) : Statement (.setBalance x0) := of_none rfl rfl
theorem setFilter (x0 : NodeRx) : Statement (.setFilter x0) := of_none rfl rfl
theorem setConfig (x0 : NodeRx) : Statement (.setConfig x0) := of_none rfl rfl
theorem baseCamp (x0 : NodeRx) : Statement (.baseCamp x0) := of_none rfl rfl
theorem nop (x0 : NodeRx) : Statement (.nop x0) := of_none rfl rfl
theorem commLossTimeout (x0 : Fin 40) (x1 : Fin 33) : Statement (.commLossTimeout x0 x1) := of_none rfl rfl
theorem baseCampWakeMeasure (x0 : Fin 40) (x1 : Fin 33) (x2 : List Nat) (x3 : List Int) : Statement (.baseCampWakeMeasure x0 x1 x2 x3) := of_none rfl rfl
theorem wakeToneSend (x0 : Fin 40) (x1 : Fin 33) : Statement (.wakeToneSend x0 x1) := of_none rfl rfl
theorem wakeToneRepeat (x0 : Fin 40) (x1 : Fin 33) (x2 : PortEnd) : Statement (.wakeToneRepeat x0 x1 x2) := of_none rfl rfl
theorem travPeriodWrite (x0 : SealedReq) : Statement (.travPeriodWrite x0) := of_head rfl rfl fun w => head_of_request (by simpa [Instr.wf] using w)
theorem recessWrite (x0 : Src) (x1 : Nat) : Statement (.recessWrite x0 x1) := of_src rfl rfl (by simp +contextual [Instr.wf])
theorem slowPeriodWrite (x0 : SealedReq) : Statement (.slowPeriodWrite x0) := of_head rfl rfl fun w => head_of_request (by simpa [Instr.wf] using w)
theorem balModeWrite (x0 : Src) (x1 : Nat) : Statement (.balModeWrite x0 x1) := of_src rfl rfl (by simp +contextual [Instr.wf])
theorem balMaskReqWrite (x0 : Src) (x1 : Fin 40) (x2 : List Byte) : Statement (.balMaskReqWrite x0 x1 x2) := of_src rfl rfl (by simp +contextual [Instr.wf])
theorem balDirectHoldExpiry (x0 : Fin 40) : Statement (.balDirectHoldExpiry x0) := of_none rfl rfl
theorem openWireTestDue : Statement .openWireTestDue := of_none rfl rfl
theorem owDeferExpiry (x0 : Fin 40) (x1 : Fin 33) (x2 : Fin 16) : Statement (.owDeferExpiry x0 x1 x2) := of_none rfl rfl
theorem baseCampEnterReq (x0 : Src) : Statement (.baseCampEnterReq x0) := of_src rfl rfl (by simp +contextual [Instr.wf])
theorem baseCampLeaveReq (x0 : Src) (x1 : Bool) (x2 : List (Nat × Nat)) : Statement (.baseCampLeaveReq x0 x1 x2) := of_src rfl rfl (by simp +contextual [Instr.wf])
theorem wakeToneDetected (x0 : Fin 40) (x1 : PortEnd) (x2 : Bool) (x3 : List (Nat × Nat)) : Statement (.wakeToneDetected x0 x1 x2 x3) := of_none rfl rfl
theorem wakeInRise (x0 : Bool) (x1 : List (Nat × Nat)) : Statement (.wakeInRise x0 x1) := of_none rfl rfl
theorem baseCampExitComplete : Statement .baseCampExitComplete := of_none rfl rfl
theorem wakeOutAck (x0 : Src) (x1 : Nat) : Statement (.wakeOutAck x0 x1) := of_src rfl rfl (by simp +contextual [Instr.wf])
theorem correlationUpdate : Statement .correlationUpdate := of_none rfl rfl
theorem batchHandover : Statement .batchHandover := of_none rfl rfl
theorem resultTaken : Statement .resultTaken := of_none rfl rfl
theorem corrEnableWrite (x0 : Src) (x1 : Nat) : Statement (.corrEnableWrite x0 x1) := of_src rfl rfl (by simp +contextual [Instr.wf])
theorem sdWindowEnd : Statement .sdWindowEnd := of_none rfl rfl
theorem estimatorStep (x0 : Vector Nat 3) : Statement (.estimatorStep x0) := of_none rfl rfl
theorem learnWriteReq (x0 : Src) (x1 : Nat) : Statement (.learnWriteReq x0 x1) := of_src rfl rfl (by simp +contextual [Instr.wf])
theorem learnWritebackPeriodic : Statement .learnWritebackPeriodic := of_none rfl rfl
theorem learnedCopyWritten : Statement .learnedCopyWritten := of_none rfl rfl
theorem close (x0 : SealHead) (x1 : Fin 40) (x2 : Nat) : Statement (.close x0 x1 x2) := of_head rfl rfl (by simp +contextual [Instr.wf])
theorem precharge (x0 : SealHead) (x1 : Fin 4) (x2 : Nat) : Statement (.precharge x0 x1 x2) := of_head rfl rfl (by simp +contextual [Instr.wf])
theorem unlock (x0 : SealHead) (x1 : Fin 40) (x2 : Nat) : Statement (.unlock x0 x1 x2) := of_head rfl rfl (by simp +contextual [Instr.wf])
theorem hallPassTaken : Statement .hallPassTaken := of_none rfl rfl
theorem hallPassExpiry (x0 : Fin 56) : Statement (.hallPassExpiry x0) := of_none rfl rfl
theorem closeGrant (x0 : Fin 40) : Statement (.closeGrant x0) := of_none rfl rfl
theorem stringClosed (x0 : Fin 40) : Statement (.stringClosed x0) := of_none rfl rfl
theorem holdoffClear (x0 : Fin 4) : Statement (.holdoffClear x0) := of_none rfl rfl
theorem prechargeStart (x0 : Fin 4) : Statement (.prechargeStart x0) := of_none rfl rfl
theorem prechargeTargetReached (x0 : Fin 4) (x1 : Nat) : Statement (.prechargeTargetReached x0 x1) := of_none rfl rfl
theorem prechargeTimeout (x0 : Fin 4) : Statement (.prechargeTimeout x0) := of_none rfl rfl
theorem openString (x0 : Src) (x1 : Fin 40) (x2 : Nat) : Statement (.openString x0 x1 x2) := of_src rfl rfl (by simp +contextual [Instr.wf])
theorem bankOpen (x0 : Src) (x1 : Fin 4) (x2 : Nat) : Statement (.bankOpen x0 x1 x2) := of_src rfl rfl (by simp +contextual [Instr.wf])
theorem tripClear (x0 : Src) (x1 : Fin 40) (x2 : Nat) : Statement (.tripClear x0 x1 x2) := of_src rfl rfl (by simp +contextual [Instr.wf])
theorem excludeSet (x0 : Src) (x1 : Fin 40) : Statement (.excludeSet x0 x1) := of_src rfl rfl (by simp +contextual [Instr.wf])
theorem excludeClear (x0 : Src) (x1 : Fin 40) : Statement (.excludeClear x0 x1) := of_src rfl rfl (by simp +contextual [Instr.wf])
theorem faultClear (x0 : Src) (x1 : Fin 4) (x2 : Nat) : Statement (.faultClear x0 x1 x2) := of_src rfl rfl (by simp +contextual [Instr.wf])
theorem dischargeTimeout (x0 : Fin 4) : Statement (.dischargeTimeout x0) := of_none rfl rfl
theorem gateClear (x0 : Src) (x1 : Fin 4) (x2 : Nat) : Statement (.gateClear x0 x1 x2) := of_src rfl rfl (by simp +contextual [Instr.wf])
theorem gateSelftest (x0 : Src) (x1 : Fin 52) (x2 : Nat) : Statement (.gateSelftest x0 x1 x2) := of_src rfl rfl (by simp +contextual [Instr.wf])
theorem gateSelftestComplete (x0 : Fin 52) (x1 : SelfTestEnd) : Statement (.gateSelftestComplete x0 x1) := of_none rfl rfl
theorem gateRisingEdge (x0 : Fin 52) : Statement (.gateRisingEdge x0) := of_none rfl rfl
theorem gateFallingEdge (x0 : Fin 52) : Statement (.gateFallingEdge x0) := of_none rfl rfl
theorem didtDetect (x0 : Fin 52) (x1 : DidtLevel) : Statement (.didtDetect x0 x1) := of_none rfl rfl
theorem blankingEnd (x0 : Fin 52) (x1 : Bool) : Statement (.blankingEnd x0 x1) := of_none rfl rfl
theorem uvloDetect (x0 : Fin 52) (x1 : Bool) (x2 : Bool) : Statement (.uvloDetect x0 x1 x2) := of_none rfl rfl
theorem readbackFault (x0 : Fin 52) (x1 : ReadbackCause) (x2 : Bool) : Statement (.readbackFault x0 x1 x2) := of_none rfl rfl
theorem gateFaultReport (x0 : Fin 52) : Statement (.gateFaultReport x0) := of_none rfl rfl
theorem softOffEnd (x0 : Fin 52) : Statement (.softOffEnd x0) := of_none rfl rfl
theorem coincidentWindowEnd : Statement .coincidentWindowEnd := of_none rfl rfl
theorem envelopeRecord : Statement .envelopeRecord := of_none rfl rfl
theorem mirrorDigestCompare : Statement .mirrorDigestCompare := of_none rfl rfl
theorem testPulseOff (x0 : Fin 4) : Statement (.testPulseOff x0) := of_none rfl rfl
theorem crossShortCheckSample (x0 : Fin 4) (x1 : Nat) (x2 : Nat) : Statement (.crossShortCheckSample x0 x1 x2) := of_none rfl rfl
theorem testPulseSupplyFault (x0 : Fin 4) (x1 : Fin 3) : Statement (.testPulseSupplyFault x0 x1) := of_none rfl rfl
theorem tpClear (x0 : Src) (x1 : Nat) : Statement (.tpClear x0 x1) := of_src rfl rfl (by simp +contextual [Instr.wf])
theorem inputTick (x0 : Nat) (x1 : Nat) : Statement (.inputTick x0 x1) := of_none rfl rfl
theorem discrepancyFault (x0 : Fin 24) : Statement (.discrepancyFault x0) := of_none rfl rfl
theorem qRequest (x0 : Src) (x1 : Nat) : Statement (.qRequest x0 x1) := of_src rfl rfl (by simp +contextual [Instr.wf])
theorem qEnergise (x0 : SealHead) (x1 : Nat) : Statement (.qEnergise x0 x1) := of_head rfl rfl (by simp +contextual [Instr.wf])
theorem qDrop (x0 : Src) (x1 : Nat) : Statement (.qDrop x0 x1) := of_src rfl rfl (by simp +contextual [Instr.wf])
theorem qClear (x0 : Src) (x1 : Nat) : Statement (.qClear x0 x1) := of_src rfl rfl (by simp +contextual [Instr.wf])
theorem pullInEnd (x0 : Fin 16) : Statement (.pullInEnd x0) := of_none rfl rfl
theorem outputOffPulse (x0 : Fin 16) (x1 : Bool) (x2 : Bool) : Statement (.outputOffPulse x0 x1 x2) := of_none rfl rfl
theorem outputReadbackFault (x0 : Fin 16) (x1 : Fin 4) (x2 : Bool) : Statement (.outputReadbackFault x0 x1 x2) := of_none rfl rfl
theorem openLoad (x0 : Fin 16) (x1 : Bool) : Statement (.openLoad x0 x1) := of_none rfl rfl
theorem safeCopyReceived (x0 : Fin 2) (x1 : Nat) (x2 : List Byte) : Statement (.safeCopyReceived x0 x1 x2) := of_none rfl rfl
theorem smWindowExpiry (x0 : Fin 8) : Statement (.smWindowExpiry x0) := of_none rfl rfl
theorem smDegradedExpiry (x0 : Fin 8) : Statement (.smDegradedExpiry x0) := of_none rfl rfl
theorem smRxTimeout (x0 : Fin 8) : Statement (.smRxTimeout x0) := of_none rfl rfl
theorem safeStreamSend : Statement .safeStreamSend := of_none rfl rfl
theorem canFrameReceived (x0 : Fin 3) (x1 : CanFrame) (x2 : Nat) (x3 : Bool) : Statement (.canFrameReceived x0 x1 x2 x3) := of_none rfl rfl
theorem moTxReq (x0 : Src) (x1 : Fin 3) (x2 : Nat) : Statement (.moTxReq x0 x1 x2) := of_src rfl rfl (by simp +contextual [Instr.wf])
theorem moCancel (x0 : Src) (x1 : Fin 3) (x2 : Nat) : Statement (.moCancel x0 x1 x2) := of_src rfl rfl (by simp +contextual [Instr.wf])
theorem moDataWrite (x0 : Src) (x1 : Fin 3) (x2 : Fin 128) (x3 : List Byte) : Statement (.moDataWrite x0 x1 x2 x3) := of_src rfl rfl (by simp +contextual [Instr.wf])
theorem moCfgWrite (x0 : Src) (x1 : Fin 3) (x2 : Fin 128) (x3 : Nat) : Statement (.moCfgWrite x0 x1 x2 x3) := of_src rfl rfl (by simp +contextual [Instr.wf])
theorem bitTimingWrite (x0 : Src) (x1 : Fin 3) (x2 : Bool) (x3 : Nat) : Statement (.bitTimingWrite x0 x1 x2 x3) := of_src rfl rfl (by simp +contextual [Instr.wf])
theorem canMode (x0 : Src) (x1 : Fin 3) (x2 : Nat) (x3 : Bool) : Statement (.canMode x0 x1 x2 x3) := of_src rfl rfl (by simp +contextual [Instr.wf])
theorem canTransmitEnd (x0 : Fin 3) (x1 : TransmitEnd) : Statement (.canTransmitEnd x0 x1) := of_none rfl rfl
theorem canError (x0 : Fin 3) (x1 : CanErrorKind) (x2 : Nat) (x3 : Nat) (x4 : Option (Nat × Bool)) : Statement (.canError x0 x1 x2 x3 x4) := of_none rfl rfl
theorem protocolException (x0 : Fin 3) : Statement (.protocolException x0) := of_none rfl rfl
theorem busoffRecover (x0 : Src) (x1 : Fin 3) (x2 : Nat) : Statement (.busoffRecover x0 x1 x2) := of_src rfl rfl (by simp +contextual [Instr.wf])
theorem busoffAutoExpiry (x0 : Fin 3) : Statement (.busoffAutoExpiry x0) := of_none rfl rfl
theorem busoffRecovered (x0 : Fin 3) : Statement (.busoffRecovered x0) := of_none rfl rfl
theorem dupClear (x0 : Src) (x1 : Fin 3) (x2 : Nat) : Statement (.dupClear x0 x1 x2) := of_src rfl rfl (by simp +contextual [Instr.wf])
theorem referenceReceived (x0 : Fin 3) (x1 : Nat) (x2 : Nat) (x3 : Nat) (x4 : Nat) (x5 : Bool) : Statement (.referenceReceived x0 x1 x2 x3 x4 x5) := of_none rfl rfl
theorem referenceSend (x0 : Fin 3) : Statement (.referenceSend x0) := of_none rfl rfl
theorem backupTakeover (x0 : Fin 3) : Statement (.backupTakeover x0) := of_none rfl rfl
theorem ttSyncLoss (x0 : Fin 3) : Statement (.ttSyncLoss x0) := of_none rfl rfl
theorem ttMark (x0 : Fin 3) (x1 : Nat) (x2 : Bool) : Statement (.ttMark x0 x1 x2) := of_none rfl rfl
theorem read (x0 : Src) (x1 : Nat) (x2 : Nat) (x3 : Nat) (x4 : List Byte) : Statement (.read x0 x1 x2 x3 x4) := of_src rfl rfl (by simp +contextual [Instr.wf])
theorem write (x0 : Src) (x1 : Nat) (x2 : Nat) (x3 : Nat) (x4 : Nat) (x5 : List Byte) (x6 : List Byte) : Statement (.write x0 x1 x2 x3 x4 x5 x6) := of_src rfl rfl (by simp +contextual [Instr.wf])
theorem heartbeat (x0 : Src) (x1 : Nat) (x2 : Nat) (x3 : List Byte) : Statement (.heartbeat x0 x1 x2 x3) := of_src rfl rfl (by simp +contextual [Instr.wf])
theorem transferTimeout (x0 : Src) : Statement (.transferTimeout x0) := of_src rfl rfl (by simp +contextual [Instr.wf])
theorem partnerHeartbeatTimeout (x0 : Src) : Statement (.partnerHeartbeatTimeout x0) := of_src rfl rfl (by simp +contextual [Instr.wf])
theorem partnerAgeExpiry (x0 : Src) : Statement (.partnerAgeExpiry x0) := of_src rfl rfl (by simp +contextual [Instr.wf])
theorem deviceHeartbeatSend : Statement .deviceHeartbeatSend := of_none rfl rfl
theorem sealedEnvelopeRequest (x0 : SealedReq) : Statement (.sealedEnvelopeRequest x0) := of_head rfl rfl fun w => head_of_request (by simpa [Instr.wf] using w)
theorem sealedSafetyIoRequest (x0 : SealedReq) : Statement (.sealedSafetyIoRequest x0) := of_head rfl rfl fun w => head_of_request (by simpa [Instr.wf] using w)
theorem sealedTrustRequest (x0 : SealedReq) : Statement (.sealedTrustRequest x0) := of_head rfl rfl fun w => head_of_request (by simpa [Instr.wf] using w)
theorem sealedItemsRequest (x0 : SealedReq) : Statement (.sealedItemsRequest x0) := of_head rfl rfl fun w => head_of_request (by simpa [Instr.wf] using w)
theorem provisioningRequest (x0 : SealedReq) : Statement (.provisioningRequest x0) := of_head rfl rfl fun w => head_of_request (by simpa [Instr.wf] using w)
theorem counterStored : Statement .counterStored := of_none rfl rfl
theorem trustErase (x0 : Src) (x1 : Nat) : Statement (.trustErase x0 x1) := of_src rfl rfl (by simp +contextual [Instr.wf])
theorem trustErasure : Statement .trustErasure := of_none rfl rfl
theorem fwOpen (x0 : SealHead) (x1 : Nat) : Statement (.fwOpen x0 x1) := of_head rfl rfl (by simp +contextual [Instr.wf])
theorem fwImage (x0 : Src) (x1 : Nat) (x2 : Nat) (x3 : List Byte) : Statement (.fwImage x0 x1 x2 x3) := of_src rfl rfl (by simp +contextual [Instr.wf])
theorem fwCommit (x0 : SealHead) (x1 : List Byte) (x2 : Bool) (x3 : Nat) (x4 : Nat) : Statement (.fwCommit x0 x1 x2 x3 x4) := of_head rfl rfl (by simp +contextual [Instr.wf])
theorem fwSessionTimeout : Statement .fwSessionTimeout := of_none rfl rfl
theorem cfgStore (x0 : Src) (x1 : Nat) : Statement (.cfgStore x0 x1) := of_src rfl rfl (by simp +contextual [Instr.wf])
theorem eventOccurrence (x0 : Nat) (x1 : Nat) (x2 : Nat) (x3 : List Byte) : Statement (.eventOccurrence x0 x1 x2 x3) := of_none rfl rfl
theorem recorderFlush : Statement .recorderFlush := of_none rfl rfl
theorem suppressionSummary (x0 : Nat) : Statement (.suppressionSummary x0) := of_none rfl rfl
theorem recWindow (x0 : Src) : Statement (.recWindow x0) := of_src rfl rfl (by simp +contextual [Instr.wf])
theorem recClear (x0 : SealHead) (x1 : Nat) : Statement (.recClear x0 x1) := of_head rfl rfl (by simp +contextual [Instr.wf])
theorem rateLimitWrite (x0 : Src) (x1 : Nat) (x2 : Nat) : Statement (.rateLimitWrite x0 x1 x2) := of_src rfl rfl (by simp +contextual [Instr.wf])
theorem histRead (x0 : Src) : Statement (.histRead x0) := of_src rfl rfl (by simp +contextual [Instr.wf])
theorem windowCounterLasting (x0 : Fin 14) (x1 : Nat) : Statement (.windowCounterLasting x0 x1) := of_none rfl rfl
theorem lockstepCommit : Statement .lockstepCommit := of_none rfl rfl
theorem lockstepMismatch (x0 : Nat) : Statement (.lockstepMismatch x0) := of_none rfl rfl
theorem pairForming (x0 : Bool) (x1 : Bool) : Statement (.pairForming x0 x1) := of_none rfl rfl
theorem swapResume : Statement .swapResume := of_none rfl rfl
theorem spareCoreSelfTest (x0 : Bool) : Statement (.spareCoreSelfTest x0) := of_none rfl rfl
theorem sramScrub (x0 : List (Nat × Bool)) : Statement (.sramScrub x0) := of_none rfl rfl
theorem sramEccError (x0 : Nat) (x1 : Bool) (x2 : SramOwner) : Statement (.sramEccError x0 x1 x2) := of_none rfl rfl
theorem flashError (x0 : Nat) (x1 : FlashErrorKind) : Statement (.flashError x0 x1) := of_none rfl rfl
theorem oscWindow (x0 : OscFinding) : Statement (.oscWindow x0) := of_none rfl rfl
theorem phyRestore (x0 : Src) (x1 : Nat) : Statement (.phyRestore x0 x1) := of_src rfl rfl (by simp +contextual [Instr.wf])
theorem healthClear (x0 : SealHead) (x1 : Nat) : Statement (.healthClear x0 x1) := of_head rfl rfl (by simp +contextual [Instr.wf])
theorem deviceTempRound (x0 : Vector Int 6) : Statement (.deviceTempRound x0) := of_none rfl rfl
theorem throttleExitDwell : Statement .throttleExitDwell := of_none rfl rfl
theorem throttleSelect (x0 : Src) (x1 : Nat) : Statement (.throttleSelect x0 x1) := of_src rfl rfl (by simp +contextual [Instr.wf])
theorem ethApply (x0 : Src) (x1 : Nat) : Statement (.ethApply x0 x1) := of_src rfl rfl (by simp +contextual [Instr.wf])
theorem addressConflict (x0 : Fin 2) : Statement (.addressConflict x0) := of_none rfl rfl
theorem ethLinkChange (x0 : Fin 2) (x1 : Bool) (x2 : Bool) : Statement (.ethLinkChange x0 x1 x2) := of_none rfl rfl
theorem streamSetSend (x0 : Bool) (x1 : Nat) : Statement (.streamSetSend x0 x1) := of_none rfl rfl
theorem streamSuspension : Statement .streamSuspension := of_none rfl rfl
theorem timeSourceSelection : Statement .timeSourceSelection := of_none rfl rfl
theorem timeSet (x0 : SealHead) (x1 : Nat) : Statement (.timeSet x0 x1) := of_head rfl rfl (by simp +contextual [Instr.wf])
theorem rtcAlarm : Statement .rtcAlarm := of_none rfl rfl
theorem ptpMessageReceived (x0 : Fin 2) (x1 : Nat) (x2 : PtpMsg) : Statement (.ptpMessageReceived x0 x1 x2) := of_none rfl rfl
theorem announceReceiptTimeout : Statement .announceReceiptTimeout := of_none rfl rfl
theorem requestStandby (x0 : Src) : Statement (.requestStandby x0) := of_src rfl rfl (by simp +contextual [Instr.wf])
theorem requestArmed (x0 : Src) : Statement (.requestArmed x0) := of_src rfl rfl (by simp +contextual [Instr.wf])
theorem requestService (x0 : Src) : Statement (.requestService x0) := of_src rfl rfl (by simp +contextual [Instr.wf])
theorem registerWrite (x0 : Src) (x1 : Nat) (x2 : Nat) (x3 : List Byte) : Statement (.registerWrite x0 x1 x2 x3) := of_src rfl rfl (by simp +contextual [Instr.wf])
theorem nodeRestart (x0 : Fin 40) (x1 : Fin 33) (x2 : Bool) : Statement (.nodeRestart x0 x1 x2) := of_none rfl rfl
theorem canStartOfFrame (x0 : Fin 3) : Statement (.canStartOfFrame x0) := of_none rfl rfl
theorem canIntegrationComplete (x0 : Fin 3) : Statement (.canIntegrationComplete x0) := of_none rfl rfl
theorem ethFrameReceived (x0 : Fin 2) (x1 : EthFrame) (x2 : Nat) : Statement (.ethFrameReceived x0 x1 x2) := of_none rfl rfl
theorem ptpMessageInterval (x0 : Fin 3) : Statement (.ptpMessageInterval x0) := of_none rfl rfl
theorem leapSecond : Statement .leapSecond := of_none rfl rfl
theorem belSensorFail (x0 : Fin 6) : Statement (.belSensorFail x0) := of_none rfl rfl
theorem wakeInFall : Statement .wakeInFall := of_none rfl rfl

end Sys2Proof.Laws.Operands
end

