-- ==== Sys2Proof/Machine/BufferMap.lean ====
section
/-!
DEFINITION. The bytes of the traverse buffers and of the slow buffers (spec/05 R164 to R168, Tables 5-5 to 5-7): where DMA and firmware put
what the buffers hold. No command reads a buffer by address; the cell stream takes its fields from the same data (19 R488).
DEDUCED (log 122): fields stand high byte first, as on every transport and in every record; a byte without content reads 0.
-/

namespace Sys2Proof.Machine

/-- Bytes brought to a length: zeros behind, or cut. -/
def padTo (n : Nat) (bs : List Byte) : List Byte := (bs ++ List.replicate n 0).take n

/-- One raw slot, 64 bytes (05 R165). -/
def RawSlot.image (w : RawSlot) : List Byte :=
  padTo 41 w.bytes ++ u8 (w.bytes.length % 256) ++ u8 w.flags ++ u8 w.port ++ u8 w.expected ++ padTo 3 [] ++ u64 w.sync ++ padTo 8 []

/-- The slot at a key of a slot store, or 64 zero bytes where no reply came. -/
def slotImage (m : Sparse RawSlot) (key : Nat) : List Byte :=
  match Sparse.get? m key with
  | some w => w.image
  | none => padTo 64 []

/-- Bytes 0x00 to 0x2F of Table 5-5. -/
def timeHeader (number flags ticks utc ns quality source period done : Nat) : List Byte :=
  u32 number ++ u32 flags ++ u64 ticks ++ u64 utc ++ u32 ns ++ u8 quality ++ u8 source ++ u16 0 ++ u32 period ++ u32 0 ++ u64 done

/-- The header of a traverse buffer, bytes 0x000 to 0x0FF (05 Table 5-5). -/
def TravBuf.header (b : TravBuf) : List Byte :=
  padTo 256 (timeHeader b.number b.flagWord b.ticks b.utc b.ns b.quality b.source b.period b.done ++
    padTo 16 (b.links.map u32).flatten ++ padTo 40 (b.modes.map u8).flatten)

/-- The published cells and the position flags of a string, 1,088 bytes (05 Table 5-5, R166). -/
def TravBuf.cellImage (b : TravBuf) (i : Fin 40) : List Byte :=
  ((List.range 512).map fun e => u16 (Sparse.getD b.cells (i.val * 1024 + e) 0)).flatten ++
    padTo 64 ((List.range 33).map fun p => u8 (Sparse.getD b.flags (i.val * 64 + p) 0)).flatten

/-- A traverse buffer from its start to offset 0x2_0E00, where the reserved bytes begin (05 Table 5-5). -/
def TravBuf.image (b : TravBuf) : List Byte :=
  b.header ++ (allStr.map fun i => (Sparse.getD b.blocks i.val StrBlock.empty).bytes).flatten ++
    (allStr.map fun i => ((List.range 35).map fun j => slotImage b.slots (i.val * 64 + j)).flatten).flatten ++
    (allStr.map b.cellImage).flatten

/-- `BUF_FLAGS` of a slow buffer: the bits of Table 5-7 it has. -/
def SlowBuf.flagWord (b : SlowBuf) : Nat :=
  bitAt b.complete 31 + bitAt b.published 30 + bitAt b.dmaError 28 + bitAt b.alignError 27 + bitAt true 26

/-- The 128 bytes of a monitor in a slow buffer (05 R168): `READ_TEMP` from byte 0, `READ_HK` from byte 80, the slot flags at byte 126. -/
def SlowBuf.nodeImage (b : SlowBuf) (i : Fin 40) (p : Nat) : List Byte :=
  let reply (k : Nat) : List Byte × Nat := match Sparse.get? b.slots ((i.val * 64 + p) * 2 + k) with
    | some w => (w.bytes, w.flags)
    | none => ([], 0)
  padTo 80 (padTo 73 (reply 0).1) ++ padTo 46 (padTo 41 (reply 1).1) ++ u8 ((reply 0).2 ||| (reply 1).2) ++ u8 0

/-- A slow buffer: its header, then the monitors of each string (05 R168). -/
def SlowBuf.image (b : SlowBuf) : List Byte :=
  padTo 256 (timeHeader b.number b.flagWord b.ticks b.utc b.ns b.quality b.source b.period b.done) ++
    (allStr.map fun i => ((List.range 32).map fun k => b.nodeImage i (k + 1)).flatten).flatten

/-- Where a traverse buffer begins in SRAM (05 R163). -/
def travBase (number : Nat) : Nat := 0x500000 + (number % 8) * 0x24000

/-- Where the slow buffer of a slow-round count begins in SRAM (05 R168). -/
def slowBase (count : Nat) : Nat := 0x620000 + (count % 2) * 0x2C000

end Sys2Proof.Machine
end

