-- ==== Sys2Proof/Tests/Slice0.lean ====
section
/-!
SUPPORT. Checks of the model's own: ill-formed commands that `Instr.wf` refuses, states and operands that meet the hypotheses of every
statement (each clause of a statement in turn), and a few single steps whose results the spec gives.
-/

set_option Elab.async false

namespace Sys2Proof.Tests

open Sys2Proof.Machine

/-- One hour after reset: in `STANDBY`, firmware serving, the belay logic released. -/
def live : State :=
  { State.reset with
    now := sec 3600
    supply := { Supply.reset with up := true, vqPresent := true }
    start := { Start.reset with fw := .running, step := 8 }
    mode := { Mode.reset with block := .standby }
    belay := { Belay.reset with released := true } }

/-- The service port. -/
def svc : Src := ⟨5, 0⟩

/-- The neutral element as a key: the head's signature stands under it for every message. No enrolment would take it. -/
def anyKey : List Byte := 0x01#8 :: List.replicate 31 0x00#8

def head : SealHead := ⟨svc, 0x5E, 1, 0, 1, 0, 0x01#8 :: List.replicate 63 0x00#8⟩

/-- `live` with that key in slot 0. -/
def trusting : State := live.modSeng fun g => { g with slots := upd g.slots 0 fun _ => ⟨some anyKey, 0, 0⟩ }

/-- The public key of RFC 8032, section 7.1, test 1. -/
def aKey : List Byte := beBytes 32 0xd75a980182b10ab7d54bfed3c964073a0ee172f3daa62325af021a68f707511a

def live' (b : BlockState) : State := { live with mode := { Mode.reset with block := b } }

def admitted (s : State) (src : Src) (index sub : Nat) (data : List Byte) : Bool :=
  !s.holding && decide (s.service src true index sub data = .serve) && !s.repeats src index sub data.length 0 data &&
    !s.entryHeld index sub && !(s.newRequest src).contendedBy src index sub &&
    ((s.taken src index sub).writeCheck src index sub data).isOk

theorem admits_of {s : State} {src : Src} {index sub : Nat} {data : List Byte} (h : admitted s src index sub data = true) :
    s.admits src index sub data := by
  simp only [admitted, Bool.and_eq_true, Bool.not_eq_true', decide_eq_true_eq] at h
  obtain ⟨⟨⟨⟨⟨h1, h2⟩, h3⟩, h4⟩, h5⟩, h6⟩ := h
  refine ⟨h1, h2, h3, h4, h5, ?_⟩
  cases e : (s.taken src index sub).writeCheck src index sub data with
  | error a => simp [e, Except.isOk, Except.toBool] at h6
  | ok r => exact ⟨r, rfl⟩

def admittedSealed (s : State) (r : SealedReq) : Bool :=
  let u := s.sealTaken r
  !s.holding && s.seng.queue.isEmpty && decide (s.service r.head.src true 0x1E00 1 [] = .serve) && !s.repeatsSealed r &&
    !u.sealContended r && decide (r.items.length ≤ u.tokens 0x9008) && decide (u.evlog.staged.length + r.items.length ≤ stagingSize) &&
    decide (s.mode.block ≠ .off) && decide (s.mode.block ≠ .baseCamp) && decide (u.sealCheck r = none) && s.fwUp

theorem admitsSealed_of {s : State} {r : SealedReq} (h : admittedSealed s r = true) : s.admitsSealed r := by
  simp only [admittedSealed, Bool.and_eq_true, Bool.not_eq_true', decide_eq_true_eq, List.isEmpty_iff] at h
  obtain ⟨⟨⟨⟨⟨⟨⟨⟨⟨⟨h1, h2⟩, h3⟩, h4⟩, h5⟩, h6⟩, h7⟩, h8⟩, h9⟩, h10⟩, h11⟩ := h
  exact ⟨h1, h2, h3, h4, h5, h6, h7, h8, h9, h10, h11⟩

/-! ## States and operands that meet the hypotheses of the statements -/

theorem test_met_SupplyEvents :
    (∃ s : State, s.supply.up = true ∧ s.supply.pfw = false) ∧
    (∃ s : State, s.supply.up = true ∧ s.supply.pfw = true ∧ s.start.heldForSupply = false) ∧
    (∃ s : State, s.supply.up = true ∧ s.supply.pfw = false ∧ s.supply.holdupReady = false ∧ s.supply.measuredAt = none) ∧
    (∃ s : State, s.supply.up = true ∧ s.supply.pfw = false ∧ s.supply.holdupReady = true ∧ s.measureDue true = true ∧ s.measureDue false = false) ∧
    (∃ s : State, s.supply.up = true ∧ s.supply.vqPresent = true) :=
  ⟨⟨live, by decide⟩, ⟨{ live with supply := { live.supply with pfw := true } }, by decide⟩, ⟨live, by decide⟩,
    ⟨{ live with supply := { live.supply with holdupReady := true } }, by decide⟩, ⟨live, by decide⟩⟩

/-- A start that finds two cores and the image of generation 1, and one that finds a hot sensor. -/
theorem test_met_PowerOnStart :
    (∃ (s : State) (f : StartFindings), (s.supply.up = false ∨ s.start.heldForSupply = true) ∧ s.hotSensors f ≠ 0) ∧
    (∃ (s : State) (f : StartFindings), ∃ k : Fin 2, (s.supply.up = false ∨ s.start.heldForSupply = true) ∧ s.hotSensors f = 0 ∧
      2 ≤ ((List.range 3).filter fun c => f.cores.testBit c).length ∧ s.cfgItems.rows.length + f.rows.length ≤ 64 ∧
      (∀ j : Fin 2, j < k → s.start.images[j].generation < s.start.images[k].generation) ∧
      (∀ j : Fin 2, s.start.images[j].generation ≤ s.start.images[k].generation) ∧
      s.start.images[k].verifies = true ∧ s.start.images[k].confirmed = true) :=
  ⟨⟨State.reset, ⟨7, [], 1, false⟩, by decide⟩, ⟨State.reset, ⟨3, [], 0, false⟩, 0, by decide⟩⟩

/-- `live` at the end of its start, running image A unconfirmed for 60 s. -/
def starting : State :=
  { live with
    mode := { Mode.reset with block := .off }
    trav := { Traverse.reset with travDone := true, slowDone := true }
    start := { live.start with step := 7, steadySince := some (sec 3540), bootImage := 0x0A, images := #v[⟨1, false, true⟩, ⟨0, true, true⟩] } }

theorem test_met_StartEvents :
    (∃ s : State, s.supply.up = false) ∧
    (∃ s : State, s.supply.up = true ∧ s.start.gateRails = false ∧ s.mode.block ≠ .baseCamp ∧ s.start.boot = none) ∧
    (∃ s : State, s.startComplete = true) ∧
    (∃ s : State, ∃ k t0, s.runningImage = some k ∧ s.start.steadySince = some t0 ∧ s.fwActs = true ∧ t0 + sec 60 ≤ s.now ∧
      s.mode.block ≠ .off ∧ s.mode.block ≠ .safeHold ∧ s.therm.shutdown = false ∧ s.start.images[k].confirmed = false) :=
  ⟨⟨State.reset, rfl⟩, ⟨live, by decide⟩, ⟨starting, by decide⟩, ⟨{ starting with mode := live.mode }, 0, sec 3540, by decide⟩⟩

def dueReset (k : Nat) : State := { live with start := { live.start with due := some (k, sec 3600) } }

theorem test_met_Resets :
    (∃ s : State, s.start.thermalHold = true ∧ s.start.heldForSupply = false) ∧
    (∃ (s : State) (t0 : Nat), s.start.due = some (2, t0) ∧ t0 ≤ s.now ∧ s.store.writing = none) ∧
    (∃ (s : State) (t0 : Nat), s.start.due = some (4, t0)) ∧
    (∃ (s : State) (t0 : Nat), s.start.due = some (5, t0) ∧ s.start.gateRails = true ∧ s.start.thermalHold = false ∧ s.start.heldForSupply = false) ∧
    (∃ (s : State) (t0 : Nat), s.start.due = some (5, t0) ∧ s.start.gateRails = false) ∧
    (∃ s : State, (∃ t0, s.start.due = some (1, t0) ∧ t0 ≤ s.now) ∧ s.start.fw = .running) ∧
    (∃ s : State, s.restartable = true ∧ s.cores.swapping = false) ∧
    (∃ s : State, s.restartable = true ∧ s.cores.swapping = false ∧ (s.countFault 10 0).2 = false) ∧
    (∃ (s : State) (t0 : Nat), s.start.due = some (1, t0) ∧ t0 ≤ s.now ∧ s.start.fw ≠ .running ∧ (s.countFault 10 0).2 = false) ∧
    (∃ (s : State) (h : SealHead), s.admitsSealed (h.one 0x2000 0x0023 (u8 1))) ∧ (∃ (s : State) (h : SealHead), s.admitsSealed (h.one 0x2000 0x0023 (u8 2))) :=
  ⟨⟨{ live with start := { live.start with thermalHold := true } }, by decide⟩, ⟨dueReset 2, sec 3600, by decide⟩,
    ⟨dueReset 4, sec 3600, by decide⟩, ⟨(dueReset 5).modStart fun a => { a with gateRails := true }, sec 3600, by decide⟩,
    ⟨dueReset 5, sec 3600, by decide⟩, ⟨dueReset 1, ⟨sec 3600, by decide⟩, by decide⟩,
    ⟨live, by decide⟩, ⟨live, by decide⟩, ⟨(dueReset 1).modStart fun a => { a with fw := .recovery }, sec 3600, by decide⟩,
    ⟨trusting, head, admitsSealed_of (by decide +kernel)⟩, ⟨trusting, head, admitsSealed_of (by decide +kernel)⟩⟩

theorem test_met_ThermalShutdown :
    (∃ (s : State) (m : Nat), (mapBits 6 fun k => m.testBit k && !s.therm.compFailed.testBit k) ≠ 0 ∧ s.belay.released = true ∧
      s.supply.up = true ∧ s.therm.shutdown = false ∧ s.start.thermalHold = false) ∧
    (∃ s : State, s.therm.shutdown = true ∧ s.start.thermalHold = false ∧ s.therm.shutdownAt + ms 50 ≤ s.now) ∧
    (∃ s : State, s.start.thermalHold = true ∧ s.start.heldForSupply = false) :=
  ⟨⟨live, 0x20, by decide⟩,
    ⟨{ live with therm := { Thermal.reset with shutdown := true, shutdownAt := sec 3600 - ms 50 } }, by decide⟩,
    ⟨live.modStart fun a => { a with thermalHold := true }, by decide⟩⟩

theorem test_met_SupplyWarningOpensPath : ∃ s t : State, s.supply.up = true ∧ s.supply.pfw = true ∧ s.start.heldForSupply = false ∧
    exec .belaySupplyWarning s = .next t :=
  ⟨{ live with supply := { live.supply with pfw := true } }, _, rfl, rfl, rfl, rfl⟩

/-- A pass for a close of S1 with pre-charge of bank 1, taken a millisecond ago. -/
def aPass : Pass := let p : Pass := ⟨.close, 1, true, 0, 0, 1, 0⟩; { p with check := p.checkOf }

/-- `live` with that pass held and bank 1's modulator running. -/
def precharge1 : State :=
  (live.modStr 0 fun c => { c with pass := some ⟨aPass, sec 3600 - ms 1, true, false⟩, state := .matching }).modBank 0 fun b =>
    { b with groupReady := true, modulator := true, source := some 0, target := 4000, tOn := 2000, tOff := 2000 }

/-- `live` with channel S1 as given. -/
def gate1 (f : Gate → Gate) : State := live.modGate 0 f

theorem test_met_GateEdges :
    (∃ (s : State) (c : Fin 52), partnerGate c = none ∧ s.gates[c].cmd = true ∧ s.gates[c].seenCmd = false ∧ s.gates[c].latch = none ∧
      s.gates[c].railPos = true) ∧
    (∃ (s : State) (c : Fin 52), ∃ b other, partnerGate c = some (b, other) ∧ s.banks[b].modulator = true ∧ s.hbPermitted b = true ∧
      s.gates[c].cmd = false ∧ s.banks[b].conflict = false ∧ s.modulatorRises b c other = true ∧ s.interlockPasses c other = true ∧
      s.gates[c].latch = none ∧ c = chH b) ∧
    (∃ (s : State) (c : Fin 52), ∃ b other, partnerGate c = some (b, other) ∧ s.banks[b].modulator = true ∧ s.hbPermitted b = true ∧
      s.gates[c].cmd = false ∧ s.banks[b].conflict = false ∧ s.modulatorRises b c other = true ∧ s.interlockPasses c other = true ∧
      s.gates[c].latch = none ∧ c = chL b) ∧
    (∃ (s : State) (c : Fin 52), ∃ b other, partnerGate c = some (b, other) ∧ s.banks[b].modulator = true ∧ s.hbPermitted b = true ∧
      s.gates[c].cmd = false ∧ s.banks[b].conflict = false ∧ s.modulatorRises b c other = true ∧ s.gates[other].cmd = true ∧
      s.gates[other].edgeAt = s.now) ∧
    (∃ (s : State) (c : Fin 52), ∃ b other, partnerGate c = some (b, other) ∧ s.banks[b].modulator = true ∧ s.hbPermitted b = true ∧
      s.gates[c].cmd = false ∧ s.banks[b].conflict = false ∧ s.modulatorRises b c other = true ∧ s.interlockPasses c other = false ∧
      ¬ (s.gates[other].cmd = true ∧ s.gates[other].edgeAt = s.now)) ∧
    (∃ (s : State) (c : Fin 52), s.gates[c].seenCmd = true ∧ partnerGate c = none ∧ s.gates[c].cmd = false ∧ s.gates[c].latch = none) ∧
    (∃ (s : State) (c : Fin 52), ∃ b other, partnerGate c = some (b, other) ∧ s.gates[c].seenCmd = true ∧ s.gates[c].cmd = true ∧
      s.modulatorFalls b c = true ∧ c = chH b) ∧
    (∃ (s : State) (c : Fin 52), ∃ b other, partnerGate c = some (b, other) ∧ s.gates[c].seenCmd = true ∧ s.gates[c].cmd = true ∧
      s.modulatorFalls b c = true ∧ c = chL b) ∧
    (∃ (s : State) (c : Fin 52), s.gates[c].seenCmd = true ∧ s.gates[c].selftest ≠ 1 ∧ s.gates[c].didtHeld = true ∧
      s.gates[c].edgeAt + s.gates[c].blankNs ≤ s.now) ∧
    (∃ (s : State) (c : Fin 52), s.gates[c].railPos = true) ∧
    (∃ (s : State) (c : Fin 52), s.gates[c].selftest ≠ 1 ∧ s.gates[c].drive = .on ∧ s.gates[c].gateOn = true ∧ s.gates[c].edgeAt + us 10 ≤ s.now) ∧
    (∃ (s : State) (c : Fin 52), s.gates[c].drive = .softOff) ∧
    (∃ (s : State) (c : Fin 52) (cause : GateCause) (on : Bool), s.gates[c].report = some (cause, on)) ∧
    (∃ (s : State) (w : Nat), s.gateBlock.windowAt = some w ∧ w + us 1 ≤ s.now) :=
  ⟨⟨gate1 fun g => { g with cmd := true, railPos := true }, 0, by decide⟩,
    ⟨precharge1.modGate 41 fun g => { g with gateOff := true }, 40, 0, 41, by decide⟩,
    ⟨(precharge1.modGate 40 fun g => { g with gateOff := true }).modBank 0 fun b => { b with vCycle := 2000 }, 41, 0, 40, by decide⟩,
    ⟨precharge1.modGate 41 fun g => { g with cmd := true, edgeAt := sec 3600 }, 40, 0, 41, by decide⟩,
    ⟨precharge1, 40, 0, 41, by decide⟩,
    ⟨gate1 fun g => { g with seenCmd := true }, 0, by decide⟩,
    ⟨precharge1.modGate 40 fun g => { g with cmd := true, seenCmd := true }, 40, 0, 41, by decide⟩,
    ⟨precharge1.modGate 41 fun g => { g with cmd := true, seenCmd := true }, 41, 0, 40, by decide⟩,
    ⟨gate1 fun g => { g with seenCmd := true, didtHeld := true, edgeAt := sec 3600 - 2000 }, 0, by decide⟩,
    ⟨gate1 fun g => { g with railPos := true }, 0, by decide⟩,
    ⟨gate1 fun g => { g with drive := .on, gateOn := true, edgeAt := sec 3600 - us 10 }, 0, by decide⟩,
    ⟨gate1 fun g => { g with drive := .softOff }, 0, by decide⟩,
    ⟨gate1 fun g => { g with report := some (.didt, true) }, 0, .didt, true, by decide⟩,
    ⟨{ live with gateBlock := { GateBlock.reset with windowAt := some (sec 3600 - us 1) } }, sec 3600 - us 1, by decide⟩⟩

theorem test_met_GateFaults :
    (∃ (s : State) (c : Fin 52), s.gates[c].armed = true ∧ s.now < s.gates[c].edgeAt + s.gates[c].blankNs) ∧
    (∃ (s : State) (c : Fin 52), s.gates[c].armed = true ∧ s.gates[c].didtHeld = true ∧ s.gates[c].edgeAt + s.gates[c].blankNs = s.now) ∧
    (∃ (s : State) (c : Fin 52), s.gates[c].railNeg = true ∧ s.gates[c].railPos = true ∧ s.gates[c].latch = none) ∧
    (∃ (s : State) (c : Fin 52) (k : GateCause), s.gates[c].railNeg = true ∧ s.gates[c].latch = some k) ∧
    (∃ (s : State) (c : Fin 52), s.start.gateRails = true ∧ s.gates[c].railNeg = false ∧ s.gates[c].railPos = false) ∧
    (∃ (s : State) (c : Fin 52), s.gates[c].selftest ≠ 1 ∧ s.gates[c].latch = none ∧ s.gates[c].drive = .on ∧
      s.gates[c].levelCheck true false s.now = true ∧ s.gates[c].gateOn = true ∧ s.gates[c].edgeAt + us 10 ≤ s.now) ∧
    (∃ (s : State) (c : Fin 52), s.gates[c].selftest ≠ 1 ∧ s.gates[c].latch.isSome = true ∧ s.gates[c].drive = .on) ∧
    (∃ (s : State) (c : Fin 52), s.gates[c].selftest ≠ 1 ∧ s.gates[c].latch = none ∧ s.gates[c].drive = .off ∧
      s.gates[c].levelCheck false true s.now = true) ∧
    (∃ (s : State) (c : Fin 52), s.gates[c].selftest ≠ 1 ∧ s.gates[c].latch.isSome = true ∧ s.gates[c].drive = .heldLow) ∧
    (∃ (s : State) (c : Fin 52), s.gates[c].drive = .softOff) ∧
    (∃ (s : State) (c : Fin 52), ∃ cause on, s.gates[c].report = some (cause, on)) ∧
    (∃ (s : State) (w : Nat), s.gateBlock.windowAt = some w ∧ w + us 1 ≤ s.now) :=
  ⟨⟨gate1 fun g => { g with seenCmd := true, edgeAt := sec 3600 }, 0, by decide⟩,
    ⟨gate1 fun g => { g with seenCmd := true, didtHeld := true, edgeAt := sec 3600 - 2000 }, 0, by decide⟩,
    ⟨gate1 fun g => { g with railPos := true, railNeg := true }, 0, by decide⟩,
    ⟨gate1 fun g => { g with railNeg := true, latch := some .didt }, 0, .didt, by decide⟩,
    ⟨(gate1 fun g => { g with railPos := false, railNeg := false }).modStart fun a => { a with gateRails := true }, 0, by decide⟩,
    ⟨gate1 fun g => { g with seenCmd := true, drive := .on, gateOn := true, edgeAt := sec 3599 }, 0, by decide⟩,
    ⟨gate1 fun g => { g with latch := some .didt, drive := .on }, 0, by decide⟩,
    ⟨gate1 fun g => { g with drive := .off, edgeAt := sec 3600 - us 2 }, 0, by decide⟩,
    ⟨gate1 fun g => { g with latch := some .didt, drive := .heldLow }, 0, by decide⟩,
    ⟨gate1 fun g => { g with drive := .softOff }, 0, by decide⟩,
    ⟨gate1 fun g => { g with report := some (.didt, true) }, 0, .didt, true, by decide⟩,
    ⟨{ live with gateBlock := { GateBlock.reset with windowAt := some (sec 3600 - us 1) } }, sec 3600 - us 1, by decide⟩⟩

theorem test_met_GateTests :
    (∃ (s : State) (src : Src) (c : Fin 52), (let w := selfTestWrite c 1; s.admits src w.1 w.2.1 w.2.2) ∧ s.selfTestRefused c = false) ∧
    (∃ (s : State) (c : Fin 52), s.gates[c].selftest = 1) ∧
    (∃ (s : State) (src : Src) (b : Fin 4), s.admits src (bankObj b) 0x0044 (u8 1) ∧ s.banks[b].state ≠ .precharging ∧
      s.gates[chD b].latch.isSome = true ∧ s.gates[chD b].cmd = true) :=
  ⟨⟨live, svc, 0, admits_of (by decide), by decide⟩, ⟨gate1 fun g => { g with selftest := 1 }, 0, by decide⟩,
    ⟨live.modGate 48 fun g => { g with latch := some .uvloPos }, svc, 0, admits_of (by decide), by decide⟩⟩

theorem test_met_PassRequests : ∃ (s : State) (h : SealHead), s.mode.block ≠ .baseCamp ∧ s.supply.pfw = false ∧
    (∃ i, s.admitsSealed (h.one (strObj i) 0x0003 (u8 1))) ∧
    (∃ b, s.admitsSealed (h.one (bankObj b) 0x0003 (u8 1)) ∧ s.admitsSealed (h.one (bankObj b) 0x0003 (u8 40))) ∧
    (∃ i, s.admitsSealed (h.one (strObj i) 0x0006 (u8 1))) :=
  ⟨trusting, head, by decide, by decide, ⟨0, admitsSealed_of (by decide +kernel)⟩,
    ⟨0, admitsSealed_of (by decide +kernel), admitsSealed_of (by decide +kernel)⟩, ⟨0, admitsSealed_of (by decide +kernel)⟩⟩

/-- `live` with one entry in the belay logic's privileged queue. -/
def queued (e : PrivEntry) : State := live.modBelay fun b => { b with privQ := [e] }

def checkedPass (kind : PassKind) (target : Nat) : Pass := let p : Pass := ⟨kind, target, false, 0, 0, 1, 0⟩; { p with check := p.checkOf }

theorem test_met_PassesTaken :
    (∃ (s : State) (p : Pass) (rest : List PrivEntry), s.belay.released = true ∧ s.belay.privQ = .pass p :: rest ∧ p.check ≠ p.checkOf) ∧
    (∃ (s : State) (p : Pass) (rest : List PrivEntry) (i : Fin 40), s.belay.released = true ∧ s.belay.privQ = .pass p :: rest ∧
      p.check = p.checkOf ∧ p.kind = .close ∧ p.target = i.val + 1 ∧ (p.precharge = true → (s.bankOf i).val = p.bank) ∧
      s.actionOpen p = false ∧ s.pcActive (s.bankOf i) = false ∧ s.banks[s.bankOf i].state ≠ .live) ∧
    (∃ (s : State) (p : Pass) (rest : List PrivEntry) (i : Fin 40), s.belay.released = true ∧ s.belay.privQ = .pass p :: rest ∧
      p.check = p.checkOf ∧ p.kind = .unlock ∧ p.target = i.val + 1 ∧ p.precharge = false ∧
      s.causesPresent i (s.strs[i].tripSet ||| s.strs[i].lockoutSet) = []) ∧
    (∃ (s : State) (p : Pass) (rest : List PrivEntry) (q : Fin 16), s.belay.released = true ∧ s.belay.privQ = .pass p :: rest ∧
      p.check = p.checkOf ∧ p.kind = .energise ∧ p.target = q.val + 0x41) ∧
    (∃ (s : State) (i : Fin 40) (k : Fin 56) (h : HeldPass), k.val = i.val ∧ s.strs[i].pass = some h ∧ h.taken + sec 2 ≤ s.now) ∧
    (∃ (s : State) (q : Fin 16) (k : Fin 56) (h : HeldPass), k.val = q.val + 40 ∧ s.io.outputs[q].pass = some h ∧ h.taken + sec 2 ≤ s.now) :=
  ⟨⟨queued (.pass ⟨.close, 1, false, 0, 0, 1, (checkedPass .close 1).check + 1⟩), _, _, by decide, rfl, by decide +kernel⟩,
    ⟨queued (.pass (checkedPass .close 40)), _, _, 39, by decide, rfl, by decide +kernel⟩,
    ⟨queued (.pass (checkedPass .unlock 1)), _, _, 0, by decide, rfl, by decide +kernel⟩,
    ⟨queued (.pass (checkedPass .energise 0x50)), _, _, 15, by decide, rfl, by decide +kernel⟩,
    ⟨live.modStr 39 fun c => { c with pass := some ⟨aPass, sec 3598, false, false⟩ }, 39, 39, _, rfl, rfl, by decide⟩,
    ⟨live.modQ 15 fun c => { c with pass := some ⟨aPass, sec 3598, false, false⟩ }, 15, 55, _, rfl, rfl, by decide⟩⟩

/-- `live` with S1 in `MATCHING`, matched and asked to close; its bank runs. -/
def closing : State :=
  ((((precharge1.modStr 0 fun c => { c with requested := true, matchOk := true, exclusion := false }).modGate 48
      fun g => { g with cmd := false }).modBank 0 fun b => { b with source := none, modulator := false }).modBStr 0
    fun b => { b with slowSeen := true }).modBelay fun b =>
      { b with traverseSeen := true, store := (List.range 13).map fun k => (dkey 0x2401 (k + 1) 0, 1) }

/-- The clauses of `PassesTaken` on what a pass leads to; those that `CloseAndPrecharge` shares have their witnesses there. -/
theorem test_met_PassesTaken_granted :
    (∃ (s : State) (i : Fin 40) (b : Fin 4), b = s.bankOf i ∧ s.strs[i].waiting = true ∧ s.strs[i].requested = false ∧ s.grantable i = true ∧
      (s.stringsOf b).find? (fun j => s.grantable j) = some i ∧ (∀ j ∈ s.stringsOf b, s.gates[chS j].report = none)) ∧
    (∃ (s : State) (b : Fin 4) (link : Nat), s.banks[b].state = .precharging ∧ s.banks[b].modulator = true ∧ s.banks[b].target ≤ link ∧
      s.inCycle b = false) :=
  ⟨⟨closing.modStr 0 fun c => { c with requested := false, waiting := true }, 0, 0, by decide⟩,
    ⟨precharge1.modBank 0 fun b => { b with state := .precharging }, 0, 4000, by decide⟩⟩

theorem test_met_CloseAndPrecharge :
    (∃ (s u : State) (i : Fin 40) (b : Fin 4), s.strs[i].requested = true ∧ b = s.bankOf i ∧
      u = s.modStr i (fun c => { c with requested := false, waiting := (s.closePass i).isSome }) ∧
      (u.stringsOf b).find? (fun j => u.grantable j) = some i ∧ (∀ j ∈ u.stringsOf b, u.gates[chS j].report = none)) ∧
    (∃ (s : State) (i : Fin 40), s.strs[i].requested = true ∧ s.gates[chS i].report.isSome = true) ∧
    (∃ (s : State) (i : Fin 40), s.strs[i].waiting = true ∧ s.gates[chS i].report.isSome = true) ∧
    (∃ (s : State) (i : Fin 40) (b : Fin 4), s.gates[chS i].cmd = true ∧ s.gates[chS i].gateOn = true ∧ s.strs[i].state = .matching ∧
      b = s.bankOf i ∧ s.banks[b].state = .precharging) ∧
    (∃ (s : State) (b : Fin 4), s.holdoffDue b = true ∧ s.strs.all (fun c => !c.waiting) = true) ∧
    (∃ (s : State) (i : Fin 40) (b : Fin 4), s.banks[b].source = some i ∧ s.banks[b].state = .dark ∧ s.gates[chD b].gateOff = true ∧
      s.gates[chD b].cmd = false ∧ s.strs[i].state = .matching ∧ s.hbPermitted b = true ∧ s.supply.pfw = false) ∧
    (∃ (s : State) (b : Fin 4) (link : Nat), s.banks[b].state = .precharging ∧ s.banks[b].modulator = true ∧ s.banks[b].target = link ∧
      s.gates[chH b].cmd = true) ∧
    (∃ (s : State) (b : Fin 4) (link : Nat), s.banks[b].state = .precharging ∧ s.banks[b].modulator = true ∧ s.banks[b].target = link ∧
      s.inCycle b = false) ∧
    (∃ (s : State) (b : Fin 4) (link : Nat), s.banks[b].state = .precharging ∧ s.banks[b].modulator = true ∧ link + 1 = s.banks[b].target) ∧
    (∃ (s : State) (i : Fin 40) (b : Fin 4) (h : HeldPass), s.banks[b].source = some i ∧ s.strs[i].pass = some h ∧ s.pcActive b = true ∧
      s.gates[chS i].cmd = false ∧ h.taken + ms (s.val (bankObj b) 0x0014) ≤ s.now) :=
  ⟨⟨closing, _, 0, 0, by decide, by decide, rfl, by decide, by decide⟩,
    ⟨closing.modGate 0 fun g => { g with report := some (.didt, true) }, 0, by decide⟩,
    ⟨(live.modStr 0 fun c => { c with waiting := true }).modGate 0 fun g => { g with report := some (.didt, true) }, 0, by decide⟩,
    ⟨(precharge1.modGate 0 fun g => { g with cmd := true, gateOn := true }).modBank 0 fun b => { b with state := .precharging }, 0, 0, by decide⟩,
    ⟨(live.modBank 0 fun b => { b with holdoff := some (sec 3600 - ms 1), linkSeen := true }).modTrav fun v => { v with t0 := sec 3600 }, 0,
      by decide +kernel⟩,
    ⟨precharge1.modGate 48 fun g => { g with cmd := false, gateOff := true }, 0, 0, by decide⟩,
    ⟨(precharge1.modBank 0 fun b => { b with state := .precharging }).modGate 40 fun g => { g with cmd := true }, 0, 4000, by decide⟩,
    ⟨precharge1.modBank 0 fun b => { b with state := .precharging }, 0, 4000, by decide⟩,
    ⟨precharge1.modBank 0 fun b => { b with state := .precharging }, 0, 3999, by decide⟩,
    ⟨precharge1.modStr 0 fun c => { c with pass := some ⟨aPass, 0, true, false⟩ }, 0, 0, _, by decide, rfl, by decide⟩⟩

theorem test_met_OpenAndClear :
    (∃ (s : State) (src : Src) (i : Fin 40), s.admits src (strObj i) 0x0004 (u8 1) ∧ s.strs[i].state = .closed) ∧
    (∃ (s : State) (src : Src) (i : Fin 40), s.admits src (strObj i) 0x0004 (u8 1) ∧ s.strs[i].state = .matching) ∧
    (∃ (s : State) (src : Src) (b : Fin 4), s.admits src (bankObj b) 0x0004 (u8 1)) ∧
    (∃ (s : State) (src : Src) (i : Fin 40), s.admits src (strObj i) 0x0005 (u8 1) ∧ s.strs[i].trip = true ∧
      s.causesPresent i s.strs[i].tripSet = [] ∧ s.strs[i].state = .tripped) ∧
    (∃ (s : State) (src : Src) (i : Fin 40), s.admits src (strObj i) 0x0009 [0x01#8] ∧ s.strs[i].installed = true ∧
      s.strs[i].state = .isolated) ∧
    (∃ (s : State) (src : Src) (i : Fin 40), s.admits src (strObj i) 0x0009 [0x00#8] ∧ s.strs[i].installed = true ∧
      s.mode.block = .service ∧ s.strs[i].state = .excluded) ∧
    (∃ (s : State) (src : Src) (b : Fin 4), s.admits src (bankObj b) 0x0005 (u8 1) ∧ s.banks[b].state = .faulted ∧
      s.faultClearRefusal b = none) ∧
    (∃ (s : State) (b : Fin 4), s.banks[b].state = .discharging ∧ s.banks[b].dischSince + sec (s.val (bankObj b) 0x0016) ≤ s.now) :=
  ⟨⟨live.modStr 0 fun c => { c with state := .closed }, svc, 0, admits_of (by decide), by decide⟩,
    ⟨live.modStr 39 fun c => { c with state := .matching }, svc, 39, admits_of (by decide), by decide⟩,
    ⟨live, svc, 3, admits_of (by decide)⟩,
    ⟨live.modStr 0 fun c => { c with state := .tripped, trip := true }, svc, 0, admits_of (by decide), by decide⟩,
    ⟨live.modStr 0 fun c => { c with installed := true, state := .isolated }, svc, 0, admits_of (by decide), by decide⟩,
    ⟨(live' .service).modStr 0 fun c => { c with installed := true, state := .excluded }, svc, 0, admits_of (by decide), by decide⟩,
    ⟨((live.setVal (bankObj 0) 0x15 0 100).modBank 0 fun c => { c with state := .faulted, faultCause := 4 }).modGate 48
      fun g => { g with gateOn := true }, svc, 0, admits_of (by decide), by decide⟩,
    ⟨live.modBank 0 fun c => { c with state := .discharging }, 0, by decide⟩⟩

/-- `live` with a safety input record, output record or stream record committed. -/
def committed (index sub element v : Nat) : State := live.modBelay fun b => { b with store := [(dkey index sub element, v)] }

theorem test_met_SafetyInputs :
    (∃ (s : State) (i : Fin 24), s.discDue i = true) ∧
    (∃ (s : State) (i : Fin 24), s.belay.released = true ∧ s.io.tickAt < s.now ∧ s.belay.releasedAt < s.now ∧
      (s.now - s.belay.releasedAt) % ms 1 = 0 ∧ s.inUse i ≠ 0 ∧ s.inFilter i = 1 ∧ s.supplyFault (supplyA i) = false ∧
      s.supplyFault (supplyB i) = false) ∧
    (∃ (s : State) (k : Fin 4), s.belay.released = true ∧ s.supplyFault k = false ∧ s.pulsePhase k = true) ∧
    (∃ (s : State) (k : Fin 4) (before during : Nat) (i : Fin 24), s.inPulse k = true ∧ s.io.supplies[k].sampled = false ∧ s.checkPhase k = true ∧
      s.inTested i = true ∧ supplyA i = k ∧ s.supplyFault k = false ∧ before.testBit i.val = true ∧ during.testBit i.val = true) ∧
    (∃ (s : State) (src : Src) (v : Nat) (k : Fin 4) (f : Nat), s.admits src blockObj 0x0152 (u8 v) ∧ v.testBit k.val = true ∧
      s.supplyFault k = true ∧ s.io.supplies[k].freeSince = some f ∧ f + ms 100 ≤ s.now) :=
  ⟨⟨(committed 0x2101 0x0050 0 0x40810000).modIn 0 fun c => { c with a := { c.a with closed := true }, disc := 10 }, 0, by decide +kernel⟩,
    ⟨committed 0x2101 0x0050 0 0x40810000, 0, by decide +kernel⟩,
    ⟨live, 0, by decide⟩,
    ⟨{ committed 0x2101 0x0050 0 0x40810000 with
        now := sec 3600 + us 150
        io := { Safety.reset with supplies := upd Safety.reset.supplies 0 fun c => { c with pulseAt := some (sec 3600) } } }, 0, 1, 1, 0, by decide +kernel⟩,
    ⟨{ live with io := { Safety.reset with supplies := upd Safety.reset.supplies 3 fun c => { c with fault := some 2 } } }, svc, 8, 3, 0,
      admits_of (by decide), by decide⟩⟩

theorem test_met_SafetyOutputs :
    (∃ (s : State) (src : Src) (v : Nat) (q : Fin 16), s.admits src blockObj 0x015B (u16 v) ∧ s.qPowerPath q = false ∧ s.isEvenPole q = false ∧
      v.testBit q.val = true ∧ s.io.outputs[q].state = .off ∧ s.qMayStart q = true) ∧
    (∃ (s : State) (h : SealHead), s.mode.block ≠ .baseCamp ∧ s.supply.pfw = false ∧ s.admitsSealed (h.one blockObj 0x015A (u8 1)) ∧
      s.admitsSealed (h.one blockObj 0x015A (u8 16))) ∧
    (∃ (s : State) (src : Src) (v : Nat), s.admits src blockObj 0x015C (u16 v) ∧ v.testBit 15 = true) ∧
    (∃ (s : State) (src : Src) (v : Nat) (q : Fin 16), s.admits src blockObj 0x015D (u16 v) ∧ v.testBit q.val = true ∧ s.pairOf q = none ∧
      s.readsLow q = true) ∧
    (∃ (s : State) (q : Fin 16), s.io.outputs[q].state = .pullIn ∧ s.io.outputs[q].pullAt + ms 200 ≤ s.now ∧ s.pairOf q = none) ∧
    (∃ (s : State) (q : Fin 16), s.io.outputs[q].state = .hold ∧ s.io.outputs[q].pulse = none ∧ s.offPulsePhase q = true) ∧
    (∃ (s : State) (q : Fin 16) (t0 : Nat) (bad : Bool), s.io.outputs[q].state = .hold ∧ s.io.outputs[q].pulse = some (t0, bad) ∧ s.now + 10 = t0 + us 300) ∧
    (∃ (s : State) (q : Fin 16) (t0 : Nat), s.io.outputs[q].state = .hold ∧ s.io.outputs[q].pulse = some (t0, false) ∧ s.now = t0 + us 300 ∧
      s.io.outputs[q].fault = none) ∧
    (∃ (s : State) (q : Fin 16), s.io.outputs[q].state.energised = false ∧ s.io.outputs[q].fault = none) ∧
    (∃ (s : State) (q : Fin 16), s.io.outputs[q].state.energised = true ∧ s.io.outputs[q].pulse = none ∧ s.io.outputs[q].pullAt + ms 1 ≤ s.now ∧
      s.io.outputs[q].fault = none) ∧
    (∃ (s : State) (q : Fin 16), s.io.outputs[q].state = .hold ∧ s.io.outputs[q].fault = none) :=
  ⟨⟨committed blockObj 0x0158 15 0, svc, 0xFFFF, 15, admits_of (by decide), by decide⟩,
    ⟨trusting, head, by decide, by decide, admitsSealed_of (by decide +kernel), admitsSealed_of (by decide +kernel)⟩,
    ⟨live, svc, 0xFFFF, admits_of (by decide), by decide⟩,
    ⟨live, svc, 0xFFFF, 0, admits_of (by decide), by decide⟩,
    ⟨live.modQ 0 fun c => { c with state := .pullIn, pullAt := sec 3600 - ms 200 }, 0, by decide⟩,
    ⟨live.modQ 0 fun c => { c with state := .hold }, 0, by decide⟩,
    ⟨live.modQ 0 fun c => { c with state := .hold, pulse := some (sec 3600 + 10 - us 300, false) }, 0, sec 3600 + 10 - us 300, false, by decide⟩,
    ⟨live.modQ 0 fun c => { c with state := .hold, pulse := some (sec 3600 - us 300, false) }, 0, sec 3600 - us 300, by decide⟩,
    ⟨live, 0, by decide⟩,
    ⟨live.modQ 0 fun c => { c with state := .pullIn, pullAt := sec 3600 - ms 1 }, 0, by decide⟩,
    ⟨live.modQ 15 fun c => { c with state := .hold }, 15, by decide⟩⟩

/-- A safe message of node 0 with sequence 1, and its CRC. -/
def safeBytes : List Byte := let body := u8 1 ++ List.replicate 7 0x00#8 ++ u16 1 ++ u16 0; body ++ u32 (smCrc 0 body)

/-- `live` with stream 1 enabled and waiting, both networks error active. -/
def streaming (f : Stream → Stream) : State :=
  (((committed blockObj 0x0169 0 0x80000000).modSm 0 fun c => f { c with state := .wait }).modCan 0 fun c =>
    { c with onBus := true, bus := .active }).modCan 1 fun c => { c with onBus := true, bus := .passive }

theorem test_met_SafeStreams :
    (∃ (s : State) (m : Fin 8) (net : Fin 2) (id : Nat) (data : List Byte), s.cans[Fin.ofNat 3 net.val].onBus = true ∧
      s.cans[Fin.ofNat 3 net.val].bus = .active ∧ data.length = 16 ∧ s.belay.released = true ∧ s.smEnabled m = true ∧ s.smId m = id ∧
      s.io.streams[m].state ≠ .disabled ∧ s.smOverdue m = false ∧ (∀ p ∈ s.io.streams[m].pending, s.now ≤ p.since + s.smWindow) ∧ smCrc id data ≠ ofBytes (data.drop 12)) ∧
    (∃ (s : State) (m : Fin 8) (net : Fin 2) (id : Nat) (data : List Byte), s.cans[Fin.ofNat 3 net.val].onBus = true ∧
      s.cans[Fin.ofNat 3 net.val].bus = .active ∧ data.length = 16 ∧ s.belay.released = true ∧ s.smEnabled m = true ∧ s.smId m = id ∧
      s.io.streams[m].state ≠ .disabled ∧ s.smOverdue m = false ∧ (∀ p ∈ s.io.streams[m].pending, s.now ≤ p.since + s.smWindow) ∧ smCrc id data = ofBytes (data.drop 12) ∧
      smNode data = bits (s.smCfg m) 30 24 ∧ s.io.streams[m].acceptable (smSeq data) = true ∧ s.io.streams[m].contradicts (smSeq data) data = false ∧
      (s.io.streams[m].pending.find? fun p => p.seq = smSeq data) = none ∧ s.io.streams[m].state ≠ degradedOf net.val) ∧
    (∃ (s : State) (m : Fin 8) (net : Fin 2) (id : Nat) (data : List Byte) (p : SmCopy), s.cans[Fin.ofNat 3 net.val].onBus = true ∧
      s.cans[Fin.ofNat 3 net.val].bus = .passive ∧ data.length = 16 ∧ s.belay.released = true ∧ s.smEnabled m = true ∧ s.smId m = id ∧
      s.io.streams[m].state ≠ .disabled ∧ s.smOverdue m = false ∧ (∀ p ∈ s.io.streams[m].pending, s.now ≤ p.since + s.smWindow) ∧ smCrc id data = ofBytes (data.drop 12) ∧
      smNode data = bits (s.smCfg m) 30 24 ∧ s.io.streams[m].acceptable (smSeq data) = true ∧ s.io.streams[m].contradicts (smSeq data) data = false ∧
      (s.io.streams[m].pending.find? fun p => p.seq = smSeq data) = some p ∧ p.bytes = data ∧ p.net ≠ net.val) ∧
    (∃ (s : State) (m : Fin 8) (p : SmCopy), (s.io.streams[m].pending.find? fun p => decide (p.since + s.smWindow ≤ s.now)) = some p ∧
      s.smOverdue m = false ∧ s.io.streams[m].state = .valid ∧ s.bval blockObj 0x016C ≠ 0 ∧ s.io.streams[m].acceptable p.seq = true) ∧
    (∃ (s : State) (m : Fin 8), s.io.streams[m].state = .degradedB ∧ s.smOverdue m = false ∧
      s.io.streams[m].degradedAt + sec (s.bval blockObj 0x016C) ≤ s.now) ∧
    (∃ (s : State) (m : Fin 8), s.smOverdue m = true) ∧
    (∃ s : State, (s.val blockObj 0x0170).testBit 31 = true ∧ s.cans[0].node = s.cans[1].node ∧ s.fwActs = true ∧ s.mode.block ≠ .baseCamp ∧
      s.safeDue = true) :=
  ⟨⟨streaming id, 0, 0, 0, List.replicate 16 0x00#8, by decide +kernel⟩,
    ⟨streaming id, 0, 0, 0, safeBytes, by decide +kernel⟩,
    ⟨streaming fun c => { c with pending := [⟨0, 1, safeBytes, sec 3600⟩] }, 0, 1, 0, safeBytes, ⟨0, 1, safeBytes, sec 3600⟩, by decide +kernel⟩,
    ⟨(streaming fun c => { c with state := .valid, pending := [⟨0, 1, safeBytes, 0⟩] }).modBelay fun b => { b with
      store := [(dkey blockObj 0x016A 0, 100), (dkey blockObj 0x016C 0, 1)] }, 0, ⟨0, 1, safeBytes, 0⟩, by decide +kernel⟩,
    ⟨(streaming fun c => { c with state := .degradedB }).modBelay fun b => { b with
      store := [(dkey blockObj 0x016A 0, 100), (dkey blockObj 0x016C 0, 1)] }, 0, by decide +kernel⟩,
    ⟨streaming fun c => { c with state := .valid, ticks := 65535 }, 0, by decide +kernel⟩,
    ⟨live.setVal blockObj 0x0170 0 0x80000000, by decide +kernel⟩⟩

theorem test_met_EnvelopeTrips :
    (∃ (s : State) (i : Fin 40), s.bstr[i].due ≠ []) ∧ (∃ (s : State) (i : Fin 40), s.bstr[i].unseenDue ≠ []) ∧
    (∃ (s : State) (i : Fin 40) (p : Fin 33), s.belay.released = true ∧ s.belay.traverseSeen = true ∧ s.belay.missing = false ∧ s.mode.block ≠ .baseCamp ∧
      s.belay.lastTap + 2 * s.tEff + ms 1 ≤ s.now ∧ s.strs[i].exclusion = false ∧ p.val ≤ s.bstr[i].nB) ∧
    (∃ (s : State) (i : Fin 40) (p : Fin 33), s.belay.missing = true ∧ s.mode.block ≠ .baseCamp ∧ s.belay.lastTap + s.tEff ≤ s.now ∧
      s.strs[i].exclusion = false ∧ p.val = s.bstr[i].nB) :=
  ⟨⟨live.modBStr 39 fun b => { b with due := [(.ov, 1, 4300, 4200)] }, 39, by decide⟩,
    ⟨live.modBStr 0 fun b => { b with unseenDue := [3] }, 0, by decide⟩,
    ⟨(live.modBelay fun b => { b with traverseSeen := true }).modStr 0 fun c => { c with exclusion := false }, 0, 0, by decide⟩,
    ⟨((live.modBelay fun b => { b with missing := true }).modStr 0 fun c => { c with exclusion := false }).modBStr 0
      fun b => { b with nB := 32 }, 0, 32, by decide⟩⟩

/-- A record of `CELL_OV` of envelope set 1, alone in its request unless `count` says more. -/
def aRecord (count : Nat) : BelayRecord :=
  let r : BelayRecord := ⟨8, 0x2401, 2, 0, 0, false, 4200, 1, 1, count, 0⟩
  { r with check := r.checkOf }

theorem test_met_RecordsCommitWhole :
    (∃ (s : State) (q : BelayRecord) (rest : List PrivEntry), s.belay.released = true ∧ s.belay.privQ = .record q :: rest ∧
      (∀ p ∈ s.belay.staging, p.reqId = q.reqId ∧ p.slot = q.slot ∧ p.kind = q.kind) ∧ q.check = q.checkOf ∧ q.kind = 8 ∧
      isEnvelope q.index q.sub = true ∧ s.belay.staging.length + 1 < q.count) ∧
    (∃ (s : State) (q : BelayRecord) (rest : List PrivEntry), s.belay.released = true ∧ s.belay.privQ = .record q :: rest ∧
      (∀ p ∈ s.belay.staging, p.reqId = q.reqId ∧ p.slot = q.slot ∧ p.kind = q.kind) ∧ q.check = q.checkOf ∧ q.kind = 8 ∧
      isEnvelope q.index q.sub = true ∧ q.count = s.belay.staging.length + 1 ∧ s.envRefusal (s.belay.staging ++ [q]) = none) ∧
    (∃ (s : State) (q : BelayRecord) (rest : List PrivEntry), s.belay.released = true ∧ s.belay.privQ = .record q :: rest ∧
      (∀ p ∈ s.belay.staging, p.reqId = q.reqId ∧ p.slot = q.slot ∧ p.kind = q.kind) ∧ q.check ≠ q.checkOf) :=
  ⟨⟨queued (.record (aRecord 2)), aRecord 2, [], by decide, rfl, by decide, by decide +kernel⟩,
    ⟨queued (.record (aRecord 1)), aRecord 1, [], by decide, rfl, by decide, by decide +kernel⟩,
    ⟨queued (.record { aRecord 1 with value := 4201 }), { aRecord 1 with value := 4201 }, [], by decide, rfl, by decide, by decide +kernel⟩⟩

def posted (d n : Nat) : State := live.modBelay fun b => { b with mirrorPosted := some (d, n), store := [(1, 2)] }

theorem test_met_MirrorCompared :
    (∃ (s : State) (d n : Nat), s.belay.mirrorPosted = some (d, n) ∧ n ≠ s.belay.digestCommits) ∧
    (∃ (s : State) (d n : Nat), s.belay.mirrorPosted = some (d, n) ∧ n = s.belay.digestCommits ∧ d = s.belay.digest) ∧
    (∃ (s : State) (d n : Nat), s.belay.mirrorPosted = some (d, n) ∧ n = s.belay.digestCommits ∧ d ≠ s.belay.digest ∧ s.fwActs = true) ∧
    (∃ (s : State) (d n : Nat), s.belay.mirrorPosted = some (d, n) ∧ n = s.belay.digestCommits ∧ d ≠ s.belay.digest ∧ s.fwActs = false) :=
  ⟨⟨posted 0 1, 0, 1, by decide⟩, ⟨posted 0 0, 0, 0, by decide⟩, ⟨posted 5 0, 5, 0, by decide⟩,
    ⟨{ posted 5 0 with cores := { Cores.reset with swapping := true } }, 5, 0, by decide⟩⟩

/-- `live` with S1 installed, its rope in `RING` with `n` monitors, in traverse 7. -/
def roped (n : Nat) (f : Rope → Rope) : State :=
  (((live.modStr 0 fun c => { c with installed := true, state := .isolated }).modRope 0 fun r =>
    f { r with mode := .ring, n := n, lastA := some (n / 2), firstB := some (n / 2 + 1) }).modTrav fun v =>
    { v with running := true, number := some 7, t0 := sec 3600, period := 1000, bufs := upd v.bufs 7 fun b => { b with used := true, number := 7 } })

theorem test_met_Traverses :
    (∃ s : State, s.mayTrigger = true ∧ s.trav.number = none) ∧
    (∃ s : State, s.mayTrigger = true ∧ s.trav.number.isSome = true) ∧
    (∃ s : State, s.trav.number.isSome = true ∧ s.trav.bufs[s.curBuf].used = true ∧ s.trav.bufs[s.curBuf].complete = false ∧ s.readsDone = true ∧
      s.belay.released = true) ∧
    (∃ (s : State) (b : Fin 4), s.banks[b].linkMiss = 3 ∧ s.banks[b].state = .live) ∧
    (∃ (s : State) (b : Fin 4), s.banks[b].linkMiss = 3 ∧ s.banks[b].state = .dark) ∧
    (∃ s : State, s.trav.slowOpen = true ∧ s.slowReadsDone = true) :=
  ⟨⟨live, by decide⟩, ⟨(roped 4 id).modTrav fun v => { v with t0 := sec 3600 - ms 1 }, by decide⟩,
    ⟨roped 4 fun r => { r with acceptedNow := 0x1F }, by decide +kernel⟩,
    ⟨live.modBank 0 fun b => { b with linkMiss := 3, state := .live }, 0, by decide⟩,
    ⟨live.modBank 3 fun b => { b with linkMiss := 3 }, 3, by decide⟩,
    ⟨(roped 4 fun r => { r with tempNow := 0x1E, hkNow := 0x1E }).modTrav fun v => { v with slowOpen := true }, by decide +kernel⟩⟩

/-- A sound `KIND` 0 reply of a position with a tag, `LATCHED` set. -/
def reply (p tag : Nat) : List Byte :=
  let body := u8 (4 * p) ++ u8 tag ++ List.replicate 32 0x00#8 ++ u16 0x8000 ++ u8 1
  [0x55#8, 0xA2#8] ++ body ++ u16 (crc16 body)

/-- Position 32's reply still due at the B end of S1's rope, its frame just sent. -/
def awaiting (f : Rope → Rope) : State := roped 32 fun r =>
  f { r with portB := { r.portB with txn := some ⟨.traverse, [(32, 0)], sec 3600, 0⟩ } }

def headOf (p : Nat) : RxHead := ⟨0, .b, .traverse, p, 0, true, false, false⟩

/-- `live` with a frame in the ports' queues, and with pieces in the tap. -/
def arrived (f : RxFrame) : State := live.modTrav fun v => { v with portQ := [f] }

def tapped (ps : List Piece) : State := (roped 32 id).modTrav fun v => { v with tapQ := ps }

theorem test_met_Replies :
    (∃ (s : State) (i : Fin 40) (e : PortEnd) (p : Fin 33) (data kept : List Byte), kept = data.take (256 - s.portFill i e) ∧
      s.expects i e .traverse p.val = true ∧ s.now ≤ s.deadline i e p.val ∧ s.judgeReply i .traverse p.val kept = .ok) ∧
    (∃ (s : State) (i : Fin 40) (e : PortEnd) (p : Fin 33), s.expects i e .traverse p.val = true ∧ s.deadline i e p.val ≤ s.now) ∧
    (∃ s : State, (∀ k : Fin 3, s.cans[k].rxQ = []) ∧ 64 ≤ s.trav.tapQ.length) ∧
    (∃ (s : State) (f : RxFrame), (∀ k : Fin 3, s.cans[k].rxQ = []) ∧ s.trav.portQ = [f] ∧ f.head.line = 1 ∧ s.trav.tapQ.length < 64 ∧ f.bytes.length = 8 ∧
      s.trav.dmaDrop.contains f.head.line = false ∧ s.dmaFill + 8 ≤ 16384) ∧
    (∃ (s : State) (f : RxFrame), (∀ k : Fin 3, s.cans[k].rxQ = []) ∧ s.trav.portQ = [f] ∧ f.head.line = 86 ∧ s.trav.tapQ.length < 64 ∧ f.bytes.length = 9) ∧
    (∃ (s : State) (x : Piece) (rest : List Piece), s.belay.released = true ∧ s.trav.tapQ = x :: rest ∧ x.head.safe = false ∧ x.last = false ∧ rest = []) ∧
    (∃ (s : State) (x : Piece) (rest : List Piece) (begun : Bool × List Byte) (o : Fin 40) (bs : List Byte), s.belay.released = true ∧
      s.trav.tapQ = x :: rest ∧
      begun = (if x.first then (s.windowOpen (Fin.ofNat 40 x.head.owner) x.head.end_, []) else Sparse.getD s.belay.rx x.head.line (false, [])) ∧
      x.last = true ∧ o = Fin.ofNat 40 x.head.owner ∧ bs = begun.2 ++ x.bytes ∧ x.head.link = false ∧ begun.1 = true ∧ x.head.inTime = true ∧
      replyCrcOk bs = true ∧ replySrc bs ≤ 32 ∧ replyKind bs = 0 ∧ replyTag bs = s.trav.number.getD 0 % 256 ∧
      (replyStatus bs).testBit 15 = true ∧ s.ropes[o].disqualified.testBit (replySrc bs) = false) :=
  ⟨⟨awaiting id, 0, .b, 32, reply 32 7, reply 32 7, by decide +kernel⟩,
    ⟨{ awaiting id with now := sec 3600 + us 4 }, 0, .b, 32, by decide⟩,
    ⟨tapped (List.replicate 64 ⟨headOf 1, [], true, true, false⟩), by decide⟩,
    ⟨arrived ⟨{ headOf 0 with end_ := .a }, List.replicate 8 0x00#8, false⟩, _, by decide, rfl, by decide⟩,
    ⟨arrived ⟨⟨5, .a, .traverse, 0, 0, true, false, true⟩, List.replicate 9 0x00#8, false⟩, _, by decide, rfl, by decide⟩,
    ⟨tapped [⟨headOf 32, (reply 32 7).take 8, true, false, false⟩], _, _, by decide, rfl, by decide⟩,
    ⟨tapped [⟨headOf 32, reply 32 7, true, true, false⟩], _, _, (true, []), 0, reply 32 7, by decide, rfl, by decide +kernel⟩⟩

theorem test_met_RopeCommands :
    (∃ (s : State) (i : Fin 40) (src : Src), s.admits src (strObj i) 0x0013 (u8 1) ∧ s.ropes[i].rollCall ≠ 1 ∧ s.mode.block = .service ∧
      s.strs[i].state = .excluded) ∧
    (∃ (s : State) (i : Fin 40), s.ropes[i].rollCall = 1 ∧ s.start.fw = .running ∧ s.atBoundary = true) ∧
    (∃ (s : State) (i : Fin 40), s.ropes[i].rollCall = 1 ∧ s.start.fw = .running ∧ s.atBoundary = false) ∧ (∃ (s : State) (i : Fin 40), s.ropes[i].partial_ = true) ∧
    (∃ (s : State) (i : Fin 40) (src : Src) (v : Nat), s.admits src (strObj i) 0x0011 (u8 v)) ∧
    (∃ (s : State) (i : Fin 40) (src : Src), s.admits src (strObj i) 0x005F (u8 1)) ∧
    (∃ (s : State) (i : Fin 40) (m : RopeMode) (a b : Option Nat), s.start.fw = .running ∧ s.atBoundary = true ∧ s.ropes[i].rollCall ≠ 1 ∧
      s.ropes[i].rollMode = none ∧ s.ropes[i].due = some (m, a, b) ∧ m ≠ s.ropes[i].mode ∧ s.ropes[i].req = none) ∧
    (∃ (s : State) (port : Fin 80), s.atBoundary = true ∧ s.start.fw = .running ∧ (s.portAt (port.val + 1)).restoreDue = false ∧
      (s.portAt (port.val + 1)).moveDue = true ∧
      ((portGroup (port.val + 1)).any fun m => decide (m < port.val + 1) && (s.portAt m).moveDue) = false ∧
      ((portGroup (port.val + 1)).any fun m => (s.portAt m).spare) = false) ∧
    (∃ (s : State) (port : Fin 80), s.atBoundary = true ∧ s.start.fw = .running ∧ (s.portAt (port.val + 1)).restoreDue = false ∧
      (s.portAt (port.val + 1)).moveDue = true ∧
      ((portGroup (port.val + 1)).any fun m => decide (m < port.val + 1) && (s.portAt m).moveDue) = false ∧
      (s.portAt (port.val + 1)).spare = true) :=
  ⟨⟨live' .service, 39, svc, admits_of (by decide), by decide⟩, ⟨live.modRope 0 fun r => { r with rollCall := 1 }, 0, by decide⟩,
    ⟨roped 4 fun r => { r with rollCall := 1 }, 0, by decide⟩,
    ⟨live.modRope 0 fun r => { r with partial_ := true }, 0, by decide⟩, ⟨live, 0, svc, 1, admits_of (by decide)⟩,
    ⟨live, 0, svc, admits_of (by decide)⟩, ⟨live.modRope 0 fun r => { r with due := some (.ring, none, none) }, 0, .ring, none, none, by decide⟩,
    ⟨live.modPort 80 fun p => { p with moveDue := true }, 79, by decide⟩,
    ⟨live.modPort 1 fun p => { p with moveDue := true, spare := true }, 0, by decide⟩⟩

theorem test_met_Periods :
    (∃ (s : State) (src : Src) (v : Nat), s.admits src blockObj 0x0052 (u8 v) ∧ v < s.val blockObj 0x0050 * 10) ∧
    (∃ (s : State) (h : SealHead), s.val blockObj 0x0052 < 10 * 2 ∧ s.admitsSealed (h.one blockObj 0x0050 (u16 2)) ∧
      s.admitsSealed (h.one blockObj 0x0050 (u16 1000))) ∧
    (∃ (s : State) (h : SealHead), s.admitsSealed (h.one blockObj 0x0053 (u16 100)) ∧ s.admitsSealed (h.one blockObj 0x0053 (u16 10000))) :=
  ⟨⟨live, svc, 9, admits_of (by decide), by decide⟩,
    ⟨trusting.setVal blockObj 0x52 0 0, head, by decide, admitsSealed_of (by decide +kernel), admitsSealed_of (by decide +kernel)⟩,
    ⟨trusting, head, admitsSealed_of (by decide +kernel), admitsSealed_of (by decide +kernel)⟩⟩

/-- S1's monitor at place 5, at position 5 and served from end A, and a master frame that comes to it from there. -/
def monitor : Node := { Node.reset with position := some 5, serve := some ⟨.a, 20, 100, 0, 20⟩, strobe := some ⟨sec 3600, 7, true, true, 15000⟩ }

def noded (f : Node → Node) : State := live.setNode 0 5 (f monitor)

def toMonitor (code addr : Nat) (payload : List Byte) : NodeRx :=
  { string := 0, place := 5, from_ := .a, bytes := masterFrame false code addr 0 payload }

def heard (n : Node) (f : NodeRx) (code len : Nat) : Bool :=
  f.crcOk && f.code == code && f.len == len && (f.far || match n.serving with | some v => v.end_ == f.from_ | none => true)

theorem heard_of {n : Node} {f : NodeRx} {code len : Nat} (h : heard n f code len = true) : heardByNode n f code len := by
  simp only [heard, Bool.and_eq_true, Bool.or_eq_true, beq_iff_eq] at h
  obtain ⟨⟨⟨h1, h2⟩, h3⟩, h4⟩ := h
  refine ⟨h1, h2, h3, h4.imp id fun h v hv => ?_⟩
  simpa [hv] using h

/-- Some frame of a code and a length that some node hears meets `P`. -/
def Heard (code len : Nat) (P : Node → NodeRx → Prop) : Prop :=
  ∃ (s : State) (f : NodeRx) (n : Node), n = s.node f.string f.place.val ∧ heardByNode n f code len ∧ P n f

theorem test_met_NodeCommands :
    Heard 0x01 1 (fun n f => n.addressed f = true) ∧ Heard 0x02 1 (fun n f => n.addressed f = true) ∧
    Heard 0x03 0 (fun n f => n.position = some f.addr ∧ f.addr ≠ 0x3F) ∧ Heard 0x05 0 (fun n f => n.position = some f.addr ∧ f.addr ≠ 0x3F) ∧
    Heard 0x7F 0 (fun n f => n.addressed f = true) ∧
    Heard 0x04 3 (fun n f => n.addressed f = true ∧ n.position = some 5 ∧ f.field 0 1 = 5 ∧ f.field 1 1 = 5) ∧
    Heard 0x22 1 (fun n f => n.position = some f.addr ∧ f.addr ≠ 0x3F ∧ f.place ≠ 0 ∧ f.field 0 2 = 2 ^ 15) ∧
    Heard 0x30 1 (fun n f => n.position = some f.addr ∧ f.addr ≠ 0x3F ∧ f.place ≠ 0 ∧ n.camp = false) ∧
    Heard 0x31 1 (fun n f => n.position = some f.addr ∧ f.addr ≠ 0x3F ∧ f.place ≠ 0 ∧ f.field 0 1 = 4) ∧
    Heard 0x31 1 (fun n f => n.position = some f.addr ∧ f.addr ≠ 0x3F ∧ f.place ≠ 0 ∧ f.field 0 1 = 5) ∧
    Heard 0x32 3 (fun n f => n.addressed f = true ∧ f.addr = 0x3F) ∧
    Heard 0x40 1 (fun n f => n.addressed f = true ∧ f.place ≠ 0 ∧ (f.field 1 1).testBit 0 = true) :=
  ⟨⟨noded id, toMonitor 1 0x3F [0x05#8, 0x00#8], monitor, by decide, heard_of (by decide +kernel), by decide +kernel⟩,
    ⟨noded id, toMonitor 2 0x3F [0x05#8, 0x00#8], monitor, by decide, heard_of (by decide +kernel), by decide +kernel⟩,
    ⟨noded id, toMonitor 3 5 [], monitor, by decide, heard_of (by decide +kernel), by decide +kernel⟩,
    ⟨noded id, toMonitor 5 5 [], monitor, by decide, heard_of (by decide +kernel), by decide +kernel⟩,
    ⟨noded id, toMonitor 0x7F 0x3F [], monitor, by decide, heard_of (by decide +kernel), by decide +kernel⟩,
    ⟨noded id, toMonitor 4 0x3F [0x05#8, 0x05#8, 0x01#8, 0x14#8, 0x00#8, 0x64#8], monitor, by decide, heard_of (by decide +kernel), by decide +kernel⟩,
    ⟨noded id, toMonitor 0x22 5 [0x80#8, 0x00#8], monitor, by decide, heard_of (by decide +kernel), by decide +kernel⟩,
    ⟨noded id, toMonitor 0x30 5 [0x80#8, 0x01#8], monitor, by decide, heard_of (by decide +kernel), by decide +kernel⟩,
    ⟨noded id, toMonitor 0x31 5 [0x04#8, 0x00#8], monitor, by decide, heard_of (by decide +kernel), by decide +kernel⟩,
    ⟨noded id, toMonitor 0x31 5 [0x05#8, 0x00#8], monitor, by decide, heard_of (by decide +kernel), by decide +kernel⟩,
    ⟨noded id, toMonitor 0x32 0x3F (List.replicate 6 0x01#8), monitor, by decide, heard_of (by decide +kernel), by decide +kernel⟩,
    ⟨noded id, toMonitor 0x40 0x3F [0x3C#8, 0x01#8], monitor, by decide, heard_of (by decide +kernel), by decide +kernel⟩⟩

theorem test_met_NodeTraverse :
    Heard 0x10 3 (fun n f => n.addressed f = true ∧ ∃ (v : Serve) (h : Nat), n.serving = some v ∧ n.hopFrom v.end_ = some h) ∧
    Heard 0x10 3 (fun n f => n.addressed f = true ∧ n.serving = none) ∧
    (∃ (s : State) (f : NodeRx) (n : Node) (k : Strobe), n = s.node f.string f.place.val ∧ n.strobe = some k ∧ k.at_ ≤ s.now ∧ k.slow = true ∧
      f.place ≠ 0) ∧
    (∃ (s : State) (f : NodeRx) (n : Node), n = s.node f.string f.place.val ∧ f.place ≠ 0 ∧ n.nextAt = s.now + n.recess * 100000 + us 2) ∧
    Heard 0x11 1 (fun n f => n.inRange f = true) ∧ Heard 0x20 1 (fun n f => n.inRange f = true ∧ f.place ≠ 0) ∧
    Heard 0x21 1 (fun n f => n.inRange f = true ∧ f.place ≠ 0) :=
  ⟨⟨noded id, toMonitor 0x10 0x3F [0x00#8, 0x07#8, 0x00#8, 0x03#8, 0x00#8, 0x64#8], monitor, by decide, heard_of (by decide +kernel),
      by decide +kernel, ⟨.a, 20, 100, 0, 20⟩, 5, by decide⟩,
    ⟨noded fun n => { n with serve := none }, toMonitor 0x10 0x3F [0x00#8, 0x07#8, 0x00#8, 0x03#8, 0x00#8, 0x64#8], { monitor with serve := none },
      by decide, heard_of (by decide +kernel), by decide +kernel⟩,
    ⟨noded id, toMonitor 0x7F 0x3F [], monitor, ⟨sec 3600, 7, true, true, 15000⟩, by decide⟩,
    ⟨noded fun n => { n with nextAt := sec 3600 + us 2 }, toMonitor 0x7F 0x3F [], { monitor with nextAt := sec 3600 + us 2 }, by decide⟩,
    ⟨noded id, toMonitor 0x11 0x3F [0x05#8, 0x05#8], monitor, by decide, heard_of (by decide +kernel), by decide +kernel⟩,
    ⟨noded id, toMonitor 0x20 0x3F [0x05#8, 0x05#8], monitor, by decide, heard_of (by decide +kernel), by decide +kernel⟩,
    ⟨noded id, toMonitor 0x21 0x3F [0x05#8, 0x05#8], monitor, by decide, heard_of (by decide +kernel), by decide +kernel⟩⟩

/-- The monitor in base camp. -/
def camping (f : Node → Node) : State := noded fun n => f { n with camp := true }

theorem test_met_NodeOnItsOwn :
    (∃ (s : State) (i : Fin 40) (p : Fin 33) (n : Node), n = s.node i p.val ∧ p ≠ 0 ∧ n.camp = false ∧ n.acceptedAt + ms (100 * n.commLoss) ≤ s.now) ∧
    (∃ (s : State) (i : Fin 40) (p : Fin 33) (n : Node) (cells : List Nat) (temps : List Int), n = s.node i p.val ∧ p ≠ 0 ∧ n.camp = true ∧
      n.tones < 3 ∧ n.toneDue = none ∧ n.violates cells temps = true ∧ n.suspect = none) ∧
    (∃ (s : State) (i : Fin 40) (p : Fin 33) (n : Node) (cells : List Nat) (temps : List Int) (t0 : Nat), n = s.node i p.val ∧ p ≠ 0 ∧ n.camp = true ∧
      n.tones < 3 ∧ n.toneDue = none ∧ n.violates cells temps = true ∧ n.suspect = some t0 ∧ t0 + ms 100 = s.now) ∧
    (∃ (s : State) (i : Fin 40) (p : Fin 33) (n : Node) (cells : List Nat) (temps : List Int), n = s.node i p.val ∧ p ≠ 0 ∧ n.camp = true ∧
      n.tones = 3 ∧ n.violates cells temps = true) ∧
    (∃ (s : State) (i : Fin 40) (p : Fin 33) (n : Node) (cells : List Nat) (temps : List Int), n = s.node i p.val ∧ p ≠ 0 ∧ n.camp = true ∧
      n.tones = 3 ∧ n.violates cells temps = false) ∧
    (∃ (s : State) (i : Fin 40) (p : Fin 33) (n : Node) (due : Nat), n = s.node i p.val ∧ n.toneDue = some due ∧ due ≤ s.now ∧ n.camp = true ∧
      n.tones = 0) ∧
    (∃ (s : State) (i : Fin 40) (p : Fin 33) (n : Node) (due : Nat), n = s.node i p.val ∧ n.toneDue = some due ∧ due ≤ s.now ∧ n.camp = true ∧
      n.tones = 2 ∧ n.heard = true) ∧
    (∃ (s : State) (i : Fin 40) (p : Fin 33) (n : Node) (due : Nat), n = s.node i p.val ∧ n.toneDue = some due ∧ due ≤ s.now ∧ n.camp = true ∧
      n.tones = 1 ∧ n.heard = false) ∧
    (∃ (s : State) (i : Fin 40) (p : Fin 33) (n : Node) (due : Nat), n = s.node i p.val ∧ n.toneDue = some due ∧ due ≤ s.now ∧ n.camp = true ∧
      n.tones = 2 ∧ n.heard = false) ∧
    (∃ (s : State) (i : Fin 40) (p : Fin 33) (n : Node), n = s.node i p.val ∧ n.deafUntil ≤ s.now) :=
  ⟨⟨noded id, 0, 5, _, rfl, by decide⟩, ⟨camping id, 0, 5, _, [60000], [], rfl, by decide⟩,
    ⟨camping fun n => { n with suspect := some (sec 3600 - ms 100) }, 0, 5, _, [60000], [], sec 3600 - ms 100, rfl, by decide⟩,
    ⟨camping fun n => { n with tones := 3 }, 0, 5, _, [60000], [], rfl, by decide⟩,
    ⟨camping fun n => { n with tones := 3 }, 0, 5, _, [], [], rfl, by decide⟩,
    ⟨camping fun n => { n with toneDue := some (sec 3600) }, 0, 5, _, sec 3600, rfl, by decide⟩,
    ⟨camping fun n => { n with toneDue := some (sec 3600), tones := 2, heard := true }, 0, 5, _, sec 3600, rfl, by decide⟩,
    ⟨camping fun n => { n with toneDue := some (sec 3600), tones := 1 }, 0, 5, _, sec 3600, rfl, by decide⟩,
    ⟨camping fun n => { n with toneDue := some (sec 3600), tones := 2 }, 0, 5, _, sec 3600, rfl, by decide⟩, ⟨noded id, 0, 5, _, rfl, by decide⟩⟩

theorem test_met_Balancing :
    (∃ (s : State) (src : Src) (v : Nat), s.admits src blockObj 0x0060 (u8 v)) ∧
    (∃ (s : State) (src : Src) (i : Fin 40) (data : List Byte), s.admits src (strObj i) 0x0061 data ∧ s.bal.mode ≠ 2) ∧
    (∃ (s : State) (i : Fin 40) (t0 : Nat), s.fwActs = true ∧ s.bal.mode = 2 ∧ Sparse.get? s.bal.wroteAt i.val = some t0 ∧
      t0 + sec (s.val blockObj 0x0065) ≤ s.now ∧ s.ropes[i].mode ≠ .dark ∧ s.monitorsOf i ≠ []) ∧
    (∃ s : State, s.fwActs = true ∧ s.trav.running = true ∧ s.bal.owAt + sec (s.val blockObj 0x0066) ≤ s.now) ∧
    (∃ (s : State) (i : Fin 40) (p : Fin 33) (j : Fin 16) (t0 key : Nat), key = nodeKey i p.val * 16 + j.val ∧ s.fwActs = true ∧
      Sparse.get? s.bal.deferred key = some t0 ∧ t0 + sec (s.val blockObj 0x0067) ≤ s.now ∧ s.ropes[i].mode ≠ .dark ∧
      (s.sentMask i p.val).testBit (j.val + 1) = true) ∧
    (∃ (s : State) (src : Src), s.admits src blockObj 0x0070 (u8 1) ∧ s.campRefusal = none ∧ s.bal.entering = false) ∧
    (∃ (s : State) (src : Src), s.admits src blockObj 0x0070 (u8 0) ∧ s.mode.block = .baseCamp ∧ s.bal.exiting = false) ∧
    (∃ (s : State) (i : Fin 40) (e : PortEnd), s.strs[i].installed = true ∧ (s.ropes[i].port e).failed = false ∧ s.mode.block = .baseCamp ∧
      s.bal.exiting = false) ∧
    (∃ s : State, s.mode.block = .baseCamp ∧ s.bal.exiting = true ∧ s.fwActs = true ∧ s.rollCallsDone = true ∧ s.trav.slowDone = true) ∧
    (∃ (s : State) (src : Src) (v : Nat), s.admits src blockObj 0x0076 (u8 v)) :=
  ⟨⟨live, svc, 2, admits_of (by decide)⟩, ⟨live, svc, 39, List.replicate 64 0x00#8, admits_of (by decide +kernel), by decide⟩,
    ⟨(roped 4 id).modBal fun b => { b with mode := 2, wroteAt := [(0, 0)] }, 0, 0, by decide⟩,
    ⟨{ roped 4 id with now := sec 90000 }, by decide⟩,
    ⟨(roped 32 id).modBal fun b => { b with deferred := [(527, 0)], sent := [(32, 0x10000)] }, 0, 32, 15, 0, 527, by decide⟩,
    ⟨live, svc, admits_of (by decide), by decide⟩, ⟨live' .baseCamp, svc, admits_of (by decide), by decide⟩,
    ⟨(live' .baseCamp).modStr 39 fun c => { c with installed := true }, 39, .b, by decide⟩,
    ⟨((live' .baseCamp).modBal fun b => { b with exiting := true }).modTrav fun v => { v with slowDone := true }, by decide⟩,
    ⟨live, svc, 0x87, admits_of (by decide)⟩⟩

/-- `live` with the copy of a write-back due in slot `k`. -/
def writing (k : Nat) : State := { live with store := { Store.reset with writing := some (Learned.empty, 1, k) } }

theorem test_met_BaseCampPasses :
    (∃ (s : State) (src : Src), s.admits src blockObj 0x0070 (u8 1) ∧ s.campRefusal = none ∧ s.bal.entering = false ∧ s.fwActs = true) ∧
    (∃ (s : State) (img : Learned) (reason k : Nat), k < 3 ∧ s.store.writing = some (img, reason, k) ∧ s.bal.entering = true ∧
      s.mode.block = .standby ∧ s.supply.pfw = false ∧ s.fwActs = true) ∧
    (∃ (s : State) (src : Src) (i : Fin 40), s.admits src blockObj 0x0070 (u8 0) ∧ s.mode.block = .baseCamp ∧ s.bal.exiting = false ∧
      s.strs[i].installed = true) ∧
    (∃ (s : State) (i : Fin 40) (e : PortEnd), s.strs[i].installed = true ∧ (s.ropes[i].port e).failed = false ∧ s.mode.block = .baseCamp ∧
      s.bal.exiting = false) ∧
    (∃ s : State, s.mode.block ≠ .baseCamp) ∧
    (∃ s : State, s.mode.block = .baseCamp ∧ s.bal.exiting = true ∧ s.fwActs = true ∧ s.rollCallsDone = true ∧ s.trav.slowDone = true) ∧
    (∃ (s : State) (src : Src) (v : Nat), s.admits src blockObj 0x0076 (u8 v) ∧ v.testBit 7 = true ∧ s.bal.wakeHeld.isSome = true) :=
  ⟨⟨live, svc, admits_of (by decide), by decide⟩, ⟨(writing 2).modBal fun b => { b with entering := true }, Learned.empty, 1, 2, by decide⟩,
    ⟨(live' .baseCamp).modStr 0 fun c => { c with installed := true }, svc, 0, admits_of (by decide), by decide⟩,
    ⟨(live' .baseCamp).modStr 0 fun c => { c with installed := true }, 0, .a, by decide⟩, ⟨live, by decide⟩,
    ⟨((live' .baseCamp).modBal fun b => { b with exiting := true }).modTrav fun v => { v with slowDone := true }, by decide⟩,
    ⟨live.modBal fun b => { b with wakeHeld := some 0 }, svc, 0x80, admits_of (by decide), by decide⟩⟩

/-- `live` with traverse 7 published and the engine at it, in a batch of `count` traverses of 50 ms. -/
def batching (count : Nat) (f : Corr → Corr) : State :=
  { live with
    trav := { Traverse.reset with bufs := upd Traverse.reset.bufs 7 fun b => { b with used := true, number := 7, published := true, period := 50000 } }
    corr := f { Corr.reset with next := some 7, teff := 50000, count := count } }

def aBatch : Batch :=
  { number := 3, periodChanged := false, saturated := false, gap := false, active := [], first := 0, last := 0, count := 0, teff := 0, fhi := [],
    fref := [], figures := [], tick := 0, discarded := 0, strs := [], flags := [], charge := [], cells := [] }

theorem test_met_Batches :
    (∃ (s : State) (n : Nat), s.corr.next = some n ∧ s.start.fw ≠ .down ∧ s.trav.bufs[bufOf n].used = true ∧ s.trav.bufs[bufOf n].number = n ∧
      s.trav.bufs[bufOf n].published = true ∧ s.batchFull = false ∧ s.trav.bufs[bufOf n].period = s.corr.teff) ∧
    (∃ s : State, s.batchFull = true ∧ s.corr.enabled = true ∧ s.val blockObj 0x0100 = 1 ∧ s.corr.taken = true) ∧
    (∃ s : State, s.batchFull = true ∧ s.corr.enabled = true ∧ s.val blockObj 0x0100 = 1 ∧ s.corr.taken = false) ∧
    (∃ s : State, s.batchFull = true ∧ s.corr.enabled = false) ∧
    (∃ s : State, s.fwActs = true ∧ s.corr.ready = true ∧ s.corr.taken = false ∧ s.corr.heldBatch = none) ∧
    (∃ (s : State) (g : Batch), s.fwActs = true ∧ s.corr.ready = true ∧ s.corr.taken = false ∧ s.corr.heldBatch = some g) ∧
    (∃ (s : State) (src : Src), s.admits src blockObj 0x0100 (u8 0) ∧ s.admits src blockObj 0x0100 (u8 1)) ∧
    (∃ s : State, s.fwActs = true ∧ s.corr.sdAt + sec (3600 * s.val blockObj 0x010B) ≤ s.now) :=
  ⟨⟨batching 0 id, 7, by decide⟩, ⟨batching (batchLen 50000) id, by decide⟩,
    ⟨batching (batchLen 50000) fun c => { c with taken := false }, by decide⟩,
    ⟨batching (batchLen 50000) fun c => { c with enabled := false }, by decide⟩,
    ⟨batching 0 fun c => { c with ready := true, taken := false }, by decide⟩,
    ⟨batching 0 fun c => { c with ready := true, taken := false, heldBatch := some aBatch }, aBatch, by decide⟩,
    ⟨live, svc, admits_of (by decide), admits_of (by decide)⟩, ⟨{ live with now := sec 10000000 }, by decide⟩⟩

def aSample : Sample := ⟨0, 5, [], [], [], [], [], [], 50000, []⟩

theorem test_met_EstimatorAndLearned :
    (∃ (s : State) (p : Sample) (i : Fin 40), s.fwActs = true ∧ s.est.running = true ∧ s.nextStep = some p ∧ s.strs[i].state = .excluded) ∧
    (∃ (s : State) (src : Src) (v : Nat), s.admits src blockObj 0x0120 (u8 v)) ∧
    (∃ s : State, s.fwActs = true ∧ s.est.running = true ∧ s.store.periodic + sec 21600 ≤ s.now) ∧
    (∃ (s : State) (img : Learned) (reason k : Nat), k < 3 ∧ s.store.writing = some (img, reason, k)) :=
  ⟨⟨{ live with est := { Est.reset with running := true, window := [aSample] } }, aSample, 0, by decide⟩, ⟨live, svc, 1, admits_of (by decide)⟩,
    ⟨{ live with est := { Est.reset with running := true }, now := sec 21600 }, by decide⟩,
    ⟨writing 2, Learned.empty, 1, 2, by decide⟩⟩

/-- `live` with controller CAN-A on its bus. -/
def onBus (f : Can → Can) : State := live.modCan 0 fun c => f { c with onBus := true, bus := .active }

/-- Object 5 of CAN-A configured as an event-driven send object. -/
def sending (f : MsgObj → MsgObj) : State := ((onBus id).setVal 0x1810 6 0 0xC000000000000123).modMo 0 5 f

theorem test_met_CanWrites :
    (∃ (s : State) (src : Src) (k : Fin 3) (v : Nat), s.admits src (canObj k) 0x000C (u8 v) ∧ moValid (s.moCfg k v) = true ∧
      moSend (s.moCfg k v) = true ∧ moTt (s.moCfg k v) = false ∧ (s.crossing k).length = 15) ∧
    (∃ (s : State) (src : Src) (k : Fin 3) (v : Nat), s.admits src (canObj k) 0x000D (u8 v) ∧ (s.crossing k).length < 16 ∧
      (s.mo k v).active = true) ∧
    (∃ (s : State) (src : Src) (k : Fin 3) (v : Nat), s.admits src (canObj k) 0x000D (u8 v) ∧ (s.crossing k).length < 16 ∧
      (s.mo k v).active = false ∧ (s.mo k v).pending = true) ∧
    (∃ (s : State) (src : Src) (k : Fin 3) (o : Fin 128) (data : List Byte), s.admits src (0x1830 + k.val) (o.val + 1) data ∧
      moSend (s.moCfg k o.val) = true ∧ (data.getD 4 0x00#8).toNat ≤ 15 ∧ (s.mo k o.val).active = false) ∧
    (∃ (s : State) (src : Src) (k : Fin 3) (o : Fin 128) (data : List Byte), s.admits src (0x1830 + k.val) (o.val + 1) data ∧
      moSend (s.moCfg k o.val) = true ∧ (data.getD 4 0x00#8).toNat ≤ 15 ∧ (s.mo k o.val).active = true) ∧
    (∃ (s : State) (src : Src) (k : Fin 3) (o : Fin 128) (w : Nat), s.admits src (0x1810 + k.val) (o.val + 1) (u64 w) ∧
      (s.mo k o.val).pending = false ∧ (s.mo k o.val).active = false ∧ (moBrs w = true → moFd w = true) ∧ bits w 50 29 = 0 ∧ moSafe w = false) ∧
    (∃ (s : State) (src : Src) (k : Fin 3), s.admits src (canObj k) 3 (u32 0x1E3E1E01) ∧
      timingOk 0x1E3E1E01 (s.val (canObj k) 4) = true ∧ s.admits src (canObj k) 4 (u32 0x9E482F00) ∧
      timingOk (s.val (canObj k) 3) 0x9E482F00 = true) ∧
    (∃ (s : State) (src : Src) (k : Fin 3) (m : Nat), s.admits src (canObj k) 1 (u8 m) ∧ m = 1 ∧ s.ttOk k = true ∧ s.cans[k].bus ≠ .busOff ∧
      s.onWire k = none) ∧
    (∃ (s : State) (src : Src) (k : Fin 3) (m : Nat), s.admits src (canObj k) 1 (u8 m) ∧ m ≠ 1 ∧ s.onWire k ≠ none) ∧
    (∃ (s : State) (src : Src) (k : Fin 3) (v : Nat), s.admits src (canObj k) 7 (u8 v) ∧ s.cans[k].bus = .busOff) ∧
    (∃ (s : State) (src : Src) (k : Fin 3) (v : Nat), s.admits src (canObj k) 9 (u8 v)) ∧
    (∃ (s : State) (k : Fin 3) (o : Nat), o < 128 ∧ s.canSends k = true ∧ s.onWire k = none ∧ s.winner k (s.offers k) = some o) ∧
    (∃ (s : State) (k : Fin 3) (o : Nat), o < 128 ∧ s.onWire k = some o) ∧
    (∃ (s : State) (k : Fin 3), s.cans[k].onBus = true ∧ s.cans[k].bus = .active ∧ s.cans[k].mode ≠ 2 ∧ s.cans[k].modeNext = none) ∧
    (∃ (s : State) (k : Fin 3), s.cans[k].onBus = true ∧ s.cans[k].bus = .integrating) ∧
    (∃ (s : State) (k : Fin 3), s.val (canObj k) 8 ≠ 0 ∧ s.fwActs = true ∧ s.cans[k].busOffAt + sec (s.val (canObj k) 8) ≤ s.now ∧
      s.cans[k].bus = .busOff) ∧
    (∃ (s : State) (k : Fin 3), s.cans[k].bus = .busOff ∧ s.cans[k].recovering = true) :=
  ⟨⟨(sending id).modCan 0 fun c => { c with txTick := sec 360, txReqs := List.replicate 15 (false, 5) }, svc, 0, 5, admits_of (by decide), by decide⟩, ⟨sending fun m => { m with active := true }, svc, 0, 5, admits_of (by decide), by decide⟩,
    ⟨sending fun m => { m with pending := true }, svc, 0, 5, admits_of (by decide), by decide⟩,
    ⟨sending id, svc, 0, 5, List.replicate 80 0x0F#8, admits_of (by decide +kernel), by decide +kernel⟩,
    ⟨sending fun m => { m with active := true }, svc, 0, 5, List.replicate 80 0x00#8, admits_of (by decide +kernel), by decide +kernel⟩,
    ⟨live, svc, 2, 127, 0xC000000000000123, admits_of (by decide +kernel), by decide⟩,
    ⟨live, svc, 0, admits_of (by decide +kernel), by decide +kernel, admits_of (by decide +kernel), by decide +kernel⟩,
    ⟨live, svc, 0, 1, admits_of (by decide), by decide +kernel⟩,
    ⟨sending fun m => { m with active := true }, svc, 0, 2, admits_of (by decide), by decide⟩,
    ⟨onBus fun c => { c with bus := .busOff }, svc, 0, 1, admits_of (by decide), by decide⟩, ⟨live, svc, 2, 1, admits_of (by decide)⟩,
    ⟨sending fun m => { m with pending := true }, 0, 5, by decide +kernel⟩, ⟨sending fun m => { m with active := true }, 0, 5, by decide +kernel⟩,
    ⟨onBus id, 0, by decide⟩, ⟨onBus fun c => { c with bus := .integrating }, 0, by decide⟩,
    ⟨(onBus fun c => { c with bus := .busOff }).setVal 0x1800 8 0 1, 0, by decide⟩,
    ⟨onBus fun c => { c with bus := .busOff, recovering := true }, 0, by decide⟩⟩

theorem test_met_CanBus :
    (∃ (s : State) (k : Fin 3) (o : Nat), s.canSends k = true ∧ s.onWire k = none ∧ s.winner k (s.offers k) = some o ∧ o ≠ 128) ∧
    (∃ (s : State) (k : Fin 3) (o : Nat), s.canSends k = true ∧ s.onWire k = none ∧ s.winner k (s.offers k) = some o ∧ o = 128) ∧
    (∃ (s : State) (k : Fin 3) (o : Nat), s.onWire k = some o ∧ o = 128) ∧
    (∃ (s : State) (k : Fin 3) (o : Nat), s.onWire k = some o ∧ o = 129 ∧ s.cans[k].modeNext = none) ∧
    (∃ (s : State) (k : Fin 3) (o : Nat), s.onWire k = some o ∧ o < 128 ∧ (s.mo k o).cancelReq = true) ∧
    (∃ (s : State) (k : Fin 3) (o : Nat), s.onWire k = some o ∧ o = 127 ∧ (s.mo k o).cancelReq = false ∧ (s.mo k o).oneShot = true) ∧
    (∃ (s : State) (k : Fin 3), s.cans[k].onBus = true ∧ s.cans[k].bus = .active ∧ s.cans[k].mode = 2 ∧ s.cans[k].modeNext = none) ∧
    (∃ (s : State) (k : Fin 3), s.cans[k].onBus = true ∧ s.cans[k].bus = .active ∧ s.cans[k].mode ≠ 2 ∧ s.cans[k].tec + 8 = 256) ∧
    (∃ (s : State) (k : Fin 3), s.cans[k].onBus = true ∧ s.cans[k].bus = .passive ∧ s.cans[k].mode ≠ 2 ∧ s.cans[k].modeNext = none ∧
      s.cans[k].tec + 8 = 255) ∧
    (∃ (s : State) (k : Fin 3), s.cans[k].onBus = true ∧ s.cans[k].bus = .active ∧ s.cans[k].modeNext = none ∧ s.cans[k].mode ≠ 2 ∧ s.cans[k].tec + 0 = 0 ∧
      s.cans[k].rec_ + 1 = 128) ∧
    (∃ (s : State) (k : Fin 3), s.cans[k].onBus = true ∧ s.cans[k].bus = .active ∧ s.cans[k].modeNext = none ∧ s.cans[k].mode ≠ 2 ∧ s.cans[k].tec + 8 = 127 ∧
      s.cans[k].rec_ + 0 = 127) ∧
    (∃ (s : State) (k : Fin 3), s.cans[k].onBus = true ∧ s.cans[k].bus = .integrating ∧ s.cans[k].announce = true) ∧
    (∃ (s : State) (k : Fin 3), s.val (canObj k) 8 ≠ 0 ∧ s.fwActs = true ∧ s.cans[k].busOffAt + sec (s.val (canObj k) 8) ≤ s.now ∧
      s.cans[k].bus = .busOff) ∧
    (∃ (s : State) (k : Fin 3), s.cans[k].bus = .busOff ∧ s.cans[k].recovering = true ∧ s.cans[k].modeNext = none) ∧
    (∃ (s : State) (k : Fin 3) (m : Nat), s.cans[k].bus = .busOff ∧ s.cans[k].recovering = true ∧ s.cans[k].modeNext = some m ∧ s.onWire k = none) :=
  ⟨⟨sending fun m => { m with pending := true }, 0, 5, by decide +kernel⟩,
    ⟨onBus fun c => { c with dictOut := [(0, [])] }, 0, 128, by decide +kernel⟩,
    ⟨onBus fun c => { c with dictActive := true }, 0, 128, by decide⟩, ⟨onBus fun c => { c with refActive := true }, 0, 129, by decide⟩,
    ⟨sending fun m => { m with active := true, cancelReq := true }, 0, 5, by decide +kernel⟩,
    ⟨(onBus id).modMo 0 127 fun m => { m with active := true, oneShot := true }, 0, 127, by decide +kernel⟩,
    ⟨onBus fun c => { c with mode := 2 }, 0, by decide⟩, ⟨onBus fun c => { c with tec := 248 }, 0, by decide⟩,
    ⟨onBus fun c => { c with tec := 247, bus := .passive }, 0, by decide⟩, ⟨onBus fun c => { c with rec_ := 127 }, 0, by decide⟩,
    ⟨onBus fun c => { c with tec := 119, rec_ := 127 }, 0, by decide⟩,
    ⟨onBus fun c => { c with bus := .integrating, announce := true }, 0, by decide⟩,
    ⟨(onBus fun c => { c with bus := .busOff }).setVal 0x1800 8 0 1, 0, by decide⟩,
    ⟨onBus fun c => { c with bus := .busOff, recovering := true }, 0, by decide⟩,
    ⟨onBus fun c => { c with bus := .busOff, recovering := true, modeNext := some 1 }, 0, 1, by decide +kernel⟩⟩

/-- Object 5 of CAN-A configured to receive, and filter element 1 naming it for every base identifier. -/
def receiving (f : MsgObj → MsgObj) : State :=
  (((onBus id).setVal 0x1810 6 0 0x8000000000000123).setVal 0x1840 1 0 0xC0000005).modMo 0 5 f

def aFrame : CanFrame := ⟨0x123, false, true, false, false, false, 1, [0x55#8]⟩

/-- The safe message of stream 1 as a CAN FD frame, and one in the port distributor. -/
def safeFrame : CanFrame := ⟨0, false, true, false, false, false, 10, safeBytes⟩

def safeEntry : RxFrame := ⟨⟨4, .a, .traverse, 0, 0, true, false, true⟩, u32 0 ++ safeBytes, false⟩

theorem test_met_CanFrames :
    (∃ (s : State) (k : Fin 3), s.cans[k].onBus = true ∧ s.cans[k].bus = .active ∧ s.cans[k].rxQ.length = 32) ∧
    (∃ (s : State) (k : Fin 3) (x : CanRx) (rest : List CanRx), s.cans[k].onBus = true ∧ s.cans[k].bus = .active ∧ s.cans[k].rxQ = x :: rest ∧
      rest.length = 30 ∧ s.safeWaits k x = true) ∧
    (∃ (s : State) (k : Fin 3) (f : CanFrame), s.cans[k].onBus = true ∧ s.cans[k].bus = .active ∧ s.cans[k].rxQ = [] ∧ f.ext = false ∧
      s.safeWants k f = true ∧ s.safeWaits k ⟨f, s.sysTicks - 0, false⟩ = false) ∧
    (∃ (s : State) (k : Fin 3) (f : CanFrame) (n o : Nat), s.cans[k].onBus = true ∧ s.cans[k].bus = .active ∧ s.cans[k].rxQ = [] ∧
      s.safeWaits k ⟨f, s.sysTicks - 100, false⟩ = false ∧ f.ext = false ∧ f.remote = false ∧
      ((List.range 256).find? fun n => s.filterHits k (n + 1) f) = some n ∧ (s.val (0x1840 + k.val) (n + 1)).testBit 28 = false ∧
      o = bits (s.val (0x1840 + k.val) (n + 1)) 6 0 ∧ moValid (s.moCfg k o) = true ∧ moSend (s.moCfg k o) = false ∧ (s.mo k o).nd = false) ∧
    (∃ (s : State) (k : Fin 3) (f : CanFrame) (n o : Nat), s.cans[k].onBus = true ∧ s.cans[k].bus = .active ∧ s.cans[k].rxQ = [] ∧
      s.safeWaits k ⟨f, s.sysTicks - 100, false⟩ = false ∧ f.ext = false ∧ f.remote = false ∧
      ((List.range 256).find? fun n => s.filterHits k (n + 1) f) = some n ∧ (s.val (0x1840 + k.val) (n + 1)).testBit 28 = false ∧
      o = bits (s.val (0x1840 + k.val) (n + 1)) 6 0 ∧ moValid (s.moCfg k o) = true ∧ moSend (s.moCfg k o) = false ∧ (s.mo k o).nd = true) :=
  ⟨⟨onBus fun c => { c with rxQ := List.replicate 32 ⟨aFrame, 0, false⟩ }, 0, by decide⟩,
    ⟨(streaming id).modCan 0 (fun c => { c with rxQ := List.replicate 31 ⟨safeFrame, 0, false⟩ }) |>.modTrav fun v => { v with portQ := [safeEntry] },
      0, ⟨safeFrame, 0, false⟩, List.replicate 30 ⟨safeFrame, 0, false⟩, by decide +kernel⟩,
    ⟨streaming id, 0, safeFrame, by decide +kernel⟩,
    ⟨receiving id, 0, aFrame, 0, 5, by decide +kernel⟩, ⟨receiving fun m => { m with nd := true }, 0, aFrame, 0, 5, by decide +kernel⟩⟩

/-- CAN-A in time-triggered mode with one exclusive slot, number 0, at mark 10, of send object 5; synchronised an hour ago. -/
def timetabled (role : Nat) (f : Can → Can) : State :=
  (((onBus fun c => f { c with mode := 1, sync := true, refAt := sec 1 }).setVal 0x1800 0x12 0 role).setVal 0x1800 0x15 0 (10 * 2 ^ 18 + 5 * 2 ^ 9)).setVal
    0x1810 6 0 0xE000000000000123

theorem test_met_Timetable :
    (∃ (s : State) (k : Fin 3) (id : Nat), s.ttRuns k = true ∧ id / 8 = s.refId k / 8 ∧ s.cans[k].modeNext = none ∧
      s.val (canObj k) 0x0012 ≠ 1) ∧
    (∃ (s : State) (k : Fin 3) (id : Nat), s.ttRuns k = true ∧ id / 8 = s.refId k / 8 ∧ s.cans[k].modeNext = none ∧
      s.val (canObj k) 0x0012 = 1) ∧
    (∃ (s : State) (k : Fin 3), s.ttRuns k = true ∧ s.canSends k = true ∧ s.val (canObj k) 0x0012 = 1 ∧ s.cans[k].backup = false ∧
      s.onWire k = none ∧ s.cans[k].refOut = none ∧ s.cans[k].master = false) ∧
    (∃ (s : State) (k : Fin 3) (c : Nat), s.ttRuns k = true ∧ s.canSends k = true ∧ s.val (canObj k) 0x0012 = 1 ∧ s.onWire k = none ∧
      s.cans[k].refOut = some c) ∧
    (∃ (s : State) (k : Fin 3), s.ttRuns k = true ∧ s.canSends k = true ∧ s.cans[k].backup = true ∧ s.cans[k].refOut = none ∧ s.onWire k = none ∧
      s.cans[k].refAt + s.bitTimes k (s.ttLen k + (s.refId k % 8 + 1) * 64) ≤ s.now) ∧
    (∃ (s : State) (k : Fin 3), s.ttRuns k = true ∧ s.val (canObj k) 0x0012 = 0 ∧ s.cans[k].sync = true ∧
      s.cans[k].refAt + s.bitTimes k (s.ttLen k + 512) ≤ s.now) ∧
    (∃ (s : State) (k : Fin 3) (mark j w : Nat), s.ttRuns k = true ∧ s.cans[k].sync = true ∧ s.cans[k].mark < mark ∧
      s.cans[k].refAt + s.bitTimes k mark ≤ s.now ∧ s.now ≤ s.cans[k].refAt + s.bitTimes k (mark + s.ttWin k) ∧
      ((s.usedSlots k).filter fun p => slotMark p.2 = mark && slotActs p.2 s.cans[k].cycle) = [(j, w)] ∧ slotSends w = true ∧
      s.canSends k = true ∧ s.onWire k = none ∧ moValid (s.moCfg k (slotObj w)) = true ∧ moSend (s.moCfg k (slotObj w)) = true ∧
      (s.mo k (slotObj w)).clashOff = false) :=
  ⟨⟨timetabled 0 id, 0, 23, by decide⟩, ⟨timetabled 1 id, 0, 16, by decide⟩, ⟨timetabled 1 id, 0, by decide +kernel⟩,
    ⟨timetabled 1 fun c => { c with refOut := some 63 }, 0, 63, by decide +kernel⟩,
    ⟨timetabled 1 fun c => { c with backup := true }, 0, by decide +kernel⟩, ⟨timetabled 0 id, 0, by decide⟩,
    ⟨timetabled 0 fun c => { c with refAt := sec 3600 - us 20 }, 0, 10, 0, 10 * 2 ^ 18 + 5 * 2 ^ 9, by decide +kernel⟩⟩

/-- `live` with the service port in the partner table and a history set stored. -/
def partnered (f : Partner → Partner) : State :=
  { live with
    dict := { Dict.reset with partners := upd Dict.reset.partners 0 fun p => f { p with iface := 5, addr := 0, present := true, histSelect := 257 } }
    store := { Store.reset with sets := [(0, ⟨1, 0, 0, 0, 0, 0, 0, []⟩)] } }

/-- A transfer open, with CAN-A on its bus. -/
def transferring (t : Transfer) : State := (onBus id).modDict fun d => { d with transfers := [t] }

def aRead : Transfer := ⟨svc, false, 0x1000, 1, 5000, 4096, List.replicate 5000 0x00#8, sec 3600⟩
def aWrite : Transfer := ⟨svc, true, strObj 0, 0x0061, 64, 10, List.replicate 10 0x00#8, sec 3600⟩

/-- CAN-A's partner of node 1. -/
def canA : Src := ⟨0, 1⟩

/-- A message of the service port, framed; the state that serves it. -/
def framed (op index sub total offset : Nat) (data : List Byte) : List Byte :=
  serviceFrame (WireMessage.bytes ⟨op, 0x1234, index, sub, total, offset, data⟩)

def served (s : State) (raw : List Byte) : State := (s.receiveWire svc raw).1.setTag svc 0x1234

theorem brings_of {s : State} {raw : List Byte} {is : WireMessage → Bool}
    (h : (match (s.receiveWire svc raw).2 with | [m] => is m && m.tag == 0x1234 | _ => false) = true) :
    s.brings svc raw is (served s raw) := by
  match e : (s.receiveWire svc raw).2, h with
  | [m], h =>
    simp only [Bool.and_eq_true, beq_iff_eq] at h
    refine .inr ⟨rfl, (s.receiveWire svc raw).1, m, Prod.ext rfl e, h.1, ?_⟩
    rw [h.2]
    rfl

theorem test_met_Reads :
    (∃ (s : State) (src : Src) (index sub : Nat) (raw : List Byte) (v : State) (c : State × List Byte), s.holding = false ∧
      s.brings src raw (fun m => m.op = 0x01 && m.index = index && m.sub = sub && m.offset = 0) v ∧
      v.service src false index sub [] = .serve ∧
      (v.newRequest src).readCopy src index sub = .ok c ∧ c.2.length ≤ chunkSize src.iface c.2.length) ∧
    (∃ (s : State) (src : Src) (index sub offset : Nat) (raw : List Byte) (v : State) (tr : Transfer), s.holding = false ∧ offset ≠ 0 ∧
      s.brings src raw (fun m => m.op = 0x01 && m.index = index && m.sub = sub && m.offset = offset) v ∧
      v.service src false index sub [] = .serve ∧ v.transferOf src = some tr ∧ tr.write = false ∧ tr.index = index ∧ tr.sub = sub ∧ tr.next = offset) ∧
    (∃ (s : State) (src : Src) (k : Fin 64) (c : State × List Byte), s.holding = false ∧ s.service src false 0x1C00 8 [] = .serve ∧
      (s.newRequest src).partnerAt src = some k ∧ c = (s.newRequest src).readWindow k) ∧
    (∃ (s : State) (src : Src) (k : Fin 64) (x : HistSet × Fin 40), s.holding = false ∧ s.service src false 0x1C01 0xB [] = .serve ∧
      (s.newRequest src).partnerAt src = some k ∧ s.selectedSet (s.newRequest src).dict.partners[k].histSelect = some x) :=
  ⟨⟨onBus id, canA, 0x2000, 1, [], _, _, by decide, .inl ⟨rfl, rfl⟩, by decide, rfl, by decide⟩,
    ⟨transferring { aRead with src := canA }, canA, 0x1000, 1, 4096, [], _, { aRead with src := canA }, by decide, by decide, .inl ⟨rfl, rfl⟩,
      by decide, rfl, rfl, rfl, rfl, rfl⟩,
    ⟨partnered id, svc, 0, _, by decide, by decide, by decide, rfl⟩,
    ⟨partnered id, svc, 0, _, by decide, by decide, by decide, rfl⟩⟩

/-- `live` with an image of 100 bytes half written. -/
def loading : State := live.modSeng fun g => { g with fw := some ⟨svc, 100, List.replicate 50 0x00#8, sec 3600⟩ }

theorem test_met_Writes :
    (∃ (s : State) (src : Src), s.admits src blockObj 0x0061 [0x01#8] ∧ s.admits src blockObj 0x0067 (u16 3600)) ∧
    (∃ (s : State) (src : Src) (data : List Byte), s.admits src blockObj 0x0043 data) ∧
    (∃ (s : State) (src : Src) (index sub total : Nat) (data raw : List Byte) (v : State), s.holding = false ∧
      s.brings src raw (fun m => m.op = 0x02 && m.index = index && m.sub = sub && m.total = total && m.offset = 0 && m.data = data) v ∧
      v.service src true index sub data = .serve ∧
      v.repeats src index sub total 0 data = false ∧ ¬ (index = 0x1E00 ∧ sub = 0x0031) ∧ data.length < total) ∧
    (∃ (s : State) (src : Src) (index sub total offset : Nat) (data raw : List Byte) (v : State) (tr : Transfer), s.holding = false ∧
      s.brings src raw (fun m => m.op = 0x02 && m.index = index && m.sub = sub && m.total = total && m.offset = offset && m.data = data) v ∧
      v.service src true index sub data = .serve ∧ v.repeats src index sub total offset data = false ∧ ¬ (index = 0x1E00 ∧ sub = 0x0031) ∧
      offset ≠ 0 ∧ v.transferOf src = some tr ∧ tr.write = true ∧ tr.index = index ∧ tr.sub = sub ∧ tr.total = total ∧ tr.next = offset ∧
      (tr.data ++ data).length < total) ∧
    (∃ (s : State) (src : Src) (total offset : Nat) (data : List Byte) (f : FwSession) (written : List Byte), s.holding = false ∧
      s.service src true 0x1E00 0x31 data = .serve ∧ s.repeats src 0x1E00 0x31 total offset data = false ∧ s.seng.fw = some f ∧ f.src = src ∧
      total = f.length ∧ offset = 0 ∧ written = (if offset = 0 then [] else f.written) ++ data ∧ written.length < total) ∧
    (∃ (s : State) (src : Src) (v : Nat), s.admits src 0x1C01 6 (u8 v) ∧ s.health.stoppedParts.testBit 4 = false) ∧
    (∃ (s : State) (src : Src) (v : Nat), s.admits src 0x1C01 6 (u8 v) ∧ s.health.stoppedParts.testBit 4 = true) ∧
    (∃ (s : State) (src : Src) (v : Nat), v < 2 ^ 64 ∧ s.admits src 0x1E00 0x29 (u64 v) ∧ v ≠ s.serial) ∧
    (∃ (s : State) (src : Src) (v : Nat), v < 2 ^ 64 ∧ s.admits src 0x1E00 0x29 (u64 v) ∧ v = s.serial ∧ src.iface = 5 ∧ s.supply.prov = true) :=
  ⟨⟨live, svc, admits_of (by decide), admits_of (by decide)⟩, ⟨live, svc, u16 7, admits_of (by decide)⟩,
    ⟨live, svc, strObj 0, 0x61, 64, List.replicate 63 0x00#8, framed 2 (strObj 0) 0x61 64 0 (List.replicate 63 0x00#8), _, by decide,
      brings_of (by decide +kernel), by decide +kernel⟩,
    ⟨transferring { aWrite with src := canA }, canA, strObj 0, 0x61, 64, 10, List.replicate 53 0x00#8, [], _, { aWrite with src := canA }, by decide,
      .inl ⟨rfl, rfl⟩, by decide +kernel⟩,
    ⟨loading, svc, 100, 0, List.replicate 99 0x00#8, ⟨svc, 100, List.replicate 50 0x00#8, sec 3600⟩, List.replicate 99 0x00#8, by decide⟩,
    ⟨live, svc, 1, admits_of (by decide), by decide⟩,
    ⟨{ live with health := { Health.reset with stoppedParts := 16 } }, svc, 1, admits_of (by decide), by decide⟩,
    ⟨live, svc, 1, by decide, admits_of (by decide), by decide⟩,
    ⟨{ live with supply := { live.supply with prov := true } }, svc, 0, by decide, admits_of (by decide), by decide⟩⟩

theorem test_met_Partners :
    (∃ (s : State) (src : Src) (tr : Transfer), s.transferOf src = some tr ∧ s.serves = true ∧ tr.at_ + sec 1 ≤ s.now) ∧
    (∃ (s : State) (src : Src) (state period : Nat) (k : Fin 64) (raw : List Byte) (v : State), s.holding = false ∧
      s.brings src raw (fun m => m.op = 0x05 && m.data = u8 state ++ u16 period) v ∧
      v.service src false 0 0 [] = .serve ∧ s.partnerAt src = some k ∧ period = 50) ∧
    (∃ (s : State) (src : Src) (k : Fin 64), s.partnerAt src = some k ∧ s.fwActs = true ∧ s.dict.partners[k].period ≠ 0 ∧
      3 * ms s.dict.partners[k].period = s.now - s.dict.partners[k].lastHb) ∧
    (∃ (s : State) (src : Src) (k : Fin 64), s.partnerAt src = some k ∧ s.fwActs = true ∧ s.dict.partners[k].period ≠ 0 ∧
      s.dict.partners[k].hbState = 1 ∧ 3 * ms s.dict.partners[k].period = 2 * (s.now - s.dict.partners[k].lastHb) ∧
      s.now - s.dict.partners[k].lastHb < 3 * ms s.dict.partners[k].period) ∧
    (∃ (s : State) (src : Src) (k : Fin 64), s.partnerAt src = some k ∧ s.fwActs = true ∧ s.dict.partners[k].period = 0 ∧
      s.dict.partners[k].lastMsg + sec (s.val 0x1E01 0x0042) ≤ s.now) ∧
    (∃ s : State, s.fwActs = true ∧ s.val 0x1E01 0x0041 ≠ 0 ∧ s.mode.block ≠ .baseCamp ∧ s.dict.hbAt + ms (s.val 0x1E01 0x0041) ≤ s.now) :=
  ⟨⟨transferring { aWrite with at_ := sec 3599 }, svc, { aWrite with at_ := sec 3599 }, by decide⟩, ⟨partnered id, svc, 1, 50, 0, framed 5 0 0 3 0 [0x01#8, 0x00#8, 0x32#8], _, by decide, brings_of (by decide +kernel), by decide +kernel⟩,
    ⟨partnered fun p => { p with period := 1000, lastHb := sec 3597 }, svc, 0, by decide⟩,
    ⟨partnered fun p => { p with period := 1000, hbState := 1, lastHb := sec 3600 - ms 1500 }, svc, 0, by decide⟩,
    ⟨partnered id, svc, 0, by decide⟩, ⟨live, by decide⟩⟩

def overvoltage : SealedReq := head.one 0x2401 2 (u16 4200)
def outputConfig : SealedReq := head.one blockObj 0x016B (u8 20)

theorem test_met_SealedItems :
    (∃ (s : State) (h : SealHead) (k : Fin 8), k.val = h.slot ∧ s.admitsSealed (h.one blockObj 0x0061 (u8 0)) ∧
      s.admitsSealed (h.one blockObj 0x0061 (u8 1))) ∧
    (∃ (s : State) (r : SealedReq) (u : State), s.admitsSealed r ∧ isPlainRequest r = true ∧
      applyItems r r.items.zipIdx (s.verified r) = .ok u ∧ ∀ i ∈ r.items, ¬ (i.index = ethObj ∧ i.sub = 1)) ∧
    (∃ (s : State) (h : SealHead) (index sub : Nat) (data : List Byte) (e : EntryRow), entryOf index sub = some e ∧ e.kind = .num ∧ e.count = 1 ∧
      isFwRws ⟨index, sub, data⟩ = true ∧ s.rwsRangeOk ⟨index, sub, data⟩ = true ∧ s.rwsStateOk ⟨index, sub, data⟩ = true ∧
      s.admitsSealed (h.one index sub data)) ∧
    (∃ (s : State) (r : SealedReq), s.admitsSealed r ∧ r.items ≠ [] ∧
      ∀ i ∈ r.items, isEnvelope i.index i.sub = true ∧ s.itemCheck i = none ∧ s.envStateOk i = true) ∧
    (∃ (s : State) (r : SealedReq), s.admitsSealed r ∧ r.items ≠ [] ∧
      ∀ i ∈ r.items, isSafetyIo i.index i.sub = true ∧ s.itemCheck i = none ∧ s.belayItemCheck r i = none) ∧
    (∃ (s : State) (r : SealedReq) (e : Abort × SealItem × Nat), s.admitsSealed r ∧ isPlainRequest r = true ∧
      applyItems r r.items.zipIdx (s.verified r) = .error e) ∧
    (∃ (s : State) (r : SealedReq) (u : State), s.admitsSealed r ∧ (r.items.any fun i => isEnvelope i.index i.sub) = true ∧
      applyItems r r.items.zipIdx (s.verified r) = .ok u) ∧
    (∃ (s : State) (r : SealedReq) (u : State), s.admitsSealed r ∧ (r.items.any fun i => isSafetyIo i.index i.sub) = true ∧
      applyItems r r.items.zipIdx (s.verified r) = .ok u) :=
  ⟨⟨trusting, head, 0, by decide, admitsSealed_of (by decide +kernel), admitsSealed_of (by decide +kernel)⟩,
    ⟨trusting, head.one blockObj 0x0061 (u8 1), _, admitsSealed_of (by decide +kernel), by decide, rfl, by decide⟩,
    ⟨trusting, head, blockObj, 0x0053, u16 500, _, rfl, by decide, by decide, by decide, by decide, by decide, admitsSealed_of (by decide +kernel)⟩,
    ⟨trusting, overvoltage, admitsSealed_of (by decide +kernel), by decide, by decide⟩,
    ⟨trusting, outputConfig, admitsSealed_of (by decide +kernel), by decide, by decide⟩,
    ⟨trusting, head.one blockObj 0x0061 (u8 2), (.range, ⟨blockObj, 0x0061, u8 2⟩, 0), admitsSealed_of (by decide +kernel), by decide, rfl⟩,
    ⟨trusting, overvoltage, _, admitsSealed_of (by decide +kernel), by decide, rfl⟩,
    ⟨trusting, outputConfig, _, admitsSealed_of (by decide +kernel), by decide, rfl⟩⟩

/-- The signature of `aKey` on the request that provisions slot 0 with it, made outside the model by RFC 8032's steps. -/
def aSignature : List Byte := beBytes 64
  0x27824a1b78b7d4a3158a09e4d770b37503b09e0b093125abefba36c4f16d0efe68e7ce25b01e53daffc7de1808c802a11f125c7f6aa1917af6d2d82d3c9cb700

theorem test_met_TrustList :
    (∃ (s : State) (h : SealHead) (k : Fin 8) (key : List Byte), key.length = 32 ∧ (∃ b ∈ key, b ≠ 0x00#8) ∧ keyGood key = true ∧ s.trustEmpty = false ∧
      s.admitsSealed (h.one 0x1E00 (0x10 + k.val) key)) ∧
    (∃ (s : State) (h : SealHead) (k : Fin 8) (key : List Byte), h.slot = k.val ∧ key.length = 32 ∧ (∃ b ∈ key, b ≠ 0x00#8) ∧ keyGood key = true ∧ 1 ≤ h.counter ∧
      s.admitsProvisioning (h.one 0x1E00 (0x10 + k.val) key)) ∧
    (∃ s : State, s.seng.storePending ≠ 0) ∧
    (∃ (s : State) (t0 : Nat), s.seng.eraseArmed = some t0 ∧ s.fwActs = true ∧ s.supply.prov = true ∧ t0 + sec 300 ≤ s.now ∧
      (∀ b : Fin 4, s.banks[b].state = .dark) ∧ s.powerPathOn = false ∧ s.mode.block = .standby) :=
  ⟨⟨trusting, head, 7, aKey, by decide, by decide +kernel, by decide +kernel, by decide, admitsSealed_of (by decide +kernel)⟩,
    ⟨{ live with supply := { live.supply with prov := true } }, { head with sig := aSignature }, 0, aKey, by decide, by decide,
      by decide +kernel, by decide +kernel, by decide,
      ⟨by decide, rfl, by decide, by decide +kernel, by decide +kernel, by decide +kernel, by decide +kernel, by decide, by decide, by decide +kernel, by decide⟩⟩,
    ⟨live.modSeng fun g => { g with storePending := 1 }, by decide⟩,
    ⟨{ live with supply := { live.supply with prov := true }, seng := { Seal.reset with eraseArmed := some (sec 3300) } }, sec 3300, by decide⟩⟩

/-- The example message of FIPS 180-4 and its digest. -/
def abc : List Byte := [0x61#8, 0x62#8, 0x63#8]

def abcDigest : List Byte := beBytes 64
  0xddaf35a193617abacc417349ae20413112e6fa4e89a97ea20a9eeee64b55d39a2192992a274fc1a836ba3c23a3feebbd454d4423643ce80e2a9ac94fa54ca49f

theorem test_met_FirmwareTransfer :
    (∃ (s : State) (h : SealHead), s.admitsSealed (h.one 0x1E00 0x30 (u32 1)) ∧ s.admitsSealed (h.one 0x1E00 0x30 (u32 16777216))) ∧
    (∃ (s : State) (h : SealHead) (digest : List Byte) (f : FwSession), digest.length = 64 ∧ s.seng.fw = some f ∧
      s.admitsSealed (h.one 0x1E00 0x32 digest) ∧ f.written.length = f.length ∧ sha512 f.written = digest) ∧
    (∃ (s : State) (h : SealHead) (digest : List Byte) (f : FwSession), digest.length = 64 ∧ s.seng.fw = some f ∧
      s.admitsSealed (h.one 0x1E00 0x32 digest) ∧ f.written.length = f.length ∧ sha512 f.written ≠ digest) ∧
    (∃ (s : State) (f : FwSession), s.seng.fw = some f ∧ s.serves = true ∧ f.at_ + sec 60 ≤ s.now) :=
  ⟨⟨trusting, head, admitsSealed_of (by decide +kernel), admitsSealed_of (by decide +kernel)⟩,
    ⟨trusting.modSeng fun g => { g with fw := some ⟨svc, 3, abc, 0⟩ }, head, abcDigest, ⟨svc, 3, abc, 0⟩, by decide, by decide,
      admitsSealed_of (by decide +kernel), by decide, by decide +kernel⟩,
    ⟨trusting.modSeng fun g => { g with fw := some ⟨svc, 3, abc, 0⟩ }, head, List.replicate 64 0x00#8, ⟨svc, 3, abc, 0⟩, by decide, by decide,
      admitsSealed_of (by decide +kernel), by decide, by decide +kernel⟩,
    ⟨live.modSeng fun g => { g with fw := some ⟨svc, 1, [], sec 3540⟩ }, ⟨svc, 1, [], sec 3540⟩, by decide⟩⟩

/-- `live` with the bucket of an event code as given. -/
def bucketed (code credit count : Nat) : State := live.setBucket code ⟨credit, sec 3600, count, 0, 0, 0, 0, 0⟩

theorem test_met_Recorder :
    (∃ (s : State) (code : Nat), codeDefined code = true ∧ writeCodes.contains code = false ∧ code ≠ 0xC020 ∧ code ≠ 0xC021 ∧ s.start.fw ≠ .down ∧
      token ≤ (s.bucket code).credit ∧ (s.bucket code).count = 0 ∧ s.evlog.staged.length < 511 ∧ s.evlog.tickAt ≠ s.sysTicks) ∧
    (∃ (s : State) (code : Nat), codeDefined code = true ∧ writeCodes.contains code = false ∧ code ≠ 0xC020 ∧ code ≠ 0xC021 ∧ s.start.fw ≠ .down ∧
      (s.bucket code).credit + 1 = token) ∧
    (∃ s : State, s.fwActs = true ∧ s.start.startRecords = false ∧ s.evlog.flushAt + sec 1 ≤ s.now ∧ s.evlog.stopped = false) ∧
    (∃ (s : State) (code : Nat), (s.bucket code).count ≠ 0 ∧ (s.bucket code).credit = token ∧ s.evlog.staged.length < 511 ∧ s.evlog.tickAt ≠ s.sysTicks) ∧
    (∃ (s : State) (h : SealHead), s.admitsSealed (h.one 0x1C00 9 (u8 1))) ∧
    (∃ (s : State) (src : Src) (code v : Nat), s.admits src 0x1C00 code (u32 v) ∧ bits v 27 20 ≠ 0 ∧ bits v 13 0 ≠ 0 ∧ bits v 13 0 = 10000) :=
  ⟨⟨live, 0xE001, by decide⟩, ⟨bucketed 0xE001 (token - 1) 0, 0xE001, by decide⟩, ⟨live, by decide⟩, ⟨bucketed 0xE001 token 1, 0xE001, by decide⟩,
    ⟨trusting, head, admitsSealed_of (by decide +kernel)⟩, ⟨live, svc, 0xE001, 0x00102710, admits_of (by decide), by decide⟩⟩

/-- `live` with the first window counter classes' counts set to `n` in an hour. -/
def windowed (k n : Nat) : State := live.setVal 0x1D00 0x10 k (n * 0x1000000 + 3600)

theorem test_met_FaultCounting :
    (∃ s : State, s.start.fw ≠ .down ∧ s.health.scrubAt + sec (s.val 0x1D00 5) ≤ s.now) ∧
    (∃ (s : State) (cls : Fin 14) (item : Nat) (k : Fin 16), k.val = cls.val ∧ s.start.fw ≠ .down ∧
      (s.inWindow k.val item).length + 1 < s.fcN k.val) ∧
    (∃ (s : State) (cls : Fin 14) (k : Fin 16), k.val = cls.val ∧ s.start.fw ≠ .down ∧ s.fcN k.val = 0) ∧
    (∃ (s : State) (cls : Fin 14) (item : Nat) (k : Fin 16), k.val = cls.val ∧ s.start.fw ≠ .down ∧ s.fcN k.val ≠ 0 ∧ s.fcN k.val ≤ 16 ∧
      s.fcN k.val = (s.inWindow k.val item).length + 1 ∧ cls = 1 ∧ 1 ≤ item ∧ item = 80) ∧
    (∃ (s : State) (cls : Fin 14) (item : Nat) (k : Fin 16), k.val = cls.val ∧ s.start.fw ≠ .down ∧ s.fcN k.val ≠ 0 ∧ s.fcN k.val ≤ 16 ∧
      s.fcN k.val ≤ (s.inWindow k.val item).length + 1 ∧ cls = 4) ∧
    (∃ s : State, s.belay.released = true ∧ s.health.sysStopped = false ∧ s.start.thermalHold = false ∧ s.health.oscSpare = false ∧
      s.health.oscAt + ms 1 ≤ s.now) ∧
    (∃ s : State, s.belay.released = true ∧ s.health.sysStopped = false ∧ s.start.thermalHold = false ∧ s.health.oscSpare = true) ∧
    (∃ (s : State) (src : Src), s.admits src 0x1D00 7 (u8 1) ∧ s.admits src 0x1D00 7 (u8 80) ∧ s.mode.block = .service ∧
      s.strs[Fin.ofNat 40 0].state = .excluded ∧ s.strs[Fin.ofNat 40 79].state = .excluded) ∧
    (∃ (s : State) (h : SealHead), s.admitsSealed (h.one 0x1D00 6 (u8 1))) ∧
    (∃ (s : State) (k : Fin 6), s.belay.released = true ∧ s.therm.compFailed.testBit k.val = false) :=
  ⟨⟨live, by decide⟩, ⟨windowed 1 2, 1, 80, 1, by decide⟩, ⟨windowed 13 0, 13, 13, by decide⟩, ⟨windowed 1 1, 1, 80, 1, by decide⟩,
    ⟨windowed 4 1, 4, 0, 4, by decide⟩, ⟨live, by decide⟩, ⟨{ live with health := { Health.reset with oscSpare := true } }, by decide⟩,
    ⟨live' .service, svc, admits_of (by decide), admits_of (by decide), by decide⟩, ⟨trusting, head, admitsSealed_of (by decide +kernel)⟩,
    ⟨live, 5, by decide⟩⟩

/-- `live` in a core swap. -/
def swapping (f : Cores → Cores) : State := { live with cores := f { Cores.reset with swapping := true } }

theorem test_met_CorePair :
    (∃ s : State, s.start.fw ≠ .down ∧ s.cores.swapping = false ∧ s.paired = true) ∧
    (∃ (s : State) (a b c : Fin 3), s.members = [a, b] ∧ s.cores.swapping = true ∧ s.cores.formed = none ∧ s.start.fw ≠ .down ∧ s.cores.lasting = false ∧
      s.spareCore = some c) ∧
    (∃ s : State, s.cores.swapping = true ∧ s.resumeDue = true ∧ s.start.fw ≠ .down ∧ s.seng.forwarded = []) ∧
    (∃ s : State, s.cores.role[2] = .standby ∧ s.cores.swapping = false ∧ s.mode.block ≠ .baseCamp ∧ s.start.fw ≠ .down ∧
      s.cores.spareAt + sec 60 ≤ s.now) :=
  ⟨⟨live, by decide⟩, ⟨swapping id, 0, 1, 2, by decide⟩,
    ⟨swapping fun c => { c with formed := some (sec 3600 - ms 1), mismatchAt := sec 3600 - ms 28 }, by decide⟩, ⟨live, by decide⟩⟩

theorem test_met_DeviceTemperature :
    (∃ s : State, s.thermRuns = true ∧ s.therm.roundAt + ms 100 ≤ s.now) ∧
    (∃ (s : State) (a : Nat), s.thermRuns = true ∧ s.therm.base ≠ 0 ∧ s.therm.floor < s.therm.base ∧ s.therm.belowSince = some a ∧
      a + sec 10 ≤ s.now ∧ s.therm.riseAt = none) ∧
    (∃ (s : State) (src : Src) (v : Nat), s.admits src 0x1B00 5 (u8 v)) :=
  ⟨⟨live, by decide⟩, ⟨{ live with therm := { Thermal.reset with base := 1, belowSince := some (sec 3590) } }, sec 3590, by decide⟩,
    ⟨live, svc, 2, admits_of (by decide)⟩⟩

theorem test_met_BlockStates :
    (∃ (s : State) (src : Src), s.admits src blockObj 2 (u8 2) ∧ s.mode.block = .run) ∧
    (∃ (s : State) (src : Src), s.admits src blockObj 2 (u8 2) ∧ s.mode.block = .service) ∧
    (∃ (s : State) (src : Src), s.admits src blockObj 2 (u8 3) ∧ s.mode.block = .standby ∧ s.supply.pfw = false) ∧
    (∃ (s : State) (src : Src), s.admits src blockObj 2 (u8 5) ∧ s.mode.block = .standby ∧ (∀ b : Fin 4, s.banks[b].state = .dark) ∧
      s.powerPathOn = false) :=
  ⟨⟨live' .run, svc, admits_of (by decide), by decide⟩, ⟨live' .service, svc, admits_of (by decide), by decide⟩,
    ⟨live, svc, admits_of (by decide), by decide⟩, ⟨live, svc, admits_of (by decide), by decide⟩⟩

/-- What `BlockStates` says of the requests below the block states has its witnesses at `OpenAndClear`. -/
theorem test_met_BlockStates_below : ∃ (s : State) (src : Src) (i : Fin 40), s.admits src (strObj i) 0x0009 [0x01#8] ∧ s.strs[i].installed = true ∧
    s.strs[i].state = .isolated :=
  ⟨live.modStr 39 fun c => { c with installed := true, state := .isolated }, svc, 39, admits_of (by decide), by decide⟩

/-- Both ports with addresses of one /24 each, written and in force, and their links up. -/
def networked : State :=
  { ((((live.setVal 0x1A01 2 0 0xC0A80002).setVal 0x1A01 3 0 0xFFFFFF00).setVal 0x1A02 2 0 0xC0A80102).setVal 0x1A02 3 0 0xFFFFFF00) with
    eths := Vector.replicate 2 { Eth.reset with up := true, fast := true, ip := 0xC0A80002 } }

/-- `networked` with the cell stream on and traverse 7 published. -/
def cellStreaming : State :=
  { ((networked.setVal 0x1A00 0x40 0 1).setVal 0x1A00 0x41 0 1) with
    trav := { Traverse.reset with published := some 7, period := 1000, effLast := 1000,
                                  bufs := upd Traverse.reset.bufs 7 fun b => { b with used := true, number := 7, published := true } } }

/-- Both ports in service in a core swap, a datagram of `n` bytes in each receive queue. -/
def crowded (n : Nat) : State := { swapping id with eths := Vector.replicate 2 { Eth.reset with up := true, rxQ := [(.udpOther, n)] } }

theorem test_met_EthernetPorts :
    (∃ (s : State) (src : Src) (v : Nat), s.admits src ethObj 1 (u8 v) ∧ s.ethApplyOk = true) ∧
    (∃ (s : State) (k : Fin 2), s.eths[k].up = true ∧ s.fwUp = true ∧ s.eths[k].ip ≠ 0) ∧
    (∃ (s : State) (k : Fin 2) (fast : Bool), s.start.fw ≠ .down ∧ s.mode.block = .baseCamp ∧ s.bal.exiting = true ∧ s.eths[k].up ≠ true ∧
      (s.val (portObj k) 5).testBit (if fast then 0 else 1) = true) ∧
    (∃ (s : State) (k : Fin 2) (fast : Bool), s.start.fw ≠ .down ∧ s.mode.block ≠ .baseCamp ∧ s.eths[k].up ≠ true ∧
      (s.val (portObj k) 5).testBit (if fast then 0 else 1) = true) ∧
    (∃ (s : State) (k : Fin 2), s.start.fw ≠ .down ∧ s.mode.block ≠ .baseCamp ∧ s.eths[k].up ≠ false) ∧
    (∃ (s : State) (k : Fin 2), s.eths[k].up = true ∧ s.cores.swapping = false) ∧
    (∃ (s : State) (k : Fin 2), s.eths[k].up = true ∧ s.cores.swapping = true ∧ ((s.eths[k].rxQ.map Prod.snd).foldl (· + ·) 0) + 64 = 16384) ∧
    (∃ (s : State) (k : Fin 2), s.eths[k].up = true ∧ s.cores.swapping = true ∧ ((s.eths[k].rxQ.map Prod.snd).foldl (· + ·) 0) + 64 = 16385) ∧
    (∃ (s : State) (n : Nat), s.trav.published = some n ∧ s.fwActs = true ∧ s.streamOn = true ∧ s.stream.suspended = false ∧ s.streamBlocked = false ∧
      n % s.val ethObj 0x0044 = 0 ∧ s.stream.last ≠ some n ∧ s.trav.bufs[Fin.ofNat 8 n].published = true ∧ s.trav.bufs[Fin.ofNat 8 n].number = n) :=
  ⟨⟨networked, svc, 1, admits_of (by decide +kernel), by decide +kernel⟩, ⟨networked, 1, by decide⟩,
    ⟨(live' .baseCamp).modBal fun b => { b with exiting := true }, 1, false, by decide⟩, ⟨live, 0, true, by decide⟩,
    ⟨networked, 0, by decide⟩, ⟨networked, 1, by decide⟩, ⟨crowded 16320, 0, by decide⟩, ⟨crowded 16321, 1, by decide⟩,
    ⟨cellStreaming, 7, by decide +kernel⟩⟩

theorem test_met_Calendar :
    (∃ s : State, s.fwActs = true ∧ s.timeOn = true ∧ s.clock.selectAt + sec 1 ≤ s.now ∧ s.clock.source = 2) ∧
    (∃ s : State, s.fwActs = true ∧ s.timeOn = true ∧ s.clock.selectAt + sec 1 ≤ s.now ∧ s.clock.source ≠ 2) ∧
    (∃ (s : State) (h : SealHead) (v : Nat), s.admitsSealed (h.one ethObj 0x15 (u64 v)) ∧ s.itemCheck ⟨ethObj, 0x15, u64 v⟩ = none ∧
      s.clock.source = 2 ∧ s.clock.next = none) ∧
    (∃ s : State, s.val ethObj 0x16 ≠ 0 ∧ s.clock.alarmed = false ∧ s.val ethObj 0x16 ≤ s.utc ∧ s.start.fw ≠ .down) ∧
    (∃ s : State, s.clock.source = 0 ∧ s.fwActs = true ∧ s.clock.leap = 1 ∧ s.utc % 86400000 = 86399999) ∧
    (∃ s : State, s.clock.source = 0 ∧ s.fwActs = true ∧ s.clock.leap = 2 ∧ s.utc % 86400000 = 86399000) :=
  ⟨⟨live, by decide⟩, ⟨{ live with clock := { Clock.reset with source := 1 } }, by decide⟩,
    ⟨trusting, head, 1800000000000, admitsSealed_of (by decide +kernel), by decide, by decide⟩, ⟨live.setVal 0x1A00 0x16 0 3600000, by decide⟩,
    ⟨{ live with clock := { Clock.reset with source := 0, leap := 1 }, utcBase := 86399999, utcAt := sec 3600 }, by decide⟩,
    ⟨{ live with clock := { Clock.reset with source := 0, leap := 2 }, utcBase := 86399000, utcAt := sec 3600 }, by decide⟩⟩

/-- `networked` with the PTP clock running on port 1 in a state. -/
def ptp (role st : Nat) : State :=
  { networked.setVal 0x1A00 0x20 0 role with clock := { Clock.reset with ptp := st, announceAt := some 0 } }

theorem test_met_PtpClock :
    (∃ s : State, s.ptpRuns = true ∧ s.clock.ptp = 8) ∧ (∃ s : State, s.ptpRuns = true ∧ s.clock.ptp = 9) ∧
    (∃ (s : State) (t0 : Nat), s.ptpRuns = true ∧ s.clock.announceAt = some t0 ∧ s.clock.ptp ≠ 6 ∧ t0 + 3 * s.ptpInterval 0 ≤ s.now ∧
      s.ptpRole = 2) ∧
    (∃ s : State, s.ptpRuns = true ∧ s.clock.ptp = 6) :=
  ⟨⟨ptp 1 8, by decide⟩, ⟨ptp 1 9, by decide⟩, ⟨ptp 2 4, 0, by decide +kernel⟩, ⟨ptp 2 6, by decide⟩⟩

theorem test_met_StepRunsFrontCommand : ∃ (s : State) (c : Instr) (rest : List Instr), s.pending = c :: rest :=
  ⟨{ live with pending := [.wakeInFall, .inputOvervoltage] }, .wakeInFall, [.inputOvervoltage], rfl⟩

/-- A write of `BAL_MODE` that waited for a sealed request. -/
def aWaiting : WaitingWrite := ⟨svc, blockObj, 0x60, u8 1, (0, u8 1), 0x1234⟩

theorem test_met_IdleStep :
    (∃ s : State, s.pending = [] ∧ s.cores.swapping = false ∧ s.heldReq ≠ []) ∧
    (∃ (s : State) (w : WaitingWrite) (rest : List WaitingWrite), s.pending = [] ∧ s.heldReq = [] ∧ s.fwActs = true ∧ s.waitingWrites = w :: rest ∧
      s.sealHolds w.index w.sub = false) ∧
    (∃ s : State, s.pending = [] ∧ s.heldReq = [] ∧ s.waitingWrites = []) :=
  ⟨⟨{ live with heldReq := [.requestStandby svc] }, by decide⟩, ⟨{ live with waitingWrites := [aWaiting] }, aWaiting, [], by decide⟩,
    ⟨live, by decide⟩⟩

theorem test_met_CommandsKeepOtherParts : ∃ (c : Instr) (s t : State) (p : Part), exec c s = .next t ∧ p ∉ mayChange c :=
  ⟨.wakeInFall, live, _, .gates, rfl, by decide⟩

theorem test_met_StepKeepsInvariant : ∃ s t : State, s.Inv ∧ step s = .next t :=
  ⟨{ live with pending := [.wakeInFall] }, _, ⟨rfl, rfl⟩, rfl⟩

theorem test_met_ConflictingAddress :
    (∃ (s : State) (k : Fin 2), s.eths[k].up = true ∧ s.fwUp = true ∧ s.eths[k].ip ≠ 0) ∧
    (∃ (s : State) (src : Src) (v : Nat), s.admits src ethObj 1 (u8 v) ∧ s.ethApplyOk = true) :=
  ⟨⟨networked, 0, by decide⟩, ⟨networked, svc, 1, admits_of (by decide +kernel), by decide +kernel⟩⟩

theorem test_met_TimingWaitsForMode :
    (∃ (s : State) (src : Src) (k : Fin 3), s.admits src (canObj k) 3 (u32 0x1E3E1E01) ∧ timingOk 0x1E3E1E01 (s.val (canObj k) 4) = true) ∧
    (∃ (s : State) (src : Src) (k : Fin 3) (m : Nat), s.admits src (canObj k) 1 (u8 m) ∧ m = 1 ∧ s.ttOk k = true ∧ s.cans[k].bus ≠ .busOff ∧
      s.onWire k = none) :=
  ⟨⟨live, svc, 1, admits_of (by decide +kernel), by decide +kernel⟩, ⟨live, svc, 2, 1, admits_of (by decide), by decide +kernel⟩⟩

theorem test_met_ReadsServedFromCopy :
    (∃ (s : State) (src : Src) (index sub : Nat) (raw : List Byte) (v : State) (c : State × List Byte), s.holding = false ∧
      s.brings src raw (fun m => m.op = 0x01 && m.index = index && m.sub = sub && m.offset = 0) v ∧ v.service src false index sub [] = .serve ∧
      (v.newRequest src).readCopy src index sub = .ok c ∧ chunkSize src.iface c.2.length < c.2.length) ∧
    (∃ (s : State) (src : Src) (index sub : Nat) (raw : List Byte) (v : State) (tr : Transfer), s.holding = false ∧
      s.brings src raw (fun m => m.op = 0x01 && m.index = index && m.sub = sub && m.offset = tr.next) v ∧
      v.service src false index sub [] = .serve ∧
      v.transferOf src = some tr ∧ tr.write = false ∧ tr.index = index ∧ tr.sub = sub ∧ tr.next ≠ 0) ∧
    (∃ (s : State) (src : Src) (index sub : Nat) (raw : List Byte) (v : State) (r : EntryRow), s.holding = false ∧
      s.brings src raw (fun m => m.op = 0x01 && m.index = index && m.sub = sub && m.offset = 0) v ∧
      v.service src false index sub [] = .serve ∧ entryOf index sub = some r ∧ r.access = .xs) :=
  ⟨⟨onBus id, canA, strObj 0, 0x61, [], _, _, by decide, .inl ⟨rfl, rfl⟩, by decide, rfl, by decide +kernel⟩,
    ⟨transferring { aRead with src := canA }, canA, 0x1000, 1, [], _, { aRead with src := canA }, by decide, .inl ⟨rfl, rfl⟩, by decide, rfl, rfl,
      rfl, rfl, by decide⟩,
    ⟨live, svc, blockObj, 0x0023, framed 1 blockObj 0x0023 0 0 [], _, _, by decide, brings_of (by decide +kernel), by decide +kernel, rfl,
      by decide⟩⟩

theorem test_met_LowerPortTakesSpare : ∃ (s : State) (p q : Fin 80), p.val / 10 = q.val / 10 ∧ p < q ∧ s.atBoundary = true ∧
    s.start.fw = .running ∧ (∀ n ∈ portGroup (p.val + 1), (s.portAt n).spare = false ∧ (s.portAt n).restoreDue = false) ∧
    (∀ n ∈ portGroup (p.val + 1), (s.portAt n).moveDue = (n == p.val + 1 || n == q.val + 1)) ∧ (s.portAt (q.val + 1)).strike = false :=
  ⟨(live.modPort 71 fun c => { c with moveDue := true }).modPort 80 fun c => { c with moveDue := true }, 70, 79, by decide⟩

theorem test_met_MaxSubOfObjects : ∃ index : Nat, rowsOf index ≠ [] ∧ index ≠ 0x1F00 := ⟨0x1000, by decide⟩

/-! ## Ill-formed commands are refused, their nearest well-formed neighbours are not -/

theorem test_wf_within : (Instr.holdupRecharged (2 ^ 32) true).wf = false ∧ (Instr.holdupRecharged (2 ^ 32 - 1) true).wf = true := by decide

theorem test_wf_srcOk : (Instr.requestStandby ⟨5, 1⟩).wf = false ∧ (Instr.requestStandby ⟨2, 2 ^ 32⟩).wf = false ∧
    (Instr.requestStandby ⟨0, 0⟩).wf = false ∧ (Instr.requestStandby ⟨0, 128⟩).wf = false ∧ (Instr.requestStandby ⟨0, 127⟩).wf = true ∧
    (Instr.requestStandby svc).wf = true := by decide

theorem test_wf_headOk : (Instr.fwOpen { head with magic := 256 } 1).wf = false ∧ (Instr.fwOpen { head with format := 256 } 1).wf = false ∧
    (Instr.fwOpen { head with slot := 256 } 1).wf = false ∧ (Instr.fwOpen { head with counter := 2 ^ 64 } 1).wf = false ∧
    (Instr.fwOpen { head with serial := 2 ^ 64 } 1).wf = false ∧
    (Instr.fwOpen { head with sig := List.replicate 63 0x00#8 } 1).wf = false ∧ (Instr.fwOpen head (2 ^ 32)).wf = false ∧ (Instr.fwOpen head 1).wf = true := by decide

theorem test_wf_requestOk : (Instr.sealedItemsRequest ⟨head, 256, []⟩).wf = false ∧
    (Instr.sealedItemsRequest ⟨head, 1, [⟨0x10000, 0, []⟩]⟩).wf = false ∧ (Instr.sealedItemsRequest ⟨head, 1, [⟨0, 0x10000, []⟩]⟩).wf = false ∧
    (Instr.sealedItemsRequest (head.one blockObj 0x61 (u8 1))).wf = true := by decide

theorem test_wf_findingsOk : (Instr.powerOnStart ⟨8, [], 0, false⟩).wf = false ∧ (Instr.powerOnStart ⟨7, [2048], 0, false⟩).wf = false ∧
    (Instr.powerOnStart ⟨7, [], 64, false⟩).wf = false ∧ (Instr.powerOnStart ⟨7, [2047], 63, false⟩).wf = true := by decide

theorem test_wf_gateFindingOk : (Instr.wakeInRise true [(48, 9)]).wf = false ∧ (Instr.wakeInRise true [(0, 8)]).wf = false ∧
    (Instr.wakeInRise true [(0, 12)]).wf = false := by decide

theorem test_wf_frameOk : (Instr.nop (toMonitor 0x10 0x3F [])).wf = false ∧ (Instr.nop (toMonitor 0x7F 0x3F (List.replicate 31 0x00#8))).wf = false ∧
    (Instr.nop (toMonitor 0x7F 0x3F (List.replicate 30 0x00#8))).wf = true ∧ (Instr.nop (toMonitor 0x06 0x3F [])).wf = true := by decide +kernel

/-- A history whose newest sample is `x`. -/
def pastOf (x : HeldSample) : List HeldSample := x :: List.replicate 63 HeldSample.empty

theorem test_wf_sampleOk : (Instr.latchStrobe 0 5 (pastOf { HeldSample.empty with cells := List.replicate 17 0 }) [] [] false).wf = false ∧
    (Instr.latchStrobe 0 5 (pastOf { HeldSample.empty with cells := [65536] }) [] [] false).wf = false ∧
    (Instr.latchStrobe 0 5 (pastOf { HeldSample.empty with vString := 2 ^ 32 }) [] [] false).wf = false ∧
    (Instr.latchStrobe 0 5 (HeldSample.empty :: pastOf HeldSample.empty) [] [] false).wf = false ∧
    (Instr.latchStrobe 0 5 (pastOf HeldSample.empty) (List.replicate 33 0) [] false).wf = false ∧
    (Instr.latchStrobe 0 5 (pastOf HeldSample.empty) [] (List.replicate 17 0) false).wf = false ∧
    (Instr.latchStrobe 0 5 (pastOf HeldSample.empty) [] [] false).wf = true := by decide

theorem test_wf_canOk : (Instr.canFrameReceived 0 { aFrame with id := 2048 } 0 false).wf = false ∧
    (Instr.canFrameReceived 0 { aFrame with id := 2 ^ 29, ext := true } 0 false).wf = false ∧
    (Instr.canFrameReceived 0 { aFrame with dlc := 16 } 0 false).wf = false ∧
    (Instr.canFrameReceived 0 { aFrame with data := List.replicate 65 0x00#8 } 0 false).wf = false ∧
    (Instr.canFrameReceived 0 { aFrame with id := 2048, ext := true } 0 false).wf = true := by decide

theorem test_wf_kindOk : (Instr.replyTimeout 0 .a (.setBalance 65536) 5 false).wf = false ∧ (Instr.replyTimeout 0 .a (.openWire 65536) 5 false).wf = false ∧
    (Instr.replyTimeout 0 .a (.setFilter 256) 5 false).wf = false ∧
    (Instr.replyTimeout 0 .a .traverse 5 false).wf = true := by decide

theorem test_wf_nodeOk : (Instr.partialRollCallComplete 0 [⟨256, 0, 0, 0, false, List.replicate 16 0⟩]).wf = false ∧
    (Instr.partialRollCallComplete 0 [⟨0, 2 ^ 32, 0, 0, false, List.replicate 16 0⟩]).wf = false ∧
    (Instr.partialRollCallComplete 0 [⟨0, 0, 64, 0, false, List.replicate 16 0⟩]).wf = false ∧
    (Instr.partialRollCallComplete 0 [⟨0, 0, 0, 64, false, List.replicate 16 0⟩]).wf = false ∧
    (Instr.partialRollCallComplete 0 [⟨0, 0, 0, 0, false, List.replicate 15 0⟩]).wf = false ∧
    (Instr.partialRollCallComplete 0 [⟨0, 0, 0, 0, false, List.replicate 16 0⟩]).wf = true := by decide

theorem test_wf_ptpOk : (Instr.ptpMessageReceived 0 256 .management).wf = false ∧ (Instr.ptpMessageReceived 0 0 (.announce (2 ^ 64) .slave none 0)).wf = false ∧
    (Instr.ptpMessageReceived 0 0 (.announce 0 .slave none 3)).wf = false ∧ (Instr.ptpMessageReceived 0 0 (.sync 65536)).wf = false ∧
    (Instr.ptpMessageReceived 0 255 (.sync 65535)).wf = true := by decide

theorem test_wf_lengths : (Instr.eventOccurrence 0xE001 0x2000 0 (List.replicate 41 0x00#8)).wf = false ∧
    (Instr.replyReceived 0 .a .traverse 5 (List.replicate 256 0x00#8)).wf = false ∧ (Instr.traverseTriggerIssue (Vector.replicate 4 none) [0] []).wf = false ∧
    (Instr.traverseTriggerIssue (Vector.replicate 4 none) [81] []).wf = false ∧
    (Instr.safeCopyReceived 0 (2 ^ 30) []).wf = false ∧ (Instr.canError 0 .bit 256 0 none).wf = false ∧ (Instr.ethFrameReceived 0 .foreign 65536).wf = false ∧
    (Instr.traverseTriggerIssue (Vector.replicate 4 none) [] [(0, 4)]).wf = false ∧ (Instr.ttMark 0 16384 true).wf = false ∧
    (Instr.lockstepMismatch 8).wf = false ∧ (Instr.sramEccError 2048 true .other).wf = false ∧
    (Instr.deviceTempRound (Vector.replicate 6 32768)).wf = false ∧ (Instr.deviceTempRound (Vector.replicate 6 (-32768))).wf = true := by decide +kernel

/-! ## Values and single steps the spec gives -/

/-- 07 R197: B is 500 at 2 ms and 100 at 10 ms. -/
theorem test_batchLen : batchLen 2000 = 500 ∧ batchLen 10000 = 100 := by decide +kernel

/-- The 36-string block of 19, Table 19-2: 30 monitors on each string. -/
def block36 : State :=
  { State.reset with
    strs := Vector.ofFn fun i => { StrCtl.reset with installed := decide (i.val < 36) }
    dict := { Dict.reset with vals := (List.range 36).flatMap fun i => [(dkey (0x2201 + i) 7 0, 1), (dkey (0x2201 + i) 0x12 0, 30)] } }

/-- 19, example at Table 19-2: a set of that block takes 40,626 bytes on the wire. -/
theorem test_setBytes : block36.setBytes = 40626 := by decide +kernel

/-- 13 R352, R353: the words delivered pass the check of the fields. -/
theorem test_timingOk : timingOk 0x1E3E1E01 0x9E482F00 = true := by decide +kernel

/-- 04, example: with n = 30 the A end of a ring serves positions 0 to 15, the B end 16 to 30. -/
theorem test_ringServes : RopeMode.ring.serves 30 none none = (some 15, some 16) := by decide

/-- 15, example: the capability list's head and its record 0x0018, up to their parameters; the count of records. -/
theorem test_capRecords :
    (State.reset.capRecord 0).map (List.take 18) = some ([0x00, 0x00, 0x01, 0x01, 0x00, 0x18, 0x00, 0x01, 0x1F, 0x00, 0x1F, 0x00, 0x00, 0x00,
      0xFF, 0xFF, 0x00, 0x1A].map (BitVec.ofNat 8)) ∧
    (State.reset.capRecord 0x18).map (List.take 8) = some ([0x00, 0xA1, 0x01, 0x00, 0x00, 0x18, 0x00, 0x19].map (BitVec.ofNat 8)) ∧
    capabilities.length + 1 = capCount := by decide +kernel

/-- 14, example: the 27 bytes before the signature of a sealed close of string 7. -/
theorem test_sealedMessage :
    ((⟨⟨2, 0x0A140005⟩, 0x5E, 1, 2, 8010, 0x05200417, []⟩ : SealHead).one (strObj 6) 3 (u8 1)).message =
      [0x5E, 0x01, 0x02, 0x01, 0, 0, 0, 0, 0, 0, 0x1F, 0x4A, 0, 0, 0, 0, 0x05, 0x20, 0x04, 0x17, 0x22, 0x07, 0x00, 0x03, 0x00, 0x01, 0x01].map
        (BitVec.ofNat 8) := by decide

/-- FIPS 180-4, example. -/
theorem test_sha512 : sha512 abc = abcDigest := by decide +kernel

/-- RFC 8032, section 7.1, test 1: the empty message; and another message does not verify. -/
theorem test_ed25519 :
    let sig := beBytes 64
      0xe5564300c360ac729086e2cc806e828a84877f1eb8e5d974d873e065224901555fb8821590a33bacc61e39701cf9b46bd25bf5f0595bbe24655141438e7a100b
    edVerifies aKey [] sig = true ∧ edVerifies aKey [0x00#8] sig = false := by decide +kernel

/-- 14 R398: a point of small order is no key. -/
theorem test_keyGood : keyGood aKey = true ∧ keyGood anyKey = false := by decide +kernel

/-- The state a command leaves. -/
def after (c : Instr) (s : State) : State := match exec c s with
  | .next t => t
  | _ => s

/-- 02 R68, 03 R97. -/
theorem test_powerFailWarning : (after .powerFailWarning live).supply.pfw = true ∧ (after .powerFailWarning live).irq.counts[103] = 1 := by decide

/-- 20 Table 20-2: `ARMED` from `STANDBY`; from `SERVICE` refused. -/
theorem test_requestArmed : (after (.requestArmed svc) live).mode.block = .armed ∧ (after (.requestArmed svc) (live' .service)).mode.block = .service := by
  decide

/-- 04 R117: an unassigned node takes the offered position and passes the frame on with the next. -/
theorem test_rollCallA : ((after (.rollCallA (toMonitor 1 0x3F [0x07#8, 0x00#8])) live).node 0 5).position = some 7 ∧
    ((after (.rollCallA (toMonitor 1 0x3F [0x07#8, 0x00#8])) live).node 0 5).onward = masterFrame false 1 0x3F 0 [0x08#8, 0x00#8] := by decide +kernel

/-- 14, example: a close whose counter is not above the last accepted one is refused with abort 0xFF00_000E. -/
theorem test_closeReplayed :
    (after (.close head 6 1) (trusting.modSeng fun g => { g with slots := upd g.slots 0 fun k => { k with counter := 1 } })).lastSent =
      some (.abort svc 0x1E00 1 0xFF00000E) := by decide +kernel

end Sys2Proof.Tests
end

/-!
Spare PHYs of a group (04 R134, R135): what a port holds after a port update, what a traverse boundary does with one port in each of the
three cases a group can be in, and the two ports of one group together.
-/

namespace Sys2Proof.Machine

/-! ## Tables, groups and ports -/

@[simp] theorem sparse_getD_del_same {α : Type} (t : Sparse α) (k : Nat) (d : α) : Sparse.getD (Sparse.del t k) k d = d := by
  suffices h : Sparse.get? (Sparse.del t k) k = none by simp only [Sparse.getD, h, Option.getD_none]
  induction t with
  | nil => rfl
  | cons a t ih =>
    by_cases ha : a.1 = k
    · simpa [Sparse.del, ha] using ih
    · simpa [Sparse.del, Sparse.get?, ha] using ih

@[simp] theorem State.inWindow_clearWindow_same (s : State) (k n : Nat) : (s.clearWindow k n).inWindow k n = [] := by
  simp [State.inWindow, State.clearWindow]

theorem mem_portGroup {n m : Nat} : m ∈ portGroup n ↔ 1 ≤ m ∧ (m - 1) / 10 = (n - 1) / 10 := by
  simp only [portGroup, List.mem_map, List.mem_range]
  constructor
  · rintro ⟨k, hk, rfl⟩
    omega
  · rintro ⟨hm, hg⟩
    exact ⟨(m - 1) % 10, by omega, by omega⟩

/-- The ports of a port's group are ports of the block. -/
theorem bounds_of_mem_portGroup {port : Fin 80} {m : Nat} (hm : m ∈ portGroup (port.val + 1)) : 1 ≤ m ∧ m ≤ 80 := by
  have h := mem_portGroup.1 hm
  omega

/-- A port is read from its rope alone. -/
theorem State.portAt_of_ropes {s t : State} (h : t.ropes = s.ropes) (n : Nat) : t.portAt n = s.portAt n := by
  simp only [State.portAt, h]

@[simp] theorem State.portAt_clearWindow (s : State) (k i n : Nat) : (s.clearWindow k i).portAt n = s.portAt n := rfl

theorem State.portAt_modPort (s : State) (f : Port → Port) {n m : Nat} (hn : 1 ≤ n ∧ n ≤ 80) (hm : 1 ≤ m ∧ m ≤ 80) :
    (s.modPort n f).portAt m = if n = m then f (s.portAt m) else s.portAt m := by
  have hrope : Fin.ofNat 40 (n - 1) = Fin.ofNat 40 (m - 1) ↔ (n - 1) % 40 = (m - 1) % 40 := by simp [Fin.ext_iff]
  simp only [State.portAt, State.modPort, State.modRope_ropes, upd_get, hrope]
  by_cases hnm : n = m
  · subst hnm
    by_cases ha : n ≤ 40 <;> simp [ha]
  · by_cases hs : (n - 1) % 40 = (m - 1) % 40
    · -- the two ends of one rope
      have hends : n ≤ 40 ∧ ¬ m ≤ 40 ∨ ¬ n ≤ 40 ∧ m ≤ 40 := by omega
      rcases hends with ⟨h₁, h₂⟩ | ⟨h₁, h₂⟩ <;> simp [h₁, h₂, hnm, hs]
    · simp [hnm, hs]

/-! ## Storing leaves the ropes -/

@[simp] theorem State.storeLater_ropes (s : State) : s.storeLater.ropes = s.ropes :=
  same_of_blank (p := .ropes) (State.storeLater_in (m := only [.health, .dict, .irq]) rfl rfl rfl s) rfl

@[simp] theorem State.storeLater_start (s : State) : s.storeLater.start = s.start :=
  same_of_blank (p := .start) (State.storeLater_in (m := only [.health, .dict, .irq]) rfl rfl rfl s) rfl

@[simp] theorem State.storeLater_trav (s : State) : s.storeLater.trav = s.trav :=
  same_of_blank (p := .trav) (State.storeLater_in (m := only [.health, .dict, .irq]) rfl rfl rfl s) rfl

/-! ## The two moves of a port -/

/-- The port's move, taken up: it is due no longer. -/
def State.takeMove (s : State) (n : Nat) : State := s.modPort n fun p => { p with moveDue := false }

/-- The port moved to its group's spare: IRQ 9, event 0x100F, one more use of a spare, stored (R134). -/
def State.takeSpare (s : State) (port : Fin 80) : State :=
  let n := port.val + 1
  let t := ((s.takeMove n).modPort n fun p => { p with spare := true, strike := false }).irqRaise 9
  ((t.event 0x100F (strObj (Fin.ofNat 40 port.val)) n).modHealth fun h =>
    { h with spareUse := upd h.spareUse 1 sat32, seen := h.seen ||| 4 }).storeLater

/-- The port whose move met the spare in use: it stays on its own PHY, its port-class history cleared (R134). -/
def State.keepOwnPhy (s : State) (n : Nat) : State := ((s.takeMove n).modPort n fun p => { p with strike := true }).clearWindow 1 n

theorem State.portAt_takeMove (s : State) {n m : Nat} (hn : 1 ≤ n ∧ n ≤ 80) (hm : 1 ≤ m ∧ m ≤ 80) :
    (s.takeMove n).portAt m = if n = m then { s.portAt m with moveDue := false } else s.portAt m :=
  State.portAt_modPort s _ hn hm

@[simp] theorem State.takeSpare_start (s : State) (port : Fin 80) : (s.takeSpare port).start = s.start := by
  simp only [State.takeSpare, State.storeLater_start, State.modHealth_start, State.event_start, State.irqRaise_start, State.takeMove,
    State.modPort, State.modRope_start]

@[simp] theorem State.takeSpare_trav (s : State) (port : Fin 80) : (s.takeSpare port).trav = s.trav := by
  simp only [State.takeSpare, State.storeLater_trav, State.modHealth_trav, State.event_trav, State.irqRaise_trav, State.takeMove,
    State.modPort, State.modRope_trav]

@[simp] theorem State.takeSpare_atBoundary (s : State) (port : Fin 80) : (s.takeSpare port).atBoundary = s.atBoundary := by
  simp only [State.atBoundary, State.takeSpare_trav]

/-- The move to the spare changes the port alone; the other ports keep what they hold. -/
theorem State.portAt_takeSpare (s : State) (port : Fin 80) {m : Nat} (hm : 1 ≤ m ∧ m ≤ 80) : (s.takeSpare port).portAt m =
    if port.val + 1 = m then { s.portAt m with moveDue := false, spare := true, strike := false } else s.portAt m := by
  have hn : 1 ≤ port.val + 1 ∧ port.val + 1 ≤ 80 := by omega
  have hropes : (s.takeSpare port).ropes =
      ((s.takeMove (port.val + 1)).modPort (port.val + 1) fun p => { p with spare := true, strike := false }).ropes := by
    simp only [State.takeSpare, State.storeLater_ropes, State.modHealth_ropes, State.event_ropes, State.irqRaise_ropes]
  rw [State.portAt_of_ropes hropes, State.portAt_modPort _ _ hn hm, State.portAt_takeMove s hn hm]
  split <;> rfl

/-- A port kept on its own PHY loses its due move and takes a strike; nothing else of it changes. -/
theorem State.portAt_keepOwnPhy (s : State) {n : Nat} (hn : 1 ≤ n ∧ n ≤ 80) :
    (s.keepOwnPhy n).portAt n = { s.portAt n with moveDue := false, strike := true } := by
  simp only [State.keepOwnPhy, State.portAt_clearWindow, State.portAt_modPort _ _ hn hn, State.portAt_takeMove s hn hn, if_true]

theorem State.inWindow_keepOwnPhy (s : State) (n : Nat) : (s.keepOwnPhy n).inWindow 1 n = [] :=
  State.inWindow_clearWindow_same _ _ _

/-! ## One port at a boundary -/

/-- At a boundary with firmware running, a port on its own PHY whose move is due, with no due move before it in its group. -/
structure State.NextToMove (s : State) (port : Fin 80) : Prop where
  boundary : s.atBoundary = true
  running : s.start.fw = .running
  restore : (s.portAt (port.val + 1)).restoreDue = false
  own : (s.portAt (port.val + 1)).spare = false
  due : (s.portAt (port.val + 1)).moveDue = true
  first : ∀ m ∈ portGroup (port.val + 1), m < port.val + 1 → (s.portAt m).moveDue = false

theorem State.NextToMove.none_before {s : State} {port : Fin 80} (h : s.NextToMove port) :
    ((portGroup (port.val + 1)).any fun m => decide (m < port.val + 1) && (s.portAt m).moveDue) = false := by
  refine List.any_eq_false.2 fun m hm => ?_
  by_cases hlt : m < port.val + 1
  · simp [h.first m hm hlt]
  · simp [hlt]

/-- A port that a lower one of its group comes before is left as it is (R135). -/
theorem State.boundaryPort_waits {s : State} {port : Fin 80} {m : Nat} (hr : (s.portAt (port.val + 1)).restoreDue = false)
    (hm : m ∈ portGroup (port.val + 1)) (hlt : m < port.val + 1) (hdue : (s.portAt m).moveDue = true) : s.boundaryPort port = s := by
  have hbefore : ((portGroup (port.val + 1)).any fun m => decide (m < port.val + 1) && (s.portAt m).moveDue) = true :=
    List.any_eq_true.2 ⟨m, hm, by simp only [hlt, hdue, decide_true, Bool.and_self]⟩
  simp only [State.boundaryPort, hr, hbefore, Bool.or_true, if_true, Bool.false_eq_true, if_false, ite_self]

/-- With the spare of the group free, the port moves to it (R134). -/
theorem State.NextToMove.boundaryPort_of_free {s : State} {port : Fin 80} (h : s.NextToMove port)
    (hfree : ∀ m ∈ portGroup (port.val + 1), (s.portAt m).spare = false) : s.boundaryPort port = s.takeSpare port := by
  have htaken : ((portGroup (port.val + 1)).any fun m => (s.portAt m).spare) = false :=
    List.any_eq_false.2 fun m hm => by simp [hfree m hm]
  simp only [State.boundaryPort, h.boundary, h.running, h.restore, h.due, h.own, h.none_before, htaken, State.takeSpare, State.takeMove,
    ne_eq, not_true_eq_false, decide_false, Bool.not_true, Bool.not_false, Bool.or_self, Bool.false_eq_true, if_true, if_false]

/-- With the spare of the group in use, a port without a strike stays on its own PHY, with event 0x1010 (R134). -/
theorem State.NextToMove.boundaryPort_of_taken {s : State} {port : Fin 80} (h : s.NextToMove port)
    (hstrike : (s.portAt (port.val + 1)).strike = false) {m : Nat} (hm : m ∈ portGroup (port.val + 1)) (hspare : (s.portAt m).spare = true) :
    s.boundaryPort port = (s.keepOwnPhy (port.val + 1)).portEvent (Fin.ofNat 40 port.val)
      (if port.val + 1 ≤ 40 then .a else .b) 0x1010 (port.val + 1) := by
  have htaken : ((portGroup (port.val + 1)).any fun m => (s.portAt m).spare) = true :=
    List.any_eq_true.2 ⟨m, hm, hspare⟩
  simp only [State.boundaryPort, h.boundary, h.running, h.restore, h.due, h.own, h.none_before, hstrike, htaken, State.keepOwnPhy,
    State.takeMove, ne_eq, not_true_eq_false, decide_false, Bool.not_true, Bool.or_self, Bool.false_eq_true, if_false]

/-! ## Two ports of one group -/

theorem mem_portGroup_of_same {p q : Fin 80} (h : p.val / 10 = q.val / 10) : p.val + 1 ∈ portGroup (q.val + 1) :=
  mem_portGroup.2 ⟨by omega, by simpa using h⟩

theorem portGroup_of_same {p q : Fin 80} (h : p.val / 10 = q.val / 10) : portGroup (p.val + 1) = portGroup (q.val + 1) := by
  simp only [portGroup, Nat.add_sub_cancel, h]

/-- A higher port of the group keeps what it holds when a lower one moves to the spare. -/
theorem State.portAt_takeSpare_higher (s : State) {p q : Fin 80} (hlt : p < q) :
    (s.takeSpare p).portAt (q.val + 1) = s.portAt (q.val + 1) := by
  rw [State.portAt_takeSpare s p (by omega), if_neg (by omega)]

/-- After the lower port's move the higher one is next, where no third port comes before it. -/
theorem State.nextToMove_after_takeSpare {s : State} {p q : Fin 80} (hlt : p < q) (hb : s.atBoundary = true) (hfw : s.start.fw = .running)
    (hrest : (s.portAt (q.val + 1)).restoreDue = false) (hown : (s.portAt (q.val + 1)).spare = false)
    (hdue : (s.portAt (q.val + 1)).moveDue = true)
    (hother : ∀ m ∈ portGroup (q.val + 1), p.val + 1 ≠ m → m < q.val + 1 → (s.portAt m).moveDue = false) :
    (s.takeSpare p).NextToMove q where
  boundary := by rw [State.takeSpare_atBoundary, hb]
  running := by rw [State.takeSpare_start, hfw]
  restore := by rw [s.portAt_takeSpare_higher hlt, hrest]
  own := by rw [s.portAt_takeSpare_higher hlt, hown]
  due := by rw [s.portAt_takeSpare_higher hlt, hdue]
  first m hm hmq := by
    rw [State.portAt_takeSpare s p (bounds_of_mem_portGroup hm)]
    split
    · rfl
    · exact hother m hm ‹_› hmq

/-- Settles O59: the higher waits while the lower is due; the lower finds the spare free and takes it; then the higher is next and finds it in
use. -/
theorem lowerPortTakesSpare : Obligations.LowerPortTakesSpare := by
  intro s p q hgroup hlt hb hfw hown hdue
  have hlt' : p.val + 1 < q.val + 1 := Nat.succ_lt_succ hlt
  have hpq : p.val + 1 ∈ portGroup (q.val + 1) := mem_portGroup_of_same hgroup
  rw [portGroup_of_same hgroup] at hown hdue
  obtain ⟨hpown, hprest⟩ := hown _ hpq
  obtain ⟨hqown, hqrest⟩ := hown _ (mem_portGroup_of_same rfl)
  have hpdue : (s.portAt (p.val + 1)).moveDue = true := by simp [hdue _ hpq]
  have hqdue : (s.portAt (q.val + 1)).moveDue = true := by simp [hdue _ (mem_portGroup_of_same rfl)]
  have hother : ∀ m ∈ portGroup (q.val + 1), p.val + 1 ≠ m → m < q.val + 1 → (s.portAt m).moveDue = false := fun m hm hmp hmq => by
    simp [hdue m hm, hmp.symm, hmq.ne]
  have hpnext : s.NextToMove p := ⟨hb, hfw, hprest, hpown, hpdue, fun m hm hmp =>
    hother m (portGroup_of_same hgroup ▸ hm) hmp.ne' (hmp.trans hlt')⟩
  have hqnext : (s.takeSpare p).NextToMove q := State.nextToMove_after_takeSpare hlt hb hfw hqrest hqown hqdue hother
  have hpspare : ((s.takeSpare p).portAt (p.val + 1)).spare = true := by
    rw [State.portAt_takeSpare s p (bounds_of_mem_portGroup hpq), if_pos rfl]
  have hq := s.portAt_takeSpare_higher hlt
  have hqkept := (s.takeSpare p).portAt_keepOwnPhy (n := q.val + 1) (by omega)
  refine ⟨congrArg Host.Outcome.next (State.boundaryPort_waits hqrest hpq hlt' hpdue), s.takeSpare p,
    congrArg Host.Outcome.next (hpnext.boundaryPort_of_free fun m hm => (hown m (portGroup_of_same hgroup ▸ hm)).1), hpspare,
    hqnext.own, fun hstrike => ?_⟩
  exact ⟨_, _, (s.takeSpare p).keepOwnPhy (q.val + 1),
    congrArg Host.Outcome.next (hqnext.boundaryPort_of_taken (by rw [hq, hstrike]) hpq hpspare),
    by rw [hqkept, hq, hqown], by rw [hqkept, hq], State.inWindow_keepOwnPhy _ _⟩

end Sys2Proof.Machine

/-!
Bit timing and modes of the CAN controllers (13 R353, R367, R374): what the store of values reads back, what the reply of a plain write
leaves of a controller, and what the entry of a mode puts in force.
-/

namespace Sys2Proof.Machine

/-! ## The store of values -/

theorem sparse_get?_put {α : Type} (t : Sparse α) (k j : Nat) (v : α) :
    Sparse.get? (Sparse.put t k v) j = if k = j then some v else Sparse.get? t j := by
  induction t with
  | nil => simp only [Sparse.put, Sparse.get?]
  | cons a t ih =>
    rcases lt_trichotomy k a.1 with hlt | rfl | hgt
    · simp only [Sparse.put, Sparse.get?, hlt, if_true]
    · by_cases hj : a.1 = j <;> simp [Sparse.put, Sparse.get?, hj]
    · have hne : k ≠ a.1 := hgt.ne'
      simp only [Sparse.put, Sparse.get?, hgt.not_gt, hne, if_false, ih]
      by_cases hj : a.1 = j
      · simp [hj, hj ▸ hne]
      · simp [hj]

theorem State.val_of_values {s t : State} (h : t.dict.vals = s.dict.vals) (index sub element : Nat) :
    t.val index sub element = s.val index sub element := by
  simp only [State.val, h]

@[simp] theorem State.val_setVal_same (s : State) (index sub element v : Nat) : (s.setVal index sub element v).val index sub element = v := by
  simp only [State.val, State.setVal_dict, sparse_get?_put, if_true]

/-- Another sub-index of the same object keeps its value. -/
theorem State.val_setVal_other_sub (s : State) (index v : Nat) {sub sub' : Nat} (h : sub' ≠ sub) :
    (s.setVal index sub' 0 v).val index sub = s.val index sub := by
  have hkey : dkey index sub' 0 ≠ dkey index sub 0 := by
    simp only [dkey]
    omega
  simp only [State.val, State.setVal_dict, sparse_get?_put, if_neg hkey]

@[simp] theorem State.val_modCan (s : State) (k : Fin 3) (f : Can → Can) (index sub element : Nat) :
    (s.modCan k f).val index sub element = s.val index sub element := rfl

@[simp] theorem State.taken_values (s : State) (src : Src) (index sub : Nat) : (s.taken src index sub).dict.vals = s.dict.vals := by
  simp only [State.taken, State.noteTickWrite_values, State.newRequest_values]

@[simp] theorem State.taken_cans (s : State) (src : Src) (index sub : Nat) : (s.taken src index sub).cans = s.cans := by
  simp only [State.taken, State.noteTickWrite_cans, State.newRequest_cans]

/-- A plain write's checks see the values the request met. -/
@[simp] theorem State.val_taken (s : State) (src : Src) (index sub i u e : Nat) : (s.taken src index sub).val i u e = s.val i u e :=
  State.val_of_values (s.taken_values src index sub) i u e

/-! ## The reply of a plain write -/

/-- Of a controller, a message sent changes the dictionary's transmit buffer alone (14 R383). -/
theorem State.send_can (s : State) (m : Message) (k : Fin 3) : ∃ out, (s.send m).cans[k] = { s.cans[k] with dictOut := out } := by
  unfold State.send
  dsimp only
  split
  · simp only [State.irqRaise_cans, State.modEth_cans, State.modDict_cans]
    exact ⟨_, rfl⟩
  · split
    next f _ =>
      by_cases hk : f.1 = k
      · exact ⟨_, by rw [State.modCan_cans, upd_get, if_pos hk]; rfl⟩
      · exact ⟨_, by rw [State.modCan_cans, upd_get, if_neg hk]; rfl⟩
    · exact ⟨_, rfl⟩

/-- What an admitted plain write leaves: the values its entry's effect set, and of a controller what that effect made of it but for the
dictionary's transmit buffer. -/
theorem writeVia_leaves {s v : State} {src : Src} {index sub : Nat} {data : List Byte} {apply : EntryRow → State → Applied}
    (h : s.admits src index sub data) (hv : ∀ r, apply r (s.taken src index sub) = .ok v) :
    (s.writeVia src index sub data apply).dict.vals = v.dict.vals ∧
    ∀ k : Fin 3, ∃ out, (s.writeVia src index sub data apply).cans[k] = { v.cans[k] with dictOut := out } := by
  rw [writeVia_eq h fun r _ => hv r]
  refine ⟨by simp only [State.noteLast_values, id, State.answerWrite_values], fun k => ?_⟩
  simp only [State.noteLast_cans, id, State.answerWrite]
  obtain ⟨out, hout⟩ := State.send_can _ (.writeReply src index sub data.length) k
  exact ⟨out, by rw [hout, State.event_cans, State.modDict_cans]⟩

/-! ## A timing accepted -/

/-- A sound timing is stored and pending (R353). -/
theorem State.applyTiming_ok {s : State} {k : Fin 3} {fast : Bool} {w : Nat}
    (h : timingOk (if fast then s.val (canObj k) 3 else w) (if fast then w else s.val (canObj k) 4) = true) :
    s.applyTiming k fast w = .ok ((s.setVal (canObj k) (if fast then 4 else 3) 0 w).modCan k fun c => { c with cfgPending := true }) := by
  simp only [State.applyTiming, h, if_true]

theorem exec_bitTimingWrite_admitted {s : State} {src : Src} {k : Fin 3} {fast : Bool} {w : Nat}
    (h : s.admits src (canObj k) (if fast then 4 else 3) (u32 w)) : exec (.bitTimingWrite src k fast w) s =
      .next (s.writeVia src (canObj k) (if fast then 4 else 3) (u32 w) fun _ u => u.applyTiming k fast w) :=
  congrArg Host.Outcome.next (holding_false (c := .bitTimingWrite src k fast w) h.1)

/-! ## A mode written -/

/-- The conditions of `TIMETABLE` (R367) are read from the values: a state that holds nothing else meets the same ones. -/
theorem State.ttOk_of_values {s t : State} (h : t.dict.vals = s.dict.vals) (k : Fin 3) : t.ttOk k = s.ttOk k := by
  have hread : ∀ u : State, u.ttOk k = State.ttOk { State.reset with dict := { Dict.reset with vals := u.dict.vals } } k := fun _ => rfl
  rw [hread t, hread s, h]

/-- Which frame a controller has on the bus is read from the controllers alone. -/
theorem State.onWire_of_cans {s t : State} (h : t.cans = s.cans) (k : Fin 3) : t.onWire k = s.onWire k := by
  simp only [State.onWire, State.mo, h]

/-- The state in which `m` is the stored mode of controller `k` and due. -/
def State.storeMode (s : State) (k : Fin 3) (m : Nat) : State :=
  (s.setVal (canObj k) 1 0 m).modCan k fun c => { c with modeNext := some m }

theorem State.storeMode_can (s : State) (k : Fin 3) (m : Nat) : (s.storeMode k m).cans[k] = { s.cans[k] with modeNext := some m } := by
  simp only [State.storeMode, State.modCan_cans, State.setVal_cans, upd_get, if_true]

/-- The stored mode leaves the other entries of the controller. -/
theorem State.val_storeMode (s : State) (k : Fin 3) (m : Nat) {sub : Nat} (h : 1 ≠ sub) :
    (s.storeMode k m).val (canObj k) sub = s.val (canObj k) sub := by
  simp only [State.storeMode, State.val_modCan, State.val_setVal_other_sub _ _ _ h]

/-- A mode that is due says nothing of the frame on the bus. -/
theorem State.onWire_storeMode (s : State) (k : Fin 3) (m : Nat) : (s.storeMode k m).onWire k = s.onWire k := by
  simp only [State.onWire, State.mo, State.storeMode_can]

/-- On a free bus that is not bus-off a due mode is entered at once (R374). -/
theorem State.takeMode_free {s : State} {k : Fin 3} {m : Nat} (hdue : s.cans[k].modeNext = some m) (hbus : s.cans[k].bus ≠ .busOff)
    (hwire : s.onWire k = none) : s.takeMode k = s.enterMode k m := by
  simp only [State.takeMode, hdue, hbus, hwire, decide_false, Option.isSome_none, Bool.or_self, Bool.false_eq_true, if_false]

/-- An acceptable mode written on a free bus that is not bus-off is stored and entered (R367, R374). -/
theorem State.applyCanMode_free {s : State} {k : Fin 3} {m : Nat} (htt : m = 1 → s.ttOk k = true) (hbus : s.cans[k].bus ≠ .busOff)
    (hwire : s.onWire k = none) : s.applyCanMode k m false = .ok ((s.storeMode k m).enterMode k m) := by
  have haccept : (decide (m = 1) && !s.ttOk k) = false := by
    by_cases hm : m = 1 <;> simp [hm, htt]
  have htake : (s.storeMode k m).takeMode k = (s.storeMode k m).enterMode k m :=
    State.takeMode_free (by rw [State.storeMode_can]) (by rwa [State.storeMode_can]) (by rwa [State.onWire_storeMode])
  rw [← htake]
  simp only [State.applyCanMode, haccept, Bool.false_eq_true, if_false, State.storeMode]

@[simp] theorem State.stopTimetable_values (s : State) (k : Fin 3) : (s.stopTimetable k).dict.vals = s.dict.vals :=
  same_of_blank (p := .values) (State.stopTimetable_in (m := only [.cans, .clock]) rfl rfl s k) rfl

/-- Entering a mode puts the stored bit timing in force and starts the integration (R353, R374). -/
theorem State.enterMode_timing (s : State) (k : Fin 3) (m : Nat) :
    (s.enterMode k m).cans[k].nominal = s.val (canObj k) 3 ∧ (s.enterMode k m).cans[k].dataRate = s.val (canObj k) 4 ∧
    (s.enterMode k m).cans[k].cfgPending = false ∧ (s.enterMode k m).cans[k].bus = .integrating := by
  simp only [State.enterMode, State.modCan_cans, upd_get, if_true, State.val_of_values (s.stopTimetable_values k), and_self]

theorem exec_canMode_admitted {s : State} {src : Src} {k : Fin 3} {m : Nat} {busy : Bool} (h : s.admits src (canObj k) 1 (u8 m)) :
    exec (.canMode src k m busy) s = .next (s.writeVia src (canObj k) 1 (u8 m) fun _ u => u.applyCanMode k m busy) :=
  congrArg Host.Outcome.next (holding_false (c := .canMode src k m busy) h.1)

/-! ## The obligation -/

/-- Settles O57: the timing's write sets the stored word and leaves the words in force; the mode's write reads the stored ones. -/
theorem timingWaitsForMode : Obligations.TimingWaitsForMode := by
  intro s src k
  refine ⟨fun fast w hadm hok => ?timing, fun m hadm htt hbus hwire => ?mode⟩
  case timing =>
    have happly := State.applyTiming_ok (s := s.taken src (canObj k) (if fast then 4 else 3)) (k := k) (by simpa only [State.val_taken] using hok)
    obtain ⟨hvals, hcans⟩ := writeVia_leaves (apply := fun _ u => u.applyTiming k fast w) hadm fun _ => happly
    obtain ⟨out, hcan⟩ := hcans k
    refine ⟨_, exec_bitTimingWrite_admitted hadm, ?_⟩
    rw [State.val_of_values hvals, hcan]
    simp only [State.val_modCan, State.val_setVal_same, State.modCan_cans, State.setVal_cans, State.taken_cans, upd_get, if_true, and_self]
  case mode =>
    have happly := State.applyCanMode_free (s := s.taken src (canObj k) 1) (k := k) (m := m)
      (fun hm => by rw [State.ttOk_of_values (s.taken_values ..), htt hm]) (by rwa [State.taken_cans])
      (by rwa [State.onWire_of_cans (s.taken_cans ..)])
    obtain ⟨-, hcans⟩ := writeVia_leaves (apply := fun _ u => u.applyCanMode k m false) hadm fun _ => happly
    obtain ⟨out, hcan⟩ := hcans k
    obtain ⟨hnominal, hdata, hpending, hbus'⟩ := ((s.taken src (canObj k) 1).storeMode k m).enterMode_timing k m
    refine ⟨_, exec_canMode_admitted hadm, ?_⟩
    rw [hcan]
    exact ⟨by rw [hnominal, State.val_storeMode _ _ _ (by decide), State.val_taken],
      by rw [hdata, State.val_storeMode _ _ _ (by decide), State.val_taken], hpending, hbus'⟩

end Sys2Proof.Machine

/-!
Reads of the dictionary (14 R381 to R386): the request that its bytes bring, the transfer a partial answer leaves open, the copy a later
request is answered from, and the copy of an entry that is only executed.
-/

namespace Sys2Proof.Machine

/-! ## The request -/

/-- A message that its bytes bring is served in the state that `brings` names. -/
theorem State.whenCarried_of_brings {s v : State} {src : Src} {raw : List Byte} {is : WireMessage → Bool} (h : s.brings src raw is v)
    (f : State → State) : s.whenCarried src raw is f = f v := by
  rcases h with ⟨hcan, rfl⟩ | ⟨hcan, u, m, hwire, his, rfl⟩
  · simp only [State.whenCarried, hcan, if_true]
  · simp only [State.whenCarried, hcan, hwire, his, Bool.false_eq_true, if_false, if_true]

theorem exec_read_of_brings {s v : State} {src : Src} {index sub offset : Nat} {raw : List Byte} (hhold : s.holding = false)
    (hbrings : s.brings src raw (fun m => m.op = 0x01 && m.index = index && m.sub = sub && m.offset = offset) v) :
    exec (.read src index sub offset raw) s = .next (v.readVia src index sub offset) :=
  congrArg Host.Outcome.next ((holding_false (c := .read src index sub offset raw) hhold).trans (State.whenCarried_of_brings hbrings _))

theorem State.readVia_start {s : State} {src : Src} {index sub : Nat} (h : s.service src false index sub [] = .serve) :
    s.readVia src index sub 0 = s.startRead src index sub := by
  simp only [State.readVia, h, if_true]

theorem State.readVia_continue {s : State} {src : Src} {index sub offset : Nat} (h : s.service src false index sub [] = .serve)
    (hoffset : offset ≠ 0) : s.readVia src index sub offset = s.continueRead src index sub offset := by
  simp only [State.readVia, h, if_neg hoffset]

/-! ## The open transfers -/

theorem State.transferOf_of_transfers {s t : State} (h : t.dict.transfers = s.dict.transfers) (src : Src) :
    t.transferOf src = s.transferOf src := by
  simp only [State.transferOf, h]

@[simp] theorem State.notePartner_transfers (s : State) (src : Src) : (s.notePartner src).dict.transfers = s.dict.transfers := by
  unfold State.notePartner
  split
  · rfl
  · split <;> simp only [State.event_dict, State.modPartner, State.modDict_dict]

/-- A message received leaves the open transfers (14 R402). -/
@[simp] theorem State.receive_transfers (s : State) (src : Src) : (s.receive src).dict.transfers = s.dict.transfers := by
  simp only [State.receive, State.notePartner_transfers, State.irqRaise_dict]
  split
  · simp only [State.modEth_dict, State.ethIn, State.irqRaise_dict]
  · rfl

/-- A partner has one transfer open: the one kept last (14 R387). -/
theorem State.transferOf_keepTransfer (s : State) (t : Transfer) : (s.keepTransfer t).transferOf t.src = some { t with at_ := s.now } := by
  have hothers : (s.dict.transfers.filter fun x => x.src ≠ t.src).find? (fun x => x.src = t.src) = none := by
    simp only [List.find?_eq_none, List.mem_filter, decide_eq_true_eq, and_imp]
    exact fun _ _ hne => hne
  simp only [State.transferOf, State.keepTransfer, State.modDict_dict, List.find?_append, hothers, Option.none_or, List.find?_cons, decide_true]

/-! ## The answer -/

@[simp] theorem State.keepTransfer_sent (s : State) (t : Transfer) : (s.keepTransfer t).dict.sent = s.dict.sent := rfl

@[simp] theorem State.dropTransfer_sent (s : State) (src : Src) : (s.dropTransfer src).dict.sent = s.dict.sent := rfl

/-- A read is answered with the bytes of its copy from the offset on, as many as a message carries (R384). -/
theorem State.lastSent_sendChunk (s : State) (src : Src) (index sub offset : Nat) (copy : List Byte) :
    (s.sendChunk src index sub offset copy).lastSent =
      some (.readReply src index sub copy.length offset ((copy.drop offset).take (chunkSize src.iface copy.length))) := by
  unfold State.sendChunk
  dsimp only
  split <;>
    simp only [State.lastSent, State.keepTransfer_sent, State.dropTransfer_sent, State.send_sent, List.getLast?_append, List.getLast?_singleton,
      Option.some_or]

/-- A first answer that does not hold the whole copy keeps it, with the number of bytes it holds. -/
theorem State.transferOf_sendChunk_zero (s : State) (src : Src) (index sub : Nat) {copy : List Byte}
    (h : chunkSize src.iface copy.length < copy.length) : (s.sendChunk src index sub 0 copy).transferOf src =
      some ⟨src, false, index, sub, copy.length, chunkSize src.iface copy.length, copy, s.now⟩ := by
  have hsent : (copy.take (chunkSize src.iface copy.length)).length = chunkSize src.iface copy.length := List.length_take_of_le h.le
  simp only [State.sendChunk, List.drop_zero, Nat.zero_add, hsent, h, if_true]
  simpa only [State.send_now] using State.transferOf_keepTransfer (s.send _) ⟨src, false, index, sub, copy.length, _, copy, 0⟩

theorem State.startRead_of_copy {s : State} {src : Src} {index sub : Nat} {c : State × List Byte}
    (h : (s.newRequest src).readCopy src index sub = .ok c) : s.startRead src index sub = c.1.sendChunk src index sub 0 c.2 := by
  simp only [State.startRead, h]

/-- The request for the next bytes of an open read takes them from the copy of its transfer. -/
theorem State.continueRead_next {s : State} {src : Src} {tr : Transfer} (htr : s.transferOf src = some tr) (hread : tr.write = false) :
    s.continueRead src tr.index tr.sub tr.next = (s.receive src).sendChunk src tr.index tr.sub tr.next tr.data := by
  have hreceived : (s.receive src).transferOf src = some tr := by rw [State.transferOf_of_transfers (s.receive_transfers src), htr]
  simp only [State.continueRead, hreceived, hread, Bool.not_false, decide_true, Bool.and_self, if_true]

/-! ## Entries that are only executed -/

/-- A row of an entry that is only executed stands in the tables as it is: neither `MAX_SUB`, the capability list nor the limits of the
write records, which the model adds to the tables, are. -/
theorem mem_rowsOf_of_xs {index sub : Nat} {r : EntryRow} (h : entryOf index sub = some r) (hx : r.access = .xs) : r ∈ rowsOf index := by
  unfold entryOf at h
  split at h
  · split at h <;> cases h
    cases hx
  · split at h
    · split at h <;> cases h
      cases hx
    · split at h
      next row hrow =>
        have hmem := List.mem_of_find?_eq_some hrow
        split at h
        · split at h
          · split at h <;> cases h
            · cases hx
            · exact hmem
          · cases h
        · cases h
          exact hmem
      next => cases h

theorem not_freeEntry_of_xs {index sub : Nat} {r : EntryRow} (h : entryOf index sub = some r) (hx : r.access = .xs) :
    freeEntry index sub = false := by
  by_contra hfree
  simp only [freeEntry, Bool.not_eq_false, Bool.or_eq_true, Bool.and_eq_true, decide_eq_true_eq, List.contains_eq_mem, List.mem_cons,
    List.not_mem_nil, or_false] at hfree
  obtain ⟨rfl, rfl | rfl | rfl | rfl | rfl | rfl⟩ | ⟨rfl, rfl | rfl⟩ := hfree <;> cases h <;> cases hx

theorem not_moData_of_xs {index sub : Nat} {r : EntryRow} (h : entryOf index sub = some r) (hx : r.access = .xs) :
    ¬ (0x1830 ≤ index ∧ index ≤ 0x1832) := by
  have hrows : ∀ i : Fin 3, ∀ r ∈ rowsOf (0x1830 + i.val), r.access ≠ .xs := by decide
  rintro ⟨hlo, hhi⟩
  have hindex : 0x1830 + (index - 0x1830) = index := by omega
  exact hrows ⟨index - 0x1830, by omega⟩ r (by simpa only [hindex] using mem_rowsOf_of_xs h hx) hx

theorem State.readBytes_of_xs (s : State) (p : Option (Fin 64)) {r : EntryRow} (hx : r.access = .xs) (index sub : Nat) :
    s.readBytes p r index sub = List.replicate r.size 0x00#8 := by
  simp only [State.readBytes, hx, if_true]

/-- The copy of an entry that is only executed is zeros, and taking it changes nothing. -/
theorem State.readCopy_of_xs (s : State) (src : Src) {index sub : Nat} {r : EntryRow} (h : entryOf index sub = some r) (hx : r.access = .xs) :
    s.readCopy src index sub = .ok (s, List.replicate r.size 0x00#8) := by
  have hwindow : ¬ (index = 0x1C00 ∧ sub = 0x0008) := by
    rintro ⟨rfl, rfl⟩
    cases h
    cases hx
  have hhistory : ¬ (index = 0x1C01 ∧ sub = 0x000B) := by
    rintro ⟨rfl, rfl⟩
    cases h
    cases hx
  simp only [State.readCopy, h, if_neg hwindow, if_neg hhistory, not_freeEntry_of_xs h hx, Bool.false_eq_true, if_false,
    if_neg (not_moData_of_xs h hx), State.readBytes_of_xs s _ hx]

/-! ## The obligation -/

/-- Settles O58: the first answer keeps the copy in the partner's transfer, a later one takes its bytes from that copy and never from the
entry, and the copy of an entry that is only executed is zeros. -/
theorem readsServedFromCopy : Obligations.ReadsServedFromCopy := by
  intro s src index sub hhold
  refine ⟨fun raw v c hbrings hserve hcopy hlong => ?first, fun raw v tr hbrings hserve htr hread hindex hsub hnext => ?later,
    fun raw v r hbrings hserve hrow hx => ?executed⟩
  case first =>
    rw [exec_read_of_brings hhold hbrings, State.readVia_start hserve, State.startRead_of_copy hcopy]
    exact ⟨_, rfl, _, State.transferOf_sendChunk_zero _ _ _ _ hlong, rfl, rfl, rfl, rfl, rfl⟩
  case later =>
    subst hindex hsub
    refine ⟨_, exec_read_of_brings hhold hbrings, ?_⟩
    rw [State.readVia_continue hserve hnext, State.continueRead_next htr hread, State.lastSent_sendChunk]
  case executed =>
    refine ⟨_, exec_read_of_brings hhold hbrings, ?_⟩
    rw [State.readVia_start hserve, State.startRead_of_copy (State.readCopy_of_xs _ src hrow hx), State.lastSent_sendChunk,
      List.length_replicate, List.drop_zero]

end Sys2Proof.Machine


/-!
`MAX_SUB` (15 R409): the highest sub-index an object defines is where the last of its rows ends. In the recorder's object that row is
`RATE_LIMIT`, which runs past the last code the manual defines.
-/

namespace Sys2Proof.Machine

/-! ## The rows of an object -/

/-- No row of the tables is empty, and none holds sub-index 0, which is left to `MAX_SUB`: read off the tables, one after the other. -/
theorem pos_of_mem_rowsOf {index : Nat} : ∀ r ∈ rowsOf index, 0 < r.sub ∧ 0 < r.subs := by
  unfold rowsOf
  repeat' refine iteInduction (motive := fun rows : List EntryRow => ∀ r ∈ rows, 0 < r.sub ∧ 0 < r.subs) (fun _ => ?_) (fun _ => ?_)
  all_goals decide +kernel

theorem maxSub_of_ne_recorder {index : Nat} (h : index ≠ 0x1C00) :
    maxSub index = ((rowsOf index).map fun r => r.sub + r.subs - 1).foldl max 0 := if_neg h

/-- Outside the recorder's object, `MAX_SUB` is 0 or the end of one of the rows, and no row ends after it. -/
theorem maxSub_isGreatest {index : Nat} (h : index ≠ 0x1C00) :
    maxSub index ∈ 0 :: (rowsOf index).map (fun r => r.sub + r.subs - 1) ∧
      ∀ m ∈ 0 :: (rowsOf index).map (fun r => r.sub + r.subs - 1), m ≤ maxSub index :=
  List.max?_eq_some_iff.mp (by rw [List.max?_cons', maxSub_of_ne_recorder h])

theorem le_maxSub_of_mem_rowsOf {index u : Nat} {r : EntryRow} (h : index ≠ 0x1C00) (hr : r ∈ rowsOf index) (hu : u < r.sub + r.subs) :
    u ≤ maxSub index := by
  have hend := (maxSub_isGreatest h).2 _ (List.mem_cons_of_mem _ (List.mem_map_of_mem hr))
  omega

theorem exists_row_maxSub {index : Nat} (h : index ≠ 0x1C00) (hrows : rowsOf index ≠ []) :
    ∃ r ∈ rowsOf index, r.sub ≤ maxSub index ∧ maxSub index < r.sub + r.subs := by
  obtain hzero | hend := List.mem_cons.mp (maxSub_isGreatest h).1
  · obtain ⟨r, hr⟩ := List.exists_mem_of_ne_nil _ hrows
    have hpos := pos_of_mem_rowsOf r hr
    have hle := le_maxSub_of_mem_rowsOf (u := r.sub) h hr (by omega)
    omega
  · obtain ⟨r, hr, hmax⟩ := List.mem_map.mp hend
    have hpos := pos_of_mem_rowsOf r hr
    exact ⟨r, hr, by omega, by omega⟩

/-! ## The entries of an object -/

/-- The entry of a sub-index other than 0 lies in a row, and in the recorder's object a `RATE_LIMIT` belongs to a defined code. -/
theorem row_of_entryOf {index sub : Nat} (hlist : index ≠ 0x1F00) (hsub : sub ≠ 0) (h : (entryOf index sub).isSome = true) :
    (∃ r ∈ rowsOf index, r.sub ≤ sub ∧ sub < r.sub + r.subs) ∧ (index = 0x1C00 → 0x1001 ≤ sub → codeDefined sub = true) := by
  simp only [entryOf, if_neg hlist, if_neg hsub] at h
  split at h
  next r hrow =>
    refine ⟨⟨r, List.mem_of_find?_eq_some hrow, by simpa using List.find?_some hrow⟩, fun hrec hcode => ?_⟩
    by_contra hundefined
    simp [hrec, hcode, hundefined] at h
  next => cases h

/-- Outside the recorder's object every sub-index of a row is an entry. -/
theorem entryOf_isSome_of_row {index sub : Nat} {r : EntryRow} (hlist : index ≠ 0x1F00) (hrec : index ≠ 0x1C00) (hr : r ∈ rowsOf index)
    (hlo : r.sub ≤ sub) (hhi : sub < r.sub + r.subs) : (entryOf index sub).isSome = true := by
  have hsub : sub ≠ 0 := by have := pos_of_mem_rowsOf r hr; omega
  have hfound : ((rowsOf index).find? fun r => decide (r.sub ≤ sub ∧ sub < r.sub + r.subs)).isSome = true :=
    List.find?_isSome.mpr ⟨r, hr, decide_eq_true ⟨hlo, hhi⟩⟩
  obtain ⟨row, hrow⟩ := Option.isSome_iff_exists.mp hfound
  simp only [entryOf, hlist, hsub, hrow, hrec, if_false, false_and, Option.isSome_some]

/-- No code is defined above class 0xE, nor above the last code of that class (17 R461). -/
theorem le_of_codeDefined {code : Nat} (h : codeDefined code = true) : code ≤ 0xE020 := by
  have hmode : ∀ c ∈ codesMode, c ≤ 0xE020 := by decide
  unfold codeDefined at h
  split at h
  case h_14 => exact hmode code (List.contains_iff_mem.mp h)
  case h_15 => cases h
  all_goals omega

/-! ## `MAX_SUB` -/

theorem entryOf_maxSub_isSome {index : Nat} (hrows : rowsOf index ≠ []) (hlist : index ≠ 0x1F00) :
    (entryOf index (maxSub index)).isSome = true := by
  by_cases hrec : index = 0x1C00
  · subst hrec
    decide
  · obtain ⟨r, hr, hlo, hhi⟩ := exists_row_maxSub hrec hrows
    exact entryOf_isSome_of_row hlist hrec hr hlo hhi

theorem le_maxSub_of_entryOf {index sub : Nat} (hlist : index ≠ 0x1F00) (h : (entryOf index sub).isSome = true) : sub ≤ maxSub index := by
  by_cases hsub : sub = 0
  · omega
  obtain ⟨⟨r, hr, -, hhi⟩, hcode⟩ := row_of_entryOf hlist hsub h
  by_cases hrec : index = 0x1C00
  · have hmax : maxSub index = 0xE020 := if_pos hrec
    by_cases hlimit : 0x1001 ≤ sub
    · exact hmax ▸ le_of_codeDefined (hcode hrec hlimit)
    · omega
  · exact le_maxSub_of_mem_rowsOf hrec hr hhi

theorem entryOf_zero {index : Nat} (hrows : rowsOf index ≠ []) (hlist : index ≠ 0x1F00) :
    entryOf index 0 = some ⟨index, 1, 0, 1, 2, 1, .num, false, .ro, [(0, 65535)], [maxSub index]⟩ := by
  simp only [entryOf, if_neg hlist, if_neg hrows, if_true]

/-- A numeric entry of one element, not only executed, reads as that element. -/
theorem State.readBytes_of_num (s : State) (p : Option (Fin 64)) {r : EntryRow} (hx : r.access ≠ .xs) (hkind : r.kind = .num)
    (hcount : r.count = 1) (index sub : Nat) : s.readBytes p r index sub = beBytes r.width (s.readElement p index sub 0) := by
  simp [State.readBytes, hx, hkind, hcount]

theorem State.readElement_zero (s : State) (p : Option (Fin 64)) (index el : Nat) : s.readElement p index 0 el = maxSub index := by
  simp only [State.readElement, if_true]

/-- Settles O60: sub-index 0 is the row of `MAX_SUB` and reads the model's `maxSub` in every state; that sub-index is an entry, the end of a
row or the last code, and no entry lies above it. -/
theorem maxSubOfObjects : Obligations.MaxSubOfObjects := by
  intro index hrows hlist
  refine ⟨_, entryOf_zero hrows hlist, rfl, rfl, rfl, rfl, maxSub index, fun s => ?_, entryOf_maxSub_isSome hrows hlist,
    fun u hu => le_maxSub_of_entryOf hlist hu⟩
  rw [State.readBytes_of_num s none Access.noConfusion rfl rfl, State.readElement_zero, u16]

end Sys2Proof.Machine

/-!
Address conflicts of the Ethernet ports (19 R484, R485): what a message sent leaves of a port, what a conflicting ARP packet makes of it, and
the apply that ends the conflict of both ports.
-/

namespace Sys2Proof.Machine

/-! ## The conflict -/

/-- Of a port, a message sent changes the frame counters alone (19 Table 19-5). -/
theorem State.send_eth (s : State) (m : Message) (k : Fin 2) : ∃ counts, (s.send m).eths[k] = { s.eths[k] with counts := counts } := by
  unfold State.send
  dsimp only
  split
  next p _ =>
    rw [State.irqRaise_eths, State.modEth_eths, upd_get]
    by_cases hp : p = k
    · exact ⟨_, if_pos hp⟩
    · exact ⟨_, if_neg hp⟩
  · split <;> exact ⟨_, rfl⟩

/-- Of a port, a frame received changes the frame counters alone (19 Table 19-5). -/
theorem State.ethIn_eth (s : State) (k : Fin 2) : ∃ counts, (s.ethIn k).eths[k] = { s.eths[k] with counts := counts } :=
  ⟨_, by rw [State.ethIn, State.irqRaise_eths, State.modEth_eths, upd_get, if_pos rfl]⟩

/-- The state of a port in service once it has taken a conflicting ARP packet, before event 0xA005 (R485). -/
def State.noteConflict (s : State) (k : Fin 2) : State :=
  (s.ethIn k).modEth k fun e => { e with conflict := true, counts := upd e.counts 4 sat32 }

/-- A conflict leaves of the port everything but the field and the frame counters. -/
theorem State.noteConflict_eth (s : State) (k : Fin 2) :
    ∃ counts, (s.noteConflict k).eths[k] = { s.eths[k] with conflict := true, counts := counts } := by
  obtain ⟨counts, hin⟩ := s.ethIn_eth k
  exact ⟨_, by rw [State.noteConflict, State.modEth_eths, upd_get, if_pos rfl, hin]⟩

theorem exec_addressConflict_inService {s : State} {k : Fin 2} (hup : s.eths[k].up = true) (hfw : s.fwUp = true) (hip : s.eths[k].ip ≠ 0) :
    exec (.addressConflict k) s = .next ((s.noteConflict k).event 0xA005 (portObj k) 0) := by
  have hserved : (s.eths[k].up && s.fwUp && decide (s.eths[k].ip ≠ 0)) = true := by
    simp only [hup, hfw, hip, ne_eq, not_false_eq_true, decide_true, Bool.and_self]
  exact congrArg Host.Outcome.next (if_pos hserved)

/-! ## The apply -/

/-- The written addresses are judged from the values alone (R484). -/
theorem State.ethApplyOk_of_values {s t : State} (h : t.dict.vals = s.dict.vals) : t.ethApplyOk = s.ethApplyOk := by
  simp only [State.ethApplyOk, State.val_of_values h]

theorem State.announcePort_conflict {s : State} (j : Fin 2) {k : Fin 2} (h : s.eths[k].conflict = false) :
    (s.announcePort j).eths[k].conflict = false := by
  unfold State.announcePort
  split
  · obtain ⟨counts, hsend⟩ := s.send_eth (.gratuitousArp j.val) k
    rw [hsend, h]
  · exact h

/-- An apply ends the conflict of every port (R485). -/
theorem State.ethApply_conflict (s : State) (k : Fin 2) : s.ethApply.eths[k].conflict = false := by
  refine forEach_keeps (P := fun t => t.eths[k].conflict = false) (fun _ j => State.announcePort_conflict j) _ _ ?_
  rw [State.event_eths]
  refine forEach_mem (P := fun j t => t.eths[j].conflict = false) (fun t j => ?set) (fun t j i hi => ?keep) _ _ (List.mem_finRange k)
  case set => rw [State.modEth_eths, upd_get, if_pos rfl]
  case keep =>
    rw [State.modEth_eths, upd_get]
    split
    · rfl
    · exact hi

/-- An admitted `ETH_APPLY` of sound addresses is answered, then applied. -/
theorem exec_ethApply_admitted {s : State} {src : Src} {v : Nat} (h : s.admits src ethObj 1 (u8 v)) (hok : s.ethApplyOk = true) :
    ∃ last, exec (.ethApply src v) s =
      .next ((((s.taken src ethObj 1).answerWrite src ethObj 1 (u8 v)).ethApply).noteLast last) := by
  have happly : (s.taken src ethObj 1).applyEthApply = .ok (s.taken src ethObj 1) :=
    if_pos ((State.ethApplyOk_of_values (s.taken_values ..)).trans hok)
  exact ⟨_, congrArg Host.Outcome.next ((holding_false (c := .ethApply src v) h.1).trans (writeVia_eq h fun _ _ => happly))⟩

/-! ## The obligation -/

/-- Settles O56: the packet sets the field and the frame counters of the port and nothing else of it, so its address stays; the apply that an
admitted write leads to clears the field after the reply. -/
theorem conflictingAddress : Obligations.ConflictingAddress := by
  intro s k
  refine ⟨fun hup hfw hip => ?conflict, fun src v hadm hok => ?apply⟩
  case conflict =>
    obtain ⟨counts, hport⟩ := s.noteConflict_eth k
    exact ⟨_, exec_addressConflict_inService hup hfw hip, by rw [hport], by rw [hport]⟩
  case apply =>
    obtain ⟨last, hexec⟩ := exec_ethApply_admitted hadm hok
    exact ⟨_, hexec, by rw [State.noteLast_eths, State.ethApply_conflict]⟩

end Sys2Proof.Machine

/-!
What a command changes (O52): one lemma per command, each read off the frames of the operations it calls.
-/

namespace Sys2Proof.Machine

-- One thread per theorem would be more than the compiler's memory limit allows.
set_option Elab.async false

/-! ## Requests -/

/-- The parts any plain write may change beside its entry's own effect (14 R387, R390). -/
def plainParts : List Part := [.irq, .evlog, .dict, .seng, .cans, .eths, .heldReq, .waitingWrites]

/-- The parts any sealed request may change beside what firmware does with it (14 R390, R394). -/
def requestParts : List Part := [.irq, .evlog, .dict, .seng, .cans, .eths, .heldReq]

theorem plainCommand_in {m : Part → Bool} (h : plainParts.all m = true) {s : State} {c : Instr} {src : Src} {index sub : Nat}
    {data : List Byte} {apply : EntryRow → State → Applied} {after : State → State}
    (happly : ∀ r u, AppliedIn m u (apply r u)) (hafter : ∀ u, State.blank m (after u) = State.blank m u) :
    OutIn m s (.next (s.unlessSwapping c fun s => s.writeVia src index sub data apply after)) := by
  simp [plainParts] at h
  refine outIn_next.2 (State.unlessSwapping_in ?_ _ _ _ fun u => State.writeVia_in ?_ ?_ ?_ ?_ ?_ ?_ ?_ _ _ _ _ _ _ _ _ happly hafter) <;>
    simp only [h]

theorem sealedCommand_in {m : Part → Bool} (h : requestParts.all m = true) {s : State} {c : Instr} {r : SealedReq} {act : State → SealEnd}
    (hact : ∀ u, SealIn m u (act u)) : State.blank m (s.unlessSwapping c fun s => s.sealedVia r act) = State.blank m s := by
  simp [requestParts] at h
  refine State.unlessSwapping_in ?_ _ _ _ fun u => State.sealedVia_in ?_ ?_ ?_ ?_ ?_ ?_ _ _ _ hact <;> simp only [h]

theorem State.whenCarried_in {m : Part → Bool} (h_dict : m .dict = true) (h_heldReq : m .heldReq = true) (s : State) (src : Src) (raw : List Byte)
    (is : WireMessage → Bool)
    {f : State → State} (hf : ∀ u, State.blank m (f u) = State.blank m u) : State.blank m (s.whenCarried src raw is f) = State.blank m s := by
  unfold State.whenCarried
  repeat' first
    | simp only [h_dict, hf, State.setTag_in, State.receiveWire_in, State.modDict_in, State.hold_in, h_heldReq, blank_ite, ite_self]
    | refine forEach_next (fun _ _ => ?_) ?_
    | split

/-! ## One lemma per command -/

theorem execPowerOnStart_in {m : Part → Bool} (s : State) f (h : (mayChange (.powerOnStart f)).all m = true) :
    OutIn m s (execPowerOnStart f s) := by
  simp [mayChange, allBut] at h
  unfold execPowerOnStart
  refine outIn_next.2 ?_
  simp only [h, State.powerOn_in, blank_ite, ite_self]

theorem execGateRailsUp_in {m : Part → Bool} (s : State) (h : (mayChange .gateRailsUp).all m = true) :
    OutIn m s (execGateRailsUp s) := by
  simp [mayChange, allBut] at h
  unfold execGateRailsUp
  refine outIn_next.2 ?_
  simp only [h, State.railsUp_in, State.runBoot_in, blank_ite, ite_self]

theorem execStartupComplete_in {m : Part → Bool} (s : State) (h : (mayChange .startupComplete).all m = true) :
    OutIn m s (execStartupComplete s) := by
  simp [mayChange] at h
  unfold execStartupComplete
  refine outIn_next.2 ?_
  simp only [h, State.finishStart_in, blank_ite, ite_self]

theorem execImageConfirm_in {m : Part → Bool} (s : State) (h : (mayChange .imageConfirm).all m = true) :
    OutIn m s (execImageConfirm s) := by
  simp [mayChange] at h
  unfold execImageConfirm
  refine outIn_next.2 ?_
  repeat' first
    | simp only [h, State.modStart_in, blank_ite, ite_self]
    | split

theorem execSystemReset_in {m : Part → Bool} (s : State) c f (h : (mayChange (.systemReset c f)).all m = true) :
    OutIn m s (execSystemReset c f s) := by
  simp [mayChange, allBut] at h
  unfold execSystemReset
  refine outIn_next.2 ?_
  repeat' first
    | simp only [h, State.endThermalHold_in, State.systemReset_in, State.modStart_in, State.bootWith_in, blank_ite, ite_self]
    | split

theorem execProcessorRestart_in {m : Part → Bool} (s : State) c (h : (mayChange (.processorRestart c)).all m = true) :
    OutIn m s (execProcessorRestart c s) := by
  simp [mayChange, allBut] at h
  unfold execProcessorRestart
  refine outIn_next.2 ?_
  repeat' first
    | simp only [h, State.processorRestart_in, State.countFault_in, State.escalate_in, State.modStart_in, blank_ite, ite_self]
    | split

theorem execWatchdogWarning_in {m : Part → Bool} (s : State) (h : (mayChange .watchdogWarning).all m = true) :
    OutIn m s (execWatchdogWarning s) := by
  simp [mayChange] at h
  unfold execWatchdogWarning
  refine outIn_next.2 ?_
  simp only [h, State.irqRaise_in, blank_ite, ite_self]

theorem execWatchdogExpiry_in {m : Part → Bool} (s : State) (h : (mayChange .watchdogExpiry).all m = true) :
    OutIn m s (execWatchdogExpiry s) := by
  simp [mayChange, allBut] at h
  unfold execWatchdogExpiry
  refine outIn_next.2 ?_
  simp only [h, State.processorRestart_in, blank_ite, ite_self]

theorem execResetRequestRestart_in {m : Part → Bool} (s : State) head (h : (mayChange (.resetRequestRestart head)).all m = true) :
    OutIn m s (execResetRequestRestart head s) := by
  simp [mayChange] at h
  refine outIn_next.2 (State.unlessSwapping_in ?_ _ _ _ fun _ => ?_) <;>
    simp only [h, State.sealedReset_in]

theorem execResetRequestSystem_in {m : Part → Bool} (s : State) head (h : (mayChange (.resetRequestSystem head)).all m = true) :
    OutIn m s (execResetRequestSystem head s) := by
  simp [mayChange] at h
  refine outIn_next.2 (State.unlessSwapping_in ?_ _ _ _ fun _ => ?_) <;>
    simp only [h, State.sealedReset_in]

theorem execPowerFailWarning_in {m : Part → Bool} (s : State) (h : (mayChange .powerFailWarning).all m = true) :
    OutIn m s (execPowerFailWarning s) := by
  simp [mayChange] at h
  unfold execPowerFailWarning
  refine outIn_next.2 ?_
  simp only [h, State.modSupply_in, State.irqRaise_in, State.event_in, State.endPrecharge_in, State.hurryOut_in, blank_ite, ite_self, forEach_in,
      implies_true]

theorem execPowerFailWithdrawn_in {m : Part → Bool} (s : State) (h : (mayChange .powerFailWithdrawn).all m = true) :
    OutIn m s (execPowerFailWithdrawn s) := by
  simp [mayChange] at h
  unfold execPowerFailWithdrawn
  refine outIn_next.2 ?_
  simp only [h, State.modSupply_in, State.event_in, blank_ite, ite_self]

theorem execBelaySupplyWarning_in {m : Part → Bool} (s : State) (h : (mayChange .belaySupplyWarning).all m = true) :
    OutIn m s (execBelaySupplyWarning s) := by
  simp [mayChange] at h
  unfold execBelaySupplyWarning
  refine outIn_next.2 ?_
  simp only [h, State.irqRaise_in, State.openAll_in, State.dropAllQ_in, State.discardPasses_in, State.tearWrite_in, State.modSupply_in,
      State.modBelay_in, State.modStart_in, blank_set_cores, blank_ite, ite_self]

theorem execInputOvervoltage_in {m : Part → Bool} (s : State) (h : (mayChange .inputOvervoltage).all m = true) :
    OutIn m s (execInputOvervoltage s) := by
  simp [mayChange] at h
  unfold execInputOvervoltage
  refine outIn_next.2 ?_
  simp only [h, State.modSupply_in, State.event_in, blank_ite, ite_self]

theorem execHoldupRecharged_in {m : Part → Bool} (s : State) e above20 (h : (mayChange (.holdupRecharged e above20)).all m = true) :
    OutIn m s (execHoldupRecharged e above20 s) := by
  simp [mayChange] at h
  unfold execHoldupRecharged
  refine outIn_next.2 ?_
  simp only [h, State.modSupply_in, State.measureHoldup_in, blank_ite, ite_self]

theorem execHoldupMeasurement_in {m : Part → Bool} (s : State) e above20 (h : (mayChange (.holdupMeasurement e above20)).all m = true) :
    OutIn m s (execHoldupMeasurement e above20 s) := by
  simp [mayChange] at h
  unfold execHoldupMeasurement
  refine outIn_next.2 ?_
  simp only [h, State.measureHoldup_in, blank_ite, ite_self]

theorem execVqLoss_in {m : Part → Bool} (s : State) (h : (mayChange .vqLoss).all m = true) : OutIn m s (execVqLoss s) := by
  simp [mayChange] at h
  unfold execVqLoss
  refine outIn_next.2 ?_
  simp only [h, State.modSupply_in, State.event_in, State.enforceOutputs_in, blank_ite, ite_self]

theorem execVqRestored_in {m : Part → Bool} (s : State) (h : (mayChange .vqRestored).all m = true) : OutIn m s (execVqRestored s) := by
  simp [mayChange] at h
  unfold execVqRestored
  refine outIn_next.2 ?_
  simp only [h, State.modSupply_in, blank_ite, ite_self]

theorem execVqOvercurrent_in {m : Part → Bool} (s : State) (h : (mayChange .vqOvercurrent).all m = true) :
    OutIn m s (execVqOvercurrent s) := by
  simp [mayChange] at h
  unfold execVqOvercurrent
  refine outIn_next.2 ?_
  simp only [h, State.modSupply_in, State.event_in, blank_ite, ite_self]

theorem execProvStrapChange_in {m : Part → Bool} (s : State) (h : (mayChange .provStrapChange).all m = true) :
    OutIn m s (execProvStrapChange s) := by
  simp [mayChange] at h
  unfold execProvStrapChange
  refine outIn_next.2 ?_
  simp only [h, State.modSupply_in, State.modSeng_in, State.irqRaise_in, State.event_in, blank_ite, ite_self]

theorem execThermalShutdown_in {m : Part → Bool} (s : State) sensors (h : (mayChange (.thermalShutdown sensors)).all m = true) :
    OutIn m s (execThermalShutdown sensors s) := by
  simp [mayChange] at h
  unfold execThermalShutdown
  refine outIn_next.2 ?_
  simp only [h, State.safePath_in, State.dropAllQ_in, State.irqRaise_in, State.tripStr_in, State.discardPasses_in, State.modTherm_in,
      State.event_in, State.setBlock_in, State.hurryOut_in, blank_ite, ite_self, forEach_in, implies_true]

theorem execThermalHold_in {m : Part → Bool} (s : State) (h : (mayChange .thermalHold).all m = true) :
    OutIn m s (execThermalHold s) := by
  simp [mayChange] at h
  unfold execThermalHold
  refine outIn_next.2 ?_
  simp only [h, State.tearWrite_in, State.modStart_in, State.modCan_in, State.modEth_in, State.modTrav_in, blank_set_cores, blank_ite, ite_self,
      forEach_in, implies_true]

theorem execThermalRestart_in {m : Part → Bool} (s : State) f (h : (mayChange (.thermalRestart f)).all m = true) :
    OutIn m s (execThermalRestart f s) := by
  simp [mayChange, allBut] at h
  unfold execThermalRestart
  refine outIn_next.2 ?_
  simp only [h, State.endThermalHold_in, blank_ite, ite_self]

theorem execTraverseTriggerIssue_in {m : Part → Bool} (s : State) links busy bad
    (h : (mayChange (.traverseTriggerIssue links busy bad)).all m = true) :
    OutIn m s (execTraverseTriggerIssue links busy bad s) := by
  simp [mayChange, allBut] at h
  unfold execTraverseTriggerIssue
  refine outIn_next.2 ?_
  repeat' first
    | simp only [h, State.spoilCopies_in, State.clearFrames_in, State.abandon_in, State.overrun_in, State.boundary_in, State.flushCasts_in,
        State.modBal_in, State.takeSource_in, State.modTrav_in, State.modCorr_in, State.notePeriod_in, State.slowBoundary_in, State.openBuf_in,
        State.triggerRope_in, State.modBStr_in, State.linkEntries_in, State.irqRaise_in, State.event_in, State.modStart_in, blank_ite, ite_self,
        forEach_in, implies_true]
    | refine forEach_next (fun _ _ => ?_) ?_
    | split

theorem execReplyReceived_in {m : Part → Bool} (s : State) a0 e kind p data (h : (mayChange (.replyReceived a0 e kind p data)).all m = true) :
    OutIn m s (execReplyReceived a0 e kind p data s) := by
  simp [mayChange, allBut] at h
  unfold execReplyReceived
  refine outIn_next.2 ?_
  repeat' first
    | simp only [h, State.endReply_in, State.portStat_in, State.portEvent_in, State.modTrav_in, State.replyMissing_in, State.classify_in,
        State.readStatus_in, State.replyTaken_in, State.replyLost_in, State.countPos_in, State.modRope_in, State.countFailure_in, State.runRope_in,
        blank_ite, ite_self]
    | split

theorem execReplyTimeout_in {m : Part → Bool} (s : State) a0 e kind p noLock (h : (mayChange (.replyTimeout a0 e kind p noLock)).all m = true) :
    OutIn m s (execReplyTimeout a0 e kind p noLock s) := by
  simp [mayChange, allBut] at h
  unfold execReplyTimeout
  refine outIn_next.2 ?_
  simp only [h, State.endReply_in, State.replyMissing_in, State.runRope_in, blank_ite, ite_self]

theorem execDistributorDeliver_in {m : Part → Bool} (s : State) stall (h : (mayChange (.distributorDeliver stall)).all m = true) :
    OutIn m s (execDistributorDeliver stall s) := by
  simp [mayChange, allBut] at h
  unfold execDistributorDeliver
  refine outIn_next.2 ?_
  simp only [h, State.serviceAll_in, State.passQueue_in, forEach_in, implies_true]

theorem execBelayReplyEval_in {m : Part → Bool} (s : State) (h : (mayChange .belayReplyEval).all m = true) :
    OutIn m s (execBelayReplyEval s) := by
  simp [mayChange] at h
  unfold execBelayReplyEval
  refine outIn_next.2 ?_
  simp only [h, State.modTrav_in, State.belayPiece_in, blank_ite, ite_self, forEach_in, implies_true]

theorem execEnvelopeTrip_in {m : Part → Bool} (s : State) a0 (h : (mayChange (.envelopeTrip a0)).all m = true) :
    OutIn m s (execEnvelopeTrip a0 s) := by
  simp [mayChange] at h
  unfold execEnvelopeTrip
  refine outIn_next.2 ?_
  repeat' first
    | simp only [h, State.modBStr_in, State.tripStr_in, State.irqRaise_in, State.event_in, forEach_in, implies_true]
    | refine forEach_next (fun _ _ => ?_) ?_
    | split

theorem execUnseenLimitReached_in {m : Part → Bool} (s : State) a0 (h : (mayChange (.unseenLimitReached a0)).all m = true) :
    OutIn m s (execUnseenLimitReached a0 s) := by
  simp [mayChange] at h
  unfold execUnseenLimitReached
  refine outIn_next.2 ?_
  repeat' first
    | simp only [h, State.modBStr_in, State.tripStr_in, State.modRope_in, State.irqRaise_in, State.event_in, forEach_in, implies_true]
    | refine forEach_next (fun _ _ => ?_) ?_
    | split

theorem execMissingTraverseDetect_in {m : Part → Bool} (s : State) (h : (mayChange .missingTraverseDetect).all m = true) :
    OutIn m s (execMissingTraverseDetect s) := by
  simp [mayChange] at h
  unfold execMissingTraverseDetect
  refine outIn_next.2 ?_
  simp only [h, State.modBelay_in, State.countMissing_in, State.irqRaise_in, State.event_in, blank_ite, ite_self, forEach_in, implies_true]

theorem execMissingTraverseInterval_in {m : Part → Bool} (s : State) (h : (mayChange .missingTraverseInterval).all m = true) :
    OutIn m s (execMissingTraverseInterval s) := by
  simp [mayChange] at h
  unfold execMissingTraverseInterval
  refine outIn_next.2 ?_
  simp only [h, State.modBelay_in, State.countMissing_in, blank_ite, ite_self, forEach_in, implies_true]

theorem execTraverseComplete_in {m : Part → Bool} (s : State) (h : (mayChange .traverseComplete).all m = true) :
    OutIn m s (execTraverseComplete s) := by
  simp [mayChange, allBut] at h
  unfold execTraverseComplete
  refine outIn_next.2 ?_
  simp only [h, State.complete_in, blank_ite, ite_self]

theorem execLinkSenseLost_in {m : Part → Bool} (s : State) b (h : (mayChange (.linkSenseLost b)).all m = true) :
    OutIn m s (execLinkSenseLost b s) := by
  simp [mayChange] at h
  unfold execLinkSenseLost
  refine outIn_next.2 ?_
  simp only [h, State.modBank_in, State.faultBank_in, blank_ite, ite_self]

theorem execRopeModeChange_in {m : Part → Bool} (s : State) a0 (h : (mayChange (.ropeModeChange a0)).all m = true) :
    OutIn m s (execRopeModeChange a0 s) := by
  simp [mayChange] at h
  unfold execRopeModeChange
  refine outIn_next.2 ?_
  simp only [h, State.boundaryRope_in]

theorem execPortToSpare_in {m : Part → Bool} (s : State) port (h : (mayChange (.portToSpare port)).all m = true) :
    OutIn m s (execPortToSpare port s) := by
  simp [mayChange] at h
  unfold execPortToSpare
  refine outIn_next.2 ?_
  simp only [h, State.boundaryPort_in]

theorem execSlowRoundComplete_in {m : Part → Bool} (s : State) (h : (mayChange .slowRoundComplete).all m = true) :
    OutIn m s (execSlowRoundComplete s) := by
  simp [mayChange] at h
  unfold execSlowRoundComplete
  refine outIn_next.2 ?_
  simp only [h, State.dmaDrain_in, State.modTrav_in, State.irqRaise_in, State.countSlowUnseen_in, State.modBStr_in, State.modStart_in,
      State.takeSlow_in, blank_ite, ite_self, forEach_in, implies_true]

theorem execRollCallRequest_in {m : Part → Bool} (s : State) src a1 v (h : (mayChange (.rollCallRequest src a1 v)).all m = true) :
    OutIn m s (execRollCallRequest src a1 v s) := by
  simp [mayChange] at h
  refine plainCommand_in (by simp only [plainParts, List.all_cons, List.all_nil, h, Bool.and_self]) (fun _ _ => ?_) fun _ => ?_
  · simp only [h, State.applyRollCall_in]
  · rfl

theorem execRollCallComplete_in {m : Part → Bool} (s : State) a0 a b (h : (mayChange (.rollCallComplete a0 a b)).all m = true) :
    OutIn m s (execRollCallComplete a0 a b s) := by
  simp [mayChange] at h
  unfold execRollCallComplete
  refine outIn_next.2 ?_
  simp only [h, State.rollCallEnds_in, State.modStart_in, blank_ite, ite_self]

theorem execPartialRollCallComplete_in {m : Part → Bool} (s : State) a0 nodes (h : (mayChange (.partialRollCallComplete a0 nodes)).all m = true) :
    OutIn m s (execPartialRollCallComplete a0 nodes s) := by
  simp [mayChange] at h
  unfold execPartialRollCallComplete
  refine outIn_next.2 ?_
  repeat' first
    | simp only [h, State.rollEnd_in, State.noteCount_in, State.modRope_in, State.refuseRope_in, State.modEnd_in, blank_ite]
    | split

theorem execRopeModeReq_in {m : Part → Bool} (s : State) src a1 v (h : (mayChange (.ropeModeReq src a1 v)).all m = true) :
    OutIn m s (execRopeModeReq src a1 v s) := by
  simp [mayChange] at h
  refine plainCommand_in (by simp only [plainParts, List.all_cons, List.all_nil, h, Bool.and_self]) (fun _ _ => ?_) fun _ => ?_
  · simp only [h, State.applyRopeModeReq_in]
  · rfl

theorem execStatsClear_in {m : Part → Bool} (s : State) src a1 v (h : (mayChange (.statsClear src a1 v)).all m = true) :
    OutIn m s (execStatsClear src a1 v s) := by
  simp [mayChange] at h
  refine plainCommand_in (by simp only [plainParts, List.all_cons, List.all_nil, h, Bool.and_self]) (fun _ _ => ?_) fun _ => ?_
  · simp only [h, State.applyStatsClear_in]
  · rfl

theorem execRollCallA_in {m : Part → Bool} (s : State) f (h : (mayChange (.rollCallA f)).all m = true) :
    OutIn m s (execRollCallA f s) := by
  simp [mayChange] at h
  unfold execRollCallA
  refine outIn_next.2 ?_
  simp only [h, State.nodeFrame_in]

theorem execRollCallB_in {m : Part → Bool} (s : State) f (h : (mayChange (.rollCallB f)).all m = true) :
    OutIn m s (execRollCallB f s) := by
  simp [mayChange] at h
  unfold execRollCallB
  refine outIn_next.2 ?_
  simp only [h, State.nodeFrame_in]

theorem execHopEcho_in {m : Part → Bool} (s : State) f (h : (mayChange (.hopEcho f)).all m = true) : OutIn m s (execHopEcho f s) := by
  simp [mayChange] at h
  unfold execHopEcho
  refine outIn_next.2 ?_
  simp only [h, State.nodeFrame_in]

theorem execSetServe_in {m : Part → Bool} (s : State) f (h : (mayChange (.setServe f)).all m = true) :
    OutIn m s (execSetServe f s) := by
  simp [mayChange] at h
  unfold execSetServe
  refine outIn_next.2 ?_
  simp only [h, State.nodeFrame_in]

theorem execContinuity_in {m : Part → Bool} (s : State) f (h : (mayChange (.continuity f)).all m = true) :
    OutIn m s (execContinuity f s) := by
  simp [mayChange] at h
  unfold execContinuity
  refine outIn_next.2 ?_
  simp only [h, State.nodeFrame_in]

theorem execTrigger_in {m : Part → Bool} (s : State) f (h : (mayChange (.trigger f)).all m = true) : OutIn m s (execTrigger f s) := by
  simp [mayChange] at h
  unfold execTrigger
  refine outIn_next.2 ?_
  simp only [h, State.nodeFrame_in]

theorem execLatchStrobe_in {m : Part → Bool} (s : State) a0 place history temps hk hot
    (h : (mayChange (.latchStrobe a0 place history temps hk hot)).all m = true) :
    OutIn m s (execLatchStrobe a0 place history temps hk hot s) := by
  simp [mayChange] at h
  unfold execLatchStrobe
  refine outIn_next.2 ?_
  simp only [h, State.modNode_in]

theorem execRecessStart_in {m : Part → Bool} (s : State) a0 place (h : (mayChange (.recessStart a0 place)).all m = true) :
    OutIn m s (execRecessStart a0 place s) := by
  simp [mayChange] at h
  unfold execRecessStart
  refine outIn_next.2 ?_
  simp only [h, State.modNode_in]

theorem execReadHeld_in {m : Part → Bool} (s : State) f (h : (mayChange (.readHeld f)).all m = true) :
    OutIn m s (execReadHeld f s) := by
  simp [mayChange] at h
  unfold execReadHeld
  refine outIn_next.2 ?_
  simp only [h, State.nodeFrame_in]

theorem execReadTemp_in {m : Part → Bool} (s : State) f (h : (mayChange (.readTemp f)).all m = true) :
    OutIn m s (execReadTemp f s) := by
  simp [mayChange] at h
  unfold execReadTemp
  refine outIn_next.2 ?_
  simp only [h, State.nodeFrame_in]

theorem execReadHk_in {m : Part → Bool} (s : State) f (h : (mayChange (.readHk f)).all m = true) : OutIn m s (execReadHk f s) := by
  simp [mayChange] at h
  unfold execReadHk
  refine outIn_next.2 ?_
  simp only [h, State.nodeFrame_in]

theorem execOpenWire_in {m : Part → Bool} (s : State) f open_ (h : (mayChange (.openWire f open_)).all m = true) :
    OutIn m s (execOpenWire f open_ s) := by
  simp [mayChange] at h
  unfold execOpenWire
  refine outIn_next.2 ?_
  simp only [h, State.nodeFrame_in]

theorem execSetBalance_in {m : Part → Bool} (s : State) f (h : (mayChange (.setBalance f)).all m = true) :
    OutIn m s (execSetBalance f s) := by
  simp [mayChange] at h
  unfold execSetBalance
  refine outIn_next.2 ?_
  simp only [h, State.nodeFrame_in]

theorem execSetFilter_in {m : Part → Bool} (s : State) f (h : (mayChange (.setFilter f)).all m = true) :
    OutIn m s (execSetFilter f s) := by
  simp [mayChange] at h
  unfold execSetFilter
  refine outIn_next.2 ?_
  simp only [h, State.nodeFrame_in]

theorem execSetConfig_in {m : Part → Bool} (s : State) f (h : (mayChange (.setConfig f)).all m = true) :
    OutIn m s (execSetConfig f s) := by
  simp [mayChange] at h
  unfold execSetConfig
  refine outIn_next.2 ?_
  simp only [h, State.nodeFrame_in]

theorem execBaseCamp_in {m : Part → Bool} (s : State) f (h : (mayChange (.baseCamp f)).all m = true) :
    OutIn m s (execBaseCamp f s) := by
  simp [mayChange] at h
  unfold execBaseCamp
  refine outIn_next.2 ?_
  simp only [h, State.nodeFrame_in]

theorem execNop_in {m : Part → Bool} (s : State) f (h : (mayChange (.nop f)).all m = true) : OutIn m s (execNop f s) := by
  simp [mayChange] at h
  unfold execNop
  refine outIn_next.2 ?_
  simp only [h, State.nodeFrame_in]

theorem execCommLossTimeout_in {m : Part → Bool} (s : State) a0 place (h : (mayChange (.commLossTimeout a0 place)).all m = true) :
    OutIn m s (execCommLossTimeout a0 place s) := by
  simp [mayChange] at h
  unfold execCommLossTimeout
  refine outIn_next.2 ?_
  simp only [h, State.modNode_in]

theorem execBaseCampWakeMeasure_in {m : Part → Bool} (s : State) a0 place cells temps
    (h : (mayChange (.baseCampWakeMeasure a0 place cells temps)).all m = true) :
    OutIn m s (execBaseCampWakeMeasure a0 place cells temps s) := by
  simp [mayChange] at h
  unfold execBaseCampWakeMeasure
  refine outIn_next.2 ?_
  simp only [h, State.modNode_in]

theorem execWakeToneSend_in {m : Part → Bool} (s : State) a0 place (h : (mayChange (.wakeToneSend a0 place)).all m = true) :
    OutIn m s (execWakeToneSend a0 place s) := by
  simp [mayChange] at h
  unfold execWakeToneSend
  refine outIn_next.2 ?_
  simp only [h, State.modNode_in]

theorem execWakeToneRepeat_in {m : Part → Bool} (s : State) a0 place e (h : (mayChange (.wakeToneRepeat a0 place e)).all m = true) :
    OutIn m s (execWakeToneRepeat a0 place e s) := by
  simp [mayChange] at h
  unfold execWakeToneRepeat
  refine outIn_next.2 ?_
  simp only [h, State.modNode_in]

theorem execTravPeriodWrite_in {m : Part → Bool} (s : State) r (h : (mayChange (.travPeriodWrite r)).all m = true) :
    OutIn m s (execTravPeriodWrite r s) := by
  simp [mayChange, allBut] at h
  unfold execTravPeriodWrite
  have hseal : requestParts.all m = true := by simp only [requestParts, List.all_cons, List.all_nil, h, Bool.and_self]
  refine outIn_next.2 ?_
  repeat' first
    | refine sealedCommand_in hseal fun _ => ?_
    | simp only [h, State.applyRequest_in, blank_ite]
    | split

theorem execRecessWrite_in {m : Part → Bool} (s : State) src v (h : (mayChange (.recessWrite src v)).all m = true) :
    OutIn m s (execRecessWrite src v s) := by
  simp [mayChange] at h
  refine plainCommand_in (by simp only [plainParts, List.all_cons, List.all_nil, h, Bool.and_self]) (fun _ _ => ?_) fun _ => ?_
  · simp only [h, State.applyRecess_in]
  · rfl

theorem execSlowPeriodWrite_in {m : Part → Bool} (s : State) r (h : (mayChange (.slowPeriodWrite r)).all m = true) :
    OutIn m s (execSlowPeriodWrite r s) := by
  simp [mayChange, allBut] at h
  unfold execSlowPeriodWrite
  have hseal : requestParts.all m = true := by simp only [requestParts, List.all_cons, List.all_nil, h, Bool.and_self]
  refine outIn_next.2 ?_
  repeat' first
    | refine sealedCommand_in hseal fun _ => ?_
    | simp only [h, State.applyRequest_in, blank_ite]
    | split

theorem execBalModeWrite_in {m : Part → Bool} (s : State) src v (h : (mayChange (.balModeWrite src v)).all m = true) :
    OutIn m s (execBalModeWrite src v s) := by
  simp [mayChange] at h
  refine plainCommand_in (by simp only [plainParts, List.all_cons, List.all_nil, h, Bool.and_self]) (fun _ _ => ?_) fun _ => ?_
  · simp only [h, State.applyBalMode_in]
  · rfl

theorem execBalMaskReqWrite_in {m : Part → Bool} (s : State) src a1 data (h : (mayChange (.balMaskReqWrite src a1 data)).all m = true) :
    OutIn m s (execBalMaskReqWrite src a1 data s) := by
  simp [mayChange] at h
  refine plainCommand_in (by simp only [plainParts, List.all_cons, List.all_nil, h, Bool.and_self]) (fun _ _ => ?_) fun _ => ?_
  · simp only [h, State.applyBalMask_in]
  · rfl

theorem execBalDirectHoldExpiry_in {m : Part → Bool} (s : State) a0 (h : (mayChange (.balDirectHoldExpiry a0)).all m = true) :
    OutIn m s (execBalDirectHoldExpiry a0 s) := by
  simp [mayChange] at h
  unfold execBalDirectHoldExpiry
  refine outIn_next.2 ?_
  repeat' first
    | simp only [h, State.modBal_in, State.setVal_in, State.zeroString_in, State.portEvent_in, blank_ite, ite_self, forEach_in, implies_true]
    | refine forEach_next (fun _ _ => ?_) ?_
    | split

theorem execOpenWireTestDue_in {m : Part → Bool} (s : State) (h : (mayChange .openWireTestDue).all m = true) :
    OutIn m s (execOpenWireTestDue s) := by
  simp [mayChange] at h
  unfold execOpenWireTestDue
  refine outIn_next.2 ?_
  repeat' first
    | simp only [h, State.modBal_in, State.noteDeferred_in, blank_ite, forEach_in, implies_true]
    | refine forEach_next (fun _ _ => ?_) ?_
    | split

theorem execOwDeferExpiry_in {m : Part → Bool} (s : State) a0 p j (h : (mayChange (.owDeferExpiry a0 p j)).all m = true) :
    OutIn m s (execOwDeferExpiry a0 p j s) := by
  simp [mayChange] at h
  unfold execOwDeferExpiry
  refine outIn_next.2 ?_
  repeat' first
    | simp only [h, State.modBal_in, State.sendMask_in, State.portEvent_in, blank_ite, ite_self]
    | split

theorem execBaseCampEnterReq_in {m : Part → Bool} (s : State) src (h : (mayChange (.baseCampEnterReq src)).all m = true) :
    OutIn m s (execBaseCampEnterReq src s) := by
  simp [mayChange, allBut] at h
  refine plainCommand_in (by simp only [plainParts, List.all_cons, List.all_nil, h, Bool.and_self]) (fun _ _ => ?_) fun _ => ?_
  · simp only [h, State.applyCampEnter_in]
  · rfl

theorem execBaseCampLeaveReq_in {m : Part → Bool} (s : State) src core gates (h : (mayChange (.baseCampLeaveReq src core gates)).all m = true) :
    OutIn m s (execBaseCampLeaveReq src core gates s) := by
  simp [mayChange] at h
  refine plainCommand_in (by simp only [plainParts, List.all_cons, List.all_nil, h, Bool.and_self]) (fun _ _ => ?_) fun _ => ?_
  · simp only [h, State.wake_in, appliedIn_ok]
  · rfl

theorem execWakeToneDetected_in {m : Part → Bool} (s : State) a0 e core gates (h : (mayChange (.wakeToneDetected a0 e core gates)).all m = true) :
    OutIn m s (execWakeToneDetected a0 e core gates s) := by
  simp [mayChange] at h
  unfold execWakeToneDetected
  refine outIn_next.2 ?_
  simp only [h, State.wake_in, blank_ite, ite_self]

theorem execWakeInRise_in {m : Part → Bool} (s : State) core gates (h : (mayChange (.wakeInRise core gates)).all m = true) :
    OutIn m s (execWakeInRise core gates s) := by
  simp [mayChange] at h
  unfold execWakeInRise
  refine outIn_next.2 ?_
  simp only [h, State.modSupply_in, State.wake_in]

theorem execBaseCampExitComplete_in {m : Part → Bool} (s : State) (h : (mayChange .baseCampExitComplete).all m = true) :
    OutIn m s (execBaseCampExitComplete s) := by
  simp [mayChange] at h
  unfold execBaseCampExitComplete
  refine outIn_next.2 ?_
  simp only [h, State.modBal_in, State.setBlock_in, State.modCan_in, State.takeMode_in, blank_ite, ite_self, forEach_in, implies_true]

theorem execWakeOutAck_in {m : Part → Bool} (s : State) src v (h : (mayChange (.wakeOutAck src v)).all m = true) :
    OutIn m s (execWakeOutAck src v s) := by
  simp [mayChange] at h
  refine plainCommand_in (by simp only [plainParts, List.all_cons, List.all_nil, h, Bool.and_self]) (fun _ _ => ?_) fun _ => ?_
  · simp only [h, State.applyWakeOutCfg_in]
  · rfl

theorem execCorrelationUpdate_in {m : Part → Bool} (s : State) (h : (mayChange .correlationUpdate).all m = true) :
    OutIn m s (execCorrelationUpdate s) := by
  simp [mayChange] at h
  unfold execCorrelationUpdate
  refine outIn_next.2 ?_
  simp only [h, State.endBatch_in, State.newPeriod_in, State.modCorr_in, State.event_in, State.corrSkip_in, State.corrString_in, blank_ite,
      ite_self, forEach_in, implies_true]

theorem execBatchHandover_in {m : Part → Bool} (s : State) (h : (mayChange .batchHandover).all m = true) :
    OutIn m s (execBatchHandover s) := by
  simp [mayChange] at h
  unfold execBatchHandover
  refine outIn_next.2 ?_
  simp only [h, State.endBatch_in, blank_ite, ite_self]

theorem execResultTaken_in {m : Part → Bool} (s : State) (h : (mayChange .resultTaken).all m = true) :
    OutIn m s (execResultTaken s) := by
  simp [mayChange] at h
  unfold execResultTaken
  refine outIn_next.2 ?_
  repeat' first
    | simp only [h, State.solveBatch_in, State.modCorr_in, State.writeArea_in, blank_ite, ite_self]
    | split

theorem execCorrEnableWrite_in {m : Part → Bool} (s : State) src v (h : (mayChange (.corrEnableWrite src v)).all m = true) :
    OutIn m s (execCorrEnableWrite src v s) := by
  simp [mayChange] at h
  refine plainCommand_in (by simp only [plainParts, List.all_cons, List.all_nil, h, Bool.and_self]) (fun _ _ => ?_) fun _ => ?_
  · simp only [h, State.setVal_in, appliedIn_ok]
  · rfl

theorem execSdWindowEnd_in {m : Part → Bool} (s : State) (h : (mayChange .sdWindowEnd).all m = true) :
    OutIn m s (execSdWindowEnd s) := by
  simp [mayChange] at h
  unfold execSdWindowEnd
  refine outIn_next.2 ?_
  simp only [h, State.sdString_in, State.modCorr_in, blank_ite, ite_self, forEach_in, implies_true]

theorem execEstimatorStep_in {m : Part → Bool} (s : State) erases (h : (mayChange (.estimatorStep erases)).all m = true) :
    OutIn m s (execEstimatorStep erases s) := by
  simp [mayChange] at h
  unfold execEstimatorStep
  refine outIn_next.2 ?_
  repeat' first
    | simp only [h, State.modEst_in, State.settleCells_in, State.takeTables_in, State.takeProfile_in, State.stepString_in, State.stepExcluded_in,
        State.markWarn_in, State.bankLimits_in, State.stepReported_in, State.modStore_in, State.modHealth_in, State.checkWear_in, State.event_in,
        State.writeBack_in, blank_ite, ite_self, forEach_in, implies_true]
    | refine forEach_next (fun _ _ => ?_) ?_
    | split

theorem execLearnWriteReq_in {m : Part → Bool} (s : State) src v (h : (mayChange (.learnWriteReq src v)).all m = true) :
    OutIn m s (execLearnWriteReq src v s) := by
  simp [mayChange] at h
  refine plainCommand_in (by simp only [plainParts, List.all_cons, List.all_nil, h, Bool.and_self]) (fun _ _ => ?_) fun _ => ?_
  · simp only [h, State.applyLearnWriteReq_in]
  · rfl

theorem execLearnWritebackPeriodic_in {m : Part → Bool} (s : State) (h : (mayChange .learnWritebackPeriodic).all m = true) :
    OutIn m s (execLearnWritebackPeriodic s) := by
  simp [mayChange] at h
  unfold execLearnWritebackPeriodic
  refine outIn_next.2 ?_
  simp only [h, State.modStore_in, State.writeBack_in, blank_ite, ite_self]

theorem execLearnedCopyWritten_in {m : Part → Bool} (s : State) (h : (mayChange .learnedCopyWritten).all m = true) :
    OutIn m s (execLearnedCopyWritten s) := by
  simp [mayChange, allBut] at h
  unfold execLearnedCopyWritten
  refine outIn_next.2 ?_
  repeat' first
    | simp only [h, State.copyWritten_in, State.campNext_in]
    | split

theorem execClose_in {m : Part → Bool} (s : State) head a1 v (h : (mayChange (.close head a1 v)).all m = true) :
    OutIn m s (execClose head a1 v s) := by
  simp [mayChange] at h
  unfold execClose
  have hseal : requestParts.all m = true := by simp only [requestParts, List.all_cons, List.all_nil, h, Bool.and_self]
  refine outIn_next.2 ?_
  repeat' first
    | refine sealedCommand_in hseal fun _ => ?_
    | simp only [h, State.createPass_in]

theorem execPrecharge_in {m : Part → Bool} (s : State) head b v (h : (mayChange (.precharge head b v)).all m = true) :
    OutIn m s (execPrecharge head b v s) := by
  simp [mayChange] at h
  unfold execPrecharge
  have hseal : requestParts.all m = true := by simp only [requestParts, List.all_cons, List.all_nil, h, Bool.and_self]
  refine outIn_next.2 ?_
  repeat' first
    | refine sealedCommand_in hseal fun _ => ?_
    | simp only [h, State.createPass_in]

theorem execUnlock_in {m : Part → Bool} (s : State) head a1 v (h : (mayChange (.unlock head a1 v)).all m = true) :
    OutIn m s (execUnlock head a1 v s) := by
  simp [mayChange] at h
  unfold execUnlock
  have hseal : requestParts.all m = true := by simp only [requestParts, List.all_cons, List.all_nil, h, Bool.and_self]
  refine outIn_next.2 ?_
  repeat' first
    | refine sealedCommand_in hseal fun _ => ?_
    | simp only [h, State.createPass_in]

theorem execHallPassTaken_in {m : Part → Bool} (s : State) (h : (mayChange .hallPassTaken).all m = true) :
    OutIn m s (execHallPassTaken s) := by
  simp [mayChange] at h
  unfold execHallPassTaken
  refine outIn_next.2 ?_
  repeat' first
    | simp only [h, State.modBelay_in, State.event_in, State.finishAction_in, State.irqRaise_in, State.takeQPass_in, State.unlockStr_in,
        State.takeClosePass_in, blank_ite, ite_self]
    | split

theorem execHallPassExpiry_in {m : Part → Bool} (s : State) t (h : (mayChange (.hallPassExpiry t)).all m = true) :
    OutIn m s (execHallPassExpiry t s) := by
  simp [mayChange] at h
  unfold execHallPassExpiry
  refine outIn_next.2 ?_
  repeat' first
    | simp only [h, State.expireClose_in, State.expireQ_in]
    | split

theorem execCloseGrant_in {m : Part → Bool} (s : State) a0 (h : (mayChange (.closeGrant a0)).all m = true) :
    OutIn m s (execCloseGrant a0 s) := by
  simp [mayChange] at h
  unfold execCloseGrant
  refine outIn_next.2 ?_
  simp only [h, State.modStr_in, State.grantLowest_in, blank_ite, ite_self]

theorem execStringClosed_in {m : Part → Bool} (s : State) a0 (h : (mayChange (.stringClosed a0)).all m = true) :
    OutIn m s (execStringClosed a0 s) := by
  simp [mayChange] at h
  unfold execStringClosed
  refine outIn_next.2 ?_
  simp only [h, State.setStr_in, State.event_in, State.modBank_in, State.setBank_in, blank_ite, ite_self]

theorem execHoldoffClear_in {m : Part → Bool} (s : State) b (h : (mayChange (.holdoffClear b)).all m = true) :
    OutIn m s (execHoldoffClear b s) := by
  simp [mayChange] at h
  unfold execHoldoffClear
  refine outIn_next.2 ?_
  simp only [h, State.modBank_in, State.grantLowest_in, blank_ite, ite_self]

theorem execPrechargeStart_in {m : Part → Bool} (s : State) b (h : (mayChange (.prechargeStart b)).all m = true) :
    OutIn m s (execPrechargeStart b s) := by
  simp [mayChange] at h
  unfold execPrechargeStart
  refine outIn_next.2 ?_
  repeat' first
    | simp only [h, State.modBank_in, State.setBank_in, State.irqRaise_in, State.event_in, blank_ite, ite_self]
    | split

theorem execPrechargeTargetReached_in {m : Part → Bool} (s : State) b link (h : (mayChange (.prechargeTargetReached b link)).all m = true) :
    OutIn m s (execPrechargeTargetReached b link s) := by
  simp [mayChange] at h
  unfold execPrechargeTargetReached
  refine outIn_next.2 ?_
  simp only [h, State.modBank_in, State.modGate_in, State.hbOff_in, State.irqRaise_in, State.event_in, blank_ite, ite_self]

theorem execPrechargeTimeout_in {m : Part → Bool} (s : State) b (h : (mayChange (.prechargeTimeout b)).all m = true) :
    OutIn m s (execPrechargeTimeout b s) := by
  simp [mayChange] at h
  unfold execPrechargeTimeout
  refine outIn_next.2 ?_
  repeat' first
    | simp only [h, State.modBank_in, State.endPrecharge_in, blank_ite, ite_self]
    | split

theorem execOpenString_in {m : Part → Bool} (s : State) src a1 v (h : (mayChange (.openString src a1 v)).all m = true) :
    OutIn m s (execOpenString src a1 v s) := by
  simp [mayChange] at h
  refine plainCommand_in (by simp only [plainParts, List.all_cons, List.all_nil, h, Bool.and_self]) (fun _ _ => ?_) fun _ => ?_
  · simp only [h, State.applyOpen_in]
  · rfl

theorem execBankOpen_in {m : Part → Bool} (s : State) src b v (h : (mayChange (.bankOpen src b v)).all m = true) :
    OutIn m s (execBankOpen src b v s) := by
  simp [mayChange] at h
  refine plainCommand_in (by simp only [plainParts, List.all_cons, List.all_nil, h, Bool.and_self]) (fun _ _ => ?_) fun _ => ?_
  · simp only [h, State.openBank_in, appliedIn_ok]
  · rfl

theorem execTripClear_in {m : Part → Bool} (s : State) src a1 v (h : (mayChange (.tripClear src a1 v)).all m = true) :
    OutIn m s (execTripClear src a1 v s) := by
  simp [mayChange] at h
  refine plainCommand_in (by simp only [plainParts, List.all_cons, List.all_nil, h, Bool.and_self]) (fun _ _ => ?_) fun _ => ?_
  · simp only [h, State.applyTripClear_in]
  · rfl

theorem execExcludeSet_in {m : Part → Bool} (s : State) src a1 (h : (mayChange (.excludeSet src a1)).all m = true) :
    OutIn m s (execExcludeSet src a1 s) := by
  simp [mayChange] at h
  refine plainCommand_in (by simp only [plainParts, List.all_cons, List.all_nil, h, Bool.and_self]) (fun _ _ => ?_) fun _ => ?_
  · simp only [h, State.applyExclude_in]
  · rfl

theorem execExcludeClear_in {m : Part → Bool} (s : State) src a1 (h : (mayChange (.excludeClear src a1)).all m = true) :
    OutIn m s (execExcludeClear src a1 s) := by
  simp [mayChange] at h
  refine plainCommand_in (by simp only [plainParts, List.all_cons, List.all_nil, h, Bool.and_self]) (fun _ _ => ?_) fun _ => ?_
  · simp only [h, State.applyExclude_in]
  · rfl

theorem execFaultClear_in {m : Part → Bool} (s : State) src b v (h : (mayChange (.faultClear src b v)).all m = true) :
    OutIn m s (execFaultClear src b v s) := by
  simp [mayChange] at h
  refine plainCommand_in (by simp only [plainParts, List.all_cons, List.all_nil, h, Bool.and_self]) (fun _ _ => ?_) fun _ => ?_
  · simp only [h, State.applyFaultClear_in]
  · rfl

theorem execDischargeTimeout_in {m : Part → Bool} (s : State) b (h : (mayChange (.dischargeTimeout b)).all m = true) :
    OutIn m s (execDischargeTimeout b s) := by
  simp [mayChange] at h
  unfold execDischargeTimeout
  refine outIn_next.2 ?_
  simp only [h, State.modBank_in, State.event_in, State.faultBank_in, blank_ite, ite_self]

theorem execGateClear_in {m : Part → Bool} (s : State) src b v (h : (mayChange (.gateClear src b v)).all m = true) :
    OutIn m s (execGateClear src b v s) := by
  simp [mayChange] at h
  refine plainCommand_in (by simp only [plainParts, List.all_cons, List.all_nil, h, Bool.and_self]) (fun _ _ => ?_) fun _ => ?_
  · simp only [h, State.applyGateClear_in]
  · rfl

theorem execGateSelftest_in {m : Part → Bool} (s : State) src c v (h : (mayChange (.gateSelftest src c v)).all m = true) :
    OutIn m s (execGateSelftest src c v s) := by
  simp [mayChange] at h
  refine plainCommand_in (by simp only [plainParts, List.all_cons, List.all_nil, h, Bool.and_self]) (fun _ _ => ?_) fun _ => rfl
  split
  · exact appliedIn_ok.2 rfl
  · simp only [h, State.applySelfTest_in]

theorem execGateSelftestComplete_in {m : Part → Bool} (s : State) c e (h : (mayChange (.gateSelftestComplete c e)).all m = true) :
    OutIn m s (execGateSelftestComplete c e s) := by
  simp [mayChange] at h
  unfold execGateSelftestComplete
  refine outIn_next.2 ?_
  simp only [h, State.endSelfTest_in, State.noteSelfTests_in]

theorem execGateRisingEdge_in {m : Part → Bool} (s : State) c (h : (mayChange (.gateRisingEdge c)).all m = true) :
    OutIn m s (execGateRisingEdge c s) := by
  simp [mayChange] at h
  unfold execGateRisingEdge
  refine outIn_next.2 ?_
  repeat' first
    | simp only [h, State.risePair_in, State.endDnPulse_in, State.abortTest_in, State.seeOn_in, blank_ite, ite_self]
    | split

theorem execGateFallingEdge_in {m : Part → Bool} (s : State) c (h : (mayChange (.gateFallingEdge c)).all m = true) :
    OutIn m s (execGateFallingEdge c s) := by
  simp [mayChange] at h
  unfold execGateFallingEdge
  refine outIn_next.2 ?_
  repeat' first
    | simp only [h, State.modGate_in, State.seeOff_in, blank_ite, ite_self]
    | split

theorem execDidtDetect_in {m : Part → Bool} (s : State) c level (h : (mayChange (.didtDetect c level)).all m = true) :
    OutIn m s (execDidtDetect c level s) := by
  simp [mayChange] at h
  unfold execDidtDetect
  refine outIn_next.2 ?_
  repeat' first
    | simp only [h, State.modGate_in, State.gateFault_in, blank_ite, ite_self]
    | split

theorem execBlankingEnd_in {m : Part → Bool} (s : State) c above (h : (mayChange (.blankingEnd c above)).all m = true) :
    OutIn m s (execBlankingEnd c above s) := by
  simp [mayChange] at h
  unfold execBlankingEnd
  refine outIn_next.2 ?_
  simp only [h, State.gateFault_in, State.modGate_in, State.gateEvent_in, blank_ite, ite_self]

theorem execUvloDetect_in {m : Part → Bool} (s : State) c neg low (h : (mayChange (.uvloDetect c neg low)).all m = true) :
    OutIn m s (execUvloDetect c neg low s) := by
  simp [mayChange] at h
  unfold execUvloDetect
  refine outIn_next.2 ?_
  simp only [h, State.railBack_in, State.modGate_in, State.secondFault_in, State.gateFault_in, State.irqRaise_in, blank_ite, ite_self]

theorem execReadbackFault_in {m : Part → Bool} (s : State) c e reached (h : (mayChange (.readbackFault c e reached)).all m = true) :
    OutIn m s (execReadbackFault c e reached s) := by
  simp [mayChange] at h
  unfold execReadbackFault
  refine outIn_next.2 ?_
  repeat' first
    | simp only [h, State.modGate_in, State.gateFault_in, blank_ite, ite_self]
    | split

theorem execGateFaultReport_in {m : Part → Bool} (s : State) c (h : (mayChange (.gateFaultReport c)).all m = true) :
    OutIn m s (execGateFaultReport c s) := by
  simp [mayChange] at h
  unfold execGateFaultReport
  refine outIn_next.2 ?_
  repeat' first
    | simp only [h, State.modGate_in, State.irqRaise_in, State.openWindow_in, State.countFault_in, State.tripStr_in, State.bridgeFault_in,
        State.clampFault_in, blank_ite, ite_self]
    | split

theorem execSoftOffEnd_in {m : Part → Bool} (s : State) c (h : (mayChange (.softOffEnd c)).all m = true) :
    OutIn m s (execSoftOffEnd c s) := by
  simp [mayChange] at h
  unfold execSoftOffEnd
  refine outIn_next.2 ?_
  simp only [h, State.modGate_in, blank_ite, ite_self]

theorem execCoincidentWindowEnd_in {m : Part → Bool} (s : State) (h : (mayChange .coincidentWindowEnd).all m = true) :
    OutIn m s (execCoincidentWindowEnd s) := by
  simp [mayChange] at h
  unfold execCoincidentWindowEnd
  refine outIn_next.2 ?_
  repeat' first
    | simp only [h, State.closeWindow_in, blank_ite, ite_self]
    | split

theorem execEnvelopeRecord_in {m : Part → Bool} (s : State) (h : (mayChange .envelopeRecord).all m = true) :
    OutIn m s (execEnvelopeRecord s) := by
  simp [mayChange, allBut] at h
  unfold execEnvelopeRecord
  refine outIn_next.2 ?_
  repeat' first
    | simp only [h, State.modBelay_in, State.takeRecord_in]
    | split

theorem execMirrorDigestCompare_in {m : Part → Bool} (s : State) (h : (mayChange .mirrorDigestCompare).all m = true) :
    OutIn m s (execMirrorDigestCompare s) := by
  simp [mayChange] at h
  unfold execMirrorDigestCompare
  refine outIn_next.2 ?_
  repeat' first
    | simp only [h, State.modBelay_in, State.irqRaise_in, State.repairMirror_in, blank_ite, ite_self]
    | split

theorem execTestPulseOff_in {m : Part → Bool} (s : State) k (h : (mayChange (.testPulseOff k)).all m = true) :
    OutIn m s (execTestPulseOff k s) := by
  simp [mayChange] at h
  unfold execTestPulseOff
  refine outIn_next.2 ?_
  simp only [h, State.modTp_in, blank_ite, ite_self]

theorem execCrossShortCheckSample_in {m : Part → Bool} (s : State) k before during
    (h : (mayChange (.crossShortCheckSample k before during)).all m = true) :
    OutIn m s (execCrossShortCheckSample k before during s) := by
  simp [mayChange] at h
  unfold execCrossShortCheckSample
  refine outIn_next.2 ?_
  simp only [h, State.modTp_in, State.modIn_in, State.latchXs_in, blank_ite, ite_self, forEach_in, implies_true]

theorem execTestPulseSupplyFault_in {m : Part → Bool} (s : State) k cause (h : (mayChange (.testPulseSupplyFault k cause)).all m = true) :
    OutIn m s (execTestPulseSupplyFault k cause s) := by
  simp [mayChange] at h
  unfold execTestPulseSupplyFault
  refine outIn_next.2 ?_
  simp only [h, State.modTp_in, State.modIn_in, State.irqRaise_in, State.event_in, blank_ite, ite_self, forEach_in, implies_true]

theorem execTpClear_in {m : Part → Bool} (s : State) src v (h : (mayChange (.tpClear src v)).all m = true) :
    OutIn m s (execTpClear src v s) := by
  simp [mayChange] at h
  refine plainCommand_in (by simp only [plainParts, List.all_cons, List.all_nil, h, Bool.and_self]) (fun _ _ => ?_) fun _ => ?_
  · simp only [h, State.applyTpClear_in]
  · rfl

theorem execInputTick_in {m : Part → Bool} (s : State) openA openB (h : (mayChange (.inputTick openA openB)).all m = true) :
    OutIn m s (execInputTick openA openB s) := by
  simp [mayChange] at h
  unfold execInputTick
  refine outIn_next.2 ?_
  simp only [h, State.latchDisc_in, State.loseSm_in, State.tickInput_in, State.modSm_in, State.settleStreams_in, State.endCycles_in,
      State.noteInputs_in, blank_set_io, blank_ite, ite_self, forEach_in, implies_true]

theorem execDiscrepancyFault_in {m : Part → Bool} (s : State) a0 (h : (mayChange (.discrepancyFault a0)).all m = true) :
    OutIn m s (execDiscrepancyFault a0 s) := by
  simp [mayChange] at h
  unfold execDiscrepancyFault
  refine outIn_next.2 ?_
  simp only [h, State.latchDisc_in, State.noteInputs_in]

theorem execQRequest_in {m : Part → Bool} (s : State) src v (h : (mayChange (.qRequest src v)).all m = true) :
    OutIn m s (execQRequest src v s) := by
  simp [mayChange] at h
  refine plainCommand_in (by simp only [plainParts, List.all_cons, List.all_nil, h, Bool.and_self]) (fun _ _ => ?_) fun _ => ?_
  · simp only [h, State.applyQRequest_in]
  · rfl

theorem execQEnergise_in {m : Part → Bool} (s : State) head v (h : (mayChange (.qEnergise head v)).all m = true) :
    OutIn m s (execQEnergise head v s) := by
  simp [mayChange] at h
  unfold execQEnergise
  have hseal : requestParts.all m = true := by simp only [requestParts, List.all_cons, List.all_nil, h, Bool.and_self]
  refine outIn_next.2 ?_
  repeat' first
    | refine sealedCommand_in hseal fun _ => ?_
    | simp only [h, State.createPass_in]

theorem execQDrop_in {m : Part → Bool} (s : State) src v (h : (mayChange (.qDrop src v)).all m = true) :
    OutIn m s (execQDrop src v s) := by
  simp [mayChange] at h
  refine plainCommand_in (by simp only [plainParts, List.all_cons, List.all_nil, h, Bool.and_self]) (fun _ _ => ?_) fun _ => ?_
  · simp only [h, State.applyQDrop_in]
  · rfl

theorem execQClear_in {m : Part → Bool} (s : State) src v (h : (mayChange (.qClear src v)).all m = true) :
    OutIn m s (execQClear src v s) := by
  simp [mayChange] at h
  refine plainCommand_in (by simp only [plainParts, List.all_cons, List.all_nil, h, Bool.and_self]) (fun _ _ => ?_) fun _ => ?_
  · simp only [h, State.applyQClear_in]
  · rfl

theorem execPullInEnd_in {m : Part → Bool} (s : State) q (h : (mayChange (.pullInEnd q)).all m = true) :
    OutIn m s (execPullInEnd q s) := by
  simp [mayChange] at h
  unfold execPullInEnd
  refine outIn_next.2 ?_
  simp only [h, State.serveQ_in, State.modQ_in, blank_ite, ite_self]

theorem execOutputOffPulse_in {m : Part → Bool} (s : State) q fell vqLow (h : (mayChange (.outputOffPulse q fell vqLow)).all m = true) :
    OutIn m s (execOutputOffPulse q fell vqLow s) := by
  simp [mayChange] at h
  unfold execOutputOffPulse
  refine outIn_next.2 ?_
  repeat' first
    | simp only [h, State.modQ_in, State.faultQ_in, blank_ite, ite_self]
    | split

theorem execOutputReadbackFault_in {m : Part → Bool} (s : State) q code vqLow (h : (mayChange (.outputReadbackFault q code vqLow)).all m = true) :
    OutIn m s (execOutputReadbackFault q code vqLow s) := by
  simp [mayChange] at h
  unfold execOutputReadbackFault
  refine outIn_next.2 ?_
  simp only [h, State.faultQ_in, State.modQ_in, blank_ite, ite_self]

theorem execOpenLoad_in {m : Part → Bool} (s : State) q below (h : (mayChange (.openLoad q below)).all m = true) :
    OutIn m s (execOpenLoad q below s) := by
  simp [mayChange] at h
  unfold execOpenLoad
  refine outIn_next.2 ?_
  simp only [h, State.modQ_in, State.event_in, blank_ite, ite_self]

theorem execSafeCopyReceived_in {m : Part → Bool} (s : State) net id data (h : (mayChange (.safeCopyReceived net id data)).all m = true) :
    OutIn m s (execSafeCopyReceived net id data s) := by
  simp [mayChange] at h
  unfold execSafeCopyReceived
  refine outIn_next.2 ?_
  simp only [h, State.safeCopy_in]

theorem execSmWindowExpiry_in {m : Part → Bool} (s : State) strm (h : (mayChange (.smWindowExpiry strm)).all m = true) :
    OutIn m s (execSmWindowExpiry strm s) := by
  simp [mayChange] at h
  unfold execSmWindowExpiry
  refine outIn_next.2 ?_
  repeat' first
    | simp only [h, State.endWindow_in]
    | split

theorem execSmDegradedExpiry_in {m : Part → Bool} (s : State) strm (h : (mayChange (.smDegradedExpiry strm)).all m = true) :
    OutIn m s (execSmDegradedExpiry strm s) := by
  simp [mayChange] at h
  unfold execSmDegradedExpiry
  refine outIn_next.2 ?_
  simp only [h, State.loseSm_in, State.enterSm_in, State.followSm_in, blank_ite, ite_self]

theorem execSmRxTimeout_in {m : Part → Bool} (s : State) strm (h : (mayChange (.smRxTimeout strm)).all m = true) :
    OutIn m s (execSmRxTimeout strm s) := by
  simp [mayChange] at h
  unfold execSmRxTimeout
  refine outIn_next.2 ?_
  simp only [h, State.loseSm_in]

theorem execSafeStreamSend_in {m : Part → Bool} (s : State) (h : (mayChange .safeStreamSend).all m = true) :
    OutIn m s (execSafeStreamSend s) := by
  simp [mayChange] at h
  unfold execSafeStreamSend
  refine outIn_next.2 ?_
  repeat' first
    | simp only [h, State.writeMo_in, State.requestMo_in, blank_set_io, blank_ite, ite_self]
    | refine forEach_next (fun _ _ => ?_) ?_
    | split

theorem execCanFrameReceived_in {m : Part → Bool} (s : State) k f before own (h : (mayChange (.canFrameReceived k f before own)).all m = true) :
    OutIn m s (execCanFrameReceived k f before own s) := by
  simp [mayChange, allBut] at h
  unfold execCanFrameReceived
  refine outIn_next.2 ?_
  simp only [h, State.canGood_in, State.modCan_in, State.canEvent_in, State.passQueue_in, State.takeMode_in, blank_ite, ite_self]

theorem execMoTxReq_in {m : Part → Bool} (s : State) src k v (h : (mayChange (.moTxReq src k v)).all m = true) :
    OutIn m s (execMoTxReq src k v s) := by
  simp [mayChange] at h
  refine plainCommand_in (by simp only [plainParts, List.all_cons, List.all_nil, h, Bool.and_self]) (fun _ _ => ?_) fun _ => ?_
  · simp only [h, State.applyTxReq_in]
  · rfl

theorem execMoCancel_in {m : Part → Bool} (s : State) src k v (h : (mayChange (.moCancel src k v)).all m = true) :
    OutIn m s (execMoCancel src k v s) := by
  simp [mayChange] at h
  refine plainCommand_in (by simp only [plainParts, List.all_cons, List.all_nil, h, Bool.and_self]) (fun _ _ => ?_) fun _ => ?_
  · simp only [h, State.applyCancel_in]
  · rfl

theorem execMoDataWrite_in {m : Part → Bool} (s : State) src k o data (h : (mayChange (.moDataWrite src k o data)).all m = true) :
    OutIn m s (execMoDataWrite src k o data s) := by
  simp [mayChange] at h
  refine plainCommand_in (by simp only [plainParts, List.all_cons, List.all_nil, h, Bool.and_self]) (fun _ _ => ?_) fun _ => ?_
  · simp only [h, State.applyMoData_in]
  · rfl

theorem execMoCfgWrite_in {m : Part → Bool} (s : State) src k o v (h : (mayChange (.moCfgWrite src k o v)).all m = true) :
    OutIn m s (execMoCfgWrite src k o v s) := by
  simp [mayChange] at h
  refine plainCommand_in (by simp only [plainParts, List.all_cons, List.all_nil, h, Bool.and_self]) (fun _ _ => ?_) fun _ => ?_
  · simp only [h, State.applyMoCfg_in]
  · rfl

theorem execBitTimingWrite_in {m : Part → Bool} (s : State) src k fast v (h : (mayChange (.bitTimingWrite src k fast v)).all m = true) :
    OutIn m s (execBitTimingWrite src k fast v s) := by
  simp [mayChange] at h
  refine plainCommand_in (by simp only [plainParts, List.all_cons, List.all_nil, h, Bool.and_self]) (fun _ _ => ?_) fun _ => ?_
  · simp only [h, State.applyTiming_in]
  · rfl

theorem execCanMode_in {m : Part → Bool} (s : State) src k v busy (h : (mayChange (.canMode src k v busy)).all m = true) :
    OutIn m s (execCanMode src k v busy s) := by
  simp [mayChange] at h
  refine plainCommand_in (by simp only [plainParts, List.all_cons, List.all_nil, h, Bool.and_self]) (fun _ _ => ?_) fun _ => ?_
  · simp only [h, State.applyCanMode_in]
  · rfl

theorem execCanTransmitEnd_in {m : Part → Bool} (s : State) k e (h : (mayChange (.canTransmitEnd k e)).all m = true) :
    OutIn m s (execCanTransmitEnd k e s) := by
  simp [mayChange] at h
  unfold execCanTransmitEnd
  refine outIn_next.2 ?_
  repeat' first
    | simp only [h, State.canSent_in, State.modCan_in, State.referenceSent_in, State.modMo_in, State.settleMo_in, State.irqRaise_in,
        State.cancelled_in, State.takeMode_in, blank_ite, ite_self]
    | split

theorem execCanError_in {m : Part → Bool} (s : State) k kind tx rx clash (h : (mayChange (.canError k kind tx rx clash)).all m = true) :
    OutIn m s (execCanError k kind tx rx clash s) := by
  simp [mayChange] at h
  unfold execCanError
  refine outIn_next.2 ?_
  repeat' first
    | simp only [h, State.modCan_in, State.noteClash_in, State.takeMode_in, State.canEvent_in, State.enterBusOff_in, blank_ite, ite_self]
    | split

theorem execProtocolException_in {m : Part → Bool} (s : State) k (h : (mayChange (.protocolException k)).all m = true) :
    OutIn m s (execProtocolException k s) := by
  simp [mayChange] at h
  unfold execProtocolException
  refine outIn_next.2 ?_
  simp only [h, State.modCan_in, State.canEvent_in, State.takeMode_in, blank_ite, ite_self]

theorem execBusoffRecover_in {m : Part → Bool} (s : State) src k v (h : (mayChange (.busoffRecover src k v)).all m = true) :
    OutIn m s (execBusoffRecover src k v s) := by
  simp [mayChange] at h
  refine plainCommand_in (by simp only [plainParts, List.all_cons, List.all_nil, h, Bool.and_self]) (fun _ _ => ?_) fun _ => ?_
  · simp only [h, State.recoverCan_in, appliedIn_ok]
  · rfl

theorem execBusoffAutoExpiry_in {m : Part → Bool} (s : State) k (h : (mayChange (.busoffAutoExpiry k)).all m = true) :
    OutIn m s (execBusoffAutoExpiry k s) := by
  simp [mayChange] at h
  unfold execBusoffAutoExpiry
  refine outIn_next.2 ?_
  simp only [h, State.recoverCan_in, blank_ite, ite_self]

theorem execBusoffRecovered_in {m : Part → Bool} (s : State) k (h : (mayChange (.busoffRecovered k)).all m = true) :
    OutIn m s (execBusoffRecovered k s) := by
  simp [mayChange] at h
  unfold execBusoffRecovered
  refine outIn_next.2 ?_
  simp only [h, State.modCan_in, State.canEvent_in, State.takeMode_in, blank_ite, ite_self]

theorem execDupClear_in {m : Part → Bool} (s : State) src k v (h : (mayChange (.dupClear src k v)).all m = true) :
    OutIn m s (execDupClear src k v s) := by
  simp [mayChange] at h
  refine plainCommand_in (by simp only [plainParts, List.all_cons, List.all_nil, h, Bool.and_self]) (fun _ _ => ?_) fun _ => ?_
  · simp only [h, State.clearDup_in, appliedIn_ok]
  · rfl

theorem execReferenceReceived_in {m : Part → Bool} (s : State) k id cycle quality utc lost
    (h : (mayChange (.referenceReceived k id cycle quality utc lost)).all m = true) :
    OutIn m s (execReferenceReceived k id cycle quality utc lost s) := by
  simp [mayChange] at h
  unfold execReferenceReceived
  refine outIn_next.2 ?_
  simp only [h, State.startCycle_in, State.modClock_in, State.modCan_in, State.canEvent_in, State.noteSources_in, State.takeMode_in, blank_ite,
      ite_self]

theorem execReferenceSend_in {m : Part → Bool} (s : State) k (h : (mayChange (.referenceSend k)).all m = true) :
    OutIn m s (execReferenceSend k s) := by
  simp [mayChange] at h
  unfold execReferenceSend
  refine outIn_next.2 ?_
  repeat' first
    | simp only [h, State.sendReference_in, blank_ite, ite_self]
    | split

theorem execBackupTakeover_in {m : Part → Bool} (s : State) k (h : (mayChange (.backupTakeover k)).all m = true) :
    OutIn m s (execBackupTakeover k s) := by
  simp [mayChange] at h
  unfold execBackupTakeover
  refine outIn_next.2 ?_
  simp only [h, State.sendReference_in, blank_ite, ite_self]

theorem execTtSyncLoss_in {m : Part → Bool} (s : State) k (h : (mayChange (.ttSyncLoss k)).all m = true) :
    OutIn m s (execTtSyncLoss k s) := by
  simp [mayChange] at h
  unfold execTtSyncLoss
  refine outIn_next.2 ?_
  simp only [h, State.modCan_in, State.canEvent_in, State.noteSources_in, blank_ite, ite_self]

theorem execTtMark_in {m : Part → Bool} (s : State) k mark idle (h : (mayChange (.ttMark k mark idle)).all m = true) :
    OutIn m s (execTtMark k mark idle s) := by
  simp [mayChange] at h
  unfold execTtMark
  refine outIn_next.2 ?_
  repeat' first
    | simp only [h, State.modCan_in, State.checkSlot_in, State.startFrame_in, State.missSlot_in, blank_ite, forEach_in, implies_true]
    | refine forEach_next (fun _ _ => ?_) ?_
    | split

theorem execRead_in {m : Part → Bool} (s : State) src index sub offset raw (h : (mayChange (.read src index sub offset raw)).all m = true) :
    OutIn m s (execRead src index sub offset raw s) := by
  simp [mayChange] at h
  refine outIn_next.2 (State.unlessSwapping_in ?_ _ _ _ fun u => State.whenCarried_in ?_ ?_ _ _ _ _ fun v => ?_) <;>
    simp only [h, State.readVia_in]

theorem execWrite_in {m : Part → Bool} (s : State) src index sub total offset data raw
    (h : (mayChange (.write src index sub total offset data raw)).all m = true) :
    OutIn m s (execWrite src index sub total offset data raw s) := by
  simp [mayChange, allBut] at h
  refine outIn_next.2 (State.unlessSwapping_in ?_ _ _ _ fun u => State.whenCarried_in ?_ ?_ _ _ _ _ fun v => ?_) <;>
    simp only [h, State.writeMessage_in]

theorem execHeartbeat_in {m : Part → Bool} (s : State) src state period raw (h : (mayChange (.heartbeat src state period raw)).all m = true) :
    OutIn m s (execHeartbeat src state period raw s) := by
  simp [mayChange] at h
  refine outIn_next.2 (State.unlessSwapping_in ?_ _ _ _ fun u => State.whenCarried_in ?_ ?_ _ _ _ _ fun v => ?_) <;>
    simp only [h, State.takeHeartbeat_in]

theorem execTransferTimeout_in {m : Part → Bool} (s : State) src (h : (mayChange (.transferTimeout src)).all m = true) :
    OutIn m s (execTransferTimeout src s) := by
  simp [mayChange] at h
  unfold execTransferTimeout
  refine outIn_next.2 ?_
  repeat' first
    | simp only [h, State.dropTransfer_in, State.abort_in, blank_ite, ite_self]
    | split

theorem execPartnerHeartbeatTimeout_in {m : Part → Bool} (s : State) src (h : (mayChange (.partnerHeartbeatTimeout src)).all m = true) :
    OutIn m s (execPartnerHeartbeatTimeout src s) := by
  simp [mayChange] at h
  unfold execPartnerHeartbeatTimeout
  refine outIn_next.2 ?_
  repeat' first
    | simp only [h, State.modPartner_in, State.event_in, State.partnerLeaves_in, blank_ite, ite_self]
    | split

theorem execPartnerAgeExpiry_in {m : Part → Bool} (s : State) src (h : (mayChange (.partnerAgeExpiry src)).all m = true) :
    OutIn m s (execPartnerAgeExpiry src s) := by
  simp [mayChange] at h
  unfold execPartnerAgeExpiry
  refine outIn_next.2 ?_
  repeat' first
    | simp only [h, State.partnerLeaves_in, blank_ite, ite_self]
    | split

theorem execDeviceHeartbeatSend_in {m : Part → Bool} (s : State) (h : (mayChange .deviceHeartbeatSend).all m = true) :
    OutIn m s (execDeviceHeartbeatSend s) := by
  simp [mayChange] at h
  unfold execDeviceHeartbeatSend
  refine outIn_next.2 ?_
  simp only [h, State.modDict_in, State.send_in, blank_ite, ite_self, forEach_in, implies_true]

theorem execSealedEnvelopeRequest_in {m : Part → Bool} (s : State) r (h : (mayChange (.sealedEnvelopeRequest r)).all m = true) :
    OutIn m s (execSealedEnvelopeRequest r s) := by
  simp [mayChange, allBut] at h
  unfold execSealedEnvelopeRequest
  have hseal : requestParts.all m = true := by simp only [requestParts, List.all_cons, List.all_nil, h, Bool.and_self]
  refine outIn_next.2 ?_
  repeat' first
    | refine sealedCommand_in hseal fun _ => ?_
    | simp only [h, State.forwardRequest_in, blank_ite]
    | split

theorem execSealedSafetyIoRequest_in {m : Part → Bool} (s : State) r (h : (mayChange (.sealedSafetyIoRequest r)).all m = true) :
    OutIn m s (execSealedSafetyIoRequest r s) := by
  simp [mayChange, allBut] at h
  unfold execSealedSafetyIoRequest
  have hseal : requestParts.all m = true := by simp only [requestParts, List.all_cons, List.all_nil, h, Bool.and_self]
  refine outIn_next.2 ?_
  repeat' first
    | refine sealedCommand_in hseal fun _ => ?_
    | simp only [h, State.forwardRequest_in, blank_ite]
    | split

theorem execSealedTrustRequest_in {m : Part → Bool} (s : State) r (h : (mayChange (.sealedTrustRequest r)).all m = true) :
    OutIn m s (execSealedTrustRequest r s) := by
  simp [mayChange] at h
  refine outIn_next.2 ?_
  split
  · refine State.unlessSwapping_in ?_ _ _ _ fun _ => ?_ <;> simp only [h, State.trustVia_in]
  · rfl

theorem execSealedItemsRequest_in {m : Part → Bool} (s : State) r (h : (mayChange (.sealedItemsRequest r)).all m = true) :
    OutIn m s (execSealedItemsRequest r s) := by
  simp [mayChange, allBut] at h
  unfold execSealedItemsRequest
  have hseal : requestParts.all m = true := by simp only [requestParts, List.all_cons, List.all_nil, h, Bool.and_self]
  refine outIn_next.2 ?_
  repeat' first
    | refine sealedCommand_in hseal fun _ => ?_
    | simp only [h, State.applyRequest_in, blank_ite]
    | split

theorem execProvisioningRequest_in {m : Part → Bool} (s : State) r (h : (mayChange (.provisioningRequest r)).all m = true) :
    OutIn m s (execProvisioningRequest r s) := by
  simp [mayChange] at h
  refine outIn_next.2 ?_
  split
  · refine State.unlessSwapping_in ?_ _ _ _ fun _ => ?_ <;> simp only [h, State.trustVia_in]
  · rfl

theorem execCounterStored_in {m : Part → Bool} (s : State) (h : (mayChange .counterStored).all m = true) :
    OutIn m s (execCounterStored s) := by
  simp [mayChange] at h
  unfold execCounterStored
  refine outIn_next.2 ?_
  simp only [h, State.storeCounters_in]

theorem execTrustErase_in {m : Part → Bool} (s : State) src v (h : (mayChange (.trustErase src v)).all m = true) :
    OutIn m s (execTrustErase src v s) := by
  simp [mayChange, allBut] at h
  refine outIn_next.2 (State.unlessSwapping_in ?_ _ _ _ fun _ => ?_) <;>
    simp only [h, State.plainWrite_in]

theorem execTrustErasure_in {m : Part → Bool} (s : State) (h : (mayChange .trustErasure).all m = true) :
    OutIn m s (execTrustErasure s) := by
  simp [mayChange] at h
  unfold execTrustErasure
  refine outIn_next.2 ?_
  repeat' first
    | simp only [h, State.modSeng_in, State.storeCfg_in, State.event_in, blank_ite, ite_self]
    | split

theorem execFwOpen_in {m : Part → Bool} (s : State) head v (h : (mayChange (.fwOpen head v)).all m = true) :
    OutIn m s (execFwOpen head v s) := by
  simp [mayChange] at h
  unfold execFwOpen
  have hseal : requestParts.all m = true := by simp only [requestParts, List.all_cons, List.all_nil, h, Bool.and_self]
  refine outIn_next.2 ?_
  repeat' first
    | refine sealedCommand_in hseal fun _ => ?_
    | simp only [h, State.modSeng_in, State.event_in, sealIn_refused, sealIn_applied]
    | split

theorem execFwImage_in {m : Part → Bool} (s : State) src total offset data (h : (mayChange (.fwImage src total offset data)).all m = true) :
    OutIn m s (execFwImage src total offset data s) := by
  simp [mayChange, allBut] at h
  refine outIn_next.2 (State.unlessSwapping_in ?_ _ _ _ fun _ => ?_) <;>
    simp only [h, State.writeMessage_in]

theorem execFwCommit_in {m : Part → Bool} (s : State) head digest headerOk generation version
    (h : (mayChange (.fwCommit head digest headerOk generation version)).all m = true) :
    OutIn m s (execFwCommit head digest headerOk generation version s) := by
  simp [mayChange] at h
  unfold execFwCommit
  have hseal : requestParts.all m = true := by simp only [requestParts, List.all_cons, List.all_nil, h, Bool.and_self]
  refine outIn_next.2 ?_
  repeat' first
    | refine sealedCommand_in hseal fun _ => ?_
    | simp only [h, State.commitImage_in, sealIn_refused, sealIn_applied]
    | split

theorem execFwSessionTimeout_in {m : Part → Bool} (s : State) (h : (mayChange .fwSessionTimeout).all m = true) :
    OutIn m s (execFwSessionTimeout s) := by
  simp [mayChange] at h
  unfold execFwSessionTimeout
  refine outIn_next.2 ?_
  repeat' first
    | simp only [h, State.modSeng_in, blank_ite, ite_self]
    | split

theorem execCfgStore_in {m : Part → Bool} (s : State) src v (h : (mayChange (.cfgStore src v)).all m = true) :
    OutIn m s (execCfgStore src v s) := by
  simp [mayChange, allBut] at h
  refine outIn_next.2 (State.unlessSwapping_in ?_ _ _ _ fun _ => ?_) <;>
    simp only [h, State.plainWrite_in]

theorem execEventOccurrence_in {m : Part → Bool} (s : State) code source item data
    (h : (mayChange (.eventOccurrence code source item data)).all m = true) :
    OutIn m s (execEventOccurrence code source item data s) := by
  simp [mayChange] at h
  unfold execEventOccurrence
  refine outIn_next.2 ?_
  simp only [h, State.event_in, blank_ite, ite_self]

theorem execRecorderFlush_in {m : Part → Bool} (s : State) (h : (mayChange .recorderFlush).all m = true) :
    OutIn m s (execRecorderFlush s) := by
  simp [mayChange] at h
  unfold execRecorderFlush
  refine outIn_next.2 ?_
  simp only [h, State.flushAll_in, blank_set_evlog, blank_ite, ite_self]

theorem execSuppressionSummary_in {m : Part → Bool} (s : State) code (h : (mayChange (.suppressionSummary code)).all m = true) :
    OutIn m s (execSuppressionSummary code s) := by
  simp [mayChange] at h
  unfold execSuppressionSummary
  refine outIn_next.2 ?_
  simp only [h, State.summary_in, State.flushIfDue_in, State.noteFill_in, blank_ite, ite_self]

theorem execRecWindow_in {m : Part → Bool} (s : State) src (h : (mayChange (.recWindow src)).all m = true) :
    OutIn m s (execRecWindow src s) := by
  simp [mayChange] at h
  refine outIn_next.2 (State.unlessSwapping_in ?_ _ _ _ fun _ => ?_) <;>
    simp only [h, State.readVia_in]

theorem execRecClear_in {m : Part → Bool} (s : State) head v (h : (mayChange (.recClear head v)).all m = true) :
    OutIn m s (execRecClear head v s) := by
  simp [mayChange] at h
  unfold execRecClear
  have hseal : requestParts.all m = true := by simp only [requestParts, List.all_cons, List.all_nil, h, Bool.and_self]
  refine outIn_next.2 ?_
  repeat' first
    | refine sealedCommand_in hseal fun _ => ?_
    | simp only [h, State.clearRecorder_in, sealIn_refused, sealIn_applied]
    | split

theorem execRateLimitWrite_in {m : Part → Bool} (s : State) src code v (h : (mayChange (.rateLimitWrite src code v)).all m = true) :
    OutIn m s (execRateLimitWrite src code v s) := by
  simp [mayChange] at h
  refine plainCommand_in (by simp only [plainParts, List.all_cons, List.all_nil, h, Bool.and_self]) (fun _ _ => ?_) fun _ => ?_
  · simp only [h, State.applyRateLimit_in]
  · rfl

theorem execHistRead_in {m : Part → Bool} (s : State) src (h : (mayChange (.histRead src)).all m = true) :
    OutIn m s (execHistRead src s) := by
  simp [mayChange] at h
  refine outIn_next.2 (State.unlessSwapping_in ?_ _ _ _ fun _ => ?_) <;>
    simp only [h, State.readVia_in]

theorem execWindowCounterLasting_in {m : Part → Bool} (s : State) cls item (h : (mayChange (.windowCounterLasting cls item)).all m = true) :
    OutIn m s (execWindowCounterLasting cls item s) := by
  simp [mayChange, allBut] at h
  unfold execWindowCounterLasting
  refine outIn_next.2 ?_
  simp only [h, State.occurrence_in, blank_ite, ite_self]

theorem execLockstepCommit_in {m : Part → Bool} (s : State) (h : (mayChange .lockstepCommit).all m = true) :
    OutIn m s (execLockstepCommit s) := by
  simp [mayChange] at h
  unfold execLockstepCommit
  refine outIn_next.2 ?_
  simp only [h, blank_set_cores, blank_ite, ite_self]

theorem execLockstepMismatch_in {m : Part → Bool} (s : State) parity (h : (mayChange (.lockstepMismatch parity)).all m = true) :
    OutIn m s (execLockstepMismatch parity s) := by
  simp [mayChange, allBut] at h
  unfold execLockstepMismatch
  refine outIn_next.2 ?_
  simp only [h, State.irqRaise_in, State.occurrence_in, blank_set_cores, blank_ite, ite_self]

theorem execPairForming_in {m : Part → Bool} (s : State) passA passB (h : (mayChange (.pairForming passA passB)).all m = true) :
    OutIn m s (execPairForming passA passB s) := by
  simp [mayChange, allBut] at h
  unfold execPairForming
  refine outIn_next.2 ?_
  repeat' first
    | simp only [h, State.event_in, State.swapCore_in, State.formSame_in, State.escalate_in, blank_ite, ite_self]
    | split

theorem execSwapResume_in {m : Part → Bool} (s : State) (h : (mayChange .swapResume).all m = true) : OutIn m s (execSwapResume s) := by
  simp [mayChange, allBut] at h
  have hswap (u : State) (cores : Cores) (irq : Irq) : State.blank m { u with cores := cores, irq := irq } = State.blank m u := by
    simp only [State.blank, h, if_true]
  unfold execSwapResume
  refine outIn_next.2 ?_
  repeat' first
    | simp only [h, hswap, State.modStart_in, State.hurryOut_in, State.takeEths_in, State.readHeld_in, State.takeOutcomes_in, State.repairMirror_in,
        State.decideHeld_in, State.irqRaise_in]
    | split

theorem execSpareCoreSelfTest_in {m : Part → Bool} (s : State) pass (h : (mayChange (.spareCoreSelfTest pass)).all m = true) :
    OutIn m s (execSpareCoreSelfTest pass s) := by
  simp [mayChange] at h
  unfold execSpareCoreSelfTest
  refine outIn_next.2 ?_
  simp only [h, State.event_in, blank_set_cores, blank_ite, ite_self]

theorem execSramScrub_in {m : Part → Bool} (s : State) rows (h : (mayChange (.sramScrub rows)).all m = true) :
    OutIn m s (execSramScrub rows s) := by
  simp [mayChange, allBut] at h
  refine outIn_next.2 ?_
  split
  · exact (foldl_in (fun _ _ => by simp only [h, State.sramError_in]) _ _).trans (by simp only [h, State.modHealth_in])
  · rfl

theorem execSramEccError_in {m : Part → Bool} (s : State) row corrected owner (h : (mayChange (.sramEccError row corrected owner)).all m = true) :
    OutIn m s (execSramEccError row corrected owner s) := by
  simp [mayChange, allBut] at h
  unfold execSramEccError
  refine outIn_next.2 ?_
  simp only [h, State.sramError_in, blank_ite, ite_self]

theorem execFlashError_in {m : Part → Bool} (s : State) block kind (h : (mayChange (.flashError block kind)).all m = true) :
    OutIn m s (execFlashError block kind s) := by
  simp [mayChange, allBut] at h
  unfold execFlashError
  refine outIn_next.2 ?_
  repeat' first
    | simp only [h, State.irqRaise_in, State.occurrence_in, State.event_in, State.tearWrite_in, blank_ite, ite_self]
    | split

theorem execOscWindow_in {m : Part → Bool} (s : State) w (h : (mayChange (.oscWindow w)).all m = true) :
    OutIn m s (execOscWindow w s) := by
  simp [mayChange, allBut] at h
  unfold execOscWindow
  refine outIn_next.2 ?_
  repeat' first
    | simp only [h, State.modHealth_in, State.event_in, State.occurrence_in, State.oscLost_in, blank_ite, ite_self]
    | split

theorem execPhyRestore_in {m : Part → Bool} (s : State) src v (h : (mayChange (.phyRestore src v)).all m = true) :
    OutIn m s (execPhyRestore src v s) := by
  simp [mayChange] at h
  refine plainCommand_in (by simp only [plainParts, List.all_cons, List.all_nil, h, Bool.and_self]) (fun _ _ => ?_) fun _ => ?_
  · simp only [h, State.applyPhyRestore_in]
  · rfl

theorem execHealthClear_in {m : Part → Bool} (s : State) head v (h : (mayChange (.healthClear head v)).all m = true) :
    OutIn m s (execHealthClear head v s) := by
  simp [mayChange] at h
  unfold execHealthClear
  have hseal : requestParts.all m = true := by simp only [requestParts, List.all_cons, List.all_nil, h, Bool.and_self]
  refine outIn_next.2 ?_
  repeat' first
    | refine sealedCommand_in hseal fun _ => ?_
    | simp only [h, State.applyHealthClear_in, sealIn_refused, sealIn_applied]
    | split

theorem execDeviceTempRound_in {m : Part → Bool} (s : State) t (h : (mayChange (.deviceTempRound t)).all m = true) :
    OutIn m s (execDeviceTempRound t s) := by
  simp [mayChange] at h
  unfold execDeviceTempRound
  refine outIn_next.2 ?_
  simp only [h, State.tempRound_in, blank_ite, ite_self]

theorem execThrottleExitDwell_in {m : Part → Bool} (s : State) (h : (mayChange .throttleExitDwell).all m = true) :
    OutIn m s (execThrottleExitDwell s) := by
  simp [mayChange] at h
  unfold execThrottleExitDwell
  refine outIn_next.2 ?_
  repeat' first
    | simp only [h, State.modTherm_in, State.setLevel_in, blank_ite, ite_self]
    | split

theorem execThrottleSelect_in {m : Part → Bool} (s : State) src v (h : (mayChange (.throttleSelect src v)).all m = true) :
    OutIn m s (execThrottleSelect src v s) := by
  simp [mayChange] at h
  refine plainCommand_in (by simp only [plainParts, List.all_cons, List.all_nil, h, Bool.and_self]) (fun _ _ => ?_) fun _ => ?_
  · simp only [h, State.applyThrottleSelect_in]
  · rfl

theorem execEthApply_in {m : Part → Bool} (s : State) src v (h : (mayChange (.ethApply src v)).all m = true) :
    OutIn m s (execEthApply src v s) := by
  simp [mayChange] at h
  refine plainCommand_in (by simp only [plainParts, List.all_cons, List.all_nil, h, Bool.and_self]) (fun _ _ => ?_) fun _ => ?_
  · simp only [h, State.applyEthApply_in]
  · simp only [h, State.ethApply_in]

theorem execAddressConflict_in {m : Part → Bool} (s : State) k (h : (mayChange (.addressConflict k)).all m = true) :
    OutIn m s (execAddressConflict k s) := by
  simp [mayChange] at h
  unfold execAddressConflict
  refine outIn_next.2 ?_
  simp only [h, State.ethIn_in, State.modEth_in, State.event_in, blank_ite, ite_self]

theorem execEthLinkChange_in {m : Part → Bool} (s : State) k up fast (h : (mayChange (.ethLinkChange k up fast)).all m = true) :
    OutIn m s (execEthLinkChange k up fast s) := by
  simp [mayChange] at h
  unfold execEthLinkChange
  refine outIn_next.2 ?_
  simp only [h, State.modEth_in, State.irqRaise_in, State.event_in, State.announcePort_in, State.noteStream_in, blank_ite, ite_self]

theorem execStreamSetSend_in {m : Part → Bool} (s : State) resolved count (h : (mayChange (.streamSetSend resolved count)).all m = true) :
    OutIn m s (execStreamSetSend resolved count s) := by
  simp [mayChange] at h
  unfold execStreamSetSend
  refine outIn_next.2 ?_
  repeat' first
    | simp only [h, State.sendSet_in, blank_ite, ite_self]
    | split

theorem execStreamSuspension_in {m : Part → Bool} (s : State) (h : (mayChange .streamSuspension).all m = true) :
    OutIn m s (execStreamSuspension s) := by
  simp [mayChange] at h
  unfold execStreamSuspension
  refine outIn_next.2 ?_
  simp only [h, State.noteStream_in, blank_ite, ite_self]

theorem execTimeSourceSelection_in {m : Part → Bool} (s : State) (h : (mayChange .timeSourceSelection).all m = true) :
    OutIn m s (execTimeSourceSelection s) := by
  simp [mayChange] at h
  unfold execTimeSourceSelection
  refine outIn_next.2 ?_
  simp only [h, State.noteSources_in, State.selectSource_in, State.steer_in, State.modClock_in, State.irqRaise_in, blank_ite, ite_self]

theorem execTimeSet_in {m : Part → Bool} (s : State) head v (h : (mayChange (.timeSet head v)).all m = true) :
    OutIn m s (execTimeSet head v s) := by
  simp [mayChange] at h
  unfold execTimeSet
  have hseal : requestParts.all m = true := by simp only [requestParts, List.all_cons, List.all_nil, h, Bool.and_self]
  refine outIn_next.2 ?_
  repeat' first
    | refine sealedCommand_in hseal fun _ => ?_
    | simp only [h, State.setCalendar_in, State.modClock_in, sealIn_refused, sealIn_applied]
    | split

theorem execRtcAlarm_in {m : Part → Bool} (s : State) (h : (mayChange .rtcAlarm).all m = true) : OutIn m s (execRtcAlarm s) := by
  simp [mayChange] at h
  unfold execRtcAlarm
  refine outIn_next.2 ?_
  simp only [h, State.modClock_in, State.irqRaise_in, blank_ite, ite_self]

theorem execPtpMessageReceived_in {m : Part → Bool} (s : State) k domain strm (h : (mayChange (.ptpMessageReceived k domain strm)).all m = true) :
    OutIn m s (execPtpMessageReceived k domain strm s) := by
  simp [mayChange] at h
  unfold execPtpMessageReceived
  refine outIn_next.2 ?_
  simp only [h, State.ethIn_in, State.ptpMessage_in, blank_ite, ite_self]

theorem execAnnounceReceiptTimeout_in {m : Part → Bool} (s : State) (h : (mayChange .announceReceiptTimeout).all m = true) :
    OutIn m s (execAnnounceReceiptTimeout s) := by
  simp [mayChange] at h
  unfold execAnnounceReceiptTimeout
  refine outIn_next.2 ?_
  repeat' first
    | simp only [h, State.event_in, State.modClock_in, State.ptpEnter_in, blank_ite, ite_self]
    | split

theorem execRequestStandby_in {m : Part → Bool} (s : State) src (h : (mayChange (.requestStandby src)).all m = true) :
    OutIn m s (execRequestStandby src s) := by
  simp [mayChange] at h
  refine outIn_next.2 (State.unlessSwapping_in ?_ _ _ _ fun _ => ?_) <;>
    simp only [h, State.requestBlock_in]

theorem execRequestArmed_in {m : Part → Bool} (s : State) src (h : (mayChange (.requestArmed src)).all m = true) :
    OutIn m s (execRequestArmed src s) := by
  simp [mayChange] at h
  refine outIn_next.2 (State.unlessSwapping_in ?_ _ _ _ fun _ => ?_) <;>
    simp only [h, State.requestBlock_in]

theorem execRequestService_in {m : Part → Bool} (s : State) src (h : (mayChange (.requestService src)).all m = true) :
    OutIn m s (execRequestService src s) := by
  simp [mayChange] at h
  refine outIn_next.2 (State.unlessSwapping_in ?_ _ _ _ fun _ => ?_) <;>
    simp only [h, State.requestBlock_in]

theorem execRegisterWrite_in {m : Part → Bool} (s : State) src index sub data (h : (mayChange (.registerWrite src index sub data)).all m = true) :
    OutIn m s (execRegisterWrite src index sub data s) := by
  simp [mayChange, allBut] at h
  refine outIn_next.2 (State.unlessSwapping_in ?_ _ _ _ fun _ => ?_) <;>
    simp only [h, State.writeMessage_in]

theorem execNodeRestart_in {m : Part → Bool} (s : State) a0 place selfFail (h : (mayChange (.nodeRestart a0 place selfFail)).all m = true) :
    OutIn m s (execNodeRestart a0 place selfFail s) := by
  simp [mayChange] at h
  unfold execNodeRestart
  refine outIn_next.2 ?_
  simp only [h, State.modNode_in]

theorem execCanStartOfFrame_in {m : Part → Bool} (s : State) k (h : (mayChange (.canStartOfFrame k)).all m = true) :
    OutIn m s (execCanStartOfFrame k s) := by
  simp [mayChange] at h
  unfold execCanStartOfFrame
  refine outIn_next.2 ?_
  repeat' first
    | simp only [h, State.startFrame_in, blank_ite]
    | split

theorem execCanIntegrationComplete_in {m : Part → Bool} (s : State) k (h : (mayChange (.canIntegrationComplete k)).all m = true) :
    OutIn m s (execCanIntegrationComplete k s) := by
  simp [mayChange] at h
  unfold execCanIntegrationComplete
  refine outIn_next.2 ?_
  simp only [h, State.modCan_in, State.canEvent_in, blank_ite, ite_self]

theorem execEthFrameReceived_in {m : Part → Bool} (s : State) k f len (h : (mayChange (.ethFrameReceived k f len)).all m = true) :
    OutIn m s (execEthFrameReceived k f len s) := by
  simp [mayChange] at h
  unfold execEthFrameReceived
  refine outIn_next.2 ?_
  simp only [h, State.takeEth_in, State.modEth_in, blank_ite, ite_self]

theorem execPtpMessageInterval_in {m : Part → Bool} (s : State) k (h : (mayChange (.ptpMessageInterval k)).all m = true) :
    OutIn m s (execPtpMessageInterval k s) := by
  simp [mayChange] at h
  unfold execPtpMessageInterval
  refine outIn_next.2 ?_
  simp only [h, State.modClock_in, State.send_in, State.stamp_in, blank_ite, ite_self]

theorem execLeapSecond_in {m : Part → Bool} (s : State) (h : (mayChange .leapSecond).all m = true) : OutIn m s (execLeapSecond s) := by
  simp [mayChange] at h
  unfold execLeapSecond
  refine outIn_next.2 ?_
  simp only [h, State.rebase_in, State.modClock_in, State.event_in, blank_set_utcBase, blank_set_utcAt, blank_ite, ite_self]

theorem execBelSensorFail_in {m : Part → Bool} (s : State) k (h : (mayChange (.belSensorFail k)).all m = true) :
    OutIn m s (execBelSensorFail k s) := by
  simp [mayChange] at h
  unfold execBelSensorFail
  refine outIn_next.2 ?_
  simp only [h, State.modTherm_in, State.irqRaise_in, blank_ite, ite_self]

theorem execWakeInFall_in {m : Part → Bool} (s : State) (h : (mayChange .wakeInFall).all m = true) : OutIn m s (execWakeInFall s) := by
  simp [mayChange] at h
  unfold execWakeInFall
  refine outIn_next.2 ?_
  simp only [h, State.modSupply_in]

/-- A command changes no part but those listed for it. -/
theorem exec_in {m : Part → Bool} (c : Instr) (s : State) (h : (mayChange c).all m = true) : OutIn m s (exec c s) := by
  cases c with
  | powerOnStart f => exact execPowerOnStart_in s f h
  | gateRailsUp => exact execGateRailsUp_in s h
  | startupComplete => exact execStartupComplete_in s h
  | imageConfirm => exact execImageConfirm_in s h
  | systemReset c f => exact execSystemReset_in s c f h
  | processorRestart c => exact execProcessorRestart_in s c h
  | watchdogWarning => exact execWatchdogWarning_in s h
  | watchdogExpiry => exact execWatchdogExpiry_in s h
  | resetRequestRestart head => exact execResetRequestRestart_in s head h
  | resetRequestSystem head => exact execResetRequestSystem_in s head h
  | powerFailWarning => exact execPowerFailWarning_in s h
  | powerFailWithdrawn => exact execPowerFailWithdrawn_in s h
  | belaySupplyWarning => exact execBelaySupplyWarning_in s h
  | inputOvervoltage => exact execInputOvervoltage_in s h
  | holdupRecharged e above20 => exact execHoldupRecharged_in s e above20 h
  | holdupMeasurement e above20 => exact execHoldupMeasurement_in s e above20 h
  | vqLoss => exact execVqLoss_in s h
  | vqRestored => exact execVqRestored_in s h
  | vqOvercurrent => exact execVqOvercurrent_in s h
  | provStrapChange => exact execProvStrapChange_in s h
  | thermalShutdown sensors => exact execThermalShutdown_in s sensors h
  | thermalHold => exact execThermalHold_in s h
  | thermalRestart f => exact execThermalRestart_in s f h
  | traverseTriggerIssue links busy bad => exact execTraverseTriggerIssue_in s links busy bad h
  | replyReceived a0 e kind p data => exact execReplyReceived_in s a0 e kind p data h
  | replyTimeout a0 e kind p noLock => exact execReplyTimeout_in s a0 e kind p noLock h
  | distributorDeliver stall => exact execDistributorDeliver_in s stall h
  | belayReplyEval => exact execBelayReplyEval_in s h
  | envelopeTrip a0 => exact execEnvelopeTrip_in s a0 h
  | unseenLimitReached a0 => exact execUnseenLimitReached_in s a0 h
  | missingTraverseDetect => exact execMissingTraverseDetect_in s h
  | missingTraverseInterval => exact execMissingTraverseInterval_in s h
  | traverseComplete => exact execTraverseComplete_in s h
  | linkSenseLost b => exact execLinkSenseLost_in s b h
  | ropeModeChange a0 => exact execRopeModeChange_in s a0 h
  | portToSpare port => exact execPortToSpare_in s port h
  | slowRoundComplete => exact execSlowRoundComplete_in s h
  | rollCallRequest src a1 v => exact execRollCallRequest_in s src a1 v h
  | rollCallComplete a0 a b => exact execRollCallComplete_in s a0 a b h
  | partialRollCallComplete a0 nodes => exact execPartialRollCallComplete_in s a0 nodes h
  | ropeModeReq src a1 v => exact execRopeModeReq_in s src a1 v h
  | statsClear src a1 v => exact execStatsClear_in s src a1 v h
  | rollCallA f => exact execRollCallA_in s f h
  | rollCallB f => exact execRollCallB_in s f h
  | hopEcho f => exact execHopEcho_in s f h
  | setServe f => exact execSetServe_in s f h
  | continuity f => exact execContinuity_in s f h
  | trigger f => exact execTrigger_in s f h
  | latchStrobe a0 place history temps hk hot => exact execLatchStrobe_in s a0 place history temps hk hot h
  | recessStart a0 place => exact execRecessStart_in s a0 place h
  | readHeld f => exact execReadHeld_in s f h
  | readTemp f => exact execReadTemp_in s f h
  | readHk f => exact execReadHk_in s f h
  | openWire f open_ => exact execOpenWire_in s f open_ h
  | setBalance f => exact execSetBalance_in s f h
  | setFilter f => exact execSetFilter_in s f h
  | setConfig f => exact execSetConfig_in s f h
  | baseCamp f => exact execBaseCamp_in s f h
  | nop f => exact execNop_in s f h
  | commLossTimeout a0 place => exact execCommLossTimeout_in s a0 place h
  | baseCampWakeMeasure a0 place cells temps => exact execBaseCampWakeMeasure_in s a0 place cells temps h
  | wakeToneSend a0 place => exact execWakeToneSend_in s a0 place h
  | wakeToneRepeat a0 place e => exact execWakeToneRepeat_in s a0 place e h
  | travPeriodWrite r => exact execTravPeriodWrite_in s r h
  | recessWrite src v => exact execRecessWrite_in s src v h
  | slowPeriodWrite r => exact execSlowPeriodWrite_in s r h
  | balModeWrite src v => exact execBalModeWrite_in s src v h
  | balMaskReqWrite src a1 data => exact execBalMaskReqWrite_in s src a1 data h
  | balDirectHoldExpiry a0 => exact execBalDirectHoldExpiry_in s a0 h
  | openWireTestDue => exact execOpenWireTestDue_in s h
  | owDeferExpiry a0 p j => exact execOwDeferExpiry_in s a0 p j h
  | baseCampEnterReq src => exact execBaseCampEnterReq_in s src h
  | baseCampLeaveReq src core gates => exact execBaseCampLeaveReq_in s src core gates h
  | wakeToneDetected a0 e core gates => exact execWakeToneDetected_in s a0 e core gates h
  | wakeInRise core gates => exact execWakeInRise_in s core gates h
  | baseCampExitComplete => exact execBaseCampExitComplete_in s h
  | wakeOutAck src v => exact execWakeOutAck_in s src v h
  | correlationUpdate => exact execCorrelationUpdate_in s h
  | batchHandover => exact execBatchHandover_in s h
  | resultTaken => exact execResultTaken_in s h
  | corrEnableWrite src v => exact execCorrEnableWrite_in s src v h
  | sdWindowEnd => exact execSdWindowEnd_in s h
  | estimatorStep erases => exact execEstimatorStep_in s erases h
  | learnWriteReq src v => exact execLearnWriteReq_in s src v h
  | learnWritebackPeriodic => exact execLearnWritebackPeriodic_in s h
  | learnedCopyWritten => exact execLearnedCopyWritten_in s h
  | close head a1 v => exact execClose_in s head a1 v h
  | precharge head b v => exact execPrecharge_in s head b v h
  | unlock head a1 v => exact execUnlock_in s head a1 v h
  | hallPassTaken => exact execHallPassTaken_in s h
  | hallPassExpiry t => exact execHallPassExpiry_in s t h
  | closeGrant a0 => exact execCloseGrant_in s a0 h
  | stringClosed a0 => exact execStringClosed_in s a0 h
  | holdoffClear b => exact execHoldoffClear_in s b h
  | prechargeStart b => exact execPrechargeStart_in s b h
  | prechargeTargetReached b link => exact execPrechargeTargetReached_in s b link h
  | prechargeTimeout b => exact execPrechargeTimeout_in s b h
  | openString src a1 v => exact execOpenString_in s src a1 v h
  | bankOpen src b v => exact execBankOpen_in s src b v h
  | tripClear src a1 v => exact execTripClear_in s src a1 v h
  | excludeSet src a1 => exact execExcludeSet_in s src a1 h
  | excludeClear src a1 => exact execExcludeClear_in s src a1 h
  | faultClear src b v => exact execFaultClear_in s src b v h
  | dischargeTimeout b => exact execDischargeTimeout_in s b h
  | gateClear src b v => exact execGateClear_in s src b v h
  | gateSelftest src c v => exact execGateSelftest_in s src c v h
  | gateSelftestComplete c e => exact execGateSelftestComplete_in s c e h
  | gateRisingEdge c => exact execGateRisingEdge_in s c h
  | gateFallingEdge c => exact execGateFallingEdge_in s c h
  | didtDetect c level => exact execDidtDetect_in s c level h
  | blankingEnd c above => exact execBlankingEnd_in s c above h
  | uvloDetect c neg low => exact execUvloDetect_in s c neg low h
  | readbackFault c e reached => exact execReadbackFault_in s c e reached h
  | gateFaultReport c => exact execGateFaultReport_in s c h
  | softOffEnd c => exact execSoftOffEnd_in s c h
  | coincidentWindowEnd => exact execCoincidentWindowEnd_in s h
  | envelopeRecord => exact execEnvelopeRecord_in s h
  | mirrorDigestCompare => exact execMirrorDigestCompare_in s h
  | testPulseOff k => exact execTestPulseOff_in s k h
  | crossShortCheckSample k before during => exact execCrossShortCheckSample_in s k before during h
  | testPulseSupplyFault k cause => exact execTestPulseSupplyFault_in s k cause h
  | tpClear src v => exact execTpClear_in s src v h
  | inputTick openA openB => exact execInputTick_in s openA openB h
  | discrepancyFault a0 => exact execDiscrepancyFault_in s a0 h
  | qRequest src v => exact execQRequest_in s src v h
  | qEnergise head v => exact execQEnergise_in s head v h
  | qDrop src v => exact execQDrop_in s src v h
  | qClear src v => exact execQClear_in s src v h
  | pullInEnd q => exact execPullInEnd_in s q h
  | outputOffPulse q fell vqLow => exact execOutputOffPulse_in s q fell vqLow h
  | outputReadbackFault q code vqLow => exact execOutputReadbackFault_in s q code vqLow h
  | openLoad q below => exact execOpenLoad_in s q below h
  | safeCopyReceived net id data => exact execSafeCopyReceived_in s net id data h
  | smWindowExpiry strm => exact execSmWindowExpiry_in s strm h
  | smDegradedExpiry strm => exact execSmDegradedExpiry_in s strm h
  | smRxTimeout strm => exact execSmRxTimeout_in s strm h
  | safeStreamSend => exact execSafeStreamSend_in s h
  | canFrameReceived k f before own => exact execCanFrameReceived_in s k f before own h
  | moTxReq src k v => exact execMoTxReq_in s src k v h
  | moCancel src k v => exact execMoCancel_in s src k v h
  | moDataWrite src k o data => exact execMoDataWrite_in s src k o data h
  | moCfgWrite src k o v => exact execMoCfgWrite_in s src k o v h
  | bitTimingWrite src k fast v => exact execBitTimingWrite_in s src k fast v h
  | canMode src k v busy => exact execCanMode_in s src k v busy h
  | canTransmitEnd k e => exact execCanTransmitEnd_in s k e h
  | canError k kind tx rx clash => exact execCanError_in s k kind tx rx clash h
  | protocolException k => exact execProtocolException_in s k h
  | busoffRecover src k v => exact execBusoffRecover_in s src k v h
  | busoffAutoExpiry k => exact execBusoffAutoExpiry_in s k h
  | busoffRecovered k => exact execBusoffRecovered_in s k h
  | dupClear src k v => exact execDupClear_in s src k v h
  | referenceReceived k id cycle quality utc lost => exact execReferenceReceived_in s k id cycle quality utc lost h
  | referenceSend k => exact execReferenceSend_in s k h
  | backupTakeover k => exact execBackupTakeover_in s k h
  | ttSyncLoss k => exact execTtSyncLoss_in s k h
  | ttMark k mark idle => exact execTtMark_in s k mark idle h
  | read src index sub offset raw => exact execRead_in s src index sub offset raw h
  | write src index sub total offset data raw => exact execWrite_in s src index sub total offset data raw h
  | heartbeat src state period raw => exact execHeartbeat_in s src state period raw h
  | transferTimeout src => exact execTransferTimeout_in s src h
  | partnerHeartbeatTimeout src => exact execPartnerHeartbeatTimeout_in s src h
  | partnerAgeExpiry src => exact execPartnerAgeExpiry_in s src h
  | deviceHeartbeatSend => exact execDeviceHeartbeatSend_in s h
  | sealedEnvelopeRequest r => exact execSealedEnvelopeRequest_in s r h
  | sealedSafetyIoRequest r => exact execSealedSafetyIoRequest_in s r h
  | sealedTrustRequest r => exact execSealedTrustRequest_in s r h
  | sealedItemsRequest r => exact execSealedItemsRequest_in s r h
  | provisioningRequest r => exact execProvisioningRequest_in s r h
  | counterStored => exact execCounterStored_in s h
  | trustErase src v => exact execTrustErase_in s src v h
  | trustErasure => exact execTrustErasure_in s h
  | fwOpen head v => exact execFwOpen_in s head v h
  | fwImage src total offset data => exact execFwImage_in s src total offset data h
  | fwCommit head digest headerOk generation version => exact execFwCommit_in s head digest headerOk generation version h
  | fwSessionTimeout => exact execFwSessionTimeout_in s h
  | cfgStore src v => exact execCfgStore_in s src v h
  | eventOccurrence code source item data => exact execEventOccurrence_in s code source item data h
  | recorderFlush => exact execRecorderFlush_in s h
  | suppressionSummary code => exact execSuppressionSummary_in s code h
  | recWindow src => exact execRecWindow_in s src h
  | recClear head v => exact execRecClear_in s head v h
  | rateLimitWrite src code v => exact execRateLimitWrite_in s src code v h
  | histRead src => exact execHistRead_in s src h
  | windowCounterLasting cls item => exact execWindowCounterLasting_in s cls item h
  | lockstepCommit => exact execLockstepCommit_in s h
  | lockstepMismatch parity => exact execLockstepMismatch_in s parity h
  | pairForming passA passB => exact execPairForming_in s passA passB h
  | swapResume => exact execSwapResume_in s h
  | spareCoreSelfTest pass => exact execSpareCoreSelfTest_in s pass h
  | sramScrub rows => exact execSramScrub_in s rows h
  | sramEccError row corrected owner => exact execSramEccError_in s row corrected owner h
  | flashError block kind => exact execFlashError_in s block kind h
  | oscWindow w => exact execOscWindow_in s w h
  | phyRestore src v => exact execPhyRestore_in s src v h
  | healthClear head v => exact execHealthClear_in s head v h
  | deviceTempRound t => exact execDeviceTempRound_in s t h
  | throttleExitDwell => exact execThrottleExitDwell_in s h
  | throttleSelect src v => exact execThrottleSelect_in s src v h
  | ethApply src v => exact execEthApply_in s src v h
  | addressConflict k => exact execAddressConflict_in s k h
  | ethLinkChange k up fast => exact execEthLinkChange_in s k up fast h
  | streamSetSend resolved count => exact execStreamSetSend_in s resolved count h
  | streamSuspension => exact execStreamSuspension_in s h
  | timeSourceSelection => exact execTimeSourceSelection_in s h
  | timeSet head v => exact execTimeSet_in s head v h
  | rtcAlarm => exact execRtcAlarm_in s h
  | ptpMessageReceived k domain strm => exact execPtpMessageReceived_in s k domain strm h
  | announceReceiptTimeout => exact execAnnounceReceiptTimeout_in s h
  | requestStandby src => exact execRequestStandby_in s src h
  | requestArmed src => exact execRequestArmed_in s src h
  | requestService src => exact execRequestService_in s src h
  | registerWrite src index sub data => exact execRegisterWrite_in s src index sub data h
  | nodeRestart a0 place selfFail => exact execNodeRestart_in s a0 place selfFail h
  | canStartOfFrame k => exact execCanStartOfFrame_in s k h
  | canIntegrationComplete k => exact execCanIntegrationComplete_in s k h
  | ethFrameReceived k f len => exact execEthFrameReceived_in s k f len h
  | ptpMessageInterval k => exact execPtpMessageInterval_in s k h
  | leapSecond => exact execLeapSecond_in s h
  | belSensorFail k => exact execBelSensorFail_in s k h
  | wakeInFall => exact execWakeInFall_in s h

/-- Settles O52: read off the frame of the command with exactly the parts listed for it. -/
theorem commandsKeepOtherParts : Obligations.CommandsKeepOtherParts := by
  intro c s t hexec
  have hparts : (mayChange c).all (only (mayChange c)) = true :=
    List.all_eq_true.2 fun p hp => List.contains_iff_mem.2 hp
  have hblank := exec_in c s hparts t hexec
  have hother {p : Part} (hp : p ∉ mayChange c) : only (mayChange c) p = false :=
    Bool.eq_false_iff.2 fun h => hp (List.contains_iff_mem.1 h)
  exact ⟨fun p hp => same_of_blank hblank (hother hp), pending_of_blank hblank, now_of_blank hblank, serial_of_blank hblank⟩

end Sys2Proof.Machine

/-!
The queue and the whole machine (O49 to O51, O53 to O55): what a step keeps, what it meets on an empty queue, and the reset state.
-/

namespace Sys2Proof.Machine

-- One thread per theorem would be more than the compiler's memory limit allows.
set_option Elab.async false

/-! ## The table of nodes -/

/-- A value put in a table leaves it in its canonical form. -/
theorem Sparse.wf_put {α : Type} (t : Sparse α) (k : Nat) (v : α) (h : Sparse.wf t = true) : Sparse.wf (Sparse.put t k v) = true := by
  induction t with
  | nil => rfl
  | cons a t ih =>
    rcases lt_trichotomy k a.1 with hlt | heq | hgt
    · simp [Sparse.put, Sparse.wf, hlt, h]
    · cases t with
      | nil => simp [Sparse.put, Sparse.wf, heq]
      | cons b t =>
        simp only [Sparse.wf, Bool.and_eq_true] at h
        simp [Sparse.put, Sparse.wf, heq, h]
    · cases t with
      | nil => simp [Sparse.put, Sparse.wf, hgt, hgt.not_gt, hgt.ne']
      | cons b t =>
        simp only [Sparse.wf, Bool.and_eq_true, decide_eq_true_eq] at h
        have htail := ih h.2
        rcases lt_trichotomy k b.1 with hb | rfl | hb
        · simp [Sparse.put, Sparse.wf, hgt, hgt.not_gt, hgt.ne', hb, h.2]
        · simp only [Sparse.put, lt_irrefl, if_true, if_false] at htail
          simpa [Sparse.put, Sparse.wf, hgt, hgt.not_gt, hgt.ne'] using htail
        · simp only [Sparse.put, hb.not_gt, hb.ne', if_false] at htail
          simpa [Sparse.put, Sparse.wf, hgt.not_gt, hgt.ne', hb.not_gt, hb.ne', h.1] using htail

/-- A command that changes nodes updates one of them. -/
theorem exec_nodes {c : Instr} {s t : State} (h : exec c s = .next t) : t.nodes = s.nodes ∨ ∃ i p f, t = s.modNode i p f := by
  by_cases hnodes : Part.nodes ∈ mayChange c
  · right
    cases c with
    | rollCallA | rollCallB | hopEcho | setServe | continuity | trigger | latchStrobe | recessStart | readHeld | readTemp | readHk | openWire
      | setBalance | setFilter | setConfig | baseCamp | nop | commLossTimeout | baseCampWakeMeasure | wakeToneSend | wakeToneRepeat
      | nodeRestart => cases h; exact ⟨_, _, _, rfl⟩
    | _ => simp [mayChange, allBut] at hnodes
  · exact Or.inl ((commandsKeepOtherParts c s t h).1 .nodes hnodes)

theorem exec_nodes_wf {c : Instr} {s t : State} (h : exec c s = .next t) (hwf : Sparse.wf s.nodes = true) : Sparse.wf t.nodes = true := by
  rcases exec_nodes h with hsame | ⟨i, p, f, rfl⟩
  · rwa [hsame]
  · exact Sparse.wf_put _ _ _ hwf

/-! ## The idle block -/

/-- A write that is carried out once its sealed request has ended leaves the nodes and the time. -/
theorem State.releaseWrite_blank {s t : State} (h : s.releaseWrite = some t) : t.blank (only (allBut [.nodes])) = s.blank (only (allBut [.nodes])) := by
  obtain ⟨w, -, rfl⟩ := Option.map_eq_some_iff.1 h
  rw [State.writeNow_in rfl rfl rfl rfl rfl rfl _ _ _ _ _ _ _ _ ?apply ?after, State.setTag_in rfl, blank_set_waitingWrites rfl]
  case apply => exact fun r u => State.applyEntry_in rfl rfl rfl rfl rfl rfl rfl rfl rfl rfl rfl rfl rfl rfl rfl rfl rfl rfl rfl rfl rfl rfl rfl rfl rfl rfl rfl rfl rfl rfl _ _ _ _ _ _
  case after => exact fun u => entryAfter_in rfl rfl rfl rfl rfl _ _ u

theorem State.idle_inv {s : State} (h : s.Inv) : s.idle.Inv := by
  obtain ⟨hnow, hnodes⟩ := h
  have htick : State.Inv { s with now := s.now + 10 } := ⟨(Nat.add_mod_right s.now 10).trans hnow, hnodes⟩
  unfold State.idle
  split
  · exact ⟨hnow, hnodes⟩
  · split
    next t hwrite =>
      split at hwrite
      · have hblank := State.releaseWrite_blank hwrite
        have hsame : t.nodes = s.nodes := same_of_blank (p := .nodes) hblank rfl
        exact ⟨by rw [now_of_blank hblank, hnow], by rw [hsame, hnodes]⟩
      · cases hwrite
    · exact htick

/-! ## The obligations -/

/-- Settles O53: a command keeps the time and updates at most one node; the idle block keeps the grid. -/
theorem stepKeepsInvariant : Obligations.StepKeepsInvariant := by
  intro s t hinv hstep
  unfold step at hstep
  split at hstep
  next c rest _ =>
    obtain ⟨-, -, hnow, -⟩ := commandsKeepOtherParts c _ t hstep
    exact ⟨by rw [hnow]; exact hinv.1, exec_nodes_wf hstep hinv.2⟩
  next =>
    cases hstep
    exact State.idle_inv hinv

/-- Settles O54. -/
theorem resetMeetsInvariant : Obligations.ResetMeetsInvariant := ⟨rfl, rfl⟩

/-- Settles O51: every meaning is written as a next state. -/
theorem everyCommandEnds : Obligations.EveryCommandEnds := by
  intro c s
  cases c <;> exact ⟨_, rfl⟩

/-- Settles O49. -/
theorem stepRunsFrontCommand : Obligations.StepRunsFrontCommand := by
  intro s c rest hpending
  simp only [step, hpending]

theorem State.releaseWrite_first {s : State} {w : WaitingWrite} {rest : List WaitingWrite} (hq : s.waitingWrites = w :: rest)
    (hfree : s.sealHolds w.index w.sub = false) : s.releaseWrite = some
      (({ s with waitingWrites := rest }.setTag w.src w.tag).writeNow w.src w.index w.sub w.data
        (fun r u => u.applyEntry w.src w.index w.sub w.data r) (entryAfter w.index w.sub) w.last) := by
  simp [State.releaseWrite, hq, hfree]

theorem State.releaseWrite_none {s : State} (hheld : ∀ w ∈ s.waitingWrites, s.sealHolds w.index w.sub = true) : s.releaseWrite = none := by
  simp only [State.releaseWrite, Option.map_eq_none_iff, List.find?_eq_none]
  intro w hw
  simp [hheld w hw]

/-- What the idle block does where no request held through a core swap comes up. -/
theorem State.idle_of_none_held {s : State} (h : s.cores.swapping = true ∨ s.heldReq = []) :
    s.idle = ((if s.fwActs then s.releaseWrite else none).getD { s with now := s.now + 10 }) := by
  unfold State.idle
  split
  next hswap hheld => simp [hswap, hheld] at h
  next => split <;> simp [*]

/-- Settles O50. -/
theorem idleStep : Obligations.IdleStep := by
  intro s hpending
  refine ⟨s.idle, by simp only [step, hpending], fun hswap hheld => ?held, fun w rest hheld hfw hq hfree => ?write, fun hheld hwrites => ?tick⟩
  case held =>
    obtain ⟨c, rest, hcons⟩ := List.exists_cons_of_ne_nil hheld
    simp only [State.idle, hswap, hcons]
  case write => simp only [State.idle_of_none_held (.inr hheld), hfw, if_true, State.releaseWrite_first hq hfree, Option.getD_some]
  case tick =>
    rw [State.idle_of_none_held hheld]
    rcases hwrites with hfw | hall
    · simp only [hfw, Bool.false_eq_true, if_false, Option.getD_none]
    · simp only [State.releaseWrite_none hall, ite_self, Option.getD_none]

/-- Settles O55: each value is read off the reset state. -/
theorem resetValues : Obligations.ResetValues := by
  refine ⟨rfl, rfl, rfl, rfl, fun i => ?strings, fun k => ?cans, fun _ _ => rfl, rfl, rfl⟩
  case strings => simp [State.reset, StrCtl.reset]
  case cans => simp [State.reset, Can.reset]

end Sys2Proof.Machine

/-!
Rope nodes (O24 to O26): what a node makes of every frame it hears and of every command it accepts, the bytes of its replies, and the
commands one by one.
-/

namespace Sys2Proof.Machine

-- One thread per theorem would be more than the compiler's memory limit allows.
set_option Elab.async false

/-! ## A frame heard, a command accepted -/

/-- A frame heard changes the node's frame tracking alone (04 R116, R122). -/
theorem Node.hear_eq (n : Node) (f : NodeRx) : ∃ repeated onward heard gap fcntA fcntB, n.hear f =
    { n with repeated := repeated, onward := onward, heard := heard, gap := gap, fcntA := fcntA, fcntB := fcntB } := by
  unfold Node.hear
  dsimp only
  split
  · exact ⟨_, _, _, _, _, _, rfl⟩
  · cases f.from_ <;> exact ⟨_, _, _, _, _, _, rfl⟩

/-- The node as it stands when it acts on an accepted command. -/
def Node.received (n : Node) (f : NodeRx) (now : Nat) : Node := (n.hear f).take f.place now

/-- What acceptance does: `ACC` rises, the timeout starts again, and an expiry of it is applied first (04 R115, R136). -/
theorem Node.received_eq (n : Node) (f : NodeRx) (now : Nat) : ∃ repeated onward heard gap fcntA fcntB wasOn switched balStopped,
    n.received f now = { n with repeated := repeated, onward := onward, heard := heard, gap := gap, fcntA := fcntA, fcntB := fcntB,
                                wasOn := wasOn, switched := switched, balStopped := balStopped,
                                acc := (n.acc + 1) % 64, acceptedAt := now } := by
  obtain ⟨r, o, h, g, a, b, heq⟩ := n.hear_eq f
  unfold Node.received Node.take Node.expire
  rw [heq]
  split <;> exact ⟨_, _, _, _, _, _, _, _, _, rfl⟩

@[simp] theorem Node.hear_serving (n : Node) (f : NodeRx) : (n.hear f).serving = n.serving := by
  obtain ⟨r, o, h, g, a, b, heq⟩ := n.hear_eq f
  rw [heq]; rfl
@[simp] theorem Node.hear_addressed (n : Node) (f : NodeRx) : (n.hear f).addressed f = n.addressed f := by
  obtain ⟨r, o, h, g, a, b, heq⟩ := n.hear_eq f
  rw [heq]; rfl
@[simp] theorem Node.hear_inRange (n : Node) (f : NodeRx) : (n.hear f).inRange f = n.inRange f := by
  obtain ⟨r, o, h, g, a, b, heq⟩ := n.hear_eq f
  rw [heq]; rfl
@[simp] theorem Node.hear_position (n : Node) (f : NodeRx) : (n.hear f).position = n.position := by
  obtain ⟨r, o, h, g, a, b, heq⟩ := n.hear_eq f
  rw [heq]

section
variable (n : Node) (f : NodeRx) (now : Nat)

theorem Node.received_kept : (n.received f now).acc = (n.acc + 1) % 64 ∧ (n.received f now).acceptedAt = now ∧
    (n.received f now).position = n.position ∧ (n.received f now).bHop = n.bHop ∧ (n.received f now).serve = n.serve ∧
    (n.received f now).serveNext = n.serveNext ∧ (n.received f now).held = n.held ∧ (n.received f now).tag = n.tag ∧
    (n.received f now).reply = n.reply ∧ (n.received f now).mask = n.mask ∧ (n.received f now).filter = n.filter ∧
    (n.received f now).openWire = n.openWire ∧ (n.received f now).camp = n.camp ∧ (n.received f now).temps = n.temps ∧
    (n.received f now).hk = n.hk ∧ (n.received f now).slowTag = n.slowTag ∧ (n.received f now).serving = n.serving ∧
    (∀ e, (n.received f now).hopFrom e = n.hopFrom e) ∧ ∀ place, (n.received f now).identity place = n.identity place := by
  obtain ⟨_, _, _, _, _, _, _, _, _, heq⟩ := n.received_eq f now
  rw [heq]
  exact ⟨rfl, rfl, rfl, rfl, rfl, rfl, rfl, rfl, rfl, rfl, rfl, rfl, rfl, rfl, rfl, rfl, rfl, fun e => by cases e <;> rfl, fun _ => rfl⟩

end

/-- Position 0 and a node in base camp have no timeout of their own (04 R136). -/
theorem Node.received_balStopped (n : Node) {f : NodeRx} (now : Nat) (h : f.place = 0 ∨ n.camp = true) :
    (n.received f now).balStopped = n.balStopped := by
  obtain ⟨_, _, _, _, _, _, heq⟩ := n.hear_eq f
  have hidle : (decide (f.place.val ≠ 0) && !n.camp) = false := by
    rcases h with h | h <;> simp [h]
  simp only [Node.received, Node.take, Node.expire, heq, hidle, Bool.false_and, Bool.false_eq_true, if_false]

/-- A sound frame with the command's code and length, from the serving end or with `FAR`, that includes the node is acted on. -/
theorem State.nodeFrame_heard {s : State} {f : NodeRx} {n : Node} {code len : Nat} {included : Node → Bool} {act : Node → Node}
    (hn : n = s.node f.string f.place.val) (h : heardByNode n f code len) (hin : included (n.hear f) = true) :
    s.nodeFrame f code len included act = s.setNode f.string f.place.val (act (n.received f s.now)) := by
  obtain ⟨hcrc, hcode, hlen, hend⟩ := h
  have hserve : (f.far || match n.serving with | some v => decide (v.end_ = f.from_) | none => true) = true := by
    rcases hend with hfar | hown
    · simp [hfar]
    · cases hv : n.serving with
      | none => simp
      | some v => simp [hown v hv]
  have haccept : (n.hear f).accepts f code len (included (n.hear f)) = true := by
    simp only [Node.accepts, hcrc, hcode, hlen, hin, decide_true, Bool.and_self, Bool.true_and, Node.hear_serving]
    exact hserve
  simp only [State.nodeFrame, State.modNode, ← hn, haccept, if_true, Node.received]

/-! ## The bytes of a reply (04 Table 4-3) -/

theorem beBytes_length (w n : Nat) : (beBytes w n).length = w := by
  induction w with
  | zero => rfl
  | succ w ih => simp only [beBytes, List.length_cons, ih]

theorem flatten_map_length {α : Type} {l : List α} {g : α → List Byte} {w : Nat} (h : ∀ a, (g a).length = w) :
    (l.map g).flatten.length = l.length * w := by
  induction l with
  | nil => simp
  | cons a l ih => simp [h, ih, Nat.succ_mul, Nat.add_comm]

theorem Node.identity_length (n : Node) (place : Fin 33) : (n.identity place).length = 8 := by
  simp only [Node.identity, u8, u16, u32, List.length_append, beBytes_length]

theorem heldBytes_length (h : HeldSample) (h1 : Bool) : (heldBytes h h1).length = 32 := by
  unfold heldBytes
  split
  · simp only [i16, i32, u16, u32, List.length_append, beBytes_length, List.length_replicate]
  · exact (flatten_map_length fun _ => beBytes_length 2 _).trans (by rw [List.length_range])

/-- A reply carries its tag and its data from byte 3 on. -/
theorem Node.send_reply_tagged (n : Node) (place : Fin 33) (kind tag : Nat) {data : List Byte} {k : Nat} (hk : data.length = k) :
    ((n.send place kind tag data).reply.drop 3).take (k + 1) = u8 tag ++ data := by
  subst hk
  simp [Node.send, u8, beBytes]

/-- A reply carries its data from byte 4 on. -/
theorem Node.send_reply_data (n : Node) (place : Fin 33) (kind tag : Nat) (data : List Byte) {k : Nat} (hk : k ≤ data.length) :
    ((n.send place kind tag data).reply.drop 4).take k = data.take k := by
  simp [Node.send, u8, beBytes, List.take_append_of_le_length hk]

/-- The first two data bytes of an acknowledgement: the command and its result (04 R111). -/
theorem Node.ack_reply (n : Node) (place : Fin 33) (f : NodeRx) (result : Nat) :
    ((n.ack place f result).reply.drop 4).take 2 = u8 f.cmd ++ u8 result := by
  rw [Node.ack, Node.send_reply_data _ _ _ _ _ (by simp [u8, beBytes_length])]
  simp [u8, beBytes]

theorem Node.send_identity (n : Node) (place : Fin 33) (m : Node) :
    ((n.send place 2 0 (m.identity place)).reply.drop 4).take 8 = m.identity place := by
  rw [Node.send_reply_data _ _ _ _ _ (m.identity_length place).ge, List.take_of_length_le (m.identity_length place).le]

theorem Node.target_of_position {n : Node} {f : NodeRx} (hp : n.position = some f.addr) (hb : f.addr ≠ 0x3F) :
    (n.hear f).target f = true := by
  simp [Node.target, Node.addressed, hp, hb]

/-! ## The obligations -/

/-- A mask has exactly one bit where it is a power of two of the 16 pairs. -/
theorem oneBit_all (x : Nat) : ((List.range 16).all fun j => decide (x ≠ 2 ^ j)) = !((List.range 16).any fun j => decide (x = 2 ^ j)) := by
  simp only [List.all_eq_not_any_not, ne_eq, decide_not, Bool.not_not]

/-- Settles O24: the frame is heard and taken; each field is read off the command's own update of the node as it then stands. -/
theorem nodeCommands : Obligations.NodeCommands := by
  intro s f n hn
  obtain ⟨hacc, hat, hpos, hhop, hserve, hnext, hheld, -, hreply, hmask, hfilter, hopen, hcamp, -, -, -, -, -, hid⟩ := n.received_kept f s.now
  refine ⟨fun h hin => ?rollCallA, fun h hin => ?rollCallB, fun h hp hb => ?hopEcho, fun h hp hb => ?continuity, fun h hin => ?nop,
    fun p h hin hp hlo hhi => ?setServe, fun opn h hp hb => ?openWire, fun h hp hb => ?setBalance, fun h hp hb => ?setFilter,
    fun h hin => ?setConfig, fun h hin hplace hflag => ?baseCamp⟩
  case rollCallA =>
    have hcode := h.2.1
    exact ⟨_, congrArg Host.Outcome.next (State.nodeFrame_heard hn h (by simpa using hin)), rfl, rfl, congrArg (masterFrame f.far · f.addr f.fcnt _) hcode, hhop, hacc, hat,
      hheld, (Node.send_identity _ _ _).trans (hid f.place)⟩
  case rollCallB =>
    have hcode := h.2.1
    exact ⟨_, congrArg Host.Outcome.next (State.nodeFrame_heard hn h (by simpa using hin)), rfl, rfl, congrArg (masterFrame f.far · f.addr f.fcnt _) hcode, hpos, hacc,
      hheld, (Node.send_identity _ _ _).trans (hid f.place)⟩
  case hopEcho =>
    exact ⟨_, congrArg Host.Outcome.next (State.nodeFrame_heard hn h (Node.target_of_position hp hb)), hpos, hhop, hacc,
      (Node.send_identity _ _ _).trans (hid f.place)⟩
  case continuity =>
    exact ⟨_, congrArg Host.Outcome.next (State.nodeFrame_heard hn h (Node.target_of_position hp hb)), hpos, hhop, hacc,
      (Node.send_identity _ _ _).trans (hid f.place)⟩
  case nop =>
    exact ⟨_, congrArg Host.Outcome.next (State.nodeFrame_heard hn h (by simpa using hin)), rfl, rfl, rfl, rfl, rfl, hpos, hacc, hreply⟩
  case setServe =>
    exact ⟨_, congrArg Host.Outcome.next (State.nodeFrame_heard hn h (by simp [hin, hp, serveOf, hlo, hhi])), rfl, hserve, hacc, hreply⟩
  case openWire =>
    refine ⟨_, congrArg Host.Outcome.next (State.nodeFrame_heard hn h (Node.target_of_position hp hb)), ?_⟩
    simp only [oneBit_all, Bool.not_eq_true']
    split
    next hplace =>
      have hzero : f.place = 0 := Fin.val_eq_zero_iff.1 hplace
      exact ⟨fun oneBit hone => ⟨hopen.trans (if_pos (.inl hzero)).symm, by simp [hzero, Node.ack_reply]⟩, hmask, hacc⟩
    next hplace =>
      have hnot : f.place ≠ 0 := fun hzero => hplace (Fin.val_eq_zero_iff.2 hzero)
      split
      next hbit => exact ⟨fun oneBit hone => ⟨hopen.trans (if_pos (.inr (hone.trans hbit))).symm, by simp [hone, hbit, Node.ack_reply]⟩, hmask, hacc⟩
      next hbit => exact ⟨fun oneBit hone => ⟨by simp [hnot, hone, hbit], by simp [hone, hbit, Node.ack_reply]⟩, hmask, hacc⟩
  case setBalance =>
    refine ⟨_, congrArg Host.Outcome.next (State.nodeFrame_heard hn h (Node.target_of_position hp hb)), ?_⟩
    have hcond : (decide (f.place.val = 0) || (n.received f s.now).camp) = true ↔ (f.place = 0 ∨ n.camp = true) := by
      simp [hcamp]
    simp only [hcond]
    split
    next hidle => exact ⟨hmask, n.received_balStopped s.now hidle, hfilter, hacc, Node.ack_reply _ _ _ _⟩
    next => exact ⟨rfl, rfl, hfilter, hacc, Node.ack_reply _ _ _ _⟩
  case setFilter =>
    refine ⟨_, congrArg Host.Outcome.next (State.nodeFrame_heard hn h (Node.target_of_position hp hb)), ?_⟩
    have hcond : f.place.val = 0 ↔ f.place = 0 := Fin.val_eq_zero_iff
    simp only [hcond]
    split
    next hplace => exact ⟨hfilter.trans (if_pos (.inl hplace)).symm, hmask, hacc, Node.ack_reply _ _ _ _⟩
    next hplace =>
      simp only [hplace, false_or]
      split
      · exact ⟨hfilter, hmask, hacc, Node.ack_reply _ _ _ _⟩
      · exact ⟨rfl, hmask, hacc, Node.ack_reply _ _ _ _⟩
  case setConfig =>
    refine ⟨_, congrArg Host.Outcome.next (State.nodeFrame_heard hn h (by simpa using hin)), ?_⟩
    dsimp only
    split
    · exact ⟨rfl, rfl, rfl, hmask, hacc, hreply⟩
    · exact ⟨rfl, rfl, rfl, hmask, hacc, Node.ack_reply _ _ _ _⟩
  case baseCamp =>
    refine ⟨_, congrArg Host.Outcome.next (State.nodeFrame_heard hn h (by simpa using hin)), ?_⟩
    have hcond : (decide (f.place.val ≠ 0) && (f.field 1 1).testBit 0) = true := by simpa [hflag] using hplace
    rw [if_pos hcond]
    exact ⟨rfl, rfl, rfl, rfl, rfl, hacc, hreply⟩

/-! ## Traverses -/

theorem State.modNode_eq {s : State} {i : Fin 40} {p : Fin 33} {n : Node} (hn : n = s.node i p.val) (g : Node → Node) :
    s.modNode i p.val g = s.setNode i p.val (g n) := by
  rw [hn]; rfl

/-- Settles O25: the frame is heard and taken, the strobe recovers its sample, and each reply carries its tag and its data. -/
theorem nodeTraverse : Obligations.NodeTraverse := by
  intro s f n hn
  obtain ⟨hacc, -, -, -, -, -, hheld, htag, hreply, -, -, -, -, htemps, hhk, hslow, hserving, hhop, -⟩ := n.received_kept f s.now
  refine ⟨fun h hin => ?trigger, fun history temps hk hot k hstrobe hdue => ?latch, fun hplace hdue => ?recess, fun h hin => ?readHeld,
    fun h hin hplace => ?readTemp, fun h hin hplace => ?readHk⟩
  case trigger =>
    refine ⟨_, congrArg Host.Outcome.next (State.nodeFrame_heard hn h (by simpa using hin)), ?_⟩
    have hother (e : PortEnd) (m : Node) (hpos : m.position = (n.received f s.now).position)
        (hbhop : m.bHop = (n.received f s.now).bHop) :
        m.hopFrom e = n.hopFrom e := by
      rw [← hhop e]
      cases e
      · exact hpos
      · exact hbhop
    dsimp only
    rw [hserving]
    have hdata (m : Node) (hm : m.held = (n.received f s.now).held) (tag : Nat) :
        ((m.send f.place 0 tag (heldBytes m.held (f.place.val = 0))).reply.drop 4).take 32 = heldBytes n.held (f.place.val = 0) := by
      rw [Node.send_reply_data _ _ _ _ _ (heldBytes_length _ _).ge, List.take_of_length_le (heldBytes_length _ _).le, hm, hheld]
    cases hv : n.serving with
    | none => exact ⟨rfl, rfl, rfl, rfl, rfl, hheld, nofun, fun _ => ⟨rfl, htag, hdata _ (by rfl) _⟩⟩
    | some v =>
      simp only [hother]
      cases hh : n.hopFrom v.end_ with
      | none =>
        refine ⟨rfl, rfl, rfl, rfl, rfl, hheld, fun w h hw hhop' => ?_, nofun⟩
        cases hw
        rw [hh] at hhop'
        cases hhop'
      | some hop =>
        refine ⟨rfl, rfl, rfl, rfl, rfl, hheld, fun w h hw hhop' => ?_, nofun⟩
        cases hw
        cases hh.symm.trans hhop'
        exact ⟨hreply, rfl⟩
  case latch =>
    have hnow : ¬ s.now < k.at_ := not_lt.2 hdue
    refine ⟨_, congrArg Host.Outcome.next (State.modNode_eq hn _), ?_⟩
    simp only [hstrobe, hnow, if_false]
    have hcond : (k.slow && decide (f.place.val ≠ 0)) = true ↔ k.slow = true ∧ f.place ≠ 0 := by simp
    simp only [hcond]
    split
    next hslow =>
      refine ⟨?sample, rfl, rfl, rfl, rfl, rfl, rfl, rfl, fun _ _ => ⟨rfl, rfl, rfl⟩, fun hfast => ?_⟩
      case sample => 
        rintro sample rfl
        exact ⟨rfl, fun hprev => by simp [Node.send, Node.meanOf, hprev]⟩
      rcases hfast with hfast | hfast
      · simp [hfast] at hslow
      · exact absurd hfast hslow.2
    next hslow =>
      refine ⟨?sample, rfl, rfl, rfl, rfl, rfl, rfl, rfl, fun hk hplace => absurd ⟨hk, hplace⟩ hslow, fun _ => ⟨rfl, rfl, rfl⟩⟩
      case sample =>
        rintro sample rfl
        exact ⟨rfl, fun hprev => by simp [Node.send, Node.meanOf, hprev]⟩
  case recess =>
    have hcond : (decide (f.place.val ≠ 0) && decide (n.nextAt ≤ s.now + n.recess * 100000 + us 2)) = true := by simpa [hdue] using hplace
    refine congrArg Host.Outcome.next ((State.modNode_eq hn _).trans ?_)
    rw [if_pos hcond]
    rfl
  case readHeld =>
    refine ⟨_, congrArg Host.Outcome.next (State.nodeFrame_heard hn h (by simpa using hin)), hheld, hacc, ?_⟩
    rw [← htag, ← hheld]
    exact Node.send_reply_tagged _ _ _ _ (heldBytes_length _ _)
  case readTemp =>
    refine ⟨_, congrArg Host.Outcome.next (State.nodeFrame_heard hn h (by simpa [hin] using hplace)), htemps, hacc, ?_⟩
    rw [← hslow, ← htemps]
    exact Node.send_reply_tagged _ _ _ _ (flatten_map_length fun _ => beBytes_length 2 _)
  case readHk =>
    refine ⟨_, congrArg Host.Outcome.next (State.nodeFrame_heard hn h (by simpa [hin] using hplace)), hhk, hacc, ?_⟩
    rw [← hslow, ← hhk]
    exact Node.send_reply_tagged _ _ _ _ (flatten_map_length fun _ => beBytes_length 2 _)

/-! ## A node on its own -/

theorem nodeKey_inj {i j : Fin 40} {p q : Fin 33} (h : nodeKey i p.val = nodeKey j q.val) : i = j ∧ p = q := by
  simp only [nodeKey] at h
  exact ⟨Fin.ext (by omega), Fin.ext (by omega)⟩

/-- Nodes are apart: the table reads the node last put at a place. -/
theorem State.node_setNode (s : State) (i j : Fin 40) (p q : Fin 33) (m : Node) :
    (s.setNode i p.val m).node j q.val = if i = j ∧ p = q then m else s.node j q.val := by
  have hkey : nodeKey i p.val = nodeKey j q.val ↔ i = j ∧ p = q := ⟨nodeKey_inj, by rintro ⟨rfl, rfl⟩; rfl⟩
  simp only [State.node, State.setNode_nodes, Sparse.getD, sparse_get?_put, hkey]
  split <;> rfl

/-- Settles O26: each command is one update of its node, by the cases of Table 6-4. -/
theorem nodeOnItsOwn : Obligations.NodeOnItsOwn := by
  intro s i p n hn
  refine ⟨fun hp hcamp hdue => ?commLoss, fun cells temps hp hcamp htones hdue hbad => ?measure, fun cells temps hp hcamp htones => ?later,
    fun due htone hdue hcamp => ?tone, fun e hdeaf => ?repeats, fun selfFail => ?restart, fun m => ⟨?same, fun j q hother => ?other⟩⟩
  case commLoss =>
    have hcond : (decide (p.val ≠ 0) && !n.camp && decide (n.acceptedAt + ms (100 * n.commLoss) ≤ s.now)) = true := by
      simpa [hcamp, hdue] using hp
    refine congrArg Host.Outcome.next ((State.modNode_eq hn _).trans ?_)
    rw [Node.expire, if_pos hcond]
    rfl
  case measure =>
    have hcond : ¬ (decide (p.val = 0) || !n.camp) = true := by simpa [hcamp] using hp
    have hfew : ¬ 3 ≤ n.tones := not_le.2 htones
    refine ⟨_, congrArg Host.Outcome.next (State.modNode_eq hn _), ?_⟩
    simp only [if_neg hcond, if_neg hfew]
    cases hsus : n.suspect with
    | none => simp [hbad, hdue, hcamp]
    | some t0 =>
      by_cases hlt : s.now < t0 + ms 100
      · simp [hlt, hcamp]
      · simp [hlt, hbad, hcamp]
  case later =>
    have hcond : ¬ (decide (p.val = 0) || !n.camp) = true := by simpa [hcamp] using hp
    refine congrArg Host.Outcome.next ((State.modNode_eq hn _).trans ?_)
    simp only [if_neg hcond, if_pos htones]
  case tone =>
    have hcond : ¬ (!n.camp || decide (s.now < due)) = true := by simp [hcamp, hdue]
    refine ⟨_, congrArg Host.Outcome.next (State.modNode_eq hn _), ?_⟩
    simp only [htone, if_neg hcond]
    refine ⟨fun h0 => ?_, fun h1 h3 hheard => ?_, fun h1 hheard => ?_, fun h2 hheard => ?_⟩
    · simp [h0]
    · simp [h1, h3, hheard]
    · simp [h1, hheard]
    · simp [h2, hheard]
  case repeats =>
    refine ⟨_, congrArg Host.Outcome.next (State.modNode_eq hn _), ?_⟩
    simp only [if_neg (not_lt.2 hdeaf)]
    simp
  case restart => exact congrArg Host.Outcome.next (State.modNode_eq hn _)
  case same => rw [State.node_setNode, if_pos ⟨rfl, rfl⟩]
  case other =>
    rw [State.node_setNode, if_neg]
    rintro ⟨rfl, rfl⟩
    simp at hother

end Sys2Proof.Machine

/-!
Opening the power path (09 R243, R259, R260, Table 9-8): what every operation that only opens it leaves as it was, so that a property
set up before a trip, a discharge or the end of a pre-charge still holds after it.
-/

namespace Sys2Proof.Machine

-- One thread per theorem would be more than the compiler's memory limit allows.
set_option Elab.async false

/-! ## Fields read off a frame -/

/-- Every part but one. -/
def except (p : Part) : Part → Bool := fun q => decide (q ≠ p)

@[simp] theorem State.gateEvent_gates (s : State) (code : Nat) (c : Fin 52) (data : List Byte) : (s.gateEvent code c data).gates = s.gates := by
  simp only [State.gateEvent, State.irqRaise_gates, State.event_gates]
@[simp] theorem State.gateEvent_banks (s : State) (code : Nat) (c : Fin 52) (data : List Byte) : (s.gateEvent code c data).banks = s.banks := by
  simp only [State.gateEvent, State.irqRaise_banks, State.event_banks]

theorem upd_eq_self {α : Type} {n : Nat} {v : Vector α n} {i : Fin n} {f : α → α} (h : f v[i] = v[i]) : upd v i f = v := by
  unfold upd
  rw [h]
  exact Vector.set_getElem_self i.isLt

theorem upd_upd {α : Type} {n : Nat} (v : Vector α n) (i : Fin n) (f g : α → α) : upd (upd v i f) i g = upd v i fun x => g (f x) := by
  simp [upd]

/-! ## One string, one bank, one channel -/

/-- A string connected to its bar, or about to be. -/
def StrState.connected : StrState → Bool
  | .closed | .matching => true
  | _ => false

/-- What opening makes of a string: its latches are only set, its requests only end, and it is not connected again; the rest stays. -/
structure StrCtl.Opens (c d : StrCtl) : Prop where
  kept : ∃ state trip tripCause tripSet lockout lockoutCause lockoutSet stored waiting requested seen, d =
    { c with state := state, trip := trip, tripCause := tripCause, tripSet := tripSet, lockout := lockout, lockoutCause := lockoutCause,
             lockoutSet := lockoutSet, stored := stored, waiting := waiting, requested := requested, seen := seen }
  trip : c.trip = true → d.trip = true
  lockout : c.lockout = true → d.lockout = true
  waiting : c.waiting = false → d.waiting = false
  requested : c.requested = false → d.requested = false
  state : c.state.connected = false → d.state.connected = false

/-- What opening makes of a bank: its modulator and its pre-charge only end, it does not become LIVE, and FAULTED it stays with its cause. -/
structure BankCtl.Opens (c d : BankCtl) : Prop where
  kept : ∃ state faultCause modulator source dischSince, d =
    { c with state := state, faultCause := faultCause, modulator := modulator, source := source, dischSince := dischSince }
  modulator : c.modulator = false → d.modulator = false
  source : c.source = none → d.source = none
  live : c.state ≠ .live → d.state ≠ .live
  faulted : c.state = .faulted → d.state = .faulted ∧ d.faultCause = c.faultCause

/-- What opening makes of a channel: its command alone, off but for a clamp, whose command goes on. -/
structure Gate.Opens (clamp : Bool) (g h : Gate) : Prop where
  kept : ∃ cmd hold edgeAt, h = { g with cmd := cmd, hold := hold, edgeAt := edgeAt }
  off : clamp = false → g.cmd = false → h.cmd = false
  on : clamp = true → g.cmd = true → h.cmd = true

theorem StrCtl.Opens.refl (c : StrCtl) : c.Opens c := ⟨⟨_, _, _, _, _, _, _, _, _, _, _, rfl⟩, id, id, id, id, id⟩
theorem BankCtl.Opens.refl (c : BankCtl) : c.Opens c := ⟨⟨_, _, _, _, _, rfl⟩, id, id, id, fun h => ⟨h, rfl⟩⟩
theorem Gate.Opens.refl (clamp : Bool) (g : Gate) : g.Opens clamp g := ⟨⟨_, _, _, rfl⟩, fun _ => id, fun _ => id⟩

theorem StrCtl.Opens.trans {c d e : StrCtl} (h : c.Opens d) (k : d.Opens e) : c.Opens e := by
  obtain ⟨_, _, _, _, _, _, _, _, _, _, _, hd⟩ := h.kept
  obtain ⟨_, _, _, _, _, _, _, _, _, _, _, he⟩ := k.kept
  exact ⟨⟨_, _, _, _, _, _, _, _, _, _, _, he.trans (by rw [hd])⟩, k.trip ∘ h.trip, k.lockout ∘ h.lockout, k.waiting ∘ h.waiting,
    k.requested ∘ h.requested, k.state ∘ h.state⟩
theorem BankCtl.Opens.trans {c d e : BankCtl} (h : c.Opens d) (k : d.Opens e) : c.Opens e := by
  obtain ⟨_, _, _, _, _, hd⟩ := h.kept
  obtain ⟨_, _, _, _, _, he⟩ := k.kept
  refine ⟨⟨_, _, _, _, _, he.trans (by rw [hd])⟩, k.modulator ∘ h.modulator, k.source ∘ h.source, k.live ∘ h.live, fun hf => ?_⟩
  exact ⟨(k.faulted (h.faulted hf).1).1, (k.faulted (h.faulted hf).1).2.trans (h.faulted hf).2⟩
theorem Gate.Opens.trans {clamp : Bool} {g h i : Gate} (hg : g.Opens clamp h) (k : h.Opens clamp i) : g.Opens clamp i := by
  obtain ⟨_, _, _, hd⟩ := hg.kept
  obtain ⟨_, _, _, he⟩ := k.kept
  exact ⟨⟨_, _, _, he.trans (by rw [hd])⟩, fun hc => k.off hc ∘ hg.off hc, fun hc => k.on hc ∘ hg.on hc⟩

/-! ## The whole path -/

/-- Two states whose safety inputs, supplies and streams are the same. -/
def State.OutputsOnly (s t : State) : Prop := ∃ outputs, t.io = { s.io with outputs := outputs }

theorem State.OutputsOnly.refl (s : State) : s.OutputsOnly s := ⟨_, rfl⟩
theorem State.OutputsOnly.of_io {s t : State} (h : t.io = s.io) : s.OutputsOnly t := ⟨_, h⟩
theorem State.OutputsOnly.trans {s t u : State} (h : s.OutputsOnly t) (k : t.OutputsOnly u) : s.OutputsOnly u := by
  obtain ⟨o, ho⟩ := h
  obtain ⟨p, hp⟩ := k
  exact ⟨p, by rw [hp, ho]⟩
theorem State.OutputsOnly.modQ (s : State) (q : Fin 16) (f : Output → Output) : s.OutputsOnly (s.modQ q f) := ⟨_, rfl⟩
theorem State.OutputsOnly.forEach {α : Type} {s : State} {l : List α} {f : State → α → State} (h : ∀ (t : State) a, t.OutputsOnly (f t a)) :
    s.OutputsOnly (s.forEach l f) :=
  forEach_keeps (P := fun t => s.OutputsOnly t) (fun t a ht => ht.trans (h t a)) s l (.refl s)

/-- `t` is `s` with its power path opened further, or as it was. -/
structure State.Opens (s t : State) : Prop where
  str : ∀ i : Fin 40, s.strs[i].Opens t.strs[i]
  bank : ∀ b : Fin 4, s.banks[b].Opens t.banks[b]
  gate : ∀ c : Fin 52, s.gates[c].Opens (isClamp c) t.gates[c]
  io : s.OutputsOnly t
  belay : t.belay = s.belay
  now : t.now = s.now

theorem State.Opens.trans {s t u : State} (h : s.Opens t) (k : t.Opens u) : s.Opens u :=
  ⟨fun i => (h.str i).trans (k.str i), fun b => (h.bank b).trans (k.bank b), fun c => (h.gate c).trans (k.gate c), h.io.trans k.io,
    k.belay.trans h.belay, k.now.trans h.now⟩

/-- A state whose strings, banks and channels are those of `s`. -/
theorem State.Opens.of_same {s t : State} (hs : t.strs = s.strs) (hb : t.banks = s.banks) (hg : t.gates = s.gates) (hio : s.OutputsOnly t)
    (hbelay : t.belay = s.belay) (hnow : t.now = s.now) : s.Opens t := by
  refine ⟨fun i => ?_, fun b => ?_, fun c => ?_, hio, hbelay, hnow⟩
  · rw [hs]; exact .refl _
  · rw [hb]; exact .refl _
  · rw [hg]; exact .refl _ _

theorem State.Opens.refl (s : State) : s.Opens s := .of_same rfl rfl rfl (.refl s) rfl rfl

theorem State.Opens.modStr {s : State} {i : Fin 40} {f : StrCtl → StrCtl} (h : s.strs[i].Opens (f s.strs[i])) : s.Opens (s.modStr i f) := by
  refine ⟨fun j => ?_, fun b => .refl _, fun c => .refl _ _, .refl _, rfl, rfl⟩
  rw [State.modStr_strs, upd_get]
  split
  next hij => exact hij ▸ h
  · exact .refl _

theorem State.Opens.modBank {s : State} {b : Fin 4} {f : BankCtl → BankCtl} (h : s.banks[b].Opens (f s.banks[b])) : s.Opens (s.modBank b f) := by
  refine ⟨fun j => .refl _, fun c => ?_, fun c => .refl _ _, .refl _, rfl, rfl⟩
  rw [State.modBank_banks, upd_get]
  split
  next hij => exact hij ▸ h
  · exact .refl _

theorem State.Opens.modGate {s : State} {c : Fin 52} {f : Gate → Gate} (h : s.gates[c].Opens (isClamp c) (f s.gates[c])) :
    s.Opens (s.modGate c f) := by
  refine ⟨fun j => .refl _, fun b => .refl _, fun d => ?_, .refl _, rfl, rfl⟩
  rw [State.modGate_gates, upd_get]
  split
  next hij => exact hij ▸ h
  · exact .refl _ _

theorem State.Opens.forEach {α : Type} {s : State} {l : List α} {f : State → α → State} (h : ∀ (t : State) a, t.Opens (f t a)) : s.Opens (s.forEach l f) :=
  forEach_keeps (P := fun t => s.Opens t) (fun t a ht => ht.trans (h t a)) s l (.refl s)

theorem State.Opens.event (s : State) (code source item : Nat) (data : List Byte) : s.Opens (s.event code source item data) :=
  .of_same (State.event_strs ..) (State.event_banks ..) (State.event_gates ..) (.of_io (State.event_io ..)) (State.event_belay ..) (State.event_now ..)
theorem State.Opens.irqRaise (s : State) (n : Nat) : s.Opens (s.irqRaise n) :=
  .of_same (State.irqRaise_strs ..) (State.irqRaise_banks ..) (State.irqRaise_gates ..) (.of_io (State.irqRaise_io ..)) (State.irqRaise_belay ..)
    (State.irqRaise_now ..)

/-! ## Channels and clamps -/

@[simp] theorem isClamp_chS (i : Fin 40) : isClamp (chS i) = false :=
  decide_eq_false (by simp only [chS]; omega)
@[simp] theorem isClamp_chH (b : Fin 4) : isClamp (chH b) = false :=
  decide_eq_false (by simp only [chH]; omega)
@[simp] theorem isClamp_chL (b : Fin 4) : isClamp (chL b) = false :=
  decide_eq_false (by simp only [chL]; omega)
@[simp] theorem isClamp_chD (b : Fin 4) : isClamp (chD b) = true := by simp [isClamp, chD]

theorem Gate.cmdOff_opens {clamp : Bool} (hc : clamp = false) (g : Gate) (now : Nat) : g.Opens clamp (g.cmdOff now) := by
  subst hc
  unfold Gate.cmdOff
  split <;> exact ⟨⟨_, _, _, rfl⟩, fun _ _ => rfl, nofun⟩

theorem State.sOff_opens (s : State) (i : Fin 40) : s.Opens (s.sOff i) :=
  .modGate ⟨⟨_, _, _, rfl⟩, fun _ _ => rfl, fun h => by simp at h⟩

theorem State.hbOff_opens (s : State) (b : Fin 4) : s.Opens (s.hbOff b) :=
  (State.Opens.modGate (Gate.cmdOff_opens (isClamp_chH b) _ _)).trans (.modGate (Gate.cmdOff_opens (isClamp_chL b) _ _))

theorem State.dnOn_opens (s : State) (b : Fin 4) : s.Opens (s.dnOn b) := by
  unfold State.dnOn
  split
  · exact .refl s
  · unfold State.setDn
    have hon : s.Opens (s.modGate (chD b) fun g => { g with cmd := true }) :=
      .modGate ⟨⟨_, _, _, rfl⟩, fun h => by simp at h, fun _ _ => rfl⟩
    dsimp only
    split
    · exact hon
    · exact hon.trans (.irqRaise _ _)

/-! ## Requests and states -/

theorem State.discardClose_opens (s : State) (i : Fin 40) : s.Opens (s.discardClose i) := by
  unfold State.discardClose
  split
  · refine .trans (.trans (.modStr ?_) (.irqRaise _ _)) (.event _ _ _ _ _)
    exact ⟨⟨_, _, _, _, _, _, _, _, _, _, _, rfl⟩, id, id, fun _ => rfl, fun _ => rfl, id⟩
  · exact .refl s

theorem State.openS_opens (s : State) (i : Fin 40) : s.Opens (s.openS i) := (s.sOff_opens i).trans (State.discardClose_opens _ i)

/-- A string that goes to a state off its bar. -/
theorem State.setStr_opens (s : State) (i : Fin 40) {st : StrState} (cause : Nat) (h : st.connected = false) : s.Opens (s.setStr i st cause) := by
  unfold State.setStr
  dsimp only
  split
  · exact .refl s
  · refine .trans (.trans (.modStr ?_) (.irqRaise _ _)) (.event _ _ _ _ _)
    exact ⟨⟨_, _, _, _, _, _, _, _, _, _, _, rfl⟩, id, id, id, id, fun _ => h⟩

/-- An operation whose frame leaves out the strings, the banks and the channels. -/
theorem State.Opens.of_blank {m : Part → Bool} {s t : State} (h : State.blank m t = State.blank m s) (hm : (m .strs || m .banks || m .gates || m .belay
    || m .records) = false) (hio : s.OutputsOnly t) : s.Opens t := by
  simp only [Bool.or_eq_false_iff] at hm
  obtain ⟨⟨⟨⟨hs, hb⟩, hg⟩, hv⟩, hr⟩ := hm
  exact .of_same (same_of_blank (p := .strs) h hs) (same_of_blank (p := .banks) h hb) (same_of_blank (p := .gates) h hg) hio (belay_of_blank h hv hr)
    (now_of_blank h)

/-! ## Outputs -/

theorem State.OutputsOnly.event {s t : State} (h : s.OutputsOnly t) (code source item : Nat) (data : List Byte) :
    s.OutputsOnly (t.event code source item data) := h.trans (.of_io (State.event_io ..))
theorem State.OutputsOnly.irqRaise {s t : State} (h : s.OutputsOnly t) (n : Nat) : s.OutputsOnly (t.irqRaise n) := h.trans (.of_io (State.irqRaise_io ..))

theorem State.dropPole_outputs (s : State) (q : Fin 16) (byRule : Bool) : s.OutputsOnly (s.dropPole q byRule) := by
  unfold State.dropPole
  dsimp only
  split
  · exact .refl s
  · split
    · split
      · exact .modQ s q _
      · exact ((State.OutputsOnly.modQ s q _).irqRaise _).event ..
    · exact ((State.OutputsOnly.modQ s q _).irqRaise _).event ..

theorem State.dropQ_outputs (s : State) (q : Fin 16) (byRule : Bool) : s.OutputsOnly (s.dropQ q byRule) := by
  unfold State.dropQ
  dsimp only
  split
  · exact (s.dropPole_outputs q byRule).trans (State.dropPole_outputs _ _ _)
  · exact s.dropPole_outputs q byRule

theorem State.startPole_outputs (s : State) (q : Fin 16) : s.OutputsOnly (s.startPole q) :=
  ((State.OutputsOnly.modQ s q _).irqRaise _).event ..

theorem State.unwaitQ_outputs (s : State) (q : Fin 16) : s.OutputsOnly (s.unwaitQ q) := by
  unfold State.unwaitQ State.unwaitPole
  dsimp only
  split
  · exact (State.OutputsOnly.modQ s q _).trans (.modQ _ _ _)
  · exact .modQ s q _

theorem State.consumeQPass_outputs (s : State) (q : Fin 16) : s.OutputsOnly (s.consumeQPass q) := by
  unfold State.consumeQPass
  split
  · exact (State.OutputsOnly.modQ s q _).irqRaise _
  · exact .refl s

theorem State.serveQ_outputs (n : Nat) (s : State) : s.OutputsOnly (State.serveQ n s) := by
  induction n generalizing s with
  | zero => exact .refl s
  | succ n ih =>
    unfold State.serveQ
    split
    · exact .refl s
    next q _ =>
      dsimp only
      split
      · exact (s.unwaitQ_outputs q).trans (ih _)
      · by_cases hfree : s.pullIns + (if (s.pairOf q).isSome = true then 2 else 1) ≤ 4
        · rw [if_pos hfree]
          refine State.OutputsOnly.trans ?_ (ih _)
          have hfirst : s.OutputsOnly ((if s.qPowerPath q then s.consumeQPass q else s).startPole q) := by
            refine State.OutputsOnly.trans ?_ (State.startPole_outputs _ q)
            split
            · exact s.consumeQPass_outputs q
            · exact .refl s
          split
          · exact hfirst.trans (State.startPole_outputs _ _)
          · exact hfirst
        · rw [if_neg hfree]
          exact .refl s

theorem State.enforceOutputs_outputs (s : State) : s.OutputsOnly s.enforceOutputs := by
  refine State.OutputsOnly.trans (.forEach fun t q => ?_) (State.serveQ_outputs 16 _)
  split
  · exact t.dropQ_outputs q true
  · exact .refl t

theorem State.serveQ_opens (n : Nat) (s : State) : s.Opens (State.serveQ n s) :=
  .of_blank (State.serveQ_in (m := only [.io, .irq, .evlog]) rfl rfl rfl n s) rfl (s.serveQ_outputs n)

theorem State.dropQ_opens (s : State) (q : Fin 16) (byRule : Bool) : s.Opens (s.dropQ q byRule) :=
  .of_blank (State.dropQ_in (m := only [.io, .irq, .evlog]) rfl rfl rfl s q byRule) rfl (s.dropQ_outputs q byRule)

theorem State.followBanks_opens (s : State) : s.Opens s.followBanks :=
  have h := State.followBanks_in (m := only [.mode, .irq, .evlog]) rfl rfl rfl s
  .of_blank h rfl (.of_io (same_of_blank (p := .io) h rfl))

theorem State.storeItem_opens (s : State) : s.Opens s.storeItem :=
  have h := State.storeItem_in (m := only [.dict, .health, .irq]) rfl rfl rfl s
  .of_blank h rfl (.of_io (same_of_blank (p := .io) h rfl))

theorem State.countFault_opens (s : State) (k : Fin 16) (item : Nat) : s.Opens (s.countFault k item).1 :=
  have h := State.countFault_in (m := only [.fc, .health, .evlog, .irq]) rfl rfl rfl rfl s k item
  .of_blank h rfl (.of_io (same_of_blank (p := .io) h rfl))

theorem State.enforceOutputs_opens (s : State) : s.Opens s.enforceOutputs :=
  .of_same (State.enforceOutputs_strs s) (State.enforceOutputs_banks s) (State.enforceOutputs_gates s) s.enforceOutputs_outputs
    (State.enforceOutputs_belay s) (State.enforceOutputs_now s)

/-- A bank that is not FAULTED goes to a state other than LIVE. -/
theorem State.setBank_opens (s : State) (b : Fin 4) {st : BankState} (hl : st ≠ .live) (hf : s.banks[b].state ≠ .faulted) :
    s.Opens (s.setBank b st) := by
  unfold State.setBank
  dsimp only
  split
  · exact .refl s
  · have hstate : s.Opens (s.modBank b fun c => { c with state := st }) :=
      .modBank ⟨⟨_, _, _, _, _, rfl⟩, id, id, fun _ => hl, fun h => absurd h hf⟩
    have hevent := hstate.trans (.event _ 0x4020 (bankObj b) 0 (u8 s.banks[b].state.code ++ u8 st.code))
    refine State.Opens.trans ?_ (State.followBanks_opens _)
    split
    · exact hevent.trans ((State.dropQ_opens _ _ _).trans (State.serveQ_opens _ _))
    · exact hevent

/-! ## Discharge and the end of a pre-charge -/

@[simp] theorem State.hbOff_banks (s : State) (b : Fin 4) : (s.hbOff b).banks = s.banks := rfl
@[simp] theorem State.hbOff_strs (s : State) (b : Fin 4) : (s.hbOff b).strs = s.strs := rfl
@[simp] theorem State.sOff_banks (s : State) (i : Fin 40) : (s.sOff i).banks = s.banks := rfl
@[simp] theorem State.sOff_strs (s : State) (i : Fin 40) : (s.sOff i).strs = s.strs := rfl
@[simp] theorem State.dnOn_banks (s : State) (b : Fin 4) : (s.dnOn b).banks = s.banks :=
  same_of_blank (p := .banks) (State.dnOn_in (m := only [.gates, .irq]) rfl rfl s b) rfl
@[simp] theorem State.dnOn_strs (s : State) (b : Fin 4) : (s.dnOn b).strs = s.strs :=
  same_of_blank (p := .strs) (State.dnOn_in (m := only [.gates, .irq]) rfl rfl s b) rfl
@[simp] theorem State.openS_banks (s : State) (i : Fin 40) : (s.openS i).banks = s.banks :=
  same_of_blank (p := .banks) (State.openS_in (m := only [.evlog, .irq, .strs, .gates]) rfl rfl rfl rfl s i) rfl

/-- A change of a bank's fields that leaves its state and only ends what runs there. -/
theorem State.endRunning_opens (s : State) (b : Fin 4) : s.Opens (s.modBank b fun c => { c with modulator := false, source := none }) :=
  .modBank ⟨⟨_, _, _, _, _, rfl⟩, fun _ => rfl, fun _ => rfl, id, fun h => ⟨h, rfl⟩⟩

theorem State.discharge_opens (s : State) (b : Fin 4) (hf : s.banks[b].state ≠ .faulted) : s.Opens (s.discharge b) := by
  have hoff : (s.hbOff b).Opens ((s.hbOff b).modBank b fun c => { c with dischSince := s.now, modulator := false }) :=
    .modBank ⟨⟨_, _, _, _, _, rfl⟩, fun _ => rfl, id, id, fun h => ⟨h, rfl⟩⟩
  exact (((s.hbOff_opens b).trans hoff).trans (State.dnOn_opens _ b)).trans
    (State.setBank_opens _ b (by decide) (by simpa using hf))

/-- The source of a pre-charge that ends opens, and leaves MATCHING. -/
def State.openSource (s : State) (src : Option (Fin 40)) (cause : Nat) : State :=
  match src with
  | some i => let t := s.openS i; if t.strs[i].state = StrState.matching then t.setStr i .isolated cause else t
  | none => s

theorem State.openSource_opens (s : State) (src : Option (Fin 40)) (cause : Nat) : s.Opens (s.openSource src cause) := by
  unfold State.openSource
  split
  next i =>
    dsimp only
    split
    · exact (s.openS_opens i).trans (State.setStr_opens _ i cause rfl)
    · exact s.openS_opens i
  · exact .refl s

@[simp] theorem State.openSource_banks (s : State) (src : Option (Fin 40)) (cause : Nat) : (s.openSource src cause).banks = s.banks := by
  unfold State.openSource
  split
  · dsimp only
    split <;> simp
  · rfl

theorem State.endPrecharge_eq (s : State) (b : Fin 4) (code cause : Nat) : s.endPrecharge b code cause =
    let t := ((((s.modBank b fun c => { c with modulator := false, source := none }).openSource s.banks[b].source cause).event code (bankObj b) 0
      (u8 cause)).irqRaise (28 + b.val))
    if s.banks[b].state = .precharging then t.discharge b else (t.hbOff b).dnOn b := rfl

theorem State.endPrecharge_opens (s : State) (b : Fin 4) (code cause : Nat) : s.Opens (s.endPrecharge b code cause) := by
  rw [State.endPrecharge_eq]
  have hend := (((s.endRunning_opens b).trans (State.openSource_opens _ s.banks[b].source cause)).trans
    (.event _ code (bankObj b) 0 (u8 cause))).trans (.irqRaise _ (28 + b.val))
  dsimp only
  split
  next hp =>
    refine hend.trans (State.discharge_opens _ b ?_)
    simp only [State.irqRaise_banks, State.event_banks, State.openSource_banks, State.modBank_banks, upd_get, if_true, hp]
    exact BankState.noConfusion
  · exact (hend.trans (State.hbOff_opens _ b)).trans (State.dnOn_opens _ b)

theorem State.settleBank_opens (s : State) (b : Fin 4) : s.Opens (s.settleBank b) := by
  unfold State.settleBank
  dsimp only
  have hpre : s.Opens (if s.pcActive b && !s.hbPermitted b && !s.anySOn b then s.endPrecharge b 0x4025 3 else s) := by
    split
    · exact s.endPrecharge_opens b _ _
    · exact .refl s
  generalize (if s.pcActive b && !s.hbPermitted b && !s.anySOn b then s.endPrecharge b 0x4025 3 else s) = t at hpre ⊢
  split
  next hlive =>
    refine hpre.trans (t.discharge_opens b ?_)
    have hstate := (Bool.and_eq_true_iff.mp hlive).1
    rw [of_decide_eq_true hstate]
    decide
  · exact hpre

/-! ## Trips -/

/-- The latches a string that was `c` and not locked out takes up for the causes of one BEL cycle (09 R243). -/
abbrev StrCtl.latchFrom (c : StrCtl) (causes : List Nat) : StrCtl → StrCtl :=
  let ts := causes.filter fun c => !causeIsL c
  let ls := causes.filter causeIsL
  fun d => { d with
    trip := d.trip || decide (ts ≠ []),
    tripCause := if ts ≠ [] ∧ ¬ c.trip then leastCause ts else d.tripCause,
    tripSet := if ts ≠ [] ∧ ¬ c.trip then causeMask causes else if d.trip then d.tripSet ||| causeMask causes else d.tripSet,
    lockout := decide (ls ≠ []),
    lockoutCause := if ls ≠ [] then leastCause ls else d.lockoutCause,
    lockoutSet := if ls ≠ [] then causeMask causes else d.lockoutSet,
    stored := if ls ≠ [] then some (leastCause ls) else d.stored }

/-- The latches a string takes up for the causes of one BEL cycle (09 R243). -/
def StrCtl.latch (c : StrCtl) (causes : List Nat) : StrCtl :=
  if c.lockout then { c with lockoutSet := c.lockoutSet ||| causeMask causes } else c.latchFrom causes c

theorem StrCtl.latch_opens (c : StrCtl) (causes : List Nat) : c.Opens (c.latch causes) := by
  unfold StrCtl.latch
  split
  next hl => exact ⟨⟨_, _, _, _, _, _, _, _, _, _, _, rfl⟩, id, fun _ => hl, id, id, id⟩
  next hl => exact ⟨⟨_, _, _, _, _, _, _, _, _, _, _, rfl⟩, fun h => by simp [h], fun h => absurd h hl, id, id, id⟩

/-- After causes to open the string is locked out, or every cause was of class T and it is tripped. -/
theorem StrCtl.latch_latched (c : StrCtl) {causes : List Nat} (hc : causes ≠ []) :
    (c.latch causes).lockout = true ∨ (∀ k ∈ causes, causeIsL k = false) ∧ (c.latch causes).trip = true := by
  unfold StrCtl.latch
  split
  next hl => exact .inl hl
  next hl =>
    by_cases hls : causes.filter causeIsL = []
    · have hall : ∀ k ∈ causes, causeIsL k = false := by simpa [List.filter_eq_nil_iff] using hls
      refine .inr ⟨hall, ?_⟩
      have hts : causes.filter (fun c => !causeIsL c) = causes := List.filter_eq_self.mpr fun k hk => by simp [hall k hk]
      simp [hts, hc]
    · exact .inl (by simp only [ne_eq, hls, not_false_eq_true, decide_true])

theorem State.modStr_congr {s : State} {i : Fin 40} {f g : StrCtl → StrCtl} (h : f s.strs[i] = g s.strs[i]) : s.modStr i f = s.modStr i g := by
  simp only [State.modStr, upd, h]

theorem State.openS_str (s : State) (i : Fin 40) : ∃ waiting requested seen,
    (s.openS i).strs[i] = { s.strs[i] with waiting := waiting, requested := requested, seen := seen } := by
  unfold State.openS State.discardClose
  split
  · exact ⟨false, false, s.strs[i].seen ||| 1, by simp only [State.event_strs, State.irqRaise_strs, State.modStr_strs, upd_get, if_true]; rfl⟩
  · exact ⟨_, _, _, rfl⟩

/-- A string with a cause to open first opens and latches; what follows only opens the path further (09 R243). -/
theorem State.latchCauses_after (s : State) (i : Fin 40) {causes : List Nat} (hc : causes ≠ []) :
    State.Opens ((s.openS i).modStr i fun c => c.latch causes) (s.latchCauses i causes) := by
  obtain ⟨w, r, n, hstr⟩ := s.openS_str i
  unfold State.latchCauses
  dsimp only
  rw [if_neg hc]
  generalize s.strs[i] = c at hstr
  generalize s.openS i = u at hstr ⊢
  split
  next hl =>
    have hlatch : u.modStr i (fun c => c.latch causes) = u.modStr i fun c => { c with lockoutSet := c.lockoutSet ||| causeMask causes } :=
      State.modStr_congr (by rw [hstr]; simp only [StrCtl.latch, hl, if_true])
    rw [hlatch]
    generalize (u.modStr i fun c => { c with lockoutSet := c.lockoutSet ||| causeMask causes }) = v
    have htrip : v.Opens (if (causes.filter fun c => !causeIsL c) ≠ [] then v.event 0x4002 (strObj i) 0 (u32 (causeMask causes)) else v) := by
      split
      · exact .event ..
      · exact .refl v
    split
    · exact htrip.trans (.event ..)
    · exact htrip
  next hl =>
    have hlatch : u.modStr i (fun c => c.latch causes) = u.modStr i (c.latchFrom causes) :=
      State.modStr_congr (by rw [hstr]; simp only [StrCtl.latch]; rw [if_neg hl])
    rw [hlatch]
    generalize u.modStr i (c.latchFrom causes) = v
    have hstore : v.Opens (if causes.filter causeIsL ≠ [] then v.storeItem else v) := by
      split
      · exact v.storeItem_opens
      · exact .refl v
    generalize (if causes.filter causeIsL ≠ [] then v.storeItem else v) = w at hstore ⊢
    have hevent : v.Opens (if causes.filter causeIsL ≠ [] then w.event 0x4003 (strObj i) 0 (u32 (causeMask causes))
        else w.event 0x4002 (strObj i) 0 (u32 (causeMask causes))) := by
      split
      · exact hstore.trans (.event ..)
      · exact hstore.trans (.event ..)
    generalize (if causes.filter causeIsL ≠ [] then w.event 0x4003 (strObj i) 0 (u32 (causeMask causes))
        else w.event 0x4002 (strObj i) 0 (u32 (causeMask causes))) = x at hevent ⊢
    repeat' split
    · exact hevent
    · exact hevent.trans (x.setStr_opens i _ rfl)
    · exact hevent.trans (x.setStr_opens i _ rfl)
    · exact hevent

theorem State.latchCauses_opens (s : State) (i : Fin 40) (causes : List Nat) : s.Opens (s.latchCauses i causes) := by
  by_cases hc : causes = []
  · simp only [State.latchCauses, hc, if_true]; exact .refl s
  · exact ((s.openS_opens i).trans (State.Opens.modStr (StrCtl.latch_opens _ causes))).trans (s.latchCauses_after i hc)

/-- What an operation that only opens keeps of a switch that is off. -/
theorem State.Opens.switch_off {s t : State} (h : s.Opens t) {i : Fin 40} (hoff : s.gates[chS i].cmd = false) : t.gates[chS i].cmd = false :=
  (h.gate (chS i)).off (isClamp_chS i) hoff

@[simp] theorem State.openS_off (s : State) (i : Fin 40) : (s.openS i).gates[chS i].cmd = false := by
  refine (s.sOff i).discardClose_opens i |>.switch_off ?_
  simp only [State.sOff, State.modGate_gates, upd_get, if_true]

/-- The latches of a string after causes to open. -/
def StrCtl.latched (c : StrCtl) (causes : List Nat) : Prop := c.lockout = true ∨ (∀ k ∈ causes, causeIsL k = false) ∧ c.trip = true

theorem StrCtl.Opens.latched {c d : StrCtl} {causes : List Nat} (h : c.Opens d) (hl : c.latched causes) : d.latched causes :=
  hl.imp h.lockout fun ht => ⟨ht.1, h.trip ht.2⟩

theorem State.latchCauses_opened (s : State) (i : Fin 40) {causes : List Nat} (hc : causes ≠ []) :
    (s.latchCauses i causes).gates[chS i].cmd = false ∧ (s.latchCauses i causes).strs[i].latched causes := by
  have h := s.latchCauses_after i hc
  refine ⟨h.switch_off (s.openS_off i), (h.str i).latched ?_⟩
  rw [State.modStr_strs, upd_get, if_pos rfl]
  exact StrCtl.latch_latched _ hc

/-- What follows the latches of a trip: its count, the lock-out at the lasting one, and the bank (09 R243). -/
theorem State.tripStr_after (s : State) (i : Fin 40) (causes : List Nat) : (s.latchCauses i causes).Opens (s.tripStr i causes) := by
  unfold State.tripStr
  dsimp only
  generalize s.latchCauses i causes = t
  refine State.Opens.trans ?_ (State.settleBank_opens _ _)
  split
  · have hcount := t.countFault_opens 3 (i.val + 1)
    split
    · exact hcount.trans (State.latchCauses_opens _ i _)
    · exact hcount
  · exact .refl t

theorem State.tripStr_opens (s : State) (i : Fin 40) (causes : List Nat) : s.Opens (s.tripStr i causes) :=
  (s.latchCauses_opens i causes).trans (s.tripStr_after i causes)

theorem State.tripStr_opened (s : State) (i : Fin 40) {causes : List Nat} (hc : causes ≠ []) :
    (s.tripStr i causes).gates[chS i].cmd = false ∧ (s.tripStr i causes).strs[i].latched causes :=
  have h := s.latchCauses_opened i hc
  ⟨(s.tripStr_after i causes).switch_off h.1, ((s.tripStr_after i causes).str i).latched h.2⟩

theorem State.tripClosed_opens (s : State) (b : Fin 4) (cause : Nat) : s.Opens (s.tripClosed b cause) :=
  ((State.Opens.forEach State.sOff_opens).trans (.forEach fun t i => t.tripStr_opens i [cause])).trans (.forEach State.discardClose_opens)

theorem State.enforceTrips_opens (s : State) : s.Opens s.enforceTrips := by
  refine State.Opens.trans (.forEach fun t b => ?_) (State.enforceOutputs_opens _)
  dsimp only
  refine State.Opens.trans ?_ (State.settleBank_opens _ b)
  have hgroup : t.Opens (if !t.banks[b].groupReady then t.tripClosed b 0x0C else t) := by
    split
    · exact t.tripClosed_opens b _
    · exact .refl t
  generalize (if !t.banks[b].groupReady then t.tripClosed b 0x0C else t) = u at hgroup ⊢
  split
  · exact hgroup.trans (u.tripClosed_opens b _)
  · exact hgroup

/-! ## Faults of a bank -/

theorem State.faultBank_eq (s : State) (b : Fin 4) (cause : Nat) : s.faultBank b cause =
    (((((s.hbOff b).modBank b fun c => { c with modulator := false, source := none, faultCause := cause }).openSource s.banks[b].source 0).dnOn
      b).setBank b .faulted).event 0x4028 (bankObj b) 0 (u8 cause) := rfl

theorem State.faultBank_opens (s : State) (b : Fin 4) (cause : Nat) (hf : s.banks[b].state ≠ .faulted) : s.Opens (s.faultBank b cause) := by
  rw [State.faultBank_eq]
  have hbank : (s.hbOff b).Opens ((s.hbOff b).modBank b fun c => { c with modulator := false, source := none, faultCause := cause }) :=
    .modBank ⟨⟨_, _, _, _, _, rfl⟩, fun _ => rfl, fun _ => rfl, id, fun h => absurd h hf⟩
  have hsource := (((s.hbOff_opens b).trans hbank).trans (State.openSource_opens _ s.banks[b].source 0)).trans (State.dnOn_opens _ b)
  refine (hsource.trans (State.setBank_opens _ b (by decide) ?_)).trans (.event ..)
  simpa only [State.dnOn_banks, State.openSource_banks, State.modBank_banks, upd_get, if_true, State.hbOff_banks] using hf

theorem State.clampFault_opens (s : State) (b : Fin 4) : s.Opens (s.clampFault b) := by
  unfold State.clampFault
  dsimp only
  have hoff : s.Opens (s.forEach (s.stringsOf b) State.sOff) := .forEach State.sOff_opens
  generalize s.forEach (s.stringsOf b) State.sOff = t at hoff ⊢
  refine State.Opens.trans ?_ (.forEach fun t i => t.tripStr_opens i [0x0F])
  split
  · exact hoff
  next hf => exact hoff.trans (t.faultBank_opens b _ hf)

/-- A bridge fault takes both commands and the modulator off, and what follows only opens the path. -/
theorem State.bridgeFault_after (s : State) (b : Fin 4) :
    State.Opens ((s.hbOff b).modBank b fun k => { k with modulator := false }) (s.bridgeFault b) := by
  unfold State.bridgeFault
  dsimp only
  generalize ((s.hbOff b).modBank b fun k => { k with modulator := false }) = t
  split
  · exact .refl t
  next hf =>
    refine t.faultBank_opens b _ fun h => hf ?_
    rw [h]
    rfl

theorem Gate.cmdOff_cmd (g : Gate) (now : Nat) : (g.cmdOff now).cmd = false := by
  unfold Gate.cmdOff
  split <;> rfl

theorem chL_ne_chH (b : Fin 4) : chL b ≠ chH b := fun h => by
  have := congrArg Fin.val h
  simp only [chL, chH] at this
  omega

theorem State.hbOff_off (s : State) (b : Fin 4) : (s.hbOff b).gates[chH b].cmd = false ∧ (s.hbOff b).gates[chL b].cmd = false := by
  unfold State.hbOff
  simp only [State.modGate_gates]
  constructor
  · rw [upd_get_other _ _ (chL_ne_chH b), upd_get, if_pos rfl]
    exact Gate.cmdOff_cmd _ _
  · rw [upd_get, if_pos rfl]
    exact Gate.cmdOff_cmd _ _

theorem State.bridgeFault_off (s : State) (b : Fin 4) : (s.bridgeFault b).gates[chH b].cmd = false ∧ (s.bridgeFault b).gates[chL b].cmd = false ∧
    (s.bridgeFault b).banks[b].modulator = false := by
  have h := s.bridgeFault_after b
  obtain ⟨hh, hl⟩ := s.hbOff_off b
  refine ⟨(h.gate _).off (isClamp_chH b) hh, (h.gate _).off (isClamp_chL b) hl, (h.bank b).modulator ?_⟩
  rw [State.modBank_banks, upd_get, if_pos rfl]

/-! ## Exactly what a change of state leaves -/

@[simp] theorem State.setStr_strs (s : State) (i : Fin 40) (st : StrState) (cause : Nat) :
    (s.setStr i st cause).strs = upd s.strs i fun c => { c with state := st } := by
  unfold State.setStr
  dsimp only
  split
  next h => exact (upd_eq_self (by rw [← h])).symm
  · rw [State.event_strs, State.irqRaise_strs, State.modStr_strs]

@[simp] theorem State.setBank_banks (s : State) (b : Fin 4) (st : BankState) :
    (s.setBank b st).banks = upd s.banks b fun c => { c with state := st } := by
  unfold State.setBank
  dsimp only
  split
  next h => exact (upd_eq_self (by rw [← h])).symm
  · rw [same_of_blank (p := .banks) (State.followBanks_in (m := only [.mode, .irq, .evlog]) rfl rfl rfl _) rfl]
    split
    · rw [same_of_blank (p := .banks) (State.serveQ_in (m := only [.io, .irq, .evlog]) rfl rfl rfl _ _) rfl,
        same_of_blank (p := .banks) (State.dropQ_in (m := only [.io, .irq, .evlog]) rfl rfl rfl _ _ _) rfl, State.event_banks, State.modBank_banks]
    · rw [State.event_banks, State.modBank_banks]

theorem State.setBank_blank (s : State) (b : Fin 4) (st : BankState) :
    State.blank (only [.evlog, .irq, .banks, .mode, .io]) (s.setBank b st) = State.blank (only [.evlog, .irq, .banks, .mode, .io]) s :=
  State.setBank_in rfl rfl rfl rfl rfl s b st

@[simp] theorem State.setBank_gates (s : State) (b : Fin 4) (st : BankState) : (s.setBank b st).gates = s.gates :=
  same_of_blank (p := .gates) (s.setBank_blank b st) rfl
@[simp] theorem State.setBank_strs (s : State) (b : Fin 4) (st : BankState) : (s.setBank b st).strs = s.strs :=
  same_of_blank (p := .strs) (s.setBank_blank b st) rfl

@[simp] theorem State.discharge_strs (s : State) (b : Fin 4) : (s.discharge b).strs = s.strs := by
  simp only [State.discharge, State.setBank_strs, State.dnOn_strs, State.modBank_strs, State.hbOff_strs]

/-- Where a string stands after what follows from its bank: where it stood, or ISOLATED from MATCHING (09 R259). -/
def StrState.Settles (a b : StrState) : Prop := b = a ∨ a = .matching ∧ b = .isolated

theorem StrState.Settles.trans {a b c : StrState} (h : a.Settles b) (k : b.Settles c) : a.Settles c := by
  rcases h with rfl | ⟨rfl, rfl⟩
  · exact k
  · rcases k with rfl | ⟨h, -⟩
    · exact .inr ⟨rfl, rfl⟩
    · cases h

theorem State.openS_state (s : State) (i j : Fin 40) : (s.openS i).strs[j].state = s.strs[j].state := by
  by_cases hij : i = j
  · subst hij
    obtain ⟨_, _, _, h⟩ := s.openS_str i
    rw [h]
  · unfold State.openS State.discardClose
    split
    · simp only [State.event_strs, State.irqRaise_strs, State.modStr_strs, upd_get, if_neg hij, State.sOff_strs]
    · rfl

theorem State.openSource_settles (s : State) (src : Option (Fin 40)) (cause : Nat) (j : Fin 40) :
    s.strs[j].state.Settles (s.openSource src cause).strs[j].state := by
  unfold State.openSource
  split
  next i =>
    dsimp only
    split
    next hm =>
      simp only [State.setStr_strs, upd_get]
      split
      next hij => subst hij; exact .inr ⟨(s.openS_state i i).symm.trans hm, rfl⟩
      · exact .inl (s.openS_state i j)
    · exact .inl (s.openS_state i j)
  · exact .inl rfl

theorem State.endPrecharge_settles (s : State) (b : Fin 4) (code cause : Nat) (j : Fin 40) :
    s.strs[j].state.Settles (s.endPrecharge b code cause).strs[j].state := by
  have h := (s.modBank b fun c => { c with modulator := false, source := none }).openSource_settles s.banks[b].source cause j
  rw [State.endPrecharge_eq]
  dsimp only
  split
  · simp only [State.discharge_strs, State.irqRaise_strs, State.event_strs]
    exact h
  · simp only [State.dnOn_strs, State.hbOff_strs, State.irqRaise_strs, State.event_strs]
    exact h

theorem State.settleBank_settles (s : State) (b : Fin 4) (j : Fin 40) : s.strs[j].state.Settles (s.settleBank b).strs[j].state := by
  unfold State.settleBank
  dsimp only
  have hpre : s.strs[j].state.Settles
      (if s.pcActive b && !s.hbPermitted b && !s.anySOn b then s.endPrecharge b 0x4025 3 else s).strs[j].state := by
    split
    · exact s.endPrecharge_settles b _ _ j
    · exact .inl rfl
  generalize (if s.pcActive b && !s.hbPermitted b && !s.anySOn b then s.endPrecharge b 0x4025 3 else s) = t at hpre ⊢
  split
  · simpa only [State.discharge_strs] using hpre
  · exact hpre

end Sys2Proof.Machine

/-!
Admitted requests: what the states they are judged in keep, and what an admitted request leaves (14 R387, R390).
-/

namespace Sys2Proof.Machine

-- One thread per theorem would be more than the compiler's memory limit allows.
set_option Elab.async false

/-! ## The state a plain write is judged in -/

@[simp] theorem State.taken_now (s : State) (src : Src) (i u : Nat) : (s.taken src i u).now = s.now := now_of_blank (taken_blank s src i u)
@[simp] theorem State.taken_belay (s : State) (src : Src) (i u : Nat) : (s.taken src i u).belay = s.belay :=
  belay_of_blank (taken_blank s src i u) rfl rfl
@[simp] theorem State.taken_gates (s : State) (src : Src) (i u : Nat) : (s.taken src i u).gates = s.gates :=
  same_of_blank (p := .gates) (taken_blank s src i u) rfl
@[simp] theorem State.taken_banks (s : State) (src : Src) (i u : Nat) : (s.taken src i u).banks = s.banks :=
  same_of_blank (p := .banks) (taken_blank s src i u) rfl
@[simp] theorem State.taken_strs (s : State) (src : Src) (i u : Nat) : (s.taken src i u).strs = s.strs :=
  same_of_blank (p := .strs) (taken_blank s src i u) rfl
@[simp] theorem State.taken_bstr (s : State) (src : Src) (i u : Nat) : (s.taken src i u).bstr = s.bstr :=
  same_of_blank (p := .bstr) (taken_blank s src i u) rfl
@[simp] theorem State.taken_io (s : State) (src : Src) (i u : Nat) : (s.taken src i u).io = s.io :=
  same_of_blank (p := .io) (taken_blank s src i u) rfl
@[simp] theorem State.taken_mode (s : State) (src : Src) (i u : Nat) : (s.taken src i u).mode = s.mode :=
  same_of_blank (p := .mode) (taken_blank s src i u) rfl
@[simp] theorem State.taken_start (s : State) (src : Src) (i u : Nat) : (s.taken src i u).start = s.start :=
  same_of_blank (p := .start) (taken_blank s src i u) rfl
@[simp] theorem State.taken_supply (s : State) (src : Src) (i u : Nat) : (s.taken src i u).supply = s.supply :=
  same_of_blank (p := .supply) (taken_blank s src i u) rfl
@[simp] theorem State.taken_trav (s : State) (src : Src) (i u : Nat) : (s.taken src i u).trav = s.trav :=
  same_of_blank (p := .trav) (taken_blank s src i u) rfl
@[simp] theorem State.taken_ropes (s : State) (src : Src) (i u : Nat) : (s.taken src i u).ropes = s.ropes :=
  same_of_blank (p := .ropes) (taken_blank s src i u) rfl
@[simp] theorem State.taken_health (s : State) (src : Src) (i u : Nat) : (s.taken src i u).health = s.health :=
  same_of_blank (p := .health) (taken_blank s src i u) rfl
@[simp] theorem State.taken_therm (s : State) (src : Src) (i u : Nat) : (s.taken src i u).therm = s.therm :=
  same_of_blank (p := .therm) (taken_blank s src i u) rfl
@[simp] theorem State.taken_bal (s : State) (src : Src) (i u : Nat) : (s.taken src i u).bal = s.bal :=
  same_of_blank (p := .bal) (taken_blank s src i u) rfl
@[simp] theorem State.taken_clock (s : State) (src : Src) (i u : Nat) : (s.taken src i u).clock = s.clock :=
  same_of_blank (p := .clock) (taken_blank s src i u) rfl
@[simp] theorem State.taken_corr (s : State) (src : Src) (i u : Nat) : (s.taken src i u).corr = s.corr :=
  same_of_blank (p := .corr) (taken_blank s src i u) rfl
@[simp] theorem State.taken_est (s : State) (src : Src) (i u : Nat) : (s.taken src i u).est = s.est :=
  same_of_blank (p := .est) (taken_blank s src i u) rfl
@[simp] theorem State.taken_stream (s : State) (src : Src) (i u : Nat) : (s.taken src i u).stream = s.stream :=
  same_of_blank (p := .stream) (taken_blank s src i u) rfl
@[simp] theorem State.taken_fc (s : State) (src : Src) (i u : Nat) : (s.taken src i u).fc = s.fc :=
  same_of_blank (p := .fc) (taken_blank s src i u) rfl
@[simp] theorem State.taken_cores (s : State) (src : Src) (i u : Nat) : (s.taken src i u).cores = s.cores :=
  same_of_blank (p := .cores) (taken_blank s src i u) rfl
@[simp] theorem State.taken_seng (s : State) (src : Src) (i u : Nat) : (s.taken src i u).seng = s.seng :=
  same_of_blank (p := .seng) (taken_blank s src i u) rfl
@[simp] theorem State.taken_gateBlock (s : State) (src : Src) (i u : Nat) : (s.taken src i u).gateBlock = s.gateBlock :=
  same_of_blank (p := .gateBlock) (taken_blank s src i u) rfl
@[simp] theorem State.taken_store (s : State) (src : Src) (i u : Nat) : (s.taken src i u).store = s.store :=
  same_of_blank (p := .store) (taken_blank s src i u) rfl

/-! ## The state a sealed request is acted on in -/

@[simp] theorem State.verified_now (s : State) (r : SealedReq) : (s.verified r).now = s.now := now_of_blank (verified_blank s r)
@[simp] theorem State.verified_belay (s : State) (r : SealedReq) : (s.verified r).belay = s.belay := belay_of_blank (verified_blank s r) rfl rfl
@[simp] theorem State.verified_values (s : State) (r : SealedReq) : (s.verified r).dict.vals = s.dict.vals :=
  same_of_blank (p := .values) (verified_blank s r) rfl
@[simp] theorem State.verified_gates (s : State) (r : SealedReq) : (s.verified r).gates = s.gates := same_of_blank (p := .gates) (verified_blank s r) rfl
@[simp] theorem State.verified_banks (s : State) (r : SealedReq) : (s.verified r).banks = s.banks := same_of_blank (p := .banks) (verified_blank s r) rfl
@[simp] theorem State.verified_strs (s : State) (r : SealedReq) : (s.verified r).strs = s.strs := same_of_blank (p := .strs) (verified_blank s r) rfl
@[simp] theorem State.verified_bstr (s : State) (r : SealedReq) : (s.verified r).bstr = s.bstr := same_of_blank (p := .bstr) (verified_blank s r) rfl
@[simp] theorem State.verified_io (s : State) (r : SealedReq) : (s.verified r).io = s.io := same_of_blank (p := .io) (verified_blank s r) rfl
@[simp] theorem State.verified_mode (s : State) (r : SealedReq) : (s.verified r).mode = s.mode := same_of_blank (p := .mode) (verified_blank s r) rfl
@[simp] theorem State.verified_start (s : State) (r : SealedReq) : (s.verified r).start = s.start := same_of_blank (p := .start) (verified_blank s r) rfl
@[simp] theorem State.verified_supply (s : State) (r : SealedReq) : (s.verified r).supply = s.supply := same_of_blank (p := .supply) (verified_blank s r) rfl
@[simp] theorem State.verified_trav (s : State) (r : SealedReq) : (s.verified r).trav = s.trav := same_of_blank (p := .trav) (verified_blank s r) rfl
@[simp] theorem State.verified_health (s : State) (r : SealedReq) : (s.verified r).health = s.health := same_of_blank (p := .health) (verified_blank s r) rfl
@[simp] theorem State.verified_therm (s : State) (r : SealedReq) : (s.verified r).therm = s.therm := same_of_blank (p := .therm) (verified_blank s r) rfl
@[simp] theorem State.verified_bal (s : State) (r : SealedReq) : (s.verified r).bal = s.bal := same_of_blank (p := .bal) (verified_blank s r) rfl
@[simp] theorem State.verified_fc (s : State) (r : SealedReq) : (s.verified r).fc = s.fc := same_of_blank (p := .fc) (verified_blank s r) rfl
@[simp] theorem State.verified_cores (s : State) (r : SealedReq) : (s.verified r).cores = s.cores := same_of_blank (p := .cores) (verified_blank s r) rfl
@[simp] theorem State.verified_store (s : State) (r : SealedReq) : (s.verified r).store = s.store := same_of_blank (p := .store) (verified_blank s r) rfl

/-! ## What an admitted request leaves -/

/-- A plain write that its entry accepts is answered, and outside the reply path the state is that of its entry's effect. -/
theorem exec_plain {c : Instr} {s v : State} {src : Src} {index sub : Nat} {data : List Byte} {apply : EntryRow → State → Applied}
    (hc : exec c s = .next (s.unlessSwapping c fun s => s.writeVia src index sub data apply)) (h : s.admits src index sub data)
    (hv : ∀ r, entryOf index sub = some r → apply r (s.taken src index sub) = .ok v) :
    ∃ t, exec c s = .next t ∧ t.lastSent = some (.writeReply src index sub data.length) ∧ t.blank writeParts = v.blank writeParts := by
  rw [holding_false h.1] at hc
  exact ⟨_, hc, writeVia_admitted h hv⟩

/-- A sealed request that firmware applies is answered, and outside the reply path the state is that of its items' effect. -/
theorem exec_sealed {c : Instr} {s v : State} {r : SealedReq} {act : State → SealEnd}
    (hc : exec c s = .next (s.unlessSwapping c fun s => s.sealedVia r act)) (h : s.admitsSealed r) (hv : act (s.verified r) = .applied v) :
    ∃ t, exec c s = .next t ∧ t.lastSent = some (.writeReply r.head.src 0x1E00 1 r.bytes.length) ∧ t.blank sealParts = v.blank sealParts := by
  rw [holding_false h.1] at hc
  exact ⟨_, hc, sealedVia_applied h hv⟩

end Sys2Proof.Machine

/-!
Gate channels: edges, faults and their reports, self-tests (O7, O8, O9).
-/

namespace Sys2Proof.Machine

-- One thread per theorem would be more than the compiler's memory limit allows.
set_option Elab.async false

/-! ## One channel changed -/

theorem State.modGate_same (s : State) (c : Fin 52) (f : Gate → Gate) : (s.modGate c f).gates[c] = f s.gates[c] := by
  rw [State.modGate_gates, upd_get, if_pos rfl]

theorem State.modGate_other {s : State} {c d : Fin 52} {f : Gate → Gate} (h : d ≠ c) : (s.modGate c f).gates[d] = s.gates[d] := by
  rw [State.modGate_gates, upd_get_other _ _ (Ne.symm h)]

/-! ## A fault -/

/-- A fault reaction changes the drive, the read-backs and the cycle count (10 Table 10-3, R274). -/
theorem Gate.react_kept (g : Gate) (clamp : Bool) (cause : GateCause) : ∃ drive on off cycles bad,
    g.react clamp cause = { g with drive := drive, gateOn := on, gateOff := off, cycles := cycles, rbBad := bad } := by
  have hon : ∃ drive on off cycles, g.driveOn = { g with drive := drive, gateOn := on, gateOff := off, cycles := cycles } := by
    unfold Gate.driveOn
    split <;> exact ⟨_, _, _, _, rfl⟩
  obtain ⟨drive, on, off, cycles, hd⟩ := hon
  unfold Gate.react Gate.holdLow
  rw [hd]
  repeat' split
  all_goals exact ⟨_, _, _, _, _, rfl⟩

/-- What a fault makes of its channel (10 R275). -/
def Gate.fault (clamp : Bool) (cause : GateCause) (g : Gate) : Gate :=
  let g := (g.addReport cause).countFault cause
  let g := { g with latch := if cause.group.isNone then some cause else some (g.latch.getD cause), didtHeld := false,
                    didtAbove := g.didtAbove || decide (cause.group = some 0) }
  g.react clamp cause

theorem State.gateFault_eq (s : State) (c : Fin 52) (cause : GateCause) : s.gateFault c cause = s.modGate c (Gate.fault (isClamp c) cause) := rfl

/-- The counters of a channel after a fault of the cause (10 Tables 10-7 and 10-9). -/
def GateCause.counted (cause : GateCause) (counts : Vector Nat 3) : Vector Nat 3 := cause.group.elim counts fun k => upd counts k sat32

theorem GateCause.counted_some {cause : GateCause} {k : Fin 3} (h : cause.group = some k) (counts : Vector Nat 3) :
    cause.counted counts = upd counts k sat32 := by
  rw [GateCause.counted, h]
  rfl

theorem GateCause.counted_none {cause : GateCause} (h : cause.group = none) (counts : Vector Nat 3) : cause.counted counts = counts := by
  rw [GateCause.counted, h]
  rfl

/-- The fields a fault leaves as they were, but for those of `Gate.fault`. -/
structure Gate.Faulted (cause : GateCause) (g h : Gate) : Prop where
  latch : h.latch = if cause.group.isNone then some cause else some (g.latch.getD cause)
  held : h.didtHeld = false
  above : h.didtAbove = (g.didtAbove || decide (cause.group = some 0))
  counts : h.counts = cause.counted g.counts
  report : g.report = none → h.report = some (cause, g.seenCmd)
  cmd : h.cmd = g.cmd
  railPos : h.railPos = g.railPos
  railNeg : h.railNeg = g.railNeg
  selftest : h.selftest = g.selftest
  stCond : h.stCond = g.stCond

theorem Gate.addReport_kept (g : Gate) (cause : GateCause) : ∃ queued report, g.addReport cause = { g with queued := queued, report := report } := by
  unfold Gate.addReport
  split <;> exact ⟨_, _, rfl⟩

theorem Gate.addReport_first {g : Gate} (cause : GateCause) (h : g.report = none) : (g.addReport cause).report = some (cause, g.seenCmd) := by
  simp [Gate.addReport, h]

theorem Gate.countFault_kept (g : Gate) (cause : GateCause) : ∃ seen, g.countFault cause = { g with seen := seen, counts := cause.counted g.counts } := by
  unfold Gate.countFault
  split
  next hk => exact ⟨_, by rw [GateCause.counted_some hk]⟩
  next hk => exact ⟨g.seen, by rw [GateCause.counted_none hk]⟩

theorem Gate.fault_faulted (clamp : Bool) (cause : GateCause) (g : Gate) : g.Faulted cause (g.fault clamp cause) := by
  unfold Gate.fault
  dsimp only
  have hreport := Gate.addReport_first (g := g) cause
  obtain ⟨queued, report, ha⟩ := g.addReport_kept cause
  obtain ⟨seen, hc⟩ := (g.addReport cause).countFault_kept cause
  obtain ⟨drive, on, off, cycles, bad, hr⟩ := Gate.react_kept { (g.addReport cause).countFault cause with
    latch := if cause.group.isNone then some cause else some (((g.addReport cause).countFault cause).latch.getD cause), didtHeld := false,
    didtAbove := ((g.addReport cause).countFault cause).didtAbove || decide (cause.group = some 0) } clamp cause
  rw [hr, hc]
  rw [ha] at hreport ⊢
  exact ⟨rfl, rfl, rfl, rfl, hreport, rfl, rfl, rfl, rfl, rfl⟩

theorem State.gateFault_faulted (s : State) (c : Fin 52) (cause : GateCause) : s.gates[c].Faulted cause (s.gateFault c cause).gates[c] := by
  rw [State.gateFault_eq, State.modGate_same]
  exact Gate.fault_faulted ..

theorem State.gateFault_other {s : State} {c d : Fin 52} {cause : GateCause} (h : d ≠ c) : (s.gateFault c cause).gates[d] = s.gates[d] :=
  State.modGate_other h

/-- What every fault that is counted leaves, also one found beside a first cause (10 R274, Table 10-4). -/
structure Gate.Counted (k : Fin 3) (g h : Gate) : Prop where
  cmd : h.cmd = g.cmd
  railPos : h.railPos = g.railPos
  railNeg : h.railNeg = g.railNeg
  counts : h.counts = upd g.counts k sat32
  latch : ∀ cause, g.latch = some cause → h.latch = some cause

theorem Gate.Faulted.counted {cause : GateCause} {g h : Gate} {k : Fin 3} (hf : g.Faulted cause h) (hk : cause.group = some k) : g.Counted k h := by
  refine ⟨hf.cmd, hf.railPos, hf.railNeg, by rw [hf.counts, GateCause.counted_some hk], fun first hl => ?_⟩
  rw [hf.latch, hk, hl]
  rfl

theorem Gate.react_countFault_counted (g : Gate) {cause : GateCause} {k : Fin 3} (hk : cause.group = some k) (second : Option GateCause) :
    g.Counted k (Gate.react { g.countFault cause with second := second } false cause) := by
  obtain ⟨seen, hc⟩ := g.countFault_kept cause
  obtain ⟨drive, on, off, cycles, bad, hr⟩ := Gate.react_kept { g.countFault cause with second := second } false cause
  rw [hr, hc]
  exact ⟨rfl, rfl, rfl, GateCause.counted_some hk _, fun _ => id⟩

/-- A fault beside a first cause counts, and leaves the other channels as they were (10 Table 10-4). -/
theorem State.secondFault_counted (s : State) (c : Fin 52) {cause : GateCause} {k : Fin 3} (hk : cause.group = some k) :
    s.gates[c].Counted k (s.secondFault c cause).gates[c] ∧ ∀ d, d ≠ c → (s.secondFault c cause).gates[d] = s.gates[d] := by
  unfold State.secondFault
  split
  · refine ⟨?_, fun d hd => State.modGate_other hd⟩
    rw [State.modGate_same]
    exact Gate.react_countFault_counted _ hk _
  · split
    · refine ⟨?_, fun d hd => State.modGate_other (s := s) hd⟩
      have hcounted := Gate.react_countFault_counted s.gates[c] hk (s.gates[c].countFault cause).second
      rwa [← State.modGate_same (f := fun g => (g.countFault cause).react false cause)] at hcounted
    · exact ⟨(s.gateFault_faulted c cause).counted hk, fun d hd => State.gateFault_other hd⟩

/-! ## Rails -/

/-- A rail that falls below its threshold (10 R274). -/
def State.railFails (s : State) (c : Fin 52) (neg : Bool) : State :=
  s.modGate c fun g => if neg then { g with railNeg := false } else { g with railPos := false }

def uvloCause (neg : Bool) : GateCause := if neg then .uvloNeg else .uvloPos

theorem uvloCause_group (neg : Bool) : (uvloCause neg).group = some 1 := by cases neg <;> rfl

theorem exec_uvloDetect_low {s : State} {c : Fin 52} {neg : Bool} (h : (if neg then s.gates[c].railNeg else s.gates[c].railPos) = true) :
    exec (.uvloDetect c neg true) s = .next
      ((if s.gates[c].drive = .softOff then (s.railFails c neg).secondFault c (uvloCause neg) else (s.railFails c neg).gateFault c (uvloCause neg)).irqRaise
        44) := by
  refine congrArg Host.Outcome.next ?_
  dsimp only
  rw [h, if_neg (by simp), if_neg (by simp)]
  rfl

theorem exec_uvloDetect_high {s : State} {c : Fin 52} {neg : Bool} (h : (if neg then s.gates[c].railNeg else s.gates[c].railPos) = false)
    (hg : s.start.gateRails = true) : exec (.uvloDetect c neg false) s = .next (s.railBack c neg) := by
  refine congrArg Host.Outcome.next ?_
  dsimp only
  rw [h, hg, if_neg (by simp)]
  rfl

theorem State.railFails_gate (s : State) (c : Fin 52) (neg : Bool) :
    (if neg then (s.railFails c neg).gates[c].railNeg else (s.railFails c neg).gates[c].railPos) = false ∧
    (s.railFails c neg).gates[c].cmd = s.gates[c].cmd ∧ (s.railFails c neg).gates[c].counts = s.gates[c].counts ∧
    (s.railFails c neg).gates[c].latch = s.gates[c].latch := by
  unfold State.railFails
  rw [State.modGate_same]
  cases neg <;> exact ⟨rfl, rfl, rfl, rfl⟩

/-- A rail that comes back changes that rail and the drive alone (10 R266, R274). -/
theorem State.railBack_gate (s : State) (c : Fin 52) (neg : Bool) :
    (if neg then (s.railBack c neg).gates[c].railNeg else (s.railBack c neg).gates[c].railPos) = true ∧
    (s.railBack c neg).gates[c].cmd = s.gates[c].cmd ∧ (s.railBack c neg).gates[c].latch = s.gates[c].latch ∧
    (s.railBack c neg).gates[c].record = s.gates[c].record := by
  unfold State.railBack
  rw [State.modGate_same]
  unfold Gate.driveOn Gate.holdLow
  cases neg <;> dsimp only <;> repeat' split
  all_goals exact ⟨by simp_all, rfl, rfl, rfl⟩

/-! ## Reports of a channel -/

/-- A channel that has reported: its record set, its next report ready (10 R276). -/
def State.reported (s : State) (c : Fin 52) (cause : GateCause) : State :=
  s.modGate c fun g => { g with record := some cause, report := g.queued.head?, queued := g.queued.drop 1, second := none }

theorem State.closeWindow_blank (s : State) : State.blank (only [.gateBlock, .evlog, .irq]) s.closeWindow = State.blank (only [.gateBlock, .evlog, .irq]) s :=
  State.closeWindow_in rfl rfl rfl s

theorem State.openWindow_opens (s : State) (c : Fin 52) (cause : GateCause) (on : Bool) (second : Option GateCause) : s.Opens (s.openWindow c cause on second) :=
  have h := State.openWindow_in (m := only [.gateBlock, .evlog, .irq]) rfl rfl rfl s c cause on second
  .of_blank h rfl (.of_io (same_of_blank (p := .io) h rfl))

/-- The belay logic's reaction to a fault reported by a channel (10 R276). -/
def State.reactToReport (s : State) (c : Fin 52) (cause : GateCause) : State :=
  match ownerOf c with
  | .string i => s.tripStr i [cause.trip]
  | .high b => s.bridgeFault b
  | .low b => s.bridgeFault b
  | .clamp b => s.clampFault b

theorem exec_gateFaultReport {s : State} {c : Fin 52} {cause : GateCause} {on : Bool} (h : s.gates[c].report = some (cause, on)) :
    ∃ u, (s.reported c cause).Opens u ∧ exec (.gateFaultReport c) s = .next (u.reactToReport c cause) := by
  let t := (s.reported c cause).irqRaise (summaryIrq c)
  let w := if cause.group.isSome then t.openWindow c cause on s.gates[c].second else t
  refine ⟨(w.countFault 13 c.val).1, ?_, ?_⟩
  · refine State.Opens.trans (.trans (.irqRaise _ (summaryIrq c)) ?_) (State.countFault_opens w 13 c.val)
    show t.Opens w
    by_cases hg : cause.group.isSome = true
    · simp only [w, hg, if_true]; exact State.openWindow_opens ..
    · simp only [w, hg]; exact .refl t
  · refine congrArg Host.Outcome.next ?_
    rw [h]
    rfl

theorem State.bridgeFault_opens (s : State) (b : Fin 4) : s.Opens (s.bridgeFault b) :=
  ((s.hbOff_opens b).trans (.modBank ⟨⟨_, _, _, _, _, rfl⟩, fun _ => rfl, id, id, fun h => ⟨h, rfl⟩⟩)).trans (s.bridgeFault_after b)

theorem State.reactToReport_opens (s : State) (c : Fin 52) (cause : GateCause) : s.Opens (s.reactToReport c cause) := by
  unfold State.reactToReport
  split
  · exact s.tripStr_opens _ _
  · exact s.bridgeFault_opens _
  · exact s.bridgeFault_opens _
  · exact s.clampFault_opens _

theorem eq_chS_of_owner {c : Fin 52} {i : Fin 40} (h : ownerOf c = .string i) : c = chS i := by
  unfold ownerOf at h
  split at h
  · cases h; rfl
  · split at h
    · split at h <;> cases h
    · cases h

theorem Gate.Opens.reported {clamp : Bool} {g h : Gate} (ho : g.Opens clamp h) : h.record = g.record ∧ h.report = g.report ∧ h.latch = g.latch := by
  obtain ⟨_, _, _, hk⟩ := ho.kept
  rw [hk]
  exact ⟨rfl, rfl, rfl⟩

/-- What the belay logic has done about a string's fault (10 R276): open, and locked out or tripped. -/
theorem State.reactToReport_string {s : State} {c : Fin 52} {cause : GateCause} {i : Fin 40} (h : ownerOf c = .string i) :
    (s.reactToReport c cause).gates[c].cmd = false ∧
    ((s.reactToReport c cause).strs[i].lockout = true ∨ cause.trip ≠ 0x0A ∧ (s.reactToReport c cause).strs[i].trip = true) := by
  have hreact : s.reactToReport c cause = s.tripStr i [cause.trip] := by rw [State.reactToReport, h]
  obtain ⟨hoff, hlatched⟩ := s.tripStr_opened i (causes := [cause.trip]) (by simp)
  rw [hreact, eq_chS_of_owner h]
  refine ⟨hoff, hlatched.imp id fun ht => ⟨fun hA => ?_, ht.2⟩⟩
  have hclass := ht.1 cause.trip (by simp)
  rw [hA] at hclass
  exact absurd hclass (by decide)

theorem State.reactToReport_bridge {s : State} {c : Fin 52} {cause : GateCause} {b : Fin 4} (h : ownerOf c = .high b ∨ ownerOf c = .low b) :
    s.reactToReport c cause = s.bridgeFault b := by
  rcases h with h | h <;> rw [State.reactToReport, h]

theorem State.closeWindow_closed (s : State) : s.closeWindow.gateBlock.window = [] ∧ s.closeWindow.gateBlock.windowAt = none ∧
    s.closeWindow.gates = s.gates := by
  suffices hw : s.closeWindow.gateBlock.window = [] ∧ s.closeWindow.gateBlock.windowAt = none from
    ⟨hw.1, hw.2, same_of_blank (p := .gates) s.closeWindow_blank rfl⟩
  unfold State.closeWindow
  dsimp only
  split
  · refine forEach_keeps (P := fun t => t.gateBlock.window = [] ∧ t.gateBlock.windowAt = none) (fun t e ht => ?_) _ _ ⟨rfl, rfl⟩
    split
    · rwa [State.event_gateBlock]
    · exact ht
  · rw [State.irqRaise_gateBlock, State.event_gateBlock]
    exact ⟨rfl, rfl⟩

theorem exec_coincidentWindowEnd {s : State} {w : Nat} (h : s.gateBlock.windowAt = some w) (hw : w + us 1 ≤ s.now) :
    exec .coincidentWindowEnd s = .next s.closeWindow := by
  refine congrArg Host.Outcome.next ?_
  rw [h]
  exact if_pos hw

/-! ## Detections -/

theorem exec_didtDetect_fault {s : State} {c : Fin 52} {level : DidtLevel} (ha : s.gates[c].armed = true) (hl : level ≠ .below)
    (hb : ¬(level = .normal ∧ s.now < s.gates[c].edgeAt + s.gates[c].blankNs)) :
    exec (.didtDetect c level) s = .next (s.gateFault c (if level = .hard then .didtHard else .didt)) := by
  refine congrArg Host.Outcome.next ?_
  dsimp only
  rw [ha, if_neg (by simp)]
  cases level
  case below => exact absurd rfl hl
  case normal => exact if_neg fun h => hb ⟨rfl, h⟩
  case hard => rfl

theorem exec_didtDetect_held {s : State} {c : Fin 52} (ha : s.gates[c].armed = true) (hb : s.now < s.gates[c].edgeAt + s.gates[c].blankNs) :
    exec (.didtDetect c .normal) s = .next (s.modGate c fun g => { g with didtHeld := true, didtAbove := true }) := by
  refine congrArg Host.Outcome.next ?_
  dsimp only
  rw [ha, if_neg (by simp)]
  exact if_pos hb

theorem exec_didtDetect_below {s : State} {c : Fin 52} (ha : s.gates[c].armed = true) :
    exec (.didtDetect c .below) s = .next (s.modGate c fun g => { g with didtAbove := false }) := by
  refine congrArg Host.Outcome.next ?_
  dsimp only
  rw [ha, if_neg (by simp)]

theorem exec_blankingEnd_due {s : State} {c : Fin 52} {above : Bool} (ha : s.gates[c].armed = true) (hh : s.gates[c].didtHeld = true)
    (hb : s.gates[c].edgeAt + s.gates[c].blankNs ≤ s.now) : exec (.blankingEnd c above) s = .next
      (if above then s.gateFault c .didtBlank
       else (s.modGate c fun g => { g with didtHeld := false, didtAbove := false }).gateEvent 0x5004 c (u8 c.val ++ u8 1)) := by
  refine congrArg Host.Outcome.next ?_
  dsimp only
  rw [ha, hh, decide_eq_true hb]
  rfl

/-- The conditions under which a read-back fault is one (10 R269), with its cause. -/
def Gate.readbackFails (g : Gate) (e : ReadbackCause) (reached : Bool) (now : Nat) (cause : GateCause) : Prop :=
  match e with
  | .on => cause = GateCause.rbOn ∧ (g.latch = none ∧ (g.drive = .on ∨ g.drive = .off) ∧ g.levelCheck true reached now = true ∨
      g.latch.isSome = true ∧ g.drive = .on)
  | .open_ => cause = GateCause.rbOpen ∧ g.drive = .on ∧ g.gateOn = true ∧ g.edgeAt + us 10 ≤ now
  | .off => cause = GateCause.rbOff ∧ (g.latch = none ∧ (g.drive = .on ∨ g.drive = .off) ∧ g.levelCheck false reached now = true ∨
      g.latch.isSome = true ∧ (g.drive = .off ∨ g.drive = .heldLow))
  | .restored => False

theorem exec_readbackFault_fails {s : State} {c : Fin 52} {e : ReadbackCause} {reached : Bool} {cause : GateCause} (hs : s.gates[c].selftest ≠ 1)
    (h : s.gates[c].readbackFails e reached s.now cause) :
    exec (.readbackFault c e reached) s = .next (s.gateFault c cause) ∧ cause.group = some 2 := by
  refine ⟨congrArg Host.Outcome.next ?_, ?_⟩
  · dsimp only
    rw [if_neg hs]
    cases e <;> obtain ⟨rfl, h⟩ := h
    case on =>
      refine if_pos ?_
      rcases h with ⟨hl, hd, hc⟩ | ⟨hl, hd⟩
      · simp_all
      · simp_all
    case open_ => exact if_pos (by simp_all)
    case off =>
      refine if_pos ?_
      rcases h with ⟨hl, hd, hc⟩ | ⟨hl, hd⟩
      · simp_all
      · simp_all
  · cases e <;> obtain ⟨rfl, -⟩ := h <;> rfl

theorem exec_softOffEnd_due {s : State} {c : Fin 52} (h : s.gates[c].drive = .softOff) : exec (.softOffEnd c) s = .next (s.modGate c Gate.holdLow) :=
  congrArg Host.Outcome.next (if_pos h)

/-! ## O8 -/

/-- Settles O8: a detection is one change of its channel, a report only opens the path beside it. -/
theorem gateFaults : Obligations.GateFaults := by
  unfold Obligations.GateFaults
  intro s c
  refine ⟨fun level ha => ?didt, fun above ha hh hb => ?blanking, fun neg hr => ?low, fun neg hg hr => ?back,
    fun e reached cause hs he => ?readback, fun reached hs => ?restored, fun hd => ?softOff, fun cause on hr => ?report, fun w hw hd => ?window⟩
  case didt =>
    by_cases hbelow : level = .below
    · subst hbelow
      exact ⟨_, exec_didtDetect_below ha, State.modGate_same .., fun d hd => State.modGate_other hd⟩
    · by_cases hheld : level = .normal ∧ s.now < s.gates[c].edgeAt + s.gates[c].blankNs
      · obtain ⟨rfl, hb⟩ := hheld
        refine ⟨_, exec_didtDetect_held ha hb, ?_, fun d hd => State.modGate_other hd⟩
        rw [if_neg hbelow, if_pos ⟨rfl, hb⟩]
        exact State.modGate_same ..
      · have hgroup : GateCause.group (if level = .hard then .didtHard else .didt) = some 0 := by split <;> rfl
        have hseen : s.gates[c].seenCmd = true := (Bool.and_eq_true_iff.mp ha).1
        have hf := s.gateFault_faulted c (if level = .hard then .didtHard else .didt)
        refine ⟨_, exec_didtDetect_fault ha hbelow hheld, ?_, fun d hd => State.gateFault_other hd⟩
        rw [if_neg hbelow, if_neg hheld]
        refine ⟨?_, ?_, ?_, fun hn => ?_⟩
        · rw [hf.latch, hgroup]; rfl
        · rw [hf.counts, GateCause.counted_some hgroup]; exact upd_get_same _ (0 : Fin 3) _
        · rw [hf.above, hgroup]; simp
        · rw [hf.report hn, hseen]
  case blanking =>
    refine ⟨_, exec_blankingEnd_due ha hh hb, ?_⟩
    cases above
    · simp only [Bool.false_eq_true, if_false, State.gateEvent_gates]
      refine ⟨by rw [State.modGate_same], by rw [State.modGate_same], fun d hd => State.modGate_other hd⟩
    · simp only [if_true]
      exact ⟨(s.gateFault_faulted c .didtBlank).held, (s.gateFault_faulted c .didtBlank).latch, fun d hd => State.gateFault_other hd⟩
  case low =>
    obtain ⟨hrail, hcmd, hcounts, hlatch⟩ := s.railFails_gate c neg
    have hother : ∀ d, d ≠ c → (s.railFails c neg).gates[d] = s.gates[d] := fun d hd => State.modGate_other hd
    have hfault : ∀ h : Gate, (s.railFails c neg).gates[c].Counted 1 h →
        (if neg then h.railNeg else h.railPos) = false ∧ h.cmd = s.gates[c].cmd ∧ h.counts[1] = sat32 s.gates[c].counts[1] ∧
        ∀ k, s.gates[c].latch = some k → h.latch = some k := by
      intro h hk
      refine ⟨?_, hk.cmd.trans hcmd, ?_, fun k hl => hk.latch k (hlatch.trans hl)⟩
      · rw [hk.railNeg, hk.railPos, hrail]
      · rw [hk.counts, hcounts]; exact upd_get_same _ (1 : Fin 3) _
    refine ⟨_, exec_uvloDetect_low hr, ?_⟩
    simp only [State.irqRaise_gates]
    by_cases hsoft : s.gates[c].drive = .softOff
    · obtain ⟨hcounted, hkept⟩ := (s.railFails c neg).secondFault_counted c (uvloCause_group neg)
      obtain ⟨h1, h2, h3, h4⟩ := hfault _ hcounted
      rw [if_pos hsoft]
      exact ⟨h1, h2, h3, fun hn => absurd hsoft hn, h4, fun d hd => (hkept d hd).trans (hother d hd)⟩
    · have hf := (s.railFails c neg).gateFault_faulted c (uvloCause neg)
      obtain ⟨h1, h2, h3, h4⟩ := hfault _ (hf.counted (uvloCause_group neg))
      rw [if_neg hsoft]
      refine ⟨h1, h2, h3, fun _ => ?_, h4, fun d hd => (State.gateFault_other hd).trans (hother d hd)⟩
      rw [hf.latch, uvloCause_group, hlatch]
      rfl
  case back =>
    obtain ⟨hrail, hcmd, hlatch, hrecord⟩ := s.railBack_gate c neg
    refine ⟨_, exec_uvloDetect_high hr hg, hrail, hcmd, hlatch, hrecord, fun d hd => State.modGate_other hd⟩
  case readback =>
    obtain ⟨hexec, hgroup⟩ := exec_readbackFault_fails (reached := reached) hs he
    have hf := s.gateFault_faulted c cause
    refine ⟨_, hexec, ?_, ?_, fun d hd => State.gateFault_other hd⟩
    · rw [hf.counts, GateCause.counted_some hgroup]; exact upd_get_same _ (2 : Fin 3) _
    · rw [hf.latch, hgroup]; rfl
  case restored =>
    refine congrArg Host.Outcome.next ?_
    dsimp only
    rw [if_neg hs]
  case softOff =>
    refine ⟨_, exec_softOffEnd_due hd, ?_⟩
    rw [State.modGate_same]
    exact ⟨rfl, rfl, rfl, fun d hd => State.modGate_other hd⟩
  case report =>
    obtain ⟨u, hu, hexec⟩ := exec_gateFaultReport hr
    have hgate := ((hu.trans (u.reactToReport_opens c cause)).gate c).reported
    rw [State.reported, State.modGate_same] at hgate
    refine ⟨_, hexec, hgate.1, hgate.2.1, hgate.2.2, fun i hi => State.reactToReport_string hi, fun b hb => ?_⟩
    rw [State.reactToReport_bridge hb]
    exact u.bridgeFault_off b
  case window => exact ⟨_, exec_coincidentWindowEnd hw hd, s.closeWindow_closed⟩

/-! ## Edges -/

/-- A channel whose command rises: what it takes up, before the gate is driven (10 R279, R285). -/
def Gate.rise (g : Gate) (now : Nat) (clears : Bool) : Gate :=
  { g with seenCmd := true, edgeBefore := g.edgeAt, edgeAt := now, cfg := g.cfgNext.getD g.cfg, cfgNext := none, hold := false,
           cleared := if clears then g.latch else none }

theorem Gate.driveOn_cmd (g : Gate) : g.driveOn.cmd = g.cmd := by
  unfold Gate.driveOn
  split <;> rfl

theorem Gate.turnOn_cmd (g : Gate) : g.turnOn.cmd = g.cmd := g.driveOn_cmd

theorem Gate.addReport_cmd (g : Gate) (cause : GateCause) : (g.addReport cause).cmd = g.cmd := by
  obtain ⟨_, _, h⟩ := g.addReport_kept cause
  rw [h]

/-- An edge that a channel sees leaves its command. -/
theorem State.seeOn_cmd (s : State) (c : Fin 52) : (s.seeOn c).gates[c].cmd = s.gates[c].cmd := by
  unfold State.seeOn
  dsimp only
  repeat' split
  all_goals
    simp only [State.irqRaise_gates, State.gateEvent_gates, State.modGate_same, Gate.turnOn_cmd, Gate.driveOn_cmd, Gate.addReport_cmd]

/-- What a turn-on leaves of a channel that has taken up its rising edge. -/
theorem Gate.turnOn_rise (g : Gate) (now : Nat) (clears : Bool) : ∃ drive on off cycles, (g.rise now clears).turnOn =
    { g.rise now clears with drive := drive, gateOn := on, gateOff := off, cycles := cycles, didtHeld := false, didtAbove := false } ∧
    (g.railPos = true → drive = .on ∧ on = true ∧ cycles = if g.gateOn = true then g.cycles else sat32 g.cycles) := by
  unfold Gate.turnOn Gate.driveOn
  split
  · exact ⟨_, _, _, _, rfl, fun _ => ⟨rfl, rfl, rfl⟩⟩
  next hr => exact ⟨_, _, _, _, rfl, fun h => absurd h hr⟩

/-- An unlatched channel turns on at an edge it sees, and no other channel changes (10 R269). -/
theorem State.seeOn_unlatched {s : State} {c : Fin 52} (h : s.gates[c].latch = none) :
    (s.seeOn c).gates[c] = (s.gates[c].rise s.now (s.edgeClears c)).turnOn ∧ ∀ d, d ≠ c → (s.seeOn c).gates[d] = s.gates[d] := by
  have hsee : s.seeOn c = (s.modGate c fun g => g.rise s.now (s.edgeClears c)).modGate c Gate.turnOn := by
    simp only [State.seeOn, h]
    rfl
  rw [hsee]
  refine ⟨by rw [State.modGate_same, State.modGate_same], fun d hd => ?_⟩
  rw [State.modGate_other hd, State.modGate_other hd]

/-- An on command aborts a running self-test and does nothing else to the channels (10 R284). -/
theorem State.abortTest_gates (s : State) (c : Fin 52) :
    (s.abortTest c).gates = upd s.gates c fun g => { g with selftest := if g.selftest = 1 then 4 else g.selftest } := by
  unfold State.abortTest
  split
  next h =>
    rw [State.irqRaise_gates, State.gateEvent_gates, State.modGate_gates]
    unfold upd
    dsimp only
    rw [if_pos h]
  next h => exact (upd_eq_self (by rw [if_neg h])).symm

theorem State.abortTest_now (s : State) (c : Fin 52) : (s.abortTest c).now = s.now :=
  now_of_blank (State.abortTest_in (m := only [.gates, .evlog, .irq]) rfl rfl rfl s c)

/-- What a rising edge leaves of an unlatched channel, its self-test aborted first. -/
theorem State.abortTest_seeOn {s : State} {c : Fin 52} (h : s.gates[c].latch = none) :
    ((s.abortTest c).seeOn c).gates[c].seenCmd = true ∧ ((s.abortTest c).seeOn c).gates[c].edgeAt = s.now ∧
    ((s.abortTest c).seeOn c).gates[c].hold = false ∧
    ((s.abortTest c).seeOn c).gates[c].cfg = s.gates[c].cfgNext.getD s.gates[c].cfg ∧ ((s.abortTest c).seeOn c).gates[c].cfgNext = none ∧
    (s.gates[c].railPos = true → ((s.abortTest c).seeOn c).gates[c].drive = .on ∧ ((s.abortTest c).seeOn c).gates[c].gateOn = true ∧
      ((s.abortTest c).seeOn c).gates[c].cycles = if s.gates[c].gateOn = true then s.gates[c].cycles else sat32 s.gates[c].cycles) ∧
    ∀ d, d ≠ c → ((s.abortTest c).seeOn c).gates[d] = s.gates[d] := by
  have hgate : (s.abortTest c).gates[c] = { s.gates[c] with selftest := if s.gates[c].selftest = 1 then 4 else s.gates[c].selftest } := by
    simp only [State.abortTest_gates, upd_get, if_true]
  have hlatch : (s.abortTest c).gates[c].latch = none := by rw [hgate]; exact h
  obtain ⟨hsame, hother⟩ := State.seeOn_unlatched hlatch
  obtain ⟨drive, on, off, cycles, hturn, hdriven⟩ := Gate.turnOn_rise (s.abortTest c).gates[c] (s.abortTest c).now ((s.abortTest c).edgeClears c)
  rw [hsame, hturn]
  refine ⟨rfl, s.abortTest_now c, rfl, ?_, rfl, fun hr => ?_, fun d hd => ?_⟩
  · simp only [Gate.rise, hgate]
  · simpa only [hgate] using hdriven (by rw [hgate]; exact hr)
  · rw [hother d hd]
    simp only [State.abortTest_gates]
    exact upd_get_other _ _ (Ne.symm hd)

theorem eq_chD_of_owner {c : Fin 52} {b : Fin 4} (h : ownerOf c = .clamp b) : c = chD b := by
  unfold ownerOf at h
  split at h
  · cases h
  · split at h
    · split at h <;> cases h
    next h48 =>
      cases h
      exact Fin.ext (by simp only [chD]; omega)

/-- The end of a clear pulse leaves a clamp whose command is on again as it is (10 R280). -/
theorem State.endDnPulse_gates {s : State} {c : Fin 52} (h : s.gates[c].cmd = true) : (s.endDnPulse c).gates = s.gates := by
  unfold State.endDnPulse
  split
  next b hb =>
    split
    · split
      · unfold State.setDn
        dsimp only
        have hset : (((s.modBank b fun k => { k with dnPulse := none }).modGate (chD b) fun g => { g with cmd := true })).gates = s.gates := by
          rw [State.modGate_gates, State.modBank_gates, ← eq_chD_of_owner hb]
          exact upd_eq_self (by rw [← h])
        split
        · exact hset
        · rw [State.irqRaise_gates]; exact hset
      · rfl
    · rfl
  · rfl

theorem State.endDnPulse_now (s : State) (c : Fin 52) : (s.endDnPulse c).now = s.now :=
  now_of_blank (State.endDnPulse_in (m := only [.banks, .gates, .irq]) rfl rfl rfl s c)

/-- A rising edge of a channel other than a half-bridge side (10 R269). -/
theorem exec_gateRisingEdge_single {s : State} {c : Fin 52} (hp : partnerGate c = none) (hc : s.gates[c].cmd = true) (hs : s.gates[c].seenCmd = false) :
    exec (.gateRisingEdge c) s = .next (((s.endDnPulse c).abortTest c).seeOn c) := by
  refine congrArg Host.Outcome.next ?_
  rw [hp]
  dsimp only
  rw [State.endDnPulse_gates hc, hc, hs]
  rfl

/-- A rising edge that the modulator gives to a side of a half-bridge (09 R258). -/
theorem exec_gateRisingEdge_pair {s : State} {c other : Fin 52} {b : Fin 4} (hp : partnerGate c = some (b, other)) (hm : s.banks[b].modulator = true)
    (hh : s.hbPermitted b = true) (hc : s.gates[c].cmd = false) (hr : s.modulatorRises b c other = true) :
    exec (.gateRisingEdge c) s = .next (s.risePair b c other) := by
  refine congrArg Host.Outcome.next ?_
  rw [hp]
  dsimp only
  rw [hm, hh, hc, hr]
  rfl

theorem eq_chH_of_owner {c : Fin 52} {b : Fin 4} (h : ownerOf c = .high b) : c = chH b := by
  unfold ownerOf at h
  split at h
  · cases h
  · split at h
    · split at h
      · cases h
        exact Fin.ext (by simp only [chH]; omega)
      · cases h
    · cases h

theorem eq_chL_of_owner {c : Fin 52} {b : Fin 4} (h : ownerOf c = .low b) : c = chL b := by
  unfold ownerOf at h
  split at h
  · cases h
  · split at h
    · split at h
      · cases h
      · cases h
        exact Fin.ext (by simp only [chL]; omega)
    · cases h

theorem partnerGate_ne {c other : Fin 52} {b : Fin 4} (hp : partnerGate c = some (b, other)) : other ≠ c := by
  unfold partnerGate at hp
  split at hp
  next hb =>
    cases hp
    rw [eq_chH_of_owner hb]
    exact chL_ne_chH _
  next hb =>
    cases hp
    rw [eq_chL_of_owner hb]
    exact (chL_ne_chH _).symm
  · cases hp

/-- The raised side of a half-bridge, no conflict held: its cycle begun, before the interlock judges it. -/
def State.raised (s : State) (b : Fin 4) (c : Fin 52) : State :=
  let t := s.modGate c fun g => { g with cmd := true }
  (if c = chH b then t.beginCycle b else t).modBank b fun k => { k with conflict := false }

theorem State.risePair_eq {s : State} {b : Fin 4} {c other : Fin 52} (h : s.banks[b].conflict = false) : s.risePair b c other =
    if s.gates[other].cmd && s.gates[other].edgeAt = s.now then
      (((s.raised b c).modGate other Gate.takeBack).modBank b fun k => { k with conflict := true, conflicts := sat32 k.conflicts }).gateEvent 0x500A c
    else if s.interlockPasses c other then ((s.raised b c).abortTest c).seeOn c
    else ((s.raised b c).modGate c fun g => { g with hold := true, edgeAt := s.now }).gateEvent 0x5009 c := by
  have hhold : s.conflictHolds b = false := by rw [State.conflictHolds, h]; rfl
  unfold State.risePair
  rw [hhold]
  rfl

theorem State.raised_gates (s : State) (b : Fin 4) (c : Fin 52) : (s.raised b c).gates = upd s.gates c fun g => { g with cmd := true } := by
  unfold State.raised
  dsimp only
  split <;> rfl

theorem State.raised_conflicts (s : State) (b : Fin 4) (c : Fin 52) : (s.raised b c).banks[b].conflicts = s.banks[b].conflicts := by
  unfold State.raised State.beginCycle
  dsimp only
  split <;> simp only [State.modBank_banks, upd_get, if_true, State.modGate_banks]

theorem Gate.takeBack_off (g : Gate) : g.takeBack.gateOn = false := by
  unfold Gate.takeBack Gate.holdLow Gate.turnOff
  dsimp only
  repeat' split
  all_goals rfl

theorem exec_gateFallingEdge_due {s : State} {c : Fin 52} (hs : s.gates[c].seenCmd = true) (hc : partnerGate c = none → s.gates[c].cmd = false)
    (hf : ∀ b other, partnerGate c = some (b, other) → s.modulatorFalls b c = true) :
    exec (.gateFallingEdge c) s = .next ((s.modGate c fun g => { g with cmd := false }).seeOff c) := by
  refine congrArg Host.Outcome.next ?_
  split
  next b other hp =>
    rw [hs, hf b other hp, Bool.or_true]
    rfl
  next hp =>
    have hsame : (s.modGate c fun g => { g with cmd := false }) = s := by
      have hgates : upd s.gates c (fun g => { g with cmd := false }) = s.gates := upd_eq_self (by rw [← hc hp])
      simp only [State.modGate, hgates]
    rw [hs, hc hp, hsame]
    rfl

theorem State.seeOff_gate (s : State) (c : Fin 52) : (s.seeOff c).gates[c].cmd = s.gates[c].cmd ∧ (s.seeOff c).gates[c].seenCmd = false ∧
    (s.seeOff c).gates[c].edgeAt = s.now ∧ (s.seeOff c).gates[c].hold = false ∧ (s.seeOff c).gates[c].latch = s.gates[c].latch ∧
    (s.gates[c].latch = none → (s.seeOff c).gates[c].gateOn = false ∧ (s.seeOff c).gates[c].gateOff = s.gates[c].railNeg) := by
  unfold State.seeOff
  rw [State.modGate_same]
  dsimp only
  split
  next hl => exact ⟨rfl, rfl, rfl, rfl, rfl, fun h => by rw [h] at hl; cases hl⟩
  · exact ⟨rfl, rfl, rfl, rfl, rfl, fun _ => ⟨rfl, rfl⟩⟩

theorem Gate.armed_of {g : Gate} (hs : g.seenCmd = true) (ht : g.selftest ≠ 1) : g.armed = true :=
  Bool.and_eq_true_iff.mpr ⟨hs, decide_eq_true ht⟩

/-! ## O7 -/

/-- Settles O7: each edge changes its channel, and the modulator's conflict takes back the other side; the fault commands are those of O8. -/
theorem gateEdges : Obligations.GateEdges := by
  unfold Obligations.GateEdges
  intro s c
  obtain ⟨hdidt, hblank, hlow, -, hread, -, hsoft, hreport, hwindow⟩ := gateFaults s c
  refine ⟨fun hp hc hs hl => ?single, fun b other hp hm hh hc hconf hr => ?pair, fun hs hc hf => ?falling, fun hs ht => ?hard,
    fun hs ht hh hb => ?blanking, fun hr => ?uvlo, fun ht hd hon he => ?open_, fun hd => ?soft, fun cause on hr => ?report, fun w hw hd => ?window⟩
  case single =>
    have hgates := State.endDnPulse_gates hc
    have hrise := State.abortTest_seeOn (s := s.endDnPulse c) (c := c) (by rw [hgates]; exact hl)
    simp only [hgates, State.endDnPulse_now] at hrise
    obtain ⟨hseen, hedge, -, hcfg, hnext, hdrive, hother⟩ := hrise
    exact ⟨_, exec_gateRisingEdge_single hp hc hs, hseen, hedge, hcfg, hnext, hdrive, hother⟩
  case pair =>
    have hne := partnerGate_ne hp
    have hraised : (s.raised b c).gates[c] = { s.gates[c] with cmd := true } := by simp only [State.raised_gates, upd_get, if_true]
    have hkept : ∀ d, d ≠ c → (s.raised b c).gates[d] = s.gates[d] := fun d hd => by
      simp only [State.raised_gates]
      exact upd_get_other _ _ (Ne.symm hd)
    refine ⟨_, exec_gateRisingEdge_pair hp hm hh hc hr, ?_⟩
    rw [State.risePair_eq hconf]
    by_cases hboth : s.gates[other].cmd = true ∧ s.gates[other].edgeAt = s.now
    · rw [if_pos (by rw [hboth.1, decide_eq_true hboth.2]; rfl)]
      have hother : ((s.raised b c).modGate other Gate.takeBack).gates[c] = { s.gates[c] with cmd := true } :=
        (State.modGate_other hne.symm).trans hraised
      simp only [State.gateEvent_gates, State.gateEvent_banks, State.modBank_gates, State.modBank_banks, hother, upd_get, if_true]
      refine ⟨trivial, fun hi => ?_, fun _ _ => ⟨trivial, ?_, trivial, ?_⟩, fun _ hn => absurd hboth hn⟩
      · unfold State.interlockPasses at hi
        dsimp only at hi
        rw [hboth.1] at hi
        cases hi
      · rw [State.modGate_same]; exact Gate.takeBack_off _
      · rw [State.modGate_banks, State.raised_conflicts]
    · rw [if_neg (by rw [Bool.and_eq_true, decide_eq_true_iff]; exact hboth)]
      by_cases hi : s.interlockPasses c other = true
      · rw [if_pos hi]
        refine ⟨?_, fun _ hl => ?_, fun h1 h2 => absurd ⟨h1, h2⟩ hboth, fun hn => absurd hi (by rw [hn]; decide)⟩
        · rw [State.seeOn_cmd]
          simp only [State.abortTest_gates, upd_get, if_true, hraised]
        · obtain ⟨hseen, -, hhold, -, -, -, hother⟩ := State.abortTest_seeOn (s := s.raised b c) (c := c) (by rw [hraised]; exact hl)
          exact ⟨hseen, hhold, fun d hd => (hother d hd).trans (hkept d hd)⟩
      · rw [if_neg hi]
        simp only [State.gateEvent_gates, State.modGate_same, hraised]
        exact ⟨trivial, fun h => absurd h hi, fun h1 h2 => absurd ⟨h1, h2⟩ hboth, fun _ _ => ⟨trivial, trivial⟩⟩
  case falling =>
    obtain ⟨hcmd, hseen, hedge, hhold, hlatch, hoff⟩ := (s.modGate c fun g => { g with cmd := false }).seeOff_gate c
    simp only [State.modGate_same] at hcmd hlatch hoff
    refine ⟨_, exec_gateFallingEdge_due hs hc hf, hcmd, hseen, hedge, hhold, hlatch, hoff, fun d hd => ?_⟩
    rw [State.seeOff, State.modGate_other hd, State.modGate_other hd]
  case hard =>
    obtain ⟨t, hexec, hfault, -⟩ := hdidt .hard (Gate.armed_of hs ht)
    exact ⟨t, hexec, by rw [hfault.1]; rfl, hfault.2.1⟩
  case blanking =>
    have ha := Gate.armed_of hs ht
    have hf := s.gateFault_faulted c .didtBlank
    refine ⟨_, exec_blankingEnd_due ha hh hb, ?_, ?_⟩
    · rw [if_pos rfl, hf.latch]; rfl
    · rw [if_pos rfl, hf.counts, GateCause.counted_some rfl]; exact upd_get_same _ (0 : Fin 3) _
  case uvlo =>
    obtain ⟨t, hexec, hrail, -, hcount, -⟩ := hlow false hr
    exact ⟨t, hexec, hrail, hcount⟩
  case open_ =>
    obtain ⟨t, hexec, hcount, hlatch, -⟩ := hread .open_ true .rbOpen ht ⟨rfl, hd, hon, he⟩
    exact ⟨t, hexec, by rw [hlatch]; rfl, hcount⟩
  case soft =>
    obtain ⟨t, hexec, hoff, hdrive, -⟩ := hsoft hd
    refine ⟨t, hexec, ?_, hoff⟩
    rw [hdrive]
    split <;> exact Drive.noConfusion
  case report =>
    obtain ⟨t, hexec, hrecord, -⟩ := hreport cause on hr
    exact ⟨t, hexec, hrecord⟩
  case window =>
    obtain ⟨t, hexec, hclosed, -⟩ := hwindow w hw hd
    exact ⟨t, hexec, hclosed⟩

/-! ## Self-tests and the clear of a bank's records (O9) -/

theorem State.selfTestRefused_taken (s : State) (src : Src) (i u : Nat) (c : Fin 52) : (s.taken src i u).selfTestRefused c = s.selfTestRefused c := by
  simp only [State.selfTestRefused, State.taken_gates, State.taken_banks]

/-- The records that have no condition present clear (10 R280). -/
def State.clearRecords (s : State) (b : Fin 4) : State :=
  s.forEach [chH b, chL b, chD b] fun t c => if t.gates[c].present then t else t.modGate c fun g => { g with record := none }

theorem State.clearRecords_kept (s : State) (b : Fin 4) (c : Fin 52) : ∃ r, (s.clearRecords b).gates[c] = { s.gates[c] with record := r } := by
  refine forEach_keeps (P := fun t => ∃ r, t.gates[c] = { s.gates[c] with record := r }) (fun t d ht => ?_) _ _ ⟨_, rfl⟩
  split
  · exact ht
  · by_cases hd : c = d
    · obtain ⟨r, hr⟩ := ht
      exact ⟨none, by subst hd; rw [State.modGate_same, hr]⟩
    · rwa [State.modGate_other hd]

theorem State.clearRecords_cleared (s : State) (b : Fin 4) {c : Fin 52} (hc : c ∈ [chH b, chL b, chD b]) (hp : s.gates[c].present = false) :
    (s.clearRecords b).gates[c].record = none := by
  have hclear : (s.clearRecords b).gates[c].present = false → (s.clearRecords b).gates[c].record = none := by
    refine forEach_mem (P := fun c t => t.gates[c].present = false → t.gates[c].record = none) (fun t d hd => ?_) (fun t d e he => ?_) s _ hc
    · split at hd
      next h => exact absurd h (by rw [hd]; decide)
      next h => rw [if_neg h, State.modGate_same]
    · split
      · exact he
      · by_cases hed : e = d
        · subst hed; intro _; rw [State.modGate_same]
        · rwa [State.modGate_other hed]
  obtain ⟨r, hr⟩ := s.clearRecords_kept b c
  exact hclear (by rw [hr]; exact hp)

theorem State.clearRecords_blank (s : State) (b : Fin 4) : (s.clearRecords b).blank (only [.gates]) = s.blank (only [.gates]) := by
  unfold State.clearRecords
  refine forEach_in (fun t c => ?_) _ _
  split
  · rfl
  · exact State.modGate_in rfl _ _ _

/-- A latched clamp whose command is on goes off for 10 us (10 R280). -/
def State.clearPulse (s : State) (b : Fin 4) : State :=
  if s.gates[chD b].latch.isSome && s.gates[chD b].cmd then
    ((s.setDn b false).modBank b fun k => { k with dnPulse := some s.now }).seeOff (chD b)
  else s

theorem State.setDn_gates (s : State) (b : Fin 4) (on : Bool) : (s.setDn b on).gates = upd s.gates (chD b) fun g => { g with cmd := on } := by
  unfold State.setDn
  dsimp only
  split
  · rfl
  · rw [State.irqRaise_gates]; rfl

theorem State.clearPulse_record (s : State) (b : Fin 4) (c : Fin 52) : (s.clearPulse b).gates[c].record = s.gates[c].record := by
  unfold State.clearPulse
  split
  · have hset : (s.setDn b false).gates[c].record = s.gates[c].record := by
      simp only [State.setDn_gates, upd_get]
      split <;> rfl
    unfold State.seeOff
    by_cases hc : c = chD b
    · subst hc
      rw [State.modGate_same, ← hset]
      dsimp only
      split <;> rfl
    · rw [State.modGate_other hc]
      exact hset
  · rfl

theorem State.clearPulse_pulses {s : State} {b : Fin 4} (hl : s.gates[chD b].latch.isSome = true) (hc : s.gates[chD b].cmd = true) :
    (s.clearPulse b).gates[chD b].cmd = false ∧ (s.clearPulse b).banks[b].dnPulse = some s.now := by
  unfold State.clearPulse
  rw [if_pos (by rw [hl, hc]; rfl)]
  constructor
  · rw [(State.seeOff_gate _ _).1]
    simp only [State.modBank_gates, State.setDn_gates, upd_get, if_true]
  · simp only [State.seeOff, State.modGate_banks, State.modBank_banks, upd_get, if_true]

/-- The events of the records that stay (10 R280). -/
def State.recordEvents (s : State) (b : Fin 4) : State :=
  s.forEach [chH b, chL b, chD b] fun t c => match t.gates[c].record with
    | some k => t.gateEvent 0x500D c (u8 c.val ++ u8 k.code)
    | none => t

theorem State.recordEvents_blank (s : State) (b : Fin 4) : (s.recordEvents b).blank (only [.evlog, .irq]) = s.blank (only [.evlog, .irq]) := by
  unfold State.recordEvents
  refine forEach_in (fun t c => ?_) _ _
  split
  · exact State.gateEvent_in rfl rfl _ _ _ _
  · rfl

theorem State.applyGateClear_ok {s : State} {b : Fin 4} (h : s.banks[b].state ≠ .precharging) :
    s.applyGateClear b = .ok ((s.clearRecords b).clearPulse b |>.recordEvents b) := by
  have hnow : (s.clearRecords b).now = s.now := now_of_blank (s.clearRecords_blank b)
  unfold State.applyGateClear State.clearPulse
  dsimp only
  rw [if_neg h, hnow]
  rfl

theorem State.endSelfTest_other {s : State} {c d : Fin 52} {e : SelfTestEnd} (h : d ≠ c) : (s.endSelfTest c e).gates[d] = s.gates[d] := by
  unfold State.endSelfTest
  split
  · rfl
  · split
    · simp only [State.irqRaise_gates, State.event_gates, State.modGate_other h]
    · simp only [State.abortTest_gates]
      exact upd_get_other _ _ (Ne.symm h)
    all_goals simp only [State.irqRaise_gates, State.event_gates, State.gateFault_other h, State.modGate_other h]

/-- A failed step of a self-test latches its own cause (10 R283). -/
theorem State.endSelfTest_failed {s : State} {c : Fin 52} (h : s.gates[c].selftest = 1) {e : SelfTestEnd} {cause : GateCause}
    (he : SelfTestEnd.cause e = some cause) :
    (s.endSelfTest c e).gates[c].selftest = 3 ∧ (s.endSelfTest c e).gates[c].latch = some cause ∧ (s.endSelfTest c e).gates[c].stCond = some cause := by
  have hgates : (s.endSelfTest c e).gates = ((s.modGate c fun g => { g with selftest := 3, stCond := some cause }).gateFault c cause).gates := by
    cases e <;> cases he <;>
      simp only [State.endSelfTest, h, ne_eq, not_true_eq_false, if_false, State.irqRaise_gates, State.event_gates, SelfTestEnd.cause, Option.getD_some]
  have hg : cause.group = none := by cases e <;> cases he <;> rfl
  have hf := (s.modGate c fun g => { g with selftest := 3, stCond := some cause }).gateFault_faulted c cause
  simp only [hgates]
  rw [State.modGate_same] at hf
  exact ⟨hf.selftest, by rw [hf.latch, hg]; rfl, hf.stCond⟩

/-- What the end of a running self-test leaves of its channel (10 R283, R284). -/
theorem State.endSelfTest_gate {s : State} {c : Fin 52} (h : s.gates[c].selftest = 1) (e : SelfTestEnd) :
    (s.endSelfTest c e).gates[c].selftest = (match e with | .passed => 2 | .aborted => 4 | _ => 3) ∧
    (e = .failedDidt ∨ e = .failedUvlo ∨ e = .failedRb →
      (s.endSelfTest c e).gates[c].latch = SelfTestEnd.cause e ∧ (s.endSelfTest c e).gates[c].stCond = SelfTestEnd.cause e) := by
  cases e
  case passed =>
    refine ⟨?_, fun h => by rcases h with h | h | h <;> cases h⟩
    simp only [State.endSelfTest, h, ne_eq, not_true_eq_false, if_false, State.irqRaise_gates, State.event_gates, State.modGate_same]
  case aborted =>
    refine ⟨?_, fun h => by rcases h with h | h | h <;> cases h⟩
    simp only [State.endSelfTest, h, ne_eq, not_true_eq_false, if_false, State.abortTest_gates, upd_get, if_true]
  case failedDidt =>
    obtain ⟨h1, h2, h3⟩ := State.endSelfTest_failed h (e := .failedDidt) (cause := .stDidt) rfl
    exact ⟨h1, fun _ => ⟨h2, h3⟩⟩
  case failedUvlo =>
    obtain ⟨h1, h2, h3⟩ := State.endSelfTest_failed h (e := .failedUvlo) (cause := .stUvlo) rfl
    exact ⟨h1, fun _ => ⟨h2, h3⟩⟩
  case failedRb =>
    obtain ⟨h1, h2, h3⟩ := State.endSelfTest_failed h (e := .failedRb) (cause := .stRb) rfl
    exact ⟨h1, fun _ => ⟨h2, h3⟩⟩

theorem State.noteSelfTests_gates (s : State) : s.noteSelfTests.gates = s.gates :=
  same_of_blank (p := .gates) (State.noteSelfTests_in (m := only [.ropes, .start]) rfl rfl s) rfl

theorem State.recordEvents_gates (s : State) (b : Fin 4) : (s.recordEvents b).gates = s.gates := same_of_blank (p := .gates) (s.recordEvents_blank b) rfl
theorem State.recordEvents_banks (s : State) (b : Fin 4) : (s.recordEvents b).banks = s.banks := same_of_blank (p := .banks) (s.recordEvents_blank b) rfl

/-- Settles O9: a started test, its end, and the clear as its three steps. -/
theorem gateTests : Obligations.GateTests := by
  unfold Obligations.GateTests
  intro s src
  refine ⟨fun c => ?start, fun c e hs => ?ends, fun b ha hb => ?clear⟩
  case start =>
    intro w ha hr
    obtain ⟨t, hexec, hsent, hblank⟩ := exec_plain (c := .gateSelftest src c 1) rfl ha fun r _ => by
      rw [if_neg Nat.one_ne_zero, State.applySelfTest, State.selfTestRefused_taken, hr]
      rfl
    have hgates : t.gates = upd s.gates c fun g => { g with selftest := 1 } := by
      rw [same_of_blank (p := .gates) hblank rfl, State.modGate_gates, State.taken_gates]
    refine ⟨t, hexec, ?_, hsent, fun d hd => ?_⟩
    · simp only [hgates, upd_get, if_true]
    · simp only [hgates, upd_get, if_neg (Ne.symm hd)]
  case ends =>
    refine ⟨_, rfl, ?_⟩
    rw [State.noteSelfTests_gates]
    exact ⟨(State.endSelfTest_gate hs e).1, (State.endSelfTest_gate hs e).2, fun d hd => State.endSelfTest_other hd⟩
  case clear =>
    obtain ⟨t, hexec, hsent, hblank⟩ := exec_plain (c := .gateClear src b 1) rfl ha fun r _ =>
      State.applyGateClear_ok (by rw [State.taken_banks]; exact hb)
    have hgates : t.gates = (((s.taken src (bankObj b) 0x0044).clearRecords b).clearPulse b).gates := by
      rw [same_of_blank (p := .gates) hblank rfl, State.recordEvents_gates]
    have hbanks : t.banks = (((s.taken src (bankObj b) 0x0044).clearRecords b).clearPulse b).banks := by
      rw [same_of_blank (p := .banks) hblank rfl, State.recordEvents_banks]
    refine ⟨t, hexec, fun c hc hp => ?_, fun hl hcmd => ?_, hsent⟩
    · rw [hgates, State.clearPulse_record]
      exact State.clearRecords_cleared _ b hc (by rw [State.taken_gates]; exact hp)
    · obtain ⟨r, hr⟩ := (s.taken src (bankObj b) 0x0044).clearRecords_kept b (chD b)
      rw [State.taken_gates] at hr
      obtain ⟨hoff, hpulse⟩ := State.clearPulse_pulses (s := (s.taken src (bankObj b) 0x0044).clearRecords b) (b := b) (by rw [hr]; exact hl)
        (by rw [hr]; exact hcmd)
      rw [hgates, hbanks]
      exact ⟨hoff, by rw [hpulse, now_of_blank (State.clearRecords_blank _ b), State.taken_now]⟩

end Sys2Proof.Machine

/-!
Hall passes: their requests (O10), their taking and their end (O11, O12).
-/

namespace Sys2Proof.Machine

-- One thread per theorem would be more than the compiler's memory limit allows.
set_option Elab.async false

/-! ## Requests for a pass -/

theorem State.firstBad_one {s : State} {index sub : Nat} {data : List Byte} {r : EntryRow} (he : entryOf index sub = some r)
    (hl : s.lengthOk r index sub data = true) (hr : r.rangeOk data = true) : s.firstBad [⟨index, sub, data⟩] = none := by
  have hitem : s.itemCheck ⟨index, sub, data⟩ = none := by simp [State.itemCheck, he, hl, hr]
  simp [State.firstBad, List.zipIdx, hitem]

/-- The state in which the pass of an accepted request waits in the privileged queue (09 R248). -/
def State.passQueued (s : State) (r : SealedReq) (p : Pass) : State :=
  (s.modBelay fun b => { b with privQ := b.privQ ++ [.pass p] }).modSeng fun g => { g with actions := g.actions ++ [(p, r)] }

theorem State.createPass_awaits {s : State} {r : SealedReq} {p : Pass} (hb : s.firstBad r.items = none) (hm : s.mode.block ≠ .baseCamp)
    (hp : s.supply.pfw = false) : s.createPass r p = .awaits (s.passQueued r { p with check := p.checkOf }) := by
  simp only [State.createPass, hb, hm, hp, if_false, Bool.false_eq_true]
  rfl

/-- A sealed actuation request that firmware accepts leaves its pass at the end of the queue and changes no string, bank or gate. -/
theorem exec_passRequest {c : Instr} {s : State} {r : SealedReq} {p : Pass} (hc : exec c s = .next (s.unlessSwapping c fun s =>
    s.sealedVia r fun s => s.createPass r p)) (h : s.admitsSealed r) (hb : (s.verified r).firstBad r.items = none) (hm : s.mode.block ≠ .baseCamp)
    (hp : s.supply.pfw = false) : ∃ t, exec c s = .next t ∧ t.belay.privQ = s.belay.privQ ++ [.pass { p with check := p.checkOf }] ∧
      t.strs = s.strs ∧ t.banks = s.banks ∧ t.gates = s.gates ∧ t.io = s.io := by
  have hact := State.createPass_awaits (r := r) (p := p) hb (by rwa [State.verified_mode]) (by rwa [State.verified_supply])
  rw [holding_false h.1, sealedVia_eq h, hact] at hc
  refine ⟨_, hc, ?_, ?_, ?_, ?_, ?_⟩
  · simp only [State.passQueued, State.modSeng_belay, State.modBelay_belay, State.verified_belay]
  · simp only [State.passQueued, State.modSeng_strs, State.modBelay_strs, State.verified_strs]
  · simp only [State.passQueued, State.modSeng_banks, State.modBelay_banks, State.verified_banks]
  · simp only [State.passQueued, State.modSeng_gates, State.modBelay_gates, State.verified_gates]
  · simp only [State.passQueued, State.modSeng_io, State.modBelay_io, State.verified_io]

theorem entryOf_close : ∀ i : Fin 40, entryOf (strObj i) 0x0003 = some ⟨0x2201, 40, 0x0003, 1, 1, 1, .num, false, .xs, [(1, 1)], [0]⟩ := by decide
theorem entryOf_unlock : ∀ i : Fin 40, entryOf (strObj i) 0x0006 = some ⟨0x2201, 40, 0x0006, 1, 1, 1, .num, false, .xs, [(1, 1)], [0]⟩ := by decide
theorem entryOf_precharge : ∀ b : Fin 4, entryOf (bankObj b) 0x0003 = some ⟨0x2101, 4, 0x0003, 1, 1, 1, .num, false, .xs, [(1, 40)], [0]⟩ := by decide

theorem prechargeRange_ok : ∀ v : Fin 41, 1 ≤ v.val →
    EntryRow.rangeOk ⟨0x2101, 4, 0x0003, 1, 1, 1, .num, false, .xs, [(1, 40)], [0]⟩ (u8 v.val) = true := by decide

/-- Settles O10: the request is verified, its item passes, and the pass is created. -/
theorem passRequests : Obligations.PassRequests := by
  unfold Obligations.PassRequests
  intro s h hm hp
  refine ⟨fun i ha => ?_, fun b v h1 h40 ha => ?_, fun i ha => ?_⟩
  · obtain ⟨t, hexec, hq, hs, hb, hg, -⟩ := exec_passRequest (c := .close h i 1) rfl ha
      (State.firstBad_one (entryOf_close i) (by simp [State.lengthOk, EntryRow.size, u8, beBytes_length]) (by decide)) hm hp
    exact ⟨t, _, hexec, hq, rfl, rfl, rfl, rfl, rfl, rfl, hs, hb, hg⟩
  · obtain ⟨t, hexec, hq, hs, hb, hg, -⟩ := exec_passRequest (c := .precharge h b v) rfl ha
      (State.firstBad_one (entryOf_precharge b) (by simp [State.lengthOk, EntryRow.size, u8, beBytes_length]) (prechargeRange_ok ⟨v, by omega⟩ h1)) hm hp
    exact ⟨t, _, hexec, hq, rfl, rfl, rfl, rfl, rfl, rfl, hs, hb, hg⟩
  · obtain ⟨t, hexec, hq, hs, hb, hg, -⟩ := exec_passRequest (c := .unlock h i 1) rfl ha
      (State.firstBad_one (entryOf_unlock i) (by simp [State.lengthOk, EntryRow.size, u8, beBytes_length]) (by decide)) hm hp
    exact ⟨t, _, hexec, hq, rfl, rfl, rfl, rfl, hs, hb, hg⟩

/-! ## What is read through -/

theorem State.bankOf_of_belay {s t : State} (h : t.belay.store = s.belay.store) (i : Fin 40) : t.bankOf i = s.bankOf i := by
  simp only [State.bankOf, State.bval, State.committed, h]

theorem State.stringsOf_of_belay {s t : State} (h : t.belay.store = s.belay.store) (b : Fin 4) : t.stringsOf b = s.stringsOf b := by
  simp only [State.stringsOf, State.bankOf_of_belay h]

theorem State.mem_stringsOf {s : State} {i : Fin 40} {b : Fin 4} : i ∈ s.stringsOf b ↔ s.bankOf i = b := by
  simp [State.stringsOf, allStr]

theorem State.fwActs_of {s t : State} (h1 : t.start = s.start) (h2 : t.now = s.now) (h3 : t.cores = s.cores) : t.fwActs = s.fwActs := by
  simp only [State.fwActs, State.fwUp, h1, h2, h3]

theorem State.pcActive_of {s t : State} (h : t.banks = s.banks) (b : Fin 4) : t.pcActive b = s.pcActive b := by
  simp only [State.pcActive, h]

/-- A bank that is not LIVE and in which no pre-charge runs stays as it is. -/
theorem State.settleBank_idle {s : State} {b : Fin 4} (hp : s.pcActive b = false) (hl : s.banks[b].state ≠ .live) : s.settleBank b = s := by
  simp only [State.settleBank, hp, Bool.false_and, Bool.false_eq_true, if_false]
  rw [if_neg]
  simp only [Bool.and_eq_true, decide_eq_true_eq, not_and]
  exact fun h => absurd h hl

/-! ## A pass taken -/

/-- The string's pass as the belay logic takes it (09 R249). -/
def State.holdPass (s : State) (i : Fin 40) (p : Pass) : State :=
  (if (s.closePass i).isSome then s.event 0x4013 (strObj i) 0 else s).modStr i fun c =>
    { c with pass := some ⟨p, s.now, false, false⟩, waiting := false, requested := false }

theorem State.holdPass_blank (s : State) (i : Fin 40) (p : Pass) :
    State.blank (only [.evlog, .irq, .strs]) (s.holdPass i p) = State.blank (only [.evlog, .irq, .strs]) s := by
  unfold State.holdPass
  rw [State.modStr_in rfl]
  split
  · exact State.event_in rfl rfl _ _ _ _ _
  · rfl

theorem State.holdPass_pass (s : State) (i : Fin 40) (p : Pass) : (s.holdPass i p).strs[i].pass = some ⟨p, s.now, false, false⟩ := by
  simp only [State.holdPass, State.modStr_strs, upd_get, if_true]

/-- A pass that firmware does not act on, no pre-charge running under it: decided, the string off MATCHING (09 R248). -/
theorem State.refuseClose_idle {s : State} {i : Fin 40} (why : Nat) (hp : s.pcActive (s.bankOf i) = false) :
    (s.refuseClose i why).strs[i].pass = (s.strs[i].pass.map fun h => { h with decided := true }) ∧
    (s.refuseClose i why).gates = s.gates ∧ (s.refuseClose i why).banks = s.banks := by
  have hp' : (s.markDecided i).pcActive ((s.markDecided i).bankOf i) = false := hp
  unfold State.refuseClose State.unmatch
  dsimp only
  rw [hp', Bool.false_and, if_neg Bool.false_ne_true, State.event_strs, State.event_gates, State.event_banks]
  split
  · simp only [State.setStr_strs, State.setStr_gates, State.setStr_banks, State.markDecided, State.modStr_strs, State.modStr_gates,
      State.modStr_banks, upd_get, if_true, and_self]
  · simp only [State.markDecided, State.modStr_strs, State.modStr_gates, State.modStr_banks, upd_get, if_true, and_self]

/-- Firmware meets the pass of a string (09 R248). -/
def State.meetPass (s : State) (i : Fin 40) (p : Pass) : State :=
  if s.fwActs then (if s.actionOpen p then (let d := s.decideClose i p; d.1.finishAction p d.2) else s.refuseClose i 9) else s

theorem State.takeClosePass_eq (s : State) (i : Fin 40) (p : Pass) :
    s.takeClosePass i p = ((s.holdPass i p).meetPass i p).settleBank (((s.holdPass i p).meetPass i p).bankOf i) := rfl

/-- A pass whose request firmware does not act on. -/
theorem State.meetPass_unacted {s : State} {i : Fin 40} {p : Pass} (hf : s.fwActs = false ∨ s.actionOpen p = false) :
    s.meetPass i p = s ∨ s.meetPass i p = s.refuseClose i 9 := by
  unfold State.meetPass
  by_cases hact : s.fwActs = true
  · have hno : s.actionOpen p = false := hf.resolve_left (by rw [hact]; decide)
    exact .inr (by rw [if_pos hact, hno, if_neg Bool.false_ne_true])
  · exact .inl (if_neg hact)

theorem State.refuseClose_belay (s : State) (i : Fin 40) (why : Nat) : (s.refuseClose i why).belay = s.belay :=
  belay_of_blank (State.refuseClose_in (m := only [.banks, .evlog, .gates, .io, .irq, .mode, .strs]) rfl rfl rfl rfl rfl rfl rfl s i why) rfl rfl

/-- A close pass whose request firmware does not act on is held, and opens nothing (09 R249). -/
theorem State.takeClosePass_unacted {s : State} {i : Fin 40} {p : Pass} {b : Fin 4} (hf : s.fwActs = false ∨ s.actionOpen p = false)
    (hb : s.bankOf i = b) (hp : s.pcActive b = false) (hl : s.banks[b].state ≠ .live) :
    (∃ d, (s.takeClosePass i p).strs[i].pass = some ⟨p, s.now, d, false⟩) ∧ (s.takeClosePass i p).gates = s.gates := by
  subst hb
  have hblank := s.holdPass_blank i p
  have hpass := s.holdPass_pass i p
  rw [State.takeClosePass_eq]
  generalize s.holdPass i p = t at hblank hpass
  have hbanks : t.banks = s.banks := same_of_blank (p := .banks) hblank rfl
  have hgates : t.gates = s.gates := same_of_blank (p := .gates) hblank rfl
  have hbelay : t.belay = s.belay := belay_of_blank hblank rfl rfl
  have hacts : t.fwActs = s.fwActs := State.fwActs_of (same_of_blank (p := .start) hblank rfl) (now_of_blank hblank) (same_of_blank (p := .cores) hblank rfl)
  have hopen : t.actionOpen p = s.actionOpen p := by
    rw [State.actionOpen, State.actionOpen, show t.seng = s.seng from same_of_blank (p := .seng) hblank rfl]
  have hidle : ∀ u : State, u.banks = s.banks → u.belay = s.belay → u.settleBank (u.bankOf i) = u := by
    intro u hub huv
    have hbank : u.bankOf i = s.bankOf i := State.bankOf_of_belay (by rw [huv]) i
    refine State.settleBank_idle ?_ ?_
    · rw [hbank, State.pcActive_of hub]; exact hp
    · rw [hbank, hub]; exact hl
  have hpt : t.pcActive (t.bankOf i) = false := by
    rw [State.bankOf_of_belay (s := s) (by rw [hbelay]) i, State.pcActive_of hbanks]
    exact hp
  have hrefused := State.refuseClose_idle (i := i) 9 hpt
  rcases t.meetPass_unacted (i := i) (p := p) (by rw [hacts, hopen]; exact hf) with h | h
  · rw [h, hidle t hbanks hbelay]
    exact ⟨⟨false, hpass⟩, hgates⟩
  · rw [h, hidle _ (hrefused.2.2.trans hbanks) ((t.refuseClose_belay i 9).trans hbelay), hrefused.1, hrefused.2.1, hpass]
    exact ⟨⟨true, rfl⟩, hgates⟩

/-- The pass at the front of the queue has been taken from it (01 R26). -/
def State.popped (s : State) (rest : List PrivEntry) : State := s.modBelay fun b => { b with privQ := rest }

/-- A pass whose CRC holds has been taken: IRQ 25 and event 0x4010. -/
def State.passTaken (s : State) (rest : List PrivEntry) (source item : Nat) : State := ((s.popped rest).irqRaise 25).event 0x4010 source item

section
variable {s : State} {p : Pass} {rest : List PrivEntry} (hr : s.belay.released = true) (hq : s.belay.privQ = .pass p :: rest)
include hr hq

theorem exec_hallPassTaken_bad (hc : p.check ≠ p.checkOf) :
    exec .hallPassTaken s = .next (((s.popped rest).event 0x4014 blockObj p.target).finishAction p false) := by
  refine congrArg Host.Outcome.next ?_
  rw [hr, hq]
  exact if_pos hc

theorem exec_hallPassTaken_string {i : Fin 40} (hc : p.check = p.checkOf) (hk : p.kind ≠ .energise) (ht : p.target = i.val + 1)
    (hb : p.precharge = true → (s.bankOf i).val = p.bank) : exec .hallPassTaken s = .next
      (let t := s.passTaken rest (strObj i) 0
       if p.kind = .unlock then (((t.unlockStr i).irqRaise 26).finishAction p true) else t.takeClosePass i p) := by
  refine congrArg Host.Outcome.next ?_
  rw [hr, hq]
  dsimp only
  have hi : (⟨p.target - 1, by omega⟩ : Fin 40) = i := Fin.ext (by simp only; omega)
  rw [if_neg (not_not_intro hc), dif_neg hk, dif_pos (by omega), hi, if_neg]
  · rfl
  · simp only [Bool.and_eq_true, decide_eq_true_eq, not_and, not_not]
    exact hb

theorem exec_hallPassTaken_output {q : Fin 16} (hc : p.check = p.checkOf) (hk : p.kind = .energise) (ht : p.target = q.val + 0x41) :
    exec .hallPassTaken s = .next ((s.passTaken rest blockObj (p.target - 0x40)).takeQPass q p) := by
  refine congrArg Host.Outcome.next ?_
  rw [hr, hq]
  dsimp only
  have hi : (⟨p.target - 0x41, by omega⟩ : Fin 16) = q := Fin.ext (by simp only; omega)
  rw [if_neg (not_not_intro hc), dif_pos hk, dif_pos (by omega), hi]
  rfl

end

theorem State.passTaken_blank (s : State) (rest : List PrivEntry) (source item : Nat) :
    State.blank (only [.belay, .irq, .evlog]) (s.passTaken rest source item) = State.blank (only [.belay, .irq, .evlog]) s := by
  rw [State.passTaken, State.event_in rfl rfl, State.irqRaise_in rfl, State.popped, State.modBelay_in rfl]
  rfl

theorem State.passTaken_belay (s : State) (rest : List PrivEntry) (source item : Nat) :
    (s.passTaken rest source item).belay = { s.belay with privQ := rest } := by
  simp only [State.passTaken, State.event_belay, State.irqRaise_belay, State.popped, State.modBelay_belay]

/-- Which causes are present is read from the strings, banks, channels, evaluations, streams and the belay store. -/
theorem State.causesPresent_of {s t : State} (h1 : t.strs = s.strs) (h2 : t.banks = s.banks) (h3 : t.gates = s.gates) (h4 : t.bstr = s.bstr)
    (h5 : t.io = s.io) (h6 : t.belay.store = s.belay.store) (h7 : t.belay.degraded = s.belay.degraded)
    (h8 : t.belay.traverseSeen = s.belay.traverseSeen) (i : Fin 40) (set_ : Nat) : t.causesPresent i set_ = s.causesPresent i set_ := by
  have hread : ∀ u : State, u.causesPresent i set_ = State.causesPresent { State.reset with
      strs := u.strs, banks := u.banks, gates := u.gates, bstr := u.bstr, io := u.io,
      belay := { State.reset.belay with store := u.belay.store, degraded := u.belay.degraded, traverseSeen := u.belay.traverseSeen } } i set_ :=
    fun _ => rfl
  rw [hread t, hread s, h1, h2, h3, h4, h5, h6, h7, h8]

/-! ## A pass that expires -/

theorem StrCtl.Opens.held {c d : StrCtl} (h : c.Opens d) : d.pass = c.pass ∧ d.matchOk = c.matchOk := by
  obtain ⟨_, _, _, _, _, _, _, _, _, _, _, hd⟩ := h.kept
  rw [hd]
  exact ⟨rfl, rfl⟩

theorem State.finishAction_blank (s : State) (p : Pass) (acted : Bool) :
    State.blank (only [.seng, .evlog, .irq, .dict, .eths, .cans]) (s.finishAction p acted) = State.blank (only [.seng, .evlog, .irq, .dict, .eths, .cans]) s :=
  State.finishAction_in rfl rfl rfl rfl rfl rfl s p acted

@[simp] theorem State.finishAction_strs (s : State) (p : Pass) (acted : Bool) : (s.finishAction p acted).strs = s.strs :=
  same_of_blank (p := .strs) (s.finishAction_blank p acted) rfl
@[simp] theorem State.finishAction_gates (s : State) (p : Pass) (acted : Bool) : (s.finishAction p acted).gates = s.gates :=
  same_of_blank (p := .gates) (s.finishAction_blank p acted) rfl
@[simp] theorem State.finishAction_io (s : State) (p : Pass) (acted : Bool) : (s.finishAction p acted).io = s.io :=
  same_of_blank (p := .io) (s.finishAction_blank p acted) rfl
@[simp] theorem State.finishAction_belay (s : State) (p : Pass) (acted : Bool) : (s.finishAction p acted).belay = s.belay :=
  belay_of_blank (s.finishAction_blank p acted) rfl rfl

theorem State.expireClose_expires {s : State} {i : Fin 40} {h : HeldPass} (hp : s.strs[i].pass = some h) (hd : h.taken + passLife ≤ s.now) :
    (s.expireClose i).strs[i].pass = none ∧ (s.expireClose i).strs[i].matchOk = false := by
  unfold State.expireClose
  rw [hp]
  dsimp only
  rw [if_pos hd]
  have hdropped : ((((((s.dropClosePass i).modStr i fun c => { c with seen := c.seen ||| 2 }).irqRaise 26).event 0x4011 (strObj i) 0).finishAction h.pass
      false).strs[i].pass = none) ∧ ((((((s.dropClosePass i).modStr i fun c => { c with seen := c.seen ||| 2 }).irqRaise 26).event 0x4011 (strObj i)
      0).finishAction h.pass false).strs[i].matchOk = false) := by
    simp only [State.finishAction_strs, State.event_strs, State.irqRaise_strs, State.modStr_strs, State.dropClosePass, upd_get, if_true, and_self]
  generalize ((((s.dropClosePass i).modStr i fun c => { c with seen := c.seen ||| 2 }).irqRaise 26).event 0x4011 (strObj i) 0).finishAction h.pass
    false = u at hdropped ⊢
  split
  · obtain ⟨hpass, hok⟩ := ((u.endPrecharge_opens (s.bankOf i) 0x4025 2).str i).held
    exact ⟨hpass.trans hdropped.1, hok.trans hdropped.2⟩
  · split
    · simp only [State.setStr_strs, upd_get, if_true]
      exact hdropped
    · exact hdropped

/-- No energise pass is held for the output. -/
def State.passless (s : State) (q : Fin 16) : Prop := s.io.outputs[q].pass = none

theorem State.passless.modQ {s : State} {q : Fin 16} (h : s.passless q) (p : Fin 16) {f : Output → Output}
    (hf : ∀ o : Output, o.pass = none → (f o).pass = none) : (s.modQ p f).passless q := by
  unfold State.passless
  simp only [State.modQ_io, upd_get]
  split
  · exact hf _ h
  · exact h

theorem State.passless.startPole {s : State} {q : Fin 16} (h : s.passless q) (p : Fin 16) : (s.startPole p).passless q := by
  unfold State.passless
  simp only [State.startPole, State.event_io, State.irqRaise_io]
  exact h.modQ p fun _ => id

theorem State.passless.unwaitQ {s : State} {q : Fin 16} (h : s.passless q) (p : Fin 16) : (s.unwaitQ p).passless q := by
  unfold State.unwaitQ State.unwaitPole
  dsimp only
  split
  · refine State.passless.modQ ?_ _ fun _ ho => ho
    exact h.modQ p fun _ ho => ho
  · exact h.modQ p fun _ ho => ho

theorem State.passless.consumeQPass {s : State} {q : Fin 16} (h : s.passless q) (p : Fin 16) : (s.consumeQPass p).passless q := by
  unfold State.consumeQPass
  split
  · unfold State.passless
    simp only [State.irqRaise_io]
    exact h.modQ p fun _ _ => rfl
  · exact h

/-- Serving the queue of outputs only ends passes. -/
theorem State.passless.serveQ {q : Fin 16} (n : Nat) {s : State} (h : s.passless q) : (State.serveQ n s).passless q := by
  induction n generalizing s with
  | zero => exact h
  | succ n ih =>
    unfold State.serveQ
    split
    · exact h
    next p _ =>
      dsimp only
      split
      · exact ih (h.unwaitQ p)
      · by_cases hfree : s.pullIns + (if (s.pairOf p).isSome = true then 2 else 1) ≤ 4
        · rw [if_pos hfree]
          refine ih ?_
          have hfirst : ((if s.qPowerPath p then s.consumeQPass p else s).startPole p).passless q := by
            refine State.passless.startPole ?_ p
            split
            · exact h.consumeQPass p
            · exact h
          split
          · exact hfirst.startPole _
          · exact hfirst
        · rwa [if_neg hfree]

theorem State.expireQ_expires {s : State} {q : Fin 16} {h : HeldPass} (hp : s.io.outputs[q].pass = some h) (hd : h.taken + passLife ≤ s.now) :
    (s.expireQ q).passless q := by
  unfold State.expireQ
  rw [hp]
  dsimp only
  rw [if_pos hd]
  have hended : State.passless ((((s.modQ q fun o => { o with pass := none }).irqRaise 26).event 0x4011 blockObj (q.val + 1)).finishAction h.pass false)
      q := by
    simp only [State.passless, State.finishAction_io, State.event_io, State.irqRaise_io, State.modQ_io, upd_get, if_true]
  split
  · exact (hended.unwaitQ q).serveQ 16
  · exact hended

/-! ## Grants -/

theorem chS_ne_chH (i : Fin 40) (b : Fin 4) : chS i ≠ chH b := fun h => by
  have := congrArg Fin.val h
  simp only [chS, chH] at this
  omega
theorem chS_ne_chL (i : Fin 40) (b : Fin 4) : chS i ≠ chL b := fun h => by
  have := congrArg Fin.val h
  simp only [chS, chL] at this
  omega
theorem chS_injective {i j : Fin 40} (h : chS i = chS j) : i = j := Fin.ext (Fin.mk.inj h)

theorem State.hbOff_switch (s : State) (b : Fin 4) (i : Fin 40) : (s.hbOff b).gates[chS i] = s.gates[chS i] := by
  unfold State.hbOff
  simp only [State.modGate_gates]
  rw [upd_get_other _ _ (chS_ne_chL i b).symm, upd_get_other _ _ (chS_ne_chH i b).symm]

/-- What the grant of a close request leaves (09 R253). -/
theorem State.grant_granted {s : State} {i : Fin 40} {b : Fin 4} (hb : s.bankOf i = b) : (s.grant i).gates[chS i].cmd = true ∧
    (s.grant i).strs[i] = { s.strs[i] with pass := none, matchOk := false, waiting := false, requested := false } ∧
    (s.grant i).banks[b].holdoff = some s.now ∧ (s.grant i).gates[chH b].cmd = false ∧ (s.grant i).gates[chL b].cmd = false := by
  subst hb
  unfold State.grant
  dsimp only
  have hoff := State.hbOff_off ((((s.modGate (chS i) fun g => { g with cmd := true }).dropClosePass i).irqRaise 27).irqRaise 26) (s.bankOf i)
  refine ⟨?_, ?_, ?_, ?_⟩
  · rw [State.modBank_gates, State.hbOff_switch]
    simp only [State.irqRaise_gates, State.dropClosePass, State.modStr_gates, State.modGate_gates, upd_get, if_true]
  · simp only [State.modBank_strs, State.hbOff_strs, State.irqRaise_strs, State.dropClosePass, State.modStr_strs, State.modGate_strs, upd_get, if_true]
  · simp only [State.modBank_banks, upd_get, if_true]
  · exact hoff

/-- A grant leaves the other switches. -/
theorem State.grant_other {s : State} {i j : Fin 40} (h : i ≠ j) : (s.grant j).gates[chS i] = s.gates[chS i] ∧ (s.grant j).strs[i] = s.strs[i] := by
  have hch : chS j ≠ chS i := fun hc => h (chS_injective hc).symm
  unfold State.grant
  dsimp only
  constructor
  · rw [State.modBank_gates, State.hbOff_switch]
    simp only [State.irqRaise_gates, State.dropClosePass, State.modStr_gates, State.modGate_gates, upd_get, if_neg hch]
  · simp only [State.modBank_strs, State.hbOff_strs, State.irqRaise_strs, State.dropClosePass, State.modStr_strs, State.modGate_strs, upd_get,
      if_neg (Ne.symm h)]

/-- With no fault report in the bank the lowest grantable request is granted. -/
theorem State.grantLowest_grants {s : State} {b : Fin 4} {i : Fin 40} (hr : ∀ j ∈ s.stringsOf b, s.gates[chS j].report = none)
    (hf : (s.stringsOf b).find? (fun j => s.grantable j) = some i) : s.grantLowest b = s.grant i := by
  have hnone : (s.stringsOf b).filter (fun j => s.gates[chS j].report.isSome) = [] :=
    List.filter_eq_nil_iff.mpr fun j hj => by rw [hr j hj]; decide
  unfold State.grantLowest
  dsimp only
  rw [hnone]
  simp only [State.forEach, List.foldl_nil]
  rw [hf]

theorem execCloseGrant_eq {s : State} {i : Fin 40} (h : s.strs[i].requested = true ∨ s.strs[i].waiting = true) : exec (.closeGrant i) s = .next
    ((s.modStr i fun c => { c with requested := false, waiting := (s.closePass i).isSome }).grantLowest (s.bankOf i)) :=
  congrArg Host.Outcome.next (if_pos (by rw [Bool.or_eq_true]; exact h))

theorem State.grantable_requires {s : State} {i : Fin 40} (h : s.grantable i = true) :
    s.strs[i].waiting = true ∧ s.gates[chS i].report = none := by
  unfold State.grantable at h
  dsimp only at h
  split at h
  · cases h
  · simp only [Bool.and_eq_true, Option.isNone_iff_eq_none] at h
    simp only [h, and_self]

/-- The close requests of a bank whose channels have faults to report are discarded (01 R29). -/
def State.discardFaulted (s : State) (b : Fin 4) : State :=
  s.forEach ((s.stringsOf b).filter fun i => s.gates[chS i].report.isSome) State.discardClose

theorem State.discardFaulted_blank (s : State) (b : Fin 4) :
    (s.discardFaulted b).blank (only [.evlog, .irq, .strs]) = s.blank (only [.evlog, .irq, .strs]) :=
  forEach_in (fun t i => State.discardClose_in rfl rfl rfl t i) _ _

theorem State.grantLowest_cases (s : State) (b : Fin 4) : s.grantLowest b = s.discardFaulted b ∨
    ∃ j, (s.discardFaulted b).bankOf j = b ∧ (s.discardFaulted b).grantable j = true ∧ s.grantLowest b = (s.discardFaulted b).grant j := by
  have heq : s.grantLowest b = match ((s.discardFaulted b).stringsOf b).find? fun i => (s.discardFaulted b).grantable i with
    | some i => (s.discardFaulted b).grant i
    | none => s.discardFaulted b := rfl
  rw [heq]
  split
  next j hj =>
    exact .inr ⟨j, State.mem_stringsOf.mp (List.mem_of_find?_eq_some hj), by simpa using List.find?_some hj, rfl⟩
  · exact .inl rfl

theorem State.discardClose_str (s : State) (i j : Fin 40) : (s.strs[j].waiting = false → (s.discardClose i).strs[j].waiting = false) ∧
    (s.strs[j].requested = false → (s.discardClose i).strs[j].requested = false) ∧
    (i = j → (s.discardClose i).strs[j].waiting = false ∧ (s.discardClose i).strs[j].requested = false) := by
  unfold State.discardClose
  split
  · simp only [State.event_strs, State.irqRaise_strs, State.modStr_strs, upd_get]
    split
    · exact ⟨fun _ => rfl, fun _ => rfl, fun _ => ⟨rfl, rfl⟩⟩
    next hij => exact ⟨id, id, fun h => absurd h hij⟩
  next hno =>
    refine ⟨id, id, fun h => ?_⟩
    subst h
    exact Bool.or_eq_false_iff.mp (Bool.eq_false_of_not_eq_true hno)

theorem State.discardFaulted_waiting {s : State} {b : Fin 4} (h : ∀ j : Fin 40, s.strs[j].waiting = false) (j : Fin 40) :
    (s.discardFaulted b).strs[j].waiting = false :=
  forEach_keeps (P := fun t => t.strs[j].waiting = false) (fun t i ht => (t.discardClose_str i j).1 ht) _ _ (h j)

theorem State.discardFaulted_discards {s : State} {i : Fin 40} (hr : s.gates[chS i].report.isSome = true) :
    (s.discardFaulted (s.bankOf i)).strs[i].waiting = false ∧ (s.discardFaulted (s.bankOf i)).strs[i].requested = false := by
  refine forEach_mem (P := fun i t => t.strs[i].waiting = false ∧ t.strs[i].requested = false) (fun t a => (t.discardClose_str a a).2.2 rfl)
    (fun t a c h => ⟨(t.discardClose_str a c).1 h.1, (t.discardClose_str a c).2.1 h.2⟩) s _ ?_
  exact List.mem_filter.mpr ⟨State.mem_stringsOf.mpr rfl, hr⟩

/-- A close request of a string whose own fault is to be reported ends without a grant (01 R29). -/
theorem State.grantLowest_faulted {s : State} {i : Fin 40} (hr : s.gates[chS i].report.isSome = true) :
    (s.grantLowest (s.bankOf i)).strs[i].waiting = false ∧ (s.grantLowest (s.bankOf i)).strs[i].requested = false ∧
    (s.grantLowest (s.bankOf i)).gates[chS i].cmd = s.gates[chS i].cmd := by
  have hgates : (s.discardFaulted (s.bankOf i)).gates = s.gates := same_of_blank (p := .gates) (s.discardFaulted_blank _) rfl
  obtain ⟨hw, hq⟩ := State.discardFaulted_discards hr
  rcases s.grantLowest_cases (s.bankOf i) with h | ⟨j, -, hj, h⟩
  · rw [h, hgates]
    exact ⟨hw, hq, rfl⟩
  · have hij : i ≠ j := by
      rintro rfl
      have hnone := (State.grantable_requires hj).2
      rw [hgates] at hnone
      rw [hnone] at hr
      cases hr
    obtain ⟨hg, hs⟩ := State.grant_other (s := s.discardFaulted (s.bankOf i)) hij
    rw [h, hg, hs, hgates]
    exact ⟨hw, hq, rfl⟩

/-- After a hold-off the bank is free again or holds off for the close just granted (09 R253). -/
theorem State.grantLowest_holdoff (s : State) (b : Fin 4) :
    (s.grantLowest b).banks[b].holdoff = s.banks[b].holdoff ∨ (s.grantLowest b).banks[b].holdoff = some s.now := by
  rcases s.grantLowest_cases b with h | ⟨j, hb, -, h⟩
  · rw [h, show (s.discardFaulted b).banks = s.banks from same_of_blank (p := .banks) (s.discardFaulted_blank b) rfl]
    exact .inl rfl
  · rw [h]
    exact .inr ((State.grant_granted hb).2.2.1.trans (congrArg some (now_of_blank (s.discardFaulted_blank b))))

/-- With no request waiting nothing is granted. -/
theorem State.grantLowest_none {s : State} {b : Fin 4} (h : ∀ j : Fin 40, s.strs[j].waiting = false) :
    (s.grantLowest b).banks = s.banks ∧ (s.grantLowest b).gates = s.gates := by
  rcases s.grantLowest_cases b with he | ⟨j, -, hj, -⟩
  · rw [he]
    exact ⟨same_of_blank (p := .banks) (s.discardFaulted_blank b) rfl, same_of_blank (p := .gates) (s.discardFaulted_blank b) rfl⟩
  · have hw := (State.grantable_requires hj).1
    rw [State.discardFaulted_waiting h j] at hw
    cases hw

/-! ## Closing and pre-charge -/

/-- A granted string reads back closed (09 R253). -/
theorem exec_stringClosed_reads {s : State} {i : Fin 40} (h1 : s.gates[chS i].cmd = true) (h2 : s.gates[chS i].gateOn = true)
    (h3 : s.strs[i].state = .matching) : ∃ t, exec (.stringClosed i) s = .next t ∧ t.strs = (upd s.strs i fun c => { c with state := .closed }) ∧
      t.gates = s.gates ∧ t.banks = if s.banks[s.bankOf i].state = .precharging
        then upd s.banks (s.bankOf i) fun c => { c with source := none, modulator := false, state := .live } else s.banks := by
  have hexec : exec (.stringClosed i) s = .next (let b := s.bankOf i
      let t := (s.setStr i .closed).event 0x4008 (strObj i) 0
      if t.banks[b].state = .precharging then (t.modBank b fun c => { c with source := none, modulator := false }).setBank b .live else t) :=
    congrArg Host.Outcome.next (if_pos (by rw [h1, h2, h3]; rfl))
  refine ⟨_, hexec, ?_⟩
  dsimp only
  rw [State.event_banks, State.setStr_banks]
  split
  · simp only [State.setBank_strs, State.setBank_gates, State.setBank_banks, State.modBank_strs, State.modBank_gates, State.modBank_banks,
      State.event_strs, State.event_gates, State.event_banks, State.setStr_strs, State.setStr_gates, State.setStr_banks, upd_upd, true_and]
  · simp only [State.event_strs, State.event_gates, State.event_banks, State.setStr_strs, State.setStr_gates, State.setStr_banks, and_self]

/-- The modulator starts under an accepted pass (09 R256). -/
theorem exec_prechargeStart_starts {s : State} {b : Fin 4} {i : Fin 40} (h1 : s.banks[b].source = some i) (h2 : s.banks[b].state = .dark)
    (h3 : s.gates[chD b].gateOff = true) (h4 : s.gates[chD b].cmd = false) (h5 : s.strs[i].state = .matching) (h6 : s.hbPermitted b = true)
    (h7 : s.supply.pfw = false) : ∃ t, exec (.prechargeStart b) s = .next t ∧ t.banks[b].state = .precharging ∧ t.banks[b].modulator = true ∧
      t.gates = s.gates := by
  have hexec : exec (.prechargeStart b) s = .next (((
      (s.modBank b fun c => { c with modulator := true, linkRun := c.vLink, vCycle := 0, tOn := 0, tOff := 0 }).setBank b .precharging).irqRaise
        (28 + b.val)).event 0x4021 (bankObj b) 0 (u8 (i.val + 1))) := by
    refine congrArg Host.Outcome.next ?_
    rw [h1]
    exact if_pos (by rw [h2, h3, h4, h5, h6, h7]; rfl)
  refine ⟨_, hexec, ?_⟩
  simp only [State.event_banks, State.irqRaise_banks, State.setBank_banks, State.modBank_banks, State.event_gates, State.irqRaise_gates,
    State.setBank_gates, State.modBank_gates, upd_get, if_true, and_self]

/-- The modulator stops at its target (09 R258). -/
def State.stopModulator (s : State) (b : Fin 4) : State :=
  (((s.hbOff b).modBank b fun c => { c with modulator := false }).irqRaise (28 + b.val)).event 0x4023 (bankObj b) 0

theorem State.stopModulator_stopped (s : State) (b : Fin 4) : (s.stopModulator b).banks[b] = { s.banks[b] with modulator := false } ∧
    (s.stopModulator b).gates[chH b].cmd = false ∧ (s.stopModulator b).gates[chL b].cmd = false ∧ (s.stopModulator b).strs = s.strs := by
  have hgates : (s.stopModulator b).gates = (s.hbOff b).gates := by
    simp only [State.stopModulator, State.event_gates, State.irqRaise_gates, State.modBank_gates]
  rw [hgates]
  refine ⟨?_, (s.hbOff_off b).1, (s.hbOff_off b).2, ?_⟩
  · simp only [State.stopModulator, State.event_banks, State.irqRaise_banks, State.modBank_banks, State.hbOff_banks, upd_get, if_true]
  · simp only [State.stopModulator, State.event_strs, State.irqRaise_strs, State.modBank_strs, State.hbOff_strs]

/-- A cycle of the modulator at the link value `link` (09 R258). -/
theorem exec_prechargeTargetReached_eq {s : State} {b : Fin 4} {link : Nat} (h1 : s.banks[b].state = .precharging) (h2 : s.banks[b].modulator = true) :
    exec (.prechargeTargetReached b link) s = .next (let s := s.modBank b fun c => { c with linkRun := link }
      if s.banks[b].target ≤ link && s.gates[chH b].cmd then s.modGate (chH b) fun g => g.cmdOff s.now
      else if s.banks[b].target ≤ link && !s.inCycle b then s.stopModulator b
      else s) :=
  congrArg Host.Outcome.next (if_pos (by rw [h1, h2]; rfl))

theorem State.inCycle_linkRun (s : State) (b : Fin 4) (link : Nat) : (s.modBank b fun c => { c with linkRun := link }).inCycle b = s.inCycle b := by
  have htOff : (s.modBank b fun c => { c with linkRun := link }).banks[b].tOff = s.banks[b].tOff := by
    simp only [State.modBank_banks, upd_get, if_true]
  unfold State.inCycle
  rw [htOff]
  rfl

/-- The end of a running pre-charge leaves neither source nor modulator nor a half-bridge command (09 R259). -/
theorem State.endPrecharge_ended (s : State) (b : Fin 4) (code cause : Nat) : (s.endPrecharge b code cause).banks[b].source = none ∧
    (s.endPrecharge b code cause).banks[b].modulator = false ∧
    (s.banks[b].state = .precharging → (s.endPrecharge b code cause).banks[b].state = .discharging) ∧
    (s.endPrecharge b code cause).gates[chH b].cmd = false ∧ (s.endPrecharge b code cause).gates[chL b].cmd = false := by
  rw [State.endPrecharge_eq]
  dsimp only
  generalize hu : ((((s.modBank b fun c => { c with modulator := false, source := none }).openSource s.banks[b].source cause).event code (bankObj b) 0
      (u8 cause)).irqRaise (28 + b.val)) = u
  have hbank : u.banks[b].source = none ∧ u.banks[b].modulator = false := by
    subst hu
    simp only [State.irqRaise_banks, State.event_banks, State.openSource_banks, State.modBank_banks, upd_get, if_true, and_self]
  obtain ⟨hh, hl⟩ := u.hbOff_off b
  by_cases hp : s.banks[b].state = .precharging
  · rw [if_pos hp]
    have hafter := ((State.dnOn_opens ((u.hbOff b).modBank b fun c => { c with dischSince := u.now, modulator := false }) b))
    refine ⟨?_, ?_, fun _ => ?_, ?_, ?_⟩
    · simp only [State.discharge, State.setBank_banks, State.dnOn_banks, State.modBank_banks, State.hbOff_banks, upd_get, if_true, hbank.1]
    · simp only [State.discharge, State.setBank_banks, State.dnOn_banks, State.modBank_banks, State.hbOff_banks, upd_get, if_true]
    · simp only [State.discharge, State.setBank_banks, upd_get, if_true]
    · rw [State.discharge, State.setBank_gates]
      exact (hafter.gate _).off (isClamp_chH b) hh
    · rw [State.discharge, State.setBank_gates]
      exact (hafter.gate _).off (isClamp_chL b) hl
  · rw [if_neg hp]
    have hafter := State.dnOn_opens (u.hbOff b) b
    refine ⟨?_, ?_, fun h => absurd h hp, (hafter.gate _).off (isClamp_chH b) hh, (hafter.gate _).off (isClamp_chL b) hl⟩
    · rw [State.dnOn_banks, State.hbOff_banks]; exact hbank.1
    · rw [State.dnOn_banks, State.hbOff_banks]; exact hbank.2

theorem exec_prechargeTimeout_due {s : State} {b : Fin 4} {i : Fin 40} {h : HeldPass} (h1 : s.banks[b].source = some i) (h2 : s.strs[i].pass = some h)
    (h3 : s.pcActive b = true) (h4 : s.gates[chS i].cmd = false) (h5 : h.taken + ms (s.val (bankObj b) 0x0014) ≤ s.now) :
    exec (.prechargeTimeout b) s = .next ((s.modBank b fun c => { c with seen := c.seen ||| 2 }).endPrecharge b 0x4024 0) := by
  refine congrArg Host.Outcome.next ?_
  rw [h1]
  dsimp only
  rw [h2]
  exact if_pos (by rw [h3, h4, decide_eq_true h5]; rfl)

theorem exec_holdoffClear_due {s : State} {b : Fin 4} (h : s.holdoffDue b = true) :
    exec (.holdoffClear b) s = .next ((s.modBank b fun c => { c with holdoff := none }).grantLowest b) :=
  congrArg Host.Outcome.next (if_pos h)

/-! ## O12 -/

/-- Settles O12. -/
theorem closeAndPrecharge : Obligations.CloseAndPrecharge := by
  unfold Obligations.CloseAndPrecharge
  intro s i b
  refine ⟨fun u hreq hb hu hfind hrep => ?grant, fun hreq hrep => ?fault, fun h1 h2 h3 => ?closed, fun hd => ?holdoff,
    fun h1 h2 h3 h4 h5 h6 h7 => ?start, fun link h1 h2 => ?target, fun h h1 h2 h3 h4 h5 => ?timeout⟩
  case grant =>
    subst hb
    have hbank : u.bankOf i = s.bankOf i := by rw [hu]; rfl
    have hnow : u.now = s.now := by rw [hu]; rfl
    obtain ⟨hcmd, hstr, hhold, hh, hl⟩ := State.grant_granted hbank
    have hexec := execCloseGrant_eq (i := i) (.inl hreq)
    rw [← hu, State.grantLowest_grants hrep hfind] at hexec
    rw [hnow] at hhold
    exact ⟨_, hexec, hcmd, by rw [hstr], by rw [hstr], by rw [hstr], hhold, hh, hl⟩
  case fault =>
    have hkept : (s.modStr i fun c => { c with requested := false, waiting := (s.closePass i).isSome }).bankOf i = s.bankOf i := rfl
    have h := State.grantLowest_faulted (s := s.modStr i fun c => { c with requested := false, waiting := (s.closePass i).isSome }) (i := i) hrep
    rw [hkept] at h
    exact ⟨_, execCloseGrant_eq hreq, h.1, h.2.1, h.2.2⟩
  case closed =>
    obtain ⟨t, hexec, hstrs, -, hbanks⟩ := exec_stringClosed_reads h1 h2 h3
    refine ⟨t, hexec, ?_, fun j hj => ?_, fun hb hp => ?_⟩
    · simp only [hstrs, upd_get, if_true]
    · simp only [hstrs, upd_get, if_neg (Ne.symm hj)]
    · subst hb
      rw [if_pos hp] at hbanks
      simp only [hbanks, upd_get, if_true, and_self]
  case holdoff =>
    have hcleared : (s.modBank b fun c => { c with holdoff := none }).banks[b] = { s.banks[b] with holdoff := none } := by
      simp only [State.modBank_banks, upd_get, if_true]
    refine ⟨_, exec_holdoffClear_due hd, ?_, fun hw => ?_⟩
    · have h := (s.modBank b fun c => { c with holdoff := none }).grantLowest_holdoff b
      rwa [hcleared] at h
    · have hwait : ∀ j : Fin 40, s.strs[j].waiting = false := fun j => by
        have := Vector.all_eq_true.mp hw j.val j.isLt
        simpa using this
      obtain ⟨hbanks, hgates⟩ := State.grantLowest_none (s := s.modBank b fun c => { c with holdoff := none }) (b := b) hwait
      rw [hbanks, hgates]
      exact ⟨hcleared, rfl⟩
  case start => exact exec_prechargeStart_starts h1 h2 h3 h4 h5 h6 h7
  case target =>
    have hbank : (s.modBank b fun c => { c with linkRun := link }).banks[b] = { s.banks[b] with linkRun := link } := by
      simp only [State.modBank_banks, upd_get, if_true]
    have htarget : (s.modBank b fun c => { c with linkRun := link }).banks[b].target = s.banks[b].target := by rw [hbank]
    refine ⟨_, exec_prechargeTargetReached_eq h1 h2, ?_⟩
    dsimp only
    rw [State.inCycle_linkRun, htarget]
    refine ⟨fun ht hc => ?_, fun ht hc => ?_, fun ht => ?_⟩
    · rw [if_pos (by rw [decide_eq_true ht]; exact hc)]
      refine ⟨?_, hbank, rfl⟩
      rw [State.modGate_same]
      exact Gate.cmdOff_cmd _ _
    · have hcmd : s.gates[chH b].cmd = false := by
        simp only [State.inCycle, Bool.or_eq_false_iff] at hc
        exact hc.1.1.1.1
      rw [if_neg (by rw [Bool.and_eq_true]; rintro ⟨-, h⟩; exact absurd (hcmd.symm.trans h) (by decide)),
        if_pos (by rw [decide_eq_true ht, hc]; rfl)]
      obtain ⟨hb, hh, hl, hs⟩ := (s.modBank b fun c => { c with linkRun := link }).stopModulator_stopped b
      exact ⟨by rw [hb, hbank], hh, hl, hs⟩
    · rw [decide_eq_false (by omega)]
      rfl
  case timeout =>
    obtain ⟨hsource, hmod, hdis, hh, hl⟩ := (s.modBank b fun c => { c with seen := c.seen ||| 2 }).endPrecharge_ended b 0x4024 0
    refine ⟨_, exec_prechargeTimeout_due h1 h2 h3 h4 h5, hsource, hmod, fun hp => hdis ?_, hh, hl⟩
    simp only [State.modBank_banks, upd_get, if_true, hp]

/-! ## Unlock and energise passes -/

@[simp] theorem State.storeItem_strs (s : State) : s.storeItem.strs = s.strs :=
  same_of_blank (p := .strs) (State.storeItem_in (m := only [.dict, .health, .irq]) rfl rfl rfl s) rfl
@[simp] theorem State.storeItem_gates (s : State) : s.storeItem.gates = s.gates :=
  same_of_blank (p := .gates) (State.storeItem_in (m := only [.dict, .health, .irq]) rfl rfl rfl s) rfl

/-- The latches of a string cleared by an unlock pass, with its channel's record (09 R246). -/
def State.unlatched (s : State) (i : Fin 40) : State :=
  (s.clearTrip i).modStr i fun c => { c with lockout := false, lockoutCause := 0, lockoutSet := 0, stored := none }

theorem State.unlatched_cleared (s : State) (i : Fin 40) : (s.unlatched i).strs[i].trip = false ∧ (s.unlatched i).strs[i].lockout = false ∧
    (s.unlatched i).strs[i].stored = none ∧ (s.unlatched i).gates[chS i].record = none := by
  simp only [State.unlatched, State.clearTrip, State.modStr_strs, State.modGate_strs, State.modStr_gates, State.modGate_gates, upd_get, if_true, and_self]

theorem State.unlockStr_cleared {s : State} {i : Fin 40} (h : s.causesPresent i (s.strs[i].tripSet ||| s.strs[i].lockoutSet) = []) :
    (s.unlockStr i).strs[i].trip = false ∧ (s.unlockStr i).strs[i].lockout = false ∧
    (s.unlockStr i).strs[i].stored = none ∧ (s.unlockStr i).gates[chS i].record = none := by
  have hclear := s.unlatched_cleared i
  unfold State.unlockStr
  rw [h]
  change _ ∧ _ ∧ _ ∧ _
  dsimp only
  rw [show (s.clearTrip i).modStr i (fun c => { c with lockout := false, lockoutCause := 0, lockoutSet := 0, stored := none }) = s.unlatched i from rfl]
  generalize s.unlatched i = u at hclear ⊢
  have hstore : (if s.strs[i].stored.isSome then u.storeItem else u).strs = u.strs ∧ (if s.strs[i].stored.isSome then u.storeItem else u).gates = u.gates := by
    split <;> simp only [State.storeItem_strs, State.storeItem_gates, and_self]
  generalize (if s.strs[i].stored.isSome then u.storeItem else u) = v at hstore ⊢
  rw [← hstore.1, ← hstore.2] at hclear
  split
  · simpa only [State.setStr_strs, State.setStr_gates, State.event_strs, State.event_gates, upd_get, if_true] using hclear
  · simpa only [State.event_strs, State.event_gates] using hclear

/-- The output's pass as the belay logic takes it. -/
def State.holdQPass (s : State) (q : Fin 16) (p : Pass) : State :=
  (if (s.qPass q).isSome then s.event 0x4013 blockObj (q.val + 1) else s).modQ q fun o => { o with pass := some ⟨p, s.now, false, false⟩ }

theorem State.holdQPass_blank (s : State) (q : Fin 16) (p : Pass) :
    State.blank (only [.evlog, .irq, .io]) (s.holdQPass q p) = State.blank (only [.evlog, .irq, .io]) s := by
  unfold State.holdQPass
  rw [State.modQ_in rfl]
  split
  · exact State.event_in rfl rfl _ _ _ _ _
  · rfl

/-- An energise pass whose request firmware does not act on is held. -/
theorem State.takeQPass_unacted {s : State} {q : Fin 16} {p : Pass} (hf : s.fwActs = false ∨ s.actionOpen p = false) :
    ∃ d, (s.takeQPass q p).io.outputs[q].pass = some ⟨p, s.now, d, false⟩ := by
  have hblank := s.holdQPass_blank q p
  have hpass : (s.holdQPass q p).io.outputs[q].pass = some ⟨p, s.now, false, false⟩ := by
    simp only [State.holdQPass, State.modQ_io, upd_get, if_true]
  have htake : s.takeQPass q p = (if (s.holdQPass q p).fwActs then
      (if (s.holdQPass q p).actionOpen p then (let d := (s.holdQPass q p).decideEnergise q; d.1.finishAction p d.2) else (s.holdQPass q p).refuseQ q 9)
      else s.holdQPass q p) := rfl
  have hacts : (s.holdQPass q p).fwActs = s.fwActs :=
    State.fwActs_of (same_of_blank (p := .start) hblank rfl) (now_of_blank hblank) (same_of_blank (p := .cores) hblank rfl)
  have hopen : (s.holdQPass q p).actionOpen p = s.actionOpen p := by
    rw [State.actionOpen, State.actionOpen, show (s.holdQPass q p).seng = s.seng from same_of_blank (p := .seng) hblank rfl]
  rw [htake, hacts, hopen]
  by_cases hact : s.fwActs = true
  · have hno : s.actionOpen p = false := hf.resolve_left (by rw [hact]; decide)
    rw [if_pos hact, hno, if_neg Bool.false_ne_true]
    refine ⟨true, ?_⟩
    simp only [State.refuseQ, State.event_io, State.modQ_io, upd_get, if_true, hpass]
    rfl
  · rw [if_neg hact]
    exact ⟨false, hpass⟩

theorem State.takeClosePass_belay (s : State) (i : Fin 40) (p : Pass) : (s.takeClosePass i p).belay = s.belay :=
  belay_of_blank (State.takeClosePass_in (m := only [.evlog, .strs, .irq, .banks, .seng, .dict, .gates, .eths, .cans, .mode, .io]) rfl rfl rfl rfl rfl rfl
    rfl rfl rfl rfl rfl s i p) rfl rfl

theorem State.takeQPass_belay (s : State) (q : Fin 16) (p : Pass) : (s.takeQPass q p).belay = s.belay :=
  belay_of_blank (State.takeQPass_in (m := only [.evlog, .irq, .io, .seng, .dict, .eths, .cans]) rfl rfl rfl rfl rfl rfl rfl s q p) rfl rfl

theorem State.unlockStr_belay (s : State) (i : Fin 40) : (s.unlockStr i).belay = s.belay :=
  belay_of_blank (State.unlockStr_in (m := only [.evlog, .irq, .strs, .gates, .dict, .health]) rfl rfl rfl rfl rfl rfl s i) rfl rfl

/-! ## O11 -/

/-- Settles O11: what the front of the queue leads to; the rest is that of O12. -/
theorem passesTaken : Obligations.PassesTaken := by
  unfold Obligations.PassesTaken
  intro s p rest
  have hstore : ∀ source item, (s.passTaken rest source item).belay.store = s.belay.store := fun _ _ => by rw [State.passTaken_belay]
  refine ⟨fun hr hq hc => ?bad, fun i hr hq hc hk ht hb => ?close, fun i hr hq hc hk ht hb hcauses => ?unlock, fun q hr hq hc hk ht => ?energise,
    fun i k h hk hp hd => ?expiry, fun q k h hk hp hd => ?qExpiry, fun i b hb hw hreq hg hfind hrep => ?grant, fun i h1 h2 h3 => ?closed,
    fun b hd hw => ?holdoff, fun b i h1 h2 h3 h4 h5 h6 h7 => ?start, fun b link h1 h2 h3 h4 => ?target, fun b i h h1 h2 h3 h4 h5 => ?timeout⟩
  case bad =>
    refine ⟨_, exec_hallPassTaken_bad hr hq hc, ?_, ?_, ?_, ?_⟩
    · simp only [State.finishAction_belay, State.event_belay, State.popped, State.modBelay_belay]
    · simp only [State.finishAction_strs, State.event_strs, State.popped, State.modBelay_strs]
    · simp only [State.finishAction_io, State.event_io, State.popped, State.modBelay_io]
    · simp only [State.finishAction_gates, State.event_gates, State.popped, State.modBelay_gates]
  case close =>
    have hexec := exec_hallPassTaken_string hr hq hc (by rw [hk]; decide) ht hb
    dsimp only at hexec
    rw [if_neg (by rw [hk]; decide)] at hexec
    refine ⟨_, hexec, by rw [State.takeClosePass_belay, State.passTaken_belay], fun hf hp hl => ?_⟩
    have hblank := s.passTaken_blank rest (strObj i) 0
    have hbank := State.bankOf_of_belay (hstore (strObj i) 0) i
    have hbanks : (s.passTaken rest (strObj i) 0).banks = s.banks := same_of_blank (p := .banks) hblank rfl
    have h := State.takeClosePass_unacted (s := s.passTaken rest (strObj i) 0) (i := i) (p := p) ?_ hbank ?_ ?_
    · rwa [now_of_blank hblank, show (s.passTaken rest (strObj i) 0).gates = s.gates from same_of_blank (p := .gates) hblank rfl] at h
    · rw [State.fwActs_of (same_of_blank (p := .start) hblank rfl) (now_of_blank hblank) (same_of_blank (p := .cores) hblank rfl), State.actionOpen,
        show (s.passTaken rest (strObj i) 0).seng = s.seng from same_of_blank (p := .seng) hblank rfl]
      exact hf
    · rw [State.pcActive_of hbanks]; exact hp
    · rw [hbanks]; exact hl
  case unlock =>
    have hexec := exec_hallPassTaken_string hr hq hc (by rw [hk]; decide) ht (by rw [hb]; exact nofun)
    dsimp only at hexec
    rw [if_pos hk] at hexec
    have hblank := s.passTaken_blank rest (strObj i) 0
    have hstrs : (s.passTaken rest (strObj i) 0).strs = s.strs := same_of_blank (p := .strs) hblank rfl
    have hclear := State.unlockStr_cleared (s := s.passTaken rest (strObj i) 0) (i := i) (by
      rw [hstrs, State.causesPresent_of hstrs (same_of_blank (p := .banks) hblank rfl) (same_of_blank (p := .gates) hblank rfl)
        (same_of_blank (p := .bstr) hblank rfl) (same_of_blank (p := .io) hblank rfl) (hstore _ _) (by rw [State.passTaken_belay])
        (by rw [State.passTaken_belay])]
      exact hcauses)
    refine ⟨_, hexec, ?_, ?_⟩
    · rw [State.finishAction_belay, State.irqRaise_belay, State.unlockStr_belay, State.passTaken_belay]
    · simpa only [State.finishAction_strs, State.irqRaise_strs, State.finishAction_gates, State.irqRaise_gates] using hclear
  case energise =>
    have hblank := s.passTaken_blank rest blockObj (p.target - 0x40)
    refine ⟨_, exec_hallPassTaken_output hr hq hc hk ht, by rw [State.takeQPass_belay, State.passTaken_belay], fun hf => ?_⟩
    have h := State.takeQPass_unacted (s := s.passTaken rest blockObj (p.target - 0x40)) (q := q) (p := p) ?_
    · rwa [now_of_blank hblank] at h
    · rw [State.fwActs_of (same_of_blank (p := .start) hblank rfl) (now_of_blank hblank) (same_of_blank (p := .cores) hblank rfl), State.actionOpen,
        show (s.passTaken rest blockObj (p.target - 0x40)).seng = s.seng from same_of_blank (p := .seng) hblank rfl]
      exact hf
  case expiry =>
    have hi : ∀ hlt : k.val < 40, (⟨k.val, hlt⟩ : Fin 40) = i := fun _ => Fin.ext hk
    have hexec : exec (.hallPassExpiry k) s = .next (s.expireClose i) :=
      congrArg Host.Outcome.next ((dif_pos (by omega)).trans (by rw [hi]))
    exact ⟨_, hexec, State.expireClose_expires hp hd⟩
  case qExpiry =>
    have hi : ∀ hlt : k.val - 40 < 16, (⟨k.val - 40, hlt⟩ : Fin 16) = q := fun _ => Fin.ext (by simp only; omega)
    have hexec : exec (.hallPassExpiry k) s = .next (s.expireQ q) :=
      congrArg Host.Outcome.next ((dif_neg (by omega)).trans (by rw [hi]))
    exact ⟨_, hexec, State.expireQ_expires hp hd⟩
  case grant =>
    have hsame : (s.modStr i fun c => { c with requested := false, waiting := (s.closePass i).isSome }) = s := by
      have hpass : (s.closePass i).isSome = true := by
        unfold State.grantable at hg
        dsimp only at hg
        split at hg
        · cases hg
        next h => rw [h]; rfl
      have hstrs : upd s.strs i (fun c => { c with requested := false, waiting := (s.closePass i).isSome }) = s.strs :=
        upd_eq_self (by rw [hpass, ← hw, ← hreq])
      simp only [State.modStr, hstrs]
    have hexec := execCloseGrant_eq (i := i) (.inr hw)
    rw [hsame, ← hb, State.grantLowest_grants hrep hfind] at hexec
    obtain ⟨hcmd, hstr, hhold, -⟩ := State.grant_granted hb.symm
    exact ⟨_, hexec, hcmd, by rw [hstr], hhold⟩
  case closed =>
    obtain ⟨t, hexec, hstrs, hgates, -⟩ := exec_stringClosed_reads h1 h2 h3
    refine ⟨t, hexec, ?_, hgates⟩
    simp only [hstrs, upd_get, if_true]
  case holdoff =>
    obtain ⟨-, -, -, hhold, -⟩ := closeAndPrecharge s 0 b
    obtain ⟨t, hexec, -, hnone⟩ := hhold hd
    exact ⟨t, hexec, by rw [(hnone hw).1]⟩
  case start =>
    obtain ⟨t, hexec, hstate, hmod, -⟩ := exec_prechargeStart_starts h1 h2 h3 h4 h5 h6 h7
    exact ⟨t, hexec, hstate, hmod⟩
  case target =>
    obtain ⟨-, -, -, -, -, htarget, -⟩ := closeAndPrecharge s 0 b
    obtain ⟨t, hexec, -, hstop, -⟩ := htarget link h1 h2
    exact ⟨t, hexec, by rw [(hstop h3 h4).1]⟩
  case timeout =>
    obtain ⟨-, -, -, -, -, -, htimeout⟩ := closeAndPrecharge s i b
    obtain ⟨t, hexec, hsource, hmod, -⟩ := htimeout h h1 h2 h3 h4 h5
    exact ⟨t, hexec, hsource, hmod⟩

end Sys2Proof.Machine

/-!
Opening, clearing, exclusion, bank faults and the block-state requests (O13, O45).
-/

namespace Sys2Proof.Machine

-- One thread per theorem would be more than the compiler's memory limit allows.
set_option Elab.async false

/-! ## A string opens -/

theorem StrState.Settles.eq_of_ne {a b : StrState} (h : a.Settles b) (ha : a ≠ .matching) : b = a := h.resolve_right fun k => ha k.1

/-- The source of a pre-charge that ends does not stay MATCHING. -/
theorem State.openSource_leaves (s : State) (i : Fin 40) (cause : Nat) : (s.openSource (some i) cause).strs[i].state ≠ .matching := by
  unfold State.openSource
  dsimp only
  split
  · simp only [State.setStr_strs, upd_get, if_true]
    exact StrState.noConfusion
  next h => exact h

theorem State.endPrecharge_source {s : State} {b : Fin 4} {i : Fin 40} (h : s.banks[b].source = some i) (code cause : Nat) :
    (s.endPrecharge b code cause).strs[i].state ≠ .matching := by
  have hleft := (s.modBank b fun c => { c with modulator := false, source := none }).openSource_leaves i cause
  rw [State.endPrecharge_eq, h]
  dsimp only
  split
  · simp only [State.discharge_strs, State.irqRaise_strs, State.event_strs]
    exact hleft
  · simp only [State.dnOn_strs, State.hbOff_strs, State.irqRaise_strs, State.event_strs]
    exact hleft

/-- `OPEN` of a string that is CLOSED or MATCHING (09 R260, Table 9-9). -/
theorem State.applyOpen_opens {s : State} {i : Fin 40} (h : s.strs[i].state = .closed ∨ s.strs[i].state = .matching) : ∃ v, s.applyOpen i = .ok v ∧
    (s.strs[i].state = .closed → v.strs[i].state = .isolated ∧ v.gates[chS i].cmd = false) ∧
    (v.strs[i].state = .isolated ∨ v.strs[i].state = .ready) := by
  unfold State.applyOpen
  dsimp only
  rcases h with h | h
  · have hstate : (((s.openS i).setStr i .isolated).settleBank (s.bankOf i)).strs[i].state = .isolated := by
      have hset : ((s.openS i).setStr i .isolated).strs[i].state = .isolated := by simp only [State.setStr_strs, upd_get, if_true]
      have hsettle := State.settleBank_settles ((s.openS i).setStr i .isolated) (s.bankOf i) i
      rw [hset] at hsettle
      exact hsettle.eq_of_ne (by decide)
    refine ⟨_, if_pos h, fun _ => ⟨hstate, ?_⟩, .inl hstate⟩
    refine (State.settleBank_opens _ _).switch_off ?_
    rw [State.setStr_gates]
    exact s.openS_off i
  · have hne : s.strs[i].state ≠ .closed := by rw [h]; decide
    rw [if_neg hne, if_pos h]
    by_cases hp : (s.pcActive (s.bankOf i) && decide (s.banks[s.bankOf i].source = some i)) = true
    · rw [if_pos hp]
      have hsource := of_decide_eq_true (Bool.and_eq_true_iff.mp hp).2
      refine ⟨_, rfl, fun hc => absurd hc hne, .inl ?_⟩
      rcases s.endPrecharge_settles (s.bankOf i) 0x4025 4 i with hs | hs
      · exact absurd (hs.trans h) (State.endPrecharge_source hsource _ _)
      · exact hs.2
    · rw [if_neg hp]
      refine ⟨_, rfl, fun hc => absurd hc hne, .inr ?_⟩
      simp only [State.setStr_strs, upd_get, if_true]

/-! ## A bank opens -/

theorem StrState.connected_iff {st : StrState} : st.connected = true ↔ st = .closed ∨ st = .matching := by
  cases st <;> decide

/-- What the opening of a bank changes. -/
def pathParts : Part → Bool := only [.banks, .evlog, .gates, .io, .irq, .mode, .strs]

/-- The strings of a bank opened, before the bank follows (09 R260). -/
def State.openStrings (s : State) (b : Fin 4) (why : Nat) : State :=
  let t := s.forEach (s.stringsOf b) State.sOff
  let t := t.forEach (s.stringsOf b) State.discardClose
  let t := if t.pcActive b then t.endPrecharge b 0x4025 why else t
  t.forEach (s.stringsOf b) fun t i => if t.strs[i].state = .closed ∨ t.strs[i].state = .matching then t.setStr i .isolated else t

theorem State.openStrings_blank (s : State) (b : Fin 4) (why : Nat) : (s.openStrings b why).blank pathParts = s.blank pathParts := by
  unfold State.openStrings
  dsimp only
  have hisolate (t : State) (i : Fin 40) : (if t.strs[i].state = .closed ∨ t.strs[i].state = .matching then t.setStr i .isolated else t).blank
      pathParts = t.blank pathParts := by
    split
    · exact State.setStr_in rfl rfl rfl _ _ _ _
    · rfl
  rw [forEach_in (m := pathParts) hisolate]
  split
  · rw [State.endPrecharge_in (m := pathParts) rfl rfl rfl rfl rfl rfl rfl, forEach_in (m := pathParts) (fun t i => State.discardClose_in rfl rfl rfl t i),
      forEach_in (m := pathParts) (fun t i => State.sOff_in rfl t i)]
  · rw [forEach_in (m := pathParts) (fun t i => State.discardClose_in rfl rfl rfl t i), forEach_in (m := pathParts) (fun t i => State.sOff_in rfl t i)]

theorem State.openStrings_after (s : State) (b : Fin 4) (why : Nat) :
    State.Opens (s.forEach (s.stringsOf b) State.sOff) (s.openStrings b why) := by
  unfold State.openStrings
  dsimp only
  generalize s.forEach (s.stringsOf b) State.sOff = t
  have hdiscard : t.Opens (t.forEach (s.stringsOf b) State.discardClose) := .forEach State.discardClose_opens
  generalize t.forEach (s.stringsOf b) State.discardClose = u at hdiscard ⊢
  have hend : t.Opens (if u.pcActive b then u.endPrecharge b 0x4025 why else u) := by
    split
    · exact hdiscard.trans (u.endPrecharge_opens b _ _)
    · exact hdiscard
  refine hend.trans (.forEach fun t i => ?_)
  split
  · exact t.setStr_opens i 0 rfl
  · exact .refl t

/-- Every string of an opened bank is off its bar, its switch commanded off. -/
theorem State.openStrings_opened (s : State) (b : Fin 4) (why : Nat) {j : Fin 40} (hj : j ∈ s.stringsOf b) :
    (s.openStrings b why).gates[chS j].cmd = false ∧ (s.openStrings b why).strs[j].state.connected = false := by
  constructor
  · refine (s.openStrings_after b why).switch_off ?_
    refine forEach_mem (P := fun j t => t.gates[chS j].cmd = false) (fun t i => ?_) (fun t i k h => (t.sOff_opens i).switch_off h) s _ hj
    simp only [State.sOff, State.modGate_gates, upd_get, if_true]
  · unfold State.openStrings
    refine forEach_mem (P := fun j t => t.strs[j].state.connected = false) (fun t i => ?_) (fun t i k h => ?_) _ _ hj
    · split
      · simp only [State.setStr_strs, upd_get, if_true]
        rfl
      next h => exact Bool.eq_false_of_not_eq_true fun hc => h (StrState.connected_iff.mp hc)
    · split
      · exact ((t.setStr_opens i 0 rfl).str k).state h
      · exact h

/-- A bank none of whose switches is commanded on is not LIVE once it has settled (Table 9-8). -/
theorem State.settleBank_not_live {s : State} {b : Fin 4} (h : ∀ j ∈ s.stringsOf b, s.gates[chS j].cmd = false) : (s.settleBank b).banks[b].state ≠ .live := by
  unfold State.settleBank
  dsimp only
  have hpre : (∀ j ∈ s.stringsOf b, (if s.pcActive b && !s.hbPermitted b && !s.anySOn b then s.endPrecharge b 0x4025 3 else s).gates[chS j].cmd = false) ∧
      (if s.pcActive b && !s.hbPermitted b && !s.anySOn b then s.endPrecharge b 0x4025 3 else s).stringsOf b = s.stringsOf b := by
    split
    · exact ⟨fun j hj => (s.endPrecharge_opens b 0x4025 3).switch_off (h j hj), State.stringsOf_of_belay (by
        rw [belay_of_blank (State.endPrecharge_in (m := pathParts) rfl rfl rfl rfl rfl rfl rfl s b 0x4025 3) rfl rfl]) b⟩
    · exact ⟨h, rfl⟩
  generalize (if s.pcActive b && !s.hbPermitted b && !s.anySOn b then s.endPrecharge b 0x4025 3 else s) = t at hpre ⊢
  obtain ⟨hoff, hstrings⟩ := hpre
  have hnone : t.anySOn b = false := by
    unfold State.anySOn
    rw [hstrings]
    exact List.any_eq_false.mpr fun j hj => by rw [hoff j hj]; decide
  rw [hnone]
  by_cases hlive : t.banks[b].state = .live
  · rw [hlive, if_pos (by decide)]
    simp only [State.discharge, State.setBank_banks, upd_get, if_true]
    exact BankState.noConfusion
  · rw [if_neg (by simp only [Bool.not_false, Bool.and_true, decide_eq_true_eq]; exact hlive)]
    exact hlive

theorem State.openBank_eq (s : State) (b : Fin 4) (why : Nat) : s.openBank b why = (s.openStrings b why).settleBank b := rfl

theorem State.openBank_opened (s : State) (b : Fin 4) (why : Nat) :
    (∀ j ∈ s.stringsOf b, (s.openBank b why).gates[chS j].cmd = false ∧ (s.openBank b why).strs[j].state.connected = false) ∧
    (s.openBank b why).banks[b].state ≠ .live := by
  rw [State.openBank_eq]
  have hsettle := (s.openStrings b why).settleBank_opens b
  refine ⟨fun j hj => ?_, State.settleBank_not_live fun j hj => ?_⟩
  · obtain ⟨hoff, hstate⟩ := s.openStrings_opened b why hj
    exact ⟨hsettle.switch_off hoff, (hsettle.str j).state hstate⟩
  · rw [State.stringsOf_of_belay (s := s) (by rw [belay_of_blank (s.openStrings_blank b why) rfl rfl])] at hj
    exact (s.openStrings_opened b why hj).1

/-! ## Clearing and exclusion -/

/-- `TRIP_CLEAR` with every cause gone (09 R245). -/
theorem State.applyTripClear_clears {s : State} {i : Fin 40} (ht : s.strs[i].trip = true) (hc : s.causesPresent i s.strs[i].tripSet = []) :
    ∃ v, s.applyTripClear i = .ok v ∧ v.strs[i].trip = false ∧ v.strs[i].tripCause = 0 ∧ v.gates[chS i].record = none ∧
      v.strs[i].lockout = s.strs[i].lockout ∧ (s.strs[i].state = .tripped → v.strs[i].state = .isolated) ∧ ∀ j, j ≠ i → v.strs[j] = s.strs[j] := by
  have hstrs : ((s.clearTrip i).event 0x4004 (strObj i) 0).strs = upd s.strs i fun c => { c with trip := false, tripCause := 0, tripSet := 0 } := by
    simp only [State.clearTrip, State.event_strs, State.modGate_strs, State.modStr_strs]
  have hgates : ((s.clearTrip i).event 0x4004 (strObj i) 0).gates[chS i].record = none := by
    simp only [State.clearTrip, State.event_gates, State.modGate_gates, upd_get, if_true]
  have hok : s.applyTripClear i = .ok (if ((s.clearTrip i).event 0x4004 (strObj i) 0).strs[i].state = .tripped
      then ((s.clearTrip i).event 0x4004 (strObj i) 0).setStr i .isolated else (s.clearTrip i).event 0x4004 (strObj i) 0) := by
    unfold State.applyTripClear
    rw [ht, hc]
    rfl
  refine ⟨_, hok, ?_⟩
  generalize (s.clearTrip i).event 0x4004 (strObj i) 0 = u at hstrs hgates ⊢
  split
  · simp only [State.setStr_strs, State.setStr_gates, hstrs, upd_upd, upd_get, if_true]
    exact ⟨trivial, trivial, hgates, trivial, fun _ => trivial, fun j hj => if_neg (Ne.symm hj)⟩
  next h =>
    simp only [hstrs, upd_get, if_true] at h ⊢
    exact ⟨trivial, trivial, hgates, trivial, fun hs => absurd hs h, fun j hj => if_neg (Ne.symm hj)⟩

theorem State.settleBank_dict (s : State) (b : Fin 4) : (s.settleBank b).dict = s.dict :=
  dict_of_blank (State.settleBank_in (m := pathParts) rfl rfl rfl rfl rfl rfl rfl s b) rfl rfl

theorem StrCtl.Opens.exclusion {c d : StrCtl} (h : c.Opens d) : d.exclusion = c.exclusion := by
  obtain ⟨_, _, _, _, _, _, _, _, _, _, _, hd⟩ := h.kept
  rw [hd]

/-- What `EXCLUDE` written 0x01 leaves (09 R247). -/
theorem State.setExclusion_excluded (s : State) (i : Fin 40) : (s.setExclusion i).strs[i].exclusion = true ∧
    (s.setExclusion i).strs[i].state = .excluded ∧ (s.setExclusion i).val (strObj i) 0x0009 = 1 := by
  unfold State.setExclusion
  dsimp only
  generalize hu : (((s.modStr i fun c => { c with exclusion := true, waiting := false, requested := false }).setVal (strObj i) 0x0009 0 1).setStr i
    .excluded) = u
  have hstr : u.strs[i].exclusion = true ∧ u.strs[i].state = .excluded := by
    subst hu
    simp only [State.setStr_strs, State.setVal_strs, State.modStr_strs, upd_get, if_true, and_self]
  refine ⟨((u.settleBank_opens _).str i).exclusion.trans hstr.1, ?_, ?_⟩
  · have hsettle := u.settleBank_settles (s.bankOf i) i
    rw [hstr.2] at hsettle
    exact hsettle.eq_of_ne (by decide)
  · have hvals : (u.settleBank (s.bankOf i)).dict.vals =
        ((s.modStr i fun c => { c with exclusion := true, waiting := false, requested := false }).setVal (strObj i) 0x0009 0 1).dict.vals := by
      rw [State.settleBank_dict, ← hu, State.setStr_dict]
    exact (State.val_of_values hvals ..).trans (State.val_setVal_same ..)

/-- A roll call stays begun. -/
theorem State.startRollCall_begins (s : State) (i : Fin 40) : (s.startRollCall i).ropes[i].rollCall = 1 := by
  have hend : ∀ (t : State) (e : PortEnd) (f : Port → Port), t.ropes[i].rollCall = 1 → (t.modEnd i e f).ropes[i].rollCall = 1 := by
    intro t e f ht
    simp only [State.modEnd, State.modRope_ropes, upd_get, if_true]
    cases e <;> exact ht
  have hsend : ∀ (t : State) (e : PortEnd) (far : Bool) (code addr : Nat) (payload : List Byte), t.ropes[i].rollCall = 1 →
      (t.sendFrame i e far code addr payload).ropes[i].rollCall = 1 := fun t e far code addr payload ht => hend _ e _ (hend _ e _ ht)
  unfold State.startRollCall
  dsimp only
  have hports : ∀ l : List PortEnd, ∀ t : State, t.ropes[i].rollCall = 1 →
      (t.forEach l fun t e => (t.modEnd i e fun q => q.beginRoll s.now).sendFrame i e false 0x7F 0x3F []).ropes[i].rollCall = 1 :=
    fun l t ht => forEach_keeps (P := fun t => t.ropes[i].rollCall = 1) (fun t e h => hsend _ e _ _ _ _ (hend t e _ h)) t l ht
  split
  · refine hsend _ _ _ _ _ _ (hports _ _ ?_)
    simp only [State.modRope_ropes, upd_get, if_true]
  · refine hports _ _ ?_
    simp only [State.modRope_ropes, upd_get, if_true]

theorem State.startRollCall_strs (s : State) (i : Fin 40) : (s.startRollCall i).strs = s.strs :=
  same_of_blank (p := .strs) (State.startRollCall_in (m := only [.ropes]) rfl s i) rfl

/-- `FAULT_CLEAR` with no condition present (09 R255). -/
theorem State.applyFaultClear_clears {s : State} {b : Fin 4} (hf : s.banks[b].state = .faulted) (hn : s.faultClearRefusal b = none) :
    s.applyFaultClear b = .ok (((s.modBank b fun c => { c with faultCause := 0 }).event 0x4029 (bankObj b) 0 (u8 0)).setBank b .dark) := by
  unfold State.applyFaultClear
  rw [hn, if_neg (not_not_intro hf)]

/-- A bank that faults (09 R255). -/
theorem State.faultBank_faulted (s : State) (b : Fin 4) (cause : Nat) : (s.faultBank b cause).banks[b].state = .faulted ∧
    (s.faultBank b cause).banks[b].faultCause = cause ∧ (s.faultBank b cause).banks[b].modulator = false := by
  rw [State.faultBank_eq]
  simp only [State.event_banks, State.setBank_banks, State.dnOn_banks, State.openSource_banks, State.modBank_banks, upd_get, if_true, and_self]

theorem State.faultClearRefusal_taken (s : State) (src : Src) (i u : Nat) (b : Fin 4) : (s.taken src i u).faultClearRefusal b = s.faultClearRefusal b := by
  simp only [State.faultClearRefusal, State.val_taken, State.taken_banks, State.taken_gates]

theorem State.causesPresent_taken (s : State) (src : Src) (x u : Nat) (i : Fin 40) (set_ : Nat) :
    (s.taken src x u).causesPresent i set_ = s.causesPresent i set_ :=
  State.causesPresent_of (s.taken_strs ..) (s.taken_banks ..) (s.taken_gates ..) (s.taken_bstr ..) (s.taken_io ..) (by rw [State.taken_belay])
    (by rw [State.taken_belay]) (by rw [State.taken_belay]) i set_

/-- Settles O13. -/
theorem openAndClear : Obligations.OpenAndClear := by
  unfold Obligations.OpenAndClear
  intro s src i b
  refine ⟨fun ha hs => ?open_, fun ha => ?bank, fun ha ht hc => ?trip, fun ha hi hs => ?exclude, fun ha hi hm hs => ?include_, fun ha hf hn => ?fault,
    fun hs hd => ?discharge⟩
  case open_ =>
    obtain ⟨v, hv, hclosed, hstate⟩ := State.applyOpen_opens (s := s.taken src (strObj i) 0x0004) (i := i) (by rw [State.taken_strs]; exact hs)
    obtain ⟨t, hexec, hsent, hblank⟩ := exec_plain (c := .openString src i 1) rfl ha fun _ _ => hv
    have hstrs : t.strs = v.strs := same_of_blank (p := .strs) hblank rfl
    have hgates : t.gates = v.gates := same_of_blank (p := .gates) hblank rfl
    rw [State.taken_strs] at hclosed
    rw [← hstrs, ← hgates] at hclosed
    rw [← hstrs] at hstate
    exact ⟨t, hexec, hclosed, hstate, hsent⟩
  case bank =>
    obtain ⟨t, hexec, hsent, hblank⟩ := exec_plain (c := .bankOpen src b 1) rfl ha fun _ _ => rfl
    have hstrs := same_of_blank (p := .strs) hblank rfl
    have hgates := same_of_blank (p := .gates) hblank rfl
    have hbanks := same_of_blank (p := .banks) hblank rfl
    obtain ⟨hstrings, hlive⟩ := (s.taken src (bankObj b) 0x0004).openBank_opened b 5
    simp only [same] at hstrs hgates hbanks
    refine ⟨t, hexec, fun j hj => ?_, by rw [hbanks]; exact hlive, hsent⟩
    obtain ⟨hoff, hstate⟩ := hstrings j (by rwa [State.stringsOf_of_belay (s := s) (by rw [State.taken_belay])])
    rw [hgates, hstrs]
    refine ⟨hoff, fun h => ?_, fun h => ?_⟩ <;> rw [h] at hstate <;> cases hstate
  case trip =>
    obtain ⟨v, hv, htrip, hcause, hrecord, hlock, hstate, hother⟩ := State.applyTripClear_clears (s := s.taken src (strObj i) 0x0005) (i := i)
      (by rw [State.taken_strs]; exact ht) (by rw [State.causesPresent_taken, State.taken_strs]; exact hc)
    obtain ⟨t, hexec, -, hblank⟩ := exec_plain (c := .tripClear src i 1) rfl ha fun _ _ => hv
    have hstrs : t.strs = v.strs := same_of_blank (p := .strs) hblank rfl
    have hgates : t.gates = v.gates := same_of_blank (p := .gates) hblank rfl
    rw [State.taken_strs] at hlock hstate hother
    rw [← hstrs] at htrip hcause hlock hstate hother
    rw [← hgates] at hrecord
    exact ⟨t, hexec, htrip, hcause, hrecord, hlock, hstate, hother⟩
  case exclude =>
    obtain ⟨t, hexec, -, hblank⟩ := exec_plain (c := .excludeSet src i) (v := (s.taken src (strObj i) 0x0009).setExclusion i) rfl ha fun _ _ => by
      unfold State.applyExclude
      dsimp only
      rw [State.taken_strs, hi, if_neg (by decide), if_pos rfl, if_pos hs]
    obtain ⟨hexcl, hstate, hval⟩ := (s.taken src (strObj i) 0x0009).setExclusion_excluded i
    have hstrs := same_of_blank (p := .strs) hblank rfl
    have hvals := same_of_blank (p := .values) hblank rfl
    simp only [same] at hstrs hvals
    rw [← hstrs] at hexcl hstate
    exact ⟨t, hexec, hexcl, hstate, (State.val_of_values hvals ..).trans hval⟩
  case include_ =>
    obtain ⟨t, hexec, -, hblank⟩ := exec_plain (c := .excludeClear src i)
      (v := ((s.taken src (strObj i) 0x0009).modStr i fun c => { c with excludeCall := true }).startRollCall i) rfl ha fun _ _ => by
      unfold State.applyExclude
      dsimp only
      rw [State.taken_strs, State.taken_mode, hi, hm, hs]
      rfl
    have hstrs := same_of_blank (p := .strs) hblank rfl
    have hropes := same_of_blank (p := .ropes) hblank rfl
    simp only [same] at hstrs hropes
    refine ⟨t, hexec, ?_, ?_⟩
    · simp only [hstrs, State.startRollCall_strs, State.modStr_strs, upd_get, if_true, State.taken_strs]
    · rw [hropes]
      exact State.startRollCall_begins _ i
  case fault =>
    obtain ⟨t, hexec, -, hblank⟩ := exec_plain (c := .faultClear src b 1) rfl ha fun _ _ =>
      State.applyFaultClear_clears (by rw [State.taken_banks]; exact hf) (by rw [State.faultClearRefusal_taken]; exact hn)
    have hbanks := same_of_blank (p := .banks) hblank rfl
    simp only [same, State.setBank_banks, State.event_banks, State.modBank_banks, State.taken_banks, upd_upd] at hbanks
    refine ⟨t, hexec, ?_, ?_, fun c hc => ?_⟩
    · simp only [hbanks, upd_get, if_true]
    · simp only [hbanks, upd_get, if_true]
    · simp only [hbanks, upd_get, if_neg (Ne.symm hc)]
  case discharge =>
    have hexec : exec (.dischargeTimeout b) s = .next (((s.modBank b fun c => { c with seen := c.seen ||| 1 }).event 0x4027 (bankObj b) 0).faultBank b 0x04) :=
      congrArg Host.Outcome.next (if_pos (by rw [hs, decide_eq_true hd]; rfl))
    exact ⟨_, hexec, State.faultBank_faulted _ b 4⟩

/-! ## The block state while banks open -/

/-- Outside `ARMED` and `RUN` the block does not follow its banks (20 Table 20-2). -/
def State.KeepsMode (s t : State) : Prop := s.mode.block ≠ .armed → s.mode.block ≠ .run → t.mode = s.mode

theorem State.KeepsMode.refl (s : State) : s.KeepsMode s := fun _ _ => rfl
theorem State.KeepsMode.trans {s t u : State} (h : s.KeepsMode t) (k : t.KeepsMode u) : s.KeepsMode u := fun ha hr => by
  have ht := h ha hr
  exact (k (by rw [ht]; exact ha) (by rw [ht]; exact hr)).trans ht
theorem State.KeepsMode.of_blank {m : Part → Bool} {s t : State} (h : State.blank m t = State.blank m s) (hm : m .mode = false) : s.KeepsMode t :=
  fun _ _ => same_of_blank (p := .mode) h hm
theorem State.KeepsMode.forEach {α : Type} {s : State} {l : List α} {f : State → α → State} (h : ∀ (t : State) a, t.KeepsMode (f t a)) :
    s.KeepsMode (s.forEach l f) :=
  forEach_keeps (P := fun t => s.KeepsMode t) (fun t a ht => ht.trans (h t a)) s l (.refl s)

theorem State.followBanks_keepsMode (s : State) : s.KeepsMode s.followBanks := fun ha hr => by
  unfold State.followBanks
  dsimp only
  rw [if_neg (fun h => ha h.1), if_neg (fun h => hr h.1)]

theorem State.setBank_keepsMode (s : State) (b : Fin 4) (st : BankState) : s.KeepsMode (s.setBank b st) := by
  unfold State.setBank
  dsimp only
  split
  · exact .refl s
  · have hevent : s.KeepsMode ((s.modBank b fun c => { c with state := st }).event 0x4020 (bankObj b) 0 (u8 s.banks[b].state.code ++ u8 st.code)) :=
      .of_blank (m := only [.banks, .evlog, .irq]) (by rw [State.event_in rfl rfl _ _ _ _ _, State.modBank_in rfl]) rfl
    refine State.KeepsMode.trans ?_ (State.followBanks_keepsMode _)
    split
    · exact hevent.trans (.of_blank (m := only [.io, .evlog, .irq]) (by rw [State.serveQ_in rfl rfl rfl, State.dropQ_in rfl rfl rfl]) rfl)
    · exact hevent

theorem State.discharge_keepsMode (s : State) (b : Fin 4) : s.KeepsMode (s.discharge b) := by
  refine State.KeepsMode.trans (.of_blank (m := only [.banks, .gates, .irq]) ?_ rfl) (State.setBank_keepsMode _ b _)
  rw [State.dnOn_in rfl rfl, State.modBank_in rfl, State.hbOff_in rfl]

theorem State.openSource_in {m : Part → Bool} (h1 : m .evlog = true) (h2 : m .irq = true) (h3 : m .strs = true) (h4 : m .gates = true) (s : State)
    (src : Option (Fin 40)) (cause : Nat) : (s.openSource src cause).blank m = s.blank m := by
  unfold State.openSource
  split
  · dsimp only
    split
    · rw [State.setStr_in h1 h2 h3 _ _ _ _, State.openS_in h1 h2 h3 h4]
    · rw [State.openS_in h1 h2 h3 h4]
  · rfl

theorem State.endPrecharge_keepsMode (s : State) (b : Fin 4) (code cause : Nat) : s.KeepsMode (s.endPrecharge b code cause) := by
  rw [State.endPrecharge_eq]
  dsimp only
  generalize hu : ((((s.modBank b fun c => { c with modulator := false, source := none }).openSource s.banks[b].source cause).event code (bankObj b) 0
      (u8 cause)).irqRaise (28 + b.val)) = u
  have hkeep : s.KeepsMode u := by
    refine .of_blank (m := only [.banks, .evlog, .irq, .strs, .gates]) ?_ rfl
    rw [← hu, State.irqRaise_in rfl, State.event_in rfl rfl _ _ _ _ _, State.openSource_in rfl rfl rfl rfl, State.modBank_in rfl]
  split
  · exact hkeep.trans (u.discharge_keepsMode b)
  · exact hkeep.trans (.of_blank (m := only [.gates, .irq]) (by rw [State.dnOn_in rfl rfl, State.hbOff_in rfl]) rfl)

theorem State.settleBank_keepsMode (s : State) (b : Fin 4) : s.KeepsMode (s.settleBank b) := by
  unfold State.settleBank
  dsimp only
  have hpre : s.KeepsMode (if s.pcActive b && !s.hbPermitted b && !s.anySOn b then s.endPrecharge b 0x4025 3 else s) := by
    split
    · exact s.endPrecharge_keepsMode b _ _
    · exact .refl s
  generalize (if s.pcActive b && !s.hbPermitted b && !s.anySOn b then s.endPrecharge b 0x4025 3 else s) = t at hpre ⊢
  split
  · exact hpre.trans (t.discharge_keepsMode b)
  · exact hpre

theorem State.openBank_keepsMode (s : State) (b : Fin 4) (why : Nat) : s.KeepsMode (s.openBank b why) := by
  rw [State.openBank_eq]
  refine State.KeepsMode.trans ?_ (State.settleBank_keepsMode _ b)
  unfold State.openStrings
  dsimp only
  have hoff : s.KeepsMode ((s.forEach (s.stringsOf b) State.sOff).forEach (s.stringsOf b) State.discardClose) :=
    .of_blank (m := only [.gates, .evlog, .irq, .strs])
      (by rw [forEach_in fun t i => State.discardClose_in rfl rfl rfl t i, forEach_in fun t i => State.sOff_in rfl t i]) rfl
  generalize (s.forEach (s.stringsOf b) State.sOff).forEach (s.stringsOf b) State.discardClose = u at hoff ⊢
  have hend : s.KeepsMode (if u.pcActive b then u.endPrecharge b 0x4025 why else u) := by
    split
    · exact hoff.trans (u.endPrecharge_keepsMode b _ _)
    · exact hoff
  refine hend.trans (.forEach fun t i => ?_)
  split
  · exact .of_blank (m := only [.evlog, .irq, .strs]) (State.setStr_in rfl rfl rfl t i _ _) rfl
  · exact .refl t

theorem State.openBank_opens (s : State) (b : Fin 4) (why : Nat) : s.Opens (s.openBank b why) :=
  ((State.Opens.forEach State.sOff_opens).trans (s.openStrings_after b why)).trans (State.settleBank_opens _ b)

theorem State.setBlock_block (s : State) (b : BlockState) (cause : Nat) : (s.setBlock b cause).mode.block = b := by
  unfold State.setBlock
  split
  next h => exact h
  · simp only [State.event_mode, State.irqRaise_mode]

/-- `STANDBY` from `ARMED` or `RUN` (20 R501). -/
theorem State.disarm_disarmed (s : State) : s.disarm.mode.block = .standby ∧ ∀ i : Fin 40, s.disarm.gates[chS i].cmd = false := by
  unfold State.disarm
  dsimp only
  have hoff : ∀ i : Fin 40, ((s.forEach allStr State.sOff).setBlock .standby 2).gates[chS i].cmd = false := fun i => by
    rw [State.setBlock_gates]
    refine forEach_mem (P := fun j t => t.gates[chS j].cmd = false) (fun t i => ?_) (fun t i k h => (t.sOff_opens i).switch_off h) s _
      (List.mem_finRange i)
    simp only [State.sOff, State.modGate_gates, upd_get, if_true]
  have hblock := (s.forEach allStr State.sOff).setBlock_block .standby 2
  generalize (s.forEach allStr State.sOff).setBlock .standby 2 = u at hoff hblock ⊢
  have hmode : u.KeepsMode (u.forEach allBank fun t b => t.openBank b 5) := .forEach fun t b => t.openBank_keepsMode b 5
  refine ⟨?_, fun i => (State.Opens.forEach fun t b => t.openBank_opens b 5).switch_off (hoff i)⟩
  rw [hmode (by rw [hblock]; decide) (by rw [hblock]; decide)]
  exact hblock

/-- Settles O45: the requests of the block, and those below it by O13. -/
theorem blockStates : Obligations.BlockStates := by
  unfold Obligations.BlockStates
  intro s src
  refine ⟨fun ha hb => ?standby, fun ha hb hp => ?armed, fun ha hb hd hp => ?service, fun i ha hs => ?open_, fun b ha => ?bank, fun i ha ht hc => ?trip,
    fun i ha hi hs => ?exclude, fun i ha hi hm hs => ?include_, fun b ha hf hn => ?fault, fun b hs hd => ?discharge⟩
  case standby =>
    have hv : ∃ v, (s.taken src blockObj 2).applyBlockState 2 = .ok v ∧ v.mode.block = .standby ∧
        (s.mode.block ≠ .service → ∀ i : Fin 40, v.gates[chS i].cmd = false) := by
      obtain ⟨hblock, hoff⟩ := (s.taken src blockObj 2).disarm_disarmed
      unfold State.applyBlockState
      dsimp only
      rw [State.taken_mode]
      rcases hb with h | h | h <;> rw [h]
      · exact ⟨_, rfl, State.setBlock_block .., fun hn => absurd rfl hn⟩
      · exact ⟨_, rfl, hblock, fun _ => hoff⟩
      · exact ⟨_, rfl, hblock, fun _ => hoff⟩
    obtain ⟨v, hv, hblock, hoff⟩ := hv
    obtain ⟨t, hexec, hsent, hblank⟩ := exec_plain (c := .requestStandby src) (index := blockObj) (sub := 2) (data := u8 2)
      (apply := fun _ s => s.applyBlockState 2) rfl ha fun _ _ => hv
    have hmode : t.mode = v.mode := same_of_blank (p := .mode) hblank rfl
    have hgates : t.gates = v.gates := same_of_blank (p := .gates) hblank rfl
    rw [← hmode] at hblock
    rw [← hgates] at hoff
    exact ⟨t, hexec, hblock, hsent, hoff⟩
  case armed =>
    obtain ⟨t, hexec, hsent, hblank⟩ := exec_plain (c := .requestArmed src) (index := blockObj) (sub := 2) (data := u8 3)
      (apply := fun _ s => s.applyBlockState 3) (v := (s.taken src blockObj 2).setBlock .armed 2) rfl ha fun _ _ => by
        unfold State.applyBlockState
        dsimp only
        rw [State.taken_mode, hb, State.taken_supply, hp]
        rfl
    have hmode := same_of_blank (p := .mode) hblank rfl
    have hstrs := same_of_blank (p := .strs) hblank rfl
    have hgates := same_of_blank (p := .gates) hblank rfl
    simp only [same, State.setBlock_strs, State.setBlock_gates, State.taken_strs, State.taken_gates] at hmode hstrs hgates
    exact ⟨t, hexec, by rw [hmode, State.setBlock_block], hstrs, hgates, hsent⟩
  case service =>
    have hdark : (allBank.any fun n => s.banks[n].state ≠ .dark) = false := List.any_eq_false.mpr fun n _ => by rw [hd n]; decide
    obtain ⟨t, hexec, hsent, hblank⟩ := exec_plain (c := .requestService src) (index := blockObj) (sub := 2) (data := u8 5)
      (apply := fun _ s => s.applyBlockState 5) (v := (s.taken src blockObj 2).setBlock .service 2) rfl ha fun _ _ => by
        have hpath : (s.taken src blockObj 2).powerPathOn = false := by
          rw [← hp]
          simp only [State.powerPathOn, State.qPowerPath, State.qCfg, State.bval, State.committed, State.taken_belay, State.taken_io]
        unfold State.applyBlockState
        dsimp only
        rw [State.taken_mode, hb, State.taken_banks, hdark, hpath]
        rfl
    have hmode := same_of_blank (p := .mode) hblank rfl
    have hstrs := same_of_blank (p := .strs) hblank rfl
    have hgates := same_of_blank (p := .gates) hblank rfl
    simp only [same, State.setBlock_strs, State.setBlock_gates, State.taken_strs, State.taken_gates] at hmode hstrs hgates
    exact ⟨t, hexec, by rw [hmode, State.setBlock_block], hstrs, hgates, hsent⟩
  case open_ =>
    obtain ⟨t, hexec, hclosed, -⟩ := (openAndClear s src i 0).1 ha (.inl hs)
    exact ⟨t, hexec, (hclosed hs).1⟩
  case bank =>
    obtain ⟨t, hexec, -, hlive, -⟩ := (openAndClear s src 0 b).2.1 ha
    exact ⟨t, hexec, hlive⟩
  case trip =>
    obtain ⟨t, hexec, htrip, -⟩ := (openAndClear s src i 0).2.2.1 ha ht hc
    exact ⟨t, hexec, htrip⟩
  case exclude =>
    obtain ⟨t, hexec, -, hstate, -⟩ := (openAndClear s src i 0).2.2.2.1 ha hi (.inl hs)
    exact ⟨t, hexec, hstate⟩
  case include_ =>
    obtain ⟨t, hexec, hstr, -⟩ := (openAndClear s src i 0).2.2.2.2.1 ha hi hm hs
    exact ⟨t, hexec, by rw [hstr]⟩
  case fault =>
    obtain ⟨t, hexec, hstate, -⟩ := (openAndClear s src 0 b).2.2.2.2.2.1 ha hf hn
    exact ⟨t, hexec, hstate⟩
  case discharge =>
    obtain ⟨t, hexec, hstate, -⟩ := (openAndClear s src 0 b).2.2.2.2.2.2 hs hd
    exact ⟨t, hexec, hstate⟩

end Sys2Proof.Machine

/-!
Safety inputs and their test-pulse supplies (O14).
-/

namespace Sys2Proof.Machine

-- One thread per theorem would be more than the compiler's memory limit allows.
set_option Elab.async false

/-! ## One round of a run over distinct indices -/

/-- What no round changes, the run leaves. -/
theorem forEach_same {α β : Type} {get : State → β} {P : State → Prop} {f : State → α → State} (keep : ∀ t a, P t → P (f t a)) {l : List α}
    (same : ∀ t, ∀ a ∈ l, P t → get (f t a) = get t) {s : State} (hs : P s) : get (s.forEach l f) = get s := by
  induction l generalizing s with
  | nil => rfl
  | cons a l ih =>
    exact (ih (fun t b hb => same t b (List.mem_cons_of_mem a hb)) (keep s a hs)).trans (same s a List.mem_cons_self hs)

/-- The round of `i` finds what it alone changes as the run began, and no later round changes it. -/
theorem forEach_once {α β : Type} {get : State → β} {P : State → Prop} {f : State → α → State} {i : α} (keep : ∀ t a, P t → P (f t a))
    (other : ∀ t a, a ≠ i → P t → get (f t a) = get t) {l : List α} (hl : l.Nodup) (hi : i ∈ l) {s : State} (hs : P s) :
    ∃ t, P t ∧ get t = get s ∧ get (s.forEach l f) = get (f t i) := by
  induction l generalizing s with
  | nil => cases hi
  | cons a l ih =>
    obtain ⟨ha, hl⟩ := List.nodup_cons.mp hl
    by_cases hai : a = i
    · subst hai
      refine ⟨s, hs, rfl, forEach_same keep (fun t b hb ht => other t b (fun e => ha (e ▸ hb)) ht) (keep s a hs)⟩
    · obtain ⟨t, ht, hget, hrun⟩ := ih hl (List.mem_of_ne_of_mem (Ne.symm hai) hi) (keep s a hs)
      exact ⟨t, ht, hget.trans (other s a hai hs), hrun⟩

/-- What the round of `i` sets up and the rounds of other indices keep, the run leaves. -/
theorem forEach_sets {α : Type} {P I : State → Prop} {f : State → α → State} {i : α} (inv : ∀ t a, I t → I (f t a)) (set_ : ∀ t, I t → P (f t i))
    (keep : ∀ t a, a ≠ i → I t → P t → P (f t a)) {l : List α} (hi : i ∈ l) {s : State} (hs : I s) : P (s.forEach l f) := by
  have hrun : ∀ (l : List α) (t : State), I t → i ∈ l ∨ P t → P (t.forEach l f) := by
    intro l
    induction l with
    | nil => exact fun t _ h => h.resolve_left List.not_mem_nil
    | cons a l ih =>
      intro t ht h
      refine ih _ (inv t a ht) ?_
      by_cases hai : a = i
      · subst hai
        exact .inr (set_ t ht)
      · exact h.imp (List.mem_of_ne_of_mem (Ne.symm hai)) (keep t a hai ht)
  exact hrun l s hs (.inl hi)

theorem mem_allIn (i : Fin 24) : i ∈ allIn := List.mem_finRange i
theorem nodup_allIn : allIn.Nodup := List.nodup_finRange 24

/-! ## What a change of the inputs leaves -/

/-- `t` differs from `s` in no belay record, no supply, no stream and no instant of the safety inputs. -/
structure State.InputsAside (s t : State) : Prop where
  belay : t.belay = s.belay
  now : t.now = s.now
  supplies : t.io.supplies = s.io.supplies
  tickAt : t.io.tickAt = s.io.tickAt

theorem State.InputsAside.refl (s : State) : s.InputsAside s := ⟨rfl, rfl, rfl, rfl⟩
theorem State.InputsAside.trans {s t u : State} (h : s.InputsAside t) (k : t.InputsAside u) : s.InputsAside u :=
  ⟨k.belay.trans h.belay, k.now.trans h.now, k.supplies.trans h.supplies, k.tickAt.trans h.tickAt⟩
theorem State.InputsAside.of_io {s t : State} (hb : t.belay = s.belay) (hn : t.now = s.now) (hio : s.OutputsOnly t) : s.InputsAside t := by
  obtain ⟨o, ho⟩ := hio
  exact ⟨hb, hn, by rw [ho], by rw [ho]⟩
theorem State.InputsAside.modIn (s : State) (i : Fin 24) (f : SafeInput → SafeInput) : s.InputsAside (s.modIn i f) := ⟨rfl, rfl, rfl, rfl⟩
theorem State.InputsAside.modSm (s : State) (m : Fin 8) (f : Stream → Stream) : s.InputsAside (s.modSm m f) := ⟨rfl, rfl, rfl, rfl⟩
theorem State.InputsAside.event {s t : State} (h : s.InputsAside t) (code source item : Nat) (data : List Byte) :
    s.InputsAside (t.event code source item data) := h.trans (.of_io (State.event_belay ..) (State.event_now ..) (.of_io (State.event_io ..)))
theorem State.InputsAside.irqRaise {s t : State} (h : s.InputsAside t) (n : Nat) : s.InputsAside (t.irqRaise n) :=
  h.trans (.of_io (State.irqRaise_belay ..) (State.irqRaise_now ..) (.of_io (State.irqRaise_io ..)))
theorem State.InputsAside.of_opens {s t : State} (h : s.Opens t) : s.InputsAside t := .of_io h.belay h.now h.io
theorem State.InputsAside.forEach {α : Type} {s : State} {l : List α} {f : State → α → State} (h : ∀ (t : State) a, t.InputsAside (f t a)) :
    s.InputsAside (s.forEach l f) := forEach_keeps (P := s.InputsAside) (fun t a ht => ht.trans (h t a)) s l (.refl s)

theorem State.InputsAside.inUse {s t : State} (h : s.InputsAside t) (i : Fin 24) : t.inUse i = s.inUse i := by
  simp only [State.inUse, State.inCfg, State.bval, State.committed, h.belay]
theorem State.InputsAside.inFilter {s t : State} (h : s.InputsAside t) (i : Fin 24) : t.inFilter i = s.inFilter i := by
  simp only [State.inFilter, State.inCfg, State.bval, State.committed, h.belay]
theorem State.InputsAside.inTested {s t : State} (h : s.InputsAside t) (i : Fin 24) : t.inTested i = s.inTested i := by
  simp only [State.inTested, h.inUse]
theorem State.InputsAside.supplyFault {s t : State} (h : s.InputsAside t) (k : Fin 4) : t.supplyFault k = s.supplyFault k := by
  simp only [State.supplyFault, h.supplies]

/-- The change of one input is no change of another. -/
theorem State.modIn_other (s : State) {i j : Fin 24} (h : i ≠ j) (f : SafeInput → SafeInput) : (s.modIn i f).io.inputs[j] = s.io.inputs[j] :=
  upd_get_other _ _ h
theorem State.modIn_same (s : State) (i : Fin 24) (f : SafeInput → SafeInput) : (s.modIn i f).io.inputs[i] = f s.io.inputs[i] :=
  upd_get_same _ _ _

/-! ## Readiness -/

/-- Two inputs that differ in their readiness and their seen bits only. -/
def SafeInput.Noted (c d : SafeInput) : Prop := ∃ r seen, d = { c with ready := r, seen := seen }

theorem SafeInput.Noted.refl (c : SafeInput) : c.Noted c := ⟨_, _, rfl⟩
theorem SafeInput.Noted.trans {c d e : SafeInput} (h : c.Noted d) (k : d.Noted e) : c.Noted e := by
  obtain ⟨r, n, rfl⟩ := h
  obtain ⟨r', n', rfl⟩ := k
  exact ⟨r', n', rfl⟩

/-- `t` is `s` with its readiness brought up to date. -/
structure State.NotesInputs (s t : State) : Prop extends s.InputsAside t where
  streams : t.io.streams = s.io.streams
  inputs : ∀ j : Fin 24, s.io.inputs[j].Noted t.io.inputs[j]

theorem State.NotesInputs.refl (s : State) : s.NotesInputs s := ⟨.refl s, rfl, fun _ => .refl _⟩
theorem State.NotesInputs.trans {s t u : State} (h : s.NotesInputs t) (k : t.NotesInputs u) : s.NotesInputs u :=
  ⟨h.toInputsAside.trans k.toInputsAside, k.streams.trans h.streams, fun j => (h.inputs j).trans (k.inputs j)⟩
theorem State.NotesInputs.of_io {s t : State} (hb : t.belay = s.belay) (hn : t.now = s.now) (hio : s.OutputsOnly t) : s.NotesInputs t := by
  refine ⟨.of_io hb hn hio, ?_, fun j => ?_⟩
  · obtain ⟨o, ho⟩ := hio
    rw [ho]
  · obtain ⟨o, ho⟩ := hio
    rw [ho]
    exact .refl _
theorem State.NotesInputs.modBank (s : State) (b : Fin 4) (f : BankCtl → BankCtl) : s.NotesInputs (s.modBank b f) := .of_io rfl rfl (.of_io rfl)
theorem State.NotesInputs.tell {s t : State} (h : s.NotesInputs t) (n code source item : Nat) (data : List Byte) :
    s.NotesInputs ((t.irqRaise n).event code source item data) := by
  refine h.trans (.of_io ?_ ?_ (.of_io ?_))
  · rw [State.event_belay, State.irqRaise_belay]
  · rw [State.event_now, State.irqRaise_now]
  · rw [State.event_io, State.irqRaise_io]
theorem State.NotesInputs.forEach {α : Type} {s : State} {l : List α} {f : State → α → State} (h : ∀ (t : State) a, t.NotesInputs (f t a)) :
    s.NotesInputs (s.forEach l f) := forEach_keeps (P := s.NotesInputs) (fun t a ht => ht.trans (h t a)) s l (.refl s)

theorem State.noteReady_notes (s : State) (i : Fin 24) : s.NotesInputs (s.noteReady i) := by
  unfold State.noteReady
  dsimp only
  split
  · exact .refl s
  · refine .tell ⟨.modIn s i _, rfl, fun j => ?_⟩ _ _ _ _ _
    by_cases hij : i = j
    · subst hij
      rw [State.modIn_same]
      exact ⟨_, _, rfl⟩
    · rw [State.modIn_other _ hij]
      exact .refl _

theorem State.noteReady_other (s : State) {i j : Fin 24} (h : i ≠ j) : (s.noteReady i).io.inputs[j] = s.io.inputs[j] := by
  unfold State.noteReady
  dsimp only
  split
  · rfl
  · simp only [State.event_io, State.irqRaise_io]
    exact State.modIn_other _ h _

/-- A used input is as ready as its conditions say (12 R324). -/
theorem State.noteReady_ready {s : State} {i : Fin 24} (h : s.inUse i ≠ 0) : (s.noteReady i).io.inputs[i].ready = s.inputReady i := by
  unfold State.noteReady
  dsimp only
  split
  next hready => exact hready.resolve_left h
  · simp only [State.event_io, State.irqRaise_io]
    rw [State.modIn_same]

theorem State.noteGroup_notes (s : State) (b : Fin 4) : s.NotesInputs (s.noteGroup b) := by
  unfold State.noteGroup
  dsimp only
  split
  · exact .refl s
  · exact (State.NotesInputs.modBank s b _).tell _ _ _ _ _

/-- What follows from the readiness of the inputs changes no input. -/
theorem State.followGroups_inputs (s : State) : (s.forEach allBank State.noteGroup).enforceTrips.io.inputs = s.io.inputs := by
  have hgroups : (s.forEach allBank State.noteGroup).io.inputs = s.io.inputs := by
    refine forEach_same (P := fun _ => True) (get := fun t => t.io.inputs) (fun _ _ _ => trivial) (fun t b _ _ => ?_) trivial
    unfold State.noteGroup
    dsimp only
    split
    · rfl
    · simp only [State.event_io, State.irqRaise_io]
      rfl
  obtain ⟨o, ho⟩ := (State.enforceTrips_opens (s.forEach allBank State.noteGroup)).io
  rw [ho, ← hgroups]

theorem State.noteInputs_notes (s : State) : s.NotesInputs s.noteInputs := by
  unfold State.noteInputs
  have hopens := State.enforceTrips_opens ((s.forEach allIn State.noteReady).forEach allBank State.noteGroup)
  exact (State.NotesInputs.forEach State.noteReady_notes).trans
    ((State.NotesInputs.forEach State.noteGroup_notes).trans (.of_io hopens.belay hopens.now hopens.io))

/-- An input that a fault keeps from readiness is not ready once readiness is brought up to date (12 R324). -/
theorem State.noteInputs_not_ready {s : State} {i : Fin 24} (huse : s.inUse i ≠ 0) (hp : s.io.inputs[i].pendingTest = true) :
    s.noteInputs.io.inputs[i].ready = false := by
  unfold State.noteInputs
  rw [State.followGroups_inputs]
  obtain ⟨t, ht, hget, hrun⟩ := forEach_once (get := fun t : State => t.io.inputs[i]) (P := s.NotesInputs) (f := State.noteReady)
    (fun t a ht => ht.trans (t.noteReady_notes a)) (fun t a ha _ => t.noteReady_other ha) nodup_allIn (mem_allIn i) (.refl s)
  rw [hrun, State.noteReady_ready (by rw [ht.inUse]; exact huse)]
  simp only [State.inputReady, hget, hp, Bool.not_true, Bool.and_false, Bool.false_and]

/-! ## Discrepancy -/

theorem State.latchDisc_aside (s : State) (i : Fin 24) : s.InputsAside (s.latchDisc i) := by
  unfold State.latchDisc
  split
  · exact ((State.InputsAside.modIn s i _).irqRaise 60).event _ _ _ _
  · exact .refl s

/-- An input whose discrepancy latches. -/
def SafeInput.latchDisc (c : SafeInput) : SafeInput :=
  { c with discFault := true, seen := c.seen ||| 4, faults := upd c.faults 0 sat32, pendingTest := true, opened := false }

/-- A count that has reached `DISC_TIME` latches (12 R325). -/
theorem State.latchDisc_io {s : State} {i : Fin 24} (h : s.discDue i = true) : (s.latchDisc i).io = (s.modIn i SafeInput.latchDisc).io := by
  unfold State.latchDisc
  rw [if_pos h, State.event_io, State.irqRaise_io]
  rfl

theorem State.discDue_used {s : State} {i : Fin 24} (h : s.discDue i = true) : s.inUse i ≠ 0 := by
  simp only [State.discDue, Bool.and_eq_true, decide_eq_true_eq] at h
  exact h.1.1.1

theorem execDiscrepancyFault_faults {s : State} {i : Fin 24} (h : s.discDue i = true) : ∃ t, exec (.discrepancyFault i) s = .next t ∧
    t.io.inputs[i].discFault = true ∧ t.io.inputs[i].pendingTest = true ∧ t.io.inputs[i].ready = false ∧
    t.io.inputs[i].faults[0] = sat32 s.io.inputs[i].faults[0] ∧ t.io.supplies = s.io.supplies ∧ t.io.streams = s.io.streams := by
  have hnotes := (s.latchDisc i).noteInputs_notes
  have hin := hnotes.inputs i
  have hready : (s.latchDisc i).noteInputs.io.inputs[i].ready = false := by
    refine State.noteInputs_not_ready ?_ ?_
    · rw [(s.latchDisc_aside i).inUse]
      exact State.discDue_used h
    · rw [State.latchDisc_io h, State.modIn_same]
      rfl
  rw [State.latchDisc_io h, State.modIn_same] at hin
  obtain ⟨r, seen, hin⟩ := hin
  refine ⟨_, rfl, ?_, ?_, hready, ?_, ?_, ?_⟩
  · rw [hin]
    rfl
  · rw [hin]
    rfl
  · rw [hin]
    exact upd_get_same _ _ _
  · rw [hnotes.supplies, State.latchDisc_io h]
    rfl
  · rw [hnotes.streams, State.latchDisc_io h]
    rfl

/-! ## The tick of the filters -/

/-- `t` differs from `s` in no supply, no instant and no filtered state of a channel. -/
structure State.KeepsFilters (s t : State) : Prop extends s.InputsAside t where
  closedA : ∀ j : Fin 24, t.io.inputs[j].a.closed = s.io.inputs[j].a.closed
  closedB : ∀ j : Fin 24, t.io.inputs[j].b.closed = s.io.inputs[j].b.closed

theorem State.KeepsFilters.refl (s : State) : s.KeepsFilters s := ⟨.refl s, fun _ => rfl, fun _ => rfl⟩
theorem State.KeepsFilters.trans {s t u : State} (h : s.KeepsFilters t) (k : t.KeepsFilters u) : s.KeepsFilters u :=
  ⟨h.toInputsAside.trans k.toInputsAside, fun j => (k.closedA j).trans (h.closedA j), fun j => (k.closedB j).trans (h.closedB j)⟩
theorem State.KeepsFilters.of_inputs {s t : State} (h : s.InputsAside t) (hin : t.io.inputs = s.io.inputs) : s.KeepsFilters t :=
  ⟨h, fun j => by rw [hin], fun j => by rw [hin]⟩
theorem State.KeepsFilters.of_opens {s t : State} (h : s.Opens t) : s.KeepsFilters t := by
  refine .of_inputs (.of_opens h) ?_
  obtain ⟨o, ho⟩ := h.io
  rw [ho]
theorem State.KeepsFilters.forEach {α : Type} {s : State} {l : List α} {f : State → α → State} (h : ∀ (t : State) a, t.KeepsFilters (f t a)) :
    s.KeepsFilters (s.forEach l f) := forEach_keeps (P := s.KeepsFilters) (fun t a ht => ht.trans (h t a)) s l (.refl s)
theorem State.KeepsFilters.modSm (s : State) (m : Fin 8) (f : Stream → Stream) : s.KeepsFilters (s.modSm m f) := .of_inputs (.modSm s m f) rfl
theorem State.KeepsFilters.event {s t : State} (h : s.KeepsFilters t) (code source item : Nat) (data : List Byte) :
    s.KeepsFilters (t.event code source item data) := h.trans (.of_opens (.event t ..))
theorem State.KeepsFilters.irqRaise {s t : State} (h : s.KeepsFilters t) (n : Nat) : s.KeepsFilters (t.irqRaise n) :=
  h.trans (.of_opens (.irqRaise t n))
theorem State.KeepsFilters.modIn (s : State) (i : Fin 24) {f : SafeInput → SafeInput} (ha : ∀ c, (f c).a.closed = c.a.closed)
    (hb : ∀ c, (f c).b.closed = c.b.closed) : s.KeepsFilters (s.modIn i f) := by
  refine ⟨.modIn s i f, fun j => ?_, fun j => ?_⟩ <;> by_cases hij : i = j
  · subst hij
    rw [State.modIn_same, ha]
  · rw [State.modIn_other _ hij]
  · subst hij
    rw [State.modIn_same, hb]
  · rw [State.modIn_other _ hij]
theorem State.KeepsFilters.of_notes {s t : State} (h : s.NotesInputs t) : s.KeepsFilters t := by
  refine ⟨h.toInputsAside, fun j => ?_, fun j => ?_⟩
  · obtain ⟨r, n, hj⟩ := h.inputs j
    rw [hj]
  · obtain ⟨r, n, hj⟩ := h.inputs j
    rw [hj]

theorem State.enterSm_keepsFilters (s : State) (m : Fin 8) (st : SmState) : s.KeepsFilters (s.enterSm m st) := by
  unfold State.enterSm
  split
  · exact .refl s
  · dsimp only
    split
    · exact .event (.modSm s m _) _ _ _ _
    · exact .modSm s m _

theorem State.followSm_keepsFilters (s : State) (m : Fin 8) : s.KeepsFilters (s.followSm m) := by
  unfold State.followSm
  dsimp only
  refine State.KeepsFilters.trans (State.KeepsFilters.trans ?_ (.modSm _ m _)) (.of_opens (State.enforceTrips_opens _))
  split
  · exact .irqRaise (.refl s) 66
  · exact .refl s

theorem State.loseSm_keepsFilters (s : State) (m : Fin 8) : s.KeepsFilters (s.loseSm m) := by
  unfold State.loseSm
  split
  · exact (s.enterSm_keepsFilters m .lost).trans (State.followSm_keepsFilters _ m)
  · exact .refl s

theorem State.settleStreams_keepsFilters (s : State) : s.KeepsFilters s.settleStreams := by
  unfold State.settleStreams
  refine .forEach fun t m => ?_
  dsimp only
  split
  · split
    · exact (t.enterSm_keepsFilters m .wait).trans (State.followSm_keepsFilters _ m)
    · exact t.followSm_keepsFilters m
  · exact ((State.KeepsFilters.modSm t m _).trans (State.enterSm_keepsFilters _ m .disabled)).trans (State.followSm_keepsFilters _ m)

theorem InChannel.endCycle_closed (c : InChannel) : c.endCycle.closed = c.closed := by
  unfold InChannel.endCycle
  split
  · rfl
  · rfl

theorem State.clearXs_keepsFilters (s : State) (i : Fin 24) : s.KeepsFilters (s.clearXs i) := by
  unfold State.clearXs
  dsimp only
  split
  · have hclear := State.KeepsFilters.modIn s i (f := fun c => { c with xsFault := false, xsTested := false }) (fun _ => rfl) fun _ => rfl
    exact hclear.event _ _ _ _
  · exact .refl s

theorem State.endCycles_keepsFilters (s : State) : s.KeepsFilters s.endCycles := by
  unfold State.endCycles
  split
  · exact .refl s
  · refine .forEach fun t i => ?_
    split
    · exact .refl t
    · refine .trans (.modIn t i ?_ ?_) (State.clearXs_keepsFilters _ i)
      · exact fun c => c.a.endCycle_closed
      · exact fun c => c.b.endCycle_closed

/-! ### One input -/

/-- A filter of one tick follows its reading (12 R323). -/
theorem InChannel.tick_closed_of_one (c : InChannel) (isOpen : Bool) : (c.tick isOpen 1).closed = !isOpen := by
  unfold InChannel.tick
  split
  next h => simp only [h, Bool.not_not]
  · rw [if_pos (by omega)]

/-- What an input does at a tick once its filters have taken the reading (12 R325, R326). -/
def State.settleInput (s : State) (i : Fin 24) : State :=
  let t := s.modIn i fun c =>
    { c with disc := if c.a.closed = c.b.closed then 0 else if c.disc < s.discTime i then c.disc + 1 else c.disc }
  let c := t.io.inputs[i]
  if !c.pendingTest then t
  else if !c.a.closed && !c.b.closed then t.modIn i fun c => { c with opened := true }
  else if c.opened && c.a.closed && c.b.closed then
    let t := t.modIn i fun c => { c with
      pendingTest := false, opened := false, discFault := false, xsTested := c.xsTested || c.xsFault,
      a := if c.xsFault then { c.a with passes := 0 } else c.a, b := if c.xsFault then { c.b with passes := 0 } else c.b }
    (t.irqRaise 65).event 0x7004 (bankObj (groupOf i)) (i.val + 1)
  else t

theorem State.settleInput_keepsFilters (s : State) (i : Fin 24) : s.KeepsFilters (s.settleInput i) := by
  unfold State.settleInput
  dsimp only
  have hdisc := State.KeepsFilters.modIn s i (f := fun c =>
    { c with disc := if c.a.closed = c.b.closed then 0 else if c.disc < s.discTime i then c.disc + 1 else c.disc }) (fun _ => rfl) fun _ => rfl
  generalize s.modIn i _ = t at hdisc ⊢
  split
  · exact hdisc
  · split
    · exact hdisc.trans (.modIn t i (fun _ => rfl) fun _ => rfl)
    · split
      · refine .event (.irqRaise (hdisc.trans (.modIn t i ?_ ?_)) 65) _ _ _ _
        · intro c
          dsimp only
          split <;> rfl
        · intro c
          dsimp only
          split <;> rfl
      · exact hdisc

theorem State.settleInput_other (s : State) {i j : Fin 24} (h : i ≠ j) : (s.settleInput i).io.inputs[j] = s.io.inputs[j] := by
  unfold State.settleInput
  dsimp only
  split
  · exact State.modIn_other _ h _
  · split
    · rw [State.modIn_other _ h, State.modIn_other _ h]
    · split
      · simp only [State.event_io, State.irqRaise_io]
        rw [State.modIn_other _ h, State.modIn_other _ h]
      · exact State.modIn_other _ h _

theorem State.tickInput_eq (s : State) (i : Fin 24) (openA openB : Bool) : s.tickInput i openA openB =
    if s.inUse i = 0 then s else
      (s.modIn i fun c => { c with
        a := c.a.tick (openA || (s.inTested i && s.supplyFault (supplyA i))) (s.inFilter i)
        b := c.b.tick (openB || (s.inTested i && s.supplyFault (supplyB i))) (s.inFilter i) }).settleInput i := rfl

theorem State.tickInput_aside (s : State) (i : Fin 24) (openA openB : Bool) : s.InputsAside (s.tickInput i openA openB) := by
  rw [State.tickInput_eq]
  split
  · exact .refl s
  · exact (State.InputsAside.modIn s i _).trans (State.settleInput_keepsFilters _ i).toInputsAside

theorem State.tickInput_other (s : State) {i j : Fin 24} (h : i ≠ j) (openA openB : Bool) :
    (s.tickInput i openA openB).io.inputs[j] = s.io.inputs[j] := by
  rw [State.tickInput_eq]
  split
  · rfl
  · rw [State.settleInput_other _ h, State.modIn_other _ h]

/-- With a filter of one tick and sound supplies an input's channels stand as they were read (12 R323). -/
theorem State.tickInput_closed {s : State} {i : Fin 24} (huse : s.inUse i ≠ 0) (hone : s.inFilter i = 1) (ha : s.supplyFault (supplyA i) = false)
    (hb : s.supplyFault (supplyB i) = false) (openA openB : Bool) :
    (s.tickInput i openA openB).io.inputs[i].a.closed = !openA ∧ (s.tickInput i openA openB).io.inputs[i].b.closed = !openB := by
  rw [State.tickInput_eq, if_neg huse, (State.settleInput_keepsFilters _ i).closedA i, (State.settleInput_keepsFilters _ i).closedB i, State.modIn_same, hone,
    ha, hb, Bool.and_false, Bool.or_false, Bool.or_false]
  exact ⟨InChannel.tick_closed_of_one _ _, InChannel.tick_closed_of_one _ _⟩

/-- The state of a tick before its filters take the readings. -/
def State.beforeTick (s : State) : State :=
  let t := s.forEach allIn State.latchDisc
  let t := t.forEach (List.finRange 8) State.loseSm
  { t with io := { t.io with tickAt := s.now } }

/-- What a tick does once its filters have taken the readings. -/
def State.afterTick (s : State) : State :=
  let t := s.forEach (List.finRange 8) fun t m => t.modSm m Stream.tick
  let t := if t.belay.degraded.isEmpty then t else t.settleStreams
  t.endCycles.noteInputs

theorem State.beforeTick_io (s : State) : s.beforeTick.belay = s.belay ∧ s.beforeTick.io.supplies = s.io.supplies ∧ s.beforeTick.io.tickAt = s.now := by
  have h : s.InputsAside ((s.forEach allIn State.latchDisc).forEach (List.finRange 8) State.loseSm) :=
    (State.InputsAside.forEach State.latchDisc_aside).trans (.forEach fun t m => (t.loseSm_keepsFilters m).toInputsAside)
  unfold State.beforeTick
  dsimp only
  generalize (s.forEach allIn State.latchDisc).forEach (List.finRange 8) State.loseSm = t at h ⊢
  exact ⟨h.belay, h.supplies, rfl⟩

theorem State.afterTick_keepsFilters (s : State) : s.KeepsFilters s.afterTick := by
  unfold State.afterTick
  dsimp only
  have hticks : s.KeepsFilters (s.forEach (List.finRange 8) fun t m => t.modSm m Stream.tick) := .forEach fun t m => .modSm t m _
  generalize s.forEach (List.finRange 8) (fun t m => t.modSm m Stream.tick) = t at hticks ⊢
  refine (hticks.trans ?_).trans ((State.endCycles_keepsFilters _).trans (.of_notes (State.noteInputs_notes _)))
  split
  · exact .refl t
  · exact t.settleStreams_keepsFilters

theorem execInputTick_filters {s : State} (a b : Nat) (hr : s.belay.released = true) (ht : s.io.tickAt < s.now) (hat : s.belay.releasedAt < s.now)
    (hms : (s.now - s.belay.releasedAt) % ms 1 = 0) : ∃ t, exec (.inputTick a b) s = .next t ∧ t.io.tickAt = s.now ∧ t.io.supplies = s.io.supplies ∧
    ∀ i, s.inUse i ≠ 0 → s.inFilter i = 1 → s.supplyFault (supplyA i) = false → s.supplyFault (supplyB i) = false →
      t.io.inputs[i].a.closed = !a.testBit i.val ∧ t.io.inputs[i].b.closed = !b.testBit i.val := by
  have hcond : (s.belay.released && decide (s.io.tickAt < s.now) && decide (s.belay.releasedAt < s.now) &&
      (s.now - s.belay.releasedAt) % ms 1 = 0) = true := by
    simp only [hr, ht, hat, hms, decide_true, Bool.and_self]
  obtain ⟨hbelay, hsupplies, htick⟩ := s.beforeTick_io
  have hround : ∀ (t : State) (i : Fin 24), t.InputsAside (t.tickInput i (a.testBit i.val) (b.testBit i.val)) := fun t i => t.tickInput_aside i _ _
  have hrun : s.beforeTick.InputsAside (s.beforeTick.forEach allIn fun t i => t.tickInput i (a.testBit i.val) (b.testBit i.val)) := .forEach hround
  have hafter := State.afterTick_keepsFilters (s.beforeTick.forEach allIn fun t i => t.tickInput i (a.testBit i.val) (b.testBit i.val))
  have hexec : exec (.inputTick a b) s =
      .next (s.beforeTick.forEach allIn fun t i => t.tickInput i (a.testBit i.val) (b.testBit i.val)).afterTick := by
    change execInputTick a b s = _
    unfold execInputTick
    rw [if_pos hcond]
    rfl
  refine ⟨_, hexec, hafter.tickAt.trans (hrun.tickAt.trans htick),
    hafter.supplies.trans (hrun.supplies.trans hsupplies), fun i huse hone hsa hsb => ?_⟩
  have hat : (s.inUse i = s.beforeTick.inUse i ∧ s.inFilter i = s.beforeTick.inFilter i) ∧ s.supplyFault = s.beforeTick.supplyFault := by
    refine ⟨⟨?_, ?_⟩, funext fun k => ?_⟩
    · simp only [State.inUse, State.inCfg, State.bval, State.committed, hbelay]
    · simp only [State.inFilter, State.inCfg, State.bval, State.committed, hbelay]
    · simp only [State.supplyFault, hsupplies]
  obtain ⟨⟨hu, hf⟩, hfault⟩ := hat
  obtain ⟨t, ht, -, hget⟩ := forEach_once (get := fun t : State => t.io.inputs[i]) (P := s.beforeTick.InputsAside)
    (f := fun t i => t.tickInput i (a.testBit i.val) (b.testBit i.val)) (fun t j ht => ht.trans (hround t j))
    (fun t j hj _ => t.tickInput_other hj _ _) nodup_allIn (mem_allIn i) (.refl _)
  have hclosed := State.tickInput_closed (s := t) (i := i) (by rw [ht.inUse, ← hu]; exact huse) (by rw [ht.inFilter, ← hf]; exact hone)
    (by rw [ht.supplyFault, ← hfault]; exact hsa) (by rw [ht.supplyFault, ← hfault]; exact hsb) (a.testBit i.val) (b.testBit i.val)
  rw [hafter.closedA i, hafter.closedB i, hget]
  exact hclosed

/-! ## Test-pulse supplies -/

theorem execTestPulseOff_pulses {s : State} {k : Fin 4} (hr : s.belay.released = true) (hf : s.supplyFault k = false) (hp : s.pulsePhase k = true) :
    ∃ t, exec (.testPulseOff k) s = .next t ∧ t.io.supplies[k] = { s.io.supplies[k] with pulseAt := some s.now, sampled := false } ∧
      t.io.outputs = s.io.outputs ∧ t.io.streams = s.io.streams :=
  ⟨_, congrArg Host.Outcome.next (if_pos (by simp only [hr, hf, hp, Bool.not_false, Bool.and_self])), upd_get_same _ _ _, rfl, rfl⟩

/-- What a check sample does to one input (12 R327). -/
def State.sampleInput (k : Fin 4) (before during : Nat) (t : State) (i : Fin 24) : State :=
  if !t.inTested i then t
  else
    let ra := checkSample (before.testBit i.val && !t.supplyFault (supplyA i)) (during.testBit i.val) (supplyA i = k)
    let rb := checkSample (before.testBit (24 + i.val) && !t.supplyFault (supplyB i)) (during.testBit (24 + i.val)) (supplyB i = k)
    let t := t.modIn i fun c => { c with a := c.a.sample ra, b := c.b.sample rb }
    if ra = some false ∨ rb = some false then t.latchXs i else t

theorem State.latchXs_io (s : State) (i : Fin 24) : (s.latchXs i).io = (s.modIn i fun c => { c with
    xsFault := true, seen := c.seen ||| 2, faults := upd c.faults 1 sat32, pendingTest := true, opened := false, xsTested := false,
    a := { c.a with passes := 0, good := 0 }, b := { c.b with passes := 0, good := 0 } }).io := by
  unfold State.latchXs
  rw [State.event_io, State.irqRaise_io]

theorem State.latchXs_aside (s : State) (i : Fin 24) : s.InputsAside (s.latchXs i) := by
  unfold State.latchXs
  dsimp only
  exact ((State.InputsAside.modIn s i _).irqRaise 61).event _ _ _ _

theorem State.sampleInput_aside (k : Fin 4) (before during : Nat) (s : State) (i : Fin 24) : s.InputsAside (s.sampleInput k before during i) := by
  unfold State.sampleInput
  dsimp only
  split
  · exact .refl s
  · split
    · exact (State.InputsAside.modIn s i _).trans (State.latchXs_aside _ i)
    · exact .modIn s i _

theorem State.sampleInput_outputs (k : Fin 4) (before during : Nat) (s : State) (i : Fin 24) :
    (s.sampleInput k before during i).io.outputs = s.io.outputs := by
  unfold State.sampleInput
  dsimp only
  split
  · rfl
  · split
    · rw [State.latchXs_io]
      rfl
    · rfl

theorem State.sampleInput_other (k : Fin 4) (before during : Nat) (s : State) {i j : Fin 24} (h : i ≠ j) :
    (s.sampleInput k before during i).io.inputs[j] = s.io.inputs[j] := by
  unfold State.sampleInput
  dsimp only
  split
  · rfl
  · split
    · simp only [State.latchXs_io]
      rw [State.modIn_other _ h, State.modIn_other _ h]
    · exact State.modIn_other _ h _

/-- A channel that reads closed in its own supply's pulse shows a cross-short (12 R327). -/
theorem State.sampleInput_fails {k : Fin 4} {before during : Nat} {s : State} {i : Fin 24} (ht : s.inTested i = true) (hk : supplyA i = k)
    (hf : s.supplyFault k = false) (hb : before.testBit i.val = true) (hd : during.testBit i.val = true) :
    (s.sampleInput k before during i).io.inputs[i].xsFault = true ∧ (s.sampleInput k before during i).io.inputs[i].pendingTest = true ∧
      (s.sampleInput k before during i).io.inputs[i].faults[1] = sat32 s.io.inputs[i].faults[1] := by
  have hra : checkSample (before.testBit i.val && !s.supplyFault (supplyA i)) (during.testBit i.val) (supplyA i = k) = some false := by
    rw [hb, hd, hk, hf, decide_eq_true rfl]
    rfl
  unfold State.sampleInput
  dsimp only
  rw [ht, Bool.not_true, if_neg Bool.false_ne_true, if_pos (.inl hra), State.latchXs_io, State.modIn_same, State.modIn_same]
  exact ⟨rfl, rfl, upd_get_same _ _ _⟩

theorem execCrossShortCheckSample_samples {s : State} {k : Fin 4} (before during : Nat) (hp : s.inPulse k = true)
    (hs : s.io.supplies[k].sampled = false) (hc : s.checkPhase k = true) : ∃ t, exec (.crossShortCheckSample k before during) s = .next t ∧
    t.io.supplies[k] = { s.io.supplies[k] with sampled := true } ∧ t.io.outputs = s.io.outputs ∧
    ∀ i, s.inTested i = true → supplyA i = k → s.supplyFault k = false → before.testBit i.val = true → during.testBit i.val = true →
      t.io.inputs[i].xsFault = true ∧ t.io.inputs[i].pendingTest = true ∧ t.io.inputs[i].faults[1] = sat32 s.io.inputs[i].faults[1] := by
  have hcond : ¬(!s.inPulse k || s.io.supplies[k].sampled || !s.checkPhase k) = true := by
    rw [hp, hs, hc]
    exact Bool.false_ne_true
  have hexec : exec (.crossShortCheckSample k before during) s =
      .next ((s.modTp k fun p => { p with sampled := true }).forEach allIn (State.sampleInput k before during)) := by
    change execCrossShortCheckSample k before during s = _
    unfold execCrossShortCheckSample
    rw [if_neg hcond]
    rfl
  have hfault : (s.modTp k fun p => { p with sampled := true }).supplyFault k = s.supplyFault k := by
    simp only [State.supplyFault, State.modTp_io, upd_get, if_true]
  have htested (i : Fin 24) : (s.modTp k fun p => { p with sampled := true }).inTested i = s.inTested i := rfl
  have hin : (s.modTp k fun p => { p with sampled := true }).io.inputs = s.io.inputs := rfl
  have hout : (s.modTp k fun p => { p with sampled := true }).io.outputs = s.io.outputs := rfl
  have hsup : (s.modTp k fun p => { p with sampled := true }).io.supplies[k] = { s.io.supplies[k] with sampled := true } := upd_get_same _ _ _
  generalize (s.modTp k fun p => { p with sampled := true }) = u at hexec hfault htested hin hout hsup
  have hround := State.sampleInput_aside k before during
  have hrun : u.InputsAside (u.forEach allIn (State.sampleInput k before during)) := .forEach hround
  refine ⟨_, hexec, by rw [hrun.supplies, hsup], ?_, fun i ht hk hf hb hd => ?_⟩
  · rw [← hout]
    exact forEach_keeps (P := fun t => t.io.outputs = u.io.outputs) (fun t i ht => (State.sampleInput_outputs k before during t i).trans ht) u allIn rfl
  · obtain ⟨t, ht', hget, hlast⟩ := forEach_once (get := fun t : State => t.io.inputs[i]) (P := u.InputsAside) (f := State.sampleInput k before during)
      (fun t j ht => ht.trans (hround t j)) (fun t j hj _ => State.sampleInput_other k before during t hj) nodup_allIn (mem_allIn i) (.refl u)
    have hfails := State.sampleInput_fails (s := t) (i := i) (by rw [ht'.inTested, htested, ht]) hk (by rw [ht'.supplyFault, hfault, hf]) hb hd
    rw [hlast, ← hin, ← hget]
    exact hfails

/-- A supply whose fault latches at `now` with cause code `code` (12 R320). -/
def PulseSupply.shutDown (now code : Nat) (p : PulseSupply) : PulseSupply :=
  { p with fault := some code, regulated := false, pulseAt := none, freeSince := some now }

/-- What the fault of a supply does to one input: its channels are no longer checked (12 R324). -/
def State.uncheckInput (k : Fin 4) (t : State) (i : Fin 24) : State :=
  t.modIn i fun c => { c with
    a := if supplyA i = k then { c.a with checked := false, good := 0 } else c.a
    b := if supplyB i = k then { c.b with checked := false, good := 0 } else c.b }

theorem execTestPulseSupplyFault_faults {s : State} {k : Fin 4} (cause : Fin 3) (hr : s.belay.released = true) (hf : s.supplyFault k = false) :
    ∃ t, exec (.testPulseSupplyFault k cause) s = .next t ∧
    t.io.supplies[k] = { s.io.supplies[k] with fault := some (cause.val + 1), regulated := false, pulseAt := none, freeSince := some s.now } ∧
    (∀ i, (supplyA i = k → t.io.inputs[i].a.checked = false) ∧ (supplyB i = k → t.io.inputs[i].b.checked = false)) ∧
    ∀ j, j ≠ k → t.io.supplies[j] = s.io.supplies[j] := by
  have hexec : exec (.testPulseSupplyFault k cause) s = .next ((((s.modTp k (PulseSupply.shutDown s.now (cause.val + 1))).forEach allIn (State.uncheckInput k)).irqRaise 62).event 0x7007 blockObj (k.val + 1) (u8 (cause.val + 1))) := by
    change execTestPulseSupplyFault k cause s = _
    unfold execTestPulseSupplyFault
    rw [if_neg (by rw [hr]; exact Bool.false_ne_true), if_neg (by rw [hf]; exact Bool.false_ne_true)]
    rfl
  have hsup : (s.modTp k (PulseSupply.shutDown s.now (cause.val + 1))).io.supplies =
      upd s.io.supplies k (PulseSupply.shutDown s.now (cause.val + 1)) := rfl
  generalize (s.modTp k (PulseSupply.shutDown s.now (cause.val + 1))) = u at hexec hsup
  have hround (t : State) (i : Fin 24) : t.InputsAside (t.uncheckInput k i) := .modIn t i _
  have hrun : u.InputsAside (u.forEach allIn (State.uncheckInput k)) := .forEach hround
  refine ⟨_, hexec, ?_, fun i => ?_, fun j hj => ?_⟩
  · rw [State.event_io, State.irqRaise_io, hrun.supplies, hsup]
    exact upd_get_same _ _ _
  · obtain ⟨t, -, -, hlast⟩ := forEach_once (get := fun t : State => t.io.inputs[i]) (P := fun _ => True) (f := State.uncheckInput k)
      (fun _ _ _ => trivial) (fun t j hj _ => State.modIn_other t hj _) nodup_allIn (mem_allIn i) (s := u) trivial
    rw [State.event_io, State.irqRaise_io, hlast]
    simp only [State.uncheckInput, State.modIn_same]
    refine ⟨fun h => ?_, fun h => ?_⟩
    · rw [if_pos h]
    · rw [if_pos h]
  · rw [State.event_io, State.irqRaise_io, hrun.supplies, hsup]
    exact upd_get_other _ _ (Ne.symm hj)

/-- What `TP_CLEAR` does at one supply (12 R320). -/
def State.restartSupply (v : Nat) (s : State) (k : Fin 4) : State :=
  match s.io.supplies[k].freeSince with
  | some f =>
    if v.testBit k.val && s.supplyFault k && decide (f + ms 100 ≤ s.now) then
      (s.modTp k fun p => { p with fault := none, regulated := true }).event 0x7008 blockObj (k.val + 1)
    else s
  | none => s

theorem State.restartSupply_keeps (v : Nat) (s : State) (k : Fin 4) :
    (s.restartSupply v k).now = s.now ∧ (s.restartSupply v k).io.inputs = s.io.inputs ∧
      ∀ j : Fin 4, k ≠ j → (s.restartSupply v k).io.supplies[j] = s.io.supplies[j] := by
  unfold State.restartSupply
  split
  · split
    · simp only [State.event_now, State.event_io]
      exact ⟨rfl, rfl, fun j hj => upd_get_other _ _ hj⟩
    · exact ⟨rfl, rfl, fun _ _ => rfl⟩
  · exact ⟨rfl, rfl, fun _ _ => rfl⟩

theorem State.restartSupply_restarts {v : Nat} {s : State} {k : Fin 4} {f : Nat} (hv : v.testBit k.val = true) (hf : s.supplyFault k = true)
    (hfree : s.io.supplies[k].freeSince = some f) (hlong : f + ms 100 ≤ s.now) :
    (s.restartSupply v k).io.supplies[k] = { s.io.supplies[k] with fault := none, regulated := true } := by
  unfold State.restartSupply
  rw [hfree]
  dsimp only
  rw [hv, hf, decide_eq_true hlong, Bool.and_self, Bool.and_self, if_pos rfl, State.event_io]
  exact upd_get_same _ _ _

theorem execTpClear_restarts {s : State} {src : Src} {v : Nat} (ha : s.admits src blockObj 0x0152 (u8 v)) : ∃ t, exec (.tpClear src v) s = .next t ∧
    t.lastSent = some (.writeReply src blockObj 0x0152 1) ∧ t.io.inputs = s.io.inputs ∧
    ∀ k f, v.testBit k.val = true → s.supplyFault k = true → s.io.supplies[k].freeSince = some f → f + ms 100 ≤ s.now →
      t.io.supplies[k] = { s.io.supplies[k] with fault := none, regulated := true } := by
  obtain ⟨t, hexec, hsent, hblank⟩ := exec_plain (c := .tpClear src v) (apply := fun _ s => s.applyTpClear v)
    (v := (s.taken src blockObj 0x0152).forEach (List.finRange 4) (State.restartSupply v)) rfl ha fun _ _ => rfl
  have hio := same_of_blank (p := .io) hblank rfl
  simp only [same] at hio
  refine ⟨t, hexec, hsent, ?_, fun k f hv hf hfree hlong => ?_⟩
  · rw [hio]
    exact forEach_keeps (P := fun t => t.io.inputs = s.io.inputs) (fun t k ht => (t.restartSupply_keeps v k).2.1.trans ht) _ _ (by rw [State.taken_io])
  · obtain ⟨u, hnow, hget, hlast⟩ := forEach_once (get := fun t : State => t.io.supplies[k]) (P := fun t => t.now = s.now) (f := State.restartSupply v)
      (fun t j ht => (t.restartSupply_keeps v j).1.trans ht) (fun t j hj _ => (t.restartSupply_keeps v j).2.2 k hj) (List.nodup_finRange 4)
      (List.mem_finRange k) (s := s.taken src blockObj 0x0152) (State.taken_now ..)
    simp only [State.taken_io] at hget
    rw [hio, hlast, ← hget]
    refine State.restartSupply_restarts hv ?_ (by rw [hget, hfree]) (by rw [hnow]; exact hlong)
    rw [← hf]
    simp only [State.supplyFault, hget]

/-- Settles O14, one lemma to each command. -/
theorem safetyInputs : Obligations.SafetyInputs := by
  unfold Obligations.SafetyInputs
  exact fun s => ⟨fun i h => execDiscrepancyFault_faults h, fun a b hr ht hat hms => execInputTick_filters a b hr ht hat hms,
    fun k hr hf hp => execTestPulseOff_pulses hr hf hp, fun k before during hp hs hc => execCrossShortCheckSample_samples before during hp hs hc,
    fun k cause hr hf => execTestPulseSupplyFault_faults cause hr hf, fun src v ha => execTpClear_restarts ha⟩

end Sys2Proof.Machine

/-!
Safety outputs (O15).
-/

namespace Sys2Proof.Machine

-- One thread per theorem would be more than the compiler's memory limit allows.
set_option Elab.async false

/-! ## The poles of a pair -/

/-- The odd output of the pair that an output could be of. -/
def oddOf (q : Fin 16) : Fin 16 := Fin.ofNat 16 (q.val / 2 * 2)

theorem State.pairOf_iff {s : State} {q p : Fin 16} : s.pairOf q = some p ↔ p ≠ q ∧ p.val / 2 = q.val / 2 ∧ (s.qCfg (oddOf q)).testBit 30 = true := by
  have hq := q.isLt
  have hp := p.isLt
  unfold State.pairOf
  dsimp only
  split
  next heven =>
    have hodd : oddOf q = q := by
      apply Fin.ext
      simp only [oddOf, Fin.ofNat]
      omega
    rw [hodd, Option.ite_none_right_eq_some, Option.some_inj, Fin.ext_iff, Fin.ne_iff_vne]
    simp only [Fin.ofNat]
    refine ⟨fun ⟨h, e⟩ => ⟨?_, ?_, h⟩, fun ⟨hne, hdiv, h⟩ => ⟨h, ?_⟩⟩ <;> omega
  next hne =>
    have hodd : oddOf q = Fin.ofNat 16 (q.val - 1) := by
      apply Fin.ext
      simp only [oddOf, Fin.ofNat]
      omega
    rw [hodd, Option.ite_none_right_eq_some, Option.some_inj, Fin.ext_iff, Fin.ne_iff_vne]
    simp only [Fin.ofNat]
    refine ⟨fun ⟨h, e⟩ => ⟨?_, ?_, h⟩, fun ⟨hne, hdiv, h⟩ => ⟨h, ?_⟩⟩ <;> omega

/-- `p` is the output `q` or the other pole of its pair. -/
def State.poleOf (s : State) (q p : Fin 16) : Bool := decide (p = q) || decide (s.pairOf q = some p)

theorem State.poleOf_iff {s : State} {q p : Fin 16} :
    s.poleOf q p = true ↔ p = q ∨ (p.val / 2 = q.val / 2 ∧ (s.qCfg (oddOf q)).testBit 30 = true) := by
  simp only [State.poleOf, Bool.or_eq_true, decide_eq_true_eq, State.pairOf_iff]
  by_cases h : p = q
  · simp [h]
  · simp [h]

theorem State.poleOf_self (s : State) (q : Fin 16) : s.poleOf q q = true := State.poleOf_iff.mpr (.inl rfl)

theorem oddOf_congr {p q : Fin 16} (h : p.val / 2 = q.val / 2) : oddOf p = oddOf q := by
  unfold oddOf
  rw [h]

theorem State.poleOf_symm {s : State} {q p : Fin 16} (h : s.poleOf q p = true) : s.poleOf p q = true := by
  rcases State.poleOf_iff.mp h with rfl | ⟨hdiv, hbit⟩
  · exact s.poleOf_self _
  · exact State.poleOf_iff.mpr (.inr ⟨hdiv.symm, by rw [oddOf_congr hdiv]; exact hbit⟩)

theorem State.poleOf_trans {s : State} {q p r : Fin 16} (h : s.poleOf q p = true) (k : s.poleOf p r = true) : s.poleOf q r = true := by
  rcases State.poleOf_iff.mp h with rfl | ⟨hdiv, hbit⟩
  · exact k
  · rcases State.poleOf_iff.mp k with rfl | ⟨hdiv', -⟩
    · exact h
    · exact State.poleOf_iff.mpr (.inr ⟨hdiv'.trans hdiv, hbit⟩)

/-- Of a pair the even pole is one. -/
theorem State.isEvenPole_of_pair {s : State} {q p : Fin 16} (h : s.pairOf q = some p) : s.isEvenPole q = true ∨ s.isEvenPole p = true := by
  have hback : s.pairOf p = some q := by
    obtain ⟨hne, hdiv, hbit⟩ := State.pairOf_iff.mp h
    exact State.pairOf_iff.mpr ⟨hne.symm, hdiv.symm, by rw [oddOf_congr hdiv]; exact hbit⟩
  obtain ⟨hne, hdiv, -⟩ := State.pairOf_iff.mp h
  have hne' := Fin.val_ne_of_ne hne
  unfold State.isEvenPole
  rw [h, hback]
  simp only [Option.isSome_some, Bool.and_true, decide_eq_true_eq]
  omega

/-- The outputs that a request named `q` moves, where neither `q` nor `p` is an even pole. -/
theorem State.eq_of_poleOf {s : State} {q p : Fin 16} (h : s.poleOf q p = true) (hq : s.isEvenPole q = false) (hp : s.isEvenPole p = false) : p = q := by
  rcases (Bool.or_eq_true _ _).mp h with h | h
  · exact of_decide_eq_true h
  · rcases State.isEvenPole_of_pair (of_decide_eq_true h) with k | k
    · rw [hq] at k; exact absurd k Bool.false_ne_true
    · rw [hp] at k; exact absurd k Bool.false_ne_true

/-! ## What a move of the outputs leaves -/

/-- `t` is `s` with outputs started, put in the queue or dropped: no fault latch of one changes. -/
structure State.MovesOutputs (s t : State) : Prop where
  io : s.OutputsOnly t
  belay : t.belay = s.belay
  banks : t.banks = s.banks
  supply : t.supply = s.supply
  now : t.now = s.now
  fault : ∀ p : Fin 16, t.io.outputs[p].fault = s.io.outputs[p].fault
  lastFault : ∀ p : Fin 16, t.io.outputs[p].lastFault = s.io.outputs[p].lastFault

theorem State.MovesOutputs.refl (s : State) : s.MovesOutputs s := ⟨.refl s, rfl, rfl, rfl, rfl, fun _ => rfl, fun _ => rfl⟩
theorem State.MovesOutputs.trans {s t u : State} (h : s.MovesOutputs t) (k : t.MovesOutputs u) : s.MovesOutputs u :=
  ⟨h.io.trans k.io, k.belay.trans h.belay, k.banks.trans h.banks, k.supply.trans h.supply, k.now.trans h.now,
    fun p => (k.fault p).trans (h.fault p), fun p => (k.lastFault p).trans (h.lastFault p)⟩
theorem State.MovesOutputs.of_io {s t : State} (hio : t.io = s.io) (hb : t.belay = s.belay) (hk : t.banks = s.banks) (hs : t.supply = s.supply)
    (hn : t.now = s.now) : s.MovesOutputs t := ⟨.of_io hio, hb, hk, hs, hn, fun p => by rw [hio], fun p => by rw [hio]⟩
theorem State.MovesOutputs.event {s t : State} (h : s.MovesOutputs t) (code source item : Nat) (data : List Byte) :
    s.MovesOutputs (t.event code source item data) := h.trans (.of_io (State.event_io ..) (State.event_belay ..) (State.event_banks ..)
      (State.event_supply ..) (State.event_now ..))
theorem State.MovesOutputs.irqRaise {s t : State} (h : s.MovesOutputs t) (n : Nat) : s.MovesOutputs (t.irqRaise n) :=
  h.trans (.of_io (State.irqRaise_io ..) (State.irqRaise_belay ..) (State.irqRaise_banks ..) (State.irqRaise_supply ..) (State.irqRaise_now ..))
theorem State.MovesOutputs.forEach {α : Type} {s : State} {l : List α} {f : State → α → State} (h : ∀ (t : State) a, t.MovesOutputs (f t a)) :
    s.MovesOutputs (s.forEach l f) := forEach_keeps (P := s.MovesOutputs) (fun t a ht => ht.trans (h t a)) s l (.refl s)

theorem State.modQ_same (s : State) (q : Fin 16) (f : Output → Output) : (s.modQ q f).io.outputs[q] = f s.io.outputs[q] := upd_get_same _ _ _
theorem State.modQ_other (s : State) {q p : Fin 16} (h : q ≠ p) (f : Output → Output) : (s.modQ q f).io.outputs[p] = s.io.outputs[p] :=
  upd_get_other _ _ h

theorem State.MovesOutputs.modQ (s : State) (q : Fin 16) {f : Output → Output} (hf : ∀ o, (f o).fault = o.fault)
    (hl : ∀ o, (f o).lastFault = o.lastFault) : s.MovesOutputs (s.modQ q f) := by
  refine ⟨.modQ s q f, rfl, rfl, rfl, rfl, fun p => ?_, fun p => ?_⟩ <;> by_cases hqp : q = p
  · subst hqp
    rw [State.modQ_same, hf]
  · rw [State.modQ_other _ hqp]
  · subst hqp
    rw [State.modQ_same, hl]
  · rw [State.modQ_other _ hqp]

theorem State.MovesOutputs.qCfg {s t : State} (h : s.MovesOutputs t) (q : Fin 16) : t.qCfg q = s.qCfg q := by
  simp only [State.qCfg, State.bval, State.committed, h.belay]
theorem State.MovesOutputs.qPowerPath {s t : State} (h : s.MovesOutputs t) (q : Fin 16) : t.qPowerPath q = s.qPowerPath q := by
  simp only [State.qPowerPath, h.qCfg]
theorem State.MovesOutputs.pairOf {s t : State} (h : s.MovesOutputs t) (q : Fin 16) : t.pairOf q = s.pairOf q := by
  simp only [State.pairOf, h.qCfg]
theorem State.MovesOutputs.poleOf {s t : State} (h : s.MovesOutputs t) (q p : Fin 16) : t.poleOf q p = s.poleOf q p := by
  simp only [State.poleOf, h.pairOf]
theorem State.MovesOutputs.isEvenPole {s t : State} (h : s.MovesOutputs t) (q : Fin 16) : t.isEvenPole q = s.isEvenPole q := by
  simp only [State.isEvenPole, h.pairOf]
theorem State.MovesOutputs.qClear {s t : State} (h : s.MovesOutputs t) (q : Fin 16) : t.qClear q = s.qClear q := by
  obtain ⟨o, ho⟩ := h.io
  have hbank : t.qBank q = s.qBank q := by simp only [State.qBank, h.qCfg]
  have hcfg (i : Fin 24) : t.inCfg i = s.inCfg i := by simp only [State.inCfg, State.bval, State.committed, h.belay]
  have hsm (m : Fin 8) : t.smCfg m = s.smCfg m := by simp only [State.smCfg, State.bval, State.committed, h.belay]
  have hreact (m : Fin 8) : t.smReaction m = s.smReaction m := by simp only [State.smReaction, State.smDegraded, h.belay, ho]
  have htrip (b : Fin 4) : t.bankTrip b = s.bankTrip b := by simp only [State.bankTrip, State.smTrip, h.banks, hsm, hreact]
  unfold State.qClear
  simp only [hbank, htrip, State.inUse, hcfg, hreact, hsm, h.supply, ho]
  rfl
theorem State.MovesOutputs.qPermitted {s t : State} (h : s.MovesOutputs t) (q : Fin 16) : t.qPermitted q = s.qPermitted q := by
  unfold State.qPermitted
  rw [h.pairOf, h.qClear, h.fault]
  cases s.pairOf q with
  | none => rfl
  | some p => simp only [h.fault]
theorem State.MovesOutputs.qMayStart {s t : State} (h : s.MovesOutputs t) (q : Fin 16) : t.qMayStart q = s.qMayStart q := by
  unfold State.qMayStart
  rw [h.pairOf, h.qPermitted]
  cases s.pairOf q with
  | none => rfl
  | some p => simp only [h.qPermitted]

/-! ## Dropping -/

theorem State.dropPole_moves (s : State) (q : Fin 16) (byRule : Bool) : s.MovesOutputs (s.dropPole q byRule) := by
  unfold State.dropPole
  dsimp only
  split
  · exact .refl s
  · split
    · split
      · exact .modQ s q (fun _ => rfl) fun _ => rfl
      · refine .event (.irqRaise (.modQ s q ?_ ?_) _) _ _ _ _
        · exact fun _ => rfl
        · exact fun _ => rfl
    · refine .event (.irqRaise (.modQ s q ?_ ?_) _) _ _ _ _
      · exact fun _ => rfl
      · exact fun _ => rfl

theorem State.dropPole_state (s : State) (q : Fin 16) (byRule : Bool) (p : Fin 16) :
    (s.dropPole q byRule).io.outputs[p].state = if p = q then .off else s.io.outputs[p].state := by
  have hmod (f : Output → Output) (hf : ∀ o, (f o).state = .off) :
      (s.modQ q f).io.outputs[p].state = if p = q then .off else s.io.outputs[p].state := by
    by_cases h : p = q
    · subst h
      rw [State.modQ_same, if_pos rfl, hf]
    · rw [State.modQ_other _ (Ne.symm h), if_neg h]
  unfold State.dropPole
  dsimp only
  split
  next hoff =>
    by_cases h : p = q
    · rw [if_pos h, h]
      exact hoff
    · rw [if_neg h]
  · split
    · split
      · exact hmod _ fun _ => rfl
      · simp only [State.event_io, State.irqRaise_io]
        exact hmod _ fun _ => rfl
    · simp only [State.event_io, State.irqRaise_io]
      exact hmod _ fun _ => rfl

theorem State.dropQ_moves (s : State) (q : Fin 16) (byRule : Bool) : s.MovesOutputs (s.dropQ q byRule) := by
  unfold State.dropQ
  dsimp only
  split
  · exact (s.dropPole_moves q byRule).trans (State.dropPole_moves _ _ _)
  · exact s.dropPole_moves q byRule

/-- A drop turns off the output and the other pole of its pair, and no other (12 R335). -/
theorem State.dropQ_state (s : State) (q : Fin 16) (byRule : Bool) (p : Fin 16) :
    (s.dropQ q byRule).io.outputs[p].state = if s.poleOf q p then .off else s.io.outputs[p].state := by
  unfold State.dropQ State.poleOf
  dsimp only
  split
  next r hr =>
    rw [State.dropPole_state, State.dropPole_state, hr]
    by_cases hpr : p = r
    · simp [hpr]
    · have hrp : r ≠ p := fun e => hpr e.symm
      simp [hpr, hrp]
  next hr =>
    rw [State.dropPole_state, hr]
    simp

/-! ## Starting and serving -/

/-- Starts the output that the queue serves, and the other pole of its pair (02 R56). -/
def State.startQ (s : State) (q : Fin 16) : State :=
  let t := (if s.qPowerPath q then s.consumeQPass q else s).startPole q
  match s.pairOf q with
  | some p => t.startPole p
  | none => t

theorem State.startPole_moves (s : State) (q : Fin 16) : s.MovesOutputs (s.startPole q) := by
  unfold State.startPole
  dsimp only
  refine .event (.irqRaise (.modQ s q ?_ ?_) _) _ _ _ _
  · exact fun _ => rfl
  · exact fun _ => rfl

theorem State.startPole_state (s : State) (q p : Fin 16) : (s.startPole q).io.outputs[p].state = if p = q then .pullIn else s.io.outputs[p].state := by
  unfold State.startPole
  dsimp only
  simp only [State.event_io, State.irqRaise_io]
  by_cases h : p = q
  · subst h
    rw [State.modQ_same, if_pos rfl]
  · rw [State.modQ_other _ (Ne.symm h), if_neg h]

theorem State.consumeQPass_moves (s : State) (q : Fin 16) : s.MovesOutputs (s.consumeQPass q) := by
  unfold State.consumeQPass
  split
  · refine .irqRaise (.modQ s q ?_ ?_) _
    · exact fun _ => rfl
    · exact fun _ => rfl
  · exact .refl s

theorem State.consumeQPass_state (s : State) (q p : Fin 16) : (s.consumeQPass q).io.outputs[p].state = s.io.outputs[p].state := by
  unfold State.consumeQPass
  split
  · simp only [State.irqRaise_io]
    by_cases h : q = p
    · subst h
      rw [State.modQ_same]
    · rw [State.modQ_other _ h]
  · rfl

theorem State.startQ_moves (s : State) (q : Fin 16) : s.MovesOutputs (s.startQ q) := by
  have hfirst : s.MovesOutputs ((if s.qPowerPath q then s.consumeQPass q else s).startPole q) := by
    refine State.MovesOutputs.trans ?_ (State.startPole_moves _ q)
    split
    · exact s.consumeQPass_moves q
    · exact .refl s
  unfold State.startQ
  dsimp only
  split
  · exact hfirst.trans (State.startPole_moves _ _)
  · exact hfirst

/-- The output served and the other pole of its pair begin their pull-in, no other (12 R333). -/
theorem State.startQ_state (s : State) (q p : Fin 16) :
    (s.startQ q).io.outputs[p].state = if s.poleOf q p then .pullIn else s.io.outputs[p].state := by
  have hfirst : ((if s.qPowerPath q then s.consumeQPass q else s).startPole q).io.outputs[p].state =
      if p = q then .pullIn else s.io.outputs[p].state := by
    rw [State.startPole_state]
    by_cases h : s.qPowerPath q = true
    · simp only [if_pos h, State.consumeQPass_state]
    · simp only [if_neg h]
  unfold State.startQ State.poleOf
  dsimp only
  split
  next r hr =>
    rw [State.startPole_state, hfirst, hr]
    by_cases hpr : p = r
    · simp [hpr]
    · have hrp : r ≠ p := fun e => hpr e.symm
      simp [hpr, hrp]
  next hr =>
    rw [hfirst, hr]
    simp

theorem State.unwaitPole_moves (s : State) (q : Fin 16) : s.MovesOutputs (s.unwaitPole q) := .modQ s q (fun _ => rfl) fun _ => rfl

theorem State.unwaitPole_state (s : State) (q p : Fin 16) :
    (s.unwaitPole q).io.outputs[p].state = if p = q ∧ s.io.outputs[p].state = .waiting then .off else s.io.outputs[p].state := by
  unfold State.unwaitPole
  by_cases h : p = q
  · subst h
    rw [State.modQ_same]
    simp
  · rw [State.modQ_other _ (Ne.symm h), if_neg fun k => h k.1]

theorem State.unwaitQ_moves (s : State) (q : Fin 16) : s.MovesOutputs (s.unwaitQ q) := by
  unfold State.unwaitQ
  dsimp only
  split
  · exact (s.unwaitPole_moves q).trans (State.unwaitPole_moves _ _)
  · exact s.unwaitPole_moves q

/-- A request that ends in the queue leaves what is not its own, and what does not wait. -/
theorem State.unwaitQ_state (s : State) (q p : Fin 16) : (s.unwaitQ q).io.outputs[p].state = s.io.outputs[p].state ∨
    s.poleOf q p = true ∧ s.io.outputs[p].state = .waiting ∧ (s.unwaitQ q).io.outputs[p].state = .off := by
  unfold State.unwaitQ State.poleOf
  dsimp only
  split
  next r hr =>
    rw [State.unwaitPole_state, State.unwaitPole_state, hr]
    by_cases hpr : p = r <;> by_cases hpq : p = q <;> by_cases hw : s.io.outputs[p].state = .waiting <;> simp_all
  next hr =>
    rw [State.unwaitPole_state, hr]
    by_cases hpq : p = q <;> by_cases hw : s.io.outputs[p].state = .waiting <;> simp_all

/-- The queue serves `q` next: it waits, and is no even pole. -/
def State.Servable (s : State) (q : Fin 16) : Prop := s.io.outputs[q].state = .waiting ∧ s.isEvenPole q = false

/-- What every start and every discarded request keeps, the queue keeps. -/
theorem serveQ_keeps {P : State → Prop} (hunwait : ∀ t q, P t → t.Servable q → t.qPowerPath q = true → P (t.unwaitQ q))
    (hstart : ∀ t q, P t → t.Servable q → P (t.startQ q)) (n : Nat) {s : State} (hs : P s) : P (State.serveQ n s) := by
  induction n generalizing s with
  | zero => exact hs
  | succ n ih =>
    unfold State.serveQ
    split
    · exact hs
    next q hfind =>
      have hq := List.find?_some hfind
      simp only [Bool.and_eq_true, decide_eq_true_eq, Bool.not_eq_true'] at hq
      dsimp only
      split
      next hpass => exact ih (hunwait s q hs hq (Bool.and_eq_true_iff.mp hpass).1)
      · by_cases hfree : s.pullIns + (if (s.pairOf q).isSome = true then 2 else 1) ≤ 4
        · rw [if_pos hfree]
          exact ih (hstart s q hs hq)
        · rw [if_neg hfree]
          exact hs

theorem State.serveQ_moves (n : Nat) (s : State) : s.MovesOutputs (State.serveQ n s) :=
  serveQ_keeps (P := s.MovesOutputs) (fun t q h _ _ => h.trans (t.unwaitQ_moves q)) (fun t q h _ => h.trans (t.startQ_moves q)) n (.refl s)

theorem State.enforceOutputs_moves (s : State) : s.MovesOutputs s.enforceOutputs := by
  refine State.MovesOutputs.trans (.forEach fun t q => ?_) (State.serveQ_moves 16 _)
  split
  · exact t.dropQ_moves q true
  · exact .refl t

/-! ## An output that is down -/

/-- The output and the other pole of its pair are off. -/
def State.Down (s : State) (q : Fin 16) : Prop := ∀ p, s.poleOf q p = true → s.io.outputs[p].state = .off

theorem State.Down.off {s : State} {q : Fin 16} (h : s.Down q) : s.io.outputs[q].state = .off := h q (s.poleOf_self q)

theorem State.dropQ_down (s : State) (q : Fin 16) (byRule : Bool) : (s.dropQ q byRule).Down q := fun p hp => by
  rw [State.dropQ_state, if_pos (by rwa [(s.dropQ_moves q byRule).poleOf] at hp)]

theorem State.Down.dropQ {s : State} {q : Fin 16} (h : s.Down q) (r : Fin 16) (byRule : Bool) : (s.dropQ r byRule).Down q := fun p hp => by
  rw [(s.dropQ_moves r byRule).poleOf] at hp
  rw [State.dropQ_state]
  split
  · rfl
  · exact h p hp

theorem State.Down.unwaitQ {s : State} {q : Fin 16} (h : s.Down q) (r : Fin 16) : (s.unwaitQ r).Down q := fun p hp => by
  rw [(s.unwaitQ_moves r).poleOf] at hp
  rcases s.unwaitQ_state r p with k | ⟨-, -, k⟩
  · rw [k]
    exact h p hp
  · exact k

/-- What is served waits, so it is no pole of an output that is down. -/
theorem State.Down.startQ {s : State} {q r : Fin 16} (h : s.Down q) (hr : s.io.outputs[r].state ≠ .off) : (s.startQ r).Down q := fun p hp => by
  rw [(s.startQ_moves r).poleOf] at hp
  rw [State.startQ_state, if_neg fun k => hr (h r (State.poleOf_trans hp (State.poleOf_symm k)))]
  exact h p hp

theorem State.Down.serveQ {s : State} {q : Fin 16} (h : s.Down q) (n : Nat) : (State.serveQ n s).Down q :=
  serveQ_keeps (P := fun t => t.Down q) (fun _ r ht _ _ => ht.unwaitQ r) (fun _ r ht hr => ht.startQ (by rw [hr.1]; decide)) n h

theorem State.Down.enforceOutputs {s : State} {q : Fin 16} (h : s.Down q) : s.enforceOutputs.Down q := by
  refine State.Down.serveQ (forEach_keeps (P := fun t => t.Down q) (fun t r ht => ?_) s allQ h) 16
  split
  · exact ht.dropQ r true
  · exact ht

theorem State.Down.of_io {s t : State} {q : Fin 16} (h : s.Down q) (hio : t.io = s.io) (hb : t.belay = s.belay) : t.Down q := fun p hp => by
  rw [hio]
  refine h p ?_
  have hcfg (r : Fin 16) : t.qCfg r = s.qCfg r := by simp only [State.qCfg, State.bval, State.committed, hb]
  rw [State.poleOf_iff, ← hcfg, ← State.poleOf_iff]
  exact hp

/-! ## A request for the outputs -/

/-- What `Q_REQUEST` does at one output (12 R335). -/
def State.requestRound (v : Nat) (s : State) (q : Fin 16) : State :=
  let on := v.testBit q.val
  if s.qPowerPath q || s.isEvenPole q then (if on then s.event 0x7016 blockObj (q.val + 1) else s)
  else if !on then (s.dropQ q).enforceOutputs
  else if s.io.outputs[q].state ≠ .off then s
  else if s.qMayStart q then s.requestQ q
  else s.event 0x7016 blockObj (q.val + 1)

/-- The output and the other pole of its pair put in the queue (02 R56). -/
def State.queueQ (s : State) (q : Fin 16) : State :=
  let t := s.modQ q fun o => { o with state := .waiting }
  match s.pairOf q with
  | some p => t.modQ p fun o => { o with state := .waiting }
  | none => t

theorem State.requestQ_eq (s : State) (q : Fin 16) : s.requestQ q = State.serveQ 16 (s.queueQ q) := rfl

theorem State.MovesOutputs.setState (s : State) (q : Fin 16) (st : QState) : s.MovesOutputs (s.modQ q fun o => { o with state := st }) :=
  .modQ s q (fun _ => rfl) fun _ => rfl

theorem State.setState_state (s : State) (q : Fin 16) (st : QState) (p : Fin 16) :
    (s.modQ q fun o => { o with state := st }).io.outputs[p].state = if p = q then st else s.io.outputs[p].state := by
  by_cases h : p = q
  · subst h
    rw [State.modQ_same, if_pos rfl]
  · rw [State.modQ_other _ (Ne.symm h), if_neg h]

theorem State.queueQ_moves (s : State) (q : Fin 16) : s.MovesOutputs (s.queueQ q) := by
  unfold State.queueQ
  dsimp only
  split
  · exact (State.MovesOutputs.setState s q .waiting).trans (.setState _ _ .waiting)
  · exact .setState s q .waiting

theorem State.queueQ_state (s : State) (q p : Fin 16) :
    (s.queueQ q).io.outputs[p].state = if s.poleOf q p then .waiting else s.io.outputs[p].state := by
  unfold State.queueQ State.poleOf
  dsimp only
  split
  next r hr =>
    rw [State.setState_state, State.setState_state, hr]
    by_cases hpr : p = r
    · simp [hpr]
    · have hrp : r ≠ p := fun e => hpr e.symm
      simp [hpr, hrp]
  next hr =>
    rw [State.setState_state, hr]
    simp

theorem State.requestRound_moves (v : Nat) (s : State) (q : Fin 16) : s.MovesOutputs (s.requestRound v q) := by
  unfold State.requestRound
  dsimp only
  split
  · split
    · exact .event (.refl s) _ _ _ _
    · exact .refl s
  · split
    · exact (s.dropQ_moves q false).trans (State.enforceOutputs_moves _)
    · split
      · exact .refl s
      · split
        · rw [State.requestQ_eq]
          exact (s.queueQ_moves q).trans (State.serveQ_moves 16 _)
        · exact .event (.refl s) _ _ _ _

/-- An output that is down is left so by the round of another one that is no pole of its pair, or that only drops. -/
theorem State.Down.requestRound {s : State} {q r : Fin 16} (h : s.Down q) (hq : s.isEvenPole q = false) {v : Nat}
    (hr : r ≠ q ∨ v.testBit r.val = false) : (s.requestRound v r).Down q := by
  unfold State.requestRound
  dsimp only
  split
  · split
    · exact h.of_io (State.event_io ..) (State.event_belay ..)
    · exact h
  next hreq =>
    split
    · exact (h.dropQ r false).enforceOutputs
    next hon =>
      split
      · exact h
      · split
        · rw [State.requestQ_eq]
          refine State.Down.serveQ (fun p hp => ?_) 16
          rw [(s.queueQ_moves r).poleOf] at hp
          have hne : r ≠ q := hr.resolve_right fun k => hon (by rw [k]; rfl)
          have hr' : s.isEvenPole r = false := Bool.eq_false_of_not_eq_true fun k => hreq (by rw [k, Bool.or_true])
          rw [State.queueQ_state, if_neg fun k => hne (State.eq_of_poleOf (State.poleOf_trans hp (State.poleOf_symm k)) hq hr')]
          exact h p hp
        · exact h.of_io (State.event_io ..) (State.event_belay ..)

/-- An output whose request fell is down after the request (12 R335). -/
theorem State.requestRounds_down {v : Nat} {s : State} {q : Fin 16} (hp : s.qPowerPath q = false) (he : s.isEvenPole q = false)
    (hv : v.testBit q.val = false) : (s.forEach allQ (State.requestRound v)).Down q := by
  refine forEach_sets (I := s.MovesOutputs) (P := fun t => t.Down q) (fun t r ht => ht.trans (t.requestRound_moves v r)) (fun t ht => ?_)
    (fun t r hr ht hdown => hdown.requestRound (by rw [ht.isEvenPole, he]) (.inl hr)) (List.mem_finRange q) (.refl s)
  unfold State.requestRound
  dsimp only
  rw [ht.qPowerPath, ht.isEvenPole, hp, he, hv, Bool.or_self, if_neg Bool.false_ne_true, if_pos (by rfl)]
  exact (t.dropQ_down q false).enforceOutputs

/-- A permitted output that is not off is left so while others are started or dropped. -/
theorem serveQ_on {n : Nat} {s : State} {q : Fin 16} (hp : s.qPowerPath q = false) (he : s.isEvenPole q = false)
    (h : s.io.outputs[q].state ≠ .off) : (State.serveQ n s).io.outputs[q].state ≠ .off := by
  refine (serveQ_keeps (P := fun t => s.MovesOutputs t ∧ t.io.outputs[q].state ≠ .off) (fun t r ⟨ht, hon⟩ hr hpp => ⟨ht.trans (t.unwaitQ_moves r), ?_⟩)
    (fun t r ⟨ht, hon⟩ _ => ⟨ht.trans (t.startQ_moves r), ?_⟩) n ⟨.refl s, h⟩).2
  · rcases t.unwaitQ_state r q with k | ⟨hpole, -, -⟩
    · rw [k]
      exact hon
    · have hrq := State.eq_of_poleOf hpole hr.2 (by rw [ht.isEvenPole, he])
      rw [← hrq, ht.qPowerPath, hp] at hpp
      exact absurd hpp Bool.false_ne_true
  · rw [State.startQ_state]
    split
    · exact QState.noConfusion
    · exact hon

/-- An output that may be energised has every pole of its pair permitted (12 R334, R335). -/
theorem State.qMayStart_permits {s : State} {q p : Fin 16} (h : s.qMayStart q = true) (hp : s.poleOf p q = true) : s.qPermitted p = true := by
  have hpole := State.poleOf_symm hp
  unfold State.qMayStart at h
  obtain ⟨hself, hother⟩ := Bool.and_eq_true_iff.mp h
  rcases (Bool.or_eq_true _ _).mp hpole with k | k
  · rw [of_decide_eq_true k]
    exact hself
  · rw [of_decide_eq_true k] at hother
    exact hother

/-- The outputs whose permission has lapsed, dropped (12 R334). -/
def State.dropLapsed (s : State) : State := s.forEach allQ fun s q => if s.io.outputs[q].state ≠ .off && !s.qPermitted q then s.dropQ q true else s

theorem State.enforceOutputs_eq (s : State) : s.enforceOutputs = State.serveQ 16 s.dropLapsed := rfl

theorem enforceOutputs_on {s : State} {q : Fin 16} (hp : s.qPowerPath q = false) (he : s.isEvenPole q = false) (hm : s.qMayStart q = true)
    (h : s.io.outputs[q].state ≠ .off) : s.enforceOutputs.io.outputs[q].state ≠ .off := by
  have hdrops : s.MovesOutputs s.dropLapsed ∧ s.dropLapsed.io.outputs[q].state ≠ .off := by
    unfold State.dropLapsed
    refine forEach_keeps (P := fun t => s.MovesOutputs t ∧ t.io.outputs[q].state ≠ .off) (fun t r ⟨ht, hon⟩ => ?_) s allQ ⟨.refl s, h⟩
    split
    next hdrop =>
      refine ⟨ht.trans (t.dropQ_moves r true), ?_⟩
      rw [State.dropQ_state, if_neg fun k => ?_]
      · exact hon
      · have hperm := State.qMayStart_permits (p := r) (by rw [ht.qMayStart]; exact hm) k
        rw [hperm, Bool.not_true, Bool.and_false] at hdrop
        exact Bool.false_ne_true hdrop
    · exact ⟨ht, hon⟩
  rw [State.enforceOutputs_eq]
  exact serveQ_on (by rw [hdrops.1.qPowerPath]; exact hp) (by rw [hdrops.1.isEvenPole]; exact he) hdrops.2

/-- The round of another output leaves a permitted one that is not off, and one that is off. -/
theorem State.requestRound_on {v : Nat} {s : State} {q r : Fin 16} (hp : s.qPowerPath q = false) (he : s.isEvenPole q = false)
    (hm : s.qMayStart q = true) (hr : r ≠ q) (h : s.io.outputs[q].state ≠ .off) : (s.requestRound v r).io.outputs[q].state ≠ .off := by
  unfold State.requestRound
  dsimp only
  split
  · split
    · simp only [State.event_io]
      exact h
    · exact h
  next hreq =>
    have hr' : s.isEvenPole r = false := Bool.eq_false_of_not_eq_true fun k => hreq (by rw [k, Bool.or_true])
    have hpole : ¬s.poleOf r q = true := fun k => hr (State.eq_of_poleOf k hr' he).symm
    split
    · have hmoves := s.dropQ_moves r false
      refine enforceOutputs_on (by rw [hmoves.qPowerPath, hp]) (by rw [hmoves.isEvenPole, he]) (by rw [hmoves.qMayStart, hm]) ?_
      rw [State.dropQ_state, if_neg hpole]
      exact h
    · split
      · exact h
      · split
        · have hmoves := s.queueQ_moves r
          rw [State.requestQ_eq]
          refine serveQ_on (by rw [hmoves.qPowerPath, hp]) (by rw [hmoves.isEvenPole, he]) ?_
          rw [State.queueQ_state, if_neg hpole]
          exact h
        · simp only [State.event_io]
          exact h

/-- A permitted output that is asked for is not off after the request (12 R335). -/
theorem State.requestRounds_on {v : Nat} {s : State} {q : Fin 16} (hp : s.qPowerPath q = false) (he : s.isEvenPole q = false)
    (hm : s.qMayStart q = true) (hv : v.testBit q.val = true) : (s.forEach allQ (State.requestRound v)).io.outputs[q].state ≠ .off := by
  refine forEach_sets (I := s.MovesOutputs) (P := fun t => t.io.outputs[q].state ≠ .off) (fun t r ht => ht.trans (t.requestRound_moves v r))
    (fun t ht => ?_) (fun t r hr ht hon => State.requestRound_on (by rw [ht.qPowerPath, hp]) (by rw [ht.isEvenPole, he]) (by rw [ht.qMayStart, hm]) hr hon)
    (List.mem_finRange q) (.refl s)
  have hmoves := t.queueQ_moves q
  unfold State.requestRound
  dsimp only
  rw [ht.qPowerPath, ht.isEvenPole, hp, he, hv, Bool.or_self, if_neg Bool.false_ne_true, if_neg (by decide)]
  by_cases hon : t.io.outputs[q].state ≠ .off
  · rw [if_pos hon]
    exact hon
  · rw [if_neg hon, if_pos (by rw [ht.qMayStart]; exact hm), State.requestQ_eq]
    refine serveQ_on (by rw [hmoves.qPowerPath, ht.qPowerPath, hp]) (by rw [hmoves.isEvenPole, ht.isEvenPole, he]) ?_
    rw [State.queueQ_state, if_pos (t.poleOf_self q)]
    exact QState.noConfusion

theorem execQRequest_moves {s : State} {src : Src} {v : Nat} (ha : s.admits src blockObj 0x015B (u16 v)) : ∃ t, exec (.qRequest src v) s = .next t ∧
    t.lastSent = some (.writeReply src blockObj 0x015B 2) ∧ ∀ q, s.qPowerPath q = false → s.isEvenPole q = false →
      (v.testBit q.val = false → t.io.outputs[q].state = .off) ∧
      (v.testBit q.val = true → s.io.outputs[q].state = .off → s.qMayStart q = true → t.io.outputs[q].state ≠ .off) := by
  have hstart : s.MovesOutputs ((s.taken src blockObj 0x015B).setVal blockObj 0x015B 0 v) := by
    refine .of_io ?_ ?_ ?_ ?_ ?_
    · rw [State.setVal_io, State.taken_io]
    · rw [State.setVal_belay, State.taken_belay]
    · rw [State.setVal_banks, State.taken_banks]
    · rw [State.setVal_supply, State.taken_supply]
    · rw [State.setVal_now, State.taken_now]
  obtain ⟨t, hexec, hsent, hblank⟩ := exec_plain (c := .qRequest src v) (src := src) (index := blockObj) (sub := 0x015B)
    (data := u16 v) (apply := fun _ s => s.applyQRequest v) (v := ((s.taken src blockObj 0x015B).setVal blockObj 0x015B 0 v).forEach allQ (State.requestRound v)) rfl ha fun _ _ => rfl
  have hio := same_of_blank (p := .io) hblank rfl
  simp only [same] at hio
  refine ⟨t, hexec, hsent, fun q hp he => ⟨fun hv => ?_, fun hv _ hm => ?_⟩⟩
  · rw [hio]
    exact (State.requestRounds_down (by rw [hstart.qPowerPath, hp]) (by rw [hstart.isEvenPole, he]) hv).off
  · rw [hio]
    exact State.requestRounds_on (by rw [hstart.qPowerPath, hp]) (by rw [hstart.isEvenPole, he]) (by rw [hstart.qMayStart, hm]) hv

/-! ## Energise passes, drops and clears -/

theorem entryOf_qEnergise : entryOf blockObj 0x015A = some ⟨0x2000, 1, 0x015A, 1, 1, 1, .num, false, .xs, [(1, 16)], [0]⟩ := by decide

theorem execQEnergise_pass {s : State} {h : SealHead} {v : Nat} (h1 : 1 ≤ v) (h16 : v ≤ 16) (hm : s.mode.block ≠ .baseCamp) (hp : s.supply.pfw = false)
    (ha : s.admitsSealed (h.one blockObj 0x015A (u8 v))) : ∃ t p, exec (.qEnergise h v) s = .next t ∧
    t.belay.privQ = s.belay.privQ ++ [.pass p] ∧ p.kind = .energise ∧ p.target = 0x40 + v ∧ p.counter = h.counter ∧ p.check = p.checkOf ∧ t.io = s.io := by
  have hrange : ∀ v : Fin 17, 1 ≤ v.val → EntryRow.rangeOk ⟨0x2000, 1, 0x015A, 1, 1, 1, .num, false, .xs, [(1, 16)], [0]⟩ (u8 v.val) = true := by decide
  obtain ⟨t, hexec, hq, -, -, -, hio⟩ := exec_passRequest (c := .qEnergise h v) rfl ha
    (State.firstBad_one entryOf_qEnergise (by simp [State.lengthOk, EntryRow.size, u8, beBytes_length]) (hrange ⟨v, by omega⟩ h1)) hm hp
  exact ⟨t, _, hexec, hq, rfl, rfl, rfl, rfl, hio⟩

theorem execQDrop_drops {s : State} {src : Src} {v : Nat} (ha : s.admits src blockObj 0x015C (u16 v)) : ∃ t, exec (.qDrop src v) s = .next t ∧
    t.lastSent = some (.writeReply src blockObj 0x015C 2) ∧ ∀ q : Fin 16, v.testBit q.val = true → t.io.outputs[q].state = .off := by
  obtain ⟨t, hexec, hsent, hblank⟩ := exec_plain (c := .qDrop src v) (apply := fun _ s => s.applyQDrop v) rfl ha fun _ _ => rfl
  have hio := same_of_blank (p := .io) hblank rfl
  simp only [same] at hio
  refine ⟨t, hexec, hsent, fun q hv => ?_⟩
  rw [hio]
  refine (State.Down.enforceOutputs ?_).off
  refine forEach_sets (I := fun _ => True) (P := fun t => t.Down q) (fun _ _ _ => trivial) (fun t _ => ?_) (fun t r _ _ hdown => ?_)
    (List.mem_finRange q) trivial
  · rw [if_pos hv]
    exact t.dropQ_down q false
  · split
    · exact hdown.dropQ r false
    · exact hdown

/-- What `Q_CLEAR` does at one output (12 R339). -/
def State.clearQ (v : Nat) (s : State) (q : Fin 16) : State :=
  let pair := s.pairOf q
  let latched := s.io.outputs[q].fault.isSome || (match pair with | some p => s.io.outputs[p].fault.isSome | none => false)
  if v.testBit q.val && latched && s.readsLow q && (match pair with | some p => s.readsLow p | none => true) then
    let t := s.modQ q fun o => { o with fault := none }
    let t := match pair with | some p => t.modQ p fun o => { o with fault := none } | none => t
    t.event 0x7015 blockObj (q.val + 1)
  else s

/-- Two states whose outputs differ in no more than fault latches that are gone. -/
structure State.ClearsOutputs (s t : State) : Prop where
  belay : t.belay = s.belay
  now : t.now = s.now
  lowSince : ∀ p : Fin 16, t.io.outputs[p].lowSince = s.io.outputs[p].lowSince
  fault : ∀ p : Fin 16, t.io.outputs[p].fault = s.io.outputs[p].fault ∨ t.io.outputs[p].fault = none

theorem State.ClearsOutputs.refl (s : State) : s.ClearsOutputs s := ⟨rfl, rfl, fun _ => rfl, fun _ => .inl rfl⟩
theorem State.ClearsOutputs.trans {s t u : State} (h : s.ClearsOutputs t) (k : t.ClearsOutputs u) : s.ClearsOutputs u := by
  refine ⟨k.belay.trans h.belay, k.now.trans h.now, fun p => (k.lowSince p).trans (h.lowSince p), fun p => ?_⟩
  rcases k.fault p with hk | hk
  · rw [hk]
    exact h.fault p
  · exact .inr hk
theorem State.ClearsOutputs.event {s t : State} (h : s.ClearsOutputs t) (code source item : Nat) (data : List Byte) :
    s.ClearsOutputs (t.event code source item data) := by
  refine h.trans ⟨State.event_belay .., State.event_now .., fun p => ?_, fun p => .inl ?_⟩ <;> rw [State.event_io]
theorem State.ClearsOutputs.modQ (s : State) (q : Fin 16) : s.ClearsOutputs (s.modQ q fun o => { o with fault := none }) := by
  refine ⟨rfl, rfl, fun p => ?_, fun p => ?_⟩ <;> by_cases h : q = p
  · subst h
    rw [State.modQ_same]
  · rw [State.modQ_other _ h]
  · subst h
    rw [State.modQ_same]
    exact .inr rfl
  · rw [State.modQ_other _ h]
    exact .inl rfl

theorem State.clearQ_clears (v : Nat) (s : State) (q : Fin 16) : s.ClearsOutputs (s.clearQ v q) := by
  unfold State.clearQ
  dsimp only
  generalize s.pairOf q = pair
  cases pair with
  | none =>
    dsimp only
    split
    · exact (State.ClearsOutputs.modQ s q).event _ _ _ _
    · exact .refl s
  | some p =>
    dsimp only
    split
    · exact ((State.ClearsOutputs.modQ s q).trans (.modQ _ p)).event _ _ _ _
    · exact .refl s

/-- An unpaired output that reads low is clear of its latch after its round (12 R339). -/
theorem State.clearQ_clear {v : Nat} {s : State} {q : Fin 16} (hv : v.testBit q.val = true) (hp : s.pairOf q = none) (hl : s.readsLow q = true) :
    (s.clearQ v q).io.outputs[q].fault = none := by
  unfold State.clearQ
  rw [hp, hv, hl]
  dsimp only
  simp only [Bool.or_false, Bool.true_and, Bool.and_true]
  by_cases hf : s.io.outputs[q].fault.isSome = true
  · simp only [if_pos hf, State.event_io]
    rw [State.modQ_same]
  · simp only [if_neg hf]
    exact Option.not_isSome_iff_eq_none.mp hf

theorem execQClear_clears {s : State} {src : Src} {v : Nat} (ha : s.admits src blockObj 0x015D (u16 v)) : ∃ t, exec (.qClear src v) s = .next t ∧
    t.lastSent = some (.writeReply src blockObj 0x015D 2) ∧ ∀ q : Fin 16, v.testBit q.val = true → s.pairOf q = none → s.readsLow q = true →
      t.io.outputs[q].fault = none := by
  obtain ⟨t, hexec, hsent, hblank⟩ := exec_plain (c := .qClear src v) (apply := fun _ s => s.applyQClear v)
    (v := (s.taken src blockObj 0x015D).forEach allQ (State.clearQ v)) rfl ha fun _ _ => rfl
  have hio := same_of_blank (p := .io) hblank rfl
  simp only [same] at hio
  have hstart : s.ClearsOutputs (s.taken src blockObj 0x015D) := by
    refine ⟨State.taken_belay .., State.taken_now .., fun p => ?_, fun p => .inl ?_⟩ <;> rw [State.taken_io]
  refine ⟨t, hexec, hsent, fun q hv hp hl => ?_⟩
  rw [hio]
  refine forEach_sets (I := s.ClearsOutputs) (P := fun t => t.io.outputs[q].fault = none) (fun t r ht => ht.trans (t.clearQ_clears v r)) (fun t ht => ?_)
    (fun t r _ _ hnone => ?_) (List.mem_finRange q) hstart
  · refine State.clearQ_clear hv ?_ ?_
    · have hcfg (r : Fin 16) : t.qCfg r = s.qCfg r := by simp only [State.qCfg, State.bval, State.committed, ht.belay]
      rw [← hp]
      simp only [State.pairOf, hcfg]
    · rw [← hl]
      simp only [State.readsLow, ht.lowSince, ht.now] <;> rfl
  · exact ((t.clearQ_clears v r).fault q).elim (fun h => h.trans hnone) id

/-! ## The end of a pull-in -/

/-- An energised output stays energised while the queue is served; in hold it stays so where no pair starts it again. -/
theorem serveQ_hold {n : Nat} {s : State} {q : Fin 16} (h : s.io.outputs[q].state = .hold) :
    (State.serveQ n s).io.outputs[q].state.energised = true ∧ (s.pairOf q = none → (State.serveQ n s).io.outputs[q].state = .hold) := by
  constructor
  · refine serveQ_keeps (P := fun t => t.io.outputs[q].state.energised = true) (fun t r hon _ _ => ?_) (fun t r hon _ => ?_) n (by rw [h]; rfl)
    · rcases t.unwaitQ_state r q with k | ⟨-, hw, -⟩
      · rw [k]
        exact hon
      · rw [hw] at hon
        exact absurd hon Bool.false_ne_true
    · rw [State.startQ_state]
      split
      · rfl
      · exact hon
  · intro hp
    refine (serveQ_keeps (P := fun t => s.MovesOutputs t ∧ t.io.outputs[q].state = .hold) (fun t r ⟨ht, hold⟩ _ _ => ⟨ht.trans (t.unwaitQ_moves r), ?_⟩)
      (fun t r ⟨ht, hold⟩ hr => ⟨ht.trans (t.startQ_moves r), ?_⟩) n ⟨.refl s, h⟩).2
    · rcases t.unwaitQ_state r q with k | ⟨-, hw, -⟩
      · rw [k, hold]
      · rw [hw] at hold
        exact QState.noConfusion hold
    · rw [State.startQ_state]
      split
      next hpole =>
        have hback := State.poleOf_symm hpole
        rcases (Bool.or_eq_true _ _).mp hback with k | k
        · have hrq := of_decide_eq_true k
          rw [hrq] at hr
          exact QState.noConfusion (hr.1.symm.trans hold)
        · rw [ht.pairOf, hp] at k
          exact absurd k (by simp)
      · exact hold

theorem execPullInEnd_holds {s : State} {q : Fin 16} (hs : s.io.outputs[q].state = .pullIn) (hat : s.io.outputs[q].pullAt + ms 200 ≤ s.now) :
    ∃ t, exec (.pullInEnd q) s = .next t ∧ t.io.outputs[q].state.energised = true ∧
      (s.pairOf q = none → t.io.outputs[q].state = .hold) ∧ t.io.inputs = s.io.inputs := by
  have hhold : (s.modQ q fun o => { o with state := .hold }).io.outputs[q].state = .hold := by rw [State.modQ_same]
  obtain ⟨o, ho⟩ := (State.serveQ_moves 16 (s.modQ q fun o => { o with state := .hold })).io
  refine ⟨_, congrArg Host.Outcome.next (if_pos ?_), (serveQ_hold hhold).1, fun hp => (serveQ_hold hhold).2 ?_, ?_⟩
  · rw [hs, decide_eq_true hat]
    rfl
  · rw [(State.MovesOutputs.setState s q .hold).pairOf, hp]
  · rw [ho]
    rfl

/-! ## Read-back faults -/

/-- One output latched with a code (12 R338). -/
def Output.latch (code seen : Nat) (o : Output) : Output :=
  { o with fault := some code, lastFault := code, faults := sat32 o.faults, seen := o.seen ||| seen }

/-- The poles that a read-back fault latches: the other one with code PAIR (12 R338). -/
def State.latchPoles (s : State) (q : Fin 16) (code : Nat) : State :=
  let t := s.modQ q (Output.latch code (if code = 4 then 2 else 4))
  match s.pairOf q with
  | some p => if t.io.outputs[p].fault.isNone then t.modQ p (Output.latch 5 0) else t
  | none => t

theorem State.faultQ_eq (s : State) (q : Fin 16) (code : Nat) : s.faultQ q code = State.enforceOutputs
    ((((((s.latchPoles q code).irqRaise 63).event (if code = 4 then 0x7013 else 0x7012) blockObj (q.val + 1) (u8 code)).dropQ q).modQ q
      fun o => { o with lowSince := some s.now })) := by
  unfold State.faultQ State.latchPoles
  cases s.pairOf q <;> rfl

theorem State.latchPoles_latched (s : State) (q : Fin 16) (code : Nat) : s.OutputsOnly (s.latchPoles q code) ∧
    (s.latchPoles q code).io.outputs[q].fault = some code ∧ (s.latchPoles q code).io.outputs[q].lastFault = code := by
  have hself : (s.modQ q (Output.latch code (if code = 4 then 2 else 4))).io.outputs[q].fault = some code ∧
      (s.modQ q (Output.latch code (if code = 4 then 2 else 4))).io.outputs[q].lastFault = code := by
    rw [State.modQ_same]
    exact ⟨rfl, rfl⟩
  have honly := State.OutputsOnly.modQ s q (Output.latch code (if code = 4 then 2 else 4))
  unfold State.latchPoles
  dsimp only
  generalize s.modQ q (Output.latch code (if code = 4 then 2 else 4)) = t at hself honly ⊢
  split
  next p hp =>
    have hpq : p ≠ q := (State.pairOf_iff.mp hp).1
    split
    · rw [State.modQ_other _ hpq]
      exact ⟨honly.trans (.modQ _ p _), hself⟩
    · exact ⟨honly, hself⟩
  · exact ⟨honly, hself⟩

/-- A read-back fault latches with its code and turns the output off (12 R338). -/
theorem State.faultQ_faults (s : State) (q : Fin 16) (code : Nat) : s.OutputsOnly (s.faultQ q code) ∧ (s.faultQ q code).io.outputs[q].fault = some code ∧
    (s.faultQ q code).io.outputs[q].lastFault = code ∧ (s.faultQ q code).io.outputs[q].state = .off := by
  obtain ⟨honly, hfault, hlast⟩ := s.latchPoles_latched q code
  rw [State.faultQ_eq]
  generalize s.latchPoles q code = t at honly hfault hlast ⊢
  have htell : t.MovesOutputs ((t.irqRaise 63).event (if code = 4 then 0x7013 else 0x7012) blockObj (q.val + 1) (u8 code)) :=
    ((State.MovesOutputs.refl t).irqRaise 63).event _ _ _ _
  generalize (t.irqRaise 63).event (if code = 4 then 0x7013 else 0x7012) blockObj (q.val + 1) (u8 code) = u at htell ⊢
  have hdown := u.dropQ_down q false
  have hlow : (u.dropQ q).MovesOutputs ((u.dropQ q).modQ q fun o => { o with lowSince := some s.now }) := .modQ _ q (fun _ => rfl) fun _ => rfl
  have hmoves := htell.trans ((u.dropQ_moves q false).trans (hlow.trans (State.enforceOutputs_moves _)))
  refine ⟨honly.trans hmoves.io, by rw [hmoves.fault, hfault], by rw [hmoves.lastFault, hlast], ?_⟩
  refine (State.Down.enforceOutputs fun p hp => ?_).off
  rw [hlow.poleOf] at hp
  by_cases hqp : q = p
  · subst hqp
    rw [State.modQ_same]
    exact hdown q hp
  · rw [State.modQ_other _ hqp]
    exact hdown p hp

theorem execOutputOffPulse_ends {s : State} {q : Fin 16} {t0 : Nat} {bad : Bool} (hs : s.io.outputs[q].state = .hold)
    (hp : s.io.outputs[q].pulse = some (t0, bad)) :
    exec (.outputOffPulse q true false) s = .next (s.modQ q fun o => { o with pulse := none }) ∧
    (∀ fell, s.now < t0 + us 300 → exec (.outputOffPulse q fell true) s = .next (s.modQ q fun o => { o with pulse := some (t0, true) })) ∧
    (bad = false → t0 + us 300 ≤ s.now → ∃ t, exec (.outputOffPulse q false false) s = .next t ∧ t.io.outputs[q].fault = some 3 ∧
      t.io.outputs[q].state = .off ∧ t.io.inputs = s.io.inputs) := by
  have hpulse (fell vqLow : Bool) : exec (.outputOffPulse q fell vqLow) s = .next (
      if fell && !vqLow then s.modQ q fun o => { o with pulse := none }
      else if s.now < t0 + us 300 then s.modQ q fun o => { o with pulse := some (t0, bad || vqLow) }
      else if bad || vqLow then s.modQ q fun o => { o with pulse := none }
      else s.faultQ q 3) := by
    change execOutputOffPulse q fell vqLow s = _
    unfold execOutputOffPulse
    simp only [hs, hp, ne_eq, not_true_eq_false, if_false] <;> rfl
  refine ⟨?_, fun fell hnow => ?_, fun hbad hnow => ?_⟩
  · rw [hpulse, if_pos (by rfl)]
  · rw [hpulse, if_neg (by rw [Bool.not_true, Bool.and_false]; exact Bool.false_ne_true), if_pos hnow, Bool.or_true]
  · obtain ⟨⟨o, ho⟩, hfault, -, hoff⟩ := s.faultQ_faults q 3
    refine ⟨_, by rw [hpulse, if_neg (by decide), if_neg (by omega), hbad, if_neg (by decide)], hfault, hoff, by rw [ho]⟩

/-- The condition of a read-back fault code (12 Table 12-9). -/
def State.readsBack (s : State) (q : Fin 16) (code : Fin 4) : Bool :=
  match code.val with
  | 0 => !s.io.outputs[q].state.energised
  | 1 => s.io.outputs[q].driven && decide (s.io.outputs[q].pullAt + ms 1 ≤ s.now)
  | 2 => (match s.io.outputs[q].pulse with | some (t0, bad) => !bad && decide (t0 + us 300 ≤ s.now) | none => false)
  | _ => s.io.outputs[q].state.energised

theorem State.readsBack_of {s : State} {q : Fin 16} {code : Fin 4} (h : match code.val with
      | 0 => s.io.outputs[q].state.energised = false
      | 1 => s.io.outputs[q].state.energised = true ∧ s.io.outputs[q].pulse = none ∧ s.io.outputs[q].pullAt + ms 1 ≤ s.now
      | 2 => ∃ t0, s.io.outputs[q].pulse = some (t0, false) ∧ t0 + us 300 ≤ s.now
      | _ => s.io.outputs[q].state.energised = true) : s.readsBack q code = true := by
  unfold State.readsBack
  match code, h with
  | 0, h => exact congrArg not h
  | 1, ⟨hon, hp, hat⟩ =>
    change (s.io.outputs[q].driven && decide (s.io.outputs[q].pullAt + ms 1 ≤ s.now)) = true
    rw [Output.driven, hon, hp, decide_eq_true hat]
    rfl
  | 2, ⟨t0, hp, hat⟩ =>
    rw [hp]
    exact decide_eq_true hat
  | 3, h => exact h

theorem execOutputReadbackFault_faults {s : State} {q : Fin 16} {code : Fin 4} (hmeets : s.readsBack q code = true) (hf : s.io.outputs[q].fault = none) :
    ∃ t, exec (.outputReadbackFault q code false) s = .next t ∧ t.io.outputs[q].fault = some (code.val + 1) ∧
      t.io.outputs[q].lastFault = code.val + 1 ∧ t.io.outputs[q].state = .off := by
  have hback : exec (.outputReadbackFault q code false) s = .next (if !s.readsBack q code || false then s
      else if s.io.outputs[q].fault.isNone then s.faultQ q (code.val + 1)
      else if code.val = 0 then s.modQ q fun o => { o with lowSince := some s.now }
      else s) := rfl
  have hexec : exec (.outputReadbackFault q code false) s = .next (s.faultQ q (code.val + 1)) := by
    rw [hback, hmeets, hf, if_neg (by decide), if_pos (by rfl)]
  obtain ⟨-, hfault, hlast, hoff⟩ := s.faultQ_faults q (code.val + 1)
  exact ⟨_, hexec, hfault, hlast, hoff⟩

theorem execOpenLoad_marks {s : State} {q : Fin 16} (below : Bool) (hs : s.io.outputs[q].state = .hold) : ∃ t, exec (.openLoad q below) s = .next t ∧
    t.io.outputs[q] = { s.io.outputs[q] with openLoad := below } ∧ ∀ p, p ≠ q → t.io.outputs[p] = s.io.outputs[p] := by
  have hload : exec (.openLoad q below) s = .next (if below then
      (if s.io.outputs[q].openLoad then s else (s.modQ q fun o => { o with openLoad := true }).event 0x7014 blockObj (q.val + 1))
      else s.modQ q fun o => { o with openLoad := false }) := congrArg Host.Outcome.next (if_neg fun h => h hs)
  refine ⟨_, hload, ?_⟩
  cases below with
  | false =>
    rw [if_neg Bool.false_ne_true]
    exact ⟨State.modQ_same .., fun p hp => State.modQ_other _ (Ne.symm hp) _⟩
  | true =>
    rw [if_pos rfl]
    by_cases ho : s.io.outputs[q].openLoad = true
    · rw [if_pos ho]
      refine ⟨?_, fun _ _ => rfl⟩
      generalize s.io.outputs[q] = o at ho
      cases o
      simp only at ho
      rw [ho]
    · rw [if_neg ho, State.event_io]
      exact ⟨State.modQ_same .., fun p hp => State.modQ_other _ (Ne.symm hp) _⟩

/-- Settles O15, one lemma to each command. -/
theorem safetyOutputs : Obligations.SafetyOutputs := by
  unfold Obligations.SafetyOutputs
  refine fun s => ⟨fun src v ha => execQRequest_moves ha, fun h v h1 h16 hm hp ha => execQEnergise_pass h1 h16 hm hp ha,
    fun src v ha => execQDrop_drops ha, fun src v ha => execQClear_clears ha, fun q hs hat => execPullInEnd_holds hs hat,
    fun q fell vq hs hp hphase => ?_, fun q t0 bad hs hp => execOutputOffPulse_ends hs hp, fun q code => ?_,
    fun q code hmeets hf => execOutputReadbackFault_faults (State.readsBack_of hmeets) hf, fun q below hs => execOpenLoad_marks below hs⟩
  · change execOutputOffPulse q fell vq s = _
    unfold execOutputOffPulse
    simp only [hs, hp, hphase, ne_eq, not_true_eq_false, if_false, if_true] <;> rfl
  · exact congrArg Host.Outcome.next (if_pos (Bool.or_true _))

end Sys2Proof.Machine

/-!
Safe streams (O16).
-/

namespace Sys2Proof.Machine

-- One thread per theorem would be more than the compiler's memory limit allows.
set_option Elab.async false

/-! ## What the work on one stream leaves -/

theorem State.modSm_same (s : State) (m : Fin 8) (f : Stream → Stream) : (s.modSm m f).io.streams[m] = f s.io.streams[m] := upd_get_same _ _ _
theorem State.modSm_other (s : State) {m k : Fin 8} (h : m ≠ k) (f : Stream → Stream) : (s.modSm m f).io.streams[k] = s.io.streams[k] :=
  upd_get_other _ _ h

/-- `t` differs from `s` in no belay record, no instant and no stream but `m`. -/
structure State.StreamOnly (m : Fin 8) (s t : State) : Prop where
  belay : t.belay = s.belay
  now : t.now = s.now
  other : ∀ k : Fin 8, m ≠ k → t.io.streams[k] = s.io.streams[k]

theorem State.StreamOnly.refl (m : Fin 8) (s : State) : s.StreamOnly m s := ⟨rfl, rfl, fun _ _ => rfl⟩
theorem State.StreamOnly.trans {m : Fin 8} {s t u : State} (h : State.StreamOnly m s t) (k : State.StreamOnly m t u) : State.StreamOnly m s u :=
  ⟨k.belay.trans h.belay, k.now.trans h.now, fun j hj => (k.other j hj).trans (h.other j hj)⟩
theorem State.StreamOnly.of_opens {m : Fin 8} {s t : State} (h : s.Opens t) : State.StreamOnly m s t := by
  obtain ⟨o, ho⟩ := h.io
  exact ⟨h.belay, h.now, fun k _ => by rw [ho]⟩
theorem State.StreamOnly.modSm (s : State) (m : Fin 8) (f : Stream → Stream) : State.StreamOnly m s (s.modSm m f) :=
  ⟨rfl, rfl, fun _ hk => State.modSm_other s hk f⟩
theorem State.StreamOnly.event {m : Fin 8} {s t : State} (h : State.StreamOnly m s t) (code source item : Nat) (data : List Byte) :
    State.StreamOnly m s (t.event code source item data) := h.trans (.of_opens (.event t ..))

theorem State.StreamOnly.bval {m : Fin 8} {s t : State} (h : State.StreamOnly m s t) (index sub element : Nat) :
    t.bval index sub element = s.bval index sub element := by
  simp only [State.bval, State.committed, h.belay]

theorem State.enterSm_only (s : State) (m : Fin 8) (st : SmState) : State.StreamOnly m s (s.enterSm m st) := by
  unfold State.enterSm
  split
  · exact .refl m s
  · dsimp only
    split
    · exact (State.StreamOnly.modSm s m _).event _ _ _ _
    · exact .modSm s m _

/-- A stream that enters a state keeps what it has accepted and what is pending. -/
theorem State.enterSm_stream (s : State) (m : Fin 8) (st : SmState) :
    ∃ d n, (s.enterSm m st).io.streams[m] = { s.io.streams[m] with state := st, degradedAt := d, seen := n } := by
  unfold State.enterSm
  by_cases h : s.io.streams[m].state = st
  · rw [if_pos h]
    exact ⟨_, _, by rw [← h]⟩
  · rw [if_neg h]
    dsimp only
    split
    · simp only [State.event_io]
      exact ⟨_, _, State.modSm_same ..⟩
    · exact ⟨_, _, State.modSm_same ..⟩

theorem State.enterSm_state (s : State) (m : Fin 8) (st : SmState) : (s.enterSm m st).io.streams[m].state = st := by
  obtain ⟨d, n, h⟩ := s.enterSm_stream m st
  rw [h]

/-- The state in which the reaction of a stream has been noted, before trips and outputs follow. -/
def State.noteReaction (s : State) (m : Fin 8) : State :=
  let r := s.smReaction m
  let t := if r && !s.io.streams[m].reaction then s.irqRaise 66 else s
  t.modSm m fun c => { c with reaction := r }

theorem State.followSm_eq (s : State) (m : Fin 8) : s.followSm m = (s.noteReaction m).enforceTrips := rfl

theorem State.noteReaction_stream (s : State) (m : Fin 8) : (s.noteReaction m).io.streams[m] = { s.io.streams[m] with reaction := s.smReaction m } := by
  unfold State.noteReaction
  dsimp only
  rw [State.modSm_same]
  split
  · simp only [State.irqRaise_io]
  · rfl

theorem State.noteReaction_only (s : State) (m : Fin 8) : State.StreamOnly m s (s.noteReaction m) := by
  unfold State.noteReaction
  dsimp only
  refine State.StreamOnly.trans ?_ (.modSm _ m _)
  split
  · exact .of_opens (.irqRaise s 66)
  · exact .refl m s

theorem State.followSm_only (s : State) (m : Fin 8) : State.StreamOnly m s (s.followSm m) := by
  rw [State.followSm_eq]
  exact (s.noteReaction_only m).trans (.of_opens (State.enforceTrips_opens _))

/-- What follows from a stream's reaction changes nothing else of the stream. -/
theorem State.followSm_stream (s : State) (m : Fin 8) : (s.followSm m).io.streams[m] = { s.io.streams[m] with reaction := s.smReaction m } := by
  rw [State.followSm_eq, ← State.noteReaction_stream]
  obtain ⟨o, ho⟩ := (State.enforceTrips_opens (s.noteReaction m)).io
  rw [ho]

theorem State.loseSm_of_not_overdue {s : State} {m : Fin 8} (h : s.smOverdue m = false) : s.loseSm m = s := by
  unfold State.loseSm
  rw [h]
  exact if_neg Bool.false_ne_true

theorem State.loseSm_only (s : State) (m : Fin 8) : State.StreamOnly m s (s.loseSm m) := by
  unfold State.loseSm
  split
  · exact (s.enterSm_only m .lost).trans (State.followSm_only _ m)
  · exact .refl m s

/-! ## Acceptance -/

/-- A stream with a message accepted (12 R344, R345). -/
def Stream.accept (seq : Nat) (bytes : List Byte) (net since : Nat) (gap : Bool) (c : Stream) : Stream :=
  { c with
    permit := bytes.headD 0 &&& 1 = 1#8, seq := some seq, acceptedNow := true, ticks := 0
    pending := c.pending.filter fun p => p.seq ≠ seq
    remembered := (⟨net, seq, bytes, since⟩ :: c.remembered).take 32
    counts := (let k := upd c.counts (if net = 2 then 0 else 1) sat32; if gap then upd k 3 sat32 else k)
    seen := if gap then c.seen ||| 4 else c.seen }

/-- The message skips at least one that was not accepted (12 R344). -/
def Stream.gaps (c : Stream) (seq : Nat) : Bool := !c.restarts && decide (1 < c.ahead seq)

theorem State.acceptSm_eq (s : State) (m : Fin 8) (seq : Nat) (bytes : List Byte) (net since : Nat) (st : SmState) : s.acceptSm m seq bytes net since st =
    (let t := (s.modSm m (Stream.accept seq bytes net since (s.io.streams[m].gaps seq))).enterSm m st
    if bytes.headD 0 &&& 1 = 1#8 then t else t.event 0x7035 blockObj (m.val + 1)) := by
  unfold State.acceptSm
  by_cases h : bytes.headD 0 &&& 1 = 1#8
  · simp only [h, decide_true, if_true]
    unfold Stream.accept Stream.gaps
    simp only [h, decide_true]
  · simp only [h, decide_false, if_false]
    unfold Stream.accept Stream.gaps
    simp only [h, decide_false]

theorem State.acceptSm_only (s : State) (m : Fin 8) (seq : Nat) (bytes : List Byte) (net since : Nat) (st : SmState) :
    State.StreamOnly m s (s.acceptSm m seq bytes net since st) := by
  rw [State.acceptSm_eq]
  dsimp only
  split
  · exact (State.StreamOnly.modSm s m _).trans (State.enterSm_only _ m st)
  · exact ((State.StreamOnly.modSm s m _).trans (State.enterSm_only _ m st)).event _ _ _ _

theorem State.acceptSm_stream (s : State) (m : Fin 8) (seq : Nat) (bytes : List Byte) (net since : Nat) (st : SmState) : ∃ d n,
    (s.acceptSm m seq bytes net since st).io.streams[m] =
      { s.io.streams[m].accept seq bytes net since (s.io.streams[m].gaps seq) with state := st, degradedAt := d, seen := n } := by
  have hstream := (s.modSm m (Stream.accept seq bytes net since (s.io.streams[m].gaps seq))).enterSm_stream m st
  rw [State.modSm_same] at hstream
  rw [State.acceptSm_eq]
  dsimp only
  split
  · exact hstream
  · simp only [State.event_io]
    exact hstream

/-! ## A copy received -/

/-- What a copy does at one stream it is for (12 R344). -/
def State.copyRound (net : Fin 2) (id : Nat) (data : List Byte) (s : State) (m : Fin 8) : State :=
  if !s.smEnabled m || s.smId m ≠ id || s.io.streams[m].state = .disabled then s
  else
    let s := (s.loseSm m).endWindows m
    if smCrc id data ≠ ofBytes (data.drop 12) then s.modSm m fun c => { c with counts := upd c.counts 2 sat32 }
    else if smNode data ≠ bits (s.smCfg m) 30 24 then s
    else (s.takeCopy m net data).followSm m

theorem State.endWindow_only (s : State) (m : Fin 8) (p : SmCopy) : State.StreamOnly m s (s.endWindow m p) := by
  unfold State.endWindow
  dsimp only
  have hlose := (State.StreamOnly.modSm s m fun c => { c with pending := c.pending.erase p }).trans (State.loseSm_only _ m)
  generalize (s.modSm m fun c => { c with pending := c.pending.erase p }).loseSm m = t at hlose ⊢
  split
  · exact hlose.trans ((t.acceptSm_only m _ _ _ _ _).trans (State.followSm_only _ m))
  · exact hlose

theorem State.endWindows_only (s : State) (m : Fin 8) : State.StreamOnly m s (s.endWindows m) :=
  forEach_keeps (P := State.StreamOnly m s) (fun t p ht => ht.trans (t.endWindow_only m p)) s _ (.refl m s)

theorem State.staleSm_only (s : State) (m : Fin 8) : State.StreamOnly m s (s.staleSm m) := .modSm s m _

theorem State.takeCopy_only (s : State) (m : Fin 8) (net : Fin 2) (data : List Byte) : State.StreamOnly m s (s.takeCopy m net data) := by
  unfold State.takeCopy
  dsimp only
  split
  · exact s.enterSm_only m _
  · split
    · split
      · exact s.enterSm_only m _
      · split
        · exact .refl m s
        · split
          · exact s.acceptSm_only m _ _ _ _ _
          · exact (State.StreamOnly.modSm s m _).trans (State.staleSm_only _ m)
    · split
      · split
        · exact s.acceptSm_only m _ _ _ _ _
        · exact .modSm s m _
      · split
        · exact s.staleSm_only m
        · split
          · exact (State.StreamOnly.modSm s m _).trans (State.enterSm_only _ m _)
          · exact s.staleSm_only m

theorem State.copyRound_only (net : Fin 2) (id : Nat) (data : List Byte) (s : State) (m : Fin 8) : State.StreamOnly m s (s.copyRound net id data m) := by
  unfold State.copyRound
  dsimp only
  have hends := (s.loseSm_only m).trans (State.endWindows_only _ m)
  generalize (s.loseSm m).endWindows m = t at hends ⊢
  split
  · exact .refl m s
  · split
    · exact hends.trans (.modSm t m _)
    · split
      · exact hends
      · exact hends.trans ((t.takeCopy_only m net data).trans (State.followSm_only _ m))

theorem State.endWindows_of_open {s : State} {m : Fin 8} (h : ∀ p ∈ s.io.streams[m].pending, s.now ≤ p.since + s.smWindow) : s.endWindows m = s := by
  unfold State.endWindows
  rw [List.filter_eq_nil_iff.mpr fun p hp => by have := h p hp; rw [decide_eq_true_eq]; omega]
  rfl

/-- The round of a stream that takes the copy, whose timeout and windows run. -/
theorem State.copyRound_eq {net : Fin 2} {id : Nat} {data : List Byte} {s : State} {m : Fin 8} (he : s.smEnabled m = true) (hid : s.smId m = id)
    (hs : s.io.streams[m].state ≠ .disabled) (hover : s.smOverdue m = false) (hwin : ∀ p ∈ s.io.streams[m].pending, s.now ≤ p.since + s.smWindow) :
    s.copyRound net id data m = if smCrc id data ≠ ofBytes (data.drop 12) then s.modSm m fun c => { c with counts := upd c.counts 2 sat32 }
      else if smNode data ≠ bits (s.smCfg m) 30 24 then s else (s.takeCopy m net data).followSm m := by
  unfold State.copyRound
  rw [if_neg (by simp [he, hid, hs, -Fin.getElem_fin]), State.loseSm_of_not_overdue hover, State.endWindows_of_open hwin]

theorem State.takeCopy_first {s : State} {m : Fin 8} {net : Fin 2} {data : List Byte} (ha : s.io.streams[m].acceptable (smSeq data) = true)
    (hc : s.io.streams[m].contradicts (smSeq data) data = false) (hf : (s.io.streams[m].pending.find? fun p => p.seq = smSeq data) = none)
    (hd : s.io.streams[m].state ≠ degradedOf net.val) :
    s.takeCopy m net data = s.modSm m fun c => { c with pending := c.pending ++ [⟨net.val, smSeq data, data, s.now⟩] } := by
  unfold State.takeCopy
  dsimp only
  rw [hc, hf]
  dsimp only
  rw [ha, if_neg Bool.false_ne_true, if_pos rfl, if_neg hd]

theorem State.takeCopy_pair {s : State} {m : Fin 8} {net : Fin 2} {data : List Byte} (ha : s.io.streams[m].acceptable (smSeq data) = true)
    (hc : s.io.streams[m].contradicts (smSeq data) data = false) {p : SmCopy}
    (hf : (s.io.streams[m].pending.find? fun p => p.seq = smSeq data) = some p) (hb : p.bytes = data) (hn : p.net ≠ net.val) :
    s.takeCopy m net data = s.acceptSm m (smSeq data) data 2 s.now .valid := by
  unfold State.takeCopy
  dsimp only
  rw [hc, hf]
  dsimp only
  rw [ha, if_neg Bool.false_ne_true, if_neg (fun k => k hb), if_neg hn, if_pos rfl]

theorem Stream.accept_pairs (seq : Nat) (bytes : List Byte) (since : Nat) (gap : Bool) (c : Stream) :
    (c.accept seq bytes 2 since gap).counts[0] = sat32 c.counts[0] := by
  unfold Stream.accept
  dsimp only
  rw [if_pos rfl]
  split
  · exact (upd_get_other _ _ (by decide)).trans (upd_get_same c.counts 0 sat32)
  · exact upd_get_same c.counts 0 sat32

/-- What a stream holds after a copy that it takes (12 R344). -/
structure Stream.TakesCopy (c d : Stream) (net : Fin 2) (id now node : Nat) (data : List Byte) : Prop where
  bad : smCrc id data ≠ ofBytes (data.drop 12) → d = { c with counts := upd c.counts 2 sat32 }
  first : smCrc id data = ofBytes (data.drop 12) → smNode data = node → c.acceptable (smSeq data) = true → c.contradicts (smSeq data) data = false →
    (c.pending.find? fun p => p.seq = smSeq data) = none → c.state ≠ degradedOf net.val →
      d.pending = c.pending ++ [⟨net.val, smSeq data, data, now⟩] ∧ d.state = c.state
  pair : smCrc id data = ofBytes (data.drop 12) → smNode data = node → c.acceptable (smSeq data) = true → c.contradicts (smSeq data) data = false →
    ∀ p, (c.pending.find? fun p => p.seq = smSeq data) = some p → p.bytes = data → p.net ≠ net.val →
      d.state = .valid ∧ d.seq = some (smSeq data) ∧ d.counts[0] = sat32 c.counts[0] ∧ d.permit = decide (data.headD 0 &&& 1 = 1#8)

theorem State.copyRound_takes {net : Fin 2} {id : Nat} {data : List Byte} {s : State} {m : Fin 8} (he : s.smEnabled m = true) (hid : s.smId m = id)
    (hs : s.io.streams[m].state ≠ .disabled) (hover : s.smOverdue m = false) (hwin : ∀ p ∈ s.io.streams[m].pending, s.now ≤ p.since + s.smWindow) :
    s.io.streams[m].TakesCopy (s.copyRound net id data m).io.streams[m] net id s.now (bits (s.smCfg m) 30 24) data := by
  rw [State.copyRound_eq he hid hs hover hwin]
  refine ⟨fun hcrc => ?_, fun hcrc hnode ha hc hf hd => ?_, fun hcrc hnode ha hc p hf hb hn => ?_⟩
  · rw [if_pos hcrc, State.modSm_same]
  · rw [if_neg (fun k => k hcrc), if_neg (fun k => k hnode), State.takeCopy_first ha hc hf hd, State.followSm_stream, State.modSm_same]
    exact ⟨rfl, rfl⟩
  · obtain ⟨d, n, hstream⟩ := s.acceptSm_stream m (smSeq data) data 2 s.now .valid
    rw [if_neg (fun k => k hcrc), if_neg (fun k => k hnode), State.takeCopy_pair ha hc hf hb hn, State.followSm_stream, hstream]
    exact ⟨rfl, rfl, Stream.accept_pairs (smSeq data) data s.now _ _, rfl⟩

theorem execSafeCopyReceived_takes {s : State} {m : Fin 8} {net : Fin 2} {id : Nat} {data : List Byte} (hon : s.cans[Fin.ofNat 3 net.val].onBus = true)
    (hbus : s.cans[Fin.ofNat 3 net.val].bus = .active ∨ s.cans[Fin.ofNat 3 net.val].bus = .passive) (hlen : data.length = 16)
    (hr : s.belay.released = true) (he : s.smEnabled m = true) (hid : s.smId m = id)
    (hs : s.io.streams[m].state ≠ .disabled) (hover : s.smOverdue m = false) (hwin : ∀ p ∈ s.io.streams[m].pending, s.now ≤ p.since + s.smWindow) :
    ∃ t, exec (.safeCopyReceived net id data) s = .next t ∧
      s.io.streams[m].TakesCopy t.io.streams[m] net id s.now (bits (s.smCfg m) 30 24) data := by
  have hnet : Fin.ofNat 3 net.val = (⟨net.val, by omega⟩ : Fin 3) := by
    apply Fin.ext
    simp only [Fin.ofNat]
    omega
  simp only [hnet] at hon hbus
  have hlive : s.safeLive net = true := by
    unfold State.safeLive
    dsimp only
    rw [hon]
    rcases hbus with h | h <;> rw [h] <;> rfl
  have hexec : exec (.safeCopyReceived net id data) s = .next (s.forEach (List.finRange 8) (State.copyRound net id data)) := by
    change Host.Outcome.next (s.safeCopy net id data) = _
    unfold State.safeCopy State.safeTaken
    rw [if_pos hlive, if_neg (by simp [hlen, hr])]
    rfl
  obtain ⟨t, ⟨hbelay, hnow⟩, hget, hlast⟩ := forEach_once (get := fun t : State => t.io.streams[m]) (P := fun t => t.belay = s.belay ∧ t.now = s.now)
    (f := State.copyRound net id data) (i := m) (fun t k ht => ⟨(t.copyRound_only net id data k).belay.trans ht.1, (t.copyRound_only net id data k).now.trans ht.2⟩)
    (fun t k hk _ => (t.copyRound_only net id data k).other m hk) (List.nodup_finRange 8) (List.mem_finRange m) (s := s) ⟨rfl, rfl⟩
  have hbval (index sub element : Nat) : t.bval index sub element = s.bval index sub element := by simp only [State.bval, State.committed, hbelay]
  have hcfg : t.smCfg m = s.smCfg m := hbval _ _ _
  have hwindow : t.smWindow = s.smWindow := congrArg ms (hbval _ _ _)
  refine ⟨_, hexec, ?_⟩
  rw [hlast, ← hget, ← hnow, ← hcfg]
  refine State.copyRound_takes ?_ ?_ ?_ ?_ fun p hp => ?_
  · rw [← he]
    simp only [State.smEnabled, hcfg, State.smDegraded, hbelay]
  · rw [← hid]
    simp only [State.smId, hbval]
  · rw [hget]
    exact hs
  · rw [← hover]
    simp only [State.smOverdue, hget, hbval]
  · rw [hnow, hwindow]
    exact hwin p (hget ▸ hp)

/-! ## The window, the degraded time and the timeout -/

/-- The end of a copy's window in VALID accepts it alone (12 R345). -/
theorem State.endWindow_degrades {s : State} {m : Fin 8} {p : SmCopy} (hover : s.smOverdue m = false) (hs : s.io.streams[m].state = .valid)
    (hd : s.bval blockObj 0x016C ≠ 0) (ha : s.io.streams[m].acceptable p.seq = true) :
    (s.endWindow m p).io.streams[m].state = degradedOf p.net ∧ (s.endWindow m p).io.streams[m].seq = some p.seq := by
  have hover' : (s.modSm m fun c => { c with pending := c.pending.erase p }).smOverdue m = false := by
    rw [← hover]
    simp only [State.smOverdue, State.modSm_same] <;> rfl
  have hstream : (s.modSm m fun c => { c with pending := c.pending.erase p }).io.streams[m] =
      { s.io.streams[m] with pending := s.io.streams[m].pending.erase p } := State.modSm_same ..
  unfold State.endWindow
  dsimp only
  rw [State.loseSm_of_not_overdue hover']
  have hcond : (decide ((s.modSm m fun c => { c with pending := c.pending.erase p }).io.streams[m].state = .valid) &&
      decide ((s.modSm m fun c => { c with pending := c.pending.erase p }).bval blockObj 0x016C ≠ 0) &&
      (s.modSm m fun c => { c with pending := c.pending.erase p }).io.streams[m].acceptable p.seq) = true := by
    rw [hstream]
    exact Bool.and_eq_true_iff.mpr ⟨Bool.and_eq_true_iff.mpr ⟨decide_eq_true hs, decide_eq_true (by rw [(State.StreamOnly.modSm s m _).bval]; exact hd)⟩, ha⟩
  rw [if_pos hcond]
  generalize (s.modSm m fun c => { c with pending := c.pending.erase p }) = t
  obtain ⟨d, n, haccept⟩ := t.acceptSm_stream m p.seq p.bytes p.net p.since (degradedOf p.net)
  rw [State.followSm_stream, haccept]
  exact ⟨rfl, rfl⟩

theorem execSmDegradedExpiry_expires {s : State} {m : Fin 8} (hs : s.io.streams[m].state = .degradedA ∨ s.io.streams[m].state = .degradedB)
    (hover : s.smOverdue m = false) (hat : s.io.streams[m].degradedAt + sec (s.bval blockObj 0x016C) ≤ s.now) :
    ∃ t, exec (.smDegradedExpiry m) s = .next t ∧ t.io.streams[m].state = .expired ∧ ∀ k, k ≠ m → t.io.streams[k] = s.io.streams[k] := by
  have hexec : exec (.smDegradedExpiry m) s = .next ((s.enterSm m .expired).followSm m) := by
    change execSmDegradedExpiry m s = _
    unfold execSmDegradedExpiry
    dsimp only
    rw [State.loseSm_of_not_overdue hover, if_pos]
    rw [decide_eq_true hat, Bool.and_true, Bool.or_eq_true, decide_eq_true_eq, decide_eq_true_eq]
    exact hs
  refine ⟨_, hexec, ?_, fun k hk => ((s.enterSm_only m .expired).trans (State.followSm_only _ m)).other k hk.symm⟩
  rw [State.followSm_stream]
  exact s.enterSm_state m .expired

/-- A trip of a bank leaves no switch of it commanded on (12 R346). -/
theorem State.tripClosed_off (s : State) (b : Fin 4) (cause : Nat) {i : Fin 40} (hi : i ∈ s.stringsOf b) :
    (s.tripClosed b cause).gates[chS i].cmd = false := by
  have hafter : State.Opens (s.forEach ((s.stringsOf b).filter fun i => s.gates[chS i].cmd) State.sOff) (s.tripClosed b cause) :=
    (State.Opens.forEach fun t i => t.tripStr_opens i [cause]).trans (.forEach State.discardClose_opens)
  refine hafter.switch_off ?_
  by_cases hon : s.gates[chS i].cmd = true
  · exact forEach_mem (P := fun i t => t.gates[chS i].cmd = false) (fun t j => by simp only [State.sOff, State.modGate_gates, upd_get, if_true])
      (fun t j k h => (t.sOff_opens j).switch_off h) s _ (List.mem_filter.mpr ⟨hi, hon⟩)
  · exact (State.Opens.forEach State.sOff_opens).switch_off (Bool.eq_false_of_not_eq_true hon)

/-- A stream whose reaction is in force opens the switches of its banks (12 R346). -/
theorem State.enforceTrips_stream {s : State} {b : Fin 4} (h : s.smTrip b = true) {i : Fin 40} (hi : i ∈ s.stringsOf b) :
    s.enforceTrips.gates[chS i].cmd = false := by
  have hround : ∀ (t : State) (c : Fin 4), t.Opens ((if (if !t.banks[c].groupReady then t.tripClosed c 0x0C else t).smTrip c then
      (if !t.banks[c].groupReady then t.tripClosed c 0x0C else t).tripClosed c 0x0D else
      (if !t.banks[c].groupReady then t.tripClosed c 0x0C else t)).settleBank c) := by
    intro t c
    refine State.Opens.trans ?_ (State.settleBank_opens _ c)
    have hgroup : t.Opens (if !t.banks[c].groupReady then t.tripClosed c 0x0C else t) := by
      split
      · exact t.tripClosed_opens c _
      · exact .refl t
    generalize (if !t.banks[c].groupReady then t.tripClosed c 0x0C else t) = u at hgroup ⊢
    split
    · exact hgroup.trans (u.tripClosed_opens c _)
    · exact hgroup
  unfold State.enforceTrips
  dsimp only
  refine (State.enforceOutputs_opens _).switch_off ?_
  refine forEach_sets (I := s.Opens) (P := fun t => t.gates[chS i].cmd = false) (i := b) (fun t c ht => ht.trans (hround t c)) (fun t ht => ?_)
    (fun t c _ _ hoff => (hround t c).switch_off hoff) (List.mem_finRange b) (.refl s)
  refine (State.settleBank_opens _ b).switch_off ?_
  have hgroup : s.Opens (if !t.banks[b].groupReady then t.tripClosed b 0x0C else t) := by
    split
    · exact ht.trans (t.tripClosed_opens b _)
    · exact ht
  generalize (if !t.banks[b].groupReady then t.tripClosed b 0x0C else t) = u at hgroup ⊢
  have htrip : u.smTrip b = true := by
    obtain ⟨o, ho⟩ := hgroup.io
    rw [← h]
    simp only [State.smTrip, State.smReaction, State.smDegraded, State.smCfg, State.bval, State.committed, hgroup.belay, ho]
  rw [if_pos htrip]
  refine u.tripClosed_off b _ ?_
  rw [State.stringsOf_of_belay (s := s) (t := u) (by rw [hgroup.belay])]
  exact hi

theorem execSmRxTimeout_loses {s : State} {m : Fin 8} (hover : s.smOverdue m = true) : ∃ t, exec (.smRxTimeout m) s = .next t ∧
    t.io.streams[m].state = .lost ∧
    (∀ b : Fin 4, (s.smCfg m).testBit (20 + b.val) = true → ∀ i ∈ s.stringsOf b, t.gates[chS i].cmd = false) ∧
    ∀ k, k ≠ m → t.io.streams[k] = s.io.streams[k] := by
  have hexec : exec (.smRxTimeout m) s = .next ((s.enterSm m .lost).followSm m) := congrArg Host.Outcome.next (if_pos hover)
  have honly := (s.enterSm_only m .lost).trans (State.noteReaction_only _ m)
  have hstream := (s.enterSm m .lost).noteReaction_stream m
  have hlost := s.enterSm_state m .lost
  refine ⟨_, hexec, ?_, fun b hb i hi => ?_, fun k hk => ((s.enterSm_only m .lost).trans (State.followSm_only _ m)).other k hk.symm⟩
  · rw [State.followSm_stream]
    exact hlost
  · rw [State.followSm_eq]
    generalize (s.enterSm m .lost).noteReaction m = t at honly hstream ⊢
    refine State.enforceTrips_stream (b := b) ?_ (by rw [State.stringsOf_of_belay (s := s) (t := t) (by rw [honly.belay])]; exact hi)
    refine List.any_eq_true.mpr ⟨m, List.mem_finRange m, ?_⟩
    rw [State.smCfg, honly.bval, ← State.smCfg, hb, Bool.and_true, State.smReaction, hstream, Bool.or_eq_true]
    right
    unfold Stream.reacts
    rw [hlost]

theorem State.writeMo_io (s : State) (k : Fin 3) (o : Nat) (data : List Byte) : (s.writeMo k o data).io = s.io :=
  same_of_blank (p := .io) (State.writeMo_in (m := only [.cans, .dict, .values]) rfl rfl rfl s k o data) rfl
theorem State.requestMo_io (s : State) (k : Fin 3) (o : Nat) : (s.requestMo k o).io = s.io :=
  same_of_blank (p := .io) (State.requestMo_in (m := only [.cans]) rfl s k o) rfl

theorem execSafeStreamSend_sends {s : State} (hen : (s.val blockObj 0x0170).testBit 31 = true) (hnode : s.cans[0].node = s.cans[1].node)
    (hfw : s.fwActs = true) (hm : s.mode.block ≠ .baseCamp) (hdue : s.safeDue = true) : ∃ t, exec .safeStreamSend s = .next t ∧
    t.io.txSeq = (s.io.txSeq + 1) % 65536 ∧ t.io.txAt = some s.now ∧ t.io.txData = s.safeMessage ((s.io.txSeq + 1) % 65536) ∧
    t.io.streams = s.io.streams := by
  have hnode : s.cans[(0 : Fin 3)].node = s.cans[(1 : Fin 3)].node := hnode
  have hcond : ¬(!(s.val blockObj 0x0170).testBit 31 || s.cans[(0 : Fin 3)].node ≠ s.cans[(1 : Fin 3)].node || !s.fwActs || s.mode.block = .baseCamp ||
      !s.safeDue) = true := by
    rw [hen, hfw, hdue]
    simp only [hnode, hm, ne_eq, not_true_eq_false, decide_false, Bool.not_true, Bool.or_self, Bool.false_eq_true, not_false_eq_true]
  refine ⟨_, congrArg Host.Outcome.next (if_neg hcond), ?_⟩
  dsimp only
  rw [forEach_keeps (P := fun t => t.io = { s.io with txSeq := (s.io.txSeq + 1) % 65536, txData := s.safeMessage ((s.io.txSeq + 1) % 65536), txAt := some s.now })
    (fun t k ht => ?_) _ _ rfl]
  · exact ⟨rfl, rfl, rfl, rfl⟩
  · split
    · exact ht
    · split
      · rw [State.writeMo_io]
        exact ht
      · rw [State.requestMo_io, State.writeMo_io]
        exact ht

/-- Settles O16, one lemma to each command. -/
theorem safeStreams : Obligations.SafeStreams := by
  unfold Obligations.SafeStreams
  refine fun s m => ⟨fun net id data hon hbus hlen hr he hid hs hover hwin => ?_, fun p hf hover hs hd ha => ?_,
    fun hs hover hat => execSmDegradedExpiry_expires hs hover hat, fun hover => execSmRxTimeout_loses hover,
    fun hen hnode hfw hm hdue => execSafeStreamSend_sends hen hnode hfw hm hdue⟩
  · obtain ⟨t, hexec, htakes⟩ := execSafeCopyReceived_takes hon hbus hlen hr he hid hs hover hwin
    exact ⟨t, hexec, htakes.bad, fun hcrc hnode ha hc => ⟨htakes.first hcrc hnode ha hc, htakes.pair hcrc hnode ha hc⟩⟩
  · have hexec : exec (.smWindowExpiry m) s = .next (s.endWindow m p) := by
      change execSmWindowExpiry m s = _
      unfold execSmWindowExpiry
      rw [hf]
    exact ⟨_, hexec, State.endWindow_degrades hover hs hd ha⟩

end Sys2Proof.Machine

/-!
The belay logic's trips of the envelope, the missing traverse, and its mirror (O17, O19).
-/

namespace Sys2Proof.Machine

-- One thread per theorem would be more than the compiler's memory limit allows.
set_option Elab.async false

/-! ## Trips -/

theorem StrCtl.latched.trip_or_lockout {c : StrCtl} {causes : List Nat} (h : c.latched causes) : c.trip = true ∨ c.lockout = true :=
  h.symm.imp And.right id

/-- The report of the items that tripped a string keeps the string, its switch and what is due. -/
def State.SameTrip (s t : State) (i : Fin 40) : Prop :=
  t.strs = s.strs ∧ t.gates = s.gates ∧ t.ropes = s.ropes ∧ t.bstr[i].due = s.bstr[i].due ∧ t.bstr[i].unseenDue = s.bstr[i].unseenDue ∧
    ∀ j, j ≠ i → t.bstr[j] = s.bstr[j]

theorem State.SameTrip.trans {s t u : State} {i : Fin 40} (h : s.SameTrip t i) (k : t.SameTrip u i) : s.SameTrip u i := by
  obtain ⟨h1, h2, h3, h4, h5, h6⟩ := h
  obtain ⟨k1, k2, k3, k4, k5, k6⟩ := k
  exact ⟨k1.trans h1, k2.trans h2, k3.trans h3, k4.trans h4, k5.trans h5, fun j hj => (k6 j hj).trans (h6 j hj)⟩

theorem State.SameTrip.forEach {α : Type} {s : State} {i : Fin 40} {l : List α} {f : State → α → State} (h : ∀ (t : State) a, t.SameTrip (f t a) i) :
    s.SameTrip (s.forEach l f) i :=
  forEach_keeps (P := fun t => s.SameTrip t i) (fun t a ht => ht.trans (h t a)) s l ⟨rfl, rfl, rfl, rfl, rfl, fun _ _ => rfl⟩

/-- The event and the interrupt of one tripped item. -/
def State.reportItem (i : Fin 40) (t : State) (d : EnvItem × Nat × Int × Int) : State :=
  let t := (t.irqRaise d.1.trip.2.1).event d.1.trip.2.2 (strObj i) (d.1.shown d.2.1) (u16 (d.1.shown d.2.1) ++ i32 d.2.2.1 ++ i32 d.2.2.2)
  t.modBStr i fun b => { b with tripElement := d.1.shown d.2.1, tripValue := d.2.2.1 }

theorem State.reportItem_same (i : Fin 40) (t : State) (d : EnvItem × Nat × Int × Int) : t.SameTrip (t.reportItem i d) i := by
  unfold State.reportItem State.SameTrip
  dsimp only
  simp only [State.modBStr_strs, State.modBStr_gates, State.modBStr_ropes, State.modBStr_bstr, State.event_strs, State.event_gates, State.event_ropes,
    State.event_bstr, State.irqRaise_strs, State.irqRaise_gates, State.irqRaise_ropes, State.irqRaise_bstr, upd_get, if_true, true_and]
  exact fun j hj => if_neg hj.symm

theorem execEnvelopeTrip_trips {s : State} {i : Fin 40} (h : s.bstr[i].due ≠ []) : ∃ t, exec (.envelopeTrip i) s = .next t ∧ t.bstr[i].due = [] ∧
    t.gates[chS i].cmd = false ∧ (t.strs[i].trip = true ∨ t.strs[i].lockout = true) ∧ ∀ j, j ≠ i → t.bstr[j] = s.bstr[j] := by
  obtain ⟨d, ds, hdue⟩ := List.exists_cons_of_ne_nil h
  have hexec : exec (.envelopeTrip i) s = .next ((((s.modBStr i fun b => { b with due := [] }).tripStr i ((d :: ds).map fun d => d.1.trip.1))).forEach
      (d :: ds) (State.reportItem i)) := by
    change execEnvelopeTrip i s = _
    unfold execEnvelopeTrip
    rw [hdue]
    rfl
  obtain ⟨hoff, hlatched⟩ := (s.modBStr i fun b => { b with due := [] }).tripStr_opened i (causes := (d :: ds).map fun d => d.1.trip.1) (by simp)
  have hbstr : ((s.modBStr i fun b => { b with due := [] }).tripStr i ((d :: ds).map fun d => d.1.trip.1)).bstr =
      upd s.bstr i fun b => { b with due := [] } := State.tripStr_bstr ..
  generalize (s.modBStr i fun b => { b with due := [] }).tripStr i ((d :: ds).map fun d => d.1.trip.1) = u at hexec hoff hlatched hbstr
  obtain ⟨hstrs, hgates, -, hdue', -, hother⟩ : u.SameTrip (u.forEach (d :: ds) (State.reportItem i)) i := .forEach (State.reportItem_same i)
  refine ⟨_, hexec, ?_, ?_, ?_, fun j hj => ?_⟩
  · rw [hdue', hbstr, upd_get, if_pos rfl]
  · rw [hgates, hoff]
  · rw [hstrs]
    exact hlatched.trip_or_lockout
  · rw [hother j hj, hbstr, upd_get, if_neg hj.symm]

/-- The event of one position above the unseen limit. -/
def State.reportUnseen (i : Fin 40) (t : State) (k : Nat) : State := (t.irqRaise 51).event 0x6020 (strObj i) (k % 64) (u8 (k % 64) ++ u8 (k / 64))

theorem State.reportUnseen_same (i : Fin 40) (t : State) (k : Nat) : t.SameTrip (t.reportUnseen i k) i := by
  unfold State.reportUnseen State.SameTrip
  simp only [State.event_strs, State.event_gates, State.event_ropes, State.event_bstr, State.irqRaise_strs, State.irqRaise_gates, State.irqRaise_ropes,
    State.irqRaise_bstr, implies_true, and_self]

theorem execUnseenLimitReached_trips {s : State} {i : Fin 40} (h : s.bstr[i].unseenDue ≠ []) : ∃ t, exec (.unseenLimitReached i) s = .next t ∧
    t.bstr[i].unseenDue = [] ∧ t.gates[chS i].cmd = false ∧ (t.strs[i].trip = true ∨ t.strs[i].lockout = true) ∧ t.ropes[i].unseenTrip = true ∧
    ∀ j, j ≠ i → t.bstr[j] = s.bstr[j] := by
  obtain ⟨d, ds, hdue⟩ := List.exists_cons_of_ne_nil h
  have hexec : exec (.unseenLimitReached i) s = .next ((((s.modBStr i fun b => { b with unseenDue := [] }).tripStr i [0x08]).modRope i fun r =>
      { r with unseenTrip := true }).forEach (d :: ds) (State.reportUnseen i)) := by
    change execUnseenLimitReached i s = _
    unfold execUnseenLimitReached
    rw [hdue]
    rfl
  obtain ⟨hoff, hlatched⟩ := (s.modBStr i fun b => { b with unseenDue := [] }).tripStr_opened i (causes := [0x08]) (by simp)
  have hbstr : ((s.modBStr i fun b => { b with unseenDue := [] }).tripStr i [0x08]).bstr =
      upd s.bstr i fun b => { b with unseenDue := [] } := State.tripStr_bstr ..
  generalize (s.modBStr i fun b => { b with unseenDue := [] }).tripStr i [0x08] = u at hexec hoff hlatched hbstr
  obtain ⟨hstrs, hgates, hropes, -, hdue', hother⟩ : (u.modRope i fun r => { r with unseenTrip := true }).SameTrip
      ((u.modRope i fun r => { r with unseenTrip := true }).forEach (d :: ds) (State.reportUnseen i)) i := .forEach (State.reportUnseen_same i)
  refine ⟨_, hexec, ?_, ?_, ?_, ?_, fun j hj => ?_⟩
  · rw [hdue', State.modRope_bstr, hbstr, upd_get, if_pos rfl]
  · rw [hgates, State.modRope_gates, hoff]
  · rw [hstrs]
    exact hlatched.trip_or_lockout
  · rw [hropes, State.modRope_ropes, upd_get, if_pos rfl]
  · rw [hother j hj, State.modRope_bstr, hbstr, upd_get, if_neg hj.symm]

/-! ## Missing traverses -/

/-- A step in which nothing was seen adds to every used position (11 R299). -/
theorem unseenStep_none (counts : Vector Nat 33) (lo nB add limit key : Nat) (beyond due : NatSet) {p : Fin 33} (hlo : lo ≤ p.val) (hn : p.val ≤ nB) :
    (unseenStep counts lo nB 0 add limit key beyond due).1[p] = counts[p] + add := by
  simp [unseenStep, hlo, hn]

theorem State.countMissing_counts {s : State} {i : Fin 40} (h : s.strs[i].exclusion = false) (n : Nat) {p : Fin 33} (hp : p.val ≤ s.bstr[i].nB) :
    (s.countMissing i n).bstr[i].unseen[p] = s.bstr[i].unseen[p] + n ∧
      (p ≠ 0 → (s.countMissing i n).bstr[i].slowUnseen[p] = s.bstr[i].slowUnseen[p] + n) := by
  have hnot : ¬s.strs[i].exclusion = true := by rw [h]; exact Bool.false_ne_true
  unfold State.countMissing State.countSlow State.countUnseen
  rw [if_neg hnot, State.modBStr_strs, if_neg hnot]
  simp only [State.modBStr_bstr, upd_get, if_true]
  refine ⟨unseenStep_none _ _ _ _ _ _ _ _ (Nat.zero_le _) hp, fun hne => unseenStep_none _ _ _ _ _ _ _ _ ?_ hp⟩
  exact Nat.one_le_iff_ne_zero.mpr fun k => hne (Fin.ext k)

theorem State.modBStr_other (s : State) {i j : Fin 40} (h : i ≠ j) (f : BelayStr → BelayStr) : (s.modBStr i f).bstr[j] = s.bstr[j] :=
  upd_get_other _ _ h

theorem State.countMissing_keeps (s : State) (i : Fin 40) (n : Nat) : (s.countMissing i n).belay = s.belay ∧ (s.countMissing i n).strs = s.strs ∧
    ∀ j : Fin 40, i ≠ j → (s.countMissing i n).bstr[j] = s.bstr[j] := by
  have hunseen : (s.countUnseen i 0 n).belay = s.belay ∧ (s.countUnseen i 0 n).strs = s.strs ∧
      ∀ j : Fin 40, i ≠ j → (s.countUnseen i 0 n).bstr[j] = s.bstr[j] := by
    unfold State.countUnseen
    split
    · exact ⟨rfl, rfl, fun _ _ => rfl⟩
    · exact ⟨State.modBStr_belay .., State.modBStr_strs .., fun j hj => State.modBStr_other s hj _⟩
  unfold State.countMissing
  generalize s.countUnseen i 0 n = t at hunseen ⊢
  unfold State.countSlow
  split
  · exact hunseen
  · exact ⟨(State.modBStr_belay ..).trans hunseen.1, (State.modBStr_strs ..).trans hunseen.2.1, fun j hj =>
      (State.modBStr_other t hj _).trans (hunseen.2.2 j hj)⟩

/-- Every used position of every string that is not EXCLUDED counts up (11 R299). -/
theorem State.countsMissing (s : State) (n : Nat) : (s.forEach allStr fun t i => t.countMissing i n).belay = s.belay ∧
    ∀ (i : Fin 40) (p : Fin 33), s.strs[i].exclusion = false → p.val ≤ s.bstr[i].nB →
      (s.forEach allStr fun t i => t.countMissing i n).bstr[i].unseen[p] = s.bstr[i].unseen[p] + n ∧
      (p ≠ 0 → (s.forEach allStr fun t i => t.countMissing i n).bstr[i].slowUnseen[p] = s.bstr[i].slowUnseen[p] + n) := by
  refine ⟨forEach_keeps (P := fun t => t.belay = s.belay) (fun t i ht => (t.countMissing_keeps i n).1.trans ht) s _ rfl, fun i p hex hp => ?_⟩
  obtain ⟨t, ht, hget, hlast⟩ := forEach_once (get := fun t : State => t.bstr[i]) (P := fun t => t.strs = s.strs) (f := fun t i => t.countMissing i n)
    (fun t j ht => (t.countMissing_keeps j n).2.1.trans ht) (fun t j hj _ => (t.countMissing_keeps j n).2.2 i hj) (List.nodup_finRange 40)
    (List.mem_finRange i) (s := s) rfl
  change (s.forEach allStr fun t i => t.countMissing i n).bstr[i] = _ at hlast
  rw [hlast, ← hget]
  exact State.countMissing_counts (by rw [ht, hex]) n (by rw [hget]; exact hp)

/-! ## The mirror -/

/-- Firmware that acts takes the belay values into its mirror (11 R311). -/
theorem State.repairMirror_acts {s : State} (hdue : s.belay.mirrorDue = true) (hf : s.fwActs = true) : s.repairMirror.belay = { s.belay with
    mirrorDue := false, mirror := s.belay.store, rewrite := (differing s.belay.store s.belay.mirror).foldl NatSet.ins s.belay.rewrite } := by
  unfold State.repairMirror
  rw [hdue, hf]
  dsimp only
  rw [if_neg (by decide), State.event_belay]
  rfl

theorem State.repairMirror_waits {s : State} (hf : s.fwActs = false) : s.repairMirror = s := by
  unfold State.repairMirror
  rw [hf, Bool.not_false, Bool.or_true, if_pos rfl]

/-- A posted digest that has been read (11 R311). -/
def Belay.readDigest (d : Nat) (b : Belay) : Belay := { b with mirrorPosted := none, mirrorDigest := d }

/-- The mirror has been found to differ (11 R311). -/
def Belay.disagree (b : Belay) : Belay :=
  { b with mirrorMismatch := true, mirrorDue := true, mismatchCount := sat32 b.mismatchCount, seen := b.seen ||| 8 }

theorem execMirrorDigestCompare_eq {s : State} {d n : Nat} (h : s.belay.mirrorPosted = some (d, n)) : exec .mirrorDigestCompare s = .next (
    if n ≠ s.belay.digestCommits then { s with belay := { s.belay with mirrorPosted := none } }
    else if d = s.belay.digest then s.modBelay fun b => { b.readDigest d with mirrorMismatch := false }
    else (((s.modBelay (Belay.readDigest d)).irqRaise 50).modBelay Belay.disagree).repairMirror) := by
  change execMirrorDigestCompare s = _
  unfold execMirrorDigestCompare
  rw [h]
  rfl

theorem execMirrorDigestCompare_compares {s : State} {d n : Nat} (h : s.belay.mirrorPosted = some (d, n)) :
    ∃ t, exec .mirrorDigestCompare s = .next t ∧ t.belay.mirrorPosted = none ∧ t.belay.store = s.belay.store ∧
    (n ≠ s.belay.digestCommits → t = { s with belay := { s.belay with mirrorPosted := none } }) ∧
    (n = s.belay.digestCommits → d = s.belay.digest → t.belay.mirrorMismatch = false ∧ t.belay.mirror = s.belay.mirror) ∧
    (n = s.belay.digestCommits → d ≠ s.belay.digest → t.belay.mirrorMismatch = true ∧ t.belay.mismatchCount = sat32 s.belay.mismatchCount ∧
      (s.fwActs = true → t.belay.mirror = s.belay.store ∧
        t.belay.rewrite = (differing s.belay.store s.belay.mirror).foldl NatSet.ins s.belay.rewrite) ∧
      (s.fwActs = false → t.belay.mirrorDue = true ∧ t.belay.mirror = s.belay.mirror ∧ t.belay.rewrite = s.belay.rewrite)) := by
  refine ⟨_, execMirrorDigestCompare_eq h, ?_⟩
  by_cases hn : n = s.belay.digestCommits
  · rw [if_neg (not_not.mpr hn)]
    by_cases hd : d = s.belay.digest
    · rw [if_pos hd]
      exact ⟨rfl, rfl, fun k => absurd hn k, fun _ _ => ⟨rfl, rfl⟩, fun _ k => absurd hd k⟩
    · rw [if_neg hd]
      have hfw : (((s.modBelay (Belay.readDigest d)).irqRaise 50).modBelay Belay.disagree).fwActs = s.fwActs :=
        State.fwActs_of (State.irqRaise_start ..) (State.irqRaise_now ..) (State.irqRaise_cores ..)
      have hbelay : (((s.modBelay (Belay.readDigest d)).irqRaise 50).modBelay Belay.disagree).belay = (s.belay.readDigest d).disagree := by
        rw [State.modBelay_belay, State.irqRaise_belay]
        rfl
      generalize ((s.modBelay (Belay.readDigest d)).irqRaise 50).modBelay Belay.disagree = u at hfw hbelay ⊢
      rw [← hfw]
      cases hf : u.fwActs with
      | true =>
        rw [State.repairMirror_acts (by rw [hbelay]; rfl) hf, hbelay]
        exact ⟨rfl, rfl, fun k => absurd hn k, fun _ k => absurd k hd, fun _ _ => ⟨rfl, rfl, fun _ => ⟨rfl, rfl⟩, fun k => Bool.noConfusion k⟩⟩
      | false =>
        rw [State.repairMirror_waits hf, hbelay]
        exact ⟨rfl, rfl, fun k => absurd hn k, fun _ k => absurd k hd, fun _ _ => ⟨rfl, rfl, fun k => Bool.noConfusion k, fun _ => ⟨rfl, rfl, rfl⟩⟩⟩
  · rw [if_pos hn]
    exact ⟨rfl, rfl, fun _ => rfl, fun k => absurd k hn, fun k => absurd k hn⟩

/-- Settles O19. -/
theorem mirrorCompared : Obligations.MirrorCompared := by
  unfold Obligations.MirrorCompared
  exact fun s d n h => execMirrorDigestCompare_compares h

/-- Settles O17, one lemma to each trip and one to the counts of a missing traverse. -/
theorem envelopeTrips : Obligations.EnvelopeTrips := by
  unfold Obligations.EnvelopeTrips
  refine fun s => ⟨fun i h => execEnvelopeTrip_trips h, fun i h => execUnseenLimitReached_trips h, fun hr hseen hmiss hm hat => ?_,
    fun hmiss hm hat => ?_⟩
  · have hcond : (s.belay.released && s.belay.traverseSeen && !s.belay.missing && s.mode.block ≠ .baseCamp &&
        decide (s.belay.lastTap + 2 * s.tEff + ms 1 ≤ s.now)) = true := by
      simp only [hr, hseen, hmiss, hm, hat, ne_eq, not_false_eq_true, decide_true, Bool.not_false, Bool.and_self]
    obtain ⟨hbelay, hcounts⟩ := (s.modBelay fun b => { b with missing := true, missingFor := s.trav.number, lastTap := s.now }).countsMissing 2
    refine ⟨_, congrArg Host.Outcome.next (if_pos hcond), ?_, ?_, fun i p hex hp => ?_⟩
    · rw [State.event_belay, State.irqRaise_belay, hbelay]
      rfl
    · rw [State.event_belay, State.irqRaise_belay, hbelay]
      rfl
    · rw [State.event_bstr, State.irqRaise_bstr]
      exact hcounts i p hex hp
  · have hcond : (s.belay.missing && s.mode.block ≠ .baseCamp && decide (s.belay.lastTap + s.tEff ≤ s.now)) = true := by
      simp only [hmiss, hm, hat, ne_eq, not_false_eq_true, decide_true, Bool.and_self]
    obtain ⟨hbelay, hcounts⟩ := (s.modBelay fun b => { b with lastTap := s.now }).countsMissing 1
    exact ⟨_, congrArg Host.Outcome.next (if_pos hcond), hbelay, hcounts⟩

end Sys2Proof.Machine

/-!
The supply, hold-up, the output supply and the provisioning strap; the belay supply warning (O1, O6).
-/

namespace Sys2Proof.Machine

-- One thread per theorem would be more than the compiler's memory limit allows.
set_option Elab.async false

/-! ## What the supply's events leave of the supply -/

theorem State.endPrecharges_supply (s : State) (code cause : Nat) :
    (s.forEach allBank fun t b => if t.pcActive b then t.endPrecharge b code cause else t).supply = s.supply := by
  refine same_of_blank (p := .supply) (forEach_in (m := except .supply) (fun t b => ?_) s allBank) rfl
  split
  · exact State.endPrecharge_in rfl rfl rfl rfl rfl rfl rfl t b code cause
  · rfl

theorem State.hurryOut_supply (s : State) (reason : Nat) (write : Bool) : (s.hurryOut reason write).supply = s.supply :=
  same_of_blank (p := .supply) (State.hurryOut_in (m := except .supply) rfl rfl rfl rfl rfl rfl s reason write) rfl

/-- A measurement sets what it finds in `HOLDUP` and nothing else of the supply (02 R71). -/
theorem State.measureHoldup_supply (s : State) (e : Nat) : (s.measureHoldup e).supply = { s.supply with
    holdupE := min e 0xFFFF, holdupDegraded := decide (e < 1100), measuredAt := some s.now } := by
  unfold State.measureHoldup
  dsimp only
  split
  · rw [State.event_supply]
    rfl
  · rfl

/-- What the belay supply warning does to the path and to what waits, before the module holds itself in reset (02 R70). -/
def State.supplySafe (s : State) : State := ((s.irqRaise 53).openAll.dropAllQ.discardPasses.tearWrite).irqRaise 116

/-- The module holds itself in reset (03 R98). -/
def State.holdForSupply (s : State) : State :=
  let t := s.modSupply fun p => { p with belWarn := true }
  let t := t.modBelay fun b => { b with released := false }
  let t : State := { t with cores := { t.cores with swapping := false, formed := none } }
  t.modStart fun a => { a with supplyLoss := true, heldForSupply := true, fw := .down, due := none, boot := none, replay := [], hurry := none }

theorem State.holdForSupply_path (s : State) : s.holdForSupply.gates = s.gates ∧ s.holdForSupply.banks = s.banks := ⟨rfl, rfl⟩
theorem State.holdForSupply_supply (s : State) : s.holdForSupply.supply = { s.supply with belWarn := true } := rfl
theorem State.holdForSupply_start (s : State) : s.holdForSupply.start = { s.start with
    supplyLoss := true, heldForSupply := true, fw := .down, due := none, boot := none, replay := [], hurry := none } := rfl

theorem execBelaySupplyWarning_eq {s : State} (hup : s.supply.up = true) (hp : s.supply.pfw = true) (hh : s.start.heldForSupply = false) :
    exec .belaySupplyWarning s = .next s.supplySafe.holdForSupply :=
  congrArg Host.Outcome.next (if_pos (by rw [hup, hp, hh]; rfl))

theorem State.supplySafe_blank (s : State) : s.supplySafe.blank (only [.banks, .evlog, .gates, .io, .irq, .mode, .strs, .belay, .store]) =
    s.blank (only [.banks, .evlog, .gates, .io, .irq, .mode, .strs, .belay, .store]) := by
  unfold State.supplySafe
  rw [State.irqRaise_in rfl, State.tearWrite_in rfl, State.discardPasses_in rfl rfl rfl rfl rfl, State.dropAllQ_in rfl rfl rfl,
    State.openAll_in rfl rfl rfl rfl rfl rfl rfl, State.irqRaise_in rfl]

/-- Settles O1: each event sets its own fields, and what follows it leaves the supply. -/
theorem supplyEvents : Obligations.SupplyEvents := by
  unfold Obligations.SupplyEvents
  refine fun s => ⟨fun hup hp => ?pfw, fun hp hh => ?withdrawn, fun hup hp hh => ?warning, fun hup => ?highInput, fun e above hup hp hr => ?recharged,
    fun e above hup hp hr => ?measured, fun hup => ?vqLoss, fun hup => ?vqBack, fun hup hvq => ?vqOver, fun hup => ?strap⟩
  case pfw =>
    refine ⟨_, congrArg Host.Outcome.next (if_pos (by rw [hup, hp]; rfl)), ?_⟩
    rw [State.hurryOut_supply, State.endPrecharges_supply, State.event_supply, State.irqRaise_supply]
    rfl
  case withdrawn =>
    refine ⟨_, congrArg Host.Outcome.next (if_pos (by rw [hp, hh]; rfl)), ?_⟩
    dsimp only
    split
    · rw [State.event_supply]
      rfl
    · rfl
  case warning =>
    refine ⟨_, execBelaySupplyWarning_eq hup hp hh, ?_, ?_⟩
    · have hsupply : s.supplySafe.supply = s.supply := same_of_blank (p := .supply) s.supplySafe_blank rfl
      rw [State.holdForSupply_supply, hsupply]
    · have hstart : s.supplySafe.start = s.start := same_of_blank (p := .start) s.supplySafe_blank rfl
      rw [State.holdForSupply_start, hstart]
  case highInput =>
    refine ⟨_, congrArg Host.Outcome.next (if_pos hup), ?_⟩
    rw [State.event_supply]
    rfl
  case recharged =>
    refine ⟨_, congrArg Host.Outcome.next (if_pos (by rw [hup, hp, hr]; rfl)), ?_⟩
    dsimp only
    by_cases h : s.supply.measuredAt = none ∧ above = true
    · rw [if_pos h, if_pos (by rw [h.1, h.2]; rfl), State.measureHoldup_supply]
      rfl
    · rw [if_neg h, if_neg (fun k => h ⟨Option.isNone_iff_eq_none.mp (Bool.and_eq_true_iff.mp k).1, (Bool.and_eq_true_iff.mp k).2⟩)]
      rfl
  case measured =>
    cases hdue : s.measureDue above with
    | true =>
      refine ⟨_, congrArg Host.Outcome.next (if_pos (by rw [hup, hp, hr, hdue]; rfl)), fun _ => State.measureHoldup_supply s e, fun k => Bool.noConfusion k⟩
    | false =>
      refine ⟨_, congrArg Host.Outcome.next (if_neg (by rw [hdue, Bool.and_false]; exact Bool.false_ne_true)), fun k => Bool.noConfusion k, fun _ => rfl⟩
  case vqLoss =>
    refine ⟨_, congrArg Host.Outcome.next (if_pos hup), ?_⟩
    rw [(State.enforceOutputs_moves _).supply, State.event_supply]
    rfl
  case vqBack => exact ⟨_, congrArg Host.Outcome.next (if_pos hup), rfl⟩
  case vqOver =>
    refine ⟨_, congrArg Host.Outcome.next (if_pos hup), ?_, ?_⟩
    · rw [State.event_supply]
      rfl
    · rw [State.event_io]
      rfl
  case strap =>
    refine ⟨_, congrArg Host.Outcome.next (if_pos hup), ?_, ?_⟩
    · rw [State.event_supply, State.irqRaise_supply]
      split <;> rfl
    · rw [State.event_seng, State.irqRaise_seng]
      split <;> rfl

/-! ## The power path made safe -/

/-- The clamp of a bank is on, and no pre-charge runs there. -/
def State.BankSafe (b : Fin 4) (s : State) : Prop := s.gates[chD b].cmd = true ∧ s.banks[b].modulator = false ∧ s.banks[b].source = none

theorem State.Opens.bankSafe {s t : State} (h : s.Opens t) {b : Fin 4} (hs : s.BankSafe b) : t.BankSafe b :=
  ⟨(h.gate (chD b)).on (isClamp_chD b) hs.1, (h.bank b).modulator hs.2.1, (h.bank b).source hs.2.2⟩

/-- What makes the path of one bank safe (02 R70). -/
def State.safeBank (t : State) (b : Fin 4) : State := ((t.hbOff b).modBank b fun c => { c with modulator := false, source := none }).setDn b true

theorem State.setDn_opens (s : State) (b : Fin 4) : s.Opens (s.setDn b true) := by
  unfold State.setDn
  have hon : s.Opens (s.modGate (chD b) fun g => { g with cmd := true }) := .modGate ⟨⟨_, _, _, rfl⟩, fun h => by simp at h, fun _ _ => rfl⟩
  dsimp only
  split
  · exact hon
  · exact hon.trans (.irqRaise _ _)

theorem State.safeBank_opens (s : State) (b : Fin 4) : s.Opens (s.safeBank b) :=
  ((s.hbOff_opens b).trans (State.endRunning_opens _ b)).trans (State.setDn_opens _ b)

theorem State.safeBank_safe (s : State) (b : Fin 4) : (s.safeBank b).BankSafe b := by
  have hsafe : ((s.hbOff b).modBank b fun c => { c with modulator := false, source := none }).banks[b].modulator = false ∧
      ((s.hbOff b).modBank b fun c => { c with modulator := false, source := none }).banks[b].source = none := by
    simp only [State.modBank_banks, upd_get, if_true, and_self]
  have hopens := State.setDn_opens ((s.hbOff b).modBank b fun c => { c with modulator := false, source := none }) b
  refine ⟨?_, (hopens.bank b).modulator hsafe.1, (hopens.bank b).source hsafe.2⟩
  unfold State.safeBank
  simp only [State.setDn_gates, upd_get, if_true]

/-- Every switch is off and every bank safe (03 R90, 02 R70). -/
theorem State.safePath_safe (s : State) : (∀ i : Fin 40, s.safePath.gates[chS i].cmd = false) ∧ ∀ b : Fin 4, s.safePath.BankSafe b := by
  refine ⟨fun i => ?_, fun b => ?_⟩
  · refine (State.Opens.forEach State.safeBank_opens).switch_off ?_
    exact forEach_mem (P := fun i t => t.gates[chS i].cmd = false) (fun t i => t.openS_off i) (fun t i j h => (t.openS_opens i).switch_off h) s allStr
      (List.mem_finRange i)
  · exact forEach_mem (P := State.BankSafe) (fun t b => t.safeBank_safe b) (fun t b c h => (t.safeBank_opens b).bankSafe h) (s.forEach allStr State.openS)
      allBank (List.mem_finRange b)

/-- What follows the safe path as every path is opened (09 Table 9-9). -/
theorem State.openAll_safe (s : State) : (∀ i : Fin 40, s.openAll.gates[chS i].cmd = false) ∧ ∀ b : Fin 4, s.openAll.BankSafe b := by
  unfold State.openAll
  dsimp only
  obtain ⟨hoff, hsafe⟩ := (s.forEach allBank fun t b => if t.pcActive b then t.endPrecharge b 0x4025 8 else t).safePath_safe
  generalize (s.forEach allBank fun t b => if t.pcActive b then t.endPrecharge b 0x4025 8 else t).safePath = t at hoff hsafe ⊢
  have hopens : t.Opens ((t.forEach allStr fun t i => if t.strs[i].state = .closed ∨ t.strs[i].state = .matching then t.setStr i .isolated else t).forEach
      allBank State.settleBank) := by
    refine State.Opens.trans (.forEach fun t i => ?_) (.forEach State.settleBank_opens)
    split
    · exact t.setStr_opens i 0 rfl
    · exact .refl t
  exact ⟨fun i => hopens.switch_off (hoff i), fun b => hopens.bankSafe (hsafe b)⟩

/-- What follows the opened path at a supply warning changes no bank and no channel. -/
theorem State.supplySafe_path (s : State) : s.supplySafe.gates = (s.irqRaise 53).openAll.gates ∧ s.supplySafe.banks = (s.irqRaise 53).openAll.banks := by
  have hblank : s.supplySafe.blank (only [.evlog, .io, .irq, .strs, .belay, .store]) =
      (s.irqRaise 53).openAll.blank (only [.evlog, .io, .irq, .strs, .belay, .store]) := by
    unfold State.supplySafe
    rw [State.irqRaise_in rfl, State.tearWrite_in rfl, State.discardPasses_in rfl rfl rfl rfl rfl, State.dropAllQ_in rfl rfl rfl]
  exact ⟨same_of_blank (p := .gates) hblank rfl, same_of_blank (p := .banks) hblank rfl⟩

/-- Settles O6: the path is made safe first, and what follows only opens it further. -/
theorem supplyWarningOpensPath : Obligations.SupplyWarningOpensPath := by
  unfold Obligations.SupplyWarningOpensPath
  intro s t hup hp hh hexec
  rw [execBelaySupplyWarning_eq hup hp hh] at hexec
  obtain rfl := Host.Outcome.next.inj hexec
  obtain ⟨hgates, hbanks⟩ := s.supplySafe_path
  obtain ⟨hoff, hsafe⟩ := (s.irqRaise 53).openAll_safe
  refine ⟨fun i => ?_, fun b => ?_⟩
  · rw [s.supplySafe.holdForSupply_path.1, hgates]
    exact hoff i
  · rw [s.supplySafe.holdForSupply_path.1, s.supplySafe.holdForSupply_path.2, hgates, hbanks]
    exact hsafe b

end Sys2Proof.Machine

/-!
Starts and resets: what the boot ROM and firmware leave of the start's record (O2, O3, O4, O5).
-/

namespace Sys2Proof.Machine

-- One thread per theorem would be more than the compiler's memory limit allows.
set_option Elab.async false

/-! ## What a start leaves of its own record -/

/-- What the boot ROM and firmware change of the start's record: how far they are, and what they found. -/
def Start.Boots (a b : Start) : Prop := ∃ fw cause boot replay step bootImage trialCount retired holdSensors resumeAt, b =
  { a with fw := fw, cause := cause, boot := boot, replay := replay, step := step, bootImage := bootImage, trialCount := trialCount, retired := retired,
           holdSensors := holdSensors, resumeAt := resumeAt }

theorem Start.Boots.refl (a : Start) : a.Boots a := ⟨_, _, _, _, _, _, _, _, _, _, rfl⟩
theorem Start.Boots.trans {a b c : Start} (h : a.Boots b) (k : b.Boots c) : a.Boots c := by
  obtain ⟨_, _, _, _, _, _, _, _, _, _, rfl⟩ := h
  obtain ⟨_, _, _, _, _, _, _, _, _, _, rfl⟩ := k
  exact ⟨_, _, _, _, _, _, _, _, _, _, rfl⟩

/-- Firmware's progress through a start: its step, the stored requests it replays, and the hot sensors it reports. -/
def Start.Goes (a b : Start) : Prop := ∃ step replay holdSensors, b = { a with step := step, replay := replay, holdSensors := holdSensors }

theorem Start.Goes.refl (a : Start) : a.Goes a := ⟨_, _, _, rfl⟩
theorem Start.Goes.trans {a b c : Start} (h : a.Goes b) (k : b.Goes c) : a.Goes c := by
  obtain ⟨_, _, _, rfl⟩ := h
  obtain ⟨_, _, _, rfl⟩ := k
  exact ⟨_, _, _, rfl⟩
theorem Start.Goes.of_eq {a b : Start} (h : b = a) : a.Goes b := h ▸ .refl a
theorem Start.Goes.boots {a b : Start} (h : a.Goes b) : a.Boots b := by
  obtain ⟨_, _, _, rfl⟩ := h
  exact ⟨_, _, _, _, _, _, _, _, _, _, rfl⟩

/-- The start's record read off a frame that leaves it out. -/
theorem start_of_blank {s t : State} (h : t.blank (except .start) = s.blank (except .start)) : t.start = s.start := same_of_blank (p := .start) h rfl

theorem State.reportHotStart_goes (s : State) : s.start.Goes s.reportHotStart.start := by
  unfold State.reportHotStart
  dsimp only
  split
  · exact .refl _
  · rw [State.event_start]
    exact ⟨_, _, _, rfl⟩

theorem State.endReplay_goes (s : State) : s.start.Goes s.endReplay.start := by
  unfold State.endReplay
  split
  · dsimp only
    have hstart : (((s.modBelay fun b => { b with mirror := b.store, mirrorCommits := b.commits }).modTrav fun v =>
        { v with slowPeriod := (s.modBelay fun b => { b with mirror := b.store, mirrorCommits := b.commits }).val 0x2000 0x0053 }).settleStreams.settleBanks
          |>.enforceTrips.beginSelfTests).start = s.start := by
      rw [start_of_blank (State.beginSelfTests_in (m := except .start) rfl _), start_of_blank (State.enforceTrips_in (m := except .start) rfl rfl rfl rfl rfl rfl rfl rfl rfl rfl _),
        start_of_blank (State.settleBanks_in (m := except .start) rfl rfl rfl rfl rfl rfl rfl _),
        start_of_blank (State.settleStreams_in (m := except .start) rfl rfl rfl rfl rfl rfl rfl rfl rfl rfl _)]
      rfl
    rw [State.modStart_start, hstart]
    exact ⟨_, _, _, rfl⟩
  · exact .refl _

theorem State.replayFrom_goes (ps : List SealedReq) (s : State) : s.start.Goes (State.replayFrom ps s).start := by
  induction ps generalizing s with
  | nil => exact ⟨_, _, _, rfl⟩
  | cons p ps ih =>
    unfold State.replayFrom
    split
    · refine .trans (.of_eq ?_) (ih _)
      exact State.event_start ..
    · split
      · refine .trans (.of_eq ?_) (ih _)
        exact start_of_blank (forEach_in (m := except .start) (fun t i => State.setRws_in rfl rfl rfl t i) s _)
      · exact ⟨_, _, _, rfl⟩

/-- The state in which firmware replays the stored requests (03 Table 3-1, 371 ms row). -/
def State.beforeReplay (s : State) : State :=
  let t := s.modStart fun a => { a with fw := .running, resumeAt := 0, step := 1 }
  let t := t.sequenceGap.loadConfig.configureNets
  let t := t.setVal blockObj 0x0014 0 t.excludedMap
  let t := { t with cores := { t.cores with commitAt := t.now } }
  let t := t.modTherm fun h => { h with select := if t.val 0x1B00 0x0005 = 2 then .divide else .pause, roundAt := t.now }
  t.reportHotStart

theorem State.startFirmware_eq (s : State) : s.startFirmware = (State.replayFrom s.beforeReplay.seng.stored s.beforeReplay).endReplay := rfl

theorem State.beforeReplay_goes (s : State) : ({ s.start with fw := .running, resumeAt := 0, step := 1 } : Start).Goes s.beforeReplay.start := by
  unfold State.beforeReplay
  dsimp only
  refine Start.Goes.trans ?_ (State.reportHotStart_goes _)
  rw [State.modTherm_start]
  refine .of_eq ?_
  have hload : (s.modStart fun a => { a with fw := .running, resumeAt := 0, step := 1 }).sequenceGap.loadConfig.configureNets.start =
      { s.start with fw := .running, resumeAt := 0, step := 1 } := by
    rw [start_of_blank (State.configureNets_in rfl rfl _), start_of_blank (State.loadConfig_in rfl rfl rfl rfl rfl rfl rfl rfl rfl _),
      start_of_blank (State.sequenceGap_in rfl rfl _)]
    rfl
  rw [← hload]
  generalize (s.modStart fun a => { a with fw := .running, resumeAt := 0, step := 1 }).sequenceGap.loadConfig.configureNets = t
  exact State.setVal_start t blockObj 0x0014 0 t.excludedMap

/-- Firmware's part of a start makes it run, and changes no more of the start's record than its progress. -/
theorem State.startFirmware_start (s : State) : ({ s.start with fw := .running, resumeAt := 0, step := 1 } : Start).Goes s.startFirmware.start := by
  rw [State.startFirmware_eq]
  exact (s.beforeReplay_goes.trans (State.replayFrom_goes _ _)).trans (State.endReplay_goes _)

/-! ## The boot ROM -/

theorem State.safeHold_boots (s : State) : s.start.Boots s.safeHold.start := by
  unfold State.safeHold
  dsimp only
  rw [State.setBlock_start]
  exact ⟨_, _, _, _, _, _, _, _, _, _, rfl⟩

/-- The recovery firmware at most runs in `SAFE_HOLD` (03 R88). -/
theorem State.safeHold_held (s : State) : s.safeHold.mode.block = .safeHold ∧ s.safeHold.start.fw ≠ .running := by
  unfold State.safeHold
  dsimp only
  rw [State.setBlock_start]
  refine ⟨State.setBlock_block .., ?_⟩
  rw [State.modStart_start]
  dsimp only
  split <;> exact Firmware.noConfusion

theorem State.formCores_boots (s : State) (f : StartFindings) (powerOn : Bool) : s.start.Boots (s.formCores f powerOn).start := by
  unfold State.formCores
  dsimp only
  refine forEach_keeps (P := fun t => s.start.Boots t.start) (fun t c ht => ?_) _ _ ⟨_, _, _, _, _, _, _, _, _, _, rfl⟩
  rw [State.event_start]
  exact ht

theorem State.pickImage_boots (s : State) : s.start.Boots s.pickImage.1.start := by
  have hwarn : (s.forEach ([0, 1] : List (Fin 2)) fun t k => if s.start.images[k].verifies then t else t.event 0xC001 blockObj k.val (u8 (0x0A + k.val))).start =
      s.start := by
    refine forEach_keeps (P := fun t => t.start = s.start) (fun t k ht => ?_) s _ rfl
    split
    · exact ht
    · rw [State.event_start]
      exact ht
  unfold State.pickImage
  dsimp only
  generalize (s.forEach ([0, 1] : List (Fin 2)) fun t k => if s.start.images[k].verifies then t else t.event 0xC001 blockObj k.val (u8 (0x0A + k.val))) = t at hwarn ⊢
  split
  · rw [hwarn]
    exact .refl _
  next k _ =>
    split
    · rw [hwarn]
      exact .refl _
    next j _ =>
      rw [State.modStart_start]
      have hlate : (if (!s.start.images[k].confirmed && decide (2 ≤ s.start.trialCount)) = true then t.event 0xC002 blockObj j.val (u8 (0x0A + j.val)) else t).start =
          s.start := by
        split
        · rw [State.event_start, hwarn]
        · exact hwarn
      rw [hlate]
      exact ⟨_, _, _, _, _, _, _, _, _, _, rfl⟩

theorem State.startFirmware_boots (s : State) : s.start.Boots s.startFirmware.start :=
  .trans (b := { s.start with fw := .running, resumeAt := 0, step := 1 }) ⟨_, _, _, _, _, _, _, _, _, _, rfl⟩ s.startFirmware_start.boots

/-- The start once its rows are remapped: the image it picks runs, or it is held safe (03 R83). -/
def State.runImage (s : State) : State :=
  match s.pickImage with
  | (t, none) => t.safeHold
  | (t, some _) => t.startFirmware

theorem State.runImage_boots (s : State) : s.start.Boots s.runImage.start := by
  have hpick := s.pickImage_boots
  unfold State.runImage
  generalize s.pickImage = r at hpick
  obtain ⟨t, o⟩ := r
  cases o with
  | none => exact hpick.trans t.safeHold_boots
  | some k => exact hpick.trans t.startFirmware_boots

theorem State.startFrom5ms_eq (s : State) (b : Boot) : s.startFrom5ms b =
    (let t := s.formCores b.findings b.powerOn
    if b.stop || !t.paired then t.safeHold
    else
      let r := t.takeRows.remapAtStart b.findings.rows
      if !r.2 then r.1.safeHold else r.1.runImage) := rfl

theorem State.startFrom5ms_boots (s : State) (b : Boot) : s.start.Boots (s.startFrom5ms b).start := by
  have hcores := s.formCores_boots b.findings b.powerOn
  rw [State.startFrom5ms_eq]
  dsimp only
  generalize s.formCores b.findings b.powerOn = t at hcores ⊢
  have hrows : (t.takeRows.remapAtStart b.findings.rows).1.start = t.start :=
    (start_of_blank (State.remapAtStart_in rfl t.takeRows b.findings.rows)).trans rfl
  generalize t.takeRows.remapAtStart b.findings.rows = r at hrows ⊢
  split
  · exact hcores.trans t.safeHold_boots
  · rw [← hrows] at hcores
    split
    · exact hcores.trans r.1.safeHold_boots
    · exact hcores.trans r.1.runImage_boots

theorem State.runBoot_boots (s : State) : s.start.Boots s.runBoot.start := by
  unfold State.runBoot
  split
  · split
    · exact .trans (b := { s.start with boot := none }) ⟨_, _, _, _, _, _, _, _, _, _, rfl⟩ (State.startFrom5ms_boots _ _)
    · exact .refl _
  · exact .refl _

theorem State.bootWith_boots (s : State) (f : StartFindings) (powerOn stop : Bool) : s.start.Boots (s.bootWith f powerOn stop).start :=
  .trans (b := { s.start with boot := some ⟨f, powerOn, stop⟩ }) ⟨_, _, _, _, _, _, _, _, _, _, rfl⟩ (State.runBoot_boots _)

/-- What the boot ROM leaves beside the start's record. -/
theorem State.bootWith_keeps (s : State) (f : StartFindings) (powerOn stop : Bool) : (s.bootWith f powerOn stop).supply = s.supply ∧
    (s.bootWith f powerOn stop).heldReq = s.heldReq ∧ (s.bootWith f powerOn stop).waitingWrites = s.waitingWrites := by
  have hblank := State.bootWith_in (m := fun p => decide (p ≠ .supply) && decide (p ≠ .heldReq) && decide (p ≠ .waitingWrites))
    rfl rfl rfl rfl rfl rfl rfl rfl rfl rfl rfl rfl rfl rfl rfl rfl rfl rfl rfl rfl rfl s f powerOn stop
  exact ⟨same_of_blank (p := .supply) hblank rfl, same_of_blank (p := .heldReq) hblank rfl, same_of_blank (p := .waitingWrites) hblank rfl⟩

/-! ## System resets -/

/-- What a system reset leaves to the boot ROM. -/
structure State.SysReset (s t : State) : Prop where
  due : t.start.due = none
  newCause : t.start.newCause = true
  thermalHold : t.start.thermalHold = false
  fw : t.start.fw = .down
  began : t.start.began = s.now
  now : t.now = s.now
  wakeOut : t.supply.wakeOut = false
  heldReq : t.heldReq = []
  waitingWrites : t.waitingWrites = []

theorem State.beginSystemReset_resets (s : State) (c : SysCause) : s.SysReset (s.beginSystemReset c).1 := by
  have hnow : (s.beginSystemReset c).1.now = s.now := now_of_blank (State.beginSystemReset_in (m := fun _ => true) rfl rfl rfl rfl rfl rfl rfl rfl rfl rfl
    rfl rfl rfl rfl rfl rfl rfl rfl rfl rfl rfl rfl rfl rfl rfl rfl rfl rfl rfl rfl rfl rfl rfl rfl s c)
  have hbegan : (s.beginSystemReset c).1.start.began = (s.beginSystemReset c).1.now := by
    unfold State.beginSystemReset
    rfl
  refine ⟨?_, ?_, ?_, ?_, hbegan.trans hnow, hnow, ?_, ?_, ?_⟩ <;> unfold State.beginSystemReset <;> rfl

/-- A start after a system reset is what its boot ROM makes of it. -/
theorem State.systemReset_resets (s : State) (c : SysCause) (f : StartFindings) : (s.systemReset c f).start.due = none ∧
    (s.systemReset c f).start.thermalHold = false ∧ (s.systemReset c f).start.began = s.now ∧ (s.systemReset c f).start.newCause = true ∧
    (s.systemReset c f).supply.wakeOut = false ∧ (s.systemReset c f).heldReq = [] ∧ (s.systemReset c f).waitingWrites = [] := by
  have hreset := s.beginSystemReset_resets c
  unfold State.systemReset
  dsimp only
  generalize s.beginSystemReset c = r at hreset ⊢
  obtain ⟨fw, cause, boot, replay, step, image, trials, retired, sensors, resume, hstart⟩ := r.1.bootWith_boots f false r.2
  obtain ⟨hsupply, hheld, hwaiting⟩ := r.1.bootWith_keeps f false r.2
  rw [hstart, hsupply, hheld, hwaiting]
  exact ⟨hreset.due, hreset.thermalHold, hreset.began, hreset.newCause, hreset.wakeOut, hreset.heldReq, hreset.waitingWrites⟩

theorem State.endThermalHold_ends (s : State) (f : StartFindings) : (s.endThermalHold f).start.thermalHold = false := by
  unfold State.endThermalHold
  split
  · obtain ⟨fw, cause, boot, replay, step, image, trials, retired, sensors, resume, hstart⟩ :=
      (s.modStart fun a => { a with thermalHold := false, holdPowerOn := false }).bootWith_boots f true false
    rw [hstart]
    rfl
  · exact (s.systemReset_resets .thermal f).2.1

/-! ## Thermal shutdown -/

/-- The path and the passes at a thermal shutdown, before it is recorded (16 R435). -/
def State.thermalSafe (s : State) : State :=
  State.discardPasses (((s.safePath.dropAllQ).irqRaise 55).forEach allStr fun t i => t.tripStr i [0x0E])

theorem State.thermalSafe_keeps (s : State) : s.thermalSafe.therm = s.therm ∧ s.thermalSafe.now = s.now := by
  have hblank : s.thermalSafe.blank (except .therm) = s.blank (except .therm) := by
    unfold State.thermalSafe
    rw [State.discardPasses_in rfl rfl rfl rfl rfl, forEach_in (fun t i => State.tripStr_in rfl rfl rfl rfl rfl rfl rfl rfl rfl rfl t i [0x0E]),
      State.irqRaise_in rfl, State.dropAllQ_in rfl rfl rfl, State.safePath_in rfl rfl rfl rfl rfl]
  exact ⟨same_of_blank (p := .therm) hblank rfl, now_of_blank hblank⟩

/-- A thermal shutdown recorded (16 R435). -/
def Thermal.shutDown (live now : Nat) (h : Thermal) : Thermal :=
  { h with shutdown := true, shutdownAt := now, tripped := live, shutdowns := sat32 h.shutdowns, seen := h.seen ||| 8 }

theorem execThermalShutdown_shuts {s : State} {m : Nat} (hlive : (mapBits 6 fun k => m.testBit k && !s.therm.compFailed.testBit k) ≠ 0)
    (hr : s.belay.released = true) (hup : s.supply.up = true) (hs : s.therm.shutdown = false) (hh : s.start.thermalHold = false) :
    ∃ t, exec (.thermalShutdown m) s = .next t ∧ t.mode.block = .off ∧
      t.therm = s.therm.shutDown (mapBits 6 fun k => m.testBit k && !s.therm.compFailed.testBit k) s.now := by
  have hcond : (s.belay.released && s.supply.up && (mapBits 6 fun k => m.testBit k && !s.therm.compFailed.testBit k) ≠ 0 && !s.therm.shutdown &&
      !s.start.thermalHold) = true := by
    rw [hr, hup, hs, hh, decide_eq_true hlive]
    rfl
  have hexec : exec (.thermalShutdown m) s = .next ((((s.thermalSafe.modTherm
      (Thermal.shutDown (mapBits 6 fun k => m.testBit k && !s.therm.compFailed.testBit k) s.now)).event 0xB006 0x1B00 0
      (u8 (mapBits 6 fun k => m.testBit k && !s.therm.compFailed.testBit k))).setBlock .off 3).hurryOut 5 true) :=
    congrArg Host.Outcome.next (if_pos hcond)
  generalize (mapBits 6 fun k => m.testBit k && !s.therm.compFailed.testBit k) = live at hexec ⊢
  refine ⟨_, hexec, ?_, ?_⟩
  · rw [same_of_blank (p := .mode) (State.hurryOut_in (m := except .mode) rfl rfl rfl rfl rfl rfl _ 5 true) rfl]
    exact State.setBlock_block ..
  · rw [same_of_blank (p := .therm) (State.hurryOut_in (m := except .therm) rfl rfl rfl rfl rfl rfl _ 5 true) rfl,
      same_of_blank (p := .therm) (State.setBlock_in (m := except .therm) rfl rfl rfl _ .off 3) rfl, State.event_therm, State.modTherm_therm,
      s.thermalSafe_keeps.1]

/-- The module held in reset after a thermal shutdown, before its controllers and ports go off (03 R100). -/
def State.holdHot (s : State) : State :=
  let t := s.tearWrite.modStart fun a => { a with thermalHold := true, fw := .down, due := none, boot := none, replay := [], hurry := none }
  { t with cores := { t.cores with swapping := false, formed := none } }

theorem State.offBus_cans (s : State) (k : Fin 3) :
    (s.forEach (List.finRange 3) fun t k => t.modCan k fun c => { c with onBus := false }).cans[k].onBus = false := by
  refine forEach_mem (P := fun k t => t.cans[k].onBus = false) (fun t k => ?_) (fun t j k h => ?_) s _ (List.mem_finRange k)
  · simp only [State.modCan_cans, upd_get, if_true]
  · simp only [State.modCan_cans, upd_get]
    split
    · rfl
    · exact h

theorem State.portsDown_eths (s : State) (k : Fin 2) :
    (s.forEach (List.finRange 2) fun t k => t.modEth k fun e => { e with up := false }).eths[k].up = false := by
  refine forEach_mem (P := fun k t => t.eths[k].up = false) (fun t k => ?_) (fun t j k h => ?_) s _ (List.mem_finRange k)
  · simp only [State.modEth_eths, upd_get, if_true]
  · simp only [State.modEth_eths, upd_get]
    split
    · rfl
    · exact h

/-- Settles O5. -/
theorem thermalShutdown : Obligations.ThermalShutdown := by
  unfold Obligations.ThermalShutdown
  refine fun s => ⟨fun m hlive hr hup hs hh => execThermalShutdown_shuts hlive hr hup hs hh, fun hs hh hat => ?_, fun f hh hs => ?_⟩
  · have hcond : (s.therm.shutdown && !s.start.thermalHold && decide (s.therm.shutdownAt + ms 50 ≤ s.now)) = true := by
      rw [hs, hh, decide_eq_true hat]
      rfl
    have hexec : exec .thermalHold s = .next (((s.holdHot.forEach (List.finRange 3) fun t k => t.modCan k fun c => { c with onBus := false }).forEach
        (List.finRange 2) fun t k => t.modEth k fun e => { e with up := false }).modTrav fun v => { v with running := false }) :=
      congrArg Host.Outcome.next (if_pos hcond)
    have hports (t : State) : (t.forEach (List.finRange 2) fun t k => t.modEth k fun e => { e with up := false }).blank (only [.eths]) =
        t.blank (only [.eths]) := forEach_in (fun t k => State.modEth_in rfl t k _) t _
    have hbuses (t : State) : (t.forEach (List.finRange 3) fun t k => t.modCan k fun c => { c with onBus := false }).blank (only [.cans]) =
        t.blank (only [.cans]) := forEach_in (fun t k => State.modCan_in rfl t k _) t _
    refine ⟨_, hexec, ?_, fun k => ?_, fun k => State.portsDown_eths _ k, rfl⟩
    · rw [State.modTrav_start, same_of_blank (p := .start) (hports _) rfl, same_of_blank (p := .start) (hbuses _) rfl]
      unfold State.holdHot
      simp only [State.modStart_start, State.tearWrite_start]
    · rw [State.modTrav_cans, same_of_blank (p := .cans) (hports _) rfl]
      exact State.offBus_cans _ k
  · exact ⟨_, congrArg Host.Outcome.next (if_pos (by rw [hh, hs]; rfl)), s.endThermalHold_ends f⟩

/-! ## Processor restarts -/

theorem State.countFault_keeps (s : State) (k : Fin 16) (item : Nat) {m : Part → Bool} (hfc : m .fc = true) (hh : m .health = true)
    (he : m .evlog = true) (hi : m .irq = true) : (s.countFault k item).1.blank m = s.blank m := State.countFault_in hfc hh he hi s k item

/-- Without the lasting action a class only counts (18 R463). -/
theorem State.countFault_total {s : State} {k : Fin 16} {item : Nat} (h : (s.countFault k item).2 = false) :
    (s.countFault k item).1.fc.total = upd s.fc.total k sat32 := by
  unfold State.countFault at h ⊢
  dsimp only at h ⊢
  split at h
  · exact Bool.noConfusion h
  next hnot => rw [if_neg hnot]

/-- A string's control state across a processor restart: its requests end and its pass is orphaned (03 R91). -/
def StrCtl.orphan (c : StrCtl) : StrCtl :=
  { c with waiting := false, requested := false, pass := c.pass.map fun h => { h with orphan := true } }

/-- The start's record at a processor restart (03 R91). -/
def Start.restart (cause now : Nat) (a : Start) : Start :=
  { a with cause := cause, newCause := true, resumeAt := now + ms 150, due := none, steadySince := a.steadySince.map fun _ => now }

/-- A processor restart as far as the strings: `u` is the state after its fault count. -/
def State.orphanStrings (s u : State) (c : ProcCause) : State :=
  ((u.modStart (Start.restart (s.procCause c) u.now)).modBal fun b => { b with enabled := false, entering := false }).forEach allStr fun t i =>
    t.modStr i StrCtl.orphan

/-- What else a processor restart ends. -/
def State.dropRequests (t : State) : State :=
  let t := if t.est.running then t.resumeEstimator else t
  let t : State := { t.modDict (fun d => { d with transfers := [], submitted := [] }) with heldReq := [], waitingWrites := [] }
  let t := t.modSeng fun g => { g with forwarded := [], actions := [], queue := g.queue.map fun w => { w with orphan := true } }
  t.event 0xE002 blockObj 0 (u16 t.resetCause)

theorem State.processorRestart_eq (s : State) (c : ProcCause) : s.processorRestart c =
    if (s.countFault 10 0).2 then (s.countFault 10 0).1.escalate else (s.orphanStrings (s.countFault 10 0).1 c).dropRequests := rfl

/-- What a processor restart leaves (03 R91). -/
structure State.Restarts (s t : State) (c : ProcCause) : Prop where
  resumeAt : t.start.resumeAt = s.now + ms 150
  cause : t.start.cause = s.procCause c
  newCause : t.start.newCause = true
  due : t.start.due = none
  heldReq : t.heldReq = []
  waitingWrites : t.waitingWrites = []
  transfers : t.dict.transfers = []
  forwarded : t.seng.forwarded = []
  gates : t.gates = s.gates
  strs : ∀ i : Fin 40, t.strs[i] = s.strs[i].orphan

theorem State.orphanStrings_strs (s u : State) (c : ProcCause) (i : Fin 40) : (s.orphanStrings u c).strs[i] = u.strs[i].orphan := by
  unfold State.orphanStrings
  obtain ⟨t, -, hget, hlast⟩ := forEach_once (get := fun t : State => t.strs[i]) (P := fun _ => True) (f := fun t i => t.modStr i StrCtl.orphan)
    (fun _ _ _ => trivial) (fun t j hj _ => upd_get_other t.strs StrCtl.orphan hj) (List.nodup_finRange 40) (List.mem_finRange i)
    (s := (u.modStart (Start.restart (s.procCause c) u.now)).modBal fun b => { b with enabled := false, entering := false }) trivial
  refine hlast.trans ((upd_get_same t.strs i StrCtl.orphan).trans (congrArg StrCtl.orphan ?_))
  exact hget

theorem State.orphanStrings_keeps (s u : State) (c : ProcCause) : (s.orphanStrings u c).start = u.start.restart (s.procCause c) u.now ∧
    (s.orphanStrings u c).gates = u.gates := by
  have hblank : (s.orphanStrings u c).blank (only [.strs, .bal]) = (u.modStart (Start.restart (s.procCause c) u.now)).blank (only [.strs, .bal]) := by
    unfold State.orphanStrings
    rw [forEach_in (fun t i => State.modStr_in rfl t i _), State.modBal_in rfl]
  exact ⟨same_of_blank (p := .start) hblank rfl, same_of_blank (p := .gates) hblank rfl⟩

theorem State.dropRequests_drops (t : State) : t.dropRequests.heldReq = [] ∧ t.dropRequests.waitingWrites = [] ∧ t.dropRequests.dict.transfers = [] ∧
    t.dropRequests.seng.forwarded = [] ∧ t.dropRequests.start = t.start ∧ t.dropRequests.gates = t.gates ∧ t.dropRequests.strs = t.strs := by
  have hest : (if t.est.running then t.resumeEstimator else t).blank (only [.bal, .corr, .est, .evlog, .irq, .store]) =
      t.blank (only [.bal, .corr, .est, .evlog, .irq, .store]) := by
    split
    · exact State.resumeEstimator_in rfl rfl rfl rfl rfl rfl t
    · rfl
  unfold State.dropRequests
  dsimp only
  generalize (if t.est.running then t.resumeEstimator else t) = u at hest ⊢
  have hstart : u.start = t.start := same_of_blank (p := .start) hest rfl
  have hgates : u.gates = t.gates := same_of_blank (p := .gates) hest rfl
  have hstrs : u.strs = t.strs := same_of_blank (p := .strs) hest rfl
  simp only [State.event_heldReq, State.event_waitingWrites, State.event_dict, State.event_seng, State.event_start, State.event_gates, State.event_strs]
  exact ⟨rfl, rfl, rfl, rfl, hstart, hgates, hstrs⟩

/-- A processor restart that is no system reset (03 R91, R93). -/
theorem State.processorRestart_restarts {s : State} {c : ProcCause} (h : (s.countFault 10 0).2 = false) : s.Restarts (s.processorRestart c) c := by
  have hblank := s.countFault_keeps 10 0 (m := only [.fc, .health, .evlog, .irq]) rfl rfl rfl rfl
  have hgates : (s.countFault 10 0).1.gates = s.gates := same_of_blank (p := .gates) hblank rfl
  have hstrs : (s.countFault 10 0).1.strs = s.strs := same_of_blank (p := .strs) hblank rfl
  have hnow : (s.countFault 10 0).1.now = s.now := now_of_blank hblank
  rw [State.processorRestart_eq, h, if_neg Bool.false_ne_true]
  generalize (s.countFault 10 0).1 = u at hgates hstrs hnow ⊢
  obtain ⟨hstart, hg⟩ := s.orphanStrings_keeps u c
  have hs := s.orphanStrings_strs u c
  generalize s.orphanStrings u c = t at hstart hg hs ⊢
  obtain ⟨h1, h2, h3, h4, hstart', hg', hs'⟩ := t.dropRequests_drops
  rw [hstart] at hstart'
  refine ⟨?_, ?_, ?_, ?_, h1, h2, h3, h4, (hg'.trans hg).trans hgates, fun i => ?_⟩
  · rw [hstart', ← hnow]
    rfl
  · rw [hstart']
    rfl
  · rw [hstart']
    rfl
  · rw [hstart']
    rfl
  · rw [hs', hs]
    simp only [hstrs]

/-- A third restart becomes a system reset, in which nothing runs (03 R93). -/
theorem State.processorRestart_escalates {s : State} {c : ProcCause} (h : (s.countFault 10 0).2 = true) :
    (s.processorRestart c).start.due.isSome = true ∧ (s.processorRestart c).start.fw = .down := by
  rw [State.processorRestart_eq, h, if_pos rfl]
  exact ⟨rfl, ((s.countFault 10 0).1.beginSystemReset_resets .escalated).fw⟩

/-- A restart of the processor, or the system reset that it becomes. -/
theorem State.processorRestart_done (s : State) (c : ProcCause) : if (s.countFault 10 0).2 then (s.processorRestart c).start.due.isSome = true ∧
      (s.processorRestart c).start.fw = .down
    else (s.processorRestart c).start.resumeAt = s.now + ms 150 ∧ (s.processorRestart c).start.cause = s.procCause c ∧
      (s.processorRestart c).start.newCause = true ∧ (s.processorRestart c).start.due = none ∧ (s.processorRestart c).heldReq = [] ∧
      (s.processorRestart c).waitingWrites = [] ∧ (s.processorRestart c).dict.transfers = [] ∧ (s.processorRestart c).seng.forwarded = [] ∧
      (s.processorRestart c).gates = s.gates ∧ ∀ i : Fin 40, (s.processorRestart c).strs[i] = s.strs[i].orphan := by
  cases h : (s.countFault 10 0).2 with
  | true => exact State.processorRestart_escalates h
  | false =>
    have hdone := State.processorRestart_restarts (c := c) h
    exact ⟨hdone.resumeAt, hdone.cause, hdone.newCause, hdone.due, hdone.heldReq, hdone.waitingWrites, hdone.transfers, hdone.forwarded, hdone.gates,
      hdone.strs⟩

/-! ## Resets -/

/-- A signature that verifies has 64 bytes (14 R393). -/
theorem sig_length_of_verifies {key m sig : List Byte} (h : edVerifies key m sig = true) : sig.length = 64 := by
  unfold edVerifies at h
  dsimp only at h
  split at h
  · simp only [Bool.and_eq_true, decide_eq_true_eq] at h
    exact h.1.1
  · exact Bool.noConfusion h

theorem State.sealCheck_sig {s : State} {r : SealedReq} (h : s.sealCheck r = none) : r.head.sig.length = 64 := by
  unfold State.sealCheck at h
  cases hs : signedBy r ((s.keyOf r.head.slot).getD []) with
  | true => exact sig_length_of_verifies hs
  | false =>
    rw [hs, Bool.not_false, if_pos rfl] at h
    split_ifs at h

/-- The bytes of an admitted request of one item (14 Table 14-7). -/
theorem SealHead.one_bytes_length {h : SealHead} {index sub : Nat} {data : List Byte} (hsig : h.sig.length = 64) :
    (h.one index sub data).bytes.length = 90 + data.length := by
  simp only [SealHead.one, SealedReq.bytes, SealedReq.message, SealItem.bytes, List.map_cons, List.map_nil, List.flatten_cons, List.flatten_nil,
    List.append_nil, List.length_append, u8, u16, u64, beBytes_length, hsig]
  omega

/-- A sealed request to reset is answered and sets what is due (03 R94). -/
theorem State.sealedReset_due {c : Instr} {s : State} {h : SealHead} {v : Nat} (hc : exec c s = .next (s.unlessSwapping c fun s => s.sealedReset h v))
    (ha : s.admitsSealed (h.one 0x2000 0x0023 (u8 v))) : ∃ t, exec c s = .next t ∧ t.start.due = some (v, s.now + ms 10) ∧
      t.lastSent = some (.writeReply h.src 0x1E00 1 91) := by
  obtain ⟨t, hexec, hsent, hblank⟩ := exec_sealed (v := (s.verified (h.one 0x2000 0x0023 (u8 v))).applyResetRequest v)
    (act := fun s => .applied (s.applyResetRequest v)) hc ha rfl
  have hstart := same_of_blank (p := .start) hblank rfl
  refine ⟨t, hexec, ?_, ?_⟩
  · simp only [same] at hstart
    rw [hstart]
    unfold State.applyResetRequest
    dsimp only
    split
    · rw [same_of_blank (p := .start) (State.writeBack_in (m := except .start) rfl rfl rfl _ 2) rfl, State.modStart_start, State.verified_now]
    · rw [State.modStart_start, State.verified_now]
  · obtain ⟨-, -, -, -, -, -, -, -, -, hcheck, -⟩ := ha
    have hsig : h.sig.length = 64 := State.sealCheck_sig hcheck
    rw [hsent, SealHead.one_bytes_length hsig]
    simp only [u8, beBytes_length]
    rfl

/-- Without the gate rails the boot ROM's part waits (03 R78). -/
theorem State.bootWith_waits {s : State} (hr : s.start.gateRails = false) (f : StartFindings) (powerOn stop : Bool) :
    s.bootWith f powerOn stop = s.modStart fun a => { a with boot := some ⟨f, powerOn, stop⟩ } := by
  unfold State.bootWith State.runBoot
  simp only [State.modStart_start, hr, Bool.false_and, Bool.false_eq_true, if_false]

/-- A start that R93 stops is held safe once the gate rails are up. -/
theorem State.bootWith_stops {s : State} (hr : s.start.gateRails = true) (hh : s.start.thermalHold = false) (hs : s.start.heldForSupply = false)
    (f : StartFindings) (powerOn : Bool) : ∃ t : State, s.bootWith f powerOn true = t.safeHold := by
  unfold State.bootWith State.runBoot
  simp only [State.modStart_start, hr, hh, hs, Bool.not_false, Bool.and_self, if_true]
  exact ⟨_, rfl⟩

/-- An escalated reset whose boot ROM's part begins is due no longer. -/
def State.settleDue (s : State) : State := s.modStart fun a => { a with due := none }

theorem State.settleDue_boots (s : State) (f : StartFindings) (stop : Bool) : (s.settleDue.bootWith f false stop).start.due = none := by
  obtain ⟨fw, cause, boot, replay, step, image, trials, retired, sensors, resume, hstart⟩ := s.settleDue.bootWith_boots f false stop
  rw [hstart]
  rfl

/-- Settles O4: what each reset leaves, by the two lemmas about system resets and processor restarts. -/
theorem resets : Obligations.Resets := by
  unfold Obligations.Resets
  refine fun s => ⟨fun f hh hs => ?thermal, fun f t0 hdue hat hw => ?planned, fun f t0 hdue => ?escalated, fun f t0 hdue => ?stopped, fun c hc => ?restart,
    fun t0 hdue hat hfw hcount => ?resting, fun hr hs => ?warning, fun hr hs hcount => ?expiry, fun h ha => ?askRestart, fun h ha => ?askSystem⟩
  case thermal => exact ⟨_, congrArg Host.Outcome.next (if_pos (by rw [hh, hs]; rfl)), s.endThermalHold_ends f⟩
  case planned =>
    have hexec : exec (.systemReset .sealed f) s = .next (s.systemReset .sealed f) := by
      change execSystemReset .sealed f s = _
      unfold execSystemReset
      dsimp only
      rw [hdue, hw]
      exact congrArg Host.Outcome.next (if_pos ⟨hat, rfl⟩)
    obtain ⟨h1, -, h2, h3, h4, h5, h6⟩ := s.systemReset_resets .sealed f
    exact ⟨_, hexec, h1, h2, h3, h4, h5, h6⟩
  case escalated =>
    have hexec : exec (.systemReset .escalated f) s = .next (s.settleDue.bootWith f false false) := by
      change execSystemReset .escalated f s = _
      unfold execSystemReset
      dsimp only
      rw [hdue]
      rfl
    exact ⟨_, hexec, s.settleDue_boots f false⟩
  case stopped =>
    have hexec : exec (.systemReset .escalated f) s = .next (s.settleDue.bootWith f false true) := by
      change execSystemReset .escalated f s = _
      unfold execSystemReset
      dsimp only
      rw [hdue]
      rfl
    refine ⟨_, hexec, s.settleDue_boots f true, fun hrails hhold hsupply => ?_, fun hrails => ?_⟩
    · obtain ⟨t, ht⟩ := State.bootWith_stops (s := s.settleDue) hrails hhold hsupply f false
      rw [ht]
      exact t.safeHold_held
    · rw [State.bootWith_waits (s := s.settleDue) hrails]
      exact ⟨rfl, rfl⟩
  case restart =>
    have hexec : exec (.processorRestart c) s = .next (s.processorRestart c) := by
      change execProcessorRestart c s = _
      unfold execProcessorRestart
      rcases hc with ⟨rfl, ⟨t0, hdue, hat⟩, hfw⟩ | ⟨rfl, hr, hs⟩ | ⟨rfl, hr⟩
      · dsimp only
        rw [hdue, hfw]
        exact congrArg Host.Outcome.next (if_pos hat)
      · dsimp only
        rw [hr, hs]
        rfl
      · dsimp only
        rw [hr]
        rfl
    exact ⟨_, hexec, s.processorRestart_done c⟩
  case resting =>
    have hexec : exec (.processorRestart .sealed) s = .next ((s.countFault 10 0).1.modStart fun a => { a with
        due := none, cause := s.procCause .sealed, newCause := true, resumeAt := (s.countFault 10 0).1.now + ms 150 }) := by
      change execProcessorRestart .sealed s = _
      unfold execProcessorRestart
      dsimp only
      rw [hdue, hcount]
      exact congrArg Host.Outcome.next ((if_pos hat).trans (if_neg hfw))
    refine ⟨_, hexec, rfl, rfl, rfl, ?_, State.countFault_total hcount⟩
    have hstart : (s.countFault 10 0).1.start = s.start :=
      same_of_blank (p := .start) (s.countFault_keeps 10 0 (m := only [.fc, .health, .evlog, .irq]) rfl rfl rfl rfl) rfl
    rw [State.modStart_start, hstart]
  case warning => exact congrArg Host.Outcome.next (if_pos (by rw [hr, hs]; rfl))
  case expiry =>
    have hexec : exec .watchdogExpiry s = .next (s.processorRestart .watchdog) := congrArg Host.Outcome.next (if_pos (by rw [hr, hs]; rfl))
    have hdone := State.processorRestart_restarts (c := .watchdog) hcount
    refine ⟨_, hexec, hdone.resumeAt, hdone.cause, hdone.gates, fun i => ?_⟩
    rw [hdone.strs]
    exact ⟨rfl, rfl, rfl⟩
  case askRestart => exact State.sealedReset_due rfl ha
  case askSystem => exact State.sealedReset_due rfl ha

end Sys2Proof.Machine

/-!
The power-on and the parts of a start (O2, O3).
-/

namespace Sys2Proof.Machine

-- One thread per theorem would be more than the compiler's memory limit allows.
set_option Elab.async false

/-! ## The streams of a block whose switches are off -/

/-- Every string switch is commanded off, and the dictionary and the block's state are those given. -/
def State.Resting (d : Dict) (m : Mode) (t : State) : Prop := (∀ i : Fin 40, t.gates[chS i].cmd = false) ∧ t.dict = d ∧ t.mode = m

/-- An operation that leaves the channels, the dictionary and the block's state. -/
theorem State.Resting.of_blank {d : Dict} {m : Mode} {s t : State} (h : s.Resting d m) {p : Part → Bool} (hb : State.blank p t = State.blank p s)
    (hp : (p .gates || p .dict || p .values || p .mode) = false) : t.Resting d m := by
  simp only [Bool.or_eq_false_iff] at hp
  obtain ⟨⟨⟨hg, hd⟩, hv⟩, hm⟩ := hp
  obtain ⟨hoff, hdict, hmode⟩ := h
  have hgates : t.gates = s.gates := same_of_blank (p := .gates) hb hg
  exact ⟨fun i => by rw [hgates]; exact hoff i, (dict_of_blank hb hd hv).trans hdict, (same_of_blank (p := .mode) hb hm).trans hmode⟩

/-- The state of the block does not follow its banks. -/
def Mode.Still (m : Mode) : Prop := m.block ≠ .armed ∧ m.block ≠ .run

theorem State.Resting.settleBank {d : Dict} {m : Mode} (hm : m.Still) {s : State} (h : s.Resting d m) (b : Fin 4) : (s.settleBank b).Resting d m := by
  obtain ⟨hoff, hdict, hmode⟩ := h
  refine ⟨fun i => (s.settleBank_opens b).switch_off (hoff i), ?_, ?_⟩
  · rw [dict_of_blank (State.settleBank_in (m := only [.banks, .evlog, .irq, .strs, .gates, .mode, .io]) rfl rfl rfl rfl rfl rfl rfl s b) rfl rfl, hdict]
  · rw [s.settleBank_keepsMode b (by rw [hmode]; exact hm.1) (by rw [hmode]; exact hm.2), hmode]

/-- With every switch off a trip of a bank discards its waiting requests and no more (12 R330). -/
theorem State.tripClosed_idle {s : State} (h : ∀ i : Fin 40, s.gates[chS i].cmd = false) (b : Fin 4) (cause : Nat) :
    s.tripClosed b cause = s.forEach (s.stringsOf b) State.discardClose := by
  unfold State.tripClosed
  dsimp only
  rw [List.filter_eq_nil_iff.mpr fun i _ => by rw [h i]; exact Bool.false_ne_true]
  rfl

theorem State.Resting.tripClosed {d : Dict} {m : Mode} {s : State} (h : s.Resting d m) (b : Fin 4) (cause : Nat) : (s.tripClosed b cause).Resting d m := by
  rw [State.tripClosed_idle h.1]
  exact h.of_blank (p := only [.evlog, .irq, .strs]) (forEach_in (fun t i => State.discardClose_in rfl rfl rfl t i) s _) rfl

theorem State.Resting.enforceTrips {d : Dict} {m : Mode} (hm : m.Still) {s : State} (h : s.Resting d m) : s.enforceTrips.Resting d m := by
  unfold State.enforceTrips
  dsimp only
  refine State.Resting.of_blank (p := only [.io, .evlog, .irq]) ?_ (State.enforceOutputs_in rfl rfl rfl _) rfl
  refine forEach_keeps (P := State.Resting d m) (fun t b ht => State.Resting.settleBank hm ?_ b) s allBank h
  have hgroup : (if !t.banks[b].groupReady then t.tripClosed b 0x0C else t).Resting d m := by
    split
    · exact ht.tripClosed b _
    · exact ht
  generalize (if !t.banks[b].groupReady then t.tripClosed b 0x0C else t) = u at hgroup ⊢
  split
  · exact hgroup.tripClosed b _
  · exact hgroup

theorem State.Resting.enterSm {d : Dict} {m : Mode} {s : State} (h : s.Resting d m) (k : Fin 8) (st : SmState) : (s.enterSm k st).Resting d m :=
  h.of_blank (p := only [.io, .evlog, .irq]) (State.enterSm_in rfl rfl rfl s k st) rfl

theorem State.Resting.followSm {d : Dict} {m : Mode} (hm : m.Still) {s : State} (h : s.Resting d m) (k : Fin 8) : (s.followSm k).Resting d m := by
  rw [State.followSm_eq]
  refine State.Resting.enforceTrips hm (h.of_blank (p := only [.io, .irq]) ?_ rfl)
  unfold State.noteReaction
  dsimp only
  rw [State.modSm_in rfl]
  split
  · exact State.irqRaise_in rfl s 66
  · rfl

theorem State.Resting.settleStreams {d : Dict} {m : Mode} (hm : m.Still) {s : State} (h : s.Resting d m) : s.settleStreams.Resting d m := by
  unfold State.settleStreams
  refine forEach_keeps (P := State.Resting d m) (fun t k ht => ?_) s _ h
  dsimp only
  split
  · split
    · exact (ht.enterSm k _).followSm hm k
    · exact ht.followSm hm k
  · have hclear : (t.modSm k fun c => { c with pending := [], remembered := [], seq := none, permit := false, ticks := 0, acceptedNow := false }).Resting
        d m := ht.of_blank (p := only [.io]) (State.modSm_in rfl t k _) rfl
    exact (hclear.enterSm k _).followSm hm k

/-! ## The power-on -/

/-- The state of a power-on before its sensors are looked at (03 R74, R77). -/
def State.poweredUp (s : State) (f : StartFindings) : State := (((if f.rtcLost then s.loseRtc else s).resetSys true).powerUp).powerUpPath

theorem State.powerOn_eq (s : State) (f : StartFindings) : s.powerOn f =
    (let t := (s.poweredUp f).modStart fun a => { a with holdSensors := (s.poweredUp f).hotSensors f }
    if (s.poweredUp f).hotSensors f ≠ 0 then
      ({ t with eths := t.eths.map fun e => { e with up := false, fast := false } } : State).modStart fun a => { a with
        thermalHold := true, holdPowerOn := true }
    else t.bootWith f true false) := rfl

/-- The start's record after a power-on (03 Table 3-3): `lost` where the RTC's record of a supply loss is gone. -/
def Start.powerOn (now : Nat) (lost : Bool) (a : Start) : Start :=
  { a with
    cause := 0x8000 + (if (a.supplyLoss && !lost) = true then 0x4000 else 0), newCause := true, began := now, gateRails := false, supplyLoss := false
    heldForSupply := false, thermalHold := false, holdPowerOn := false, stopped := 0, fw := .down, step := 0, bootImage := 0
    startRecords := true, due := none, steadySince := none, boot := none, replay := [], hurry := none
    trialCount := if lost then 0 else a.trialCount, retired := if lost then 0 else a.retired }

theorem State.resetSys_start (s : State) (powerOn : Bool) : (s.resetSys powerOn).start =
    { s.start with startRecords := true, due := none, steadySince := none, boot := none, replay := [], hurry := none } := by
  have hstart : s.tearWrite.settleCalendar.start = s.start :=
    (start_of_blank (State.settleCalendar_in rfl rfl _)).trans (start_of_blank (State.tearWrite_in rfl s))
  unfold State.resetSys
  dsimp only
  rw [hstart]

theorem State.resetSys_kept (s : State) (powerOn : Bool) : (s.resetSys powerOn).now = s.now ∧ (s.resetSys powerOn).dict.copies = s.dict.copies ∧
    (s.resetSys powerOn).therm.compFailed = s.therm.compFailed := by
  have hblank : s.tearWrite.settleCalendar.blank (only [.utcBase, .utcAt, .store]) = s.blank (only [.utcBase, .utcAt, .store]) := by
    rw [State.settleCalendar_in rfl rfl, State.tearWrite_in rfl]
  have htherm : s.tearWrite.settleCalendar.therm = s.therm := same_of_blank (p := .therm) hblank rfl
  have hdict : s.tearWrite.settleCalendar.dict = s.dict := dict_of_blank hblank rfl rfl
  have hnow : s.tearWrite.settleCalendar.now = s.now := now_of_blank hblank
  unfold State.resetSys
  dsimp only
  generalize s.tearWrite.settleCalendar = t at htherm hdict hnow ⊢
  refine ⟨hnow, ?_, ?_⟩
  · rw [hdict]
    rfl
  · rw [htherm]
    unfold Thermal.carry
    split <;> rfl

/-- The safety inputs and outputs, the banks and the block's state of a power-on, before the streams settle. -/
def State.pathReset (t : State) : State :=
  let guard (k : Nat) : Bool := (t.inCfg (Fin.ofNat 24 k)).testBit 29 && t.inUse (Fin.ofNat 24 k) ≠ 0
  let t : State := { t with io := t.io.powerOn guard t.now }
  let t : State := { t with banks := Vector.replicate 4 BankCtl.reset }
  t.blockOff

theorem State.powerUpPath_eq (t : State) : t.powerUpPath = t.pathReset.settleStreams := rfl

theorem State.pathReset_keeps (t : State) : t.pathReset.supply = t.supply ∧ t.pathReset.start = t.start ∧ t.pathReset.therm = t.therm ∧
    t.pathReset.dict = t.dict ∧ t.pathReset.gates = t.gates ∧ t.pathReset.mode.block = .off := ⟨rfl, rfl, rfl, rfl, rfl, rfl⟩

theorem State.powerUpPath_keeps (t : State) (hoff : ∀ i : Fin 40, t.gates[chS i].cmd = false) : t.powerUpPath.supply = t.supply ∧
    t.powerUpPath.start = t.start ∧ t.powerUpPath.therm = t.therm ∧ t.powerUpPath.dict = t.dict ∧ t.powerUpPath.mode.block = .off := by
  rw [State.powerUpPath_eq]
  obtain ⟨hsupply, hstart, htherm, hdict, hgates, hblock⟩ := t.pathReset_keeps
  generalize t.pathReset = v at hsupply hstart htherm hdict hgates hblock ⊢
  have hblank := State.settleStreams_in (m := only [.irq, .io, .evlog, .banks, .gates, .strs, .fc, .health, .mode, .dict]) rfl rfl rfl rfl rfl rfl rfl rfl
    rfl rfl v
  have hrest : v.Resting t.dict v.mode := ⟨fun i => by rw [hgates]; exact hoff i, hdict, rfl⟩
  obtain ⟨-, hd, hm⟩ := hrest.settleStreams (by unfold Mode.Still; rw [hblock]; decide)
  exact ⟨(same_of_blank (p := .supply) hblank rfl).trans hsupply, (same_of_blank (p := .start) hblank rfl).trans hstart,
    (same_of_blank (p := .therm) hblank rfl).trans htherm, hd, by rw [hm, hblock]⟩

/-- What a power-on leaves before its sensors are looked at. -/
structure State.PoweredUp (s t : State) (f : StartFindings) : Prop where
  start : t.start = s.start.powerOn s.now f.rtcLost
  block : t.mode.block = .off
  up : t.supply.up = true
  pfw : t.supply.pfw = false
  vqPresent : t.supply.vqPresent = false
  seen : t.supply.seen = 0
  copies : t.dict.copies = s.dict.copies
  hot : t.hotSensors f = s.hotSensors f

theorem State.poweredUp_powers (s : State) (f : StartFindings) : s.PoweredUp (s.poweredUp f) f := by
  have hrtc : (if f.rtcLost then s.loseRtc else s).now = s.now ∧ (if f.rtcLost then s.loseRtc else s).dict = s.dict ∧
      (if f.rtcLost then s.loseRtc else s).therm = s.therm ∧ (if f.rtcLost then s.loseRtc else s).start = { s.start with
        supplyLoss := s.start.supplyLoss && !f.rtcLost, trialCount := if f.rtcLost then 0 else s.start.trialCount,
        retired := if f.rtcLost then 0 else s.start.retired } := by
    cases f.rtcLost with
    | true => exact ⟨rfl, rfl, rfl, by rw [Bool.not_true, Bool.and_false]; rfl⟩
    | false => exact ⟨rfl, rfl, rfl, by rw [Bool.not_false, Bool.and_true]; rfl⟩
  unfold State.poweredUp
  generalize (if f.rtcLost then s.loseRtc else s) = r at hrtc ⊢
  obtain ⟨hnow, hdict, htherm, hstart⟩ := hrtc
  have hreset := r.resetSys_start true
  obtain ⟨hnow', hcopies, hfailed⟩ := r.resetSys_kept true
  generalize r.resetSys true = t at hreset hnow' hcopies hfailed ⊢
  have hoff (i : Fin 40) : t.powerUp.gates[chS i].cmd = false := by
    simp only [State.powerUp, Fin.getElem_fin, Vector.getElem_ofFn, Fin.eta]
    exact isClamp_chS i
  obtain ⟨h1, h2, h3, h4, h5⟩ := t.powerUp.powerUpPath_keeps hoff
  refine ⟨?_, h5, by rw [h1]; rfl, by rw [h1]; rfl, by rw [h1]; rfl, by rw [h1]; rfl, ?_, ?_⟩
  · rw [h2]
    unfold State.powerUp
    dsimp only
    rw [hreset, hstart, hnow', hnow]
    rfl
  · rw [h4, ← hdict, ← hcopies]
    rfl
  · unfold State.hotSensors
    rw [h3, ← htherm, ← hfailed]
    rfl

/-! ## The rows of the boot ROM -/

/-- The role of a core after its self-test (03 R80). -/
theorem State.formCores_pair {s : State} {f : StartFindings} (h : 2 ≤ ((List.range 3).filter fun c => f.cores.testBit c).length) :
    (s.formCores f true).paired = true := by
  have hcores : ∀ (l : List Nat) (t : State), (t.forEach l fun t c => t.event 0xD010 0x1D00 c (u8 c)).cores = t.cores := fun l t =>
    forEach_keeps (P := fun u => u.cores = t.cores) (fun u c hu => (State.event_cores ..).trans hu) t l rfl
  unfold State.formCores
  dsimp only
  unfold State.paired
  rw [hcores]
  simp only [if_true, Nat.zero_testBit, Bool.not_false, State.modStart_cores, Bool.false_eq_true, if_false, List.filter_true]
  generalize Nat.testBit f.cores = p at h ⊢
  cases h0 : p 0 <;> cases h1 : p 1 <;> cases h2 : p 2 <;> simp [List.range_succ, h0, h1, h2] at h ⊢ <;> decide

theorem State.formCores_kept (s : State) (f : StartFindings) (powerOn : Bool) : (s.formCores f powerOn).dict = s.dict ∧
    (s.formCores f powerOn).start.images = s.start.images := by
  obtain ⟨fw, cause, boot, replay, step, image, trials, retired, sensors, resume, hstart⟩ := s.formCores_boots f powerOn
  refine ⟨dict_of_blank (State.formCores_in (m := only [.cores, .start, .evlog, .irq]) rfl rfl rfl rfl s f powerOn) rfl rfl, ?_⟩
  rw [hstart]

/-- With spares for every failing row the remap goes through (03 R81). -/
theorem State.remapAtStart_spares (rows : List Nat) (s : State) (h : s.health.rows.length + rows.length ≤ 64) : (s.remapAtStart rows).2 = true := by
  have hfold : ∀ (rows : List Nat) (t : State), t.health.rows.length + rows.length ≤ 64 → (rows.foldl (fun r row =>
      if r.1.health.rows.length < 64 then
        (r.1.modHealth fun h => { h with rows := h.rows ++ [row], spareUse := upd h.spareUse 2 sat32, storePending := true }, r.2)
      else (r.1, false)) ((t, true) : State × Bool)).2 = true := by
    intro rows
    induction rows with
    | nil => exact fun _ _ => rfl
    | cons row rows ih =>
      intro t ht
      rw [List.length_cons] at ht
      rw [List.foldl_cons, if_pos (by dsimp only; omega)]
      refine ih _ ?_
      dsimp only [State.modHealth]
      rw [List.length_append, List.length_singleton]
      omega
  exact hfold rows s h

/-- The confirmed image of the highest generation that verifies is the pick (03 R83). -/
theorem State.pickImage_picks {s : State} {k : Fin 2} (hlow : ∀ j : Fin 2, j < k → s.start.images[j].generation < s.start.images[k].generation)
    (hhigh : ∀ j : Fin 2, s.start.images[j].generation ≤ s.start.images[k].generation) (hv : s.start.images[k].verifies = true)
    (hc : s.start.images[k].confirmed = true) : ∃ t : State, s.pickImage = (t, some k) ∧ t.start.bootImage = 0x0A + k.val := by
  have hbest : (if s.start.images[0].generation < s.start.images[1].generation then (1 : Fin 2) else 0) = k := by
    match k, hlow, hhigh with
    | 0, _, hhigh => exact if_neg (Nat.not_lt.mpr (hhigh 1))
    | 1, hlow, _ => exact if_pos (hlow 0 (by decide))
  unfold State.pickImage
  dsimp only
  simp only [hbest, hv, hc, if_true, Bool.not_true, Bool.false_and, Bool.false_eq_true, if_false]
  exact ⟨_, rfl, rfl⟩

theorem State.cfgItems_of_copies {s t : State} (h : t.dict.copies = s.dict.copies) : t.cfgItems = s.cfgItems := by
  unfold State.cfgItems State.newestCfg
  rw [h]

/-- With a pair of cores, spares for the failing rows and a confirmed image of the highest generation that verifies, that image runs (03 Table 3-1). -/
theorem State.startFrom5ms_runs {s : State} {f : StartFindings} {k : Fin 2} (hcores : 2 ≤ ((List.range 3).filter fun c => f.cores.testBit c).length)
    (hrows : s.cfgItems.rows.length + f.rows.length ≤ 64) (hlow : ∀ j : Fin 2, j < k → s.start.images[j].generation < s.start.images[k].generation)
    (hhigh : ∀ j : Fin 2, s.start.images[j].generation ≤ s.start.images[k].generation) (hv : s.start.images[k].verifies = true)
    (hc : s.start.images[k].confirmed = true) :
    (s.startFrom5ms ⟨f, true, false⟩).start.fw = .running ∧ (s.startFrom5ms ⟨f, true, false⟩).start.bootImage = 0x0A + k.val := by
  have hpaired : (s.formCores f true).paired = true := State.formCores_pair hcores
  obtain ⟨hdict, himages⟩ := s.formCores_kept f true
  rw [State.startFrom5ms_eq]
  dsimp only
  generalize s.formCores f true = t at hpaired hdict himages ⊢
  have hspares : (t.takeRows.remapAtStart f.rows).2 = true := by
    refine State.remapAtStart_spares f.rows t.takeRows ?_
    rw [← State.cfgItems_of_copies (congrArg Dict.copies hdict)] at hrows
    exact hrows
  have hstart : (t.takeRows.remapAtStart f.rows).1.start = t.start := (start_of_blank (State.remapAtStart_in rfl t.takeRows f.rows)).trans rfl
  generalize t.takeRows.remapAtStart f.rows = r at hspares hstart ⊢
  rw [hpaired, hspares]
  simp only [Bool.not_true, Bool.or_false, Bool.false_eq_true, if_false]
  rw [← himages, ← hstart] at hlow hhigh hv hc
  obtain ⟨u, hpick, hu⟩ := State.pickImage_picks hlow hhigh hv hc
  unfold State.runImage
  rw [hpick]
  obtain ⟨step, replay, holdSensors, hgoes⟩ := u.startFirmware_start
  dsimp only
  rw [hgoes]
  exact ⟨rfl, hu⟩

/-- The gate rails rise: the channels see their commands and the rails (03 R78). -/
theorem State.railsUp_start (s : State) : s.railsUp.start = { s.start with gateRails := true } :=
  start_of_blank (t := s.railsUp) (s := s.modStart fun a => { a with gateRails := true })
    (forEach_in (fun t c => State.modGate_in rfl t c _) (s.modStart fun a => { a with gateRails := true }) _)

theorem State.railsUp_dict (s : State) : s.railsUp.dict = s.dict :=
  dict_of_blank (State.railsUp_in (m := only [.start, .gates]) rfl rfl s) rfl rfl

/-- Settles O2: the power-on leaves the start waiting for its gate rails or held, and the rails let the picked image run. -/
theorem powerOnStart : Obligations.PowerOnStart := by
  intro s f hup
  have hexec : exec (.powerOnStart f) s = .next (s.powerOn f) := by
    refine congrArg Host.Outcome.next (if_pos ?_)
    rcases hup with h | h <;> simp [h]
  have hpow := s.poweredUp_powers f
  rw [hexec, State.powerOn_eq]
  generalize s.poweredUp f = t at hpow ⊢
  obtain ⟨hstart, hblock, hsup, hpfw, hvq, hseen, hcopies, hhot⟩ := hpow
  dsimp only
  rw [hhot]
  have hcause : (s.start.powerOn s.now f.rtcLost).cause = 0x8000 + (if s.start.supplyLoss = true ∧ f.rtcLost = false then 0x4000 else 0) := by
    simp [Start.powerOn]
  by_cases hz : s.hotSensors f = 0
  · rw [if_neg (not_not_intro hz), State.bootWith_waits (by rw [State.modStart_start, hstart]; rfl)]
    refine ⟨_, rfl, hsup, hvq, hseen, ?_, ?_, ?_, fun h => absurd hz h, fun _ => ⟨rfl, ?_, ?_⟩, ?_⟩
    iterate 5
      simp only [State.modStart_start, hstart]
      rfl
    intro k _ hcores hrows hlow hhigh hv hc
    generalize hw : ((t.modStart fun a => { a with holdSensors := s.hotSensors f }).modStart fun a => { a with boot := some ⟨f, true, false⟩ }) = w
    have hwstart : w.start = { s.start.powerOn s.now f.rtcLost with holdSensors := s.hotSensors f, boot := some ⟨f, true, false⟩ } := by
      rw [← hw, State.modStart_start, State.modStart_start, hstart]
    have hwdict : w.dict.copies = s.dict.copies := by rw [← hw]; exact hcopies
    have hwcond : (w.supply.up && !w.start.gateRails && decide (w.mode.block ≠ .baseCamp)) = true := by
      rw [hwstart, ← hw]
      change (t.supply.up && true && decide (t.mode.block ≠ .baseCamp)) = true
      rw [hsup, hblock]
      rfl
    clear hw
    refine ⟨_, congrArg Host.Outcome.next (if_pos hwcond), ?_⟩
    have hrun : w.railsUp.runBoot = (w.railsUp.modStart fun a => { a with boot := none }).startFrom5ms ⟨f, true, false⟩ := by
      unfold State.runBoot
      rw [w.railsUp_start, hwstart]
      rfl
    rw [hrun]
    have himages : (w.railsUp.modStart fun a => { a with boot := none }).start.images = s.start.images := by
      rw [State.modStart_start, w.railsUp_start, hwstart]
      rfl
    have hdict : (w.railsUp.modStart fun a => { a with boot := none }).dict.copies = s.dict.copies := by
      rw [State.modStart_dict, w.railsUp_dict, hwdict]
    generalize (w.railsUp.modStart fun a => { a with boot := none }) = v at himages hdict ⊢
    rw [← himages] at hlow hhigh hv hc
    rw [← State.cfgItems_of_copies hdict] at hrows
    exact State.startFrom5ms_runs hcores hrows hlow hhigh hv hc
  · rw [if_pos hz]
    refine ⟨_, rfl, hsup, hvq, hseen, ?_, ?_, ?_, fun _ => ⟨rfl, ?_, hblock, ?_⟩, fun h => absurd h hz, fun k h => absurd h hz⟩
    · simp only [State.modStart_start, hstart]
      rfl
    · simp only [State.modStart_start, hstart]
      rfl
    · simp only [State.modStart_start, hstart]
      rfl
    · simp only [State.modStart_start, hstart]
      rfl
    · simp only [State.modStart_start, hstart]
      exact hcause

/-- Every supply, block and start of a power-on, whatever its sensors say. -/
theorem State.powerOn_powers (s : State) (f : StartFindings) : (s.powerOn f).supply.up = true ∧ (s.powerOn f).supply.pfw = false ∧
    (s.powerOn f).mode.block = .off ∧ (s.powerOn f).start.began = s.now ∧ (s.powerOn f).start.newCause = true ∧
    (s.powerOn f).start.gateRails = false := by
  obtain ⟨hstart, hblock, hup, hpfw, -, -, -, hhot⟩ := s.poweredUp_powers f
  rw [State.powerOn_eq]
  generalize s.poweredUp f = t at hstart hblock hup hpfw hhot ⊢
  dsimp only
  split
  · refine ⟨hup, hpfw, hblock, ?_, ?_, ?_⟩ <;> simp only [State.modStart_start, hstart] <;> rfl
  · rw [State.bootWith_waits (by rw [State.modStart_start, hstart]; rfl)]
    refine ⟨hup, hpfw, hblock, ?_, ?_, ?_⟩ <;> simp only [State.modStart_start, hstart] <;> rfl

/-- A channel at the rise of the gate rails: only a commanded clamp turns on (03 R78). -/
def Gate.railed (g : Gate) (now : Nat) (c : Fin 52) : Gate :=
  let g := { g with railPos := true, railNeg := true, seenCmd := g.cmd, edgeAt := now }
  if isClamp c && g.cmd then g.driveOn else { g with drive := if g.latch.isSome then .heldLow else .off, gateOn := false, gateOff := true }

theorem Gate.railed_rails (g : Gate) (now : Nat) (c : Fin 52) : (g.railed now c).railPos = true ∧ (g.railed now c).railNeg = true ∧
    (g.railed now c).gateOn = (isClamp c && g.cmd) ∧ (g.railed now c).cmd = g.cmd ∧ (g.railed now c).latch = g.latch := by
  unfold Gate.railed Gate.driveOn
  dsimp only
  cases isClamp c && g.cmd <;> exact ⟨rfl, rfl, rfl, rfl, rfl⟩

theorem State.railsUp_gate (s : State) (c : Fin 52) : s.railsUp.gates[c] = s.gates[c].railed s.now c := by
  unfold State.railsUp
  dsimp only
  exact (forEach_modGate (List.finRange 52) (List.nodup_finRange 52) (fun t c g => g.railed t.now c) (s.modStart fun a => { a with gateRails := true })
    (fun _ _ _ => rfl) c).trans (if_pos (List.mem_finRange c))

/-- A state whose calendar and start stand as they were. -/
theorem State.utc_of_blank {p : Part → Bool} {s t : State} (h : State.blank p t = State.blank p s) (hb : p .utcBase = false) (ha : p .utcAt = false)
    (hc : p .clock = false) : t.utc = s.utc := by
  have hbase : t.utcBase = s.utcBase := same_of_blank (p := .utcBase) h hb
  have hat : t.utcAt = s.utcAt := same_of_blank (p := .utcAt) h ha
  have hclock : t.clock = s.clock := same_of_blank (p := .clock) h hc
  have hnow : t.now = s.now := now_of_blank h
  unfold State.utc State.utcUs State.utcNs State.slewLeft
  rw [hbase, hat, hclock, hnow]

/-- The entry to `STANDBY` alone, without its records. -/
def State.enterStandby (s : State) : State :=
  let t := s.restoreLockouts.setBlock .standby 1
  t.modStart fun a => { a with startRecords := false, step := 8, startupTime := (t.now - a.began) / ms 1, steadySince := some t.now }

/-- What is recorded and stored once `STANDBY` is entered (15 R422, 17 R451). -/
def State.recordStart (t : State) : State :=
  let t := (t.event 0xE002 blockObj 0 (u16 t.resetCause)).flushAll
  let t := t.compareListId
  let t := if t.health.storePending then (t.modHealth fun h => { h with storePending := false }).storeCfg else t
  let t := t.modBal fun b => { b with enabled := true, modeNext := some (t.val 0x2000 0x0060) }
  t.settleLearned

theorem State.finishStart_eq (s : State) : s.finishStart = s.enterStandby.recordStart := by
  unfold State.finishStart State.enterStandby State.recordStart
  with_reducible rfl

theorem State.recordStart_in {m : Part → Bool} (h1 : m .evlog = true) (h2 : m .irq = true) (h3 : m .dict = true) (h4 : m .health = true)
    (h5 : m .bal = true) (h6 : m .store = true) (t : State) : t.recordStart.blank m = t.blank m := by
  have hstore (v : State) : (if v.health.storePending then (v.modHealth fun h => { h with storePending := false }).storeCfg else v).blank m =
      v.blank m := by
    split
    · rw [State.storeCfg_in h3 h2, State.modHealth_in h4]
    · rfl
  unfold State.recordStart
  dsimp only
  rw [State.settleLearned_in h1 h2 h6, State.modBal_in h5, hstore, State.compareListId_in h1 h3 h2, State.flushAll_in h1 h2, State.event_in h1 h2 _ _ _ _ _]

theorem State.enterStandby_enters (s : State) (hoff : s.mode.block = .off) : s.enterStandby.mode.block = .standby ∧ s.enterStandby.mode.since = s.utc ∧
    s.enterStandby.start = { s.start with
      startRecords := false, step := 8, startupTime := (s.now - s.start.began) / ms 1, steadySince := some s.now } := by
  have hlock := State.restoreLockouts_in (m := only [.strs, .evlog, .irq]) rfl rfl rfl s
  have hutc : s.restoreLockouts.utc = s.utc := State.utc_of_blank hlock rfl rfl rfl
  have hnow : s.restoreLockouts.now = s.now := now_of_blank hlock
  have hstart : s.restoreLockouts.start = s.start := same_of_blank (p := .start) hlock rfl
  have hmode : s.restoreLockouts.mode = s.mode := same_of_blank (p := .mode) hlock rfl
  unfold State.enterStandby
  dsimp only
  generalize s.restoreLockouts = r at hutc hnow hstart hmode ⊢
  have hset : (r.setBlock .standby 1).now = s.now :=
    (now_of_blank (State.setBlock_in (m := only [.mode, .evlog, .irq]) rfl rfl rfl r .standby 1)).trans hnow
  rw [State.modStart_mode, State.modStart_start, State.setBlock_start, hset, hstart]
  refine ⟨State.setBlock_block .., ?_, rfl⟩
  unfold State.setBlock
  rw [if_neg (by rw [hmode, hoff]; exact BlockState.noConfusion)]
  simp only [State.event_mode, State.irqRaise_mode]
  exact hutc

theorem State.finishStart_enters (s : State) (hoff : s.mode.block = .off) : s.finishStart.mode.block = .standby ∧ s.finishStart.mode.since = s.utc ∧
    s.finishStart.start = { s.start with
      startRecords := false, step := 8, startupTime := (s.now - s.start.began) / ms 1, steadySince := some s.now } := by
  have hrec := State.recordStart_in (m := only [.evlog, .irq, .dict, .health, .bal, .store]) rfl rfl rfl rfl rfl rfl s.enterStandby
  rw [State.finishStart_eq, same_of_blank (p := .mode) hrec rfl, same_of_blank (p := .start) hrec rfl]
  exact s.enterStandby_enters hoff

/-- Settles O3: the power-on, the gate rails, the entry to `STANDBY` and the confirmation of an image. -/
theorem startEvents : Obligations.StartEvents := by
  intro s
  refine ⟨fun f hup => ?_, fun hup hrails hcamp hboot => ?_, fun hdone => ?_, fun k t0 hk hsteady hfw ht0 hoff hsafe hshut hconf => ?_⟩
  · refine ⟨s.powerOn f, congrArg Host.Outcome.next (if_pos ?_), s.powerOn_powers f⟩
    rw [hup]
    rfl
  · have hrun : s.railsUp.runBoot = s.railsUp := by
      unfold State.runBoot
      rw [s.railsUp_start]
      dsimp only
      rw [hboot]
    refine ⟨s.railsUp, ?_, s.railsUp_start, fun c => ?_⟩
    · refine (congrArg Host.Outcome.next (if_pos ?_)).trans (congrArg Host.Outcome.next hrun)
      rw [hup, hrails]
      exact decide_eq_true hcamp
    · rw [s.railsUp_gate c]
      exact Gate.railed_rails ..
  · have hblock : s.mode.block = .off := by
      unfold State.startComplete at hdone
      simp only [Bool.and_eq_true, decide_eq_true_eq] at hdone
      exact hdone.1.1.1.1.1.1.1
    obtain ⟨h1, h2, h3⟩ := s.finishStart_enters hblock
    refine ⟨s.finishStart, congrArg Host.Outcome.next (if_pos hdone), h1, h2, ?_⟩
    rw [h3]
    exact ⟨rfl, rfl, rfl, rfl⟩
  · refine ⟨s.modStart fun a => { a with images := upd a.images k fun i => { i with confirmed := true }, trialCount := 0, bootImage := a.bootImage % 0x80 },
      ?_, ?_, rfl, rfl, ?_⟩
    · change execImageConfirm s = _
      unfold execImageConfirm
      rw [hk, hsteady]
      refine congrArg Host.Outcome.next (if_pos ?_)
      simp only [hfw, hoff, hsafe, hshut, ht0, hconf, ne_eq, not_false_eq_true, decide_true, Bool.not_false, Bool.and_self]
    · exact congrArg Image.confirmed (upd_get_same ..)
    · refine upd_get_other _ _ ?_
      match k with
      | 0 => decide
      | 1 => decide

end Sys2Proof.Machine

/-!
The CAN controllers: what each operation makes of one controller and of its message objects, then the writes (O31).
-/

namespace Sys2Proof.Machine

-- One thread per theorem would be more than the compiler's memory limit allows.
set_option Elab.async false

/-! ## A table's entries -/

theorem sparse_getD_put {α : Type} (t : Sparse α) (k j : Nat) (v d : α) :
    Sparse.getD (Sparse.put t k v) j d = if k = j then v else Sparse.getD t j d := by
  simp only [Sparse.getD, sparse_get?_put]
  split <;> rfl

/-- Entries changed one by one, where an untouched entry is changed into itself. -/
theorem sparse_getD_map {α : Type} (t : Sparse α) (f : α → α) {d : α} (hd : f d = d) (k : Nat) :
    Sparse.getD (t.map fun p => (p.1, f p.2)) k d = f (Sparse.getD t k d) := by
  unfold Sparse.getD
  induction t with
  | nil => exact hd.symm
  | cons a t ih =>
    simp only [List.map_cons, Sparse.get?]
    split
    · rfl
    · exact ih

/-! ## One controller and one of its objects -/

theorem State.modCan_same (s : State) (k : Fin 3) (f : Can → Can) : (s.modCan k f).cans[k] = f s.cans[k] := by
  rw [State.modCan_cans, upd_get, if_pos rfl]

theorem State.can_of_cans {s t : State} (h : t.cans = s.cans) (k : Fin 3) : t.cans[k] = s.cans[k] := by
  rw [h]

theorem State.canEvent_can (s : State) (k : Fin 3) (code item : Nat) (data : List Byte) (j : Fin 3) :
    (s.canEvent k code item data).cans[j] = s.cans[j] := State.can_of_cans (State.canEvent_cans ..) j

theorem State.mo_of_objs {s t : State} {k : Fin 3} (h : t.cans[k].objs = s.cans[k].objs) (o : Nat) : t.mo k o = s.mo k o := by
  unfold State.mo
  rw [h]

theorem State.mo_modMo_same (s : State) (k : Fin 3) (o : Nat) (f : MsgObj → MsgObj) : (s.modMo k o f).mo k o = f (s.mo k o) := by
  unfold State.mo State.modMo
  rw [State.modCan_same, sparse_getD_put, if_pos rfl]

theorem State.mo_modMo_other (s : State) (k : Fin 3) {o q : Nat} (h : q ≠ o) (f : MsgObj → MsgObj) : (s.modMo k o f).mo k q = s.mo k q := by
  unfold State.mo State.modMo
  rw [State.modCan_same, sparse_getD_put, if_neg h.symm]

theorem State.emit_cans (s : State) (m : Message) : (s.emit m).cans = s.cans := rfl

theorem State.noteSources_cans (s : State) : s.noteSources.cans = s.cans :=
  same_of_blank (p := .cans) (State.noteSources_in (m := only [.clock]) rfl s) rfl

/-! ## Operations on objects alone -/

/-- Of controller `k` only message objects differ. -/
def State.ObjsOnly (k : Fin 3) (s t : State) : Prop := t.cans[k] = { s.cans[k] with objs := t.cans[k].objs }

theorem State.ObjsOnly.refl (k : Fin 3) (s : State) : s.ObjsOnly k s := rfl
theorem State.ObjsOnly.trans {k : Fin 3} {s t u : State} (h : State.ObjsOnly k s t) (g : State.ObjsOnly k t u) : State.ObjsOnly k s u := by
  unfold State.ObjsOnly at h g ⊢
  rw [g, h]
theorem State.ObjsOnly.of_cans {k : Fin 3} {s t : State} (h : t.cans = s.cans) : State.ObjsOnly k s t := by
  unfold State.ObjsOnly
  rw [h]
theorem State.ObjsOnly.modMo (k : Fin 3) (s : State) (o : Nat) (f : MsgObj → MsgObj) : State.ObjsOnly k s (s.modMo k o f) := by
  unfold State.ObjsOnly State.modMo
  rw [State.modCan_same]
theorem State.setMoData_cans (s : State) (k : Fin 3) (o : Nat) (d : List Byte) :
    (s.setMoData k o d).cans = (s.modMo k o fun m => { m with data := d, next := none }).cans := rfl
theorem State.ObjsOnly.setMoData (k : Fin 3) (s : State) (o : Nat) (d : List Byte) : State.ObjsOnly k s (s.setMoData k o d) :=
  (State.ObjsOnly.modMo k s o _).trans (.of_cans (s.setMoData_cans k o d))
theorem State.ObjsOnly.settleMo (k : Fin 3) (s : State) (o : Nat) : State.ObjsOnly k s (s.settleMo k o) := by
  unfold State.settleMo
  split
  · exact .setMoData k s o _
  · exact .refl k s
theorem State.ObjsOnly.cancelled (k : Fin 3) (s : State) (o : Nat) : State.ObjsOnly k s (s.cancelled k o) :=
  (State.ObjsOnly.modMo k s o _).trans (.of_cans (State.canEvent_cans ..))
theorem State.ObjsOnly.cancelMo (k : Fin 3) (s : State) (o : Nat) : State.ObjsOnly k s (s.cancelMo k o) := by
  unfold State.cancelMo
  dsimp only
  split
  · exact .modMo k s o _
  · split
    · exact .cancelled k s o
    · exact .refl k s

theorem State.mo_of_cans {s t : State} (h : t.cans = s.cans) (k : Fin 3) (o : Nat) : t.mo k o = s.mo k o :=
  State.mo_of_objs (congrArg (fun v : Vector Can 3 => v[k].objs) h) o

theorem State.mo_setMoData_same (s : State) (k : Fin 3) (o : Nat) (d : List Byte) :
    (s.setMoData k o d).mo k o = { s.mo k o with data := d, next := none } := by
  rw [State.mo_of_cans (s.setMoData_cans k o d), State.mo_modMo_same]

theorem State.mo_setMoData_other (s : State) (k : Fin 3) {o q : Nat} (h : q ≠ o) (d : List Byte) : (s.setMoData k o d).mo k q = s.mo k q := by
  rw [State.mo_of_cans (s.setMoData_cans k o d), State.mo_modMo_other s k h]

/-- Data that waited leave an object's other fields. -/
theorem State.mo_settleMo (s : State) (k : Fin 3) (o : Nat) : ∃ data next, (s.settleMo k o).mo k o = { s.mo k o with data := data, next := next } := by
  unfold State.settleMo
  split
  · exact ⟨_, _, State.mo_setMoData_same s k o _⟩
  · exact ⟨_, _, rfl⟩

theorem State.mo_cancelled (s : State) (k : Fin 3) (o : Nat) :
    (s.cancelled k o).mo k o = { s.mo k o with pending := false, cancelReq := false, cancelled := true } := by
  unfold State.cancelled
  rw [State.mo_of_cans (State.canEvent_cans ..), State.mo_modMo_same]

theorem State.mo_cancelled_other (s : State) (k : Fin 3) {o q : Nat} (h : q ≠ o) : (s.cancelled k o).mo k q = s.mo k q := by
  unfold State.cancelled
  rw [State.mo_of_cans (State.canEvent_cans ..), State.mo_modMo_other s k h]

/-! ## Modes -/

/-- A controller that enters a mode with the entries given (13 R374). -/
def Can.entered (c : Can) (mode node nominal dataRate : Nat) : Can :=
  { c with
    onBus := true, mode := mode, modeNext := none, node := node, nominal := nominal, dataRate := dataRate, cfgPending := false, bus := .integrating
    mark := 0, refAt := 0, announce := true, sync := false, master := false, backup := false, freeWindow := false, refOut := none, refActive := false }

theorem State.stopTimetable_can (s : State) (k : Fin 3) : (s.stopTimetable k).cans[k] =
    { s.cans[k] with sync := false, master := false, backup := false, freeWindow := false, refOut := none, refActive := false } := by
  unfold State.stopTimetable
  rw [State.noteSources_cans, State.modCan_same]

theorem State.enterMode_can (s : State) (k : Fin 3) (m : Nat) :
    (s.enterMode k m).cans[k] = s.cans[k].entered m (s.val (canObj k) 2) (s.val (canObj k) 3) (s.val (canObj k) 4) := by
  unfold State.enterMode
  dsimp only
  rw [State.modCan_same, State.stopTimetable_can]
  simp only [State.val_of_values (s.stopTimetable_values k)]
  rfl

theorem State.takeMode_none {s : State} {k : Fin 3} (h : s.cans[k].modeNext = none) : s.takeMode k = s := by
  unfold State.takeMode
  rw [h]

/-- A mode that is due is entered, or the state stays as it is. -/
theorem State.takeMode_cases (s : State) (k : Fin 3) : s.takeMode k = s ∨ ∃ m, s.cans[k].modeNext = some m ∧ s.takeMode k = s.enterMode k m := by
  unfold State.takeMode
  split
  next m hm =>
    split
    · exact .inl rfl
    · exact .inr ⟨m, hm, rfl⟩
  · exact .inl rfl

/-- Whatever holds of a controller and of that controller in a newly entered mode holds after its due mode is taken. -/
theorem State.takeMode_can {s : State} {k : Fin 3} {P : Can → Prop} (h : P s.cans[k])
    (hin : ∀ mode node nominal dataRate, P (s.cans[k].entered mode node nominal dataRate)) : P (s.takeMode k).cans[k] := by
  rcases s.takeMode_cases k with heq | ⟨m, -, heq⟩
  · rw [heq]
    exact h
  · rw [heq, State.enterMode_can]
    exact hin ..

theorem State.mo_takeMode (s : State) (k : Fin 3) (o : Nat) : (s.takeMode k).mo k o = s.mo k o :=
  State.mo_of_objs (State.takeMode_can (P := fun c => c.objs = s.cans[k].objs) rfl fun _ _ _ _ => rfl) o

end Sys2Proof.Machine

/-!
What a CAN controller does on its bus (O32).
-/

namespace Sys2Proof.Machine

-- One thread per theorem would be more than the compiler's memory limit allows.
set_option Elab.async false

/-! ## The start of a frame -/

theorem exec_canStartOfFrame {s : State} {k : Fin 3} {o : Nat} (hsend : s.canSends k = true) (hwire : s.onWire k = none)
    (hwin : s.winner k (s.offers k) = some o) : exec (.canStartOfFrame k) s = .next (s.startFrame k o false) := by
  change execCanStartOfFrame k s = _
  unfold execCanStartOfFrame
  rw [hsend, hwire, hwin]
  rfl

theorem State.startFrame_object (s : State) (k : Fin 3) {o : Nat} (h : o ≠ 128) (single : Bool) : s.startFrame k o single =
    (s.modMo k o fun m => { m with active := true, oneShot := single }).emit (.canFrame k.val (moId (s.moCfg k o) + bitAt (moExt (s.moCfg k o)) 29)
      (moFd (s.moCfg k o)) (moBrs (s.moCfg k o)) (moFd (s.moCfg k o) && s.cans[k].esi) (s.moBytes k o)) := by
  unfold State.startFrame
  dsimp only
  rw [if_neg h]

theorem State.emit_lastSent (s : State) (m : Message) : (s.emit m).lastSent = some m := by
  simp [State.emit, State.lastSent]

theorem State.mo_startFrame (s : State) (k : Fin 3) {o : Nat} (h : o ≠ 128) (single : Bool) :
    (s.startFrame k o single).mo k o = { s.mo k o with active := true, oneShot := single } := by
  rw [s.startFrame_object k h, State.mo_of_cans (State.emit_cans ..), State.mo_modMo_same]

theorem State.startFrame_dict (s : State) (k : Fin 3) (single : Bool) :
    (s.startFrame k 128 single).cans = upd s.cans k (fun c => { c with dictActive := true }) ∧ ∀ f rest, s.cans[k].dictOut = f :: rest →
      (s.startFrame k 128 single).lastSent = some (.canFrame k.val (f.1 + 2 ^ 29) true true s.cans[k].esi f.2) := by
  unfold State.startFrame
  dsimp only
  rw [if_pos rfl]
  constructor
  · split <;> rfl
  · intro f rest hout
    rw [hout]
    exact State.emit_lastSent ..

/-! ## The end of a transmission -/

/-- The counters at the end of a transmission (13 R360, R369). -/
def State.countEnd (s : State) (k : Fin 3) (e : TransmitEnd) : State :=
  if e = .success then s.canSent k else if e = .lost then s.modCan k fun c => { c with counts := upd c.counts 8 sat32 } else s

/-- An object off the bus, pending again unless its frame was single-shot (13 R364). -/
def State.freeMo (t : State) (k : Fin 3) (o : Nat) : State :=
  (t.modMo k o fun m => { m with active := false, oneShot := false, pending := m.pending && !m.oneShot }).settleMo k o

theorem State.freeMo_objs (t : State) (k : Fin 3) (o : Nat) : t.ObjsOnly k (t.freeMo k o) :=
  (State.ObjsOnly.modMo k t o _).trans (.settleMo k _ o)

theorem State.mo_freeMo (t : State) (k : Fin 3) (o : Nat) : ∃ data next, (t.freeMo k o).mo k o =
    { t.mo k o with active := false, oneShot := false, pending := (t.mo k o).pending && !(t.mo k o).oneShot, data := data, next := next } := by
  unfold State.freeMo
  obtain ⟨data, next, h⟩ := (t.modMo k o fun m => { m with active := false, oneShot := false, pending := m.pending && !m.oneShot }).mo_settleMo k o
  refine ⟨data, next, ?_⟩
  rw [h, State.mo_modMo_same]

/-- What the end of its frame makes of an object (13 R359 to R361, R364). -/
def State.endMo (t : State) (k : Fin 3) (o : Nat) (e : TransmitEnd) (irq : Bool) : State :=
  let m := t.mo k o
  let t := t.freeMo k o
  if e = .success then
    let t := t.modMo k o fun m => { m with pending := false, cancelReq := false, sent := true }
    if irq then t.irqRaise (69 + 4 * k.val) else t
  else if m.cancelReq then t.cancelled k o
  else t

/-- What the end of the frame on the bus makes of its sender: the dictionary's buffer, the own reference, an object. -/
def State.endFrame (t : State) (k : Fin 3) (o : Nat) (e : TransmitEnd) (irq : Bool) : State :=
  if o = 128 then t.modCan k fun c => { c with dictActive := false, dictOut := if e = .success then c.dictOut.drop 1 else c.dictOut }
  else if o = 129 then (if e = .success then t.referenceSent k else t.modCan k fun c => { c with refActive := false })
  else t.endMo k o e irq

theorem exec_canTransmitEnd {s : State} {k : Fin 3} {o : Nat} (h : s.onWire k = some o) (e : TransmitEnd) :
    exec (.canTransmitEnd k e) s = .next (((s.countEnd k e).endFrame k o e (moIrq (s.moCfg k o))).takeMode k) := by
  change execCanTransmitEnd k e s = _
  unfold execCanTransmitEnd
  rw [h]
  cases e <;> rfl

theorem State.endMo_objs (t : State) (k : Fin 3) (o : Nat) (e : TransmitEnd) (irq : Bool) : t.ObjsOnly k (t.endMo k o e irq) := by
  unfold State.endMo
  dsimp only
  refine (t.freeMo_objs k o).trans ?_
  generalize t.freeMo k o = u
  split
  · split
    · exact (State.ObjsOnly.modMo k u o _).trans (.of_cans (State.irqRaise_cans ..))
    · exact .modMo k u o _
  · split
    · exact .cancelled k u o
    · exact .refl k u

theorem State.endMo_mo (t : State) (k : Fin 3) (o : Nat) (e : TransmitEnd) (irq : Bool) : ((t.endMo k o e irq).mo k o).active = false ∧
    (e = .success → ((t.endMo k o e irq).mo k o).pending = false ∧ ((t.endMo k o e irq).mo k o).sent = true) ∧
    (e ≠ .success → (t.mo k o).cancelReq = true → ((t.endMo k o e irq).mo k o).pending = false ∧ ((t.endMo k o e irq).mo k o).cancelled = true) ∧
    (e ≠ .success → (t.mo k o).cancelReq = false → ((t.endMo k o e irq).mo k o).pending = ((t.mo k o).pending && !(t.mo k o).oneShot)) := by
  unfold State.endMo
  dsimp only
  obtain ⟨data, next, hsettled⟩ := t.mo_freeMo k o
  generalize t.freeMo k o = u at hsettled ⊢
  by_cases he : e = .success
  · rw [if_pos he]
    have hsent : ((if irq then (u.modMo k o fun m => { m with pending := false, cancelReq := false, sent := true }).irqRaise (69 + 4 * k.val)
        else u.modMo k o fun m => { m with pending := false, cancelReq := false, sent := true }).mo k o) =
        { u.mo k o with pending := false, cancelReq := false, sent := true } := by
      split
      · rw [State.mo_of_cans (State.irqRaise_cans ..), State.mo_modMo_same]
      · rw [State.mo_modMo_same]
    rw [hsent, hsettled]
    exact ⟨rfl, fun _ => ⟨rfl, rfl⟩, fun h => absurd he h, fun h => absurd he h⟩
  · rw [if_neg he]
    cases hcancel : (t.mo k o).cancelReq with
    | true =>
      rw [if_pos rfl, State.mo_cancelled, hsettled]
      exact ⟨rfl, fun h => absurd h he, fun _ _ => ⟨rfl, rfl⟩, fun _ h => Bool.noConfusion h⟩
    | false =>
      rw [if_neg Bool.false_ne_true, hsettled]
      exact ⟨rfl, fun h => absurd h he, fun _ h => Bool.noConfusion h, fun _ _ => rfl⟩

/-- The counters and the bus state of a controller whose frame ended. -/
def Can.ended (c : Can) (e : TransmitEnd) : Can :=
  if e = .success then
    { c with tec := c.tec - 1, counts := upd c.counts 1 sat32, bus := if 128 ≤ c.tec - 1 ∨ 128 ≤ c.rec_ then .passive else .active }
  else if e = .lost then { c with counts := upd c.counts 8 sat32 } else c

theorem Can.byCounters_eq (c : Can) : c.byCounters = if 128 ≤ c.tec ∨ 128 ≤ c.rec_ then .passive else .active := by
  unfold Can.byCounters
  simp only [Bool.or_eq_true, decide_eq_true_eq]

/-- A frame's end counts; the rest of the controller stays. -/
theorem Can.ended_rest (c : Can) (e : TransmitEnd) : (c.ended e).objs = c.objs ∧ (c.ended e).dictOut = c.dictOut ∧ (c.ended e).modeNext = c.modeNext ∧
    (c.ended e).refOut = c.refOut := by
  unfold Can.ended
  split
  · exact ⟨rfl, rfl, rfl, rfl⟩
  · split <;> exact ⟨rfl, rfl, rfl, rfl⟩

theorem State.countEnd_can (s : State) (k : Fin 3) (e : TransmitEnd) : (s.countEnd k e).cans[k] = s.cans[k].ended e := by
  unfold State.countEnd Can.ended State.canSent
  split
  · rw [State.modCan_same]
    dsimp only
    rw [Can.byCounters_eq]
  · split
    · rw [State.modCan_same]
    · rfl

theorem State.referenceSent_can (s : State) (k : Fin 3) :
    (s.referenceSent k).cans[k] = { s.cans[k] with refOut := none, refActive := false, master := true, backup := false, sync := true } := by
  unfold State.referenceSent
  dsimp only
  rw [State.noteSources_cans]
  split
  · rw [State.canEvent_can, State.modCan_same]
  · rw [State.modCan_same]

/-- The fields of a controller that its own frames do not carry. -/
def Can.SameCounts (c d : Can) : Prop := d.tec = c.tec ∧ d.counts = c.counts ∧ d.bus = c.bus ∧ d.modeNext = c.modeNext

theorem State.endFrame_counts (t : State) (k : Fin 3) (o : Nat) (e : TransmitEnd) (irq : Bool) :
    t.cans[k].SameCounts (t.endFrame k o e irq).cans[k] := by
  unfold State.endFrame
  split
  · rw [State.modCan_same]
    exact ⟨rfl, rfl, rfl, rfl⟩
  · split
    · split
      · rw [State.referenceSent_can]
        exact ⟨rfl, rfl, rfl, rfl⟩
      · rw [State.modCan_same]
        exact ⟨rfl, rfl, rfl, rfl⟩
    · rw [t.endMo_objs k o e irq]
      exact ⟨rfl, rfl, rfl, rfl⟩

/-- The counters and the bus state after a transmission: those of its end, but for a mode that waited for it. -/
theorem State.transmitEnd_counts (s : State) (k : Fin 3) (o : Nat) (e : TransmitEnd) (irq : Bool) :
    let t := ((s.countEnd k e).endFrame k o e irq).takeMode k
    t.cans[k].tec = (s.cans[k].ended e).tec ∧ t.cans[k].counts = (s.cans[k].ended e).counts ∧
    (s.cans[k].modeNext = none → t.cans[k].bus = (s.cans[k].ended e).bus) := by
  obtain ⟨htec, hcounts, hbus, hnext⟩ := (s.countEnd k e).endFrame_counts k o e irq
  rw [State.countEnd_can] at htec hcounts hbus hnext
  dsimp only
  refine ⟨State.takeMode_can (P := fun c => c.tec = _) htec fun _ _ _ _ => htec, State.takeMode_can (P := fun c => c.counts = _) hcounts
    fun _ _ _ _ => hcounts, fun h => ?_⟩
  rw [State.takeMode_none, hbus]
  rw [hnext, (s.cans[k].ended_rest e).2.2.1, h]

/-! ## Errors -/

/-- What a clash may change of a controller (13 R371, R372). -/
def Can.Noted (c d : Can) : Prop := d.counts[2] = c.counts[2] ∧
  ∃ seen counts clashId clashes objs dupNode, d = { c with
    seen := seen, counts := counts, clashId := clashId, clashes := clashes, objs := objs, dupNode := dupNode }

theorem Can.Noted.refl (c : Can) : c.Noted c := ⟨rfl, _, _, _, _, _, _, rfl⟩
theorem Can.Noted.trans {c d e : Can} (h : c.Noted d) (g : d.Noted e) : c.Noted e := by
  obtain ⟨h2, _, _, _, _, _, _, rfl⟩ := h
  obtain ⟨g2, _, _, _, _, _, _, rfl⟩ := g
  exact ⟨g2.trans h2, _, _, _, _, _, _, rfl⟩
theorem Can.Noted.of_objs {k : Fin 3} {s t : State} (h : s.ObjsOnly k t) : s.cans[k].Noted t.cans[k] := by
  rw [h]
  exact ⟨rfl, _, _, _, _, _, _, rfl⟩

/-- An object that a duplicate node stops (13 R372). -/
def State.stopMo (t : State) (k : Fin 3) (o : Nat) : State := (t.cancelMo k o).modMo k o fun m => { m with clashOff := true }

theorem State.stopMo_objs (t : State) (k : Fin 3) (o : Nat) : t.ObjsOnly k (t.stopMo k o) :=
  (State.ObjsOnly.cancelMo k t o).trans (.modMo k _ o _)

theorem State.stopMos_noted (t : State) (k : Fin 3) (l : List Nat) : t.cans[k].Noted (t.forEach l fun t o => t.stopMo k o).cans[k] :=
  forEach_keeps (f := fun t o => State.stopMo t k o) (P := fun v => t.cans[k].Noted v.cans[k]) (fun v o hv => hv.trans (Can.Noted.of_objs (s := v) (t := v.stopMo k o) (v.stopMo_objs k o))) t l (.refl _)

theorem Can.Noted.clash (c : Can) (others : List Clash) (id : Nat) :
    c.Noted { c with clashes := others, clashId := id, seen := c.seen ||| 1, counts := upd c.counts 11 sat32 } :=
  ⟨by simp [upd], _, _, _, _, _, _, rfl⟩

theorem State.noteClash_noted (s : State) (k : Fin 3) (id : Nat) (own : Bool) : s.cans[k].Noted (s.noteClash k id own).cans[k] := by
  unfold State.noteClash
  extract_lets c old x others
  clear_value x others
  split
  · rw [State.modCan_same]
    exact ⟨rfl, _, _, _, _, _, _, rfl⟩
  · have hseen : s.cans[k].Noted ((s.modCan k fun c => { c with
        clashes := others, clashId := id, seen := c.seen ||| 1, counts := upd c.counts 11 sat32 }).canEvent k 0x8009 0 (u32 id)).cans[k] := by
      rw [State.canEvent_can, State.modCan_same]
      exact .clash ..
    split
    · exact hseen
    · rename_i t mine u hcount hown
      have hmine : s.cans[k].Noted u.cans[k] := hseen.trans (t.stopMos_noted k mine)
      clear_value u
      rw [State.canEvent_can, State.modCan_same]
      exact hmine.trans ⟨rfl, _, _, _, _, _, _, rfl⟩

/-- The objects on the bus go back to pending at the entry to bus-off (13 R369). -/
theorem State.busOff_objs (s : State) (k : Fin 3) (l : List Nat) : s.ObjsOnly k (s.forEach l fun t o =>
    let m := t.mo k o
    let t := (t.modMo k o fun m => { m with active := false, oneShot := false, pending := !m.cancelReq }).settleMo k o
    if m.cancelReq then t.cancelled k o else t) := by
  refine forEach_keeps (P := fun t => s.ObjsOnly k t) (fun t o ht => ht.trans ?_) _ _ (.refl k s)
  dsimp only
  split
  · exact ((State.ObjsOnly.modMo k t o _).trans (.settleMo k _ o)).trans (.cancelled k _ o)
  · exact (State.ObjsOnly.modMo k t o _).trans (.settleMo k _ o)

theorem State.smBusOff_cans (s : State) (net : Fin 2) : (s.smBusOff net).cans = s.cans :=
  same_of_blank (p := .cans) (State.smBusOff_in (m := only [.irq, .io, .evlog, .banks, .gates, .strs, .fc, .health, .mode, .dict]) rfl rfl rfl rfl rfl
    rfl rfl rfl rfl rfl s net) rfl

theorem State.enterBusOff_can (s : State) (k : Fin 3) : ∃ seen objs, (s.enterBusOff k).cans[k] = { s.cans[k] with
    bus := .busOff, busOffAt := s.now, dictActive := false, seen := seen, counts := upd s.cans[k].counts 10 sat32, objs := objs
    sync := false, master := false, backup := false, freeWindow := false, refOut := none, refActive := false } := by
  have hobjs := s.busOff_objs k (allMo.filter fun o => (s.mo k o).active)
  unfold State.enterBusOff
  dsimp only at hobjs ⊢
  generalize (s.forEach (allMo.filter fun o => (s.mo k o).active) fun t o =>
    if (t.mo k o).cancelReq then
      ((t.modMo k o fun m => { m with active := false, oneShot := false, pending := !m.cancelReq }).settleMo k o).cancelled k o
    else (t.modMo k o fun m => { m with active := false, oneShot := false, pending := !m.cancelReq }).settleMo k o) = u at hobjs ⊢
  have hstop : (((u.modCan k fun c => { c with bus := .busOff, busOffAt := s.now, dictActive := false, seen := c.seen ||| 2, counts := upd c.counts 10 sat32 })
      |>.stopTimetable k).canEvent k 0x8003).cans[k] = { u.cans[k] with
    bus := .busOff, busOffAt := s.now, dictActive := false, seen := u.cans[k].seen ||| 2, counts := upd u.cans[k].counts 10 sat32
    sync := false, master := false, backup := false, freeWindow := false, refOut := none, refActive := false } := by
    rw [State.canEvent_can, State.stopTimetable_can, State.modCan_same]
  split
  · rw [State.can_of_cans (State.smBusOff_cans ..), hstop, hobjs]
    exact ⟨_, _, rfl⟩
  · rw [hstop, hobjs]
    exact ⟨_, _, rfl⟩

/-- Index of an error kind's counter (13 Table 13-15). -/
def errorAt : CanErrorKind → Fin 13
  | .bit => 3 | .stuff => 4 | .form => 5 | .crc => 6 | .ack => 7

theorem errorAt_ne (kind : CanErrorKind) : (errorAt kind).val ≠ 2 := by cases kind <;> decide

/-- An error counted, and the clash it ended (13 R369, R371). -/
def State.noteError (s : State) (k : Fin 3) (kind : CanErrorKind) (clash : Option (Nat × Bool)) : State :=
  let t := s.modCan k fun c => { c with counts := upd (upd c.counts 2 sat32) (errorAt kind) sat32 }
  clash.elim t fun x => t.noteClash k x.1 (x.2 && s.cans[k].mode ≠ 2)

/-- The event of a counter that passes 96. -/
def State.warnError (t : State) (c : Can) (k : Fin 3) (tec rec_ : Nat) : State :=
  if (c.tec < 96 && decide (96 ≤ tec)) || (c.rec_ < 96 && decide (96 ≤ rec_)) then t.canEvent k 0x8001 else t

/-- The step from error active to error passive. -/
def State.passiveError (t : State) (c : Can) (k : Fin 3) (tec rec_ : Nat) : State :=
  if c.bus = .active && (decide (128 ≤ tec) || decide (128 ≤ rec_)) then
    (t.modCan k fun c => { c with bus := .passive, seen := c.seen ||| 4 }).canEvent k 0x8002
  else t

/-- What an error makes of the error counters and the bus state, `c` the controller before it (13 R369). -/
def State.settleError (t : State) (c : Can) (k : Fin 3) (tec rec_ : Nat) : State :=
  let t := (t.modCan k fun c => { c with tec := tec, rec_ := rec_ }).warnError c k tec rec_
  if 255 < tec then t.enterBusOff k else (t.passiveError c k tec rec_).takeMode k

theorem exec_canError {s : State} {k : Fin 3} (hon : s.cans[k].onBus = true) (hbus : s.cans[k].bus = .active ∨ s.cans[k].bus = .passive)
    (kind : CanErrorKind) (tx rx : Nat) (clash : Option (Nat × Bool)) : exec (.canError k kind tx rx clash) s =
      .next (if s.cans[k].mode = 2 then (s.noteError k kind clash).takeMode k
        else (s.noteError k kind clash).settleError s.cans[k] k (s.cans[k].tec + tx) (min 255 (s.cans[k].rec_ + rx))) := by
  change execCanError k kind tx rx clash s = _
  unfold execCanError
  dsimp only
  rw [if_neg (by rcases hbus with h | h <;> simp [hon, h, -Fin.getElem_fin])]
  cases clash <;> cases kind <;> rfl

/-- The fields an error's counting and its clash leave. -/
structure Can.Erred (c d : Can) : Prop where
  errors : d.counts[2] = sat32 c.counts[2]
  mode : d.mode = c.mode
  modeNext : d.modeNext = c.modeNext
  bus : d.bus = c.bus
  tec : d.tec = c.tec
  rec_ : d.rec_ = c.rec_

theorem State.noteError_erred (s : State) (k : Fin 3) (kind : CanErrorKind) (clash : Option (Nat × Bool)) :
    s.cans[k].Erred (s.noteError k kind clash).cans[k] := by
  have hcount : s.cans[k].Erred (s.modCan k fun c => { c with counts := upd (upd c.counts 2 sat32) (errorAt kind) sat32 }).cans[k] := by
    rw [State.modCan_same]
    refine ⟨?_, rfl, rfl, rfl, rfl, rfl⟩
    change (upd (upd s.cans[k].counts 2 sat32) (errorAt kind) sat32)[2] = _
    rw [upd_getN, if_neg (errorAt_ne kind), upd_getN]
    rfl
  unfold State.noteError
  dsimp only
  cases clash with
  | none => exact hcount
  | some x =>
    obtain ⟨h1, h2, h3, h4, h5, h6⟩ := hcount
    obtain ⟨hc, seen, counts, clashId, clashes, objs, dupNode, heq⟩ :=
      (s.modCan k fun c => { c with counts := upd (upd c.counts 2 sat32) (errorAt kind) sat32 }).noteClash_noted k x.1
        (x.2 && s.cans[k].mode ≠ 2)
    dsimp only [Option.elim_some]
    refine ⟨hc.trans h1, ?_, ?_, ?_, ?_, ?_⟩ <;> rw [heq] <;> assumption

theorem State.noteError_now (s : State) (k : Fin 3) (kind : CanErrorKind) (clash : Option (Nat × Bool)) : (s.noteError k kind clash).now = s.now := by
  unfold State.noteError
  dsimp only
  cases clash with
  | none => rfl
  | some x => exact now_of_blank (State.noteClash_in (m := only [.cans, .evlog, .irq]) rfl rfl rfl _ k x.1 _)

theorem State.warnError_can (t : State) (c : Can) (k : Fin 3) (tec rec_ : Nat) : (t.warnError c k tec rec_).cans[k] = t.cans[k] ∧
    (t.warnError c k tec rec_).now = t.now := by
  unfold State.warnError
  split
  · exact ⟨State.canEvent_can .., State.canEvent_now ..⟩
  · exact ⟨rfl, rfl⟩

theorem State.passiveError_can (t : State) (c : Can) (k : Fin 3) (tec rec_ : Nat) : ∃ seen, (t.passiveError c k tec rec_).cans[k] = { t.cans[k] with
    bus := if c.bus = .active ∧ (128 ≤ tec ∨ 128 ≤ rec_) then .passive else t.cans[k].bus, seen := seen } := by
  unfold State.passiveError
  simp only [Bool.and_eq_true, Bool.or_eq_true, decide_eq_true_eq]
  split
  · rw [State.canEvent_can, State.modCan_same]
    exact ⟨_, rfl⟩
  · exact ⟨_, rfl⟩

/-- An error below bus-off: the counters, and the bus state but for a mode that waited. -/
theorem State.settleError_below {t : State} {c : Can} {k : Fin 3} {tec rec_ : Nat} (h : tec ≤ 255) :
    (t.settleError c k tec rec_).cans[k].tec = tec ∧ (t.settleError c k tec rec_).cans[k].rec_ = rec_ ∧
    (t.settleError c k tec rec_).cans[k].counts = t.cans[k].counts ∧ (t.cans[k].modeNext = none →
      (t.settleError c k tec rec_).cans[k].bus = if c.bus = .active ∧ (128 ≤ tec ∨ 128 ≤ rec_) then .passive else t.cans[k].bus) := by
  unfold State.settleError
  dsimp only
  rw [if_neg (Nat.not_lt.mpr h)]
  obtain ⟨hcan, -⟩ := (t.modCan k fun c => { c with tec := tec, rec_ := rec_ }).warnError_can c k tec rec_
  rw [State.modCan_same] at hcan
  generalize (t.modCan k fun c => { c with tec := tec, rec_ := rec_ }).warnError c k tec rec_ = u at hcan ⊢
  obtain ⟨seen, hpass⟩ := u.passiveError_can c k tec rec_
  rw [hcan] at hpass
  generalize u.passiveError c k tec rec_ = v at hpass ⊢
  refine ⟨State.takeMode_can (P := fun c => c.tec = tec) (by rw [hpass]) fun _ _ _ _ => by rw [hpass]; rfl,
    State.takeMode_can (P := fun c => c.rec_ = rec_) (by rw [hpass]) fun _ _ _ _ => by rw [hpass]; rfl,
    State.takeMode_can (P := fun c => c.counts = t.cans[k].counts) (by rw [hpass]) fun _ _ _ _ => by rw [hpass]; rfl, fun hnone => ?_⟩
  rw [State.takeMode_none (by rw [hpass]; exact hnone), hpass]

/-- An error that ends in bus-off. -/
theorem State.settleError_off {t : State} {c : Can} {k : Fin 3} {tec rec_ : Nat} (h : 255 < tec) : ∃ d : Can, (t.settleError c k tec rec_).cans[k] = d ∧
    d.tec = tec ∧ d.rec_ = rec_ ∧ d.counts = upd t.cans[k].counts 10 sat32 ∧ d.bus = .busOff ∧ d.busOffAt = t.now ∧ d.sync = false := by
  unfold State.settleError
  dsimp only
  rw [if_pos h]
  obtain ⟨hcan, hnow⟩ := (t.modCan k fun c => { c with tec := tec, rec_ := rec_ }).warnError_can c k tec rec_
  rw [State.modCan_same] at hcan
  generalize (t.modCan k fun c => { c with tec := tec, rec_ := rec_ }).warnError c k tec rec_ = u at hcan hnow ⊢
  obtain ⟨seen, objs, hoff⟩ := u.enterBusOff_can k
  refine ⟨_, hoff, ?_, ?_, ?_, rfl, hnow, rfl⟩ <;> rw [hcan]

/-- What an error leaves of a controller that is active or passive, in the terms of 13 R369. -/
theorem State.canError_leaves {s : State} {k : Fin 3} (hon : s.cans[k].onBus = true) (hbus : s.cans[k].bus = .active ∨ s.cans[k].bus = .passive)
    (kind : CanErrorKind) (tx rx : Nat) (clash : Option (Nat × Bool)) : ∃ t, exec (.canError k kind tx rx clash) s = .next t ∧
      t.cans[k].counts[2] = sat32 s.cans[k].counts[2] ∧
      (s.cans[k].mode = 2 → t.cans[k].tec = s.cans[k].tec ∧ t.cans[k].rec_ = s.cans[k].rec_ ∧
        (s.cans[k].modeNext = none → t.cans[k].bus = s.cans[k].bus)) ∧
      (s.cans[k].mode ≠ 2 → t.cans[k].tec = s.cans[k].tec + tx ∧ t.cans[k].rec_ = min 255 (s.cans[k].rec_ + rx) ∧
        (255 < s.cans[k].tec + tx → t.cans[k].bus = .busOff ∧ t.cans[k].busOffAt = s.now ∧ t.cans[k].sync = false) ∧
        (s.cans[k].tec + tx ≤ 255 → s.cans[k].modeNext = none → t.cans[k].bus = if s.cans[k].bus = .active ∧
          (128 ≤ s.cans[k].tec + tx ∨ 128 ≤ min 255 (s.cans[k].rec_ + rx)) then .passive else s.cans[k].bus)) := by
  obtain ⟨herrors, hmode, hnext, hbus', htec, hrec⟩ := s.noteError_erred k kind clash
  have hnow := s.noteError_now k kind clash
  refine ⟨_, exec_canError hon hbus kind tx rx clash, ?_⟩
  generalize s.noteError k kind clash = t at herrors hmode hnext hbus' htec hrec hnow ⊢
  by_cases hlisten : s.cans[k].mode = 2
  · rw [if_pos hlisten]
    refine ⟨State.takeMode_can (P := fun c => c.counts[2] = _) herrors fun _ _ _ _ => herrors, fun _ => ⟨?_, ?_, fun hnone => ?_⟩,
      fun h => absurd hlisten h⟩
    · exact State.takeMode_can (P := fun c => c.tec = _) htec fun _ _ _ _ => htec
    · exact State.takeMode_can (P := fun c => c.rec_ = _) hrec fun _ _ _ _ => hrec
    · rw [State.takeMode_none (by rw [hnext, hnone]), hbus']
  · rw [if_neg hlisten]
    by_cases hoff : 255 < s.cans[k].tec + tx
    · obtain ⟨d, hd, h1, h2, h3, h4, h5, h6⟩ := State.settleError_off (t := t) (c := s.cans[k]) (k := k) (rec_ := min 255 (s.cans[k].rec_ + rx)) hoff
      rw [hd, h3, upd_getN, if_neg (by decide)]
      exact ⟨herrors, fun h => absurd h hlisten, fun _ => ⟨h1, h2, fun _ => ⟨h4, h5.trans hnow, h6⟩, fun h => absurd hoff (Nat.not_lt.mpr h)⟩⟩
    · obtain ⟨h1, h2, h3, h4⟩ := State.settleError_below (t := t) (c := s.cans[k]) (k := k) (rec_ := min 255 (s.cans[k].rec_ + rx)) (Nat.not_lt.mp hoff)
      rw [h3]
      refine ⟨herrors, fun h => absurd h hlisten, fun _ => ⟨h1, h2, fun h => absurd h hoff, fun _ hnone => ?_⟩⟩
      rw [h4 (by rw [hnext, hnone]), hbus']

/-! ## Exceptions, integration and recovery -/

theorem exec_protocolException {s : State} {k : Fin 3} (hon : s.cans[k].onBus = true) (hbus : s.cans[k].bus = .active ∨ s.cans[k].bus = .passive)
    (hnone : s.cans[k].modeNext = none) : ∃ t, exec (.protocolException k) s = .next t ∧
      t.cans = upd s.cans k fun c => { c with bus := .integrating } := by
  refine ⟨((s.modCan k fun c => { c with bus := .integrating }).canEvent k 0x8015).takeMode k, congrArg Host.Outcome.next (if_pos ?_), ?_⟩
  · rcases hbus with h | h <;> simp [hon, h, -Fin.getElem_fin]
  · rw [State.takeMode_none (by rw [State.canEvent_can, State.modCan_same]; exact hnone), State.canEvent_cans]
    rfl

theorem exec_canIntegrationComplete {s : State} {k : Fin 3} (hon : s.cans[k].onBus = true) (hbus : s.cans[k].bus = .integrating) : ∃ u : State,
    u = s.modCan k (fun c => { c with bus := if 128 ≤ c.tec ∨ 128 ≤ c.rec_ then .passive else .active, announce := false }) ∧
    exec (.canIntegrationComplete k) s = .next (if s.cans[k].announce = true then u.canEvent k 0x800C 0 (u8 s.cans[k].mode) else u) := by
  refine ⟨_, rfl, ?_⟩
  have hround : (fun c : Can => { c with bus := if 128 ≤ c.tec ∨ 128 ≤ c.rec_ then .passive else .active, announce := false }) =
      fun c => { c with bus := c.byCounters, announce := false } := by
    funext c
    rw [Can.byCounters_eq]
  rw [hround]
  exact congrArg Host.Outcome.next (if_pos (by simp [hon, hbus, -Fin.getElem_fin]))

theorem exec_busoffAutoExpiry {s : State} {k : Fin 3} (hauto : s.val (canObj k) 8 ≠ 0) (hfw : s.fwActs = true)
    (hdue : s.cans[k].busOffAt + sec (s.val (canObj k) 8) ≤ s.now) (hbus : s.cans[k].bus = .busOff) :
    ∃ t, exec (.busoffAutoExpiry k) s = .next t ∧ t.cans = upd s.cans k fun c => { c with recovering := true } := by
  refine ⟨s.recoverCan k, congrArg Host.Outcome.next (if_pos (by simp [hauto, hfw, hdue, -Fin.getElem_fin])), ?_⟩
  unfold State.recoverCan
  cases hrec : s.cans[k].recovering with
  | true =>
    rw [if_neg (by rw [hbus]; decide)]
    refine (upd_eq_self ?_).symm
    rw [← hrec]
  | false =>
    rw [if_pos (by rw [hbus]; decide), State.canEvent_cans]
    rfl

theorem exec_busoffRecovered {s : State} {k : Fin 3} (hbus : s.cans[k].bus = .busOff) (hrec : s.cans[k].recovering = true) : ∃ u : State,
    exec (.busoffRecovered k) s = .next (u.takeMode k) ∧
    u.cans = upd s.cans k fun c => { c with bus := .active, tec := 0, rec_ := 0, recovering := false } := by
  refine ⟨_, congrArg Host.Outcome.next (if_pos (by rw [hbus, hrec]; decide)), ?_⟩
  rw [State.canEvent_cans]
  rfl

/-- The frame on the bus does not depend on the counters and the bus state. -/
theorem State.onWire_of_can {s t : State} {k : Fin 3} (hd : t.cans[k].dictActive = s.cans[k].dictActive) (hr : t.cans[k].refActive = s.cans[k].refActive)
    (ho : t.cans[k].objs = s.cans[k].objs) : t.onWire k = s.onWire k := by
  unfold State.onWire State.mo
  rw [hd, hr, ho]

/-- Settles O32: the start and the end of a frame, errors, exceptions, integration and recovery of one controller. -/
theorem canBus : Obligations.CanBus := by
  intro s k
  refine ⟨fun o hsend hwire hwin => ?_, fun e o hwire => ?_, fun kind tx rx clash hon hbus => ?_, exec_protocolException, exec_canIntegrationComplete,
    exec_busoffAutoExpiry, fun hbus hrec => ?_⟩
  · refine ⟨_, exec_canStartOfFrame hsend hwire hwin, ?_, fun ho => ?_⟩
    · rintro rfl
      exact s.startFrame_dict k false
    · rw [s.startFrame_object k ho]
      exact ⟨rfl, State.emit_lastSent ..⟩
  · obtain ⟨htec, hcounts, hbus⟩ := s.transmitEnd_counts k o e (moIrq (s.moCfg k o))
    have hcan := s.countEnd_can k e
    obtain ⟨hobjs, hout, hnext, href⟩ := s.cans[k].ended_rest e
    have hmo : (s.countEnd k e).mo k = s.mo k := by
      funext q
      refine State.mo_of_objs ?_ q
      rw [hcan, hobjs]
    refine ⟨_, exec_canTransmitEnd hwire e, ?_, ?_, ?_, ?_, fun ho => ?_⟩
    · rintro rfl
      rw [htec, hcounts]
      refine ⟨by simp [Can.ended, upd], rfl, hbus⟩
    · rintro rfl
      rw [htec, hcounts]
      refine ⟨by simp [Can.ended, upd], rfl⟩
    · rintro rfl
      have hend : ((s.countEnd k e).endFrame k 128 e (moIrq (s.moCfg k 128))).cans[k] = { s.cans[k].ended e with
          dictActive := false, dictOut := if e = .success then s.cans[k].dictOut.drop 1 else s.cans[k].dictOut } := by
        unfold State.endFrame
        rw [if_pos rfl, State.modCan_same, hcan, hout]
      generalize (s.countEnd k e).endFrame k 128 e (moIrq (s.moCfg k 128)) = u at hend ⊢
      exact ⟨State.takeMode_can (P := fun c => c.dictActive = false) (by rw [hend]) fun _ _ _ _ => by rw [hend]; rfl,
        State.takeMode_can (P := fun c => c.dictOut = _) (by rw [hend]) fun _ _ _ _ => by rw [hend]; rfl⟩
    · rintro rfl
      have hend : (e = .success → ((s.countEnd k e).endFrame k 129 e (moIrq (s.moCfg k 129))).cans[k] = { s.cans[k].ended e with
            refOut := none, refActive := false, master := true, backup := false, sync := true }) ∧
          (e ≠ .success → ((s.countEnd k e).endFrame k 129 e (moIrq (s.moCfg k 129))).cans[k] = { s.cans[k].ended e with refActive := false }) := by
        unfold State.endFrame
        rw [if_neg (by decide), if_pos rfl, ← hcan]
        exact ⟨fun he => by rw [if_pos he, State.referenceSent_can], fun he => by rw [if_neg he, State.modCan_same]⟩
      obtain ⟨hsent, hlost⟩ := hend
      generalize (s.countEnd k e).endFrame k 129 e (moIrq (s.moCfg k 129)) = u at hsent hlost ⊢
      refine ⟨State.takeMode_can (P := fun c => c.refActive = false) ?_ fun _ _ _ _ => rfl, fun hnone => ⟨fun he => ?_, fun he => ?_⟩⟩
      · by_cases he : e = .success
        · rw [hsent he]
        · rw [hlost he]
      · rw [State.takeMode_none (by rw [hsent he]; exact hnext.trans hnone), hsent he]
        exact ⟨rfl, rfl, rfl, rfl⟩
      · rw [State.takeMode_none (by rw [hlost he]; exact hnext.trans hnone), hlost he]
        exact href
    · have hend : (s.countEnd k e).endFrame k o e (moIrq (s.moCfg k o)) = (s.countEnd k e).endMo k o e (moIrq (s.moCfg k o)) := by
        unfold State.endFrame
        rw [if_neg (by omega), if_neg (by omega)]
      rw [State.mo_takeMode, hend, ← hmo]
      exact State.endMo_mo ..
  · obtain ⟨t, hexec, hcount, hlisten, hspeak⟩ := State.canError_leaves hon hbus kind tx rx clash
    refine ⟨t, hexec, hcount, hlisten, fun hmode => ?_⟩
    obtain ⟨htec, hrec, hoff, hbelow⟩ := hspeak hmode
    refine ⟨htec, hrec, hoff, fun hnone hle h128 => ?_, fun hnone htx hrx => ?_⟩
    · rw [hbelow hle hnone]
      rcases hbus with h | h
      · rw [if_pos ⟨h, by omega⟩]
      · rw [h, ite_self]
    · rw [hbelow (by omega) hnone, if_neg]
      rintro ⟨-, h | h⟩ <;> omega
  · obtain ⟨u, hexec, hcans⟩ := exec_busoffRecovered hbus hrec
    have hcan : u.cans[k] = { s.cans[k] with bus := .active, tec := 0, rec_ := 0, recovering := false } := by
      rw [hcans, upd_get, if_pos rfl]
    refine ⟨_, hexec, ?_, ?_, ?_, fun hnone => ?_, fun m hm hfree => ?_⟩
    · exact State.takeMode_can (P := fun c => c.tec = 0) (by rw [hcan]) fun _ _ _ _ => by rw [hcan]; rfl
    · exact State.takeMode_can (P := fun c => c.rec_ = 0) (by rw [hcan]) fun _ _ _ _ => by rw [hcan]; rfl
    · exact State.takeMode_can (P := fun c => c.recovering = false) (by rw [hcan]) fun _ _ _ _ => by rw [hcan]; rfl
    · rw [State.takeMode_none (by rw [hcan]; exact hnone), hcan]
      exact ⟨rfl, rfl⟩
    · rw [State.takeMode_free (m := m) (by rw [hcan]; exact hm) (by rw [hcan]; exact BusState.noConfusion)
        ((State.onWire_of_can (by rw [hcan]) (by rw [hcan]) (by rw [hcan])).trans hfree), State.enterMode_can]
      exact ⟨rfl, rfl⟩

end Sys2Proof.Machine

/-!
Writes to the CAN controllers (O31).
-/

namespace Sys2Proof.Machine

-- One thread per theorem would be more than the compiler's memory limit allows.
set_option Elab.async false

/-! ## What an admitted write leaves -/

/-- A plain write leaves the values its entry's effect set, and of a controller what that effect made of it but for the dictionary's transmit buffer. -/
theorem exec_canWrite {c : Instr} {s v : State} {src : Src} {index sub : Nat} {data : List Byte} {apply : EntryRow → State → Applied}
    (hc : exec c s = .next (s.unlessSwapping c fun s => s.writeVia src index sub data apply)) (h : s.admits src index sub data)
    (hv : ∀ r, apply r (s.taken src index sub) = .ok v) : ∃ t, exec c s = .next t ∧ t.lastSent = some (.writeReply src index sub data.length) ∧
      t.dict.vals = v.dict.vals ∧ ∀ k : Fin 3, ∃ out, t.cans[k] = { v.cans[k] with dictOut := out } := by
  rw [holding_false h.1] at hc
  obtain ⟨hvals, hcans⟩ := writeVia_leaves (apply := apply) h hv
  exact ⟨_, hc, (writeVia_admitted h fun r _ => hv r).1, hvals, hcans⟩

/-- A request sees the objects, the configuration words and the queue of the state it met. -/
theorem State.mo_taken (s : State) (src : Src) (index sub : Nat) (k : Fin 3) : (s.taken src index sub).mo k = s.mo k :=
  funext fun o => State.mo_of_cans (s.taken_cans ..) k o

theorem State.moCfg_taken (s : State) (src : Src) (index sub : Nat) (k : Fin 3) : (s.taken src index sub).moCfg k = s.moCfg k :=
  funext fun _ => s.val_taken ..

theorem State.crossing_taken (s : State) (src : Src) (index sub : Nat) (k : Fin 3) : (s.taken src index sub).crossing k = s.crossing k := by
  unfold State.crossing State.sysTicks
  rw [State.taken_cans, State.taken_now, State.taken_start]

/-- The state a request or a cancel acts in: it has entered the transmit request queue. -/
def State.queued (s : State) (k : Fin 3) (cancel : Bool) (o : Nat) : State :=
  s.modCan k fun c => { c with txReqs := s.crossing k ++ [(cancel, o)], txTick := s.sysTicks }

theorem State.queueMo_room {s : State} {k : Fin 3} (h : (s.crossing k).length < 16) (cancel : Bool) (o : Nat) (act : State → State) :
    s.queueMo k cancel o act = .ok (act (s.queued k cancel o)) := if_neg (Nat.not_le.mpr h)

theorem State.mo_queued (s : State) (k : Fin 3) (cancel : Bool) (o : Nat) : (s.queued k cancel o).mo k = s.mo k := by
  funext q
  refine State.mo_of_objs ?_ q
  unfold State.queued
  rw [State.modCan_same]

/-! ## Objects -/

theorem State.mo_requestMo (s : State) (k : Fin 3) (o : Nat) :
    (s.requestMo k o).mo k o = (if (s.mo k o).clashOff = true then s.mo k o else { s.mo k o with pending := true }) ∧
    ∀ q, q ≠ o → (s.requestMo k o).mo k q = s.mo k q := by
  unfold State.requestMo
  split
  · exact ⟨rfl, fun _ _ => rfl⟩
  · exact ⟨State.mo_modMo_same .., fun q hq => State.mo_modMo_other s k hq _⟩

theorem State.mo_cancelMo (s : State) (k : Fin 3) (o : Nat) : (s.cancelMo k o).mo k o = (if (s.mo k o).active = true then { s.mo k o with cancelReq := true }
      else if (s.mo k o).pending = true then { s.mo k o with pending := false, cancelReq := false, cancelled := true } else s.mo k o) ∧
    ∀ q, q ≠ o → (s.cancelMo k o).mo k q = s.mo k q := by
  unfold State.cancelMo
  dsimp only
  split
  · exact ⟨State.mo_modMo_same .., fun q hq => State.mo_modMo_other s k hq _⟩
  · split
    · exact ⟨State.mo_cancelled .., fun q hq => State.mo_cancelled_other s k hq⟩
    · exact ⟨rfl, fun _ _ => rfl⟩

/-- The DLC of a configuration word that takes another one. -/
theorem moDlc_set (w : Nat) {d : Nat} (h : d ≤ 15) : moDlc (w - moDlc w * 2 ^ 54 + d * 2 ^ 54) = d := by
  unfold moDlc bits
  simp only [Nat.shiftRight_eq_div_pow]
  omega

theorem State.writeMo_object (s : State) (k : Fin 3) (o : Nat) {data : List Byte} (hlen : (data.getD 4 0x00#8).toNat ≤ 15) :
    (∀ q, q ≠ o → (s.writeMo k o data).mo k q = s.mo k q) ∧
    ((s.mo k o).active = false → ((s.writeMo k o data).mo k o).data = data ∧
      moDlc ((s.writeMo k o data).moCfg k o) = (data.getD 4 0x00#8).toNat) ∧
    ((s.mo k o).active = true → (s.writeMo k o data).mo k o = { s.mo k o with next := some data }) := by
  unfold State.writeMo
  cases hactive : (s.mo k o).active with
  | true =>
    rw [if_pos rfl]
    exact ⟨fun q hq => State.mo_modMo_other s k hq _, fun h => Bool.noConfusion h, fun _ => State.mo_modMo_same ..⟩
  | false =>
    rw [if_neg Bool.false_ne_true]
    refine ⟨fun q hq => State.mo_setMoData_other s k hq data, fun _ => ⟨by rw [State.mo_setMoData_same], ?_⟩, fun h => Bool.noConfusion h⟩
    unfold State.setMoData
    dsimp only
    rw [State.moCfg, State.val_setVal_same, Nat.mod_eq_of_lt (by omega)]
    exact moDlc_set _ hlen

/-- A controller's fields but the dictionary's buffer, as a write leaves them. -/
theorem State.mo_of_write {t v : State} {k : Fin 3} (h : ∃ out, t.cans[k] = { v.cans[k] with dictOut := out }) : t.mo k = v.mo k := by
  obtain ⟨out, h⟩ := h
  exact funext fun o => State.mo_of_objs (by rw [h]) o

/-! ## Each entry's effect -/

theorem State.applyTxReq_ok {s : State} {k : Fin 3} {v : Nat} (hvalid : moValid (s.moCfg k v) = true) (hsend : moSend (s.moCfg k v) = true)
    (htt : moTt (s.moCfg k v) = false) (hroom : (s.crossing k).length < 16) :
    s.applyTxReq k v = .ok ((s.queued k false v).requestMo k v) := by
  unfold State.applyTxReq
  dsimp only
  rw [hvalid, hsend, htt, if_neg (by decide)]
  exact State.queueMo_room hroom false v _

theorem State.applyMoData_ok {s : State} {k : Fin 3} {o : Nat} {data : List Byte} (hsend : moSend (s.moCfg k o) = true)
    (hlen : (data.getD 4 0x00#8).toNat ≤ 15) : s.applyMoData k o data = .ok (s.writeMo k o data) := by
  unfold State.applyMoData
  rw [hsend, if_neg (by decide), if_neg (Nat.not_lt.mpr hlen)]

/-- A configuration word stored, the object's status bits cleared (13 R355). -/
def State.storeMoCfg (s : State) (k : Fin 3) (o w : Nat) : State :=
  (s.setVal (0x1810 + k.val) (o + 1) 0 w).modMo k o fun m => { m with nd := false, lost := false, sent := false, cancelled := false, ttMissed := false }

theorem State.applyMoCfg_ok {s : State} {k : Fin 3} {o w : Nat} (hpending : (s.mo k o).pending = false) (hactive : (s.mo k o).active = false)
    (hbrs : moBrs w = true → moFd w = true) (hzero : bits w 50 29 = 0)
    (hsafe : moSafe w = true → k ≠ 2 ∧ moSend w = true ∧ ∀ q < 128, q ≠ o → moSafe (s.moCfg k q) = false) :
    s.applyMoCfg k o w = .ok (s.storeMoCfg k o w) := by
  unfold State.applyMoCfg
  dsimp only
  rw [hpending, hactive, if_neg (by decide), if_neg]
  · rfl
  · simp only [Bool.or_eq_true, Bool.and_eq_true, Bool.not_eq_true', decide_eq_true_eq, List.any_eq_true, ne_eq, hzero, not_true_eq_false, or_false,
      not_or, not_and]
    refine ⟨fun hb => by simp [hbrs hb], fun hs => ?_⟩
    obtain ⟨hk, hsend, hother⟩ := hsafe hs
    refine ⟨⟨hk, by simp [hsend]⟩, ?_⟩
    rintro ⟨q, hq, hne, hqs⟩
    rw [hother q (List.mem_range.mp hq) hne] at hqs
    exact Bool.noConfusion hqs

/-- A mode written while the bus is not free waits (13 R374). -/
theorem State.applyCanMode_waits {s : State} {k : Fin 3} {m : Nat} {busy : Bool} (htt : m = 1 → s.ttOk k = true)
    (h : s.cans[k].bus = .busOff ∨ s.onWire k ≠ none ∨ busy = true) : s.applyCanMode k m busy = .ok (s.storeMode k m) := by
  have haccept : (decide (m = 1) && !s.ttOk k) = false := by
    by_cases hm : m = 1 <;> simp [hm, htt]
  unfold State.applyCanMode
  dsimp only
  rw [haccept, if_neg Bool.false_ne_true]
  cases busy with
  | true => rfl
  | false =>
    refine congrArg Except.ok ?_
    change (s.storeMode k m).takeMode k = _
    unfold State.takeMode
    rw [State.onWire_storeMode, State.storeMode_can]
    refine if_pos ?_
    rcases h with hb | hw | hb
    · simp [hb, -Fin.getElem_fin]
    · simp [Option.isSome_iff_ne_none.mpr hw]
    · exact Bool.noConfusion hb

theorem State.enterMode_values (s : State) (k : Fin 3) (m : Nat) : (s.enterMode k m).dict.vals = s.dict.vals := s.stopTimetable_values k

theorem State.recoverCan_can {s : State} {k : Fin 3} (h : s.cans[k].bus = .busOff) :
    (s.recoverCan k).cans[k] = { s.cans[k] with recovering := true } := by
  unfold State.recoverCan
  cases hrec : s.cans[k].recovering with
  | true =>
    rw [if_neg (by rw [h]; decide), ← hrec]
  | false => rw [if_pos (by rw [h]; decide), State.canEvent_can, State.modCan_same]

theorem State.clearDup_can (s : State) (k : Fin 3) : (s.clearDup k).cans[k] =
    { s.cans[k] with dupNode := false, objs := s.cans[k].objs.map fun p => (p.1, { p.2 with clashOff := false }) } := by
  unfold State.clearDup
  rw [State.canEvent_can, State.modCan_same]

theorem State.mo_clearDup (s : State) (k : Fin 3) (o : Nat) : (s.clearDup k).mo k o = { s.mo k o with clashOff := false } := by
  unfold State.mo
  rw [State.clearDup_can]
  exact sparse_getD_map (d := MsgObj.empty) s.cans[k].objs (fun m => { m with clashOff := false }) rfl o

/-- Settles O31: each write's effect on its object and controller, and the bus commands that answer them. -/
theorem canWrites : Obligations.CanWrites := by
  intro s src k
  refine ⟨fun v hadm hvalid hsend htt hroom => ?_, fun v hadm hroom => ?_, fun o data hadm hsend hlen => ?_,
    fun o w hadm hpending hactive hbrs hzero hsafe => ?_, fun fast w hadm hok => ?_, fun m hadm htt busy => ?_, fun v hadm hbus => ?_, fun v hadm => ?_,
    fun o ho hsend hwire hwin => ?_, fun o ho hwire => ?_, fun kind tx rx hon hbus hmode => ?_, fun hon hbus hnone => ?_, fun hon hbus => ?_,
    fun hauto hfw hdue hbus => ?_, fun hbus hrec => ?_⟩
  · have happly : (s.taken src (canObj k) 0x000C).applyTxReq k v = _ := State.applyTxReq_ok (by rwa [State.moCfg_taken]) (by rwa [State.moCfg_taken])
      (by rwa [State.moCfg_taken]) (by rwa [State.crossing_taken])
    obtain ⟨t, hexec, hlast, -, hcans⟩ := exec_canWrite (c := .moTxReq src k v) rfl hadm fun _ => happly
    obtain ⟨hsame, hother⟩ := ((s.taken src (canObj k) 0x000C).queued k false v).mo_requestMo k v
    rw [State.mo_queued, State.mo_taken] at hsame hother
    rw [← State.mo_of_write (hcans k)] at hsame hother
    exact ⟨t, hexec, hsame, hother, hlast⟩
  · have happly : (s.taken src (canObj k) 0x000D).applyCancel k v = _ := State.queueMo_room (by rwa [State.crossing_taken]) true v _
    obtain ⟨t, hexec, hlast, -, hcans⟩ := exec_canWrite (c := .moCancel src k v) rfl hadm fun _ => happly
    obtain ⟨hsame, hother⟩ := ((s.taken src (canObj k) 0x000D).queued k true v).mo_cancelMo k v
    rw [State.mo_queued, State.mo_taken] at hsame hother
    rw [← State.mo_of_write (hcans k)] at hsame hother
    exact ⟨t, hexec, hsame, hother, hlast⟩
  · have happly : (s.taken src (0x1830 + k.val) (o.val + 1)).applyMoData k o.val data = _ :=
      State.applyMoData_ok (by rwa [State.moCfg_taken]) hlen
    obtain ⟨t, hexec, -, hvals, hcans⟩ := exec_canWrite (c := .moDataWrite src k o data) rfl hadm fun _ => happly
    obtain ⟨hother, hfree, hbusy⟩ := (s.taken src (0x1830 + k.val) (o.val + 1)).writeMo_object k o.val hlen
    have hcfg : t.moCfg k o.val = ((s.taken src (0x1830 + k.val) (o.val + 1)).writeMo k o.val data).moCfg k o.val := State.val_of_values hvals ..
    rw [State.mo_taken, ← State.mo_of_write (hcans k)] at hother hfree hbusy
    rw [← hcfg] at hfree
    exact ⟨t, hexec, hother, hfree, hbusy⟩
  · have happly : (s.taken src (0x1810 + k.val) (o.val + 1)).applyMoCfg k o.val w = _ :=
      State.applyMoCfg_ok (by rwa [State.mo_taken]) (by rwa [State.mo_taken]) hbrs hzero (by rwa [State.moCfg_taken])
    obtain ⟨t, hexec, -, hvals, hcans⟩ := exec_canWrite (c := .moCfgWrite src k o w) rfl hadm fun _ => happly
    refine ⟨t, hexec, (State.val_of_values hvals ..).trans (State.val_setVal_same ..), ?_⟩
    rw [State.mo_of_write (hcans k)]
    refine ⟨fun q hq => ?_, ?_⟩
    · refine (State.mo_modMo_other _ k hq _).trans ?_
      rw [State.mo_of_cans (State.setVal_cans ..), State.mo_taken]
    · refine (State.mo_modMo_same _ k _ _).trans ?_
      rw [State.mo_of_cans (State.setVal_cans ..), State.mo_taken]
  · have happly := State.applyTiming_ok (s := s.taken src (canObj k) (if fast then 4 else 3)) (k := k) (by simpa only [State.val_taken] using hok)
    obtain ⟨t, hexec, -, hvals, hcans⟩ := exec_canWrite (c := .bitTimingWrite src k fast w) rfl hadm fun _ => happly
    obtain ⟨out, hcan⟩ := hcans k
    refine ⟨t, hexec, (State.val_of_values hvals ..).trans (State.val_setVal_same ..), ?_⟩
    rw [hcan, State.modCan_same, State.can_of_cans (State.setVal_cans ..), State.can_of_cans (s.taken_cans ..)]
    exact ⟨rfl, rfl, rfl, rfl⟩
  · have htt' : m = 1 → (s.taken src (canObj k) 1).ttOk k = true := fun hm => by rw [State.ttOk_of_values (s.taken_values ..), htt hm]
    by_cases hwait : s.cans[k].bus = .busOff ∨ s.onWire k ≠ none ∨ busy = true
    · have happly := State.applyCanMode_waits (s := s.taken src (canObj k) 1) (busy := busy) htt'
        (by rwa [State.taken_cans, State.onWire_of_cans (s.taken_cans ..)])
      obtain ⟨t, hexec, -, hvals, hcans⟩ := exec_canWrite (c := .canMode src k m busy) rfl hadm fun _ => happly
      obtain ⟨out, hcan⟩ := hcans k
      rw [State.storeMode_can, State.can_of_cans (s.taken_cans ..)] at hcan
      refine ⟨t, hexec, (State.val_of_values hvals ..).trans (State.val_setVal_same ..), fun hb hw hbusy => ?_, fun _ => ?_⟩
      · rcases hwait with h | h | h
        · exact absurd h hb
        · exact absurd hw h
        · exact absurd (h.symm.trans hbusy) (by decide)
      · rw [hcan]
        exact ⟨rfl, rfl, rfl⟩
    · obtain ⟨hb, hw⟩ := not_or.mp hwait
      obtain ⟨hw, hbusy⟩ := not_or.mp hw
      have happly := State.applyCanMode_free (s := s.taken src (canObj k) 1) (k := k) (m := m) htt' (by rwa [State.taken_cans])
        (by rw [State.onWire_of_cans (s.taken_cans ..)]; exact not_not.mp hw)
      rw [← Bool.eq_false_iff.mpr hbusy] at happly
      obtain ⟨t, hexec, -, hvals, hcans⟩ := exec_canWrite (c := .canMode src k m busy) rfl hadm fun _ => happly
      obtain ⟨out, hcan⟩ := hcans k
      rw [State.enterMode_can, State.val_storeMode _ _ _ (by decide), State.val_storeMode _ _ _ (by decide), State.val_storeMode _ _ _ (by decide),
        State.val_taken, State.val_taken, State.val_taken] at hcan
      refine ⟨t, hexec, ?_, fun _ _ _ => ?_, fun h => absurd h hwait⟩
      · rw [State.val_of_values hvals]
        exact (State.val_of_values (((s.taken src (canObj k) 1).storeMode k m).enterMode_values k m) ..).trans (State.val_setVal_same ..)
      · rw [hcan]
        exact ⟨rfl, rfl, rfl, rfl, rfl, rfl, rfl, rfl⟩
  · obtain ⟨t, hexec, -, -, hcans⟩ := exec_canWrite (c := .busoffRecover src k v) rfl hadm fun _ => rfl
    obtain ⟨out, hcan⟩ := hcans k
    rw [State.recoverCan_can (by rwa [State.taken_cans]), State.can_of_cans (s.taken_cans ..)] at hcan
    refine ⟨t, hexec, ?_⟩
    rw [hcan]
    exact ⟨rfl, hbus, rfl⟩
  · obtain ⟨t, hexec, -, -, hcans⟩ := exec_canWrite (c := .dupClear src k v) rfl hadm fun _ => rfl
    refine ⟨t, hexec, ?_, fun o => ?_⟩
    · obtain ⟨out, hcan⟩ := hcans k
      rw [hcan, State.clearDup_can]
    · rw [State.mo_of_write (hcans k), State.mo_clearDup, State.mo_taken]
  · refine ⟨_, exec_canStartOfFrame hsend hwire hwin, ?_⟩
    rw [State.mo_startFrame s k (by omega)]
  · obtain ⟨t, hexec, -, -, -, -, hobj⟩ := (canBus s k).2.1 .success o hwire
    exact ⟨t, hexec, ((hobj ho).2.1 rfl).2⟩
  · obtain ⟨t, hexec, -, -, hspeak⟩ := State.canError_leaves hon (.inl hbus) kind tx rx none
    exact ⟨t, hexec, (hspeak hmode).1⟩
  · obtain ⟨t, hexec, hcans⟩ := exec_protocolException hon (.inl hbus) hnone
    exact ⟨t, hexec, by rw [hcans, upd_get, if_pos rfl]⟩
  · obtain ⟨u, hu, hexec⟩ := exec_canIntegrationComplete hon hbus
    refine ⟨_, hexec, ?_⟩
    have hcan : (if s.cans[k].announce = true then u.canEvent k 0x800C 0 (u8 s.cans[k].mode) else u).cans[k] = u.cans[k] := by
      split
      · exact State.canEvent_can ..
      · rfl
    rw [hcan, hu, State.modCan_same]
    dsimp only
    split <;> exact BusState.noConfusion
  · obtain ⟨t, hexec, hcans⟩ := exec_busoffAutoExpiry hauto hfw hdue hbus
    exact ⟨t, hexec, by rw [hcans, upd_get, if_pos rfl]⟩
  · obtain ⟨u, hexec, hcans⟩ := exec_busoffRecovered hbus hrec
    refine ⟨_, hexec, State.takeMode_can (P := fun c => c.bus ≠ .busOff) ?_ fun _ _ _ _ => BusState.noConfusion⟩
    rw [hcans, upd_get, if_pos rfl]
    exact BusState.noConfusion

end Sys2Proof.Machine

/-!
The CAN timetable (O34).
-/

namespace Sys2Proof.Machine

-- One thread per theorem would be more than the compiler's memory limit allows.
set_option Elab.async false

/-! ## References -/

theorem State.startCycle_can (s : State) (k : Fin 3) (cycle : Nat) :
    (s.startCycle k cycle).cans[k] = { s.cans[k] with cycle := cycle, refAt := s.now, mark := 0, freeWindow := false } := by
  unfold State.startCycle
  rw [State.modCan_same]

theorem State.sendReference_can (s : State) (k : Fin 3) (cycle : Nat) : (s.sendReference k cycle).cans[k] =
    { s.cans[k] with cycle := cycle, refAt := s.now, mark := 0, freeWindow := false, refOut := some cycle, refActive := true } := by
  unfold State.sendReference
  rw [State.can_of_cans (State.emit_cans ..), State.modCan_same, State.startCycle_can]

theorem State.sendReference_lastSent (s : State) (k : Fin 3) (cycle : Nat) : (s.sendReference k cycle).lastSent =
    some (.canFrame k.val (s.refId k) false false false (u8 cycle ++ u8 s.tq ++ beBytes 6 s.utc)) := State.emit_lastSent ..

/-- A controller whose master's or slave's timetable takes a received reference (13 R366). -/
def Can.referred (c : Can) (role : Nat) (lost : Bool) : Can :=
  if role = 1 then
    (if lost then { c with
        master := false, backup := true, sync := true, refOut := none, refActive := false
        counts := if c.refActive then upd c.counts 8 sat32 else c.counts }
      else c)
  else { c with sync := true }

/-- The effect of a received reference beside the cycle it starts. -/
def State.refer (t : State) (c : Can) (k : Fin 3) (role : Nat) (lost : Bool) : State :=
  if role = 1 then
    (if lost then t.modCan k fun x => { x with
        master := false, backup := true, sync := true, refOut := none, refActive := false,
        counts := if c.refActive then upd x.counts 8 sat32 else x.counts }
      else t)
  else if c.sync then t
  else (t.modCan k fun c => { c with sync := true }).canEvent k 0x8010

theorem exec_referenceReceived {s : State} {k : Fin 3} (hrun : s.ttRuns k = true) {id : Nat} (hid : id / 8 = s.refId k / 8)
    (cycle quality utc : Nat) (lost : Bool) : exec (.referenceReceived k id cycle quality utc lost) s =
      .next (((((s.startCycle k (cycle % 64)).modClock fun x => { x with canRef := some (quality, utc, s.now) }).refer s.cans[k] k
        (s.val (canObj k) 0x0012) lost).noteSources).takeMode k) := by
  change execReferenceReceived k id cycle quality utc lost s = _
  unfold execReferenceReceived
  rw [if_neg (by simp [hrun, hid])]
  rfl

theorem State.refer_can {t : State} {c : Can} {k : Fin 3} (hactive : t.cans[k].refActive = c.refActive) (hsync : t.cans[k].sync = c.sync)
    (role : Nat) (lost : Bool) : (t.refer c k role lost).cans[k] = t.cans[k].referred role lost := by
  unfold State.refer Can.referred
  split
  · split
    · rw [State.modCan_same, hactive]
    · rfl
  · split
    next h =>
      rw [← hsync] at h
      generalize t.cans[k] = d at h ⊢
      cases d
      cases h
      rfl
    · rw [State.canEvent_can, State.modCan_same]

/-- What a master that may send does: the reference an error has put off goes out again, else the cycle's own where it is due (R365). -/
def State.referenceNow (s : State) (k : Fin 3) : State :=
  match s.cans[k].refOut with
  | some cycle => s.sendReference k cycle
  | none =>
    if !s.cans[k].backup && (!s.cans[k].master || decide (s.cans[k].refAt + s.bitTimes k (s.ttLen k) ≤ s.now)) then
      s.sendReference k (if s.cans[k].refAt = 0 then 0 else s.nextCycle k)
    else s

theorem exec_referenceSend {s : State} {k : Fin 3} (hrun : s.ttRuns k = true) (hsend : s.canSends k = true) (hrole : s.val (canObj k) 0x0012 = 1)
    (hwire : s.onWire k = none) : exec (.referenceSend k) s = .next (s.referenceNow k) := by
  change execReferenceSend k s = _
  unfold execReferenceSend
  dsimp only
  rw [if_neg (by simp [hrun, hsend, hrole, hwire])]
  rfl

/-! ## Marks -/

/-- The slots at a mark act, `win` the object that wins the slot's start of frame. -/
def State.actSlots (s : State) (k : Fin 3) (mark : Nat) (here : List (Nat × Nat)) (win : Option Nat) : State :=
  let t := s.modCan k fun c => { c with mark := mark, freeWindow := here.any fun p => slotKind p.2 = 2 }
  let t := t.forEach (here.filter fun p => slotKind p.2 = 3) fun t p => t.checkSlot k p
  let t := win.elim t fun o => t.startFrame k o true
  t.forEach ((here.filter fun p => slotSends p.2).filter fun p => win ≠ some (slotObj p.2)) fun t p => t.missSlot k p

/-- The object that wins the start of frame at a mark (13 R364). -/
def State.slotWinner (s : State) (k : Fin 3) (mark : Nat) (idle : Bool) (here : List (Nat × Nat)) : Option Nat :=
  let able := (here.filter fun p => slotSends p.2).filter fun p => let w := s.moCfg k (slotObj p.2)
    moValid w && moSend w && !(s.mo k (slotObj p.2)).clashOff
  let inWin := decide (s.now ≤ s.cans[k].refAt + s.bitTimes k (mark + s.ttWin k))
  if idle && inWin && s.canSends k && (s.onWire k).isNone then s.winner k (able.map fun p => slotObj p.2) else none

theorem exec_ttMark {s : State} {k : Fin 3} (hrun : s.ttRuns k = true) {mark : Nat} (idle : Bool) {here : List (Nat × Nat)}
    (hsync : s.cans[k].sync = true) (hmark : s.cans[k].mark < mark) (hdue : s.cans[k].refAt + s.bitTimes k mark ≤ s.now)
    (hhere : ((s.usedSlots k).filter fun p => slotMark p.2 = mark && slotActs p.2 s.cans[k].cycle) = here) (hne : here.isEmpty = false) :
    exec (.ttMark k mark idle) s = .next (s.actSlots k mark here (s.slotWinner k mark idle here)) := by
  change execTtMark k mark idle s = _
  unfold execTtMark
  dsimp only
  rw [hhere, if_neg (by simp [hrun, hsync, hne, hmark, hdue, -Fin.getElem_fin])]
  unfold State.actSlots
  cases hwin : s.slotWinner k mark idle here <;>
    · unfold State.slotWinner at hwin
      dsimp only at hwin ⊢
      rw [hwin]
      rfl

/-- A controller whose slots at a mark have acted, but for the objects and the counts of the checks. -/
theorem State.missSlot_can (s : State) (k : Fin 3) (p : Nat × Nat) : ∃ objs, (s.missSlot k p).cans[k] =
    { s.cans[k] with objs := objs, missed := upd s.cans[k].missed (Fin.ofNat 32 p.1) sat32 } := by
  unfold State.missSlot
  dsimp only
  rw [State.canEvent_can, State.modCan_same, State.ObjsOnly.modMo k s (slotObj p.2) fun m => { m with ttMissed := true }]
  exact ⟨_, rfl⟩

theorem State.mo_missSlot (s : State) (k : Fin 3) (p : Nat × Nat) : ((s.missSlot k p).mo k (slotObj p.2)).ttMissed = true := by
  have hobjs : (s.missSlot k p).cans[k].objs = (s.modMo k (slotObj p.2) fun m => { m with ttMissed := true }).cans[k].objs := by
    unfold State.missSlot
    dsimp only
    rw [State.canEvent_can, State.modCan_same]
  rw [State.mo_of_objs hobjs, State.mo_modMo_same]

theorem State.startFrame_objs (s : State) (k : Fin 3) {o : Nat} (h : o ≠ 128) (single : Bool) : s.ObjsOnly k (s.startFrame k o single) := by
  rw [s.startFrame_object k h]
  exact (State.ObjsOnly.modMo k s o _).trans (.of_cans (State.emit_cans ..))

theorem State.checkSlot_marks (s : State) (k : Fin 3) (p : Nat × Nat) : (s.checkSlot k p).cans[k].mark = s.cans[k].mark ∧
    (s.checkSlot k p).cans[k].freeWindow = s.cans[k].freeWindow := by
  unfold State.checkSlot
  dsimp only
  rw [State.modCan_same]
  split
  · rw [State.canEvent_can, State.modCan_same]
    exact ⟨rfl, rfl⟩
  · exact ⟨rfl, rfl⟩

theorem slotObj_lt (w : Nat) : slotObj w < 128 := Nat.mod_lt _ (by decide)

/-- The mark and the window a lone slot leaves. -/
theorem State.actSlots_mark (s : State) (k : Fin 3) (mark j w : Nat) {win : Option Nat} (hwin : win ≠ some 128) :
    (s.actSlots k mark [(j, w)] win).cans[k].mark = mark ∧ (s.actSlots k mark [(j, w)] win).cans[k].freeWindow = (slotKind w == 2) := by
  unfold State.actSlots
  dsimp only
  refine forEach_keeps (P := fun t => t.cans[k].mark = mark ∧ t.cans[k].freeWindow = (slotKind w == 2)) (fun t p ht => ?_) _ _ ?_
  · obtain ⟨objs, hmiss⟩ := t.missSlot_can k p
    rw [hmiss]
    exact ht
  · have hcheck : ∀ l : List (Nat × Nat), ((s.modCan k fun c => { c with
        mark := mark, freeWindow := [(j, w)].any fun p => slotKind p.2 = 2 }).forEach l fun t p => t.checkSlot k p).cans[k].mark = mark ∧
        ((s.modCan k fun c => { c with mark := mark, freeWindow := [(j, w)].any fun p => slotKind p.2 = 2 }).forEach l fun t p =>
          t.checkSlot k p).cans[k].freeWindow = (slotKind w == 2) := fun l => by
      refine forEach_keeps (P := fun t => t.cans[k].mark = mark ∧ t.cans[k].freeWindow = (slotKind w == 2)) (fun t p ht => ?_) _ _ ?_
      · obtain ⟨h1, h2⟩ := t.checkSlot_marks k p
        rw [h1, h2]
        exact ht
      · rw [State.modCan_same]
        refine ⟨rfl, ?_⟩
        simp only [List.any_cons, List.any_nil, Bool.or_false]
        rfl
    have hmarks := hcheck ([(j, w)].filter fun p => slotKind p.2 = 3)
    generalize ((s.modCan k fun c => { c with mark := mark, freeWindow := [(j, w)].any fun p => slotKind p.2 = 2 }).forEach
      ([(j, w)].filter fun p => slotKind p.2 = 3) fun t p => t.checkSlot k p) = t at hmarks ⊢
    cases win with
    | none => exact hmarks
    | some o =>
      rw [Option.elim_some, t.startFrame_objs k (fun h => hwin (congrArg some h)) true]
      exact hmarks

/-- A lone slot that sends does no receive check. -/
theorem State.actSlots_sends (s : State) (k : Fin 3) (mark j : Nat) {w : Nat} (hsends : slotSends w = true) (win : Option Nat) :
    s.actSlots k mark [(j, w)] win =
      (let t := s.modCan k fun c => { c with mark := mark, freeWindow := [(j, w)].any fun p => slotKind p.2 = 2 }
      let t := win.elim t fun o => t.startFrame k o true
      if win = some (slotObj w) then t else t.missSlot k (j, w)) := by
  have hkind : slotKind w ≠ 3 := by
    unfold slotSends at hsends
    simp only [Bool.or_eq_true, decide_eq_true_eq] at hsends
    omega
  unfold State.actSlots
  simp only [List.filter_cons, List.filter_nil, hkind, hsends, decide_false, if_true, Bool.false_eq_true, if_false, ne_eq, decide_not, Bool.not_eq_true',
    decide_eq_false_iff_not]
  by_cases h : win = some (slotObj w)
  · rw [if_pos h, if_neg (not_not_intro h)]
    rfl
  · rw [if_neg h, if_pos h]
    rfl

/-- Settles O34: references, the masters, loss of the reference and a mark with one slot. -/
theorem timetable : Obligations.Timetable := by
  intro s k hrun
  refine ⟨fun id cycle quality utc lost hid hnone => ?_, fun hsend hrole hbackup hwire hout hdue => ?_, fun c hsend hrole hwire hout => ?_,
    fun hsend hbackup hout hwire hdue => ?_, fun hrole hsync hdue => ?_, fun mark idle j w hsync hmark hdue hslots => ?_⟩
  · refine ⟨_, exec_referenceReceived hrun hid cycle quality utc lost, ?_⟩
    have hcycle : ((s.startCycle k (cycle % 64)).modClock fun x => { x with canRef := some (quality, utc, s.now) }).cans[k] =
        { s.cans[k] with cycle := cycle % 64, refAt := s.now, mark := 0, freeWindow := false } := s.startCycle_can k (cycle % 64)
    generalize (s.startCycle k (cycle % 64)).modClock (fun x => { x with canRef := some (quality, utc, s.now) }) = t at hcycle ⊢
    have hcan : ((t.refer s.cans[k] k (s.val (canObj k) 0x0012) lost).noteSources).cans[k] =
        Can.referred { s.cans[k] with cycle := cycle % 64, refAt := s.now, mark := 0, freeWindow := false } (s.val (canObj k) 0x0012) lost := by
      rw [State.can_of_cans (State.noteSources_cans ..), State.refer_can (by rw [hcycle]) (by rw [hcycle]), hcycle]
    generalize (t.refer s.cans[k] k (s.val (canObj k) 0x0012) lost).noteSources = u at hcan ⊢
    have hnext : u.cans[k].modeNext = none := by
      rw [hcan]
      unfold Can.referred
      split
      · split <;> exact hnone
      · exact hnone
    rw [State.takeMode_none hnext, hcan]
    unfold Can.referred
    by_cases hrole : s.val (canObj k) 0x0012 = 1
    · rw [if_pos hrole]
      cases lost with
      | true =>
        refine ⟨rfl, rfl, rfl, fun h => absurd hrole h, fun _ _ => ⟨rfl, rfl, rfl, rfl, rfl, ?_⟩, fun _ h => Bool.noConfusion h⟩
        dsimp only
        cases s.cans[k].refActive with
        | true => exact upd_get_same ..
        | false => rfl
      | false => exact ⟨rfl, rfl, rfl, fun h => absurd hrole h, fun _ h => Bool.noConfusion h, fun _ _ => rfl⟩
    · rw [if_neg hrole]
      exact ⟨rfl, rfl, rfl, fun _ => rfl, fun h => absurd h hrole, fun h => absurd h hrole⟩
  · have hsends : (!s.cans[k].backup && (!s.cans[k].master || decide (s.cans[k].refAt + s.bitTimes k (s.ttLen k) ≤ s.now))) = true := by
      rw [hbackup]
      rcases hdue with h | h
      · rw [h]
        rfl
      · rw [decide_eq_true h, Bool.or_true]
        rfl
    refine ⟨s.sendReference k (if s.cans[k].refAt = 0 then 0 else s.nextCycle k), ?_, ?_⟩
    · rw [exec_referenceSend hrun hsend hrole hwire, State.referenceNow, hout]
      exact congrArg Host.Outcome.next (if_pos hsends)
    · rw [State.sendReference_can]
      exact ⟨rfl, rfl, rfl, rfl, rfl, rfl, State.sendReference_lastSent ..⟩
  · refine ⟨s.sendReference k c, ?_, ?_⟩
    · rw [exec_referenceSend hrun hsend hrole hwire, State.referenceNow, hout]
    · rw [State.sendReference_can]
      exact ⟨rfl, rfl, rfl, rfl⟩
  · refine ⟨s.sendReference k (s.nextCycle k), congrArg Host.Outcome.next (if_pos ?_), ?_⟩
    · simp [hrun, hsend, hbackup, hout, hwire, hdue, -Fin.getElem_fin]
    · rw [State.sendReference_can]
      exact ⟨rfl, hbackup, rfl, rfl, rfl⟩
  · refine ⟨((s.modCan k fun c => { c with sync := false, freeWindow := false }).canEvent k 0x8011).noteSources,
      congrArg Host.Outcome.next (if_pos ?_), ?_⟩
    · simp [hrun, hrole, hsync, hdue, -Fin.getElem_fin]
    · rw [State.noteSources_cans, State.canEvent_cans]
      rfl
  · refine ⟨_, exec_ttMark hrun idle hsync hmark hdue hslots rfl, ?_⟩
    have hwin : s.slotWinner k mark idle [(j, w)] = none ∨ s.slotWinner k mark idle [(j, w)] = some (slotObj w) := by
      unfold State.slotWinner
      dsimp only
      split
      · simp only [List.filter_cons, List.filter_nil]
        split
        · rw [List.filter_cons, List.filter_nil]
          split
          · exact .inr rfl
          · exact .inl rfl
        · exact .inl rfl
      · exact .inl rfl
    obtain ⟨hm, hf⟩ := s.actSlots_mark k mark j w (win := s.slotWinner k mark idle [(j, w)]) (by
      rcases hwin with h | h <;> rw [h]
      · exact nofun
      · exact fun h => absurd (Option.some.inj h) (slotObj_lt w).ne)
    refine ⟨hm, hf, fun hsends hidle hsend hwire hvalid hobj hclash hwindow => ?_, fun hsends hlate => ?_⟩
    · have hwins : s.slotWinner k mark idle [(j, w)] = some (slotObj w) := by
        unfold State.slotWinner
        simp only [List.filter_cons, List.filter_nil, hsends, if_true, hvalid, hobj, hclash, hidle, hsend, hwire, hwindow, decide_true, Bool.not_false,
          Bool.and_self, Option.isNone_none]
        rfl
      rw [hwins, State.actSlots_sends s k mark j hsends]
      dsimp only [Option.elim_some]
      rw [if_pos rfl, State.mo_startFrame _ k (slotObj_lt w).ne, State.startFrame_objs _ k (slotObj_lt w).ne, State.modCan_same]
      exact ⟨rfl, rfl, rfl⟩
    · have hwins : s.slotWinner k mark idle [(j, w)] = none := by
        unfold State.slotWinner
        dsimp only
        refine if_neg ?_
        rcases hlate with h | h
        · simp [h]
        · simp [Nat.not_le.mpr h, -Fin.getElem_fin]
      rw [hwins, State.actSlots_sends s k mark j hsends]
      dsimp only [Option.elim_none]
      rw [if_neg nofun]
      obtain ⟨objs, hmiss⟩ := (s.modCan k fun c => { c with mark := mark, freeWindow := [(j, w)].any fun p => slotKind p.2 = 2 }).missSlot_can k (j, w)
      refine ⟨State.mo_missSlot _ k (j, w), ?_⟩
      rw [hmiss, State.modCan_same]

end Sys2Proof.Machine

/-!
A frame received by a CAN controller (O33).
-/

namespace Sys2Proof.Machine

-- One thread per theorem would be more than the compiler's memory limit allows.
set_option Elab.async false

/-! ## What the reception reads -/

/-- The parts a reception changes before its frame is passed on. -/
def rxParts : Part → Bool := only [.cans, .free, .evlog, .irq]

theorem State.safeWaits_of_blank {s t : State} (h : t.blank rxParts = s.blank rxParts) (k : Fin 3) (x : CanRx) :
    t.safeWaits k x = s.safeWaits k x ∧ t.safeWants k x.frame = s.safeWants k x.frame := by
  have hwaits : ∀ u : State, u.safeWaits k x = (u.blank rxParts).safeWaits k x := fun _ => rfl
  have hwants : ∀ u : State, u.safeWants k x.frame = (u.blank rxParts).safeWants k x.frame := fun _ => rfl
  rw [hwaits t, hwants t, h]
  exact ⟨rfl, rfl⟩

/-! ## The counters of a reception -/

theorem State.canGood_can (s : State) (k : Fin 3) : ∃ r b, (s.canGood k).cans[k] = { s.cans[k] with rec_ := r, bus := b } := by
  unfold State.canGood
  dsimp only
  split
  · exact ⟨_, _, rfl⟩
  · split
    · exact ⟨_, _, State.modCan_same ..⟩
    · exact ⟨_, _, State.modCan_same ..⟩

/-- A frame that ended well, its counters noted. -/
def State.rxGood (s : State) (k : Fin 3) (own : Bool) : State := if own then s else s.canGood k

theorem State.rxGood_can (s : State) (k : Fin 3) (own : Bool) : ∃ r b, (s.rxGood k own).cans[k] = { s.cans[k] with rec_ := r, bus := b } := by
  unfold State.rxGood
  split
  · exact ⟨_, _, rfl⟩
  · exact s.canGood_can k

theorem State.rxGood_blank (s : State) (k : Fin 3) (own : Bool) : (s.rxGood k own).blank rxParts = s.blank rxParts := by
  unfold State.rxGood
  split
  · rfl
  · exact State.canGood_in rfl rfl s k

/-- A frame counted as received. -/
def State.rxCounted (s : State) (k : Fin 3) (own : Bool) : State := (s.rxGood k own).modCan k fun c => { c with counts := upd c.counts 0 sat32 }

theorem State.rxCounted_can (s : State) (k : Fin 3) (own : Bool) :
    ∃ r b, (s.rxCounted k own).cans[k] = { s.cans[k] with rec_ := r, bus := b, counts := upd s.cans[k].counts 0 sat32 } := by
  obtain ⟨r, b, h⟩ := s.rxGood_can k own
  unfold State.rxCounted
  rw [State.modCan_same, h]
  exact ⟨_, _, rfl⟩

theorem State.rxCounted_blank (s : State) (k : Fin 3) (own : Bool) : (s.rxCounted k own).blank rxParts = s.blank rxParts :=
  (State.modCan_in rfl ..).trans (s.rxGood_blank k own)

theorem State.mo_rxCounted (s : State) (k : Fin 3) (own : Bool) (o : Nat) : (s.rxCounted k own).mo k o = s.mo k o := by
  obtain ⟨r, b, h⟩ := s.rxCounted_can k own
  exact State.mo_of_objs (by rw [h]) o

section
variable {s : State} {k : Fin 3} (hon : s.cans[k].onBus = true) (hbus : s.cans[k].bus = .active ∨ s.cans[k].bus = .passive)
include hon hbus

theorem exec_canFrameReceived_full (f : CanFrame) (before : Nat) (own : Bool) (h : 32 ≤ s.cans[k].rxQ.length) :
    exec (.canFrameReceived k f before own) s = .next
      ((((s.rxGood k own).modCan k fun c => { c with counts := upd c.counts 9 sat32, seen := c.seen ||| 8 }).canEvent k 0x8006 0).takeMode k) := by
  change execCanFrameReceived k f before own s = _
  unfold execCanFrameReceived
  dsimp only
  rw [if_neg (by rcases hbus with h | h <;> simp [hon, h, -Fin.getElem_fin]), if_pos h]
  rfl

theorem exec_canFrameReceived_room (f : CanFrame) (before : Nat) (own : Bool) (h : s.cans[k].rxQ.length < 32) :
    exec (.canFrameReceived k f before own) s =
      .next (((s.rxCounted k own).passQueue k (s.cans[k].rxQ ++ [⟨f, s.sysTicks - before, own⟩])).takeMode k) := by
  change execCanFrameReceived k f before own s = _
  unfold execCanFrameReceived
  dsimp only
  rw [if_neg (by rcases hbus with h | h <;> simp [hon, h, -Fin.getElem_fin]), if_neg (Nat.not_le.mpr h)]
  rfl

end

/-! ## The queue -/

theorem State.passQueue_waits {s : State} {k : Fin 3} {x : CanRx} (h : s.safeWaits k x = true) (rest : List CanRx) :
    s.passQueue k (x :: rest) = s.modCan k fun c => { c with rxQ := x :: rest } := by
  unfold State.passQueue
  rw [if_pos h]

theorem State.passQueue_one {s : State} {k : Fin 3} {x : CanRx} (h : s.safeWaits k x = false) :
    s.passQueue k [x] = (s.passFrame k x).modCan k fun c => { c with rxQ := [] } := by
  unfold State.passQueue
  rw [if_neg (by rw [h]; exact Bool.false_ne_true)]
  rfl

/-- A frame with a base identifier is no dictionary message. -/
theorem State.passFrame_base {s : State} {k : Fin 3} {x : CanRx} (h : x.frame.ext = false) : s.passFrame k x =
    ((if s.safeWants k x.frame then s.safeEnter k x.frame else s).filterFrame k x).readAtIrq k := by
  unfold State.passFrame State.dictFrame
  dsimp only
  rw [if_pos (by simp [h])]

/-! ## A frame stored -/

/-- A frame stored in a receive object (13 R357). -/
theorem State.mo_storeFrame {s : State} {k : Fin 3} {o : Nat} (hvalid : moValid (s.moCfg k o) = true) (hrecv : moSend (s.moCfg k o) = false) (x : CanRx) :
    ((s.storeFrame k o x).mo k o).nd = true ∧
    ((s.mo k o).nd = false → ((s.storeFrame k o x).mo k o).data = x.block ∧ ((s.storeFrame k o x).mo k o).lost = (s.mo k o).lost) ∧
    ((s.mo k o).nd = true → ((s.storeFrame k o x).mo k o).lost = true ∧
      ((s.storeFrame k o x).mo k o).data = if (s.moCfg k o).testBit 53 = true then x.block else (s.mo k o).data) := by
  have hirq (t : State) : (if moIrq (s.moCfg k o) then t.irqRaise (68 + 4 * k.val) else t).mo k o = t.mo k o := by
    split
    · exact State.mo_of_cans (State.irqRaise_cans ..) k o
    · rfl
  unfold State.storeFrame
  dsimp only
  rw [hvalid, hrecv, if_neg (by decide), hirq]
  cases hnd : (s.mo k o).nd with
  | false =>
    rw [Bool.false_and, if_neg Bool.false_ne_true, if_neg Bool.false_ne_true, State.mo_modMo_same]
    exact ⟨rfl, fun _ => ⟨rfl, rfl⟩, fun h => Bool.noConfusion h⟩
  | true =>
    rw [Bool.true_and, if_pos rfl, State.mo_of_cans (State.canEvent_cans ..), State.mo_modMo_same]
    cases hover : (s.moCfg k o).testBit 53 with
    | false =>
      rw [Bool.not_false, if_pos rfl]
      exact ⟨hnd, fun h => Bool.noConfusion h, fun _ => ⟨rfl, rfl⟩⟩
    | true =>
      rw [Bool.not_true, if_neg Bool.false_ne_true, State.mo_modMo_same]
      exact ⟨rfl, fun h => Bool.noConfusion h, fun _ => ⟨rfl, rfl⟩⟩

theorem State.storeFrame_objs {s : State} {k : Fin 3} {o : Nat} (hvalid : moValid (s.moCfg k o) = true) (hrecv : moSend (s.moCfg k o) = false)
    (x : CanRx) : s.ObjsOnly k (s.storeFrame k o x) := by
  unfold State.storeFrame
  dsimp only
  rw [hvalid, hrecv, if_neg (by decide)]
  have hstore : s.ObjsOnly k (if (s.mo k o).nd && !(s.moCfg k o).testBit 53 then s
      else s.modMo k o fun m => { m with data := x.block, nd := true, stores := m.stores + 1, storedTick := some s.sysTicks }) := by
    split
    · exact .refl k s
    · exact .modMo k s o _
  generalize (if (s.mo k o).nd && !(s.moCfg k o).testBit 53 then s
      else s.modMo k o fun m => { m with data := x.block, nd := true, stores := m.stores + 1, storedTick := some s.sysTicks }) = t at hstore ⊢
  have hlost : s.ObjsOnly k (if (s.mo k o).nd then (t.modMo k o fun m => { m with lost := true }).canEvent k 0x8007 o else t) := by
    split
    · exact hstore.trans ((State.ObjsOnly.modMo k t o fun m => { m with lost := true }).trans (.of_cans (State.canEvent_cans ..)))
    · exact hstore
  split
  · exact hlost.trans (.of_cans (State.irqRaise_cans ..))
  · exact hlost

/-- The filter engine stores the frame in the object that the first match names (13 R356). -/
theorem State.filterFrame_stores {s : State} {k : Fin 3} {x : CanRx} {n : Nat} (hremote : x.frame.remote = false)
    (hfirst : ((List.range 256).find? fun n => s.filterHits k (n + 1) x.frame) = some n)
    (hstore : (s.val (0x1840 + k.val) (n + 1)).testBit 28 = false) :
    s.filterFrame k x = s.storeFrame k (bits (s.val (0x1840 + k.val) (n + 1)) 6 0) x := by
  unfold State.filterFrame
  dsimp only
  rw [hremote, if_neg Bool.false_ne_true, hfirst]
  dsimp only
  rw [hstore, if_neg Bool.false_ne_true]

/-! ## The interrupt's read -/

theorem State.readAtIrq_objs (s : State) (k : Fin 3) : s.ObjsOnly k (s.readAtIrq k) := by
  unfold State.readAtIrq
  split
  · exact .refl k s
  · exact forEach_keeps (P := fun t => s.ObjsOnly k t) (fun t o ht => ht.trans (.modMo k t o _)) s _ (.refl k s)

/-- Firmware that acts clears `ND` of a receive object whose interrupt it takes (13 R358). -/
theorem State.mo_readAtIrq {s : State} {k : Fin 3} {o : Nat} (ho : o < 128) (hvalid : moValid (s.moCfg k o) = true)
    (hrecv : moSend (s.moCfg k o) = false) : (s.readAtIrq k).mo k o = { s.mo k o with nd := (s.mo k o).nd && !(moIrq (s.moCfg k o) && s.fwActs) } := by
  unfold State.readAtIrq
  cases hfw : s.fwActs with
  | false =>
    rw [if_pos (by decide), Bool.and_false, Bool.not_false, Bool.and_true]
  | true =>
    rw [if_neg (by decide), Bool.and_true]
    have hother : ∀ (t : State) (q : Nat), q ≠ o → True → (t.modMo k q fun m => { m with nd := false }).mo k o = t.mo k o :=
      fun t q hq _ => State.mo_modMo_other t k hq.symm _
    cases hread : moIrq (s.moCfg k o) && (s.mo k o).nd with
    | true =>
      obtain ⟨hirq, hnd⟩ := Bool.and_eq_true_iff.mp hread
      obtain ⟨t, -, hget, heq⟩ := forEach_once (get := fun t => State.mo t k o) (P := fun _ => True)
        (f := fun t o => State.modMo t k o fun m => { m with nd := false }) (fun _ _ _ => trivial) hother
        (l := allMo.filter fun o => moValid (s.moCfg k o) && !moSend (s.moCfg k o) && moIrq (s.moCfg k o) && (s.mo k o).nd)
        (List.nodup_range.filter _) (List.mem_filter.mpr ⟨List.mem_range.mpr ho, by simp [hvalid, hrecv, hirq, hnd]⟩) (s := s) trivial
      refine heq.trans ?_
      rw [State.mo_modMo_same, hget, hirq, hnd]
      rfl
    | false =>
      refine (forEach_same (get := fun t => State.mo t k o) (P := fun _ => True) (fun _ _ _ => trivial) (fun t q hq hP => hother t q ?_ hP) trivial).trans ?_
      · rintro rfl
        obtain ⟨-, hcond⟩ := List.mem_filter.mp hq
        simp only [Bool.and_eq_true, Bool.not_eq_true'] at hcond
        rw [hcond.1.2, hcond.2] at hread
        exact Bool.noConfusion hread
      · have hsame : ((s.mo k o).nd && !moIrq (s.moCfg k o)) = (s.mo k o).nd := by
          revert hread
          cases moIrq (s.moCfg k o) <;> cases (s.mo k o).nd <;> decide
        rw [hsame]

theorem State.safeEnter_takes (s : State) (k : Fin 3) {f : CanFrame} (h : f.ext = false) : ∃ fr, (s.safeEnter k f).trav.portQ = s.trav.portQ ++ [fr] ∧
    fr.bytes = u32 f.id ++ framePayload f ∧ fr.head.owner = 4 + k.val := by
  refine ⟨_, rfl, ?_, rfl⟩
  rw [h]
  rfl

theorem State.filterHits_of_values {s t : State} (h : t.dict.vals = s.dict.vals) (k : Fin 3) (n : Nat) (f : CanFrame) :
    t.filterHits k n f = s.filterHits k n f := by
  unfold State.filterHits
  simp only [State.val_of_values h]

/-- The safe-message path leaves the controllers, the values and firmware. -/
theorem State.safeEnter_keeps (s : State) (k : Fin 3) (f : CanFrame) :
    (if s.safeWants k f then s.safeEnter k f else s).cans = s.cans ∧ (if s.safeWants k f then s.safeEnter k f else s).dict.vals = s.dict.vals ∧
    (if s.safeWants k f then s.safeEnter k f else s).fwActs = s.fwActs := by
  split <;> exact ⟨rfl, rfl, rfl⟩

/-- Settles O33: the full queue, the queue behind a frame that waits, the safe-message path and the filter engine. -/
theorem canFrames : Obligations.CanFrames := by
  intro s k f hon hbus
  refine ⟨fun before own hfull => ?_, fun before own x rest hq hrest hwaits => ?_, fun before own hq hext hwants hwaits => ?_,
    fun before own n o hq hwaits hext hremote hfirst hstore ho hvalid hrecv => ?_⟩
  · obtain ⟨r, b, hgood⟩ := s.rxGood_can k own
    refine ⟨_, exec_canFrameReceived_full hon hbus f before own hfull, ?_⟩
    have hcan : (((s.rxGood k own).modCan k fun c => { c with counts := upd c.counts 9 sat32, seen := c.seen ||| 8 }).canEvent k 0x8006 0).cans[k] =
        { s.cans[k] with rec_ := r, bus := b, counts := upd s.cans[k].counts 9 sat32, seen := s.cans[k].seen ||| 8 } := by
      rw [State.canEvent_can, State.modCan_same, hgood]
    refine State.takeMode_can (P := fun c => c.counts[9] = sat32 s.cans[k].counts[9] ∧ c.objs = s.cans[k].objs ∧
      c.counts[0] = s.cans[k].counts[0] ∧ c.rxQ = s.cans[k].rxQ) ?_ fun _ _ _ _ => ?_ <;>
    · rw [hcan]
      exact ⟨upd_get_same .., rfl, by simp [Can.entered, upd], rfl⟩
  · obtain ⟨r, b, hcounted⟩ := s.rxCounted_can k own
    refine ⟨_, exec_canFrameReceived_room hon hbus f before own (by rw [hq, List.length_cons]; omega), ?_⟩
    have hwaits' : (s.rxCounted k own).safeWaits k x = true := (State.safeWaits_of_blank (s.rxCounted_blank k own) k x).1.trans hwaits
    rw [hq, List.cons_append, State.passQueue_waits hwaits']
    refine State.takeMode_can (P := fun c => c.counts[0] = sat32 s.cans[k].counts[0] ∧ c.objs = s.cans[k].objs ∧
      c.rxQ = x :: (rest ++ [⟨f, s.sysTicks - before, own⟩])) ?_ fun _ _ _ _ => ?_ <;>
    · rw [State.modCan_same, hcounted]
      exact ⟨upd_get_same .., rfl, rfl⟩
  · have hblank := s.rxCounted_blank k own
    obtain ⟨hw, hs⟩ := State.safeWaits_of_blank hblank k ⟨f, s.sysTicks - before, own⟩
    refine ⟨_, exec_canFrameReceived_room hon hbus f before own (by rw [hq]; decide), ?_⟩
    rw [hq, List.nil_append, State.passQueue_one (hw.trans hwaits), State.passFrame_base hext, if_pos (hs.trans hwants)]
    refine ⟨State.takeMode_can (P := fun c => c.rxQ = []) (by rw [State.modCan_same]) fun _ _ _ _ => by rw [State.modCan_same]; rfl, ?_⟩
    obtain ⟨fr, hfr, hbytes, howner⟩ := (s.rxCounted k own).safeEnter_takes k hext
    refine ⟨fr, ?_, hbytes, howner⟩
    have htrav : (s.rxCounted k own).trav = s.trav := same_of_blank (p := .trav) hblank rfl
    rw [← htrav, ← hfr]
    generalize (s.rxCounted k own).safeEnter k f = u
    exact congrArg Traverse.portQ (same_of_blank (p := .trav) (m := only [.cans, .irq, .evlog, .clock, .dict, .values]) (by
      rw [State.takeMode_in rfl rfl, State.modCan_in rfl, State.readAtIrq_in rfl, State.filterFrame_in rfl rfl rfl]) rfl)
  · have hblank := s.rxCounted_blank k own
    have hvals : (s.rxCounted k own).dict.vals = s.dict.vals := same_of_blank (p := .values) hblank rfl
    have hfw : (s.rxCounted k own).fwActs = s.fwActs := State.fwActs_of (same_of_blank (p := .start) hblank rfl) (now_of_blank hblank)
      (same_of_blank (p := .cores) hblank rfl)
    refine ⟨_, exec_canFrameReceived_room hon hbus f before own (by rw [hq]; decide), ?_⟩
    rw [hq, List.nil_append, State.passQueue_one ((State.safeWaits_of_blank hblank k _).1.trans hwaits), State.passFrame_base hext]
    obtain ⟨hcans, hvals', hfw'⟩ := (s.rxCounted k own).safeEnter_keeps k f
    dsimp only
    generalize (if (s.rxCounted k own).safeWants k f then (s.rxCounted k own).safeEnter k f else s.rxCounted k own) = u at hcans hvals' hfw' ⊢
    rw [hvals] at hvals'
    rw [hfw] at hfw'
    have hcfg : u.moCfg k o = s.moCfg k o := State.val_of_values hvals' ..
    have hmo : u.mo k o = s.mo k o := (State.mo_of_cans hcans k o).trans (s.mo_rxCounted k own o)
    have hstored : u.filterFrame k ⟨f, s.sysTicks - before, own⟩ = u.storeFrame k o ⟨f, s.sysTicks - before, own⟩ := by
      rw [State.filterFrame_stores (n := n) hremote (by simpa only [State.filterHits_of_values hvals'] using hfirst)
        (by rw [State.val_of_values hvals', hstore]), State.val_of_values hvals', ← ho]
    obtain ⟨hnd, hfresh, hheld⟩ := State.mo_storeFrame (by rw [hcfg]; exact hvalid) (by rw [hcfg]; exact hrecv) (x := ⟨f, s.sysTicks - before, own⟩)
    have hobjs := State.storeFrame_objs (by rw [hcfg]; exact hvalid) (by rw [hcfg]; exact hrecv) (x := ⟨f, s.sysTicks - before, own⟩)
    have hkeep := State.storeFrame_in (m := only [.cans, .irq, .evlog]) rfl rfl rfl u k o ⟨f, s.sysTicks - before, own⟩
    rw [hstored]
    rw [hmo] at hfresh hheld
    rw [hcfg] at hheld
    generalize u.storeFrame k o ⟨f, s.sysTicks - before, own⟩ = v at hnd hfresh hheld hobjs hkeep ⊢
    have hcfg' : v.moCfg k o = s.moCfg k o := (State.val_of_values (same_of_blank (p := .values) hkeep rfl) ..).trans hcfg
    have hfw'' : v.fwActs = s.fwActs := (State.fwActs_of (same_of_blank (p := .start) hkeep rfl) (now_of_blank hkeep)
      (same_of_blank (p := .cores) hkeep rfl)).trans hfw'
    have hread : (v.readAtIrq k).mo k o = { v.mo k o with nd := !(moIrq (s.moCfg k o) && s.fwActs) } := by
      rw [State.mo_readAtIrq (by rw [ho]; exact Nat.mod_lt _ (by decide)) (by rw [hcfg', hvalid]) (by rw [hcfg', hrecv]), hnd, hcfg', hfw'', Bool.true_and]
    have hfinal : (((v.readAtIrq k).modCan k fun c => { c with rxQ := [] }).takeMode k).mo k o = (v.readAtIrq k).mo k o := by
      rw [State.mo_takeMode]
      exact State.mo_of_objs (by rw [State.modCan_same]) o
    rw [hfinal, hread]
    refine ⟨?_, rfl, hfresh, hheld⟩
    obtain ⟨r, b, hcounted⟩ := s.rxCounted_can k own
    have hcounts : (v.readAtIrq k).cans[k].counts[0] = sat32 s.cans[k].counts[0] := by
      rw [v.readAtIrq_objs k, hobjs, State.can_of_cans hcans k, hcounted]
      exact upd_get_same ..
    exact State.takeMode_can (P := fun c => c.counts[0] = sat32 s.cans[k].counts[0]) (by rw [State.modCan_same]; exact hcounts)
      fun _ _ _ _ => by rw [State.modCan_same]; exact hcounts

end Sys2Proof.Machine

/-!
Sealed requests of items: the bytes of their values, the state they are applied in, their answer (O38), and the periods (O23).
-/

namespace Sys2Proof.Machine

-- One thread per theorem would be more than the compiler's memory limit allows.
set_option Elab.async false

/-! ## Numbers and their bytes -/

theorem foldl_beBytes (w n acc : Nat) : (beBytes w n).foldl (fun acc b => acc * 256 + b.toNat) acc = acc * 256 ^ w + n % 256 ^ w := by
  induction w generalizing acc with
  | zero => simp [beBytes, Nat.mod_one]
  | succ w ih =>
    have hmod : n % 256 ^ (w + 1) = n / 256 ^ w % 256 * 256 ^ w + n % 256 ^ w := by
      rw [Nat.mod_pow_succ, Nat.mul_comm, Nat.add_comm]
    have hshift : n >>> (8 * w) = n / 256 ^ w := by rw [Nat.shiftRight_eq_div_pow, Nat.pow_mul]
    rw [beBytes, List.foldl_cons, ih, hmod, BitVec.toNat_ofNat, hshift]
    ring

/-- The number that a number's bytes spell. -/
theorem ofBytes_beBytes (w n : Nat) : ofBytes (beBytes w n) = n % 256 ^ w := by
  rw [ofBytes, foldl_beBytes, Nat.zero_mul, Nat.zero_add]

theorem ofBytes_u16 {v : Nat} (h : v < 65536) : ofBytes (u16 v) = v := (ofBytes_beBytes 2 v).trans (Nat.mod_eq_of_lt h)
theorem ofBytes_u32 {v : Nat} (h : v < 2 ^ 32) : ofBytes (u32 v) = v := (ofBytes_beBytes 4 v).trans (Nat.mod_eq_of_lt h)

/-- A value alone in its entry is its bytes' number. -/
theorem EntryRow.element_whole {r : EntryRow} {data : List Byte} (h : data.length = r.width) : r.element data 0 = ofBytes data := by
  unfold EntryRow.element
  rw [Nat.zero_mul, List.drop_zero, ← h, List.take_length]

/-! ## The state firmware acts on a verified request in -/

/-- A verified request's counter is taken up; of the seal engine nothing else differs (14 R395). -/
theorem State.verified_seng (s : State) {r : SealedReq} (h : r.head.slot < 8) : (s.verified r).seng = { s.seng with
    slots := upd s.seng.slots ⟨r.head.slot, h⟩ fun k => { k with counter := r.head.counter }, storePending := s.seng.storePending ||| 2 ^ r.head.slot } := by
  have htaken : (s.sealTaken r).seng = s.seng :=
    same_of_blank (p := .seng) (State.newRequest_in (m := only [.dict, .irq, .evlog, .eths]) rfl rfl rfl rfl s r.head.src) rfl
  have hnote : (s.verified r).seng = (((s.sealTaken r).consumeCounter r).irqRaise 80).seng :=
    same_of_blank (p := .seng) (forEach_in (fun t i => State.noteTickWrite_in (m := only [.dict]) rfl t _ _ _) _ _) rfl
  rw [hnote, State.irqRaise_seng]
  unfold State.consumeCounter
  rw [dif_pos h, State.modSeng_seng, htaken]

/-- A request that passes the seal engine has the form of 14 R394. -/
theorem State.sealCheck_format {s : State} {r : SealedReq} (h : s.sealCheck r = none) : sealFormatOk r = true := by
  unfold State.sealCheck at h
  by_contra hf
  rw [if_pos (by simpa using hf)] at h
  exact nomatch h

theorem slot_of_format {r : SealedReq} (h : sealFormatOk r = true) : r.head.slot < 8 := by
  unfold sealFormatOk at h
  simp only [Bool.and_eq_true, decide_eq_true_eq] at h
  exact h.1.1.1.1.2

theorem State.admitsSealed.format {s : State} {r : SealedReq} (h : s.admitsSealed r) : sealFormatOk r = true := by
  obtain ⟨-, -, -, -, -, -, -, -, -, hcheck, -⟩ := h
  exact State.sealCheck_format hcheck

theorem State.admitsSealed.slot {s : State} {r : SealedReq} (h : s.admitsSealed r) : r.head.slot < 8 := slot_of_format h.format

theorem State.admitsSealed.sig {s : State} {r : SealedReq} (h : s.admitsSealed r) : r.head.sig.length = 64 := by
  obtain ⟨-, -, -, -, -, -, -, -, -, hcheck, -⟩ := h
  exact State.sealCheck_sig hcheck

/-! ## The answer -/

theorem State.answerSealed_sent (s : State) (r : SealedReq) : (s.answerSealed r).dict.sent = (s.answerSealed r).dict.sent.dropLast ++
    [.writeReply r.head.src 0x1E00 1 r.bytes.length] := by
  unfold State.answerSealed
  simp only [State.send_sent, List.dropLast_concat]

theorem State.closeSubmitted_seng (s : State) (r : SealedReq) : (s.closeSubmitted r).seng = s.seng :=
  same_of_blank (p := .seng) (State.closeSubmitted_in (m := only [.dict]) rfl s r) rfl

/-- An answered request leaves `SEAL_RESULT` 0, the slots and the waiting requests (14 R404). -/
theorem State.answerSealed_seng (s : State) (r : SealedReq) : (s.answerSealed r).seng = { s.seng with result := 0 } := by
  unfold State.answerSealed
  dsimp only
  rw [State.send_seng, State.closeSubmitted_seng, State.modDict_seng, State.noteLast_seng, State.modSeng_seng]
  exact congrArg (fun g : Seal => { g with result := 0 })
    (same_of_blank (p := .seng) (forEach_in (fun t p => State.event_in (m := only [.evlog, .irq]) rfl rfl t _ _ _ _) s _) rfl)

theorem State.storeRequest_slots (s : State) (r : SealedReq) : (s.storeRequest r).seng.slots = s.seng.slots := by
  unfold State.storeRequest
  split
  · rfl
  · rw [State.storeCfg_seng]
    rfl

/-- The addresses of `ETH_APPLY` follow the replies already sent. -/
theorem State.ethApply_sent (s : State) : ∃ l, s.ethApply.dict.sent = s.dict.sent ++ l := by
  unfold State.ethApply
  dsimp only
  refine forEach_keeps (P := fun t => ∃ l, t.dict.sent = s.dict.sent ++ l) (fun t k ht => ?_) _ _ ⟨[], ?_⟩
  · obtain ⟨l, hl⟩ := ht
    unfold State.announcePort
    split
    · exact ⟨l ++ _, by rw [State.send_sent, hl, List.append_assoc]⟩
    · exact ⟨l, hl⟩
  · rw [State.event_dict, dict_of_blank (forEach_in (fun t k => State.modEth_in (m := only [.eths]) rfl t k _) _ _) rfl rfl, State.modDict_dict,
      List.append_nil]

theorem entryAfter_sent (index sub : Nat) (s : State) : ∃ l, (entryAfter index sub s).dict.sent = s.dict.sent ++ l := by
  unfold entryAfter
  split
  · exact s.ethApply_sent
  · exact ⟨[], (List.append_nil _).symm⟩

/-- An applied request is answered and concluded (11 R309, 14 R397). -/
structure SealedDone (r : SealedReq) (u t : State) : Prop where
  values : t.dict.vals = u.dict.vals
  result : t.seng.result = 0
  slots : t.seng.slots = u.seng.slots
  reply : Message.writeReply r.head.src 0x1E00 1 r.bytes.length ∈ t.dict.sent
  last : (∀ i ∈ r.items, ¬ (i.index = ethObj ∧ i.sub = 1)) → t.lastSent = some (.writeReply r.head.src 0x1E00 1 r.bytes.length)

theorem State.concludeSealed_done (u : State) (r : SealedReq) : SealedDone r u (u.concludeSealed r) := by
  have hseng : ((u.storeRequest r).answerSealed r).seng = { (u.storeRequest r).seng with result := 0 } := State.answerSealed_seng _ r
  have hsent := (u.storeRequest r).answerSealed_sent r
  have hlast := lastSent_answerSealed (u.storeRequest r) r
  have hvalues := same_of_blank (p := .values) (State.concludeSealed_in (m := only [.evlog, .irq, .seng, .dict, .eths, .cans]) rfl rfl rfl rfl rfl rfl u r) rfl
  have hafter : (u.concludeSealed r).seng = ((u.storeRequest r).answerSealed r).seng := same_of_blank (p := .seng)
    (forEach_in (fun t i => entryAfter_in (m := only [.dict, .eths, .evlog, .irq, .cans]) rfl rfl rfl rfl rfl _ _ t) _ r.items) rfl
  refine ⟨hvalues, by rw [hafter, hseng], ?_, ?_, fun hno => ?_⟩
  · rw [hafter, hseng]
    exact u.storeRequest_slots r
  · refine forEach_keeps (P := fun t => Message.writeReply r.head.src 0x1E00 1 r.bytes.length ∈ t.dict.sent) (fun t i ht => ?_) _ r.items ?_
    · obtain ⟨l, hl⟩ := entryAfter_sent i.index i.sub t
      rw [hl]
      exact List.mem_append_left l ht
    · rw [hsent]
      exact List.mem_append_right _ (List.mem_singleton.mpr rfl)
  · have hsame : u.concludeSealed r = (u.storeRequest r).answerSealed r :=
      forEach_same (get := id) (P := fun _ => True) (fun _ _ _ => trivial) (fun t i hi _ => if_neg (hno i hi)) trivial
    rw [hsame, hlast]

/-- A sealed request whose items firmware applies is answered, and leaves what its items made of the verified state. -/
theorem exec_items {c : Instr} {s u : State} {r : SealedReq}
    (hc : exec c s = .next (s.unlessSwapping c fun s => s.sealedVia r fun s => s.applyRequest r)) (h : s.admitsSealed r)
    (hu : applyItems r r.items.zipIdx (s.verified r) = .ok u) : ∃ t, exec c s = .next t ∧ SealedDone r u t := by
  have hact : (s.verified r).applyRequest r = .awaits (u.concludeSealed r) := by
    unfold State.applyRequest
    rw [hu]
  rw [holding_false h.1, sealedVia_eq h, hact] at hc
  exact ⟨_, hc, u.concludeSealed_done r⟩

/-- A sealed request refused at an item answers with its code and number (14 R389). -/
theorem State.refuseSealed_answers (s : State) (r : SealedReq) (a : Abort) (item : Nat) :
    (s.refuseSealed r a item).lastSent = some (.abort r.head.src 0x1E00 1 (abortWord a item)) ∧ (s.refuseSealed r a item).seng.result = abortWord a item := by
  unfold State.refuseSealed State.abort
  simp only [Bool.false_eq_true, if_false]
  refine ⟨by simp [State.lastSent], ?_⟩
  rw [State.send_seng, State.modDict_seng, State.closeSubmitted_seng]
  rfl

/-! ## Items that firmware holds -/

theorem State.lengthOk_of {s t : State} (h : t.seng.fw = s.seng.fw) : t.lengthOk = s.lengthOk := by
  funext r index sub data
  unfold State.lengthOk
  rw [h]

theorem State.verified_fw (s : State) {r : SealedReq} (h : r.head.slot < 8) : (s.verified r).seng.fw = s.seng.fw := by rw [s.verified_seng h]

/-- The checks of an item read the values and the open firmware session. -/
theorem State.rwsOk_verified (s : State) {r : SealedReq} (h : r.head.slot < 8) (i : SealItem) :
    (s.verified r).rwsRangeOk i = s.rwsRangeOk i ∧ (s.verified r).rwsStateOk i = s.rwsStateOk i ∧ (s.verified r).itemCheck i = s.itemCheck i := by
  have hlen := State.lengthOk_of (s.verified_fw h)
  have hval : ∀ index sub el, (s.verified r).val index sub el = s.val index sub el := State.val_of_values (s.verified_values r)
  refine ⟨?_, ?_, ?_⟩
  · unfold State.rwsRangeOk State.fcCfgOk
    simp only [hlen, hval]
  · unfold State.rwsStateOk
    rw [hval]
  · unfold State.itemCheck
    rw [hlen]

/-- A configuration item that passes its checks takes its value (14 R397). -/
theorem State.putRws_value (s : State) {i : SealItem} {e : EntryRow} (he : entryOf i.index i.sub = some e) (hk : e.kind = .num) (hn : e.count = 1) :
    (s.putRws i).val i.index i.sub = e.element i.data 0 := by
  have hstore : (s.storeValue e i.index i.sub i.data).val i.index i.sub = e.element i.data 0 := by
    unfold State.storeValue
    rw [hk, hn]
    exact State.val_setVal_same ..
  rw [← hstore]
  refine State.val_of_values (same_of_blank (p := .values) (m := only [.evlog, .irq, .gates, .est]) ?_ rfl) ..
  have hset : (s.setRws i).blank (only [.evlog, .irq, .gates, .est]) =
      (s.storeValue e i.index i.sub i.data).blank (only [.evlog, .irq, .gates, .est]) := by
    unfold State.setRws
    rw [he]
    exact forEach_in (fun t p => State.modGate_in rfl t _ _) _ _
  rw [← hset]
  unfold State.putRws
  dsimp only
  have hgates := forEach_in (m := only [.evlog, .irq, .gates, .est]) (fun (t : State) c => State.gateEvent_in rfl rfl t 0x500B c []) (s.setRws i)
    (gateCfgChannels i.index i.sub)
  split
  · exact (State.event_in rfl rfl ..).trans hgates
  · split
    · exact (State.event_in rfl rfl ..).trans hgates
    · exact hgates

end Sys2Proof.Machine

/-!
Sealed requests of items and of belay records (O38), and the periods (O23).
-/

namespace Sys2Proof.Machine

-- One thread per theorem would be more than the compiler's memory limit allows.
set_option Elab.async false

/-! ## One item -/

theorem isBelayItem_of_isFwRws {i : SealItem} (h : isFwRws i = true) : isBelayItem i = false ∧ isTrustKey i.index i.sub = false ∧
    accessOf i.index i.sub = some .rws := by
  unfold isFwRws at h
  simp only [Bool.and_eq_true, Bool.not_eq_true', decide_eq_true_eq] at h
  obtain ⟨⟨⟨hacc, henv⟩, hio⟩, htrust⟩ := h
  exact ⟨by unfold isBelayItem; rw [henv, hio]; rfl, htrust, hacc⟩

/-- An RWS item that firmware holds and that passes its checks is applied. -/
theorem State.applyOne_rws {s : State} {i : SealItem} (hrws : isFwRws i = true) (hrange : s.rwsRangeOk i = true) (hstate : s.rwsStateOk i = true)
    (r : SealedReq) : s.applyOne r i = .ok (s.putRws i) := by
  obtain ⟨hbelay, -, hacc⟩ := isBelayItem_of_isFwRws hrws
  obtain ⟨e, he, -⟩ := Option.map_eq_some_iff.mp hacc
  have hlen : s.lengthOk e i.index i.sub i.data = true := by
    unfold State.rwsRangeOk at hrange
    rw [he] at hrange
    simp only [Bool.and_eq_true] at hrange
    exact hrange.1.1.1.1
  unfold State.applyOne
  rw [he]
  dsimp only
  rw [hlen, hbelay, hrws, hrange, hstate]
  rfl

theorem isPlainRequest_one {h : SealHead} {index sub : Nat} {data : List Byte} (hf : sealFormatOk (h.one index sub data) = true)
    (hbelay : isBelayItem ⟨index, sub, data⟩ = false) (htrust : isTrustKey index sub = false) (hacc : accessOf index sub ≠ some .xs) :
    isPlainRequest (h.one index sub data) = true := by
  unfold isPlainRequest
  rw [hf, Bool.true_and]
  simp only [SealHead.one, List.all_cons, List.all_nil, hbelay, htrust, Bool.not_false, Bool.true_and, Bool.and_true]
  exact decide_eq_true hacc

/-- A request of one RWS item that passes its checks takes its value (14 R397). -/
theorem exec_rwsItem {c : Instr} {s : State} {h : SealHead} {index sub : Nat} {data : List Byte} {e : EntryRow}
    (hc : isPlainRequest (h.one index sub data) = true → exec c s =
      .next (s.unlessSwapping c fun s => s.sealedVia (h.one index sub data) fun s => s.applyRequest (h.one index sub data)))
    (he : entryOf index sub = some e) (hk : e.kind = .num) (hn : e.count = 1) (hrws : isFwRws ⟨index, sub, data⟩ = true)
    (hrange : s.rwsRangeOk ⟨index, sub, data⟩ = true) (hstate : s.rwsStateOk ⟨index, sub, data⟩ = true) (ha : s.admitsSealed (h.one index sub data)) :
    ∃ t, exec c s = .next t ∧ t.val index sub = e.element data 0 ∧ t.seng.result = 0 ∧
      t.lastSent = some (.writeReply h.src 0x1E00 1 (h.one index sub data).bytes.length) := by
  obtain ⟨hbelay, htrust, hacc⟩ := isBelayItem_of_isFwRws hrws
  obtain ⟨hrange', hstate', -⟩ := s.rwsOk_verified ha.slot ⟨index, sub, data⟩
  have hone := State.applyOne_rws hrws (hrange'.trans hrange) (hstate'.trans hstate) (h.one index sub data)
  obtain ⟨t, hexec, hdone⟩ := exec_items (u := (s.verified (h.one index sub data)).putRws ⟨index, sub, data⟩)
    (hc (isPlainRequest_one ha.format hbelay htrust (by rw [hacc]; decide))) ha (by
      change applyItems _ [(⟨index, sub, data⟩, 0)] _ = _
      unfold applyItems
      rw [hone]
      rfl)
  refine ⟨t, hexec, (State.val_of_values hdone.values ..).trans (State.putRws_value _ he hk hn), hdone.result, hdone.last fun i hi => ?_⟩
  rw [List.mem_singleton.mp hi]
  rintro ⟨rfl, rfl⟩
  exact absurd (show accessOf ethObj 1 = some .rws from hacc) (by decide)

/-! ## Requests of belay records -/

/-- The state in which the records of a checked request wait in the privileged queue (11 R305). -/
def State.forwarded (s : State) (r : SealedReq) : State :=
  (s.modBelay fun b => { b with privQ := b.privQ ++ (requestRecords r false).map PrivEntry.record }).modSeng fun g =>
    { g with forwarded := g.forwarded ++ [r] }

theorem exec_forward {c : Instr} {s u : State} {r : SealedReq}
    (hc : exec c s = .next (s.unlessSwapping c fun s => s.sealedVia r fun s => s.forwardRequest r)) (h : s.admitsSealed r)
    (hu : applyItems r r.items.zipIdx (s.verified r) = .ok u) : ∃ t, exec c s = .next t ∧
      t.belay = { s.belay with privQ := s.belay.privQ ++ (requestRecords r false).map PrivEntry.record } ∧
      t.seng.forwarded = s.seng.forwarded ++ [r] ∧ t.dict.vals = s.dict.vals := by
  have hact : (s.verified r).forwardRequest r = .awaits ((s.verified r).forwarded r) := by
    unfold State.forwardRequest
    rw [hu]
    rfl
  rw [holding_false h.1, sealedVia_eq h, hact] at hc
  refine ⟨_, hc, ?_, ?_, s.verified_values r⟩
  · change { (s.verified r).belay with privQ := (s.verified r).belay.privQ ++ (requestRecords r false).map PrivEntry.record } = _
    rw [State.verified_belay]
  · change (s.verified r).seng.forwarded ++ [r] = _
    rw [s.verified_seng h.slot]

/-- Items that only ask the belay logic for records leave firmware's state. -/
theorem applyItems_belay {r : SealedReq} {s : State} (l : List (SealItem × Nat)) (h : ∀ p ∈ l, isBelayItem p.1 = true ∧ s.itemCheck p.1 = none ∧
    s.belayItemCheck r p.1 = none) : applyItems r l s = .ok s := by
  induction l with
  | nil => rfl
  | cons p l ih =>
    obtain ⟨hbelay, hcheck, hstate⟩ := h p List.mem_cons_self
    have hone : s.applyOne r p.1 = .ok s := by
      unfold State.itemCheck at hcheck
      unfold State.applyOne
      cases he : entryOf p.1.index p.1.sub with
      | none =>
        rw [he] at hcheck
        exact nomatch hcheck
      | some e =>
        rw [he] at hcheck
        dsimp only at hcheck
        split_ifs at hcheck with hlen hrange
        rw [Bool.not_eq_true', Bool.not_eq_false] at hlen hrange
        dsimp only
        rw [hlen, hbelay, hrange, hstate]
        rfl
    unfold applyItems
    rw [hone]
    exact ih fun q hq => h q (List.mem_cons_of_mem p hq)

theorem State.belayItemCheck_verified (s : State) (r : SealedReq) (i : SealItem) : (s.verified r).belayItemCheck r i = s.belayItemCheck r i := by
  have hread : ∀ u : State, u.belayItemCheck r i = (u.blank sealParts).belayItemCheck r i := fun _ => rfl
  rw [hread, verified_blank, ← hread]

/-- A request whose items all become records and pass their checks is accepted. -/
theorem applyItems_records {s : State} {r : SealedReq} (ha : s.admitsSealed r) (h : ∀ i ∈ r.items, isBelayItem i = true ∧ s.itemCheck i = none ∧
    s.belayItemCheck r i = none) : applyItems r r.items.zipIdx (s.verified r) = .ok (s.verified r) := by
  refine applyItems_belay _ fun p hp => ?_
  obtain ⟨hbelay, hcheck, hstate⟩ := h p.1 (List.fst_mem_of_mem_zipIdx hp)
  exact ⟨hbelay, (s.rwsOk_verified ha.slot p.1).2.2.trans hcheck, (s.belayItemCheck_verified r p.1).trans hstate⟩

/-! ## The range of a number -/

/-- An unsigned number alone in its entry lies in range as its bytes' number does. -/
theorem EntryRow.rangeOk_number {r : EntryRow} {data : List Byte} (hk : r.kind = .num) (hs : r.signed = false) (hn : r.count = 1) (hw : 0 < r.width)
    (hlen : data.length = r.width) (h : (r.rangeOf 0).1 ≤ (ofBytes data : Int) ∧ (ofBytes data : Int) ≤ (r.rangeOf 0).2) : r.rangeOk data = true := by
  have helem : r.elements data = [(ofBytes data : Int)] := by
    unfold EntryRow.elements
    rw [hlen, Nat.div_self hw, hs, show List.range 1 = [0] from rfl]
    simp only [List.map_cons, List.map_nil, Nat.zero_mul, List.drop_zero, Bool.false_eq_true, if_false]
    rw [← hlen, List.take_length]
  unfold EntryRow.rangeOk
  rw [hk, helem, hn]
  simpa using h

theorem State.admitsSealed.one_length {s : State} {h : SealHead} {index sub : Nat} {data : List Byte} (ha : s.admitsSealed (h.one index sub data)) :
    (h.one index sub data).bytes.length = 90 + data.length := SealHead.one_bytes_length ha.sig

/-- The row of a period, a number of 2 bytes. -/
theorem State.period_rangeOk {s : State} {sub lo hi d v : Nat} (he : entryOf 0x2000 sub = some ⟨0x2000, 1, sub, 1, 2, 1, .num, false, .rws, [(lo, hi)], [d]⟩)
    (hlo : lo ≤ v) (hhi : v ≤ hi) (hmax : hi < 65536) : s.rwsRangeOk ⟨0x2000, sub, u16 v⟩ = true := by
  have hrange : EntryRow.rangeOk ⟨0x2000, 1, sub, 1, 2, 1, .num, false, .rws, [(lo, hi)], [d]⟩ (u16 v) = true := by
    refine EntryRow.rangeOk_number rfl rfl rfl Nat.two_pos (beBytes_length 2 v) ?_
    rw [ofBytes_u16 (by omega)]
    exact ⟨Int.ofNat_le.mpr hlo, Int.ofNat_le.mpr hhi⟩
  unfold State.rwsRangeOk
  rw [he]
  dsimp only
  rw [hrange]
  simp [State.lengthOk, EntryRow.size, gateCfgChannels, isProfile, u16, beBytes_length]

/-- A period inside a sealed request (05 R150, R159). -/
theorem exec_period {c : Instr} {s : State} {h : SealHead} {sub lo hi d v : Nat}
    (hc : isPlainRequest (h.one 0x2000 sub (u16 v)) = true → exec c s =
      .next (s.unlessSwapping c fun s => s.sealedVia (h.one 0x2000 sub (u16 v)) fun s => s.applyRequest (h.one 0x2000 sub (u16 v))))
    (he : entryOf 0x2000 sub = some ⟨0x2000, 1, sub, 1, 2, 1, .num, false, .rws, [(lo, hi)], [d]⟩) (hrws : isFwRws ⟨0x2000, sub, u16 v⟩ = true)
    (hlo : lo ≤ v) (hhi : v ≤ hi) (hmax : hi < 65536) (hstate : s.rwsStateOk ⟨0x2000, sub, u16 v⟩ = true)
    (ha : s.admitsSealed (h.one 0x2000 sub (u16 v))) : ∃ t, exec c s = .next t ∧ t.val 0x2000 sub = v ∧
      t.lastSent = some (.writeReply h.src 0x1E00 1 92) := by
  obtain ⟨t, hexec, hval, -, hlast⟩ := exec_rwsItem hc he rfl rfl hrws (State.period_rangeOk he hlo hhi hmax) hstate ha
  refine ⟨t, hexec, ?_, ?_⟩
  · rw [hval, EntryRow.element_whole (beBytes_length 2 v), ofBytes_u16 (by omega)]
  · rw [hlast, ha.one_length, u16, beBytes_length]

/-- Settles O23: the recess by a plain write, the periods inside a sealed request. -/
theorem periods : Obligations.Periods := by
  intro s
  refine ⟨fun src v hadm hv => ?_, fun h v hlo hhi hrecess ha => ?_, fun h v hlo hhi ha => ?_⟩
  · have happly : (s.taken src blockObj 0x0052).applyRecess v = .ok ((s.taken src blockObj 0x0052).setVal blockObj 0x0052 0 v) :=
      if_neg (by rw [State.val_taken]; omega)
    obtain ⟨t, hexec, hlast, hvals, -⟩ := exec_canWrite (c := .recessWrite src v) rfl hadm fun _ => happly
    exact ⟨t, hexec, (State.val_of_values hvals ..).trans (State.val_setVal_same ..), hlast⟩
  · refine exec_period (c := .travPeriodWrite (h.one blockObj 0x0050 (u16 v))) (fun hp => congrArg Host.Outcome.next (if_pos ?_))
      (d := 10) (by decide) rfl hlo hhi (by decide) ?_ ha
    · exact Bool.and_eq_true_iff.mpr ⟨hp, rfl⟩
    · unfold State.rwsStateOk itemEl
      rw [Bool.or_eq_true]
      refine .inr (decide_eq_true ?_)
      dsimp only
      rw [Nat.zero_mul, List.drop_zero, List.take_of_length_le (by rw [u16, beBytes_length]), ofBytes_u16 (by omega)]
      exact hrecess
  · refine exec_period (c := .slowPeriodWrite (h.one blockObj 0x0053 (u16 v))) (fun hp => congrArg Host.Outcome.next (if_pos ?_))
      (d := 1000) (by decide) rfl hlo hhi (by decide) rfl ha
    exact Bool.and_eq_true_iff.mpr ⟨hp, rfl⟩

/-! ## The obligation -/

/-- An RW item of the block that only holds its value is applied (14 R397). -/
theorem State.applyOne_balDomain (s : State) (r : SealedReq) {v : Nat} (hv : v ≤ 1) :
    s.applyOne r ⟨blockObj, 0x0061, u8 v⟩ = .ok (s.setVal blockObj 0x0061 0 v) := by
  match v, hv with
  | 0, _ => rfl
  | 1, _ => rfl

/-- Settles O38: requests applied whole, refused with an item's number, or handed to the belay logic as records. -/
theorem sealedItems : Obligations.SealedItems := by
  intro s
  refine ⟨fun r u ha hplain hu => ?_, fun h index sub data e he hk hn hrws hrange hstate ha => ?_, fun r ha hne hall => ?_, fun r ha hne hall => ?_,
    fun h v k hk hv ha => ?_, fun r e ha hplain he => ?_, fun r u ha hany hu => ?_, fun r u ha hany hu => ?_⟩
  · obtain ⟨t, hexec, hdone⟩ := exec_items (c := .sealedItemsRequest r) (congrArg Host.Outcome.next (if_pos (by rw [hplain]; rfl))) ha hu
    exact ⟨t, hexec, hdone.values, hdone.result, hdone.reply, hdone.last⟩
  · exact exec_rwsItem (fun hp => congrArg Host.Outcome.next (if_pos (by rw [hp]; rfl))) he hk hn hrws hrange hstate ha
  · obtain ⟨i, hi⟩ := List.exists_mem_of_ne_nil _ hne
    refine exec_forward (c := .sealedEnvelopeRequest r) (congrArg Host.Outcome.next (if_pos ?_)) ha (applyItems_records ha fun i hi => ?_)
    · rw [ha.format, List.any_eq_true.mpr ⟨i, hi, (hall i hi).1⟩]
      rfl
    · obtain ⟨henv, hcheck, hstate⟩ := hall i hi
      refine ⟨by unfold isBelayItem; rw [henv]; rfl, hcheck, ?_⟩
      unfold State.belayItemCheck
      rw [if_pos henv, if_pos hstate]
  · obtain ⟨i, hi⟩ := List.exists_mem_of_ne_nil _ hne
    refine exec_forward (c := .sealedSafetyIoRequest r) (congrArg Host.Outcome.next (if_pos ?_)) ha (applyItems_records ha fun i hi => ?_)
    · rw [ha.format, List.any_eq_true.mpr ⟨i, hi, (hall i hi).1⟩]
      rfl
    · obtain ⟨hio, hcheck, hstate⟩ := hall i hi
      exact ⟨by unfold isBelayItem; rw [hio, Bool.or_true], hcheck, hstate⟩
  · obtain ⟨t, hexec, hdone⟩ := exec_items (c := .sealedItemsRequest (h.one blockObj 0x0061 (u8 v)))
      (u := (s.verified (h.one blockObj 0x0061 (u8 v))).setVal blockObj 0x0061 0 v)
      (congrArg Host.Outcome.next (if_pos (by rw [isPlainRequest_one ha.format rfl rfl (by decide)]; rfl))) ha (by
        change applyItems _ [(⟨blockObj, 0x0061, u8 v⟩, 0)] _ = _
        unfold applyItems
        rw [State.applyOne_balDomain _ _ hv]
        rfl)
    refine ⟨t, hexec, (State.val_of_values hdone.values ..).trans (State.val_setVal_same ..), hdone.result, ?_, ?_⟩
    · rw [hdone.slots]
      change (s.verified (h.one blockObj 0x0061 (u8 v))).seng.slots[k].counter = h.counter
      rw [s.verified_seng ha.slot, upd_get, if_pos (Fin.ext hk.symm)]
      rfl
    · rw [hdone.last (fun i hi => by rw [List.mem_singleton.mp hi]; exact fun hx => absurd (show blockObj = ethObj from hx.1) (by decide)), ha.one_length, u8, beBytes_length]
      rfl
  · have hc : exec (.sealedItemsRequest r) s = .next (s.unlessSwapping (.sealedItemsRequest r) fun s => s.sealedVia r fun s => s.applyRequest r) :=
      congrArg Host.Outcome.next (if_pos (by rw [hplain]; rfl))
    have hact : (s.verified r).applyRequest r = .refused e.1 e.2.2 ((s.verified r).itemRefused r e.2.1) := by
      unfold State.applyRequest
      rw [he]
    rw [holding_false ha.1, sealedVia_eq ha, hact] at hc
    exact ⟨_, hc, State.refuseSealed_answers ..⟩
  · exact exec_forward (c := .sealedEnvelopeRequest r) (congrArg Host.Outcome.next (if_pos (by rw [ha.format, hany]; rfl))) ha hu
  · exact exec_forward (c := .sealedSafetyIoRequest r) (congrArg Host.Outcome.next (if_pos (by rw [ha.format, hany]; rfl))) ha hu

end Sys2Proof.Machine

/-!
The trust list (O39) and firmware transfer (O40).
-/

namespace Sys2Proof.Machine

-- One thread per theorem would be more than the compiler's memory limit allows.
set_option Elab.async false

/-! ## The trust list -/

/-- Refutes O39: with the blocks of the configuration copies worn out (`PARTS_STOPPED` bit 4) no copy is written, and the generation stays. -/
theorem not_trustList : ¬ Obligations.TrustList := by
  intro h
  obtain ⟨-, -, hstored, -⟩ := h { State.reset with
    seng := { State.reset.seng with storePending := 1 }, health := { State.reset.health with stoppedParts := 16 } }
  obtain ⟨t, hexec, -, -, -, hgen⟩ := hstored (by decide)
  have ht : t = { State.reset with
      seng := { State.reset.seng with storePending := 0, storedCounters := State.reset.seng.slots.map TrustSlot.counter }
      health := { State.reset.health with stoppedParts := 16 } } := (Host.Outcome.next.inj hexec).symm
  rw [ht] at hgen
  exact absurd hgen (by decide)

/-! ## Firmware transfer -/

/-- A refused request keeps the rest of the seal engine. -/
theorem State.refuseSealed_seng (s : State) (r : SealedReq) (a : Abort) (item : Nat) :
    ∃ seen result, (s.refuseSealed r a item).seng = { s.seng with seen := seen, result := result } := by
  unfold State.refuseSealed State.abort
  simp only [Bool.false_eq_true, if_false]
  rw [State.send_seng, State.modDict_seng, State.closeSubmitted_seng, State.modSeng_seng, State.event_seng]
  exact ⟨_, _, rfl⟩

/-- A one-item request whose value has its entry's length and range passes the checks of 14 R397. -/
theorem State.firstBad_verified {s : State} {h : SealHead} {index sub : Nat} {data : List Byte} {e : EntryRow}
    (ha : s.admitsSealed (h.one index sub data)) (he : entryOf index sub = some e) (hl : s.lengthOk e index sub data = true)
    (hr : e.rangeOk data = true) : (s.verified (h.one index sub data)).firstBad [⟨index, sub, data⟩] = none :=
  State.firstBad_one he (by rw [State.lengthOk_of (s.verified_fw ha.slot)]; exact hl) hr

theorem State.fwTarget_of_start {s t : State} (h : t.start = s.start) : t.fwTarget = s.fwTarget := by
  unfold State.fwTarget State.runningImage
  rw [h]

theorem State.commitImage_ok {s : State} {k : Fin 2} (hk : s.fwTarget = k) (generation version : Nat) :
    (s.commitImage true generation version).seng = { s.seng with fw := none, fwStatus := 2 } ∧
    (s.commitImage true generation version).start.images[k] = ⟨generation, false, true⟩ := by
  subst hk
  unfold State.commitImage
  dsimp only
  rw [if_pos rfl, State.event_seng, State.event_start]
  exact ⟨rfl, Vector.getElem_set_self _⟩

theorem State.commitImage_bad {s : State} {k : Fin 2} (hk : s.fwTarget = k) (generation version : Nat) :
    (s.commitImage false generation version).seng = { s.seng with fw := none, fwStatus := 3 } ∧
    (s.commitImage false generation version).start.images[k].verifies = false := by
  subst hk
  unfold State.commitImage
  dsimp only
  rw [if_neg Bool.false_ne_true, State.event_seng, State.event_start]
  exact ⟨rfl, congrArg Image.verifies (upd_get_same ..)⟩

/-- An admitted sealed request that firmware applies, with the seal engine as it leaves it. -/
theorem exec_sealedApplied {c : Instr} {s v : State} {r : SealedReq} {act : State → SealEnd}
    (hc : exec c s = .next (s.unlessSwapping c fun s => s.sealedVia r act)) (h : s.admitsSealed r) (hv : act (s.verified r) = .applied v) :
    exec c s = .next (v.answerSealed r) := by
  rw [holding_false h.1, sealedVia_eq h, hv] at hc
  exact hc

/-- An admitted sealed request that firmware refuses. -/
theorem exec_sealedRefused {c : Instr} {s v : State} {r : SealedReq} {act : State → SealEnd} {a : Abort} {item : Nat}
    (hc : exec c s = .next (s.unlessSwapping c fun s => s.sealedVia r act)) (h : s.admitsSealed r) (hv : act (s.verified r) = .refused a item v) :
    exec c s = .next (v.refuseSealed r a item) := by
  rw [holding_false h.1, sealedVia_eq h, hv] at hc
  exact hc

/-- The opening of a session, and what firmware makes of a commit (14 R401). -/
def State.openFw (s : State) (src : Src) (v : Nat) : State :=
  (s.modSeng fun g => { g with fw := some ⟨src, v, [], s.now⟩, fwStatus := 1 }).event 0x9018 0x1E00 0 (u32 v)

theorem exec_fwOpen {s : State} {h : SealHead} {v : Nat} (ha : s.admitsSealed (h.one 0x1E00 0x30 (u32 v)))
    (hbad : (s.verified (h.one 0x1E00 0x30 (u32 v))).firstBad (h.one 0x1E00 0x30 (u32 v)).items = none) :
    exec (.fwOpen h v) s = .next (((s.verified (h.one 0x1E00 0x30 (u32 v))).openFw h.src v).answerSealed (h.one 0x1E00 0x30 (u32 v))) := by
  refine exec_sealedApplied rfl ha ?_
  rw [hbad]
  rfl

theorem exec_fwCommit {s : State} {h : SealHead} {digest : List Byte} {header : Bool} {generation version : Nat} {f : FwSession}
    (ha : s.admitsSealed (h.one 0x1E00 0x32 digest)) (hbad : (s.verified (h.one 0x1E00 0x32 digest)).firstBad (h.one 0x1E00 0x32 digest).items = none)
    (hf : (s.verified (h.one 0x1E00 0x32 digest)).seng.fw = some f) : exec (.fwCommit h digest header generation version) s = .next
      (if (sha512 f.written = digest && header && decide (f.written.length = f.length)) = true then
        ((s.verified (h.one 0x1E00 0x32 digest)).commitImage true generation version).answerSealed (h.one 0x1E00 0x32 digest)
      else ((s.verified (h.one 0x1E00 0x32 digest)).commitImage false generation version).refuseSealed (h.one 0x1E00 0x32 digest) .signature 0) := by
  by_cases hok : (sha512 f.written = digest && header && decide (f.written.length = f.length)) = true
  · rw [if_pos hok]
    refine exec_sealedApplied rfl ha ?_
    rw [hbad, hf]
    exact if_pos hok
  · rw [if_neg hok]
    refine exec_sealedRefused rfl ha ?_
    rw [hbad, hf]
    exact if_neg hok

/-- Settles O40: a transfer opened, committed, refused, or ended by time. -/
theorem firmwareTransfer : Obligations.FirmwareTransfer := by
  intro s
  refine ⟨fun h v hlo hhi ha => ?_, fun h digest header generation version f hlen hf ha => ?_, fun f hf hserves hdue => ?_⟩
  · have hbad := State.firstBad_verified (e := ⟨0x1E00, 1, 0x0030, 1, 4, 1, .num, false, .xs, [(1, 16777216)], [0]⟩) ha (by decide)
      (by simp [State.lengthOk, EntryRow.size, u32, beBytes_length]) (EntryRow.rangeOk_number rfl rfl rfl (Nat.succ_pos 3) (beBytes_length 4 v) (by
        rw [ofBytes_u32 (by omega)]
        exact ⟨Int.ofNat_le.mpr hlo, Int.ofNat_le.mpr hhi⟩))
    refine ⟨_, exec_fwOpen ha hbad, ?_, ?_, ?_⟩
    · rw [State.answerSealed_seng, State.openFw, State.event_seng, State.verified_now]
      rfl
    · rw [State.answerSealed_seng, State.openFw, State.event_seng]
      rfl
    · rw [lastSent_answerSealed, ha.one_length, u32, beBytes_length]
      rfl
  · have hbad := State.firstBad_verified (e := ⟨0x1E00, 1, 0x0032, 1, 1, 64, .blob, false, .xs, [(0, 255)], [0]⟩) ha (by decide)
      (by simp [State.lengthOk, EntryRow.size, hlen]) rfl
    have htarget : (s.verified (h.one 0x1E00 0x32 digest)).fwTarget = s.fwTarget := State.fwTarget_of_start (State.verified_start ..)
    obtain ⟨hseng, himage⟩ := State.commitImage_ok htarget generation version
    obtain ⟨hseng', himage'⟩ := State.commitImage_bad htarget generation version
    refine ⟨_, exec_fwCommit ha hbad ((s.verified_fw ha.slot).trans hf), ?_, fun hd hh hl => ?_, fun hno => ?_⟩
    · split
      · rw [State.answerSealed_seng, hseng]
      · obtain ⟨seen, result, hrefused⟩ :=
          ((s.verified (h.one 0x1E00 0x32 digest)).commitImage false generation version).refuseSealed_seng (h.one 0x1E00 0x32 digest) .signature 0
        rw [hrefused, hseng']
    · rw [if_pos (by simp [hd, hh, hl]), State.answerSealed_seng, hseng, lastSent_answerSealed, ha.one_length, hlen,
        same_of_blank (p := .start) (State.answerSealed_in (m := sealParts) rfl rfl rfl rfl rfl rfl _ _) rfl, himage]
      exact ⟨rfl, rfl, rfl⟩
    · obtain ⟨seen, result, hrefused⟩ :=
        ((s.verified (h.one 0x1E00 0x32 digest)).commitImage false generation version).refuseSealed_seng (h.one 0x1E00 0x32 digest) .signature 0
      rw [if_neg, hrefused, hseng', same_of_blank (p := .start) (State.refuseSealed_in (m := sealParts) rfl rfl rfl rfl rfl rfl _ _ _ _ _ _) rfl, himage',
        (State.refuseSealed_answers ..).1]
      · exact ⟨rfl, rfl, rfl⟩
      · simp only [Bool.and_eq_true, decide_eq_true_eq]
        rintro ⟨⟨hd, hh⟩, hl⟩
        rcases hno with h1 | h1 | h1
        · exact h1 hd
        · exact absurd (h1.symm.trans hh) (by decide)
        · exact h1 hl
  · change execFwSessionTimeout s = _
    unfold execFwSessionTimeout
    rw [hf]
    dsimp only
    rw [if_pos (by simp [hserves, hdue])]

end Sys2Proof.Machine

/-!
The dictionary's traffic (14 R381 to R388, R402, R403, 17 R448, R458): the first and the later answers of a read, a write of the source
bits that one tick can leave standing, transfers that end by time, and the partners' heartbeats.
-/

namespace Sys2Proof.Machine

-- One thread per theorem would be more than the compiler's memory limit allows.
set_option Elab.async false

/-! ## Open transfers -/

/-- A partner whose transfer ends has none open: it never had two (R387). -/
theorem State.transferOf_dropTransfer (s : State) (src : Src) : (s.dropTransfer src).transferOf src = none := by
  simp only [State.transferOf, State.dropTransfer, State.modDict_dict, List.find?_eq_none, List.mem_filter, decide_eq_true_eq, and_imp]
  exact fun _ _ hne => hne

/-- A read whose copy one message carries whole leaves no transfer open. -/
theorem State.transferOf_sendChunk_whole (s : State) (src : Src) (index sub : Nat) {copy : List Byte}
    (h : copy.length ≤ chunkSize src.iface copy.length) : (s.sendChunk src index sub 0 copy).transferOf src = none := by
  have hall : ¬ 0 + ((copy.drop 0).take (chunkSize src.iface copy.length)).length < copy.length := by
    simp only [List.drop_zero, List.length_take, Nat.zero_add]
    omega
  simp only [State.sendChunk, if_neg hall, State.transferOf_dropTransfer]

/-! ## Reads -/

/-- A read of a value firmware builds is an offset-0 read of its entry, answered with the first bytes of the copy. -/
theorem State.lastSent_readVia {s : State} {src : Src} {index sub : Nat} {c : State × List Byte}
    (hserve : s.service src false index sub [] = .serve) (hcopy : (s.newRequest src).readCopy src index sub = .ok c) :
    (s.readVia src index sub 0).lastSent =
      some (.readReply src index sub c.2.length 0 (c.2.take (chunkSize src.iface c.2.length))) := by
  rw [State.readVia_start hserve, State.startRead_of_copy hcopy, State.lastSent_sendChunk, List.drop_zero]

/-- A partner's `REC_WINDOW` is the window at its cursor (17 R448). -/
theorem State.readCopy_recWindow {s : State} {src : Src} {k : Fin 64} (h : s.partnerAt src = some k) :
    s.readCopy src 0x1C00 8 = .ok (s.readWindow k) := by
  obtain ⟨r, hrow⟩ : ∃ r, entryOf 0x1C00 8 = some r := Option.isSome_iff_exists.mp (by decide)
  simp only [State.readCopy, hrow, h, and_self, if_true]

/-- A partner's `HIST_READ` is the header and the string part its selection names (17 R458). -/
theorem State.readCopy_histRead {s : State} {src : Src} {k : Fin 64} {x : HistSet × Fin 40} (h : s.partnerAt src = some k)
    (hset : s.selectedSet s.dict.partners[k].histSelect = some x) : s.readCopy src 0x1C01 0xB = .ok (s, x.1.header ++ x.1.part x.2) := by
  obtain ⟨r, hrow⟩ : ∃ r, entryOf 0x1C01 0xB = some r := Option.isSome_iff_exists.mp (by decide)
  have hwindow : ¬ ((0x1C01 : Nat) = 0x1C00 ∧ (0xB : Nat) = 0x0008) := by decide
  simp only [State.readCopy, hrow, if_neg hwindow, and_self, if_true, h, hset]

/-- The history sets are not the receiver's to change. -/
theorem State.selectedSet_newRequest (s : State) (src : Src) (sel : Nat) : (s.newRequest src).selectedSet sel = s.selectedSet sel := by
  have hstore : (s.newRequest src).store = s.store :=
    same_of_blank (p := .store) (State.newRequest_in (m := only [.eths, .irq, .dict, .evlog]) rfl rfl rfl rfl s src) rfl
  simp only [State.selectedSet, hstore]

/-- Settles O35: an offset-0 read answers from the copy it takes, a later one from its transfer's copy; the window and the history are
offset-0 reads of their entries. -/
theorem reads : Obligations.Reads := by
  intro s src hhold
  refine ⟨fun index sub raw v c hbrings hserve hcopy => ?first, fun index sub offset raw v tr hbrings hoffset hserve htr hread hindex hsub
    hnext => ?later, fun k c hserve hpartner hc => ?window, fun k x b hserve hpartner hset hb => ?history⟩
  case first =>
    refine ⟨_, exec_read_of_brings hhold hbrings, State.lastSent_readVia hserve hcopy, fun hfits => ?_⟩
    rw [State.readVia_start hserve, State.startRead_of_copy hcopy, State.transferOf_sendChunk_whole _ _ _ _ hfits]
  case later =>
    subst hindex hsub hnext
    refine ⟨_, exec_read_of_brings hhold hbrings, ?_⟩
    rw [State.readVia_continue hserve hoffset, State.continueRead_next htr hread, State.lastSent_sendChunk]
  case window =>
    subst hc
    exact ⟨_, congrArg Host.Outcome.next (holding_false (c := .recWindow src) hhold),
      State.lastSent_readVia hserve (State.readCopy_recWindow hpartner)⟩
  case history =>
    subst hb
    have hcopy := State.readCopy_histRead hpartner ((s.selectedSet_newRequest src _).trans hset)
    exact ⟨_, congrArg Host.Outcome.next (holding_false (c := .histRead src) hhold), State.lastSent_readVia hserve hcopy⟩

/-! ## Writes -/

/-- Firmware runs, and a source bit of the supply is set in this very tick. -/
def State.seenThisTick : State :=
  { State.reset with start := { Start.reset with fw := .running }, supply := { Supply.reset with seen := 1 } }

/-- The service port may write the source bits in that state. -/
theorem State.seenThisTick_admits : State.seenThisTick.admits ⟨5, 0⟩ blockObj 0x0043 (u16 1) := by
  obtain ⟨r, hrow⟩ : ∃ r, entryOf blockObj 0x0043 = some r := Option.isSome_iff_exists.mp (by decide)
  have hcheck : ∀ e ∈ entryOf blockObj 0x0043,
      (State.seenThisTick.taken ⟨5, 0⟩ blockObj 0x0043).writeCheck ⟨5, 0⟩ blockObj 0x0043 (u16 1) = .ok e := by decide +kernel
  exact ⟨by decide, by decide, by decide, by decide, by decide, r, hcheck r hrow⟩

/-- Refutes O36: a write of 1 to a source bit set in the same tick leaves it set, where the statement has it cleared whatever the tick. -/
theorem not_writes : ¬ Obligations.Writes := by
  intro h
  obtain ⟨t, hexec, hsupply⟩ := (h State.seenThisTick ⟨5, 0⟩).2.1 (u16 1) State.seenThisTick_admits
  obtain ⟨u, hu, hstays⟩ : ∃ u, exec (.registerWrite ⟨5, 0⟩ blockObj 0x0043 (u16 1)) State.seenThisTick = .next u ∧ u.supply.seen = 1 :=
    ⟨_, rfl, by decide +kernel⟩
  obtain rfl : t = u := Host.Outcome.next.inj (hexec.symm.trans hu)
  rw [hsupply] at hstays
  exact absurd hstays (by decide)

/-! ## Partners -/

/-- What a message leaves of a partner's entry: its place in the table and its announced period stand. -/
theorem State.modPartner_partners (s : State) (k : Fin 64) (f : Partner → Partner) :
    (s.modPartner k f).dict.partners = upd s.dict.partners k f := rfl

theorem State.partnerAt_of_partners {s t : State} (h : t.dict.partners = s.dict.partners) (src : Src) : t.partnerAt src = s.partnerAt src := by
  simp only [State.partnerAt, h]

/-- A change that keeps who the partners are keeps where they stand. -/
theorem State.partnerAt_modPartner (s : State) (k : Fin 64) {f : Partner → Partner}
    (hf : ∀ p, (f p).present = p.present ∧ (f p).iface = p.iface ∧ (f p).addr = p.addr) (src : Src) :
    (s.modPartner k f).partnerAt src = s.partnerAt src := by
  unfold State.partnerAt
  congr 1
  funext j
  by_cases hj : k = j
  · subst hj
    obtain ⟨hpresent, hiface, haddr⟩ := hf s.dict.partners[k]
    simp only [State.modPartner_partners, upd_get, if_true, hpresent, hiface, haddr]
  · simp only [State.modPartner_partners, upd_get, if_neg hj]

/-- A partner's entry with the times of a message heard from it. -/
def Partner.heard (p : Partner) (utc now : Nat) : Partner := { p with last := utc, lastMsg := now }

/-- A message of a partner in the table moves its last-seen times (R402). -/
theorem State.notePartner_partners {s : State} {src : Src} {k : Fin 64} (h : s.partnerAt src = some k) :
    (s.notePartner src).dict.partners = upd s.dict.partners k (·.heard s.utc s.now) ∧ (s.notePartner src).dict.vals = s.dict.vals := by
  simp only [State.notePartner, h]
  exact ⟨rfl, rfl⟩

theorem State.receive_partners {s : State} {src : Src} {k : Fin 64} (h : s.partnerAt src = some k) :
    ∃ utc, (s.receive src).dict.partners = upd s.dict.partners k (·.heard utc s.now) ∧ (s.receive src).dict.vals = s.dict.vals := by
  have hport : ∀ t : State, t.dict = s.dict → t.now = s.now →
      ∃ utc, (t.notePartner src).dict.partners = upd s.dict.partners k (·.heard utc s.now) ∧ (t.notePartner src).dict.vals = s.dict.vals := by
    intro t hdict hnow
    rw [← hdict, ← hnow]
    exact ⟨_, State.notePartner_partners ((State.partnerAt_of_partners (by rw [hdict]) src).trans h)⟩
  unfold State.receive
  dsimp only
  apply hport
  · rw [State.irqRaise_dict]
    split
    · simp only [State.modEth_dict, State.ethIn, State.irqRaise_dict]
    · rfl
  · rw [State.irqRaise_now]
    split
    · simp only [State.modEth_now, State.ethIn, State.irqRaise_now]
    · rfl

/-- The bytes of a message change nothing but what its receiver counts and keeps, and the partner's `TAG`. -/
theorem State.brings_keeps {s v : State} {src : Src} {raw : List Byte} {is : WireMessage → Bool} (h : s.brings src raw is v) :
    v.blank (only [.dict]) = s.blank (only [.dict]) ∧ v.dict.partners = s.dict.partners ∧ v.dict.vals = s.dict.vals := by
  rcases h with ⟨-, rfl⟩ | ⟨-, u, m, hwire, -, rfl⟩
  · exact ⟨rfl, rfl, rfl⟩
  · have hu : u = (s.receiveWire src raw).1 := by rw [hwire]
    subst hu
    refine ⟨?_, ?_⟩
    · rw [State.setTag_in (m := only [.dict]) rfl, State.receiveWire_in (m := only [.dict]) rfl]
    · change (s.receiveWire src raw).1.dict.partners = _ ∧ (s.receiveWire src raw).1.dict.vals = _
      unfold State.receiveWire
      dsimp only
      split
      · exact ⟨rfl, rfl⟩
      · split <;> exact ⟨rfl, rfl⟩

/-- The state a heartbeat is taken in: received, and the partner's transfer kept from its timeout (R387). -/
def State.heardFrom (s : State) (src : Src) : State :=
  (s.receive src).modDict fun d => { d with transfers := d.transfers.map fun x => if x.src = src then { x with at_ := s.now } else x }

theorem State.heardFrom_partners {s : State} {src : Src} {k : Fin 64} (h : s.partnerAt src = some k) :
    ∃ utc, (s.heardFrom src).dict.partners = upd s.dict.partners k (·.heard utc s.now) ∧ (s.heardFrom src).dict.vals = s.dict.vals :=
  State.receive_partners h

theorem State.partnerAt_heardFrom {s : State} {src : Src} {k : Fin 64} (h : s.partnerAt src = some k) :
    (s.heardFrom src).partnerAt src = some k := by
  obtain ⟨utc, hpartners, -⟩ := State.heardFrom_partners h
  rw [State.partnerAt_of_partners (t := s.heardFrom src) (s := s.modPartner k (·.heard utc s.now)) hpartners,
    State.partnerAt_modPartner s k (f := (·.heard utc s.now)) (fun _ => ⟨rfl, rfl, rfl⟩), h]

theorem State.lastMsg_heardFrom {s : State} {src : Src} {k : Fin 64} (h : s.partnerAt src = some k) :
    (s.heardFrom src).dict.partners[k].lastMsg = s.now := by
  obtain ⟨utc, hpartners, -⟩ := State.heardFrom_partners h
  rw [hpartners, upd_get, if_pos rfl, Partner.heard]

/-- The mode is not the receiver's to change. -/
theorem State.heardFrom_mode (s : State) (src : Src) : (s.heardFrom src).mode = s.mode := by
  refine same_of_blank (p := .mode) (m := only [.eths, .irq, .dict, .evlog]) ?_ rfl
  rw [State.heardFrom, State.modDict_in (m := only [.eths, .irq, .dict, .evlog]) rfl,
    State.receive_in (m := only [.eths, .irq, .dict, .evlog]) rfl rfl rfl rfl]
  rfl

/-- A heartbeat within R403's range announces its period to the partner's entry, and over UDP is answered. -/
theorem State.takeHeartbeat_partner {s : State} {src : Src} {period : Nat} {k : Fin 64} (hserve : s.service src false 0 0 [] = .serve)
    (hat : s.partnerAt src = some k) (hlo : 50 ≤ period) (hhi : period ≤ 10000) :
    s.takeHeartbeat src period =
      let u := (s.heardFrom src).modPartner k fun p => { p with hbState := 1, period := period, lastHb := s.now }
      if (ethOf src.iface).isSome then u.send (.heartbeatReply src u.mode.block.code (u.val 0x1E01 0x0041)) else u := by
  have hheard := State.partnerAt_heardFrom hat
  unfold State.heardFrom at hheard
  simp only [State.takeHeartbeat, hserve, ne_eq, not_true_eq_false, if_false, hheard, hlo, hhi, and_self, if_true]
  rfl

/-- The transmit side changes of the dictionary what is sent alone. -/
theorem State.send_dict (s : State) (m : Message) :
    (s.send m).dict = { s.dict with sent := s.dict.sent ++ [m], wire := s.dict.wire ++ s.wireBytes m } := by
  unfold State.send
  dsimp only
  split
  · simp only [State.irqRaise_dict, State.modEth_dict, State.modDict_dict]
  · split <;> simp only [State.modCan_dict, State.modDict_dict]

/-- A partner late or lost is entered so in its own entry, and no other's (R403). -/
theorem State.partnerLeaves_partners (s : State) (k : Fin 64) (src : Src) :
    (s.partnerLeaves k src).dict.partners = upd s.dict.partners k fun p => { p with present := false } := by
  simp only [State.partnerLeaves, State.event_dict, State.modPartner_partners]

/-- A partner not heard for three of its periods leaves the table as lost, late before or not. -/
theorem exec_partnerLost {s : State} {src : Src} {k : Fin 64} (hat : s.partnerAt src = some k) (hacts : s.fwActs = true)
    (hperiod : s.dict.partners[k].period ≠ 0) (hlost : 3 * ms s.dict.partners[k].period ≤ s.now - s.dict.partners[k].lastHb) :
    ∃ t : State, (∀ j : Fin 64, j ≠ k → t.dict.partners[j] = s.dict.partners[j]) ∧ exec (.partnerHeartbeatTimeout src) s =
      .next (((t.modPartner k fun p => { p with hbState := 3 }).event 0x9023 0x1E01 (k.val + 1)
        (u8 src.iface.val ++ u32 src.addr)).partnerLeaves k src) := by
  let late : State := (s.modPartner k fun p => { p with hbState := 2 }).event 0x9022 0x1E01 (k.val + 1) (u8 src.iface.val ++ u32 src.addr)
  have hlate : ∀ j : Fin 64, j ≠ k → late.dict.partners[j] = s.dict.partners[j] := fun j hj => by
    simp only [late, State.event_dict, State.modPartner_partners, upd_get_other _ _ hj.symm]
  let t := if s.dict.partners[k].hbState = 1 && decide (3 * ms s.dict.partners[k].period ≤ 2 * (s.now - s.dict.partners[k].lastHb)) then late
    else s
  refine ⟨t, fun j hj => ?_, ?_⟩
  · unfold t
    split
    · exact hlate j hj
    · rfl
  · change execPartnerHeartbeatTimeout src s = _
    simp only [execPartnerHeartbeatTimeout, hat, hacts, Bool.not_true, Bool.false_or, decide_eq_true_eq, hperiod, if_false, if_pos hlost]
    rfl

/-- The device's heartbeats sent on every controller that carries them (R403). -/
def State.sendsBeats (s : State) : State :=
  (s.modDict fun d => { d with hbAt := s.now }).forEach ((List.finRange 3).filter s.canBeats) fun t k =>
    t.send (.heartbeat (ifaceOfCan k) t.mode.block.code (s.val 0x1E01 0x0041))

theorem exec_deviceHeartbeatSend {s : State} (hacts : s.fwActs = true) (hperiod : s.val 0x1E01 0x0041 ≠ 0) (hcamp : s.mode.block ≠ .baseCamp)
    (hdue : s.dict.hbAt + ms (s.val 0x1E01 0x0041) ≤ s.now) : exec .deviceHeartbeatSend s = .next s.sendsBeats := by
  change execDeviceHeartbeatSend s = _
  unfold execDeviceHeartbeatSend
  dsimp only
  rw [if_pos (by simp only [hacts, hperiod, hcamp, hdue, ne_eq, not_false_eq_true, decide_true, Bool.and_self])]
  rfl

/-- Heartbeats sent one after another stand behind what was sent before, in the controllers' order. -/
theorem State.forEach_sends_beats (ks : List (Fin 3)) (period : Nat) (s : State) :
    (s.forEach ks fun t k => t.send (.heartbeat (ifaceOfCan k) t.mode.block.code period)).dict.sent =
        s.dict.sent ++ ks.map (fun k => .heartbeat (ifaceOfCan k) s.mode.block.code period) ∧
      (s.forEach ks fun t k => t.send (.heartbeat (ifaceOfCan k) t.mode.block.code period)).dict.hbAt = s.dict.hbAt := by
  induction ks generalizing s with
  | nil => exact ⟨(List.append_nil _).symm, rfl⟩
  | cons k ks ih =>
    obtain ⟨hsent, hat⟩ := ih (s.send (.heartbeat (ifaceOfCan k) s.mode.block.code period))
    refine ⟨hsent.trans ?_, hat.trans (by rw [State.send_dict])⟩
    rw [State.send_sent, State.send_mode, List.append_assoc, List.singleton_append, List.map_cons]

theorem State.sendsBeats_sent (s : State) :
    s.sendsBeats.dict.sent = s.dict.sent ++ ((List.finRange 3).filter fun k => s.canBeats k).map
      (fun k => .heartbeat (ifaceOfCan k) s.mode.block.code (s.val 0x1E01 0x0041)) ∧ s.sendsBeats.dict.hbAt = s.now :=
  State.forEach_sends_beats _ _ _

/-- Settles O37: a transfer that is late, a heartbeat, and a partner that is late, lost or forgotten each change their own entry. -/
theorem partners : Obligations.Partners := by
  intro s src
  refine ⟨fun tr htr hserves hlate => ?timeout, fun state period k raw v hhold hbrings hserve hat hlo hhi => ?heartbeat,
    fun k hat hacts hperiod => ⟨fun hlost => ?lost, fun hstate hlate hnot => ?late⟩, fun k hat hacts hperiod hold => ?aged,
    fun hacts hperiod hcamp hdue => ?beat⟩
  case timeout =>
    have hexec : exec (.transferTimeout src) s = .next ((s.dropTransfer src).abort src tr.index tr.sub (abortWord .timeout)) := by
      change execTransferTimeout src s = _
      simp only [execTransferTimeout, htr, hserves, hlate, decide_true, Bool.and_self, if_true]
    refine ⟨_, hexec, ?_, ?_, ?_⟩
    · have htransfers : ((s.dropTransfer src).abort src tr.index tr.sub (abortWord .timeout)).dict.transfers = (s.dropTransfer src).dict.transfers := by
        simp only [State.abort, State.send_dict, State.modDict_dict]
      rw [State.transferOf_of_transfers htransfers, State.transferOf_dropTransfer]
    · simp only [State.abort, State.lastSent, State.send_sent, List.getLast?_append, List.getLast?_singleton, Option.some_or]
    · simp only [State.abort, State.send_dict]
      rfl
  case heartbeat =>
    obtain ⟨hblank, hpartners, hvals⟩ := State.brings_keeps hbrings
    have hnow : v.now = s.now := now_of_blank hblank
    have hmode : v.mode = s.mode := same_of_blank (p := .mode) hblank rfl
    have hatV : v.partnerAt src = some k := (State.partnerAt_of_partners hpartners src).trans hat
    have hexec : exec (.heartbeat src state period raw) s = .next (v.takeHeartbeat src period) :=
      congrArg Host.Outcome.next ((holding_false (c := .heartbeat src state period raw) hhold).trans (State.whenCarried_of_brings hbrings _))
    let u := (v.heardFrom src).modPartner k fun p => { p with hbState := 1, period := period, lastHb := v.now }
    have hentry : (v.takeHeartbeat src period).dict.partners = u.dict.partners := by
      rw [State.takeHeartbeat_partner hserve hatV hlo hhi]
      dsimp only
      split
      · rw [State.send_dict]
      · rfl
    have hnew : u.dict.partners[k] = { (v.heardFrom src).dict.partners[k] with hbState := 1, period := period, lastHb := v.now } := by
      rw [State.modPartner_partners, upd_get, if_pos rfl]
    refine ⟨_, hexec, ?_, ?_, ?_, ?_, fun hudp => ?_⟩
    · rw [hentry, hnew]
    · rw [hentry, hnew]
    · rw [hentry, hnew, hnow]
    · rw [hentry, hnew, ← hnow, ← State.lastMsg_heardFrom hatV]
    · have hport : (ethOf src.iface).isSome = true := by rcases hudp with h | h <;> rw [h] <;> rfl
      obtain ⟨-, -, hvalsH⟩ := State.heardFrom_partners hatV
      have hmodeH := v.heardFrom_mode src
      have hval : u.val 0x1E01 0x0041 = s.val 0x1E01 0x0041 := State.val_of_values (hvalsH.trans hvals) _ _ _
      have hblock : u.mode.block = s.mode.block := congrArg Mode.block (hmodeH.trans hmode)
      rw [State.takeHeartbeat_partner hserve hatV hlo hhi]
      dsimp only
      rw [if_pos hport, State.lastSent, State.send_sent, List.getLast?_append, List.getLast?_singleton, Option.some_or, ← hval, ← hblock]
  case lost =>
    obtain ⟨t, ht, hexec⟩ := exec_partnerLost hat hacts hperiod hlost
    refine ⟨_, hexec, ?_⟩
    have hpartners : (((t.modPartner k fun p => { p with hbState := 3 }).event 0x9023 0x1E01 (k.val + 1)
        (u8 src.iface.val ++ u32 src.addr)).partnerLeaves k src).dict.partners =
        upd t.dict.partners k fun p => { p with hbState := 3, present := false } := by
      rw [State.partnerLeaves_partners, State.event_dict, State.modPartner_partners, upd_upd]
    rw [hpartners]
    refine ⟨by rw [upd_get, if_pos rfl], by rw [upd_get, if_pos rfl], fun j hj => ?_⟩
    rw [upd_get_other _ _ hj.symm, ht j hj]
  case late =>
    have hexec : exec (.partnerHeartbeatTimeout src) s = .next ((s.modPartner k fun p => { p with hbState := 2 }).event 0x9022 0x1E01 (k.val + 1)
        (u8 src.iface.val ++ u32 src.addr)) := by
      change execPartnerHeartbeatTimeout src s = _
      simp only [execPartnerHeartbeatTimeout, hat, hacts, Bool.not_true, Bool.false_or, decide_eq_true_eq, hperiod, if_false, hstate, hlate,
        decide_true, Bool.and_self, if_true, if_neg (Nat.not_le.mpr hnot)]
    exact ⟨_, hexec, by rw [State.event_dict, State.modPartner_partners]⟩
  case aged =>
    refine ⟨s.partnerLeaves k src, ?_, State.partnerLeaves_partners s k src⟩
    change execPartnerAgeExpiry src s = _
    simp only [execPartnerAgeExpiry, hat, hacts, hperiod, hold, decide_true, Bool.and_self, if_true]
  case beat =>
    refine ⟨s.sendsBeats, exec_deviceHeartbeatSend hacts hperiod hcamp hdue, ?_, ?_⟩
    · exact (s.sendsBeats_sent).2
    · exact (s.sendsBeats_sent).1

end Sys2Proof.Machine

/-!
The recorder (17 R440 to R450): a clear while the recorder's partition no longer writes.
-/

namespace Sys2Proof.Machine

-- One thread per theorem would be more than the compiler's memory limit allows.
set_option Elab.async false

/-- A running block whose recorder partition has stopped writing (18 R476). The key of slot 0 is the neutral element of the curve, under
which one signature stands for every message. -/
def State.recorderStopped : State :=
  { State.reset with
    evlog := { Recorder.reset with stopped := true }
    start := { Start.reset with fw := .running }
    mode := { Mode.reset with block := .standby }
    seng := { Seal.reset with slots := upd Seal.reset.slots 0 fun _ => ⟨some (0x01#8 :: List.replicate 31 0x00#8), 0, 0⟩ } }

/-- The head of a request over the service port signed under that key. -/
def SealHead.neutral : SealHead := ⟨⟨5, 0⟩, 0x5E, 1, 0, 1, 0, 0x01#8 :: List.replicate 63 0x00#8⟩

theorem State.recorderStopped_admits : State.recorderStopped.admitsSealed (SealHead.neutral.one 0x1C00 9 (u8 1)) := by
  refine ⟨?_, ?_, ?_, ?_, ?_, ?_, ?_, ?_, ?_, ?_, ?_⟩ <;> decide +kernel

/-- Refutes O41: where the recorder's partition has stopped, the clear record waits in staging, and the write record of the same tick,
of the lower code, is staged ahead of it (17 R444). -/
theorem not_recorder : ¬ Obligations.Recorder := by
  intro h
  obtain ⟨-, -, -, hclear, -⟩ := h State.recorderStopped
  obtain ⟨t, hexec, -, r, more, hrecords, hcode, -⟩ := hclear SealHead.neutral State.recorderStopped_admits
  obtain ⟨u, hu, hhead⟩ : ∃ u, exec (.recClear SealHead.neutral 1) State.recorderStopped = .next u ∧
      u.records.head?.map EventRecord.code = some 0x9008 := ⟨_, rfl, by decide +kernel⟩
  obtain rfl : t = u := Host.Outcome.next.inj (hexec.symm.trans hu)
  rw [hrecords, List.head?_cons, Option.map_some, hcode] at hhead
  exact absurd hhead (by decide)

end Sys2Proof.Machine

/-!
Device temperature (16 R426 to R434): what one reading of a sensor sets, what a round leaves of the readings it took, and the throttle.
-/

namespace Sys2Proof.Machine

-- One thread per theorem would be more than the compiler's memory limit allows.
set_option Elab.async false

/-! ## The throttle level -/

/-- A change of the level in force moves nothing else but its own latched bit. -/
theorem State.setLevel_therm (s : State) (l : Nat) : ∃ seen, (s.setLevel l).therm = { s.therm with level := l, seen := seen } := by
  unfold State.setLevel
  split
  next h => exact ⟨s.therm.seen, by rw [← h]⟩
  next => exact ⟨_, by rw [State.event_therm, State.irqRaise_therm]; rfl⟩

/-! ## A round -/

/-- `h'` is `h` after a reading of a sensor: its temperature, and its fault at once where it is out of range (R427). -/
def Thermal.Took (h h' : Thermal) (k : Fin 6) (v : Int) : Prop :=
  h'.temp = h.temp.set k v ∧ (∀ j : Fin 6, j ≠ k → h'.fault[j] = h.fault[j]) ∧ (v < -500 ∨ 1500 < v → h'.fault[k] = true) ∧
    (-500 ≤ v → v ≤ 1500 → h.fault[k] = false → h'.fault[k] = false)

theorem State.readSensor_took (s : State) (k : Fin 6) (v : Int) : s.therm.Took (s.readSensor k v).therm k v := by
  have hother (b : Bool) (j : Fin 6) (hj : j ≠ k) : (s.therm.fault.set k b)[j] = s.therm.fault[j] :=
    Vector.getElem_set_ne _ _ (fun e => hj (Fin.ext e.symm))
  by_cases hbad : v < -500 ∨ 1500 < v
  · have hb : (decide (v < -500) || decide (1500 < v)) = true := by simpa only [Bool.or_eq_true, decide_eq_true_eq] using hbad
    have hrange : -500 ≤ v → ¬ v ≤ 1500 := by omega
    unfold State.readSensor
    dsimp only
    rw [if_pos hb]
    split
    next hf => exact ⟨rfl, fun _ _ => rfl, fun _ => hf, fun h h' => absurd h' (hrange h)⟩
    next =>
      rw [State.event_therm, State.irqRaise_therm]
      exact ⟨rfl, hother true, fun _ => Vector.getElem_set_self _, fun h h' => absurd h' (hrange h)⟩
  · have hb : ¬ (decide (v < -500) || decide (1500 < v)) = true := by simpa only [Bool.or_eq_true, decide_eq_true_eq] using hbad
    unfold State.readSensor
    dsimp only
    rw [if_neg hb]
    split
    next hf =>
      split
      · exact ⟨rfl, fun _ _ => rfl, fun h => absurd h hbad, fun _ _ h => h⟩
      · rw [State.event_therm]
        exact ⟨rfl, hother false, fun h => absurd h hbad, fun _ _ _ => Vector.getElem_set_self _⟩
    next => exact ⟨rfl, fun _ _ => rfl, fun h => absurd h hbad, fun _ _ h => h⟩

/-- The converters of a round, all read. -/
def State.readSensors (s : State) (temps : Vector Int 6) : State :=
  (s.irqRaise 17).forEach (List.finRange 6) fun t k => t.readSensor k temps[k]

/-- After the readings of a round each sensor has its own (R426, R427). -/
theorem State.readSensors_therm (s : State) (temps : Vector Int 6) :
    (s.readSensors temps).therm.temp = temps ∧ ∀ k : Fin 6,
      (temps[k] < -500 ∨ 1500 < temps[k] → (s.readSensors temps).therm.fault[k] = true) ∧
      (-500 ≤ temps[k] → temps[k] ≤ 1500 → s.therm.fault[k] = false → (s.readSensors temps).therm.fault[k] = false) := by
  have htemp (k : Fin 6) : (s.readSensors temps).therm.temp[k] = temps[k] := by
    refine forEach_sets (I := fun _ => True) (P := fun t => t.therm.temp[k] = temps[k]) (i := k) (fun _ _ _ => trivial) (fun t _ => ?_)
      (fun t j hj _ ht => ?_) (List.mem_finRange k) trivial
    · rw [(t.readSensor_took k _).1]
      exact Vector.getElem_set_self _
    · rw [(t.readSensor_took j _).1]
      exact (Vector.getElem_set_ne _ _ (fun e => hj (Fin.ext e))).trans ht
  refine ⟨Vector.ext fun k hk => htemp ⟨k, hk⟩, fun k => ⟨fun hbad => ?_, fun hlo hhi hclear => ?_⟩⟩
  · refine forEach_sets (I := fun _ => True) (P := fun t => t.therm.fault[k] = true) (i := k) (fun _ _ _ => trivial) (fun t _ => ?_)
      (fun t j hj _ ht => ?_) (List.mem_finRange k) trivial
    · exact (t.readSensor_took k _).2.2.1 hbad
    · exact ((t.readSensor_took j _).2.1 k hj.symm).trans ht
  · refine forEach_keeps (P := fun t => t.therm.fault[k] = false) (fun t j ht => ?_) _ _
      ((congrArg (fun h : Thermal => h.fault[k]) (s.irqRaise_therm 17)).trans hclear)
    obtain ⟨-, hother, -, hgood⟩ := t.readSensor_took j temps[j]
    by_cases hj : k = j
    · subst hj
      exact hgood hlo hhi ht
    · exact (hother k hj).trans ht

/-- `h'` holds the readings of `h`, with the round at `now`. -/
def Thermal.Judged (h h' : Thermal) (now : Nat) : Prop := h'.temp = h.temp ∧ h'.fault = h.fault ∧ h'.roundAt = now

theorem Thermal.Judged.setLevel {h : Thermal} {t : State} {now : Nat} (ht : h.Judged t.therm now) (l : Nat) :
    h.Judged (t.setLevel l).therm now := by
  obtain ⟨seen, hseen⟩ := t.setLevel_therm l
  rw [hseen]
  exact ht

/-- A round keeps the readings it took. -/
theorem State.tempRound_judged (s : State) (temps : Vector Int 6) : (s.readSensors temps).therm.Judged (s.tempRound temps).therm s.now := by
  unfold State.tempRound
  extract_lets before read judged h evented
  have hjudged : (s.readSensors temps).therm.Judged judged.therm s.now := ⟨rfl, rfl, rfl⟩
  have hevented : (s.readSensors temps).therm.Judged evented.therm s.now := by
    unfold evented
    split
    · split
      · rw [State.event_therm, State.irqRaise_therm]
        exact hjudged
      · exact hjudged
    · exact hjudged
  clear_value evented h judged
  split
  · refine Thermal.Judged.setLevel (t := if before.level < min 4 (h.base + 1) then _ else _) ?_ _
    split
    · rw [State.event_therm, State.irqRaise_therm]
      exact hevented
    · exact hevented
  · split
    · exact hevented
    · exact Thermal.Judged.setLevel (t := evented.modTherm fun h => { h with riseAt := none }) hevented _

/-! ## The dwell -/

/-- From when the summit is below the exit threshold of the base level that the dwell has lowered. -/
def State.dwellSince (s : State) : Option Nat :=
  if (match s.therm.summit with
    | some v => s.therm.base - 1 ≠ 0 && decide (v < levelExit (s.therm.base - 1))
    | none => false) then some s.now else none

/-- Ten seconds below the exit threshold lower the base level by one, and the level in force follows it where no rise holds it up (R429). -/
theorem exec_throttleExitDwell {s : State} {a : Nat} (hruns : s.thermRuns = true) (hbase : s.therm.base ≠ 0) (hfloor : s.therm.floor < s.therm.base)
    (hbelow : s.therm.belowSince = some a) (hdwell : a + sec 10 ≤ s.now) (hrise : s.therm.riseAt = none) :
    exec .throttleExitDwell s =
      .next ((s.modTherm fun h => { h with base := s.therm.base - 1, belowSince := s.dwellSince }).setLevel (s.therm.base - 1)) := by
  change execThrottleExitDwell s = _
  unfold execThrottleExitDwell
  simp only [hruns, Bool.not_true, Bool.false_eq_true, if_false, hbelow, hrise, hbase, hfloor, hdwell, ne_eq, not_false_eq_true, decide_true,
    Bool.and_self, if_true]
  rfl

/-- Settles O44: a round keeps its readings and faults out of range at once, the dwell lowers the base by one, and `THROTTLE_SELECT` only
holds its value until the next round. -/
theorem deviceTemperature : Obligations.DeviceTemperature := by
  intro s
  refine ⟨fun temps hruns hdue => ?round, fun a hruns hbase hfloor hbelow hdwell hrise => ?dwell, fun src v ha => ?select⟩
  case round =>
    have hexec : exec (.deviceTempRound temps) s = .next (s.tempRound temps) := by
      change execDeviceTempRound temps s = _
      simp only [execDeviceTempRound, hruns, hdue, decide_true, Bool.and_self, if_true]
    obtain ⟨htemp, hfault, hround⟩ := s.tempRound_judged temps
    obtain ⟨hread, hfaults⟩ := s.readSensors_therm temps
    exact ⟨_, hexec, htemp.trans hread, hround, fun k => by rw [hfault]; exact hfaults k⟩
  case dwell =>
    obtain ⟨seen, htherm⟩ :=
      (s.modTherm fun h => { h with base := s.therm.base - 1, belowSince := s.dwellSince }).setLevel_therm (s.therm.base - 1)
    exact ⟨_, exec_throttleExitDwell hruns hbase hfloor hbelow hdwell hrise, by rw [htherm]; rfl, by rw [htherm]⟩
  case select =>
    obtain ⟨t, hexec, hsent, hvals, -⟩ := exec_canWrite (c := .throttleSelect src v) rfl ha fun _ => rfl
    obtain ⟨u, hu, -, hblank⟩ := exec_plain (c := .throttleSelect src v) rfl ha fun _ _ => rfl
    obtain rfl : t = u := Host.Outcome.next.inj (hexec.symm.trans hu)
    refine ⟨t, hexec, ?_, ?_, hsent⟩
    · rw [State.val_of_values (hvals.trans (congrArg Dict.vals (State.event_dict ..))), State.val_setVal_same]
    · rw [same_of_blank (p := .therm) hblank rfl, State.event_therm, State.setVal_therm, State.taken_therm]

end Sys2Proof.Machine

/-!
Fault counting (18 R463 to R478): what an occurrence counts, and the lasting actions of the memory, the oscillator and the ports.
-/

namespace Sys2Proof.Machine

-- One thread per theorem would be more than the compiler's memory limit allows.
set_option Elab.async false

/-! ## One occurrence -/

/-- An occurrence counts once in its class, lasting or not (R463). -/
theorem State.countFault_counts (s : State) (k : Fin 16) (item : Nat) : (s.countFault k item).1.fc.total = upd s.fc.total k sat32 := by
  unfold State.countFault
  dsimp only
  split
  · rw [State.event_fc]
    dsimp only
    split <;> rfl
  · rfl

/-- The occurrences of a class within its window once one more is counted. -/
def State.windowWith (s : State) (k item : Nat) : List Nat := (s.now :: s.inWindow k item).take 16

/-- Where a class does not become lasting its occurrence is counted and kept, and nothing else happens. -/
theorem State.occurrence_counted {s : State} {k : Fin 16} {item : Nat}
    (h : ¬ (s.fcN k.val ≤ (s.windowWith k.val item).length ∧ s.fcN k.val ≠ 0)) :
    s.occurrence k item = { s with fc := { s.fc with
      total := upd s.fc.total k sat32, lastItem := s.fc.lastItem.set k item, lastTime := s.fc.lastTime.set k s.utc,
      hist := Sparse.put s.fc.hist (fcKey k.val item) (s.windowWith k.val item) } } := by
  unfold State.windowWith at h
  unfold State.occurrence State.countFault
  dsimp only
  rw [if_neg h]
  rfl

/-- The history kept for an element is what its window then holds. -/
theorem State.inWindow_counted (s : State) (k item : Nat) :
    ((s.windowWith k item).filter fun t => decide (s.now ≤ t + sec (s.fcW k))) = s.windowWith k item := by
  rw [List.filter_eq_self]
  intro t ht
  rcases List.mem_cons.mp (List.mem_of_mem_take ht) with rfl | ht
  · exact decide_eq_true (Nat.le_add_right _ _)
  · exact (List.mem_filter.mp ht).2

/-- A class that becomes lasting takes its action in the state that has counted it (R463). -/
theorem State.occurrence_lasting {s : State} {k : Fin 16} {item : Nat} (h : s.fcN k.val ≤ (s.windowWith k.val item).length)
    (hn : s.fcN k.val ≠ 0) : s.occurrence k item = (s.countFault k item).1.lastingAction k item ∧
      (s.countFault k item).1.fc.lasting = upd s.fc.lasting k sat32 := by
  have hcount : (s.countFault k item).2 = true ∧ (s.countFault k item).1.fc.lasting = upd s.fc.lasting k sat32 := by
    unfold State.windowWith at h
    unfold State.countFault
    dsimp only
    rw [if_pos ⟨h, hn⟩, State.event_fc]
    dsimp only
    refine ⟨rfl, ?_⟩
    split <;> rfl
  obtain ⟨hlasting, htotal⟩ := hcount
  exact ⟨by simp only [State.occurrence, hlasting, if_true], htotal⟩

/-- An occurrence whose lasting action leaves a part as the count left it: what holds of the part then holds after it. -/
theorem State.occurrence_keeps {P : State → Prop} {s : State} {k : Fin 16} {item : Nat} (h : P (s.countFault k item).1)
    (haction : ∀ t, P t → P (t.lastingAction k item)) : P (s.occurrence k item) := by
  unfold State.occurrence
  dsimp only
  split
  · exact haction _ h
  · exact h

/-! ## Memory -/

/-- The parts that the count of a memory fault and its lasting action may change. -/
def memoryParts : Part → Bool := only [.fc, .health, .evlog, .irq, .dict]

theorem State.remapRow_health (s : State) (row : Nat) : (s.remapRow row).health.ecc = s.health.ecc ∧
    (s.remapRow row).health.scrubAt = s.health.scrubAt := by
  unfold State.remapRow
  split
  · have hstore (u : State) : u.storeLater.health.ecc = u.health.ecc ∧ u.storeLater.health.scrubAt = u.health.scrubAt := by
      unfold State.storeLater
      split
      · rw [same_of_blank (p := .health) (State.storeCfg_in (m := only [.dict, .irq]) rfl rfl u) rfl]
        exact ⟨rfl, rfl⟩
      · exact ⟨rfl, rfl⟩
    refine ⟨(hstore _).1.trans ?_, (hstore _).2.trans ?_⟩ <;>
    · rw [State.event_health, State.irqRaise_health]
      rfl
  · rw [State.event_health]
    exact ⟨rfl, rfl⟩

theorem State.remapRow_fc (s : State) (row : Nat) : (s.remapRow row).fc = s.fc :=
  same_of_blank (p := .fc) (State.remapRow_in (m := only [.health, .evlog, .irq, .dict]) rfl rfl rfl rfl s row) rfl

theorem State.countFault_health (s : State) (k : Fin 16) (item : Nat) :
    ∃ seen, (s.countFault k item).1.health = { s.health with seen := seen } := by
  unfold State.countFault
  dsimp only
  split
  · rw [State.event_health]
    dsimp only
    split <;> exact ⟨_, rfl⟩
  · exact ⟨s.health.seen, rfl⟩

/-- An SRAM error that firmware leaves to no owner counts, by row, in its class; a row that becomes lasting is redirected (R474). -/
theorem State.sramError_other (s : State) (row : Nat) (c : Bool) :
    (s.sramError row c .other).health.ecc = upd s.health.ecc (if c then 0 else 1) sat32 ∧
    (s.sramError row c .other).health.scrubAt = s.health.scrubAt ∧
    (s.sramError row c .other).fc.total = upd s.fc.total (if c then 5 else 6) sat32 ∧
    (s.sramError row c .other).blank memoryParts = s.blank memoryParts := by
  have hclass (u : State) (k : Fin 16) (hk : ∀ v : State, v.lastingAction k row = v.remapRow row) :
      (u.occurrence k row).health.ecc = u.health.ecc ∧ (u.occurrence k row).health.scrubAt = u.health.scrubAt ∧
      (u.occurrence k row).fc.total = upd u.fc.total k sat32 ∧ (u.occurrence k row).blank memoryParts = u.blank memoryParts := by
    obtain ⟨seen, hhealth⟩ := u.countFault_health k row
    refine State.occurrence_keeps (P := fun t => t.health.ecc = u.health.ecc ∧ t.health.scrubAt = u.health.scrubAt ∧
      t.fc.total = upd u.fc.total k sat32 ∧ t.blank memoryParts = u.blank memoryParts)
      ⟨by rw [hhealth], by rw [hhealth], u.countFault_counts k row, State.countFault_in (m := memoryParts) rfl rfl rfl rfl u k row⟩ fun t ht => ?_
    obtain ⟨hecc, hscrub, htotal, hblank⟩ := ht
    obtain ⟨hecc', hscrub'⟩ := t.remapRow_health row
    rw [hk]
    exact ⟨hecc'.trans hecc, hscrub'.trans hscrub, (congrArg FaultCounts.total (t.remapRow_fc row)).trans htotal,
      (State.remapRow_in (m := memoryParts) rfl rfl rfl rfl t row).trans hblank⟩
  cases c with
  | true =>
    obtain ⟨hecc, hscrub, htotal, hblank⟩ := hclass
      (({ s with health := { s.health with ecc := upd s.health.ecc 0 sat32 } } : State).irqRaise 108) 5 (fun _ => rfl)
    rw [State.irqRaise_health] at hecc hscrub
    rw [State.irqRaise_fc] at htotal
    exact ⟨hecc, hscrub, htotal, hblank.trans (State.irqRaise_in (m := memoryParts) rfl _ _)⟩
  | false =>
    obtain ⟨hecc, hscrub, htotal, hblank⟩ := hclass
      (({ s with health := { s.health with ecc := upd s.health.ecc 1 sat32 } } : State).irqRaise 109) 6 (fun _ => rfl)
    rw [State.irqRaise_health] at hecc hscrub
    rw [State.irqRaise_fc] at htotal
    exact ⟨hecc, hscrub, htotal, hblank.trans (State.irqRaise_in (m := memoryParts) rfl _ _)⟩

/-- The owner of the data acts after the error has been counted (R474). -/
theorem State.sramError_buffer (s : State) (row : Nat) (i : Fin 40) : s.sramError row false (.buffer i) =
    ((s.sramError row false .other).modTrav fun v => { v with seen := v.seen ||| 0x400 }).dmaError (2 ^ i.val) := by
  simp only [State.sramError, Bool.false_eq_true, if_false]

theorem State.sramError_estimator (s : State) (row : Nat) : s.sramError row false .estimator =
    (s.sramError row false .other).modEst fun e => { e with sramOk := false } := by
  simp only [State.sramError, Bool.false_eq_true, if_false]

/-- A DMA error marks the running traverse's buffer with the strings it lost (05 R167). -/
theorem State.dmaError_keeps (s : State) (lost : Nat) :
    (s.dmaError lost).trav = { s.trav with
      bufs := upd s.trav.bufs s.curBuf fun b => { b with dmaError := true, lost := b.lost ||| lost } } ∧
    (s.dmaError lost).health = s.health ∧ (s.dmaError lost).fc = s.fc := by
  unfold State.dmaError
  rw [State.event_trav, State.irqRaise_trav, State.event_health, State.irqRaise_health, State.event_fc, State.irqRaise_fc]
  exact ⟨rfl, rfl, rfl⟩

/-! ## Flash -/

theorem State.retireBlock_fc (s : State) (block : Nat) : (s.retireBlock block).fc = s.fc :=
  same_of_blank (p := .fc) (State.retireBlock_in (m := only [.evlog, .health, .irq]) rfl rfl rfl s block) rfl

/-- A flash error counts in its class: 7 for a read past its corrected bits, 8 for a program or erase that fails (R476). -/
theorem execFlashError_total {s : State} (block : Nat) (kind : FlashErrorKind) (hup : s.start.fw ≠ .down) :
    ∃ t, exec (.flashError block kind) s = .next t ∧ t.fc.total = upd s.fc.total (if kind = .corrected then 7 else 8) sat32 := by
  have hclass (u : State) (k : Fin 16) (hk : ∀ v : State, v.lastingAction k block = v.retireBlock block) (hu : u.fc = s.fc) :
      (u.occurrence k block).fc.total = upd s.fc.total k sat32 := by
    rw [← hu]
    refine State.occurrence_keeps (P := fun t => t.fc.total = upd u.fc.total k sat32) (u.countFault_counts k block) fun t ht => ?_
    rw [hk, State.retireBlock_fc]
    exact ht
  have htear (u : State) : u.tearWrite.fc = u.fc := same_of_blank (p := .fc) (State.tearWrite_in (m := only [.store]) rfl u) rfl
  refine ⟨_, congrArg Host.Outcome.next (if_neg hup), ?_⟩
  cases kind with
  | corrected => exact hclass _ 7 (fun _ => rfl) (State.irqRaise_fc _ _)
  | failed =>
    have hprogram : (if partitionOf block = some 5 then (s.irqRaise 101).event 0xC050 0x1C00 0 (u32 block) else s.irqRaise 101).fc = s.fc := by
      split
      · rw [State.event_fc, State.irqRaise_fc]
      · exact State.irqRaise_fc _ _
    have htotal := hclass _ 8 (fun _ => rfl) hprogram
    dsimp only
    revert htotal
    generalize State.occurrence _ 8 block = t
    intro htotal
    split
    · split
      · rw [htear]
        exact htotal
      · exact htotal
    · exact htotal

/-! ## The oscillator -/

theorem State.oscFailover_fc (s : State) : s.oscFailover.fc = s.fc :=
  same_of_blank (p := .fc) (State.oscFailover_in (m := only [.trav, .start, .health, .evlog, .irq, .dict]) rfl rfl rfl rfl rfl rfl s) rfl

/-- The SYS domain's failover: to X4, and a stop where X4 serves already (R477). -/
theorem State.oscFailover_moves (s : State) (h : s.health.sysStopped = false) :
    (s.health.oscSpare = false → s.oscFailover.health.oscSpare = true ∧ s.oscFailover.health.sysStopped = false ∧ s.oscFailover.start = s.start) ∧
    (s.health.oscSpare = true → s.oscFailover.health.sysStopped = true ∧ s.oscFailover.start.fw = .down) := by
  refine ⟨fun hfree => ?_, fun hused => ?_⟩
  · have hstore (u : State) : u.storeLater.health.oscSpare = u.health.oscSpare ∧ u.storeLater.health.sysStopped = u.health.sysStopped := by
      unfold State.storeLater
      split
      · rw [same_of_blank (p := .health) (State.storeCfg_in (m := only [.dict, .irq]) rfl rfl u) rfl]
        exact ⟨rfl, rfl⟩
      · exact ⟨rfl, rfl⟩
    unfold State.oscFailover
    rw [if_neg (by rw [hfree]; exact Bool.false_ne_true)]
    refine ⟨(hstore _).1.trans ?_, (hstore _).2.trans ?_, ?_⟩
    · rw [State.event_health, State.irqRaise_health]
      rfl
    · rw [State.event_health, State.irqRaise_health]
      exact h
    · rw [State.storeLater_start, State.event_start, State.irqRaise_start]
      rfl
  · unfold State.oscFailover
    rw [if_pos hused]
    exact ⟨rfl, rfl⟩

/-- The loss of the SYS edges makes class 9 lasting at once. -/
theorem State.oscLost_moves (s : State) (h : s.health.sysStopped = false) :
    s.oscLost.fc.lasting = upd s.fc.lasting 9 sat32 ∧
    (s.health.oscSpare = false → s.oscLost.health.oscSpare = true ∧ s.oscLost.health.sysStopped = false ∧ s.oscLost.start = s.start) ∧
    (s.health.oscSpare = true → s.oscLost.health.sysStopped = true ∧ s.oscLost.start.fw = .down) := by
  unfold State.oscLost
  extract_lets fc u v
  have hv : v.health.oscSpare = s.health.oscSpare ∧ v.health.sysStopped = s.health.sysStopped ∧ v.start = s.start ∧
      v.fc.lasting = upd s.fc.lasting 9 sat32 := by
    unfold v
    rw [State.event_health, State.event_start, State.event_fc]
    exact ⟨rfl, rfl, rfl, rfl⟩
  obtain ⟨hspare, hstopped, hstart, hlasting⟩ := hv
  clear_value v
  obtain ⟨hfree, hused⟩ := v.oscFailover_moves (hstopped.trans h)
  rw [hspare, hstart] at hfree
  rw [hspare] at hused
  exact ⟨by rw [State.oscFailover_fc, hlasting], hfree, hused⟩

/-! ## Restores -/

/-- A window whose history is gone is empty. -/
theorem State.inWindow_of_clearWindow {t u : State} {k n : Nat} (h : t.fc = (u.clearWindow k n).fc) : t.inWindow k n = [] := by
  have hempty : Sparse.getD t.fc.hist (fcKey k n) [] = [] := by
    rw [h]
    simp [State.clearWindow]
  simp only [State.inWindow, hempty, List.filter_nil]

/-- A port in service may be restored where its string is open (R473). -/
theorem exec_phyRestore {s : State} {src : Src} {v : Nat} (hlo : 1 ≤ v) (hhi : v ≤ 80) (ha : s.admits src 0x1D00 7 (u8 v))
    (hservice : s.mode.block = .service)
    (hstr : s.strs[Fin.ofNat 40 (v - 1)].state = .isolated ∨ s.strs[Fin.ofNat 40 (v - 1)].state = .tripped ∨
      s.strs[Fin.ofNat 40 (v - 1)].state = .lockedOut ∨ s.strs[Fin.ofNat 40 (v - 1)].state = .excluded) :
    ∃ t, exec (.phyRestore src v) s = .next t ∧ (t.portAt v).restoreDue = true ∧ t.inWindow 1 v = [] ∧
      t.lastSent = some (.writeReply src 0x1D00 7 1) := by
  let taken := s.taken src 0x1D00 7
  let restored := ((taken.modPort v fun p => { p with restoreDue := true }).clearWindow 1 v).event 0xD033 0x1D00 v
  have happly : taken.applyPhyRestore v = .ok restored := by
    unfold State.applyPhyRestore
    dsimp only
    rw [if_pos]
    rw [State.taken_mode, State.taken_strs]
    simpa only [hservice, decide_true, Bool.true_and, Bool.or_eq_true, decide_eq_true_eq, or_assoc] using hstr
  obtain ⟨t, hexec, hsent, hblank⟩ := exec_plain (c := .phyRestore src v) rfl ha fun _ _ => happly
  have hropes : t.ropes = (taken.modPort v fun p => { p with restoreDue := true }).ropes :=
    (same_of_blank (p := .ropes) hblank rfl).trans (State.event_ropes ..)
  have hfc : t.fc = ((taken.modPort v fun p => { p with restoreDue := true }).clearWindow 1 v).fc :=
    (same_of_blank (p := .fc) hblank rfl).trans (State.event_fc ..)
  refine ⟨t, hexec, ?_, State.inWindow_of_clearWindow hfc, hsent⟩
  rw [State.portAt_of_ropes hropes, State.portAt_modPort _ _ ⟨hlo, hhi⟩ ⟨hlo, hhi⟩, if_pos rfl]

theorem exec_healthClear {s : State} {h : SealHead} (ha : s.admitsSealed (h.one 0x1D00 6 (u8 1))) :
    ∃ t, exec (.healthClear h 1) s = .next t ∧ t.health.suspect = false ∧ t.inWindow 4 0 = [] ∧
      t.lastSent = some (.writeReply h.src 0x1E00 1 91) := by
  have hitem : (s.verified (h.one 0x1D00 6 (u8 1))).itemCheck ⟨0x1D00, 6, u8 1⟩ = none := by
    rfl
  obtain ⟨t, hexec, hsent, hblank⟩ := exec_sealed (c := .healthClear h 1) (v := (s.verified (h.one 0x1D00 6 (u8 1))).applyHealthClear)
    (act := fun s => match s.itemCheck ⟨0x1D00, 6, u8 1⟩ with
      | some a => .refused a 0 s
      | none => .applied s.applyHealthClear) rfl ha (by rw [hitem])
  have hhealth := (same_of_blank (p := .health) hblank rfl).trans (State.event_health ..)
  have hfc := (same_of_blank (p := .fc) hblank rfl).trans (State.event_fc ..)
  refine ⟨t, hexec, by rw [hhealth]; rfl, State.inWindow_of_clearWindow hfc, ?_⟩
  rw [hsent, SealHead.one_bytes_length (h := h) (State.admitsSealed.sig ha)]
  rfl

/-! ## The obligation -/

/-- Settles O42: an occurrence counts in its class; a class that becomes lasting takes its action, and the memory, flash and oscillator
faults count in theirs. -/
theorem faultCounting : Obligations.FaultCounting := by
  intro s
  refine ⟨fun cls item k hk hup => ⟨fun hfew => ?counted, fun hn hmax hmany => ?lasting⟩, fun row c hup hdue => ?scrub,
    fun row hup => ?corrected, fun row i hup => ?buffer, fun row hup => ?estimator, fun block kind hup => execFlashError_total block kind hup,
    fun hreleased hruns hhold => ⟨fun hdue => ?good, fun hdue => ?deviates, ?noEdge⟩,
    fun src v hlo hhi ha hservice hstr => exec_phyRestore hlo hhi ha hservice hstr, fun h ha => exec_healthClear ha,
    fun k hreleased hworks => ?sensor⟩
  case counted =>
    have hexec : exec (.windowCounterLasting cls item) s = .next (s.occurrence k item) := by
      change execWindowCounterLasting cls item s = _
      unfold execWindowCounterLasting
      rw [if_pos (by simpa using hup)]
      congr 2
      exact Fin.ext hk.symm
    have hnot : ¬ (s.fcN k.val ≤ (s.windowWith k.val item).length ∧ s.fcN k.val ≠ 0) := by
      simp only [State.windowWith, List.length_take, List.length_cons]
      omega
    refine ⟨_, hexec, ?_⟩
    rw [State.occurrence_counted hnot]
    refine ⟨rfl, rfl, rfl, ?_, rfl, rfl⟩
    simp only [State.inWindow, Sparse.getD, sparse_get?_put, if_true, Option.getD_some]
    exact s.inWindow_counted k.val item
  case lasting =>
    have hexec : exec (.windowCounterLasting cls item) s = .next (s.occurrence k item) := by
      change execWindowCounterLasting cls item s = _
      unfold execWindowCounterLasting
      rw [if_pos (by simpa using hup)]
      congr 2
      exact Fin.ext hk.symm
    have hmet : s.fcN k.val ≤ (s.windowWith k.val item).length := by
      simp only [State.windowWith, List.length_take, List.length_cons]
      omega
    obtain ⟨haction, hlasting⟩ := State.occurrence_lasting hmet hn
    refine ⟨_, hexec, fun hport hlo hhi => ?_, fun hpair => ?_⟩
    · obtain rfl : k = 1 := Fin.ext (by rw [hk, hport]; rfl)
      have hmove : (s.countFault 1 item).1.lastingAction 1 item = (s.countFault 1 item).1.modPort item fun p => { p with moveDue := true } :=
        if_pos ⟨hlo, hhi⟩
      rw [haction, hmove]
      exact ⟨by rw [State.portAt_modPort _ _ ⟨hlo, hhi⟩ ⟨hlo, hhi⟩, if_pos rfl], hlasting⟩
    · obtain rfl : k = 4 := Fin.ext (by rw [hk, hpair]; rfl)
      have hsuspect : (s.countFault 4 item).1.lastingAction 4 item =
          ((s.countFault 4 item).1.modHealth fun h => { h with suspect := true }).event 0xD018 0x1D00 0 := rfl
      rw [haction, hsuspect, State.event_health, State.event_fc]
      exact ⟨rfl, hlasting⟩
  case scrub =>
    have hexec : exec (.sramScrub [(row, c)]) s = .next ((s.modHealth fun h => { h with scrubAt := s.now }).sramError row c .other) := by
      change execSramScrub _ s = _
      unfold execSramScrub
      rw [if_pos (by simp only [hup, hdue, ne_eq, not_false_eq_true, decide_true, Bool.and_self])]
      rfl
    obtain ⟨hecc, hscrub, -, hblank⟩ := (s.modHealth fun h => { h with scrubAt := s.now }).sramError_other row c
    exact ⟨_, hexec, hscrub, hecc, same_of_blank (p := .start) hblank rfl⟩
  case corrected =>
    obtain ⟨hecc, -, htotal, hblank⟩ := s.sramError_other row true
    exact ⟨_, congrArg Host.Outcome.next (if_pos hup), hecc, htotal, same_of_blank (p := .trav) hblank rfl⟩
  case buffer =>
    obtain ⟨hecc, -, htotal, hblank⟩ := s.sramError_other row false
    have htrav : (s.sramError row false .other).trav = s.trav := same_of_blank (p := .trav) hblank rfl
    obtain ⟨hbuf, hhealth, hfc⟩ := ((s.sramError row false .other).modTrav fun v => { v with seen := v.seen ||| 0x400 }).dmaError_keeps (2 ^ i.val)
    have hexec : exec (.sramEccError row false (.buffer i)) s = .next _ := congrArg Host.Outcome.next (if_pos hup)
    rw [State.sramError_buffer] at hexec
    have hcur : ((s.sramError row false .other).modTrav fun v => { v with seen := v.seen ||| 0x400 }).curBuf = s.curBuf := by
      simp only [State.curBuf, State.modTrav_trav, htrav]
    refine ⟨_, hexec, ?_, ?_, ?_, ?_, ?_⟩
    · rw [hhealth]; exact hecc
    · rw [hfc]; exact htotal
    · rw [hbuf, State.modTrav_trav, htrav]
    · rw [hbuf, hcur]
      simp only [upd_get, if_true]
    · rw [hbuf, hcur]
      simp only [upd_get, if_true, State.modTrav_trav, htrav]
  case estimator =>
    obtain ⟨hecc, -, -, hblank⟩ := s.sramError_other row false
    have hexec : exec (.sramEccError row false .estimator) s = .next _ := congrArg Host.Outcome.next (if_pos hup)
    rw [State.sramError_estimator] at hexec
    exact ⟨_, hexec, rfl, hecc, same_of_blank (p := .start) hblank rfl⟩
  case good =>
    change execOscWindow .good s = _
    unfold execOscWindow
    rw [if_pos (by simp only [hreleased, hruns, hhold, Bool.not_false, Bool.and_self])]
    simp only [hdue, decide_true, if_true]
    rfl
  case deviates =>
    have hexec : exec (.oscWindow .deviates) s =
        .next (((s.modHealth fun h => { h with oscAt := s.now }).event 0xD027 0x1D00 0).occurrence 9 0) := by
      change execOscWindow .deviates s = _
      unfold execOscWindow
      rw [if_pos (by simp only [hreleased, hruns, hhold, Bool.not_false, Bool.and_self])]
      simp only [hdue, decide_true, if_true]
    refine ⟨_, hexec, ?_⟩
    have hfc : ((s.modHealth fun h => { h with oscAt := s.now }).event 0xD027 0x1D00 0).fc = s.fc := State.event_fc ..
    rw [← hfc]
    exact State.occurrence_keeps (P := fun t => t.fc.total = _) (State.countFault_counts ..) fun t ht =>
      (congrArg FaultCounts.total t.oscFailover_fc).trans ht
  case noEdge =>
    let u := if s.health.oscAt + ms 1 ≤ s.now then s.modHealth fun h => { h with oscAt := s.now } else s
    have hexec : exec (.oscWindow .noEdge) s = .next u.oscLost := by
      change execOscWindow .noEdge s = _
      unfold execOscWindow
      rw [if_pos (by simp only [hreleased, hruns, hhold, Bool.not_false, Bool.and_self])]
      simp only [decide_eq_true_eq]
      rfl
    have hu : u.fc = s.fc ∧ u.health.oscSpare = s.health.oscSpare ∧ u.health.sysStopped = s.health.sysStopped ∧ u.start = s.start := by
      unfold u
      split <;> exact ⟨rfl, rfl, rfl, rfl⟩
    obtain ⟨hfc, hspare, hstopped, hstart⟩ := hu
    have hmoves := u.oscLost_moves (hstopped.trans hruns)
    rw [hfc, hspare, hstart] at hmoves
    exact ⟨_, hexec, hmoves⟩
  case sensor =>
    refine ⟨_, congrArg Host.Outcome.next (if_pos ?_), ?_⟩
    · simp only [hreleased, hworks, Bool.not_false, Bool.and_self]
    · rw [State.irqRaise_therm]
      rfl

end Sys2Proof.Machine

/-!
The core pair (18 R467 to R472): the mismatch, the forming of the pair, and the resume, where nothing that waited for firmware is held any
longer.
-/

namespace Sys2Proof.Machine

-- One thread per theorem would be more than the compiler's memory limit allows.
set_option Elab.async false

/-! ## What a swap holds back -/

/-- The interrupts a core swap holds back, as far as only a swap adds to them: while no swap is in progress they stay as they are (01 R39). -/
def State.holdsBack (s : State) : Bool × List Nat := (s.cores.swapping, if s.cores.swapping then [] else s.irq.held)

theorem holdsBack_of_blank {m : Part → Bool} {s t : State} (h : t.blank m = s.blank m) (hi : m .irq = false) (hc : m .cores = false) :
    t.holdsBack = s.holdsBack := by
  have hirq : t.irq = s.irq := same_of_blank (p := .irq) h hi
  have hcores : t.cores = s.cores := same_of_blank (p := .cores) h hc
  simp only [State.holdsBack, hirq, hcores]

@[simp] theorem State.irqRaise_holdsBack (s : State) (n : Nat) : (s.irqRaise n).holdsBack = s.holdsBack := by
  unfold State.holdsBack State.irqRaise
  split
  · rfl
  · split
    · dsimp only
      cases s.cores.swapping <;> rfl
    · rfl

theorem forEach_holdsBack {α : Type} {f : State → α → State} (h : ∀ u a, (f u a).holdsBack = u.holdsBack) (s : State) (l : List α) :
    (s.forEach l f).holdsBack = s.holdsBack :=
  forEach_keeps (P := fun t => t.holdsBack = s.holdsBack) (fun u a hu => (h u a).trans hu) s l rfl

/-! ### The recorder -/

@[simp] theorem State.flushRecords_holdsBack (s : State) : s.flushRecords.holdsBack = s.holdsBack := by
  unfold State.flushRecords
  split
  · rfl
  · exact s.irqRaise_holdsBack 100

theorem State.stage_holdsBack (s : State) (code source item : Nat) (data : List Byte) (later : Bool) :
    (s.stage code source item data later).holdsBack = s.holdsBack :=
  holdsBack_of_blank (State.stage_in (m := only [.evlog]) rfl s code source item data later) rfl rfl

theorem State.summary_holdsBack (s : State) (code : Nat) : (s.summary code).holdsBack = s.holdsBack :=
  holdsBack_of_blank (State.summary_in (m := only [.evlog]) rfl s code) rfl rfl

@[simp] theorem State.flushAll_holdsBack (s : State) : s.flushAll.holdsBack = s.holdsBack := by
  unfold State.flushAll
  rw [State.flushRecords_holdsBack]
  exact forEach_holdsBack (fun u p => u.summary_holdsBack p.1) s s.evlog.buckets

theorem State.flushIfDue_holdsBack (s : State) : s.flushIfDue.holdsBack = s.holdsBack := by
  unfold State.flushIfDue
  split
  · exact s.flushAll_holdsBack
  · rfl

theorem State.noteFill_holdsBack (s : State) : s.noteFill.holdsBack = s.holdsBack := by
  unfold State.noteFill
  split
  · split
    · rfl
    · rw [State.stage_holdsBack, State.irqRaise_holdsBack]
      rfl
  · rfl

@[simp] theorem State.event_holdsBack (s : State) (code source item : Nat) (data : List Byte) :
    (s.event code source item data).holdsBack = s.holdsBack := by
  unfold State.event
  split
  · rw [State.noteFill_holdsBack, State.flushIfDue_holdsBack, State.stage_holdsBack]
  · have hsummary : (if token ≤ (s.bucket code).credit then s.summary code else s).holdsBack = s.holdsBack := by
      split
      · exact s.summary_holdsBack code
      · rfl
    revert hsummary
    generalize (if token ≤ (s.bucket code).credit then s.summary code else s) = u
    intro hu
    dsimp only
    split
    · rw [State.noteFill_holdsBack, State.flushIfDue_holdsBack, State.stage_holdsBack]
      exact hu
    · exact hu

/-! ### The replies -/

@[simp] theorem State.send_holdsBack (s : State) (m : Message) : (s.send m).holdsBack = s.holdsBack := by
  unfold State.send
  dsimp only
  split
  · rw [State.irqRaise_holdsBack]
    rfl
  · split <;> rfl

theorem State.writeCfg_holdsBack (s : State) (vals : Sparse Nat) : (s.writeCfg vals).holdsBack = s.holdsBack := by
  unfold State.writeCfg
  split
  · rfl
  · exact s.irqRaise_holdsBack 100

theorem State.closeSubmitted_holdsBack (s : State) (r : SealedReq) : (s.closeSubmitted r).holdsBack = s.holdsBack :=
  holdsBack_of_blank (State.closeSubmitted_in (m := only [.dict]) rfl s r) rfl rfl

theorem State.answerSealed_holdsBack (s : State) (r : SealedReq) : (s.answerSealed r).holdsBack = s.holdsBack := by
  unfold State.answerSealed
  dsimp only
  rw [State.send_holdsBack, State.closeSubmitted_holdsBack]
  exact forEach_holdsBack (fun u p => u.event_holdsBack _ _ _ _) s _

theorem State.refuseSealed_holdsBack (s : State) (r : SealedReq) (a : Abort) (item : Nat) :
    (s.refuseSealed r a item).holdsBack = s.holdsBack := by
  unfold State.refuseSealed State.abort
  simp only [Bool.false_eq_true, if_false]
  rw [State.send_holdsBack]
  refine (State.closeSubmitted_holdsBack _ r).trans ?_
  exact s.event_holdsBack ..

theorem State.finishAction_holdsBack (s : State) (p : Pass) (acted : Bool) : (s.finishAction p acted).holdsBack = s.holdsBack := by
  unfold State.finishAction
  split
  · rfl
  · dsimp only
    split
    · exact State.answerSealed_holdsBack _ _
    · exact State.refuseSealed_holdsBack _ _ _ _

/-! ### The outputs -/

theorem State.startPole_holdsBack (s : State) (q : Fin 16) : (s.startPole q).holdsBack = s.holdsBack := by
  unfold State.startPole
  rw [State.event_holdsBack, State.irqRaise_holdsBack]
  rfl

theorem State.consumeQPass_holdsBack (s : State) (q : Fin 16) : (s.consumeQPass q).holdsBack = s.holdsBack := by
  unfold State.consumeQPass
  split
  · rw [State.irqRaise_holdsBack]
    rfl
  · rfl

theorem State.unwaitQ_holdsBack (s : State) (q : Fin 16) : (s.unwaitQ q).holdsBack = s.holdsBack :=
  holdsBack_of_blank (State.unwaitQ_in (m := only [.io]) rfl s q) rfl rfl

theorem State.serveQ_holdsBack (n : Nat) (s : State) : (State.serveQ n s).holdsBack = s.holdsBack := by
  induction n generalizing s with
  | zero => rfl
  | succ n ih =>
    unfold State.serveQ
    split
    · rfl
    next q hq =>
      have htaken : ((if s.qPowerPath q then s.consumeQPass q else s).startPole q).holdsBack = s.holdsBack := by
        rw [State.startPole_holdsBack]
        split
        · exact s.consumeQPass_holdsBack q
        · rfl
      dsimp only
      split
      · rw [ih, State.unwaitQ_holdsBack]
      · by_cases hroom : s.pullIns + (if (s.pairOf q).isSome then 2 else 1) ≤ 4
        · rw [if_pos hroom, ih]
          split
          · rw [State.startPole_holdsBack, htaken]
          · exact htaken
        · rw [if_neg hroom]

theorem State.requestQ_holdsBack (s : State) (q : Fin 16) : (s.requestQ q).holdsBack = s.holdsBack := by
  unfold State.requestQ
  dsimp only
  rw [State.serveQ_holdsBack]
  split <;> rfl

theorem State.dropPole_holdsBack (s : State) (q : Fin 16) (byRule : Bool) : (s.dropPole q byRule).holdsBack = s.holdsBack := by
  unfold State.dropPole
  dsimp only
  split
  · rfl
  · split
    · split
      · rfl
      · rw [State.event_holdsBack, State.irqRaise_holdsBack]
        rfl
    · rw [State.event_holdsBack, State.irqRaise_holdsBack]
      rfl

theorem State.dropQ_holdsBack (s : State) (q : Fin 16) (byRule : Bool) : (s.dropQ q byRule).holdsBack = s.holdsBack := by
  unfold State.dropQ
  dsimp only
  split
  · rw [State.dropPole_holdsBack, State.dropPole_holdsBack]
  · exact s.dropPole_holdsBack q byRule

/-! ### Strings and banks -/

theorem State.setStr_holdsBack (s : State) (i : Fin 40) (st : StrState) (cause : Nat) : (s.setStr i st cause).holdsBack = s.holdsBack := by
  unfold State.setStr
  dsimp only
  split
  · rfl
  · rw [State.event_holdsBack, State.irqRaise_holdsBack]
    rfl

theorem State.setBlock_holdsBack (s : State) (b : BlockState) (cause : Nat) : (s.setBlock b cause).holdsBack = s.holdsBack := by
  unfold State.setBlock
  split
  · rfl
  · dsimp only
    rw [State.event_holdsBack, State.irqRaise_holdsBack]
    rfl

theorem State.setBank_holdsBack (s : State) (b : Fin 4) (st : BankState) : (s.setBank b st).holdsBack = s.holdsBack := by
  have hfollow (u : State) : u.followBanks.holdsBack = u.holdsBack := by
    unfold State.followBanks
    dsimp only
    split
    · exact u.setBlock_holdsBack .run 0
    · split
      · exact u.setBlock_holdsBack .armed 0
      · rfl
  unfold State.setBank
  dsimp only
  split
  · rfl
  · rw [hfollow]
    split
    · rw [State.serveQ_holdsBack, State.dropQ_holdsBack, State.event_holdsBack]
      rfl
    · rw [State.event_holdsBack]
      rfl

theorem State.setDn_holdsBack (s : State) (b : Fin 4) (on : Bool) : (s.setDn b on).holdsBack = s.holdsBack := by
  unfold State.setDn
  dsimp only
  split
  · rfl
  · rw [State.irqRaise_holdsBack]
    rfl

theorem State.dnOn_holdsBack (s : State) (b : Fin 4) : (s.dnOn b).holdsBack = s.holdsBack := by
  unfold State.dnOn
  split
  · rfl
  · exact s.setDn_holdsBack b true

theorem State.discharge_holdsBack (s : State) (b : Fin 4) : (s.discharge b).holdsBack = s.holdsBack := by
  unfold State.discharge
  rw [State.setBank_holdsBack, State.dnOn_holdsBack]
  rfl

theorem State.openS_holdsBack (s : State) (i : Fin 40) : (s.openS i).holdsBack = s.holdsBack := by
  unfold State.openS State.discardClose
  split
  · rw [State.event_holdsBack, State.irqRaise_holdsBack]
    rfl
  · rfl

theorem State.endPrecharge_holdsBack (s : State) (b : Fin 4) (code cause : Nat) : (s.endPrecharge b code cause).holdsBack = s.holdsBack := by
  unfold State.endPrecharge
  extract_lets src ended opened told
  have hopened : opened.holdsBack = s.holdsBack := by
    unfold opened
    generalize src = source
    split
    · dsimp only
      split
      · rw [State.setStr_holdsBack, State.openS_holdsBack]
        rfl
      · rw [State.openS_holdsBack]
        rfl
    · rfl
  have htold : told.holdsBack = s.holdsBack := by
    unfold told
    rw [State.irqRaise_holdsBack, State.event_holdsBack, hopened]
  split
  · rw [State.discharge_holdsBack, htold]
  · exact (State.dnOn_holdsBack _ b).trans htold

theorem State.settleBank_holdsBack (s : State) (b : Fin 4) : (s.settleBank b).holdsBack = s.holdsBack := by
  have hended : (if s.pcActive b && !s.hbPermitted b && !s.anySOn b then s.endPrecharge b 0x4025 3 else s).holdsBack = s.holdsBack := by
    split
    · exact s.endPrecharge_holdsBack b 0x4025 3
    · rfl
  unfold State.settleBank
  revert hended
  generalize (if s.pcActive b && !s.hbPermitted b && !s.anySOn b then s.endPrecharge b 0x4025 3 else s) = u
  intro hended
  dsimp only
  split
  · rw [State.discharge_holdsBack, hended]
  · exact hended

/-! ### Passes decided at the resume -/

theorem State.refuseClose_holdsBack (s : State) (i : Fin 40) (why : Nat) : (s.refuseClose i why).holdsBack = s.holdsBack := by
  unfold State.refuseClose State.unmatch
  dsimp only
  rw [State.event_holdsBack]
  split
  · exact State.endPrecharge_holdsBack _ _ _ _
  · split
    · exact State.setStr_holdsBack _ _ _ _
    · rfl

theorem State.acceptPrecharge_holdsBack (s : State) (i : Fin 40) : (s.acceptPrecharge i).holdsBack = s.holdsBack := by
  unfold State.acceptPrecharge
  dsimp only
  rw [State.settleBank_holdsBack]
  split
  · rw [State.setDn_holdsBack]
    exact s.setStr_holdsBack i .matching 0
  · exact s.setStr_holdsBack i .matching 0

theorem State.markDecided_holdsBack (s : State) (i : Fin 40) : (s.markDecided i).holdsBack = s.holdsBack := rfl

theorem State.decideClose_holdsBack (s : State) (i : Fin 40) (p : Pass) : (s.decideClose i p).1.holdsBack = s.holdsBack := by
  unfold State.decideClose
  dsimp only
  split
  · exact s.refuseClose_holdsBack i 8
  · split
    · exact s.refuseClose_holdsBack i 7
    · split
      · split
        · dsimp only
          rw [State.refuseClose_holdsBack, State.event_holdsBack, State.irqRaise_holdsBack]
          rfl
        · dsimp only
          rw [State.acceptPrecharge_holdsBack, State.markDecided_holdsBack]
      · split
        · exact s.refuseClose_holdsBack i 1
        · dsimp only
          rw [State.setStr_holdsBack, State.markDecided_holdsBack]

theorem State.refuseQ_holdsBack (s : State) (q : Fin 16) (why : Nat) : (s.refuseQ q why).holdsBack = s.holdsBack := by
  unfold State.refuseQ
  rw [State.event_holdsBack]
  rfl

theorem State.decideEnergise_holdsBack (s : State) (q : Fin 16) : (s.decideEnergise q).1.holdsBack = s.holdsBack := by
  unfold State.decideEnergise
  split
  · exact s.refuseQ_holdsBack q 1
  · exact State.requestQ_holdsBack _ q

theorem State.decideHeld_holdsBack (s : State) : s.decideHeld.holdsBack = s.holdsBack := by
  unfold State.decideHeld
  dsimp only
  rw [forEach_holdsBack, forEach_holdsBack]
  · intro u i
    split
    · split
      · rfl
      · split
        · rw [State.settleBank_holdsBack, State.finishAction_holdsBack, State.decideClose_holdsBack]
        · rw [State.settleBank_holdsBack, State.refuseClose_holdsBack]
    · rfl
  · intro u q
    split
    · split
      · rfl
      · split
        · rw [State.finishAction_holdsBack, State.decideEnergise_holdsBack]
        · exact u.refuseQ_holdsBack q 9
    · rfl

/-! ### What else waited for firmware -/

theorem State.takeEths_holdsBack (s : State) : s.takeEths.holdsBack = s.holdsBack := by
  have hin (u : State) (k : Fin 2) : (u.ethIn k).holdsBack = u.holdsBack := by
    unfold State.ethIn
    rw [State.irqRaise_holdsBack]
    rfl
  have htake (u : State) (k : Fin 2) (f : EthFrame) : (u.takeEth k f).holdsBack = u.holdsBack := by
    cases f with
    | badFcs => rfl
    | foreign => exact hin u k
    | udpOther => exact hin u k
    | badDatagram => exact hin u k
    | arp own =>
      unfold State.takeEth
      dsimp only
      split
      · exact (State.send_holdsBack _ _).trans (hin u k)
      · exact hin u k
    | icmpEcho =>
      unfold State.takeEth
      dsimp only
      split
      · exact (State.send_holdsBack _ _).trans (hin u k)
      · exact hin u k
  exact forEach_holdsBack (fun u k =>
    forEach_holdsBack (fun v p => htake v k p.1) (u.modEth k fun e => { e with rxQ := [] }) u.eths[k].rxQ) s [0, 1]

theorem State.repairMirror_holdsBack (s : State) : s.repairMirror.holdsBack = s.holdsBack := by
  unfold State.repairMirror
  split
  · rfl
  · exact State.event_holdsBack ..

theorem State.beginWrite_holdsBack (s : State) (reason : Nat) : (s.beginWrite reason).holdsBack = s.holdsBack :=
  holdsBack_of_blank (State.beginWrite_in (m := only [.store]) rfl s reason) rfl rfl

theorem State.appendHistory_holdsBack (s : State) (img : Learned) (reason : Nat) : (s.appendHistory img reason).holdsBack = s.holdsBack := by
  unfold State.appendHistory
  split
  · rfl
  · dsimp only
    split
    · rw [State.event_holdsBack]
      rfl
    · rfl

theorem State.nextCopy_holdsBack (n : Nat) (s : State) : (State.nextCopy n s).holdsBack = s.holdsBack := by
  induction n generalizing s with
  | zero => rfl
  | succ n ih =>
    unfold State.nextCopy
    split
    · rfl
    · split
      · split
        · rw [ih]
          rfl
        · split
          · exact holdsBack_of_blank (State.abandonWrite_in (m := only [.store]) rfl s) rfl rfl
          · split
            · rw [ih, State.event_holdsBack]
              rfl
            · rfl
      · dsimp only
        split
        · rw [State.beginWrite_holdsBack, State.appendHistory_holdsBack]
          rfl
        · rw [State.appendHistory_holdsBack]
          rfl

theorem State.hurryOut_holdsBack (s : State) (reason : Nat) (write : Bool) : (s.hurryOut reason write).holdsBack = s.holdsBack := by
  have hcounters (u : State) : u.storeCounters.holdsBack = u.holdsBack := by
    unfold State.storeCounters
    split
    · rfl
    · exact State.writeCfg_holdsBack _ _
  unfold State.hurryOut
  dsimp only
  split
  · split
    · unfold State.writeBack
      rw [State.nextCopy_holdsBack, State.beginWrite_holdsBack, State.flushAll_holdsBack, hcounters]
    · rw [State.flushAll_holdsBack, hcounters]
  · split <;> rfl

/-! ## Requests taken up at the resume -/

/-- What a request leaves of the swap in progress: an applied effect neither begins nor ends one. -/
def Applied.Swapping (r : Applied) (b : Bool) : Prop := ∀ t, r = .ok t → t.cores.swapping = b

theorem Applied.Swapping.of_in {s : State} {r : Applied} (h : AppliedIn (except .cores) s r) : Applied.Swapping r s.cores.swapping :=
  fun t ht => congrArg Cores.swapping (same_of_blank (p := .cores) (h.1 t ht) rfl)

theorem Applied.Swapping.ite {c : Prop} [Decidable c] {a b : Applied} {x : Bool} (ha : Applied.Swapping a x) (hb : Applied.Swapping b x) :
    Applied.Swapping (if c then a else b) x := by
  split <;> assumption

theorem forEach_cores {α : Type} {f : State → α → State} (h : ∀ u a, (f u a).cores = u.cores) (s : State) (l : List α) :
    (s.forEach l f).cores = s.cores :=
  forEach_keeps (P := fun t => t.cores = s.cores) (fun u a hu => (h u a).trans hu) s l rfl

/-- A wake tests the spare core, which may fail, and leaves the swap as it is (06 R187). -/
theorem State.wake_swapping (s : State) (cause : Nat) (core : Bool) (gates : List (Nat × Nat)) :
    (s.wake cause core gates).cores.swapping = s.cores.swapping := by
  unfold State.wake
  split
  · rfl
  · extract_lets told begun closed _ spare toned called counted heard
    have hclosed : closed.cores.swapping = s.cores.swapping := by
      unfold closed begun told
      rw [same_of_blank (p := .cores) (State.closeWakeOut_in (m := except .cores) rfl rfl rfl rfl _ cause) rfl, State.event_cores]
      split
      · rfl
      · exact congrArg Cores.swapping (s.irqRaise_cores 121)
    clear_value closed
    have hspare : spare.cores.swapping = s.cores.swapping := by
      refine Eq.trans ?_ hclosed
      unfold spare
      split
      · split
        · rfl
        · rw [State.event_cores]
      · rfl
    clear_value spare
    have htoned : toned.cores = spare.cores := by
      unfold toned
      rw [forEach_cores]
      exact fun u i => State.modRope_cores ..
    clear_value toned
    have hcalled : called.cores = toned.cores := by
      have hrails := State.railsUp_in (m := except .cores) rfl rfl toned
      have htests := State.selfTestAll_in (m := except .cores) rfl rfl rfl toned.railsUp gates
      have hcalls := State.rollCallAll_in (m := except .cores) rfl (toned.railsUp.selfTestAll gates)
      exact same_of_blank (p := .cores) (hcalls.trans (htests.trans hrails)) rfl
    clear_value called
    have hcounted : counted.cores = called.cores := by
      unfold counted
      rw [forEach_cores]
      exact fun u i => State.modBStr_cores ..
    clear_value counted
    rw [State.modCorr_cores, State.modBelay_cores, hcounted, hcalled, htoned]
    exact hspare

theorem State.applyBlock_swapping (s : State) (r : EntryRow) (sub : Nat) (data : List Byte) :
    Applied.Swapping (s.applyBlock r sub data) s.cores.swapping := by
  unfold State.applyBlock
  dsimp only
  split
  · exact .of_in (by apply State.applyBlockState_in <;> rfl)
  · exact .of_in (by apply State.applyRecess_in <;> rfl)
  · exact .of_in (by apply State.applyBalMode_in <;> rfl)
  · refine .ite (.of_in (by apply State.applyCampEnter_in <;> rfl)) fun t ht => ?_
    obtain rfl := Except.ok.inj ht
    exact s.wake_swapping 3 true []
  · exact .of_in (by apply State.applyCampWindow_in <;> rfl)
  · exact .of_in (by apply State.applyCampWindow_in <;> rfl)
  · exact .of_in (by apply State.applyCampWindow_in <;> rfl)
  · exact .of_in (by apply State.applyWakeOutCfg_in <;> rfl)
  · exact .of_in (State.applyLearnWriteReq_in rfl _)
  · exact .of_in (by apply State.applyTpClear_in <;> rfl)
  · exact .of_in (by apply State.applyQRequest_in <;> rfl)
  · exact .of_in (by apply State.applyQDrop_in <;> rfl)
  · exact .of_in (by apply State.applyQClear_in <;> rfl)
  · exact .ite (.of_in (appliedIn_error.mpr rfl)) (.of_in (appliedIn_ok.mpr (by apply State.setVal_in <;> rfl)))
  · exact .of_in (appliedIn_ok.mpr (by apply State.storeValue_in <;> rfl))

theorem State.applyEntry_swapping (s : State) (src : Src) (index sub : Nat) (data : List Byte) (r : EntryRow) :
    Applied.Swapping (s.applyEntry src index sub data r) s.cores.swapping := by
  unfold State.applyEntry
  refine .ite (.of_in (appliedIn_ok.mpr (by apply State.clearFields_in <;> rfl))) ?_
  refine .ite (.of_in (by apply State.applyCan_in <;> rfl)) ?_
  refine .ite (.of_in (by apply State.applyMoCfg_in <;> rfl)) ?_
  refine .ite (.of_in (by apply State.applyMoData_in <;> rfl)) ?_
  refine .ite (.of_in (by apply State.applyFilter_in <;> rfl)) ?_
  refine .ite (.of_in (by apply State.applyEth_in <;> rfl)) ?_
  refine .ite (.of_in (by apply State.applyThrottleSelect_in <;> rfl)) ?_
  refine .ite (.of_in (by apply State.applyRecorder_in <;> rfl)) ?_
  refine .ite (.of_in (by apply State.applyStore_in <;> rfl)) ?_
  refine .ite (.of_in (by apply State.applyHealth_in <;> rfl)) ?_
  refine .ite (.ite (.of_in (appliedIn_ok.mpr (by apply State.submit_in <;> rfl)))
    (.ite (.of_in (by apply State.applyErase_in <;> rfl)) (.ite (.of_in (by apply State.applyImage_in <;> rfl)) (.of_in (appliedIn_ok.mpr rfl))))) ?_
  refine .ite (.of_in (by apply State.applyPartner_in <;> rfl)) (.ite (s.applyBlock_swapping r sub data) ?_)
  refine .ite (.of_in (by apply State.applyBank_in <;> rfl)) ?_
  exact .ite (.of_in (by apply State.applyString_in <;> rfl)) (.of_in (appliedIn_ok.mpr (by apply State.storeValue_in <;> rfl)))

theorem State.applyOne_swapping (s : State) (r : SealedReq) (i : SealItem) : Applied.Swapping (s.applyOne r i) s.cores.swapping := by
  have hrefused (a : Abort) (t : State) : Applied.Swapping (.error (a, t)) s.cores.swapping := fun _ h => nomatch h
  unfold State.applyOne
  split
  · exact hrefused _ _
  next e he =>
    refine .ite (hrefused _ _) (.ite (.ite (hrefused _ _) ?_) (.ite (.ite (hrefused _ _) (.ite (hrefused _ _) ?_)) (.ite (hrefused _ _) ?_)))
    · split
      · exact hrefused _ _
      · exact .of_in (appliedIn_ok.mpr rfl)
    · exact .of_in (appliedIn_ok.mpr (by apply State.putRws_in <;> rfl))
    · split
      · exact hrefused _ _
      next t ht => exact fun u hu => (Except.ok.inj hu) ▸ s.applyEntry_swapping _ _ _ _ e t ht

/-- The outcome of a request that waited for the belay logic leaves the swap as it is. -/
theorem State.takeOutcome_swapping (s : State) (q : BelayRecord) (failed : Option Nat) :
    (s.takeOutcome q failed).cores.swapping = s.cores.swapping := by
  have hothers (u : State) (r : SealedReq) : (u.applyOthers r).cores.swapping = u.cores.swapping := by
    refine forEach_keeps (P := fun t => t.cores.swapping = u.cores.swapping) (fun t i ht => ?_) u _ rfl
    split
    next t' ht' => exact (t.applyOne_swapping r i t' ht').trans ht
    next => exact ht
  have hconclude (u : State) (r : SealedReq) : (u.concludeSealed r).cores = u.cores :=
    same_of_blank (p := .cores) (m := except .cores) (by apply State.concludeSealed_in <;> rfl) rfl
  unfold State.takeOutcome
  split
  · rfl
  · dsimp only
    split
    · exact congrArg Cores.swapping (same_of_blank (p := .cores) (m := except .cores) (by apply State.refuseSealed_in <;> rfl) rfl)
    · rw [hconclude, hothers]
      rfl

/-! ## The resume -/

/-- A resume before firmware takes up what waited: the swap has ended, nothing is held and nothing pends (R470). -/
def State.resumed (s : State) : State :=
  ({ s with cores := { s.cores with swapping := false, formed := none, commitAt := s.now }, irq := { s.irq with held := [] } } : State).irqRaise 113

/-- The procedure of R97 or R100 that the swap held back, at the resume (R471). -/
def State.hurriesOut (s : State) : State :=
  match s.start.hurry with
  | some h => (s.modStart fun a => { a with hurry := none }).hurryOut h.1 h.2
  | none => s

/-- What the resumed firmware takes up: that procedure, and all that waited (R470). -/
def State.takesUp (s : State) (held : List Nat) : State := ((s.hurriesOut.takeEths.readHeld held).takeOutcomes).repairMirror.decideHeld

theorem exec_swapResume {s : State} (hswap : s.cores.swapping = true) (hdue : s.resumeDue = true) (hup : s.start.fw ≠ .down) :
    exec .swapResume s = .next (if !s.resumed.fwActs then s.resumed else s.resumed.takesUp s.irq.held) := by
  change execSwapResume s = _
  unfold execSwapResume
  rw [if_pos (by simp only [hswap, hdue, hup, ne_eq, not_false_eq_true, decide_true, Bool.and_self])]
  rfl

theorem State.resumed_cores (s : State) : s.resumed.cores = { s.cores with swapping := false, formed := none, commitAt := s.now } := by
  unfold State.resumed
  rw [State.irqRaise_cores]

theorem State.resumed_holdsBack (s : State) : s.resumed.holdsBack = (false, []) := by
  unfold State.resumed
  rw [State.irqRaise_holdsBack]
  rfl

/-- The held-back procedure stores and flushes; requests forwarded to the belay logic go on waiting. -/
theorem State.hurryOut_forwarded (s : State) (reason : Nat) (write : Bool) : (s.hurryOut reason write).seng.forwarded = s.seng.forwarded := by
  have hcounters : s.storeCounters.seng.forwarded = s.seng.forwarded := by
    unfold State.storeCounters
    split
    · rfl
    · have hcfg (u : State) : u.storeCfg.seng = u.seng := same_of_blank (p := .seng) (State.storeCfg_in (m := only [.dict, .irq]) rfl rfl u) rfl
      rw [hcfg]
      rfl
  unfold State.hurryOut
  dsimp only
  split
  · split
    · rw [State.writeBack_seng, State.flushAll_seng, hcounters]
    · rw [State.flushAll_seng, hcounters]
  · split <;> rfl

theorem State.hurriesOut_keeps (s : State) : s.hurriesOut.cores = s.cores ∧ s.hurriesOut.seng.forwarded = s.seng.forwarded ∧
    s.hurriesOut.holdsBack = s.holdsBack := by
  unfold State.hurriesOut
  split
  · exact ⟨same_of_blank (p := .cores) (State.hurryOut_in (m := except .cores) rfl rfl rfl rfl rfl rfl _ _ _) rfl,
      State.hurryOut_forwarded _ _ _, State.hurryOut_holdsBack _ _ _⟩
  · exact ⟨rfl, rfl, rfl⟩

/-- What waited on the buses is taken up, and no request forwarded to the belay logic. -/
theorem State.takesFrames_keeps (s : State) (held : List Nat) : (s.takeEths.readHeld held).cores = s.cores ∧
    (s.takeEths.readHeld held).seng = s.seng ∧ (s.takeEths.readHeld held).holdsBack = s.holdsBack := by
  have hread := State.readHeld_in (m := only [.cans]) rfl s.takeEths held
  have htaken := State.takeEths_in (m := only [.cans, .dict, .eths, .irq]) rfl rfl rfl rfl s
  exact ⟨(same_of_blank (p := .cores) hread rfl).trans (same_of_blank (p := .cores) htaken rfl),
    (same_of_blank (p := .seng) hread rfl).trans (same_of_blank (p := .seng) htaken rfl),
    (holdsBack_of_blank hread rfl rfl).trans s.takeEths_holdsBack⟩

theorem State.decides_cores (s : State) : s.repairMirror.decideHeld.cores = s.cores :=
  (same_of_blank (p := .cores) (m := except .cores) (by apply State.decideHeld_in <;> rfl) rfl).trans
    (same_of_blank (p := .cores) (m := except .cores) (by apply State.repairMirror_in <;> rfl) rfl)

/-- Whatever the belay logic's outcomes bring, the swap that has ended stays ended. -/
theorem State.takesUp_swapping (s : State) (held : List Nat) : (s.takesUp held).cores.swapping = s.cores.swapping := by
  obtain ⟨hhurry, -, -⟩ := s.hurriesOut_keeps
  obtain ⟨hframes, -, -⟩ := s.hurriesOut.takesFrames_keeps held
  unfold State.takesUp
  rw [State.decides_cores, ← hhurry, ← hframes]
  exact forEach_keeps (P := fun t => t.cores.swapping = _) (fun t v ht => (t.takeOutcome_swapping v.1 v.2).trans ht) _ _ rfl

/-- With no request forwarded an outcome of the belay logic is nobody's. -/
theorem State.takeOutcomes_none {s : State} (h : s.seng.forwarded = []) :
    s.takeOutcomes = s.modBelay fun b => { b with reports := b.reports.filter fun r => r.kind ≠ 4 } := by
  have hnone (t : State) (ht : t.seng.forwarded = []) (v : BelayRecord × Option Nat) : t.takeOutcome v.1 v.2 = t := by
    simp only [State.takeOutcome, ht, List.find?_nil]
  have hrun (l : List (BelayRecord × Option Nat)) (t : State) (ht : t.seng.forwarded = []) : t.forEach l (fun t v => t.takeOutcome v.1 v.2) = t := by
    induction l with
    | nil => rfl
    | cons v l ih => exact (congrArg (fun u : State => u.forEach l fun t v => t.takeOutcome v.1 v.2) (hnone t ht v)).trans ih
  exact hrun _ _ h

/-- With no request forwarded the resume leaves the pair and the pending interrupts as it found them. -/
theorem State.takesUp_keeps {s : State} (held : List Nat) (h : s.seng.forwarded = []) :
    (s.takesUp held).cores = s.cores ∧ (s.takesUp held).holdsBack = s.holdsBack := by
  obtain ⟨hhurry, hforwarded, hhurryHolds⟩ := s.hurriesOut_keeps
  obtain ⟨hframes, hseng, hframesHold⟩ := s.hurriesOut.takesFrames_keeps held
  unfold State.takesUp
  rw [State.takeOutcomes_none (by rw [hseng, hforwarded, h])]
  refine ⟨(State.decides_cores _).trans (hframes.trans hhurry), ?_⟩
  rw [State.decideHeld_holdsBack, State.repairMirror_holdsBack]
  exact hframesHold.trans hhurryHolds

/-! ## The pair -/

/-- The pair formed again of the same members, or with the spare in place of the member that failed (Table 18-2). -/
theorem State.formSame_cores (s : State) : s.formSame.cores = { s.cores with formed := some s.now } := by
  unfold State.formSame
  rw [State.event_cores]

theorem State.swapCore_pair (s : State) (spare out : Fin 3) : (s.swapCore spare out).cores.formed = some s.now ∧
    (s.swapCore spare out).cores.role = (s.cores.role.set out .retired).set spare .member ∧
    (s.swapCore spare out).start.retired = s.start.retired ||| 2 ^ out.val := by
  unfold State.swapCore
  dsimp only
  rw [State.event_cores, State.event_start]
  exact ⟨rfl, rfl, rfl⟩

/-- What the self-tests of the two members `a` and `b` make of the pair (Table 18-2). -/
def State.pairFormed (s : State) (a b : Fin 3) (passA passB : Bool) : State :=
  let t := s.event 0xD011 0x1D00 0
  match passA, passB, s.spareCore with
  | true, true, some c =>
    if s.cores.lasting then t.swapCore c (if s.cores.parity.testBit a.val && !s.cores.parity.testBit b.val then a else b) else t.formSame
  | true, true, none => if s.cores.lasting then t.formSame.event 0xD014 0x1D00 0 else t.formSame
  | true, false, some c => t.swapCore c b
  | false, true, some c => t.swapCore c a
  | true, false, none | false, true, none => ((t.event 0xD014 0x1D00 0).event 0xD016 0x1D00 0).escalate
  | false, false, _ => (t.event 0xD016 0x1D00 0).escalate

theorem exec_pairForming {s : State} {a b : Fin 3} (passA passB : Bool) (hmembers : s.members = [a, b]) (hswap : s.cores.swapping = true)
    (hformed : s.cores.formed = none) (hup : s.start.fw ≠ .down) : exec (.pairForming passA passB) s = .next (s.pairFormed a b passA passB) := by
  change execPairForming passA passB s = _
  unfold execPairForming
  rw [hmembers]
  refine congrArg Host.Outcome.next (if_pos ?_)
  simp only [hswap, hformed, hup, Option.isNone_none, ne_eq, not_false_eq_true, decide_true, Bool.and_self]

/-- Two members that pass, none of them lasting, stay the pair. -/
theorem State.pairFormed_same {s : State} (a b : Fin 3) (h : s.cores.lasting = false) :
    (s.pairFormed a b true true).cores = { s.cores with formed := some s.now } := by
  have hsame : s.pairFormed a b true true = (s.event 0xD011 0x1D00 0).formSame := by
    unfold State.pairFormed
    rw [h]
    cases s.spareCore <;> simp only [Bool.false_eq_true, if_false]
  rw [hsame, State.formSame_cores, State.event_cores, State.event_now]

/-- The spare takes the place of the one member that fails. -/
theorem State.pairFormed_swap {s : State} {a b c out : Fin 3} {passA passB : Bool} (hspare : s.spareCore = some c)
    (hpass : passA = true ∨ passB = true) (hout : passA = false ∧ out = a ∨ passB = false ∧ out = b) :
    s.pairFormed a b passA passB = (s.event 0xD011 0x1D00 0).swapCore c out := by
  unfold State.pairFormed
  rw [hspare]
  rcases hout with ⟨rfl, rfl⟩ | ⟨rfl, rfl⟩
  · obtain rfl : passB = true := hpass.resolve_left Bool.false_ne_true
    rfl
  · obtain rfl : passA = true := hpass.resolve_right Bool.false_ne_true
    rfl

/-- Settles O43: a mismatch halts the pair, forming takes the spare in for the member that failed, and the resume ends the swap with
nothing held back. -/
theorem corePair : Obligations.CorePair := by
  intro s
  refine ⟨fun hup hswap => ?commit, fun parity hup hswap hpaired => ?mismatch, fun a b passA passB hmembers hswap hformed hup hpass => ?forming,
    fun hswap hdue hup hforwarded => ?resume, fun hswap hdue hup => ?ends, fun pass hstandby hswap hcamp hup hdue => ?spare⟩
  case commit =>
    refine congrArg Host.Outcome.next (if_pos ?_)
    simp only [hup, hswap, ne_eq, not_false_eq_true, decide_true, Bool.not_false, Bool.and_self]
  case mismatch =>
    let halted : State := { s with cores := { s.cores with
      swapping := true, parity := parity, mismatchAt := s.now, formed := none, lasting := false, journal := 0, buffer := 0 } }
    have hexec : exec (.lockstepMismatch parity) s = .next (((halted.irqRaise 111).irqRaise 112).occurrence 0 0) := by
      refine congrArg Host.Outcome.next (if_pos ?_)
      simp only [hup, hswap, hpaired, ne_eq, not_false_eq_true, decide_true, Bool.not_false, Bool.and_self]
    have hcores : ((halted.irqRaise 111).irqRaise 112).cores = halted.cores := by rw [State.irqRaise_cores, State.irqRaise_cores]
    have hfc : ((halted.irqRaise 111).irqRaise 112).fc = s.fc := by rw [State.irqRaise_fc, State.irqRaise_fc]
    refine ⟨_, hexec, ?_⟩
    refine State.occurrence_keeps (P := fun t => t.cores.swapping = true ∧ t.cores.parity = parity ∧ t.cores.mismatchAt = s.now ∧
      t.cores.formed = none ∧ t.cores.role = s.cores.role ∧ t.cores.journal = 0 ∧ t.fc.total = upd s.fc.total 0 sat32) ?_ fun t ht => ?_
    · rw [State.countFault_counts, hfc, same_of_blank (p := .cores) (State.countFault_in (m := except .cores) rfl rfl rfl rfl _ 0 0) rfl, hcores]
      exact ⟨rfl, rfl, rfl, rfl, rfl, rfl, rfl⟩
    · have haction : t.lastingAction 0 0 = if t.cores.swapping then { t with cores := { t.cores with lasting := true } } else t := rfl
      rw [haction]
      split <;> exact ht
  case forming =>
    refine ⟨_, exec_pairForming passA passB hmembers hswap hformed hup, fun hA hB hlasting => ?_, fun c out hspare hout => ?_⟩
    · subst hA hB
      exact State.pairFormed_same a b hlasting
    · rw [State.pairFormed_swap hspare hpass hout]
      obtain ⟨hformed', hrole, hretired⟩ := (s.event 0xD011 0x1D00 0).swapCore_pair c out
      rw [State.event_now] at hformed'
      rw [State.event_cores] at hrole
      rw [State.event_start] at hretired
      exact ⟨hformed', hrole, hretired⟩
  case resume =>
    refine ⟨_, exec_swapResume hswap hdue hup, ?_⟩
    have hholds : s.resumed.seng.forwarded = [] := by
      unfold State.resumed
      rw [State.irqRaise_seng]
      exact hforwarded
    obtain ⟨hcores, hback⟩ := State.takesUp_keeps s.irq.held hholds
    have hend : (if !s.resumed.fwActs then s.resumed else s.resumed.takesUp s.irq.held).cores = s.resumed.cores ∧
        (if !s.resumed.fwActs then s.resumed else s.resumed.takesUp s.irq.held).holdsBack = (false, []) := by
      split
      · exact ⟨rfl, s.resumed_holdsBack⟩
      · exact ⟨hcores, hback.trans s.resumed_holdsBack⟩
    generalize (if !s.resumed.fwActs then s.resumed else s.resumed.takesUp s.irq.held) = t at hend
    obtain ⟨htcores, hthold⟩ := hend
    rw [s.resumed_cores] at htcores
    have hswapping : t.cores.swapping = false := congrArg Cores.swapping htcores
    refine ⟨hswapping, congrArg Cores.formed htcores, ?_, by rw [htcores]⟩
    simpa only [State.holdsBack, hswapping, Bool.false_eq_true, if_false] using congrArg Prod.snd hthold
  case ends =>
    refine ⟨_, exec_swapResume hswap hdue hup, ?_⟩
    split
    · rw [s.resumed_cores]
    · rw [State.takesUp_swapping, s.resumed_cores]
  case spare =>
    refine ⟨_, congrArg Host.Outcome.next (if_pos ?_), ?_⟩
    · simp only [hstandby, hswap, hcamp, hup, hdue, ne_eq, not_false_eq_true, decide_true, Bool.not_false, Bool.and_self]
    · cases pass with
      | true => exact ⟨rfl, rfl⟩
      | false =>
        simp only [Bool.false_eq_true, if_false, State.event_cores, and_self]

end Sys2Proof.Machine

/-!
The Ethernet ports and the cell stream (19 R483 to R489): addresses applied, links, frames and their counters, the rate of the stream.
-/

namespace Sys2Proof.Machine

-- One thread per theorem would be more than the compiler's memory limit allows.
set_option Elab.async false

/-! ## Addresses -/

/-- Two states have a port in common but for its frame counters. -/
def State.EthBut (s t : State) (k : Fin 2) : Prop := ∃ counts, t.eths[k] = { s.eths[k] with counts := counts }

theorem State.EthBut.of_eths {s t : State} {k : Fin 2} (h : t.eths = s.eths) : s.EthBut t k := ⟨_, by rw [h]⟩

theorem State.EthBut.trans {s t u : State} {k : Fin 2} (h : s.EthBut t k) (g : t.EthBut u k) : s.EthBut u k := by
  obtain ⟨a, ha⟩ := h
  obtain ⟨b, hb⟩ := g
  exact ⟨b, by rw [hb, ha]⟩

theorem State.receive_eth (s : State) (src : Src) (k : Fin 2) : s.EthBut (s.receive src) k := by
  have hnote (u : State) : (u.notePartner src).eths = u.eths :=
    same_of_blank (p := .eths) (State.notePartner_in (m := only [.dict, .evlog, .irq]) rfl rfl rfl u src) rfl
  have hport (j : Fin 2) : s.EthBut ((s.ethIn j).modEth j fun e => { e with counts := upd e.counts 6 sat32 }) k := by
    by_cases hj : j = k
    · subst hj
      obtain ⟨counts, hin⟩ := s.ethIn_eth j
      exact ⟨_, by rw [State.modEth_eths, upd_get, if_pos rfl, hin]⟩
    · refine ⟨s.eths[k].counts, ?_⟩
      rw [State.modEth_eths, upd_get, if_neg hj, State.ethIn, State.irqRaise_eths, State.modEth_eths, upd_get, if_neg hj]
  unfold State.receive
  dsimp only
  refine .trans ?_ (.of_eths ((hnote _).trans (State.irqRaise_eths ..)))
  split
  · exact hport _
  · exact .of_eths rfl

/-- A request taken and answered changes of a port the frame counters alone. -/
theorem State.answered_eth (s : State) (src : Src) (index sub : Nat) (data : List Byte) (k : Fin 2) :
    s.EthBut ((s.taken src index sub).answerWrite src index sub data) k := by
  have htaken : (s.taken src index sub).eths = (s.receive src).eths := by
    rw [State.taken, State.noteTickWrite_eths]
    rfl
  obtain ⟨counts, hsend⟩ := State.send_eth ((((s.taken src index sub).modDict fun d =>
    { d with writes := upd d.writes src.iface sat32 }).event (0x9001 + src.iface.val) index sub (writeRecord src index sub data 0xFF 0xFF 0 0)))
    (.writeReply src index sub data.length) k
  refine (s.receive_eth src k).trans ⟨counts, ?_⟩
  rw [State.answerWrite, hsend, State.event_eths, State.modDict_eths, htaken]

/-- The ports with the written addresses in force, before they announce themselves. -/
def State.takeAddresses (s : State) : State :=
  (s.modDict fun d => { d with transfers := d.transfers.filter fun x => (ethOf x.src.iface).isNone }).forEach (List.finRange 2) fun t k =>
    t.modEth k fun e => { e with ip := t.val (portObj k) 2, mask := t.val (portObj k) 3, gateway := t.val (portObj k) 4, conflict := false }

/-- Port `k` of `t` has the addresses written in `s`, and its link (R484). -/
def State.Addressed (s t : State) (k : Fin 2) : Prop :=
  t.eths[k].ip = s.val (portObj k) 2 ∧ t.eths[k].mask = s.val (portObj k) 3 ∧ t.eths[k].gateway = s.val (portObj k) 4 ∧
    t.eths[k].conflict = false ∧ t.eths[k].up = s.eths[k].up

theorem State.takeAddresses_addressed (s : State) (k : Fin 2) : s.Addressed s.takeAddresses k := by
  unfold State.takeAddresses
  generalize hstart : (s.modDict fun d => { d with transfers := d.transfers.filter fun x => (ethOf x.src.iface).isNone }) = start
  have hkept : start.dict.vals = s.dict.vals ∧ start.eths[k].up = s.eths[k].up := by
    rw [← hstart]
    exact ⟨rfl, rfl⟩
  refine forEach_sets (I := fun t => t.dict.vals = s.dict.vals ∧ t.eths[k].up = s.eths[k].up) (i := k) (P := fun t => s.Addressed t k)
    (fun t j ht => ?_) (fun t ht => ?_) (fun t j hj ht hp => ?_) (List.mem_finRange k) hkept
  · refine ⟨ht.1, ?_⟩
    rw [State.modEth_eths, upd_get]
    split <;> exact ht.2
  · unfold State.Addressed
    rw [State.modEth_eths, upd_get, if_pos rfl]
    exact ⟨State.val_of_values ht.1 _ _ _, State.val_of_values ht.1 _ _ _, State.val_of_values ht.1 _ _ _, rfl, ht.2⟩
  · unfold State.Addressed
    rw [State.modEth_eths, upd_get, if_neg hj]
    exact hp

theorem State.announcePort_eth (s : State) (j k : Fin 2) : s.EthBut (s.announcePort j) k := by
  unfold State.announcePort
  split
  · exact State.send_eth ..
  · exact .of_eths rfl

theorem State.ethApply_addressed (s : State) (k : Fin 2) : s.Addressed s.ethApply k := by
  have hannounced : s.takeAddresses.EthBut s.ethApply k :=
    forEach_keeps (P := fun t => s.takeAddresses.EthBut t k) (fun t j ht => ht.trans (t.announcePort_eth j k))
      (s.takeAddresses.event 0xA003 ethObj 0) (List.finRange 2) (.of_eths (State.event_eths ..))
  obtain ⟨counts, hsame⟩ := hannounced
  unfold State.Addressed
  rw [hsame]
  exact s.takeAddresses_addressed k

/-! ## Links -/

/-- After a look at the stream its suspension is what its links and its rate say (R489). -/
theorem State.noteStream_stream (s : State) : s.noteStream.stream.suspended = (s.streamOn && s.streamBlocked) ∧
    s.noteStream.stream.rate = 8 * s.setBytes * 1000 / s.setPeriod := by
  unfold State.noteStream
  extract_lets counted block told
  have htold : told.stream.rate = 8 * s.setBytes * 1000 / s.setPeriod := by
    unfold told
    split
    · rw [State.event_stream]
      rfl
    · rfl
  exact ⟨rfl, htold⟩

theorem State.noteStream_eths (s : State) : s.noteStream.eths = s.eths :=
  same_of_blank (p := .eths) (State.noteStream_in (m := only [.stream, .evlog, .irq]) rfl rfl rfl s) rfl

/-- The stream's strings, its period and its links are not its own. -/
theorem State.noteStream_block (s : State) : (s.noteStream.streamOn && s.noteStream.streamBlocked) = (s.streamOn && s.streamBlocked) := by
  have hread : ∀ u : State, (u.streamOn && u.streamBlocked) =
      ((u.blank (only [.stream, .evlog, .irq])).streamOn && (u.blank (only [.stream, .evlog, .irq])).streamBlocked) := fun _ => rfl
  rw [hread, State.noteStream_in (m := only [.stream, .evlog, .irq]) rfl rfl rfl s, ← hread]

/-! ## Frames -/

/-- A frame taken counts once in its own counter, and leaves the port's address (Table 19-5). -/
theorem State.takeEth_counts {s : State} {k : Fin 2} {f : EthFrame} {c : Fin 8}
    (h : f = .badFcs ∧ c = 2 ∨ f = .foreign ∧ c = 3 ∨ (∃ own, f = .arp own) ∧ c = 4 ∨ f = .icmpEcho ∧ c = 5 ∨
      f = .udpOther ∧ c = 0 ∨ f = .badDatagram ∧ c = 0) :
    (s.takeEth k f).eths[k].counts[c] = sat32 s.eths[k].counts[c] ∧ (s.takeEth k f).eths[k].ip = s.eths[k].ip := by
  have hin : (s.ethIn k).eths[k] = { s.eths[k] with counts := upd s.eths[k].counts 0 sat32 } := by
    rw [State.ethIn, State.irqRaise_eths, State.modEth_eths, upd_get, if_pos rfl]
  have hcount (t : State) (j : Fin 8) (h : t.eths[k] = s.eths[k] ∨ t.eths[k] = (s.ethIn k).eths[k] ∧ j ≠ 0) :
      (t.modEth k fun e => { e with counts := upd e.counts j sat32 }).eths[k].counts[j] = sat32 s.eths[k].counts[j] ∧
      (t.modEth k fun e => { e with counts := upd e.counts j sat32 }).eths[k].ip = s.eths[k].ip := by
    rw [State.modEth_eths, upd_get, if_pos rfl]
    rcases h with h | ⟨h, hj⟩
    · rw [h]
      exact ⟨by simp only [upd_get, if_true], rfl⟩
    · rw [h, hin]
      exact ⟨by simp only [upd_get, if_true, if_neg hj.symm], rfl⟩
  have hsent (t : State) (m : Message) (hm : m.eth = some k) (j : Fin 8) (hj : j ≠ 1)
      (h : t.eths[k].counts[j] = sat32 s.eths[k].counts[j] ∧ t.eths[k].ip = s.eths[k].ip) :
      (t.send m).eths[k].counts[j] = sat32 s.eths[k].counts[j] ∧ (t.send m).eths[k].ip = s.eths[k].ip := by
    unfold State.send
    rw [hm]
    dsimp only
    rw [State.irqRaise_eths, State.modEth_eths, upd_get, if_pos rfl]
    exact ⟨by simpa only [upd_get, if_neg hj.symm, State.modDict_eths] using h.1, h.2⟩
  have hport : (Fin.ofNat 2 k.val) = k := Fin.ext (Nat.mod_eq_of_lt k.isLt)
  rcases h with ⟨rfl, rfl⟩ | ⟨rfl, rfl⟩ | ⟨⟨own, rfl⟩, rfl⟩ | ⟨rfl, rfl⟩ | ⟨rfl, rfl⟩ | ⟨rfl, rfl⟩
  · exact hcount s 2 (.inl rfl)
  · exact hcount _ 3 (.inr ⟨rfl, by decide⟩)
  · unfold State.takeEth
    dsimp only
    split
    · exact hsent _ (.arpReply k.val) (congrArg some hport) 4 (by decide) (hcount _ 4 (.inr ⟨rfl, by decide⟩))
    · exact hcount _ 4 (.inr ⟨rfl, by decide⟩)
  · unfold State.takeEth
    dsimp only
    split
    · exact hsent _ (.icmpReply k.val) (congrArg some hport) 5 (by decide) (hcount _ 5 (.inr ⟨rfl, by decide⟩))
    · exact hcount _ 5 (.inr ⟨rfl, by decide⟩)
  · unfold State.takeEth
    rw [hin]
    exact ⟨by simp only [upd_get, if_true], rfl⟩
  · unfold State.takeEth
    rw [State.modDict_eths, hin]
    exact ⟨by simp only [upd_get, if_true], rfl⟩

/-- Settles O46: an address takes effect at its apply, a frame counts in its own counter or waits where firmware is suspended, and the stream
follows its links and its rate. -/
theorem ethernetPorts : Obligations.EthernetPorts := by
  intro s
  refine ⟨fun src v ha hok => ?apply, fun k hup hfw hip => ?conflict, fun k up fast hfw hserved hchange hmode => ?link,
    fun k f c len hup hnow hcount => ?frame, fun k f len n hup hswap hf hn => ?held, fun resolved count n hpublished hacts hon hruns hfree hdiv hnew
    hbuf hnumber => ?stream, fun hacts => ?suspension⟩
  case apply =>
    obtain ⟨last, hexec⟩ := exec_ethApply_admitted ha hok
    refine ⟨_, hexec, fun k => ?_⟩
    rw [State.noteLast_eths]
    obtain ⟨hip, hmask, hgateway, hconflict, hup⟩ := ((s.taken src ethObj 1).answerWrite src ethObj 1 (u8 v)).ethApply_addressed k
    obtain ⟨counts, hsame⟩ := s.answered_eth src ethObj 1 (u8 v) k
    have hvals : ((s.taken src ethObj 1).answerWrite src ethObj 1 (u8 v)).dict.vals = s.dict.vals := by
      rw [State.answerWrite_values, State.taken_values]
    rw [State.val_of_values hvals] at hip hmask hgateway
    exact ⟨hip, hmask, hgateway, hconflict, by rw [hup, hsame]⟩
  case conflict =>
    obtain ⟨counts, hport⟩ := s.noteConflict_eth k
    refine ⟨_, exec_addressConflict_inService hup hfw hip, by rw [State.event_eths, hport], by rw [State.event_eths, hport], fun j hj => ?_⟩
    rw [State.event_eths, State.noteConflict, State.modEth_eths, upd_get, if_neg hj.symm, State.ethIn, State.irqRaise_eths, State.modEth_eths,
      upd_get, if_neg hj.symm]
  case link =>
    let e := s.eths[k]
    let moved := (s.modEth k fun e => { e with up := up, fast := up && fast, downSeen := e.downSeen || !up }).irqRaise (89 + 4 * k.val)
    let told := if up then (moved.event 0xA001 (portObj k) 0 (u16 (if fast then 1000 else 100))).announcePort k else moved.event 0xA002 (portObj k) 0
    have hexec : exec (.ethLinkChange k up fast) s = .next told.noteStream := by
      change execEthLinkChange k up fast s = _
      unfold execEthLinkChange
      dsimp only
      refine congrArg Host.Outcome.next ((if_neg ?_).trans rfl)
      have hcamp : (decide (s.mode.block = .baseCamp) && !s.bal.exiting) = false := by
        rcases hserved with h | h <;> simp only [h, decide_false, Bool.false_and, Bool.not_true, Bool.and_false]
      have hmoves : (decide (s.eths[k].up = up) && (!up || decide (s.eths[k].fast = fast))) = false := by
        rcases hchange with h | ⟨hup, h⟩
        · simp only [h, decide_false, Bool.false_and]
        · simp only [h, hup, decide_false, Bool.not_true, Bool.or_self, Bool.and_false]
      have hallowed : (up && !(s.val (portObj k) 0x0005).testBit (if fast then 0 else 1)) = false := by
        cases up with
        | false => rfl
        | true => rw [hmode rfl]; rfl
      rw [hcamp, hmoves, hallowed]
      simp only [hfw, decide_false, Bool.or_self, Bool.false_eq_true, not_false_eq_true]
    have htold : moved.EthBut told k := by
      unfold told
      split
      · exact State.EthBut.trans (.of_eths (State.event_eths moved 0xA001 (portObj k) 0 (u16 (if fast then 1000 else 100)))) (State.announcePort_eth _ k k)
      · exact .of_eths (State.event_eths ..)
    obtain ⟨counts, hsame⟩ := htold
    have hport : told.noteStream.eths[k] = { s.eths[k] with
        up := up, fast := up && fast, downSeen := s.eths[k].downSeen || !up, counts := counts } := by
      rw [State.noteStream_eths, hsame, State.irqRaise_eths, State.modEth_eths, upd_get, if_pos rfl]
    refine ⟨_, hexec, by rw [hport], by rw [hport], fun hdown => ?_, ?_⟩
    · rw [hport, hdown]
      exact Bool.or_true _
    · rw [told.noteStream_stream.1, told.noteStream_block]
  case frame =>
    have hexec : exec (.ethFrameReceived k f len) s = .next (s.takeEth k f) := by
      change execEthFrameReceived k f len s = _
      unfold execEthFrameReceived
      rw [if_neg (by rw [hup]; decide), if_pos (by rcases hnow with h | h <;> simp only [h, Bool.not_false, Bool.or_true, decide_true, Bool.true_or])]
    exact ⟨_, hexec, State.takeEth_counts hcount⟩
  case held =>
    have hwaits : ¬ (f = .badFcs || !s.cores.swapping) = true := by simp only [hf, hswap, decide_false, Bool.not_true, Bool.or_self, Bool.false_eq_true,
      not_false_eq_true]
    have hexec : exec (.ethFrameReceived k f len) s = .next (if 16384 < n then s.modEth k fun e => { e with counts := upd e.counts 7 sat32 }
        else s.modEth k fun e => { e with rxQ := e.rxQ ++ [(f, len)] }) := by
      change execEthFrameReceived k f len s = _
      unfold execEthFrameReceived
      rw [if_neg (by rw [hup]; decide), if_neg hwaits, hn]
    exact ⟨fun hfull => by rw [hexec, if_pos hfull], fun hroom => by rw [hexec, if_neg (Nat.not_lt.mpr hroom)]⟩
  case stream =>
    have hexec : exec (.streamSetSend resolved count) s = .next (s.sendSet s.trav.bufs[Fin.ofNat 8 n] resolved count) := by
      change execStreamSetSend resolved count s = _
      unfold execStreamSetSend
      rw [hpublished]
      refine congrArg Host.Outcome.next (if_pos ?_)
      simp only [hacts, hon, hruns, hfree, hdiv, hnew, hbuf, hnumber, ne_eq, not_false_eq_true, decide_true, Bool.not_false, Bool.and_self]
    have htrav : (s.sendSet s.trav.bufs[Fin.ofNat 8 n] resolved count).trav = s.trav :=
      same_of_blank (p := .trav) (m := except .trav) (by apply State.sendSet_in <;> rfl) rfl
    exact ⟨_, hexec, congrArg some hnumber, rfl, htrav⟩
  case suspension =>
    exact ⟨_, congrArg Host.Outcome.next (if_pos hacts), s.noteStream_stream.1, s.noteStream_stream.2, s.noteStream_eths⟩

end Sys2Proof.Machine

/-! Obligations O47 and O48: the calendar with its sources, and the PTP clock (19 R492 to R496). -/

namespace Sys2Proof.Machine

-- One thread per theorem would be more than the compiler's memory limit allows.
set_option Elab.async false

/-! ## The source and the correction of the calendar -/

theorem State.selectSource_source (s : State) : s.selectSource.clock.source = s.clock.source := by
  unfold State.selectSource
  split <;> rfl

theorem State.noteSources_source (s : State) : s.noteSources.clock.source = s.clock.source := by
  unfold State.noteSources
  extract_lets noted
  split
  · exact State.selectSource_source _
  · rfl

theorem State.rebase_source (s : State) : s.rebase.clock.source = s.clock.source := by
  have hsettled : s.settleCalendar.clock = s.clock :=
    same_of_blank (p := .clock) (State.settleCalendar_in (m := only [.utcBase, .utcAt]) rfl rfl s) rfl
  unfold State.rebase
  split
  · rfl
  · exact (congrArg Clock.source hsettled :)

theorem clampInt_within (lo hi v : Int) (h : lo ≤ hi) : lo ≤ clampInt lo hi v ∧ clampInt lo hi v ≤ hi := by
  unfold clampInt
  split
  · omega
  · split <;> omega

/-- The correction keeps the source; it stays within 500 ppm, and the RTC takes none (19 R492). -/
theorem State.steer_steers (s : State) : s.steer.clock.source = s.clock.source ∧
    (s.clock.source ≠ 2 → -500000 ≤ s.steer.clock.rate ∧ s.steer.clock.rate ≤ 500000) ∧ (s.clock.source = 2 → s.steer = s) := by
  unfold State.steer
  split
  next hrtc => exact ⟨rfl, fun h => absurd hrtc h, fun _ => rfl⟩
  next hrtc => exact ⟨s.rebase_source, fun _ => clampInt_within _ _ _ (by decide), fun h => absurd h hrtc⟩

/-- The selection of a second (19 R492). -/
theorem exec_timeSourceSelection {s : State} (hfw : s.fwActs = true) (hon : s.timeOn = true) (hdue : s.clock.selectAt + sec 1 ≤ s.now) :
    ∃ t, exec .timeSourceSelection s = .next t ∧ t.clock.source = s.clock.source ∧
      (s.clock.source ≠ 2 → -500000 ≤ t.clock.rate ∧ t.clock.rate ≤ 500000) ∧
      (s.clock.source = 2 → t.utcBase = s.utcBase ∧ t.utcAt = s.utcAt) := by
  have hselected : s.noteSources.selectSource.clock.source = s.clock.source := (State.selectSource_source _).trans s.noteSources_source
  obtain ⟨hsource, hrate, hrtc⟩ := s.noteSources.selectSource.steer_steers
  rw [hselected] at hsource hrate hrtc
  have hkept : s.noteSources.selectSource.blank (only [.clock]) = s.blank (only [.clock]) :=
    (State.selectSource_in rfl _).trans (State.noteSources_in rfl s)
  have hdone : ∃ t, exec .timeSourceSelection s = .next t ∧
      t.blank (only [.irq]) = (s.noteSources.selectSource.steer.modClock fun c => { c with selectAt := s.now }).blank (only [.irq]) := by
    refine ⟨_, congrArg Host.Outcome.next (if_pos ?_), ?_⟩
    · rw [hfw, hon, decide_eq_true hdue]
      rfl
    · dsimp only
      split
      · exact State.irqRaise_in rfl _ _
      · rfl
  obtain ⟨t, hexec, hblank⟩ := hdone
  have hclock := same_of_blank (p := .clock) hblank rfl
  refine ⟨t, hexec, by rw [hclock]; exact hsource, fun h => by rw [hclock]; exact hrate h, fun h => ?_⟩
  rw [same_of_blank (p := .utcBase) hblank rfl, same_of_blank (p := .utcAt) hblank rfl]
  change s.noteSources.selectSource.steer.utcBase = _ ∧ s.noteSources.selectSource.steer.utcAt = _
  rw [hrtc h]
  exact ⟨same_of_blank (p := .utcBase) hkept rfl, same_of_blank (p := .utcAt) hkept rfl⟩

/-! ## The calendar set, the alarm, the leap second -/

/-- The state with the calendar set to `v` ms by a sealed request (19 R494). -/
def State.timeIsSet (s : State) (v : Nat) : State :=
  (s.setCalendar (v * 1000)).modClock fun c => { c with set_ := true, uncUnknown := true, unc := 0, uncAt := s.now }

theorem exec_timeSet {s : State} {h : SealHead} {v : Nat} (ha : s.admitsSealed (h.one ethObj 0x15 (u64 v)))
    (hcheck : s.itemCheck ⟨ethObj, 0x15, u64 v⟩ = none) (hrtc : s.clock.source = 2) (hnext : s.clock.next = none) :
    ∃ t, exec (.timeSet h v) s = .next t ∧ t.utcBase = v ∧ t.utcAt = s.now ∧ t.clock.set_ = true ∧ t.clock.slew = 0 ∧
      t.lastSent = some (.writeReply h.src 0x1E00 1 98) := by
  have hclock : (s.verified (h.one ethObj 0x15 (u64 v))).clock = s.clock := same_of_blank (p := .clock) (verified_blank s _) rfl
  have hitem := ((s.rwsOk_verified ha.slot ⟨ethObj, 0x15, u64 v⟩).2.2).trans hcheck
  obtain ⟨t, hexec, hsent, hblank⟩ := exec_sealed (c := .timeSet h v) (v := (s.verified (h.one ethObj 0x15 (u64 v))).timeIsSet v)
    (act := fun s => match s.itemCheck ⟨ethObj, 0x15, u64 v⟩ with
      | some a => .refused a 0 s
      | none => if s.clock.source ≠ 2 || s.clock.next.isSome then .refused .state 0 s else .applied (s.timeIsSet v))
    rfl ha (by
      rw [hitem, hclock, hrtc, hnext]
      rfl)
  refine ⟨t, hexec, ?_, ?_, ?_, ?_, ?_⟩
  · rw [same_of_blank (p := .utcBase) hblank rfl]
    exact Nat.mul_div_cancel v (by decide)
  · rw [same_of_blank (p := .utcAt) hblank rfl]
    change (s.verified (h.one ethObj 0x15 (u64 v))).now - v * 1000 % 1000 * 1000 = _
    rw [Nat.mul_mod_left, State.verified_now]
    rfl
  · exact congrArg Clock.set_ (same_of_blank (p := .clock) hblank rfl)
  · exact congrArg Clock.slew (same_of_blank (p := .clock) hblank rfl)
  · rw [hsent, SealHead.one_bytes_length (h := h) ha.sig, u64, beBytes_length]
    rfl

/-- The alarm is raised once (19 R494). -/
theorem exec_rtcAlarm {s : State} (hset : s.val ethObj 0x16 ≠ 0) (hnot : s.clock.alarmed = false) (hdue : s.val ethObj 0x16 ≤ s.utc)
    (hup : s.start.fw ≠ .down) : ∃ t, exec .rtcAlarm s = .next t ∧ t.clock = { s.clock with alarmed := true } ∧
      t.irq.counts = upd s.irq.counts 95 sat32 := by
  refine ⟨_, congrArg Host.Outcome.next (if_pos ?_), State.irqRaise_clock .., rfl⟩
  rw [hnot, decide_eq_true hset, decide_eq_true hdue, decide_eq_true hup]
  rfl

/-- A second is put in at the end of the day (19 R493). -/
theorem exec_leapSecond_added {s : State} (hptp : s.clock.source = 0) (hfw : s.fwActs = true) (hleap : s.clock.leap = 1)
    (hend : s.utc % 86400000 = 86399999) : ∃ t, exec .leapSecond s = .next t ∧ t.clock.leap = 0 ∧
      t.utcAt = s.rebase.utcAt + sec 1 ∧ t.utcBase = s.rebase.utcBase := by
  refine ⟨_, congrArg Host.Outcome.next ((if_neg ?_).trans (if_pos ?_)), ?_, ?_, ?_⟩
  · rw [hptp, hfw]
    decide
  · rw [hleap, hend]
    rfl
  · rw [State.event_clock]
    rfl
  · rw [State.event_utcAt]
    rfl
  · rw [State.event_utcBase]
    rfl

/-- A second is left out before the end of the day (19 R493). -/
theorem exec_leapSecond_left {s : State} (hptp : s.clock.source = 0) (hfw : s.fwActs = true) (hleap : s.clock.leap = 2)
    (hend : 86399000 ≤ s.utc % 86400000) : ∃ t, exec .leapSecond s = .next t ∧ t.clock.leap = 0 ∧
      t.utcBase = s.rebase.utcBase + 1000 ∧ t.utcAt = s.rebase.utcAt := by
  refine ⟨_, congrArg Host.Outcome.next ((if_neg ?_).trans ((if_neg ?_).trans (if_pos ?_))), ?_, ?_, ?_⟩
  · rw [hptp, hfw]
    decide
  · rw [hleap]
    exact Bool.false_ne_true
  · rw [hleap, decide_eq_true hend]
    rfl
  · rw [State.event_clock]
    rfl
  · rw [State.event_utcBase]
    rfl
  · rw [State.event_utcAt]
    rfl

/-- Settles O47: the sources of time, the calendar, its alarm and the leap second. -/
theorem calendar : Obligations.Calendar := by
  intro s
  exact ⟨exec_timeSourceSelection, fun h v => exec_timeSet, exec_rtcAlarm, fun hptp hfw =>
    ⟨exec_leapSecond_added hptp hfw, exec_leapSecond_left hptp hfw⟩⟩

/-! ## The PTP clock -/

/-- The clock's state machine and what it learned of a master in its Announces are kept where only the sources are followed (19 R492). -/
theorem State.noteSources_clock (s : State) : ∃ a b c, s.noteSources.clock = { s.clock with ptpSince := a, canSince := b, next := c } := by
  unfold State.noteSources
  extract_lets noted
  have hselect : ∀ t : State, ∃ c, t.selectSource.clock = { t.clock with next := c } := by
    intro t
    unfold State.selectSource
    split
    · exact ⟨_, rfl⟩
    · exact ⟨_, rfl⟩
  split
  · obtain ⟨c, hc⟩ := hselect noted
    exact ⟨_, _, c, hc⟩
  · exact ⟨_, _, _, rfl⟩

theorem State.ptpEnter_enters (s : State) (st : Nat) : (s.ptpEnter st).clock.ptp = st ∧ (s.ptpEnter st).clock.announceAt = s.clock.announceAt := by
  unfold State.ptpEnter
  split
  next hsame => exact ⟨hsame, rfl⟩
  next =>
    extract_lets entered learned told
    obtain ⟨a, b, c, hnote⟩ := told.noteSources_clock
    have hlearned : learned.clock.ptp = st ∧ learned.clock.announceAt = s.clock.announceAt := by
      unfold learned
      split <;> exact ⟨rfl, rfl⟩
    rw [hnote]
    unfold told
    split
    · rw [State.event_clock]
      exact hlearned
    · split
      · rw [State.event_clock]
        exact hlearned
      · exact hlearned

/-- A message of its domain at the clock's port is the clock's (19 R495). -/
theorem exec_ptpMessageReceived {s : State} (hruns : s.ptpRuns = true) (m : PtpMsg) :
    exec (.ptpMessageReceived s.ptpPort (s.val ethObj 0x23) m) s = .next ((s.ethIn s.ptpPort).ptpMessage m) := by
  have hup : s.eths[s.ptpPort].up = true := by
    unfold State.ptpRuns at hruns
    rw [Bool.and_eq_true, Bool.and_eq_true] at hruns
    exact hruns.1.2
  refine congrArg Host.Outcome.next ((if_neg ?_).trans (if_pos ?_))
  · rw [hup]
    exact Bool.false_ne_true
  · rw [hruns, decide_eq_true rfl]
    exact decide_eq_true rfl

theorem State.ethIn_clock (s : State) (k : Fin 2) : (s.ethIn k).clock = s.clock := State.irqRaise_clock ..

theorem State.ethIn_now (s : State) (k : Fin 2) : (s.ethIn k).now = s.now := now_of_blank (State.ethIn_in (m := only [.irq, .eths]) rfl rfl s k)

theorem State.ptpMessage_sync (s : State) {seq : Nat} (hbound : s.clock.ptp = 8 ∨ s.clock.ptp = 9) :
    (s.ptpMessage (.sync seq)).clock = { s.clock with syncWait := some (seq, macTime s.now) } := by
  have hdec : (decide (s.clock.ptp = 8) || decide (s.clock.ptp = 9)) = true := by
    rw [Bool.or_eq_true, decide_eq_true_eq, decide_eq_true_eq]
    exact hbound
  refine (congrArg State.clock (if_pos hdec)).trans ?_
  rw [State.modClock_clock]
  unfold State.stamp
  rw [State.irqRaise_clock]

/-- What an Announce that recommends this master leaves (19 R493, R496). -/
structure Clock.Follows (c : Clock) (master : Nat) (ahead : Option Int) (flag now : Nat) (d : Clock) : Prop where
  gm : d.gm = master
  leap : d.leap = flag
  offset : d.utcOffset = ahead
  at_ : d.announceAt = some now
  stays : c.gm = master → c.ptp = 9 → d.ptp = 9
  begins : c.gm ≠ master ∨ c.ptp ≠ 9 → d.ptp = 8

theorem State.ptpMessage_slave (s : State) (gm leap : Nat) (offset : Option Int) :
    s.clock.Follows gm offset leap s.now (s.ptpMessage (.announce gm .slave offset leap)).clock := by
  change s.clock.Follows gm offset leap s.now (s.ptpAnnounce gm .slave offset leap).clock
  unfold State.ptpAnnounce
  extract_lets heard other entered
  rw [State.modClock_clock]
  have hother : other.clock.announceAt = some s.now ∧ (s.clock.gm = gm → other.clock.ptp = s.clock.ptp) ∧ (s.clock.gm ≠ gm → other.clock.ptp = 4) := by
    unfold other
    split
    next hgm => exact ⟨rfl, fun _ => rfl, fun h => absurd hgm h⟩
    next hgm => exact ⟨(heard.ptpEnter_enters 4).2, fun h => absurd h hgm, fun _ => (heard.ptpEnter_enters 4).1⟩
  obtain ⟨hat, hsame, hnew⟩ := hother
  have hentered : entered.clock.announceAt = some s.now ∧ (other.clock.ptp = 9 → entered.clock.ptp = 9) ∧ (other.clock.ptp ≠ 9 → entered.clock.ptp = 8) := by
    unfold entered
    split
    next hslave => exact ⟨hat, fun _ => hslave, fun h => absurd hslave h⟩
    next hslave => exact ⟨((other.ptpEnter_enters 8).2).trans hat, fun h => absurd h hslave, fun _ => (other.ptpEnter_enters 8).1⟩
  obtain ⟨hat', hkeeps, hbegins⟩ := hentered
  refine ⟨rfl, rfl, rfl, hat', fun hgm hptp => hkeeps ((hsame hgm).trans hptp), fun hor => hbegins ?_⟩
  by_cases hgm : s.clock.gm = gm
  · rw [hsame hgm]
    exact hor.resolve_left (not_not_intro hgm)
  · rw [hnew hgm]
    decide

/-- Three Announce intervals pass without an Announce (19 R496). -/
theorem exec_announceReceiptTimeout {s : State} (hruns : s.ptpRuns = true) {t0 : Nat} (hat : s.clock.announceAt = some t0) (hnot : s.clock.ptp ≠ 6)
    (hdue : t0 + 3 * s.ptpInterval 0 ≤ s.now) : ∃ t, exec .announceReceiptTimeout s = .next t ∧
      t.clock.ptp = (if s.ptpRole = 2 then 6 else 4) ∧ t.clock.announceAt = some s.now := by
  have hopen : ¬ (!s.ptpRuns || decide (s.clock.ptp = 6) || decide (s.now < t0 + 3 * s.ptpInterval 0)) = true := by
    rw [hruns, decide_eq_false hnot, decide_eq_false (Nat.not_lt.mpr hdue)]
    exact Bool.false_ne_true
  have hentered : ∃ u : State, u.clock.announceAt = some s.now ∧
      exec .announceReceiptTimeout s = .next (u.ptpEnter (if s.ptpRole = 2 then 6 else 4)) := by
    change ∃ u : State, _ ∧ execAnnounceReceiptTimeout s = _
    unfold execAnnounceReceiptTimeout
    rw [hat]
    dsimp only
    rw [if_neg hopen]
    exact ⟨_, rfl, rfl⟩
  obtain ⟨u, hu, hexec⟩ := hentered
  exact ⟨_, hexec, (u.ptpEnter_enters _).1, ((u.ptpEnter_enters _).2).trans hu⟩

/-- The master's Announce (19 R495). -/
theorem exec_ptpAnnounceSent {s : State} (hruns : s.ptpRuns = true) (hmaster : s.clock.ptp = 6) : ∃ t, exec (.ptpMessageInterval 0) s = .next t ∧
    t.clock.seqs = s.clock.seqs.set 0 ((s.clock.seqs[0] + 1) % 65536) ∧
    ∃ body, t.lastSent = some (.ptp s.ptpPort.val 0xB s.clock.seqs[0] s.ptpServed body) := by
  have hrun : ¬ (!s.ptpRuns) = true := by
    rw [hruns]
    exact Bool.false_ne_true
  refine ⟨_, congrArg Host.Outcome.next ((if_neg hrun).trans ((if_pos rfl).trans (if_pos hmaster))), ?_,
    u8 (s.val ethObj 0x0024 0) ++ u8 248 ++ u8 0xFE ++ u8 (s.val ethObj 0x0024 1) ++ u8 0xA0, ?_⟩
  · rw [State.send_clock]
    rfl
  · unfold State.lastSent
    rw [State.send_sent, List.getLast?_concat]
    rfl

/-- The master's Sync with its Follow_Up (19 R495). -/
theorem exec_ptpSyncSent {s : State} (hruns : s.ptpRuns = true) (hmaster : s.clock.ptp = 6) : ∃ t, exec (.ptpMessageInterval 1) s = .next t ∧
    t.clock.seqs = s.clock.seqs.set 1 ((s.clock.seqs[1] + 1) % 65536) ∧
    t.lastSent = some (.ptp s.ptpPort.val 8 s.clock.seqs[1] s.ptpServed []) := by
  have hrun : ¬ (!s.ptpRuns) = true := by
    rw [hruns]
    exact Bool.false_ne_true
  refine ⟨_, congrArg Host.Outcome.next ((if_neg hrun).trans ((if_neg (by decide)).trans ((if_pos rfl).trans (if_pos hmaster)))), ?_, ?_⟩
  · unfold State.stamp
    rw [State.send_clock, State.irqRaise_clock, State.send_clock]
    rfl
  · unfold State.lastSent
    rw [State.send_sent, List.getLast?_concat]
    rfl

/-- The state after a delay request of kind `kind` (19 R495). -/
def State.asksDelay (s : State) (kind : Nat) : State :=
  (((s.modClock fun c => { c with seqs := c.seqs.set 2 ((s.clock.seqs[2] + 1) % 65536) }).send (.ptp s.ptpPort.val kind s.clock.seqs[2] 0 [])).stamp).modClock
    fun c => { c with delayWait := some (s.clock.seqs[2], macTime s.now, none) }

theorem State.asksDelay_sent (s : State) (kind : Nat) : (s.asksDelay kind).lastSent = some (.ptp s.ptpPort.val kind s.clock.seqs[2] 0 []) := by
  unfold State.asksDelay State.lastSent State.stamp
  rw [State.modClock_dict, State.irqRaise_dict, State.send_sent, List.getLast?_concat]

theorem exec_ptpDelayAsked {s : State} (hruns : s.ptpRuns = true) (hbound : s.peerDelay = true ∨ s.clock.ptp = 8 ∨ s.clock.ptp = 9) :
    ∃ t, exec (.ptpMessageInterval 2) s = .next t ∧ t.clock.delayWait = some (s.clock.seqs[2], macTime s.now, none) ∧
      t.lastSent = some (.ptp s.ptpPort.val (if s.peerDelay then 2 else 1) s.clock.seqs[2] 0 []) := by
  have hrun : ¬ (!s.ptpRuns) = true := by
    rw [hruns]
    exact Bool.false_ne_true
  have hasks : exec (.ptpMessageInterval 2) s = .next (s.asksDelay (if s.peerDelay then 2 else 1)) := by
    refine congrArg Host.Outcome.next ((if_neg hrun).trans ((if_neg (by decide)).trans ((if_neg (by decide)).trans ?_)))
    by_cases hpeer : s.peerDelay = true
    · rw [if_pos hpeer, if_pos hpeer]
      rfl
    · rw [if_neg hpeer, if_neg hpeer]
      refine if_pos ?_
      rw [Bool.or_eq_true, decide_eq_true_eq, decide_eq_true_eq]
      exact hbound.resolve_left hpeer
  exact ⟨_, hasks, rfl, s.asksDelay_sent _⟩

/-- Settles O48: the messages of the clock, its Announce receipt timeout and its own messages. -/
theorem ptpClock : Obligations.PtpClock := by
  intro s hruns
  refine ⟨fun seq hbound => ⟨_, exec_ptpMessageReceived hruns _, ?_⟩, fun gm offset leap => ?_,
    fun t0 => exec_announceReceiptTimeout hruns, exec_ptpAnnounceSent hruns, exec_ptpSyncSent hruns, exec_ptpDelayAsked hruns⟩
  · rw [State.ptpMessage_sync _ (by rw [State.ethIn_clock]; exact hbound), State.ethIn_clock, State.ethIn_now]
  have hfollows := (s.ethIn s.ptpPort).ptpMessage_slave gm leap offset
  rw [State.ethIn_clock, State.ethIn_now] at hfollows
  exact ⟨_, exec_ptpMessageReceived hruns _, hfollows.gm, hfollows.leap, hfollows.offset, hfollows.at_, hfollows.stays, hfollows.begins⟩

end Sys2Proof.Machine

/-! Obligation O20: the trigger, the ends of a traverse and of a slow round, the loss of the link sense (05 R142 to R168, 09 R255). -/

namespace Sys2Proof.Machine

-- One thread per theorem would be more than the compiler's memory limit allows.
set_option Elab.async false

/-! ## What a traverse stands on -/

/-- The present traverse, and of each buffer the number with `used` and `complete`. -/
def Traverse.heads (v : Traverse) : Option Nat × Nat × Nat × Bool × (Fin 8 → Nat × Bool × Bool) :=
  (v.number, v.next, v.t0, v.running, fun k => (v.bufs[k].number, v.bufs[k].used, v.bufs[k].complete))

/-- The slow round open, and whether one has completed. -/
def Traverse.slowHeads (v : Traverse) : Bool × Bool := (v.slowOpen, v.slowDone)

/-- The frames on their way to the belay logic. -/
def Traverse.waiting (v : Traverse) : List RxFrame × List Piece := (v.portQ, v.tapQ)

/-- What runs of commands keep, they keep as a whole. -/
theorem forEach_fixes {α β : Type} {get : State → β} {f : State → α → State} (h : ∀ t a, get (f t a) = get t) (s : State) (l : List α) :
    get (s.forEach l f) = get s := forEach_keeps (P := fun t => get t = get s) (fun t a ht => (h t a).trans ht) s l rfl

theorem Traverse.heads_number {v w : Traverse} (h : v.heads = w.heads) : v.number = w.number := congrArg Prod.fst h
theorem Traverse.heads_next {v w : Traverse} (h : v.heads = w.heads) : v.next = w.next := congrArg (·.2.1) h
theorem Traverse.heads_t0 {v w : Traverse} (h : v.heads = w.heads) : v.t0 = w.t0 := congrArg (·.2.2.1) h
theorem Traverse.heads_running {v w : Traverse} (h : v.heads = w.heads) : v.running = w.running := congrArg (·.2.2.2.1) h

theorem Traverse.heads_buf {v w : Traverse} (h : v.heads = w.heads) (k : Fin 8) :
    v.bufs[k].number = w.bufs[k].number ∧ v.bufs[k].used = w.bufs[k].used ∧ v.bufs[k].complete = w.bufs[k].complete := by
  have hk := congrFun (congrArg (·.2.2.2.2) h) k
  exact ⟨congrArg Prod.fst hk, congrArg (·.2.1) hk, congrArg (·.2.2) hk⟩

/-- A change of a buffer that leaves its number and its state leaves the heads. -/
theorem Traverse.heads_bufs (v : Traverse) (k : Fin 8) {f : TravBuf → TravBuf}
    (h : (f v.bufs[k]).number = v.bufs[k].number ∧ (f v.bufs[k]).used = v.bufs[k].used ∧ (f v.bufs[k]).complete = v.bufs[k].complete) :
    { v with bufs := upd v.bufs k f }.heads = v.heads := by
  obtain ⟨hnumber, hused, hcomplete⟩ := h
  refine congrArg (v.number, v.next, v.t0, v.running, ·) (funext fun j => ?_)
  dsimp only
  rw [upd_get]
  split
  next hkj =>
    subst hkj
    rw [hnumber, hused, hcomplete]
  next => rfl

theorem State.modBuf_heads (s : State) (k : Fin 8) {f : TravBuf → TravBuf}
    (h : (f s.trav.bufs[k]).number = s.trav.bufs[k].number ∧ (f s.trav.bufs[k]).used = s.trav.bufs[k].used ∧
      (f s.trav.bufs[k]).complete = s.trav.bufs[k].complete) : (s.modBuf k f).trav.heads = s.trav.heads := s.trav.heads_bufs k h

theorem forEach_heads {α : Type} {f : State → α → State} (h : ∀ t a, (f t a).trav.heads = t.trav.heads) (s : State) (l : List α) :
    (s.forEach l f).trav.heads = s.trav.heads := forEach_fixes (get := fun t => t.trav.heads) h s l

theorem forEach_slowHeads {α : Type} {f : State → α → State} (h : ∀ t a, (f t a).trav.slowHeads = t.trav.slowHeads) (s : State) (l : List α) :
    (s.forEach l f).trav.slowHeads = s.trav.slowHeads := forEach_fixes (get := fun t => t.trav.slowHeads) h s l

/-! ## DMA -/

theorem State.portStat_trav (s : State) (i : Fin 40) (e : PortEnd) (k : Fin 10) (n : Nat) : (s.portStat i e k n).trav = s.trav :=
  same_of_blank (p := .trav) (State.portStat_in (m := only [.ropes]) rfl s i e k n) rfl

/-- What DMA writes of the traverse: slots, fills and link values. -/
theorem State.openSlot_trav (s : State) (h : RxHead) : (s.openSlot h).trav.heads = s.trav.heads ∧ (s.openSlot h).trav.slowHeads = s.trav.slowHeads ∧
    (s.openSlot h).trav.waiting = s.trav.waiting := by
  unfold State.openSlot
  extract_lets k base fill b put j key
  have hput : ∀ j overflow, (put j overflow).trav.heads = s.trav.heads ∧ (put j overflow).trav.slowHeads = s.trav.slowHeads ∧
      (put j overflow).trav.waiting = s.trav.waiting := fun j overflow => ⟨s.trav.heads_bufs k ⟨rfl, rfl, rfl⟩, rfl, rfl⟩
  split
  · split
    · exact hput _ _
    · split
      · exact hput _ _
      · split
        · exact hput _ _
        · have hstat := s.portStat_trav (Fin.ofNat 40 h.owner) h.end_ 6 1
          exact ⟨(congrArg Traverse.heads hstat :), (congrArg Traverse.slowHeads hstat :), (congrArg Traverse.waiting hstat :)⟩
  · split
    · exact ⟨rfl, rfl, rfl⟩
    · exact ⟨rfl, rfl, rfl⟩

theorem State.dmaWrite_trav (s : State) (p : Piece) : (s.dmaWrite p).trav.heads = s.trav.heads ∧ (s.dmaWrite p).trav.slowHeads = s.trav.slowHeads ∧
    (s.dmaWrite p).trav.waiting = s.trav.waiting := by
  unfold State.dmaWrite
  extract_lets h opened add
  split
  · split
    · exact ⟨rfl, rfl, rfl⟩
    · exact ⟨s.trav.heads_bufs _ ⟨rfl, rfl, rfl⟩, rfl, rfl⟩
  · have hopened : opened.trav.heads = s.trav.heads ∧ opened.trav.slowHeads = s.trav.slowHeads ∧ opened.trav.waiting = s.trav.waiting := by
      unfold opened
      split
      · exact s.openSlot_trav h
      · exact ⟨rfl, rfl, rfl⟩
    split
    · exact ⟨(opened.trav.heads_bufs _ ⟨rfl, rfl, rfl⟩).trans hopened.1, hopened.2⟩
    · exact hopened
    · exact hopened

theorem State.dmaDrain_trav (s : State) : s.dmaDrain.trav.heads = s.trav.heads ∧ s.dmaDrain.trav.slowHeads = s.trav.slowHeads ∧
    s.dmaDrain.trav.waiting = s.trav.waiting := by
  have hrun := forEach_keeps (P := fun t => t.trav.heads = s.trav.heads ∧ t.trav.slowHeads = s.trav.slowHeads ∧ t.trav.waiting = s.trav.waiting)
    (fun t p ⟨hheads, hslow, hwait⟩ => ⟨(t.dmaWrite_trav p).1.trans hheads, (t.dmaWrite_trav p).2.1.trans hslow, (t.dmaWrite_trav p).2.2.trans hwait⟩)
    s s.trav.dmaQ ⟨rfl, rfl, rfl⟩
  exact hrun

/-! ## Firmware at the end of a traverse -/

theorem State.publishStr_heads (s : State) (k : Fin 8) (i : Fin 40) : (s.publishStr k i).trav.heads = s.trav.heads := by
  unfold State.publishStr
  extract_lets b r ps note seen flag old base blk measured mapped blocked flagged volts cells timed
  have hblocked : blocked.trav.heads = s.trav.heads := mapped.modBuf_heads k ⟨rfl, rfl, rfl⟩
  clear_value note seen flag old base blk
  have hflagged : flagged.trav.heads = blocked.trav.heads := by
    unfold flagged
    refine forEach_heads (fun t p => ?_) blocked ps
    refine (State.modBuf_heads _ k ?_).trans ?_
    · exact ⟨rfl, rfl, rfl⟩
    · rfl
  have hvolts : volts.trav.heads = flagged.trav.heads := by
    unfold volts
    refine forEach_heads (fun t p => ?_) flagged _
    refine forEach_heads (fun t j => ?_) t _
    rfl
  have hcells : cells.trav.heads = volts.trav.heads := by
    unfold cells
    refine forEach_heads (fun t e => ?_) volts _
    exact t.modBuf_heads k ⟨rfl, rfl, rfl⟩
  have htimed : timed.trav.heads = s.trav.heads := ((hcells.trans hvolts).trans hflagged).trans hblocked
  clear_value timed
  split
  · exact htimed
  · exact htimed

theorem State.publish_heads (s : State) (k : Fin 8) : (s.publish k).trav.heads = s.trav.heads := by
  unfold State.publish
  extract_lets strs written named p seen counted
  have hstrs : strs.trav.heads = s.trav.heads := by
    unfold strs
    exact forEach_heads (fun t i => t.publishStr_heads k i) s _
  have hwritten : written.trav.heads = strs.trav.heads := by
    unfold written
    exact strs.modBuf_heads k ⟨rfl, rfl, rfl⟩
  exact (hwritten.trans hstrs :)

/-- An occurrence of the belay-path class counts, and marks the path suspect (18 R463, Table 18-1). -/
theorem State.occurrence_path (s : State) (item : Nat) :
    (s.occurrence 4 item).blank (only [.fc, .health, .evlog, .irq]) = s.blank (only [.fc, .health, .evlog, .irq]) := by
  have hcount := State.countFault_in (m := only [.fc, .health, .evlog, .irq]) rfl rfl rfl rfl s 4 item
  unfold State.occurrence
  extract_lets r
  split
  · exact (State.event_in rfl rfl _ _ _ _ _).trans hcount
  · exact hcount

/-- What the comparison of a report leaves alone: the traverse, and that one has completed. -/
def State.Compared (s t : State) : Prop := t.trav = s.trav ∧ t.belay.traverseSeen = s.belay.traverseSeen

theorem State.Compared.of_blank {m : Part → Bool} {s t : State} (h : t.blank m = s.blank m) (h1 : m .trav = false) (h2 : m .belay = false)
    (h3 : m .records = false) : s.Compared t := ⟨same_of_blank (p := .trav) h h1, congrArg Belay.traverseSeen (belay_of_blank h h2 h3)⟩

theorem State.disagree_compared (s : State) (code : Nat) (i : Fin 40) (data : List Byte) : s.Compared (s.disagree code i data) := by
  obtain ⟨htrav, hseen⟩ := State.Compared.of_blank (((s.event code (strObj i) 0 data).modBelay fun b =>
    { b with disagreeCount := sat32 b.disagreeCount, seen := b.seen ||| 0x20 }).occurrence_path 0) rfl rfl rfl
  refine ⟨htrav.trans (State.event_trav ..), hseen.trans ?_⟩
  rw [State.modBelay_belay, State.event_belay]

theorem State.compareCount_compared (s : State) (i : Fin 40) : s.Compared (s.compareCount i) := by
  unfold State.compareCount
  extract_lets wrong t
  split
  · exact ⟨State.event_trav .., by rw [State.event_belay]; rfl⟩
  · exact ⟨rfl, rfl⟩

theorem State.compareExtremes_compared (s : State) (i : Fin 40) (b : TravBuf) (r : BelayReport) : s.Compared (s.compareExtremes i b r) := by
  unfold State.compareExtremes
  extract_lets blk seen vs own cut theirs
  split
  · exact ⟨rfl, rfl⟩
  · exact s.disagree_compared ..

theorem State.compareBitmap_compared (s : State) (i : Fin 40) (b : TravBuf) (r : BelayReport) : s.Compared (s.compareBitmap i b r) := by
  unfold State.compareBitmap
  extract_lets own
  split
  · exact ⟨rfl, rfl⟩
  · exact s.disagree_compared ..

theorem State.takeReport_compared (s : State) (r : BelayReport) : s.Compared (s.takeReport r) := by
  unfold State.takeReport
  extract_lets i b
  split
  · exact ⟨rfl, rfl⟩
  split
  · exact s.compareCount_compared i
  split
  · exact ⟨rfl, rfl⟩
  split
  · obtain ⟨htrav, hseen⟩ := s.compareExtremes_compared i b r
    obtain ⟨htrav', hseen'⟩ := (s.compareExtremes i b r).compareCount_compared i
    exact ⟨htrav'.trans htrav, hseen'.trans hseen⟩
  · exact s.compareBitmap_compared i b r

theorem State.takeReports_compared (s : State) : s.Compared s.takeReports :=
  forEach_keeps (P := fun t => s.Compared t)
    (fun t r ⟨htrav, hseen⟩ => ⟨(t.takeReport_compared r).1.trans htrav, (t.takeReport_compared r).2.trans hseen⟩)
    (s.modBelay fun b => { b with reports := [] }) s.belay.reports ⟨rfl, rfl⟩

theorem State.repairMirror_compared (s : State) : s.Compared s.repairMirror := by
  unfold State.repairMirror
  split
  · exact ⟨rfl, rfl⟩
  · exact ⟨State.event_trav .., by rw [State.event_belay]; rfl⟩

/-- The traverse as firmware's part of an end keeps it. -/
def State.Ended (s t : State) : Prop := t.trav.heads = s.trav.heads ∧ t.belay.traverseSeen = s.belay.traverseSeen

theorem State.Ended.trans {s t u : State} (h : s.Ended t) (k : t.Ended u) : s.Ended u := ⟨k.1.trans h.1, k.2.trans h.2⟩

theorem State.Compared.ended {s t : State} (h : s.Compared t) : s.Ended t := ⟨congrArg Traverse.heads h.1, h.2⟩

/-- Parts the path's own operations change at an end. -/
def endParts : Part → Bool := only [.strs, .evlog, .banks, .irq, .gates, .seng, .dict, .values, .io, .mode, .eths, .cans]

theorem State.firmwareEnd_ended (s : State) : s.Ended s.firmwareEnd := by
  unfold State.firmwareEnd
  extract_lets repaired ready banked placed
  have hpublished : s.Ended (s.forEach s.unpublished State.publish) :=
    ⟨forEach_heads State.publish_heads s _,
      congrArg Belay.traverseSeen (belay_of_blank (forEach_in (m := only [.trav, .est, .bal, .corr, .ropes])
        (fun t k => by apply State.publish_in <;> rfl) s s.unpublished) rfl rfl)⟩
  have hdecided : (s.forEach s.unpublished State.publish).takeReports.Ended (s.forEach s.unpublished State.publish).takeReports.decideHeld :=
    (State.Compared.of_blank (m := endParts) (by apply State.decideHeld_in <;> rfl) rfl rfl rfl).ended
  have hrepaired : s.Ended repaired :=
    ((hpublished.trans (State.takeReports_compared _).ended).trans hdecided).trans (State.repairMirror_compared _).ended
  have hrest : placed.summarise.blank endParts = repaired.blank endParts := by
    have hready : ready.blank endParts = repaired.blank endParts := forEach_in (fun t i => by apply State.updateReady_in <;> rfl) _ _
    have hbanked : banked.blank endParts = ready.blank endParts := forEach_in (fun t b => by apply State.updateBank_in <;> rfl) _ _
    have hplaced : placed.blank endParts = banked.blank endParts := forEach_in (fun t i => State.placeRequest_in rfl t i) _ _
    exact (((State.summarise_in rfl rfl placed).trans hplaced).trans hbanked).trans hready
  exact hrepaired.trans (State.Compared.of_blank hrest rfl rfl rfl).ended

/-! ## Firmware on a slow round -/

/-- The traverse as the values of a slow round leave it. -/
def State.SlowTaken (s t : State) : Prop := s.Ended t ∧ t.trav.slowHeads = s.trav.slowHeads

/-- The heads of the traverse and of the slow round stand. -/
def State.HeadsStand (s t : State) : Prop := t.trav.heads = s.trav.heads ∧ t.trav.slowHeads = s.trav.slowHeads

theorem State.HeadsStand.trans {s t u : State} (h : s.HeadsStand t) (k : t.HeadsStand u) : s.HeadsStand u := ⟨k.1.trans h.1, k.2.trans h.2⟩

theorem State.HeadsStand.forEach {α : Type} {f : State → α → State} (h : ∀ (t : State) a, t.HeadsStand (f t a)) (s : State) (l : List α) :
    s.HeadsStand (s.forEach l f) := ⟨forEach_heads (fun t a => (h t a).1) s l, forEach_slowHeads (fun t a => (h t a).2) s l⟩

theorem State.publishSlow_heads (s : State) (b : SlowBuf) (i : Fin 40) (p : Nat) : s.HeadsStand (s.publishSlow b i p) := by
  unfold State.publishSlow
  extract_lets slot temp hk flagged housed read temps
  have hflagged : s.HeadsStand flagged := ⟨rfl, rfl⟩
  clear_value flagged temp hk
  have hhoused : flagged.HeadsStand housed := by
    unfold housed
    cases hk
    · exact ⟨rfl, rfl⟩
    · refine State.HeadsStand.forEach (fun t h => ?_) flagged _
      exact ⟨rfl, rfl⟩
  have htemps : housed.HeadsStand temps := by
    unfold temps
    split
    · exact ⟨rfl, rfl⟩
    · refine State.HeadsStand.forEach (fun t h => ?_) housed _
      exact ⟨rfl, rfl⟩
  have hall := (hflagged.trans hhoused).trans htemps
  clear_value temps
  refine hall.trans (State.HeadsStand.forEach (fun t j => ?_) temps _)
  split
  · exact ⟨rfl, rfl⟩
  · exact ⟨rfl, rfl⟩

theorem State.firmwareSlow_taken (s : State) (k : Fin 2) : s.SlowTaken (s.firmwareSlow k) := by
  unfold State.firmwareSlow
  extract_lets b read shown masked
  have hread : s.HeadsStand read := by
    unfold read
    exact .forEach (fun t i => .forEach (fun t p => t.publishSlow_heads b i p) t _) s _
  have hshown : read.HeadsStand shown := ⟨rfl, rfl⟩
  have hbelay : shown.belay = s.belay := by
    have hblank : read.blank (only [.trav, .est]) = s.blank (only [.trav, .est]) := by
      unfold read
      exact forEach_in (fun t i => forEach_in (fun t p => by apply State.publishSlow_in <;> rfl) t _) s _
    exact belay_of_blank (m := only [.trav, .est]) ((State.modTrav_in rfl read _).trans hblank) rfl rfl
  clear_value shown
  have hin := State.formMasks_in (m := only [.bal, .ropes]) rfl rfl shown
  have htrav : masked.trav = shown.trav := same_of_blank (p := .trav) hin rfl
  have hmasked : masked.belay = shown.belay := belay_of_blank hin rfl rfl
  clear_value masked
  obtain ⟨hheads, hslow⟩ := hread.trans hshown
  exact ⟨⟨(congrArg Traverse.heads htrav).trans hheads, (congrArg Belay.traverseSeen (hmasked.trans hbelay) :)⟩,
    (congrArg Traverse.slowHeads htrav).trans hslow⟩

theorem State.takeSlow_taken (s : State) : s.SlowTaken s.takeSlow := by
  unfold State.takeSlow
  split
  · split
    · exact s.firmwareSlow_taken _
    · exact ⟨⟨rfl, rfl⟩, rfl⟩
  · exact ⟨⟨rfl, rfl⟩, rfl⟩

theorem State.startLearned_ended (s : State) : s.Ended s.startLearned :=
  (State.Compared.of_blank (m := only [.bal, .corr, .est, .evlog, .irq, .start, .store]) (by apply State.startLearned_in <;> rfl) rfl rfl rfl).ended

/-! ## The end of a traverse -/

theorem State.belayEnd_seen {s : State} (h : s.belay.released = true) : s.belayEnd.belay.traverseSeen = true := by
  unfold State.belayEnd
  rw [if_neg (by rw [h]; decide)]
  extract_lets slow counted seen
  refine forEach_keeps (P := fun t => t.belay.traverseSeen = true) (fun t r ht => ?_) _ _ rfl
  unfold State.postReport
  split
  · exact ht
  · rw [State.modBelay_belay, State.event_belay, State.irqRaise_belay]
    exact ht

/-- The end of a traverse completes its buffer and leaves the traverse and the others as they were; a belay logic that runs has seen it. -/
theorem State.complete_completes (s : State) : s.complete.trav.bufs[s.curBuf].complete = true ∧ s.complete.trav.number = s.trav.number ∧
    (s.belay.released = true → s.complete.belay.traverseSeen = true) := by
  unfold State.complete
  extract_lets k drained noted marked shown silent seen missed counted charged
  have hnoted : noted.trav.heads = s.trav.heads :=
    (forEach_heads (fun t i => t.modBuf_heads k ⟨rfl, rfl, rfl⟩) drained _).trans s.dmaDrain_trav.1
  have hmarked : marked.trav = (noted.modBuf k fun b => { b with complete := true, done := noted.sysTicks }).trav := State.irqRaise_trav ..
  have hshown : shown.trav.bufs[k].complete = true ∧ shown.trav.number = s.trav.number := by
    change marked.trav.bufs[k].complete = true ∧ marked.trav.number = _
    rw [hmarked]
    refine ⟨?_, (Traverse.heads_number hnoted :)⟩
    change (upd noted.trav.bufs k _)[k].complete = true
    rw [upd_get, if_pos rfl]
  have hsilent : silent.blank (only [.ropes, .evlog, .irq]) = shown.blank (only [.ropes, .evlog, .irq]) :=
    forEach_in (fun t i => State.endRope_in rfl rfl rfl t i) _ _
  have hmissed : missed.blank (only [.bstr, .evlog, .irq, .strs, .belay, .banks]) = silent.blank (only [.bstr, .evlog, .irq, .strs, .belay, .banks]) :=
    (forEach_in (fun t b => State.modBank_in rfl t b _) _ _).trans (by apply State.belayEnd_in <;> rfl)
  have hcounted : counted.blank (only [.corr, .ropes, .evlog, .irq]) = missed.blank (only [.corr, .ropes, .evlog, .irq]) :=
    forEach_in (fun t i => by apply State.countCharge_in <;> rfl) _ _
  have hseen : s.belay.released = true → missed.belay.traverseSeen = true := by
    intro hreleased
    have hbefore : silent.belay = s.belay := by
      have hdrained : noted.blank (only [.trav, .ropes]) = s.blank (only [.trav, .ropes]) :=
        (forEach_in (fun t i => State.modTrav_in rfl t _) _ _).trans (State.dmaDrain_in rfl rfl s)
      have hirq : marked.belay = noted.belay := State.irqRaise_belay ..
      exact ((belay_of_blank hsilent rfl rfl).trans hirq).trans (belay_of_blank hdrained rfl rfl)
    have hend : missed.belay = silent.belayEnd.belay :=
      belay_of_blank (m := only [.banks]) (forEach_in (fun t b => State.modBank_in rfl t b _) _ _) rfl rfl
    rw [hend]
    exact State.belayEnd_seen (hbefore ▸ hreleased)
  clear_value shown silent missed counted
  have hcharged : shown.trav.heads = charged.trav.heads := by
    have htrav : counted.trav = shown.trav :=
      ((same_of_blank (p := .trav) hcounted rfl).trans (same_of_blank (p := .trav) hmissed rfl)).trans (same_of_blank (p := .trav) hsilent rfl)
    rw [← htrav]
    exact (counted.modBuf_heads k ⟨rfl, rfl, rfl⟩).symm
  have hcharged' : s.belay.released = true → charged.belay.traverseSeen = true := fun h =>
    (congrArg Belay.traverseSeen (belay_of_blank hcounted rfl rfl)).trans (hseen h)
  clear_value charged
  have hfirmware : charged.Ended (if charged.fwActs then charged.takeSlow.firmwareEnd.startLearned else charged) := by
    split
    · exact (charged.takeSlow_taken.1.trans (State.firmwareEnd_ended _)).trans (State.startLearned_ended _)
    · exact ⟨rfl, rfl⟩
  obtain ⟨hheads, hbelay⟩ := hfirmware
  exact ⟨(Traverse.heads_buf (hheads.trans hcharged.symm) k).2.2.trans hshown.1, (Traverse.heads_number (hheads.trans hcharged.symm)).trans hshown.2,
    fun h => hbelay.trans (hcharged' h)⟩

/-- `TRAVERSE_COMPLETE` (05 R167). -/
theorem exec_traverseComplete {s : State} (hnumber : s.trav.number.isSome = true) (hused : s.trav.bufs[s.curBuf].used = true)
    (hopen : s.trav.bufs[s.curBuf].complete = false) (hdone : s.readsDone = true) : exec .traverseComplete s = .next s.complete := by
  refine congrArg Host.Outcome.next (if_pos ?_)
  rw [hnumber, hused, hopen, hdone]
  rfl

/-! ## The trigger -/

/-- The state a trigger finds: the lines idle, the traverse before it ended, what waited for the boundary in force (05 R158, R167, 04 R124). -/
def State.atTrigger (s : State) (busy : List Nat) (bad : List (Nat × Nat)) : State :=
  ((s.spoilCopies bad).clearFrames.forEach busy State.abandon).overrun.boundary

theorem State.atTrigger_now (s : State) (busy : List Nat) (bad : List (Nat × Nat)) : (s.atTrigger busy bad).now = s.now := by
  refine now_of_blank (m := fun _ => true) ?_
  have hstart : (s.spoilCopies bad).clearFrames.blank (fun _ => true) = s.blank (fun _ => true) :=
    (State.clearFrames_in rfl _).trans (State.spoilCopies_in rfl s bad)
  have habandoned : ((s.spoilCopies bad).clearFrames.forEach busy State.abandon).blank (fun _ => true) = s.blank (fun _ => true) :=
    (forEach_in (fun t n => by apply State.abandon_in <;> rfl) _ _).trans hstart
  have hover : ((s.spoilCopies bad).clearFrames.forEach busy State.abandon).overrun.blank (fun _ => true) = s.blank (fun _ => true) :=
    Eq.trans (by apply State.overrun_in <;> rfl) habandoned
  exact Eq.trans (by apply State.boundary_in <;> rfl) hover

theorem State.notePeriod_heads (s : State) : s.notePeriod.trav.heads = s.trav.heads := by
  unfold State.notePeriod
  extract_lets p noted
  split
  · rfl
  · have hblank := forEach_in (m := only [.ropes]) (fun t i => State.broadcastConfig_in rfl t i) (noted.event 0x2001 blockObj 0 (u32 p)) s.installed
    refine congrArg Traverse.heads (same_of_blank (p := .trav) hblank rfl : _ = _) |>.trans ?_
    rw [State.event_trav]
    rfl

theorem State.missedSlow_heads (s : State) : s.missedSlow.trav.heads = s.trav.heads := by
  unfold State.missedSlow
  split
  · rfl
  · extract_lets missed
    have hmissed : missed.trav.heads = s.trav.heads := by
      unfold missed
      refine forEach_heads (fun t i => ?_) s _
      refine forEach_heads (fun t p => ?_) t _
      rw [State.event_trav]
      rfl
    clear_value missed
    exact (congrArg Traverse.heads (same_of_blank (p := .trav) (m := only [.bstr])
      (forEach_in (fun t i => State.countSlowUnseen_in rfl t i) missed allStr) rfl)).trans hmissed

theorem State.slowLatch_heads (s : State) (tn : Nat) (align : Bool) : (s.slowLatch tn align).trav.heads = s.trav.heads := by
  unfold State.slowLatch
  extract_lets missed p due n _ opened begun checked
  have hmissed : opened.trav.heads = s.trav.heads := s.missedSlow_heads
  have hbegun : begun.trav = opened.trav := same_of_blank (p := .trav) (m := only [.ropes, .bstr])
    (forEach_in (fun t i => (State.modBStr_in rfl _ i _).trans (State.modRope_in rfl t i _)) opened allStr) rfl
  have hchecked : checked.trav = begun.trav := same_of_blank (p := .trav) (m := only [.evlog, .belay, .irq])
    (by apply State.checkCopies_in <;> rfl) rfl
  exact (congrArg Traverse.heads (hchecked.trans hbegun)).trans hmissed

theorem State.slowBoundary_heads (s : State) (tn : Nat) (align : Bool) : (s.slowBoundary tn align).1.trav.heads = s.trav.heads := by
  unfold State.slowBoundary
  split
  · rfl
  · split
    · exact s.slowLatch_heads tn align
    · rfl

/-- The buffer of a new traverse, and what the sequencer holds of it. -/
theorem State.openBuf_opened (s : State) (tn : Nat) (slow align : Bool) :
    (s.openBuf tn slow align).trav.bufs[bufOf tn].number = tn ∧ (s.openBuf tn slow align).trav.bufs[bufOf tn].used = true ∧
    (s.openBuf tn slow align).trav.bufs[bufOf tn].complete = false ∧ (s.openBuf tn slow align).trav.number = s.trav.number ∧
    (s.openBuf tn slow align).trav.next = s.trav.next ∧ (s.openBuf tn slow align).trav.t0 = s.trav.t0 ∧
    (s.openBuf tn slow align).trav.running = s.trav.running := by
  unfold State.openBuf
  extract_lets k old lapped
  have hlapped : lapped.trav.heads = s.trav.heads := by
    unfold lapped
    split
    · rw [State.event_trav]
      rfl
    · rfl
  clear_value lapped
  have hbuf : ∀ f, (lapped.modBuf k f).trav.bufs[k] = f lapped.trav.bufs[k] := fun f => by
    change (upd lapped.trav.bufs k f)[k] = _
    rw [upd_get, if_pos rfl]
  rw [hbuf]
  exact ⟨rfl, rfl, rfl, (Traverse.heads_number hlapped :), (Traverse.heads_next hlapped :), (Traverse.heads_t0 hlapped :),
    (Traverse.heads_running hlapped :)⟩

theorem State.triggerRope_heads (s : State) (k : Fin 8) (tn : Nat) (slow : Bool) (i : Fin 40) :
    (s.triggerRope k tn slow i).trav.heads = s.trav.heads := by
  unfold State.triggerRope
  extract_lets r base rec_ withheld permit fresh longer held zeroed short _ noted carries
  have hlonger : longer.trav = fresh.trav := by
    unfold longer
    split
    · exact State.event_trav ..
    · rfl
  have hheld : held.trav = longer.trav := by
    unfold held
    split
    · exact State.event_trav ..
    · rfl
  have hzeroed : zeroed.trav = held.trav := by
    unfold zeroed
    split
    · exact same_of_blank (p := .trav) (State.zeroString_in (m := only [.bal, .ropes]) rfl rfl held i) rfl
    · rfl
  have hshort : short.trav = zeroed.trav :=
    same_of_blank (p := .trav) (State.noteShort_in (m := only [.ropes, .evlog, .irq]) rfl rfl rfl zeroed i) rfl
  have hstart : short.trav = s.trav := (((hshort.trans hzeroed).trans hheld).trans hlonger).trans rfl
  have hnoted : noted.trav.heads = s.trav.heads := (short.modBuf_heads k ⟨rfl, rfl, rfl⟩).trans (congrArg Traverse.heads hstart)
  clear_value noted
  refine (congrArg Traverse.heads (same_of_blank (p := .trav) (m := only [.ropes]) (forEach_in (fun t e => ?_) noted _) rfl)).trans hnoted
  exact (State.modEnd_in rfl _ i e _).trans ((State.portStat_in rfl _ i e _ _).trans ((State.predict_in rfl _ i _).trans (State.sendFrame_in rfl t i e _ _ _ _)))

theorem State.linkEntries_heads (s : State) (tn : Nat) (links : Vector (Option Nat) 4) : (s.linkEntries tn links).trav.heads = s.trav.heads := by
  unfold State.linkEntries
  refine forEach_heads (fun t b => ?_) s allBank
  extract_lets seen
  split
  · rfl
  · rfl

/-- What a trigger leaves (05 R142, R143, R161 to R163). -/
structure State.Triggered (s : State) (n : Nat) (t : State) : Prop where
  number : t.trav.number = some n
  next : t.trav.next = (n + 1) % 2 ^ 32
  t0 : t.trav.t0 = s.now
  running : t.trav.running = true
  buffer : t.trav.bufs[bufOf n].number = n ∧ t.trav.bufs[bufOf n].used = true ∧ t.trav.bufs[bufOf n].complete = false
  unseen : ∀ i : Fin 40, t.bstr[i].seenNow = 0

/-- What is sent and taken over at the boundary ahead of the trigger: `SET_SERVE`, the balancing mode, the source of time. -/
def State.aheadOfTrigger (s : State) : State :=
  let t := s.forEach s.installed fun t i =>
    (t.flushCasts i .a fun c => decide (c.code = 0x04)).flushCasts i .b fun c => decide (c.code = 0x04)
  let t := match t.bal.modeNext with
    | some m => t.modBal fun b => { b with mode := m, modeNext := none, allDue := true }
    | none => t
  t.takeSource

/-- The new traverse's number and instant, and the period it announces. -/
def State.numberTraverse (s : State) : State :=
  let tn := s.trav.next
  let t := s.modTrav fun v => { v with number := some tn, next := (tn + 1) % 2 ^ 32, t0 := s.now, running := true, belayGot := [] }
  (t.modCorr fun c => { c with next := some (c.next.getD tn) }).notePeriod

/-- The new traverse's buffer, its frames, and the belay logic's view of it. -/
def State.startTraverse (s : State) (tn : Nat) (align : Bool) : State :=
  let r := s.slowBoundary tn align
  let t := r.1.openBuf tn r.2 align
  let t := t.forEach t.installed (fun t i => t.triggerRope (bufOf tn) tn r.2 i)
  t.forEach allStr fun t i => t.modBStr i fun b => { b with seenNow := 0, extremes := none }

/-- The link entries of T0, and what the trigger reports. -/
def State.reportTrigger (s : State) (tn : Nat) (links : Vector (Option Nat) 4) (busy : List Nat) : State :=
  let t := s.linkEntries tn links
  let t := if !busy.isEmpty then ((t.modTrav fun v => { v with counts := upd v.counts 2 sat32, seen := v.seen ||| 0x800 }).irqRaise 15).event 0x2004 blockObj 0
      (u32 tn ++ u8 (busy.headD 0))
    else t
  let t := t.irqRaise 10
  if t.start.step = 4 then t.modStart fun a => { a with step := 5 } else t

theorem exec_traverseTriggerIssue_eq {s : State} (h : s.mayTrigger = true) (links : Vector (Option Nat) 4) (busy : List Nat) (bad : List (Nat × Nat)) :
    exec (.traverseTriggerIssue links busy bad) s = .next (((s.atTrigger busy bad).aheadOfTrigger.numberTraverse.startTraverse
      (s.atTrigger busy bad).aheadOfTrigger.trav.next (!busy.isEmpty)).reportTrigger (s.atTrigger busy bad).aheadOfTrigger.trav.next links busy) :=
  congrArg Host.Outcome.next (if_neg (by rw [h]; decide))

theorem State.aheadOfTrigger_keeps (s : State) : s.aheadOfTrigger.trav = s.trav ∧ s.aheadOfTrigger.now = s.now := by
  unfold State.aheadOfTrigger
  extract_lets served balanced
  have hserved : served.blank (only [.ropes]) = s.blank (only [.ropes]) :=
    forEach_in (fun t i => (State.flushCasts_in rfl _ i .b _).trans (State.flushCasts_in rfl t i .a _)) s s.installed
  have hbalanced : balanced.trav = served.trav ∧ balanced.now = served.now := by
    unfold balanced
    split
    · exact ⟨rfl, rfl⟩
    · exact ⟨rfl, rfl⟩
  have hsourced : balanced.takeSource.blank (only [.clock, .evlog, .irq, .utcBase, .utcAt]) = balanced.blank (only [.clock, .evlog, .irq, .utcBase, .utcAt]) := by
    apply State.takeSource_in <;> rfl
  exact ⟨((same_of_blank (p := .trav) hsourced rfl).trans hbalanced.1).trans (same_of_blank (p := .trav) hserved rfl),
    ((now_of_blank hsourced).trans hbalanced.2).trans (now_of_blank hserved)⟩

/-- What the sequencer holds of traverse `n`, issued at `at_`. -/
def Traverse.Stands (v : Traverse) (n at_ : Nat) : Prop := v.number = some n ∧ v.next = (n + 1) % 2 ^ 32 ∧ v.t0 = at_ ∧ v.running = true

theorem Traverse.Stands.of_heads {v w : Traverse} {n at_ : Nat} (h : v.Stands n at_) (hw : w.heads = v.heads) : w.Stands n at_ :=
  ⟨(Traverse.heads_number hw).trans h.1, (Traverse.heads_next hw).trans h.2.1, (Traverse.heads_t0 hw).trans h.2.2.1,
    (Traverse.heads_running hw).trans h.2.2.2⟩

theorem State.numberTraverse_stands (s : State) : s.numberTraverse.trav.Stands s.trav.next s.now := by
  unfold State.numberTraverse
  exact .of_heads ⟨rfl, rfl, rfl, rfl⟩ (State.notePeriod_heads _)

/-- The buffer of traverse `n` as its trigger leaves it. -/
def TravBuf.Opened (b : TravBuf) (n : Nat) : Prop := b.number = n ∧ b.used = true ∧ b.complete = false

theorem TravBuf.Opened.of_heads {v w : Traverse} {k : Fin 8} {n : Nat} (h : v.bufs[k].Opened n) (hw : w.heads = v.heads) : w.bufs[k].Opened n := by
  obtain ⟨hnumber, hused, hcomplete⟩ := Traverse.heads_buf hw k
  exact ⟨hnumber.trans h.1, hused.trans h.2.1, hcomplete.trans h.2.2⟩

/-- No reply of the new traverse is taken yet. -/
def BelayStr.beginTraverse (b : BelayStr) : BelayStr := { b with seenNow := 0, extremes := none }

theorem State.clearSeen_keeps (s : State) : (s.forEach allStr fun t i => t.modBStr i BelayStr.beginTraverse).trav = s.trav ∧
    ∀ i : Fin 40, (s.forEach allStr fun t i => t.modBStr i BelayStr.beginTraverse).bstr[i].seenNow = 0 := by
  refine ⟨same_of_blank (p := .trav) (m := only [.bstr]) (forEach_in (fun t i => State.modBStr_in rfl t i _) s allStr) rfl, fun i => ?_⟩
  refine forEach_mem (P := fun i t => t.bstr[i].seenNow = 0) (fun t a => ?_) (fun t a b hb => ?_) s allStr (List.mem_finRange i)
  · rw [State.modBStr_bstr, upd_get, if_pos rfl]
    rfl
  · rw [State.modBStr_bstr, upd_get]
    split
    · rfl
    · exact hb

theorem State.triggerRopes_heads (s : State) (k : Fin 8) (tn : Nat) (slow : Bool) (l : List (Fin 40)) :
    (s.forEach l fun t i => t.triggerRope k tn slow i).trav.heads = s.trav.heads := forEach_heads (fun t i => t.triggerRope_heads k tn slow i) s l

theorem State.startTraverse_starts {s : State} {n at_ : Nat} (h : s.trav.Stands n at_) (align : Bool) : (s.startTraverse n align).trav.Stands n at_ ∧
    (s.startTraverse n align).trav.bufs[bufOf n].Opened n ∧ ∀ i : Fin 40, (s.startTraverse n align).bstr[i].seenNow = 0 := by
  unfold State.startTraverse
  extract_lets r opened triggered
  have hround : r.1.trav.heads = s.trav.heads := s.slowBoundary_heads n align
  obtain ⟨hbuf, hused, hcomplete, hnumber, hnext, ht0, hrunning⟩ := r.1.openBuf_opened n r.2 align
  have hstands : opened.trav.Stands n at_ :=
    have hbefore := h.of_heads hround
    ⟨hnumber.trans hbefore.1, hnext.trans hbefore.2.1, ht0.trans hbefore.2.2.1, hrunning.trans hbefore.2.2.2⟩
  have hopened : opened.trav.bufs[bufOf n].Opened n := ⟨hbuf, hused, hcomplete⟩
  have htriggered : triggered.trav.heads = opened.trav.heads := opened.triggerRopes_heads ..
  clear_value triggered opened
  obtain ⟨hcleared, hunseen⟩ := triggered.clearSeen_keeps
  refine ⟨?_, ?_, hunseen⟩
  · exact (congrArg (Traverse.Stands · n at_) hcleared).mpr (hstands.of_heads htriggered)
  · exact (congrArg (fun v : Traverse => v.bufs[bufOf n].Opened n) hcleared).mpr (hopened.of_heads htriggered)

theorem State.reportTrigger_keeps (s : State) (tn : Nat) (links : Vector (Option Nat) 4) (busy : List Nat) :
    (s.reportTrigger tn links busy).trav.heads = s.trav.heads ∧ (s.reportTrigger tn links busy).bstr = s.bstr := by
  unfold State.reportTrigger
  extract_lets linked aligned raised
  have hlinked : linked.bstr = s.bstr := same_of_blank (p := .bstr) (State.linkEntries_in (m := only [.banks, .trav]) rfl rfl s tn links) rfl
  have haligned : aligned.trav.heads = linked.trav.heads ∧ aligned.bstr = linked.bstr := by
    unfold aligned
    split
    · rw [State.event_trav, State.event_bstr, State.irqRaise_trav, State.irqRaise_bstr]
      exact ⟨rfl, rfl⟩
    · exact ⟨rfl, rfl⟩
  have hraised : raised.trav.heads = s.trav.heads ∧ raised.bstr = s.bstr := by
    unfold raised
    rw [State.irqRaise_trav, State.irqRaise_bstr]
    exact ⟨haligned.1.trans (s.linkEntries_heads tn links), haligned.2.trans hlinked⟩
  clear_value raised
  split
  · exact hraised
  · exact hraised

theorem exec_traverseTriggerIssue {s : State} (h : s.mayTrigger = true) (links : Vector (Option Nat) 4) (busy : List Nat) (bad : List (Nat × Nat)) :
    ∃ t, exec (.traverseTriggerIssue links busy bad) s = .next t ∧ s.Triggered (s.atTrigger busy bad).trav.next t := by
  refine ⟨_, exec_traverseTriggerIssue_eq h links busy bad, ?_⟩
  obtain ⟨htrav, hnow⟩ := (s.atTrigger busy bad).aheadOfTrigger_keeps
  have hnumbered := (s.atTrigger busy bad).aheadOfTrigger.numberTraverse_stands
  rw [hnow, State.atTrigger_now] at hnumbered
  obtain ⟨hstands, hopened, hunseen⟩ := State.startTraverse_starts hnumbered (!busy.isEmpty)
  rw [htrav] at hstands hopened hunseen ⊢
  obtain ⟨hheads, hbstr⟩ := State.reportTrigger_keeps
    ((s.atTrigger busy bad).aheadOfTrigger.numberTraverse.startTraverse (s.atTrigger busy bad).trav.next (!busy.isEmpty))
    (s.atTrigger busy bad).trav.next links busy
  obtain ⟨hnumber, hnext, ht0, hrunning⟩ := hstands.of_heads hheads
  exact ⟨hnumber, hnext, ht0, hrunning, hopened.of_heads hheads, fun i => by rw [hbstr]; exact hunseen i⟩

/-! ## The link sense and the slow round -/

theorem exec_linkSenseLost_live {s : State} {b : Fin 4} (hmiss : 3 ≤ s.banks[b].linkMiss) (hlive : s.banks[b].state = .live) :
    exec (.linkSenseLost b) s = .next (s.modBank b fun c => { c with linkLost := true }) :=
  congrArg Host.Outcome.next ((if_neg (Nat.not_lt.mpr hmiss)).trans (if_pos hlive))

theorem exec_linkSenseLost_faults {s : State} {b : Fin 4} (hmiss : 3 ≤ s.banks[b].linkMiss) (hlive : s.banks[b].state ≠ .live)
    (hnot : s.banks[b].state ≠ .faulted) : exec (.linkSenseLost b) s = .next (s.faultBank b 5) :=
  congrArg Host.Outcome.next ((if_neg (Nat.not_lt.mpr hmiss)).trans ((if_neg hlive).trans (if_neg hnot)))

theorem exec_linkSenseLost {s : State} {b : Fin 4} (hmiss : 3 ≤ s.banks[b].linkMiss) : ∃ t, exec (.linkSenseLost b) s = .next t ∧
    (s.banks[b].state = .live → t = s.modBank b fun c => { c with linkLost := true }) ∧
    (s.banks[b].state ≠ .live → s.banks[b].state ≠ .faulted → t.banks[b].state = .faulted ∧ t.banks[b].faultCause = 5 ∧
      t.banks[b].modulator = false) := by
  refine ⟨_, rfl, fun hlive => Host.Outcome.next.inj (exec_linkSenseLost_live hmiss hlive), fun hlive hnot => ?_⟩
  rw [Host.Outcome.next.inj (exec_linkSenseLost_faults hmiss hlive hnot)]
  exact s.faultBank_faulted b 5

theorem State.countSlowUnseen_other (s : State) {i j : Fin 40} (h : i ≠ j) : (s.countSlowUnseen i).bstr[j] = s.bstr[j] := by
  refine (State.modBStr_other _ h _).trans ?_
  unfold State.countSlow
  split
  · rfl
  · exact State.modBStr_other s h _

/-- The slow round ends with its reads (05 R160). -/
theorem exec_slowRoundComplete {s : State} (hopen : s.trav.slowOpen = true) (hdone : s.slowReadsDone = true) :
    ∃ t, exec .slowRoundComplete s = .next t ∧ t.trav.slowOpen = false ∧ t.trav.slowDone = true ∧ ∀ i : Fin 40, t.bstr[i].slowSeen = true := by
  change ∃ t, execSlowRoundComplete s = _ ∧ _
  unfold execSlowRoundComplete
  rw [if_pos (by rw [hopen, hdone]; rfl)]
  extract_lets k drained ended counted stepped
  refine ⟨_, rfl, ?_⟩
  have hended : ended.trav.slowHeads = (false, true) := by
    unfold ended
    rw [State.irqRaise_trav]
    rfl
  have hcounted : counted.trav = ended.trav := same_of_blank (p := .trav) (m := only [.bstr])
    (forEach_in (fun t i => (State.modBStr_in rfl _ i _).trans (State.countSlowUnseen_in rfl t i)) ended allStr) rfl
  have hseen : ∀ i : Fin 40, counted.bstr[i].slowSeen = true := by
    intro i
    refine forEach_mem (P := fun i t => t.bstr[i].slowSeen = true) (fun t a => ?_) (fun t a b hb => ?_) ended allStr (List.mem_finRange i)
    · rw [State.modBStr_bstr, upd_get, if_pos rfl]
    · rw [State.modBStr_bstr, upd_get]
      split
      next => rfl
      next hab => rw [State.countSlowUnseen_other t hab, hb]
  clear_value counted
  have hstepped : stepped.trav = counted.trav ∧ stepped.bstr = counted.bstr := by
    unfold stepped
    split
    · exact ⟨rfl, rfl⟩
    · exact ⟨rfl, rfl⟩
  clear_value stepped
  have hslow : stepped.takeSlow.trav.slowHeads = (false, true) := by
    rw [(stepped.takeSlow_taken).2, hstepped.1, hcounted, hended]
  refine ⟨congrArg Prod.fst hslow, congrArg Prod.snd hslow, fun i => ?_⟩
  have hbstr : stepped.takeSlow.bstr = stepped.bstr :=
    same_of_blank (p := .bstr) (m := only [.bal, .belay, .est, .ropes, .trav]) (by apply State.takeSlow_in <;> rfl) rfl
  rw [hbstr, hstepped.2]
  exact hseen i

/-- Settles O20: the trigger, the end of a traverse, the loss of the link sense, the end of a slow round. -/
theorem traverses : Obligations.Traverses := by
  intro s
  refine ⟨fun links busy bad hmay => ?_, fun hnumber hused hopen hdone => ?_, fun b hmiss => exec_linkSenseLost hmiss,
    fun hopen hdone => exec_slowRoundComplete hopen hdone⟩
  · obtain ⟨t, hexec, ht⟩ := exec_traverseTriggerIssue hmay links busy bad
    exact ⟨t, _, hexec, rfl, ht.number, ht.next, ht.t0, ht.running, ht.buffer.1, ht.buffer.2.1, ht.buffer.2.2, ht.unseen⟩
  · obtain ⟨hcomplete, hsame, hseen⟩ := s.complete_completes
    exact ⟨_, exec_traverseComplete hnumber hused hopen hdone, hcomplete, hsame, hseen⟩

end Sys2Proof.Machine

/-! What the port engines of a rope keep while they send, count and receive (04 R113 to R127, 05 R157): the other ropes, the receive queues, the
replies accepted, the positions missing, and the timeouts counted. -/

namespace Sys2Proof.Machine

-- One thread per theorem would be more than the compiler's memory limit allows.
set_option Elab.async false

/-! ## One rope -/

/-- A port's missing positions stay missing, and its timeouts as many. -/
structure Port.Work (q r : Port) : Prop where
  missing : ∀ p, q.missing.testBit p = true → r.missing.testBit p = true
  timeouts : r.stats[4] = q.stats[4]

theorem Port.Work.refl (q : Port) : q.Work q := ⟨fun _ => id, rfl⟩

theorem Port.Work.trans {q r u : Port} (h : q.Work r) (k : r.Work u) : q.Work u := ⟨fun p hp => k.missing p (h.missing p hp), k.timeouts.trans h.timeouts⟩

/-- A rope's accepted replies stay accepted, and its ports' positions missing. -/
structure Rope.Work (r q : Rope) : Prop where
  taken : ∀ p, r.acceptedNow.testBit p = true → q.acceptedNow.testBit p = true
  ports : ∀ e, (r.port e).Work (q.port e)

theorem Rope.Work.of_same {r q : Rope} (h : q.acceptedNow = r.acceptedNow) (ha : q.portA = r.portA) (hb : q.portB = r.portB) : r.Work q := by
  refine ⟨fun p hp => by rw [h]; exact hp, fun e => ?_⟩
  cases e
  · rw [show q.port .a = r.port .a from ha]
    exact .refl _
  · rw [show q.port .b = r.port .b from hb]
    exact .refl _

theorem Rope.Work.modPort {r : Rope} {e : PortEnd} {f : Port → Port} (h : (r.port e).Work (f (r.port e))) : r.Work (r.modPort e f) := by
  cases e
  · refine ⟨fun _ => id, fun e => ?_⟩
    cases e
    · exact h
    · exact .refl _
  · refine ⟨fun _ => id, fun e => ?_⟩
    cases e
    · exact .refl _
    · exact h

theorem Rope.Work.trans {r q u : Rope} (h : r.Work q) (k : q.Work u) : r.Work u :=
  ⟨fun p hp => k.taken p (h.taken p hp), fun e => (h.ports e).trans (k.ports e)⟩

/-! ## The state -/

/-- What the port engines keep of what they do for rope `i`. -/
structure State.PortWork (i : Fin 40) (s t : State) : Prop where
  others : ∀ j, j ≠ i → t.ropes[j] = s.ropes[j]
  queue : t.trav.portQ = s.trav.portQ
  rope : s.ropes[i].Work t.ropes[i]

theorem State.PortWork.trans {i : Fin 40} {s t u : State} (h : State.PortWork i s t) (k : State.PortWork i t u) : State.PortWork i s u :=
  ⟨fun j hj => (k.others j hj).trans (h.others j hj), k.queue.trans h.queue, h.rope.trans k.rope⟩

theorem State.PortWork.of_same {i : Fin 40} {s t : State} (h : t.ropes = s.ropes) (hq : t.trav.portQ = s.trav.portQ) : State.PortWork i s t :=
  ⟨fun j _ => by rw [h], hq, by rw [h]; exact .of_same rfl rfl rfl⟩

theorem State.PortWork.of_blank {i : Fin 40} {m : Part → Bool} {s t : State} (h : t.blank m = s.blank m) (hr : m .ropes = false) (ht : m .trav = false) :
    State.PortWork i s t := .of_same (same_of_blank (p := .ropes) h hr) (congrArg Traverse.portQ (same_of_blank (p := .trav) h ht : _ = _))

theorem State.PortWork.refl (i : Fin 40) (s : State) : State.PortWork i s s := .of_same rfl rfl

theorem State.PortWork.modRope {i : Fin 40} {s : State} {f : Rope → Rope} (h : s.ropes[i].Work (f s.ropes[i])) : State.PortWork i s (s.modRope i f) := by
  refine ⟨fun j hj => ?_, rfl, ?_⟩
  · rw [State.modRope_ropes, upd_get_other _ _ (Ne.symm hj)]
  · rw [State.modRope_ropes, upd_get, if_pos rfl]
    exact h

theorem State.PortWork.modEnd {i : Fin 40} {s : State} {e : PortEnd} {f : Port → Port} (h : (s.ropes[i].port e).Work (f (s.ropes[i].port e))) :
    State.PortWork i s (s.modEnd i e f) := .modRope (.modPort h)

theorem State.PortWork.forEach {α : Type} {i : Fin 40} {s : State} {l : List α} {f : State → α → State} (h : ∀ t a, State.PortWork i t (f t a)) :
    State.PortWork i s (s.forEach l f) := forEach_keeps (P := State.PortWork i s) (fun t a ht => ht.trans (h t a)) s l (.refl i s)

/-- What a rope serves and in what state: its mode with the positions served, what waits for a boundary, its roll call. -/
def Rope.serving (r : Rope) : Nat × RopeMode × Option Nat × Option Nat × Option Nat × Option (RopeMode × Option Nat × Option Nat) × Option RopeMode × Bool × Nat × Nat :=
  (r.n, r.mode, r.lastA, r.firstB, r.req, r.due, r.rollMode, r.partial_, r.rollCall, r.result)

theorem Rope.modPort_serving (r : Rope) (e : PortEnd) (f : Port → Port) : (r.modPort e f).serving = r.serving := by
  cases e <;> rfl

/-- What the port engines keep besides while they send: what the rope serves. -/
structure State.Sends (i : Fin 40) (s t : State) : Prop where
  work : State.PortWork i s t
  serving : t.ropes[i].serving = s.ropes[i].serving

theorem State.Sends.trans {i : Fin 40} {s t u : State} (h : State.Sends i s t) (k : State.Sends i t u) : State.Sends i s u :=
  ⟨h.work.trans k.work, k.serving.trans h.serving⟩

theorem State.Sends.of_same {i : Fin 40} {s t : State} (h : t.ropes = s.ropes) (hq : t.trav.portQ = s.trav.portQ) : State.Sends i s t :=
  ⟨.of_same h hq, by rw [h]⟩

theorem State.Sends.of_blank {i : Fin 40} {m : Part → Bool} {s t : State} (h : t.blank m = s.blank m) (hr : m .ropes = false) (ht : m .trav = false) :
    State.Sends i s t := .of_same (same_of_blank (p := .ropes) h hr) (congrArg Traverse.portQ (same_of_blank (p := .trav) h ht : _ = _))

theorem State.Sends.refl (i : Fin 40) (s : State) : State.Sends i s s := .of_same rfl rfl

theorem State.Sends.modRope {i : Fin 40} {s : State} {f : Rope → Rope} (h : s.ropes[i].Work (f s.ropes[i]))
    (hs : (f s.ropes[i]).serving = s.ropes[i].serving) : State.Sends i s (s.modRope i f) :=
  ⟨.modRope h, by rw [State.modRope_ropes, upd_get, if_pos rfl]; exact hs⟩

theorem State.Sends.modEnd {i : Fin 40} {s : State} {e : PortEnd} {f : Port → Port} (h : (s.ropes[i].port e).Work (f (s.ropes[i].port e))) :
    State.Sends i s (s.modEnd i e f) := .modRope (.modPort h) (Rope.modPort_serving _ e f)

theorem State.Sends.forEach {α : Type} {i : Fin 40} {s : State} {l : List α} {f : State → α → State} (h : ∀ t a, State.Sends i t (f t a)) :
    State.Sends i s (s.forEach l f) := forEach_keeps (P := State.Sends i s) (fun t a ht => ht.trans (h t a)) s l (.refl i s)

/-! ## Counts and events -/

theorem State.portStat_sends (s : State) (i : Fin 40) (e : PortEnd) {k : Fin 10} (hk : k ≠ 4) (n : Nat) : State.Sends i s (s.portStat i e k n) := by
  refine .modEnd ⟨fun _ => id, ?_⟩
  exact (upd_getN _ k 4 (by decide) _).trans (if_neg fun h => hk (Fin.ext h))

theorem State.portEvent_sends (s : State) (i : Fin 40) (e : PortEnd) (code item : Nat) (data : List Byte) :
    State.Sends i s (s.portEvent i e code item data) :=
  .of_blank (m := only [.evlog, .irq]) (State.portEvent_in rfl rfl s i e code item data) rfl rfl

theorem State.countPos_work (s : State) (i : Fin 40) (kind p : Nat) : State.PortWork i s (s.countPos i kind p) := .modRope (.of_same rfl rfl rfl)

theorem State.addCast_sends (s : State) (i : Fin 40) (e : PortEnd) (c : Cast) : State.Sends i s (s.addCast i e c) := .modEnd ⟨fun _ => id, rfl⟩

theorem State.sendFrame_sends (s : State) (i : Fin 40) (e : PortEnd) (far : Bool) (code addr : Nat) (payload : List Byte) :
    State.Sends i s (s.sendFrame i e far code addr payload) := (s.portStat_sends i e (by decide) 1).trans (.modEnd ⟨fun _ => id, rfl⟩)

theorem State.predict_sends (s : State) (i : Fin 40) (ps : List Nat) : State.Sends i s (s.predict i ps) := by
  refine .modRope (.of_same rfl rfl rfl) ?_
  simp only [Rope.serving]

theorem ofNat_portNo (i : Fin 40) (e : PortEnd) : Fin.ofNat 40 (portNo i e - 1) = i := by
  refine Fin.ext ?_
  cases e
  · exact Nat.mod_eq_of_lt i.isLt
  · change (i.val + 40) % 40 = i.val
    rw [Nat.add_mod_right, Nat.mod_eq_of_lt i.isLt]

/-- An occurrence against a port or its rope leaves at most a move due (18 Table 18-1). -/
theorem State.countFailure_work (s : State) (i : Fin 40) (e : PortEnd) (p : Nat) (line : Bool) : State.PortWork i s (s.countFailure i e p line) := by
  have hcount : ∀ k item, State.PortWork i s (s.countFault k item).1 := fun k item =>
    .of_blank (m := only [.fc, .health, .evlog, .irq]) (State.countFault_in rfl rfl rfl rfl s k item) rfl rfl
  unfold State.countFailure
  split
  · refine State.occurrence_keeps (P := State.PortWork i s) (hcount 1 _) fun t ht => ht.trans ?_
    change State.PortWork i t (if 1 ≤ portNo i e ∧ portNo i e ≤ 80 then t.modPort (portNo i e) fun p => { p with moveDue := true } else t)
    split
    · unfold State.modPort
      rw [ofNat_portNo]
      refine .modRope ?_
      split
      · exact Rope.Work.modPort (e := .a) (f := fun p => { p with moveDue := true }) ⟨fun _ => id, rfl⟩
      · exact Rope.Work.modPort (e := .b) (f := fun p => { p with moveDue := true }) ⟨fun _ => id, rfl⟩
    · exact .refl i t
  · exact State.occurrence_keeps (P := State.PortWork i s) (hcount 2 _) fun t ht => ht

/-! ## Missing positions -/

theorem testBit_or {m p : Nat} (k : Nat) (h : m.testBit p = true) : (m ||| k).testBit p = true := by
  rw [Nat.testBit_or, h, Bool.true_or]

theorem testBit_or_pow (m p : Nat) : (m ||| 2 ^ p).testBit p = true := by
  rw [Nat.testBit_or, Nat.testBit_two_pow_self, Bool.or_true]

theorem State.queueFar_work (s : State) (i : Fin 40) (e : PortEnd) (p : Nat) : State.PortWork i s (s.queueFar i e p) := by
  unfold State.queueFar
  extract_lets r range
  refine State.PortWork.trans (.modRope ?_) (.of_blank (m := only [.irq]) (State.irqRaise_in rfl _ _) rfl rfl)
  refine Rope.Work.trans (q := { s.ropes[i] with farSent := s.ropes[i].farSent ||| 2 ^ e.bit }) (.of_same rfl rfl rfl) ?_
  exact Rope.Work.modPort ⟨fun _ => id, rfl⟩

theorem State.noteMissing_work (s : State) (i : Fin 40) (e : PortEnd) (p : Nat) : State.PortWork i s (s.noteMissing i e p) := by
  unfold State.noteMissing
  extract_lets t r
  have hmissing : State.PortWork i s t := .modEnd ⟨fun q hq => testBit_or _ hq, rfl⟩
  split
  · exact hmissing.trans (t.queueFar_work i e p)
  · exact hmissing

theorem State.noteMissing_missing (s : State) (i : Fin 40) (e : PortEnd) (p : Nat) :
    ((s.noteMissing i e p).ropes[i].port e).missing.testBit p = true := by
  unfold State.noteMissing
  extract_lets t r
  have hmissing : (t.ropes[i].port e).missing.testBit p = true := by
    unfold t State.modEnd
    rw [State.modRope_ropes, upd_get, if_pos rfl]
    cases e
    · exact testBit_or_pow _ p
    · exact testBit_or_pow _ p
  split
  · exact ((t.queueFar_work i e p).rope.ports e).missing p hmissing
  · exact hmissing

/-! ## Checks and hop delays -/

theorem State.continuityDone_work (s : State) (i : Fin 40) (e : PortEnd) (ok : Bool) : State.PortWork i s (s.continuityDone i e ok) := by
  unfold State.continuityDone
  extract_lets t r outcome broken good
  have hgood : State.PortWork i t good := .modRope (.of_same rfl rfl rfl)
  have hbroken : State.PortWork i t broken := .modRope (.of_same rfl rfl rfl)
  have hnoted : State.PortWork i s t := by
    refine .modRope ?_
    cases e <;> exact .of_same rfl rfl rfl
  clear_value outcome good broken t
  refine hnoted.trans ?_
  split
  · exact .refl i t
  split
  · split
    · exact .modRope (.of_same rfl rfl rfl)
    · split
      · exact .modRope (.of_same rfl rfl rfl)
      · exact hbroken.trans (State.portEvent_sends ..).work
  · split
    · exact .modRope (.of_same rfl rfl rfl)
    · split
      · exact (hgood.trans (.modRope (.of_same rfl rfl rfl))).trans (State.portEvent_sends ..).work
      · exact hgood

theorem State.sendServe_sends (s : State) (i : Fin 40) (e : PortEnd) (far : Bool) (ps : List Nat) : State.Sends i s (s.sendServe i e far ps) := by
  unfold State.sendServe
  split
  · exact .refl i s
  · exact (State.addCast_sends ..).trans (.modEnd ⟨fun _ => id, rfl⟩)

theorem State.echoReply_work (s : State) (i : Fin 40) (e : PortEnd) (p rtt : Nat) : State.PortWork i s (s.echoReply i e p rtt) := by
  unfold State.echoReply
  split
  · exact .refl i s
  · extract_lets es h mean d t
    have ht : State.PortWork i s t := .modEnd ⟨fun _ => id, rfl⟩
    clear_value t es
    split
    · exact .modEnd ⟨fun _ => id, rfl⟩
    · split
      · exact ht
      · exact (ht.trans (t.sendServe_sends i e false _).work).trans (.of_blank (m := only [.evlog, .irq]) (State.event_in rfl rfl _ _ _ _ _) rfl rfl)

/-! ## Sending -/

theorem State.noteSent_sends (s : State) (i : Fin 40) (e : PortEnd) (j : Job) : State.Sends i s (s.noteSent i e j) := by
  unfold State.noteSent
  extract_lets p off t read
  have hread : State.Sends i s read := State.Sends.trans (.modRope (.of_same rfl rfl rfl) rfl) (.of_same rfl rfl)
  clear_value read
  split
  · exact .modEnd ⟨fun _ => id, rfl⟩
  · split
    · exact (hread.trans (.modEnd ⟨fun _ => id, rfl⟩)).trans (State.portStat_sends _ i e (by decide) 1)
    · exact .modRope (.of_same rfl rfl rfl) rfl
    · exact .modRope (.of_same rfl rfl rfl) rfl
    · exact .modRope (.of_same rfl rfl rfl) rfl
    · exact .modRope (.of_same rfl rfl rfl) rfl
    · exact .modRope (.of_same rfl rfl rfl) rfl
    · exact .modEnd ⟨fun _ => id, rfl⟩
    · exact .of_same rfl rfl
    · exact .refl i s
    · exact .refl i s
    · exact .refl i s

theorem Port.closeWindow_work (q : Port) (kind : ReadKind) (start : Nat) : q.Work (q.closeWindow kind start) := by
  unfold Port.closeWindow
  split
  · exact .refl q
  · exact ⟨fun _ => id, rfl⟩

theorem State.startJob_sends (s : State) (i : Fin 40) (e : PortEnd) (start : Nat) (j : Job) : State.Sends i s (s.startJob i e start j) := by
  unfold State.startJob
  extract_lets t
  have hsent : State.Sends i s t := ((s.noteSent_sends i e j).trans (State.sendFrame_sends ..)).trans (State.predict_sends ..)
  clear_value t
  refine hsent.trans ?_
  split
  · refine .modEnd (Port.Work.trans ?_ (Port.closeWindow_work _ j.kind start))
    exact ⟨fun _ => id, rfl⟩
  · refine (t.portStat_sends i e (k := 1) (by decide) j.ps.length).trans (.modEnd ?_)
    refine Port.Work.trans ?_ (Port.closeWindow_work _ j.kind start)
    exact ⟨fun _ => id, rfl⟩

theorem State.runLine_sends (i : Fin 40) (e : PortEnd) (n : Nat) (s : State) : State.Sends i s (State.runLine i e n s) := by
  induction n generalizing s with
  | zero => exact .refl i s
  | succ n ih =>
    unfold State.runLine
    extract_lets q start t
    have hcut : State.Sends i s t := by
      unfold t
      split
      · split
        · exact .modEnd ⟨fun _ => id, rfl⟩
        · exact .refl i s
      · exact .refl i s
    clear_value t
    split
    · exact .refl i s
    · refine hcut.trans ?_
      split
      · exact .refl i t
      · extract_lets j
        split
        · exact .refl i t
        · split
          · exact (t.startJob_sends i e start j).trans (ih _)
          · exact t.startJob_sends i e start j

theorem State.runRope_sends (s : State) (i : Fin 40) : State.Sends i s (s.runRope i) := (State.runLine_sends i .a _ s).trans (State.runLine_sends i .b _ _)

/-! ## Replies -/

theorem State.endReply_work (s : State) (i : Fin 40) (e : PortEnd) (p free : Nat) : State.PortWork i s (s.endReply i e p free) := by
  refine .modEnd ?_
  generalize s.ropes[i].port e = q
  split
  · exact .refl q
  · split
    · exact ⟨fun _ => id, rfl⟩
    · exact ⟨fun _ => id, rfl⟩

theorem State.replyLost_work (s : State) (i : Fin 40) (e : PortEnd) (kind : ReadKind) (p : Fin 33) : State.PortWork i s (s.replyLost i e kind p) := by
  unfold State.replyLost
  split
  · exact s.noteMissing_work i e p.val
  · exact .modRope (.of_same rfl rfl rfl)
  · exact .modRope (.of_same rfl rfl rfl)
  · exact s.continuityDone_work i e false
  · exact .refl i s

/-- An accepted reply of the traverse read joins the accepted ones. -/
theorem Rope.Work.accept (r : Rope) (bit : Nat) : r.Work { r with acceptedNow := r.acceptedNow ||| bit } :=
  ⟨fun _ hp => testBit_or _ hp, fun e => by cases e <;> exact .refl _⟩

theorem State.replyTaken_work (s : State) (i : Fin 40) (e : PortEnd) (kind : ReadKind) (p : Fin 33) (rtt : Nat) (bs : List Byte) :
    State.PortWork i s (s.replyTaken i e kind p rtt bs) := by
  unfold State.replyTaken
  extract_lets bit accepted key got h t
  have hgot : ∀ t, State.PortWork i t (got t) := fun t => State.PortWork.trans (.modRope (.accept _ bit)) (.modEnd ⟨fun _ => id, rfl⟩)
  clear_value got
  split
  · exact hgot s
  · exact hgot s
  · split
    · exact .refl i s
    · exact ((hgot s).trans (.modRope (.of_same rfl rfl rfl))).trans (State.portStat_sends _ i e (by decide) 1).work
  · exact .modRope (.of_same rfl rfl rfl)
  · exact .modRope (.of_same rfl rfl rfl)
  · have hkept : State.PortWork i s t := by
      unfold t
      split
      · exact .modEnd ⟨fun _ => id, rfl⟩
      · exact .refl i s
    exact hkept.trans (t.continuityDone_work i e true)
  · exact s.echoReply_work i e p.val rtt
  · split
    · exact .of_blank (m := only [.bal]) ((State.noteDeferred_in rfl _ i p.val).trans (State.modBal_in rfl s _)) rfl rfl
    · exact .refl i s
  · split
    · exact .modRope (.of_same rfl rfl rfl)
    · exact .refl i s
  · exact .refl i s
  · split
    · exact .of_same rfl rfl
    · exact .refl i s

theorem State.classify_work (s : State) (i : Fin 40) (e : PortEnd) (p : Fin 33) (bs : List Byte) : State.PortWork i s (s.classify i e p bs) := by
  unfold State.classify
  extract_lets acc d restart fresh t note
  have ht : State.PortWork i s t := .modRope (.of_same rfl rfl rfl)
  have hnote : ∀ u seen, State.PortWork i u (note u seen) := fun u seen => .modRope (.of_same rfl rfl rfl)
  clear_value t note
  refine ht.trans ?_
  split
  · exact (hnote t 0x18).trans (State.portEvent_sends ..).work
  split
  · exact .refl i t
  split
  · exact ((hnote t 8).trans (State.countPos_work ..)).trans (State.portEvent_sends ..).work
  split
  · exact ((hnote t 8).trans (State.countPos_work ..)).trans (State.portEvent_sends ..).work
  · exact ((hnote t 8).trans (State.countPos_work ..)).trans (State.portEvent_sends ..).work

theorem State.readStatus_work (s : State) (i : Fin 40) (e : PortEnd) (p st : Nat) : State.PortWork i s (s.readStatus i e p st) := by
  unfold State.readStatus
  extract_lets bit gapped stopped told noted cornered key awaited map
  have hgapped : State.PortWork i s gapped := by
    unfold gapped
    split
    · exact (State.portEvent_sends ..).work
    · exact .refl i s
  have htold : State.PortWork i gapped told := by
    unfold told
    split
    · exact (State.portEvent_sends ..).work
    · exact .refl i gapped
  have hnoted : State.PortWork i told noted := .modRope (.of_same rfl rfl rfl)
  have hcornered : State.PortWork i noted cornered :=
    .of_blank (m := only [.corr]) (State.noteCorner_in rfl noted i p _ _) rfl rfl
  have hbal : ∀ f, State.PortWork i awaited (awaited.modBal f) := fun f => .of_blank (m := only [.bal]) (State.modBal_in rfl awaited f) rfl rfl
  have hawaited : State.PortWork i cornered awaited := .of_blank (m := only [.bal]) (State.modBal_in rfl cornered _) rfl rfl
  clear_value map awaited cornered noted told gapped
  split
  · exact hgapped
  · refine ((hgapped.trans htold).trans hnoted).trans (hcornered.trans ?_)
    split
    · exact .refl i cornered
    · split
      · exact (hawaited.trans (hbal _)).trans (State.portEvent_sends ..).work
      · exact hawaited.trans (hbal _)

theorem State.noteTimeout_works (s : State) (i : Fin 40) (e : PortEnd) (p : Fin 33) (noLock cut : Bool) :
    State.PortWork i (s.portStat i e 4) (s.noteTimeout i e p noLock cut) := by
  unfold State.noteTimeout
  extract_lets t u
  have hu : State.PortWork i (s.portStat i e 4) u := by
    have ht : State.PortWork i (s.portStat i e 4) t := State.countPos_work ..
    unfold u
    split
    · exact ht.trans (t.portStat_sends i e (by decide) 1).work
    · exact ht
  exact (hu.trans (State.portEvent_sends ..).work).trans (State.countFailure_work ..)

/-- A missing reply is counted once as a timeout of its port (04 R113, Table 4-16). -/
theorem State.replyMissing_works (s : State) (i : Fin 40) (e : PortEnd) (kind : ReadKind) (p : Fin 33) (noLock cut : Bool) :
    State.PortWork i (s.portStat i e 4) (s.replyMissing i e kind p noLock cut) :=
  (s.noteTimeout_works i e p noLock cut).trans (State.replyLost_work ..)

end Sys2Proof.Machine

/-! Obligation O21: replies on their way, their timeouts, the distributor, and the belay logic's reading of the tap (01 R16 to R19, 04 R113 to
R116, 11 R291, R292). -/

namespace Sys2Proof.Machine

-- One thread per theorem would be more than the compiler's memory limit allows.
set_option Elab.async false

/-! ## The port engine -/

/-- Only rope `i` changes, and the receive queues stay. -/
def State.RopeAlone (i : Fin 40) (s t : State) : Prop := (∀ j, j ≠ i → t.ropes[j] = s.ropes[j]) ∧ t.trav.portQ = s.trav.portQ

theorem State.RopeAlone.trans {i : Fin 40} {s t u : State} (h : State.RopeAlone i s t) (k : State.RopeAlone i t u) : State.RopeAlone i s u :=
  ⟨fun j hj => (k.1 j hj).trans (h.1 j hj), k.2.trans h.2⟩

theorem State.PortWork.alone {i : Fin 40} {s t : State} (h : State.PortWork i s t) : State.RopeAlone i s t := ⟨h.others, h.queue⟩

theorem State.portStat_alone (s : State) (i : Fin 40) (e : PortEnd) (k : Fin 10) (n : Nat) : State.RopeAlone i s (s.portStat i e k n) :=
  ⟨fun j hj => by unfold State.portStat State.modEnd; rw [State.modRope_ropes, upd_get_other _ _ (Ne.symm hj)], rfl⟩

theorem State.replyMissing_alone (s : State) (i : Fin 40) (e : PortEnd) (kind : ReadKind) (p : Fin 33) (noLock cut : Bool) :
    State.RopeAlone i s (s.replyMissing i e kind p noLock cut) :=
  (s.portStat_alone i e 4 1).trans (s.replyMissing_works i e kind p noLock cut).alone

theorem State.replyTaken_accepts (s : State) (i : Fin 40) (e : PortEnd) (p : Fin 33) (rtt : Nat) (bs : List Byte) :
    (s.replyTaken i e .traverse p rtt bs).ropes[i].acceptedNow.testBit p.val = true := by
  change ((s.modRope i fun r => { r with acceptedNow := r.acceptedNow ||| 2 ^ p.val }).modEnd i e fun q =>
    { q with accepted := q.accepted ||| 2 ^ p.val }).ropes[i].acceptedNow.testBit p.val = true
  unfold State.modEnd
  rw [State.modRope_ropes, upd_get, if_pos rfl, State.modRope_ropes, upd_get, if_pos rfl]
  cases e
  · exact testBit_or_pow _ p.val
  · exact testBit_or_pow _ p.val

/-- What a receive queue notes of a reply (01 Table 1-6, R19). -/
def State.replyHead (s : State) (i : Fin 40) (e : PortEnd) (kind : ReadKind) (p : Fin 33) (kept data : List Byte) : RxHead :=
  ⟨i.val, e, kind, p.val, s.sysTicks, decide (s.now ≤ s.deadline i e p.val), decide (kept.length < data.length), false⟩

theorem exec_replyReceived {s : State} {i : Fin 40} {e : PortEnd} {kind : ReadKind} {p : Fin 33} (h : s.expects i e kind p.val = true) (data : List Byte) :
    ∃ t, exec (.replyReceived i e kind p data) s = .next t ∧
      t.trav.portQ = s.trav.portQ ++ [⟨s.replyHead i e kind p (data.take (256 - s.portFill i e)) data, data.take (256 - s.portFill i e), false⟩] ∧
      (kind = .traverse → s.now ≤ s.deadline i e p.val → s.judgeReply i kind p.val (data.take (256 - s.portFill i e)) = .ok →
        t.ropes[i].acceptedNow.testBit p.val = true) ∧
      ∀ j, j ≠ i → t.ropes[j] = s.ropes[j] := by
  change ∃ t, execReplyReceived i e kind p data s = _ ∧ _
  unfold execReplyReceived
  rw [if_neg (by rw [h]; decide)]
  extract_lets inTime rtt bs cut ended cutt head queued v read counted told u
  have hcutt : State.PortWork i s cutt := by
    have hended : State.PortWork i s ended := s.endReply_work i e p.val _
    unfold cutt
    split
    · exact (hended.trans (ended.portStat_sends i e (by decide) 1).work).trans (State.portEvent_sends ..).work
    · exact hended
  have hqueue : queued.trav.portQ = s.trav.portQ ++ [⟨head, bs, false⟩] := by
    rw [← hcutt.queue]
    rfl
  have hothers : ∀ j, j ≠ i → queued.ropes[j] = s.ropes[j] := hcutt.others
  clear_value queued
  have hread : State.PortWork i queued read := by
    unfold read
    split
    · exact (queued.classify_work i e p bs).trans (State.readStatus_work ..)
    · exact .refl i queued
  have htold : State.PortWork i read told := by
    have hcounted : State.PortWork i read counted :=
      ((read.portStat_sends i e (by decide) 1).work.trans (State.countPos_work ..)).trans (.modRope (.of_same rfl rfl rfl))
    clear_value counted
    exact (hcounted.trans (State.portEvent_sends ..).work).trans (State.countFailure_work ..)
  have hjudged : State.RopeAlone i queued u ∧ (kind = .traverse → s.now ≤ s.deadline i e p.val → v = .ok →
      u.ropes[i].acceptedNow.testBit p.val = true) := by
    clear_value told read
    unfold u
    split
    next hlate =>
      refine ⟨queued.replyMissing_alone .., fun _ hin => ?_⟩
      rw [show inTime = true from decide_eq_true hin] at hlate
      cases hlate
    next =>
      cases hv : v with
      | ok =>
        refine ⟨((hread.trans (read.portStat_sends i e (by decide) 1).work).trans (State.replyTaken_work ..)).alone, fun hkind _ _ => ?_⟩
        subst hkind
        exact State.replyTaken_accepts ..
      | stale =>
        exact ⟨(((hread.trans (read.portStat_sends i e (by decide) 1).work).trans (State.portEvent_sends ..).work).trans (State.replyLost_work ..)).alone, nofun⟩
      | other => exact ⟨(hread.trans (State.replyLost_work ..)).alone, nofun⟩
      | crc => exact ⟨((hread.trans htold).trans (State.replyLost_work ..)).alone, nofun⟩
  clear_value u
  obtain ⟨⟨halone, hkept⟩, haccepts⟩ := hjudged
  have hrun := (u.runRope_sends i).work
  exact ⟨_, rfl, (hrun.queue.trans hkept).trans hqueue, fun hkind hin hok => hrun.rope.taken p.val (haccepts hkind hin hok),
    fun j hj => ((hrun.others j hj).trans (halone j hj)).trans (hothers j hj)⟩

/-- A reply that does not come is counted and missing (04 R113, R127). -/
theorem exec_replyTimeout {s : State} {i : Fin 40} {e : PortEnd} {p : Fin 33} (h : s.expects i e .traverse p.val = true)
    (hdue : s.deadline i e p.val ≤ s.now) (noLock : Bool) : ∃ t, exec (.replyTimeout i e .traverse p noLock) s = .next t ∧
      (t.ropes[i].port e).stats[4] = satAdd max32 (s.ropes[i].port e).stats[4] 1 ∧ (t.ropes[i].port e).missing.testBit p.val = true ∧
      t.trav.portQ = s.trav.portQ := by
  have hended := s.endReply_work i e p.val s.now
  refine ⟨_, congrArg Host.Outcome.next (if_neg (by rw [h, decide_eq_false (Nat.not_lt.mpr hdue)]; decide)), ?_⟩
  generalize s.endReply i e p.val s.now = ended at hended ⊢
  have hmissing := ended.replyMissing_works i e .traverse p noLock false
  have hrun := ((ended.replyMissing i e .traverse p noLock).runRope_sends i).work
  refine ⟨?_, ?_, ?_⟩
  · rw [(hrun.rope.ports e).timeouts, (hmissing.rope.ports e).timeouts, ← (hended.rope.ports e).timeouts]
    unfold State.portStat State.modEnd
    rw [State.modRope_ropes, upd_get, if_pos rfl]
    cases e
    · exact (upd_getN _ (4 : Fin 10) 4 (by decide) _).trans (if_pos rfl)
    · exact (upd_getN _ (4 : Fin 10) 4 (by decide) _).trans (if_pos rfl)
  · exact (hrun.rope.ports e).missing p.val (State.noteMissing_missing _ i e p.val)
  · exact (hrun.queue.trans (ended.replyMissing_alone i e .traverse p noLock false).2).trans hended.queue

/-! ## The distributor -/

theorem forEach_stays {α : Type} {s : State} {l : List α} {f : State → α → State} (h : ∀ a ∈ l, f s a = s) : s.forEach l f = s := by
  unfold State.forEach
  induction l with
  | nil => rfl
  | cons a l ih =>
    rw [List.foldl_cons, h a List.mem_cons_self]
    exact ih fun b hb => h b (List.mem_cons_of_mem a hb)

theorem forEach_append {α : Type} (s : State) (l k : List α) (f : State → α → State) : s.forEach (l ++ k) f = (s.forEach l f).forEach k f :=
  List.foldl_append

theorem State.stageDma_waiting (s : State) (p : Piece) : (s.stageDma p).trav.waiting = s.trav.waiting := by
  unfold State.stageDma
  extract_lets line room done cut lost
  have hdone : ∀ t, (done t).trav.waiting = t.trav.waiting := fun t => by
    unfold done
    split <;> rfl
  clear_value done
  split
  · exact hdone s
  split
  · rfl
  · rw [hdone]
    split
    · unfold State.slowDmaError
      rw [State.event_trav, State.irqRaise_trav]
      rfl
    · unfold State.dmaError
      rw [State.event_trav, State.irqRaise_trav]
      rfl

/-- A staging queue with room takes the entry (01 R17). -/
theorem State.stageDma_stages {s : State} {p : Piece} (hdrop : s.trav.dmaDrop.contains p.head.line = false) (hroom : p.bytes.length ≤ 16384 - s.dmaFill) :
    (s.stageDma p).trav.dmaQ = s.trav.dmaQ ++ [p] := by
  unfold State.stageDma
  dsimp only
  rw [if_neg (by rw [hdrop]; decide), if_pos hroom]
  rfl

/-- The entry a service takes of the frame at the front of a queue, and what stays of it (01 R18). -/
def RxFrame.piece (f : RxFrame) : Piece := ⟨f.head, f.bytes.take 8, !f.begun, decide (f.bytes.length ≤ 8), false⟩
def RxFrame.rest (f : RxFrame) : List RxFrame := if f.bytes.length ≤ 8 then [] else [{ f with bytes := f.bytes.drop 8, begun := true }]

theorem State.servicePort_full {s : State} (h : 64 ≤ s.trav.tapQ.length) (line : Nat) : s.servicePort line = s := if_pos h

theorem State.servicePort_idle {s : State} {line : Nat} (h : ∀ f ∈ s.trav.portQ, f.head.line ≠ line) : s.servicePort line = s := by
  unfold State.servicePort
  split
  · rfl
  · have hnone : (s.trav.portQ.find? fun f => f.head.line = line) = none := List.find?_eq_none.mpr fun f hf => by simpa using h f hf
    rw [hnone]

/-- The entry leaves the frame at the front of its queue. -/
def State.takePiece (s : State) (f : RxFrame) : State :=
  s.modTrav fun v => { v with portQ := if f.piece.last then v.portQ.erase f else v.portQ.replace f { f with bytes := f.bytes.drop 8, begun := true },
                              tapQ := v.tapQ ++ [f.piece] }

theorem State.servicePort_one {s : State} {f : RxFrame} (h : s.trav.portQ = [f]) (hroom : s.trav.tapQ.length < 64) :
    s.servicePort f.head.line = (s.takePiece f).stageDma f.piece := by
  unfold State.servicePort
  rw [if_neg (Nat.not_le.mpr hroom), h, List.find?_cons_of_pos (by exact decide_eq_true rfl)]
  rfl

theorem State.takePiece_waiting {s : State} {f : RxFrame} (h : s.trav.portQ = [f]) :
    (s.takePiece f).trav.waiting = (f.rest, s.trav.tapQ ++ [f.piece]) := by
  refine Prod.ext ?_ rfl
  change (if f.piece.last then s.trav.portQ.erase f else s.trav.portQ.replace f { f with bytes := f.bytes.drop 8, begun := true }) = f.rest
  rw [h]
  unfold RxFrame.rest RxFrame.piece
  by_cases hlen : f.bytes.length ≤ 8
  · rw [if_pos (decide_eq_true hlen), if_pos hlen]
    rw [List.erase_cons_head]
  · rw [if_neg (by simpa using hlen), if_neg hlen]
    rw [List.replace_cons_self]

/-- One service of every line: a frame that waits alone gives up one entry. -/
theorem State.servicePorts_one {s : State} {f : RxFrame} (h : s.trav.portQ = [f]) (hlo : 1 ≤ f.head.line) (hhi : f.head.line ≤ 86)
    (hroom : s.trav.tapQ.length < 64) : s.forEach ((List.range 86).map (· + 1)) State.servicePort = (s.takePiece f).stageDma f.piece := by
  have hmem : f.head.line ∈ (List.range 86).map (· + 1) := List.mem_map.mpr ⟨f.head.line - 1, List.mem_range.mpr (by omega), by omega⟩
  have hnodup : ((List.range 86).map (· + 1)).Nodup := List.Nodup.map (fun a b hab => Nat.succ.inj hab) List.nodup_range
  obtain ⟨before, after, hsplit⟩ := List.append_of_mem hmem
  rw [hsplit] at hnodup ⊢
  obtain ⟨-, hafter, hdisjoint⟩ := List.nodup_append.mp hnodup
  have hbefore : ∀ line ∈ before, f.head.line ≠ line := fun line hl heq => hdisjoint line hl _ List.mem_cons_self heq.symm
  have hfirst : s.forEach before State.servicePort = s := forEach_stays fun line hl => State.servicePort_idle fun g hg => by
    rw [h, List.mem_singleton] at hg
    rw [hg]
    exact hbefore line hl
  rw [forEach_append, hfirst]
  change (s.servicePort f.head.line).forEach after State.servicePort = _
  rw [State.servicePort_one h hroom]
  refine forEach_stays fun line hl => State.servicePort_idle fun g hg => ?_
  have hqueue : ((s.takePiece f).stageDma f.piece).trav.portQ = f.rest :=
    congrArg Prod.fst ((State.stageDma_waiting _ _).trans (State.takePiece_waiting h))
  rw [hqueue] at hg
  have hline : g.head.line = f.head.line := by
    unfold RxFrame.rest at hg
    split at hg
    · cases hg
    · rw [List.mem_singleton] at hg
      rw [hg]
  rw [hline]
  exact fun heq => (List.nodup_cons.mp hafter).1 (heq ▸ hl)

/-- Empty receive queues of the controllers have nothing to pass on. -/
theorem State.passQueues_trav {s : State} (h : ∀ k : Fin 3, s.cans[k].rxQ = []) :
    (s.forEach ([0, 1, 2] : List (Fin 3)) fun t k => t.passQueue k t.cans[k].rxQ).trav = s.trav := by
  refine (forEach_keeps (P := fun t => (∀ k : Fin 3, t.cans[k].rxQ = []) ∧ t.trav = s.trav) (fun t k ht => ?_) s _ ⟨h, rfl⟩).2
  obtain ⟨hempty, htrav⟩ := ht
  rw [hempty k]
  unfold State.passQueue
  refine ⟨fun j => ?_, htrav⟩
  change (upd t.cans k fun c => { c with rxQ := [] })[j].rxQ = []
  rw [upd_get]
  split
  · rfl
  · exact hempty j

theorem exec_distributorDeliver {s : State} (h : ∀ k : Fin 3, s.cans[k].rxQ = []) (stall : Bool) :
    ∃ t, exec (.distributorDeliver stall) s = .next t ∧ t.trav = (s.serviceAll stall).trav := by
  refine ⟨_, rfl, State.passQueues_trav fun k => ?_⟩
  have hcans : (s.serviceAll stall).cans = s.cans :=
    same_of_blank (p := .cans) (m := only [.evlog, .irq, .ropes, .trav]) (by apply State.serviceAll_in <;> rfl) rfl
  rw [hcans]
  exact h k

/-- The services of one round as they leave the queues: DMA drains its own unless it stalls (01 R17). -/
theorem State.serviceAll_queues (s : State) (stall : Bool) :
    (s.serviceAll stall).trav.waiting = (s.forEach ((List.range 86).map (· + 1)) State.servicePort).trav.waiting ∧
    (stall = false → (s.serviceAll stall).trav.dmaQ = []) ∧
    (stall = true → (s.serviceAll stall) = s.forEach ((List.range 86).map (· + 1)) State.servicePort) := by
  unfold State.serviceAll
  dsimp only
  cases stall
  · exact ⟨(State.dmaDrain_trav _).2.2, fun _ => rfl, nofun⟩
  · exact ⟨rfl, nofun, fun _ => rfl⟩

/-- What a service of every queue does with one frame that waits alone (01 R17, R18). -/
theorem State.serviceAll_one {s : State} {f : RxFrame} (h : s.trav.portQ = [f]) (hlo : 1 ≤ f.head.line) (hhi : f.head.line ≤ 86)
    (hroom : s.trav.tapQ.length < 64) (stall : Bool) : (s.serviceAll stall).trav.tapQ = s.trav.tapQ ++ [f.piece] ∧
      (s.serviceAll stall).trav.portQ = f.rest ∧
      (stall = true → s.trav.dmaDrop.contains f.head.line = false → s.dmaFill + 8 ≤ 16384 → (s.serviceAll stall).trav.dmaQ = s.trav.dmaQ ++ [f.piece]) := by
  obtain ⟨hwaiting, -, hstalled⟩ := s.serviceAll_queues stall
  have hone := State.servicePorts_one h hlo hhi hroom
  have hqueues : (s.serviceAll stall).trav.waiting = (f.rest, s.trav.tapQ ++ [f.piece]) := by
    rw [hwaiting, hone]
    exact (State.stageDma_waiting _ _).trans (State.takePiece_waiting h)
  refine ⟨congrArg Prod.snd hqueues, congrArg Prod.fst hqueues, fun hstall hdrop hfill => ?_⟩
  rw [hstalled hstall, hone]
  refine State.stageDma_stages hdrop ?_
  have hlen : f.piece.bytes.length ≤ 8 := List.length_take_le ..
  have hsame : (s.takePiece f).dmaFill = s.dmaFill := rfl
  omega

/-! ## The belay logic -/

/-- The tap, and when the belay logic last heard of it, stand. -/
structure State.TapStands (s t : State) : Prop where
  waiting : t.trav.waiting = s.trav.waiting
  lastTap : t.belay.lastTap = s.belay.lastTap
  missing : t.belay.missing = s.belay.missing

theorem State.TapStands.trans {s t u : State} (h : s.TapStands t) (k : t.TapStands u) : s.TapStands u :=
  ⟨k.waiting.trans h.waiting, k.lastTap.trans h.lastTap, k.missing.trans h.missing⟩

theorem State.TapStands.of_blank {m : Part → Bool} {s t : State} (h : t.blank m = s.blank m) (h1 : m .trav = false) (h2 : m .belay = false)
    (h3 : m .records = false) : s.TapStands t :=
  ⟨congrArg Traverse.waiting (same_of_blank (p := .trav) h h1 : _ = _), congrArg Belay.lastTap (belay_of_blank h h2 h3),
    congrArg Belay.missing (belay_of_blank h h2 h3)⟩

theorem State.TapStands.refl (s : State) : s.TapStands s := ⟨rfl, rfl, rfl⟩

theorem State.postReport_stands (s : State) (r : BelayReport) : s.TapStands (s.postReport r) := by
  unfold State.postReport
  split
  · exact ⟨rfl, rfl, rfl⟩
  · refine State.TapStands.trans (.of_blank (m := only [.evlog, .irq]) (t := (s.irqRaise 54).event 0x6035 blockObj 0) ?_ rfl rfl rfl) ⟨rfl, rfl, rfl⟩
    exact (State.event_in rfl rfl _ _ _ _ _).trans (State.irqRaise_in rfl s 54)

/-- n_B of the string holds the position heard, and what the belay logic took of the traverse stays (11 R292). -/
theorem State.noteCount_notes (s : State) (i : Fin 40) (src : Nat) : s.TapStands (s.noteCount i src) ∧ src ≤ (s.noteCount i src).bstr[i].nB ∧
    (s.noteCount i src).bstr[i].seenNow = s.bstr[i].seenNow ∧ (s.noteCount i src).trav = s.trav ∧ (s.noteCount i src).ropes = s.ropes := by
  unfold State.noteCount State.setCount
  split
  next hsame => exact ⟨.refl s, by omega, rfl, rfl, rfl⟩
  next =>
    have hpost : ∀ (t : State) r, (t.postReport r).blank (only [.belay, .evlog, .irq]) = t.blank (only [.belay, .evlog, .irq]) :=
      fun t r => State.postReport_in rfl rfl rfl t r
    have hbstr := same_of_blank (p := .bstr) (hpost (s.modBStr i fun b => { b with nB := max s.bstr[i].nB src })
      ⟨i.val, 3, s.trav.number.getD 0 % 65536, max s.bstr[i].nB src, none, 0, none⟩) rfl
    have hset : (s.modBStr i fun b => { b with nB := max s.bstr[i].nB src }).bstr[i] = { s.bstr[i] with nB := max s.bstr[i].nB src } := by
      rw [State.modBStr_bstr, upd_get, if_pos rfl]
    have hget := (congrArg (fun v : Vector BelayStr 40 => v[i]) hbstr).trans hset
    have hstands := State.TapStands.of_blank (m := only [.bstr]) (State.modBStr_in rfl s i fun b => { b with nB := max s.bstr[i].nB src }) rfl rfl rfl
    refine ⟨hstands.trans (State.postReport_stands ..), ?_, ?_, ?_, ?_⟩
    · exact (Nat.le_max_right _ _).trans_eq (congrArg BelayStr.nB hget).symm
    · exact (congrArg BelayStr.seenNow hget :)
    · exact (same_of_blank (p := .trav) (hpost _ _) rfl)
    · exact (same_of_blank (p := .ropes) (hpost _ _) rfl)

theorem State.evalItem_seen (s : State) (i : Fin 40) (e : EnvItem) (el : Nat) (value : Int) (violates : Int → Bool) :
    (s.evalItem i e el value violates).bstr[i].seenNow = s.bstr[i].seenNow := by
  unfold State.evalItem
  extract_lets set_
  split
  · rfl
  · rw [State.modBStr_bstr, upd_get, if_pos rfl]
    unfold BelayStr.evaluate
    extract_lets key b n
    split
    · rfl
    · split
      · rfl
      · rfl

theorem State.judgeCell_seen (s : State) (i : Fin 40) (el v : Nat) : (s.judgeCell i el v).bstr[i].seenNow = s.bstr[i].seenNow := by
  unfold State.judgeCell
  extract_lets t
  have ht : t.bstr[i].seenNow = s.bstr[i].seenNow := by
    unfold t
    rw [State.modBStr_bstr, upd_get, if_pos rfl]
  clear_value t
  split
  · exact ht
  · rw [State.evalItem_seen, State.evalItem_seen, ht]

theorem State.judgeCurrent_seen (s : State) (i : Fin 40) (iLatch iCheck : Int) : (s.judgeCurrent i iLatch iCheck).bstr[i].seenNow = s.bstr[i].seenNow := by
  unfold State.judgeCurrent
  extract_lets t hi lo
  have ht : t.bstr[i].seenNow = s.bstr[i].seenNow := by
    unfold t
    rw [State.modBStr_bstr, upd_get, if_pos rfl]
  clear_value t
  split
  · exact ht
  · rw [State.evalItem_seen, State.evalItem_seen, ht]

/-- A reply the belay logic takes is seen (11 R292). -/
theorem State.belayTake_seen (s : State) (i : Fin 40) (e : PortEnd) (src : Nat) (data : List Byte) :
    (s.belayTake i e src data).bstr[i].seenNow.testBit src = true := by
  unfold State.belayTake
  extract_lets t i32At judged
  have ht : t.bstr[i].seenNow.testBit src = true := by
    change (s.modBStr i fun b => { b with seenNow := b.seenNow ||| 2 ^ src }).bstr[i].seenNow.testBit src = true
    rw [State.modBStr_bstr, upd_get, if_pos rfl]
    exact testBit_or_pow _ src
  clear_value t
  split
  · have hmatch : ∀ u : State, (u.evalMatch i).bstr = u.bstr := fun u =>
      same_of_blank (p := .bstr) (State.evalMatch_in (m := only [.strs, .evlog, .irq]) rfl rfl rfl u i) rfl
    refine (congrArg (fun v : Vector BelayStr 40 => v[i].seenNow.testBit src) (hmatch _)).trans ?_
    change judged.bstr[i].seenNow.testBit src = true
    unfold judged
    rw [State.judgeCurrent_seen]
    exact ht
  · refine forEach_keeps (P := fun u => u.bstr[i].seenNow.testBit src = true) (fun u j hu => ?_) t _ ht
    rw [State.judgeCell_seen]
    exact hu

theorem State.belayTake_stands (s : State) (i : Fin 40) (e : PortEnd) (src : Nat) (data : List Byte) : s.TapStands (s.belayTake i e src data) := by
  unfold State.belayTake
  extract_lets t i32At judged
  have ht : s.TapStands t := ⟨rfl, rfl, rfl⟩
  clear_value t
  refine ht.trans (.of_blank (m := only [.bstr, .strs, .evlog, .irq]) ?_ rfl rfl rfl)
  split
  · exact (State.evalMatch_in rfl rfl rfl _ i).trans ((State.modStr_in rfl _ i _).trans (State.judgeCurrent_in rfl t i _ _))
  · exact forEach_in (fun u j => State.judgeCell_in rfl u i _ _) t _

theorem State.belayFrame_stands (s : State) (i : Fin 40) (e : PortEnd) (window inTime : Bool) (bs : List Byte) :
    s.TapStands (s.belayFrame i e window inTime bs) := by
  unfold State.belayFrame
  extract_lets src noted good
  split
  · exact .refl s
  have hnoted : s.TapStands noted := (s.noteCount_notes i src).1
  clear_value noted
  refine hnoted.trans ?_
  split
  · split
    · exact noted.belayTake_stands ..
    · exact .refl noted
  split
  · split
    · exact .of_blank (m := only [.bstr]) (State.judgeTemps_in rfl noted i src _) rfl rfl rfl
    · exact .refl noted
  · exact .refl noted

/-- An acceptable traverse reply of a position is seen (04 R114, 11 R292). -/
theorem State.belayFrame_seen {s : State} {i : Fin 40} {e : PortEnd} {bs : List Byte} (hcrc : replyCrcOk bs = true) (hsrc : replySrc bs ≤ 32)
    (hkind : replyKind bs = 0) (htag : replyTag bs = s.trav.number.getD 0 % 256) (hdone : (replyStatus bs).testBit 15 = true)
    (hqualified : s.ropes[i].disqualified.testBit (replySrc bs) = false) :
    (s.belayFrame i e true true bs).bstr[i].seenNow.testBit (replySrc bs) = true := by
  obtain ⟨-, hcount, -, htrav, hropes⟩ := s.noteCount_notes i (replySrc bs)
  unfold State.belayFrame
  extract_lets src noted good
  rw [if_neg (by rw [hcrc]; simpa using hsrc)]
  have hgood : good (noted.trav.number.getD 0 % 256) = true := by
    unfold good noted
    rw [htrav, hropes, hdone, hqualified, htag, decide_eq_true rfl, decide_eq_true hcount]
    rfl
  rw [if_pos hkind, hgood]
  clear_value noted
  by_cases hseen : noted.bstr[i].seenNow.testBit src = true
  · rw [if_neg (by rw [hseen]; decide)]
    exact hseen
  · rw [if_pos (by rw [Bool.eq_false_iff.mpr hseen]; rfl)]
    exact noted.belayTake_seen ..

theorem State.safeTaken_stands (s : State) (net : Fin 2) (id : Nat) (data : List Byte) : s.TapStands (s.safeTaken net id data) :=
  .of_blank (m := only [.banks, .dict, .evlog, .fc, .gates, .health, .io, .irq, .mode, .strs]) (by apply State.safeTaken_in <;> rfl) rfl rfl rfl

theorem State.belayLink_stands (s : State) (owner : Nat) (bs : List Byte) : s.TapStands (s.belayLink owner bs) :=
  .of_blank (m := only [.banks, .strs, .evlog, .irq]) (State.belayLink_in rfl rfl rfl rfl s owner bs) rfl rfl rfl

/-- The frame of its port that the belay logic has gathered when an entry comes, and whether its traverse window stood open. -/
def State.gathered (s : State) (p : Piece) : Bool × List Byte :=
  if p.first then (s.windowOpen (Fin.ofNat 40 p.head.owner) p.head.end_, []) else Sparse.getD s.belay.rx p.head.line (false, [])

/-- The belay logic with an entry joined to its port's frame (11 R291, R299). -/
def State.joined (s : State) (p : Piece) : State := s.modBelay fun b => { b with
  lastTap := if p.head.safe then b.lastTap else s.now, missing := b.missing && (p.head.safe || !s.newTraverseEntry p.head),
  rx := if p.last then Sparse.del b.rx p.head.line else Sparse.put b.rx p.head.line ((s.gathered p).1, (s.gathered p).2 ++ p.bytes) }

theorem State.belayPiece_open {s : State} {p : Piece} (h : p.last = false) : s.belayPiece p = s.joined p := by
  unfold State.belayPiece
  dsimp only
  rw [if_pos (by rw [h]; rfl)]
  rfl

theorem State.belayPiece_stands (s : State) (p : Piece) : (s.joined p).TapStands (s.belayPiece p) := by
  unfold State.belayPiece
  extract_lets h i begun bs t
  have ht : t = s.joined p := rfl
  clear_value t bs begun
  rw [← ht]
  split
  · exact .refl t
  split
  · exact State.safeTaken_stands ..
  split
  · exact State.belayLink_stands ..
  · exact State.belayFrame_stands ..

theorem State.belayPiece_reply {s : State} {p : Piece} (hlast : p.last = true) (hlink : p.head.link = false) : s.belayPiece p =
    (s.joined p).belayFrame (Fin.ofNat 40 p.head.owner) p.head.end_ (s.gathered p).1 p.head.inTime ((s.gathered p).2 ++ p.bytes) := by
  have hsafe : ¬p.head.safe = true := by
    unfold RxHead.safe
    rw [hlink]
    exact Bool.false_ne_true
  unfold State.belayPiece
  dsimp only
  rw [if_neg (by rw [hlast]; decide), if_neg hsafe, if_neg (by rw [hlink]; decide)]
  rfl

/-- The state whose tap has given up its entries to the next end of a frame. -/
def State.tapTaken (s : State) : State := s.modTrav fun v => { v with tapQ := (splitTap s.trav.tapQ).2 }

theorem exec_belayReplyEval (s : State) : ∃ t, exec .belayReplyEval s = .next t ∧ t.trav.waiting = (s.trav.portQ, (splitTap s.trav.tapQ).2) := by
  refine ⟨_, rfl, ?_⟩
  dsimp only
  split
  · exact forEach_keeps (P := fun t => t.trav.waiting = s.tapTaken.trav.waiting) (fun t p ht => (t.belayPiece_stands p).waiting.trans ht)
      s.tapTaken _ rfl
  · rfl

theorem splitTap_fst {x : Piece} {rest : List Piece} (h : x.last = true ∨ rest = []) : (splitTap (x :: rest)).1 = [x] := by
  unfold splitTap
  split
  · rfl
  next hnot =>
    rw [h.resolve_left hnot]
    rfl

/-- One entry is taken where it ends a frame or is the last of the tap. -/
theorem exec_belayReplyEval_one {s : State} {x : Piece} {rest : List Piece} (hreleased : s.belay.released = true) (htap : s.trav.tapQ = x :: rest)
    (h : x.last = true ∨ rest = []) : exec .belayReplyEval s = .next (s.tapTaken.belayPiece x) := by
  refine congrArg Host.Outcome.next ((if_pos hreleased).trans ?_)
  rw [htap, splitTap_fst h]
  unfold State.tapTaken
  rw [htap]
  rfl

/-! ## The obligation -/

/-- Settles O21: replies, their timeouts, their two readers, and the commands that begin and end what they belong to. -/
theorem replies : Obligations.Replies := by
  intro s i e p
  refine ⟨fun kind data kept hkept hexpects => ?_, fun noLock hexpects hdue => exec_replyTimeout hexpects hdue noLock, fun stall hempty => ?_, ?_,
    fun links hmay => ?_, fun hnumber hused hopen hdone => ?_, fun b hmiss hdark => ?_, fun hopen hdone => ?_⟩
  · subst hkept
    exact exec_replyReceived hexpects data
  · obtain ⟨t, hexec, htrav⟩ := exec_distributorDeliver hempty stall
    obtain ⟨hwaiting, hdrained, -⟩ := s.serviceAll_queues stall
    refine ⟨t, hexec, fun hstall => by rw [htrav]; exact hdrained hstall, fun hfull => ?_, fun f hone hlo hhi hroom => ?_⟩
    · have hstays : s.forEach ((List.range 86).map (· + 1)) State.servicePort = s := forEach_stays fun line _ => State.servicePort_full hfull line
      rw [hstays, ← htrav] at hwaiting
      exact ⟨congrArg Prod.snd hwaiting, congrArg Prod.fst hwaiting⟩
    · rw [htrav]
      exact State.serviceAll_one hone hlo hhi hroom stall
  · obtain ⟨t, hexec, hwaiting⟩ := exec_belayReplyEval s
    refine ⟨t, hexec, congrArg Prod.snd hwaiting, congrArg Prod.fst hwaiting, fun x begun rest hreleased htap hbegun hends => ?_⟩
    have ht : t = s.tapTaken.belayPiece x := Host.Outcome.next.inj (hexec.symm.trans (exec_belayReplyEval_one hreleased htap hends))
    have hgathered : s.tapTaken.gathered x = begun := hbegun.symm
    obtain ⟨-, hlast, hmissing⟩ := s.tapTaken.belayPiece_stands x
    refine ⟨fun hsafe => ?_, fun hopen => ?_, fun o bs hlastOne ho hbs hlink hwindow hin hcrc hsrc hkind htag hdone hqualified => ?_⟩
    · rw [ht, hlast, hmissing]
      unfold State.joined
      rw [State.modBelay_belay, hsafe]
      exact ⟨rfl, rfl⟩
    · rw [ht, State.belayPiece_open hopen]
      unfold State.joined
      rw [State.modBelay_belay, hopen, hgathered]
      exact ⟨(sparse_get?_put ..).trans (if_pos rfl), rfl⟩
    · rw [ht, State.belayPiece_reply hlastOne hlink, hgathered, hwindow, hin, ← hbs, ← ho]
      exact State.belayFrame_seen hcrc hsrc hkind htag hdone hqualified
  · obtain ⟨t, hexec, ht⟩ := exec_traverseTriggerIssue hmay links [] []
    exact ⟨t, _, hexec, ht.number, ht.t0⟩
  · exact ⟨_, exec_traverseComplete hnumber hused hopen hdone, s.complete_completes.1⟩
  · obtain ⟨t, hexec, -, hfaults⟩ := exec_linkSenseLost hmiss
    obtain ⟨hfaulted, hcause, -⟩ := hfaults (by rw [hdark]; decide) (by rw [hdark]; decide)
    exact ⟨t, hexec, hfaulted, hcause⟩
  · obtain ⟨t, hexec, -, hslow, -⟩ := exec_slowRoundComplete hopen hdone
    exact ⟨t, hexec, hslow⟩

end Sys2Proof.Machine

/-! Obligation O22: roll calls, rope modes at a boundary, statistics and spare PHYs (04 R117 to R125, R134, R135, R138). -/

namespace Sys2Proof.Machine

-- One thread per theorem would be more than the compiler's memory limit allows.
set_option Elab.async false

/-! ## Frames of a roll call -/

/-- Only the ports of rope `i` change. -/
structure State.PortsAlone (i : Fin 40) (s t : State) : Prop where
  others : ∀ j, j ≠ i → t.ropes[j] = s.ropes[j]
  serving : t.ropes[i].serving = s.ropes[i].serving
  trav : t.trav = s.trav

theorem State.PortsAlone.refl (i : Fin 40) (s : State) : State.PortsAlone i s s := ⟨fun _ _ => rfl, rfl, rfl⟩

theorem State.PortsAlone.trans {i : Fin 40} {s t u : State} (h : State.PortsAlone i s t) (k : State.PortsAlone i t u) : State.PortsAlone i s u :=
  ⟨fun j hj => (k.others j hj).trans (h.others j hj), k.serving.trans h.serving, k.trav.trans h.trav⟩

theorem State.PortsAlone.modEnd (s : State) (i : Fin 40) (e : PortEnd) (f : Port → Port) : State.PortsAlone i s (s.modEnd i e f) := by
  unfold State.modEnd
  refine ⟨fun j hj => ?_, ?_, rfl⟩
  · rw [State.modRope_ropes, upd_get_other _ _ (Ne.symm hj)]
  · rw [State.modRope_ropes, upd_get, if_pos rfl]
    exact Rope.modPort_serving _ e f

theorem State.PortsAlone.sendFrame (s : State) (i : Fin 40) (e : PortEnd) (far : Bool) (code addr : Nat) (payload : List Byte) :
    State.PortsAlone i s (s.sendFrame i e far code addr payload) := (State.PortsAlone.modEnd s i e _).trans (.modEnd _ i e _)

theorem State.PortsAlone.forEach {α : Type} {i : Fin 40} {s : State} {l : List α} {f : State → α → State} (h : ∀ t a, State.PortsAlone i t (f t a)) :
    State.PortsAlone i s (s.forEach l f) := forEach_keeps (P := State.PortsAlone i s) (fun t a ht => ht.trans (h t a)) s l (.refl i s)

/-- An end's part of a roll call counts and sends (04 R117). -/
theorem State.rollEnd_alone (s : State) (i : Fin 40) (e : PortEnd) (frame far : Bool) (nodes : List RollNode) :
    State.PortsAlone i s (s.rollEnd i e frame far nodes) := by
  unfold State.rollEnd
  split
  · exact .refl i s
  · extract_lets k framed counted
    have hframed : State.PortsAlone i s framed := by
      unfold framed
      split
      · exact .sendFrame s i e far (rollCode e) 0x3F (pairPayload 0 0)
      · exact .refl i s
    clear_value framed
    have hechoes : State.PortsAlone i framed (framed.sendEchoes i e far nodes.length) := by
      unfold State.sendEchoes
      refine .forEach fun t h => ?_
      refine .forEach fun u _ => ?_
      exact .sendFrame u i e far 0x03 _ []
    have hcounted : State.PortsAlone i s counted := ((hframed.trans hechoes).trans (.modEnd _ i e _)).trans (.modEnd _ i e _)
    clear_value counted
    exact (hcounted.trans (.modEnd counted i e _)).trans (.modEnd _ i e _)

/-! ## Rope modes -/

theorem Rope.serving_mode {r q : Rope} (h : q.serving = r.serving) : q.mode = r.mode := congrArg (·.2.1) h
theorem Rope.serving_lastA {r q : Rope} (h : q.serving = r.serving) : q.lastA = r.lastA := congrArg (·.2.2.1) h
theorem Rope.serving_firstB {r q : Rope} (h : q.serving = r.serving) : q.firstB = r.firstB := congrArg (·.2.2.2.1) h
theorem Rope.serving_req {r q : Rope} (h : q.serving = r.serving) : q.req = r.req := congrArg (·.2.2.2.2.1) h
theorem Rope.serving_due {r q : Rope} (h : q.serving = r.serving) : q.due = r.due := congrArg (·.2.2.2.2.2.1) h
theorem Rope.serving_partial {r q : Rope} (h : q.serving = r.serving) : q.partial_ = r.partial_ := congrArg (·.2.2.2.2.2.2.2.1) h
theorem Rope.serving_rollCall {r q : Rope} (h : q.serving = r.serving) : q.rollCall = r.rollCall := congrArg (·.2.2.2.2.2.2.2.2.1) h
theorem Rope.serving_result {r q : Rope} (h : q.serving = r.serving) : q.result = r.result := congrArg (·.2.2.2.2.2.2.2.2.2) h

theorem State.realign_sends (s : State) (i : Fin 40) : State.Sends i s (s.realign i) := by
  unfold State.realign
  refine .forEach fun t e => ?_
  split
  · exact .refl i t
  · extract_lets rtt d moved bad
    have hmoved : State.Sends i t moved := .modEnd ⟨fun _ => id, rfl⟩
    clear_value moved bad
    refine hmoved.trans (.forEach fun u p => ?_)
    exact State.Sends.trans (.modRope (.of_same rfl rfl rfl) rfl) (State.portEvent_sends ..)

/-- The rope in mode `m`, as it stands while its settings go out (04 R124). -/
def Rope.inMode (r : Rope) (m : RopeMode) (a b : Option Nat) : Rope :=
  let v := m.serves r.n a b
  { r with
    mode := m, lastA := v.1, firstB := v.2, due := none, partial_ := false, restorable := false, contGood := 0, contMiss := 0, contA := none,
    contB := none, intact := false, broken := r.broken && m ≠ .ring, silent := 0 }

theorem State.modRope_congr {s : State} {i : Fin 40} {f g : Rope → Rope} (h : f s.ropes[i] = g s.ropes[i]) : s.modRope i f = s.modRope i g := by
  unfold State.modRope upd
  rw [h]

theorem State.modRope_modRope (s : State) (i : Fin 40) (f g : Rope → Rope) : (s.modRope i f).modRope i g = s.modRope i fun r => g (f r) :=
  congrArg (fun v => ({ s with ropes := v } : State)) (upd_upd s.ropes i f g)

theorem State.serveMode_sends (s : State) (i : Fin 40) (m : RopeMode) (a b : Option Nat) :
    State.Sends i (s.modRope i fun r => r.inMode m a b) (s.serveMode i m a b) := by
  unfold State.serveMode
  extract_lets old v moded aligned
  have hmoded : (s.modRope i fun r => r.inMode m a b) = moded := State.modRope_congr rfl
  rw [hmoded]
  have haligned : State.Sends i moded aligned := moded.realign_sends i
  clear_value aligned
  exact haligned.trans (.forEach fun t e => State.sendServe_sends ..)

theorem State.noteMode_sends (s : State) (i : Fin 40) (old : Rope) : State.Sends i s (s.noteMode i old) := by
  have hshort : State.Sends i s (s.noteShort i) := by
    unfold State.noteShort
    extract_lets r short t
    have ht : State.Sends i s t := .modRope (.of_same rfl rfl rfl) rfl
    clear_value t
    split
    · exact ht.trans (State.portEvent_sends ..)
    · exact ht
  exact hshort.trans (State.portEvent_sends ..)

theorem State.setRopeMode_sends (s : State) (i : Fin 40) (m : RopeMode) (a b : Option Nat) :
    State.Sends i (s.modRope i fun r => r.inMode m a b) (s.setRopeMode i m a b) :=
  (s.serveMode_sends i m a b).trans (State.noteMode_sends ..)

/-- The mode a rope's roll call has found comes into force (04 R120). -/
theorem State.takeRoll_sends {s : State} {i : Fin 40} {m : RopeMode} (h : s.ropes[i].rollMode = some m) :
    State.Sends i (s.modRope i fun r => ({ r with rollMode := none } : Rope).inMode m none none) (s.takeRoll i) := by
  unfold State.takeRoll
  rw [h]
  have hserve := (s.modRope i fun r => { r with rollMode := none }).serveMode_sends i m none none
  rw [State.modRope_modRope] at hserve
  change State.Sends i _ ((if s.ropes[i].mode = m then (s.modRope i fun r => { r with rollMode := none }).serveMode i m none none
    else ((s.modRope i fun r => { r with rollMode := none }).serveMode i m none none).noteMode i s.ropes[i]).runRope i)
  generalize (s.modRope i fun r => { r with rollMode := none }).serveMode i m none none = t at hserve ⊢
  refine State.Sends.trans ?_ (State.runRope_sends ..)
  split
  · exact hserve
  · exact hserve.trans (State.noteMode_sends ..)

/-! ## The end of a roll call -/

/-- The mode the outcomes of the two ends call for (04 R118 to R120). -/
def rollModeOf (fa fb : Option (Nat × Nat)) (agree : Bool) : RopeMode :=
  if fa = none ∧ fb = none then (if agree then RopeMode.ring else .dark)
  else if fa = none then .singleA else if fb = none then .singleB else .dark

theorem rollModeOf_eq (fa fb : Option (Nat × Nat)) (agree : Bool) : (if (fa.isNone && fb.isNone) = true then (if agree then RopeMode.ring else .dark)
    else if fa.isNone then .singleA else if fb.isNone then .singleB else .dark) = rollModeOf fa fb agree := by
  unfold rollModeOf
  cases fa <;> cases fb <;> rfl

/-- What a roll call that finds mode `m` makes of a rope, at a boundary or apart from one (04 R117, R124). -/
structure Rope.RollEnded (r : Rope) (m : RopeMode) (boundary : Bool) (q : Rope) : Prop where
  rollCall : q.rollCall = if m = .dark then 3 else 2
  taken : boundary = true → q.mode = m
  waits : boundary = false → q.mode = r.mode ∧ q.rollMode = some m

/-- The traverse and the rope's ports aside, the ropes and the boundary stay. -/
theorem State.atBoundary_of_trav {s t : State} (h : t.trav = s.trav) : t.atBoundary = s.atBoundary := by
  unfold State.atBoundary
  rw [h]

/-- What stands of the rope after its results are noted and its mode, at a boundary, is taken. -/
theorem State.takeRoll_ended {s : State} {i : Fin 40} {r : Rope} {m : RopeMode} (hcall : s.ropes[i].rollCall = if m = .dark then 3 else 2)
    (hmode : s.ropes[i].mode = r.mode) (hroll : s.ropes[i].rollMode = some m) :
    r.RollEnded m s.atBoundary (if s.atBoundary then s.takeRoll i else s).ropes[i] ∧
    ∀ j, j ≠ i → (if s.atBoundary then s.takeRoll i else s).ropes[j] = s.ropes[j] := by
  cases s.atBoundary
  · exact ⟨⟨hcall, nofun, fun _ => ⟨hmode, hroll⟩⟩, fun _ _ => rfl⟩
  · have hsends := State.takeRoll_sends hroll
    have hserving := hsends.serving
    rw [State.modRope_ropes, upd_get, if_pos rfl] at hserving
    refine ⟨⟨(Rope.serving_rollCall hserving).trans hcall, fun _ => Rope.serving_mode hserving, nofun⟩, fun j hj => ?_⟩
    refine (hsends.work.others j hj).trans ?_
    rw [State.modRope_ropes, upd_get_other _ _ (Ne.symm hj)]

theorem State.rollCallEnds_ended (s : State) (i : Fin 40) (a b : List RollNode) :
    s.ropes[i].RollEnded (rollModeOf (rollOutcome s.ropes[i].n s.ropes[i].portA.failed .a a (rttOf a))
      (rollOutcome s.ropes[i].n s.ropes[i].portB.failed .b b (rttOf b)) (serialsAgree a b)) s.atBoundary (s.rollCallEnds i a b).ropes[i] ∧
    ∀ j, j ≠ i → (s.rollCallEnds i a b).ropes[j] = s.ropes[j] := by
  unfold State.rollCallEnds
  extract_lets r fa fb both mode fail pass rolled crossed toldA toldB told taken counted woken
  rw [← rollModeOf_eq]
  change s.ropes[i].RollEnded mode s.atBoundary _ ∧ _
  have hends : State.PortsAlone i s ((s.rollEnd i .a false false a).rollEnd i .b true false b) := (s.rollEnd_alone ..).trans (State.rollEnd_alone ..)
  have hrolled : (rolled.ropes[i].rollCall = if mode = .dark then 3 else 2) ∧ rolled.ropes[i].mode = s.ropes[i].mode ∧
      rolled.ropes[i].rollMode = some mode ∧ rolled.trav = s.trav ∧ ∀ j, j ≠ i → rolled.ropes[j] = s.ropes[j] := by
    have hropes : rolled.ropes = upd ((s.rollEnd i .a false false a).rollEnd i .b true false b).ropes i
        fun r => r.afterRoll a b (decide pass) fail mode := State.irqRaise_ropes ..
    have hrope : rolled.ropes[i] = (((s.rollEnd i .a false false a).rollEnd i .b true false b).ropes[i]).afterRoll a b (decide pass) fail mode := by
      rw [hropes, upd_get, if_pos rfl]
    rw [hrope]
    refine ⟨?_, (Rope.serving_mode hends.serving :), rfl, (State.irqRaise_trav ..).trans hends.trav, fun j hj => ?_⟩
    · by_cases hdark : mode = .dark
      · rw [if_pos hdark]
        exact if_neg (by simpa [pass] using hdark)
      · rw [if_neg hdark]
        exact if_pos (decide_eq_true hdark)
    · rw [hropes, upd_get_other _ _ (Ne.symm hj)]
      exact hends.others j hj
  have htold : told.blank (only [.evlog, .irq]) = rolled.blank (only [.evlog, .irq]) := by
    have hevent : ∀ (u v : State) (c : Prop) [Decidable c] (code : Nat) (data : List Byte), v.blank (only [.evlog, .irq]) = u.blank (only [.evlog, .irq]) →
        (if c then v.event code (strObj i) 0 data else v).blank (only [.evlog, .irq]) = u.blank (only [.evlog, .irq]) := by
      intro u v c _ code data h
      split
      · exact (State.event_in rfl rfl v _ _ _ _).trans h
      · exact h
    have hcrossed : crossed.blank (only [.evlog, .irq]) = rolled.blank (only [.evlog, .irq]) := hevent _ _ _ _ _ rfl
    have htoldA : toldA.blank (only [.evlog, .irq]) = crossed.blank (only [.evlog, .irq]) := by
      unfold toldA
      cases fa
      · rfl
      · exact State.event_in rfl rfl crossed _ _ _ _
    have htoldB : toldB.blank (only [.evlog, .irq]) = toldA.blank (only [.evlog, .irq]) := by
      unfold toldB
      cases fb
      · rfl
      · exact State.event_in rfl rfl toldA _ _ _ _
    exact hevent _ _ _ _ _ ((htoldB.trans htoldA).trans hcrossed)
  have hropes : told.ropes = rolled.ropes := same_of_blank (p := .ropes) htold rfl
  have htrav : told.trav = rolled.trav := same_of_blank (p := .trav) htold rfl
  clear_value told rolled
  obtain ⟨hcall, hmode, hroll, hstands, hothers⟩ := hrolled
  have htaken := State.takeRoll_ended (s := told) (i := i) (r := s.ropes[i]) (m := mode) (by rw [hropes]; exact hcall) (by rw [hropes]; exact hmode)
    (by rw [hropes]; exact hroll)
  have hboundary := State.atBoundary_of_trav (htrav.trans hstands)
  have hwoken : woken.ropes = taken.ropes :=
    (same_of_blank (p := .ropes) (m := only [.evlog, .irq]) (forEach_in (fun t p => State.event_in rfl rfl t _ _ _ _) counted _) rfl).trans
      (same_of_blank (p := .ropes) (State.noteCount_in (m := only [.belay, .bstr, .evlog, .irq]) rfl rfl rfl rfl taken i _) rfl)
  have hfinal : ∀ p, (if s.mode.block = .off || s.mode.block = .baseCamp then woken.placeString i p
      else if s.strs[i].excludeCall then woken.endExclusion i p else woken).ropes = taken.ropes := by
    intro p
    refine Eq.trans ?_ hwoken
    split
    · exact same_of_blank (p := .ropes) (m := only [.evlog, .irq, .strs, .fc, .health, .gates, .dict, .banks, .mode, .io])
        (by apply State.placeString_in <;> rfl) rfl
    · split
      · exact same_of_blank (p := .ropes) (m := only [.strs, .bstr, .dict, .values, .evlog, .irq, .belay])
          (by apply State.endExclusion_in <;> rfl) rfl
      · rfl
  clear_value woken
  rw [hfinal]
  change s.ropes[i].RollEnded mode s.atBoundary (if told.atBoundary then told.takeRoll i else told).ropes[i] ∧
    ∀ j, j ≠ i → (if told.atBoundary then told.takeRoll i else told).ropes[j] = s.ropes[j]
  rw [hboundary] at htaken ⊢
  exact ⟨htaken.1, fun j hj => (htaken.2 j hj).trans ((congrArg (fun v : Vector Rope 40 => v[j]) hropes).trans (hothers j hj))⟩

theorem exec_rollCallComplete {s : State} {i : Fin 40} (hcall : s.ropes[i].rollCall = 1) (hfw : s.start.fw = .running) (a b : List RollNode) :
    ∃ t, exec (.rollCallComplete i a b) s = .next t ∧ t.ropes = (s.rollCallEnds i a b).ropes := by
  refine ⟨_, congrArg Host.Outcome.next (if_pos ?_), ?_⟩
  · rw [hcall, hfw]
    rfl
  · dsimp only
    split
    · rfl
    · rfl

/-! ## Requests -/

theorem State.startRollCall_alone (s : State) (i : Fin 40) : (s.startRollCall i).ropes[i].result = 0 ∧ ∀ j, j ≠ i → (s.startRollCall i).ropes[j] = s.ropes[j] := by
  unfold State.startRollCall
  extract_lets begun use called
  have hbegun : begun.ropes[i].result = 0 ∧ ∀ j, j ≠ i → begun.ropes[j] = s.ropes[j] := by
    unfold begun
    refine ⟨?_, fun j hj => ?_⟩
    · rw [State.modRope_ropes, upd_get, if_pos rfl]
    · rw [State.modRope_ropes, upd_get_other _ _ (Ne.symm hj)]
  clear_value begun use
  have hcalled : State.PortsAlone i begun called := by
    unfold called
    exact .forEach fun t e => (State.PortsAlone.modEnd t i e _).trans (.sendFrame _ i e false 0x7F 0x3F [])
  have hall : State.PortsAlone i begun (if use.contains .a then called.sendFrame i .a false (rollCode .a) 0x3F (pairPayload 0 0) else called) := by
    split
    · exact hcalled.trans (.sendFrame called i .a false (rollCode .a) 0x3F (pairPayload 0 0))
    · exact hcalled
  exact ⟨(Rope.serving_result hall.serving).trans hbegun.1, fun j hj => (hall.others j hj).trans (hbegun.2 j hj)⟩

theorem exec_rollCallRequest {s : State} {src : Src} {i : Fin 40} (ha : s.admits src (strObj i) 0x0013 (u8 1)) (hcall : s.ropes[i].rollCall ≠ 1)
    (hservice : s.mode.block = .service) (hstr : s.strs[i].state = .isolated ∨ s.strs[i].state = .tripped ∨ s.strs[i].state = .lockedOut ∨
      s.strs[i].state = .excluded) : ∃ t, exec (.rollCallRequest src i 1) s = .next t ∧ t.ropes[i].rollCall = 1 ∧ t.ropes[i].result = 0 ∧
      ∀ j, j ≠ i → t.ropes[j] = s.ropes[j] := by
  have hropes : (s.taken src (strObj i) 0x0013).ropes = s.ropes := same_of_blank (p := .ropes) (taken_blank s src _ _) rfl
  have happly : (s.taken src (strObj i) 0x0013).applyRollCall i = .ok ((s.taken src (strObj i) 0x0013).startRollCall i) := by
    unfold State.applyRollCall
    dsimp only
    rw [hropes, if_neg hcall, if_pos]
    rw [State.taken_mode, State.taken_strs]
    simpa only [hservice, decide_true, Bool.true_and, Bool.or_eq_true, decide_eq_true_eq, or_assoc] using hstr
  obtain ⟨t, hexec, -, hblank⟩ := exec_plain (c := .rollCallRequest src i 1) rfl ha fun _ _ => happly
  have ht : t.ropes = ((s.taken src (strObj i) 0x0013).startRollCall i).ropes := same_of_blank (p := .ropes) hblank rfl
  obtain ⟨hresult, hothers⟩ := (s.taken src (strObj i) 0x0013).startRollCall_alone i
  refine ⟨t, hexec, ?_, ?_, fun j hj => ?_⟩
  · rw [ht]
    exact State.startRollCall_begins _ i
  · rw [ht]
    exact hresult
  · rw [ht, hothers j hj, hropes]

theorem exec_ropeModeReq {s : State} {src : Src} {i : Fin 40} {v : Nat} (ha : s.admits src (strObj i) 0x0011 (u8 v)) :
    ∃ t, exec (.ropeModeReq src i v) s = .next t ∧ t.ropes[i].req = some v ∧ t.val (strObj i) 0x0011 = v ∧ t.ropes[i].mode = s.ropes[i].mode ∧
      t.lastSent = some (.writeReply src (strObj i) 0x0011 1) := by
  have hropes : (s.taken src (strObj i) 0x0011).ropes = s.ropes := same_of_blank (p := .ropes) (taken_blank s src _ _) rfl
  obtain ⟨t, hexec, hsent, hblank⟩ := exec_plain (c := .ropeModeReq src i v) rfl ha fun _ _ => rfl
  have ht : t.ropes = upd s.ropes i fun r => { r with req := some v, partial_ := r.partial_ && decide (v = 1) } := by
    refine (same_of_blank (p := .ropes) hblank rfl : t.ropes = _).trans ?_
    rw [State.setVal_ropes, State.modRope_ropes, hropes]
  refine ⟨t, hexec, ?_, ?_, ?_, hsent⟩
  · rw [ht, upd_get, if_pos rfl]
  · exact (State.val_of_values (same_of_blank (p := .values) hblank rfl) ..).trans (State.val_setVal_same ..)
  · rw [ht, upd_get, if_pos rfl]

theorem exec_statsClear {s : State} {src : Src} {i : Fin 40} (ha : s.admits src (strObj i) 0x005F (u8 1)) :
    ∃ t, exec (.statsClear src i 1) s = .next t ∧ t.ropes[i].byPos = [] ∧ t.ropes[i].portA.stats = Vector.replicate 10 0 ∧
      t.ropes[i].portB.stats = Vector.replicate 10 0 ∧ ∀ j, j ≠ i → t.ropes[j] = s.ropes[j] := by
  have hropes : (s.taken src (strObj i) 0x005F).ropes = s.ropes := same_of_blank (p := .ropes) (taken_blank s src _ _) rfl
  obtain ⟨t, hexec, -, hblank⟩ := exec_plain (c := .statsClear src i 1) rfl ha fun _ _ => rfl
  have ht : t.ropes = upd s.ropes i fun r => { r with byPos := [], portA := { r.portA with stats := Vector.replicate 10 0 },
                                                      portB := { r.portB with stats := Vector.replicate 10 0 } } := by
    refine (same_of_blank (p := .ropes) hblank rfl : t.ropes = _).trans ?_
    rw [if_pos (by rfl), State.modRope_ropes, hropes]
  refine ⟨t, hexec, ?_, ?_, ?_, fun j hj => ?_⟩
  · rw [ht, upd_get, if_pos rfl]
  · rw [ht, upd_get, if_pos rfl]
  · rw [ht, upd_get, if_pos rfl]
  · rw [ht, upd_get_other _ _ (Ne.symm hj)]

/-! ## The partial roll call -/

theorem exec_partialRollCallComplete {s : State} {i : Fin 40} (h : s.ropes[i].partial_ = true) (nodes : List RollNode) :
    ∃ t, exec (.partialRollCallComplete i nodes) s = .next t ∧ t.ropes[i].partial_ = false ∧
      (∀ e, e = (if s.ropes[i].mode = .singleA then PortEnd.b else .a) →
        t.ropes[i].due = (if rollOutcome s.ropes[i].n (s.ropes[i].port e).failed e nodes (rttOf nodes) = none then some (.ring, none, none)
          else s.ropes[i].due)) ∧ t.ropes[i].mode = s.ropes[i].mode := by
  change ∃ t, execPartialRollCallComplete i nodes s = _ ∧ _
  unfold execPartialRollCallComplete
  rw [if_pos h]
  extract_lets r e called
  have hcalled : called.ropes[i].partial_ = false ∧ called.ropes[i].due = s.ropes[i].due ∧ called.ropes[i].mode = s.ropes[i].mode := by
    have hserving := (s.rollEnd_alone i e true true nodes).serving
    have hcount : ((s.rollEnd i e true true nodes).noteCount i (highestSrc nodes)).ropes = (s.rollEnd i e true true nodes).ropes :=
      same_of_blank (p := .ropes) (State.noteCount_in (m := only [.belay, .bstr, .evlog, .irq]) rfl rfl rfl rfl _ i _) rfl
    unfold called
    rw [State.modRope_ropes, upd_get, if_pos rfl, hcount]
    exact ⟨rfl, (Rope.serving_due hserving :), (Rope.serving_mode hserving :)⟩
  clear_value called
  obtain ⟨hpartial, hdue, hmode⟩ := hcalled
  refine ⟨_, rfl, ?_⟩
  have hend : ∀ e', e' = (if s.ropes[i].mode = .singleA then PortEnd.b else .a) → e' = e := fun _ he => he
  cases houtcome : rollOutcome r.n (r.port e).failed e nodes (rttOf nodes) with
  | some f =>
    have hropes : (called.refuseRope i RopeMode.ring.code).ropes = called.ropes :=
      (State.irqRaise_ropes ..).trans (State.event_ropes ..)
    dsimp only
    rw [hropes]
    refine ⟨hpartial, fun e' he => ?_, hmode⟩
    rw [hend e' he, hdue, if_neg]
    rw [houtcome]
    exact nofun
  | none =>
    have hserving := (State.PortsAlone.modEnd called i e fun p => { p with rtt := rttOf nodes }).serving
    dsimp only
    rw [State.modRope_ropes, upd_get, if_pos rfl]
    refine ⟨(Rope.serving_partial hserving).trans hpartial, fun e' he => ?_, (Rope.serving_mode hserving).trans hmode⟩
    rw [hend e' he, if_pos houtcome]

/-! ## Boundaries -/

theorem exec_ropeModeChange {s : State} {i : Fin 40} {m : RopeMode} {a b : Option Nat} (hfw : s.start.fw = .running) (hbound : s.atBoundary = true)
    (hcall : s.ropes[i].rollCall ≠ 1) (hroll : s.ropes[i].rollMode = none) (hdue : s.ropes[i].due = some (m, a, b)) (hm : m ≠ s.ropes[i].mode)
    (hreq : s.ropes[i].req = none) : ∃ t, exec (.ropeModeChange i) s = .next t ∧ t.ropes[i].mode = m ∧ t.ropes[i].due = none ∧
      t.ropes[i].lastA = (m.serves s.ropes[i].n a b).1 ∧ t.ropes[i].firstB = (m.serves s.ropes[i].n a b).2 := by
  have htaken : (s.takeRoll i).takeDue i = s.setRopeMode i m a b := by
    have hroll' : s.takeRoll i = s := by
      unfold State.takeRoll
      rw [hroll]
    rw [hroll']
    unfold State.takeDue
    rw [hdue]
    exact if_neg (by rw [decide_eq_false hm]; exact Bool.false_ne_true)
  have hsends := s.setRopeMode_sends i m a b
  have hserving := hsends.serving
  rw [State.modRope_ropes, upd_get, if_pos rfl] at hserving
  have hexec : exec (.ropeModeChange i) s = .next ((s.setRopeMode i m a b).runRope i) := by
    refine congrArg Host.Outcome.next ((if_pos ?_).trans ?_)
    · rw [hfw, hbound, decide_eq_true hcall]
      rfl
    · dsimp only
      rw [htaken, (Rope.serving_req hserving).trans hreq]
  have hrun := ((s.setRopeMode i m a b).runRope_sends i).serving.trans hserving
  exact ⟨_, hexec, Rope.serving_mode hrun, Rope.serving_due hrun, Rope.serving_lastA hrun, Rope.serving_firstB hrun⟩

/-! ## Spare PHYs -/

theorem State.storeLater_spareUse (s : State) : s.storeLater.health.spareUse = s.health.spareUse := by
  unfold State.storeLater
  split
  · rw [same_of_blank (p := .health) (State.storeCfg_in (m := only [.dict, .irq]) rfl rfl s) rfl]
  · rfl

theorem State.takeSpare_spareUse (s : State) (port : Fin 80) : (s.takeSpare port).health.spareUse[1] = sat32 s.health.spareUse[1] := by
  have huse : (s.takeSpare port).health.spareUse = upd s.health.spareUse 1 sat32 := by
    unfold State.takeSpare
    rw [State.storeLater_spareUse, State.modHealth_health, State.event_health, State.irqRaise_health]
    rfl
  exact (congrArg (fun v : Vector Nat 5 => v[1]) huse).trans ((upd_getN _ 1 1 (by decide) _).trans (if_pos rfl))

/-- The string and the end of a port by its number. -/
def portString (port : Fin 80) : Fin 40 := Fin.ofNat 40 port.val
def portSide (port : Fin 80) : PortEnd := if port.val + 1 ≤ 40 then .a else .b

theorem State.modEnd_eq_modPort (s : State) (port : Fin 80) (f : Port → Port) :
    s.modEnd (portString port) (portSide port) f = s.modPort (port.val + 1) f := by
  unfold State.modEnd State.modPort portSide
  refine State.modRope_congr ?_
  split <;> rfl

/-- A change of a rope that leaves its ports leaves every port. -/
theorem State.portAt_modRope (s : State) (i : Fin 40) {f : Rope → Rope} (h : ∀ r, (f r).portA = r.portA ∧ (f r).portB = r.portB) (n : Nat) :
    (s.modRope i f).portAt n = s.portAt n := by
  unfold State.portAt
  rw [State.modRope_ropes, upd_get]
  split
  · dsimp only
    rw [(h _).1, (h _).2]
  · rfl

/-- A port taken out of service keeps what else it holds (04 R135). -/
theorem State.portAt_failPort (s : State) (port : Fin 80) :
    (s.failPort (portString port) (portSide port)).portAt (port.val + 1) = { s.portAt (port.val + 1) with failed := true } := by
  have hn : 1 ≤ port.val + 1 ∧ port.val + 1 ≤ 80 := by omega
  unfold State.failPort
  extract_lets t
  have ht : t.portAt (port.val + 1) = { s.portAt (port.val + 1) with failed := true } := by
    have hropes : t.ropes = (s.modEnd (portString port) (portSide port) fun p => { p with failed := true }).ropes :=
      (State.storeLater_ropes _).trans (same_of_blank (p := .ropes) (State.portEvent_in (m := only [.evlog, .irq]) rfl rfl _ _ _ _ _ _) rfl)
    rw [State.portAt_of_ropes hropes, State.modEnd_eq_modPort, State.portAt_modPort _ _ hn hn, if_pos rfl]
  clear_value t
  split
  · refine (State.portAt_modRope t _ ?_ _).trans ht
    exact fun r => ⟨rfl, rfl⟩
  · exact ht

/-- What a due move of a port comes to (04 R134, R135). -/
theorem State.boundaryPort_moves {s : State} {port : Fin 80} (hbound : s.atBoundary = true) (hfw : s.start.fw = .running)
    (hrestore : (s.portAt (port.val + 1)).restoreDue = false) (hdue : (s.portAt (port.val + 1)).moveDue = true)
    (hfirst : ((portGroup (port.val + 1)).any fun m => decide (m < port.val + 1) && (s.portAt m).moveDue) = false) :
    s.boundaryPort port = if (s.portAt (port.val + 1)).spare then (s.takeMove (port.val + 1)).failPort (portString port) (portSide port)
      else if !((portGroup (port.val + 1)).any fun m => (s.portAt m).spare) then s.takeSpare port
      else if (s.portAt (port.val + 1)).strike then (s.takeMove (port.val + 1)).failPort (portString port) (portSide port)
      else (s.keepOwnPhy (port.val + 1)).portEvent (portString port) (portSide port) 0x1010 (port.val + 1) := by
  unfold State.boundaryPort
  extract_lets n i e p t taken
  rw [if_neg (by rw [hbound, hfw]; decide), if_neg (by rw [hrestore]; decide), if_neg (by rw [hdue, hfirst]; decide)]
  rfl

theorem exec_portToSpare {s : State} {port : Fin 80} (hbound : s.atBoundary = true) (hfw : s.start.fw = .running)
    (hrestore : (s.portAt (port.val + 1)).restoreDue = false) (hdue : (s.portAt (port.val + 1)).moveDue = true)
    (hfirst : ((portGroup (port.val + 1)).any fun m => decide (m < port.val + 1) && (s.portAt m).moveDue) = false) :
    ∃ t, exec (.portToSpare port) s = .next t ∧ (t.portAt (port.val + 1)).moveDue = false ∧
      (((portGroup (port.val + 1)).any fun m => (s.portAt m).spare) = false → (t.portAt (port.val + 1)).spare = true ∧
        t.health.spareUse[1] = sat32 s.health.spareUse[1]) ∧
      ((s.portAt (port.val + 1)).spare = true → (t.portAt (port.val + 1)).failed = true) := by
  have hn : 1 ≤ port.val + 1 ∧ port.val + 1 ≤ 80 := by omega
  have hfailed : ((s.takeMove (port.val + 1)).failPort (portString port) (portSide port)).portAt (port.val + 1) =
      { s.portAt (port.val + 1) with moveDue := false, failed := true } := by
    rw [State.portAt_failPort, State.portAt_takeMove s hn hn, if_pos rfl]
  refine ⟨_, congrArg Host.Outcome.next (State.boundaryPort_moves hbound hfw hrestore hdue hfirst), ?_⟩
  by_cases hown : (s.portAt (port.val + 1)).spare = true
  · have htaken : ((portGroup (port.val + 1)).any fun m => (s.portAt m).spare) = true :=
      List.any_eq_true.mpr ⟨port.val + 1, mem_portGroup_of_same rfl, hown⟩
    rw [if_pos hown, hfailed, htaken]
    exact ⟨rfl, nofun, fun _ => rfl⟩
  · rw [if_neg hown]
    refine and_assoc.mp ⟨?_, fun h => absurd h hown⟩
    by_cases htaken : ((portGroup (port.val + 1)).any fun m => (s.portAt m).spare) = true
    · rw [htaken]
      refine ⟨?_, nofun⟩
      rw [if_neg (by decide)]
      split
      · rw [hfailed]
      · rw [State.portAt_of_ropes (same_of_blank (p := .ropes) (State.portEvent_in (m := only [.evlog, .irq]) rfl rfl _ _ _ _ _ _) rfl),
          State.portAt_keepOwnPhy s hn]
    · rw [Bool.eq_false_iff.mpr htaken]
      rw [if_pos (by decide), State.portAt_takeSpare s port hn, if_pos rfl]
      refine ⟨rfl, fun _ => ⟨rfl, ?_⟩⟩
      exact s.takeSpare_spareUse port

/-- Settles O22: roll calls, rope modes at a boundary, statistics and spares. -/
theorem ropeCommands : Obligations.RopeCommands := by
  intro s i src
  refine ⟨exec_rollCallRequest, fun a b hcall hfw => ?_, fun nodes hpartial => exec_partialRollCallComplete hpartial nodes, fun v => exec_ropeModeReq,
    exec_statsClear, fun m a b => exec_ropeModeChange, fun port => exec_portToSpare⟩
  obtain ⟨t, hexec, hropes⟩ := exec_rollCallComplete hcall hfw a b
  obtain ⟨hended, hothers⟩ := s.rollCallEnds_ended i a b
  refine ⟨t, hexec, fun fa fb m hfa hfb hm => ?_, fun j hj => ?_⟩
  · subst hfa hfb
    have hmode : m = rollModeOf _ _ _ := hm
    rw [hropes, hmode]
    exact ⟨hended.rollCall, hended.taken, hended.waits⟩
  · rw [hropes]
    exact hothers j hj

end Sys2Proof.Machine

/-! Obligation O29: the correlation engine's batches and the self-discharge window (07 R196 to R200, R205). -/

namespace Sys2Proof.Machine

-- One thread per theorem would be more than the compiler's memory limit allows.
set_option Elab.async false

/-! ## The engine's account -/

/-- What the engine stands at, apart from its filters, sums and the solutions firmware makes of them. -/
def Corr.account (c : Corr) : Corr :=
  { c with strIn := [], strBand := [], cellIn := [], cellBand := [], charge := [], changed := false, sat := false, gap := false, sats := 0,
           seen := 0, imped := [], exc := [], solved := false }

theorem forEach_account {α : Type} {f : State → α → State} (h : ∀ t a, (f t a).corr.account = t.corr.account) (s : State) (l : List α) :
    (s.forEach l f).corr.account = s.corr.account := forEach_fixes (get := fun t => t.corr.account) h s l

theorem State.noteSat_account (s : State) (i : Fin 40) (b : Nat) : (s.noteSat i b).corr.account = s.corr.account := by
  simp only [State.noteSat, State.event_corr, State.irqRaise_corr]
  rfl

theorem State.strBandStep_account (s : State) (i : Fin 40) (b : Nat) (x : Rat) (seen reset : Bool) :
    (s.strBandStep i b x seen reset).1.corr.account = s.corr.account := by
  unfold State.strBandStep
  extract_lets
  dsimp only
  split
  · exact State.noteSat_account _ i b
  · rfl

theorem State.cellBandStep_account (s : State) (i : Fin 40) (e b : Nat) (x : Rat) (pair usable reset : Bool) (prev d : Rat) :
    (s.cellBandStep i e b x pair usable reset prev d).corr.account = s.corr.account := by
  unfold State.cellBandStep
  extract_lets
  split
  · exact State.noteSat_account _ i b
  · rfl

theorem State.corrString_account (s : State) (i : Fin 40) (n : CorrIn) : (s.corrString i n).corr.account = s.corr.account := by
  unfold State.corrString
  extract_lets c run reset held pairSeen c' t bands r
  have hbands : ∀ (l : List Nat) (a : State × List (Nat × Bool × Rat × Rat)),
      (l.foldl (fun a b => let q := a.1.strBandStep i b held pairSeen reset; (q.1, a.2 ++ [(b, q.2)])) a).1.corr.account = a.1.corr.account := by
    intro l
    induction l with
    | nil => exact fun _ => rfl
    | cons b l ih => exact fun a => (ih _).trans (a.1.strBandStep_account i b held pairSeen reset)
  refine (forEach_account (fun t e => ?_) _ _).trans (hbands bands (t, []))
  exact forEach_account (fun t q => t.cellBandStep_account ..) _ _

theorem State.noteExcitation_account (s : State) : s.noteExcitation.corr.account = s.corr.account := by
  unfold State.noteExcitation
  refine forEach_account (fun t i => forEach_account (fun t b => ?_) _ _) _ _
  extract_lets key c now t'
  have ht' : t'.corr.account = t.corr.account := rfl
  clear_value t'
  split
  · rfl
  · split
    · exact ht'
    · rw [State.event_corr, State.irqRaise_corr]
      exact ht'

/-! ## Solving a batch -/

theorem State.learnR_corr (s : State) (i : Fin 40) (e : Nat) (re : Int) : (s.learnR i e re).corr = s.corr :=
  same_of_blank (p := .corr) (State.learnR_in (m := only [.est]) rfl s i e re) rfl

theorem State.solveCell_account (s : State) (g : Batch) (lam : Rat) (i : Fin 40) (e b : Nat) :
    (s.solveCell g lam i e b).corr.account = s.corr.account := by
  unfold State.solveCell
  extract_lets key m0 corner edge _ m put hold cell m' z re t
  have hput : ∀ t m, (put t m).corr.account = t.corr.account := fun _ _ => rfl
  split
  · exact hput s _
  · split
    · have ht : t.corr.account = s.corr.account := hput s _
      clear_value t
      split
      · rw [State.learnR_corr]
        exact ht
      · exact ht
    · exact hput s _

/-- Firmware's work on a batch leaves the engine's account. -/
theorem State.solveBatch_account (s : State) (g : Batch) : (s.solveBatch g).corr.account = s.corr.account := by
  unfold State.solveBatch
  extract_lets lam t
  refine (forEach_account (fun t i => forEach_account (fun t b => ?_) _ _) s _ : t.corr.account = s.corr.account)
  extract_lets key x t'
  exact (forEach_account (fun t e => t.solveCell_account ..) _ _).trans (rfl : t'.corr.account = t.corr.account)

/-! ## The end of a batch -/

/-- A batch in the result area, with what the area adds to it. -/
def State.placed (s : State) (g : Batch) : Batch := { g with discarded := s.corr.discarded, figures := s.corrFigures }

theorem State.writeArea_account (s : State) (g : Batch) :
    (s.writeArea g).corr.account = { s.corr.account with area := some (s.placed g), ready := true, taken := false, discarded := 0 } := by
  unfold State.writeArea
  extract_lets g' t
  have ht : t.corr.account = { s.corr.account with area := some (s.placed g), ready := true, taken := false, discarded := 0 } := by
    simp only [t, State.irqRaise_corr]
    rfl
  clear_value t
  split
  · exact (t.solveBatch_account g').trans ht
  · exact ht

/-- `CORR_ENABLE` as it stands. -/
def State.corrOn (s : State) : Bool := s.val blockObj 0x0100 = 1

/-- The account with the sums closed. -/
def Corr.closed (c : Corr) (on : Bool) : Corr := { c.account with first := none, count := 0, enabled := on }

/-- The batch the engine ends: what `formBatch` reads where excitation is noted only of a batch that counts. -/
def State.ended (s : State) : Batch := (if s.corr.enabled && s.corrOn then s.noteExcitation else s).formBatch

/-- The state between the batch formed and what becomes of it. -/
def State.emptied (s : State) : State :=
  (if s.corr.enabled && s.corrOn then s.noteExcitation else s).clearSums.modCorr fun c => { c with enabled := s.corrOn }

theorem State.emptied_account (s : State) : s.emptied.corr.account = s.corr.closed s.corrOn := by
  have hnoted : (if s.corr.enabled && s.corrOn then s.noteExcitation else s).corr.account = s.corr.account := by
    split
    · exact s.noteExcitation_account
    · rfl
  exact congrArg (fun c : Corr => { c with first := none, count := 0, enabled := s.corrOn }) hnoted

theorem State.ended_heads (s : State) :
    s.ended.number = s.corr.number ∧ s.ended.count = s.corr.count ∧ s.ended.discarded = s.corr.discarded := by
  unfold State.ended
  have hnoted : (if s.corr.enabled && s.corrOn then s.noteExcitation else s).corr.account = s.corr.account := by
    split
    · exact s.noteExcitation_account
    · rfl
  generalize (if s.corr.enabled && s.corrOn then s.noteExcitation else s) = t at hnoted
  exact ⟨(congrArg Corr.number hnoted :), (congrArg Corr.count hnoted :), (congrArg Corr.discarded hnoted :)⟩

/-- A batch that does not count is only closed (07 R200). -/
theorem State.endBatch_discards {s : State} (h : (s.corr.enabled && s.corrOn) = false) : s.endBatch = s.emptied := by
  change (if (!s.corr.enabled || !s.corrOn) = true then s.emptied else _) = _
  refine if_pos ?_
  rw [← Bool.not_and, h]
  rfl

/-- Where the area is taken, the batch that ends is written there (07 R198). -/
theorem State.endBatch_writes {s : State} (h : (s.corr.enabled && s.corrOn) = true) (ht : s.corr.taken = true) :
    s.endBatch = (s.emptied.modCorr fun c => { c with number := (c.number + 1) % 2 ^ 32 }).writeArea s.ended := by
  have htaken : s.emptied.corr.taken = true := (congrArg Corr.taken s.emptied_account).trans ht
  change (if (!s.corr.enabled || !s.corrOn) = true then s.emptied else _) = _
  rw [if_neg (by rw [← Bool.not_and, h]; decide)]
  exact if_pos htaken

/-- Where it is not, the batch waits; an older one that waited is lost (07 R198). -/
theorem State.endBatch_holds {s : State} (h : (s.corr.enabled && s.corrOn) = true) (ht : s.corr.taken = false) :
    s.endBatch.corr.account = { s.corr.closed s.corrOn with
      number := (s.corr.number + 1) % 2 ^ 32, heldBatch := some s.ended,
      lost := if s.corr.heldBatch.isNone then s.corr.lost else sat32 s.corr.lost,
      discarded := if s.corr.heldBatch.isNone then s.corr.discarded else sat32 s.corr.discarded } := by
  have hacc := s.emptied_account
  have htaken : s.emptied.corr.taken = false := (congrArg Corr.taken hacc).trans ht
  have hheld : s.emptied.corr.heldBatch = s.corr.heldBatch := (congrArg Corr.heldBatch hacc :)
  have hend : s.endBatch = if s.emptied.corr.heldBatch.isNone = true then
        (s.emptied.modCorr fun c => { c with number := (c.number + 1) % 2 ^ 32 }).modCorr fun c => { c with heldBatch := some s.ended }
      else ((s.emptied.modCorr fun c => { c with number := (c.number + 1) % 2 ^ 32 }).modCorr fun c => { c with
          heldBatch := some s.ended, lost := sat32 c.lost, discarded := sat32 c.discarded, seen := c.seen ||| 0x400 }).event 0x3003 blockObj 0 := by
    change (if (!s.corr.enabled || !s.corrOn) = true then s.emptied else _) = _
    rw [if_neg (by rw [← Bool.not_and, h]; decide)]
    exact if_neg (by change ¬s.emptied.corr.taken = true; rw [htaken]; decide)
  rw [hend, hheld]
  split
  next => exact congrArg (fun c : Corr => { c with number := (c.number + 1) % 2 ^ 32, heldBatch := some s.ended }) hacc
  next =>
    rw [State.event_corr]
    exact congrArg (fun c : Corr => { c with
      number := (c.number + 1) % 2 ^ 32, heldBatch := some s.ended, lost := sat32 c.lost, discarded := sat32 c.discarded }) hacc

/-! ## The update of a traverse -/

theorem State.newPeriod_teff (s : State) (teff : Nat) : (s.newPeriod teff).corr.teff = teff := by
  unfold State.newPeriod
  extract_lets old t t'
  have ht' : t'.corr.teff = teff := rfl
  clear_value t'
  split
  · exact ht'
  · refine Eq.trans (forEach_fixes (get := fun t => t.corr.teff) (fun u b => ?_) t' _) ht'
    split
    · rfl
    · rw [State.event_corr]

theorem State.corrSkip_account (s : State) (i : Fin 40) (n : CorrIn) : (s.corrSkip i n).corr.account = s.corr.account := rfl

/-- The strings' sums at a traverse. -/
def State.corrTraverse (s : State) (n : Nat) : State :=
  s.forEach s.installed fun t i => if t.strs[i].state = .excluded then t.corrSkip i (t.corrIn n true i) else t.corrString i (t.corrIn n true i)

theorem State.corrTraverse_account (s : State) (n : Nat) : (s.corrTraverse n).corr.account = s.corr.account := by
  refine forEach_account (fun t i => ?_) s _
  split
  · exact t.corrSkip_account ..
  · exact t.corrString_account ..

/-- The state a traverse of period `period` is summed in: a full batch has ended, and the period is in force. -/
def State.atPeriod (s : State) (period : Nat) : State :=
  let t := if s.batchFull then s.endBatch else s
  if period = t.corr.teff then t else t.newPeriod period

theorem State.atPeriod_teff (s : State) (period : Nat) : (s.atPeriod period).corr.teff = period := by
  unfold State.atPeriod
  extract_lets t
  split
  next hsame => exact hsame.symm
  next => exact t.newPeriod_teff period

theorem State.atPeriod_same {s : State} {period : Nat} (hfull : s.batchFull = false) (h : period = s.corr.teff) : s.atPeriod period = s := by
  unfold State.atPeriod
  rw [hfull]
  exact if_pos h

/-- A published traverse is taken into the sums of the batch that stands once a full one has ended and a new period is in force. -/
theorem exec_correlationUpdate {s : State} {n : Nat} (hn : s.corr.next = some n) (hfw : s.start.fw ≠ .down)
    (hused : s.trav.bufs[bufOf n].used = true) (hnumber : s.trav.bufs[bufOf n].number = n) (hpub : s.trav.bufs[bufOf n].published = true) :
    exec .correlationUpdate s = .next
      (((s.atPeriod s.trav.bufs[bufOf n].period).corrTraverse n).modCorr fun c =>
        { c with next := some ((n + 1) % 2 ^ 32), first := some (c.first.getD n), count := c.count + 1 }) := by
  change execCorrelationUpdate s = _
  unfold execCorrelationUpdate
  have hsome : s.corr.next.isNone = false := by rw [hn]; rfl
  obtain rfl : s.corr.next.getD 0 = n := by rw [hn]; rfl
  extract_lets k b here live late t teff t' t1 t2
  have hhere : here = true := by simp only [here, b, k, hused, hnumber, decide_true, Bool.and_self]
  have hlive : live = true := by simp only [live, hhere, b, k, hpub, Bool.and_self]
  have hteff : teff = s.trav.bufs[bufOf k].period := if_pos hhere
  have ht1 : t1 = t' := if_pos hlive
  have ht2 : t2 = t'.corrTraverse k := by
    simp only [t2, ht1, hlive]
    rfl
  rw [if_neg (by simp [hfw, hsome, hlive]), ht2]
  simp only [t', hteff, t, k, State.atPeriod]

/-! ## The result area and the window -/

/-- Firmware takes the area once it has solved what stands there (07 R198). -/
def State.areaTaken (s : State) : State :=
  (s.corr.area.elim s fun g => if s.corr.solved then s else s.solveBatch g).modCorr fun c => { c with taken := true }

theorem State.areaTaken_account (s : State) : s.areaTaken.corr.account = { s.corr.account with taken := true } := by
  suffices hsolved : (s.corr.area.elim s fun g => if s.corr.solved then s else s.solveBatch g).corr.account = s.corr.account from
    congrArg (fun c : Corr => { c with taken := true }) hsolved
  cases s.corr.area with
  | none => rfl
  | some g =>
    simp only [Option.elim_some]
    split
    · rfl
    · exact s.solveBatch_account g

theorem exec_resultTaken {s : State} (hfw : s.fwActs = true) (hready : s.corr.ready = true) (htaken : s.corr.taken = false) :
    exec .resultTaken s = .next (s.areaTaken.corr.heldBatch.elim s.areaTaken fun g =>
      (s.areaTaken.modCorr fun c => { c with heldBatch := none }).writeArea g) := by
  change execResultTaken s = _
  unfold execResultTaken
  rw [if_pos (by rw [hfw, hready, htaken]; rfl)]
  extract_lets t t'
  have ht : t = s.corr.area.elim s fun g => if s.corr.solved then s else s.solveBatch g := by
    simp only [t]
    cases s.corr.area <;> rfl
  have ht' : t' = s.areaTaken := congrArg (State.modCorr · fun c => { c with taken := true }) ht
  rw [ht']
  cases s.areaTaken.corr.heldBatch <;> rfl

theorem State.sdString_est (s : State) (i : Fin 40) : (s.sdString i).est = s.est :=
  same_of_blank (p := .est) (State.sdString_in (m := only [.corr, .evlog, .irq]) rfl rfl rfl s i) rfl

theorem State.sdString_area (s : State) (i : Fin 40) : (s.sdString i).corr.area = s.corr.area := by
  unfold State.sdString
  extract_lets old x often part delta mid hours zMid
  refine forEach_fixes (get := fun t => t.corr.area) (fun t e => ?_) s _
  extract_lets o z put zs isd sd mean zl n t'
  have hput : ∀ t n, (put t n).corr.area = t.corr.area := fun _ _ => rfl
  split
  · exact hput t _
  · have ht' : t'.corr.area = t.corr.area := hput t _
    clear_value t'
    split
    · exact ht'
    · rw [State.event_corr]
      exact ht'

/-! ## The obligation -/

theorem correlationUpdate_takes {s : State} {n : Nat} (hn : s.corr.next = some n) (hfw : s.start.fw ≠ .down)
    (hused : s.trav.bufs[bufOf n].used = true) (hnumber : s.trav.bufs[bufOf n].number = n) (hpub : s.trav.bufs[bufOf n].published = true) :
    ∃ t, exec .correlationUpdate s = .next t ∧ t.corr.next = some ((n + 1) % 2 ^ 32) ∧ t.corr.teff = s.trav.bufs[bufOf n].period ∧
      (s.batchFull = false → s.trav.bufs[bufOf n].period = s.corr.teff →
        t.corr.count = s.corr.count + 1 ∧ t.corr.first = some (s.corr.first.getD n) ∧ t.corr.area = s.corr.area) := by
  refine ⟨_, exec_correlationUpdate hn hfw hused hnumber hpub, rfl, ?_, fun hfull hperiod => ?_⟩
  · exact (congrArg Corr.teff (State.corrTraverse_account _ n) :).trans (s.atPeriod_teff _)
  · rw [State.atPeriod_same hfull hperiod]
    have hacc := s.corrTraverse_account n
    have hcount : (s.corrTraverse n).corr.count = s.corr.count := (congrArg Corr.count hacc :)
    have hfirst : (s.corrTraverse n).corr.first = s.corr.first := (congrArg Corr.first hacc :)
    have harea : (s.corrTraverse n).corr.area = s.corr.area := (congrArg Corr.area hacc :)
    exact ⟨congrArg (· + 1) hcount, congrArg (fun f => some (Option.getD f n)) hfirst, harea⟩

theorem batchHandover_ends {s : State} (hfull : s.batchFull = true) :
    ∃ t, exec .batchHandover s = .next t ∧ t.corr.count = 0 ∧ t.corr.first = none ∧
    t.corr.enabled = (s.val blockObj 0x0100 == 1) ∧
    (s.corr.enabled = true → s.val blockObj 0x0100 = 1 → t.corr.number = (s.corr.number + 1) % 2 ^ 32 ∧
      (s.corr.taken = true → t.corr.ready = true ∧ t.corr.taken = false ∧ t.corr.discarded = 0 ∧
        ∃ g, t.corr.area = some g ∧ g.number = s.corr.number ∧ g.count = s.corr.count ∧ g.discarded = s.corr.discarded) ∧
      (s.corr.taken = false → t.corr.area = s.corr.area ∧ t.corr.lost = (if s.corr.heldBatch.isNone then s.corr.lost else sat32 s.corr.lost) ∧
        ∃ g, t.corr.heldBatch = some g ∧ g.number = s.corr.number)) ∧
    (s.corr.enabled = false ∨ s.val blockObj 0x0100 ≠ 1 → t.corr.number = s.corr.number ∧ t.corr.area = s.corr.area) := by
  refine ⟨_, congrArg Host.Outcome.next (if_pos hfull), ?_⟩
  obtain ⟨hnumber, hcount, hdiscarded⟩ := s.ended_heads
  have hon : s.corrOn = (s.val blockObj 0x0100 == 1) := rfl
  by_cases hcounts : (s.corr.enabled && s.corrOn) = true
  · have hnot : ¬(s.corr.enabled = false ∨ s.val blockObj 0x0100 ≠ 1) := by
      simpa [hon] using hcounts
    cases htaken : s.corr.taken with
    | true =>
      have hacc := s.emptied_account
      rw [State.endBatch_writes hcounts htaken]
      have harea := State.writeArea_account (s.emptied.modCorr fun c => { c with number := (c.number + 1) % 2 ^ 32 }) s.ended
      refine ⟨(congrArg Corr.count harea).trans (congrArg Corr.count hacc :), (congrArg Corr.first harea).trans (congrArg Corr.first hacc :),
        (congrArg Corr.enabled harea).trans (congrArg Corr.enabled hacc :), fun _ _ => ⟨(congrArg Corr.number harea).trans
          (congrArg (fun c : Corr => (c.number + 1) % 2 ^ 32) hacc :), fun _ => ⟨(congrArg Corr.ready harea :), (congrArg Corr.taken harea :),
          (congrArg Corr.discarded harea :), _, (congrArg Corr.area harea :), hnumber, hcount, (congrArg Corr.discarded hacc :)⟩, nofun⟩,
        fun h => absurd h hnot⟩
    | false =>
      have hacc := State.endBatch_holds hcounts htaken
      exact ⟨(congrArg Corr.count hacc :), (congrArg Corr.first hacc :), (congrArg Corr.enabled hacc :),
        fun _ _ => ⟨(congrArg Corr.number hacc :), nofun, fun _ => ⟨(congrArg Corr.area hacc :), (congrArg Corr.lost hacc :), _,
          (congrArg Corr.heldBatch hacc :), hnumber⟩⟩, fun h => absurd h hnot⟩
  · have hacc := s.emptied_account
    rw [State.endBatch_discards (Bool.eq_false_iff.2 hcounts)]
    exact ⟨(congrArg Corr.count hacc :), (congrArg Corr.first hacc :), (congrArg Corr.enabled hacc :),
      fun henabled hval => absurd (by rw [henabled, hon, hval]; rfl) hcounts,
      fun _ => ⟨(congrArg Corr.number hacc :), (congrArg Corr.area hacc :)⟩⟩

theorem resultTaken_takes {s : State} (hfw : s.fwActs = true) (hready : s.corr.ready = true) (htaken : s.corr.taken = false) :
    ∃ t, exec .resultTaken s = .next t ∧ t.corr.heldBatch = none ∧
    (s.corr.heldBatch = none → t.corr.taken = true ∧ t.corr.area = s.corr.area) ∧
    (∀ g, s.corr.heldBatch = some g → t.corr.taken = false ∧ t.corr.ready = true ∧ ∃ a, t.corr.area = some a ∧ a.number = g.number ∧
      a.count = g.count ∧ a.strs = g.strs ∧ a.cells = g.cells ∧ a.charge = g.charge ∧ a.discarded = s.corr.discarded) := by
  refine ⟨_, exec_resultTaken hfw hready htaken, ?_⟩
  have hacc := s.areaTaken_account
  have hheld : s.areaTaken.corr.heldBatch = s.corr.heldBatch := (congrArg Corr.heldBatch hacc :)
  rw [hheld]
  cases hwait : s.corr.heldBatch with
  | none => exact ⟨hheld.trans hwait, fun _ => ⟨(congrArg Corr.taken hacc :), (congrArg Corr.area hacc :)⟩, nofun⟩
  | some g =>
    have harea := State.writeArea_account (s.areaTaken.modCorr fun c => { c with heldBatch := none }) g
    refine ⟨(congrArg Corr.heldBatch harea :), nofun, fun g' hg => ?_⟩
    obtain rfl := Option.some.inj hg
    exact ⟨(congrArg Corr.taken harea :), (congrArg Corr.ready harea :), _, (congrArg Corr.area harea :), rfl, rfl, rfl, rfl, rfl,
      (congrArg Corr.discarded hacc :)⟩

theorem sdWindowEnd_opens {s : State} (hfw : s.fwActs = true) (hdue : s.corr.sdAt + sec (3600 * s.val blockObj 0x010B) ≤ s.now) :
    ∃ t, exec .sdWindowEnd s = .next t ∧ t.corr.sdAt = s.now ∧ t.corr.sdCount = 0 ∧ t.corr.sdSeen = [] ∧ t.corr.area = s.corr.area ∧
      t.est = s.est := by
  refine ⟨_, congrArg Host.Outcome.next (if_pos (by rw [hfw, decide_eq_true hdue]; rfl)), rfl, rfl, rfl, ?_, ?_⟩
  · exact forEach_fixes (get := fun t => t.corr.area) State.sdString_area s s.installed
  · exact forEach_fixes (get := fun t => t.est) State.sdString_est s s.installed

theorem corrEnableWrite_waits {s : State} {src : Src} {v : Nat} (ha : s.admits src blockObj 0x0100 (u8 v)) :
    ∃ t, exec (.corrEnableWrite src v) s = .next t ∧ t.val blockObj 0x0100 = v ∧ t.corr = s.corr ∧
      t.lastSent = some (.writeReply src blockObj 0x0100 1) := by
  obtain ⟨t, hexec, hsent, ht⟩ := exec_plain (c := .corrEnableWrite src v) rfl ha fun _ _ => rfl
  refine ⟨t, hexec, ?_, ?_, hsent⟩
  · exact (State.val_of_values (same_of_blank (p := .values) ht rfl) ..).trans (State.val_setVal_same ..)
  · exact (same_of_blank (p := .corr) ht rfl : t.corr = _).trans (State.taken_corr s src blockObj 0x0100)

/-- Settles O29: what filters, sums and solutions make of the traverses leaves the engine's account, which each command then sets. -/
theorem batches : Obligations.Batches := fun _ =>
  ⟨fun _ hn hfw hused hnumber hpub => correlationUpdate_takes hn hfw hused hnumber hpub, batchHandover_ends, resultTaken_takes,
    fun _ _ => corrEnableWrite_waits, sdWindowEnd_opens⟩

end Sys2Proof.Machine

/-! Obligation O30: the estimator's step and the learned copies in flash (08 R216, R233, 17 R453). -/

namespace Sys2Proof.Machine

-- One thread per theorem would be more than the compiler's memory limit allows.
set_option Elab.async false

/-! ## The copies in flash -/

/-- The regions' copies, the instants they were completed at, and that of the last periodic write-back. -/
def Store.flash (g : Store) : Vector Learned 3 × Vector (Option Nat) 3 × Nat := (g.copies, g.slotAt, g.periodic)

theorem State.appendHistory_flash (s : State) (img : Learned) (reason : Nat) : (s.appendHistory img reason).store.flash = s.store.flash := by
  unfold State.appendHistory
  split
  · rfl
  · extract_lets cells at_ seq set_ t
    have ht : t.store.flash = s.store.flash := rfl
    clear_value t
    split
    · rw [State.event_store]
      exact ht
    · exact ht

theorem State.beginWrite_flash (s : State) (reason : Nat) : (s.beginWrite reason).store.flash = s.store.flash := by
  unfold State.beginWrite
  split <;> rfl

theorem State.abandonWrite_flash (s : State) : s.abandonWrite.store.flash = s.store.flash := by
  unfold State.abandonWrite
  split <;> rfl

/-- Moving a write-back on leaves the copies it made. -/
theorem State.nextCopy_flash (n : Nat) (s : State) : (State.nextCopy n s).store.flash = s.store.flash := by
  induction n generalizing s with
  | zero => rfl
  | succ n ih =>
    rw [State.nextCopy]
    split
    · rfl
    · split
      · split
        · exact ih _
        · split
          · exact s.abandonWrite_flash
          · split
            · refine (ih _).trans ?_
              rw [State.event_store]
              rfl
            · rfl
      · extract_lets whole t t'
        have ht : t.store.flash = s.store.flash := rfl
        clear_value t
        have ht' : t'.store.flash = s.store.flash := (t.appendHistory_flash ..).trans ht
        clear_value t'
        split
        · exact (t'.beginWrite_flash _).trans ht'
        · exact ht'

theorem State.writeBack_flash (s : State) (reason : Nat) : (s.writeBack reason).store.flash = s.store.flash :=
  (State.nextCopy_flash 4 _).trans (s.beginWrite_flash reason)

/-- A copy that is complete stands in its region. -/
theorem State.copyWritten_flash (s : State) (img : Learned) (reason : Nat) (k : Fin 3) :
    (s.copyWritten img reason k).store.flash = (s.store.copies.set k img, s.store.slotAt.set k (some s.now), s.store.periodic) := by
  refine (State.nextCopy_flash 4 _).trans ?_
  rw [State.event_store, State.irqRaise_store, State.irqRaise_store]
  rfl

/-! ## The instant of the step -/

theorem forEach_last {α : Type} {f : State → α → State} (h : ∀ t a, (f t a).est.last = t.est.last) (s : State) (l : List α) :
    (s.forEach l f).est.last = s.est.last := forEach_fixes (get := fun t => t.est.last) h s l

theorem State.event_last (s : State) (id source sub : Nat) (detail : List Byte) :
    (s.event id source sub detail).est.last = s.est.last := congrArg Est.last (State.event_est ..)

theorem State.learnCap_last (s : State) (i : Fin 40) (e : Nat) (c : CellEst) (a : Anchor) : (s.learnCap i e c a).1.est.last = s.est.last := by
  unfold State.learnCap
  extract_lets kept
  split
  · rfl
  · split
    · rfl
    · split
      · exact State.event_last ..
      · exact (State.event_last ..).trans rfl

theorem State.anchor_last (s : State) (i : Fin 40) (e at_ : Nat) (w : List Sample) (r : Rat) (c : CellEst) :
    (s.anchor i e at_ w r c).1.est.last = s.est.last := by
  unfold State.anchor
  extract_lets
  split
  · rfl
  · split
    · rfl
    · exact s.learnCap_last ..

theorem State.maybeAnchor_last (s : State) (i : Fin 40) (e at_ : Nat) (w : List Sample) (rest entry : Bool) (c : CellEst) :
    (s.maybeAnchor i e at_ w rest entry c).1.est.last = s.est.last := by
  unfold State.maybeAnchor
  extract_lets
  split
  · rfl
  · split
    · exact s.anchor_last ..
    · split
      · exact s.anchor_last ..
      · rfl

theorem State.stepCell_last (s : State) (i : Fin 40) (q : Sample) (ns : Nat) (new : List Sample) (n : StepIn) (w : List Sample)
    (rest entry : Bool) (e : Nat) : (s.stepCell i q ns new n w rest entry e).est.last = s.est.last := by
  unfold State.stepCell
  extract_lets p c v dqb k t r
  have ht : t.est.last = s.est.last := by
    simp only [t]
    split
    · rw [State.event_est]
    · rfl
  exact (t.maybeAnchor_last ..).trans ht

theorem State.takeProfile_last (s : State) (i : Fin 40) : (s.takeProfile i).est.last = s.est.last := by
  unfold State.takeProfile
  split
  · rfl
  · extract_lets t
    have ht : t.est.last = s.est.last := by
      refine forEach_last (fun t e => ?_) s _
      rfl
    rw [State.event_est]
    exact ht

theorem State.takeCharge_last (s : State) (i : Fin 40) (p : Sample) : (s.takeCharge i p).est.last = s.est.last := by
  unfold State.takeCharge
  extract_lets
  split <;> rfl

theorem State.takeRest_last (s : State) (i : Fin 40) (p : Sample) : (s.takeRest i p).1.est.last = s.est.last := by
  unfold State.takeRest
  extract_lets at_ e rest
  split
  · exact (State.event_last ..).trans rfl
  · exact (State.event_last ..).trans rfl
  · rfl

theorem State.stepLimits_last (s : State) (i : Fin 40) (dt : Rat) : (s.stepLimits i dt).est.last = s.est.last := by
  unfold State.stepLimits
  extract_lets closed e own rise fall lim src t
  have ht : t.est.last = s.est.last := rfl
  clear_value t
  split
  · rw [State.event_est]
    exact ht
  · exact ht

theorem State.stepString_last (s : State) (p : Sample) (ns : Nat) (new : List Sample) (i : Fin 40) :
    (s.stepString p ns new i).est.last = s.est.last := by
  unfold State.stepString
  extract_lets n t r w t'
  have hr : r.1.est.last = s.est.last := (t.takeRest_last i p).trans (s.takeCharge_last i p)
  have ht' : t'.est.last = s.est.last := (forEach_last (fun t e => t.stepCell_last ..) r.1 _).trans hr
  exact (State.stepLimits_last ..).trans ht'

theorem State.stepExcluded_last (s : State) (ns : Nat) (new : List Sample) (i : Fin 40) : (s.stepExcluded ns new i).est.last = s.est.last := by
  unfold State.stepExcluded
  extract_lets t
  have ht : t.est.last = s.est.last := by
    refine forEach_last (fun t e => ?_) s _
    rfl
  exact ht

/-! ## What the step's end leaves -/

/-- The instant of the last step and each string's limits. -/
def Est.limits (x : Est) : Option Nat × Vector (List Rat) 40 := (x.last, x.strs.map StrEst.lim)

theorem Est.limits_upd (x : Est) (i : Fin 40) {f : StrEst → StrEst} (h : ∀ e, (f e).lim = e.lim) : { x with strs := upd x.strs i f }.limits = x.limits := by
  refine congrArg (Prod.mk x.last) (Vector.ext fun k hk => ?_)
  simp only [Vector.getElem_map, upd, Vector.getElem_set]
  split
  next hik =>
    subst hik
    exact h _
  next => rfl

theorem Est.last_of_limits {x y : Est} (h : x.limits = y.limits) : x.last = y.last := congrArg Prod.fst h

theorem Est.lim_of_limits {x y : Est} (h : x.limits = y.limits) (i : Fin 40) : x.strs[i].lim = y.strs[i].lim := by
  have hmap := congrArg (fun v : Option Nat × Vector (List Rat) 40 => v.2[i.val]) h
  simp only [Est.limits, Vector.getElem_map] at hmap
  exact hmap

theorem State.markWarn_limits (s : State) : s.markWarn.est.limits = s.est.limits := by
  unfold State.markWarn
  extract_lets warn high t
  exact forEach_fixes (get := fun t => t.est.limits) (fun t k => congrArg Est.limits (State.event_est ..)) s _

theorem State.stepReported_limits (s : State) (dt : Rat) : (s.stepReported dt).est.limits = s.est.limits := by
  unfold State.stepReported
  extract_lets step act t t'
  have ht : t.est.limits = s.est.limits := by
    refine forEach_fixes (get := fun t => t.est.limits) (fun t i => ?_) s _
    exact Est.limits_upd _ i fun _ => rfl
  have ht' : t'.est.limits = t.est.limits := by
    refine forEach_fixes (get := fun t => t.est.limits) (fun t b => ?_) t _
    split <;> rfl
  split
  · exact ht'.trans ht
  · exact ht'.trans ht

theorem State.stepExcluded_lim (s : State) (ns : Nat) (new : List Sample) (i : Fin 40) :
    (s.stepExcluded ns new i).est.strs[i].lim = [0, 0, 0, 0] := by
  unfold State.stepExcluded
  extract_lets t
  clear_value t
  exact congrArg StrEst.lim (upd_get_same ..)

theorem State.stepExcluded_lim_other (s : State) (ns : Nat) (new : List Sample) {i j : Fin 40} (h : j ≠ i) :
    (s.stepExcluded ns new j).est.strs[i].lim = s.est.strs[i].lim := by
  unfold State.stepExcluded
  extract_lets t
  have ht : t.est.strs = s.est.strs := by
    refine forEach_fixes (get := fun t => t.est.strs) (fun t e => ?_) s _
    rfl
  clear_value t
  exact (congrArg StrEst.lim (upd_get_other _ _ h)).trans (congrArg (fun v : Vector StrEst 40 => v[i].lim) ht)

/-! ## The step in two parts -/

/-- The strings' part of a step: those in service counted and limited, then those EXCLUDED, then the cells to be named. -/
def State.stepStrings (s : State) (p : Sample) (ns : Nat) (new : List Sample) : State :=
  let t := s.modEst fun x => { x with last := some p.at_ }
  let t := (t.settleCells.takeTables).forEach t.installed State.takeProfile
  let t := t.forEach t.corrStrings fun t i => t.stepString p ns new i
  (t.forEach (allStr.filter fun i => t.strs[i].state = .excluded) fun t i => t.stepExcluded ns new i).markWarn

/-- The banks' part of a step. -/
def State.stepBanks (s : State) (dt : Rat) : State := (s.forEach allBank fun t b => t.bankLimits b dt).stepReported dt

/-- The end of a step: the flash figures and the wear they give, the overrun, and a write-back asked for. -/
def State.stepEnd (s : State) (erases : Vector Nat 3) (late : Bool) : State :=
  let t := s.modStore fun g => { g with changed := true }
  let t := (t.modHealth fun h => { h with flashErase := Vector.ofFn fun k : Fin 3 => max h.flashErase[k] erases[k] }).checkWear
  let t := if late then (t.modEst fun x => { x with status := x.status ||| 0x40 }).event 0x3029 blockObj 0 else t
  if t.est.writeReq then (t.modEst fun x => { x with writeReq := false }).writeBack 3 else t

/-- The traverses since the last step, up to that of `p`. -/
def State.sinceLast (s : State) (p : Sample) : List Sample :=
  s.est.window.filter fun q => decide (q.at_ ≤ p.at_) && s.est.last.all fun t => decide (t < q.at_)

theorem exec_estimatorStep {s : State} {erases : Vector Nat 3} {p : Sample} (hfw : s.fwActs = true) (hrun : s.est.running = true)
    (hp : s.nextStep = some p) :
    exec (.estimatorStep erases) s = .next (((s.stepStrings p (p.at_ - s.est.last.getD p.at_) (s.sinceLast p)).stepBanks
      (((p.at_ - s.est.last.getD p.at_ : Nat) : Rat) / 1000000000)).stepEnd erases (decide (p.at_ + sec 1 < s.now))) := by
  change execEstimatorStep erases s = _
  unfold execEstimatorStep
  rw [if_neg (by rw [hfw, hrun]; decide), hp]
  dsimp -zeta only
  extract_lets at_ ns dt new t0 t1 t2 t3 t4 t5 t6 t7
  have hnew : new = s.sinceLast p := by
    simp only [new, State.sinceLast]
    cases s.est.last <;> rfl
  have ht3 : t3 = s.stepStrings p ns (s.sinceLast p) := by
    rw [← hnew]
    unfold State.stepStrings
    rfl
  have ht4 : t4 = (s.stepStrings p ns (s.sinceLast p)).stepBanks dt := congrArg (State.stepBanks · dt) ht3
  refine congrArg Host.Outcome.next (Eq.trans ?_ (congrArg (State.stepEnd · erases (decide (p.at_ + sec 1 < s.now))) ht4))
  have ht7 : t7 = (if decide (at_ + sec 1 < s.now) = true then
      (t6.modEst fun x => { x with status := x.status ||| 0x40 }).event 0x3029 blockObj 0 else t6) := by
    simp only [t7, decide_eq_true_eq]
  clear_value t7 t4
  subst ht7
  rfl

/-! ## What a step leaves -/

theorem State.stepBanks_limits (s : State) (dt : Rat) : (s.stepBanks dt).est.limits = s.est.limits := by
  refine (State.stepReported_limits _ dt).trans (forEach_fixes (get := fun t => t.est.limits) (fun t b => ?_) s _)
  rfl

theorem State.stepBanks_health (s : State) (dt : Rat) : (s.stepBanks dt).health = s.health :=
  (same_of_blank (p := .health) (State.stepReported_in (m := only [.est]) rfl _ dt) rfl).trans
    (same_of_blank (p := .health) (forEach_in (m := only [.est]) (fun t b => State.bankLimits_in rfl t b dt) s _) rfl)

/-- The parts a step of the strings may change. -/
theorem State.stepStrings_blank (s : State) (p : Sample) (ns : Nat) (new : List Sample) :
    (s.stepStrings p ns new).blank (only [.est, .evlog, .irq, .corr]) = s.blank (only [.est, .evlog, .irq, .corr]) := by
  unfold State.stepStrings
  extract_lets t0 t1 t2
  have h1 : t1.blank (only [.est, .evlog, .irq, .corr]) = s.blank (only [.est, .evlog, .irq, .corr]) :=
    (forEach_in (fun t i => State.takeProfile_in rfl rfl rfl t i) _ _).trans ((State.takeTables_in rfl _).trans (State.settleCells_in rfl t0))
  have h2 : t2.blank (only [.est, .evlog, .irq, .corr]) = t1.blank (only [.est, .evlog, .irq, .corr]) :=
    forEach_in (fun t i => State.stepString_in rfl rfl rfl rfl t p ns new i) _ _
  exact (State.markWarn_in rfl rfl rfl _).trans ((forEach_in (fun t i => State.stepExcluded_in rfl t ns new i) _ _).trans (h2.trans h1))

/-- After the strings' part the step's instant stands, and an EXCLUDED string has no limits. -/
theorem State.stepStrings_limits (s : State) (p : Sample) (ns : Nat) (new : List Sample) :
    (s.stepStrings p ns new).est.last = some p.at_ ∧
    ∀ i : Fin 40, s.strs[i].state = .excluded → (s.stepStrings p ns new).est.strs[i].lim = [0, 0, 0, 0] := by
  unfold State.stepStrings
  extract_lets t0 t1 t2
  have h1 : t1.est.last = some p.at_ := forEach_last State.takeProfile_last _ _
  have h2 : t2.est.last = some p.at_ := (forEach_last (fun t i => t.stepString_last p ns new i) t1 _).trans h1
  have hblank1 : t1.blank (only [.est, .evlog, .irq]) = s.blank (only [.est, .evlog, .irq]) :=
    (forEach_in (fun t i => State.takeProfile_in rfl rfl rfl t i) _ _).trans ((State.takeTables_in rfl _).trans (State.settleCells_in rfl t0))
  have hblank2 : t2.blank (only [.est, .evlog, .irq, .corr]) = t1.blank (only [.est, .evlog, .irq, .corr]) :=
    forEach_in (fun t i => State.stepString_in rfl rfl rfl rfl t p ns new i) _ _
  have hstrs : t2.strs = s.strs := (same_of_blank (p := .strs) hblank2 rfl : t2.strs = t1.strs).trans (same_of_blank (p := .strs) hblank1 rfl)
  generalize ht3 : (t2.forEach (allStr.filter fun i => t2.strs[i].state = .excluded) fun t i => t.stepExcluded ns new i) = t3
  have hwarn := t3.markWarn_limits
  refine ⟨(Est.last_of_limits hwarn).trans ?_, fun i hi => ?_⟩
  · rw [← ht3]
    exact (forEach_last (fun t i => t.stepExcluded_last ns new i) t2 _).trans h2
  · have hlim : t3.est.strs[i].lim = [0, 0, 0, 0] := by
      rw [← ht3]
      refine forEach_sets (P := fun t => t.est.strs[i].lim = [0, 0, 0, 0]) (I := fun _ => True) (fun _ _ _ => trivial)
        (fun t _ => t.stepExcluded_lim ns new i) (fun t j hj _ h => (t.stepExcluded_lim_other ns new hj).trans h) ?_ trivial
      refine List.mem_filter.2 ⟨List.mem_finRange i, ?_⟩
      rw [hstrs]
      exact decide_eq_true hi
    exact (Est.lim_of_limits hwarn i).trans hlim

theorem State.checkWear_erase (s : State) : s.checkWear.health.flashErase = s.health.flashErase := by
  unfold State.checkWear
  refine forEach_fixes (get := fun t => t.health.flashErase) (fun t f => ?_) s _
  split
  · rw [State.event_health, State.irqRaise_health]
    rfl
  · rfl

/-- The end of a step keeps its instant and the limits, takes the erase counts, and leaves no write-back asked for. -/
theorem State.stepEnd_leaves (s : State) (erases : Vector Nat 3) (late : Bool) :
    (s.stepEnd erases late).est.limits = s.est.limits ∧ (s.stepEnd erases late).est.writeReq = false ∧
    (s.stepEnd erases late).health.flashErase = Vector.ofFn fun k : Fin 3 => max s.health.flashErase[k] erases[k] := by
  unfold State.stepEnd
  extract_lets t0 t1 t2
  have hest1 : t1.est = s.est := same_of_blank (p := .est) (State.checkWear_in (m := only [.evlog, .irq, .health]) rfl rfl rfl _) rfl
  have hflash1 : t1.health.flashErase = Vector.ofFn fun k : Fin 3 => max s.health.flashErase[k] erases[k] := State.checkWear_erase _
  clear_value t1
  have h2 : t2.est.limits = s.est.limits ∧ t2.health = t1.health := by
    simp only [t2]
    split
    · exact ⟨(congrArg Est.limits (State.event_est ..)).trans (congrArg Est.limits hest1 :), State.event_health ..⟩
    · exact ⟨congrArg Est.limits hest1, rfl⟩
  obtain ⟨hlimits, hhealth⟩ := h2
  clear_value t2
  split
  next =>
    rw [State.writeBack_est, State.writeBack_health]
    exact ⟨hlimits, rfl, (congrArg Health.flashErase hhealth :).trans hflash1⟩
  next hreq => exact ⟨hlimits, Bool.eq_false_iff.2 hreq, (congrArg Health.flashErase hhealth :).trans hflash1⟩

theorem estimatorStep_steps {s : State} {erases : Vector Nat 3} {p : Sample} (hfw : s.fwActs = true) (hrun : s.est.running = true)
    (hp : s.nextStep = some p) : ∃ t, exec (.estimatorStep erases) s = .next t ∧
    t.est.last = some p.at_ ∧ t.est.writeReq = false ∧
    (∀ k : Fin 3, t.health.flashErase[k] = max s.health.flashErase[k] erases[k]) ∧
    (∀ i : Fin 40, s.strs[i].state = .excluded → t.est.strs[i].lim = [0, 0, 0, 0]) ∧ t.strs = s.strs ∧ t.gates = s.gates := by
  have hexec := exec_estimatorStep (erases := erases) hfw hrun hp
  have hother := commandsKeepOtherParts _ _ _ hexec
  refine ⟨_, hexec, ?_⟩
  generalize p.at_ - s.est.last.getD p.at_ = ns at hother ⊢
  obtain ⟨hlimits, hreq, hflash⟩ := State.stepEnd_leaves ((s.stepStrings p ns (s.sinceLast p)).stepBanks ((ns : Rat) / 1000000000)) erases
    (decide (p.at_ + sec 1 < s.now))
  have hlimits := hlimits.trans (State.stepBanks_limits ..)
  obtain ⟨hlast, hexcluded⟩ := s.stepStrings_limits p ns (s.sinceLast p)
  have hhealth : ((s.stepStrings p ns (s.sinceLast p)).stepBanks ((ns : Rat) / 1000000000)).health = s.health :=
    (State.stepBanks_health ..).trans (same_of_blank (p := .health) (s.stepStrings_blank p ns _) rfl)
  obtain ⟨hsame, -, -, -⟩ := hother
  refine ⟨(Est.last_of_limits hlimits).trans hlast, hreq, fun k => ?_, fun i hi => (Est.lim_of_limits hlimits i).trans (hexcluded i hi),
    hsame .strs (by simp [mayChange]), hsame .gates (by simp [mayChange])⟩
  rw [hflash, hhealth]
  simp only [Fin.getElem_fin, Vector.getElem_ofFn]

/-! ## The copies -/

theorem State.campNext_store (s : State) : s.campNext.store = s.store :=
  same_of_blank (p := .store) (m := fun p => p != .store) (by apply State.campNext_in <;> rfl) rfl

/-- A copy written: the entry that waits for the last one goes on (06 R182). -/
theorem exec_learnedCopyWritten {s : State} {img : Learned} {reason k : Nat} (hk : k < 3) (hw : s.store.writing = some (img, reason, k)) :
    exec .learnedCopyWritten s = .next (s.copyWritten img reason ⟨k, hk⟩).campNext := by
  change execLearnedCopyWritten s = _
  unfold execLearnedCopyWritten
  rw [hw]
  exact congrArg Host.Outcome.next (dif_pos hk)

theorem learnedCopyWritten_stands {s : State} {img : Learned} {reason k : Nat} (hk : k < 3) (hw : s.store.writing = some (img, reason, k)) :
    ∃ t, exec .learnedCopyWritten s = .next t ∧ t.store.copies[k] = img ∧ t.store.slotAt[k] = some s.now ∧
      ∀ j (_ : j < 3), j ≠ k → t.store.copies[j] = s.store.copies[j] := by
  have hflash : (s.copyWritten img reason ⟨k, hk⟩).campNext.store.flash = (s.store.copies.set k img, s.store.slotAt.set k (some s.now), s.store.periodic) := by
    rw [State.campNext_store]
    exact s.copyWritten_flash img reason ⟨k, hk⟩
  have hcopies : (s.copyWritten img reason ⟨k, hk⟩).campNext.store.copies = s.store.copies.set k img := congrArg Prod.fst hflash
  have hslot : (s.copyWritten img reason ⟨k, hk⟩).campNext.store.slotAt = s.store.slotAt.set k (some s.now) := congrArg (·.2.1) hflash
  refine ⟨_, exec_learnedCopyWritten hk hw, ?_, ?_, fun j hj hne => ?_⟩
  · simp only [hcopies, Vector.getElem_set_self]
  · simp only [hslot, Vector.getElem_set_self]
  · simp only [hcopies, Vector.getElem_set_ne _ _ (Ne.symm hne)]

theorem learnWriteReq_waits {s : State} {src : Src} {v : Nat} (ha : s.admits src blockObj 0x0120 (u8 v)) :
    ∃ t, exec (.learnWriteReq src v) s = .next t ∧ t.est.writeReq = true ∧ t.store.copies = s.store.copies ∧
      t.lastSent = some (.writeReply src blockObj 0x0120 1) := by
  obtain ⟨t, hexec, hsent, ht⟩ := exec_plain (c := .learnWriteReq src v) rfl ha fun _ _ => rfl
  refine ⟨t, hexec, ?_, ?_, hsent⟩
  · exact (congrArg Est.writeReq (same_of_blank (p := .est) ht rfl : t.est = _) :)
  · exact congrArg Store.copies ((same_of_blank (p := .store) ht rfl : t.store = _).trans (State.taken_store s src blockObj 0x0120))

theorem learnWritebackPeriodic_begins {s : State} (hfw : s.fwActs = true) (hrun : s.est.running = true)
    (hdue : s.store.periodic + sec 21600 ≤ s.now) : ∃ t, exec .learnWritebackPeriodic s = .next t ∧
    t.store.periodic = s.store.periodic + sec 21600 ∧ t.store.copies = s.store.copies ∧ t.est = s.est := by
  refine ⟨_, congrArg Host.Outcome.next (if_pos (by rw [hfw, hrun, decide_eq_true hdue]; rfl)), ?_, ?_, State.writeBack_est ..⟩
  · exact congrArg (·.2.2) (State.writeBack_flash _ 1)
  · exact congrArg (·.1) (State.writeBack_flash _ 1)

/-- Settles O30: the parts of a step keep its instant and the limits of an EXCLUDED string, and a write-back keeps the copies it made. -/
theorem estimatorAndLearned : Obligations.EstimatorAndLearned := fun _ =>
  ⟨fun _ _ => estimatorStep_steps, fun _ _ => learnWriteReq_waits, learnWritebackPeriodic_begins, fun _ _ _ hk hw => learnedCopyWritten_stands hk hw⟩

end Sys2Proof.Machine

/-! Obligation O28: into base camp and out of it (06 R181, R182, R186 to R188; 20 Table 20-4). -/

namespace Sys2Proof.Machine

-- One thread per theorem would be more than the compiler's memory limit allows.
set_option Elab.async false

/-! ## Entry to base camp, in its parts -/

/-- The last frames of the lines that power down. -/
def State.lastFrames (s : State) : State :=
  s.forEach (allStr.filter fun i => s.strs[i].installed) fun t i =>
    let t := (t.broadcastConfig i).broadcastCamp i
    (t.flushCasts i .a fun _ => true).flushCasts i .b fun _ => true

def State.ropesQuiet (s : State) : State :=
  s.forEach allStr fun t i => t.modRope i fun r => { r with
    permit := false, maskDue := 0, resendMask := 0, rollCall := if r.rollCall = 1 then 3 else r.rollCall, rollMode := none, partial_ := false,
    contSent := 3, portA := r.portA.quiet, portB := r.portB.quiet }

/-- The lines fall silent, traverses stop and balancing ends (06 R182). -/
def State.campQuiet (s : State) : State :=
  (s.lastFrames.ropesQuiet.modTrav fun v => { v with running := false, slowDue := none, slowDone := false, slowOpen := false }).modBal fun b =>
    { b with sent := [], active := [], owDue := [], owHeld := [], owWait := [], entering := false, exiting := false }

/-- The block state changes and the hall passes go (09 R250). -/
def State.campState (s : State) : State := State.serveQ 16 (s.setBlock .baseCamp 2).discardPasses

/-- Unseen counts start from 0, and nothing is missing. -/
def State.countsOff (s : State) : State :=
  (s.forEach allStr fun t i => t.modBStr i fun b =>
    { b with unseen := Vector.replicate 33 0, slowUnseen := Vector.replicate 33 0, beyond := [], unseenDue := [] }).modBelay fun b => { b with missing := false }

def State.throttleOff (s : State) : State := s.modTherm fun h => { h with level := 0, base := 0, belowSince := none, riseAt := none, last := [] }

/-- The timetables and the time sources stop, and CAN-C leaves its bus. -/
def State.busesOff (s : State) : State := ((s.forEach (List.finRange 3) State.stopTimetable).toRtc).modCan 2 fun c => { c with onBus := false }

def State.linksDown (s : State) : State := s.forEach ([0, 1] : List (Fin 2)) fun t k => t.modEth k fun e => { e with up := false }

/-- What is left powers down (02 R67). -/
def State.campDown (s : State) : State := s.countsOff.throttleOff.busesOff.linksDown.railsDown

theorem State.enterCamp_parts (s : State) : s.enterCamp = s.campQuiet.campState.campDown := by
  unfold State.enterCamp State.campQuiet State.lastFrames State.ropesQuiet State.campState State.campDown State.countsOff State.throttleOff
    State.busesOff State.linksDown
  with_reducible rfl

theorem State.campState_in (s : State) :
    s.campState.blank (only [.mode, .irq, .evlog, .strs, .io, .belay]) = s.blank (only [.mode, .irq, .evlog, .strs, .io, .belay]) :=
  (State.serveQ_in rfl rfl rfl 16 _).trans ((State.discardPasses_in rfl rfl rfl rfl rfl _).trans (State.setBlock_in rfl rfl rfl s .baseCamp 2))

theorem State.busesOff_in {m : Part → Bool} (hcans : m .cans = true) (hclock : m .clock = true) (hevlog : m .evlog = true) (hirq : m .irq = true)
    (hbase : m .utcBase = true) (hat : m .utcAt = true) (s : State) : s.busesOff.blank m = s.blank m :=
  (State.modCan_in hcans _ 2 _).trans ((State.toRtc_in hclock hevlog hirq hbase hat _).trans
    (forEach_in (fun t k => State.stopTimetable_in hcans hclock t k) s _))

theorem State.linksDown_in {m : Part → Bool} (h : m .eths = true) (s : State) : s.linksDown.blank m = s.blank m :=
  forEach_in (fun t k => State.modEth_in h t k _) s _

theorem State.campDown_in (s : State) :
    s.campDown.blank (only [.bstr, .belay, .therm, .cans, .clock, .evlog, .irq, .utcBase, .utcAt, .eths, .gates, .start]) =
      s.blank (only [.bstr, .belay, .therm, .cans, .clock, .evlog, .irq, .utcBase, .utcAt, .eths, .gates, .start]) :=
  (State.railsDown_in rfl rfl _).trans ((State.linksDown_in rfl _).trans ((State.busesOff_in rfl rfl rfl rfl rfl rfl _).trans
    ((State.modTherm_in rfl _ _).trans ((State.modBelay_in rfl _ _ rfl).trans (forEach_in (fun t i => State.modBStr_in rfl t i _) s _)))))

/-! ## What the entry leaves -/

/-- Once a change that clears it has run over every rope, no rope has a permit. -/
theorem permit_off {s : State} {f : Rope → Rope} (hf : ∀ r, (f r).permit = false) (i : Fin 40) :
    (s.forEach allStr fun t i => t.modRope i f).ropes[i].permit = false := by
  refine forEach_sets (P := fun t => t.ropes[i].permit = false) (i := i) (I := fun _ => True) (fun _ _ _ => trivial) (fun t _ => ?_)
    (fun t j _ _ h => ?_) (List.mem_finRange i) trivial
  · rw [State.modRope_ropes, upd_get, if_pos rfl]
    exact hf _
  · rw [State.modRope_ropes, upd_get]
    split
    · exact hf _
    · exact h

theorem State.campQuiet_permit (s : State) (i : Fin 40) : s.campQuiet.ropes[i].permit = false := by
  have hropes : s.campQuiet.ropes = s.lastFrames.ropesQuiet.ropes := by
    rw [State.campQuiet, State.modBal_ropes, State.modTrav_ropes]
  have hpermit : s.lastFrames.ropesQuiet.ropes[i].permit = false := permit_off (fun _ => rfl) i
  exact (congrArg (fun v : Vector Rope 40 => v[i].permit) hropes).trans hpermit

theorem State.discardPasses_pass (s : State) (i : Fin 40) : s.discardPasses.strs[i].pass = none := by
  unfold State.discardPasses
  extract_lets t0 t1 t2
  have hdrop (t : State) (j : Fin 40) : ((t.dropClosePass j).event 0x4014 (strObj j) 0).strs[i].pass = if j = i then none else t.strs[i].pass := by
    refine (congrArg (fun v : Vector StrCtl 40 => v[i].pass) (State.event_strs ..)).trans ?_
    rw [State.dropClosePass, State.modStr_strs, upd_get]
    split <;> rfl
  have h0 : t0.strs[i].pass = none := by
    refine forEach_sets (P := fun t => t.strs[i].pass = none) (i := i) (I := fun _ => True) (fun _ _ _ => trivial) (fun t _ => ?_)
      (fun t j hj _ h => ?_) (List.mem_finRange i) trivial
    · split
      · exact (hdrop t i).trans (if_pos rfl)
      next hnone => exact Option.not_isSome_iff_eq_none.1 hnone
    · split
      · exact (hdrop t j).trans ((if_neg hj).trans h)
      · exact h
  have h1 : t1.strs = t0.strs := by
    refine forEach_fixes (get := fun t => t.strs) (fun t q => ?_) t0 _
    split
    · rw [State.event_strs]
      exact same_of_blank (p := .strs) (State.unwaitQ_in (m := only [.io]) rfl _ q) rfl
    · rfl
  have h2 : t2.strs = t1.strs := by
    refine forEach_fixes (get := fun t => t.strs) (fun t e => ?_) t1 _
    split
    · rw [State.event_strs]
    · rfl
  exact (congrArg (fun v : Vector StrCtl 40 => v[i].pass) (h2.trans h1)).trans h0

theorem State.campState_leaves (s : State) : s.campState.mode.block = .baseCamp ∧ ∀ i : Fin 40, s.campState.strs[i].pass = none := by
  have hserve := State.serveQ_in (m := only [.io, .evlog, .irq]) rfl rfl rfl 16 (s.setBlock .baseCamp 2).discardPasses
  have hdiscard := State.discardPasses_in (m := only [.evlog, .io, .belay, .irq, .strs]) rfl rfl rfl rfl rfl (s.setBlock .baseCamp 2)
  have hstrs : s.campState.strs = (s.setBlock .baseCamp 2).discardPasses.strs := same_of_blank (p := .strs) hserve rfl
  have hmode : s.campState.mode = (s.setBlock .baseCamp 2).mode :=
    (same_of_blank (p := .mode) hserve rfl : s.campState.mode = _).trans (same_of_blank (p := .mode) hdiscard rfl)
  rw [hmode, hstrs]
  exact ⟨State.setBlock_block .., State.discardPasses_pass _⟩

theorem State.linksDown_up (s : State) (k : Fin 2) : s.linksDown.eths[k].up = false := by
  refine forEach_sets (P := fun t => t.eths[k].up = false) (i := k) (I := fun _ => True) (fun _ _ _ => trivial) (fun t _ => ?_)
    (fun t j _ _ h => ?_) (List.mem_finRange k) trivial
  · rw [State.modEth_eths, upd_get, if_pos rfl]
  · rw [State.modEth_eths, upd_get]
    split
    · rfl
    · exact h

theorem State.railsDown_rails (s : State) : s.railsDown.start.gateRails = false := by
  unfold State.railsDown
  extract_lets u
  exact congrArg Start.gateRails (same_of_blank (p := .start) (forEach_in (m := only [.gates]) (fun t c => State.modGate_in rfl t c _) u _) rfl : _ = u.start)

theorem State.campDown_leaves (s : State) : s.campDown.start.gateRails = false ∧ s.campDown.therm.level = 0 ∧ s.campDown.cans[(2 : Fin 3)].onBus = false ∧
    ∀ k : Fin 2, s.campDown.eths[k].up = false := by
  have hlevel : s.countsOff.throttleOff.therm.level = 0 := rfl
  unfold State.campDown
  generalize s.countsOff.throttleOff = t at hlevel ⊢
  have hbus : t.busesOff.cans[(2 : Fin 3)].onBus = false := by
    unfold State.busesOff
    rw [State.modCan_same]
  have htherm : t.busesOff.therm = t.therm :=
    same_of_blank (p := .therm) (State.busesOff_in (m := only [.cans, .clock, .evlog, .irq, .utcBase, .utcAt]) rfl rfl rfl rfl rfl rfl t) rfl
  generalize t.busesOff = u at hbus htherm ⊢
  have hlinks := State.linksDown_in (m := only [.eths]) rfl u
  have hup := u.linksDown_up
  generalize u.linksDown = v at hlinks hup ⊢
  have hrails := State.railsDown_in (m := only [.start, .gates]) rfl rfl v
  refine ⟨v.railsDown_rails, ?_, ?_, fun k => ?_⟩
  · rw [same_of_blank (p := .therm) hrails rfl, same_of_blank (p := .therm) hlinks rfl, htherm]
    exact hlevel
  · rw [same_of_blank (p := .cans) hrails rfl, same_of_blank (p := .cans) hlinks rfl]
    exact hbus
  · rw [same_of_blank (p := .eths) hrails rfl]
    exact hup k

/-- The entry leaves the block in `BASE_CAMP`, its lines, traverses and buses stopped, and no hall pass. -/
theorem State.enterCamp_leaves (s : State) : (s.enterCamp.mode.block = .baseCamp ∧ s.enterCamp.start.gateRails = false ∧
    s.enterCamp.trav.running = false ∧ s.enterCamp.bal.sent = [] ∧ s.enterCamp.therm.level = 0 ∧ (∀ i : Fin 40, s.enterCamp.strs[i].pass = none) ∧
    s.enterCamp.cans[(2 : Fin 3)].onBus = false ∧ ∀ k : Fin 2, s.enterCamp.eths[k].up = false) ∧ ∀ i : Fin 40, s.enterCamp.ropes[i].permit = false := by
  rw [State.enterCamp_parts]
  have hrunning : s.campQuiet.trav.running = false := rfl
  have hsent : s.campQuiet.bal.sent = [] := rfl
  have hpermit := s.campQuiet_permit
  obtain ⟨hblock, hpass⟩ := s.campQuiet.campState_leaves
  obtain ⟨hrails, hlevel, hbus, hup⟩ := s.campQuiet.campState.campDown_leaves
  have hstate := s.campQuiet.campState_in
  have hdown := s.campQuiet.campState.campDown_in
  generalize s.campQuiet = q at *
  generalize q.campState = t at *
  generalize t.campDown = u at *
  have hmode : u.mode = t.mode := same_of_blank (p := .mode) hdown rfl
  have htrav : u.trav = q.trav := (same_of_blank (p := .trav) hdown rfl : u.trav = t.trav).trans (same_of_blank (p := .trav) hstate rfl)
  have hbal : u.bal = q.bal := (same_of_blank (p := .bal) hdown rfl : u.bal = t.bal).trans (same_of_blank (p := .bal) hstate rfl)
  have hropes : u.ropes = q.ropes := (same_of_blank (p := .ropes) hdown rfl : u.ropes = t.ropes).trans (same_of_blank (p := .ropes) hstate rfl)
  have hstrs : u.strs = t.strs := same_of_blank (p := .strs) hdown rfl
  rw [hmode, htrav, hbal, hropes, hstrs]
  exact ⟨⟨hblock, hrails, hrunning, hsent, hlevel, hpass, hbus, hup⟩, hpermit⟩

/-! ## An entry that has begun -/

/-- The state after steps 1 and 2 of R182: `BAL_PERMIT` cleared, and the learned data on their way to flash. -/
def State.campBegun (s : State) : State :=
  ((s.forEach allStr fun t i => t.modRope i fun r => { r with permit := false, maskDue := 0, resendMask := 0 }).modBal fun b =>
    { b with entering := true }).flushAll.writeBack 2

theorem State.beginCamp_eq (s : State) : s.beginCamp = s.campBegun.campNext := rfl

theorem State.campBegun_blank (s : State) :
    s.campBegun.blank (only [.ropes, .bal, .evlog, .irq, .store]) = s.blank (only [.ropes, .bal, .evlog, .irq, .store]) :=
  (State.writeBack_in rfl rfl rfl _ 2).trans ((State.flushAll_in rfl rfl _).trans ((State.modBal_in rfl _ _).trans
    (forEach_in (fun t i => State.modRope_in rfl t i _) s _)))

theorem State.campBegun_leaves (s : State) : s.campBegun.bal.entering = true ∧ ∀ i : Fin 40, s.campBegun.ropes[i].permit = false := by
  unfold State.campBegun
  generalize ht : (s.forEach allStr fun t i => t.modRope i fun r => { r with permit := false, maskDue := 0, resendMask := 0 }) = t
  have hpermit : ∀ i : Fin 40, t.ropes[i].permit = false := fun i => by
    rw [← ht]
    exact permit_off (fun _ => rfl) i
  have hframe : ((t.modBal fun b => { b with entering := true }).flushAll.writeBack 2).blank (only [.evlog, .irq, .store]) =
      (t.modBal fun b => { b with entering := true }).blank (only [.evlog, .irq, .store]) :=
    (State.writeBack_in rfl rfl rfl _ 2).trans (State.flushAll_in rfl rfl _)
  rw [same_of_blank (p := .bal) hframe rfl, same_of_blank (p := .ropes) hframe rfl, State.modBal_ropes]
  exact ⟨rfl, hpermit⟩

/-- An entry whose write-back has not ended waits. -/
theorem State.campNext_waits {s : State} (h : s.store.writing.isSome = true) : s.campNext = s := by
  unfold State.campNext
  exact if_pos (by rw [h, Bool.or_true])

theorem State.campNext_enters {s : State} (he : s.bal.entering = true) (hw : s.store.writing = none) (hb : s.mode.block = .standby)
    (hp : s.supply.pfw = false) (hfw : s.fwActs = true) : s.campNext = s.enterCamp := by
  unfold State.campNext
  rw [if_neg (by rw [he, hw]; decide), if_pos (by rw [hb, hp, hfw]; rfl)]

/-- Whichever way an entry goes on, a permit that is off stays off. -/
theorem State.campNext_permit {s : State} (h : ∀ i : Fin 40, s.ropes[i].permit = false) (i : Fin 40) : s.campNext.ropes[i].permit = false := by
  unfold State.campNext
  split
  · exact h i
  · split
    · exact s.enterCamp_leaves.2 i
    · exact h i

theorem State.beginCamp_permit (s : State) (i : Fin 40) : s.beginCamp.ropes[i].permit = false :=
  State.campNext_permit s.campBegun_leaves.2 i

/-! ## A wake -/

theorem State.closeWakeOut_bal (s : State) (cause : Nat) :
    (s.closeWakeOut cause).bal.exiting = s.bal.exiting ∧ (s.closeWakeOut cause).bal.wakeCause = s.bal.wakeCause := by
  unfold State.closeWakeOut
  split
  · exact ⟨rfl, rfl⟩
  · rw [State.event_bal]
    exact ⟨rfl, rfl⟩

theorem State.rollCallAll_begins (s : State) (i : Fin 40) (hi : s.strs[i].installed = true) : s.rollCallAll.ropes[i].rollCall = 1 := by
  unfold State.rollCallAll
  refine forEach_sets (P := fun t => t.ropes[i].rollCall = 1) (I := fun t => t.strs = s.strs) (i := i) (fun t j ht => ?_) (fun t ht => ?_)
    (fun t j hj ht h => ?_) (List.mem_finRange i) rfl
  · split
    · exact (t.startRollCall_strs j).trans ht
    · exact ht
  · rw [if_pos (by rw [ht]; exact hi)]
    exact t.startRollCall_begins i
  · split
    · exact (congrArg Rope.rollCall ((t.startRollCall_alone j).2 i (Ne.symm hj))).trans h
    · exact h

/-- A wake leaves the block state, and outside base camp or where the exit already runs it changes nothing. -/
theorem State.wake_mode (s : State) (cause : Nat) (core : Bool) (gates : List (Nat × Nat)) : (s.wake cause core gates).mode = s.mode :=
  same_of_blank (p := .mode) (m := except .mode) (by apply State.wake_in <;> rfl) rfl

theorem State.wake_idle {s : State} (h : s.mode.block ≠ .baseCamp) (cause : Nat) (core : Bool) (gates : List (Nat × Nat)) :
    s.wake cause core gates = s := by
  unfold State.wake
  exact if_pos (by simp [h])

/-- A wake noted: its event, its cause, and `WAKE_OUT` where that is enabled (06 R186, R188). -/
def State.wakeNoted (s : State) (cause : Nat) : State :=
  (((if cause = 3 then s else s.irqRaise 121).modBal fun b => { b with exiting := true, wakeCause := cause }).event 0xE012 blockObj 0
    (u8 cause)).closeWakeOut cause

/-- The self-test of the spare core. -/
def State.spareTested (s : State) (core : Bool) : State :=
  if s.cores.role[2] = .standby then
    (if core then { s with cores := { s.cores with sparePassed := true } }
     else ({ s with cores := { s.cores with role := s.cores.role.set 2 .failed, sparePassed := false } } : State).event 0xD015 0x1D00 2)
  else s

def State.tonesSent (s : State) (now : Nat) : State :=
  s.forEach allStr fun t i => t.modRope i fun r => { r with
    portA := { r.portA with toneAt := some now }, portB := { r.portB with toneAt := some now } }

/-- The supplies, the comparator self-tests and the roll calls of an exit (06 R187). -/
def State.wakeTested (s : State) (gates : List (Nat × Nat)) : State := (s.railsUp.selfTestAll gates).rollCallAll

def State.unseenOff (s : State) : State :=
  s.forEach allStr fun t i => t.modBStr i fun b => { b with unseen := Vector.replicate 33 0, slowUnseen := Vector.replicate 33 0, beyond := [], unseenDue := [] }

theorem State.wake_runs {s : State} (hb : s.mode.block = .baseCamp) (he : s.bal.exiting = false) (cause : Nat) (core : Bool)
    (gates : List (Nat × Nat)) : s.wake cause core gates =
      (((((((s.wakeNoted cause).spareTested core).tonesSent s.now).wakeTested gates).unseenOff).modBelay fun b => { b with lastTap := s.now }).modCorr
        fun c => { c with charge := c.charge.map fun p => (p.1, { p.2 with counted := false }) }) := by
  unfold State.wake State.wakeNoted State.spareTested State.tonesSent State.wakeTested State.unseenOff
  rw [if_neg (by rw [hb, he]; decide)]

theorem State.wakeNoted_leaves (s : State) (cause : Nat) :
    (s.wakeNoted cause).strs = s.strs ∧ (s.wakeNoted cause).bal.exiting = true ∧ (s.wakeNoted cause).bal.wakeCause = cause := by
  unfold State.wakeNoted
  obtain ⟨hexiting, hcause⟩ := State.closeWakeOut_bal (((if cause = 3 then s else s.irqRaise 121).modBal fun b =>
    { b with exiting := true, wakeCause := cause }).event 0xE012 blockObj 0 (u8 cause)) cause
  rw [hexiting, hcause, State.event_bal]
  refine ⟨?_, rfl, rfl⟩
  rw [same_of_blank (p := .strs) (State.closeWakeOut_in (m := except .strs) rfl rfl rfl rfl _ cause) rfl, State.event_strs, State.modBal_strs]
  split
  · rfl
  · exact State.irqRaise_strs ..

theorem State.spareTested_in {m : Part → Bool} (hcores : m .cores = true) (hevlog : m .evlog = true) (hirq : m .irq = true) (s : State) (core : Bool) :
    (s.spareTested core).blank m = s.blank m := by
  unfold State.spareTested
  split
  · split
    · exact blank_set_cores hcores ..
    · exact (State.event_in hevlog hirq _ _ _ _ _).trans (blank_set_cores hcores ..)
  · rfl

theorem State.wakeTested_leaves (s : State) (gates : List (Nat × Nat)) : (s.wakeTested gates).bal = s.bal ∧
    (s.wakeTested gates).start.gateRails = true ∧ ∀ i : Fin 40, s.strs[i].installed = true → (s.wakeTested gates).ropes[i].rollCall = 1 := by
  have hrails := State.railsUp_in (m := only [.start, .gates]) rfl rfl s
  have htests := State.selfTestAll_in (m := only [.gates, .irq, .evlog]) rfl rfl rfl s.railsUp gates
  have hcalls := State.rollCallAll_in (m := only [.ropes]) rfl (s.railsUp.selfTestAll gates)
  have hstart : (s.wakeTested gates).start = s.railsUp.start :=
    (same_of_blank (p := .start) hcalls rfl : (s.wakeTested gates).start = _).trans (same_of_blank (p := .start) htests rfl)
  have hbal : (s.wakeTested gates).bal = s.bal := (same_of_blank (p := .bal) hcalls rfl : (s.wakeTested gates).bal = _).trans
    ((same_of_blank (p := .bal) htests rfl : (s.railsUp.selfTestAll gates).bal = _).trans (same_of_blank (p := .bal) hrails rfl))
  have hstrs : (s.railsUp.selfTestAll gates).strs = s.strs :=
    (same_of_blank (p := .strs) htests rfl : (s.railsUp.selfTestAll gates).strs = _).trans (same_of_blank (p := .strs) hrails rfl)
  refine ⟨hbal, ?_, fun i hi => State.rollCallAll_begins _ i ?_⟩
  · rw [hstart, State.railsUp_start]
  · rw [hstrs]
    exact hi

/-- In base camp a wake begins the exit: its cause is noted, the gate rails rise, and every installed rope has its roll call begun (06 R187). -/
theorem State.wake_begins {s : State} (hb : s.mode.block = .baseCamp) (he : s.bal.exiting = false) (cause : Nat) (core : Bool)
    (gates : List (Nat × Nat)) : (s.wake cause core gates).bal.exiting = true ∧ (s.wake cause core gates).bal.wakeCause = cause ∧
    (s.wake cause core gates).start.gateRails = true ∧
    ∀ i : Fin 40, s.strs[i].installed = true → (s.wake cause core gates).ropes[i].rollCall = 1 := by
  rw [State.wake_runs hb he]
  obtain ⟨hstrs, hexiting, hcause⟩ := s.wakeNoted_leaves cause
  generalize s.wakeNoted cause = n at *
  have hspare := n.spareTested_in (m := only [.cores, .evlog, .irq]) rfl rfl rfl core
  generalize n.spareTested core = u at *
  have htones : (u.tonesSent s.now).blank (only [.ropes]) = u.blank (only [.ropes]) := forEach_in (fun t i => State.modRope_in rfl t i _) u _
  generalize u.tonesSent s.now = v at *
  obtain ⟨hbal, hrails, hroll⟩ := v.wakeTested_leaves gates
  generalize v.wakeTested gates = w at *
  have hcounts : w.unseenOff.blank (only [.bstr]) = w.blank (only [.bstr]) := forEach_in (fun t i => State.modBStr_in rfl t i _) w _
  have hcamp : w.unseenOff.bal = n.bal := (same_of_blank (p := .bal) hcounts rfl : w.unseenOff.bal = w.bal).trans (hbal.trans
    ((same_of_blank (p := .bal) htones rfl : v.bal = u.bal).trans (same_of_blank (p := .bal) hspare rfl)))
  have hvstrs : v.strs = s.strs := (same_of_blank (p := .strs) htones rfl : v.strs = u.strs).trans
    ((same_of_blank (p := .strs) hspare rfl : u.strs = n.strs).trans hstrs)
  have hstart : w.unseenOff.start = w.start := same_of_blank (p := .start) hcounts rfl
  have hropes : w.unseenOff.ropes = w.ropes := same_of_blank (p := .ropes) hcounts rfl
  generalize w.unseenOff = x at *
  rw [State.modCorr_bal, State.modBelay_bal, State.modCorr_start, State.modBelay_start, State.modCorr_ropes, State.modBelay_ropes, hcamp, hstart,
    hropes]
  exact ⟨hexiting, hcause, hrails, fun i hi => hroll i (by rw [hvstrs]; exact hi)⟩

end Sys2Proof.Machine

/-! Obligation O28: the commands of base camp (06 R181, R182, R186 to R188; 20 Table 20-4). -/

namespace Sys2Proof.Machine

-- One thread per theorem would be more than the compiler's memory limit allows.
set_option Elab.async false

/-! ## The requests -/

theorem State.campRefusal_taken (s : State) (src : Src) (x u : Nat) : (s.taken src x u).campRefusal = s.campRefusal := by
  simp only [State.campRefusal, State.campWindowOk, State.powerPathOn, State.qPowerPath, State.qCfg, State.limit, State.envVal, State.bval,
    State.committed, State.profileOf, State.val_taken, State.taken_mode, State.taken_banks, State.taken_strs, State.taken_supply, State.taken_io, State.taken_belay]

theorem State.campRefusal_none {s : State} (h : s.campRefusal = none) : s.mode.block = .standby ∧ s.supply.pfw = false := by
  unfold State.campRefusal at h
  grind

/-- An admitted plain write leaves of the ports what its entry's effect made of them, but for the frame counters. -/
theorem exec_plain_eth {c : Instr} {s v : State} {src : Src} {index sub : Nat} {data : List Byte} {apply : EntryRow → State → Applied}
    (hc : exec c s = .next (s.unlessSwapping c fun s => s.writeVia src index sub data apply)) (h : s.admits src index sub data)
    (hv : ∀ r, entryOf index sub = some r → apply r (s.taken src index sub) = .ok v) {t : State} (ht : exec c s = .next t) (k : Fin 2) : v.EthBut t k := by
  rw [holding_false h.1] at hc
  have hw := writeVia_eq (after := id) h hv
  obtain rfl : t = _ := Host.Outcome.next.inj (ht.symm.trans (hc.trans (congrArg Host.Outcome.next hw)))
  obtain ⟨counts, hsend⟩ := State.send_eth (((v.modDict fun d =>
    { d with writes := upd d.writes src.iface sat32 }).event (0x9001 + src.iface.val) index sub (writeRecord src index sub data 0xFF 0xFF 0 0)))
    (.writeReply src index sub data.length) k
  refine ⟨counts, ?_⟩
  rw [State.noteLast_eths]
  simp only [id]
  rw [State.answerWrite, hsend, State.event_eths, State.modDict_eths]

/-- `BASE_CAMP_REQ` 0x01 with every condition of R181 met begins the entry. -/
theorem State.applyCampEnter_begins {s : State} (hr : s.campRefusal = none) (he : s.bal.entering = false) : s.applyCampEnter = .ok s.beginCamp := by
  unfold State.applyCampEnter
  rw [hr, if_neg (by rw [he]; decide)]

theorem State.beginCamp_enters {s : State} (hb : s.mode.block = .standby) (hp : s.supply.pfw = false) (hfw : s.fwActs = true)
    (hw : s.beginCamp.store.writing = none) : s.beginCamp = s.campBegun.enterCamp := by
  have hbegun := s.campBegun_blank
  rw [State.beginCamp_eq] at hw ⊢
  rw [State.campNext_store] at hw
  exact State.campNext_enters s.campBegun_leaves.1 hw ((congrArg Mode.block (same_of_blank (p := .mode) hbegun rfl)).trans hb)
    ((congrArg Supply.pfw (same_of_blank (p := .supply) hbegun rfl)).trans hp)
    ((State.fwActs_of (same_of_blank (p := .start) hbegun rfl) (now_of_blank hbegun) (same_of_blank (p := .cores) hbegun rfl)).trans hfw)

theorem State.beginCamp_waits {s : State} (hb : s.mode.block = .standby) (hw : s.beginCamp.store.writing.isSome = true) :
    s.beginCamp.bal.entering = true ∧ s.beginCamp.mode.block = .standby ∧ s.beginCamp.strs = s.strs := by
  have hbegun := s.campBegun_blank
  rw [State.beginCamp_eq] at hw ⊢
  rw [State.campNext_store] at hw
  rw [State.campNext_waits hw]
  exact ⟨s.campBegun_leaves.1, (congrArg Mode.block (same_of_blank (p := .mode) hbegun rfl)).trans hb, same_of_blank (p := .strs) hbegun rfl⟩

theorem baseCampEnterReq_enters {s : State} {src : Src} (ha : s.admits src blockObj 0x0070 (u8 1)) (hr : s.campRefusal = none)
    (he : s.bal.entering = false) (hfw : s.fwActs = true) :
    ∃ t, exec (.baseCampEnterReq src) s = .next t ∧ (∀ i : Fin 40, t.ropes[i].permit = false) ∧
    t.lastSent = some (.writeReply src blockObj 0x0070 1) ∧
    (t.store.writing.isSome = true → t.bal.entering = true ∧ t.mode.block = .standby ∧ t.strs = s.strs) ∧
    (t.store.writing = none → t.mode.block = .baseCamp ∧ t.start.gateRails = false ∧ t.trav.running = false ∧ t.bal.sent = [] ∧
      t.therm.level = 0 ∧ (∀ i : Fin 40, t.strs[i].pass = none) ∧ t.cans[2].onBus = false ∧ ∀ k : Fin 2, t.eths[k].up = false) := by
  obtain ⟨hb, hp⟩ := State.campRefusal_none hr
  have happly : (s.taken src blockObj 0x0070).applyCampEnter = .ok (s.taken src blockObj 0x0070).beginCamp :=
    State.applyCampEnter_begins ((s.campRefusal_taken ..).trans hr) (by rw [State.taken_bal]; exact he)
  obtain ⟨t, hexec, hsent, hblank⟩ := exec_plain (c := .baseCampEnterReq src) rfl ha fun _ _ => happly
  obtain ⟨u, hu, -, -, hcans⟩ := exec_canWrite (c := .baseCampEnterReq src) rfl ha fun _ => happly
  obtain rfl : t = u := Host.Outcome.next.inj (hexec.symm.trans hu)
  have heths := exec_plain_eth (c := .baseCampEnterReq src) rfl ha (fun _ _ => happly) hexec
  have htb : (s.taken src blockObj 0x0070).mode.block = .standby := by rw [State.taken_mode]; exact hb
  have hwaits := State.beginCamp_waits htb
  have henters := State.beginCamp_enters htb (by rw [State.taken_supply]; exact hp)
    ((State.fwActs_of (s.taken_start ..) (s.taken_now ..) (s.taken_cores ..)).trans hfw)
  have hpermit := (s.taken src blockObj 0x0070).beginCamp_permit
  have hstrs := s.taken_strs src blockObj 0x0070
  generalize s.taken src blockObj 0x0070 = x at *
  have hstore : t.store = x.beginCamp.store := same_of_blank (p := .store) hblank rfl
  have hropes : t.ropes = x.beginCamp.ropes := same_of_blank (p := .ropes) hblank rfl
  have hbal : t.bal = x.beginCamp.bal := same_of_blank (p := .bal) hblank rfl
  have hmode : t.mode = x.beginCamp.mode := same_of_blank (p := .mode) hblank rfl
  have htstrs : t.strs = x.beginCamp.strs := same_of_blank (p := .strs) hblank rfl
  refine ⟨t, hexec, fun i => (congrArg (fun v : Vector Rope 40 => v[i].permit) hropes).trans (hpermit i), hsent, fun hw => ?_, fun hw => ?_⟩
  · rw [hstore] at hw
    rw [hbal, hmode, htstrs, ← hstrs]
    exact hwaits hw
  · rw [hstore] at hw
    have heq := henters hw
    obtain ⟨⟨hblock, hrails, hrunning, hmasks, hlevel, hpass, hbus, hup⟩, -⟩ := x.campBegun.enterCamp_leaves
    rw [← heq] at hblock hrails hrunning hmasks hlevel hpass hbus hup
    have hstart : t.start = x.beginCamp.start := same_of_blank (p := .start) hblank rfl
    have htrav : t.trav = x.beginCamp.trav := same_of_blank (p := .trav) hblank rfl
    have htherm : t.therm = x.beginCamp.therm := same_of_blank (p := .therm) hblank rfl
    rw [hmode, hstart, htrav, hbal, htherm, htstrs]
    refine ⟨hblock, hrails, hrunning, hmasks, hlevel, hpass, ?_, fun k => ?_⟩
    · obtain ⟨out, hout⟩ := hcans 2
      exact (congrArg Can.onBus hout).trans hbus
    · obtain ⟨counts, hcounts⟩ := heths k
      exact (congrArg Eth.up hcounts).trans (hup k)

/-! ## An entry that waited for its write-back -/

theorem learnedCopyWritten_enters {s : State} {img : Learned} {reason k : Nat} (hk : k < 3) (hw : s.store.writing = some (img, reason, k))
    (he : s.bal.entering = true) (hb : s.mode.block = .standby) (hp : s.supply.pfw = false) (hfw : s.fwActs = true) :
    ∃ t, exec .learnedCopyWritten s = .next t ∧ t.store.copies[k] = img ∧ (t.store.writing = none → t.mode.block = .baseCamp) := by
  obtain ⟨t, hexec, hcopy, -, -⟩ := learnedCopyWritten_stands hk hw
  refine ⟨t, hexec, hcopy, fun hnone => ?_⟩
  obtain rfl := Host.Outcome.next.inj ((exec_learnedCopyWritten hk hw).symm.trans hexec)
  have hframe := State.copyWritten_in (m := only [.evlog, .irq, .store]) rfl rfl rfl s img reason ⟨k, hk⟩
  generalize s.copyWritten img reason ⟨k, hk⟩ = u at *
  rw [State.campNext_store] at hnone
  rw [State.campNext_enters ((congrArg Balance.entering (same_of_blank (p := .bal) hframe rfl)).trans he) hnone
    ((congrArg Mode.block (same_of_blank (p := .mode) hframe rfl)).trans hb)
    ((congrArg Supply.pfw (same_of_blank (p := .supply) hframe rfl)).trans hp)
    ((State.fwActs_of (same_of_blank (p := .start) hframe rfl) (now_of_blank hframe) (same_of_blank (p := .cores) hframe rfl)).trans hfw)]
  exact u.enterCamp_leaves.1.1

/-! ## Out of base camp -/

/-- What a wake leaves of a block in base camp whose exit does not run. -/
def State.Waking (s t : State) (cause : Nat) : Prop :=
  t.mode.block = .baseCamp ∧ t.bal.exiting = true ∧ t.bal.wakeCause = cause ∧ t.start.gateRails = true ∧
  ∀ i : Fin 40, s.strs[i].installed = true → t.ropes[i].rollCall = 1

theorem State.wake_waking {s : State} (hb : s.mode.block = .baseCamp) (he : s.bal.exiting = false) (cause : Nat) (core : Bool)
    (gates : List (Nat × Nat)) : s.Waking (s.wake cause core gates) cause :=
  ⟨(congrArg Mode.block (s.wake_mode cause core gates)).trans hb, State.wake_begins hb he cause core gates⟩

theorem baseCampLeaveReq_wakes {s : State} {src : Src} {core : Bool} {gates : List (Nat × Nat)} (ha : s.admits src blockObj 0x0070 (u8 0))
    (hb : s.mode.block = .baseCamp) (he : s.bal.exiting = false) :
    ∃ t, exec (.baseCampLeaveReq src core gates) s = .next t ∧ s.Waking t 3 ∧ t.lastSent = some (.writeReply src blockObj 0x0070 1) := by
  obtain ⟨t, hexec, hsent, hblank⟩ := exec_plain (c := .baseCampLeaveReq src core gates) rfl ha fun _ _ => rfl
  have hwake := State.wake_waking (s := s.taken src blockObj 0x0070) (by rw [State.taken_mode]; exact hb) (by rw [State.taken_bal]; exact he) 3 core gates
  have hstrs := s.taken_strs src blockObj 0x0070
  generalize s.taken src blockObj 0x0070 = x at *
  have hmode : t.mode = (x.wake 3 core gates).mode := same_of_blank (p := .mode) hblank rfl
  have hbal : t.bal = (x.wake 3 core gates).bal := same_of_blank (p := .bal) hblank rfl
  have hstart : t.start = (x.wake 3 core gates).start := same_of_blank (p := .start) hblank rfl
  have hropes : t.ropes = (x.wake 3 core gates).ropes := same_of_blank (p := .ropes) hblank rfl
  refine ⟨t, hexec, ?_, hsent⟩
  unfold State.Waking at hwake ⊢
  rw [hmode, hbal, hstart, hropes, ← hstrs]
  exact hwake

theorem wakeToneDetected_wakes {s : State} {i : Fin 40} {e : PortEnd} {core : Bool} {gates : List (Nat × Nat)} (hi : s.strs[i].installed = true)
    (hp : (s.ropes[i].port e).failed = false) (hb : s.mode.block = .baseCamp) (he : s.bal.exiting = false) :
    ∃ t, exec (.wakeToneDetected i e core gates) s = .next t ∧ s.Waking t 1 :=
  ⟨_, congrArg Host.Outcome.next (if_pos (by rw [hi, hp]; rfl)), State.wake_waking hb he 1 core gates⟩

theorem State.closeWakeOut_wakeIn (s : State) (cause : Nat) : (s.closeWakeOut cause).supply.wakeIn = s.supply.wakeIn := by
  unfold State.closeWakeOut
  split
  · rfl
  · rw [State.event_supply]
    rfl

theorem State.wake_wakeIn (s : State) (cause : Nat) (core : Bool) (gates : List (Nat × Nat)) : (s.wake cause core gates).supply.wakeIn = s.supply.wakeIn := by
  by_cases hb : s.mode.block = .baseCamp
  · cases he : s.bal.exiting with
    | true =>
      unfold State.wake
      rw [if_pos (by rw [he, Bool.or_true])]
    | false =>
      rw [State.wake_runs hb he, State.modCorr_supply, State.modBelay_supply]
      have hnoted : (s.wakeNoted cause).supply.wakeIn = s.supply.wakeIn := by
        unfold State.wakeNoted
        rw [State.closeWakeOut_wakeIn, State.event_supply, State.modBal_supply]
        split
        · rfl
        · rw [State.irqRaise_supply]
      generalize s.wakeNoted cause = n at *
      have hframe : ((((n.spareTested core).tonesSent s.now).wakeTested gates).unseenOff).blank (except .supply) = n.blank (except .supply) :=
        (forEach_in (fun t i => State.modBStr_in rfl t i _) _ _).trans ((State.rollCallAll_in rfl _).trans ((State.selfTestAll_in rfl rfl rfl _ _).trans
          ((State.railsUp_in rfl rfl _).trans ((forEach_in (fun t i => State.modRope_in rfl t i _) _ _).trans (n.spareTested_in rfl rfl rfl core)))))
      exact (congrArg Supply.wakeIn (same_of_blank (p := .supply) hframe rfl)).trans hnoted
  · rw [State.wake_idle hb]

theorem wakeInRise_wakes (s : State) (core : Bool) (gates : List (Nat × Nat)) :
    ∃ t, exec (.wakeInRise core gates) s = .next t ∧ t.supply.wakeIn = true ∧ t.mode.block = s.mode.block ∧
    (s.mode.block = .baseCamp → s.bal.exiting = false → t.bal.exiting = true ∧ t.bal.wakeCause = 2 ∧ t.start.gateRails = true) ∧
    (s.mode.block ≠ .baseCamp → t.bal = s.bal ∧ t.ropes = s.ropes ∧ t.gates = s.gates) := by
  refine ⟨_, rfl, ?_, ?_, fun hb he => ?_, fun hb => ?_⟩
  · rw [State.wake_wakeIn]
    rfl
  · rw [State.wake_mode]
    rfl
  · obtain ⟨hexiting, hcause, hrails, -⟩ := State.wake_begins (s := s.modSupply fun p => { p with wakeIn := true }) hb he 2 core gates
    exact ⟨hexiting, hcause, hrails⟩
  · rw [State.wake_idle (s := s.modSupply fun p => { p with wakeIn := true }) hb]
    exact ⟨rfl, rfl, rfl⟩

/-- The controllers enter their modes again (20 R503). -/
def State.modesTaken (s : State) : State :=
  s.forEach (List.finRange 3) fun t k => (t.modCan k fun c => { c with modeNext := some (t.val (canObj k) 1) }).takeMode k

theorem State.modesTaken_in (s : State) : s.modesTaken.blank (only [.cans, .clock]) = s.blank (only [.cans, .clock]) :=
  forEach_in (fun t k => (State.takeMode_in rfl rfl _ k).trans (State.modCan_in rfl t k _)) s _

theorem baseCampExitComplete_ends {s : State} (hb : s.mode.block = .baseCamp) (he : s.bal.exiting = true) (hfw : s.fwActs = true)
    (hroll : s.rollCallsDone = true) (hslow : s.trav.slowDone = true) :
    ∃ t, exec .baseCampExitComplete s = .next t ∧ t.mode.block = .standby ∧ t.bal.exiting = false ∧ t.strs = s.strs := by
  have hexec : exec .baseCampExitComplete s = .next ((s.modBal fun b => { b with exiting := false }).setBlock .standby 3).modesTaken :=
    congrArg Host.Outcome.next (if_pos (by rw [hb, he, hfw, hroll, hslow]; rfl))
  have hmodes := ((s.modBal fun b => { b with exiting := false }).setBlock .standby 3).modesTaken_in
  have hset := State.setBlock_in (m := only [.mode, .evlog, .irq]) rfl rfl rfl (s.modBal fun b => { b with exiting := false }) .standby 3
  have hblock := State.setBlock_block (s.modBal fun b => { b with exiting := false }) .standby 3
  generalize (s.modBal fun b => { b with exiting := false }).setBlock .standby 3 = u at *
  have hbal : u.modesTaken.bal = { s.bal with exiting := false } :=
    (same_of_blank (p := .bal) hmodes rfl : u.modesTaken.bal = u.bal).trans (same_of_blank (p := .bal) hset rfl)
  refine ⟨_, hexec, ?_, congrArg Balance.exiting hbal, ?_⟩
  · exact (congrArg Mode.block (same_of_blank (p := .mode) hmodes rfl)).trans hblock
  · exact (same_of_blank (p := .strs) hmodes rfl : u.modesTaken.strs = u.strs).trans (same_of_blank (p := .strs) hset rfl)

/-! ## The acknowledgement of a wake -/

/-- `WAKE_OUT_CFG` as its write leaves the state. -/
def State.wakeOutSet (s : State) (v : Nat) : State :=
  let t := s.setVal blockObj 0x0076 0 (v % 8)
  if v.testBit 7 && t.bal.wakeHeld.isSome then t.modBal fun b => { b with wakeAck := true } else t

theorem wakeOutAck_sets {s : State} {src : Src} {v : Nat} (ha : s.admits src blockObj 0x0076 (u8 v)) :
    ∃ t, exec (.wakeOutAck src v) s = .next t ∧ t.val blockObj 0x0076 = v % 8 ∧
    (v.testBit 7 = true → s.bal.wakeHeld.isSome = true → t.bal.wakeAck = true) ∧ (v.testBit 7 = false → t.bal = s.bal) ∧
    t.supply.wakeOut = s.supply.wakeOut ∧ t.lastSent = some (.writeReply src blockObj 0x0076 1) := by
  obtain ⟨t, hexec, hsent, hblank⟩ := exec_plain (v := (s.taken src blockObj 0x0076).wakeOutSet v) (c := .wakeOutAck src v) rfl ha fun _ _ => rfl
  have hbal0 := s.taken_bal src blockObj 0x0076
  have hsupply0 := s.taken_supply src blockObj 0x0076
  generalize s.taken src blockObj 0x0076 = x at *
  have hvals : (x.wakeOutSet v).dict.vals = (x.setVal blockObj 0x0076 0 (v % 8)).dict.vals := by
    unfold State.wakeOutSet
    extract_lets u
    split <;> rfl
  have hsupply : (x.wakeOutSet v).supply = x.supply := by
    unfold State.wakeOutSet
    extract_lets u
    split <;> rfl
  have hbal : t.bal = (x.wakeOutSet v).bal := same_of_blank (p := .bal) hblank rfl
  refine ⟨t, hexec, ?_, fun hv hheld => ?_, fun hv => ?_, ?_, hsent⟩
  · exact (State.val_of_values ((same_of_blank (p := .values) hblank rfl : t.dict.vals = _).trans hvals) ..).trans (State.val_setVal_same ..)
  · rw [hbal, State.wakeOutSet, if_pos (by rw [hv, State.setVal_bal, hbal0, hheld]; rfl)]
    rfl
  · rw [hbal, State.wakeOutSet, if_neg (by simp [hv]), State.setVal_bal]
    exact hbal0
  · rw [(same_of_blank (p := .supply) hblank rfl : t.supply = _), hsupply, hsupply0]

/-- Settles O28: an entry powers down what R182 names, and a wake begins the exit that the first slow round ends. -/
theorem baseCampPasses : Obligations.BaseCampPasses := fun s =>
  ⟨fun _ ha hr he hfw => baseCampEnterReq_enters ha hr he hfw, fun _ _ _ hk hw he hb hp hfw => learnedCopyWritten_enters hk hw he hb hp hfw,
    fun _ _ _ ha hb he => by
      obtain ⟨t, hexec, ⟨hblock, hexiting, hcause, hrails, hroll⟩, hsent⟩ := baseCampLeaveReq_wakes ha hb he
      exact ⟨t, hexec, hblock, hexiting, hcause, hrails, hroll, hsent⟩,
    fun _ _ _ _ hi hp hb he => wakeToneDetected_wakes hi hp hb he, wakeInRise_wakes s, ⟨_, rfl, rfl, rfl, rfl⟩, baseCampExitComplete_ends,
    fun _ _ => wakeOutAck_sets⟩

end Sys2Proof.Machine

/-! Obligation O27: balancing writes, the directed hold and the open-wire tests (06 R172, R176, R179, R180). -/

namespace Sys2Proof.Machine

-- One thread per theorem would be more than the compiler's memory limit allows.
set_option Elab.async false

/-! ## Tables -/

theorem sparse_get?_del {α : Type} (t : Sparse α) (k j : Nat) :
    Sparse.get? (Sparse.del t k) j = if k = j then none else Sparse.get? t j := by
  unfold Sparse.del
  induction t with
  | nil => simp only [List.filter_nil, Sparse.get?, ite_self]
  | cons a t ih =>
    by_cases hak : a.1 = k
    · rw [List.filter_cons_of_neg (by simp [hak]), ih]
      split
      · rfl
      next hkj => rw [Sparse.get?, if_neg (by rw [hak]; exact hkj)]
    · rw [List.filter_cons_of_pos (by simp [hak]), Sparse.get?, Sparse.get?, ih]
      by_cases haj : a.1 = j
      · rw [if_pos haj, if_pos haj, if_neg (fun h => hak (haj.trans h.symm))]
      · rw [if_neg haj, if_neg haj]

/-! ## A run that stores every element of an entry -/

theorem State.val_setVal_other (s : State) (index sub v : Nat) {j k : Nat} (h : j ≠ k) :
    (s.setVal index sub j v).val index sub k = s.val index sub k := by
  have hkey : dkey index sub j ≠ dkey index sub k := by
    simp only [dkey]
    omega
  simp only [State.val, State.setVal_dict, sparse_get?_put, if_neg hkey]

/-- A run over the elements of an entry leaves each at its value. -/
theorem setVals_val (s : State) (index sub n : Nat) (f : Nat → Nat) {k : Nat} (hk : k < n) :
    (s.forEach (List.range n) fun t k => t.setVal index sub k (f k)).val index sub k = f k := by
  refine forEach_sets (P := fun t => t.val index sub k = f k) (i := k) (I := fun _ => True) (fun _ _ _ => trivial) (fun t _ => ?_)
    (fun t j hj _ h => ?_) (List.mem_range.2 hk) trivial
  · exact t.val_setVal_same ..
  · exact (t.val_setVal_other index sub (f j) hj).trans h

theorem setVals_bal (s : State) (index sub n : Nat) (f : Nat → Nat) :
    (s.forEach (List.range n) fun t k => t.setVal index sub k (f k)).bal = s.bal := by
  refine forEach_fixes (get := fun t => t.bal) (fun t k => ?_) s _
  rfl

theorem setVals_ropes (s : State) (index sub n : Nat) (f : Nat → Nat) :
    (s.forEach (List.range n) fun t k => t.setVal index sub k (f k)).ropes = s.ropes := by
  refine forEach_fixes (get := fun t => t.ropes) (fun t k => ?_) s _
  rfl

/-! ## Masks sent -/

/-- A mask sent changes of the balancing state the masks last sent alone. -/
theorem State.sendMask_bal (s : State) (i : Fin 40) (p m : Nat) : ∃ sent, (s.sendMask i p m).bal = { s.bal with sent := sent } := by
  unfold State.sendMask
  split
  · exact ⟨_, rfl⟩
  · exact ⟨_, rfl⟩

theorem State.sendMask_mode (s : State) (i j : Fin 40) (p m : Nat) : (s.sendMask i p m).ropes[j].mode = s.ropes[j].mode := by
  unfold State.sendMask
  split
  · rfl
  · refine (congrArg (fun v : Vector Rope 40 => v[j].mode) (State.modRope_ropes ..)).trans ?_
    rw [upd_get]
    split <;> rfl

/-- The mask last sent, on a rope that is not dark. -/
theorem State.sendMask_sent {s : State} {i : Fin 40} (h : s.ropes[i].mode ≠ .dark) (p m : Nat) : (s.sendMask i p m).sentMask i p = m := by
  unfold State.sendMask
  split
  next hsame =>
    simp only [h, decide_false, Bool.false_or, Bool.and_eq_true, decide_eq_true_eq] at hsame
    exact hsame.1
  next =>
    unfold State.sentMask
    rw [State.modRope_bal]
    simp only [State.modBal]
    split
    next hm => rw [sparse_getD_del_same, hm]
    next => rw [sparse_getD_put, if_pos rfl]

/-- A zero mask sent leaves every mask that is zero so. -/
theorem State.sendMask_zero {s : State} {i : Fin 40} {p : Nat} (h : s.sentMask i p = 0) (q : Nat) : (s.sendMask i q 0).sentMask i p = 0 := by
  unfold State.sendMask
  split
  · exact h
  · unfold State.sentMask at h ⊢
    rw [State.modRope_bal]
    simp only [State.modBal, if_true, Sparse.getD, sparse_get?_del]
    split
    · rfl
    · exact h

/-- Runs over the monitors of a string that send masks change of the balancing state the masks last sent alone. -/
theorem sendMasks_bal {s : State} {l : List Nat} {i : Fin 40} (m : Nat → Nat) :
    ∃ sent, (s.forEach l fun t p => t.sendMask i p (m p)).bal = { s.bal with sent := sent } :=
  forEach_keeps (P := fun t => ∃ sent, t.bal = { s.bal with sent := sent }) (fun t p ⟨sent, ht⟩ => by
    obtain ⟨sent', ht'⟩ := t.sendMask_bal i p (m p)
    exact ⟨sent', by rw [ht', ht]⟩) s l ⟨_, rfl⟩

theorem State.zeroString_bal (s : State) (i : Fin 40) : ∃ sent, (s.zeroString i).bal = { s.bal with sent := sent } :=
  sendMasks_bal fun _ => 0

theorem State.directString_bal (s : State) (i : Fin 40) : ∃ sent, (s.directString i).bal = { s.bal with sent := sent } :=
  sendMasks_bal fun p => s.masked i p (s.val (strObj i) 0x0061 (p - 1))

/-- After zero masks for a string that is not dark, the mask last sent to each of its monitors is zero. -/
theorem State.zeroString_sent {s : State} {i : Fin 40} (h : s.ropes[i].mode ≠ .dark) {p : Nat} (hp : p ∈ s.monitorsOf i) :
    (s.zeroString i).sentMask i p = 0 := by
  refine forEach_sets (P := fun t => t.sentMask i p = 0) (i := p) (I := fun t => t.ropes[i].mode ≠ .dark) (fun t q ht => ?_) (fun t ht => ?_)
    (fun t q _ _ hz => ?_) hp h
  · rw [State.sendMask_mode]
    exact ht
  · exact State.sendMask_sent ht p 0
  · exact State.sendMask_zero hz q

/-! ## Writes -/

theorem balModeWrite_waits {s : State} {src : Src} {v : Nat} (ha : s.admits src blockObj 0x0060 (u8 v)) :
    ∃ t, exec (.balModeWrite src v) s = .next t ∧ t.bal.modeNext = some v ∧ t.bal.mode = s.bal.mode ∧ t.bal.sent = s.bal.sent ∧
      t.val blockObj 0x0060 = v ∧ t.lastSent = some (.writeReply src blockObj 0x0060 1) := by
  obtain ⟨t, hexec, hsent, hblank⟩ := exec_plain (c := .balModeWrite src v) rfl ha fun _ _ => rfl
  have hbal : t.bal = { s.bal with modeNext := some v } := by
    rw [(same_of_blank (p := .bal) hblank rfl : t.bal = _), State.event_bal, State.setVal_bal, State.modBal, State.taken_bal]
  refine ⟨t, hexec, (congrArg Balance.modeNext hbal :), (congrArg Balance.mode hbal :), (congrArg Balance.sent hbal :), ?_, hsent⟩
  refine (State.val_of_values (same_of_blank (p := .values) hblank rfl) ..).trans ?_
  exact (State.val_of_values (congrArg Dict.vals (State.event_dict ..)) ..).trans (State.val_setVal_same ..)

theorem entryOf_balMask : ∀ i : Fin 40, entryOf (strObj i) 0x0061 =
    some ⟨0x2201, 40, 0x0061, 1, 2, 32, .num, false, .rw, [(0, 65535)], [0]⟩ := by decide

/-- Only in `DIRECTED` does a string balance as directed. -/
theorem State.balModeOf_directed {s : State} {i : Fin 40} (h : s.balModeOf i = 2) : s.bal.mode = 2 := by
  cases hb : s.mode.block with
  | off | baseCamp | safeHold => simp [State.balModeOf, hb] at h
  | standby | armed | run =>
    simp only [State.balModeOf, hb] at h
    split at h
    · exact h
    · cases h
  | service =>
    simp only [State.balModeOf, hb] at h
    split at h
    next hdirected =>
      simp only [Bool.and_eq_true, decide_eq_true_eq] at hdirected
      exact hdirected.1
    · cases h

/-- The masks asked for, stored, with the instant they were written. -/
def State.maskStored (s : State) (i : Fin 40) (data : List Byte) : State :=
  (s.forEach (List.range 32) fun t k => t.setVal (strObj i) 0x0061 k (ofBytes ((data.drop (k * 2)).take 2))).modBal fun b =>
    { b with wroteAt := Sparse.put b.wroteAt i.val s.now }

theorem State.maskStored_bal (s : State) (i : Fin 40) (data : List Byte) :
    (s.maskStored i data).bal = { s.bal with wroteAt := Sparse.put s.bal.wroteAt i.val s.now } :=
  congrArg (fun b : Balance => { b with wroteAt := Sparse.put b.wroteAt i.val s.now }) (setVals_bal ..)

theorem State.maskStored_val (s : State) (i : Fin 40) (data : List Byte) (k : Fin 32) :
    (s.maskStored i data).val (strObj i) 0x0061 k.val = ofBytes ((data.drop (k.val * 2)).take 2) := by
  rw [State.maskStored, State.val_of_values (congrArg Dict.vals (State.modBal_dict ..))]
  exact setVals_val s _ _ 32 (fun k => ofBytes ((data.drop (k * 2)).take 2)) k.isLt

/-- The masks asked for, sent where the string takes them. -/
def State.maskAsked (s : State) (i : Fin 40) (data : List Byte) : State :=
  let t := s.maskStored i data
  if t.balAdmits i && !t.ropes[i].withheld && t.balModeOf i = 2 then t.directString i else t

theorem State.maskAsked_leaves (s : State) (i : Fin 40) (data : List Byte) :
    (s.maskAsked i data).dict.vals = (s.maskStored i data).dict.vals ∧
    (∃ sent, (s.maskAsked i data).bal = { (s.maskStored i data).bal with sent := sent }) ∧
    (s.bal.mode ≠ 2 → (s.maskAsked i data).bal = (s.maskStored i data).bal) := by
  have hmode : (s.maskStored i data).bal.mode = s.bal.mode := (congrArg Balance.mode (s.maskStored_bal i data) :)
  unfold State.maskAsked
  generalize s.maskStored i data = t at hmode ⊢
  dsimp only
  split
  next hdirected =>
    simp only [Bool.and_eq_true, decide_eq_true_eq] at hdirected
    refine ⟨same_of_blank (p := .values) (State.directString_in (m := only [.bal, .ropes]) rfl rfl t i) rfl, t.directString_bal i, fun hnot => ?_⟩
    exact absurd (hmode.symm.trans (State.balModeOf_directed hdirected.2)) hnot
  next => exact ⟨rfl, ⟨_, rfl⟩, fun _ => rfl⟩

theorem balMaskReqWrite_stores {s : State} {src : Src} {i : Fin 40} {data : List Byte} (ha : s.admits src (strObj i) 0x0061 data) :
    ∃ t, exec (.balMaskReqWrite src i data) s = .next t ∧
    (∀ k : Fin 32, t.val (strObj i) 0x0061 k.val = ofBytes ((data.drop (k.val * 2)).take 2)) ∧
    Sparse.get? t.bal.wroteAt i.val = some s.now ∧ (s.bal.mode ≠ 2 → t.bal.sent = s.bal.sent) ∧
    t.lastSent = some (.writeReply src (strObj i) 0x0061 data.length) := by
  have happly : ∀ r, entryOf (strObj i) 0x0061 = some r →
      (s.taken src (strObj i) 0x0061).applyBalMask i r data = .ok ((s.taken src (strObj i) 0x0061).maskAsked i data) := fun r hr => by
    obtain rfl := Option.some.inj ((entryOf_balMask i).symm.trans hr)
    rfl
  obtain ⟨t, hexec, hsent, hblank⟩ := exec_plain (c := .balMaskReqWrite src i data) rfl ha happly
  have hnow := s.taken_now src (strObj i) 0x0061
  have hbal0 := s.taken_bal src (strObj i) 0x0061
  generalize s.taken src (strObj i) 0x0061 = x at *
  obtain ⟨hvals, ⟨sent, hbal⟩, hidle⟩ := x.maskAsked_leaves i data
  have hstored := x.maskStored_bal i data
  have htbal : t.bal = (x.maskAsked i data).bal := same_of_blank (p := .bal) hblank rfl
  refine ⟨t, hexec, fun k => ?_, ?_, fun hmode => ?_, hsent⟩
  · refine (State.val_of_values ((same_of_blank (p := .values) hblank rfl : t.dict.vals = _).trans hvals) ..).trans ?_
    exact x.maskStored_val i data k
  · rw [htbal, hbal, hstored, ← hnow]
    exact (sparse_get?_put ..).trans (if_pos rfl)
  · rw [htbal, hidle (by rw [hbal0]; exact hmode), hstored, hbal0]

/-! ## The hold of `DIRECTED` -/

/-- The masks asked for withdrawn (06 R176). -/
def State.maskDropped (s : State) (i : Fin 40) : State :=
  (s.modBal fun b => { b with wroteAt := Sparse.del b.wroteAt i.val }).forEach (List.range 32) fun t k => t.setVal (strObj i) 0x0061 k 0

theorem exec_balDirectHoldExpiry {s : State} {i : Fin 40} {t0 : Nat} (hfw : s.fwActs = true) (hmode : s.bal.mode = 2)
    (hwrote : Sparse.get? s.bal.wroteAt i.val = some t0) (hdue : t0 + sec (s.val blockObj 0x0065) ≤ s.now) :
    exec (.balDirectHoldExpiry i) s = .next (((s.maskDropped i).zeroString i).portEvent i .a 0x101B 0) := by
  change execBalDirectHoldExpiry i s = _
  unfold execBalDirectHoldExpiry
  rw [hwrote]
  exact congrArg Host.Outcome.next (if_pos (by rw [hfw, hmode, decide_eq_true hdue]; rfl))

theorem balDirectHoldExpiry_drops {s : State} {i : Fin 40} {t0 : Nat} (hfw : s.fwActs = true) (hmode : s.bal.mode = 2)
    (hwrote : Sparse.get? s.bal.wroteAt i.val = some t0) (hdue : t0 + sec (s.val blockObj 0x0065) ≤ s.now) :
    ∃ t, exec (.balDirectHoldExpiry i) s = .next t ∧ Sparse.get? t.bal.wroteAt i.val = none ∧
    (∀ k : Fin 32, t.val (strObj i) 0x0061 k.val = 0) ∧ (s.ropes[i].mode ≠ .dark → ∀ p ∈ s.monitorsOf i, t.sentMask i p = 0) := by
  refine ⟨_, exec_balDirectHoldExpiry hfw hmode hwrote hdue, ?_⟩
  have hbal : (s.maskDropped i).bal = { s.bal with wroteAt := Sparse.del s.bal.wroteAt i.val } :=
    setVals_bal _ _ _ 32 fun _ => 0
  have hropes : (s.maskDropped i).ropes = s.ropes := setVals_ropes _ _ _ 32 fun _ => 0
  have hval : ∀ k : Fin 32, (s.maskDropped i).val (strObj i) 0x0061 k.val = 0 := fun k => setVals_val _ _ _ 32 (fun _ => 0) k.isLt
  generalize s.maskDropped i = u at *
  have hevent := State.portEvent_in (m := only [.evlog, .irq]) rfl rfl (u.zeroString i) i .a 0x101B 0
  have hzero := State.zeroString_in (m := only [.bal, .ropes]) rfl rfl u i
  obtain ⟨sent, hsent⟩ := u.zeroString_bal i
  have hebal : ((u.zeroString i).portEvent i .a 0x101B 0).bal = (u.zeroString i).bal := same_of_blank (p := .bal) hevent rfl
  refine ⟨?_, fun k => ?_, fun hdark p hp => ?_⟩
  · rw [hebal, hsent, hbal]
    exact (sparse_get?_del ..).trans (if_pos rfl)
  · exact (State.val_of_values ((same_of_blank (p := .values) hevent rfl : _ = (u.zeroString i).dict.vals).trans
      (same_of_blank (p := .values) hzero rfl)) ..).trans (hval k)
  · have hsame : ((u.zeroString i).portEvent i .a 0x101B 0).sentMask i p = (u.zeroString i).sentMask i p := by
      simp only [State.sentMask, hebal]
    rw [hsame]
    exact State.zeroString_sent (by rw [hropes]; exact hdark) (by simpa only [State.monitorsOf, hropes] using hp)

/-! ## Open-wire tests -/

/-- What noting the channels that wait leaves of the balancing state. -/
def State.OwNoted (s t : State) : Prop :=
  t.now = s.now ∧ t.bal.owAt = s.bal.owAt ∧ t.bal.sent = s.bal.sent ∧ t.bal.owMap = s.bal.owMap ∧
  ∀ x, (Sparse.get? t.bal.deferred x).isSome = true →
    Sparse.get? t.bal.deferred x = Sparse.get? s.bal.deferred x ∨ Sparse.get? t.bal.deferred x = some s.now

theorem State.OwNoted.refl (s : State) : s.OwNoted s := ⟨rfl, rfl, rfl, rfl, fun _ _ => .inl rfl⟩

theorem State.OwNoted.trans {s t u : State} (h : s.OwNoted t) (g : t.OwNoted u) : s.OwNoted u := by
  obtain ⟨hnow, hat, hsent, hmap, hdeferred⟩ := h
  obtain ⟨gnow, gat, gsent, gmap, gdeferred⟩ := g
  refine ⟨gnow.trans hnow, gat.trans hat, gsent.trans hsent, gmap.trans hmap, fun x hx => ?_⟩
  rcases gdeferred x hx with hold | hnew
  · rw [hold] at hx ⊢
    exact hdeferred x hx
  · exact .inr (hnew.trans (congrArg some hnow))

theorem State.OwNoted.forEach {α : Type} {f : State → α → State} (h : ∀ t a, State.OwNoted t (f t a)) (s : State) (l : List α) :
    s.OwNoted (s.forEach l f) :=
  forEach_keeps (P := fun t => s.OwNoted t) (fun t a ht => ht.trans (h t a)) s l (.refl s)

theorem State.noteDeferred_notes (s : State) (i : Fin 40) (p : Nat) : s.OwNoted (s.noteDeferred i p) := by
  unfold State.noteDeferred
  extract_lets due
  refine forEach_keeps (P := fun t => s.OwNoted t) (fun t j ht => ht.trans ?_) s _ (.refl s)
  have hnow : t.now = s.now := ht.1
  extract_lets key
  split
  · split
    · exact .refl t
    · refine ⟨rfl, rfl, rfl, rfl, fun x _ => ?_⟩
      have hput : Sparse.get? (Sparse.put t.bal.deferred key s.now) x = if key = x then some s.now else Sparse.get? t.bal.deferred x :=
        sparse_get?_put ..
      by_cases hx : key = x
      · exact .inr (hput.trans ((if_pos hx).trans (congrArg some hnow.symm)))
      · exact .inl (hput.trans (if_neg hx))
  · refine ⟨rfl, rfl, rfl, rfl, fun x hx => .inl ?_⟩
    have hdel : Sparse.get? (Sparse.del t.bal.deferred key) x = if key = x then none else Sparse.get? t.bal.deferred x := sparse_get?_del ..
    refine hdel.trans (if_neg fun hkx => ?_)
    have hnone : Sparse.get? (Sparse.del t.bal.deferred key) x = none := hdel.trans (if_pos hkx)
    exact absurd (hnone ▸ hx : (none : Option Nat).isSome = true) Bool.false_ne_true

theorem openWireTestDue_notes {s : State} (hfw : s.fwActs = true) (hrun : s.trav.running = true)
    (hdue : s.bal.owAt + sec (s.val blockObj 0x0066) ≤ s.now) :
    ∃ t, exec .openWireTestDue s = .next t ∧ t.bal.owAt = s.now ∧ t.bal.sent = s.bal.sent ∧ t.bal.owMap = s.bal.owMap ∧
    ∀ x, (Sparse.get? t.bal.deferred x).isSome = true →
      Sparse.get? t.bal.deferred x = Sparse.get? s.bal.deferred x ∨ Sparse.get? t.bal.deferred x = some s.now := by
  refine ⟨_, congrArg Host.Outcome.next (if_pos (by rw [hfw, hrun, decide_eq_true hdue]; rfl)), ?_⟩
  have hnoted : State.OwNoted (s.modBal fun b => { b with owAt := s.now })
      ((s.modBal fun b => { b with owAt := s.now }).forEach (allStr.filter fun i => s.strs[i].installed) fun t i =>
        t.forEach ((t.monitorsOf i).filter fun p => (t.ropes[i].serverOf p).isSome) fun t p =>
          (t.modBal fun b => { b with owDue := Sparse.put b.owDue (nodeKey i p) 0xFFFF }).noteDeferred i p) := by
    refine .forEach (fun t i => .forEach (fun t p => ?_) t _) _ _
    have hdue : State.OwNoted t (t.modBal fun b => { b with owDue := Sparse.put b.owDue (nodeKey i p) 0xFFFF }) := .refl t
    exact hdue.trans (State.noteDeferred_notes _ i p)
  obtain ⟨-, hat, hsent, hmap, hdeferred⟩ := hnoted
  exact ⟨hat, hsent, hmap, hdeferred⟩

/-- A test that was deferred for its time is due, with the mask bits `up` held back for it (06 R180). -/
def State.deferEnded (s : State) (i : Fin 40) (p j up : Nat) : State :=
  s.modBal fun b => { b with
    deferred := Sparse.del b.deferred (nodeKey i p * 16 + j),
    owHeld := Sparse.put b.owHeld (nodeKey i p) (Sparse.getD b.owHeld (nodeKey i p) 0 ||| (s.sentMask i p &&& up)),
    owDue := Sparse.put b.owDue (nodeKey i p) (Sparse.getD b.owDue (nodeKey i p) 0 ||| 2 ^ j) }

/-- The mask bits the test clears (06 R180). -/
def State.deferBits (s : State) (i : Fin 40) (p j : Nat) : Nat := pairsAbove (s.sentMask i p ||| s.activeMask i p) j

/-- The mask sent for the test. -/
def State.deferSent (s : State) (i : Fin 40) (p j : Nat) : State :=
  (s.deferEnded i p j (s.deferBits i p j)).sendMask i p (clearBits (s.sentMask i p) (s.deferBits i p j))

theorem exec_owDeferExpiry {s : State} {i : Fin 40} {p : Fin 33} {j : Fin 16} {t0 : Nat} (hfw : s.fwActs = true)
    (hdeferred : Sparse.get? s.bal.deferred (nodeKey i p.val * 16 + j.val) = some t0) (hdue : t0 + sec (s.val blockObj 0x0067) ≤ s.now) :
    exec (.owDeferExpiry i p j) s = .next ((s.deferSent i p.val j.val).portEvent i
      (((s.deferSent i p.val j.val).ropes[i].serverOf p.val).getD .a) 0x101A p.val (u8 (j.val + 1))) := by
  change execOwDeferExpiry i p j s = _
  unfold execOwDeferExpiry
  dsimp only
  rw [hdeferred]
  exact congrArg Host.Outcome.next (if_pos (by rw [hfw, decide_eq_true hdue]; rfl))

theorem owDeferExpiry_ends {s : State} {i : Fin 40} {p : Fin 33} {j : Fin 16} {t0 : Nat} (hfw : s.fwActs = true)
    (hdeferred : Sparse.get? s.bal.deferred (nodeKey i p.val * 16 + j.val) = some t0) (hdue : t0 + sec (s.val blockObj 0x0067) ≤ s.now) :
    ∃ t, exec (.owDeferExpiry i p j) s = .next t ∧ Sparse.get? t.bal.deferred (nodeKey i p.val * 16 + j.val) = none ∧
    (Sparse.getD t.bal.owDue (nodeKey i p.val) 0).testBit j.val = true ∧
    (s.ropes[i].mode ≠ .dark →
      t.sentMask i p.val = clearBits (s.sentMask i p.val) (pairsAbove (s.sentMask i p.val ||| s.activeMask i p.val) j.val)) := by
  refine ⟨_, exec_owDeferExpiry hfw hdeferred hdue, ?_⟩
  change _ ∧ _ ∧ (_ → _ = clearBits (s.sentMask i p.val) (s.deferBits i p.val j.val))
  unfold State.deferSent
  generalize s.deferBits i p.val j.val = up
  have hropes : (s.deferEnded i p.val j.val up).ropes = s.ropes := rfl
  have hgone : Sparse.get? (s.deferEnded i p.val j.val up).bal.deferred (nodeKey i p.val * 16 + j.val) = none :=
    (sparse_get?_del ..).trans (if_pos rfl)
  have hdue : (Sparse.getD (s.deferEnded i p.val j.val up).bal.owDue (nodeKey i p.val) 0).testBit j.val = true := by
    have hput : Sparse.getD (s.deferEnded i p.val j.val up).bal.owDue (nodeKey i p.val) 0 = Sparse.getD s.bal.owDue (nodeKey i p.val) 0 ||| 2 ^ j.val :=
      (sparse_getD_put ..).trans (if_pos rfl)
    rw [hput]
    exact testBit_or_pow ..
  generalize s.deferEnded i p.val j.val up = u at *
  generalize clearBits (s.sentMask i p.val) up = m at *
  obtain ⟨sent, hbal⟩ := u.sendMask_bal i p.val m
  have hsentMask := fun hdark => State.sendMask_sent (s := u) (i := i) hdark p.val m
  generalize u.sendMask i p.val m = v at *
  have hevent (e : PortEnd) (data : List Byte) : (v.portEvent i e 0x101A p.val data).bal = v.bal :=
    same_of_blank (p := .bal) (State.portEvent_in (m := only [.evlog, .irq]) rfl rfl v i e 0x101A p.val data) rfl
  refine ⟨?_, ?_, fun hdark => ?_⟩
  · rw [hevent, hbal]
    exact hgone
  · rw [hevent, hbal]
    exact hdue
  · simp only [State.sentMask, hevent]
    exact hsentMask (by rw [hropes]; exact hdark)

/-! ## The obligation -/

theorem baseCampEnterReq_permits {s : State} {src : Src} (ha : s.admits src blockObj 0x0070 (u8 1)) (hr : s.campRefusal = none)
    (he : s.bal.entering = false) : ∃ t, exec (.baseCampEnterReq src) s = .next t ∧ ∀ i : Fin 40, t.ropes[i].permit = false := by
  have happly : (s.taken src blockObj 0x0070).applyCampEnter = .ok (s.taken src blockObj 0x0070).beginCamp :=
    State.applyCampEnter_begins ((s.campRefusal_taken ..).trans hr) (by rw [State.taken_bal]; exact he)
  obtain ⟨t, hexec, -, hblank⟩ := exec_plain (c := .baseCampEnterReq src) rfl ha fun _ _ => happly
  have hropes : t.ropes = (s.taken src blockObj 0x0070).beginCamp.ropes := same_of_blank (p := .ropes) hblank rfl
  exact ⟨t, hexec, fun i => (congrArg (fun v : Vector Rope 40 => v[i].permit) hropes).trans (State.beginCamp_permit _ i)⟩

/-- Settles O27: a mask sent changes nothing but what was last sent, and a test noted nothing but what is deferred. -/
theorem balancing : Obligations.Balancing := by
  intro s
  refine ⟨fun _ _ => balModeWrite_waits, fun _ _ _ => balMaskReqWrite_stores, fun _ _ => balDirectHoldExpiry_drops, openWireTestDue_notes,
    fun i p j t0 key m hkey hm hfw hdeferred hdue => ?_, fun _ ha hr he => baseCampEnterReq_permits ha hr he, fun _ core gates ha hb he => ?_,
    fun _ _ _ _ hi hp hb he => ?_, fun core gates => ?_, rfl, fun hb he hfw hroll hslow => ?_, fun _ _ ha => ?_⟩
  · subst hkey hm
    exact owDeferExpiry_ends hfw hdeferred hdue
  · obtain ⟨t, hexec, ⟨-, hexiting, hcause, -⟩, -⟩ := baseCampLeaveReq_wakes (core := core) (gates := gates) ha hb he
    exact ⟨t, hexec, hexiting, hcause⟩
  · obtain ⟨t, hexec, -, hexiting, hcause, -⟩ := wakeToneDetected_wakes hi hp hb he
    exact ⟨t, hexec, hexiting, hcause⟩
  · obtain ⟨t, hexec, hin, -⟩ := wakeInRise_wakes s core gates
    exact ⟨t, hexec, hin⟩
  · obtain ⟨t, hexec, hblock, hexiting, -⟩ := baseCampExitComplete_ends hb he hfw hroll hslow
    exact ⟨t, hexec, hblock, hexiting⟩
  · obtain ⟨t, hexec, hval, -⟩ := wakeOutAck_sets ha
    exact ⟨t, hexec, hval⟩

end Sys2Proof.Machine
